-- ==== Sys2Proof/Word.lean ====
section
/-! DEFINITION. Sys2Proof/Word.lean: the words the manual treats as bits (spec/00_scope.md, Conventions). -/

namespace Sys2Proof

/-- A byte of memory. -/
abbrev Byte := BitVec 8
/-- A register: 32 bits wide (00_scope.md, Conventions). -/
abbrev Word := BitVec 32
/-- A bead: 128 bits, 16 bytes (00_scope.md, Conventions). -/
abbrev Bead := BitVec 128

/-- A machine word of a natural number, modulo 2^32. -/
abbrev word (n : Nat) : Word := BitVec.ofNat 32 n
/-- A machine word of an integer, modulo 2^32. -/
abbrev wordI (n : Int) : Word := BitVec.ofInt 32 n

end Sys2Proof
end

