-- ==== Sys2Proof/Syntax.lean ====
section
/-! DEFINITION. Sys2Proof/Syntax.lean: the commands of the block, one constructor per row of spec/opcode_table.json, and
what they carry: register writes and reads, Coxis instructions, frames and messages from outside, measured quantities and
events. -/

namespace Sys2Proof

/-- Who issues a register access: the host through Tarbylink, or logical Rod `n` by OUT or IN (R14, R533). -/
inductive Writer where
  | host
  | rod (n : Fin 16)
  deriving DecidableEq, Repr

/-- The fields of a register-form Coxis word beside CLASS and FN (R90). -/
structure RegForm where
  d   : BitVec 5
  a   : BitVec 5
  b   : BitVec 5
  aux : BitVec 6
  deriving DecidableEq, Repr

/-- The fields of a branch word: D is the condition, the function field the offset (R106). -/
structure BrForm where
  a   : BitVec 5
  b   : BitVec 5
  off : BitVec 13
  deriving DecidableEq, Repr

/-- The fields of an immediate-form word (R90). -/
structure ImmForm where
  d   : BitVec 5
  a   : BitVec 5
  imm : BitVec 18
  deriving DecidableEq, Repr

/-- The fields of a load or store word, SZ apart (R110). -/
structure MemForm where
  d   : BitVec 5
  a   : BitVec 5
  off : BitVec 16
  deriving DecidableEq, Repr

/-- The fields of an IN or OUT word, the direction apart (R112). -/
structure IoForm where
  d   : BitVec 5
  a   : BitVec 5
  off : BitVec 17
  deriving DecidableEq, Repr

/-- The fields of a WAIT word: FN is a field that must be zero (R117). -/
structure WaitForm where
  d   : BitVec 5
  a   : BitVec 5
  b   : BitVec 5
  fn  : BitVec 7
  aux : BitVec 6
  deriving DecidableEq, Repr

/-- What the converter delivers at a conversion instant, of the interval since the previous one: the modulator's samples,
oldest first, as runs of equal samples with their numbers; the mean voltages of the contacts INP and INN against module
ground in µV, none where nothing is connected; the measured excitation current in nA, and in mode 4 the drop on the lead
of the third wire in 10 nV; whether the excitation left regulation; and the samples of a spare's modulator in parallel. -/
structure PfeSample where
  mods   : List (BitVec 24 × Nat)
  inp    : Option (BitVec 32)
  inn    : Option (BitVec 32)
  iMeas  : BitVec 32
  lead   : BitVec 32
  excBad : Bool
  spare  : List (BitVec 24 × Nat)
  deriving DecidableEq, Repr

/-- One demodulation frame: I and Q of each tone in nA, V_CM in mV, the inner-to-outer shield capacitance of the longer
cable in fF (R134), and, while the spare path runs in parallel, its own I and Q of each tone. -/
structure DfeFrame where
  iq    : List (BitVec 32 × BitVec 32)
  vcm   : BitVec 16
  cg    : BitVec 32
  spare : List (BitVec 32 × BitVec 32)
  deriving DecidableEq, Repr

/-- What the motor unit measures at a period centre (R346 to R357): the observer's estimates of the rotor's speed in
0.1 rpm, positive where it turns the field U, V, W, and of its angle in 1/65,536 of an electrical revolution, whether it
tracks the rotor, and by how much its current prediction is off in mA; the currents of phases U, V and W, of axes 0 to 3 in
mA as their shunts give them, of axes 4 to 7 the ones among the 2²¹ parts of the control filter's window (R351); the rms
currents of the three phases in mA over the last period; the tachometer pulses since the last centre, and how many ns before
this centre the last of them came; and the three Hall inputs. -/
structure MtrSample where
  est     : BitVec 32
  angle   : BitVec 16
  tracked : Bool
  pred    : BitVec 32
  iu      : BitVec 32
  iv      : BitVec 32
  iw      : BitVec 32
  ru      : BitVec 32
  rv      : BitVec 32
  rw      : BitVec 32
  pulses  : BitVec 16
  ago     : BitVec 32
  hall    : BitVec 3
  deriving DecidableEq, Repr

/-- What the sensor on the power switches of a bridge gives: its axis, and its temperature in 0.1 °C, signed (R368). -/
structure BridgeTemp where
  axis : Fin 8
  temp : BitVec 32
  deriving DecidableEq, Repr

/-- A CAN frame as a channel's receiver sees it (R388, R399): `id` as header bits 28:0, a base identifier in bits 28:18;
`ago` is how many ns before this step the sample point of its start-of-frame bit lay. -/
structure CanFrame where
  ide  : Bool
  rtr  : Bool
  fdf  : Bool
  brs  : Bool
  esi  : Bool
  id   : BitVec 29
  dlc  : BitVec 4
  data : List (BitVec 8)
  ago  : Nat
  deriving DecidableEq, Repr

/-- What a channel's error is to the error counters of ISO 11898-1 (R414): an error a receiver detects, a dominant bit
that a receiver sees right after its error flag, an error for which a transmitter sends an error flag, one for which the
standard counts nothing, and a bit error within an error or overload flag, of a transmitter or a receiver. -/
inductive CanError where
  | receiver | receiverAfterFlag | transmitter | uncounted | flagTransmitter | flagReceiver
  deriving DecidableEq, Repr

/-- Why the health monitor marks a physical Rod (R520): the single-bit errors of its register file, scratch or cache
within 1 s, three measurements of FRM_PACE in a row, or how long a handshake took, in ns. -/
inductive RodSign where
  | errors (n : BitVec 16)
  | pace (a b c : BitVec 16)
  | handshake (ns : BitVec 32)
  deriving DecidableEq, Repr

/-- The logical Rod whose physical Rod the health monitor marks, and why (R520). -/
structure RodMark where
  rod  : Fin 16
  sign : RodSign
  deriving DecidableEq, Repr

/-- The network ports (R469). -/
inductive NetPort where
  | host | l0 | l1
  deriving DecidableEq, Repr

/-- Where a network frame comes from: MAC address, VLAN tag, IP address (IPv4 in bits 31:0) and UDP port. -/
structure NetSrc where
  mac  : BitVec 48
  vlan : Option (BitVec 12)
  v6   : Bool
  ip   : BitVec 128
  udp  : BitVec 16
  deriving DecidableEq, Repr

/-- A Tarbylink frame as it arrives, TYPE apart (R472): its port, its source, the header fields, the payload and the
tag. -/
structure TlFrame where
  port    : NetPort
  src     : NetSrc
  magic   : BitVec 16
  version : BitVec 8
  len     : BitVec 16
  keysel  : BitVec 8
  zero1   : BitVec 8
  replay  : BitVec 64
  seq     : BitVec 16
  credit  : BitVec 16
  zero2   : BitVec 32
  tstamp  : BitVec 64
  payload : List (BitVec 8)
  tag     : List (BitVec 8)
  deriving DecidableEq, Repr

/-- An IEEE 1588 message as it arrives on the host port (R434, R435): transport as TIM_PTP codes it, domain, source port
identity, sequence number, correction field (signed, ns times 2^16), the time it carries, its log2 interval, and how many
ns before this step its frame started at the port. -/
structure PtpMsg where
  transport : BitVec 2
  domain    : BitVec 8
  src       : BitVec 80
  seq       : BitVec 16
  corr      : BitVec 64
  sec       : BitVec 48
  nsec      : BitVec 32
  interval  : BitVec 8
  ago       : Nat
  deriving DecidableEq, Repr

/-- What an Announce message says of its grandmaster (R434): priority1, clock class, accuracy, variance, priority2,
identity and steps removed. -/
structure PtpData where
  prio1    : BitVec 8
  class_   : BitVec 8
  accuracy : BitVec 8
  variance : BitVec 16
  prio2    : BitVec 8
  gm       : BitVec 64
  steps    : BitVec 16
  deriving DecidableEq, Repr

/-- What the health monitor's sensors read (R526): 12 temperatures in 0.1 °C, humidity in 0.1 %, VLOG and the core supply
in mV. -/
structure Sensors where
  temp  : List (BitVec 16)
  humid : BitVec 16
  vlog  : BitVec 16
  vcore : BitVec 16
  deriving DecidableEq, Repr

/-- The outputs that fail the tests of R312, R336 and R369 as PD7 comes on. -/
structure OutputTest where
  sol : List (Fin 24)
  lsw : List (Fin 32)
  mtr : List (Fin 4)
  deriving DecidableEq, Repr

/-- The input contacts (R542, R549, R551, R558). -/
inductive Pin where
  | input (n : Fin 16)
  | stopA | stopB | commission | wakeN | resetN
  deriving DecidableEq, Repr

/-- What a contact does: it takes a level, or the filter of an input has seen its new level for FILT × 10 µs (R558). -/
inductive DioEdge where
  | contact (p : Pin) (high : Bool)
  | filtered (n : Fin 16)
  deriving DecidableEq, Repr

/-- An upset of a bead during a scrubber pass (R48, R49, R519): one bit or two, and whether it struck after the pass had
read the bead. Beads 0 to 524,287 are those of Frame SRAM, the next 16,384 those of the scratch memories of logical Rods 0
to 15, and the last 130,816 those of the working copy. -/
structure Upset where
  bead   : Fin 671488
  double : Bool
  late   : Bool
  deriving DecidableEq, Repr

/-- The commands of the block, one per row of spec/opcode_table.json, each with the rule that describes it. -/
inductive Instr where
  /-- A write to a register that has no row of its own, applied field by field under each field's access code. (R572) -/
  | registerWrite (who : Writer) (a v : BitVec 32)
  /-- Adds two registers modulo 2^32 and sets OVF on signed overflow. (R100) -/
  | add (r : Fin 16) (f : RegForm)
  /-- Subtracts two registers modulo 2^32 and sets OVF on signed overflow. (R100) -/
  | sub (r : Fin 16) (f : RegForm)
  /-- Bitwise AND of two registers. (R100) -/
  | and (r : Fin 16) (f : RegForm)
  /-- Bitwise OR of two registers. (R100) -/
  | or (r : Fin 16) (f : RegForm)
  /-- Bitwise XOR of two registers. (R100) -/
  | xor (r : Fin 16) (f : RegForm)
  /-- AND of ga with the complement of gb. (R100) -/
  | andn (r : Fin 16) (f : RegForm)
  /-- Shifts left by gb[4:0]. (R100) -/
  | sll (r : Fin 16) (f : RegForm)
  /-- Logical right shift by gb[4:0]. (R100) -/
  | srl (r : Fin 16) (f : RegForm)
  /-- Arithmetic right shift by gb[4:0]. (R100) -/
  | sra (r : Fin 16) (f : RegForm)
  /-- Shifts left by the AUX count. (R100) -/
  | slli (r : Fin 16) (f : RegForm)
  /-- Logical right shift by the AUX count. (R100) -/
  | srli (r : Fin 16) (f : RegForm)
  /-- Arithmetic right shift by the AUX count. (R100) -/
  | srai (r : Fin 16) (f : RegForm)
  /-- Sets 1 if ga is less than gb, signed. (R100) -/
  | slt (r : Fin 16) (f : RegForm)
  /-- Sets 1 if ga is less than gb, unsigned. (R100) -/
  | sltu (r : Fin 16) (f : RegForm)
  /-- Signed minimum of two registers. (R100) -/
  | min (r : Fin 16) (f : RegForm)
  /-- Signed maximum of two registers. (R100) -/
  | max (r : Fin 16) (f : RegForm)
  /-- Unsigned minimum of two registers. (R100) -/
  | minu (r : Fin 16) (f : RegForm)
  /-- Unsigned maximum of two registers. (R100) -/
  | maxu (r : Fin 16) (f : RegForm)
  /-- Sign-extends the low 8 bits. (R100) -/
  | sext8 (r : Fin 16) (f : RegForm)
  /-- Sign-extends the low 16 bits. (R100) -/
  | sext16 (r : Fin 16) (f : RegForm)
  /-- Low 32 bits of the product, with OVF if the signed product exceeds 32 bits. (R100) -/
  | mul (r : Fin 16) (f : RegForm)
  /-- High 32 bits of the signed 64-bit product. (R100) -/
  | mulh (r : Fin 16) (f : RegForm)
  /-- High 32 bits of the unsigned 64-bit product. (R100) -/
  | mulhu (r : Fin 16) (f : RegForm)
  /-- Signed quotient, with the defined results and OVF for division by zero and overflow. (R101) -/
  | div (r : Fin 16) (f : RegForm)
  /-- Unsigned quotient, giving 0xFFFF_FFFF on division by zero. (R101) -/
  | divu (r : Fin 16) (f : RegForm)
  /-- Signed remainder, with the defined results and OVF for division by zero and overflow. (R101) -/
  | rem (r : Fin 16) (f : RegForm)
  /-- Unsigned remainder, giving the dividend on division by zero. (R101) -/
  | remu (r : Fin 16) (f : RegForm)
  /-- Copies one lane of a wide register to a general register. (R100) -/
  | wGet (r : Fin 16) (f : RegForm)
  /-- Writes a general register into one lane of a wide register. (R100) -/
  | wPut (r : Fin 16) (f : RegForm)
  /-- Copies a wide register. (R100) -/
  | wMov (r : Fin 16) (f : RegForm)
  /-- Clears a wide register. (R100) -/
  | wZero (r : Fin 16) (f : RegForm)
  /-- Adds a sign-extended 18-bit immediate, with OVF on signed overflow. (R102) -/
  | addi (r : Fin 16) (f : ImmForm)
  /-- Places the immediate in the high 18 bits and keeps the low 14 bits of ga. (R102) -/
  | lui (r : Fin 16) (f : ImmForm)
  /-- Shifted, saturated fixed-point product, setting SAT if limited. (R103) -/
  | mulq (r : Fin 16) (f : RegForm)
  /-- Rounded, shifted, saturated fixed-point product. (R103) -/
  | mulqR (r : Fin 16) (f : RegForm)
  /-- Adds a shifted product to a 72-bit accumulator in a wide register. (R104) -/
  | macq (r : Fin 16) (f : RegForm)
  /-- Limits ga between a register pair of bounds. (R105) -/
  | clamp (r : Fin 16) (f : RegForm)
  /-- Limits ga to a signed width. (R103) -/
  | clampN (r : Fin 16) (f : RegForm)
  /-- Reads a shifted, saturated accumulator back into a general register. (R103) -/
  | clampA (r : Fin 16) (f : RegForm)
  /-- Branches if ga equals gb. (R106) -/
  | beq (r : Fin 16) (f : BrForm)
  /-- Branches if ga differs from gb. (R106) -/
  | bne (r : Fin 16) (f : BrForm)
  /-- Branches if ga is less than gb, signed. (R106) -/
  | blt (r : Fin 16) (f : BrForm)
  /-- Branches if ga is greater than or equal to gb, signed. (R106) -/
  | bge (r : Fin 16) (f : BrForm)
  /-- Branches if ga is less than gb, unsigned. (R106) -/
  | bltu (r : Fin 16) (f : BrForm)
  /-- Branches if ga is greater than or equal to gb, unsigned. (R106) -/
  | bgeu (r : Fin 16) (f : BrForm)
  /-- Branches if ga AND gb is non-zero. (R106) -/
  | bany (r : Fin 16) (f : BrForm)
  /-- Branches if ga AND gb is zero. (R106) -/
  | bnone (r : Fin 16) (f : BrForm)
  /-- Jumps relative to pc or to a register base. (R107) -/
  | jmp (r : Fin 16) (f : ImmForm)
  /-- Jumps and writes the return address to g31. (R107) -/
  | call (r : Fin 16) (a : BitVec 5) (imm : BitVec 18)
  /-- Transfers control to the address held in ga. (R108) -/
  | ret (r : Fin 16) (f : RegForm)
  /-- Transfers to ga and leaves the exception handler. (R108) -/
  | eret (r : Fin 16) (f : RegForm)
  /-- Loads a zero-extended byte. (R110) -/
  | ld8 (r : Fin 16) (f : MemForm)
  /-- Loads a zero-extended half. (R110) -/
  | ld16 (r : Fin 16) (f : MemForm)
  /-- Loads a word. (R110) -/
  | ld32 (r : Fin 16) (f : MemForm)
  /-- Loads a bead into a wide register. (R110) -/
  | ld128 (r : Fin 16) (f : MemForm)
  /-- Stores a byte as an indivisible read-modify-write of its bead. (R110) -/
  | st8 (r : Fin 16) (f : MemForm)
  /-- Stores a half. (R110) -/
  | st16 (r : Fin 16) (f : MemForm)
  /-- Stores a word. (R110) -/
  | st32 (r : Fin 16) (f : MemForm)
  /-- Stores a bead with fresh check bits. (R110) -/
  | st128 (r : Fin 16) (f : MemForm)
  /-- Reads a 32-bit register, with that register's read side effects. (R112) -/
  | ioIn (r : Fin 16) (f : IoForm)
  /-- Writes a register, as a class I, S or T access by its target. (R112) -/
  | ioOut (r : Fin 16) (f : IoForm)
  /-- A posted ST or OUT completes in memory or in its block within its bound. (R97) -/
  | postedAccessComplete (r : Fin 16) (k : Nat)
  /-- Reserves a ring slot, writes a bead, commits it and returns a status. (R114) -/
  | push (r : Fin 16) (f : RegForm) (inStep : Bool)
  /-- A push with release, which waits for every earlier access before it reserves. (R77) -/
  | pushR (r : Fin 16) (f : RegForm)
  /-- The earlier accesses of a waiting PUSH.R have completed, so it reserves and commits. (R77) -/
  | pushRRelease (r : Fin 16)
  /-- Removes a committed bead from a ring, skipping void beads, and returns a status. (R114) -/
  | pop (r : Fin 16) (f : RegForm)
  /-- A pop with acquire that orders all later accesses after the removal. (R78) -/
  | popA (r : Fin 16) (f : RegForm)
  /-- A written ring slot commits once every earlier slot has committed. (R54) -/
  | slotCommit (n : Fin 32) (slot : Nat)
  /-- Sleeps on data, space, doorbell and deadline conditions, or returns at once. (R117) -/
  | wait (r : Fin 16) (f : WaitForm)
  /-- A wake condition becomes true, and WAIT returns its cause word and clears the reported doorbells. (R64) -/
  | waitReturn (r : Fin 16)
  /-- Orders the accesses of the classes in its mask. (R122) -/
  | fence (r : Fin 16) (f : ImmForm)
  /-- The fenced earlier accesses have completed, and the Rod continues past the FENCE. (R76) -/
  | fenceComplete (r : Fin 16)
  /-- Atomically swaps a Frame word. (R124) -/
  | atSwap (r : Fin 16) (f : RegForm)
  /-- Atomically adds to a Frame word. (R124) -/
  | atAdd (r : Fin 16) (f : RegForm)
  /-- Atomically ANDs a Frame word. (R124) -/
  | atAnd (r : Fin 16) (f : RegForm)
  /-- Atomically ORs a Frame word. (R124) -/
  | atOr (r : Fin 16) (f : RegForm)
  /-- Atomically XORs a Frame word. (R124) -/
  | atXor (r : Fin 16) (f : RegForm)
  /-- Atomic signed minimum on a Frame word. (R124) -/
  | atMin (r : Fin 16) (f : RegForm)
  /-- Atomic signed maximum on a Frame word. (R124) -/
  | atMax (r : Fin 16) (f : RegForm)
  /-- Atomic unsigned minimum on a Frame word. (R124) -/
  | atMinu (r : Fin 16) (f : RegForm)
  /-- Atomic unsigned maximum on a Frame word. (R124) -/
  | atMaxu (r : Fin 16) (f : RegForm)
  /-- Atomic compare-and-swap on a Frame word. (R124) -/
  | atCas (r : Fin 16) (f : RegForm)
  /-- Writes TB_NOW plus an offset to a register pair. (R126) -/
  | time (r : Fin 16) (f : ImmForm)
  /-- Raises the TRAP exception with the immediate as its code. (R127) -/
  | trap (r : Fin 16) (f : ImmForm)
  /-- A write of FRM_RCTL.START starts a HALTED or FAULTED Rod from ENTRY. (R88) -/
  | rodStart (r : Fin 16)
  /-- A write of FRM_RCTL.STOP requests a stop at the next safe point. (R88) -/
  | rodStop (r : Fin 16)
  /-- A stopping Rod reaches a safe point and becomes HALTED. (R88) -/
  | rodHalt (r : Fin 16)
  /-- After 1 ms without a safe point, the Rod abandons its instruction and becomes HALTED. (R88) -/
  | rodStopForced (r : Fin 16)
  /-- The template slice has been copied, and the program leaves STARTING and runs. (R84) -/
  | templateCopyDone (r : Fin 16)
  /-- A write to FRM_DOORBELL sets doorbell bits of a logical Rod. (R66) -/
  | doorbell (r : Fin 16) (bells : BitVec 16)
  /-- The health monitor marks a degrading physical Rod for migration. (R520) -/
  | rodMarked (m : RodMark)
  /-- A marked Rod at a safe point, outside the 1 ms interval, begins to be copied to a spare. (R68) -/
  | migrationStart (r : Fin 16)
  /-- The spare is bound to the logical Rod and resumes its WAIT or FENCE. (R70) -/
  | migrationEnd
  /-- A physical Rod fails outright, faulting its program. (R72) -/
  | rodFail (p : Fin 18)
  /-- A write of CRG_CFG.EN from 0 to 1 resets the ring's books and enables it. (R62) -/
  | ringEnable (n : Fin 32)
  /-- A write of CRG_CFG.EN from 1 to 0 closes the ring to pushes. (R62) -/
  | ringDisable (n : Fin 32)
  /-- Once RESERVED reaches zero, the ring drops its beads and is disabled. (R62) -/
  | ringDisableEffect (n : Fin 32)
  /-- A write of GO checks the staged plan and submits or refuses it. (R156) -/
  | dfeGo (n : Fin 8)
  /-- A write of EN from 0 to 1 submits the staged plan and enables the channel. (R166) -/
  | dfeEnable (n : Fin 8)
  /-- A write of EN from 1 to 0 stops the excitation at the next frame boundary. (R166) -/
  | dfeDisable (n : Fin 8)
  /-- At a frame boundary the channel filters the frame, checks V_CM and overload, and counts settling. (R136) -/
  | dfeFrameBoundary (n : Fin 8) (d : DfeFrame)
  /-- The channel computes and publishes moisture and density from the filtered admittances. (R146) -/
  | dfeOutputInstant (n : Fin 8)
  /-- No valid temperature for TEMP_HOLD seconds gives FAULT with kind NOTEMP. (R150) -/
  | tempHoldExpiry (n : Fin 8)
  /-- The spare path starts a parallel check of the next channel in rotation. (R162) -/
  | dfeCrossCheck
  /-- A dielectric path fails, with FAULT kind PATH when no spare remains. (R164) -/
  | dfePathFail (n : Fin 8)
  /-- A write of EN from 0 to 1 checks the configuration and starts the channel. (R199) -/
  | pfeEnable (n : Fin 48)
  /-- A write of EN from 1 to 0 stops the channel at its next conversion instant. (R199) -/
  | pfeDisable (n : Fin 48)
  /-- A write to PFE_CH_RANGE takes effect at the next conversion instant. (R188) -/
  | pfeRangeWrite (n : Fin 48) (v : BitVec 32)
  /-- At a conversion instant the channel publishes its linearised word with its flags. (R179) -/
  | pfeConversion (n : Fin 48) (d : PfeSample)
  /-- No valid cold-junction value for CJ_HOLD seconds gives FAULT with kind NOCJ. (R193) -/
  | cjHoldExpiry (n : Fin 48)
  /-- A free spare path begins a parallel check of an enabled channel. (R201) -/
  | pfeCrossCheck (p : Fin 4)
  /-- A path does not deliver a conversion by its instant, and a spare takes over or PATH is set. (R203) -/
  | pfePathFail (n : Fin 48)
  /-- A write to a user curve slot is refused while the curve is in use. (R210) -/
  | curveSlotWrite (c : Fin 256) (w : Fin 256) (v : BitVec 32)
  /-- CMD OFF moves the loop to OFF and discards a running job. (R236) -/
  | loopCmdOff (n : Fin 64)
  /-- CMD MANUAL checks the configuration and moves the loop to MANUAL. (R236) -/
  | loopCmdManual (n : Fin 64)
  /-- CMD AUTO sets AUTO_PEND for entry to AUTO at the next sample instant. (R236) -/
  | loopCmdAuto (n : Fin 64)
  /-- CMD SAFE moves the loop to SAFE and writes SAFE_VALUE. (R242) -/
  | loopCmdSafe (n : Fin 64)
  /-- LPE_CTL.FIRE sets the loop's firing request. (R243) -/
  | loopFire (n : Fin 64)
  /-- LPE_CTL.FIRE_CLR clears the loop's firing request. (R243) -/
  | loopFireClr (n : Fin 64)
  /-- LPE_GCTL.ALL_SAFE moves every loop that is not OFF to SAFE. (R258) -/
  | allSafe
  /-- A coefficient write is accepted only while the loop is open with no AUTO pending. (R221) -/
  | coeffWrite (n : Fin 64) (k : Fin 1024) (shift : Bool) (v : BitVec 32)
  /-- An RWL write in MANUAL is checked against R237 and applied at its stated point. (R238) -/
  | loopRwlWrite (n : Fin 64) (w : Fin 160) (v : BitVec 32)
  /-- A write of a delay-line tap, refused while its loop is closed. (R229) -/
  | dlPoolWrite (t : Fin 16384) (v : BitVec 32)
  /-- A manual value written in MANUAL is applied to the destination at once. (R240) -/
  | lpeManWrite (n : Fin 64) (j : Fin 4) (v : BitVec 32)
  /-- A reference write, refused if a loop output names the reference. (R246) -/
  | lpeRefWrite (n : Fin 64) (l : Fin 4) (v : BitVec 32)
  /-- At a sample instant the loop latches its words and releases a job. (R23) -/
  | loopSampleInstant (n : Fin 64)
  /-- A free matrix unit takes the released job with the earliest deadline. (R231) -/
  | jobDispatch (n : Fin 64)
  /-- A job finishes its observer, integrator and law computation. (R215) -/
  | jobEnd (n : Fin 64)
  /-- After PH_HOLD jobs with an invalid phase, q is set to zero. (R266) -/
  | qHoldExpiry (n : Fin 64)
  /-- At the output instant the loop applies its outputs, or counts a miss. (R232) -/
  | loopOutputInstant (n : Fin 64)
  /-- OBSERVE_MAX elapses, and the loop enters SAFE. (R236) -/
  | observeMaxExpiry (n : Fin 64)
  /-- A matrix unit fails, its job restarts elsewhere, and the spare or a reduced U takes over. (R248) -/
  | matrixUnitFail (u : Fin 5)
  /-- A write of RC_CTL.SNAP starts a snapshot of the learned table. (R271) -/
  | rcSnap (n : Fin 64)
  /-- The snapshot copy ends, SNAP_DONE is set and event 0x6B is posted. (R271) -/
  | snapComplete (n : Fin 64)
  /-- The learned table is restored from the store, and jobs may be released. (R272) -/
  | tableLoadDone (n : Fin 64)
  /-- A write of a learned-table pool entry, refused while its loop is closed. (R261) -/
  | rcPoolWrite (e : Fin 65536) (v : BitVec 32)
  /-- TRC_CTL.ARM empties the buffer and arms the channel. (R282) -/
  | traceArm (c : Fin 8)
  /-- TRC_CTL.TRIG triggers the channel. (R283) -/
  | traceTrig (c : Fin 8)
  /-- TRC_CTL.STOP makes the channel DONE at once. (R282) -/
  | traceStop (c : Fin 8)
  /-- A period-clocked channel records the current word. (R280) -/
  | tracePeriodSample (c : Fin 8)
  /-- An OFF command is armed for its start instant. (R293) -/
  | solCmdOff (n : Fin 24) (now : Bool)
  /-- An ON command is armed for its start instant. (R293) -/
  | solCmdOn (n : Fin 24) (now : Bool)
  /-- A PULSE command of DUR µs is armed. (R293) -/
  | solCmdPulse (n : Fin 24) (now : Bool)
  /-- A REPEAT command on the repeat grid is armed. (R293) -/
  | solCmdRepeat (n : Fin 24) (now : Bool)
  /-- An armed command reaches its start instant and acts, is blocked or is deferred. (R295) -/
  | solStartInstant (n : Fin 24)
  /-- A queued peak starts once it fits the bank budget. (R300) -/
  | deferredPeakStart (n : Fin 24)
  /-- A repeat-grid instant starts a pulse. (R294) -/
  | solRepeatGrid (n : Fin 24)
  /-- DUR elapses, and the channel switches off with ODEC. (R293) -/
  | solPulseEnd (n : Fin 24) (high : BitVec 16)
  /-- TPEAK elapses, and the channel passes from peak to hold. (R289) -/
  | solPeakEnd (n : Fin 24) (high : BitVec 16)
  /-- The current dips DIP_TH below its maximum, and the pull-in time is recorded. (R303) -/
  | pullinDetected (n : Fin 24) (t : BitVec 25)
  /-- After DROP_DLY the bank sequencer starts sampling the contact voltage. (R304) -/
  | dropoutCapture (n : Fin 24)
  /-- The capture ends, and the kink gives the drop-out time. (R304) -/
  | dropoutResult (n : Fin 24) (samples : List (BitVec 16))
  /-- The channel comparator trips at OC_LIM and latches TRIP. (R309) -/
  | solOvercurrentTrip (n : Fin 24)
  /-- The clamp reaches 170 °C, and the channel turns off with HOT. (R309) -/
  | solClampHot (n : Fin 24)
  /-- The clamp falls below 150 °C, and HOT clears. (R309) -/
  | solClampCool (n : Fin 24)
  /-- The low side conducts while off, so the bank goes down and the channel is LOST. (R309) -/
  | solChannelLost (n : Fin 24)
  /-- The rail exceeds 60 A, and the bank goes down with cause RAIL. (R309) -/
  | solRailOvercurrent (b : Fin 6)
  /-- VSOL below 10.5 V for 1 ms turns every high side off. (R309) -/
  | vsolUndervoltage (mv : BitVec 16)
  /-- VSOL rises above 11.5 V, and the undervoltage ends. (R309) -/
  | vsolRecovered (mv : BitVec 16)
  /-- A write of SOL_CLR.TRIP clears the trip latch. (R310) -/
  | solClearTrip (n : Fin 24)
  /-- A write of SOL_BCTL.RESTORE restores a down bank rail. (R311) -/
  | solBankRestore (b : Fin 6)
  /-- A write of EN from 0 to 1 checks the settings and enables the channel. (R317) -/
  | solEnable (n : Fin 24)
  /-- A write of EN from 1 to 0 switches off and discards the armed command. (R317) -/
  | solDisable (n : Fin 24)
  /-- A write of the class S set, accepted only in Commission. (R307) -/
  | solClassSWrite (v : BitVec 24)
  /-- LSW_CMD OFF switches the channel off at once. (R322) -/
  | lswCmdOff (n : Fin 32)
  /-- LSW_CMD ON switches the channel on at once. (R322) -/
  | lswCmdOn (n : Fin 32)
  /-- LSW_CMD PWM runs the channel on its generator from the next period start. (R322) -/
  | lswCmdPwm (n : Fin 32)
  /-- At a period start the channel switches on with the DUTY in force. (R325) -/
  | lswPeriodStart (n : Fin 32)
  /-- The on-time ends, and the channel switches off. (R325) -/
  | lswPwmOffEdge (n : Fin 32)
  /-- The current reaches the threshold in force, and the channel trips. (R328) -/
  | lswCurrentLimitTrip (n : Fin 32)
  /-- The 50 ms lamp window ends, and the threshold returns to ILIM. (R329) -/
  | lampWindowEnd (n : Fin 32)
  /-- The channel reaches 170 °C, HOT is set and it switches off. (R330) -/
  | thermalLatch (n : Fin 32) (temp : BitVec 16)
  /-- The channel falls below 150 °C, and the latch releases. (R330) -/
  | thermalRelease (n : Fin 32) (temp : BitVec 16)
  /-- A pending restart resumes the command in force and uses one retry. (R331) -/
  | retryRestart (n : Fin 32)
  /-- OK_S seconds without a fault reload the retry budget. (R332) -/
  | retryReload (n : Fin 32)
  /-- A write of LSW_CLR.FAULT clears TRIP, EXHAUSTED and PENDING and resumes the channel. (R333) -/
  | lswClearFault (n : Fin 32)
  /-- A 10 ms off-state reading of the output against OL_TH sets or clears OPEN. (R334) -/
  | openLoadTest (n : Fin 32) (mv : BitVec 32)
  /-- A channel conducts while off, so the group goes down and it is LOST. (R335) -/
  | lswConductingWhileOff (n : Fin 32)
  /-- A channel does not conduct while on, so it is LOST. (R335) -/
  | lswNotConducting (n : Fin 32)
  /-- The group exceeds 45 A for 100 µs, and the group goes down with cause RAIL. (R335) -/
  | groupOvercurrent (k : Fin 4)
  /-- The 1 s mean group current exceeds 20 A, and GOVL is set. (R335) -/
  | groupOverload (k : Fin 4) (mean : BitVec 16)
  /-- VLS below 8.0 V for 1 ms turns the group's channels off. (R335) -/
  | groupUndervoltage (k : Fin 4) (mv : BitVec 16)
  /-- VLS rises above 8.5 V, and the channels resume. (R335) -/
  | groupUndervoltageEnd (k : Fin 4) (mv : BitVec 16)
  /-- A write of LSW_GRCTL.RESTORE restores a down group. (R336) -/
  | groupRestore (k : Fin 4)
  /-- A write of EN from 0 to 1 checks and enables the channel. (R342) -/
  | lswEnable (n : Fin 32)
  /-- A write of EN from 1 to 0 switches off and sets the command in force to OFF. (R342) -/
  | lswDisable (n : Fin 32)
  /-- At each PWM period centre the axis updates its loops and publishes its words. (R346) -/
  | mtrPeriodCentre (n : Fin 8) (d : MtrSample)
  /-- A write of MTR_CMD sets the command in force under SRC 0. (R360) -/
  | mtrCmdWrite (n : Fin 8) (v : BitVec 32)
  /-- A write of EN from 0 to 1 checks the settings and enables the axis. (R384) -/
  | mtrEnable (n : Fin 8)
  /-- A write of EN from 1 to 0 moves the axis to OFF with its stop action. (R363) -/
  | mtrDisable (n : Fin 8)
  /-- ALIGN_MS elapses, and the axis enters OPENLOOP. (R363) -/
  | alignEnd (n : Fin 8)
  /-- A stall condition turns the gates off and counts an attempt. (R364) -/
  | stallAttempt (n : Fin 8)
  /-- RWAIT_S elapses, and the axis restarts or goes OFF. (R363) -/
  | retryWaitEnd (n : Fin 8)
  /-- 60 s in RUN without a stall attempt reset ATTEMPTS. (R365) -/
  | attemptsReset (n : Fin 8)
  /-- MTR_CLR.TRIP moves a TRIPPED axis to OFF. (R367) -/
  | mtrClearTrip (n : Fin 8)
  /-- MTR_CLR.BLOCK moves a BLOCKED axis to OFF and resets ATTEMPTS. (R365) -/
  | mtrClearBlock (n : Fin 8)
  /-- MTR_CLR.TACH clears TACH_LOST. (R356) -/
  | mtrClearTach (n : Fin 8)
  /-- MTR_CLR.HALL clears HALL_LOST. (R357) -/
  | mtrClearHall (n : Fin 8)
  /-- A bridge phase comparator trips all six gates. (R368) -/
  | phaseOvercurrentTrip (n : Fin 8) (cur : BitVec 32)
  /-- A stack desaturation report trips all six gate commands. (R368) -/
  | desaturationTrip (n : Fin 8) (cur : BitVec 32)
  /-- The guard filter exceeds OC_LIM and trips the port. (R351) -/
  | filteredOvercurrentTrip (n : Fin 8) (ones : BitVec 13)
  /-- A current bitstream has no transition for 2 µs, and the axis trips with cause SDLOST. (R368) -/
  | bitstreamLost (n : Fin 8) (cur : BitVec 32)
  /-- One phase carries too little current for 100 ms, and the axis trips with cause PHASE. (R368) -/
  | phaseOpen (n : Fin 8) (cur : BitVec 32)
  /-- A bridge reaches 150 °C, and its axis is held off. (R368) -/
  | bridgeOvertemperature (m : BridgeTemp)
  /-- A bridge falls below 130 °C, and the hold-off ends. (R368) -/
  | bridgeCooled (m : BridgeTemp)
  /-- VDRV above 66 V holds axes 0 to 3 off. (R368) -/
  | vdrvOvervoltage (mv : BitVec 32)
  /-- VDRV falls below 62 V, and the hold-off ends. (R368) -/
  | vdrvOvervoltageEnd (mv : BitVec 32)
  /-- VDRV below 20 V for 1 ms holds axes 0 to 3 off. (R368) -/
  | vdrvUndervoltage (mv : BitVec 32)
  /-- VDRV rises above 22 V, and the hold-off ends. (R368) -/
  | vdrvUndervoltageEnd (mv : BitVec 32)
  /-- VDRV crosses 63 V or 62 V, and regenerating current is suppressed or allowed. (R349) -/
  | buslim (mv : BitVec 32)
  /-- A bridge phase conducts with all gates off, so the disconnect opens and the axis is LOST. (R368) -/
  | mtrConductingWhileOff (n : Fin 8)
  /-- Desaturation is asserted with the gates off, so the axis is LOST. (R368) -/
  | desatWhileOff (n : Fin 8)
  /-- The tachometer disagrees or stops for 200 ms and is excluded. (R356) -/
  | tachLost (n : Fin 8)
  /-- Invalid Hall codes exclude the Hall feedback. (R357) -/
  | hallLost (n : Fin 8)
  /-- The AF_MASK axes have met the condition for AF_DLY ms, and AIRFLOW_OK is asserted. (R381) -/
  | airflowOkAssert
  /-- The FAN unit evaluates both tables and commands the axes. (R373) -/
  | fanEvaluation
  /-- A write of FAN_ZCTL.EN = 1 checks and enables a zone. (R374) -/
  | fanZoneEnable (auto : Bool) (z : Fin 32)
  /-- A valid frame is filtered, placed in a buffer or queue, and counted. (R396) -/
  | canFrameReceived (n : Fin 6) (f : CanFrame)
  /-- A read of word 0 of a receive buffer locks it. (R400) -/
  | rxBufferLock (n : Fin 6) (k : Fin 64)
  /-- A read of the release word releases a locked buffer. (R400) -/
  | rxBufferRelease (n : Fin 6) (k : Fin 64)
  /-- A write to CAN_RXREL releases receive buffers. (R400) -/
  | rxReleaseWrite (n : Fin 6) (hi : Bool) (v : BitVec 32)
  /-- A write of CAN_TXREQ requests a transmit buffer. (R408) -/
  | canTxreq (n : Fin 6) (v : BitVec 32)
  /-- A write of CAN_TXCANCEL cancels a transmit buffer by its state. (R412) -/
  | canTxcancel (n : Fin 6) (v : BitVec 32)
  /-- At a start point the channel chooses and starts the winning PENDING buffer. (R409) -/
  | txStart (n : Fin 6)
  /-- A frame ends without error, and its buffer is TRANSMITTED. (R412) -/
  | transmitted (n : Fin 6) (tdcv : Byte)
  /-- A loss of arbitration counts in ARB_CNT and may abandon the buffer. (R410) -/
  | arbitrationLost (n : Fin 6)
  /-- An error updates the error counters and the buffer's ERR_CNT. (R414) -/
  | busError (n : Fin 6) (e : CanError) (tdcv : Option Byte)
  /-- A write of CAN_RECOVER starts recovery from bus-off. (R415) -/
  | canRecover (n : Fin 6)
  /-- 128 idle sequences have been seen, and the channel is error-active. (R415) -/
  | recoveryComplete (n : Fin 6)
  /-- A MODE write is checked and pends until the frame in progress ends. (R393) -/
  | canModeWrite (n : Fin 6) (m : BitVec 2)
  /-- A pending MODE change takes effect at the end of the frame. (R393) -/
  | modeChangeEffect (n : Fin 6)
  /-- CAN_CTL.CLRCNT sets the four receive counters to zero. (R396) -/
  | canClrcnt (n : Fin 6)
  /-- The channel 0 detector recognises the wake-up pattern and starts the resume. (R419) -/
  | canWakePattern
  /-- A write of TTS_CTL.EN = 1 checks the board and enters SYNCING. (R447) -/
  | boardEnable (b : Fin 2)
  /-- A write of EN = 0 turns the board OFF. (R440) -/
  | boardDisable (b : Fin 2)
  /-- A received reference message sets the Ref_Mark and the cycle, and may change the board state. (R440) -/
  | referenceMessage (c : Fin 2) (r : BitVec 3) (byte0 : Byte) (ago : Nat)
  /-- An accepted time mark gives a discipline sample. (R438) -/
  | timeMark (c : Fin 2) (r : BitVec 3) (t : BitVec 64) (ago : Nat)
  /-- No reference message within CYC_LEN + REF_TO, so the board resyncs or becomes master. (R440) -/
  | watchExpiry (c : Fin 2)
  /-- A master requests its next reference message CYC_LEN after the previous one. (R441) -/
  | referenceRequest (c : Fin 2)
  /-- A counting-board window opens and acts on its cell. (R443) -/
  | ttsWindowStart (c : Fin 2)
  /-- A window ends and its cell outcome is set, MISSED included. (R446) -/
  | ttsWindowEnd (c : Fin 2)
  /-- A read of TIM_NOW_LO latches the high word. (R428) -/
  | timNowLoRead
  /-- A write of the discipline source enters ACQUIRING or FREE. (R429) -/
  | timSrcWrite (src : BitVec 2)
  /-- A Sync message paired with a path delay gives a discipline sample. (R435) -/
  | ptpSync (m : PtpMsg) (twoStep : Bool)
  /-- A Follow_Up message supplies the origin time of a two-step Sync. (R434) -/
  | ptpFollowUp (m : PtpMsg)
  /-- An Announce message feeds the best master clock choice. (R434) -/
  | ptpAnnounce (m : PtpMsg) (d : PtpData)
  /-- The slave sends a timestamped Delay_Req. (R435) -/
  | ptpDelayReq
  /-- A Delay_Resp completes the path-delay measurement. (R435) -/
  | ptpDelayResp (m : PtpMsg)
  /-- No accepted sample for SRCTO, and the discipline enters HOLDOVER. (R429) -/
  | holdoverExpiry
  /-- COL_CMD RETIRE retires a Column. (R487) -/
  | colRetire (n : Fin 256)
  /-- COL_CMD CLRH clears COL_HLTH. (R487) -/
  | colClearHealth (n : Fin 256)
  /-- COL_CMD RETURN records credit that a Rod returned. (R467) -/
  | colReturn (n : Fin 256) (count : BitVec 16)
  /-- No valid frame for PERIOD_MS × LIVE_K, and the Column goes SILENT. (R456) -/
  | livenessExpiry (n : Fin 256)
  /-- COL_PROB passes without admission, and the Column returns to FREE. (R456) -/
  | probationExpiry (n : Fin 256)
  /-- A RETIRED Column drains and becomes FREE. (R458) -/
  | columnFreed (n : Fin 256)
  /-- Freed credit waits CRED_US, and a CREDIT frame is sent. (R467) -/
  | creditTimer (n : Fin 256)
  /-- A HELLO is authenticated, takes over its key slot and admits or acknowledges. (R484) -/
  | hello (f : TlFrame)
  /-- A BYE retires its Column. (R473) -/
  | bye (f : TlFrame)
  /-- The host engine performs register and Frame reads and replies. (R474) -/
  | regRead (f : TlFrame)
  /-- The host engine applies writes in order and replies. (R475) -/
  | regWrite (f : TlFrame)
  /-- A RING_DATA frame becomes one record in the port's receive ring. (R476) -/
  | ringData (f : TlFrame)
  /-- A CREDIT frame updates the transmit book. (R468) -/
  | credit (f : TlFrame)
  /-- A VALUES message writes the named value slots. (R462) -/
  | values (f : TlFrame)
  /-- Opens a program load for the Column. (R478) -/
  | loadBegin (f : TlFrame)
  /-- Writes image bytes into the target bank. (R478) -/
  | loadData (f : TlFrame)
  /-- Checks the staged image and starts a store commit. (R478) -/
  | loadCommit (f : TlFrame)
  /-- A status query is answered with mode, configuration and TB_NOW. (R473) -/
  | statusQ (f : TlFrame)
  /-- A Tarbylink WAKE on L0 starts the resume from Dormant. (R485) -/
  | wake (f : TlFrame)
  /-- The host engine sends the head record of a transmit ring once credit allows. (R477) -/
  | hostTxRecord (host : Bool)
  /-- A new replay mark is stored, and waiting frames proceed. (R481) -/
  | replayMarkWritten (k : Fin 8) (tx : Bool)
  /-- An ARP request for the port's address is answered. (R470) -/
  | arpRequest (port : NetPort) (src : NetSrc) (target : BitVec 32)
  /-- An NDP neighbour solicitation is answered. (R470) -/
  | neighbourSolicitation (port : NetPort) (src : NetSrc) (target : BitVec 128)
  /-- An ICMP or ICMPv6 echo request is answered. (R470) -/
  | echoRequest (port : NetPort) (src : NetSrc) (data : List (BitVec 8))
  /-- A port link comes up or goes down. (R469) -/
  | linkChange (port : NetPort) (up : Bool)
  /-- After 2 s without link, the host port tries the other speed. (R469) -/
  | linkSpeedTry
  /-- STO_CTL.COMMIT starts a commit of the dirty pages into the target bank. (R504) -/
  | stoCommit
  /-- The MAGIC write completes the commit, or the commit ends with a failure. (R504) -/
  | commitEnd (fails : List Nat)
  /-- STO_CTL.LOGW appends a Rod record to the log. (R518) -/
  | stoLogw
  /-- A queued log record is written. (R516) -/
  | logRecordWritten
  /-- A STO_UDATA access reads or writes the working copy and advances STO_UADDR. (R500) -/
  | stoUdataAccess (w : Option (BitVec 32))
  /-- VLOG below 9.0 V for 100 µs abandons any commit, logs power loss and leads to a power-on reset. (R509) -/
  | vlogLost (mv : BitVec 16)
  /-- The scrubber pass corrects single-bit errors and reports poison. (R519) -/
  | scrubPass (ups : List Upset) (others : BitVec 16)
  /-- A failing Frame section has been copied to its spare, and accesses move to it. (R521) -/
  | sectionRemapDone (sec : Fin 128)
  /-- Spare Rods and the spare matrix unit run their self-test each second. (R520) -/
  | spareSelfTest (rods : List (Fin 18)) (matrix : Bool)
  /-- HLT_MAPCLR.CLR empties the unit map at the next power-on reset. (R514) -/
  | hltMapclr
  /-- The health monitor reads temperatures, supplies and humidity and judges the conditions. (R526) -/
  | sensorRead (v : Sensors)
  /-- The core supply is outside ±5 % for 1 ms, giving a critical fault. (R526) -/
  | coreSupplyCritical (mv : BitVec 16)
  /-- The core supply stays within ±3 % for 100 ms, and the condition clears. (R526) -/
  | coreSupplyCleared (mv : BitVec 16)
  /-- SYS_CMD READY changes the mode to Ready, or begins the Commission exit. (R533) -/
  | sysCmdReady (who : Writer)
  /-- SYS_CMD BATCH enters Batch from Ready. (R533) -/
  | sysCmdBatch (who : Writer)
  /-- SYS_CMD FLOW enters Flow from Ready. (R533) -/
  | sysCmdFlow (who : Writer)
  /-- SYS_CMD STORE enters Store from Ready. (R533) -/
  | sysCmdStore (who : Writer)
  /-- SYS_CMD DORMANT checks the conditions and begins shutting down to Dormant. (R548) -/
  | sysCmdDormant (who : Writer)
  /-- SYS_CMD HOLD enters Hold. (R533) -/
  | sysCmdHold (who : Writer)
  /-- A host SYS_CMD RESET resets the controller. (R551) -/
  | sysCmdReset (who : Writer)
  /-- The commits of the Commission exit end, and the controller enters Ready or stays. (R547) -/
  | commissionExit
  /-- A write of SYS_PDCTL switches switchable domains on or off. (R544) -/
  | domainSwitch (v : BitVec 32)
  /-- A ramping domain reaches ON, and a pending mode change takes effect. (R534) -/
  | domainOn (n : Fin 8) (t : OutputTest)
  /-- The host timer exceeds HOST_TIMEOUT in a masked mode, and Hold is entered. (R535) -/
  | hostLoss
  /-- All conditions have held for FIRE_DLY, and FIRE_PERMIT is asserted. (R541) -/
  | firePermitAssert
  /-- A write of SYS_FIRECTL.EN enables or withdraws the firing permission. (R541) -/
  | firectlEnable (on : Bool)
  /-- A stop channel counts as low, and every power output turns off. (R543) -/
  | safeStopAssert (b : Bool)
  /-- Both channels have been high for 50 ms, and SAFE_STOP_N is released. (R542) -/
  | safeStopRelease
  /-- One channel low and the other high for 500 ms sets SS_DISC. (R542) -/
  | ssDiscrepancy
  /-- SYS_CLR.SSDISC clears the discrepancy latch while both channels are high. (R542) -/
  | ssDiscClear
  /-- VLOG rises, and the boot sequence runs to Ready or Commission. (R545) -/
  | powerOn
  /-- RESET_N low for 10 µs resets the controller. (R551) -/
  | externalReset
  /-- The release of RESET_N starts Boot at its step 3. (R552) -/
  | resetNRelease
  /-- SYS_WDTKICK.KICK restarts the watchdog, or resets on an early kick. (R554) -/
  | watchdogKick
  /-- WDT_MAX passes without a kick, and a watchdog reset occurs. (R554) -/
  | watchdogExpiry
  /-- The Rods have stopped and the domains are off, and the controller is Dormant. (R548) -/
  | dormantEntered
  /-- WAKE_N low for 1 ms starts the resume. (R549) -/
  | wakePin
  /-- TB_NOW reaches SYS_WAKEAT and starts the resume. (R549) -/
  | wakeTimer
  /-- The resume sequence ends with the programs started in Ready. (R550) -/
  | resumeComplete
  /-- A write of SYS_HREL releases held load switches. (R557) -/
  | holdRelease (v : BitVec 32)
  /-- A write of SYS_HRELM releases RUN-ON axes. (R557) -/
  | holdReleaseAxis (v : BitVec 8)
  /-- HOLD_MAX elapses, and a held load switch switches off. (R557) -/
  | holdMaxExpiry (n : Fin 32)
  /-- RUNON_MAX elapses, and a RUN-ON axis stops. (R557) -/
  | runonMaxExpiry (n : Fin 8)
  /-- A filtered input changes state, counting, publishing and ringing doorbells. (R558) -/
  | discreteInputEdge (e : DioEdge)
  /-- A write of DIO_CNTCLR sets counts to zero and publishes them. (R558) -/
  | countClear (v : BitVec 4)
  /-- In the peak phase the sensed current first reaches IPEAK, so peak chopping begins, and the dip detector, if it found no dip, writes VALID = 0 and sets NOPULL. (R303) -/
  | ipeakReached (n : Fin 24)
  /-- After switch-off the coil current, measured in the freewheel or clamp path, first falls below 50 mA, and PHASE passes from decaying to off. (R318) -/
  | solDecayEnd (n : Fin 24)
  /-- VLOG falls below 9.0 V, and every solenoid switch, load switch, group disconnect, bridge gate and gate command is held off in hardware, with FIRE_PERMIT, AIRFLOW_OK and ATTN_N open. (R591) -/
  | vlogHoldOff
  /-- VLOG rises back above 9.0 V before it is judged lost, and the outputs are again governed by the logic. (R591) -/
  | vlogHoldOffEnd
  /-- A CAN channel that has left OFF sees 11 consecutive recessive bits, integrates to the bus, and may then start frames. (R393) -/
  | busIntegration (n : Fin 6)
  /-- A network frame outside the supported protocols, with a bad checksum, or a Tarbylink frame of undefined type or invalid LEN is received, discarded and counted in NET_RXDROP. (R470) -/
  | netFrameDropped (p : NetPort) (f : Option (BitVec 8 × TlFrame))
  /-- The boot sequence ends, with the image checked and the programs started in Ready, or with Commission entered at step 8; the host timer restarts and the watchdog is armed. (R545) -/
  | bootComplete
  /-- Every 100 ms the PFE reads its twelve cold-junction sensors and updates PFE_CJT[m]. (R204) -/
  | cjSensorRead (m : Fin 12) (t : BitVec 32)
  deriving DecidableEq, Repr

end Sys2Proof
end

