-- ==== Sys2Proof/Decode.lean ====
section
/-! DEFINITION. Sys2Proof/Decode.lean: the words of Coxis instructions (spec/03_coxis_instructions.md R90 to R127), read
and written. spec/opcode_table.json gives no row any bits, so no word of the table spells a command. -/

namespace Sys2Proof

/-- The command a word spells by the bits of spec/opcode_table.json: its rows have none. -/
def decodeTableWord (_nbits _w : Nat) : Option Instr := none

/-! ### The fields of an instruction word (R90) -/

/-- A register-form word: CLASS, D, A, B, FN, AUX. -/
def regWord (cls : BitVec 4) (fn : BitVec 7) (f : RegForm) : BitVec 32 := cls ++ f.d ++ f.a ++ f.b ++ fn ++ f.aux
/-- An immediate-form word: CLASS, D, A, IMM. -/
def immWord (cls : BitVec 4) (f : ImmForm) : BitVec 32 := cls ++ f.d ++ f.a ++ f.imm
/-- A branch word: the condition in D, the offset in the function field (R106). -/
def brWord (cond : BitVec 5) (f : BrForm) : BitVec 32 := (0x4 : BitVec 4) ++ cond ++ f.a ++ f.b ++ f.off
/-- A load or store word: SZ in IMM bits 17:16 (R110). -/
def memWord (cls : BitVec 4) (sz : BitVec 2) (f : MemForm) : BitVec 32 := cls ++ f.d ++ f.a ++ sz ++ f.off
/-- An IN or OUT word: the direction in IMM bit 17 (R112). -/
def ioWord (out : BitVec 1) (f : IoForm) : BitVec 32 := (0x9 : BitVec 4) ++ f.d ++ f.a ++ out ++ f.off

/-- CLASS. -/
def fCls (w : BitVec 32) : BitVec 4 := w.extractLsb' 28 4
/-- D. -/
def fD (w : BitVec 32) : BitVec 5 := w.extractLsb' 23 5
/-- A. -/
def fA (w : BitVec 32) : BitVec 5 := w.extractLsb' 18 5
/-- B. -/
def fB (w : BitVec 32) : BitVec 5 := w.extractLsb' 13 5
/-- FN. -/
def fFn (w : BitVec 32) : BitVec 7 := w.extractLsb' 6 7
/-- AUX. -/
def fAux (w : BitVec 32) : BitVec 6 := w.extractLsb' 0 6
/-- IMM. -/
def fImm (w : BitVec 32) : BitVec 18 := w.extractLsb' 0 18
/-- SZ of a load or store. -/
def fSz (w : BitVec 32) : BitVec 2 := w.extractLsb' 16 2

/-- The word's register form. -/
def regOf (w : BitVec 32) : RegForm := ⟨fD w, fA w, fB w, fAux w⟩
/-- The word's immediate form. -/
def immOf (w : BitVec 32) : ImmForm := ⟨fD w, fA w, fImm w⟩
/-- The word's branch form. -/
def brOf (w : BitVec 32) : BrForm := ⟨fA w, fB w, w.extractLsb' 0 13⟩
/-- The word's load or store form. -/
def memOf (w : BitVec 32) : MemForm := ⟨fD w, fA w, w.extractLsb' 0 16⟩
/-- The word's IN or OUT form. -/
def ioOf (w : BitVec 32) : IoForm := ⟨fD w, fA w, w.extractLsb' 0 17⟩

/-! ### Reading -/

/-- Class OPR, by FN (R100). -/
def oprOf (r : Fin 16) (w : BitVec 32) : Option Instr :=
  match (fFn w).toNat with
  | 0 => some (.add r (regOf w))
  | 1 => some (.sub r (regOf w))
  | 2 => some (.and r (regOf w))
  | 3 => some (.or r (regOf w))
  | 4 => some (.xor r (regOf w))
  | 5 => some (.andn r (regOf w))
  | 6 => some (.sll r (regOf w))
  | 7 => some (.srl r (regOf w))
  | 8 => some (.sra r (regOf w))
  | 9 => some (.slli r (regOf w))
  | 10 => some (.srli r (regOf w))
  | 11 => some (.srai r (regOf w))
  | 12 => some (.slt r (regOf w))
  | 13 => some (.sltu r (regOf w))
  | 14 => some (.min r (regOf w))
  | 15 => some (.max r (regOf w))
  | 16 => some (.minu r (regOf w))
  | 17 => some (.maxu r (regOf w))
  | 18 => some (.sext8 r (regOf w))
  | 19 => some (.sext16 r (regOf w))
  | 20 => some (.mul r (regOf w))
  | 21 => some (.mulh r (regOf w))
  | 22 => some (.mulhu r (regOf w))
  | 23 => some (.div r (regOf w))
  | 24 => some (.divu r (regOf w))
  | 25 => some (.rem r (regOf w))
  | 26 => some (.remu r (regOf w))
  | 32 => some (.wGet r (regOf w))
  | 33 => some (.wPut r (regOf w))
  | 34 => some (.wMov r (regOf w))
  | 35 => some (.wZero r (regOf w))
  | _ => none

/-- Class FIX, by FN (R103). -/
def fixOf (r : Fin 16) (w : BitVec 32) : Option Instr :=
  match (fFn w).toNat with
  | 0 => some (.mulq r (regOf w))
  | 1 => some (.mulqR r (regOf w))
  | 2 => some (.macq r (regOf w))
  | 3 => some (.clamp r (regOf w))
  | 4 => some (.clampN r (regOf w))
  | 5 => some (.clampA r (regOf w))
  | _ => none

/-- Class BR, by the condition in D (R106). -/
def brOfCond (r : Fin 16) (w : BitVec 32) : Option Instr :=
  match (fD w).toNat with
  | 0 => some (.beq r (brOf w))
  | 1 => some (.bne r (brOf w))
  | 2 => some (.blt r (brOf w))
  | 3 => some (.bge r (brOf w))
  | 4 => some (.bltu r (brOf w))
  | 5 => some (.bgeu r (brOf w))
  | 6 => some (.bany r (brOf w))
  | 7 => some (.bnone r (brOf w))
  | _ => none

/-- Class RET, by FN (R108). -/
def retOf (r : Fin 16) (w : BitVec 32) : Option Instr :=
  match (fFn w).toNat with
  | 0 => some (.ret r (regOf w))
  | 1 => some (.eret r (regOf w))
  | _ => none

/-- Class LD, by SZ (R110). -/
def ldOf (r : Fin 16) (w : BitVec 32) : Option Instr :=
  match (fSz w).toNat with
  | 0 => some (.ld8 r (memOf w))
  | 1 => some (.ld16 r (memOf w))
  | 2 => some (.ld32 r (memOf w))
  | 3 => some (.ld128 r (memOf w))
  | _ => none

/-- Class ST, by SZ (R110). -/
def stOf (r : Fin 16) (w : BitVec 32) : Option Instr :=
  match (fSz w).toNat with
  | 0 => some (.st8 r (memOf w))
  | 1 => some (.st16 r (memOf w))
  | 2 => some (.st32 r (memOf w))
  | 3 => some (.st128 r (memOf w))
  | _ => none

/-- Class RING, by FN (R114); the commit of a PUSH within its step. -/
def ringOf (r : Fin 16) (w : BitVec 32) : Option Instr :=
  match (fFn w).toNat with
  | 0 => some (.push r (regOf w) true)
  | 1 => some (.pushR r (regOf w))
  | 2 => some (.pop r (regOf w))
  | 3 => some (.popA r (regOf w))
  | _ => none

/-- Class ATOM, by FN (R124). -/
def atomOf (r : Fin 16) (w : BitVec 32) : Option Instr :=
  match (fFn w).toNat with
  | 0 => some (.atSwap r (regOf w))
  | 1 => some (.atAdd r (regOf w))
  | 2 => some (.atAnd r (regOf w))
  | 3 => some (.atOr r (regOf w))
  | 4 => some (.atXor r (regOf w))
  | 5 => some (.atMin r (regOf w))
  | 6 => some (.atMax r (regOf w))
  | 7 => some (.atMinu r (regOf w))
  | 8 => some (.atMaxu r (regOf w))
  | 9 => some (.atCas r (regOf w))
  | _ => none

/-- The instruction that a word spells for Rod `r`: none where its FN or its branch condition is not defined for its
class, which is ILLEGAL (R92). Its other constraints are the meanings' own. -/
def coxisDecode (r : Fin 16) (w : BitVec 32) : Option Instr :=
  match (fCls w).toNat with
  | 0x0 => oprOf r w
  | 0x1 => some (.addi r (immOf w))
  | 0x2 => some (.lui r (immOf w))
  | 0x3 => fixOf r w
  | 0x4 => brOfCond r w
  | 0x5 => if fD w = 31 then some (.call r (fA w) (fImm w)) else some (.jmp r (immOf w))
  | 0x6 => retOf r w
  | 0x7 => ldOf r w
  | 0x8 => stOf r w
  | 0x9 => if w.getLsbD 17 then some (.ioOut r (ioOf w)) else some (.ioIn r (ioOf w))
  | 0xA => ringOf r w
  | 0xB => some (.wait r ⟨fD w, fA w, fB w, fFn w, fAux w⟩)
  | 0xC => some (.fence r (immOf w))
  | 0xD => atomOf r w
  | 0xE => some (.time r (immOf w))
  | _ => some (.trap r (immOf w))

/-! ### Writing -/

/-- The word of a Coxis instruction; other commands have none. -/
def coxisEncode (i : Instr) : Option (BitVec 32) :=
  match i with
  | .add _ f => some (regWord 0x0 0x0 f)
  | .sub _ f => some (regWord 0x0 0x1 f)
  | .and _ f => some (regWord 0x0 0x2 f)
  | .or _ f => some (regWord 0x0 0x3 f)
  | .xor _ f => some (regWord 0x0 0x4 f)
  | .andn _ f => some (regWord 0x0 0x5 f)
  | .sll _ f => some (regWord 0x0 0x6 f)
  | .srl _ f => some (regWord 0x0 0x7 f)
  | .sra _ f => some (regWord 0x0 0x8 f)
  | .slli _ f => some (regWord 0x0 0x9 f)
  | .srli _ f => some (regWord 0x0 0xa f)
  | .srai _ f => some (regWord 0x0 0xb f)
  | .slt _ f => some (regWord 0x0 0xc f)
  | .sltu _ f => some (regWord 0x0 0xd f)
  | .min _ f => some (regWord 0x0 0xe f)
  | .max _ f => some (regWord 0x0 0xf f)
  | .minu _ f => some (regWord 0x0 0x10 f)
  | .maxu _ f => some (regWord 0x0 0x11 f)
  | .sext8 _ f => some (regWord 0x0 0x12 f)
  | .sext16 _ f => some (regWord 0x0 0x13 f)
  | .mul _ f => some (regWord 0x0 0x14 f)
  | .mulh _ f => some (regWord 0x0 0x15 f)
  | .mulhu _ f => some (regWord 0x0 0x16 f)
  | .div _ f => some (regWord 0x0 0x17 f)
  | .divu _ f => some (regWord 0x0 0x18 f)
  | .rem _ f => some (regWord 0x0 0x19 f)
  | .remu _ f => some (regWord 0x0 0x1a f)
  | .wGet _ f => some (regWord 0x0 0x20 f)
  | .wPut _ f => some (regWord 0x0 0x21 f)
  | .wMov _ f => some (regWord 0x0 0x22 f)
  | .wZero _ f => some (regWord 0x0 0x23 f)
  | .mulq _ f => some (regWord 0x3 0x0 f)
  | .mulqR _ f => some (regWord 0x3 0x1 f)
  | .macq _ f => some (regWord 0x3 0x2 f)
  | .clamp _ f => some (regWord 0x3 0x3 f)
  | .clampN _ f => some (regWord 0x3 0x4 f)
  | .clampA _ f => some (regWord 0x3 0x5 f)
  | .ret _ f => some (regWord 0x6 0x0 f)
  | .eret _ f => some (regWord 0x6 0x1 f)
  | .push _ f _ => some (regWord 0xa 0x0 f)
  | .pushR _ f => some (regWord 0xa 0x1 f)
  | .pop _ f => some (regWord 0xa 0x2 f)
  | .popA _ f => some (regWord 0xa 0x3 f)
  | .atSwap _ f => some (regWord 0xd 0x0 f)
  | .atAdd _ f => some (regWord 0xd 0x1 f)
  | .atAnd _ f => some (regWord 0xd 0x2 f)
  | .atOr _ f => some (regWord 0xd 0x3 f)
  | .atXor _ f => some (regWord 0xd 0x4 f)
  | .atMin _ f => some (regWord 0xd 0x5 f)
  | .atMax _ f => some (regWord 0xd 0x6 f)
  | .atMinu _ f => some (regWord 0xd 0x7 f)
  | .atMaxu _ f => some (regWord 0xd 0x8 f)
  | .atCas _ f => some (regWord 0xd 0x9 f)
  | .beq _ f => some (brWord 0 f)
  | .bne _ f => some (brWord 1 f)
  | .blt _ f => some (brWord 2 f)
  | .bge _ f => some (brWord 3 f)
  | .bltu _ f => some (brWord 4 f)
  | .bgeu _ f => some (brWord 5 f)
  | .bany _ f => some (brWord 6 f)
  | .bnone _ f => some (brWord 7 f)
  | .ld8 _ f => some (memWord 0x7 0 f)
  | .ld16 _ f => some (memWord 0x7 1 f)
  | .ld32 _ f => some (memWord 0x7 2 f)
  | .ld128 _ f => some (memWord 0x7 3 f)
  | .st8 _ f => some (memWord 0x8 0 f)
  | .st16 _ f => some (memWord 0x8 1 f)
  | .st32 _ f => some (memWord 0x8 2 f)
  | .st128 _ f => some (memWord 0x8 3 f)
  | .addi _ f => some (immWord 0x1 f)
  | .lui _ f => some (immWord 0x2 f)
  | .fence _ f => some (immWord 0xc f)
  | .time _ f => some (immWord 0xe f)
  | .trap _ f => some (immWord 0xf f)
  | .jmp _ f => some (immWord 0x5 f)
  | .call _ a imm => some (immWord 0x5 ⟨31, a, imm⟩)
  | .ioIn _ f => some (ioWord 0 f)
  | .ioOut _ f => some (ioWord 1 f)
  | .wait _ f => some (regWord 0xB f.fn ⟨f.d, f.a, f.b, f.aux⟩)
  | _ => none

end Sys2Proof
end

