-- ==== Sys2Proof/Config.lean ====
section
/-! DEFINITION. Sys2Proof/Config.lean: what the manual leaves open, as constants without a body: nothing can be proved
of their values, so whatever is proved holds whatever they are (notes/assumptions). -/

namespace Sys2Proof.Config

/-- A value the manual does not state, fresh for each number (log entry 5). -/
opaque freeWord : Nat → Word
/-- A natural number the manual does not state, fresh for each number (log entry 5). -/
opaque freeNat : Nat → Nat
/-- A rational the manual does not state, fresh for each number (log entry 5). -/
opaque freeRat : Nat → Rat

/-- How much a thermocouple curve 1 to 8 rises over a step of 0.005 °C against its other steps (R192; IEC 60584-1, whose
tables the manual cites and does not print; log entry 6). -/
opaque thermoStep : Nat → Int → Nat
/-- The voltage in 10 nV of thermocouple curve 1, type B, below its span, at a temperature in 0.005 °C (log entry 6). -/
opaque thermoLow : Int → Rat
/-- How far a vendor NTC curve rises beside the B equation over a step of 1 °C, in its own unit (R190; log entry 6). -/
opaque ntcStep : Nat → Int → Nat
/-- Word `w` of the slot of vendor crop curve `c`, where R151 and R211 do not give it (log entry 7). -/
opaque vendorWord : Nat → Nat → Word

/-- What the 2π of the dielectric front end has beyond 6.283185 (log entry 8). -/
opaque twoPiTail : Rat
/-- 2π as the dielectric front end computes with it: a rational from 6.283185 to 6.283186 (R141; log entry 8). -/
def twoPi : Rat := 6283185 / 1000000 + max 0 (min twoPiTail (1 / 1000000))
/-- What a cosine of the dielectric front end has beyond its series (R141; log entry 8). -/
opaque cosTail : Rat → Rat
/-- What a sine of the dielectric front end has beyond its series (R141; log entry 8). -/
opaque sinTail : Rat → Rat
/-- What a decimal logarithm of the dielectric front end has beyond its series. -/
opaque log10Tail : Rat → Rat
/-- A dielectric curve's coefficient number `k` at a frequency outside the span of its nodes (R145; log entry 9). -/
opaque outsideCoef : Nat → Rat → Nat → Rat

/-- How long, in steps of 5 ns, the current of a solenoid takes from the end of its peak phase at a TB_NOW until it has
fallen to IHOLD: the coil's (R289; log entry 142). -/
opaque chopFall : Nat → Nat → Nat
/-- Where in a chop period, counted from the TB_NOW at which chopping began, a solenoid switches: the coil's (R289; log
entry 142). -/
opaque chopEdge : Nat → Nat → Nat → Nat
/-- How far the mean current of that chop period lies below or about its set value (R289; log entry 142). -/
opaque chopMean : Nat → Nat → Nat → Nat
/-- How much of a pair's mean current in that chop period its first channel carries (R302; log entry 142). -/
opaque chopShare : Nat → Nat → Nat → Nat

/-- The fixed electrical angle at which an axis aligns (R362; log entry 149). -/
opaque alignAngle : Nat → Nat
/-- Half the time for which the high side of phase 0, 1 or 2 of an axis is on in the PWM period of the centre at a TB_NOW,
in steps of 5 ns: what the current loop gives (R346, R383; log entry 149). -/
opaque pwmHalf : Nat → Nat → Nat → Nat

/-- Word `i` of the commissioning key, fixed in each module at manufacture (R546; log entry 23). -/
opaque commissioningKey : Nat → Word

end Sys2Proof.Config
end

