-- ==== Sys2Proof/Machine/Bits.lean ====
section
/-! DEFINITION. Sys2Proof/Machine/Bits.lean: bit fields, sign extension, limits and lanes,
and the sparse tables that hold indexed state. -/

namespace Sys2Proof.Machine

/-- Bits `hi:lo` of a word, as a number (the manual's bit ranges are high:low, inclusive). -/
def bits (w : Word) (hi lo : Nat) : Nat := (w.toNat >>> lo) % 2 ^ (hi + 1 - lo)

/-- `w` with bits `hi:lo` replaced by the low bits of `v`. -/
def putBits (w : Word) (hi lo v : Nat) : Word :=
  let n := hi + 1 - lo
  word (w.toNat % 2 ^ lo + (v % 2 ^ n) * 2 ^ lo + (w.toNat >>> (hi + 1)) * 2 ^ (hi + 1))

/-- The number `v` of `n` bits read as a two's-complement value. -/
def sext (v n : Nat) : Int := if v % 2 ^ n < 2 ^ (n - 1) then (v % 2 ^ n : Nat) else (v % 2 ^ n : Nat) - (2 ^ n : Nat)

/-- An integer as a field of `n` bits. -/
def toField (v : Int) (n : Nat) : Nat := (v % (2 ^ n : Nat)).toNat

/-- Arithmetic right shift, rounding toward minus infinity. -/
def ashr (v : Int) (n : Nat) : Int := v / (2 ^ n : Nat)

/-- `v` limited to `lo` to `hi`; where `lo > hi`, `lo`. -/
def clamp (lo hi v : Int) : Int := max lo (min v hi)

/-- `v` limited to the signed numbers of `n` bits. -/
def satS (n : Nat) (v : Int) : Int := clamp (-(2 ^ (n - 1) : Nat)) ((2 ^ (n - 1) : Nat) - 1) v

/-- Truth as a bit. -/
def bit (b : Bool) : Nat := if b then 1 else 0

/-- Bit `n` of a mask. -/
def maskBit (w : Word) (n : Nat) : Bool := w.toNat.testBit n

/-- Division rounded to the nearest integer, halves up. -/
def roundDiv (a : Int) (b : Nat) : Int := (2 * a + b) / (2 * b)

/-- Division rounded up. -/
def ceilDiv (a b : Nat) : Nat := (a + b - 1) / b

/-- Lane `k` of a bead: bits 32k+31 to 32k (R100). -/
def lane (b : Bead) (k : Nat) : Word := word (b.toNat >>> (32 * k))

/-- A bead of four lanes, lane 0 in bits 31:0. -/
def ofLanes (a b c d : Word) : Bead :=
  BitVec.ofNat 128 (a.toNat + b.toNat * 2 ^ 32 + c.toNat * 2 ^ 64 + d.toNat * 2 ^ 96)

/-- The bead `b` with lane `k` replaced. -/
def putLane (b : Bead) (k : Nat) (v : Word) : Bead :=
  ofLanes (if k = 0 then v else lane b 0) (if k = 1 then v else lane b 1)
    (if k = 2 then v else lane b 2) (if k = 3 then v else lane b 3)

/-- A table of values by number, first entry found wins. -/
abbrev Tab (α : Type) := List (Nat × α)

/-- The entry of `k`, if the table lists one. -/
def tabFind {α : Type} : Tab α → Nat → Option α
  | [], _ => none
  | (k', v) :: t, k => if k' = k then some v else tabFind t k

/-- The entry of `k`, or `d` where the table lists none. -/
def tabGet {α : Type} (d : α) (t : Tab α) (k : Nat) : α := (tabFind t k).getD d

/-- The table with the entry of `k` set to `v`, kept in rising order of the keys. -/
def tabPut {α : Type} : Tab α → Nat → α → Tab α
  | [], k, v => [(k, v)]
  | (k', v') :: t, k, v =>
    if k' = k then (k, v) :: t
    else if k < k' then (k, v) :: (k', v') :: t
    else (k', v') :: tabPut t k v

/-- The table without the entry of `k`. -/
def tabDrop {α : Type} (t : Tab α) (k : Nat) : Tab α := t.filter (fun p => p.1 != k)

/-- The table without the entries whose key lies in `lo` to `hi`. -/
def tabDropRange {α : Type} (t : Tab α) (lo hi : Nat) : Tab α :=
  t.filter (fun p => !(decide (lo ≤ p.1) && decide (p.1 ≤ hi)))

/-- Bit `n` for each of the numbers below `k` that satisfies `p`. -/
def maskOf (k : Nat) (p : Nat → Bool) : Nat := ((List.range k).map (fun n => if p n then 2 ^ n else 0)).sum

/-- A left fold over the numbers below `n`. -/
def foldN {σ : Type} (n : Nat) (f : σ → Nat → σ) (s : σ) : σ := (List.range n).foldl f s

end Sys2Proof.Machine
end

