-- ==== Sys2Proof/Machine/RegMap.lean ====
section
/-! DEFINITION. Sys2Proof/Machine/RegMap.lean: the register map: every register the manual's tables name, with its
address, its instances, its reset value and its fields' access codes and stated ranges (spec/17_register_map.md R569,
R570 and the tables of the unit chapters; spec/00_scope.md R9). -/

namespace Sys2Proof.Machine

/-- The access codes of R9. -/
inductive Acc where
  | rw | ro | wo | w1c | w1s | rwl | rwc
  deriving DecidableEq, Repr

/-- The check a register's chapter states for a single field (R572). -/
inductive Chk where
  | any
  | inRange (lo hi : Nat)
  | inSigned (lo hi : Int)
  | oneOf (vs : List Nat)
  | msrc
  deriving DecidableEq, Repr

/-- The name of every register. -/
inductive Reg where
  | FRM_RCTL | FRM_RSTAT | FRM_PC | FRM_EPC | FRM_ECAUSE | FRM_EADDR | FRM_DOORBELL | FRM_PACE | CRG_CFG 
  | CRG_BASE | CRG_HEAD | CRG_TAIL | CRG_COUNT | CRG_RESERVED | CRG_TALLY | CRG_PRODUCED | CRG_CONSUMED 
  | CRG_LOST | CRG_VOID | CRG_STAT | DFE_GSTAT | DFE_XCHK | DFE_CH_CTL | DFE_CH_CELL | DFE_CH_CAL0 | DFE_CH_CAL1 
  | DFE_CH_TSRC | DFE_CH_CM | DFE_CH_FLT | DFE_EXC_PLAN | DFE_PLAN_FILT | DFE_ACT_PLAN | DFE_ACT_FILT | DFE_TONE 
  | DFE_ACT_TONE | DFE_CH_STAT | DFE_CH_MOIST | DFE_CH_MFLAG | DFE_CH_DENS | DFE_CH_DFLAG | DFE_CH_VCM | DFE_G 
  | DFE_C | PFE_CH_CTL | PFE_CH_CONV | PFE_CH_RANGE | PFE_CH_CJ | PFE_CH_CM | PFE_CH_FLT | PFE_CH_STAT 
  | PFE_CH_VAL | PFE_CH_FLAG | PFE_CH_RAW | PFE_CH_VCM | PFE_GSTAT | PFE_XCHK | PFE_EN_LO | PFE_EN_HI 
  | PFE_FAULT_LO | PFE_FAULT_HI | PFE_CJT | CRV_STAT | CRV_USE_LO | CRV_USE_HI | LPE_CTL | LPE_STAT | LPE_DIM 
  | LPE_PER | LPE_PHASE | LPE_ODLY | LPE_OBS | LPE_SUP | LPE_MISS | LPE_OVR | LPE_MACS | LPE_MSRC | LPE_FEPS 
  | LPE_FPRED | LPE_ODST | LPE_UMIN | LPE_UMAX | LPE_SAFE | LPE_MAN | LPE_UAPP | LPE_REF | LPE_IMIN | LPE_IMAX 
  | LPE_ZSRC | LPE_Z | LPE_BUMP | LPE_Y | LPE_YP | LPE_DLCFG | LPE_DLBASE | LPE_DLSRC | LPE_DLSTEP | LPE_DLACC 
  | LPE_X | RC_CTL | RC_CFG | RC_SIZE | RC_PSRC | RC_PER | RC_ORG | RC_HOLD | RC_Q | RC_QS | RC_RHO | RC_RHOS 
  | RC_GAMMA | RC_GAMMAS | RC_STAT | RC_IDX | RC_PHASE | RC_QOUT | LPE_GCTL | LPE_GSTAT | LPE_LOAD | LPE_POOL 
  | LPE_SAFE_LO | LPE_SAFE_HI | LPE_MISS_LO | LPE_MISS_HI | COEF | COEFS | DLPOOL | RCPOOL | TRC_CTL | TRC_SEL 
  | TRC_DIV | TRC_PER | TRC_TRG | TRC_LEVEL | TRC_PRE | TRC_STAT | TRC_COUNT | TRC_TTIME_LO | TRC_TTIME_HI 
  | TRC_BUF | SOL_GSTAT | SOL_ON | SOL_TRIPS | SOL_LOSTS | SOL_CLASS_S | SOL_BCFG | SOL_BCTL | SOL_BSTAT 
  | SOL_BPEAK | SOL_BVOLT | SOL_BCAP | SOL_CAP | SOL_CTL | SOL_CUR | SOL_TIM | SOL_OCL | SOL_MEAS | SOL_REP 
  | SOL_REPPH | SOL_TON_LO | SOL_TON_HI | SOL_DUR | SOL_CMD | SOL_STAT | SOL_CLR | SOL_DEFER | SOL_PULLIN 
  | SOL_DROPOUT | SOL_IMEAS | SOL_ONCNT | LSW_GSTAT | LSW_ON | LSW_FAULTS | LSW_OPENS | LSW_GPER | LSW_GUSE 
  | LSW_GRCTL | LSW_GRSTAT | LSW_GRVOLT | LSW_GRCUR | LSW_CTL | LSW_LIM | LSW_RETRY | LSW_PWM | LSW_DUTY 
  | LSW_CMD | LSW_STAT | LSW_CLR | LSW_IMEAS | LSW_VOUT | LSW_TEMP | LSW_FCNT | MTR_CTL | MTR_STAT | MTR_CMD 
  | MTR_PWM | MTR_MOT0 | MTR_MOT1 | MTR_MOT2 | MTR_ILIM | MTR_OCL | MTR_ST0 | MTR_ST1 | MTR_ST2 | MTR_ST3 
  | MTR_SPD | MTR_SMAX | MTR_KSP | MTR_KSI | MTR_KPOS | MTR_CBW | MTR_FB | MTR_SDFS | MTR_CLR | MTR_SPEED 
  | MTR_POS | MTR_FLAG | MTR_IQ | MTR_ID | MTR_IRMS | MTR_TACHSPD | MTR_TEMP | MTR_I2T | MTR_GSTAT | MTR_VDRV 
  | MTR_AXES | FAN_GCTL | FAN_HTO | FAN_ASTAT | FAN_AF | FAN_AFSTAT | FAN_GSTAT | FAN_AXCFG | FAN_AXSMAX 
  | FAN_AXDEM | FANA_AXCFG | FANA_AXSMAX | FANA_AXDEM | FAN_ZCTL | FAN_ZDEM | FAN_ZX | FAN_ZY | FANA_ZCTL 
  | FANA_ZDEM | FANA_ZX | FANA_ZY | CAN_CTL | CAN_STAT | CAN_NBT | CAN_DBT | CAN_TDC | CAN_ERRC | CAN_RECOVER 
  | CAN_RXCNT | CAN_RXSTORED | CAN_RXOVR | CAN_RXFILT | CAN_EVLOST | CAN_QLOST_A | CAN_QLOST_B | CAN_TXREQ 
  | CAN_TXCANCEL | CAN_TXPEND | CAN_RXFULL_LO | CAN_RXFULL_HI | CAN_RXLOCK_LO | CAN_RXLOCK_HI | CAN_RXREL_LO 
  | CAN_RXREL_HI | CAN_WAKE | CAN_RXF | CAN_RXM | CAN_RXBCFG | CAN_RXB | CAN_TXB | TIM_NOW_LO | TIM_NOW_HI 
  | TIM_DISC | TIM_STEPTH | TIM_SRCTO | TIM_STAT | TIM_OFS | TIM_RATE | TIM_FINT | TIM_STEPS | TIM_LSTEP_LO 
  | TIM_LSTEP_HI | TIM_PTP | TIM_PTPLAT | TIM_PTPDLY | TTS_CTL | TTS_STAT | TTS_CYC | TTS_CFG | TTS_REFID 
  | TTS_TMID | TTS_PROP | TTS_MISSED | TTS_REFMARK_LO | TTS_REFMARK_HI | TTS_CYCTIME | TTS_START | TTS_LEN 
  | TTS_CELL | TTS_OUT | COL_STATE | COL_ADDR | COL_PORT | COL_LIVE | COL_AGE | COL_SEQ | COL_TX | COL_TXBK 
  | COL_RX | COL_RXBK | COL_TOFS | COL_HLTH | COL_CMD | COL_GSTAT | COL_RECL | COL_PROB | COL_NREFUSED 
  | COL_NWAITED | COL_NPROBFAIL | COL_NOSPACE | COL_ADM | AF_CTL | AF_MATCH | AF_MASK | AF_ID | AF_LIVE | AF_LIM 
  | AF_SLOT | AF_SGAIN | AF_SOFS | COL_VAL | COL_VFLAG | NETH_CTL | NETH_STAT | NETH_MAC_LO | NETH_MAC_HI 
  | NETH_IP4 | NETH_IP4PFX | NETH_IP6 | NETH_UDP | NETH_CRED | NETH_RXFRM | NETH_RXDROP | NETH_AUTHFAIL 
  | NETH_TXDROP | KEY | KPERM | KRXHW_LO | KRXHW_HI | KTX_LO | KTX_HI | NETL_CTL | NETL_STAT | NETL_MAC_LO 
  | NETL_MAC_HI | NETL_IP4 | NETL_IP4PFX | NETL_IP6 | NETL_UDP | NETL_CRED | NETL_RXFRM | NETL_RXDROP 
  | NETL_AUTHFAIL | NETL_TXDROP | HLT_STAT | HLT_POOLS | HLT_SHED | HLT_RODMAP | HLT_TEMP | HLT_TMAX | HLT_HUMID 
  | HLT_VLOG | HLT_VCORE | HLT_SCRUB | HLT_SCRUBST | HLT_CORR | HLT_POISON | HLT_HUMLIM | HLT_MAPCLR | STO_CTL 
  | STO_STAT | STO_SEQ_LO | STO_SEQ_HI | STO_DIRTY | STO_LAST | STO_LASTUS | STO_UADDR | STO_UDATA | STO_LOGHEAD 
  | STO_LOGIDX | STO_LOGSTAT | STO_LOGLOST | STO_LOGREC | STO_LOGBUF | SYS_MODE | SYS_CONFIG | SYS_CMD 
  | SYS_STAT | SYS_RCAUSE | SYS_PDCTL | SYS_PDSTAT | SYS_SAFECFG | SYS_FIREMASK_LO | SYS_FIREMASK_HI 
  | SYS_FIRECTL | SYS_WDT | SYS_WDTKICK | SYS_WAKE | SYS_WAKEAT_LO | SYS_WAKEAT_HI | SYS_RHT_LSW | SYS_RHT_MTR 
  | SYS_RHT_TIME | SYS_HELD | SYS_HELDM | SYS_HREL | SYS_HRELM | SYS_CLR | DIO_IN | DIO_OUT | DIO_STAT 
  | DIO_CNTCLR | DIO_CFG | DIO_CNT | DIO_CNTAGE 
  deriving DecidableEq, Repr

/-- One field of a register: its bits `hi:lo`, its access code and its check. -/
structure FieldDesc where
  hi  : Nat
  lo  : Nat
  acc : Acc
  chk : Chk
  deriving DecidableEq, Repr

/-- One register of the map: instance `i`, `j` lies at `base + s1 * i + s2 * j`. -/
structure RegDesc where
  id     : Reg
  base   : Nat
  s1     : Nat
  n1     : Nat
  s2     : Nat
  n2     : Nat
  reset  : Word
  fields : List FieldDesc
  deriving DecidableEq, Repr

/-- The address of instance `i`, `j` of a register. -/
def RegDesc.addr (d : RegDesc) (i : Nat := 0) (j : Nat := 0) : Nat := d.base + d.s1 * i + d.s2 * j

/-- A named field: bits `hi:lo` of the register `reg`. -/
structure Fld where
  reg : RegDesc
  hi  : Nat
  lo  : Nat
  deriving DecidableEq, Repr

/-- The width of a field in bits. -/
def Fld.width (fl : Fld) : Nat := fl.hi + 1 - fl.lo

namespace R
def FRM_RCTL : RegDesc := ⟨.FRM_RCTL, 0x11001000, 0x100, 16, 0, 1, 0,
  [⟨1, 1, .w1s, .any⟩, ⟨0, 0, .w1s, .any⟩]⟩
def FRM_RSTAT : RegDesc := ⟨.FRM_RSTAT, 0x11001004, 0x100, 16, 0, 1, 0,
  [⟨31, 24, .ro, .any⟩, ⟨23, 22, .ro, .any⟩, ⟨19, 16, .ro, .any⟩, ⟨10, 10, .w1c, .any⟩, ⟨9, 9, .w1c, .any⟩, ⟨8, 8, .w1c, .any⟩, ⟨2, 0, .ro, .any⟩]⟩
def FRM_PC : RegDesc := ⟨.FRM_PC, 0x11001008, 0x100, 16, 0, 1, 0,
  [⟨31, 0, .ro, .any⟩]⟩
def FRM_EPC : RegDesc := ⟨.FRM_EPC, 0x1100100c, 0x100, 16, 0, 1, 0,
  [⟨31, 0, .ro, .any⟩]⟩
def FRM_ECAUSE : RegDesc := ⟨.FRM_ECAUSE, 0x11001010, 0x100, 16, 0, 1, 0,
  [⟨15, 12, .ro, .any⟩, ⟨8, 8, .ro, .any⟩, ⟨7, 0, .ro, .any⟩]⟩
def FRM_EADDR : RegDesc := ⟨.FRM_EADDR, 0x11001014, 0x100, 16, 0, 1, 0,
  [⟨31, 0, .ro, .any⟩]⟩
def FRM_DOORBELL : RegDesc := ⟨.FRM_DOORBELL, 0x11001018, 0x100, 16, 0, 1, 0,
  [⟨15, 0, .w1s, .any⟩]⟩
def FRM_PACE : RegDesc := ⟨.FRM_PACE, 0x1100101c, 0x100, 16, 0, 1, 0,
  [⟨15, 0, .ro, .any⟩]⟩
def CRG_CFG : RegDesc := ⟨.CRG_CFG, 0x11010000, 0x40, 32, 0, 1, 0,
  [⟨4, 1, .rwl, .inRange 0 12⟩, ⟨0, 0, .rw, .any⟩]⟩
def CRG_BASE : RegDesc := ⟨.CRG_BASE, 0x11010004, 0x40, 32, 0, 1, 0,
  [⟨31, 0, .rwl, .any⟩]⟩
def CRG_HEAD : RegDesc := ⟨.CRG_HEAD, 0x11010008, 0x40, 32, 0, 1, 0,
  [⟨31, 0, .ro, .any⟩]⟩
def CRG_TAIL : RegDesc := ⟨.CRG_TAIL, 0x1101000c, 0x40, 32, 0, 1, 0,
  [⟨31, 0, .ro, .any⟩]⟩
def CRG_COUNT : RegDesc := ⟨.CRG_COUNT, 0x11010010, 0x40, 32, 0, 1, 0,
  [⟨31, 0, .ro, .any⟩]⟩
def CRG_RESERVED : RegDesc := ⟨.CRG_RESERVED, 0x11010014, 0x40, 32, 0, 1, 0,
  [⟨31, 0, .ro, .any⟩]⟩
def CRG_TALLY : RegDesc := ⟨.CRG_TALLY, 0x11010018, 0x40, 32, 0, 1, 0,
  [⟨31, 0, .ro, .any⟩]⟩
def CRG_PRODUCED : RegDesc := ⟨.CRG_PRODUCED, 0x1101001c, 0x40, 32, 0, 1, 0,
  [⟨31, 0, .ro, .any⟩]⟩
def CRG_CONSUMED : RegDesc := ⟨.CRG_CONSUMED, 0x11010020, 0x40, 32, 0, 1, 0,
  [⟨31, 0, .ro, .any⟩]⟩
def CRG_LOST : RegDesc := ⟨.CRG_LOST, 0x11010024, 0x40, 32, 0, 1, 0,
  [⟨31, 0, .ro, .any⟩]⟩
def CRG_VOID : RegDesc := ⟨.CRG_VOID, 0x11010028, 0x40, 32, 0, 1, 0,
  [⟨31, 0, .ro, .any⟩]⟩
def CRG_STAT : RegDesc := ⟨.CRG_STAT, 0x1101002c, 0x40, 32, 0, 1, 0,
  [⟨2, 2, .w1c, .any⟩, ⟨1, 1, .w1c, .any⟩, ⟨0, 0, .w1c, .any⟩]⟩
def DFE_GSTAT : RegDesc := ⟨.DFE_GSTAT, 0x31000000, 0, 1, 0, 1, 0,
  [⟨24, 24, .w1c, .any⟩, ⟨23, 16, .ro, .any⟩, ⟨15, 8, .ro, .any⟩, ⟨7, 0, .ro, .any⟩]⟩
def DFE_XCHK : RegDesc := ⟨.DFE_XCHK, 0x31000004, 0, 1, 0, 1, 0x2580014,
  [⟨31, 16, .rw, .inRange 10 3600⟩, ⟨7, 0, .rw, .inRange 5 200⟩]⟩
def DFE_CH_CTL : RegDesc := ⟨.DFE_CH_CTL, 0x31001000, 0x100, 8, 0, 1, 0,
  [⟨15, 8, .rwl, .any⟩, ⟨0, 0, .rw, .any⟩]⟩
def DFE_CH_CELL : RegDesc := ⟨.DFE_CH_CELL, 0x31001004, 0x100, 8, 0, 1, 0x3e8,
  [⟨15, 0, .rwc, .inRange 100 50000⟩]⟩
def DFE_CH_CAL0 : RegDesc := ⟨.DFE_CH_CAL0, 0x31001008, 0x100, 8, 0, 1, 0,
  [⟨31, 16, .rwc, .any⟩, ⟨15, 0, .rwc, .any⟩]⟩
def DFE_CH_CAL1 : RegDesc := ⟨.DFE_CH_CAL1, 0x3100100c, 0x100, 8, 0, 1, 0x4000,
  [⟨31, 16, .rwc, .any⟩, ⟨15, 0, .rwc, .any⟩]⟩
def DFE_CH_TSRC : RegDesc := ⟨.DFE_CH_TSRC, 0x31001010, 0x100, 8, 0, 1, 0x3c0fff,
  [⟨23, 16, .rw, .inRange 1 255⟩, ⟨11, 0, .rw, .msrc⟩]⟩
def DFE_CH_CM : RegDesc := ⟨.DFE_CH_CM, 0x31001014, 0x100, 8, 0, 1, 0xc8ff38,
  [⟨31, 16, .rw, .any⟩, ⟨15, 0, .rw, .any⟩]⟩
def DFE_CH_FLT : RegDesc := ⟨.DFE_CH_FLT, 0x31001018, 0x100, 8, 0, 1, 0x407d0,
  [⟨23, 16, .rw, .inRange 1 255⟩, ⟨15, 0, .rw, .any⟩]⟩
def DFE_EXC_PLAN : RegDesc := ⟨.DFE_EXC_PLAN, 0x31001020, 0x100, 8, 0, 1, 0x3e8,
  [⟨31, 31, .w1s, .any⟩, ⟨16, 0, .rw, .any⟩]⟩
def DFE_PLAN_FILT : RegDesc := ⟨.DFE_PLAN_FILT, 0x31001024, 0x100, 8, 0, 1, 0x640010,
  [⟨26, 16, .rw, .any⟩, ⟨6, 0, .rw, .any⟩]⟩
def DFE_ACT_PLAN : RegDesc := ⟨.DFE_ACT_PLAN, 0x31001028, 0x100, 8, 0, 1, 0x3e8,
  [⟨16, 0, .ro, .any⟩]⟩
def DFE_ACT_FILT : RegDesc := ⟨.DFE_ACT_FILT, 0x3100102c, 0x100, 8, 0, 1, 0x640010,
  [⟨26, 16, .ro, .any⟩, ⟨6, 0, .ro, .any⟩]⟩
def DFE_TONE : RegDesc := ⟨.DFE_TONE, 0x31001040, 0x100, 8, 4, 8, 0,
  [⟨31, 24, .rw, .any⟩, ⟨20, 0, .rw, .any⟩]⟩
def DFE_ACT_TONE : RegDesc := ⟨.DFE_ACT_TONE, 0x31001060, 0x100, 8, 4, 8, 0,
  [⟨31, 24, .ro, .any⟩, ⟨20, 0, .ro, .any⟩]⟩
def DFE_CH_STAT : RegDesc := ⟨.DFE_CH_STAT, 0x31001080, 0x100, 8, 0, 1, 0,
  [⟨31, 24, .ro, .any⟩, ⟨19, 19, .w1c, .any⟩, ⟨18, 18, .w1c, .any⟩, ⟨17, 17, .w1c, .any⟩, ⟨16, 16, .w1c, .any⟩, ⟨8, 8, .ro, .any⟩, ⟨7, 7, .ro, .any⟩, ⟨6, 6, .ro, .any⟩, ⟨5, 3, .ro, .any⟩, ⟨2, 2, .ro, .any⟩, ⟨1, 1, .ro, .any⟩, ⟨0, 0, .ro, .any⟩]⟩
def DFE_CH_MOIST : RegDesc := ⟨.DFE_CH_MOIST, 0x31001084, 0x100, 8, 0, 1, 0,
  [⟨31, 0, .ro, .any⟩]⟩
def DFE_CH_MFLAG : RegDesc := ⟨.DFE_CH_MFLAG, 0x31001088, 0x100, 8, 0, 1, 1,
  [⟨31, 16, .ro, .any⟩, ⟨7, 0, .ro, .any⟩]⟩
def DFE_CH_DENS : RegDesc := ⟨.DFE_CH_DENS, 0x3100108c, 0x100, 8, 0, 1, 0,
  [⟨31, 0, .ro, .any⟩]⟩
def DFE_CH_DFLAG : RegDesc := ⟨.DFE_CH_DFLAG, 0x31001090, 0x100, 8, 0, 1, 1,
  [⟨31, 16, .ro, .any⟩, ⟨7, 0, .ro, .any⟩]⟩
def DFE_CH_VCM : RegDesc := ⟨.DFE_CH_VCM, 0x31001094, 0x100, 8, 0, 1, 0,
  [⟨31, 0, .ro, .any⟩]⟩
def DFE_G : RegDesc := ⟨.DFE_G, 0x310010a0, 0x100, 8, 8, 8, 0,
  [⟨31, 0, .ro, .any⟩]⟩
def DFE_C : RegDesc := ⟨.DFE_C, 0x310010a4, 0x100, 8, 8, 8, 0,
  [⟨31, 0, .ro, .any⟩]⟩
def PFE_CH_CTL : RegDesc := ⟨.PFE_CH_CTL, 0x30000000, 0x100, 48, 0, 1, 0,
  [⟨23, 16, .rwl, .any⟩, ⟨11, 8, .rwl, .inRange 0 5⟩, ⟨2, 2, .rw, .any⟩, ⟨0, 0, .rw, .any⟩]⟩
def PFE_CH_CONV : RegDesc := ⟨.PFE_CH_CONV, 0x30000004, 0x100, 48, 0, 1, 0,
  [⟨9, 8, .rwl, .inRange 0 2⟩, ⟨5, 4, .rwl, .inRange 0 2⟩, ⟨3, 0, .rwl, .inRange 0 9⟩]⟩
def PFE_CH_RANGE : RegDesc := ⟨.PFE_CH_RANGE, 0x30000008, 0x100, 48, 0, 1, 0x3031,
  [⟨13, 12, .rw, .any⟩, ⟨9, 8, .rw, .any⟩, ⟨5, 4, .rw, .any⟩, ⟨0, 0, .rw, .any⟩]⟩
def PFE_CH_CJ : RegDesc := ⟨.PFE_CH_CJ, 0x3000000c, 0x100, 48, 0, 1, 0xfff,
  [⟨16, 16, .rw, .any⟩, ⟨11, 0, .rw, .msrc⟩]⟩
def PFE_CH_CM : RegDesc := ⟨.PFE_CH_CM, 0x30000010, 0x100, 48, 0, 1, 0x9c401f4,
  [⟨31, 16, .rw, .any⟩, ⟨15, 0, .rw, .any⟩]⟩
def PFE_CH_FLT : RegDesc := ⟨.PFE_CH_FLT, 0x30000014, 0x100, 48, 0, 1, 0x43c0e10,
  [⟨31, 24, .rw, .inRange 1 255⟩, ⟨23, 16, .rw, .inRange 1 255⟩, ⟨15, 0, .rw, .inRange 0 20000⟩]⟩
def PFE_CH_STAT : RegDesc := ⟨.PFE_CH_STAT, 0x30000020, 0x100, 48, 0, 1, 0,
  [⟨19, 19, .w1c, .any⟩, ⟨18, 18, .w1c, .any⟩, ⟨17, 17, .w1c, .any⟩, ⟨16, 16, .w1c, .any⟩, ⟨13, 12, .ro, .any⟩, ⟨11, 8, .ro, .any⟩, ⟨5, 5, .ro, .any⟩, ⟨4, 4, .ro, .any⟩, ⟨3, 3, .ro, .any⟩, ⟨2, 2, .ro, .any⟩, ⟨1, 1, .ro, .any⟩, ⟨0, 0, .ro, .any⟩]⟩
def PFE_CH_VAL : RegDesc := ⟨.PFE_CH_VAL, 0x30000024, 0x100, 48, 0, 1, 0,
  [⟨31, 0, .ro, .any⟩]⟩
def PFE_CH_FLAG : RegDesc := ⟨.PFE_CH_FLAG, 0x30000028, 0x100, 48, 0, 1, 1,
  [⟨31, 16, .ro, .any⟩, ⟨7, 0, .ro, .any⟩]⟩
def PFE_CH_RAW : RegDesc := ⟨.PFE_CH_RAW, 0x3000002c, 0x100, 48, 0, 1, 0,
  [⟨31, 0, .ro, .any⟩]⟩
def PFE_CH_VCM : RegDesc := ⟨.PFE_CH_VCM, 0x30000030, 0x100, 48, 0, 1, 0,
  [⟨31, 0, .ro, .any⟩]⟩
def PFE_GSTAT : RegDesc := ⟨.PFE_GSTAT, 0x30008000, 0, 1, 0, 1, 0,
  [⟨0, 0, .w1c, .any⟩]⟩
def PFE_XCHK : RegDesc := ⟨.PFE_XCHK, 0x30008004, 0, 1, 0, 1, 0xa00c8,
  [⟨31, 16, .rw, .inRange 1 3600⟩, ⟨15, 0, .rw, .inRange 10 10000⟩]⟩
def PFE_EN_LO : RegDesc := ⟨.PFE_EN_LO, 0x30008008, 0, 1, 0, 1, 0,
  [⟨31, 0, .ro, .any⟩]⟩
def PFE_EN_HI : RegDesc := ⟨.PFE_EN_HI, 0x3000800c, 0, 1, 0, 1, 0,
  [⟨31, 0, .ro, .any⟩]⟩
def PFE_FAULT_LO : RegDesc := ⟨.PFE_FAULT_LO, 0x30008010, 0, 1, 0, 1, 0,
  [⟨31, 0, .ro, .any⟩]⟩
def PFE_FAULT_HI : RegDesc := ⟨.PFE_FAULT_HI, 0x30008014, 0, 1, 0, 1, 0,
  [⟨31, 0, .ro, .any⟩]⟩
def PFE_CJT : RegDesc := ⟨.PFE_CJT, 0x30008040, 4, 12, 0, 1, 0,
  [⟨31, 0, .ro, .any⟩]⟩
def CRV_STAT : RegDesc := ⟨.CRV_STAT, 0x32000000, 0, 1, 0, 1, 0,
  [⟨0, 0, .w1c, .any⟩]⟩
def CRV_USE_LO : RegDesc := ⟨.CRV_USE_LO, 0x32000010, 0, 1, 0, 1, 0,
  [⟨31, 0, .ro, .any⟩]⟩
def CRV_USE_HI : RegDesc := ⟨.CRV_USE_HI, 0x32000014, 0, 1, 0, 1, 0,
  [⟨31, 0, .ro, .any⟩]⟩
def LPE_CTL : RegDesc := ⟨.LPE_CTL, 0x20000000, 0x1000, 64, 0, 1, 0,
  [⟨17, 17, .w1s, .any⟩, ⟨16, 16, .w1s, .any⟩, ⟨8, 8, .rwl, .any⟩, ⟨2, 0, .wo, .any⟩]⟩
def LPE_STAT : RegDesc := ⟨.LPE_STAT, 0x20000004, 0x1000, 64, 0, 1, 0,
  [⟨31, 28, .ro, .any⟩, ⟨23, 23, .ro, .any⟩, ⟨22, 22, .ro, .any⟩, ⟨21, 21, .ro, .any⟩, ⟨20, 20, .ro, .any⟩, ⟨19, 19, .ro, .any⟩, ⟨18, 18, .ro, .any⟩, ⟨17, 17, .ro, .any⟩, ⟨16, 16, .ro, .any⟩, ⟨15, 15, .ro, .any⟩, ⟨14, 14, .ro, .any⟩, ⟨8, 8, .w1c, .any⟩, ⟨7, 7, .w1c, .any⟩, ⟨6, 6, .w1c, .any⟩, ⟨5, 5, .w1c, .any⟩, ⟨4, 4, .w1c, .any⟩, ⟨2, 0, .ro, .any⟩]⟩
def LPE_DIM : RegDesc := ⟨.LPE_DIM, 0x20000008, 0x1000, 64, 0, 1, 0x10001,
  [⟨26, 24, .rwl, .any⟩, ⟨18, 16, .rwl, .any⟩, ⟨11, 8, .rwl, .any⟩, ⟨4, 0, .rwl, .any⟩]⟩
def LPE_PER : RegDesc := ⟨.LPE_PER, 0x2000000c, 0x1000, 64, 0, 1, 0x186a0,
  [⟨26, 0, .rwl, .inRange 50 60000000⟩]⟩
def LPE_PHASE : RegDesc := ⟨.LPE_PHASE, 0x20000010, 0x1000, 64, 0, 1, 0,
  [⟨26, 0, .rwl, .any⟩]⟩
def LPE_ODLY : RegDesc := ⟨.LPE_ODLY, 0x20000014, 0x1000, 64, 0, 1, 0x4e20,
  [⟨31, 0, .rwl, .inRange 1 4294967295⟩]⟩
def LPE_OBS : RegDesc := ⟨.LPE_OBS, 0x20000018, 0x1000, 64, 0, 1, 0x7530,
  [⟨31, 0, .rw, .inRange 1 4294967295⟩]⟩
def LPE_SUP : RegDesc := ⟨.LPE_SUP, 0x2000001c, 0x1000, 64, 0, 1, 0x100400,
  [⟨23, 16, .rw, .any⟩, ⟨15, 8, .rw, .inRange 1 255⟩, ⟨7, 0, .rw, .any⟩]⟩
def LPE_MISS : RegDesc := ⟨.LPE_MISS, 0x20000020, 0x1000, 64, 0, 1, 0,
  [⟨31, 0, .ro, .any⟩]⟩
def LPE_OVR : RegDesc := ⟨.LPE_OVR, 0x20000024, 0x1000, 64, 0, 1, 0,
  [⟨31, 0, .ro, .any⟩]⟩
def LPE_MACS : RegDesc := ⟨.LPE_MACS, 0x20000028, 0x1000, 64, 0, 1, 0x30003,
  [⟨31, 16, .ro, .any⟩, ⟨15, 0, .ro, .any⟩]⟩
def LPE_MSRC : RegDesc := ⟨.LPE_MSRC, 0x20000040, 0x1000, 64, 4, 8, 0xffff0fff,
  [⟨31, 16, .rwl, .any⟩, ⟨13, 13, .rwl, .any⟩, ⟨12, 12, .rwl, .any⟩, ⟨11, 0, .rwl, .msrc⟩]⟩
def LPE_FEPS : RegDesc := ⟨.LPE_FEPS, 0x20000060, 0x1000, 64, 8, 8, 0,
  [⟨31, 0, .rw, .any⟩]⟩
def LPE_FPRED : RegDesc := ⟨.LPE_FPRED, 0x20000064, 0x1000, 64, 8, 8, 0,
  [⟨31, 0, .rw, .any⟩]⟩
def LPE_ODST : RegDesc := ⟨.LPE_ODST, 0x200000a0, 0x1000, 64, 4, 4, 0,
  [⟨11, 0, .rwl, .any⟩]⟩
def LPE_UMIN : RegDesc := ⟨.LPE_UMIN, 0x200000b0, 0x1000, 64, 4, 4, 0x80000000,
  [⟨31, 0, .rwl, .any⟩]⟩
def LPE_UMAX : RegDesc := ⟨.LPE_UMAX, 0x200000c0, 0x1000, 64, 4, 4, 0x7fffffff,
  [⟨31, 0, .rwl, .any⟩]⟩
def LPE_SAFE : RegDesc := ⟨.LPE_SAFE, 0x200000d0, 0x1000, 64, 4, 4, 0,
  [⟨31, 0, .rw, .any⟩]⟩
def LPE_MAN : RegDesc := ⟨.LPE_MAN, 0x200000e0, 0x1000, 64, 4, 4, 0,
  [⟨31, 0, .rw, .any⟩]⟩
def LPE_UAPP : RegDesc := ⟨.LPE_UAPP, 0x200000f0, 0x1000, 64, 4, 4, 0,
  [⟨31, 0, .ro, .any⟩]⟩
def LPE_REF : RegDesc := ⟨.LPE_REF, 0x20000100, 0x1000, 64, 4, 4, 0,
  [⟨31, 0, .rw, .any⟩]⟩
def LPE_IMIN : RegDesc := ⟨.LPE_IMIN, 0x20000110, 0x1000, 64, 4, 4, 0x80000000,
  [⟨31, 0, .rwl, .any⟩]⟩
def LPE_IMAX : RegDesc := ⟨.LPE_IMAX, 0x20000120, 0x1000, 64, 4, 4, 0x7fffffff,
  [⟨31, 0, .rwl, .any⟩]⟩
def LPE_ZSRC : RegDesc := ⟨.LPE_ZSRC, 0x20000130, 0x1000, 64, 4, 4, 0,
  [⟨2, 0, .rwl, .any⟩]⟩
def LPE_Z : RegDesc := ⟨.LPE_Z, 0x20000140, 0x1000, 64, 4, 4, 0,
  [⟨31, 0, .rwl, .any⟩]⟩
def LPE_BUMP : RegDesc := ⟨.LPE_BUMP, 0x20000150, 0x1000, 64, 4, 4, 0,
  [⟨31, 0, .ro, .any⟩]⟩
def LPE_Y : RegDesc := ⟨.LPE_Y, 0x20000160, 0x1000, 64, 4, 8, 0,
  [⟨31, 0, .ro, .any⟩]⟩
def LPE_YP : RegDesc := ⟨.LPE_YP, 0x20000180, 0x1000, 64, 4, 8, 0,
  [⟨31, 0, .ro, .any⟩]⟩
def LPE_DLCFG : RegDesc := ⟨.LPE_DLCFG, 0x200001a0, 0x1000, 64, 0, 1, 0x10000,
  [⟨25, 16, .rwl, .inRange 1 512⟩, ⟨3, 3, .rwl, .any⟩, ⟨2, 2, .rwl, .any⟩, ⟨1, 0, .rwl, .inRange 0 2⟩]⟩
def LPE_DLBASE : RegDesc := ⟨.LPE_DLBASE, 0x200001a4, 0x1000, 64, 0, 1, 0x10000,
  [⟨31, 16, .rwl, .inRange 1 65535⟩, ⟨13, 0, .rwl, .any⟩]⟩
def LPE_DLSRC : RegDesc := ⟨.LPE_DLSRC, 0x200001a8, 0x1000, 64, 0, 1, 0xfff0fff,
  [⟨27, 16, .rwl, .msrc⟩, ⟨11, 0, .rwl, .msrc⟩]⟩
def LPE_DLSTEP : RegDesc := ⟨.LPE_DLSTEP, 0x200001ac, 0x1000, 64, 0, 1, 1,
  [⟨31, 0, .rwl, .inRange 1 2147483647⟩]⟩
def LPE_DLACC : RegDesc := ⟨.LPE_DLACC, 0x200001b0, 0x1000, 64, 0, 1, 0,
  [⟨31, 0, .ro, .any⟩]⟩
def LPE_X : RegDesc := ⟨.LPE_X, 0x200001c0, 0x1000, 64, 4, 16, 0,
  [⟨31, 0, .rwl, .any⟩]⟩
def RC_CTL : RegDesc := ⟨.RC_CTL, 0x20000200, 0x1000, 64, 0, 1, 0,
  [⟨8, 8, .w1s, .any⟩, ⟨1, 1, .rw, .any⟩, ⟨0, 0, .rw, .any⟩]⟩
def RC_CFG : RegDesc := ⟨.RC_CFG, 0x20000204, 0x1000, 64, 0, 1, 0,
  [⟨27, 16, .rwl, .any⟩, ⟨9, 8, .rwl, .any⟩, ⟨5, 4, .rwl, .any⟩, ⟨2, 2, .rwl, .any⟩, ⟨1, 0, .rwl, .inRange 0 2⟩]⟩
def RC_SIZE : RegDesc := ⟨.RC_SIZE, 0x20000208, 0x1000, 64, 0, 1, 0x80000,
  [⟨28, 16, .rwl, .any⟩, ⟨15, 0, .rwl, .any⟩]⟩
def RC_PSRC : RegDesc := ⟨.RC_PSRC, 0x2000020c, 0x1000, 64, 0, 1, 0xfff0fff,
  [⟨27, 16, .rwl, .msrc⟩, ⟨11, 0, .rwl, .msrc⟩]⟩
def RC_PER : RegDesc := ⟨.RC_PER, 0x20000210, 0x1000, 64, 0, 1, 1,
  [⟨31, 0, .rwl, .inRange 1 2147483647⟩]⟩
def RC_ORG : RegDesc := ⟨.RC_ORG, 0x20000214, 0x1000, 64, 0, 1, 0,
  [⟨31, 0, .rwl, .any⟩]⟩
def RC_HOLD : RegDesc := ⟨.RC_HOLD, 0x20000218, 0x1000, 64, 0, 1, 0xa,
  [⟨15, 0, .rw, .any⟩]⟩
def RC_Q : RegDesc := ⟨.RC_Q, 0x20000220, 0x1000, 64, 8, 7, 0,
  [⟨31, 0, .rwl, .any⟩]⟩
def RC_QS : RegDesc := ⟨.RC_QS, 0x20000224, 0x1000, 64, 8, 7, 0,
  [⟨5, 0, .rwl, .inRange 0 62⟩]⟩
def RC_RHO : RegDesc := ⟨.RC_RHO, 0x20000258, 0x1000, 64, 0, 1, 1,
  [⟨31, 0, .rwl, .any⟩]⟩
def RC_RHOS : RegDesc := ⟨.RC_RHOS, 0x2000025c, 0x1000, 64, 0, 1, 0,
  [⟨5, 0, .rwl, .inRange 0 62⟩]⟩
def RC_GAMMA : RegDesc := ⟨.RC_GAMMA, 0x20000260, 0x1000, 64, 0, 1, 0,
  [⟨31, 0, .rwl, .any⟩]⟩
def RC_GAMMAS : RegDesc := ⟨.RC_GAMMAS, 0x20000264, 0x1000, 64, 0, 1, 0,
  [⟨5, 0, .rwl, .inRange 0 62⟩]⟩
def RC_STAT : RegDesc := ⟨.RC_STAT, 0x20000270, 0x1000, 64, 0, 1, 0,
  [⟨9, 9, .w1c, .any⟩, ⟨8, 8, .w1c, .any⟩, ⟨5, 5, .ro, .any⟩, ⟨4, 4, .ro, .any⟩, ⟨3, 3, .ro, .any⟩, ⟨2, 2, .ro, .any⟩, ⟨1, 1, .ro, .any⟩, ⟨0, 0, .ro, .any⟩]⟩
def RC_IDX : RegDesc := ⟨.RC_IDX, 0x20000274, 0x1000, 64, 0, 1, 0,
  [⟨11, 0, .ro, .any⟩]⟩
def RC_PHASE : RegDesc := ⟨.RC_PHASE, 0x20000278, 0x1000, 64, 0, 1, 0,
  [⟨31, 0, .ro, .any⟩]⟩
def RC_QOUT : RegDesc := ⟨.RC_QOUT, 0x2000027c, 0x1000, 64, 0, 1, 0,
  [⟨31, 0, .ro, .any⟩]⟩
def LPE_GCTL : RegDesc := ⟨.LPE_GCTL, 0x20040000, 0, 1, 0, 1, 0,
  [⟨0, 0, .w1s, .any⟩]⟩
def LPE_GSTAT : RegDesc := ⟨.LPE_GSTAT, 0x20040004, 0, 1, 0, 1, 0x13e84,
  [⟨16, 16, .ro, .any⟩, ⟨15, 4, .ro, .any⟩, ⟨2, 0, .ro, .any⟩]⟩
def LPE_LOAD : RegDesc := ⟨.LPE_LOAD, 0x20040008, 0, 1, 0, 1, 0,
  [⟨31, 0, .ro, .any⟩]⟩
def LPE_POOL : RegDesc := ⟨.LPE_POOL, 0x2004000c, 0, 1, 0, 1, 0,
  [⟨14, 0, .ro, .any⟩]⟩
def LPE_SAFE_LO : RegDesc := ⟨.LPE_SAFE_LO, 0x20040010, 0, 1, 0, 1, 0,
  [⟨31, 0, .ro, .any⟩]⟩
def LPE_SAFE_HI : RegDesc := ⟨.LPE_SAFE_HI, 0x20040014, 0, 1, 0, 1, 0,
  [⟨31, 0, .ro, .any⟩]⟩
def LPE_MISS_LO : RegDesc := ⟨.LPE_MISS_LO, 0x20040018, 0, 1, 0, 1, 0,
  [⟨31, 0, .ro, .any⟩]⟩
def LPE_MISS_HI : RegDesc := ⟨.LPE_MISS_HI, 0x2004001c, 0, 1, 0, 1, 0,
  [⟨31, 0, .ro, .any⟩]⟩
def COEF : RegDesc := ⟨.COEF, 0x20100000, 0x2000, 64, 8, 1024, 0,
  [⟨31, 0, .rwl, .any⟩]⟩
def COEFS : RegDesc := ⟨.COEFS, 0x20100004, 0x2000, 64, 8, 1024, 0,
  [⟨5, 0, .rwl, .inRange 0 62⟩]⟩
def DLPOOL : RegDesc := ⟨.DLPOOL, 0x20180000, 4, 16384, 0, 1, 0,
  [⟨31, 0, .rw, .any⟩]⟩
def RCPOOL : RegDesc := ⟨.RCPOOL, 0x20200000, 4, 65536, 0, 1, 0,
  [⟨31, 0, .rw, .any⟩]⟩
def TRC_CTL : RegDesc := ⟨.TRC_CTL, 0x21000000, 0x40, 8, 0, 1, 0,
  [⟨2, 2, .w1s, .any⟩, ⟨1, 1, .w1s, .any⟩, ⟨0, 0, .w1s, .any⟩]⟩
def TRC_SEL : RegDesc := ⟨.TRC_SEL, 0x21000004, 0x40, 8, 0, 1, 0xfff,
  [⟨31, 28, .rwl, .inRange 0 14⟩, ⟨21, 16, .rwl, .any⟩, ⟨11, 0, .rwl, .any⟩]⟩
def TRC_DIV : RegDesc := ⟨.TRC_DIV, 0x21000008, 0x40, 8, 0, 1, 1,
  [⟨15, 0, .rwl, .inRange 1 65535⟩]⟩
def TRC_PER : RegDesc := ⟨.TRC_PER, 0x2100000c, 0x40, 8, 0, 1, 0x3e8,
  [⟨26, 0, .rwl, .inRange 50 60000000⟩]⟩
def TRC_TRG : RegDesc := ⟨.TRC_TRG, 0x21000010, 0x40, 8, 0, 1, 0,
  [⟨23, 16, .rwl, .any⟩, ⟨15, 8, .rwl, .any⟩, ⟨2, 0, .rwl, .inRange 0 5⟩]⟩
def TRC_LEVEL : RegDesc := ⟨.TRC_LEVEL, 0x21000014, 0x40, 8, 0, 1, 0,
  [⟨31, 0, .rwl, .any⟩]⟩
def TRC_PRE : RegDesc := ⟨.TRC_PRE, 0x21000018, 0x40, 8, 0, 1, 0x800,
  [⟨11, 0, .rwl, .any⟩]⟩
def TRC_STAT : RegDesc := ⟨.TRC_STAT, 0x2100001c, 0x40, 8, 0, 1, 0,
  [⟨27, 16, .ro, .any⟩, ⟨9, 9, .w1c, .any⟩, ⟨8, 8, .ro, .any⟩, ⟨6, 4, .ro, .any⟩, ⟨1, 0, .ro, .any⟩]⟩
def TRC_COUNT : RegDesc := ⟨.TRC_COUNT, 0x21000020, 0x40, 8, 0, 1, 0,
  [⟨12, 0, .ro, .any⟩]⟩
def TRC_TTIME_LO : RegDesc := ⟨.TRC_TTIME_LO, 0x21000024, 0x40, 8, 0, 1, 0,
  [⟨31, 0, .ro, .any⟩]⟩
def TRC_TTIME_HI : RegDesc := ⟨.TRC_TTIME_HI, 0x21000028, 0x40, 8, 0, 1, 0,
  [⟨31, 0, .ro, .any⟩]⟩
def TRC_BUF : RegDesc := ⟨.TRC_BUF, 0x21100000, 0x8000, 8, 4, 8192, 0,
  [⟨31, 0, .ro, .any⟩]⟩
def SOL_GSTAT : RegDesc := ⟨.SOL_GSTAT, 0x40000000, 0, 1, 0, 1, 0,
  [⟨2, 2, .w1c, .any⟩, ⟨1, 1, .ro, .any⟩, ⟨0, 0, .w1c, .any⟩]⟩
def SOL_ON : RegDesc := ⟨.SOL_ON, 0x40000004, 0, 1, 0, 1, 0,
  [⟨31, 0, .ro, .any⟩]⟩
def SOL_TRIPS : RegDesc := ⟨.SOL_TRIPS, 0x40000008, 0, 1, 0, 1, 0,
  [⟨31, 0, .ro, .any⟩]⟩
def SOL_LOSTS : RegDesc := ⟨.SOL_LOSTS, 0x4000000c, 0, 1, 0, 1, 0,
  [⟨31, 0, .ro, .any⟩]⟩
def SOL_CLASS_S : RegDesc := ⟨.SOL_CLASS_S, 0x40000010, 0, 1, 0, 1, 0,
  [⟨23, 0, .rwc, .any⟩]⟩
def SOL_BCFG : RegDesc := ⟨.SOL_BCFG, 0x40000100, 0x40, 6, 0, 1, 0x3201f4,
  [⟨27, 16, .rw, .inRange 1 4095⟩, ⟨11, 0, .rw, .inRange 0 2000⟩]⟩
def SOL_BCTL : RegDesc := ⟨.SOL_BCTL, 0x40000104, 0x40, 6, 0, 1, 0,
  [⟨0, 0, .w1s, .any⟩]⟩
def SOL_BSTAT : RegDesc := ⟨.SOL_BSTAT, 0x40000108, 0x40, 6, 0, 1, 8,
  [⟨8, 8, .w1c, .any⟩, ⟨3, 3, .ro, .any⟩, ⟨2, 1, .ro, .any⟩, ⟨0, 0, .ro, .any⟩]⟩
def SOL_BPEAK : RegDesc := ⟨.SOL_BPEAK, 0x4000010c, 0x40, 6, 0, 1, 0,
  [⟨18, 16, .ro, .any⟩, ⟨15, 0, .ro, .any⟩]⟩
def SOL_BVOLT : RegDesc := ⟨.SOL_BVOLT, 0x40000110, 0x40, 6, 0, 1, 0,
  [⟨31, 0, .ro, .any⟩]⟩
def SOL_BCAP : RegDesc := ⟨.SOL_BCAP, 0x40000114, 0x40, 6, 0, 1, 0,
  [⟨31, 31, .ro, .any⟩, ⟨4, 0, .ro, .any⟩]⟩
def SOL_CAP : RegDesc := ⟨.SOL_CAP, 0x40008000, 0x400, 6, 4, 256, 0,
  [⟨15, 0, .ro, .any⟩]⟩
def SOL_CTL : RegDesc := ⟨.SOL_CTL, 0x40001000, 0x80, 24, 0, 1, 0,
  [⟨8, 8, .ro, .any⟩, ⟨7, 7, .rw, .any⟩, ⟨6, 6, .rwl, .any⟩, ⟨5, 5, .rwl, .any⟩, ⟨4, 4, .rwl, .any⟩, ⟨3, 2, .rwl, .any⟩, ⟨1, 1, .rwl, .any⟩, ⟨0, 0, .rw, .any⟩]⟩
def SOL_CUR : RegDesc := ⟨.SOL_CUR, 0x40001004, 0x80, 24, 0, 1, 0x12c03e8,
  [⟨31, 16, .rwl, .inRange 200 8000⟩, ⟨15, 0, .rwl, .inRange 500 24000⟩]⟩
def SOL_TIM : RegDesc := ⟨.SOL_TIM, 0x40001008, 0x80, 24, 0, 1, 0x1f403e8,
  [⟨25, 16, .rwl, .inRange 250 1000⟩, ⟨14, 0, .rwl, .inRange 50 20000⟩]⟩
def SOL_OCL : RegDesc := ⟨.SOL_OCL, 0x4000100c, 0x80, 24, 0, 1, 0x6407d0,
  [⟨31, 16, .rwl, .inRange 20 1000⟩, ⟨15, 0, .rwl, .inRange 1000 15000⟩]⟩
def SOL_MEAS : RegDesc := ⟨.SOL_MEAS, 0x40001010, 0x80, 24, 0, 1, 0x64,
  [⟨31, 31, .rwl, .any⟩, ⟨29, 16, .rwl, .inRange 0 10000⟩, ⟨11, 0, .rwl, .inRange 0 2000⟩]⟩
def SOL_REP : RegDesc := ⟨.SOL_REP, 0x40001014, 0x80, 24, 0, 1, 0x186a0,
  [⟨26, 0, .rwl, .inRange 100 10000000⟩]⟩
def SOL_REPPH : RegDesc := ⟨.SOL_REPPH, 0x40001018, 0x80, 24, 0, 1, 0,
  [⟨26, 0, .rwl, .any⟩]⟩
def SOL_TON_LO : RegDesc := ⟨.SOL_TON_LO, 0x40001020, 0x80, 24, 0, 1, 0,
  [⟨31, 0, .rw, .any⟩]⟩
def SOL_TON_HI : RegDesc := ⟨.SOL_TON_HI, 0x40001024, 0x80, 24, 0, 1, 0,
  [⟨31, 0, .rw, .any⟩]⟩
def SOL_DUR : RegDesc := ⟨.SOL_DUR, 0x40001028, 0x80, 24, 0, 1, 0,
  [⟨31, 0, .rw, .any⟩]⟩
def SOL_CMD : RegDesc := ⟨.SOL_CMD, 0x4000102c, 0x80, 24, 0, 1, 0,
  [⟨8, 8, .wo, .any⟩, ⟨2, 0, .wo, .any⟩]⟩
def SOL_STAT : RegDesc := ⟨.SOL_STAT, 0x40001030, 0x80, 24, 0, 1, 0,
  [⟨23, 23, .w1c, .any⟩, ⟨22, 22, .w1c, .any⟩, ⟨21, 21, .w1c, .any⟩, ⟨20, 20, .w1c, .any⟩, ⟨19, 19, .w1c, .any⟩, ⟨18, 18, .w1c, .any⟩, ⟨17, 17, .w1c, .any⟩, ⟨16, 16, .w1c, .any⟩, ⟨10, 10, .ro, .any⟩, ⟨9, 9, .ro, .any⟩, ⟨8, 8, .ro, .any⟩, ⟨7, 7, .ro, .any⟩, ⟨6, 6, .ro, .any⟩, ⟨5, 5, .ro, .any⟩, ⟨4, 4, .ro, .any⟩, ⟨3, 3, .ro, .any⟩, ⟨2, 1, .ro, .any⟩, ⟨0, 0, .ro, .any⟩]⟩
def SOL_CLR : RegDesc := ⟨.SOL_CLR, 0x40001034, 0x80, 24, 0, 1, 0,
  [⟨0, 0, .w1s, .any⟩]⟩
def SOL_DEFER : RegDesc := ⟨.SOL_DEFER, 0x40001038, 0x80, 24, 0, 1, 0,
  [⟨31, 0, .ro, .any⟩]⟩
def SOL_PULLIN : RegDesc := ⟨.SOL_PULLIN, 0x4000103c, 0x80, 24, 0, 1, 0,
  [⟨31, 31, .ro, .any⟩, ⟨24, 0, .ro, .any⟩]⟩
def SOL_DROPOUT : RegDesc := ⟨.SOL_DROPOUT, 0x40001040, 0x80, 24, 0, 1, 0,
  [⟨31, 31, .ro, .any⟩, ⟨24, 0, .ro, .any⟩]⟩
def SOL_IMEAS : RegDesc := ⟨.SOL_IMEAS, 0x40001044, 0x80, 24, 0, 1, 0,
  [⟨15, 0, .ro, .any⟩]⟩
def SOL_ONCNT : RegDesc := ⟨.SOL_ONCNT, 0x40001048, 0x80, 24, 0, 1, 0,
  [⟨31, 0, .ro, .any⟩]⟩
def LSW_GSTAT : RegDesc := ⟨.LSW_GSTAT, 0x41000000, 0, 1, 0, 1, 0,
  [⟨0, 0, .w1c, .any⟩]⟩
def LSW_ON : RegDesc := ⟨.LSW_ON, 0x41000004, 0, 1, 0, 1, 0,
  [⟨31, 0, .ro, .any⟩]⟩
def LSW_FAULTS : RegDesc := ⟨.LSW_FAULTS, 0x41000008, 0, 1, 0, 1, 0,
  [⟨31, 0, .ro, .any⟩]⟩
def LSW_OPENS : RegDesc := ⟨.LSW_OPENS, 0x4100000c, 0, 1, 0, 1, 0,
  [⟨31, 0, .ro, .any⟩]⟩
def LSW_GPER : RegDesc := ⟨.LSW_GPER, 0x41000100, 0x10, 8, 0, 1, 0x4e20,
  [⟨23, 0, .rwl, .inRange 50 10000000⟩]⟩
def LSW_GUSE : RegDesc := ⟨.LSW_GUSE, 0x41000104, 0x10, 8, 0, 1, 0,
  [⟨31, 0, .ro, .any⟩]⟩
def LSW_GRCTL : RegDesc := ⟨.LSW_GRCTL, 0x41000200, 0x20, 4, 0, 1, 0,
  [⟨0, 0, .w1s, .any⟩]⟩
def LSW_GRSTAT : RegDesc := ⟨.LSW_GRSTAT, 0x41000204, 0x20, 4, 0, 1, 8,
  [⟨10, 10, .w1c, .any⟩, ⟨9, 9, .w1c, .any⟩, ⟨8, 8, .w1c, .any⟩, ⟨5, 5, .ro, .any⟩, ⟨4, 4, .ro, .any⟩, ⟨3, 3, .ro, .any⟩, ⟨2, 1, .ro, .any⟩, ⟨0, 0, .ro, .any⟩]⟩
def LSW_GRVOLT : RegDesc := ⟨.LSW_GRVOLT, 0x41000208, 0x20, 4, 0, 1, 0,
  [⟨31, 0, .ro, .any⟩]⟩
def LSW_GRCUR : RegDesc := ⟨.LSW_GRCUR, 0x4100020c, 0x20, 4, 0, 1, 0,
  [⟨31, 16, .ro, .any⟩, ⟨15, 0, .ro, .any⟩]⟩
def LSW_CTL : RegDesc := ⟨.LSW_CTL, 0x41001000, 0x40, 32, 0, 1, 0,
  [⟨5, 5, .rwl, .any⟩, ⟨4, 4, .rwl, .any⟩, ⟨3, 2, .rwl, .any⟩, ⟨0, 0, .rw, .any⟩]⟩
def LSW_LIM : RegDesc := ⟨.LSW_LIM, 0x41001004, 0x40, 32, 0, 1, 0xa280050,
  [⟨31, 24, .rwl, .inRange 1 255⟩, ⟨23, 16, .rwl, .inRange 20 60⟩, ⟨7, 0, .rwl, .inRange 20 240⟩]⟩
def LSW_RETRY : RegDesc := ⟨.LSW_RETRY, 0x41001008, 0x40, 32, 0, 1, 0x3e80a03,
  [⟨31, 16, .rwl, .inRange 1 65535⟩, ⟨15, 8, .rwl, .inRange 1 255⟩, ⟨3, 0, .rwl, .any⟩]⟩
def LSW_PWM : RegDesc := ⟨.LSW_PWM, 0x4100100c, 0x40, 32, 0, 1, 0,
  [⟨15, 8, .rwl, .any⟩, ⟨2, 0, .rwl, .any⟩]⟩
def LSW_DUTY : RegDesc := ⟨.LSW_DUTY, 0x41001010, 0x40, 32, 0, 1, 0,
  [⟨15, 0, .rw, .any⟩]⟩
def LSW_CMD : RegDesc := ⟨.LSW_CMD, 0x41001014, 0x40, 32, 0, 1, 0,
  [⟨1, 0, .wo, .any⟩]⟩
def LSW_STAT : RegDesc := ⟨.LSW_STAT, 0x41001018, 0x40, 32, 0, 1, 0,
  [⟨31, 28, .ro, .any⟩, ⟨19, 19, .w1c, .any⟩, ⟨18, 18, .w1c, .any⟩, ⟨17, 17, .w1c, .any⟩, ⟨16, 16, .w1c, .any⟩, ⟨11, 11, .ro, .any⟩, ⟨10, 10, .ro, .any⟩, ⟨9, 9, .ro, .any⟩, ⟨8, 8, .ro, .any⟩, ⟨7, 7, .ro, .any⟩, ⟨6, 6, .ro, .any⟩, ⟨5, 5, .ro, .any⟩, ⟨4, 4, .ro, .any⟩, ⟨3, 3, .ro, .any⟩, ⟨2, 1, .ro, .any⟩, ⟨0, 0, .ro, .any⟩]⟩
def LSW_CLR : RegDesc := ⟨.LSW_CLR, 0x4100101c, 0x40, 32, 0, 1, 0,
  [⟨0, 0, .w1s, .any⟩]⟩
def LSW_IMEAS : RegDesc := ⟨.LSW_IMEAS, 0x41001020, 0x40, 32, 0, 1, 0,
  [⟨15, 0, .ro, .any⟩]⟩
def LSW_VOUT : RegDesc := ⟨.LSW_VOUT, 0x41001024, 0x40, 32, 0, 1, 0,
  [⟨31, 0, .ro, .any⟩]⟩
def LSW_TEMP : RegDesc := ⟨.LSW_TEMP, 0x41001028, 0x40, 32, 0, 1, 0,
  [⟨31, 0, .ro, .any⟩]⟩
def LSW_FCNT : RegDesc := ⟨.LSW_FCNT, 0x4100102c, 0x40, 32, 0, 1, 0,
  [⟨31, 0, .ro, .any⟩]⟩
def MTR_CTL : RegDesc := ⟨.MTR_CTL, 0x42000000, 0x1000, 8, 0, 1, 0,
  [⟨17, 16, .rwl, .inRange 0 1⟩, ⟨13, 12, .rwl, .inRange 0 2⟩, ⟨9, 8, .rwl, .inRange 0 2⟩, ⟨4, 4, .rwl, .any⟩, ⟨3, 2, .rwl, .any⟩, ⟨0, 0, .rw, .any⟩]⟩
def MTR_STAT : RegDesc := ⟨.MTR_STAT, 0x42000004, 0x1000, 8, 0, 1, 0,
  [⟨26, 26, .w1c, .any⟩, ⟨25, 25, .w1c, .any⟩, ⟨24, 24, .w1c, .any⟩, ⟨23, 20, .ro, .any⟩, ⟨18, 16, .ro, .any⟩, ⟨13, 13, .ro, .any⟩, ⟨12, 12, .ro, .any⟩, ⟨11, 11, .ro, .any⟩, ⟨10, 10, .ro, .any⟩, ⟨9, 9, .ro, .any⟩, ⟨8, 8, .ro, .any⟩, ⟨7, 7, .ro, .any⟩, ⟨6, 6, .ro, .any⟩, ⟨5, 5, .ro, .any⟩, ⟨4, 4, .ro, .any⟩, ⟨3, 3, .ro, .any⟩, ⟨2, 0, .ro, .any⟩]⟩
def MTR_CMD : RegDesc := ⟨.MTR_CMD, 0x42000008, 0x1000, 8, 0, 1, 0,
  [⟨31, 0, .rw, .any⟩]⟩
def MTR_PWM : RegDesc := ⟨.MTR_PWM, 0x4200000c, 0x1000, 8, 0, 1, 0x644e20,
  [⟨27, 16, .rwl, .inRange 20 1000⟩, ⟨15, 0, .rwl, .any⟩]⟩
def MTR_MOT0 : RegDesc := ⟨.MTR_MOT0, 0x42000010, 0x1000, 8, 0, 1, 1,
  [⟨31, 8, .rwl, .any⟩, ⟨5, 0, .rwl, .inRange 1 32⟩]⟩
def MTR_MOT1 : RegDesc := ⟨.MTR_MOT1, 0x42000014, 0x1000, 8, 0, 1, 0,
  [⟨31, 16, .rwl, .any⟩, ⟨15, 0, .rwl, .any⟩]⟩
def MTR_MOT2 : RegDesc := ⟨.MTR_MOT2, 0x42000018, 0x1000, 8, 0, 1, 0,
  [⟨31, 0, .rwl, .any⟩]⟩
def MTR_ILIM : RegDesc := ⟨.MTR_ILIM, 0x4200001c, 0x1000, 8, 0, 1, 0x3e8,
  [⟨19, 0, .rwl, .any⟩]⟩
def MTR_OCL : RegDesc := ⟨.MTR_OCL, 0x42000020, 0x1000, 8, 0, 1, 0x7d0,
  [⟨19, 0, .rwl, .any⟩]⟩
def MTR_ST0 : RegDesc := ⟨.MTR_ST0, 0x42000024, 0x1000, 8, 0, 1, 0x1f401f4,
  [⟨31, 16, .rwl, .any⟩, ⟨15, 0, .rwl, .any⟩]⟩
def MTR_ST1 : RegDesc := ⟨.MTR_ST1, 0x42000028, 0x1000, 8, 0, 1, 0x14012c,
  [⟨31, 16, .rwl, .inRange 1 65535⟩, ⟨11, 0, .rwl, .inRange 0 4000⟩]⟩
def MTR_ST2 : RegDesc := ⟨.MTR_ST2, 0x4200002c, 0x1000, 8, 0, 1, 0x3201388,
  [⟨31, 16, .rwl, .inRange 100 10000⟩, ⟨15, 0, .rwl, .inRange 100 60000⟩]⟩
def MTR_ST3 : RegDesc := ⟨.MTR_ST3, 0x42000030, 0x1000, 8, 0, 1, 0x305,
  [⟨10, 8, .rwl, .any⟩, ⟨7, 0, .rwl, .inRange 1 255⟩]⟩
def MTR_SPD : RegDesc := ⟨.MTR_SPD, 0x42000034, 0x1000, 8, 0, 1, 0x5dc03e8,
  [⟨31, 16, .rwl, .any⟩, ⟨15, 0, .rwl, .any⟩]⟩
def MTR_SMAX : RegDesc := ⟨.MTR_SMAX, 0x42000038, 0x1000, 8, 0, 1, 0x7530,
  [⟨31, 0, .rwl, .inRange 1 2147483647⟩]⟩
def MTR_KSP : RegDesc := ⟨.MTR_KSP, 0x4200003c, 0x1000, 8, 0, 1, 0,
  [⟨31, 26, .rwl, .inRange 0 62⟩, ⟨25, 0, .rwl, .any⟩]⟩
def MTR_KSI : RegDesc := ⟨.MTR_KSI, 0x42000040, 0x1000, 8, 0, 1, 0,
  [⟨31, 26, .rwl, .inRange 0 62⟩, ⟨25, 0, .rwl, .any⟩]⟩
def MTR_KPOS : RegDesc := ⟨.MTR_KPOS, 0x42000044, 0x1000, 8, 0, 1, 0,
  [⟨31, 26, .rwl, .inRange 0 62⟩, ⟨25, 0, .rwl, .any⟩]⟩
def MTR_CBW : RegDesc := ⟨.MTR_CBW, 0x42000048, 0x1000, 8, 0, 1, 0x3e8,
  [⟨31, 0, .rwl, .inRange 100 4000⟩]⟩
def MTR_FB : RegDesc := ⟨.MTR_FB, 0x4200004c, 0x1000, 8, 0, 1, 1,
  [⟨10, 0, .rwl, .inRange 1 1024⟩]⟩
def MTR_SDFS : RegDesc := ⟨.MTR_SDFS, 0x42000050, 0x1000, 8, 0, 1, 0,
  [⟨19, 0, .rwl, .any⟩]⟩
def MTR_CLR : RegDesc := ⟨.MTR_CLR, 0x42000054, 0x1000, 8, 0, 1, 0,
  [⟨3, 3, .w1s, .any⟩, ⟨2, 2, .w1s, .any⟩, ⟨1, 1, .w1s, .any⟩, ⟨0, 0, .w1s, .any⟩]⟩
def MTR_SPEED : RegDesc := ⟨.MTR_SPEED, 0x42000060, 0x1000, 8, 0, 1, 0,
  [⟨31, 0, .ro, .any⟩]⟩
def MTR_POS : RegDesc := ⟨.MTR_POS, 0x42000064, 0x1000, 8, 0, 1, 0,
  [⟨31, 0, .ro, .any⟩]⟩
def MTR_FLAG : RegDesc := ⟨.MTR_FLAG, 0x42000068, 0x1000, 8, 0, 1, 0,
  [⟨31, 16, .ro, .any⟩, ⟨15, 8, .ro, .any⟩, ⟨7, 0, .ro, .any⟩]⟩
def MTR_IQ : RegDesc := ⟨.MTR_IQ, 0x4200006c, 0x1000, 8, 0, 1, 0,
  [⟨31, 0, .ro, .any⟩]⟩
def MTR_ID : RegDesc := ⟨.MTR_ID, 0x42000070, 0x1000, 8, 0, 1, 0,
  [⟨31, 0, .ro, .any⟩]⟩
def MTR_IRMS : RegDesc := ⟨.MTR_IRMS, 0x42000074, 0x1000, 8, 0, 1, 0,
  [⟨31, 0, .ro, .any⟩]⟩
def MTR_TACHSPD : RegDesc := ⟨.MTR_TACHSPD, 0x42000078, 0x1000, 8, 0, 1, 0,
  [⟨31, 0, .ro, .any⟩]⟩
def MTR_TEMP : RegDesc := ⟨.MTR_TEMP, 0x4200007c, 0x1000, 8, 0, 1, 0,
  [⟨31, 0, .ro, .any⟩]⟩
def MTR_I2T : RegDesc := ⟨.MTR_I2T, 0x42000080, 0x1000, 8, 0, 1, 0,
  [⟨31, 0, .ro, .any⟩]⟩
def MTR_GSTAT : RegDesc := ⟨.MTR_GSTAT, 0x42008000, 0, 1, 0, 1, 0,
  [⟨2, 2, .ro, .any⟩, ⟨1, 1, .ro, .any⟩, ⟨0, 0, .ro, .any⟩]⟩
def MTR_VDRV : RegDesc := ⟨.MTR_VDRV, 0x42008004, 0, 1, 0, 1, 0,
  [⟨31, 0, .ro, .any⟩]⟩
def MTR_AXES : RegDesc := ⟨.MTR_AXES, 0x42008008, 0, 1, 0, 1, 0,
  [⟨23, 16, .ro, .any⟩, ⟨15, 8, .ro, .any⟩, ⟨7, 0, .ro, .any⟩]⟩
def FAN_GCTL : RegDesc := ⟨.FAN_GCTL, 0x43000000, 0, 1, 0, 1, 0x64,
  [⟨15, 0, .rw, .inRange 10 10000⟩]⟩
def FAN_HTO : RegDesc := ⟨.FAN_HTO, 0x43000004, 0, 1, 0, 1, 0x1e,
  [⟨9, 0, .rw, .inRange 1 600⟩]⟩
def FAN_ASTAT : RegDesc := ⟨.FAN_ASTAT, 0x43000008, 0, 1, 0, 1, 0,
  [⟨31, 16, .ro, .any⟩, ⟨3, 3, .ro, .any⟩, ⟨2, 2, .ro, .any⟩, ⟨1, 1, .ro, .any⟩, ⟨0, 0, .ro, .any⟩]⟩
def FAN_AF : RegDesc := ⟨.FAN_AF, 0x4300000c, 0, 1, 0, 1, 0,
  [⟨31, 20, .rwc, .any⟩, ⟨17, 8, .rwc, .inRange 0 1000⟩, ⟨7, 0, .rwc, .any⟩]⟩
def FAN_AFSTAT : RegDesc := ⟨.FAN_AFSTAT, 0x43000010, 0, 1, 0, 1, 0,
  [⟨15, 8, .ro, .any⟩, ⟨0, 0, .ro, .any⟩]⟩
def FAN_GSTAT : RegDesc := ⟨.FAN_GSTAT, 0x43000014, 0, 1, 0, 1, 0,
  [⟨1, 1, .ro, .any⟩, ⟨0, 0, .w1c, .any⟩]⟩
def FAN_AXCFG : RegDesc := ⟨.FAN_AXCFG, 0x43000100, 0x10, 8, 0, 1, 0x3219000,
  [⟨29, 20, .rw, .inRange 0 1000⟩, ⟨19, 10, .rw, .inRange 0 1000⟩, ⟨9, 0, .rw, .inRange 0 1000⟩]⟩
def FAN_AXSMAX : RegDesc := ⟨.FAN_AXSMAX, 0x43000104, 0x10, 8, 0, 1, 0,
  [⟨31, 0, .rw, .any⟩]⟩
def FAN_AXDEM : RegDesc := ⟨.FAN_AXDEM, 0x43000108, 0x10, 8, 0, 1, 0,
  [⟨26, 26, .ro, .any⟩, ⟨25, 25, .ro, .any⟩, ⟨24, 24, .ro, .any⟩, ⟨20, 16, .ro, .any⟩, ⟨9, 0, .ro, .any⟩]⟩
def FANA_AXCFG : RegDesc := ⟨.FANA_AXCFG, 0x43000200, 0x10, 8, 0, 1, 0x3219000,
  [⟨29, 20, .rwc, .inRange 0 1000⟩, ⟨19, 10, .rwc, .inRange 0 1000⟩, ⟨9, 0, .rwc, .inRange 0 1000⟩]⟩
def FANA_AXSMAX : RegDesc := ⟨.FANA_AXSMAX, 0x43000204, 0x10, 8, 0, 1, 0,
  [⟨31, 0, .rwc, .any⟩]⟩
def FANA_AXDEM : RegDesc := ⟨.FANA_AXDEM, 0x43000208, 0x10, 8, 0, 1, 0,
  [⟨26, 26, .ro, .any⟩, ⟨25, 25, .ro, .any⟩, ⟨24, 24, .ro, .any⟩, ⟨20, 16, .ro, .any⟩, ⟨9, 0, .ro, .any⟩]⟩
def FAN_ZCTL : RegDesc := ⟨.FAN_ZCTL, 0x43001000, 0x80, 32, 0, 1, 0xfff0000,
  [⟨27, 16, .rwl, .msrc⟩, ⟨15, 8, .rwl, .any⟩, ⟨7, 4, .rwl, .any⟩, ⟨0, 0, .rw, .any⟩]⟩
def FAN_ZDEM : RegDesc := ⟨.FAN_ZDEM, 0x43001004, 0x80, 32, 0, 1, 0,
  [⟨17, 17, .ro, .any⟩, ⟨16, 16, .ro, .any⟩, ⟨9, 0, .ro, .any⟩]⟩
def FAN_ZX : RegDesc := ⟨.FAN_ZX, 0x43001040, 0x80, 32, 8, 8, 0,
  [⟨31, 0, .rwl, .any⟩]⟩
def FAN_ZY : RegDesc := ⟨.FAN_ZY, 0x43001044, 0x80, 32, 8, 8, 0,
  [⟨9, 0, .rwl, .inRange 0 1000⟩]⟩
def FANA_ZCTL : RegDesc := ⟨.FANA_ZCTL, 0x43002000, 0x80, 32, 0, 1, 0xfff0000,
  [⟨27, 16, .rwc, .any⟩, ⟨15, 8, .rwc, .any⟩, ⟨7, 4, .rwc, .any⟩, ⟨0, 0, .rwc, .any⟩]⟩
def FANA_ZDEM : RegDesc := ⟨.FANA_ZDEM, 0x43002004, 0x80, 32, 0, 1, 0,
  [⟨17, 17, .ro, .any⟩, ⟨16, 16, .ro, .any⟩, ⟨9, 0, .ro, .any⟩]⟩
def FANA_ZX : RegDesc := ⟨.FANA_ZX, 0x43002040, 0x80, 32, 8, 8, 0,
  [⟨31, 0, .rwc, .any⟩]⟩
def FANA_ZY : RegDesc := ⟨.FANA_ZY, 0x43002044, 0x80, 32, 8, 8, 0,
  [⟨9, 0, .rwc, .inRange 0 1000⟩]⟩
def CAN_CTL : RegDesc := ⟨.CAN_CTL, 0x50000000, 0x10000, 6, 0, 1, 0,
  [⟨8, 8, .w1s, .any⟩, ⟨5, 5, .rw, .any⟩, ⟨4, 4, .rwl, .any⟩, ⟨1, 0, .rw, .any⟩]⟩
def CAN_STAT : RegDesc := ⟨.CAN_STAT, 0x50000004, 0x10000, 6, 0, 1, 0,
  [⟨7, 7, .w1c, .any⟩, ⟨6, 6, .w1c, .any⟩, ⟨5, 5, .w1c, .any⟩, ⟨4, 4, .w1c, .any⟩, ⟨3, 3, .w1c, .any⟩, ⟨2, 2, .ro, .any⟩, ⟨1, 0, .ro, .any⟩]⟩
def CAN_NBT : RegDesc := ⟨.CAN_NBT, 0x50000008, 0x10000, 6, 0, 1, 0x70e3c09,
  [⟨30, 24, .rwl, .any⟩, ⟨23, 17, .rwl, .any⟩, ⟨16, 9, .rwl, .any⟩, ⟨8, 0, .rwl, .any⟩]⟩
def CAN_DBT : RegDesc := ⟨.CAN_DBT, 0x5000000c, 0x10000, 6, 0, 1, 0x4041203,
  [⟨27, 24, .rwl, .any⟩, ⟨19, 16, .rwl, .any⟩, ⟨12, 8, .rwl, .any⟩, ⟨4, 0, .rwl, .any⟩]⟩
def CAN_TDC : RegDesc := ⟨.CAN_TDC, 0x50000010, 0x10000, 6, 0, 1, 0x114,
  [⟨23, 16, .ro, .any⟩, ⟨8, 8, .rwl, .any⟩, ⟨6, 0, .rwl, .any⟩]⟩
def CAN_ERRC : RegDesc := ⟨.CAN_ERRC, 0x50000014, 0x10000, 6, 0, 1, 0,
  [⟨24, 16, .ro, .any⟩, ⟨8, 0, .ro, .any⟩]⟩
def CAN_RECOVER : RegDesc := ⟨.CAN_RECOVER, 0x50000018, 0x10000, 6, 0, 1, 0,
  [⟨0, 0, .w1s, .any⟩]⟩
def CAN_RXCNT : RegDesc := ⟨.CAN_RXCNT, 0x50000020, 0x10000, 6, 0, 1, 0,
  [⟨31, 0, .ro, .any⟩]⟩
def CAN_RXSTORED : RegDesc := ⟨.CAN_RXSTORED, 0x50000024, 0x10000, 6, 0, 1, 0,
  [⟨31, 0, .ro, .any⟩]⟩
def CAN_RXOVR : RegDesc := ⟨.CAN_RXOVR, 0x50000028, 0x10000, 6, 0, 1, 0,
  [⟨31, 0, .ro, .any⟩]⟩
def CAN_RXFILT : RegDesc := ⟨.CAN_RXFILT, 0x5000002c, 0x10000, 6, 0, 1, 0,
  [⟨31, 0, .ro, .any⟩]⟩
def CAN_EVLOST : RegDesc := ⟨.CAN_EVLOST, 0x50000030, 0x10000, 6, 0, 1, 0,
  [⟨31, 0, .ro, .any⟩]⟩
def CAN_QLOST_A : RegDesc := ⟨.CAN_QLOST_A, 0x50000034, 0x10000, 6, 0, 1, 0,
  [⟨31, 0, .ro, .any⟩]⟩
def CAN_QLOST_B : RegDesc := ⟨.CAN_QLOST_B, 0x50000038, 0x10000, 6, 0, 1, 0,
  [⟨31, 0, .ro, .any⟩]⟩
def CAN_TXREQ : RegDesc := ⟨.CAN_TXREQ, 0x50000040, 0x10000, 6, 0, 1, 0,
  [⟨31, 0, .w1s, .any⟩]⟩
def CAN_TXCANCEL : RegDesc := ⟨.CAN_TXCANCEL, 0x50000044, 0x10000, 6, 0, 1, 0,
  [⟨31, 0, .w1s, .any⟩]⟩
def CAN_TXPEND : RegDesc := ⟨.CAN_TXPEND, 0x50000048, 0x10000, 6, 0, 1, 0,
  [⟨31, 0, .ro, .any⟩]⟩
def CAN_RXFULL_LO : RegDesc := ⟨.CAN_RXFULL_LO, 0x50000050, 0x10000, 6, 0, 1, 0,
  [⟨31, 0, .ro, .any⟩]⟩
def CAN_RXFULL_HI : RegDesc := ⟨.CAN_RXFULL_HI, 0x50000054, 0x10000, 6, 0, 1, 0,
  [⟨31, 0, .ro, .any⟩]⟩
def CAN_RXLOCK_LO : RegDesc := ⟨.CAN_RXLOCK_LO, 0x50000058, 0x10000, 6, 0, 1, 0,
  [⟨31, 0, .ro, .any⟩]⟩
def CAN_RXLOCK_HI : RegDesc := ⟨.CAN_RXLOCK_HI, 0x5000005c, 0x10000, 6, 0, 1, 0,
  [⟨31, 0, .ro, .any⟩]⟩
def CAN_RXREL_LO : RegDesc := ⟨.CAN_RXREL_LO, 0x50000060, 0x10000, 6, 0, 1, 0,
  [⟨31, 0, .w1s, .any⟩]⟩
def CAN_RXREL_HI : RegDesc := ⟨.CAN_RXREL_HI, 0x50000064, 0x10000, 6, 0, 1, 0,
  [⟨31, 0, .w1s, .any⟩]⟩
def CAN_WAKE : RegDesc := ⟨.CAN_WAKE, 0x50000070, 0, 1, 0, 1, 0,
  [⟨1, 1, .w1c, .any⟩, ⟨0, 0, .rw, .any⟩]⟩
def CAN_RXF : RegDesc := ⟨.CAN_RXF, 0x50001000, 0x10000, 6, 8, 64, 0,
  [⟨31, 0, .rwl, .any⟩]⟩
def CAN_RXM : RegDesc := ⟨.CAN_RXM, 0x50001004, 0x10000, 6, 8, 64, 0,
  [⟨31, 0, .rwl, .any⟩]⟩
def CAN_RXBCFG : RegDesc := ⟨.CAN_RXBCFG, 0x50001400, 0x10000, 6, 4, 64, 0,
  [⟨25, 24, .rwl, .any⟩, ⟨19, 16, .rwl, .any⟩, ⟨11, 8, .rwl, .any⟩, ⟨5, 4, .rwl, .any⟩, ⟨3, 2, .rwl, .any⟩, ⟨1, 1, .rwl, .any⟩, ⟨0, 0, .rw, .any⟩]⟩
def CAN_RXB : RegDesc := ⟨.CAN_RXB, 0x50002000, 0x10000, 6, 4, 2048, 0,
  [⟨31, 0, .ro, .any⟩]⟩
def CAN_TXB : RegDesc := ⟨.CAN_TXB, 0x50006000, 0x10000, 6, 4, 1024, 0,
  [⟨31, 0, .rwl, .any⟩]⟩
def TIM_NOW_LO : RegDesc := ⟨.TIM_NOW_LO, 0x10030000, 0, 1, 0, 1, 0,
  [⟨31, 0, .ro, .any⟩]⟩
def TIM_NOW_HI : RegDesc := ⟨.TIM_NOW_HI, 0x10030004, 0, 1, 0, 1, 0,
  [⟨31, 0, .ro, .any⟩]⟩
def TIM_DISC : RegDesc := ⟨.TIM_DISC, 0x10030008, 0, 1, 0, 1, 0x641010,
  [⟨24, 16, .rw, .inRange 1 500⟩, ⟨15, 8, .rw, .inRange 1 255⟩, ⟨4, 4, .rw, .any⟩, ⟨1, 0, .rw, .any⟩]⟩
def TIM_STEPTH : RegDesc := ⟨.TIM_STEPTH, 0x1003000c, 0, 1, 0, 1, 0x3e8,
  [⟨31, 0, .rw, .inRange 1 1000000⟩]⟩
def TIM_SRCTO : RegDesc := ⟨.TIM_SRCTO, 0x10030010, 0, 1, 0, 1, 0xbb8,
  [⟨31, 0, .rw, .inRange 100 60000⟩]⟩
def TIM_STAT : RegDesc := ⟨.TIM_STAT, 0x10030014, 0, 1, 0, 1, 0,
  [⟨11, 11, .w1c, .any⟩, ⟨10, 10, .w1c, .any⟩, ⟨9, 9, .w1c, .any⟩, ⟨8, 8, .w1c, .any⟩, ⟨4, 4, .ro, .any⟩, ⟨2, 0, .ro, .any⟩]⟩
def TIM_OFS : RegDesc := ⟨.TIM_OFS, 0x10030018, 0, 1, 0, 1, 0,
  [⟨31, 0, .ro, .any⟩]⟩
def TIM_RATE : RegDesc := ⟨.TIM_RATE, 0x1003001c, 0, 1, 0, 1, 0,
  [⟨31, 0, .ro, .any⟩]⟩
def TIM_FINT : RegDesc := ⟨.TIM_FINT, 0x10030020, 0, 1, 0, 1, 0,
  [⟨31, 0, .ro, .any⟩]⟩
def TIM_STEPS : RegDesc := ⟨.TIM_STEPS, 0x10030024, 0, 1, 0, 1, 0,
  [⟨31, 0, .ro, .any⟩]⟩
def TIM_LSTEP_LO : RegDesc := ⟨.TIM_LSTEP_LO, 0x10030028, 0, 1, 0, 1, 0,
  [⟨31, 0, .ro, .any⟩]⟩
def TIM_LSTEP_HI : RegDesc := ⟨.TIM_LSTEP_HI, 0x1003002c, 0, 1, 0, 1, 0,
  [⟨31, 0, .ro, .any⟩]⟩
def TIM_PTP : RegDesc := ⟨.TIM_PTP, 0x10030030, 0, 1, 0, 1, 0,
  [⟨9, 8, .rw, .inRange 0 2⟩, ⟨7, 0, .rw, .any⟩]⟩
def TIM_PTPLAT : RegDesc := ⟨.TIM_PTPLAT, 0x10030034, 0, 1, 0, 1, 0,
  [⟨31, 16, .rwc, .any⟩, ⟨15, 0, .rwc, .any⟩]⟩
def TIM_PTPDLY : RegDesc := ⟨.TIM_PTPDLY, 0x10030038, 0, 1, 0, 1, 0,
  [⟨31, 0, .ro, .any⟩]⟩
def TTS_CTL : RegDesc := ⟨.TTS_CTL, 0x50100000, 0x4000, 2, 0, 1, 0,
  [⟨8, 8, .rwl, .any⟩, ⟨6, 4, .rwl, .any⟩, ⟨1, 1, .rwl, .any⟩, ⟨0, 0, .rw, .any⟩]⟩
def TTS_STAT : RegDesc := ⟨.TTS_STAT, 0x50100004, 0x4000, 2, 0, 1, 0,
  [⟨25, 25, .w1c, .any⟩, ⟨24, 24, .w1c, .any⟩, ⟨23, 23, .w1c, .any⟩, ⟨22, 22, .w1c, .any⟩, ⟨21, 21, .w1c, .any⟩, ⟨18, 16, .ro, .any⟩, ⟨13, 8, .ro, .any⟩, ⟨2, 0, .ro, .any⟩]⟩
def TTS_CYC : RegDesc := ⟨.TTS_CYC, 0x50100008, 0x4000, 2, 0, 1, 0x186a0,
  [⟨26, 24, .rwl, .inRange 0 6⟩, ⟨23, 0, .rwl, .inRange 1000 10000000⟩]⟩
def TTS_CFG : RegDesc := ⟨.TTS_CFG, 0x5010000c, 0x4000, 2, 0, 1, 0x3e80401,
  [⟨31, 16, .rwl, .inRange 1 65535⟩, ⟨11, 8, .rwl, .inRange 1 15⟩, ⟨5, 0, .rwl, .inRange 1 32⟩]⟩
def TTS_REFID : RegDesc := ⟨.TTS_REFID, 0x50100010, 0x4000, 2, 0, 1, 0,
  [⟨30, 30, .rwl, .inRange 0 0⟩, ⟨29, 0, .rwl, .any⟩]⟩
def TTS_TMID : RegDesc := ⟨.TTS_TMID, 0x50100014, 0x4000, 2, 0, 1, 0x200000,
  [⟨30, 30, .rwl, .inRange 0 0⟩, ⟨29, 0, .rwl, .any⟩]⟩
def TTS_PROP : RegDesc := ⟨.TTS_PROP, 0x50100018, 0x4000, 2, 0, 1, 0,
  [⟨31, 0, .rw, .any⟩]⟩
def TTS_MISSED : RegDesc := ⟨.TTS_MISSED, 0x5010001c, 0x4000, 2, 0, 1, 0,
  [⟨31, 0, .ro, .any⟩]⟩
def TTS_REFMARK_LO : RegDesc := ⟨.TTS_REFMARK_LO, 0x50100020, 0x4000, 2, 0, 1, 0,
  [⟨31, 0, .ro, .any⟩]⟩
def TTS_REFMARK_HI : RegDesc := ⟨.TTS_REFMARK_HI, 0x50100024, 0x4000, 2, 0, 1, 0,
  [⟨31, 0, .ro, .any⟩]⟩
def TTS_CYCTIME : RegDesc := ⟨.TTS_CYCTIME, 0x50100028, 0x4000, 2, 0, 1, 0,
  [⟨31, 0, .ro, .any⟩]⟩
def TTS_START : RegDesc := ⟨.TTS_START, 0x50100100, 0x4000, 2, 8, 32, 0,
  [⟨23, 0, .rwl, .any⟩]⟩
def TTS_LEN : RegDesc := ⟨.TTS_LEN, 0x50100104, 0x4000, 2, 8, 32, 0,
  [⟨23, 0, .rwl, .any⟩]⟩
def TTS_CELL : RegDesc := ⟨.TTS_CELL, 0x50100800, 0x4000, 2, 4, 512, 0,
  [⟨31, 30, .rwl, .any⟩, ⟨28, 24, .rwl, .any⟩, ⟨23, 22, .rwl, .any⟩, ⟨20, 16, .rwl, .any⟩, ⟨15, 14, .rwl, .any⟩, ⟨12, 8, .rwl, .any⟩, ⟨7, 6, .rwl, .any⟩, ⟨4, 0, .rwl, .any⟩]⟩
def TTS_OUT : RegDesc := ⟨.TTS_OUT, 0x50101000, 0x4000, 2, 4, 128, 0,
  [⟨31, 0, .ro, .any⟩]⟩
def COL_STATE : RegDesc := ⟨.COL_STATE, 0x51000000, 0x40, 256, 0, 1, 0,
  [⟨31, 24, .ro, .any⟩, ⟨18, 16, .ro, .any⟩, ⟨15, 15, .ro, .any⟩, ⟨14, 12, .ro, .any⟩, ⟨11, 8, .ro, .any⟩, ⟨7, 4, .ro, .any⟩, ⟨2, 0, .ro, .any⟩]⟩
def COL_ADDR : RegDesc := ⟨.COL_ADDR, 0x51000004, 0x40, 256, 4, 4, 0,
  [⟨31, 0, .ro, .any⟩]⟩
def COL_PORT : RegDesc := ⟨.COL_PORT, 0x51000014, 0x40, 256, 0, 1, 0,
  [⟨15, 0, .ro, .any⟩]⟩
def COL_LIVE : RegDesc := ⟨.COL_LIVE, 0x51000018, 0x40, 256, 0, 1, 0,
  [⟨23, 16, .rw, .inRange 1 255⟩, ⟨15, 0, .rw, .inRange 1 65535⟩]⟩
def COL_AGE : RegDesc := ⟨.COL_AGE, 0x5100001c, 0x40, 256, 0, 1, 0,
  [⟨31, 0, .ro, .any⟩]⟩
def COL_SEQ : RegDesc := ⟨.COL_SEQ, 0x51000020, 0x40, 256, 0, 1, 0,
  [⟨31, 16, .ro, .any⟩, ⟨15, 0, .ro, .any⟩]⟩
def COL_TX : RegDesc := ⟨.COL_TX, 0x51000024, 0x40, 256, 0, 1, 0,
  [⟨31, 16, .ro, .any⟩, ⟨15, 0, .ro, .any⟩]⟩
def COL_TXBK : RegDesc := ⟨.COL_TXBK, 0x51000028, 0x40, 256, 0, 1, 0,
  [⟨31, 16, .ro, .any⟩, ⟨15, 0, .ro, .any⟩]⟩
def COL_RX : RegDesc := ⟨.COL_RX, 0x5100002c, 0x40, 256, 0, 1, 0,
  [⟨31, 16, .ro, .any⟩, ⟨15, 0, .ro, .any⟩]⟩
def COL_RXBK : RegDesc := ⟨.COL_RXBK, 0x51000030, 0x40, 256, 0, 1, 0,
  [⟨31, 16, .ro, .any⟩, ⟨15, 0, .ro, .any⟩]⟩
def COL_TOFS : RegDesc := ⟨.COL_TOFS, 0x51000034, 0x40, 256, 0, 1, 0,
  [⟨31, 0, .ro, .any⟩]⟩
def COL_HLTH : RegDesc := ⟨.COL_HLTH, 0x51000038, 0x40, 256, 0, 1, 0,
  [⟨31, 24, .ro, .any⟩, ⟨23, 16, .ro, .any⟩, ⟨15, 8, .ro, .any⟩, ⟨7, 0, .ro, .any⟩]⟩
def COL_CMD : RegDesc := ⟨.COL_CMD, 0x5100003c, 0x40, 256, 0, 1, 0,
  [⟨31, 16, .wo, .any⟩, ⟨1, 0, .wo, .any⟩]⟩
def COL_GSTAT : RegDesc := ⟨.COL_GSTAT, 0x51004000, 0, 1, 0, 1, 0,
  [⟨25, 25, .w1c, .any⟩, ⟨24, 24, .w1c, .any⟩, ⟨16, 16, .ro, .any⟩, ⟨8, 0, .ro, .any⟩]⟩
def COL_RECL : RegDesc := ⟨.COL_RECL, 0x51004004, 0, 1, 0, 1, 0x640e10,
  [⟨31, 16, .rw, .inRange 1 65535⟩, ⟨15, 0, .rw, .inRange 1 65535⟩]⟩
def COL_PROB : RegDesc := ⟨.COL_PROB, 0x51004008, 0, 1, 0, 1, 0x2710,
  [⟨15, 0, .rw, .inRange 1 65535⟩]⟩
def COL_NREFUSED : RegDesc := ⟨.COL_NREFUSED, 0x5100400c, 0, 1, 0, 1, 0,
  [⟨31, 0, .ro, .any⟩]⟩
def COL_NWAITED : RegDesc := ⟨.COL_NWAITED, 0x51004010, 0, 1, 0, 1, 0,
  [⟨31, 0, .ro, .any⟩]⟩
def COL_NPROBFAIL : RegDesc := ⟨.COL_NPROBFAIL, 0x51004014, 0, 1, 0, 1, 0,
  [⟨31, 0, .ro, .any⟩]⟩
def COL_NOSPACE : RegDesc := ⟨.COL_NOSPACE, 0x51004018, 0, 1, 0, 1, 0,
  [⟨31, 0, .ro, .any⟩]⟩
def COL_ADM : RegDesc := ⟨.COL_ADM, 0x51004020, 4, 8, 0, 1, 0,
  [⟨31, 0, .ro, .any⟩]⟩
def AF_CTL : RegDesc := ⟨.AF_CTL, 0x51005000, 0x80, 16, 0, 1, 0,
  [⟨16, 16, .rwl, .any⟩, ⟨13, 8, .rwl, .any⟩, ⟨7, 4, .rwl, .oneOf [0, 8, 9, 10]⟩, ⟨0, 0, .rw, .any⟩]⟩
def AF_MATCH : RegDesc := ⟨.AF_MATCH, 0x51005004, 0x80, 16, 0, 1, 0,
  [⟨31, 0, .rwl, .any⟩]⟩
def AF_MASK : RegDesc := ⟨.AF_MASK, 0x51005008, 0x80, 16, 0, 1, 0,
  [⟨31, 0, .rwl, .any⟩]⟩
def AF_ID : RegDesc := ⟨.AF_ID, 0x5100500c, 0x80, 16, 0, 1, 0xffff0800,
  [⟨31, 24, .rwl, .any⟩, ⟨23, 16, .rwl, .any⟩, ⟨12, 8, .rwl, .any⟩, ⟨4, 0, .rwl, .any⟩]⟩
def AF_LIVE : RegDesc := ⟨.AF_LIVE, 0x51005010, 0x80, 16, 0, 1, 0x30307d0,
  [⟨31, 24, .rwl, .inRange 1 255⟩, ⟨23, 16, .rwl, .inRange 1 255⟩, ⟨15, 0, .rwl, .inRange 1 65535⟩]⟩
def AF_LIM : RegDesc := ⟨.AF_LIM, 0x51005014, 0x80, 16, 0, 1, 0x800000,
  [⟨31, 16, .rwl, .any⟩, ⟨15, 0, .rwl, .any⟩]⟩
def AF_SLOT : RegDesc := ⟨.AF_SLOT, 0x51005020, 0x80, 16, 0x10, 4, 0,
  [⟨31, 24, .rwl, .any⟩, ⟨16, 16, .rwl, .any⟩, ⟨15, 10, .rwl, .any⟩, ⟨9, 9, .rwl, .any⟩, ⟨8, 8, .rwl, .any⟩, ⟨7, 6, .rwl, .any⟩, ⟨5, 0, .rwl, .any⟩]⟩
def AF_SGAIN : RegDesc := ⟨.AF_SGAIN, 0x51005024, 0x80, 16, 0x10, 4, 1,
  [⟨20, 16, .rwl, .any⟩, ⟨15, 0, .rwl, .any⟩]⟩
def AF_SOFS : RegDesc := ⟨.AF_SOFS, 0x51005028, 0x80, 16, 0x10, 4, 0,
  [⟨31, 0, .rwl, .any⟩]⟩
def COL_VAL : RegDesc := ⟨.COL_VAL, 0x51008000, 0x20, 256, 8, 4, 0,
  [⟨31, 0, .ro, .any⟩]⟩
def COL_VFLAG : RegDesc := ⟨.COL_VFLAG, 0x51008004, 0x20, 256, 8, 4, 0,
  [⟨31, 16, .ro, .any⟩, ⟨7, 0, .ro, .any⟩]⟩
def NETH_CTL : RegDesc := ⟨.NETH_CTL, 0x60000000, 0, 1, 0, 1, 1,
  [⟨27, 16, .rw, .any⟩, ⟨8, 8, .rw, .any⟩, ⟨3, 3, .rw, .any⟩, ⟨2, 1, .rw, .inRange 0 2⟩, ⟨0, 0, .rw, .any⟩]⟩
def NETH_STAT : RegDesc := ⟨.NETH_STAT, 0x60000004, 0, 1, 0, 1, 0,
  [⟨9, 9, .w1c, .any⟩, ⟨8, 8, .w1c, .any⟩, ⟨2, 1, .ro, .any⟩, ⟨0, 0, .ro, .any⟩]⟩
def NETH_MAC_LO : RegDesc := ⟨.NETH_MAC_LO, 0x60000008, 0, 1, 0, 1, 0,
  [⟨31, 0, .rwc, .any⟩]⟩
def NETH_MAC_HI : RegDesc := ⟨.NETH_MAC_HI, 0x6000000c, 0, 1, 0, 1, 0,
  [⟨15, 0, .rwc, .any⟩]⟩
def NETH_IP4 : RegDesc := ⟨.NETH_IP4, 0x60000010, 0, 1, 0, 1, 0,
  [⟨31, 0, .rwc, .any⟩]⟩
def NETH_IP4PFX : RegDesc := ⟨.NETH_IP4PFX, 0x60000014, 0, 1, 0, 1, 0,
  [⟨5, 0, .rwc, .inRange 0 32⟩]⟩
def NETH_IP6 : RegDesc := ⟨.NETH_IP6, 0x60000018, 4, 4, 0, 1, 0,
  [⟨31, 0, .rwc, .any⟩]⟩
def NETH_UDP : RegDesc := ⟨.NETH_UDP, 0x60000028, 0, 1, 0, 1, 0xc63c,
  [⟨15, 0, .rwc, .any⟩]⟩
def NETH_CRED : RegDesc := ⟨.NETH_CRED, 0x6000002c, 0, 1, 0, 1, 0x64,
  [⟨15, 0, .rw, .inRange 10 65535⟩]⟩
def NETH_RXFRM : RegDesc := ⟨.NETH_RXFRM, 0x60000030, 0, 1, 0, 1, 0,
  [⟨31, 0, .ro, .any⟩]⟩
def NETH_RXDROP : RegDesc := ⟨.NETH_RXDROP, 0x60000034, 0, 1, 0, 1, 0,
  [⟨31, 0, .ro, .any⟩]⟩
def NETH_AUTHFAIL : RegDesc := ⟨.NETH_AUTHFAIL, 0x60000038, 0, 1, 0, 1, 0,
  [⟨31, 0, .ro, .any⟩]⟩
def NETH_TXDROP : RegDesc := ⟨.NETH_TXDROP, 0x6000003c, 0, 1, 0, 1, 0,
  [⟨31, 0, .ro, .any⟩]⟩
def KEY : RegDesc := ⟨.KEY, 0x60000800, 0x40, 8, 4, 8, 0,
  [⟨31, 0, .rwc, .any⟩]⟩
def KPERM : RegDesc := ⟨.KPERM, 0x60000820, 0x40, 8, 0, 1, 0,
  [⟨18, 16, .rwc, .any⟩, ⟨8, 8, .rwc, .any⟩, ⟨4, 4, .rwc, .any⟩, ⟨3, 3, .rwc, .any⟩, ⟨2, 2, .rwc, .any⟩, ⟨1, 1, .rwc, .any⟩, ⟨0, 0, .rwc, .any⟩]⟩
def KRXHW_LO : RegDesc := ⟨.KRXHW_LO, 0x60000824, 0x40, 8, 0, 1, 0,
  [⟨31, 0, .ro, .any⟩]⟩
def KRXHW_HI : RegDesc := ⟨.KRXHW_HI, 0x60000828, 0x40, 8, 0, 1, 0,
  [⟨31, 0, .ro, .any⟩]⟩
def KTX_LO : RegDesc := ⟨.KTX_LO, 0x6000082c, 0x40, 8, 0, 1, 0,
  [⟨31, 0, .ro, .any⟩]⟩
def KTX_HI : RegDesc := ⟨.KTX_HI, 0x60000830, 0x40, 8, 0, 1, 0,
  [⟨31, 0, .ro, .any⟩]⟩
def NETL_CTL : RegDesc := ⟨.NETL_CTL, 0x61000000, 0x100, 2, 0, 1, 1,
  [⟨27, 16, .rw, .any⟩, ⟨8, 8, .rw, .any⟩, ⟨2, 1, .rw, .inRange 0 0⟩, ⟨0, 0, .rw, .any⟩]⟩
def NETL_STAT : RegDesc := ⟨.NETL_STAT, 0x61000004, 0x100, 2, 0, 1, 0,
  [⟨9, 9, .w1c, .any⟩, ⟨8, 8, .w1c, .any⟩, ⟨2, 1, .ro, .any⟩, ⟨0, 0, .ro, .any⟩]⟩
def NETL_MAC_LO : RegDesc := ⟨.NETL_MAC_LO, 0x61000008, 0x100, 2, 0, 1, 0,
  [⟨31, 0, .rwc, .any⟩]⟩
def NETL_MAC_HI : RegDesc := ⟨.NETL_MAC_HI, 0x6100000c, 0x100, 2, 0, 1, 0,
  [⟨15, 0, .rwc, .any⟩]⟩
def NETL_IP4 : RegDesc := ⟨.NETL_IP4, 0x61000010, 0x100, 2, 0, 1, 0,
  [⟨31, 0, .rwc, .any⟩]⟩
def NETL_IP4PFX : RegDesc := ⟨.NETL_IP4PFX, 0x61000014, 0x100, 2, 0, 1, 0,
  [⟨5, 0, .rwc, .inRange 0 32⟩]⟩
def NETL_IP6 : RegDesc := ⟨.NETL_IP6, 0x61000018, 0x100, 2, 4, 4, 0,
  [⟨31, 0, .rwc, .any⟩]⟩
def NETL_UDP : RegDesc := ⟨.NETL_UDP, 0x61000028, 0x100, 2, 0, 1, 0xc63c,
  [⟨15, 0, .rwc, .any⟩]⟩
def NETL_CRED : RegDesc := ⟨.NETL_CRED, 0x6100002c, 0x100, 2, 0, 1, 0x64,
  [⟨15, 0, .rw, .inRange 10 65535⟩]⟩
def NETL_RXFRM : RegDesc := ⟨.NETL_RXFRM, 0x61000030, 0x100, 2, 0, 1, 0,
  [⟨31, 0, .ro, .any⟩]⟩
def NETL_RXDROP : RegDesc := ⟨.NETL_RXDROP, 0x61000034, 0x100, 2, 0, 1, 0,
  [⟨31, 0, .ro, .any⟩]⟩
def NETL_AUTHFAIL : RegDesc := ⟨.NETL_AUTHFAIL, 0x61000038, 0x100, 2, 0, 1, 0,
  [⟨31, 0, .ro, .any⟩]⟩
def NETL_TXDROP : RegDesc := ⟨.NETL_TXDROP, 0x6100003c, 0x100, 2, 0, 1, 0,
  [⟨31, 0, .ro, .any⟩]⟩
def HLT_STAT : RegDesc := ⟨.HLT_STAT, 0x10010000, 0, 1, 0, 1, 0,
  [⟨16, 16, .w1c, .any⟩, ⟨10, 10, .w1c, .any⟩, ⟨9, 9, .w1c, .any⟩, ⟨8, 8, .w1c, .any⟩, ⟨4, 4, .ro, .any⟩, ⟨3, 3, .ro, .any⟩, ⟨2, 2, .ro, .any⟩, ⟨1, 1, .ro, .any⟩, ⟨0, 0, .ro, .any⟩]⟩
def HLT_POOLS : RegDesc := ⟨.HLT_POOLS, 0x10010004, 0, 1, 0, 1, 0x81412,
  [⟨19, 16, .ro, .any⟩, ⟨12, 12, .ro, .any⟩, ⟨10, 8, .ro, .any⟩, ⟨4, 4, .ro, .any⟩, ⟨1, 0, .ro, .any⟩]⟩
def HLT_SHED : RegDesc := ⟨.HLT_SHED, 0x10010008, 0, 1, 0, 1, 0,
  [⟨15, 0, .ro, .any⟩]⟩
def HLT_RODMAP : RegDesc := ⟨.HLT_RODMAP, 0x10010010, 4, 4, 0, 1, 0,
  [⟨31, 0, .ro, .any⟩]⟩
def HLT_TEMP : RegDesc := ⟨.HLT_TEMP, 0x10010020, 4, 12, 0, 1, 0,
  [⟨31, 0, .ro, .any⟩]⟩
def HLT_TMAX : RegDesc := ⟨.HLT_TMAX, 0x10010050, 0, 1, 0, 1, 0,
  [⟨19, 16, .ro, .any⟩, ⟨15, 0, .ro, .any⟩]⟩
def HLT_HUMID : RegDesc := ⟨.HLT_HUMID, 0x10010054, 0, 1, 0, 1, 0,
  [⟨31, 0, .ro, .any⟩]⟩
def HLT_VLOG : RegDesc := ⟨.HLT_VLOG, 0x10010058, 0, 1, 0, 1, 0,
  [⟨31, 0, .ro, .any⟩]⟩
def HLT_VCORE : RegDesc := ⟨.HLT_VCORE, 0x1001005c, 0, 1, 0, 1, 0,
  [⟨31, 0, .ro, .any⟩]⟩
def HLT_SCRUB : RegDesc := ⟨.HLT_SCRUB, 0x10010060, 0, 1, 0, 1, 0x810000a,
  [⟨31, 24, .rw, .inRange 1 255⟩, ⟨23, 16, .rw, .inRange 1 255⟩, ⟨15, 0, .rw, .inRange 1 3600⟩]⟩
def HLT_SCRUBST : RegDesc := ⟨.HLT_SCRUBST, 0x10010064, 0, 1, 0, 1, 0,
  [⟨31, 16, .ro, .any⟩, ⟨15, 0, .ro, .any⟩]⟩
def HLT_CORR : RegDesc := ⟨.HLT_CORR, 0x10010068, 0, 1, 0, 1, 0,
  [⟨31, 0, .ro, .any⟩]⟩
def HLT_POISON : RegDesc := ⟨.HLT_POISON, 0x1001006c, 0, 1, 0, 1, 0,
  [⟨31, 0, .ro, .any⟩]⟩
def HLT_HUMLIM : RegDesc := ⟨.HLT_HUMLIM, 0x10010070, 0, 1, 0, 1, 0x3520258,
  [⟨25, 16, .rw, .inRange 100 1000⟩, ⟨9, 0, .rw, .inRange 100 1000⟩]⟩
def HLT_MAPCLR : RegDesc := ⟨.HLT_MAPCLR, 0x10010074, 0, 1, 0, 1, 0,
  [⟨0, 0, .w1s, .any⟩]⟩
def STO_CTL : RegDesc := ⟨.STO_CTL, 0x10020000, 0, 1, 0, 1, 0,
  [⟨1, 1, .w1s, .any⟩, ⟨0, 0, .w1s, .any⟩]⟩
def STO_STAT : RegDesc := ⟨.STO_STAT, 0x10020004, 0, 1, 0, 1, 0,
  [⟨18, 18, .w1c, .any⟩, ⟨17, 17, .w1c, .any⟩, ⟨16, 16, .w1c, .any⟩, ⟨8, 8, .ro, .any⟩, ⟨7, 7, .ro, .any⟩, ⟨6, 6, .ro, .any⟩, ⟨5, 5, .ro, .any⟩, ⟨4, 4, .ro, .any⟩, ⟨3, 3, .ro, .any⟩, ⟨2, 2, .ro, .any⟩, ⟨1, 1, .ro, .any⟩, ⟨0, 0, .ro, .any⟩]⟩
def STO_SEQ_LO : RegDesc := ⟨.STO_SEQ_LO, 0x10020008, 0, 1, 0, 1, 0,
  [⟨31, 0, .ro, .any⟩]⟩
def STO_SEQ_HI : RegDesc := ⟨.STO_SEQ_HI, 0x1002000c, 0, 1, 0, 1, 0,
  [⟨31, 0, .ro, .any⟩]⟩
def STO_DIRTY : RegDesc := ⟨.STO_DIRTY, 0x10020010, 0, 1, 0, 1, 0,
  [⟨10, 0, .ro, .any⟩]⟩
def STO_LAST : RegDesc := ⟨.STO_LAST, 0x10020014, 0, 1, 0, 1, 0,
  [⟨26, 16, .ro, .any⟩, ⟨4, 4, .ro, .any⟩, ⟨3, 0, .ro, .any⟩]⟩
def STO_LASTUS : RegDesc := ⟨.STO_LASTUS, 0x10020018, 0, 1, 0, 1, 0,
  [⟨31, 0, .ro, .any⟩]⟩
def STO_UADDR : RegDesc := ⟨.STO_UADDR, 0x10020020, 0, 1, 0, 1, 0,
  [⟨17, 0, .rw, .inRange 0 258044⟩]⟩
def STO_UDATA : RegDesc := ⟨.STO_UDATA, 0x10020024, 0, 1, 0, 1, 0,
  [⟨31, 0, .rw, .any⟩]⟩
def STO_LOGHEAD : RegDesc := ⟨.STO_LOGHEAD, 0x10020030, 0, 1, 0, 1, 0,
  [⟨31, 0, .ro, .any⟩]⟩
def STO_LOGIDX : RegDesc := ⟨.STO_LOGIDX, 0x10020034, 0, 1, 0, 1, 0,
  [⟨31, 0, .rw, .any⟩]⟩
def STO_LOGSTAT : RegDesc := ⟨.STO_LOGSTAT, 0x10020038, 0, 1, 0, 1, 0,
  [⟨2, 2, .ro, .any⟩, ⟨1, 1, .ro, .any⟩, ⟨0, 0, .ro, .any⟩]⟩
def STO_LOGLOST : RegDesc := ⟨.STO_LOGLOST, 0x1002003c, 0, 1, 0, 1, 0,
  [⟨31, 0, .ro, .any⟩]⟩
def STO_LOGREC : RegDesc := ⟨.STO_LOGREC, 0x10020040, 4, 16, 0, 1, 0,
  [⟨31, 0, .ro, .any⟩]⟩
def STO_LOGBUF : RegDesc := ⟨.STO_LOGBUF, 0x10020080, 4, 11, 0, 1, 0,
  [⟨31, 0, .rw, .any⟩]⟩
def SYS_MODE : RegDesc := ⟨.SYS_MODE, 0x10000000, 0, 1, 0, 1, 0,
  [⟨26, 24, .ro, .any⟩, ⟨18, 16, .ro, .any⟩, ⟨8, 8, .ro, .any⟩, ⟨2, 0, .ro, .any⟩]⟩
def SYS_CONFIG : RegDesc := ⟨.SYS_CONFIG, 0x10000004, 0, 1, 0, 1, 0x131,
  [⟨15, 8, .ro, .any⟩, ⟨5, 5, .ro, .any⟩, ⟨4, 4, .ro, .any⟩, ⟨3, 0, .ro, .any⟩]⟩
def SYS_CMD : RegDesc := ⟨.SYS_CMD, 0x10000008, 0, 1, 0, 1, 0,
  [⟨3, 0, .wo, .any⟩]⟩
def SYS_STAT : RegDesc := ⟨.SYS_STAT, 0x1000000c, 0, 1, 0, 1, 0,
  [⟨18, 18, .w1c, .any⟩, ⟨17, 17, .w1c, .any⟩, ⟨16, 16, .w1c, .any⟩, ⟨5, 5, .ro, .any⟩, ⟨4, 4, .ro, .any⟩, ⟨3, 3, .ro, .any⟩, ⟨2, 2, .ro, .any⟩, ⟨1, 1, .ro, .any⟩, ⟨0, 0, .ro, .any⟩]⟩
def SYS_RCAUSE : RegDesc := ⟨.SYS_RCAUSE, 0x10000010, 0, 1, 0, 1, 1,
  [⟨31, 16, .ro, .any⟩, ⟨14, 12, .ro, .any⟩, ⟨11, 8, .ro, .any⟩, ⟨4, 4, .ro, .any⟩, ⟨3, 3, .ro, .any⟩, ⟨2, 0, .ro, .any⟩]⟩
def SYS_PDCTL : RegDesc := ⟨.SYS_PDCTL, 0x10000014, 0, 1, 0, 1, 0x7a,
  [⟨1, 1, .rw, .any⟩, ⟨3, 3, .rw, .any⟩, ⟨4, 4, .rw, .any⟩, ⟨5, 5, .rw, .any⟩, ⟨6, 6, .rw, .any⟩]⟩
def SYS_PDSTAT : RegDesc := ⟨.SYS_PDSTAT, 0x10000018, 0, 1, 0, 1, 0,
  [⟨15, 0, .ro, .any⟩]⟩
def SYS_SAFECFG : RegDesc := ⟨.SYS_SAFECFG, 0x1000001c, 0, 1, 0, 1, 0xf00533e8,
  [⟨31, 28, .rwc, .any⟩, ⟨26, 16, .rwc, .inRange 5 2000⟩, ⟨13, 13, .rwc, .any⟩, ⟨12, 12, .rwc, .any⟩, ⟨11, 0, .rwc, .inRange 0 4000⟩]⟩
def SYS_FIREMASK_LO : RegDesc := ⟨.SYS_FIREMASK_LO, 0x10000020, 0, 1, 0, 1, 0,
  [⟨31, 0, .rwc, .any⟩]⟩
def SYS_FIREMASK_HI : RegDesc := ⟨.SYS_FIREMASK_HI, 0x10000024, 0, 1, 0, 1, 0,
  [⟨31, 0, .rwc, .any⟩]⟩
def SYS_FIRECTL : RegDesc := ⟨.SYS_FIRECTL, 0x10000028, 0, 1, 0, 1, 0,
  [⟨0, 0, .rw, .any⟩]⟩
def SYS_WDT : RegDesc := ⟨.SYS_WDT, 0x1000002c, 0, 1, 0, 1, 0x3e8,
  [⟨31, 16, .rw, .any⟩, ⟨15, 0, .rw, .inRange 10 60000⟩]⟩
def SYS_WDTKICK : RegDesc := ⟨.SYS_WDTKICK, 0x10000030, 0, 1, 0, 1, 0,
  [⟨0, 0, .w1s, .any⟩]⟩
def SYS_WAKE : RegDesc := ⟨.SYS_WAKE, 0x10000034, 0, 1, 0, 1, 0,
  [⟨18, 16, .ro, .any⟩, ⟨1, 1, .rw, .any⟩, ⟨0, 0, .rw, .any⟩]⟩
def SYS_WAKEAT_LO : RegDesc := ⟨.SYS_WAKEAT_LO, 0x10000038, 0, 1, 0, 1, 0,
  [⟨31, 0, .rw, .any⟩]⟩
def SYS_WAKEAT_HI : RegDesc := ⟨.SYS_WAKEAT_HI, 0x1000003c, 0, 1, 0, 1, 0,
  [⟨31, 0, .rw, .any⟩]⟩
def SYS_RHT_LSW : RegDesc := ⟨.SYS_RHT_LSW, 0x10000040, 0, 1, 0, 1, 0,
  [⟨31, 0, .rwc, .any⟩]⟩
def SYS_RHT_MTR : RegDesc := ⟨.SYS_RHT_MTR, 0x10000044, 0, 1, 0, 1, 0,
  [⟨15, 0, .rwc, .any⟩]⟩
def SYS_RHT_TIME : RegDesc := ⟨.SYS_RHT_TIME, 0x10000048, 0, 1, 0, 1, 0x3c,
  [⟨31, 16, .rwc, .any⟩, ⟨15, 0, .rwc, .inRange 1 65535⟩]⟩
def SYS_HELD : RegDesc := ⟨.SYS_HELD, 0x1000004c, 0, 1, 0, 1, 0,
  [⟨31, 0, .ro, .any⟩]⟩
def SYS_HELDM : RegDesc := ⟨.SYS_HELDM, 0x10000050, 0, 1, 0, 1, 0,
  [⟨7, 0, .ro, .any⟩]⟩
def SYS_HREL : RegDesc := ⟨.SYS_HREL, 0x10000054, 0, 1, 0, 1, 0,
  [⟨31, 0, .w1s, .any⟩]⟩
def SYS_HRELM : RegDesc := ⟨.SYS_HRELM, 0x10000058, 0, 1, 0, 1, 0,
  [⟨7, 0, .w1s, .any⟩]⟩
def SYS_CLR : RegDesc := ⟨.SYS_CLR, 0x1000005c, 0, 1, 0, 1, 0,
  [⟨0, 0, .w1s, .any⟩]⟩
def DIO_IN : RegDesc := ⟨.DIO_IN, 0x10040000, 0, 1, 0, 1, 0,
  [⟨19, 0, .ro, .any⟩]⟩
def DIO_OUT : RegDesc := ⟨.DIO_OUT, 0x10040004, 0, 1, 0, 1, 0,
  [⟨10, 10, .ro, .any⟩, ⟨9, 9, .ro, .any⟩, ⟨8, 8, .ro, .any⟩, ⟨0, 0, .rw, .any⟩]⟩
def DIO_STAT : RegDesc := ⟨.DIO_STAT, 0x10040008, 0, 1, 0, 1, 0,
  [⟨0, 0, .w1c, .any⟩]⟩
def DIO_CNTCLR : RegDesc := ⟨.DIO_CNTCLR, 0x1004000c, 0, 1, 0, 1, 0,
  [⟨3, 0, .w1s, .any⟩]⟩
def DIO_CFG : RegDesc := ⟨.DIO_CFG, 0x10040040, 4, 16, 0, 1, 0x64,
  [⟨23, 20, .rw, .any⟩, ⟨19, 16, .rw, .any⟩, ⟨13, 12, .rw, .any⟩, ⟨11, 10, .rw, .any⟩, ⟨8, 8, .rw, .any⟩, ⟨7, 0, .rw, .inRange 2 255⟩]⟩
def DIO_CNT : RegDesc := ⟨.DIO_CNT, 0x10040080, 8, 4, 0, 1, 0,
  [⟨31, 0, .ro, .any⟩]⟩
def DIO_CNTAGE : RegDesc := ⟨.DIO_CNTAGE, 0x10040084, 8, 4, 0, 1, 0,
  [⟨31, 16, .ro, .any⟩]⟩
end R

namespace F
def FRM_RCTL_STOP : Fld := ⟨R.FRM_RCTL, 1, 1⟩
def FRM_RCTL_START : Fld := ⟨R.FRM_RCTL, 0, 0⟩
def FRM_RSTAT_PRIO : Fld := ⟨R.FRM_RSTAT, 31, 24⟩
def FRM_RSTAT_POLICY : Fld := ⟨R.FRM_RSTAT, 23, 22⟩
def FRM_RSTAT_RESTARTS : Fld := ⟨R.FRM_RSTAT, 19, 16⟩
def FRM_RSTAT_REFUSED : Fld := ⟨R.FRM_RSTAT, 10, 10⟩
def FRM_RSTAT_OVF : Fld := ⟨R.FRM_RSTAT, 9, 9⟩
def FRM_RSTAT_SAT : Fld := ⟨R.FRM_RSTAT, 8, 8⟩
def FRM_RSTAT_STATE : Fld := ⟨R.FRM_RSTAT, 2, 0⟩
def FRM_PC_V : Fld := ⟨R.FRM_PC, 31, 0⟩
def FRM_EPC_V : Fld := ⟨R.FRM_EPC, 31, 0⟩
def FRM_ECAUSE_CLASS : Fld := ⟨R.FRM_ECAUSE, 15, 12⟩
def FRM_ECAUSE_NESTED : Fld := ⟨R.FRM_ECAUSE, 8, 8⟩
def FRM_ECAUSE_CODE : Fld := ⟨R.FRM_ECAUSE, 7, 0⟩
def FRM_EADDR_V : Fld := ⟨R.FRM_EADDR, 31, 0⟩
def FRM_DOORBELL_V : Fld := ⟨R.FRM_DOORBELL, 15, 0⟩
def FRM_PACE_RATE : Fld := ⟨R.FRM_PACE, 15, 0⟩
def CRG_CFG_SIZE : Fld := ⟨R.CRG_CFG, 4, 1⟩
def CRG_CFG_EN : Fld := ⟨R.CRG_CFG, 0, 0⟩
def CRG_BASE_V : Fld := ⟨R.CRG_BASE, 31, 0⟩
def CRG_HEAD_V : Fld := ⟨R.CRG_HEAD, 31, 0⟩
def CRG_TAIL_V : Fld := ⟨R.CRG_TAIL, 31, 0⟩
def CRG_COUNT_V : Fld := ⟨R.CRG_COUNT, 31, 0⟩
def CRG_RESERVED_V : Fld := ⟨R.CRG_RESERVED, 31, 0⟩
def CRG_TALLY_V : Fld := ⟨R.CRG_TALLY, 31, 0⟩
def CRG_PRODUCED_V : Fld := ⟨R.CRG_PRODUCED, 31, 0⟩
def CRG_CONSUMED_V : Fld := ⟨R.CRG_CONSUMED, 31, 0⟩
def CRG_LOST_V : Fld := ⟨R.CRG_LOST, 31, 0⟩
def CRG_VOID_V : Fld := ⟨R.CRG_VOID, 31, 0⟩
def CRG_STAT_POISON : Fld := ⟨R.CRG_STAT, 2, 2⟩
def CRG_STAT_OWNER : Fld := ⟨R.CRG_STAT, 1, 1⟩
def CRG_STAT_REFUSED : Fld := ⟨R.CRG_STAT, 0, 0⟩
def DFE_GSTAT_XREFUSED : Fld := ⟨R.DFE_GSTAT, 24, 24⟩
def DFE_GSTAT_UNSETTLED : Fld := ⟨R.DFE_GSTAT, 23, 16⟩
def DFE_GSTAT_FAULT : Fld := ⟨R.DFE_GSTAT, 15, 8⟩
def DFE_GSTAT_EN : Fld := ⟨R.DFE_GSTAT, 7, 0⟩
def DFE_XCHK_PERIOD_S : Fld := ⟨R.DFE_XCHK, 31, 16⟩
def DFE_XCHK_LIMIT : Fld := ⟨R.DFE_XCHK, 7, 0⟩
def DFE_CH_CTL_CURVE : Fld := ⟨R.DFE_CH_CTL, 15, 8⟩
def DFE_CH_CTL_EN : Fld := ⟨R.DFE_CH_CTL, 0, 0⟩
def DFE_CH_CELL_C0 : Fld := ⟨R.DFE_CH_CELL, 15, 0⟩
def DFE_CH_CAL0_CAL_GS : Fld := ⟨R.DFE_CH_CAL0, 31, 16⟩
def DFE_CH_CAL0_CAL_CS : Fld := ⟨R.DFE_CH_CAL0, 15, 0⟩
def DFE_CH_CAL1_CAL_TAU : Fld := ⟨R.DFE_CH_CAL1, 31, 16⟩
def DFE_CH_CAL1_CAL_GAIN : Fld := ⟨R.DFE_CH_CAL1, 15, 0⟩
def DFE_CH_TSRC_TEMP_HOLD : Fld := ⟨R.DFE_CH_TSRC, 23, 16⟩
def DFE_CH_TSRC_TSRC : Fld := ⟨R.DFE_CH_TSRC, 11, 0⟩
def DFE_CH_CM_CM_HI : Fld := ⟨R.DFE_CH_CM, 31, 16⟩
def DFE_CH_CM_CM_LO : Fld := ⟨R.DFE_CH_CM, 15, 0⟩
def DFE_CH_FLT_CM_N : Fld := ⟨R.DFE_CH_FLT, 23, 16⟩
def DFE_CH_FLT_SETTLE_US : Fld := ⟨R.DFE_CH_FLT, 15, 0⟩
def DFE_EXC_PLAN_GO : Fld := ⟨R.DFE_EXC_PLAN, 31, 31⟩
def DFE_EXC_PLAN_FRAME_US : Fld := ⟨R.DFE_EXC_PLAN, 16, 0⟩
def DFE_PLAN_FILT_MOUT_N : Fld := ⟨R.DFE_PLAN_FILT, 26, 16⟩
def DFE_PLAN_FILT_FILT_N : Fld := ⟨R.DFE_PLAN_FILT, 6, 0⟩
def DFE_ACT_PLAN_FRAME_US : Fld := ⟨R.DFE_ACT_PLAN, 16, 0⟩
def DFE_ACT_FILT_MOUT_N : Fld := ⟨R.DFE_ACT_FILT, 26, 16⟩
def DFE_ACT_FILT_FILT_N : Fld := ⟨R.DFE_ACT_FILT, 6, 0⟩
def DFE_TONE_AMP : Fld := ⟨R.DFE_TONE, 31, 24⟩
def DFE_TONE_K : Fld := ⟨R.DFE_TONE, 20, 0⟩
def DFE_ACT_TONE_AMP : Fld := ⟨R.DFE_ACT_TONE, 31, 24⟩
def DFE_ACT_TONE_K : Fld := ⟨R.DFE_ACT_TONE, 20, 0⟩
def DFE_CH_STAT_SETTLE_LEFT : Fld := ⟨R.DFE_CH_STAT, 31, 24⟩
def DFE_CH_STAT_CM_SEEN : Fld := ⟨R.DFE_CH_STAT, 19, 19⟩
def DFE_CH_STAT_OVLD_SEEN : Fld := ⟨R.DFE_CH_STAT, 18, 18⟩
def DFE_CH_STAT_SUPERSEDED : Fld := ⟨R.DFE_CH_STAT, 17, 17⟩
def DFE_CH_STAT_REFUSED : Fld := ⟨R.DFE_CH_STAT, 16, 16⟩
def DFE_CH_STAT_TSRC_LOST : Fld := ⟨R.DFE_CH_STAT, 8, 8⟩
def DFE_CH_STAT_RANGE : Fld := ⟨R.DFE_CH_STAT, 7, 7⟩
def DFE_CH_STAT_NODENS : Fld := ⟨R.DFE_CH_STAT, 6, 6⟩
def DFE_CH_STAT_FKIND : Fld := ⟨R.DFE_CH_STAT, 5, 3⟩
def DFE_CH_STAT_FAULT : Fld := ⟨R.DFE_CH_STAT, 2, 2⟩
def DFE_CH_STAT_UNSETTLED : Fld := ⟨R.DFE_CH_STAT, 1, 1⟩
def DFE_CH_STAT_ACTIVE : Fld := ⟨R.DFE_CH_STAT, 0, 0⟩
def DFE_CH_MOIST_V : Fld := ⟨R.DFE_CH_MOIST, 31, 0⟩
def DFE_CH_MFLAG_AGE : Fld := ⟨R.DFE_CH_MFLAG, 31, 16⟩
def DFE_CH_MFLAG_FLAGS : Fld := ⟨R.DFE_CH_MFLAG, 7, 0⟩
def DFE_CH_DENS_V : Fld := ⟨R.DFE_CH_DENS, 31, 0⟩
def DFE_CH_DFLAG_AGE : Fld := ⟨R.DFE_CH_DFLAG, 31, 16⟩
def DFE_CH_DFLAG_FLAGS : Fld := ⟨R.DFE_CH_DFLAG, 7, 0⟩
def DFE_CH_VCM_V : Fld := ⟨R.DFE_CH_VCM, 31, 0⟩
def DFE_G_V : Fld := ⟨R.DFE_G, 31, 0⟩
def DFE_C_V : Fld := ⟨R.DFE_C, 31, 0⟩
def PFE_CH_CTL_CURVE : Fld := ⟨R.PFE_CH_CTL, 23, 16⟩
def PFE_CH_CTL_MODE : Fld := ⟨R.PFE_CH_CTL, 11, 8⟩
def PFE_CH_CTL_RNGEV : Fld := ⟨R.PFE_CH_CTL, 2, 2⟩
def PFE_CH_CTL_EN : Fld := ⟨R.PFE_CH_CTL, 0, 0⟩
def PFE_CH_CONV_EXC : Fld := ⟨R.PFE_CH_CONV, 9, 8⟩
def PFE_CH_CONV_CHOP : Fld := ⟨R.PFE_CH_CONV, 5, 4⟩
def PFE_CH_CONV_RATE : Fld := ⟨R.PFE_CH_CONV, 3, 0⟩
def PFE_CH_RANGE_RANGE_MAX : Fld := ⟨R.PFE_CH_RANGE, 13, 12⟩
def PFE_CH_RANGE_RANGE_MIN : Fld := ⟨R.PFE_CH_RANGE, 9, 8⟩
def PFE_CH_RANGE_RANGE : Fld := ⟨R.PFE_CH_RANGE, 5, 4⟩
def PFE_CH_RANGE_AUTO : Fld := ⟨R.PFE_CH_RANGE, 0, 0⟩
def PFE_CH_CJ_CJ_SEL : Fld := ⟨R.PFE_CH_CJ, 16, 16⟩
def PFE_CH_CJ_CJ_SRC : Fld := ⟨R.PFE_CH_CJ, 11, 0⟩
def PFE_CH_CM_CM_HI : Fld := ⟨R.PFE_CH_CM, 31, 16⟩
def PFE_CH_CM_CM_LO : Fld := ⟨R.PFE_CH_CM, 15, 0⟩
def PFE_CH_FLT_CM_N : Fld := ⟨R.PFE_CH_FLT, 31, 24⟩
def PFE_CH_FLT_CJ_HOLD : Fld := ⟨R.PFE_CH_FLT, 23, 16⟩
def PFE_CH_FLT_I_LO : Fld := ⟨R.PFE_CH_FLT, 15, 0⟩
def PFE_CH_STAT_RANGE_SEEN : Fld := ⟨R.PFE_CH_STAT, 19, 19⟩
def PFE_CH_STAT_CLIP_SEEN : Fld := ⟨R.PFE_CH_STAT, 18, 18⟩
def PFE_CH_STAT_CM_SEEN : Fld := ⟨R.PFE_CH_STAT, 17, 17⟩
def PFE_CH_STAT_REFUSED : Fld := ⟨R.PFE_CH_STAT, 16, 16⟩
def PFE_CH_STAT_RANGE_NOW : Fld := ⟨R.PFE_CH_STAT, 13, 12⟩
def PFE_CH_STAT_FKIND : Fld := ⟨R.PFE_CH_STAT, 11, 8⟩
def PFE_CH_STAT_CJ_LOST : Fld := ⟨R.PFE_CH_STAT, 5, 5⟩
def PFE_CH_STAT_SPAN : Fld := ⟨R.PFE_CH_STAT, 4, 4⟩
def PFE_CH_STAT_RANGED : Fld := ⟨R.PFE_CH_STAT, 3, 3⟩
def PFE_CH_STAT_CLIPPED : Fld := ⟨R.PFE_CH_STAT, 2, 2⟩
def PFE_CH_STAT_FAULT : Fld := ⟨R.PFE_CH_STAT, 1, 1⟩
def PFE_CH_STAT_ACTIVE : Fld := ⟨R.PFE_CH_STAT, 0, 0⟩
def PFE_CH_VAL_V : Fld := ⟨R.PFE_CH_VAL, 31, 0⟩
def PFE_CH_FLAG_AGE : Fld := ⟨R.PFE_CH_FLAG, 31, 16⟩
def PFE_CH_FLAG_FLAGS : Fld := ⟨R.PFE_CH_FLAG, 7, 0⟩
def PFE_CH_RAW_V : Fld := ⟨R.PFE_CH_RAW, 31, 0⟩
def PFE_CH_VCM_V : Fld := ⟨R.PFE_CH_VCM, 31, 0⟩
def PFE_GSTAT_XREFUSED : Fld := ⟨R.PFE_GSTAT, 0, 0⟩
def PFE_XCHK_PERIOD_S : Fld := ⟨R.PFE_XCHK, 31, 16⟩
def PFE_XCHK_LIMIT : Fld := ⟨R.PFE_XCHK, 15, 0⟩
def PFE_EN_LO_V : Fld := ⟨R.PFE_EN_LO, 31, 0⟩
def PFE_EN_HI_V : Fld := ⟨R.PFE_EN_HI, 31, 0⟩
def PFE_FAULT_LO_V : Fld := ⟨R.PFE_FAULT_LO, 31, 0⟩
def PFE_FAULT_HI_V : Fld := ⟨R.PFE_FAULT_HI, 31, 0⟩
def PFE_CJT_V : Fld := ⟨R.PFE_CJT, 31, 0⟩
def CRV_STAT_REFUSED : Fld := ⟨R.CRV_STAT, 0, 0⟩
def CRV_USE_LO_V : Fld := ⟨R.CRV_USE_LO, 31, 0⟩
def CRV_USE_HI_V : Fld := ⟨R.CRV_USE_HI, 31, 0⟩
def LPE_CTL_FIRE_CLR : Fld := ⟨R.LPE_CTL, 17, 17⟩
def LPE_CTL_FIRE : Fld := ⟨R.LPE_CTL, 16, 16⟩
def LPE_CTL_ESSENTIAL : Fld := ⟨R.LPE_CTL, 8, 8⟩
def LPE_CTL_CMD : Fld := ⟨R.LPE_CTL, 2, 0⟩
def LPE_STAT_CAUSE : Fld := ⟨R.LPE_STAT, 31, 28⟩
def LPE_STAT_AUTO_PEND : Fld := ⟨R.LPE_STAT, 23, 23⟩
def LPE_STAT_SHED : Fld := ⟨R.LPE_STAT, 22, 22⟩
def LPE_STAT_FIRE_REQ : Fld := ⟨R.LPE_STAT, 21, 21⟩
def LPE_STAT_DL_NODISP : Fld := ⟨R.LPE_STAT, 20, 20⟩
def LPE_STAT_DL_HELD : Fld := ⟨R.LPE_STAT, 19, 19⟩
def LPE_STAT_FROZEN : Fld := ⟨R.LPE_STAT, 18, 18⟩
def LPE_STAT_LOSS : Fld := ⟨R.LPE_STAT, 17, 17⟩
def LPE_STAT_SKIPPING : Fld := ⟨R.LPE_STAT, 16, 16⟩
def LPE_STAT_ULIM : Fld := ⟨R.LPE_STAT, 15, 15⟩
def LPE_STAT_UNMAPPED : Fld := ⟨R.LPE_STAT, 14, 14⟩
def LPE_STAT_OVERRUN : Fld := ⟨R.LPE_STAT, 8, 8⟩
def LPE_STAT_BUMP : Fld := ⟨R.LPE_STAT, 7, 7⟩
def LPE_STAT_SAT : Fld := ⟨R.LPE_STAT, 6, 6⟩
def LPE_STAT_MISS : Fld := ⟨R.LPE_STAT, 5, 5⟩
def LPE_STAT_REFUSED : Fld := ⟨R.LPE_STAT, 4, 4⟩
def LPE_STAT_STATE : Fld := ⟨R.LPE_STAT, 2, 0⟩
def LPE_DIM_NZ : Fld := ⟨R.LPE_DIM, 26, 24⟩
def LPE_DIM_NU : Fld := ⟨R.LPE_DIM, 18, 16⟩
def LPE_DIM_NM : Fld := ⟨R.LPE_DIM, 11, 8⟩
def LPE_DIM_NX : Fld := ⟨R.LPE_DIM, 4, 0⟩
def LPE_PER_V : Fld := ⟨R.LPE_PER, 26, 0⟩
def LPE_PHASE_V : Fld := ⟨R.LPE_PHASE, 26, 0⟩
def LPE_ODLY_V : Fld := ⟨R.LPE_ODLY, 31, 0⟩
def LPE_OBS_V : Fld := ⟨R.LPE_OBS, 31, 0⟩
def LPE_SUP_LOSS_SKIP : Fld := ⟨R.LPE_SUP, 23, 16⟩
def LPE_SUP_RECOVER_N : Fld := ⟨R.LPE_SUP, 15, 8⟩
def LPE_SUP_FREEZE_N : Fld := ⟨R.LPE_SUP, 7, 0⟩
def LPE_MISS_V : Fld := ⟨R.LPE_MISS, 31, 0⟩
def LPE_OVR_V : Fld := ⟨R.LPE_OVR, 31, 0⟩
def LPE_MACS_PRESET : Fld := ⟨R.LPE_MACS, 31, 16⟩
def LPE_MACS_C : Fld := ⟨R.LPE_MACS, 15, 0⟩
def LPE_MSRC_AGE_MAX : Fld := ⟨R.LPE_MSRC, 31, 16⟩
def LPE_MSRC_NEW_ONLY : Fld := ⟨R.LPE_MSRC, 13, 13⟩
def LPE_MSRC_REQ : Fld := ⟨R.LPE_MSRC, 12, 12⟩
def LPE_MSRC_MSRC : Fld := ⟨R.LPE_MSRC, 11, 0⟩
def LPE_FEPS_V : Fld := ⟨R.LPE_FEPS, 31, 0⟩
def LPE_FPRED_V : Fld := ⟨R.LPE_FPRED, 31, 0⟩
def LPE_ODST_DST : Fld := ⟨R.LPE_ODST, 11, 0⟩
def LPE_UMIN_V : Fld := ⟨R.LPE_UMIN, 31, 0⟩
def LPE_UMAX_V : Fld := ⟨R.LPE_UMAX, 31, 0⟩
def LPE_SAFE_V : Fld := ⟨R.LPE_SAFE, 31, 0⟩
def LPE_MAN_V : Fld := ⟨R.LPE_MAN, 31, 0⟩
def LPE_UAPP_V : Fld := ⟨R.LPE_UAPP, 31, 0⟩
def LPE_REF_V : Fld := ⟨R.LPE_REF, 31, 0⟩
def LPE_IMIN_V : Fld := ⟨R.LPE_IMIN, 31, 0⟩
def LPE_IMAX_V : Fld := ⟨R.LPE_IMAX, 31, 0⟩
def LPE_ZSRC_V : Fld := ⟨R.LPE_ZSRC, 2, 0⟩
def LPE_Z_V : Fld := ⟨R.LPE_Z, 31, 0⟩
def LPE_BUMP_V : Fld := ⟨R.LPE_BUMP, 31, 0⟩
def LPE_Y_V : Fld := ⟨R.LPE_Y, 31, 0⟩
def LPE_YP_V : Fld := ⟨R.LPE_YP, 31, 0⟩
def LPE_DLCFG_DL_LEN : Fld := ⟨R.LPE_DLCFG, 25, 16⟩
def LPE_DLCFG_DL_SRCSEL : Fld := ⟨R.LPE_DLCFG, 3, 3⟩
def LPE_DLCFG_DL_FILL : Fld := ⟨R.LPE_DLCFG, 2, 2⟩
def LPE_DLCFG_DL_MODE : Fld := ⟨R.LPE_DLCFG, 1, 0⟩
def LPE_DLBASE_DL_DIV : Fld := ⟨R.LPE_DLBASE, 31, 16⟩
def LPE_DLBASE_DL_BASE : Fld := ⟨R.LPE_DLBASE, 13, 0⟩
def LPE_DLSRC_DL_DSRC : Fld := ⟨R.LPE_DLSRC, 27, 16⟩
def LPE_DLSRC_DL_SRC : Fld := ⟨R.LPE_DLSRC, 11, 0⟩
def LPE_DLSTEP_V : Fld := ⟨R.LPE_DLSTEP, 31, 0⟩
def LPE_DLACC_V : Fld := ⟨R.LPE_DLACC, 31, 0⟩
def LPE_X_V : Fld := ⟨R.LPE_X, 31, 0⟩
def RC_CTL_SNAP : Fld := ⟨R.RC_CTL, 8, 8⟩
def RC_CTL_APPLY : Fld := ⟨R.RC_CTL, 1, 1⟩
def RC_CTL_LEARN : Fld := ⟨R.RC_CTL, 0, 0⟩
def RC_CFG_LEAD : Fld := ⟨R.RC_CFG, 27, 16⟩
def RC_CFG_RC_ZL : Fld := ⟨R.RC_CFG, 9, 8⟩
def RC_CFG_RC_OUT : Fld := ⟨R.RC_CFG, 5, 4⟩
def RC_CFG_RESTORE : Fld := ⟨R.RC_CFG, 2, 2⟩
def RC_CFG_PH_MODE : Fld := ⟨R.RC_CFG, 1, 0⟩
def RC_SIZE_N : Fld := ⟨R.RC_SIZE, 28, 16⟩
def RC_SIZE_RC_BASE : Fld := ⟨R.RC_SIZE, 15, 0⟩
def RC_PSRC_MK_SRC : Fld := ⟨R.RC_PSRC, 27, 16⟩
def RC_PSRC_PH_SRC : Fld := ⟨R.RC_PSRC, 11, 0⟩
def RC_PER_V : Fld := ⟨R.RC_PER, 31, 0⟩
def RC_ORG_V : Fld := ⟨R.RC_ORG, 31, 0⟩
def RC_HOLD_PH_HOLD : Fld := ⟨R.RC_HOLD, 15, 0⟩
def RC_Q_V : Fld := ⟨R.RC_Q, 31, 0⟩
def RC_QS_SH : Fld := ⟨R.RC_QS, 5, 0⟩
def RC_RHO_V : Fld := ⟨R.RC_RHO, 31, 0⟩
def RC_RHOS_SH : Fld := ⟨R.RC_RHOS, 5, 0⟩
def RC_GAMMA_V : Fld := ⟨R.RC_GAMMA, 31, 0⟩
def RC_GAMMAS_SH : Fld := ⟨R.RC_GAMMAS, 5, 0⟩
def RC_STAT_PH_SEEN : Fld := ⟨R.RC_STAT, 9, 9⟩
def RC_STAT_SNAP_DONE : Fld := ⟨R.RC_STAT, 8, 8⟩
def RC_STAT_NOREC : Fld := ⟨R.RC_STAT, 5, 5⟩
def RC_STAT_SNAP_BUSY : Fld := ⟨R.RC_STAT, 4, 4⟩
def RC_STAT_NOMARK : Fld := ⟨R.RC_STAT, 3, 3⟩
def RC_STAT_PH_LOST : Fld := ⟨R.RC_STAT, 2, 2⟩
def RC_STAT_PH_VALID : Fld := ⟨R.RC_STAT, 1, 1⟩
def RC_STAT_LEARNING : Fld := ⟨R.RC_STAT, 0, 0⟩
def RC_IDX_V : Fld := ⟨R.RC_IDX, 11, 0⟩
def RC_PHASE_V : Fld := ⟨R.RC_PHASE, 31, 0⟩
def RC_QOUT_V : Fld := ⟨R.RC_QOUT, 31, 0⟩
def LPE_GCTL_ALL_SAFE : Fld := ⟨R.LPE_GCTL, 0, 0⟩
def LPE_GSTAT_SPARE : Fld := ⟨R.LPE_GSTAT, 16, 16⟩
def LPE_GSTAT_CAPACITY : Fld := ⟨R.LPE_GSTAT, 15, 4⟩
def LPE_GSTAT_UNITS : Fld := ⟨R.LPE_GSTAT, 2, 0⟩
def LPE_LOAD_V : Fld := ⟨R.LPE_LOAD, 31, 0⟩
def LPE_POOL_V : Fld := ⟨R.LPE_POOL, 14, 0⟩
def LPE_SAFE_LO_V : Fld := ⟨R.LPE_SAFE_LO, 31, 0⟩
def LPE_SAFE_HI_V : Fld := ⟨R.LPE_SAFE_HI, 31, 0⟩
def LPE_MISS_LO_V : Fld := ⟨R.LPE_MISS_LO, 31, 0⟩
def LPE_MISS_HI_V : Fld := ⟨R.LPE_MISS_HI, 31, 0⟩
def COEF_V : Fld := ⟨R.COEF, 31, 0⟩
def COEFS_SH : Fld := ⟨R.COEFS, 5, 0⟩
def DLPOOL_V : Fld := ⟨R.DLPOOL, 31, 0⟩
def RCPOOL_V : Fld := ⟨R.RCPOOL, 31, 0⟩
def TRC_CTL_STOP : Fld := ⟨R.TRC_CTL, 2, 2⟩
def TRC_CTL_TRIG : Fld := ⟨R.TRC_CTL, 1, 1⟩
def TRC_CTL_ARM : Fld := ⟨R.TRC_CTL, 0, 0⟩
def TRC_SEL_KIND : Fld := ⟨R.TRC_SEL, 31, 28⟩
def TRC_SEL_LOOP : Fld := ⟨R.TRC_SEL, 21, 16⟩
def TRC_SEL_INDEX : Fld := ⟨R.TRC_SEL, 11, 0⟩
def TRC_DIV_V : Fld := ⟨R.TRC_DIV, 15, 0⟩
def TRC_PER_V : Fld := ⟨R.TRC_PER, 26, 0⟩
def TRC_TRG_LINKMASK : Fld := ⟨R.TRC_TRG, 23, 16⟩
def TRC_TRG_EV_CODE : Fld := ⟨R.TRC_TRG, 15, 8⟩
def TRC_TRG_TMODE : Fld := ⟨R.TRC_TRG, 2, 0⟩
def TRC_LEVEL_V : Fld := ⟨R.TRC_LEVEL, 31, 0⟩
def TRC_PRE_V : Fld := ⟨R.TRC_PRE, 11, 0⟩
def TRC_STAT_START : Fld := ⟨R.TRC_STAT, 27, 16⟩
def TRC_STAT_REFUSED : Fld := ⟨R.TRC_STAT, 9, 9⟩
def TRC_STAT_PRE_SHORT : Fld := ⟨R.TRC_STAT, 8, 8⟩
def TRC_STAT_CAUSE : Fld := ⟨R.TRC_STAT, 6, 4⟩
def TRC_STAT_STATE : Fld := ⟨R.TRC_STAT, 1, 0⟩
def TRC_COUNT_V : Fld := ⟨R.TRC_COUNT, 12, 0⟩
def TRC_TTIME_LO_V : Fld := ⟨R.TRC_TTIME_LO, 31, 0⟩
def TRC_TTIME_HI_V : Fld := ⟨R.TRC_TTIME_HI, 31, 0⟩
def TRC_BUF_V : Fld := ⟨R.TRC_BUF, 31, 0⟩
def SOL_GSTAT_UNDERV_SEEN : Fld := ⟨R.SOL_GSTAT, 2, 2⟩
def SOL_GSTAT_UNDERV : Fld := ⟨R.SOL_GSTAT, 1, 1⟩
def SOL_GSTAT_XREFUSED : Fld := ⟨R.SOL_GSTAT, 0, 0⟩
def SOL_ON_V : Fld := ⟨R.SOL_ON, 31, 0⟩
def SOL_TRIPS_V : Fld := ⟨R.SOL_TRIPS, 31, 0⟩
def SOL_LOSTS_V : Fld := ⟨R.SOL_LOSTS, 31, 0⟩
def SOL_CLASS_S_V : Fld := ⟨R.SOL_CLASS_S, 23, 0⟩
def SOL_BCFG_KINK_TH : Fld := ⟨R.SOL_BCFG, 27, 16⟩
def SOL_BCFG_DEFER_MAX : Fld := ⟨R.SOL_BCFG, 11, 0⟩
def SOL_BCTL_RESTORE : Fld := ⟨R.SOL_BCTL, 0, 0⟩
def SOL_BSTAT_REFUSED : Fld := ⟨R.SOL_BSTAT, 8, 8⟩
def SOL_BSTAT_HS_ON : Fld := ⟨R.SOL_BSTAT, 3, 3⟩
def SOL_BSTAT_DOWN_CAUSE : Fld := ⟨R.SOL_BSTAT, 2, 1⟩
def SOL_BSTAT_DOWN : Fld := ⟨R.SOL_BSTAT, 0, 0⟩
def SOL_BPEAK_QUEUED : Fld := ⟨R.SOL_BPEAK, 18, 16⟩
def SOL_BPEAK_LOAD : Fld := ⟨R.SOL_BPEAK, 15, 0⟩
def SOL_BVOLT_V : Fld := ⟨R.SOL_BVOLT, 31, 0⟩
def SOL_BCAP_VALID : Fld := ⟨R.SOL_BCAP, 31, 31⟩
def SOL_BCAP_CH : Fld := ⟨R.SOL_BCAP, 4, 0⟩
def SOL_CAP_V : Fld := ⟨R.SOL_CAP, 15, 0⟩
def SOL_CTL_CLASS_S : Fld := ⟨R.SOL_CTL, 8, 8⟩
def SOL_CTL_MEASEV : Fld := ⟨R.SOL_CTL, 7, 7⟩
def SOL_CTL_ODEC : Fld := ⟨R.SOL_CTL, 6, 6⟩
def SOL_CTL_HDEC : Fld := ⟨R.SOL_CTL, 5, 5⟩
def SOL_CTL_TDEC : Fld := ⟨R.SOL_CTL, 4, 4⟩
def SOL_CTL_SRC : Fld := ⟨R.SOL_CTL, 3, 2⟩
def SOL_CTL_PAR : Fld := ⟨R.SOL_CTL, 1, 1⟩
def SOL_CTL_EN : Fld := ⟨R.SOL_CTL, 0, 0⟩
def SOL_CUR_IHOLD : Fld := ⟨R.SOL_CUR, 31, 16⟩
def SOL_CUR_IPEAK : Fld := ⟨R.SOL_CUR, 15, 0⟩
def SOL_TIM_CHOP : Fld := ⟨R.SOL_TIM, 25, 16⟩
def SOL_TIM_TPEAK : Fld := ⟨R.SOL_TIM, 14, 0⟩
def SOL_OCL_OPEN_TH : Fld := ⟨R.SOL_OCL, 31, 16⟩
def SOL_OCL_OC_LIM : Fld := ⟨R.SOL_OCL, 15, 0⟩
def SOL_MEAS_DROP_EN : Fld := ⟨R.SOL_MEAS, 31, 31⟩
def SOL_MEAS_DROP_DLY : Fld := ⟨R.SOL_MEAS, 29, 16⟩
def SOL_MEAS_DIP_TH : Fld := ⟨R.SOL_MEAS, 11, 0⟩
def SOL_REP_REP_US : Fld := ⟨R.SOL_REP, 26, 0⟩
def SOL_REPPH_REP_PH : Fld := ⟨R.SOL_REPPH, 26, 0⟩
def SOL_TON_LO_V : Fld := ⟨R.SOL_TON_LO, 31, 0⟩
def SOL_TON_HI_V : Fld := ⟨R.SOL_TON_HI, 31, 0⟩
def SOL_DUR_V : Fld := ⟨R.SOL_DUR, 31, 0⟩
def SOL_CMD_NOW : Fld := ⟨R.SOL_CMD, 8, 8⟩
def SOL_CMD_OP : Fld := ⟨R.SOL_CMD, 2, 0⟩
def SOL_STAT_BLOCKED : Fld := ⟨R.SOL_STAT, 23, 23⟩
def SOL_STAT_DROP_BUSY : Fld := ⟨R.SOL_STAT, 22, 22⟩
def SOL_STAT_NODROP : Fld := ⟨R.SOL_STAT, 21, 21⟩
def SOL_STAT_NOPULL : Fld := ⟨R.SOL_STAT, 20, 20⟩
def SOL_STAT_REPLACED : Fld := ⟨R.SOL_STAT, 19, 19⟩
def SOL_STAT_CONFLICT : Fld := ⟨R.SOL_STAT, 18, 18⟩
def SOL_STAT_LATE : Fld := ⟨R.SOL_STAT, 17, 17⟩
def SOL_STAT_REFUSED : Fld := ⟨R.SOL_STAT, 16, 16⟩
def SOL_STAT_HOT : Fld := ⟨R.SOL_STAT, 10, 10⟩
def SOL_STAT_GATED : Fld := ⟨R.SOL_STAT, 9, 9⟩
def SOL_STAT_BANK_DOWN : Fld := ⟨R.SOL_STAT, 8, 8⟩
def SOL_STAT_LOST : Fld := ⟨R.SOL_STAT, 7, 7⟩
def SOL_STAT_OPEN : Fld := ⟨R.SOL_STAT, 6, 6⟩
def SOL_STAT_TRIP : Fld := ⟨R.SOL_STAT, 5, 5⟩
def SOL_STAT_DEFERRED : Fld := ⟨R.SOL_STAT, 4, 4⟩
def SOL_STAT_ARMED : Fld := ⟨R.SOL_STAT, 3, 3⟩
def SOL_STAT_PHASE : Fld := ⟨R.SOL_STAT, 2, 1⟩
def SOL_STAT_ON : Fld := ⟨R.SOL_STAT, 0, 0⟩
def SOL_CLR_TRIP : Fld := ⟨R.SOL_CLR, 0, 0⟩
def SOL_DEFER_V : Fld := ⟨R.SOL_DEFER, 31, 0⟩
def SOL_PULLIN_VALID : Fld := ⟨R.SOL_PULLIN, 31, 31⟩
def SOL_PULLIN_T : Fld := ⟨R.SOL_PULLIN, 24, 0⟩
def SOL_DROPOUT_VALID : Fld := ⟨R.SOL_DROPOUT, 31, 31⟩
def SOL_DROPOUT_T : Fld := ⟨R.SOL_DROPOUT, 24, 0⟩
def SOL_IMEAS_V : Fld := ⟨R.SOL_IMEAS, 15, 0⟩
def SOL_ONCNT_V : Fld := ⟨R.SOL_ONCNT, 31, 0⟩
def LSW_GSTAT_XREFUSED : Fld := ⟨R.LSW_GSTAT, 0, 0⟩
def LSW_ON_V : Fld := ⟨R.LSW_ON, 31, 0⟩
def LSW_FAULTS_V : Fld := ⟨R.LSW_FAULTS, 31, 0⟩
def LSW_OPENS_V : Fld := ⟨R.LSW_OPENS, 31, 0⟩
def LSW_GPER_PER_US : Fld := ⟨R.LSW_GPER, 23, 0⟩
def LSW_GUSE_V : Fld := ⟨R.LSW_GUSE, 31, 0⟩
def LSW_GRCTL_RESTORE : Fld := ⟨R.LSW_GRCTL, 0, 0⟩
def LSW_GRSTAT_GOVL_SEEN : Fld := ⟨R.LSW_GRSTAT, 10, 10⟩
def LSW_GRSTAT_UNDERV_SEEN : Fld := ⟨R.LSW_GRSTAT, 9, 9⟩
def LSW_GRSTAT_REFUSED : Fld := ⟨R.LSW_GRSTAT, 8, 8⟩
def LSW_GRSTAT_GOVL : Fld := ⟨R.LSW_GRSTAT, 5, 5⟩
def LSW_GRSTAT_UNDERV : Fld := ⟨R.LSW_GRSTAT, 4, 4⟩
def LSW_GRSTAT_CLOSED : Fld := ⟨R.LSW_GRSTAT, 3, 3⟩
def LSW_GRSTAT_DOWN_CAUSE : Fld := ⟨R.LSW_GRSTAT, 2, 1⟩
def LSW_GRSTAT_DOWN : Fld := ⟨R.LSW_GRSTAT, 0, 0⟩
def LSW_GRVOLT_V : Fld := ⟨R.LSW_GRVOLT, 31, 0⟩
def LSW_GRCUR_MEAN : Fld := ⟨R.LSW_GRCUR, 31, 16⟩
def LSW_GRCUR_NOW : Fld := ⟨R.LSW_GRCUR, 15, 0⟩
def LSW_CTL_OL_EN : Fld := ⟨R.LSW_CTL, 5, 5⟩
def LSW_CTL_LAMP : Fld := ⟨R.LSW_CTL, 4, 4⟩
def LSW_CTL_SRC : Fld := ⟨R.LSW_CTL, 3, 2⟩
def LSW_CTL_EN : Fld := ⟨R.LSW_CTL, 0, 0⟩
def LSW_LIM_OL_DLY : Fld := ⟨R.LSW_LIM, 31, 24⟩
def LSW_LIM_OL_TH : Fld := ⟨R.LSW_LIM, 23, 16⟩
def LSW_LIM_ILIM : Fld := ⟨R.LSW_LIM, 7, 0⟩
def LSW_RETRY_RETRY_INT : Fld := ⟨R.LSW_RETRY, 31, 16⟩
def LSW_RETRY_OK_S : Fld := ⟨R.LSW_RETRY, 15, 8⟩
def LSW_RETRY_RETRY_MAX : Fld := ⟨R.LSW_RETRY, 3, 0⟩
def LSW_PWM_OFFSET : Fld := ⟨R.LSW_PWM, 15, 8⟩
def LSW_PWM_GEN : Fld := ⟨R.LSW_PWM, 2, 0⟩
def LSW_DUTY_V : Fld := ⟨R.LSW_DUTY, 15, 0⟩
def LSW_CMD_OP : Fld := ⟨R.LSW_CMD, 1, 0⟩
def LSW_STAT_RETRY_LEFT : Fld := ⟨R.LSW_STAT, 31, 28⟩
def LSW_STAT_HOT_SEEN : Fld := ⟨R.LSW_STAT, 19, 19⟩
def LSW_STAT_OPEN_SEEN : Fld := ⟨R.LSW_STAT, 18, 18⟩
def LSW_STAT_RESTARTED : Fld := ⟨R.LSW_STAT, 17, 17⟩
def LSW_STAT_REFUSED : Fld := ⟨R.LSW_STAT, 16, 16⟩
def LSW_STAT_UNDERV : Fld := ⟨R.LSW_STAT, 11, 11⟩
def LSW_STAT_GROUP_DOWN : Fld := ⟨R.LSW_STAT, 10, 10⟩
def LSW_STAT_LOST : Fld := ⟨R.LSW_STAT, 9, 9⟩
def LSW_STAT_OPEN : Fld := ⟨R.LSW_STAT, 8, 8⟩
def LSW_STAT_EXHAUSTED : Fld := ⟨R.LSW_STAT, 7, 7⟩
def LSW_STAT_PENDING : Fld := ⟨R.LSW_STAT, 6, 6⟩
def LSW_STAT_HOT : Fld := ⟨R.LSW_STAT, 5, 5⟩
def LSW_STAT_TRIP : Fld := ⟨R.LSW_STAT, 4, 4⟩
def LSW_STAT_LAMP_WIN : Fld := ⟨R.LSW_STAT, 3, 3⟩
def LSW_STAT_CMD : Fld := ⟨R.LSW_STAT, 2, 1⟩
def LSW_STAT_ON : Fld := ⟨R.LSW_STAT, 0, 0⟩
def LSW_CLR_FAULT : Fld := ⟨R.LSW_CLR, 0, 0⟩
def LSW_IMEAS_V : Fld := ⟨R.LSW_IMEAS, 15, 0⟩
def LSW_VOUT_V : Fld := ⟨R.LSW_VOUT, 31, 0⟩
def LSW_TEMP_V : Fld := ⟨R.LSW_TEMP, 31, 0⟩
def LSW_FCNT_V : Fld := ⟨R.LSW_FCNT, 31, 0⟩
def MTR_CTL_STOPMODE : Fld := ⟨R.MTR_CTL, 17, 16⟩
def MTR_CTL_FB : Fld := ⟨R.MTR_CTL, 13, 12⟩
def MTR_CTL_MODE : Fld := ⟨R.MTR_CTL, 9, 8⟩
def MTR_CTL_DIR : Fld := ⟨R.MTR_CTL, 4, 4⟩
def MTR_CTL_SRC : Fld := ⟨R.MTR_CTL, 3, 2⟩
def MTR_CTL_EN : Fld := ⟨R.MTR_CTL, 0, 0⟩
def MTR_STAT_STALL_SEEN : Fld := ⟨R.MTR_STAT, 26, 26⟩
def MTR_STAT_TRIP_SEEN : Fld := ⟨R.MTR_STAT, 25, 25⟩
def MTR_STAT_REFUSED : Fld := ⟨R.MTR_STAT, 24, 24⟩
def MTR_STAT_ATTEMPTS : Fld := ⟨R.MTR_STAT, 23, 20⟩
def MTR_STAT_TRIP_CAUSE : Fld := ⟨R.MTR_STAT, 18, 16⟩
def MTR_STAT_ILIMIT : Fld := ⟨R.MTR_STAT, 13, 13⟩
def MTR_STAT_AUTO : Fld := ⟨R.MTR_STAT, 12, 12⟩
def MTR_STAT_SAFE : Fld := ⟨R.MTR_STAT, 11, 11⟩
def MTR_STAT_HOT : Fld := ⟨R.MTR_STAT, 10, 10⟩
def MTR_STAT_OVERV : Fld := ⟨R.MTR_STAT, 9, 9⟩
def MTR_STAT_UNDERV : Fld := ⟨R.MTR_STAT, 8, 8⟩
def MTR_STAT_BUSLIM : Fld := ⟨R.MTR_STAT, 7, 7⟩
def MTR_STAT_FOLDBACK : Fld := ⟨R.MTR_STAT, 6, 6⟩
def MTR_STAT_HALL_LOST : Fld := ⟨R.MTR_STAT, 5, 5⟩
def MTR_STAT_TACH_LOST : Fld := ⟨R.MTR_STAT, 4, 4⟩
def MTR_STAT_LOCKED : Fld := ⟨R.MTR_STAT, 3, 3⟩
def MTR_STAT_STATE : Fld := ⟨R.MTR_STAT, 2, 0⟩
def MTR_CMD_V : Fld := ⟨R.MTR_CMD, 31, 0⟩
def MTR_PWM_DT : Fld := ⟨R.MTR_PWM, 27, 16⟩
def MTR_PWM_PWM_HZ : Fld := ⟨R.MTR_PWM, 15, 0⟩
def MTR_MOT0_RS : Fld := ⟨R.MTR_MOT0, 31, 8⟩
def MTR_MOT0_POLES : Fld := ⟨R.MTR_MOT0, 5, 0⟩
def MTR_MOT1_LQ : Fld := ⟨R.MTR_MOT1, 31, 16⟩
def MTR_MOT1_LD : Fld := ⟨R.MTR_MOT1, 15, 0⟩
def MTR_MOT2_V : Fld := ⟨R.MTR_MOT2, 31, 0⟩
def MTR_ILIM_I_LIM : Fld := ⟨R.MTR_ILIM, 19, 0⟩
def MTR_OCL_OC_LIM : Fld := ⟨R.MTR_OCL, 19, 0⟩
def MTR_ST0_OL_I : Fld := ⟨R.MTR_ST0, 31, 16⟩
def MTR_ST0_ALIGN_I : Fld := ⟨R.MTR_ST0, 15, 0⟩
def MTR_ST1_OL_ACC : Fld := ⟨R.MTR_ST1, 31, 16⟩
def MTR_ST1_ALIGN_MS : Fld := ⟨R.MTR_ST1, 11, 0⟩
def MTR_ST2_STALL_MS : Fld := ⟨R.MTR_ST2, 31, 16⟩
def MTR_ST2_OL_TMAX : Fld := ⟨R.MTR_ST2, 15, 0⟩
def MTR_ST3_RETRIES : Fld := ⟨R.MTR_ST3, 10, 8⟩
def MTR_ST3_RWAIT_S : Fld := ⟨R.MTR_ST3, 7, 0⟩
def MTR_SPD_LOCK_SPD : Fld := ⟨R.MTR_SPD, 31, 16⟩
def MTR_SPD_MIN_SPD : Fld := ⟨R.MTR_SPD, 15, 0⟩
def MTR_SMAX_SPD_MAX : Fld := ⟨R.MTR_SMAX, 31, 0⟩
def MTR_KSP_SH : Fld := ⟨R.MTR_KSP, 31, 26⟩
def MTR_KSP_G : Fld := ⟨R.MTR_KSP, 25, 0⟩
def MTR_KSI_SH : Fld := ⟨R.MTR_KSI, 31, 26⟩
def MTR_KSI_G : Fld := ⟨R.MTR_KSI, 25, 0⟩
def MTR_KPOS_SH : Fld := ⟨R.MTR_KPOS, 31, 26⟩
def MTR_KPOS_G : Fld := ⟨R.MTR_KPOS, 25, 0⟩
def MTR_CBW_V : Fld := ⟨R.MTR_CBW, 31, 0⟩
def MTR_FB_PPR : Fld := ⟨R.MTR_FB, 10, 0⟩
def MTR_SDFS_SD_FS : Fld := ⟨R.MTR_SDFS, 19, 0⟩
def MTR_CLR_HALL : Fld := ⟨R.MTR_CLR, 3, 3⟩
def MTR_CLR_TACH : Fld := ⟨R.MTR_CLR, 2, 2⟩
def MTR_CLR_BLOCK : Fld := ⟨R.MTR_CLR, 1, 1⟩
def MTR_CLR_TRIP : Fld := ⟨R.MTR_CLR, 0, 0⟩
def MTR_SPEED_V : Fld := ⟨R.MTR_SPEED, 31, 0⟩
def MTR_POS_V : Fld := ⟨R.MTR_POS, 31, 0⟩
def MTR_FLAG_AGE : Fld := ⟨R.MTR_FLAG, 31, 16⟩
def MTR_FLAG_POSF : Fld := ⟨R.MTR_FLAG, 15, 8⟩
def MTR_FLAG_SPDF : Fld := ⟨R.MTR_FLAG, 7, 0⟩
def MTR_IQ_V : Fld := ⟨R.MTR_IQ, 31, 0⟩
def MTR_ID_V : Fld := ⟨R.MTR_ID, 31, 0⟩
def MTR_IRMS_V : Fld := ⟨R.MTR_IRMS, 31, 0⟩
def MTR_TACHSPD_V : Fld := ⟨R.MTR_TACHSPD, 31, 0⟩
def MTR_TEMP_V : Fld := ⟨R.MTR_TEMP, 31, 0⟩
def MTR_I2T_V : Fld := ⟨R.MTR_I2T, 31, 0⟩
def MTR_GSTAT_BUSLIM : Fld := ⟨R.MTR_GSTAT, 2, 2⟩
def MTR_GSTAT_OVERV : Fld := ⟨R.MTR_GSTAT, 1, 1⟩
def MTR_GSTAT_UNDERV : Fld := ⟨R.MTR_GSTAT, 0, 0⟩
def MTR_VDRV_V : Fld := ⟨R.MTR_VDRV, 31, 0⟩
def MTR_AXES_DOWN : Fld := ⟨R.MTR_AXES, 23, 16⟩
def MTR_AXES_BLOCKED : Fld := ⟨R.MTR_AXES, 15, 8⟩
def MTR_AXES_RUN : Fld := ⟨R.MTR_AXES, 7, 0⟩
def FAN_GCTL_FAN_PER : Fld := ⟨R.FAN_GCTL, 15, 0⟩
def FAN_HTO_HOST_TIMEOUT : Fld := ⟨R.FAN_HTO, 9, 0⟩
def FAN_ASTAT_HTIMER : Fld := ⟨R.FAN_ASTAT, 31, 16⟩
def FAN_ASTAT_RUNON : Fld := ⟨R.FAN_ASTAT, 3, 3⟩
def FAN_ASTAT_HOLD : Fld := ⟨R.FAN_ASTAT, 2, 2⟩
def FAN_ASTAT_HOST : Fld := ⟨R.FAN_ASTAT, 1, 1⟩
def FAN_ASTAT_ACTIVE : Fld := ⟨R.FAN_ASTAT, 0, 0⟩
def FAN_AF_AF_DLY : Fld := ⟨R.FAN_AF, 31, 20⟩
def FAN_AF_AF_MIN : Fld := ⟨R.FAN_AF, 17, 8⟩
def FAN_AF_AF_MASK : Fld := ⟨R.FAN_AF, 7, 0⟩
def FAN_AFSTAT_FAILING : Fld := ⟨R.FAN_AFSTAT, 15, 8⟩
def FAN_AFSTAT_AIRFLOW_OK : Fld := ⟨R.FAN_AFSTAT, 0, 0⟩
def FAN_GSTAT_ABAD : Fld := ⟨R.FAN_GSTAT, 1, 1⟩
def FAN_GSTAT_REFUSED : Fld := ⟨R.FAN_GSTAT, 0, 0⟩
def FAN_AXCFG_STOP : Fld := ⟨R.FAN_AXCFG, 29, 20⟩
def FAN_AXCFG_START : Fld := ⟨R.FAN_AXCFG, 19, 10⟩
def FAN_AXCFG_DFLT : Fld := ⟨R.FAN_AXCFG, 9, 0⟩
def FAN_AXSMAX_V : Fld := ⟨R.FAN_AXSMAX, 31, 0⟩
def FAN_AXDEM_STOPPED : Fld := ⟨R.FAN_AXDEM, 26, 26⟩
def FAN_AXDEM_EXCLUDED : Fld := ⟨R.FAN_AXDEM, 25, 25⟩
def FAN_AXDEM_DFLTUSE : Fld := ⟨R.FAN_AXDEM, 24, 24⟩
def FAN_AXDEM_ZONE : Fld := ⟨R.FAN_AXDEM, 20, 16⟩
def FAN_AXDEM_DEMAND : Fld := ⟨R.FAN_AXDEM, 9, 0⟩
def FANA_AXCFG_STOP : Fld := ⟨R.FANA_AXCFG, 29, 20⟩
def FANA_AXCFG_START : Fld := ⟨R.FANA_AXCFG, 19, 10⟩
def FANA_AXCFG_DFLT : Fld := ⟨R.FANA_AXCFG, 9, 0⟩
def FANA_AXSMAX_V : Fld := ⟨R.FANA_AXSMAX, 31, 0⟩
def FANA_AXDEM_STOPPED : Fld := ⟨R.FANA_AXDEM, 26, 26⟩
def FANA_AXDEM_EXCLUDED : Fld := ⟨R.FANA_AXDEM, 25, 25⟩
def FANA_AXDEM_DFLTUSE : Fld := ⟨R.FANA_AXDEM, 24, 24⟩
def FANA_AXDEM_ZONE : Fld := ⟨R.FANA_AXDEM, 20, 16⟩
def FANA_AXDEM_DEMAND : Fld := ⟨R.FANA_AXDEM, 9, 0⟩
def FAN_ZCTL_MSRC : Fld := ⟨R.FAN_ZCTL, 27, 16⟩
def FAN_ZCTL_AXMASK : Fld := ⟨R.FAN_ZCTL, 15, 8⟩
def FAN_ZCTL_NPTS : Fld := ⟨R.FAN_ZCTL, 7, 4⟩
def FAN_ZCTL_EN : Fld := ⟨R.FAN_ZCTL, 0, 0⟩
def FAN_ZDEM_HELD : Fld := ⟨R.FAN_ZDEM, 17, 17⟩
def FAN_ZDEM_CONTRIB : Fld := ⟨R.FAN_ZDEM, 16, 16⟩
def FAN_ZDEM_DEMAND : Fld := ⟨R.FAN_ZDEM, 9, 0⟩
def FAN_ZX_V : Fld := ⟨R.FAN_ZX, 31, 0⟩
def FAN_ZY_Y : Fld := ⟨R.FAN_ZY, 9, 0⟩
def FANA_ZCTL_MSRC : Fld := ⟨R.FANA_ZCTL, 27, 16⟩
def FANA_ZCTL_AXMASK : Fld := ⟨R.FANA_ZCTL, 15, 8⟩
def FANA_ZCTL_NPTS : Fld := ⟨R.FANA_ZCTL, 7, 4⟩
def FANA_ZCTL_EN : Fld := ⟨R.FANA_ZCTL, 0, 0⟩
def FANA_ZDEM_HELD : Fld := ⟨R.FANA_ZDEM, 17, 17⟩
def FANA_ZDEM_CONTRIB : Fld := ⟨R.FANA_ZDEM, 16, 16⟩
def FANA_ZDEM_DEMAND : Fld := ⟨R.FANA_ZDEM, 9, 0⟩
def FANA_ZX_V : Fld := ⟨R.FANA_ZX, 31, 0⟩
def FANA_ZY_Y : Fld := ⟨R.FANA_ZY, 9, 0⟩
def CAN_CTL_CLRCNT : Fld := ⟨R.CAN_CTL, 8, 8⟩
def CAN_CTL_TERM : Fld := ⟨R.CAN_CTL, 5, 5⟩
def CAN_CTL_FDE : Fld := ⟨R.CAN_CTL, 4, 4⟩
def CAN_CTL_MODE : Fld := ⟨R.CAN_CTL, 1, 0⟩
def CAN_STAT_BOFF_SEEN : Fld := ⟨R.CAN_STAT, 7, 7⟩
def CAN_STAT_EVLOST_SEEN : Fld := ⟨R.CAN_STAT, 6, 6⟩
def CAN_STAT_QLOST_SEEN : Fld := ⟨R.CAN_STAT, 5, 5⟩
def CAN_STAT_OVR_SEEN : Fld := ⟨R.CAN_STAT, 4, 4⟩
def CAN_STAT_REFUSED : Fld := ⟨R.CAN_STAT, 3, 3⟩
def CAN_STAT_MODE_PEND : Fld := ⟨R.CAN_STAT, 2, 2⟩
def CAN_STAT_ESTATE : Fld := ⟨R.CAN_STAT, 1, 0⟩
def CAN_NBT_NSJW : Fld := ⟨R.CAN_NBT, 30, 24⟩
def CAN_NBT_NTSEG2 : Fld := ⟨R.CAN_NBT, 23, 17⟩
def CAN_NBT_NTSEG1 : Fld := ⟨R.CAN_NBT, 16, 9⟩
def CAN_NBT_NBRP : Fld := ⟨R.CAN_NBT, 8, 0⟩
def CAN_DBT_DSJW : Fld := ⟨R.CAN_DBT, 27, 24⟩
def CAN_DBT_DTSEG2 : Fld := ⟨R.CAN_DBT, 19, 16⟩
def CAN_DBT_DTSEG1 : Fld := ⟨R.CAN_DBT, 12, 8⟩
def CAN_DBT_DBRP : Fld := ⟨R.CAN_DBT, 4, 0⟩
def CAN_TDC_TDCV : Fld := ⟨R.CAN_TDC, 23, 16⟩
def CAN_TDC_TDCE : Fld := ⟨R.CAN_TDC, 8, 8⟩
def CAN_TDC_TDCO : Fld := ⟨R.CAN_TDC, 6, 0⟩
def CAN_ERRC_REC : Fld := ⟨R.CAN_ERRC, 24, 16⟩
def CAN_ERRC_TEC : Fld := ⟨R.CAN_ERRC, 8, 0⟩
def CAN_RECOVER_GO : Fld := ⟨R.CAN_RECOVER, 0, 0⟩
def CAN_RXCNT_V : Fld := ⟨R.CAN_RXCNT, 31, 0⟩
def CAN_RXSTORED_V : Fld := ⟨R.CAN_RXSTORED, 31, 0⟩
def CAN_RXOVR_V : Fld := ⟨R.CAN_RXOVR, 31, 0⟩
def CAN_RXFILT_V : Fld := ⟨R.CAN_RXFILT, 31, 0⟩
def CAN_EVLOST_V : Fld := ⟨R.CAN_EVLOST, 31, 0⟩
def CAN_QLOST_A_V : Fld := ⟨R.CAN_QLOST_A, 31, 0⟩
def CAN_QLOST_B_V : Fld := ⟨R.CAN_QLOST_B, 31, 0⟩
def CAN_TXREQ_V : Fld := ⟨R.CAN_TXREQ, 31, 0⟩
def CAN_TXCANCEL_V : Fld := ⟨R.CAN_TXCANCEL, 31, 0⟩
def CAN_TXPEND_V : Fld := ⟨R.CAN_TXPEND, 31, 0⟩
def CAN_RXFULL_LO_V : Fld := ⟨R.CAN_RXFULL_LO, 31, 0⟩
def CAN_RXFULL_HI_V : Fld := ⟨R.CAN_RXFULL_HI, 31, 0⟩
def CAN_RXLOCK_LO_V : Fld := ⟨R.CAN_RXLOCK_LO, 31, 0⟩
def CAN_RXLOCK_HI_V : Fld := ⟨R.CAN_RXLOCK_HI, 31, 0⟩
def CAN_RXREL_LO_V : Fld := ⟨R.CAN_RXREL_LO, 31, 0⟩
def CAN_RXREL_HI_V : Fld := ⟨R.CAN_RXREL_HI, 31, 0⟩
def CAN_WAKE_WOK : Fld := ⟨R.CAN_WAKE, 1, 1⟩
def CAN_WAKE_WEN : Fld := ⟨R.CAN_WAKE, 0, 0⟩
def CAN_RXF_V : Fld := ⟨R.CAN_RXF, 31, 0⟩
def CAN_RXM_V : Fld := ⟨R.CAN_RXM, 31, 0⟩
def CAN_RXBCFG_QSEL : Fld := ⟨R.CAN_RXBCFG, 25, 24⟩
def CAN_RXBCFG_DB : Fld := ⟨R.CAN_RXBCFG, 19, 16⟩
def CAN_RXBCFG_ROD : Fld := ⟨R.CAN_RXBCFG, 11, 8⟩
def CAN_RXBCFG_EVT : Fld := ⟨R.CAN_RXBCFG, 5, 4⟩
def CAN_RXBCFG_FMODE : Fld := ⟨R.CAN_RXBCFG, 3, 2⟩
def CAN_RXBCFG_HP : Fld := ⟨R.CAN_RXBCFG, 1, 1⟩
def CAN_RXBCFG_EN : Fld := ⟨R.CAN_RXBCFG, 0, 0⟩
def CAN_RXB_V : Fld := ⟨R.CAN_RXB, 31, 0⟩
def CAN_TXB_V : Fld := ⟨R.CAN_TXB, 31, 0⟩
def TIM_NOW_LO_V : Fld := ⟨R.TIM_NOW_LO, 31, 0⟩
def TIM_NOW_HI_V : Fld := ⟨R.TIM_NOW_HI, 31, 0⟩
def TIM_DISC_SLEW_MAX : Fld := ⟨R.TIM_DISC, 24, 16⟩
def TIM_DISC_TC_S : Fld := ⟨R.TIM_DISC, 15, 8⟩
def TIM_DISC_STEP_EN : Fld := ⟨R.TIM_DISC, 4, 4⟩
def TIM_DISC_SRC : Fld := ⟨R.TIM_DISC, 1, 0⟩
def TIM_STEPTH_V : Fld := ⟨R.TIM_STEPTH, 31, 0⟩
def TIM_SRCTO_V : Fld := ⟨R.TIM_SRCTO, 31, 0⟩
def TIM_STAT_REFUSED : Fld := ⟨R.TIM_STAT, 11, 11⟩
def TIM_STAT_OUTLIER_SEEN : Fld := ⟨R.TIM_STAT, 10, 10⟩
def TIM_STAT_STEP_SEEN : Fld := ⟨R.TIM_STAT, 9, 9⟩
def TIM_STAT_FAR_SEEN : Fld := ⟨R.TIM_STAT, 8, 8⟩
def TIM_STAT_FAR : Fld := ⟨R.TIM_STAT, 4, 4⟩
def TIM_STAT_STATE : Fld := ⟨R.TIM_STAT, 2, 0⟩
def TIM_OFS_V : Fld := ⟨R.TIM_OFS, 31, 0⟩
def TIM_RATE_V : Fld := ⟨R.TIM_RATE, 31, 0⟩
def TIM_FINT_V : Fld := ⟨R.TIM_FINT, 31, 0⟩
def TIM_STEPS_V : Fld := ⟨R.TIM_STEPS, 31, 0⟩
def TIM_LSTEP_LO_V : Fld := ⟨R.TIM_LSTEP_LO, 31, 0⟩
def TIM_LSTEP_HI_V : Fld := ⟨R.TIM_LSTEP_HI, 31, 0⟩
def TIM_PTP_TRANSPORT : Fld := ⟨R.TIM_PTP, 9, 8⟩
def TIM_PTP_DOMAIN : Fld := ⟨R.TIM_PTP, 7, 0⟩
def TIM_PTPLAT_TX_LAT : Fld := ⟨R.TIM_PTPLAT, 31, 16⟩
def TIM_PTPLAT_RX_LAT : Fld := ⟨R.TIM_PTPLAT, 15, 0⟩
def TIM_PTPDLY_V : Fld := ⟨R.TIM_PTPDLY, 31, 0⟩
def TTS_CTL_PREEMPT : Fld := ⟨R.TTS_CTL, 8, 8⟩
def TTS_CTL_RANK : Fld := ⟨R.TTS_CTL, 6, 4⟩
def TTS_CTL_ROLE : Fld := ⟨R.TTS_CTL, 1, 1⟩
def TTS_CTL_EN : Fld := ⟨R.TTS_CTL, 0, 0⟩
def TTS_STAT_REFUSED : Fld := ⟨R.TTS_STAT, 25, 25⟩
def TTS_STAT_GAP_SEEN : Fld := ⟨R.TTS_STAT, 24, 24⟩
def TTS_STAT_JUMP_SEEN : Fld := ⟨R.TTS_STAT, 23, 23⟩
def TTS_STAT_MCHG_SEEN : Fld := ⟨R.TTS_STAT, 22, 22⟩
def TTS_STAT_MISSED_SEEN : Fld := ⟨R.TTS_STAT, 21, 21⟩
def TTS_STAT_MRANK : Fld := ⟨R.TTS_STAT, 18, 16⟩
def TTS_STAT_CYCLE : Fld := ⟨R.TTS_STAT, 13, 8⟩
def TTS_STAT_STATE : Fld := ⟨R.TTS_STAT, 2, 0⟩
def TTS_CYC_NCYC_LOG : Fld := ⟨R.TTS_CYC, 26, 24⟩
def TTS_CYC_CYC_LEN : Fld := ⟨R.TTS_CYC, 23, 0⟩
def TTS_CFG_REF_TO : Fld := ⟨R.TTS_CFG, 31, 16⟩
def TTS_CFG_TXEN : Fld := ⟨R.TTS_CFG, 11, 8⟩
def TTS_CFG_NCOL : Fld := ⟨R.TTS_CFG, 5, 0⟩
def TTS_REFID_RTR : Fld := ⟨R.TTS_REFID, 30, 30⟩
def TTS_REFID_V : Fld := ⟨R.TTS_REFID, 29, 0⟩
def TTS_TMID_RTR : Fld := ⟨R.TTS_TMID, 30, 30⟩
def TTS_TMID_V : Fld := ⟨R.TTS_TMID, 29, 0⟩
def TTS_PROP_V : Fld := ⟨R.TTS_PROP, 31, 0⟩
def TTS_MISSED_V : Fld := ⟨R.TTS_MISSED, 31, 0⟩
def TTS_REFMARK_LO_V : Fld := ⟨R.TTS_REFMARK_LO, 31, 0⟩
def TTS_REFMARK_HI_V : Fld := ⟨R.TTS_REFMARK_HI, 31, 0⟩
def TTS_CYCTIME_V : Fld := ⟨R.TTS_CYCTIME, 31, 0⟩
def TTS_START_V : Fld := ⟨R.TTS_START, 23, 0⟩
def TTS_LEN_V : Fld := ⟨R.TTS_LEN, 23, 0⟩
def TTS_CELL_K3 : Fld := ⟨R.TTS_CELL, 31, 30⟩
def TTS_CELL_B3 : Fld := ⟨R.TTS_CELL, 28, 24⟩
def TTS_CELL_K2 : Fld := ⟨R.TTS_CELL, 23, 22⟩
def TTS_CELL_B2 : Fld := ⟨R.TTS_CELL, 20, 16⟩
def TTS_CELL_K1 : Fld := ⟨R.TTS_CELL, 15, 14⟩
def TTS_CELL_B1 : Fld := ⟨R.TTS_CELL, 12, 8⟩
def TTS_CELL_K0 : Fld := ⟨R.TTS_CELL, 7, 6⟩
def TTS_CELL_B0 : Fld := ⟨R.TTS_CELL, 4, 0⟩
def TTS_OUT_V : Fld := ⟨R.TTS_OUT, 31, 0⟩
def COL_STATE_PCOUNT : Fld := ⟨R.COL_STATE, 31, 24⟩
def COL_STATE_RCAUSE : Fld := ⟨R.COL_STATE, 18, 16⟩
def COL_STATE_IPV6 : Fld := ⟨R.COL_STATE, 15, 15⟩
def COL_STATE_KEYSEL : Fld := ⟨R.COL_STATE, 14, 12⟩
def COL_STATE_FILTER : Fld := ⟨R.COL_STATE, 11, 8⟩
def COL_STATE_MEDIUM : Fld := ⟨R.COL_STATE, 7, 4⟩
def COL_STATE_STATE : Fld := ⟨R.COL_STATE, 2, 0⟩
def COL_ADDR_V : Fld := ⟨R.COL_ADDR, 31, 0⟩
def COL_PORT_V : Fld := ⟨R.COL_PORT, 15, 0⟩
def COL_LIVE_LIVE_K : Fld := ⟨R.COL_LIVE, 23, 16⟩
def COL_LIVE_PERIOD_MS : Fld := ⟨R.COL_LIVE, 15, 0⟩
def COL_AGE_V : Fld := ⟨R.COL_AGE, 31, 0⟩
def COL_SEQ_RXSEQ : Fld := ⟨R.COL_SEQ, 31, 16⟩
def COL_SEQ_TXSEQ : Fld := ⟨R.COL_SEQ, 15, 0⟩
def COL_TX_TX_LIMIT : Fld := ⟨R.COL_TX, 31, 16⟩
def COL_TX_TALLY : Fld := ⟨R.COL_TX, 15, 0⟩
def COL_TXBK_CRED : Fld := ⟨R.COL_TXBK, 31, 16⟩
def COL_TXBK_SENT : Fld := ⟨R.COL_TXBK, 15, 0⟩
def COL_RX_RX_LIMIT : Fld := ⟨R.COL_RX, 31, 16⟩
def COL_RX_HELD : Fld := ⟨R.COL_RX, 15, 0⟩
def COL_RXBK_RETURNED : Fld := ⟨R.COL_RXBK, 31, 16⟩
def COL_RXBK_FREED : Fld := ⟨R.COL_RXBK, 15, 0⟩
def COL_TOFS_V : Fld := ⟨R.COL_TOFS, 31, 0⟩
def COL_HLTH_AUTHFAIL : Fld := ⟨R.COL_HLTH, 31, 24⟩
def COL_HLTH_CREDVIOL : Fld := ⟨R.COL_HLTH, 23, 16⟩
def COL_HLTH_DUP : Fld := ⟨R.COL_HLTH, 15, 8⟩
def COL_HLTH_SEQGAP : Fld := ⟨R.COL_HLTH, 7, 0⟩
def COL_CMD_COUNT : Fld := ⟨R.COL_CMD, 31, 16⟩
def COL_CMD_OP : Fld := ⟨R.COL_CMD, 1, 0⟩
def COL_GSTAT_FULL_SEEN : Fld := ⟨R.COL_GSTAT, 25, 25⟩
def COL_GSTAT_REFUSED : Fld := ⟨R.COL_GSTAT, 24, 24⟩
def COL_GSTAT_FULL : Fld := ⟨R.COL_GSTAT, 16, 16⟩
def COL_GSTAT_USED : Fld := ⟨R.COL_GSTAT, 8, 0⟩
def COL_RECL_DRAIN_MS : Fld := ⟨R.COL_RECL, 31, 16⟩
def COL_RECL_COL_RECLAIM : Fld := ⟨R.COL_RECL, 15, 0⟩
def COL_PROB_V : Fld := ⟨R.COL_PROB, 15, 0⟩
def COL_NREFUSED_V : Fld := ⟨R.COL_NREFUSED, 31, 0⟩
def COL_NWAITED_V : Fld := ⟨R.COL_NWAITED, 31, 0⟩
def COL_NPROBFAIL_V : Fld := ⟨R.COL_NPROBFAIL, 31, 0⟩
def COL_NOSPACE_V : Fld := ⟨R.COL_NOSPACE, 31, 0⟩
def COL_ADM_V : Fld := ⟨R.COL_ADM, 31, 0⟩
def AF_CTL_CREDIT : Fld := ⟨R.AF_CTL, 16, 16⟩
def AF_CTL_CHMASK : Fld := ⟨R.AF_CTL, 13, 8⟩
def AF_CTL_MEDIUM : Fld := ⟨R.AF_CTL, 7, 4⟩
def AF_CTL_EN : Fld := ⟨R.AF_CTL, 0, 0⟩
def AF_MATCH_V : Fld := ⟨R.AF_MATCH, 31, 0⟩
def AF_MASK_V : Fld := ⟨R.AF_MASK, 31, 0⟩
def AF_ID_TSOFF : Fld := ⟨R.AF_ID, 31, 24⟩
def AF_ID_SEQOFF : Fld := ⟨R.AF_ID, 23, 16⟩
def AF_ID_AW : Fld := ⟨R.AF_ID, 12, 8⟩
def AF_ID_ASH : Fld := ⟨R.AF_ID, 4, 0⟩
def AF_LIVE_ADMIT_N : Fld := ⟨R.AF_LIVE, 31, 24⟩
def AF_LIVE_LIVE_K : Fld := ⟨R.AF_LIVE, 23, 16⟩
def AF_LIVE_PERIOD_MS : Fld := ⟨R.AF_LIVE, 15, 0⟩
def AF_LIM_RX_LIMIT : Fld := ⟨R.AF_LIM, 31, 16⟩
def AF_LIM_TX_LIMIT : Fld := ⟨R.AF_LIM, 15, 0⟩
def AF_SLOT_KEYVAL : Fld := ⟨R.AF_SLOT, 31, 24⟩
def AF_SLOT_KEYEN : Fld := ⟨R.AF_SLOT, 16, 16⟩
def AF_SLOT_KEYOFF : Fld := ⟨R.AF_SLOT, 15, 10⟩
def AF_SLOT_BE : Fld := ⟨R.AF_SLOT, 9, 9⟩
def AF_SLOT_SGN : Fld := ⟨R.AF_SLOT, 8, 8⟩
def AF_SLOT_W : Fld := ⟨R.AF_SLOT, 7, 6⟩
def AF_SLOT_OFF : Fld := ⟨R.AF_SLOT, 5, 0⟩
def AF_SGAIN_SHIFT : Fld := ⟨R.AF_SGAIN, 20, 16⟩
def AF_SGAIN_GAIN : Fld := ⟨R.AF_SGAIN, 15, 0⟩
def AF_SOFS_V : Fld := ⟨R.AF_SOFS, 31, 0⟩
def COL_VAL_V : Fld := ⟨R.COL_VAL, 31, 0⟩
def COL_VFLAG_AGE : Fld := ⟨R.COL_VFLAG, 31, 16⟩
def COL_VFLAG_FLAGS : Fld := ⟨R.COL_VFLAG, 7, 0⟩
def NETH_CTL_VID : Fld := ⟨R.NETH_CTL, 27, 16⟩
def NETH_CTL_VLANEN : Fld := ⟨R.NETH_CTL, 8, 8⟩
def NETH_CTL_ROLE : Fld := ⟨R.NETH_CTL, 3, 3⟩
def NETH_CTL_SPEED : Fld := ⟨R.NETH_CTL, 2, 1⟩
def NETH_CTL_EN : Fld := ⟨R.NETH_CTL, 0, 0⟩
def NETH_STAT_REFUSED : Fld := ⟨R.NETH_STAT, 9, 9⟩
def NETH_STAT_LINKCHG_SEEN : Fld := ⟨R.NETH_STAT, 8, 8⟩
def NETH_STAT_SPEED_NOW : Fld := ⟨R.NETH_STAT, 2, 1⟩
def NETH_STAT_LINK : Fld := ⟨R.NETH_STAT, 0, 0⟩
def NETH_MAC_LO_V : Fld := ⟨R.NETH_MAC_LO, 31, 0⟩
def NETH_MAC_HI_V : Fld := ⟨R.NETH_MAC_HI, 15, 0⟩
def NETH_IP4_V : Fld := ⟨R.NETH_IP4, 31, 0⟩
def NETH_IP4PFX_V : Fld := ⟨R.NETH_IP4PFX, 5, 0⟩
def NETH_IP6_V : Fld := ⟨R.NETH_IP6, 31, 0⟩
def NETH_UDP_V : Fld := ⟨R.NETH_UDP, 15, 0⟩
def NETH_CRED_CRED_US : Fld := ⟨R.NETH_CRED, 15, 0⟩
def NETH_RXFRM_V : Fld := ⟨R.NETH_RXFRM, 31, 0⟩
def NETH_RXDROP_V : Fld := ⟨R.NETH_RXDROP, 31, 0⟩
def NETH_AUTHFAIL_V : Fld := ⟨R.NETH_AUTHFAIL, 31, 0⟩
def NETH_TXDROP_V : Fld := ⟨R.NETH_TXDROP, 31, 0⟩
def KEY_V : Fld := ⟨R.KEY, 31, 0⟩
def KPERM_PORTS : Fld := ⟨R.KPERM, 18, 16⟩
def KPERM_VALID : Fld := ⟨R.KPERM, 8, 8⟩
def KPERM_WAKE : Fld := ⟨R.KPERM, 4, 4⟩
def KPERM_LOAD : Fld := ⟨R.KPERM, 3, 3⟩
def KPERM_RING : Fld := ⟨R.KPERM, 2, 2⟩
def KPERM_WRITE : Fld := ⟨R.KPERM, 1, 1⟩
def KPERM_READ : Fld := ⟨R.KPERM, 0, 0⟩
def KRXHW_LO_V : Fld := ⟨R.KRXHW_LO, 31, 0⟩
def KRXHW_HI_V : Fld := ⟨R.KRXHW_HI, 31, 0⟩
def KTX_LO_V : Fld := ⟨R.KTX_LO, 31, 0⟩
def KTX_HI_V : Fld := ⟨R.KTX_HI, 31, 0⟩
def NETL_CTL_VID : Fld := ⟨R.NETL_CTL, 27, 16⟩
def NETL_CTL_VLANEN : Fld := ⟨R.NETL_CTL, 8, 8⟩
def NETL_CTL_SPEED : Fld := ⟨R.NETL_CTL, 2, 1⟩
def NETL_CTL_EN : Fld := ⟨R.NETL_CTL, 0, 0⟩
def NETL_STAT_REFUSED : Fld := ⟨R.NETL_STAT, 9, 9⟩
def NETL_STAT_LINKCHG_SEEN : Fld := ⟨R.NETL_STAT, 8, 8⟩
def NETL_STAT_SPEED_NOW : Fld := ⟨R.NETL_STAT, 2, 1⟩
def NETL_STAT_LINK : Fld := ⟨R.NETL_STAT, 0, 0⟩
def NETL_MAC_LO_V : Fld := ⟨R.NETL_MAC_LO, 31, 0⟩
def NETL_MAC_HI_V : Fld := ⟨R.NETL_MAC_HI, 15, 0⟩
def NETL_IP4_V : Fld := ⟨R.NETL_IP4, 31, 0⟩
def NETL_IP4PFX_V : Fld := ⟨R.NETL_IP4PFX, 5, 0⟩
def NETL_IP6_V : Fld := ⟨R.NETL_IP6, 31, 0⟩
def NETL_UDP_V : Fld := ⟨R.NETL_UDP, 15, 0⟩
def NETL_CRED_CRED_US : Fld := ⟨R.NETL_CRED, 15, 0⟩
def NETL_RXFRM_V : Fld := ⟨R.NETL_RXFRM, 31, 0⟩
def NETL_RXDROP_V : Fld := ⟨R.NETL_RXDROP, 31, 0⟩
def NETL_AUTHFAIL_V : Fld := ⟨R.NETL_AUTHFAIL, 31, 0⟩
def NETL_TXDROP_V : Fld := ⟨R.NETL_TXDROP, 31, 0⟩
def HLT_STAT_REFUSED : Fld := ⟨R.HLT_STAT, 16, 16⟩
def HLT_STAT_SUPPLY_SEEN : Fld := ⟨R.HLT_STAT, 10, 10⟩
def HLT_STAT_HUMID_SEEN : Fld := ⟨R.HLT_STAT, 9, 9⟩
def HLT_STAT_TEMP_SEEN : Fld := ⟨R.HLT_STAT, 8, 8⟩
def HLT_STAT_EXHAUSTED : Fld := ⟨R.HLT_STAT, 4, 4⟩
def HLT_STAT_SUPPLY : Fld := ⟨R.HLT_STAT, 3, 3⟩
def HLT_STAT_HUMID : Fld := ⟨R.HLT_STAT, 2, 2⟩
def HLT_STAT_WARN : Fld := ⟨R.HLT_STAT, 1, 1⟩
def HLT_STAT_CRIT : Fld := ⟨R.HLT_STAT, 0, 0⟩
def HLT_POOLS_SECTIONS : Fld := ⟨R.HLT_POOLS, 19, 16⟩
def HLT_POOLS_DPATH : Fld := ⟨R.HLT_POOLS, 12, 12⟩
def HLT_POOLS_PPATHS : Fld := ⟨R.HLT_POOLS, 10, 8⟩
def HLT_POOLS_MATRIX : Fld := ⟨R.HLT_POOLS, 4, 4⟩
def HLT_POOLS_RODS : Fld := ⟨R.HLT_POOLS, 1, 0⟩
def HLT_SHED_V : Fld := ⟨R.HLT_SHED, 15, 0⟩
def HLT_RODMAP_V : Fld := ⟨R.HLT_RODMAP, 31, 0⟩
def HLT_TEMP_V : Fld := ⟨R.HLT_TEMP, 31, 0⟩
def HLT_TMAX_SENSOR : Fld := ⟨R.HLT_TMAX, 19, 16⟩
def HLT_TMAX_T : Fld := ⟨R.HLT_TMAX, 15, 0⟩
def HLT_HUMID_V : Fld := ⟨R.HLT_HUMID, 31, 0⟩
def HLT_VLOG_V : Fld := ⟨R.HLT_VLOG, 31, 0⟩
def HLT_VCORE_V : Fld := ⟨R.HLT_VCORE, 31, 0⟩
def HLT_SCRUB_RODCE_TH : Fld := ⟨R.HLT_SCRUB, 31, 24⟩
def HLT_SCRUB_SECT_TH : Fld := ⟨R.HLT_SCRUB, 23, 16⟩
def HLT_SCRUB_SCRUB_S : Fld := ⟨R.HLT_SCRUB, 15, 0⟩
def HLT_SCRUBST_CORR : Fld := ⟨R.HLT_SCRUBST, 31, 16⟩
def HLT_SCRUBST_PASSES : Fld := ⟨R.HLT_SCRUBST, 15, 0⟩
def HLT_CORR_V : Fld := ⟨R.HLT_CORR, 31, 0⟩
def HLT_POISON_V : Fld := ⟨R.HLT_POISON, 31, 0⟩
def HLT_HUMLIM_HUM_CRIT : Fld := ⟨R.HLT_HUMLIM, 25, 16⟩
def HLT_HUMLIM_HUM_WARN : Fld := ⟨R.HLT_HUMLIM, 9, 0⟩
def HLT_MAPCLR_CLR : Fld := ⟨R.HLT_MAPCLR, 0, 0⟩
def STO_CTL_LOGW : Fld := ⟨R.STO_CTL, 1, 1⟩
def STO_CTL_COMMIT : Fld := ⟨R.STO_CTL, 0, 0⟩
def STO_STAT_LOGLOST_SEEN : Fld := ⟨R.STO_STAT, 18, 18⟩
def STO_STAT_FAIL_SEEN : Fld := ⟨R.STO_STAT, 17, 17⟩
def STO_STAT_REFUSED : Fld := ⟨R.STO_STAT, 16, 16⟩
def STO_STAT_KNEWEST : Fld := ⟨R.STO_STAT, 8, 8⟩
def STO_STAT_KVALID_B : Fld := ⟨R.STO_STAT, 7, 7⟩
def STO_STAT_KVALID_A : Fld := ⟨R.STO_STAT, 6, 6⟩
def STO_STAT_VALID_B : Fld := ⟨R.STO_STAT, 5, 5⟩
def STO_STAT_VALID_A : Fld := ⟨R.STO_STAT, 4, 4⟩
def STO_STAT_NEWEST : Fld := ⟨R.STO_STAT, 3, 3⟩
def STO_STAT_LOADOPEN : Fld := ⟨R.STO_STAT, 2, 2⟩
def STO_STAT_OPEN : Fld := ⟨R.STO_STAT, 1, 1⟩
def STO_STAT_BUSY : Fld := ⟨R.STO_STAT, 0, 0⟩
def STO_SEQ_LO_V : Fld := ⟨R.STO_SEQ_LO, 31, 0⟩
def STO_SEQ_HI_V : Fld := ⟨R.STO_SEQ_HI, 31, 0⟩
def STO_DIRTY_PAGES : Fld := ⟨R.STO_DIRTY, 10, 0⟩
def STO_LAST_PAGES : Fld := ⟨R.STO_LAST, 26, 16⟩
def STO_LAST_KEY : Fld := ⟨R.STO_LAST, 4, 4⟩
def STO_LAST_RESULT : Fld := ⟨R.STO_LAST, 3, 0⟩
def STO_LASTUS_V : Fld := ⟨R.STO_LASTUS, 31, 0⟩
def STO_UADDR_V : Fld := ⟨R.STO_UADDR, 17, 0⟩
def STO_UDATA_V : Fld := ⟨R.STO_UDATA, 31, 0⟩
def STO_LOGHEAD_V : Fld := ⟨R.STO_LOGHEAD, 31, 0⟩
def STO_LOGIDX_V : Fld := ⟨R.STO_LOGIDX, 31, 0⟩
def STO_LOGSTAT_AHEAD : Fld := ⟨R.STO_LOGSTAT, 2, 2⟩
def STO_LOGSTAT_BAD : Fld := ⟨R.STO_LOGSTAT, 1, 1⟩
def STO_LOGSTAT_GONE : Fld := ⟨R.STO_LOGSTAT, 0, 0⟩
def STO_LOGLOST_V : Fld := ⟨R.STO_LOGLOST, 31, 0⟩
def STO_LOGREC_V : Fld := ⟨R.STO_LOGREC, 31, 0⟩
def STO_LOGBUF_V : Fld := ⟨R.STO_LOGBUF, 31, 0⟩
def SYS_MODE_HCAUSE : Fld := ⟨R.SYS_MODE, 26, 24⟩
def SYS_MODE_TARGET : Fld := ⟨R.SYS_MODE, 18, 16⟩
def SYS_MODE_PEND : Fld := ⟨R.SYS_MODE, 8, 8⟩
def SYS_MODE_MODE : Fld := ⟨R.SYS_MODE, 2, 0⟩
def SYS_CONFIG_HW_ISSUE : Fld := ⟨R.SYS_CONFIG, 15, 8⟩
def SYS_CONFIG_DFE : Fld := ⟨R.SYS_CONFIG, 5, 5⟩
def SYS_CONFIG_MTRB : Fld := ⟨R.SYS_CONFIG, 4, 4⟩
def SYS_CONFIG_VARIANT : Fld := ⟨R.SYS_CONFIG, 3, 0⟩
def SYS_CMD_OP : Fld := ⟨R.SYS_CMD, 3, 0⟩
def SYS_STAT_FIREDROP_SEEN : Fld := ⟨R.SYS_STAT, 18, 18⟩
def SYS_STAT_SS_SEEN : Fld := ⟨R.SYS_STAT, 17, 17⟩
def SYS_STAT_REFUSED : Fld := ⟨R.SYS_STAT, 16, 16⟩
def SYS_STAT_HELD : Fld := ⟨R.SYS_STAT, 5, 5⟩
def SYS_STAT_HOSTLOST : Fld := ⟨R.SYS_STAT, 4, 4⟩
def SYS_STAT_FIRE : Fld := ⟨R.SYS_STAT, 3, 3⟩
def SYS_STAT_SS_DISC : Fld := ⟨R.SYS_STAT, 2, 2⟩
def SYS_STAT_SS : Fld := ⟨R.SYS_STAT, 1, 1⟩
def SYS_STAT_CRIT : Fld := ⟨R.SYS_STAT, 0, 0⟩
def SYS_RCAUSE_COUNT : Fld := ⟨R.SYS_RCAUSE, 31, 16⟩
def SYS_RCAUSE_MODE : Fld := ⟨R.SYS_RCAUSE, 14, 12⟩
def SYS_RCAUSE_ROD : Fld := ⟨R.SYS_RCAUSE, 11, 8⟩
def SYS_RCAUSE_WDT_EARLY : Fld := ⟨R.SYS_RCAUSE, 4, 4⟩
def SYS_RCAUSE_COMMIT : Fld := ⟨R.SYS_RCAUSE, 3, 3⟩
def SYS_RCAUSE_KIND : Fld := ⟨R.SYS_RCAUSE, 2, 0⟩
def SYS_PDCTL_PD1 : Fld := ⟨R.SYS_PDCTL, 1, 1⟩
def SYS_PDCTL_PD3 : Fld := ⟨R.SYS_PDCTL, 3, 3⟩
def SYS_PDCTL_PD4 : Fld := ⟨R.SYS_PDCTL, 4, 4⟩
def SYS_PDCTL_PD5 : Fld := ⟨R.SYS_PDCTL, 5, 5⟩
def SYS_PDCTL_PD6 : Fld := ⟨R.SYS_PDCTL, 6, 6⟩
def SYS_PDSTAT_V : Fld := ⟨R.SYS_PDSTAT, 15, 0⟩
def SYS_SAFECFG_HOSTLOSS : Fld := ⟨R.SYS_SAFECFG, 31, 28⟩
def SYS_SAFECFG_SS_FILT : Fld := ⟨R.SYS_SAFECFG, 26, 16⟩
def SYS_SAFECFG_WDT_EN : Fld := ⟨R.SYS_SAFECFG, 13, 13⟩
def SYS_SAFECFG_FIRE_AF : Fld := ⟨R.SYS_SAFECFG, 12, 12⟩
def SYS_SAFECFG_FIRE_DLY : Fld := ⟨R.SYS_SAFECFG, 11, 0⟩
def SYS_FIREMASK_LO_V : Fld := ⟨R.SYS_FIREMASK_LO, 31, 0⟩
def SYS_FIREMASK_HI_V : Fld := ⟨R.SYS_FIREMASK_HI, 31, 0⟩
def SYS_FIRECTL_EN : Fld := ⟨R.SYS_FIRECTL, 0, 0⟩
def SYS_WDT_WDT_MIN : Fld := ⟨R.SYS_WDT, 31, 16⟩
def SYS_WDT_WDT_MAX : Fld := ⟨R.SYS_WDT, 15, 0⟩
def SYS_WDTKICK_KICK : Fld := ⟨R.SYS_WDTKICK, 0, 0⟩
def SYS_WAKE_CAUSE : Fld := ⟨R.SYS_WAKE, 18, 16⟩
def SYS_WAKE_TIMER_EN : Fld := ⟨R.SYS_WAKE, 1, 1⟩
def SYS_WAKE_PIN_EN : Fld := ⟨R.SYS_WAKE, 0, 0⟩
def SYS_WAKEAT_LO_V : Fld := ⟨R.SYS_WAKEAT_LO, 31, 0⟩
def SYS_WAKEAT_HI_V : Fld := ⟨R.SYS_WAKEAT_HI, 31, 0⟩
def SYS_RHT_LSW_V : Fld := ⟨R.SYS_RHT_LSW, 31, 0⟩
def SYS_RHT_MTR_V : Fld := ⟨R.SYS_RHT_MTR, 15, 0⟩
def SYS_RHT_TIME_RUNON_MAX : Fld := ⟨R.SYS_RHT_TIME, 31, 16⟩
def SYS_RHT_TIME_HOLD_MAX : Fld := ⟨R.SYS_RHT_TIME, 15, 0⟩
def SYS_HELD_V : Fld := ⟨R.SYS_HELD, 31, 0⟩
def SYS_HELDM_V : Fld := ⟨R.SYS_HELDM, 7, 0⟩
def SYS_HREL_V : Fld := ⟨R.SYS_HREL, 31, 0⟩
def SYS_HRELM_V : Fld := ⟨R.SYS_HRELM, 7, 0⟩
def SYS_CLR_SSDISC : Fld := ⟨R.SYS_CLR, 0, 0⟩
def DIO_IN_V : Fld := ⟨R.DIO_IN, 19, 0⟩
def DIO_OUT_AIRFLOW_OK : Fld := ⟨R.DIO_OUT, 10, 10⟩
def DIO_OUT_FIRE_PERMIT : Fld := ⟨R.DIO_OUT, 9, 9⟩
def DIO_OUT_ATTN_N : Fld := ⟨R.DIO_OUT, 8, 8⟩
def DIO_OUT_ATTN : Fld := ⟨R.DIO_OUT, 0, 0⟩
def DIO_STAT_REFUSED : Fld := ⟨R.DIO_STAT, 0, 0⟩
def DIO_CNTCLR_V : Fld := ⟨R.DIO_CNTCLR, 3, 0⟩
def DIO_CFG_ROD : Fld := ⟨R.DIO_CFG, 23, 20⟩
def DIO_CFG_DB : Fld := ⟨R.DIO_CFG, 19, 16⟩
def DIO_CFG_DEDGE : Fld := ⟨R.DIO_CFG, 13, 12⟩
def DIO_CFG_CEDGE : Fld := ⟨R.DIO_CFG, 11, 10⟩
def DIO_CFG_INV : Fld := ⟨R.DIO_CFG, 8, 8⟩
def DIO_CFG_FILT : Fld := ⟨R.DIO_CFG, 7, 0⟩
def DIO_CNT_V : Fld := ⟨R.DIO_CNT, 31, 0⟩
def DIO_CNTAGE_AGE : Fld := ⟨R.DIO_CNTAGE, 31, 16⟩
end F

/-- The registers of block FRM. -/
def regsFRM : List RegDesc :=
  [R.FRM_RCTL, R.FRM_RSTAT, R.FRM_PC, R.FRM_EPC, R.FRM_ECAUSE, R.FRM_EADDR, R.FRM_DOORBELL, R.FRM_PACE]

/-- The registers of block CRG. -/
def regsCRG : List RegDesc :=
  [R.CRG_CFG, R.CRG_BASE, R.CRG_HEAD, R.CRG_TAIL, R.CRG_COUNT, R.CRG_RESERVED, R.CRG_TALLY, R.CRG_PRODUCED, R.CRG_CONSUMED, R.CRG_LOST, R.CRG_VOID, R.CRG_STAT]

/-- The registers of block DFE. -/
def regsDFE : List RegDesc :=
  [R.DFE_GSTAT, R.DFE_XCHK, R.DFE_CH_CTL, R.DFE_CH_CELL, R.DFE_CH_CAL0, R.DFE_CH_CAL1, R.DFE_CH_TSRC, R.DFE_CH_CM, R.DFE_CH_FLT, R.DFE_EXC_PLAN, R.DFE_PLAN_FILT, R.DFE_ACT_PLAN, R.DFE_ACT_FILT, R.DFE_TONE, R.DFE_ACT_TONE, R.DFE_CH_STAT, R.DFE_CH_MOIST, R.DFE_CH_MFLAG, R.DFE_CH_DENS, R.DFE_CH_DFLAG]
  ++ [R.DFE_CH_VCM, R.DFE_G, R.DFE_C]

/-- The registers of block PFE. -/
def regsPFE : List RegDesc :=
  [R.PFE_CH_CTL, R.PFE_CH_CONV, R.PFE_CH_RANGE, R.PFE_CH_CJ, R.PFE_CH_CM, R.PFE_CH_FLT, R.PFE_CH_STAT, R.PFE_CH_VAL, R.PFE_CH_FLAG, R.PFE_CH_RAW, R.PFE_CH_VCM, R.PFE_GSTAT, R.PFE_XCHK, R.PFE_EN_LO, R.PFE_EN_HI, R.PFE_FAULT_LO, R.PFE_FAULT_HI, R.PFE_CJT]

/-- The registers of block CRV. -/
def regsCRV : List RegDesc :=
  [R.CRV_STAT, R.CRV_USE_LO, R.CRV_USE_HI]

/-- The registers of block LPE. -/
def regsLPE : List RegDesc :=
  [R.LPE_CTL, R.LPE_STAT, R.LPE_DIM, R.LPE_PER, R.LPE_PHASE, R.LPE_ODLY, R.LPE_OBS, R.LPE_SUP, R.LPE_MISS, R.LPE_OVR, R.LPE_MACS, R.LPE_MSRC, R.LPE_FEPS, R.LPE_FPRED, R.LPE_ODST, R.LPE_UMIN, R.LPE_UMAX, R.LPE_SAFE, R.LPE_MAN, R.LPE_UAPP]
  ++ [R.LPE_REF, R.LPE_IMIN, R.LPE_IMAX, R.LPE_ZSRC, R.LPE_Z, R.LPE_BUMP, R.LPE_Y, R.LPE_YP, R.LPE_DLCFG, R.LPE_DLBASE, R.LPE_DLSRC, R.LPE_DLSTEP, R.LPE_DLACC, R.LPE_X, R.RC_CTL, R.RC_CFG, R.RC_SIZE, R.RC_PSRC, R.RC_PER, R.RC_ORG]
  ++ [R.RC_HOLD, R.RC_Q, R.RC_QS, R.RC_RHO, R.RC_RHOS, R.RC_GAMMA, R.RC_GAMMAS, R.RC_STAT, R.RC_IDX, R.RC_PHASE, R.RC_QOUT, R.LPE_GCTL, R.LPE_GSTAT, R.LPE_LOAD, R.LPE_POOL, R.LPE_SAFE_LO, R.LPE_SAFE_HI, R.LPE_MISS_LO, R.LPE_MISS_HI, R.COEF]
  ++ [R.COEFS, R.DLPOOL, R.RCPOOL]

/-- The registers of block TRC. -/
def regsTRC : List RegDesc :=
  [R.TRC_CTL, R.TRC_SEL, R.TRC_DIV, R.TRC_PER, R.TRC_TRG, R.TRC_LEVEL, R.TRC_PRE, R.TRC_STAT, R.TRC_COUNT, R.TRC_TTIME_LO, R.TRC_TTIME_HI, R.TRC_BUF]

/-- The registers of block SOL. -/
def regsSOL : List RegDesc :=
  [R.SOL_GSTAT, R.SOL_ON, R.SOL_TRIPS, R.SOL_LOSTS, R.SOL_CLASS_S, R.SOL_BCFG, R.SOL_BCTL, R.SOL_BSTAT, R.SOL_BPEAK, R.SOL_BVOLT, R.SOL_BCAP, R.SOL_CAP, R.SOL_CTL, R.SOL_CUR, R.SOL_TIM, R.SOL_OCL, R.SOL_MEAS, R.SOL_REP, R.SOL_REPPH, R.SOL_TON_LO]
  ++ [R.SOL_TON_HI, R.SOL_DUR, R.SOL_CMD, R.SOL_STAT, R.SOL_CLR, R.SOL_DEFER, R.SOL_PULLIN, R.SOL_DROPOUT, R.SOL_IMEAS, R.SOL_ONCNT]

/-- The registers of block LSW. -/
def regsLSW : List RegDesc :=
  [R.LSW_GSTAT, R.LSW_ON, R.LSW_FAULTS, R.LSW_OPENS, R.LSW_GPER, R.LSW_GUSE, R.LSW_GRCTL, R.LSW_GRSTAT, R.LSW_GRVOLT, R.LSW_GRCUR, R.LSW_CTL, R.LSW_LIM, R.LSW_RETRY, R.LSW_PWM, R.LSW_DUTY, R.LSW_CMD, R.LSW_STAT, R.LSW_CLR, R.LSW_IMEAS, R.LSW_VOUT]
  ++ [R.LSW_TEMP, R.LSW_FCNT]

/-- The registers of block MTR. -/
def regsMTR : List RegDesc :=
  [R.MTR_CTL, R.MTR_STAT, R.MTR_CMD, R.MTR_PWM, R.MTR_MOT0, R.MTR_MOT1, R.MTR_MOT2, R.MTR_ILIM, R.MTR_OCL, R.MTR_ST0, R.MTR_ST1, R.MTR_ST2, R.MTR_ST3, R.MTR_SPD, R.MTR_SMAX, R.MTR_KSP, R.MTR_KSI, R.MTR_KPOS, R.MTR_CBW, R.MTR_FB]
  ++ [R.MTR_SDFS, R.MTR_CLR, R.MTR_SPEED, R.MTR_POS, R.MTR_FLAG, R.MTR_IQ, R.MTR_ID, R.MTR_IRMS, R.MTR_TACHSPD, R.MTR_TEMP, R.MTR_I2T, R.MTR_GSTAT, R.MTR_VDRV, R.MTR_AXES]

/-- The registers of block FAN. -/
def regsFAN : List RegDesc :=
  [R.FAN_GCTL, R.FAN_HTO, R.FAN_ASTAT, R.FAN_AF, R.FAN_AFSTAT, R.FAN_GSTAT, R.FAN_AXCFG, R.FAN_AXSMAX, R.FAN_AXDEM, R.FANA_AXCFG, R.FANA_AXSMAX, R.FANA_AXDEM, R.FAN_ZCTL, R.FAN_ZDEM, R.FAN_ZX, R.FAN_ZY, R.FANA_ZCTL, R.FANA_ZDEM, R.FANA_ZX, R.FANA_ZY]

/-- The registers of block CAN. -/
def regsCAN : List RegDesc :=
  [R.CAN_CTL, R.CAN_STAT, R.CAN_NBT, R.CAN_DBT, R.CAN_TDC, R.CAN_ERRC, R.CAN_RECOVER, R.CAN_RXCNT, R.CAN_RXSTORED, R.CAN_RXOVR, R.CAN_RXFILT, R.CAN_EVLOST, R.CAN_QLOST_A, R.CAN_QLOST_B, R.CAN_TXREQ, R.CAN_TXCANCEL, R.CAN_TXPEND, R.CAN_RXFULL_LO, R.CAN_RXFULL_HI, R.CAN_RXLOCK_LO]
  ++ [R.CAN_RXLOCK_HI, R.CAN_RXREL_LO, R.CAN_RXREL_HI, R.CAN_WAKE, R.CAN_RXF, R.CAN_RXM, R.CAN_RXBCFG, R.CAN_RXB, R.CAN_TXB]

/-- The registers of block TIM. -/
def regsTIM : List RegDesc :=
  [R.TIM_NOW_LO, R.TIM_NOW_HI, R.TIM_DISC, R.TIM_STEPTH, R.TIM_SRCTO, R.TIM_STAT, R.TIM_OFS, R.TIM_RATE, R.TIM_FINT, R.TIM_STEPS, R.TIM_LSTEP_LO, R.TIM_LSTEP_HI, R.TIM_PTP, R.TIM_PTPLAT, R.TIM_PTPDLY]

/-- The registers of block TTS. -/
def regsTTS : List RegDesc :=
  [R.TTS_CTL, R.TTS_STAT, R.TTS_CYC, R.TTS_CFG, R.TTS_REFID, R.TTS_TMID, R.TTS_PROP, R.TTS_MISSED, R.TTS_REFMARK_LO, R.TTS_REFMARK_HI, R.TTS_CYCTIME, R.TTS_START, R.TTS_LEN, R.TTS_CELL, R.TTS_OUT]

/-- The registers of block COL. -/
def regsCOL : List RegDesc :=
  [R.COL_STATE, R.COL_ADDR, R.COL_PORT, R.COL_LIVE, R.COL_AGE, R.COL_SEQ, R.COL_TX, R.COL_TXBK, R.COL_RX, R.COL_RXBK, R.COL_TOFS, R.COL_HLTH, R.COL_CMD, R.COL_GSTAT, R.COL_RECL, R.COL_PROB, R.COL_NREFUSED, R.COL_NWAITED, R.COL_NPROBFAIL, R.COL_NOSPACE]
  ++ [R.COL_ADM, R.AF_CTL, R.AF_MATCH, R.AF_MASK, R.AF_ID, R.AF_LIVE, R.AF_LIM, R.AF_SLOT, R.AF_SGAIN, R.AF_SOFS, R.COL_VAL, R.COL_VFLAG]

/-- The registers of block NET. -/
def regsNET : List RegDesc :=
  [R.NETH_CTL, R.NETH_STAT, R.NETH_MAC_LO, R.NETH_MAC_HI, R.NETH_IP4, R.NETH_IP4PFX, R.NETH_IP6, R.NETH_UDP, R.NETH_CRED, R.NETH_RXFRM, R.NETH_RXDROP, R.NETH_AUTHFAIL, R.NETH_TXDROP, R.KEY, R.KPERM, R.KRXHW_LO, R.KRXHW_HI, R.KTX_LO, R.KTX_HI]

/-- The registers of block LRL. -/
def regsLRL : List RegDesc :=
  [R.NETL_CTL, R.NETL_STAT, R.NETL_MAC_LO, R.NETL_MAC_HI, R.NETL_IP4, R.NETL_IP4PFX, R.NETL_IP6, R.NETL_UDP, R.NETL_CRED, R.NETL_RXFRM, R.NETL_RXDROP, R.NETL_AUTHFAIL, R.NETL_TXDROP]

/-- The registers of block HLT. -/
def regsHLT : List RegDesc :=
  [R.HLT_STAT, R.HLT_POOLS, R.HLT_SHED, R.HLT_RODMAP, R.HLT_TEMP, R.HLT_TMAX, R.HLT_HUMID, R.HLT_VLOG, R.HLT_VCORE, R.HLT_SCRUB, R.HLT_SCRUBST, R.HLT_CORR, R.HLT_POISON, R.HLT_HUMLIM, R.HLT_MAPCLR]

/-- The registers of block STO. -/
def regsSTO : List RegDesc :=
  [R.STO_CTL, R.STO_STAT, R.STO_SEQ_LO, R.STO_SEQ_HI, R.STO_DIRTY, R.STO_LAST, R.STO_LASTUS, R.STO_UADDR, R.STO_UDATA, R.STO_LOGHEAD, R.STO_LOGIDX, R.STO_LOGSTAT, R.STO_LOGLOST, R.STO_LOGREC, R.STO_LOGBUF]

/-- The registers of block SYS. -/
def regsSYS : List RegDesc :=
  [R.SYS_MODE, R.SYS_CONFIG, R.SYS_CMD, R.SYS_STAT, R.SYS_RCAUSE, R.SYS_PDCTL, R.SYS_PDSTAT, R.SYS_SAFECFG, R.SYS_FIREMASK_LO, R.SYS_FIREMASK_HI, R.SYS_FIRECTL, R.SYS_WDT, R.SYS_WDTKICK, R.SYS_WAKE, R.SYS_WAKEAT_LO, R.SYS_WAKEAT_HI, R.SYS_RHT_LSW, R.SYS_RHT_MTR, R.SYS_RHT_TIME, R.SYS_HELD]
  ++ [R.SYS_HELDM, R.SYS_HREL, R.SYS_HRELM, R.SYS_CLR]

/-- The registers of block DIO. -/
def regsDIO : List RegDesc :=
  [R.DIO_IN, R.DIO_OUT, R.DIO_STAT, R.DIO_CNTCLR, R.DIO_CFG, R.DIO_CNT, R.DIO_CNTAGE]

end Sys2Proof.Machine
end

