-- ==== Sys2Proof/Machine/State.lean ====
section
/-! DEFINITION. Sys2Proof/Machine/State.lean: the state of the block as plain data, why a step can stop, and the
machine right after power-on reset. Registers that software reads live in `State.regs`, by address, each once
(spec/17_register_map.md R569); the structures below hold what the manual describes behind them. -/

namespace Sys2Proof.Machine

/-- Why a step stops the model. -/
inductive Fault where
  /-- Raised by an idle step that would carry TB_NOW past 2^64 ns (R425 gives it 64 bits and no wrap). Safe. -/
  | timeBaseEnd
  deriving DecidableEq, Repr

/-- Why a command has no meaning in the model. -/
inductive Refusal where
  /-- Answered by an arm of exec whose command has no meaning yet. Safe. -/
  | notModelled (mnemonic : String)
  deriving DecidableEq, Repr

/-! ### Frame: Rods, rings, beads (02_coxis_model.md) -/

/-- What is wrong with a stored bead (R48, R49). -/
inductive BeadErr where
  | single | double | poisoned
  deriving DecidableEq, Repr

/-- The wait set of a sleeping WAIT (R64, R117). -/
structure WaitSet where
  data     : Word
  space    : Word
  bells    : Nat
  deadline : Option Nat
  dest     : Nat
  deriving DecidableEq, Repr

/-- What keeps a Rod inside one instruction. -/
inductive RodHold where
  | none
  | wait (ws : WaitSet)
  | fence (mask : Nat)
  | pushR (dest ring wide : Nat)
  | pushing (dest ring slot : Nat)
  deriving DecidableEq, Repr

/-- An access a Rod has issued and that is not yet complete (R96, R97). -/
inductive Posted where
  | store (addr size : Nat) (data : Bead)
  | out (addr : Nat) (v : Word)
  | commit
  | logw (lseq : Nat)
  deriving DecidableEq, Repr

/-- A logical Rod (R41) with the accesses it has outstanding; whether the safe point it is at came too early for a move
(R69); the time it has executed on its physical Rod, since when it executes, and at what such time FRM_PACE was measured
(R71, R87); when STOP was last written and the Rod last halted, and the doorbell bits last written, with when (R12). From
power-on until a program's first start g1 to g31, w0 to w7 and pc hold zero. DESIGN CHOICE: log entry 162. -/
structure RodX where
  g         : Tab Word := []
  w         : Tab Bead := []
  pc        : Word := 0
  scratch   : List Host.Cell := []
  inHandler : Bool := false
  hold      : RodHold := .none
  posted    : List Posted := []
  restarts  : List Nat := []
  stopAt    : Option Nat := none
  marked    : Bool := false
  stay      : Bool := false
  ran       : Nat := 0
  runFrom   : Option Nat := none
  paceAt    : Option Nat := none
  stopWr    : Option Nat := none
  haltAt    : Option Nat := none
  bellWr    : Option (Nat × Nat) := none
  deriving DecidableEq, Repr

/-- A program table entry of the image (R82). -/
structure Program where
  entry      : Word
  excEntry   : Word
  dataBase   : Nat
  dataSize   : Nat
  tplStart   : Nat
  priority   : Nat
  policy     : Nat
  restartMax : Nat
  deriving DecidableEq, Repr

/-- A reserved slot of a ring, not yet committed (R54). -/
structure Resv where
  slot    : Nat
  written : Bool
  isVoid  : Bool
  rod     : Option Nat
  dest    : Nat
  deriving DecidableEq, Repr

/-- Ring control behind the ring registers (R54, R57, R62). -/
structure RingX where
  resv    : List Resv := []
  voids   : List Nat := []
  tags    : Tab Nat := []
  closing : Bool := false
  deriving DecidableEq, Repr

/-- What of a wait set has been true: data rings, space rings and doorbells as masks, and the deadline. -/
structure Wakes where
  data  : Nat := 0
  space : Nat := 0
  bells : Nat := 0
  due   : Bool := false
  deriving DecidableEq, Repr

/-- A migration in progress (R69), with the wake conditions that came true during it (R70). -/
structure Migration where
  rod     : Nat
  phys    : Nat
  started : Nat
  held    : Wakes := {}
  deriving DecidableEq, Repr

/-- A record of the health log (R515, R517). -/
structure LogRec where
  kind    : Nat
  tb      : Nat
  payload : List Word
  deriving DecidableEq, Repr

/-- A record as its slot of the log holds it: with the CRC-32C of its words 0 to 14 (R515). -/
structure LogSlot where
  body : LogRec
  crc  : Nat
  deriving DecidableEq, Repr


/-! ### Precision front end (05_precision_inputs.md) -/

/-- A run of modulator samples in a filter (R178, R185): their value in counts of the range in force with 6 fractional
bits, their number, whether they stood at the limit of the range they were taken on, and whether they are from before
the most recent range change. -/
structure ModRun where
  v    : Int
  n    : Nat
  clip : Bool := false
  old  : Bool := false
  deriving DecidableEq, Repr

/-- A precision channel behind its registers: the range in force, its filter's samples newest first, instants, and the
counts of R184, R195 and R197; `filling` while a spare that replaced a failed path fills its window, `spare` the filter
of a spare whose takeover is due, `steps` how often TB_NOW had been stepped at the last conversion instant. -/
structure PfeX where
  range     : Nat := 3
  rangeReq  : Bool := false
  stopping  : Bool := false
  runs      : List ModRun := []
  convTb    : Option Nat := none
  lowCount  : Nat := 0
  outCount  : Nat := 0
  okCount   : Nat := 0
  excBad    : Nat := 0
  excOk     : Nat := 0
  iLow      : Nat := 0
  iOk       : Nat := 0
  faults    : List Nat := []
  episode   : Nat := 0
  tcj       : Option Int := none
  tcjAt     : Nat := 0
  filling   : Bool := false
  disagree  : Nat := 0
  takeover  : Option Nat := none
  spare     : List ModRun := []
  steps     : Nat := 0
  deriving DecidableEq, Repr

/-- The demodulated pair of one tone, in nA: in phase and in quadrature. -/
structure IQ where
  i : Int
  q : Int
  deriving DecidableEq, Repr

/-- A cross-check in progress on a spare path (R201, R162); `runs` is the filter of a precision spare, `iq` that of a
dielectric one, newest frame first. -/
structure SpareCheck where
  ch    : Nat
  start : Nat
  n     : Nat := 0
  sumCh : Rat := 0
  sumSp : Rat := 0
  runs  : List ModRun := []
  iq    : List (List IQ) := []
  deriving DecidableEq, Repr

/-- The spare paths of a front end: checks in progress and last started by path, the channel each last disagreed with,
and the channel last checked. -/
structure SparesX where
  checks  : Tab SpareCheck := []
  started : Tab Nat := []
  disagreed : Tab Nat := []
  cursor  : Option Nat := none
  pathOf  : Tab Nat := []
  deriving DecidableEq, Repr

/-! ### Dielectric front end (04_dielectric_moisture.md) -/

/-- A tone plan submitted and not yet in effect (R156): FRAME_US, MOUT_N, FILT_N and the eight tone words. -/
structure TonePlan where
  frameUs : Nat
  moutN   : Nat
  filtN   : Nat
  tones   : List Word
  deriving DecidableEq, Repr

/-- A dielectric channel behind its registers; `spare` is the spare's filter while its takeover is due, `steps` how often
TB_NOW had been stepped at its last frame boundary. -/
structure DfeX where
  plan     : Option TonePlan := none
  stopping : Bool := false
  frames   : List (List IQ) := []
  skipLeft : Nat := 0
  swapLeft : Nat := 0
  lastAt   : Nat := 0
  lastTb   : Option Nat := none
  pubTb    : Option Nat := none
  outCount : Nat := 0
  okCount  : Nat := 0
  ovOk     : Nat := 0
  faults   : List Nat := []
  episode  : Nat := 0
  temp     : Option Int := none
  tempAt   : Nat := 0
  disagree : Nat := 0
  takeover : Bool := false
  spare    : List (List IQ) := []
  steps    : Nat := 0
  deriving DecidableEq, Repr

/-! ### Trace and Loop Engine (06_loop_engine.md, 07_learning_and_trace.md) -/

/-- A trace channel behind its registers (R280 to R285): samples since ARM, the next index, jobs to skip, post-trigger
samples left, whether the trigger sample is still to come, when it triggered, and the last sample's value and instant. -/
structure TrcX where
  seq     : Nat := 0
  next    : Nat := 0
  jobs    : Nat := 0
  post    : Nat := 0
  waiting : Bool := false
  trigAt  : Option Nat := none
  lastV   : Option Int := none
  lastTb  : Option Nat := none
  takenTb : Option Nat := none
  deriving DecidableEq, Repr

/-- What a job takes from its loop's registers at its release (R238), its repetitive controller's among them. -/
structure LoopCfg where
  nx   : Nat
  nm   : Nat
  nu   : Nat
  nz   : Nat
  umin : List Int
  umax : List Int
  imin : List Int
  imax : List Int
  zsrc : List Nat
  dst  : List Nat
  rc   : Bool
  rcN  : Nat
  rcBase : Nat
  lead : Nat
  rcOut : Nat
  rcZl : Nat
  deriving DecidableEq, Repr

/-- A value of a job, and whether write-back limited it (R219). -/
structure Lim where
  v   : Int
  lim : Bool
  deriving DecidableEq, Repr

/-- What a job computes (R215, R266). -/
structure LoopRes where
  xp    : List Lim
  yp    : List Lim
  nu    : List Lim
  xh    : List Lim
  kx    : List Lim
  z     : List Lim
  u     : List Lim
  ulim  : List Bool
  q     : Int
  qHeld : Int
  hold  : Nat
  qzero : Bool
  err   : Lim
  learn : Option Int
  sat   : Bool
  deriving DecidableEq, Repr

/-- A job of a loop: its sample instant and deadline on TB_NOW, the loop's state at the sample, what it latched, and
how far it is. `per` is the sample period in ns at the sample, `req` says which measurements it requires, `got` which ones
it uses if none is frozen, `yp` what the freeze checks at its sample took for its yp, `spent` that its loop has gone OFF or
been shed since. -/
structure LoopJob where
  cfg    : LoopCfg
  tb     : Nat
  due    : Nat
  per    : Nat := 0
  req    : List Bool := []
  got    : List Bool := []
  yp     : List Lim := []
  spent  : Bool := false
  st     : Nat
  first  : Bool
  y      : List Int
  flags  : List Nat
  used   : List Bool
  ua     : List Int
  refs   : List Int
  vd     : Int
  phOk   : Bool
  ph     : Nat
  idx    : Nat
  unit   : Option Nat := none
  done   : Bool := false
  out    : Bool := false
  missed : Bool := false
  res    : Option LoopRes := none
  applied : List Int := []
  poolWr : Bool := false
  deriving DecidableEq, Repr

/-- A loop behind its registers: its last released job, earlier ones that are done and still before their output instants
(R238), whether a job ever ended and what pool entries changed since held then (R271), instants, skip counts, latch history, freeze windows, delay line and
repetitive controller (R224 to R228, R263 to R272). -/
structure LpeX where
  job      : Option LoopJob := none
  earlier  : List LoopJob := []
  finished : Bool := false
  since    : Tab Word := []
  sampleTb : Option Nat := none
  instants : Nat := 0
  skips    : Tab Nat := []
  seen     : Tab Nat := []
  windows  : Tab (List (Int × Int)) := []
  frozen   : List Nat := []
  recover  : Nat := 0
  obsAt    : Nat := 0
  limited  : List Nat := []
  unmapped : List Nat := []
  firstDue : Bool := false
  bumpDue  : Bool := false
  dlPos    : Option Int := none
  dlLast   : Int := 0
  dlDiv    : Nat := 0
  dlFill   : Bool := false
  dlRedo   : Bool := false
  ph       : Nat := 0
  phPos    : Option Int := none
  mark     : Option Int := none
  marked   : Bool := false
  org      : Int := 0
  samples  : Nat := 0
  phRedo   : Bool := false
  qHeld    : Int := 0
  holdCnt  : Nat := 0
  zeroed   : Bool := false
  loading  : Bool := false
  snap     : Option (List Word) := none
  obsWas   : Option (Nat × Nat) := none
  deriving DecidableEq, Repr

/-! ### Solenoid drive (08_solenoid_drive.md) -/

/-- A command of a solenoid channel: OP, its start instant on TB_NOW, and DUR in µs (R292, R293). -/
structure SolCmd where
  op  : Nat
  ton : Nat
  dur : Nat
  deriving DecidableEq, Repr

/-- A queued peak (R299): its start instant in elapsed time, and the pulse's DUR in µs. -/
structure SolPeak where
  start : Nat
  dur   : Option Nat
  deriving DecidableEq, Repr

/-- A solenoid channel behind its registers. Instants are in elapsed time, `gridTb` and `chop` on TB_NOW. `path` is the
decay path taken from peak to hold or at switch-off: 0 none, 1 slow, 2 fast (R290). `chop` is where its chop periods
began or will begin (R289); `gridDur` the on-time in µs of the last grid pulse (R294); `deferSeen` DEFER_SEEN of R300,
which no register shows; `seqAt` when its bank sequencer took up its last capture (R305). -/
structure SolX where
  armed   : Option SolCmd := none
  rep     : Option Nat := none
  gridTb  : Option Nat := none
  onTime  : Nat := 0
  queued  : Option SolPeak := none
  onAt    : Nat := 0
  peakEnd : Nat := 0
  pulseEnd : Option Nat := none
  projEnd : Nat := 0
  reached : Bool := false
  pulled  : Bool := false
  path    : Nat := 0
  capAt   : Option Nat := none
  capOn   : Option Nat := none
  tripAt  : Option Nat := none
  chop    : Option Nat := none
  gridDur : Nat := 0
  deferSeen : Bool := false
  seqAt   : Option Nat := none
  deriving DecidableEq, Repr


/-! ### Load switches (09_load_switches.md) -/

/-- A load switch behind its registers. Instants are in elapsed time, `startTb` on TB_NOW. `heldOff`: a condition held
the output off when its hold began (R338). -/
structure LswX where
  duty     : Nat := 0
  startTb  : Option Nat := none
  offAt    : Option Nat := none
  lampDue  : Bool := false
  lampEnd  : Nat := 0
  faultAt  : Nat := 0
  tripAt   : Option Nat := none
  clean    : Option Nat := none
  coolRun  : Bool := false
  offSince : Nat := 0
  testAt   : Option Nat := none
  openHi   : Nat := 0
  openLo   : Nat := 0
  holdAt   : Nat := 0
  heldOff  : Bool := false
  deriving DecidableEq, Repr


/-! ### Motor axes and the FAN unit (10_motor_drives.md) -/

/-- A motor axis behind its registers. Instants are in elapsed time, `centreTb` on TB_NOW; `gates` is what the bridge or
port does: 0 all off, 1 the three low sides on, 2 driven. Currents are in mA, speeds in 0.1 rpm, angles in 1/65,536 of an
electrical revolution. `hall` is the last valid Hall code, `tachAt` and `tachSpd` the last tachometer pulse and speed, and
`openFrom` tells since when a phase has carried too little current. -/
structure MtrX where
  centreTb : Option Nat := none
  idCmd    : Int := 0
  angle    : Nat := 0
  hall     : Option Nat := none
  tachAt   : Option Nat := none
  tachSpd  : Nat := 0
  cmd0     : Int := 0
  loopCmd  : Int := 0
  zoneCmd  : Int := 0
  autoCmd  : Int := 0
  auto     : Bool := false
  gates    : Nat := 0
  dir      : Int := 0
  speed    : Int := 0
  est      : Int := 0
  tracked  : Bool := false
  posAcc   : Int := 0
  integral : Int := 0
  iqCmd    : Int := 0
  energy   : Nat := 0
  leftOff  : Nat := 0
  alignAt  : Nat := 0
  olAt     : Nat := 0
  runAt    : Nat := 0
  retryAt  : Nat := 0
  stallFrom : Option Nat := none
  unlockFrom : Option Nat := none
  lockFrom : Option Nat := none
  predFrom : Option Nat := none
  tachBad  : Option Nat := none
  tachGone : Option Nat := none
  tachGood : Option Nat := none
  tachWait : Bool := false
  hallBad  : List Nat := []
  openFrom : Tab Nat := []
  tripAt   : Option Nat := none
  holdAt   : Nat := 0
  deriving DecidableEq, Repr

/-- The trips of R368. -/
inductive TripKind where
  | overcurrent | desaturation | filtered | bitstream | phaseOpen
  deriving DecidableEq, Repr

/-- The FAN unit: the last evaluation instant on TB_NOW, and for each axis whose last judgement met R381 the elapsed time
of the period centre from which it has met it without a break. -/
structure FanX where
  evalTb  : Option Nat := none
  afGood  : Tab Nat := []
  deriving DecidableEq, Repr



/-! ### CAN FD channels (11_bus_controller.md) -/


/-- A CAN channel behind its registers: the mode in force, whether it has integrated to the bus, whether a frame is on
the bus as far as the channel knows, the transmit buffer ACTIVE, when its frame started (elapsed time and TB_NOW) and
when its commit point comes, the instants of the requests, and the shadow slots' words. -/
structure CanX where
  mode    : Nat := 0
  synced  : Bool := false
  busy    : Bool := false
  active  : Option Nat := none
  startAt : Nat := 0
  startTb : Nat := 0
  commitAt : Nat := 0
  reqAt   : Tab Nat := []
  shadows : Tab (List Word) := []
  deriving DecidableEq, Repr


/-! ### Network time and the counting boards (12_time_and_schedule.md) -/

/-- A master heard through Announce (R434): its port identity, the vector the best master clock algorithm compares, the
log2 of its announce interval in s, and when the last two Announce messages came. -/
structure PtpMaster where
  src      : Nat
  rank     : List Nat
  interval : Int
  lastAt   : Nat
  prevAt   : Option Nat
  deriving DecidableEq, Repr

/-- What the PTP slave holds: masters heard, the two-step Sync that waits for its Follow_Up (sequence number, source, t2
and correction), t1 and t2 of the last pair, the Delay_Req that waits for its answer (sequence number and t3), the next
sequence number, the mean path delay, and the masters whose last Sync had an interval out of range. Times are in ns. -/
structure PtpX where
  masters : List PtpMaster := []
  barred  : List Nat := []
  wait    : Option (Nat × Nat × Rat × Rat) := none
  pair    : Option (Rat × Rat) := none
  req     : Option (Nat × Rat) := none
  reqSeq  : Nat := 0
  delay   : Option Rat := none
  deriving DecidableEq, Repr

/-- The discipline of TB_NOW (R429 to R431): f_int and the rate in ppb, the ns owed to TB_NOW by the rate, the far set,
the last accepted offsets, when the last was accepted, since when none has been, and the PTP slave. -/
structure TimX where
  fint    : Rat := 0
  rate    : Rat := 0
  owed    : Rat := 0
  farSet  : List Rat := []
  hist    : List Rat := []
  lastAt  : Option Nat := none
  quietAt : Nat := 0
  leap    : Bool := false
  ptp     : PtpX := {}
  deriving DecidableEq, Repr

/-- The open window of a board: its column, its kind, its buffer, when it started and ends in elapsed time, and whether a
frame has started in it. -/
structure TtsWin where
  col     : Nat
  kind    : Nat
  buf     : Nat
  startAt : Nat
  endAt   : Nat
  started : Bool := false
  deriving DecidableEq, Repr

/-- A counting board behind its registers: the elapsed time of its Ref_Mark, from when the watch counts, whether a
reference has been seen, a master is known and the own reference has lost arbitration, the columns already begun in this
cycle, the open window, the cell whose frame is on the bus, the scheduled start of the last own reference, the cycle
count of a requested one, and whether a preempting one was requested in this cycle. -/
structure TtsX where
  markAt  : Nat := 0
  watchAt : Nat := 0
  seen    : Bool := false
  known   : Bool := false
  begun   : Nat := 0
  win     : Option TtsWin := none
  cell    : Option Nat := none
  sched   : Option Nat := none
  refDue  : Option Nat := none
  preempted : Bool := false
  deriving DecidableEq, Repr


/-! ### Columns and links (13_columns_and_links.md) -/

/-- A Column behind its registers: for a CAN partner its channel set and how its address is extracted, whether it keeps a
receive book, RCVD, whether a sequence number is known, the liveness limit in force, instants in elapsed time (liveness
restart, last valid frame, first frame, silence, retirement, and since when FREED is ahead of RETURNED), and where frames
for a Tarbylink partner go (R471). -/
structure ColX where
  chmask   : Nat := 0
  ash      : Nat := 0
  aw       : Nat := 0
  admitN   : Nat := 0
  book     : Bool := false
  rcvd     : Nat := 0
  seqKnown : Bool := false
  liveMs   : Nat := 0
  lastAt   : Nat := 0
  validAt  : Nat := 0
  firstAt  : Nat := 0
  silentAt : Nat := 0
  retiredAt : Nat := 0
  freedAt  : Option Nat := none
  mac      : Nat := 0
  vlan     : Option Nat := none
  deriving DecidableEq, Repr


/-- A Tarbylink frame that waits for a replay mark (R481): its type, the TB_NOW of its reception, and the frame. -/
structure InFrame where
  type  : Nat
  tb    : Nat
  frame : TlFrame
  deriving DecidableEq, Repr

/-- A Tarbylink frame that waits to leave (R481): its Column, or where a Column-less answer goes, its type, payload and
the beads it counts. -/
structure OutFrame where
  key     : Nat
  col     : Option Nat
  port    : Nat
  mac     : Nat
  vlan    : Option Nat
  v6      : Bool
  ip      : Nat
  udp     : Nat
  type    : Nat
  payload : List Nat
  deriving DecidableEq, Repr

/-- A port behind its registers: the speed being tried and since when. -/
structure PortX where
  speed : Nat := 0
  since : Nat := 0
  deriving DecidableEq, Repr

/-- The host engine: frames that wait for a replay mark, inward and outward, the TB_NOW at which the frame last handled
was received, the keys and permissions in force by register address, the ports, and by transmit ring how many beads of a
discarded record are still to be pushed (R477). -/
structure NetX where
  inQ   : List InFrame := []
  rxTb  : Nat := 0
  outQ  : List OutFrame := []
  force : Tab Word := []
  ports : Tab PortX := []
  txOwed : Tab Nat := []
  deriving DecidableEq, Repr

/-! ### Store and spares (14_store_and_spares.md) -/

/-- The trailer of a bank (R503). -/
structure Trailer where
  magic  : Nat := 0
  format : Nat := 0
  seq    : Nat := 0
  crc    : Nat := 0
  crct   : Nat := 0
  deriving DecidableEq, Repr

/-- A main bank (R496, R503): its bytes below the trailer, and its trailer. -/
structure Bank where
  cells   : List Host.Cell := []
  trailer : Trailer := {}
  deriving DecidableEq, Repr

/-- A key bank (R496, R512): the value of every key-area register by address, and its trailer. -/
structure KeyBank where
  vals    : Tab Word := []
  trailer : Trailer := {}
  deriving DecidableEq, Repr

/-- The dirty bits of the pages for one bank (R500, R501): every page, every image page, or those listed. -/
structure Dirty where
  all   : Bool := false
  image : Bool := false
  pages : List Nat := []
  deriving DecidableEq, Repr

/-- The two replay marks the mark area holds for a key slot (R481, R513). -/
structure Marks where
  krxhw : Nat := 0
  ktx   : Nat := 0
  deriving DecidableEq, Repr

/-- A record of the mark area (R513): what it holds, its count and its CRC-32C. -/
structure MarkRec (α : Type) where
  val   : α
  count : Nat := 0
  crc   : Nat := 0
  deriving DecidableEq, Repr

/-- Two records in alternating form (R513). -/
structure Twin (α : Type) where
  a : MarkRec α
  b : MarkRec α
  deriving DecidableEq, Repr

/-- The unit map of retired units (R513): physical Rods, matrix units, precision paths, dielectric paths, and Frame
sections with the spare each went to, the latest first. -/
structure UnitMap where
  rods     : List Nat := []
  matrix   : List Nat := []
  ppaths   : List Nat := []
  dpaths   : List Nat := []
  sections : Tab Nat := []
  deriving DecidableEq, Repr

/-- The LOAD_COMMIT a commit answers (R478): its Column, REQ_ID and ACTIVATE. -/
structure LoadReq where
  col      : Nat
  reqId    : Nat
  activate : Bool
  deriving DecidableEq, Repr

/-- An activation that waits for the logical Rods it stops (R479). -/
structure Activation where
  load : LoadReq
  rods : List Nat
  deriving DecidableEq, Repr

/-- A commit that is running (R504): of the key bank or a main bank, its target, C in elapsed time, the content fixed at
C, the load it answers, the pages it writes, and those written to since C. -/
structure Commit where
  key     : Bool
  bankB   : Bool
  start   : Nat
  content : List Host.Cell := []
  keys    : Tab Word := []
  load    : Option LoadReq := none
  pages   : List Nat := []
  late    : List Nat := []
  deriving DecidableEq, Repr

/-- An open load (R478): its Column and IMAGE_SIZE. -/
structure LoadX where
  col  : Nat
  size : Nat
  deriving DecidableEq, Repr

/-- The store, and what the health monitor keeps: `umap` the unit map in force, `mapRecs` its two records in the mark
area (R513). -/
structure StoX where
  bankA    : Bank := {}
  bankB    : Bank := {}
  keyA     : KeyBank := {}
  keyB     : KeyBank := {}
  work     : List Host.Cell := []
  keyWork  : Tab Word := []
  keyDirty : Bool := false
  keySlots : List Nat := []
  dirtyA   : Dirty := {}
  dirtyB   : Dirty := {}
  log      : Tab LogSlot := []
  marks    : Tab (Twin Marks) := []
  umap     : UnitMap := {}
  mapRecs  : Twin UnitMap := ⟨⟨{}, 0, 0⟩, ⟨{}, 0, 0⟩⟩
  mapClr   : Bool := false
  commit   : Option Commit := none
  load     : Option LoadX := none
  activate : Option Activation := none
  secCopy  : Tab (Nat × Nat) := []
  exhausted : List Nat := []
  deriving DecidableEq, Repr

/-! ### Modes, safety and discrete inputs (15_modes_and_reset.md) -/

/-- One discrete input (R558): its contact, since when, and its filtered state. -/
structure DioX where
  contact : Bool := false
  since   : Nat := 0
  state   : Bool := false
  deriving DecidableEq, Repr

/-- What stands behind the HLT registers: the last sensor read on TB_NOW, how many reads in a row humidity has been at
HUM_WARN, below HUM_WARN less 5 %, and at HUM_CRIT, the temperature and humidity conditions in force, when the spares
were last tested and the last scrub pass ended, and the poisoned beads the scrubber has reported. -/
structure HltX where
  readTb  : Option Nat := none
  humWarn : Nat := 0
  humOk   : Nat := 0
  humCrit : Nat := 0
  tempWarn : Bool := false
  tempCrit : Bool := false
  wet     : Bool := false
  flooded : Bool := false
  testAt  : Option Nat := none
  scrubAt : Nat := 0
  found   : List Nat := []
  deriving DecidableEq, Repr

/-- What stands behind the SYS and DIO registers. Instants are in elapsed time: since when the FIRE_PERMIT conditions
hold, the host timer, the watchdog, the two stop contacts (high, and since when, and whether the channel counts as low),
since when they disagree, the other contacts, VLOG below 9.0 V, the boot or resume in progress, domains that ramp, the
Rods that DORMANT stopped, the exit from Commission, whether a stored field was written, and whether a critical fault arose in Boot or Dormant. -/
structure SysX where
  fireSince : Option Nat := none
  hostAt    : Nat := 0
  wdtArmed  : Bool := false
  wdtAt     : Nat := 0
  stopA     : Bool := false
  stopB     : Bool := false
  stopAAt   : Nat := 0
  stopBAt   : Nat := 0
  lowA      : Bool := false
  lowB      : Bool := false
  discFrom  : Option Nat := none
  commission : Bool := false
  wakeLow   : Option Nat := none
  resetLow  : Option Nat := none
  inReset   : Bool := false
  vlogLow   : Option Nat := none
  powered   : Bool := false
  boot      : Bool := false
  toCommission : Bool := false
  resume    : Bool := false
  ramps     : Tab Nat := []
  stopped   : List Nat := []
  exiting   : Bool := false
  exitRun   : Bool := false
  exitMain  : Bool := false
  exitFailed : Bool := false
  written   : Bool := false
  critRec   : Bool := false
  dio       : Tab DioX := []
  pdSince   : Tab Nat := []
  deriving DecidableEq, Repr

/-- A command of the present 5 ns step that waits until those of the step that a rule puts before it have had their effect
(R23, R232, R239, R300, R366, R373, R403, R455): what it is, by the unit it acts on. -/
inductive Later where
  | write (who : Writer) (a v : Word)
  | loopCmd (n cmd : Nat)
  | allSafe
  | unitFail (u : Nat)
  | observeMax (n : Nat)
  | loopOutput (n : Nat)
  | loopSample (n : Nat)
  | loopDispatch (n : Nat)
  | traceSample (c : Nat)
  | fanEvaluation
  | mtrTrip (k : TripKind) (n v : Nat)
  | mtrStall (n : Nat)
  | mtrClear (n bit : Nat)
  | mtrEnable (n : Nat) (on : Bool)
  | mtrCmd (n : Nat) (v : Word)
  | mtrCentre (n : Nat) (d : MtrSample)
  | solCmd (n op : Nat) (now : Bool)
  | solStart (n : Nat)
  | solGrid (n : Nat)
  | colCmd (n op count : Nat)
  | colExpiry (st n : Nat)
  | canFrame (n : Nat) (f : CanFrame)
  | tlFrame (type : Nat) (f : TlFrame)
  | netForeign (port : Nat)
  deriving DecidableEq, Repr

/-- The configurations of R2. DESIGN CHOICE of State.reset: log entry 2. -/
inductive Variant where
  | F | G | T
  deriving DecidableEq, Repr

/-- A frame the controller has sent to the outside: its port (0 to 5 a CAN channel, 8 the host port, 9 and 10 L0 and L1),
what it is, where it goes, and its bytes. -/
structure Sent where
  port : Nat
  what : String
  dest : List Nat
  data : List Nat
  deriving DecidableEq, Repr

/-- The whole machine. `held` lists the commands of this 5 ns step that wait for others of it. `w1cSet` holds, by register address, the W1C bits that hardware has set in this 5 ns step (R11). -/
structure State where
  pending   : List Instr := []
  held      : List Later := []
  variant   : Variant := .F
  tbNow     : Nat := 0
  elapsed   : Nat := 0
  fresh     : Nat := 0
  regs      : Tab Word := []
  w1cSet    : Tab Word := []
  frame     : List Host.Cell := []
  beadErr   : Tab BeadErr := []
  rings     : Tab RingX := []
  rods      : Tab RodX := []
  programs  : Tab Program := []
  template  : List Host.Cell := []
  migration : Option Migration := none
  migEnd    : Option Nat := none
  logQueue  : List LogRec := []
  sent      : List Sent := []
  dfe       : Tab DfeX := []
  dfeSpare  : SparesX := {}
  pubs      : Tab Nat := []
  ageBase   : Tab Nat := []
  stepAt    : Option Nat := none
  steps     : Nat := 0
  curves    : Tab Word := []
  pfe       : Tab PfeX := []
  pfeSpare  : SparesX := {}
  trc       : Tab TrcX := []
  lpe       : Tab LpeX := []
  sol       : Tab SolX := []
  lsw       : Tab LswX := []
  mtr       : Tab MtrX := []
  fan       : FanX := {}
  can       : Tab CanX := []
  tim       : TimX := {}
  tts       : Tab TtsX := []
  col       : Tab ColX := []
  net       : NetX := {}
  sto       : StoX := {}
  hlt       : HltX := {}
  sys       : SysX := {}
  deriving DecidableEq, Repr
/-- The machine right after power-on reset: PD0 is on, every other domain off, the mode is Boot, SAFE_STOP_N is asserted
(R542, R545 step 1), every register holds its reset value, and nothing has been stored.
DESIGN CHOICE: log entry 13. DESIGN CHOICE: log entry 15. DESIGN CHOICE: log entry 25. -/
def State.reset : State :=
  { regs := [(R.SYS_STAT.base, word 2), (R.SYS_PDSTAT.base, word 2)] }

end Sys2Proof.Machine
end

