-- ==== Sys2Proof/Machine/Ops.lean ====
section
/-! DEFINITION. Sys2Proof/Machine/Ops.lean: the named operations over registers, memory, beads, rings and events that
every unit's meaning is written with. -/

namespace Sys2Proof.Machine

/-- TB_NOW has come to an instant of the grid that `p` tells: it stands on one, or a slewing tick of 10 ns has just passed
one over, which is then taken here (R425, R431). DEDUCED: log entry 146. -/
def State.tbHits (s : State) (p : Nat → Bool) : Bool := p s.tbNow || (s.tim.leap && p (s.tbNow - 5))

/-! ### Registers -/

/-- The contents of a register; one never written holds its reset value (R570). -/
def State.rd (s : State) (d : RegDesc) (i : Nat := 0) (j : Nat := 0) : Word := tabGet d.reset s.regs (d.addr i j)

/-- Set a register. -/
def State.wr (s : State) (d : RegDesc) (v : Word) (i : Nat := 0) (j : Nat := 0) : State :=
  { s with regs := tabPut s.regs (d.addr i j) v }

/-- The contents of a field, unsigned. -/
def State.f (s : State) (fl : Fld) (i : Nat := 0) (j : Nat := 0) : Nat := bits (s.rd fl.reg i j) fl.hi fl.lo

/-- A field of a word. -/
def Fld.of (fl : Fld) (w : Word) : Nat := bits w fl.hi fl.lo

/-- The contents of a field, signed. -/
def State.fi (s : State) (fl : Fld) (i : Nat := 0) (j : Nat := 0) : Int := sext (s.f fl i j) fl.width

/-- A one-bit field as a truth value. -/
def State.fb (s : State) (fl : Fld) (i : Nat := 0) (j : Nat := 0) : Bool := s.f fl i j != 0

/-- The W1C bits set in this step, with those of a field that hardware now sets to `v` (R11). -/
def markW1c (t : Tab Word) (fl : Fld) (v a : Nat) : Tab Word :=
  if v % 2 ^ fl.width != 0 && fl.reg.fields.any (fun fd => fd.acc == .w1c && decide (fd.lo ≤ fl.lo) && decide (fl.lo ≤ fd.hi)) then
    tabPut t a (tabGet 0 t a ||| putBits 0 fl.hi fl.lo v)
  else t

/-- Set a field, leaving the register's other bits. -/
def State.setF (s : State) (fl : Fld) (v : Nat) (i : Nat := 0) (j : Nat := 0) : State :=
  { s.wr fl.reg (putBits (s.rd fl.reg i j) fl.hi fl.lo v) i j with w1cSet := markW1c s.w1cSet fl v (fl.reg.addr i j) }

/-- Set a field to a signed value. -/
def State.setFi (s : State) (fl : Fld) (v : Int) (i : Nat := 0) (j : Nat := 0) : State :=
  s.setF fl (toField v fl.width) i j

/-- Set a one-bit field to a truth value. -/
def State.setB (s : State) (fl : Fld) (b : Bool) (i : Nat := 0) (j : Nat := 0) : State := s.setF fl (bit b) i j

/-- Add to a register, modulo 2^32. -/
def State.addR (s : State) (d : RegDesc) (n : Nat) (i : Nat := 0) (j : Nat := 0) : State :=
  s.wr d (s.rd d i j + word n) i j

/-- Subtract from a register, modulo 2^32. -/
def State.subR (s : State) (d : RegDesc) (n : Nat) (i : Nat := 0) (j : Nat := 0) : State :=
  s.wr d (s.rd d i j - word n) i j

/-- Set or clear bit `n` of a register whose bits stand for units. -/
def State.setMask (s : State) (d : RegDesc) (n : Nat) (b : Bool) (i : Nat := 0) (j : Nat := 0) : State :=
  s.wr d (putBits (s.rd d i j) n n (bit b)) i j

/-- A register as a number. -/
def State.nat (s : State) (d : RegDesc) (i : Nat := 0) (j : Nat := 0) : Nat := (s.rd d i j).toNat

/-- A pair of registers _LO and _HI as one number (R571). -/
def State.rd64 (s : State) (lo hi : RegDesc) (i : Nat := 0) (j : Nat := 0) : Nat := s.nat lo i j + s.nat hi i j * 2 ^ 32

/-- Set a pair of registers _LO and _HI, both words in one step (R571). -/
def State.wr64 (s : State) (lo hi : RegDesc) (v : Nat) (i : Nat := 0) (j : Nat := 0) : State :=
  (s.wr lo (word v) i j).wr hi (word (v / 2 ^ 32)) i j

/-- A fresh free value number: the model's own counter, read and advanced. -/
def State.takeFresh (s : State) : Nat × State := (s.fresh, { s with fresh := s.fresh + 1 })

/-! ### Configuration, domains and modes -/

/-- Power domain `n` is on: SYS_PDSTAT shows ON (R544, R562). -/
def State.domOn (s : State) (n : Nat) : Bool := bits (s.rd R.SYS_PDSTAT) (2 * n + 1) (2 * n) == 2

/-- SYS_MODE.MODE under R532. -/
def State.mode (s : State) : Nat := s.f F.SYS_MODE_MODE

/-- Boot. -/
def modeBoot : Nat := 0
/-- Commission. -/
def modeCommission : Nat := 1
/-- Ready. -/
def modeReady : Nat := 2
/-- Batch. -/
def modeBatch : Nat := 3
/-- Flow. -/
def modeFlow : Nat := 4
/-- Store. -/
def modeStore : Nat := 5
/-- Hold. -/
def modeHold : Nat := 6
/-- Dormant. -/
def modeDormant : Nat := 7

/-- The dielectric front end is present (R2). -/
def State.hasDfe (s : State) : Bool := s.variant != .T
/-- Motor axis `n` exists (R2: the SNG-7480-G has no axes 0 to 3). -/
def State.hasAxis (s : State) (n : Nat) : Bool := n < 8 && (s.variant != .G || n ≥ 4)

/-- Whole milliseconds of elapsed time since an instant (R604). -/
def State.msSince (s : State) (t : Nat) : Nat := (s.elapsed - t) / 1000000

/-- The low word of TB_NOW. -/
def State.tbLo (s : State) : Word := word s.tbNow
/-- The high word of TB_NOW. -/
def State.tbHi (s : State) : Word := word (s.tbNow / 2 ^ 32)

/-! ### Memory as listed cells: bytes not listed read zero -/

/-- The byte at `a`. -/
def cellsGet : List Host.Cell → Nat → Byte
  | [], _ => 0
  | (a', b) :: t, a => if a' = a then b else cellsGet t a

/-- Set the byte at `a`, keeping the canonical form: a zero byte is not listed. -/
def cellsPut : List Host.Cell → Nat → Byte → List Host.Cell
  | [], a, b => if b = 0 then [] else [(a, b)]
  | (a', b') :: t, a, b =>
    if a' = a then (if b = 0 then t else (a, b) :: t)
    else if a < a' then (if b = 0 then (a', b') :: t else (a, b) :: (a', b') :: t)
    else (a', b') :: cellsPut t a b

/-- The canonical form: addresses strictly rising, no listed byte zero. -/
def Memory.wf : List Host.Cell → Bool
  | [] => true
  | [(_, b)] => b != 0
  | (a, b) :: (a', b') :: t => b != 0 && decide (a < a') && Memory.wf ((a', b') :: t)

/-- `n` bytes at `a`, the lowest address least significant (R100, R110). -/
def cellsRead (m : List Host.Cell) (a : Nat) : Nat → Nat
  | 0 => 0
  | n + 1 => (cellsGet m a).toNat + 256 * cellsRead m (a + 1) n

/-- Store the low `n` bytes of `v` at `a`, the least significant at the lowest address. -/
def cellsWrite (m : List Host.Cell) (a : Nat) : Nat → Nat → List Host.Cell
  | 0, _ => m
  | n + 1, v => cellsWrite (cellsPut m a (BitVec.ofNat 8 v)) (a + 1) n (v / 256)

/-- Store a list of bytes from `a` on. -/
def cellsWriteBytes (m : List Host.Cell) : Nat → List Byte → List Host.Cell
  | _, [] => m
  | a, b :: bs => cellsWriteBytes (cellsPut m a b) (a + 1) bs

/-- Bytes `a` to `a + n - 1` set to zero. -/
def cellsClear (m : List Host.Cell) (a n : Nat) : List Host.Cell :=
  m.filter (fun c => !(decide (a ≤ c.1) && decide (c.1 < a + n)))

/-- Copy the `n` bytes of `src` at `src0` to `m` at `dst0`. -/
def cellsCopy (m src : List Host.Cell) (src0 n dst0 : Nat) : List Host.Cell :=
  (src.filter (fun c => decide (src0 ≤ c.1) && decide (c.1 < src0 + n))).foldl
    (fun acc c => cellsPut acc (c.1 - src0 + dst0) c.2) (cellsClear m dst0 n)

/-! ### Events -/

/-- The size of ring `n` in beads (R51). -/
def State.ringSize (s : State) (n : Nat) : Nat := 16 * 2 ^ s.f F.CRG_CFG_SIZE n

/-- The Frame address of slot `k` of ring `n`: 16 bytes a bead (R51). -/
def State.slotAddr (s : State) (n k : Nat) : Nat := s.nat R.CRG_BASE n + 16 * k

/-- Ring control of ring `n`. -/
def State.ring (s : State) (n : Nat) : RingX := tabGet {} s.rings n
/-- Change ring control of ring `n`. -/
def State.setRing (s : State) (n : Nat) (x : RingX) : State := { s with rings := tabPut s.rings n x }

/-- Ring `n` is enabled, Frame domain on. -/
def State.ringOn (s : State) (n : Nat) : Bool := s.domOn 2 && s.fb F.CRG_CFG_EN n

/-- A bead in Frame SRAM. -/
def State.frameBead (s : State) (a : Nat) : Bead := BitVec.ofNat 128 (cellsRead s.frame a 16)

/-- Write a whole bead to Frame SRAM: fresh check bits, any poison cleared (R50). -/
def State.putFrameBead (s : State) (a : Nat) (b : Bead) : State :=
  { s with frame := cellsWrite s.frame a 16 b.toNat, beadErr := tabDrop s.beadErr (a / 16) }

/-- Take a reservation of ring `n`: the slot at the tail, which advances (R54, R58). The slot's number comes back. -/
def ringReserve (s : State) (n : Nat) (rod : Option Nat) (dest : Nat) : Nat × State :=
  let slot := s.nat R.CRG_TAIL n
  let x := s.ring n
  let s := s.wr R.CRG_TAIL (word ((slot + 1) % s.ringSize n)) n
  let s := ((s.subR R.CRG_TALLY 1 n).addR R.CRG_RESERVED 1 n).addR R.CRG_PRODUCED 1 n
  (slot, s.setRing n { x with resv := x.resv ++ [⟨slot, false, false, rod, dest⟩] })

/-- Commit, in slot order, every written slot before the first unwritten one (R54). -/
def ringCommitLoop : Nat → State → Nat → State
  | 0, s, _ => s
  | fuel + 1, s, n =>
    match (s.ring n).resv with
    | r :: rest =>
      if r.written then
        let x := s.ring n
        let s := s.setRing n { x with resv := rest, voids := if r.isVoid then r.slot :: x.voids else x.voids }
        ringCommitLoop fuel ((s.subR R.CRG_RESERVED 1 n).addR R.CRG_COUNT 1 n) n
      else s
    | [] => s

/-- Commit what can commit on ring `n`. -/
def ringCommit (s : State) (n : Nat) : State := ringCommitLoop (s.ring n).resv.length s n

/-- Mark the reservation of `slot` as written. -/
def ringMark (s : State) (n slot : Nat) (isVoid : Bool) : State :=
  let x := s.ring n
  s.setRing n { x with resv := x.resv.map (fun r =>
    if r.slot = slot then { r with written := true, isVoid := isVoid } else r) }

/-- Add one bead to ring `n`: reserve, write, commit in slot order (R54). The caller has seen a free slot. -/
def ringAdd (s : State) (n : Nat) (b : Bead) (tag : Option Nat := none) : State :=
  let (slot, s) := ringReserve s n none 0
  let s := s.putFrameBead (s.slotAddr n slot) b
  let x := s.ring n
  let s := s.setRing n { x with tags := match tag with
    | some t => tabPut x.tags slot t
    | none => tabDrop x.tags slot }
  ringCommit (ringMark s n slot false) n

/-- Add the beads of a record, reserved and committed together (R55). -/
def ringAddAll (s : State) (n : Nat) (bs : List Bead) (tag : Option Nat := none) : State :=
  bs.foldl (fun s b => ringAdd s n b tag) s

/-- A hardware unit's post to a ring: discarded and counted lost where the ring is full or disabled (R29, R59). -/
def ringPost (s : State) (n : Nat) (b : Bead) : State :=
  if !s.domOn 2 then s
  else if s.ringOn n && !(s.ring n).closing && s.nat R.CRG_TALLY n != 0 then ringAdd s n b
  else s.addR R.CRG_LOST 1 n

/-- The event bead every unit's layout shares: lane 0 the source, the code and the detail, lanes 1 and 2 TB_NOW, lane 3
the value (R165, R251, R315, R418, R486, R527). -/
def eventBead (s : State) (src code detail : Nat) (value : Word) : Bead :=
  ofLanes (word (src % 2 ^ 16 + code % 256 * 2 ^ 16 + detail % 256 * 2 ^ 24)) s.tbLo s.tbHi value

/-! ### Trace triggers (R282 to R284) -/

/-- Trace channel `c` behind its registers. -/
def State.trcX (s : State) (c : Nat) : TrcX := tabGet {} s.trc c
/-- Change trace channel `c`. -/
def State.setTrc (s : State) (c : Nat) (x : TrcX) : State := { s with trc := tabPut s.trc c x }

/-- Channel `c` triggers with a cause; a channel that has just triggered in this 5 ns step reports the lowest cause
(R284), and every armed channel that links to it triggers too (R283). -/
def trcTrigger : Nat → State → Nat → Nat → State
  | 0, s, _, _ => s
  | fuel + 1, s, c, cause =>
    let x := s.trcX c
    if s.f F.TRC_STAT_STATE c = 1 then
      let short := decide (s.f F.TRC_COUNT_V c < s.f F.TRC_PRE_V c)
      let s := (s.setF F.TRC_STAT_STATE 2 c).setF F.TRC_STAT_CAUSE cause c
      let s := s.setB F.TRC_STAT_PRE_SHORT short c
      let s := s.setTrc c { x with waiting := true, trigAt := some s.elapsed, post := 4096 - s.f F.TRC_PRE_V c }
      foldN 8 (fun s d =>
        if d != c && s.f F.TRC_TRG_TMODE d == 5 && maskBit (word (s.f F.TRC_TRG_LINKMASK d)) c then
          trcTrigger fuel s d 4
        else s) s
    else if s.f F.TRC_STAT_STATE c = 2 ∧ x.trigAt = some s.elapsed ∧ cause < s.f F.TRC_STAT_CAUSE c then
      s.setF F.TRC_STAT_CAUSE cause c
    else s

/-- Event `code` of loop or source `src`, on CR17 or CR16, triggers the channels that wait for it (R283). -/
def trcEvent (s : State) (ring src code : Nat) : State :=
  if !s.domOn 3 || (ring != 16 && ring != 17) then s
  else
    foldN 8 (fun s c =>
      let idx := s.f F.TRC_SEL_INDEX c
      let same := if s.f F.TRC_SEL_KIND c = 0 then
          ring == 16 && (idx == src || (decide (0x110 ≤ idx) && decide (idx < 0x118) && idx == src + 0x10))
        else ring == 17 && s.f F.TRC_SEL_LOOP c == src
      if s.f F.TRC_TRG_TMODE c == 4 && s.f F.TRC_TRG_EV_CODE c == code && same then trcTrigger 8 s c 3 else s) s

/-- Post an event bead to ring `n`; it acts on the trace unit whether or not the ring takes it (R283). -/
def event (s : State) (n src code detail : Nat) (value : Word) : State :=
  trcEvent (ringPost s n (eventBead s src code detail value)) n src code

/-- Queue a record for the log: 64 waiting at most, one beyond is discarded and counted (R516). -/
def logRecord (s : State) (kind : Nat) (payload : List Word) : State :=
  if s.logQueue.length < 64 then { s with logQueue := s.logQueue ++ [⟨kind, s.tbNow, payload⟩] }
  else (s.addR R.STO_LOGLOST 1).setF F.STO_STAT_LOGLOST_SEEN 1

/-- A health event: a bead to CR19, and a KIND 1 record whether or not the ring takes the bead (R517, R527, R564). -/
def healthEvent (s : State) (idx pool code detail : Nat) (value : Word) : State :=
  let b := eventBead s (idx % 256 + pool % 256 * 256) code detail value
  logRecord (ringPost s 19 b) 1 [lane b 0, lane b 1, lane b 2, lane b 3]

/-! ### Beads read and written (R45 to R50) -/

/-- The number the model gives a bead of Rod `r`'s scratch memory, above those of Frame SRAM. -/
def scratchBead (r off : Nat) : Nat := 524288 + r * 1024 + off / 16

/-- The first number of a bead of the store's working copy, above those of the scratch memories. -/
def workBeads : Nat := 540672

/-- The number the model gives the bead of the working copy at offset `off` in the bank (R519). -/
def workBead (off : Nat) : Nat := workBeads + (off - 0x400000) / 16

/-- The address a health event names for bead number `k`, of the working copy its offset in the bank. -/
def beadAddr (k : Nat) : Nat :=
  if k < 524288 then 16 * k
  else if k < workBeads then 0x800000 + 16 * ((k - 524288) % 1024)
  else 0x400000 + 16 * (k - workBeads)

/-- Event 0xF8 for bead number `k`: of Frame SRAM its section, of a scratch memory its logical Rod, of the working copy
neither (R50, R519, R527). DEDUCED: log entry 109. -/
def poisonEvent (s : State) (k detail : Nat) : State :=
  let (idx, pool) := if k < 524288 then (k / 4096, 5) else if k < workBeads then ((k - 524288) / 1024, 1) else (0, 0)
  healthEvent s idx pool 0xF8 detail (word (beadAddr k))

/-- Frame sections whose copy to a spare runs or has ended use up spares in order. -/
def spareSections (s : State) : Nat := 8 - (s.sto.umap.sections.length + s.sto.secCopy.length)

/-- Section `sec` fails: it is copied to the next spare, if one is left (R520, R525). DEDUCED: log entry 101. -/
def sectionFail (s : State) (sec singles : Nat) : State :=
  if spareSections s = 0 ∨ (tabFind s.sto.secCopy sec).isSome then s
  else { s with sto := { s.sto with secCopy := tabPut s.sto.secCopy sec (8 - spareSections s, singles) } }

/-- A double-bit error is found in bead number `k`: the bead is poisoned and counted (R49, R530), and the scrubber has not
seen it yet (R519). -/
def poisonBead (s : State) (k : Nat) : State :=
  { s with beadErr := tabPut s.beadErr k .poisoned,
           hlt := { s.hlt with found := s.hlt.found.filter (fun q => q != k) } }.addR R.HLT_POISON 1

/-- Check a bead as it is read: a single-bit error is corrected and counted (R48), a double-bit error poisons it (R49) and
retires its section (R520), and every access to a poisoned bead logs a health event (R50). The flag says the bead is
poisoned. -/
def beadCheck (s : State) (k : Nat) : Bool × State :=
  match tabFind s.beadErr k with
  | none => (false, s)
  | some .single => (false, ({ s with beadErr := tabDrop s.beadErr k }).addR R.HLT_CORR 1)
  | some .double =>
    let s := poisonEvent (poisonBead s k) k 2
    (true, if k < 524288 then sectionFail s (k / 4096) 0 else s)
  | some .poisoned => (true, poisonEvent s k 2)

/-- The bead errors after every bead that the `n` bytes at `a` reach into was written: fresh check bits (R50). -/
def beadErrClear (t : Tab BeadErr) (a n : Nat) : Tab BeadErr :=
  t.filter (fun p => !(decide (a / 16 ≤ p.1) && decide (16 * p.1 < a + n)))

/-- The storage of ring `n` takes in the `size` bytes at `a` (R46, R61). -/
def State.ringHolds (s : State) (n a size : Nat) : Bool :=
  s.fb F.CRG_CFG_EN n && decide (a < s.nat R.CRG_BASE n + 16 * s.ringSize n) && decide (s.nat R.CRG_BASE n < a + size)

/-- The `size` bytes at `a` touch the storage of an enabled ring (R46). -/
def State.inRing (s : State) (a size : Nat) : Bool := (List.range 32).any (fun n => s.ringHolds n a size)

/-! ### Rings as their users see them (R28, R52, R57) -/

/-- Rods produce into ring `n` (R28). -/
def rodsProduce (n : Nat) : Bool := n == 11 || n == 14 || (decide (20 ≤ n) && decide (n < 32))
/-- Rods consume from ring `n` (R28). -/
def rodsConsume (n : Nat) : Bool := decide (n < 32) && n != 11 && n != 14

/-- What a removal from a ring gave. -/
inductive Popped where
  | empty
  | bead (b : Bead)
  | poison
  deriving DecidableEq, Repr

/-- Remove the head bead of ring `n`, skipping void beads, each counted as consumed (R57, R58, R114). The tags of the
removed slots come back, for the credits of R465. -/
def ringRemove : Nat → State → Nat → List Nat → Popped × List Nat × State
  | 0, s, _, tags => (.empty, tags, s)
  | fuel + 1, s, n, tags =>
    if s.nat R.CRG_COUNT n = 0 then (.empty, tags, s)
    else
      let slot := s.nat R.CRG_HEAD n
      let x := s.ring n
      let a := s.slotAddr n slot
      let b := s.frameBead a
      let tags := match tabFind x.tags slot with
        | some t => tags ++ [t]
        | none => tags
      let isVoid := x.voids.contains slot
      let s := s.wr R.CRG_HEAD (word ((slot + 1) % s.ringSize n)) n
      let s := ((s.subR R.CRG_COUNT 1 n).addR R.CRG_TALLY 1 n).addR R.CRG_CONSUMED 1 n
      let s := s.setRing n { x with tags := tabDrop x.tags slot, voids := x.voids.filter (fun v => v != slot) }
      if isVoid then ringRemove fuel (s.addR R.CRG_VOID 1 n) n tags
      else
        match beadCheck s (a / 16) with
        | (true, s) => (.poison, tags, s.setF F.CRG_STAT_POISON 1 n)
        | (false, s) => (.bead b, tags, s)

/-- Remove one bead of ring `n`. -/
def ringPop (s : State) (n : Nat) : Popped × List Nat × State := ringRemove (s.nat R.CRG_COUNT n + 1) s n []

/-- Void beads at the head of ring `n` are skipped (R57). -/
def ringSkip : Nat → State → Nat → State
  | 0, s, _ => s
  | fuel + 1, s, n =>
    if s.nat R.CRG_COUNT n ≠ 0 ∧ (s.ring n).voids.contains (s.nat R.CRG_HEAD n) then ringSkip fuel (ringRemove 1 s n []).2.2 n
    else s

/-- A disable takes effect: the beads still there are dropped and counted as consumed (R62). The dropped slots' tags
come back. Void and poisoned beads among them count in no other book. DESIGN CHOICE: log entry 175. -/
def ringDisableEffect (s : State) (n : Nat) : List Nat × State :=
  let x := s.ring n
  let c := s.nat R.CRG_COUNT n
  let s := (s.addR R.CRG_CONSUMED c n).wr R.CRG_COUNT 0 n
  let s := (s.wr R.CRG_TALLY (word (s.ringSize n)) n).wr R.CRG_HEAD (s.rd R.CRG_TAIL n) n
  (x.tags.map (·.2), (s.setF F.CRG_CFG_EN 0 n).setRing n {})

/-- An enable: every book to zero, TALLY to the ring size (R62). -/
def ringEnable (s : State) (n : Nat) : State :=
  let s := (((s.wr R.CRG_HEAD 0 n).wr R.CRG_TAIL 0 n).wr R.CRG_COUNT 0 n).wr R.CRG_RESERVED 0 n
  let s := (((s.wr R.CRG_PRODUCED 0 n).wr R.CRG_CONSUMED 0 n).wr R.CRG_LOST 0 n).wr R.CRG_VOID 0 n
  let s := { s with net := { s.net with txOwed := tabDrop s.net.txOwed n } }
  ((s.wr R.CRG_TALLY (word (s.ringSize n)) n).setF F.CRG_CFG_EN 1 n).setRing n {}

/-- A ring's storage at `base` for size code `sz` would leave Frame SRAM or overlap an enabled ring's (R61). -/
def ringClash (s : State) (n base sz : Nat) : Bool :=
  let len := 16 * (16 * 2 ^ sz)
  decide (0x800000 < base + len) ||
    (List.range 32).any (fun m => m != n && s.ringHolds m base len)

/-! ### Doorbells (R66) -/

/-- Set doorbell bits of logical Rod `r`. -/
def ringBell (s : State) (r mask : Nat) : State :=
  if s.domOn 2 then s.setF F.FRM_DOORBELL_V (s.f F.FRM_DOORBELL_V r ||| (mask % 2 ^ 16)) r else s

/-! ### Rods -/

/-- Logical Rod `r`. -/
def State.rod (s : State) (r : Nat) : RodX := tabGet {} s.rods r
/-- Change logical Rod `r`. -/
def State.setRod (s : State) (r : Nat) (x : RodX) : State := { s with rods := tabPut s.rods r x }

end Sys2Proof.Machine
end

