-- ==== Sys2Proof/Machine/Measure.lean ====
section
/-! DEFINITION. Sys2Proof/Machine/Measure.lean: measurement words and their sources (spec/01_architecture.md R19 to R23,
R604), rounding, and curve memory (spec/05_precision_inputs.md R189 to R194, R210 to R214). -/

namespace Sys2Proof.Machine

/-! ### Rounding -/

/-- The nearest integer, halves away from zero (R147, R191). -/
def roundAway (x : Rat) : Int :=
  if 0 ≤ x then (x + (1 : Rat) / 2).floor else -((-x + (1 : Rat) / 2).floor)

/-- The magnitude of a rational. -/
def ratAbs (x : Rat) : Rat := max x (-x)

/-! ### Cosine, sine and logarithm (R141, R145) -/

/-- `x` within `e` of zero. -/
def within (e x : Rat) : Rat := max (-e) (min x e)

/-- The sum of `n` terms from the `k`th on, each `step j` times the one before it, of `term`. -/
def series (step : Nat → Rat) : Nat → Nat → Rat → Rat
  | 0, _, _ => 0
  | n + 1, k, term => term + series step n (k + 1) (term * step k)

/-- The angle in radians of the part of `t` turns nearest to zero, with 2π as 6.283185307. -/
def radians (t : Rat) : Rat := (t - ((t + 1 / 2).floor : Int)) * (6283185307 / 1000000000)

/-- Cosine of an angle in turns: its power series, to 10⁻⁶ (R141; log entry 8). -/
def cosTurns (t : Rat) : Rat :=
  let x := radians t
  series (fun k => -(x * x) / (((2 * k + 1) * (2 * k + 2) : Nat) : Rat)) 14 0 1 + within (1 / 1000000) (Config.cosTail t)

/-- Sine of an angle in turns: its power series, to 10⁻⁶ (R141; log entry 8). -/
def sinTurns (t : Rat) : Rat :=
  let x := radians t
  series (fun k => -(x * x) / (((2 * k + 2) * (2 * k + 3) : Nat) : Rat)) 14 0 x + within (1 / 1000000) (Config.sinTail t)

/-- The natural logarithm of 1 to 2, by the series of the inverse hyperbolic tangent. -/
def lnSeries (m : Rat) : Rat :=
  let z := (m - 1) / (m + 1)
  2 * (List.range 13).foldl (fun a k => a + z ^ (2 * k + 1) / ((2 * k + 1 : Nat) : Rat)) 0

/-- The natural logarithm of 1 or more. -/
def ln (f : Rat) : Rat :=
  let e := f.floor.toNat.log2
  (e : Rat) * lnSeries 2 + lnSeries (f / ((2 ^ e : Nat) : Rat))

/-- Decimal logarithm of a frequency in Hz: its series, to 10⁻⁹ (R145; log entry 8). -/
def log10 (f : Rat) : Rat := ln f / ln 10 + within (1 / 1000000000) (Config.log10Tail f)

/-- A share between 0 and 1. -/
def unitShare (x : Rat) : Rat := max 0 (min x 1)

/-! ### Sources -/

/-- The code names a source, in a unit that is present (R19, R20); 0xFFF is no source. -/
def msrcOk (s : State) (c : Nat) : Bool :=
  decide (c < 0x30) || (s.hasDfe && ((decide (0x100 ≤ c) && decide (c < 0x108)) || (decide (0x110 ≤ c) && decide (c < 0x118))))
    || (decide (0x400 ≤ c) && decide (c < 0x800))
    || (decide (0x800 ≤ c) && decide (c < 0x808) && s.hasAxis (c - 0x800))
    || (decide (0x810 ≤ c) && decide (c < 0x818) && s.hasAxis (c - 0x810))
    || (decide (0x900 ≤ c) && decide (c < 0x904)) || c == 0xFFF

/-- A measurement word as a consumer finds it: value, flag byte, age in whole milliseconds, and how often its source
has published (R21, R604). -/
structure Meas where
  v     : Int
  flags : Nat
  age   : Nat
  pubs  : Nat
  deriving DecidableEq, Repr

/-- FAULT is bit 0 of the flag byte. -/
def flFault : Nat := 1
/-- CLIPPED is bit 1. -/
def flClipped : Nat := 2
/-- RANGED is bit 2. -/
def flRanged : Nat := 4
/-- UNSETTLED is bit 3. -/
def flUnsettled : Nat := 8
/-- STALE is bit 4. -/
def flStale : Nat := 16

/-- A flag is set in a flag byte. -/
def hasFlag (flags fl : Nat) : Bool := flags &&& fl != 0

/-- Feedback loss: FAULT or STALE (R21, R22). -/
def Meas.lost (m : Meas) : Bool := hasFlag m.flags flFault || hasFlag m.flags flStale
/-- A skipped measurement: CLIPPED, and neither FAULT nor STALE (R21, R22). -/
def Meas.skipped (m : Meas) : Bool := !m.lost && hasFlag m.flags flClipped
/-- FAULT, CLIPPED or STALE: no valid value (R150, R193). -/
def Meas.bad (m : Meas) : Bool := m.lost || hasFlag m.flags flClipped

/-- The instant, in elapsed time, from which the age of source `c` counts. -/
def State.ageFrom (s : State) (c : Nat) : Nat := tabGet 0 s.ageBase c

/-- The ages of the sources in a list count from now. -/
def agesFrom (s : State) (l : List Nat) : State := { s with ageBase := l.foldl (fun t c => tabPut t c s.elapsed) s.ageBase }

/-- Source `c` publishes a word: its age counts from now, and consumers see a new word. -/
def published (s : State) (c : Nat) : State :=
  { s with ageBase := tabPut s.ageBase c s.elapsed, pubs := tabPut s.pubs c (tabGet 0 s.pubs c + 1) }

/-- The words of axis `n` carry FAULT: both while it is LOST, the position word also in position mode without its Hall
feedback (R352). -/
def axisFault (s : State) (n : Nat) (pos : Bool) : Bool :=
  s.f F.MTR_STAT_STATE n == 7 || (pos && s.f F.MTR_CTL_MODE n == 2 && s.fb F.MTR_STAT_HALL_LOST n)

/-- The current measurement word of source `c` (R19, R23). With its domain off, a front end's words carry FAULT with
the value zero (R167, R199), a Column's STALE, as a FREE Column's
do, an axis's FAULT. -/
def measOf (s : State) (c : Nat) : Meas :=
  let age := s.msSince (s.ageFrom c)
  let pubs := tabGet 0 s.pubs c
  if c < 0x30 then
    if s.domOn 4 then ⟨(s.rd R.PFE_CH_VAL c).toInt, s.f F.PFE_CH_FLAG_FLAGS c, age, pubs⟩ else ⟨0, 1, age, pubs⟩
  else if c < 0x108 then
    if s.domOn 5 then ⟨(s.rd R.DFE_CH_MOIST (c - 0x100)).toInt, s.f F.DFE_CH_MFLAG_FLAGS (c - 0x100), age, pubs⟩
    else ⟨0, 1, age, pubs⟩
  else if c < 0x118 then
    if s.domOn 5 then ⟨(s.rd R.DFE_CH_DENS (c - 0x110)).toInt, s.f F.DFE_CH_DFLAG_FLAGS (c - 0x110), age, pubs⟩
    else ⟨0, 1, age, pubs⟩
  else if c < 0x800 then
    let n := (c - 0x400) / 4
    let k := (c - 0x400) % 4
    if s.domOn 2 && s.f F.COL_STATE_STATE n != 0 then ⟨(s.rd R.COL_VAL n k).toInt, s.f F.COL_VFLAG_FLAGS n k, age, pubs⟩
    else ⟨0, 16, age, pubs⟩
  else if c < 0x808 then
    if s.domOn 7 then ⟨(s.rd R.MTR_SPEED (c - 0x800)).toInt, bit (axisFault s (c - 0x800) false), age, pubs⟩
    else ⟨0, 1, age, pubs⟩
  else if c < 0x818 then
    if s.domOn 7 then ⟨(s.rd R.MTR_POS (c - 0x810)).toInt, bit (axisFault s (c - 0x810) true), age, pubs⟩
    else ⟨0, 1, age, pubs⟩
  else ⟨(s.rd R.DIO_CNT (c - 0x900)).toInt, 0, age, pubs⟩

/-- An age as a 16-bit register field shows it (R604). -/
def age16 (ms : Nat) : Nat := min ms 65535

/-! ### Curve memory -/

/-- An unsigned whole number as an IEEE 754 binary32 word, for numbers below 2^24. -/
def f32OfNat (n : Nat) : Word :=
  if n = 0 then 0
  else word ((127 + n.log2) * 2 ^ 23 + (n * 2 ^ (23 - n.log2)) % 2 ^ 23)

/-- The value of an IEEE 754 binary32 word; none where it is not finite (R15, R213). -/
def f32 (w : Word) : Option Rat :=
  let e := bits w 30 23
  let m : Rat := (bits w 22 0 : Nat)
  let sg : Rat := if maskBit w 31 then -1 else 1
  if e = 255 then none
  else if e = 0 then some (sg * m / ((2 ^ 149 : Nat) : Rat))
  else if 150 ≤ e then some (sg * (m + ((2 ^ 23 : Nat) : Rat)) * ((2 ^ (e - 150) : Nat) : Rat))
  else some (sg * (m + ((2 ^ 23 : Nat) : Rat)) / ((2 ^ (150 - e) : Nat) : Rat))

/-- Vendor crop curves 64 to 89: the valid range and ρ_ref of R151. -/
def vendorRange : Nat → Option (Nat × Nat × Nat)
  | 64 => some (8, 30, 780) | 65 => some (8, 30, 760) | 66 => some (8, 28, 800) | 67 => some (8, 30, 650)
  | 68 => some (8, 28, 500) | 69 => some (8, 30, 720) | 70 => some (8, 30, 700) | 71 => some (10, 38, 720)
  | 72 => some (10, 35, 750) | 73 => some (9, 30, 730) | 74 => some (8, 25, 680) | 75 => some (10, 32, 580)
  | 76 => some (10, 32, 600) | 77 => some (8, 25, 740) | 78 => some (5, 20, 680) | 79 => some (5, 22, 420)
  | 80 => some (6, 22, 350) | 81 => some (10, 28, 780) | 82 => some (10, 28, 800) | 83 => some (9, 25, 760)
  | 84 => some (9, 22, 820) | 85 => some (9, 22, 780) | 86 => some (6, 18, 680) | 87 => some (10, 25, 620)
  | 88 => some (9, 28, 420) | 89 => some (6, 18, 700)
  | _ => none

/-- A built-in curve number, read only with KIND 3 (R211). -/
def builtinCurve (c : Nat) : Bool :=
  decide (c ≤ 8) || (decide (16 ≤ c) && decide (c ≤ 19)) || (decide (24 ≤ c) && decide (c ≤ 31))

/-- The frequency of node `i` of vendor crop curve `c`: nodes 0 and 7 at 20 kHz and 20 MHz (R151), the others above the node
before them with room for those that follow (R144). -/
def vendorFreq (c : Nat) : Nat → Nat
  | 0 => 20000
  | i + 1 =>
    if i = 6 then 20000000
    else
      let f := vendorFreq c i
      f + 1 + (Config.vendorWord c (24 + 8 * i)).toNat % (20000000 - (6 - i) - f)

/-- A binary32 word made finite by clearing the top bit of an exponent of ones (R144). -/
def finiteWord (w : Word) : Word := if bits w 30 23 = 255 then w &&& 0xBFFFFFFF else w

/-- Word `w` of a vendor crop curve where R151 and R211 do not give it: ascending node frequencies, finite coefficients,
and no weight below zero (R144, R213). -/
def vendorRest (c w : Nat) : Word :=
  if w % 8 = 0 then word (vendorFreq c ((w - 16) / 8))
  else if w % 8 = 4 then finiteWord (Config.vendorWord c w) &&& 0x7FFFFFFF
  else finiteWord (Config.vendorWord c w)

/-- Word `w` of curve slot `c` (R210 to R213): user slots as written, vendor crop curves with their span and ranges. -/
def curveWord (s : State) (c w : Nat) : Word :=
  if 192 ≤ c then tabGet 0 s.curves (c * 256 + w)
  else if builtinCurve c then (if w = 0 then 3 else 0)
  else
    match vendorRange c with
    | none => 0
    | some (lo, hi, rho) =>
      if w = 0 then 0x0802
      else if w = 1 then f32OfNat rho
      else if w = 4 then f32OfNat lo
      else if w = 5 then f32OfNat hi
      else if w = 2 ∨ w = 3 ∨ (16 ≤ w ∧ w < 80 ∧ w % 8 ≠ 7) then vendorRest c w
      else 0

/-- KIND of a curve. -/
def curveKind (s : State) (c : Nat) : Nat := bits (curveWord s c 0) 7 0
/-- QTY of a curve. -/
def curveQty (s : State) (c : Nat) : Nat := bits (curveWord s c 0) 23 16
/-- NPTS of a curve. -/
def curvePts (s : State) (c : Nat) : Nat := bits (curveWord s c 0) 15 8

/-- Point `i` of a KIND 1 curve (R212). -/
def curvePoint (s : State) (c i : Nat) : Int × Int := ((curveWord s c (2 + 2 * i)).toInt, (curveWord s c (3 + 2 * i)).toInt)

/-- A KIND 1 curve is valid (R212). -/
def curve1Ok (s : State) (c : Nat) : Bool :=
  let n := curvePts s c
  curveKind s c == 1 && decide (curveQty s c ≤ 2) && decide (2 ≤ n) && decide (n ≤ 63) &&
    (List.range (n - 1)).all (fun i => decide ((curvePoint s c i).1 < (curvePoint s c (i + 1)).1))

/-- The words of a KIND 2 curve that hold binary32 values. -/
def curve2Floats : List Nat :=
  [1, 2, 3, 4, 5] ++ (List.range 8).flatMap (fun i => (List.range 6).map (fun k => 17 + 8 * i + k))

/-- The binary32 value of a curve word; zero where it is not finite. -/
def curveF (s : State) (c w : Nat) : Rat := (f32 (curveWord s c w)).getD 0

/-- The frequency of node `i` in Hz (R213). -/
def nodeFreq (s : State) (c i : Nat) : Nat := (curveWord s c (16 + 8 * i)).toNat

/-- A KIND 2 curve is valid (R213). -/
def curve2Ok (s : State) (c : Nat) : Bool :=
  curveKind s c == 2 && curvePts s c == 8 &&
    curve2Floats.all (fun w => (f32 (curveWord s c w)).isSome) &&
    decide (10000 ≤ nodeFreq s c 0) && decide (nodeFreq s c 7 ≤ 20000000) &&
    (List.range 7).all (fun i => decide (nodeFreq s c i < nodeFreq s c (i + 1))) &&
    (List.range 8).all (fun i => decide (0 ≤ curveF s c (20 + 8 * i))) &&
    decide (0 < curveF s c 1) && decide (curveF s c 4 < curveF s c 5)

/-- Curve `c` is in use: an enabled PFE or DFE channel names it (R210). -/
def curveInUse (s : State) (c : Nat) : Bool :=
  (s.domOn 4 && (List.range 48).any (fun n => s.fb F.PFE_CH_CTL_EN n && s.f F.PFE_CH_CTL_CURVE n == c)) ||
  (s.domOn 5 && (List.range 8).any (fun n => s.fb F.DFE_CH_CTL_EN n && s.f F.DFE_CH_CTL_CURVE n == c))

/-- A piecewise linear curve at `x`: the value, and whether `x` lay beyond an end point (R190, R194). -/
def curve1Value (s : State) (c : Nat) (x : Int) : Rat × Bool :=
  let n := curvePts s c
  let (x0, y0) := curvePoint s c 0
  let (xl, yl) := curvePoint s c (n - 1)
  if x < x0 then ((y0 : Rat), true)
  else if xl < x then ((yl : Rat), true)
  else
    match (List.range (n - 1)).find? (fun i => decide (x ≤ (curvePoint s c (i + 1)).1)) with
    | none => ((yl : Rat), false)
    | some i =>
      let (xi, yi) := curvePoint s c i
      let (xj, yj) := curvePoint s c (i + 1)
      ((yi : Rat) + ((x - xi : Int) : Rat) * ((yj - yi : Int) : Rat) / ((xj - xi : Int) : Rat), false)

/-! ### Fault kinds of a front-end channel (R153, R197) -/

/-- Fault kinds other than NOSETTLE, which takes no part in the FAULT events (R165, R200). -/
def realFaults (l : List Nat) : List Nat := l.filter (fun k => k != 6)

/-- Add a fault kind, last to arise. -/
def addFault (l : List Nat) (k : Nat) : List Nat := if l.contains k then l else l ++ [k]
/-- End a fault kind. -/
def dropFault (l : List Nat) (k : Nat) : List Nat := l.filter (fun x => x != k)

/-- Event code and detail of a change of fault kinds from `old` to `new`, `ep` the kind that arose first (R165, R200). -/
def faultEvents (base : Nat) (old new : List Nat) (ep : Nat) : List (Nat × Nat) :=
  if old.isEmpty && !new.isEmpty then [(base, new.headD 0)]
  else if !old.isEmpty && new.isEmpty then [(base + 1, ep)]
  else []

end Sys2Proof.Machine
end

