-- ==== Sys2Proof/Machine/Hash.lean ====
section
/-! DEFINITION. Sys2Proof/Machine/Hash.lean: SHA-256 of FIPS 180-4 and HMAC of RFC 2104, the tag of a Tarbylink frame
(spec/13_columns_and_links.md R472; spec/00_scope.md R15; log entry 22). -/

namespace Sys2Proof.Machine

/-- The greatest `r` below 2^n, on top of `acc`, whose `k`th power does not pass `t`: one bit after the other. -/
def rootBelow (k t : Nat) : Nat → Nat → Nat
  | 0, acc => acc
  | n + 1, acc => rootBelow k t n (if (acc + 2 ^ n) ^ k ≤ t then acc + 2 ^ n else acc)

/-- The first 32 bits of the fraction of the `k`th root of `p`. -/
def rootFraction (k p : Nat) : Nat := rootBelow k (p * 2 ^ (32 * k)) 37 0 % 2 ^ 32

/-- The primes below 312: the first 64. -/
def shaPrimes : List Nat := (List.range 312).filter (fun p => decide (2 ≤ p) && (List.range p).all (fun d => d < 2 || p % d != 0))

/-- The constant of each round: from the cube roots of the first 64 primes. -/
def shaKeys : List Nat := shaPrimes.map (rootFraction 3)

/-- Right rotation of a 32-bit word. -/
def rotr (x n : Nat) : Nat := (x * 2 ^ (32 - n) + x / 2 ^ n) % 2 ^ 32

/-- Exclusive or of a word's rotations. -/
def turns (x : Nat) (l : List Nat) : Nat := l.foldl (fun v n => v ^^^ rotr x n) 0

/-- The next word of the message schedule, from the words before it, the latest first. -/
def shaNext (w : List Nat) : Nat :=
  let mix := fun k a b c => turns (w.getD k 0) [a, b] ^^^ (w.getD k 0 / 2 ^ c)
  (mix 1 17 19 10 + mix 14 7 18 3 + w.getD 6 0 + w.getD 15 0) % 2 ^ 32

/-- The message schedule of a block of 16 words. -/
def shaSchedule (block : List Nat) : List Nat :=
  (foldN 48 (fun w _ => shaNext w :: w) block.reverse).reverse

/-- The working variables as two histories, the latest first: a to d are the last four of one, e to h of the other. -/
structure ShaVars where
  as : List Nat
  es : List Nat

/-- One round: a new a and a new e, from a word that the round's constant has been added to. -/
def shaRound (v : ShaVars) (w : Nat) : ShaVars :=
  let a := fun k => v.as.getD k 0
  let e := fun k => v.es.getD k 0
  let chosen := e 2 ^^^ (e 0 &&& (e 1 ^^^ e 2))
  let most := (a 0 &&& a 1) ||| (a 2 &&& (a 0 ||| a 1))
  let t := e 3 + turns (e 0) [6, 11, 25] + chosen + w
  ⟨(t + turns (a 0) [2, 13, 22] + most) % 2 ^ 32 :: v.as, (a 3 + t) % 2 ^ 32 :: v.es⟩

/-- The hash value before the first block: from the square roots of the first eight primes. -/
def shaInit : List Nat := (shaPrimes.take 8).map (rootFraction 2)

/-- A block's effect on the hash value. -/
def shaBlock (h block : List Nat) : List Nat :=
  let ws := List.zipWith (· + ·) shaKeys (shaSchedule block)
  let v := ws.foldl shaRound ⟨h.take 4, h.drop 4⟩
  List.zipWith (fun x y => (x + y) % 2 ^ 32) h (v.as.take 4 ++ v.es.take 4)

/-- Bytes as 32-bit words, the first byte most significant. -/
def beWords : List Nat → List Nat
  | a :: b :: c :: d :: t => (a * 2 ^ 24 + b * 2 ^ 16 + c * 2 ^ 8 + d) :: beWords t
  | _ => []

/-- The bytes of a number of `n` bytes, the first most significant. -/
def beBytes (v : Nat) : Nat → List Nat
  | 0 => []
  | n + 1 => v / 256 ^ n % 256 :: beBytes v n

/-- The bytes of a number of `n` bytes, the first least significant. -/
def leBytes (v : Nat) : Nat → List Nat
  | 0 => []
  | n + 1 => v % 256 :: leBytes (v / 256) n

/-- Hash the first `n` blocks of a list of words. -/
def shaBlocks : Nat → List Nat → List Nat → List Nat
  | 0, h, _ => h
  | n + 1, h, ws => shaBlocks n (shaBlock h (ws.take 16)) (ws.drop 16)

/-- SHA-256 of a list of bytes. -/
def sha256 (m : List Nat) : List Nat :=
  let zeros := (119 - m.length % 64) % 64
  let ws := beWords (m ++ [0x80] ++ List.replicate zeros 0 ++ beBytes (8 * m.length) 8)
  (shaBlocks (ws.length / 16) shaInit ws).flatMap (fun w => beBytes w 4)

/-- HMAC-SHA-256 under a key of 32 bytes. -/
def hmac (key m : List Nat) : List Nat :=
  let pad := fun x => (key ++ List.replicate 32 0).map (fun b => b ^^^ x)
  sha256 (pad 0x5C ++ sha256 (pad 0x36 ++ m))

end Sys2Proof.Machine
end

