-- ==== Sys2Proof/Machine/RegOps.lean ====
section
/-! DEFINITION. Sys2Proof/Machine/RegOps.lean: how a register write lays its fields down, each under its own access code
(spec/00_scope.md R9, R10; spec/17_register_map.md R572), and quantities that only the outside gives. -/

namespace Sys2Proof.Machine

/-- One field of a write: RW, RWL and RWC fields take the written bits, a 1 clears a W1C bit unless `keep` says that
hardware set it in this step (R11), and nothing else of the register changes (R572). -/
def layField (keep old v : Word) (fd : FieldDesc) : Word :=
  match fd.acc with
  | .rw | .rwl | .rwc => putBits old fd.hi fd.lo (bits v fd.hi fd.lo)
  | .w1c => putBits old fd.hi fd.lo (bits (old &&& (~~~v ||| keep)) fd.hi fd.lo)
  | .ro | .wo | .w1s => old

/-- The register's contents after a write of `v` that is not refused. -/
def layFields (d : RegDesc) (keep old v : Word) : Word := d.fields.foldl (fun w fd => layField keep w v fd) old

/-- Lay a write down. -/
def putReg (s : State) (d : RegDesc) (v : Word) (i : Nat := 0) (j : Nat := 0) : State :=
  s.wr d (layFields d (tabGet 0 s.w1cSet (d.addr i j)) (s.rd d i j) v) i j

/-- A measured quantity that no command of the block carries: a free value at each read (log entry 5). -/
def freeReading (s : State) : Word × State :=
  let (k, s) := s.takeFresh
  (Config.freeWord k, s)

/-- A field is being changed by a write of `v`. -/
def State.changes (s : State) (fl : Fld) (v : Word) (i : Nat := 0) (j : Nat := 0) : Bool :=
  bits v fl.hi fl.lo != s.f fl i j

end Sys2Proof.Machine
end

