-- ==== Sys2Proof/Machine/StoreOps.lean ====
section
/-! DEFINITION. Sys2Proof/Machine/StoreOps.lean: the store's working copy, its dirty pages, where stored fields lie in
it, and learned-table records (spec/14_store_and_spares.md R496 to R500, R605). -/

namespace Sys2Proof.Machine

/-! ### CRC-32C -/

/-- One bit of CRC-32C, reflected form (polynomial 0x1EDC6F41; log entry 21). -/
def crcBit (c : Nat) : Nat := if c % 2 = 1 then (c / 2) ^^^ 0x82F63B78 else c / 2

/-- One byte of CRC-32C. -/
def crcByte (c b : Nat) : Nat := (List.range 8).foldl (fun c _ => crcBit c) (c ^^^ b)

/-- CRC-32C of a list of bytes: initial value and final inversion all ones. -/
def crc32c (l : List Nat) : Nat := (l.foldl crcByte 0xFFFFFFFF) ^^^ 0xFFFFFFFF

/-- The bytes of a word, least significant first. -/
def wordBytes (v : Nat) : List Nat := [v % 256, v / 256 % 256, v / 65536 % 256, v / 16777216 % 256]

/-- The product of two polynomials modulo that of CRC-32C, both reflected: bit 31 is the power zero of x. -/
def crcMul (a b : Nat) : Nat :=
  ((List.range 32).foldl (fun (p : Nat × Nat) i => (if a / 2 ^ (31 - i) % 2 = 1 then p.1 ^^^ p.2 else p.1, crcBit p.2)) (0, b)).1

/-- The `n`th power of `b`, for `n` below 2 to the power of the fuel. -/
def crcPow : Nat → Nat → Nat → Nat
  | 0, _, _ => 0x80000000
  | fuel + 1, n, b =>
    let r := crcPow fuel (n / 2) (crcMul b b)
    if n % 2 = 1 then crcMul r b else r

/-- The CRC register after `n` zero bytes, `n` below 2^23. -/
def crcSkip (c n : Nat) : Nat := if n = 0 then c else crcMul (crcPow 23 n 0x00800000) c

/-- CRC-32C of the first `n` bytes of sparse memory, whose unlisted bytes are zero. -/
def crcCells (m : List Host.Cell) (n : Nat) : Nat :=
  let (c, a) := (m.filter (fun q => decide (q.1 < n))).foldl
    (fun (p : Nat × Nat) q => (crcByte (crcSkip p.1 (q.1 - p.2)) q.2.toNat, q.1 + 1)) (0xFFFFFFFF, 0)
  crcSkip c (n - a) ^^^ 0xFFFFFFFF

/-! ### Trailers (R503, R512) -/

/-- MAGIC. -/
def trailerMagic : Nat := 0x53544F52

/-- Trailer bytes 0x00 to 0x13, with MAGIC in place. -/
def Trailer.bytes (t : Trailer) : List Nat :=
  wordBytes trailerMagic ++ [t.format % 256, t.format / 256 % 256, 0, 0] ++ leBytes t.seq 8 ++ wordBytes t.crc

/-- MAGIC, FORMAT, CRCT and CRC check, over a bank whose bytes have the CRC-32C `crc` (R503). -/
def Trailer.checks (t : Trailer) (crc : Nat) : Bool :=
  t.magic == trailerMagic && t.format == 1 && t.crct == crc32c t.bytes && t.crc == crc

/-- The trailer a commit writes (R504). -/
def Trailer.of (seq crc : Nat) : Trailer :=
  { magic := trailerMagic, format := 1, seq := seq, crc := crc, crct := crc32c ({ format := 1, seq := seq, crc := crc } : Trailer).bytes }

/-- The trailer with its MAGIC word zero (R502). -/
def Trailer.opened (t : Trailer) : Trailer := { t with magic := 0 }

/-- CRC-32C over bank bytes 0x00_0000 to 0x5F_EFFF. -/
def Bank.crcNow (b : Bank) : Nat := crcCells b.cells 0x5FF000
/-- The main bank is valid (R503). -/
def Bank.valid (b : Bank) : Bool := b.trailer.checks b.crcNow
/-- SEQ. -/
def Bank.seq (b : Bank) : Nat := b.trailer.seq

/-- CRC-32C of key-bank contents. DESIGN CHOICE: log entry 180. -/
def keyCrc (vals : Tab Word) : Nat := crc32c (vals.flatMap (fun p => wordBytes p.1 ++ wordBytes p.2.toNat))
/-- The key bank is valid (R512). -/
def KeyBank.valid (b : KeyBank) : Bool := b.trailer.checks (keyCrc b.vals)
/-- SEQ. -/
def KeyBank.seq (b : KeyBank) : Nat := b.trailer.seq

/-! ### The mark area (R513) -/

/-- The record's CRC-32C checks; `bytes` gives those of what it holds. DESIGN CHOICE: log entry 180. -/
def MarkRec.ok {α : Type} (bytes : α → List Nat) (r : MarkRec α) : Bool := r.crc == crc32c (bytes r.val ++ wordBytes r.count)

/-- The valid record with the higher count, if one is valid. -/
def Twin.best {α : Type} (bytes : α → List Nat) (t : Twin α) : Option (MarkRec α) :=
  if t.b.ok bytes && (!t.a.ok bytes || decide (t.a.count < t.b.count)) then some t.b
  else if t.a.ok bytes then some t.a else none

/-- What is in force: of the valid record with the higher count. -/
def Twin.now {α : Type} (bytes : α → List Nat) (t : Twin α) (d : α) : α := ((t.best bytes).map MarkRec.val).getD d

/-- `v` goes to the record that is not in force, with the higher count plus 1. DEDUCED: log entry 183. -/
def Twin.put {α : Type} (bytes : α → List Nat) (t : Twin α) (v : α) : Twin α :=
  let n := ((t.best bytes).map MarkRec.count).getD 0 + 1
  let r : MarkRec α := ⟨v, n, crc32c (bytes v ++ wordBytes n)⟩
  if t.a.ok bytes && !(t.b.ok bytes && decide (t.a.count < t.b.count)) then { t with b := r } else { t with a := r }

/-- The bytes of a mark record. -/
def Marks.bytes (m : Marks) : List Nat := leBytes m.krxhw 8 ++ leBytes m.ktx 8

/-- The bytes of a record of the unit map. -/
def UnitMap.bytes (u : UnitMap) : List Nat :=
  [u.rods, u.matrix, u.ppaths, u.dpaths].flatMap (fun l => l.length :: l) ++ u.sections.flatMap (fun p => [p.1, p.2])

/-- The marks in force of key slot `k`. -/
def StoX.mark (x : StoX) (k : Nat) : Marks := (tabGet ⟨⟨{}, 0, 0⟩, ⟨{}, 0, 0⟩⟩ x.marks k).now Marks.bytes {}

/-- New marks of key slot `k` are stored. -/
def StoX.putMark (x : StoX) (k : Nat) (m : Marks) : StoX :=
  { x with marks := tabPut x.marks k ((tabGet ⟨⟨{}, 0, 0⟩, ⟨{}, 0, 0⟩⟩ x.marks k).put Marks.bytes m) }

/-! ### Dirty pages and the working copy (R500) -/

/-- The dirty bit of page `p`. -/
def Dirty.has (d : Dirty) (p : Nat) : Bool := d.all || (d.image && decide (p < 1024)) || d.pages.contains p

/-- Set the dirty bit of page `p`. -/
def Dirty.add (d : Dirty) (p : Nat) : Dirty := if d.has p then d else { d with pages := p :: d.pages }

/-- Pages 0 to 1,534 with their dirty bit set. -/
def Dirty.list (d : Dirty) : List Nat := (List.range 1535).filter (fun p => d.has p)

/-- Change the store. -/
def State.setSto (s : State) (x : StoX) : State := { s with sto := x }

/-- The unit map becomes `u`, and goes to the mark area (R513, R520). -/
def State.setMap (s : State) (u : UnitMap) : State :=
  s.setSto { s.sto with umap := u, mapRecs := s.sto.mapRecs.put UnitMap.bytes u }

/-- A 32-bit word of the working copy, by its offset in the bank. -/
def State.workWord (s : State) (off : Nat) : Word := word (cellsRead s.sto.work off 4)

/-- Write a word of the working copy; a page that changes becomes dirty for both banks. -/
def workWrite (s : State) (off : Nat) (v : Word) : State :=
  if s.workWord off = v then s
  else
    let x := s.sto
    s.setSto { x with
      work := cellsWrite x.work off 4 v.toNat, dirtyA := x.dirtyA.add (off / 4096), dirtyB := x.dirtyB.add (off / 4096),
      commit := x.commit.map (fun c => { c with late := off / 4096 :: c.late }) }

/-! ### Where stored fields lie (R498, R605) -/

/-- The register `d` holds the address `a`. -/
def RegDesc.holds (d : RegDesc) (a : Nat) : Bool :=
  (List.range d.n1).any (fun i => decide (d.base + d.s1 * i ≤ a) &&
    (a - (d.base + d.s1 * i)) % (max 1 d.s2) == 0 && decide ((a - (d.base + d.s1 * i)) / (max 1 d.s2) < d.n2))

/-- The offset in the bank of the stored field at register address `a`; none where `a` holds none. -/
def storedOffset (a : Nat) : Option Nat :=
  if 0x32040000 ≤ a ∧ a < 0x32050000 then
    some (0x400000 + (a - 0x32040000) / 0x400 * 0x1000 + (a - 0x32040000) % 0x400)
  else if R.DFE_CH_CELL.holds a then some (0x440000 + 0x10 * ((a - R.DFE_CH_CELL.base) / 0x100))
  else if R.DFE_CH_CAL0.holds a then some (0x440004 + 0x10 * ((a - R.DFE_CH_CAL0.base) / 0x100))
  else if R.DFE_CH_CAL1.holds a then some (0x440008 + 0x10 * ((a - R.DFE_CH_CAL1.base) / 0x100))
  else if a = R.FAN_AF.base then some 0x441000
  else if R.FANA_AXCFG.holds a then some (0x441100 + (a - R.FANA_AXCFG.base))
  else if R.FANA_AXSMAX.holds a then some (0x441100 + (a - R.FANA_AXCFG.base))
  else if R.FANA_ZCTL.holds a || R.FANA_ZX.holds a || R.FANA_ZY.holds a then some (0x442000 + (a - R.FANA_ZCTL.base))
  else if a = R.SYS_SAFECFG.base ∨ a = R.SYS_FIREMASK_LO.base ∨ a = R.SYS_FIREMASK_HI.base then
    some (0x443000 + (a - R.SYS_SAFECFG.base))
  else none

/-- The registers that hold stored fields, user curve slots apart (R498). -/
def storedRegs : List RegDesc :=
  [R.DFE_CH_CELL, R.DFE_CH_CAL0, R.DFE_CH_CAL1, R.FAN_AF, R.FANA_AXCFG, R.FANA_AXSMAX, R.FANA_ZCTL, R.FANA_ZX,
   R.FANA_ZY, R.SYS_SAFECFG, R.SYS_FIREMASK_LO, R.SYS_FIREMASK_HI]

/-- The addresses of the instances of a register. -/
def RegDesc.addrs (d : RegDesc) : List Nat := (List.range d.n1).flatMap (fun i => (List.range d.n2).map (fun j => d.addr i j))

/-- The register addresses `lo` to `hi` that hold stored fields, user curve slots apart. -/
def storedAddrs (lo hi : Nat) : List Nat :=
  (storedRegs.flatMap RegDesc.addrs).filter (fun a => decide (lo ≤ a) && decide (a ≤ hi))

/-- The stored fields of a block take the working copy's values, as when its domain is switched on (R18, R570). -/
def storedLoad (s : State) (lo hi : Nat) : State :=
  (storedAddrs lo hi).foldl (fun s a =>
    match storedOffset a with
    | some off => { s with regs := tabPut s.regs a (s.workWord off) }
    | none => s) s

/-- The user curve slots take the working copy's values. -/
def curvesLoad (s : State) : State :=
  let cells := s.sto.work.filter (fun c => decide (0x400000 ≤ c.1) && decide (c.1 < 0x440000) && c.1 % 4096 < 1024)
  let offs := (cells.map (fun c => c.1 / 4 * 4)).eraseDups
  { s with curves := offs.foldl (fun t off =>
      tabPut t ((192 + (off - 0x400000) / 4096) * 256 + off % 4096 / 4) (s.workWord off)) [] }

/-- The register address `a` belongs to the key bank (R498). -/
def keyField (a : Nat) : Bool :=
  a == R.SOL_CLASS_S.base || a == R.TIM_PTPLAT.base || a == R.SYS_RHT_LSW.base || a == R.SYS_RHT_MTR.base
    || a == R.SYS_RHT_TIME.base || R.KEY.holds a || R.KPERM.holds a
    || [R.NETH_MAC_LO, R.NETH_MAC_HI, R.NETH_IP4, R.NETH_IP4PFX, R.NETH_IP6, R.NETH_UDP, R.NETL_MAC_LO, R.NETL_MAC_HI,
        R.NETL_IP4, R.NETL_IP4PFX, R.NETL_IP6, R.NETL_UDP].any (fun d => d.holds a)

/-- A write to a stored field or key-bank field reaches the store in the same access (R500, R512). That a stored field
was written counts for the exit from Commission (R547). -/
def storeField (s : State) (a : Nat) (v : Word) : State :=
  match storedOffset a with
  | some off => { workWrite s off v with sys := { s.sys with written := true } }
  | none =>
    if keyField a then
      let x := s.sto
      let slots := if R.KEY.holds a || R.KPERM.holds a then ((a - R.KEY.base) / 0x40) :: x.keySlots else x.keySlots
      s.setSto { x with keyWork := tabPut x.keyWork a v, keyDirty := true, keySlots := slots.eraseDups }
    else s

/-! ### Learned-table records (R499) -/

/-- The offset of the record of loop `n`. -/
def recordOff (n : Nat) : Nat := 0x480000 + n * 0x5000

/-- The record of loop `n` in `m`: its entries, or none where R499 calls it absent. DEDUCED: log entry 78. -/
def recordRead (m : List Host.Cell) (n : Nat) : Option (List Word) :=
  let off := recordOff n
  let w0 := cellsRead m off 4
  let len := w0 / 65536 % 8192
  if w0 % 64 ≠ n ∨ len = 0 ∨ 4096 < len then none
  else
    let bytes := (List.range (4 * len)).map (fun k => (cellsGet m (off + 16 + k)).toNat)
    if crc32c bytes = cellsRead m (off + 4) 4 then
      some ((List.range len).map (fun k => word (cellsRead m (off + 16 + 4 * k) 4)))
    else none

/-- A snapshot enters the working copy as the record of loop `n` (R271, R500). -/
def recordWrite (s : State) (n : Nat) (t : List Word) : State :=
  let off := recordOff n
  let bytes := t.flatMap (fun w => wordBytes w.toNat)
  let s := workWrite s off (word (n + t.length * 65536))
  let s := workWrite s (off + 4) (word (crc32c bytes))
  let s := workWrite (workWrite s (off + 8) 0) (off + 12) 0
  (t.zipIdx).foldl (fun s p => workWrite s (off + 16 + 4 * p.2) p.1) s

/-- The newest valid main bank (R506, R510): B only where it alone is valid or has the higher SEQ. -/
def newestB (x : StoX) : Bool :=
  let va := x.bankA.valid
  let vb := x.bankB.valid
  vb && (!va || decide (x.bankA.seq < x.bankB.seq))

/-- Main bank A is valid (R503). -/
def StoX.validA (x : StoX) : Bool := x.bankA.valid
/-- Main bank B is valid. -/
def StoX.validB (x : StoX) : Bool := x.bankB.valid

/-- The target bank is B: the main bank that is not the newest valid one, or A when neither is valid (R501). -/
def StoX.targetB (x : StoX) : Bool := x.validA && !newestB x

/-- The dirty bits for the target bank. -/
def StoX.dirtyT (x : StoX) : Dirty := if x.targetB then x.dirtyB else x.dirtyA
/-- Set the dirty bits for bank B or A. -/
def StoX.setDirty (x : StoX) (b : Bool) (d : Dirty) : StoX := if b then { x with dirtyB := d } else { x with dirtyA := d }

/-- An open load ends without a commit (R501): the target's image pages are all dirty. -/
def loadAbort (s : State) : State :=
  match s.sto.load with
  | none => s
  | some _ =>
    let x := s.sto
    (s.setSto { x.setDirty x.targetB { x.dirtyT with image := true } with load := none }).setF F.STO_STAT_LOADOPEN 0

/-- The newest valid main bank, if any. -/
def newestBank (x : StoX) : Option Bank :=
  if newestB x then some x.bankB else if x.validA then some x.bankA else none

end Sys2Proof.Machine
end

