-- ==== Sys2Proof/Machine/Col.lean ====
section
/-! DEFINITION. Sys2Proof/Machine/Col.lean: Columns: identity, admission, liveness, sequence, extraction and credit books
(spec/13_columns_and_links.md R453 to R468, R486 to R492). -/

namespace Sys2Proof.Machine

/-- Column `n` behind its registers. -/
def State.colX (s : State) (n : Nat) : ColX := tabGet {} s.col n
/-- Change Column `n`. -/
def State.setCol (s : State) (n : Nat) (x : ColX) : State := { s with col := tabPut s.col n x }

/-- FREE. -/
def coFree : Nat := 0
/-- PROBATION. -/
def coProbation : Nat := 1
/-- ADMITTED. -/
def coAdmitted : Nat := 2
/-- SILENT. -/
def coSilent : Nat := 3
/-- RETIRED. -/
def coRetired : Nat := 4

/-- The state of Column `n` (R453). -/
def State.colSt (s : State) (n : Nat) : Nat := s.f F.COL_STATE_STATE n

/-- An event bead of Column `n` (R486). -/
def colEvent (s : State) (n code detail : Nat) (value : Word) : State :=
  event s 15 (n + 256 * s.f F.COL_STATE_FILTER n) code detail value

/-- Add to a health count of Column `n`, held at 255 (R487). -/
def colBump (s : State) (fl : Fld) (n k : Nat) : State := s.setF fl (min 255 (s.f fl n + k)) n

/-- STALE on the four value slots (R30). -/
def colStale (s : State) (n : Nat) : State :=
  foldN 4 (fun s k => s.setF F.COL_VFLAG_FLAGS (s.f F.COL_VFLAG_FLAGS n k ||| flStale) n k) s

/-- Column `n` leaves ADMITTED: its values are STALE, and a load it has open is aborted (R30, R478). -/
def colLeave (s : State) (n : Nat) : State :=
  let s := colStale s n
  match s.sto.load with
  | some l => if l.col = n then loadAbort s else s
  | none => s

/-- Column `n` is RETIRED with a cause (R456). -/
def colRetire (s : State) (n cause : Nat) : State :=
  let st := s.colSt n
  if st = coProbation ∨ st = coAdmitted ∨ st = coSilent then
    let s := (colLeave s n).setF F.COL_STATE_STATE coRetired n
    let s := (s.setF F.COL_STATE_RCAUSE cause n).setCol n { s.colX n with retiredAt := s.elapsed }
    colEvent s n 0xE3 cause (word st)
  else s

/-- Column `n` becomes FREE: its registers read zero. -/
def colClear (s : State) (n : Nat) : State :=
  let a := R.COL_STATE.addr n
  let b := R.COL_VAL.addr n
  { s with regs := tabDropRange (tabDropRange s.regs a (a + 0x3F)) b (b + 0x1F), col := tabDrop s.col n }

/-! ### Credit books (R464 to R468) -/

/-- HELD of the receive book (R465). -/
def colHeld (s : State) (n : Nat) : Nat := ((s.colX n).rcvd + 65536 - s.f F.COL_RXBK_FREED n) % 65536

/-- TALLY of the transmit book (R464). -/
def colTally (s : State) (n : Nat) : Int :=
  (s.f F.COL_TX_TX_LIMIT n : Int) - ((s.f F.COL_TXBK_SENT n + 65536 - s.f F.COL_TXBK_CRED n) % 65536 : Nat)

/-- FREED ahead of RETURNED. -/
def colOwed (s : State) (n : Nat) : Nat := (s.f F.COL_RXBK_FREED n + 65536 - s.f F.COL_RXBK_RETURNED n) % 65536

/-- A record of `k` beads stays within the receive credit (R466). -/
def colCredits (s : State) (n k : Nat) : Bool :=
  decide (k + ((s.colX n).rcvd + 65536 - s.f F.COL_RXBK_RETURNED n) % 65536 ≤ s.f F.COL_RX_RX_LIMIT n)

/-- A credit violation (R466, R468), with event 0xE7 for the first. -/
def colCredViol (s : State) (n : Nat) : State :=
  let first := s.f F.COL_HLTH_CREDVIOL n = 0
  let s := colBump s F.COL_HLTH_CREDVIOL n 1
  if first then colEvent s n 0xE7 0 (word (s.f F.COL_HLTH_CREDVIOL n)) else s

/-- `k` beads enter a receive ring for Column `n` (R465). -/
def colReceived (s : State) (n k : Nat) : State := s.setCol n { s.colX n with rcvd := ((s.colX n).rcvd + k) % 65536 }

/-- A tagged bead of Column `n` is removed from its receive ring (R465). -/
def colFreed (s : State) (n : Nat) : State :=
  if s.colSt n = coFree then s
  else
    let x := s.colX n
    let s := s.setF F.COL_RXBK_FREED (s.f F.COL_RXBK_FREED n + 1) n
    s.setCol n { x with freedAt := match x.freedAt with
      | some t => some t
      | none => some s.elapsed }

/-- RETURNED := FREED: the credit has gone to the partner (R467). -/
def colReturned (s : State) (n : Nat) : State :=
  (s.setF F.COL_RXBK_RETURNED (s.f F.COL_RXBK_FREED n) n).setCol n { s.colX n with freedAt := none }

/-- An incoming CREDIT field (R468). -/
def colCredit (s : State) (n c : Nat) : State :=
  let cred := s.f F.COL_TXBK_CRED n
  if (c + 65536 - cred) % 65536 ≤ (s.f F.COL_TXBK_SENT n + 65536 - cred) % 65536 then s.setF F.COL_TXBK_CRED c n
  else colCredViol s n

/-! ### Timers (R456, R458) -/

/-- The timer of Column `n`'s state has run out: liveness, probation or drain (R456, R458). -/
def colDue (s : State) (n : Nat) : Bool :=
  let x := s.colX n
  let st := s.colSt n
  if st = coAdmitted then decide (x.lastAt + x.liveMs * 1000000 ≤ s.elapsed)
  else if st = coProbation then decide (x.firstAt + s.f F.COL_PROB_V * 1000000 ≤ s.elapsed)
  else if st = coRetired then decide (x.retiredAt + s.f F.COL_RECL_DRAIN_MS * 1000000 ≤ s.elapsed)
    && (!x.book || colHeld s n == 0)
  else false

/-- What an expiry does to Column `n`, its event apart: SILENT with its values STALE and its load aborted, or FREE. -/
def colExpire (s : State) (n : Nat) : State :=
  let st := s.colSt n
  if st = coAdmitted then
    let s := (colLeave s n).setF F.COL_STATE_STATE coSilent n
    s.setCol n { s.colX n with silentAt := s.elapsed }
  else if st = coProbation then (colClear s n).addR R.COL_NPROBFAIL 1
  else if st = coRetired then colClear s n
  else s

/-! ### Sequence, liveness and admission (R456, R461, R462) -/

/-- The sequence check of a frame with number `seq` of `w` bits (R461): whether the frame is valid. -/
def colSeqStep (s : State) (n seq w : Nat) : Bool × State :=
  let x := s.colX n
  let m := 2 ^ w
  let d := (seq + m - s.f F.COL_SEQ_RXSEQ n % m) % m
  if !x.seqKnown then (true, (s.setF F.COL_SEQ_RXSEQ seq n).setCol n { x with seqKnown := true })
  else if d = 0 ∨ 2 ^ (w - 1) ≤ d then (false, (colBump s F.COL_HLTH_DUP n 1).setCol n { x with lastAt := s.elapsed })
  else (true, (colBump s F.COL_HLTH_SEQGAP n (d - 1)).setF F.COL_SEQ_RXSEQ seq n)

/-- A valid frame restarts Column `n`'s liveness with the limit COL_LIVE then holds (R462, R487). -/
def colAlive (s : State) (n : Nat) : State :=
  s.setCol n { s.colX n with
    lastAt := s.elapsed, validAt := s.elapsed, liveMs := s.f F.COL_LIVE_PERIOD_MS n * s.f F.COL_LIVE_LIVE_K n }

/-- Column `n` becomes ADMITTED from PROBATION. -/
def colAdmit (s : State) (n : Nat) : State :=
  let s := s.setF F.COL_STATE_STATE coAdmitted n
  colEvent s n 0xE0 (s.f F.COL_STATE_MEDIUM n) (s.rd R.COL_ADDR n 0)

/-- What a valid frame on `medium` does to Column `n`'s state (R456). -/
def colValid (s : State) (n medium : Nat) : State :=
  let s := (colAlive s n).setF F.COL_STATE_MEDIUM medium n
  let st := s.colSt n
  if st = coProbation then
    let p := s.f F.COL_STATE_PCOUNT n + 1
    let s := s.setF F.COL_STATE_PCOUNT (min 255 p) n
    if (s.colX n).admitN ≤ p then colAdmit s n else s
  else if st = coSilent then
    let s := s.setF F.COL_STATE_STATE coAdmitted n
    colEvent s n 0xE2 medium (word (min (2 ^ 32 - 1) (s.msSince (s.colX n).silentAt)))
  else s

/-- The lowest-numbered FREE Column (R456). -/
def colFreeOne (s : State) : Option Nat := (List.range 256).find? (fun n => s.colSt n == coFree)

/-- No Column is FREE for a newcomer of filter `f` (R457): the Column silent longest is reclaimed, or the newcomer is
refused. -/
def colNoRoom (s : State) (f : Nat) : State :=
  let limit := s.f F.COL_RECL_COL_RECLAIM * 1000000000
  let old := (List.range 256).filter (fun n => s.colSt n == coSilent && decide ((s.colX n).silentAt + limit < s.elapsed))
  match old.foldl (fun (best : Option Nat) n => match best with
      | some b => if (s.colX n).silentAt < (s.colX b).silentAt then some n else best
      | none => some n) none with
  | some n => colRetire (s.addR R.COL_NWAITED 1) n 2
  | none =>
    let first := !s.fb F.COL_GSTAT_FULL_SEEN
    let s := (s.addR R.COL_NREFUSED 1).setF F.COL_GSTAT_FULL_SEEN 1
    if first then event s 15 (0xFF + 256 * f) 0xE5 0 (s.rd R.COL_NREFUSED) else s

/-- Column `n` is taken for a newcomer of filter `f` (R456): identity, filter and limits are loaded, PCOUNT is 1. -/
def colTake (s : State) (n f medium : Nat) (x : ColX) : State :=
  let s := colClear s n
  let s := (((s.setF F.COL_STATE_STATE coProbation n).setF F.COL_STATE_FILTER f n).setF F.COL_STATE_MEDIUM medium n).setF
    F.COL_STATE_PCOUNT 1 n
  let s := (s.setF F.COL_LIVE_PERIOD_MS (s.f F.AF_LIVE_PERIOD_MS f) n).setF F.COL_LIVE_LIVE_K (s.f F.AF_LIVE_LIVE_K f) n
  let s := (s.setF F.COL_TX_TX_LIMIT (s.f F.AF_LIM_TX_LIMIT f) n).setF F.COL_RX_RX_LIMIT (s.f F.AF_LIM_RX_LIMIT f) n
  let s := s.setCol n { x with admitN := s.f F.AF_LIVE_ADMIT_N f, firstAt := s.elapsed }
  colAlive (colStale s n) n

/-! ### CAN partners (R454, R459, R462, R463) -/

/-- The Column whose identity a CAN frame has (R454); of several, the lowest. -/
def colOfCan (s : State) (ch hdr : Nat) : Option Nat :=
  (List.range 256).find? (fun n =>
    let x := s.colX n
    s.colSt n != coFree && decide (s.f F.COL_STATE_MEDIUM n < 6) && x.chmask.testBit ch
      && hdr / 2 ^ x.ash % 2 ^ x.aw == s.nat R.COL_ADDR n 0)

/-- The first enabled CAN filter that accepts a frame (R459). -/
def afOfCan (s : State) (ch hdr : Nat) : Option Nat :=
  (List.range 16).find? (fun f =>
    s.fb F.AF_CTL_EN f && s.f F.AF_CTL_MEDIUM f == 0 && (s.f F.AF_CTL_CHMASK f).testBit ch
      && ((hdr ^^^ s.nat R.AF_MATCH f) &&& s.nat R.AF_MASK f) % 2 ^ 31 == 0)

/-- Bytes `a` to `a + k - 1` of a payload as a number, the first least significant. -/
def leAt (d : List Nat) (a k : Nat) : Nat := (List.range k).foldr (fun i v => d.getD (a + i) 0 + 256 * v) 0
/-- The same, the first most significant. -/
def beAt (d : List Nat) (a k : Nat) : Nat := (List.range k).foldl (fun v i => 256 * v + d.getD (a + i) 0) 0

/-- Publish a value in slot `k` of Column `n` (R462). -/
def colPublish (s : State) (n k flags : Nat) (v : Int) : State :=
  published ((s.wr R.COL_VAL (wordI v) n k).setF F.COL_VFLAG_FLAGS flags n k) (0x400 + 4 * n + k)

/-- Slot `k` of a CAN frame of Column `n`, through its filter's descriptor (R462). -/
def colExtract (s : State) (n k : Nat) (d : List Nat) : State :=
  let f := s.f F.COL_STATE_FILTER n
  let w := s.f F.AF_SLOT_W f k
  let size := if w = 3 then 4 else w
  let off := s.f F.AF_SLOT_OFF f k
  let ko := s.f F.AF_SLOT_KEYOFF f k
  if w = 0 then s
  else if s.fb F.AF_SLOT_KEYEN f k && (decide (d.length ≤ ko) || d.getD ko 0 != s.f F.AF_SLOT_KEYVAL f k) then s
  else if d.length < off + size then s
  else
    let u := if s.fb F.AF_SLOT_BE f k then beAt d off size else leAt d off size
    let raw : Int := if s.fb F.AF_SLOT_SGN f k then sext u (8 * size) else (u : Int)
    colPublish s n k 0 (satS 32 (ashr (raw * s.fi F.AF_SGAIN_GAIN f k) (s.f F.AF_SGAIN_SHIFT f k) + (s.rd R.AF_SOFS f k).toInt))

/-- COL_TOFS from a partner's time and the TB_NOW it belongs to (R463). -/
def colTofs (s : State) (n : Nat) (ts : Int) (tb : Nat) : State :=
  s.wr R.COL_TOFS (wordI (clamp (-(2 ^ 31 - 1)) (2 ^ 31 - 1) (ts - tb))) n

/-- What a valid CAN frame gives its Column: its values where it is ADMITTED, and its time offset (R462, R463). -/
def colCanUse (s : State) (n : Nat) (d : List Nat) (tb : Nat) : State :=
  let s := if s.colSt n = coAdmitted then foldN 4 (fun s k => colExtract s n k d) s else s
  let ts := s.f F.AF_ID_TSOFF (s.f F.COL_STATE_FILTER n)
  if ts ≠ 0xFF ∧ ts + 8 ≤ d.length then colTofs s n (sext (leAt d ts 8) 64) tb else s

/-- The sequence check of a CAN frame; one too short for its SEQOFF has none. -/
def colCanSeq (s : State) (n : Nat) (d : List Nat) : Bool × State :=
  let o := s.f F.AF_ID_SEQOFF (s.f F.COL_STATE_FILTER n)
  if o = 0xFF ∨ d.length ≤ o then (true, s) else colSeqStep s n (d.getD o 0) 8

/-- The COL unit examines a CAN frame that channel `ch` stores (R454, R456): the Column it belongs to, if any. -/
def colCanFrame (s : State) (ch hdr : Nat) (d : List Nat) (tb : Nat) : Option Nat × State :=
  match colOfCan s ch hdr with
  | some n =>
    if s.colSt n = coRetired then (none, s)
    else
      match colCanSeq s n d with
      | (true, s) => (some n, colCanUse (colValid s n ch) n d tb)
      | (false, s) => (some n, s)
  | none =>
    match afOfCan s ch hdr with
    | none => (none, s)
    | some f =>
      match colFreeOne s with
      | none => (none, colNoRoom s f)
      | some n =>
        let ash := s.f F.AF_ID_ASH f
        let aw := s.f F.AF_ID_AW f
        let s := colTake s n f ch
          { chmask := s.f F.AF_CTL_CHMASK f, ash := ash, aw := aw, book := s.fb F.AF_CTL_CREDIT f }
        let s := s.wr R.COL_ADDR (word (hdr / 2 ^ ash % 2 ^ aw)) n 0
        let (_, s) := colCanSeq s n d
        let s := if (s.colX n).admitN ≤ 1 then colAdmit s n else s
        (some n, colCanUse s n d tb)

/-! ### Expiries (R456, R458) -/

/-- The timer of Column `n` runs out: no valid frame for the liveness limit (`st` ADMITTED), COL_PROB ms without admission
(PROBATION), or DRAIN_MS passed and no bead left (RETIRED). -/
def colExpiry (s : State) (st n : Nat) : State :=
  if s.domOn 2 ∧ s.colSt n = st ∧ colDue s n = true then
    let t := colExpire s n
    if st = coAdmitted then colEvent t n 0xE1 0 (word (s.colX n).liveMs)
    else if st = coProbation then
      event t 15 (0xFF + 256 * s.f F.COL_STATE_FILTER n) 0xE6 0 (word (s.f F.COL_STATE_PCOUNT n))
    else event t 15 (n + 256 * s.f F.COL_STATE_FILTER n) 0xE4 0 0
  else s

/-! ### Register writes (R467, R487, R492) -/

/-- A write of COL_CMD is refused (R467, R487). -/
def colCmdRefuse (s : State) (n : Nat) (v : Word) : Bool :=
  let op := bits v 1 0
  let st := s.colSt n
  op != 0 && (st == coFree || (op == 1 && st == coRetired)
    || (op == 3 && (!(s.colX n).book || decide (colOwed s n < bits v 31 16))))

/-- A write of COL_CMD takes effect. -/
def colCmdWrite (s : State) (n : Nat) (v : Word) : State :=
  match bits v 1 0 with
  | 1 => colRetire s n 1
  | 2 => s.wr R.COL_HLTH 0 n
  | 3 =>
    let s := s.setF F.COL_RXBK_RETURNED (s.f F.COL_RXBK_RETURNED n + bits v 31 16) n
    s.setCol n { s.colX n with freedAt := if colOwed s n = 0 then none else (s.colX n).freedAt }
  | _ => s

/-- A write of AF_CTL with EN from 0 to 1 is refused (R491, R492). -/
def afCtlRefuse (s : State) (f : Nat) (v : Word) : Bool :=
  let med := bits v 7 4
  let ones := ((List.range 6).filter (fun c => (bits v 13 8).testBit c)).length
  let ash := s.f F.AF_ID_ASH f
  let aw := s.f F.AF_ID_AW f
  let so := s.f F.AF_ID_SEQOFF f
  let ts := s.f F.AF_ID_TSOFF f
  let tx := s.f F.AF_LIM_TX_LIMIT f
  let slots := (List.range 4).any (fun k =>
    let w := s.f F.AF_SLOT_W f k
    w != 0 && decide (64 < s.f F.AF_SLOT_OFF f k + (if w = 3 then 4 else w)))
  maskBit v 0 && !s.fb F.AF_CTL_EN f &&
    (slots || (if med = 0 then
        ones == 0 || decide (2 < ones) || aw == 0 || decide (29 < aw) || decide (29 < ash + aw)
          || (decide (63 < so) && so != 0xFF) || (decide (56 < ts) && ts != 0xFF) || tx != 0
      else decide (tx < 16) || decide (s.f F.AF_LIM_RX_LIMIT f < 16) || decide (7 < s.nat R.AF_ID f)))

/-! ### Power and reading -/

/-- The COL registers at a switch-on of PD2: every Column FREE (R492). -/
def colReset (s : State) : State :=
  { s with regs := tabDropRange s.regs 0x51000000 0x51FFFFFF, col := [] }

/-- A COL register as it reads, where its contents are made of others (R464, R465, R487 to R490). -/
def colPeek (s : State) (id : Reg) (n k : Nat) (raw : Word) : Word :=
  match id with
  | .COL_AGE => if s.colSt n = coFree then 0 else word (min (2 ^ 32 - 1) (s.msSince (s.colX n).validAt))
  | .COL_TX => putBits raw 15 0 (toField (colTally s n) 16)
  | .COL_RX => putBits raw 15 0 (if (s.colX n).book then colHeld s n else 0)
  | .COL_CMD => 0
  | .COL_GSTAT =>
    let used := ((List.range 256).filter (fun m => s.colSt m != coFree)).length
    putBits (putBits raw 8 0 used) 16 16 (bit (used == 256))
  | .COL_ADM => word (maskOf 32 (fun k => s.colSt (32 * n + k) == coAdmitted))
  | .COL_VFLAG =>
    if s.colSt n = coFree then 0 else putBits raw 31 16 (age16 (s.msSince (s.ageFrom (0x400 + 4 * n + k))))
  | _ => raw

end Sys2Proof.Machine
end

