-- ==== Sys2Proof/Machine/Tim.lean ====
section
/-! DEFINITION. Sys2Proof/Machine/Tim.lean: the time base and its discipline, IEEE 1588 on the host port
(spec/12_time_and_schedule.md R425 to R435, R449, R450). -/

namespace Sys2Proof.Machine

/-- Change the discipline. -/
def State.setTim (s : State) (x : TimX) : State := { s with tim := x }

/-- FREE. -/
def tiFree : Nat := 0
/-- ACQUIRING. -/
def tiAcquiring : Nat := 1
/-- LOCKED. -/
def tiLocked : Nat := 2
/-- HOLDOVER. -/
def tiHoldover : Nat := 3

/-! ### The tick (R425, R431) -/

/-- One tick of 5 ns: it adds 5 ns, and 0 ns or 10 ns where TB_NOW is half of 5 ns ahead of or behind the rate, so that
between any two instants it keeps within 5 ns of it. Elapsed time takes the same increment (R427).
DEDUCED: log entry 77. -/
def timTick (s : State) : State :=
  let x := s.tim
  let owed := x.owed + x.rate / ((200000000 : Nat) : Rat)
  let n := if (5 : Rat) / 2 ≤ owed then 10 else if owed ≤ -((5 : Rat) / 2) then 0 else 5
  { s with tbNow := s.tbNow + n, elapsed := s.elapsed + n, w1cSet := [],
           tim := { x with owed := owed + 5 - ((n : Nat) : Rat), leap := n == 10 } }

/-- What the block does where no command waits: one tick of 5 ns (log entry 1). Without power TB_NOW stands and elapsed
time goes on. -/
def idleStep (s : State) : Host.Outcome State Fault Refusal :=
  if !s.sys.powered then .next { s with elapsed := s.elapsed + 5, w1cSet := [] }
  else if 2 ^ 64 ≤ s.tbNow + 10 then .fault .timeBaseEnd
  else .next (timTick s)

/-! ### Rational quantities in integer registers -/

/-- A rational as an integer register shows it: itself where whole, else one of the two integers beside it (a free
value). DESIGN CHOICE: log entry 76. -/
def shownInt (s : State) (x : Rat) : Int × State :=
  if x.den = 1 then (x.num, s)
  else
    let (k, s) := s.takeFresh
    (x.floor + ((Config.freeNat k % 2 : Nat) : Int), s)

/-- Show a rational in a register. -/
def showRat (s : State) (d : RegDesc) (x : Rat) : State :=
  let (v, s) := shownInt s x
  s.wr d (wordI v)

/-- A rational limited to the range from `lo` to `hi`. -/
def ratClamp (lo hi x : Rat) : Rat := if x < lo then lo else if hi < x then hi else x

/-! ### The servo (R429, R430) -/

/-- The rate in force and f_int are set and shown (R431, R449). -/
def timRate (s : State) (rate fint : Rat) : State :=
  let s := s.setTim { s.tim with rate := rate, fint := fint }
  showRat (showRat s R.TIM_RATE rate) R.TIM_FINT fint

/-- An accepted sample: the states of R429. -/
def timAccepted (s : State) (o : Rat) : State :=
  let x := s.tim
  let hist := (o :: x.hist).take 4
  let s := s.setTim { x with hist := hist, lastAt := some s.elapsed, quietAt := s.elapsed }
  let close := decide (hist.length = 4) && hist.all (fun h => decide (ratAbs h ≤ 1000))
  let st :=
    if close || (s.f F.TIM_STAT_STATE == tiLocked && decide (ratAbs o ≤ 4000)) then tiLocked else tiAcquiring
  s.setF F.TIM_STAT_STATE st

/-- TB_NOW steps forward by `n` ns (R425, R430, R433). Deadlines, start instants and grids compare with TB_NOW, so the
step moves them; elapsed time stays (R427). -/
def timStep (s : State) (n : Nat) : State :=
  let s := { s with tbNow := s.tbNow + n, stepAt := some s.elapsed, steps := s.steps + 1,
                    tim := { s.tim with leap := false } }
  let s := (s.addR R.TIM_STEPS 1).setF F.TIM_STAT_STEP_SEEN 1
  s.wr64 R.TIM_LSTEP_LO R.TIM_LSTEP_HI n

/-- The elapsed time since the previous accepted sample in s; before the first, a value the manual does not state.
DESIGN CHOICE: log entry 73. -/
def timDt (s : State) : Rat × State :=
  match s.tim.lastAt with
  | some t => (((s.elapsed - t : Nat) : Rat) / ((1000000000 : Nat) : Rat), s)
  | none =>
    let (k, s) := s.takeFresh
    (Config.freeRat k, s)

/-- A discipline sample (R430). -/
def timSample (s : State) (o : Rat) : State :=
  let (shown, s) := shownInt s o
  let s := s.wr R.TIM_OFS (wordI (clamp (-(2 ^ 31 - 1)) (2 ^ 31 - 1) shown))
  let th : Rat := ((s.f F.TIM_STEPTH_V * 1000 : Nat) : Rat)
  let tc : Rat := ((max 1 (s.f F.TIM_DISC_TC_S) : Nat) : Rat)
  let slew : Rat := ((s.f F.TIM_DISC_SLEW_MAX * 1000 : Nat) : Rat)
  if ratAbs o ≤ th then
    let (dt, s) := timDt s
    let fint := ratClamp (-slew) slew (s.tim.fint + o * dt / (4 * tc * tc))
    let s := (s.setTim { s.tim with farSet := [] }).setF F.TIM_STAT_FAR 0
    timAccepted (timRate s (ratClamp (-slew) slew (o / tc + fint)) fint) o
  else
    let s := (s.setF F.TIM_STAT_FAR 1).setF F.TIM_STAT_FAR_SEEN 1
    let x := s.tim
    let far := if x.farSet.all (fun f => decide (ratAbs (f - o) ≤ th)) then o :: x.farSet else [o]
    let s := s.setTim { x with farSet := far }
    if far.length < 3 then s.setF F.TIM_STAT_OUTLIER_SEEN 1
    else if 0 < o ∧ s.fb F.TIM_DISC_STEP_EN then
      let s := timStep s (5 * (o / 5).floor.toNat)
      let s := (s.setTim { s.tim with farSet := [] }).setF F.TIM_STAT_FAR 0
      timAccepted (timRate s s.tim.fint s.tim.fint) o
    else timAccepted (timRate s (if o < 0 then -slew else slew) s.tim.fint) o

/-- HOLDOVER_EXPIRY (R429, R430, R432): no accepted sample for SRCTO ms. -/
def execHoldoverExpiry (s : State) : Host.Outcome State Fault Refusal :=
  .next (
    if s.f F.TIM_DISC_SRC ≠ 0 ∧ s.f F.TIM_STAT_STATE ≠ tiHoldover
        ∧ s.tim.quietAt + s.f F.TIM_SRCTO_V * 1000000 ≤ s.elapsed then
      timRate (s.setF F.TIM_STAT_STATE tiHoldover) s.tim.fint s.tim.fint
    else s)

/-- A write of TIM_DISC.SRC, of its present value too (R429): f_int is kept, and the state is ACQUIRING, or FREE when SRC is none.
DEDUCED: log entry 74. -/
def timSrcWrite (s : State) : State :=
  let s := s.setTim { s.tim with hist := [], farSet := [], quietAt := s.elapsed, ptp := { reqSeq := s.tim.ptp.reqSeq } }
  let s := (s.setF F.TIM_STAT_FAR 0).setF F.TIM_STAT_STATE (if s.f F.TIM_DISC_SRC = 0 then tiFree else tiAcquiring)
  timRate s s.tim.fint s.tim.fint

/-- TIM_NOW_LO_READ (R428): a read of TIM_NOW_LO latches the high word of the same instant. -/
def timNowLo (s : State) : Word × State := (s.tbLo, s.wr R.TIM_NOW_HI s.tbHi)

/-! ### IEEE 1588 (R434, R435) -/

/-- Change the PTP slave. -/
def State.setPtp (s : State) (p : PtpX) : State := s.setTim { s.tim with ptp := p }

/-- The slave runs: SRC is PTP, the host port enabled, its domain on. -/
def ptpOn (s : State) : Bool := s.f F.TIM_DISC_SRC == 1 && s.domOn 1 && s.fb F.NETH_CTL_EN

/-- A message is for the slave: transport and domain (R434). -/
def ptpFor (s : State) (m : PtpMsg) : Bool :=
  ptpOn s && m.transport.toNat == s.f F.TIM_PTP_TRANSPORT && m.domain.toNat == s.f F.TIM_PTP_DOMAIN

/-- The announce interval in ns of a log2 in s, limited to 2^-7 to 2^16 s. -/
def ptpInterval (l : Int) : Nat := (1000000000 * 2 ^ (clamp 0 23 (l + 7)).toNat) / 128

/-- A master qualifies: two Announce messages within four of its announce intervals, the last within three
(IEEE 1588-2019, default profile), and no Sync interval out of range (R434). -/
def ptpQualified (s : State) (m : PtpMaster) : Bool :=
  let i := ptpInterval m.interval
  !s.tim.ptp.barred.contains m.src && decide (s.elapsed ≤ m.lastAt + 3 * i) && m.prevAt.any (fun t => decide (m.lastAt ≤ t + 4 * i))

/-- Lexicographic order of two vectors. -/
def lexLt : List Nat → List Nat → Bool
  | a :: as, b :: bs => decide (a < b) || (a == b && lexLt as bs)
  | [], _ :: _ => true
  | _, [] => false

/-- The master the best master clock algorithm chooses (R434): by priority1, class, accuracy, variance, priority2,
identity, steps removed and port identity. PRESUMED: log entry 36. -/
def ptpBest (s : State) : Option Nat :=
  ((s.tim.ptp.masters.filter (ptpQualified s)).foldl (fun (b : Option PtpMaster) m => match b with
    | some b => if lexLt m.rank b.rank then some m else some b
    | none => some m) none).map PtpMaster.src

/-- A signed correction field in ns. -/
def ptpCorr (m : PtpMsg) : Rat := ((m.corr.toInt : Int) : Rat) / ((65536 : Nat) : Rat)

/-- The time a message carries, in ns (R434). -/
def ptpTime (m : PtpMsg) : Rat := ((m.sec.toNat * 1000000000 + m.nsec.toNat : Nat) : Rat)

/-- The instant a frame that started `ago` ns ago started at the port: on the 5 ns grid of TB_NOW, less RX_LAT (R435). -/
def ptpRx (s : State) (ago : Nat) : Rat :=
  (((s.tbNow - ago) / 5 * 5 : Nat) : Rat) - ((s.f F.TIM_PTPLAT_RX_LAT : Nat) : Rat)

/-- A pair of t1, its correction applied, and t2 is complete: with a path delay known it gives a sample (R435). -/
def ptpPair (s : State) (t1 t2 : Rat) : State :=
  let s := s.setPtp { s.tim.ptp with wait := none, pair := some (t1, t2) }
  match s.tim.ptp.delay with
  | some d => timSample s (t1 - t2 + d)
  | none => s

/-- The log2 of the sync interval is one R434 supports. -/
def ptpRate (m : PtpMsg) : Bool := decide (-7 ≤ m.interval.toInt) && decide (m.interval.toInt ≤ 4)

/-- PTP_SYNC (R434, R435): a Sync of the chosen master, one-step or two-step. A master outside the interval range is not
chosen. -/
def execPtpSync (m : PtpMsg) (twoStep : Bool) (s : State) : Host.Outcome State Fault Refusal :=
  .next (
    let p := s.tim.ptp
    let others := p.barred.filter (fun k => k != m.src.toNat)
    let s := if ptpFor s m then s.setPtp { p with barred := if ptpRate m then others else m.src.toNat :: others } else s
    if !ptpFor s m then s
    else if ptpBest s = some m.src.toNat then
      let t2 := ptpRx s m.ago
      if twoStep then s.setPtp { s.tim.ptp with wait := some (m.seq.toNat, m.src.toNat, t2, ptpCorr m) }
      else ptpPair s (ptpTime m + ptpCorr m) t2
    else s)

/-- PTP_FOLLOW_UP (R434, R435): the origin time of the two-step Sync that waits for it. -/
def execPtpFollowUp (m : PtpMsg) (s : State) : Host.Outcome State Fault Refusal :=
  .next (
    match s.tim.ptp.wait with
    | some (seq, src, t2, c) =>
      if ptpFor s m ∧ m.seq.toNat = seq ∧ m.src.toNat = src then ptpPair s (ptpTime m + ptpCorr m + c) t2 else s
    | none => s)

/-- PTP_ANNOUNCE (R434): a master is heard. -/
def execPtpAnnounce (m : PtpMsg) (d : PtpData) (s : State) : Host.Outcome State Fault Refusal :=
  .next (
    if ptpFor s m ∧ d.steps.toNat < 255 then
      let p := s.tim.ptp
      let src := m.src.toNat
      let rank := [d.prio1.toNat, d.class_.toNat, d.accuracy.toNat, d.variance.toNat, d.prio2.toNat, d.gm.toNat,
        d.steps.toNat, src]
      let prev := (p.masters.find? (fun k => k.src == src)).map PtpMaster.lastAt
      let entry : PtpMaster := ⟨src, rank, m.interval.toInt, s.elapsed, prev⟩
      s.setPtp { p with masters := entry :: p.masters.filter (fun k => k.src != src) }
    else s)

/-- PTP_DELAY_REQ (R434, R435): the slave sends a Delay_Req to its chosen master; t3 is taken at the start of the
frame. -/
def execPtpDelayReq (s : State) : Host.Outcome State Fault Refusal :=
  .next (
    if ptpOn s ∧ (ptpBest s).isSome ∧ s.tim.ptp.pair.isSome then
      let p := s.tim.ptp
      let t3 : Rat := ((s.tbNow / 5 * 5 + s.f F.TIM_PTPLAT_TX_LAT : Nat) : Rat)
      let s := s.setPtp { p with req := some (p.reqSeq, t3), reqSeq := (p.reqSeq + 1) % 65536 }
      { s with sent := s.sent ++ [⟨8, "Delay_Req", [s.f F.TIM_PTP_TRANSPORT, s.f F.TIM_PTP_DOMAIN], [p.reqSeq]⟩] }
    else s)

/-- PTP_DELAY_RESP (R435): the answer to the Delay_Req sent gives the mean path delay. The message is one whose
requesting port identity is this clock's. -/
def execPtpDelayResp (m : PtpMsg) (s : State) : Host.Outcome State Fault Refusal :=
  .next (
    match s.tim.ptp.req, s.tim.ptp.pair with
    | some (seq, t3), some (t1, t2) =>
      if ptpFor s m ∧ m.seq.toNat = seq ∧ ptpBest s = some m.src.toNat then
        let d := ((t2 - t1) + (ptpTime m - ptpCorr m - t3)) / 2
        showRat (s.setPtp { s.tim.ptp with req := none, delay := some d }) R.TIM_PTPDLY d
      else s
    | _, _ => s)

end Sys2Proof.Machine
end

