-- ==== Sys2Proof/Machine/CanBase.lean ====
section
/-! DEFINITION. Sys2Proof/Machine/CanBase.lean: what the CAN channels are made of: buffers, filters, frames on the bus,
events and counters (spec/11_bus_controller.md R388 to R424). -/

namespace Sys2Proof.Machine

/-- CAN channel `n` behind its registers. -/
def State.canX (s : State) (n : Nat) : CanX := tabGet {} s.can n
/-- Change CAN channel `n`. -/
def State.setCan (s : State) (n : Nat) (x : CanX) : State := { s with can := tabPut s.can n x }

/-- A write, request or recovery is refused (R422). -/
def canRefused (s : State) (n : Nat) : State := s.setF F.CAN_STAT_REFUSED 1 n

/-- An event bead of channel `n` (R418): with no free slot it is discarded, counted and flagged; `buf` is a receive
buffer, 0x80 + a transmit buffer, or 0xFF. DEDUCED: log entry 65. -/
def canEvent (s : State) (n buf code detail : Nat) (value : Word) : State :=
  let r := 4 + n
  let b := eventBead s (n + buf * 256) code detail value
  if s.ringOn r && !(s.ring r).closing && s.nat R.CRG_TALLY r != 0 then ringAdd s r b
  else
    let s := (s.addR R.CAN_EVLOST 1 n).setF F.CAN_STAT_EVLOST_SEEN 1 n
    if s.domOn 2 && (!s.ringOn r || (s.ring r).closing) then s.addR R.CRG_LOST 1 r else s

/-! ### Bit timing (R390) -/

/-- The nominal time quantum in ns. -/
def canNtq (s : State) (n : Nat) : Nat := 5 * (s.f F.CAN_NBT_NBRP n + 1)
/-- NTSEG1. -/
def canNseg1 (s : State) (n : Nat) : Nat := s.f F.CAN_NBT_NTSEG1 n + 1
/-- NTSEG2. -/
def canNseg2 (s : State) (n : Nat) : Nat := s.f F.CAN_NBT_NTSEG2 n + 1
/-- The nominal bit time in ns. -/
def canNbit (s : State) (n : Nat) : Nat := canNtq s n * (1 + canNseg1 s n + canNseg2 s n)
/-- The sample point of a nominal bit, in ns from the bit's start. -/
def canNsample (s : State) (n : Nat) : Nat := canNtq s n * (1 + canNseg1 s n)
/-- DTSEG1. -/
def canDseg1 (s : State) (n : Nat) : Nat := s.f F.CAN_DBT_DTSEG1 n + 1
/-- DTSEG2. -/
def canDseg2 (s : State) (n : Nat) : Nat := s.f F.CAN_DBT_DTSEG2 n + 1
/-- The data-phase bit time in ns. -/
def canDbit (s : State) (n : Nat) : Nat := 5 * (s.f F.CAN_DBT_DBRP n + 1) * (1 + canDseg1 s n + canDseg2 s n)

/-- A change from OFF to another mode breaks R390, with FDE as the write sets it. -/
def canTimingBad (s : State) (n : Nat) (fde : Bool) : Bool :=
  let nb := canNbit s n
  let db := canDbit s n
  decide (nb < 1000) || decide (100000 < nb) || (fde && (decide (nb < db) || decide (db < 125)))
    || decide (canNseg2 s n < s.f F.CAN_NBT_NSJW n + 1) || decide (canDseg2 s n < s.f F.CAN_DBT_DSJW n + 1)
    || decide (canNseg1 s n < 2) || decide (canDseg1 s n < 2)
    || (fde && decide (db < 1000) && !s.fb F.CAN_TDC_TDCE n)

/-! ### Frames (R388, R399) -/

/-- The payload length of a data length code. -/
def dlcLen (fdf : Bool) (dlc : Nat) : Nat :=
  if dlc ≤ 8 then dlc else if fdf then [12, 16, 20, 24, 32, 48, 64].getD (dlc - 9) 64 else 8

/-- A frame's payload length: none for a remote frame. -/
def canLen (f : CanFrame) : Nat := if f.rtr then 0 else dlcLen f.fdf f.dlc.toNat

/-- The header word. -/
def canHdr (f : CanFrame) : Nat := f.id.toNat + bit f.ide * 2 ^ 29 + bit f.rtr * 2 ^ 30

/-- The info word: FILTER `k`, SHADOW clear. -/
def canInfo (f : CanFrame) (k : Nat) : Nat :=
  f.dlc.toNat + bit f.fdf * 16 + bit f.brs * 32 + bit f.esi * 64 + k % 128 * 256 + (canLen f) * 65536

/-- The payload bytes, LEN of them. -/
def canPayload (f : CanFrame) : List Nat := (List.range (canLen f)).map (fun i => (f.data.getD i 0).toNat)

/-- `k` words of a payload, bytes beyond it zero. -/
def payloadWords (d : List Nat) (k : Nat) : List Word := (List.range k).map (fun w => word (leAt d (4 * w) 4))

/-! ### Transmit buffers (R407, R424) -/

/-- Word `w` of transmit buffer `k`. -/
def State.txW (s : State) (n k w : Nat) : Word := s.rd R.CAN_TXB n (32 * k + w)
/-- Set word `w` of transmit buffer `k`. -/
def State.setTxW (s : State) (n k w : Nat) (v : Word) : State := s.wr R.CAN_TXB v n (32 * k + w)

/-- EMPTY. -/
def txEmpty : Nat := 0
/-- PENDING. -/
def txPending : Nat := 1
/-- ACTIVE. -/
def txActive : Nat := 2
/-- TRANSMITTED. -/
def txDone : Nat := 3
/-- CANCELLED. -/
def txCancelled : Nat := 4
/-- CANCELLED_AFTER_ERROR. -/
def txCancErr : Nat := 5
/-- ABANDONED. -/
def txAbandoned : Nat := 6
/-- STALE. -/
def txStale : Nat := 7

/-- STATE of transmit buffer `k`. -/
def State.txSt (s : State) (n k : Nat) : Nat := bits (s.txW n k 3) 2 0
/-- ARB_CNT of transmit buffer `k`. -/
def State.txArb (s : State) (n k : Nat) : Nat := bits (s.txW n k 3) 15 8
/-- ERR_CNT of transmit buffer `k`. -/
def State.txErr (s : State) (n k : Nat) : Nat := bits (s.txW n k 3) 23 16
/-- CANCEL_PEND of transmit buffer `k`. -/
def State.txCancelPend (s : State) (n k : Nat) : Bool := maskBit (s.txW n k 3) 4
/-- Set a field of the status word. -/
def State.setTxF (s : State) (n k hi lo v : Nat) : State := s.setTxW n k 3 (putBits (s.txW n k 3) hi lo v)
/-- Set STATE. -/
def State.setTxSt (s : State) (n k st : Nat) : State := s.setTxF n k 2 0 st

/-- The buffer is sent only in counting-board windows. -/
def State.txTT (s : State) (n k : Nat) : Bool := maskBit (s.txW n k 1) 8

/-- The frame of transmit buffer `k`. -/
def State.txFrame (s : State) (n k : Nat) : CanFrame :=
  let h := s.txW n k 0
  let f := s.txW n k 1
  let ide := maskBit h 29
  let len := if maskBit h 30 then 0 else dlcLen (maskBit f 4) (bits f 3 0)
  { ide := ide, rtr := maskBit h 30, fdf := maskBit f 4, brs := maskBit f 5, esi := maskBit f 4 && s.f F.CAN_STAT_ESTATE n != 0,
    id := BitVec.ofNat 29 (if ide then bits h 28 0 else bits h 28 18 * 2 ^ 18), dlc := BitVec.ofNat 4 (bits f 3 0),
    data := (List.range len).map (fun i => BitVec.ofNat 8 ((s.txW n k (4 + i / 4)).toNat >>> (8 * (i % 4)))), ago := 0 }

/-- Lane 3 of the outcome events: ARB_CNT and ERR_CNT. -/
def State.txCounts (s : State) (n k : Nat) : Word := word (s.txArb n k + s.txErr n k * 256)

/-- Transmit buffer `k` reaches a final state, with its event. -/
def txEnd (s : State) (n k st code detail : Nat) : State :=
  let s := (s.setTxSt n k st).setTxF n k 4 4 0
  canEvent s n (0x80 + k) code detail (s.txCounts n k)

/-- The age of a buffer in ms (R408, R411). -/
def State.txAge (s : State) (n k : Nat) : Nat := s.msSince (tabGet 0 (s.canX n).reqAt k)

/-- Every PENDING buffer whose age has reached AGE_MS becomes STALE (R411). -/
def txStaleAll (s : State) (n : Nat) : State :=
  foldN 32 (fun s k =>
    let lim := bits (s.txW n k 2) 31 16
    if s.txSt n k = txPending ∧ lim ≠ 0 ∧ lim ≤ s.txAge n k then
      canEvent (s.setTxSt n k txStale) n (0x80 + k) 0xC5 0 (word (min (2 ^ 32 - 1) (s.txAge n k)))
    else s) s

/-- The arbitration key of R409: the lower wins. -/
def txKey (s : State) (n k : Nat) : List Nat :=
  let h := s.txW n k 0
  let ide := maskBit h 29
  let rtr := bit (maskBit h 30)
  [bits h 28 18, if ide then 1 else rtr, bit ide, if ide then bits h 17 0 else 0, if ide then rtr else 0]

/-- The winner among buffers in ascending number (R409). -/
def txWinner (s : State) (n : Nat) (l : List Nat) : Option Nat :=
  l.foldl (fun (b : Option Nat) k => match b with
    | some b => if lexLt (txKey s n k) (txKey s n b) then some k else some b
    | none => some k) none

/-! ### The arbitration field on the bus (R412, R445; ISO 11898-1) -/

/-- `w` bits of a number, most significant first. -/
def bitsMsb (v w : Nat) : List Bool := (List.range w).map (fun i => v.testBit (w - 1 - i))

/-- The bits on the bus from the start of frame through the last bit of the arbitration field: RTR or RRS. -/
def arbField (f : CanFrame) : List Bool :=
  let base := f.id.toNat / 2 ^ 18
  let last := if f.fdf then false else f.rtr
  [false] ++ bitsMsb base 11 ++ (if f.ide then [true, true] ++ bitsMsb (f.id.toNat % 2 ^ 18) 18 else []) ++ [last]

/-- The length of a run of bits with its stuff bits: after five equal bits one of the other value follows. The last
stuff bit counts only where another bit follows. -/
def stuffedLen : List Bool → Option Bool → Nat → Nat → Nat
  | [], _, _, acc => acc
  | b :: bs, prev, run, acc =>
    let (prev, run, acc) := if run = 5 then (prev.map (!·), 1, acc + 1) else (prev, run, acc)
    stuffedLen bs (some b) (if prev = some b then run + 1 else 1) (acc + 1)

/-- The time from the start of a frame to its commit point: the sample point of the last bit of its arbitration field. -/
def commitDelay (s : State) (n : Nat) (f : CanFrame) : Nat :=
  (stuffedLen (arbField f) none 0 0 - 1) * canNbit s n + canNsample s n

/-- The worst-case duration in ns of a frame (R445): every possible stuff bit, the data phase of a BRS frame at the data
bit rate. The FD formats are those of ISO 11898-1. -/
def worstNs (s : State) (n : Nat) (f : CanFrame) : Nat :=
  let len := canLen f
  let ext := bit f.ide
  let nb := canNbit s n
  if !f.fdf then
    let stuffable := 34 + 20 * ext + 8 * len
    (44 + 20 * ext + 8 * len + (stuffable - 1) / 4) * nb
  else
    let head := 17 + 19 * ext
    let data := 5 + 8 * len
    let crc := if len ≤ 16 then 17 + 4 + 1 + 5 else 21 + 4 + 1 + 6
    let stuffHead := (head - 1) / 4
    let stuffData := data / 4
    let tail := 1 + 1 + 1 + 7
    if f.brs then (head + stuffHead) * nb + (data + stuffData + crc) * canDbit s n + tail * nb
    else (head + stuffHead + data + stuffData + crc + tail) * nb

/-! ### Receiving (R396 to R406) -/

/-- A filter accepts a header (R397). -/
def canAccepts (s : State) (n k hdr : Nat) : Bool :=
  let m := s.nat R.CAN_RXF n k
  let mask := s.nat R.CAN_RXM n k
  if s.f F.CAN_RXBCFG_FMODE n k = 0 then ((hdr ^^^ m) &&& mask) % 2 ^ 31 == 0
  else
    let edp := hdr / 2 ^ 25 % 2
    let dp := hdr / 2 ^ 24 % 2
    let pf := hdr / 2 ^ 16 % 256
    let ps := hdr / 2 ^ 8 % 256
    let sa := hdr % 256
    let pdu1 := decide (pf < 240)
    let pgn := edp * 2 ^ 17 + dp * 2 ^ 16 + pf * 2 ^ 8 + (if pdu1 then 0 else ps)
    hdr / 2 ^ 29 % 2 == 1 && ((pgn ^^^ m) &&& mask) % 2 ^ 18 == 0
      && ((sa ^^^ (m / 2 ^ 24)) &&& (mask / 2 ^ 24)) % 256 == 0
      && (!pdu1 || ((ps ^^^ (m / 2 ^ 16)) &&& (mask / 2 ^ 16)) % 256 == 0)

/-- Channel `n` is a queued channel. -/
def canQueued (n : Nat) : Bool := n == 4 || n == 5

/-- The order in which filters are offered a frame (R398). -/
def canFilterOrder (s : State) (n : Nat) : List Nat :=
  if canQueued n then List.range 32
  else (List.range 64).filter (fun k => s.fb F.CAN_RXBCFG_HP n k)
    ++ (List.range 64).filter (fun k => !s.fb F.CAN_RXBCFG_HP n k)

/-- The filter that decides a frame's disposition (R398). -/
def canFilter (s : State) (n hdr : Nat) : Option Nat :=
  (canFilterOrder s n).find? (fun k => s.fb F.CAN_RXBCFG_EN n k && canAccepts s n k hdr)

/-- The FULL bit of receive buffer `k`. -/
def State.rxFull (s : State) (n k : Nat) : Bool :=
  if k < 32 then maskBit (s.rd R.CAN_RXFULL_LO n) k else maskBit (s.rd R.CAN_RXFULL_HI n) (k - 32)
/-- Set the FULL bit of receive buffer `k`. -/
def State.setRxFull (s : State) (n k : Nat) (b : Bool) : State :=
  if k < 32 then s.setMask R.CAN_RXFULL_LO k b n else s.setMask R.CAN_RXFULL_HI (k - 32) b n
/-- The lock of receive buffer `k`. -/
def State.rxLocked (s : State) (n k : Nat) : Bool :=
  if k < 32 then maskBit (s.rd R.CAN_RXLOCK_LO n) k else maskBit (s.rd R.CAN_RXLOCK_HI n) (k - 32)
/-- Set the lock of receive buffer `k`. -/
def State.setRxLock (s : State) (n k : Nat) (b : Bool) : State :=
  if k < 32 then s.setMask R.CAN_RXLOCK_LO k b n else s.setMask R.CAN_RXLOCK_HI (k - 32) b n

/-- The words of receive buffer `k` become those of a frame, and it is FULL (R401). -/
def rxFill (s : State) (n k : Nat) (ws : List Word) : State :=
  ((ws.take 20).zipIdx.foldl (fun s p => s.wr R.CAN_RXB p.1 n (32 * k + p.2)) s).setRxFull n k true

/-- A frame becomes readable in receive buffer `k` (R401), which raises its event vector (R404). -/
def rxPlace (s : State) (n k : Nat) (ws : List Word) : State :=
  let s := rxFill s n k ws
  let evt := s.f F.CAN_RXBCFG_EVT n k
  let s := if evt % 2 = 1 then canEvent s n k 0xC0 (bits (ws.getD 1 0) 7 7) (ws.getD 0 0) else s
  if 2 ≤ evt then ringBell s (s.f F.CAN_RXBCFG_ROD n k) (2 ^ s.f F.CAN_RXBCFG_DB n k) else s

/-- Release of receive buffer `k` (R400, R402): a frame that waits in the shadow moves in. -/
def rxRelease (s : State) (n k : Nat) : State :=
  let s := (s.setRxFull n k false).setRxLock n k false
  let x := s.canX n
  match tabFind x.shadows k with
  | some ws =>
    let ws := ws.zipIdx.map (fun p => if p.2 = 1 then putBits p.1 7 7 1 else p.1)
    rxPlace (s.setCan n { x with shadows := tabDrop x.shadows k }) n k ws
  | none => s

/-- The release word of receive buffer `k` (R400). -/
def rxReleaseWord (s : State) (n k : Nat) : Nat :=
  let len := bits (s.rd R.CAN_RXB n (32 * k + 1)) 22 16
  if len = 0 then 1 else 2 + (len - 1) / 4

/-- A read of word `w` of receive buffer `k` locks or releases it (R400); the word comes back as it was. -/
def rxRead (s : State) (n k w : Nat) : Word × State :=
  let v := s.rd R.CAN_RXB n (32 * k + w)
  if w = 0 then (v, s.setRxLock n k true)
  else if s.rxLocked n k ∧ w = rxReleaseWord s n k then (v, rxRelease s n k)
  else (v, s)

/-- A frame is placed in receive buffer `k` (R401), with what it counts in. -/
def rxStore (s : State) (n k : Nat) (ws : List Word) : State :=
  let x := s.canX n
  let locked := s.rxLocked n k
  let lost := if locked then (tabFind x.shadows k).isSome else s.rxFull n k
  let s := if locked then s.setCan n { x with shadows := tabPut x.shadows k ws } else s
  let s := if lost then
      let s := s.addR R.CAN_RXOVR 1 n
      if s.fb F.CAN_STAT_OVR_SEEN n then s
      else canEvent (s.setF F.CAN_STAT_OVR_SEEN 1 n) n k 0xC8 0 (s.rd R.CAN_RXOVR n)
    else s.addR R.CAN_RXSTORED 1 n
  if locked then s else rxPlace s n k ws

/-- The lost count of a queue. -/
def qlostReg (q : Nat) : RegDesc := if q = 0 then R.CAN_QLOST_A else R.CAN_QLOST_B

/-- A frame that its queue cannot take (R406). -/
def rxDiscard (s : State) (n q beads : Nat) : State :=
  let r := 2 * (n - 4) + q
  let s := (s.addR R.CAN_RXOVR 1 n).addR (qlostReg q) 1 n
  let s := if s.domOn 2 && (!s.ringOn r || (s.ring r).closing) then s.addR R.CRG_LOST beads r else s
  if s.fb F.CAN_STAT_QLOST_SEEN n then s
  else canEvent (s.setF F.CAN_STAT_QLOST_SEEN 1 n) n 0xFF 0xC9 q (s.rd (qlostReg q) n)

/-- A frame for queue `q` of channel `n` (R405, R406), tagged with its Column where that keeps a receive book (R465,
R466). -/
def rxQueue (s : State) (n q : Nat) (f : CanFrame) (k tb : Nat) : State :=
  let r := 2 * (n - 4) + q
  let len := canLen f
  let beads := 1 + (len + 15) / 16
  if s.ringOn r && !(s.ring r).closing && decide (beads ≤ s.nat R.CRG_TALLY r) then
    let (col, s) := colCanFrame s n (canHdr f) (canPayload f) tb
    let tag := col.filter (fun c => (s.colX c).book)
    let s := match tag with
      | some c => colReceived (if colCredits s c beads then s else colCredViol s c) c beads
      | none => s
    let ws := payloadWords (canPayload f) 16
    let body := (List.range (beads - 1)).map (fun i =>
      ofLanes (ws.getD (4 * i) 0) (ws.getD (4 * i + 1) 0) (ws.getD (4 * i + 2) 0) (ws.getD (4 * i + 3) 0))
    let s := ringAddAll s r (ofLanes (word (canHdr f)) (word (canInfo f k)) (word tb) (word (tb / 2 ^ 32)) :: body) tag
    s.addR R.CAN_RXSTORED 1 n
  else rxDiscard s n q beads

/-- A received frame is filtered, placed and counted (R396, R398, R401, R405); `tb` is TB_NOW at the sample point of its
start-of-frame bit. DEDUCED: log entry 72. -/
def rxFrame (s : State) (n : Nat) (f : CanFrame) (tb : Nat) : State :=
  let s := s.addR R.CAN_RXCNT 1 n
  match canFilter s n (canHdr f) with
  | none => s.addR R.CAN_RXFILT 1 n
  | some k =>
    if canQueued n then
      let q := s.f F.CAN_RXBCFG_QSEL n k
      if q = 1 ∨ q = 2 then rxQueue s n (q - 1) f k tb else s.addR R.CAN_RXFILT 1 n
    else
      let s := if s.domOn 2 then (colCanFrame s n (canHdr f) (canPayload f) tb).2 else s
      rxStore s n k ([word (canHdr f), word (canInfo f k)] ++ payloadWords (canPayload f) 16 ++ [word tb, word (tb / 2 ^ 32)])

end Sys2Proof.Machine
end

