-- ==== Sys2Proof/Machine/Tts.lean ====
section
/-! DEFINITION. Sys2Proof/Machine/Tts.lean: the counting boards of channels 4 and 5: states, reference messages, time
marks, cells and outcomes, and which transmit buffers may start (spec/12_time_and_schedule.md R436 to R448). -/

namespace Sys2Proof.Machine

/-- The board of channel `n` behind its registers. -/
def State.ttsX (s : State) (n : Nat) : TtsX := tabGet {} s.tts n
/-- Change the board of channel `n`. -/
def State.setTts (s : State) (n : Nat) (x : TtsX) : State := { s with tts := tabPut s.tts n x }

/-- OFF. -/
def tsOff : Nat := 0
/-- SYNCING. -/
def tsSyncing : Nat := 1
/-- SLAVE. -/
def tsSlave : Nat := 2
/-- MASTER. -/
def tsMaster : Nat := 3

/-- The state of channel `n`'s board (R440). -/
def State.ttsSt (s : State) (n : Nat) : Nat := s.f F.TTS_STAT_STATE (n - 4)
/-- The cycle count of channel `n`'s board. -/
def State.ttsCycle (s : State) (n : Nat) : Nat := s.f F.TTS_STAT_CYCLE (n - 4)
/-- Channel `n` has an enabled board. -/
def boardOn (s : State) (n : Nat) : Bool := canQueued n && s.domOn 6 && s.fb F.TTS_CTL_EN (n - 4)
/-- Transmit buffer `k` belongs to the board of a potential master (R439). -/
def boardOwns (s : State) (n k : Nat) : Bool := boardOn s n && s.fb F.TTS_CTL_ROLE (n - 4) && (k == 30 || k == 31)

/-- CYC_LEN in ns. -/
def cycNs (s : State) (n : Nat) : Nat := 100 * s.f F.TTS_CYC_CYC_LEN (n - 4)
/-- NCYC (R443). -/
def ttsNcyc (s : State) (n : Nat) : Nat := 2 ^ s.f F.TTS_CYC_NCYC_LOG (n - 4)
/-- TXEN nominal bits in ns. -/
def txenNs (s : State) (n : Nat) : Nat := s.f F.TTS_CFG_TXEN (n - 4) * canNbit s n

/-- Cell (y, w): its kind and its buffer (R443, R451); no cell beyond NCYC. -/
def ttsCell (s : State) (n y w : Nat) : Nat × Nat :=
  if ttsNcyc s n ≤ y then (0, 0)
  else
    let v := s.rd R.TTS_CELL (n - 4) (8 * y + w / 4)
    let b := 8 * (w % 4)
    (bits v (b + 7) (b + 6), bits v (b + 4) b)

/-- Set the outcome of cell (y, w) (R451). -/
def ttsOut (s : State) (n y w v : Nat) : State :=
  let j := 32 * y + w
  let i := j % 16
  s.wr R.TTS_OUT (putBits (s.rd R.TTS_OUT (n - 4) (j / 16)) (2 * i + 1) (2 * i) v) (n - 4) (j / 16)

/-- The board's state becomes `st`, with event 0xCB (R448). -/
def ttsTo (s : State) (n st : Nat) : State :=
  if s.ttsSt n = st then s
  else canEvent (s.setF F.TTS_STAT_STATE st (n - 4)) n 0xFF 0xCB st (word (s.ttsCycle n))

/-- The current master is the one of rank `r` (R440). -/
def ttsMasterIs (s : State) (n r : Nat) : State :=
  let x := s.ttsX n
  if x.known && s.f F.TTS_STAT_MRANK (n - 4) == r then s
  else
    let s := ((s.setTts n { x with known := true }).setF F.TTS_STAT_MRANK r (n - 4)).setF F.TTS_STAT_MCHG_SEEN 1 (n - 4)
    canEvent s n 0xFF 0xCC r 0

/-! ### The board's own messages (R436, R438, R439) -/

/-- A header with rank `r` in its three low identifier bits (R436). -/
def rankHdr (h : Word) (r : Nat) : Word := if maskBit h 29 then putBits h 2 0 r else putBits h 20 18 r

/-- Buffer `k` is requested at this step (R408). -/
def txRequestNow (s : State) (n k : Nat) : State :=
  let x := s.canX n
  (s.setTxW n k 3 1).setCan n { x with reqAt := tabPut x.reqAt k s.elapsed }

/-- An own message that waits is withdrawn. DEDUCED: log entry 66. -/
def ttsWithdraw (s : State) (n k : Nat) : State :=
  if s.txSt n k = txPending then txEnd s n k txCancelled 0xC2 0 else s

/-- The own reference message with cycle count `c` is requested, scheduled for elapsed time `at_` (R441).
DEDUCED: log entry 67. -/
def ttsRequest (s : State) (n c at_ : Nat) : State :=
  let s := s.setTxW n 30 0 (rankHdr (s.rd R.TTS_REFID (n - 4)) (s.f F.TTS_CTL_RANK (n - 4)))
  let s := (s.setTxW n 30 1 1).setTxW n 30 4 (word (c % 64))
  let s := s.setTts n { s.ttsX n with refDue := some c, sched := some at_ }
  txRequestNow s n 30

/-- The time mark is requested: it carries the TB_NOW of the Ref_Mark (R438). -/
def ttsMarkRequest (s : State) (n : Nat) : State :=
  let s := s.setTxW n 31 0 (rankHdr (s.rd R.TTS_TMID (n - 4)) (s.f F.TTS_CTL_RANK (n - 4)))
  let s := (s.setTxW n 31 1 8).setTxW n 31 4 (s.rd R.TTS_REFMARK_LO (n - 4))
  txRequestNow (s.setTxW n 31 5 (s.rd R.TTS_REFMARK_HI (n - 4))) n 31

/-- A cycle begins: Ref_Mark `ago` ns before this step, cycle count `c` (R436, R441). -/
def ttsCycleStart (s : State) (n c ago : Nat) : State :=
  let mark := s.elapsed - ago
  let s := s.wr64 R.TTS_REFMARK_LO R.TTS_REFMARK_HI (s.tbNow - ago) (n - 4)
  let s := s.setF F.TTS_STAT_CYCLE c (n - 4)
  s.setTts n { s.ttsX n with
    markAt := mark, watchAt := mark, seen := true, begun := 0, win := none, preempted := false }

/-- The own reference message has been sent (R440, R441); its start-of-frame sample point lay `ago` ns before. -/
def ttsRefSent (s : State) (n ago : Nat) : State :=
  let c := (s.ttsX n).refDue.getD 0
  let s := ttsCycleStart s n c ago
  let s := s.setTts n { s.ttsX n with refDue := none }
  ttsMasterIs (ttsTo s n tsMaster) n (s.f F.TTS_CTL_RANK (n - 4))

/-- A reference message of rank `r` has been received (R436, R437, R440, R441): byte 0 and the age of its Ref_Mark. A
master yields to a higher-priority rank alone: its own reference message can lose arbitration to no other reference
message, whose identifier would have to be lower. DEDUCED: log entry 68. -/
def ttsReference (s : State) (n r byte0 ago : Nat) : State :=
  let st := s.ttsSt n
  let x := s.ttsX n
  let own := s.f F.TTS_CTL_RANK (n - 4)
  if st = tsOff then s
  else if st = tsMaster ∧ own ≤ r then s
  else
    let s := if byte0 / 128 % 2 = 1 then s.setF F.TTS_STAT_GAP_SEEN 1 (n - 4) else s
    let c := byte0 % 64
    let expect := (s.ttsCycle n + 1) % ttsNcyc s n
    let jump := x.seen && c != expect
    let s := ttsCycleStart s n c ago
    let s := if jump then canEvent (s.setF F.TTS_STAT_JUMP_SEEN 1 (n - 4)) n 0xFF 0xCD c (word expect) else s
    let s := if boardOwns s n 30 then ttsWithdraw s n 30 else s
    let s := s.setTts n { s.ttsX n with refDue := none, sched := none }
    ttsMasterIs (ttsTo s n tsSlave) n r

/-- A time mark of rank `r` has been received (R438): a discipline sample where TIM_DISC.SRC names the channel. -/
def ttsTimeMark (s : State) (n r t : Nat) : State :=
  if s.ttsSt n = tsSlave ∧ (s.ttsX n).seen ∧ r = s.f F.TTS_STAT_MRANK (n - 4) ∧ s.f F.TIM_DISC_SRC = n - 2 then
    let o : Int := (t : Int) + s.fi F.TTS_PROP_V (n - 4) - (s.rd64 R.TTS_REFMARK_LO R.TTS_REFMARK_HI (n - 4) : Nat)
    timSample s ((o : Int) : Rat)
  else s

/-- The mask of the identifier bits, IDE with them, without the three of the rank (R436). -/
def rankMask (h : Word) : Nat := if maskBit h 29 then 0x3FFFFFF8 else 0x3FE3FFFF

/-- The board looks at a received frame (R436, R438). A reference message with no byte 0 has a free one.
DESIGN CHOICE: log entry 70. -/
def ttsFrame (s : State) (n hdr : Nat) (d : List Nat) (len ago : Nat) : State :=
  if !boardOn s n then s
  else
    let same := fun (h : Word) => (hdr ^^^ h.toNat) &&& rankMask h == 0
    let rank := fun (h : Word) => if maskBit h 29 then hdr % 8 else hdr / 2 ^ 18 % 8
    let ref := s.rd R.TTS_REFID (n - 4)
    let tm := s.rd R.TTS_TMID (n - 4)
    if same ref then
      match d with
      | b :: _ => ttsReference s n (rank ref) b ago
      | [] =>
        let (k, s) := s.takeFresh
        ttsReference s n (rank ref) (Config.freeNat k % 256) ago
    else if same tm ∧ len = 8 then ttsTimeMark s n (rank tm) (leAt d 0 8)
    else s

/-! ### Starting frames (R409, R443 to R445) -/

/-- The PENDING buffers that may start now: without a board those with TT = 0; with one, by its state and its open
window (R442 to R445). -/
def txCandidates (s : State) (n : Nat) : List Nat :=
  let pend := (List.range 32).filter (fun k => s.txSt n k == txPending)
  if !boardOn s n then pend.filter (fun k => !s.txTT n k)
  else
    let own := pend.filter (fun k => k == 30 && boardOwns s n k)
    let st := s.ttsSt n
    if st ≤ tsSyncing then pend.filter (fun k => !s.txTT n k && !boardOwns s n k) ++ own
    else
      match (s.ttsX n).win with
      | none => own
      | some w =>
        let early := !w.started && decide (s.elapsed ≤ w.startAt + txenNs s n)
        if w.endAt ≤ s.elapsed then own
        else if w.kind = 1 then pend.filter (fun k => early && k == w.buf && s.txTT n k) ++ own
        else if w.kind = 2 then
          pend.filter (fun k => !s.txTT n k && !boardOwns s n k
            && decide (s.elapsed + worstNs s n (s.txFrame n k) ≤ w.endAt)) ++ own
        else if w.kind = 3 then pend.filter (fun k => early && st == tsMaster && k == 31) ++ own
        else own

/-- A start point of channel `n` (R409, R411): a mode that sends and that no change waits to end, integrated,
the bus idle, not bus-off. -/
def canMayStart (s : State) (n : Nat) : Bool :=
  let x := s.canX n
  s.domOn 6 && (x.mode == 1 || x.mode == 3) && x.synced && !x.busy && !s.fb F.CAN_STAT_MODE_PEND n && decide (s.f F.CAN_STAT_ESTATE n ≤ 1)

/-- The winning buffer starts: it is ACTIVE, and its frame is on the bus (R409, R412). -/
def txBegin (s : State) (n k : Nat) : State :=
  let f := s.txFrame n k
  let x := s.canX n
  let s := s.setTxSt n k txActive
  let s := s.setCan n { x with
    busy := true, active := some k, startAt := s.elapsed, startTb := s.tbNow, commitAt := s.elapsed + commitDelay s n f }
  let s := if x.mode = 1 then
      { s with sent := s.sent ++ [⟨n, "CAN frame", [canHdr f], (s.txW n k 1).toNat % 64 :: canPayload f⟩] }
    else s
  let t := s.ttsX n
  match t.win with
  | some w =>
    if boardOn s n ∧ tsSlave ≤ s.ttsSt n ∧ ((w.kind = 1 ∧ w.buf = k) ∨ (w.kind = 3 ∧ k = 31)) then
      s.setTts n { t with win := some { w with started := true }, cell := some (32 * s.ttsCycle n + w.col) }
    else s
  | none => s

/-- The channel starts a frame if it may and a buffer waits (R409, R411). -/
def canStart (s : State) (n : Nat) : State :=
  if canMayStart s n then
    let s := txStaleAll s n
    match txWinner s n (txCandidates s n) with
    | some k => txBegin s n k
    | none => s
  else s

/-- The frame of a cell ends with an outcome (R444). -/
def ttsCellEnd (s : State) (n v : Nat) : State :=
  let t := s.ttsX n
  match t.cell with
  | some j => ttsOut (s.setTts n { t with cell := none }) n (j / 32) (j % 32) v
  | none => s

/-- The frame of a cell is taken back or loses arbitration: the manual gives the cell no outcome, which is free.
DESIGN CHOICE: log entry 69. -/
def ttsCellLost (s : State) (n : Nat) : State :=
  match (s.ttsX n).cell with
  | some _ =>
    let (k, s) := s.takeFresh
    ttsCellEnd s n (Config.freeNat k % 4)
  | none => s

/-- A MISSED outcome of column `w`, buffer `k` (R446). -/
def ttsMissed (s : State) (n y w k : Nat) : State :=
  let s := (ttsOut s n y w 2).addR R.TTS_MISSED 1 (n - 4)
  if s.fb F.TTS_STAT_MISSED_SEEN (n - 4) then s
  else canEvent (s.setF F.TTS_STAT_MISSED_SEEN 1 (n - 4)) n (0x80 + k) 0xCA w (word (s.ttsCycle n))

/-! ### Enable and disable (R440, R447) -/

/-- A write of TTS_CTL with EN from 0 to 1 is refused (R447). -/
def ttsEnableRefuse (s : State) (n : Nat) (v : Word) : Bool :=
  let b := n - 4
  let cyc := s.f F.TTS_CYC_CYC_LEN b
  let ncol := s.f F.TTS_CFG_NCOL b
  let txen := s.f F.TTS_CFG_TXEN b
  let start := fun w => s.f F.TTS_START_V b w
  let len := fun w => s.f F.TTS_LEN_V b w
  let ref : CanFrame := ⟨maskBit (s.rd R.TTS_REFID b) 29, false, false, false, false, 0, 1, [], 0⟩
  let busy := fun k => s.txSt n k == txPending || s.txSt n k == txActive
  (s.canX n).mode != 1 || decide (cyc < 1000) || decide (10000000 < cyc) || decide (6 < s.f F.TTS_CYC_NCYC_LOG b)
    || ncol == 0 || decide (32 < ncol) || txen == 0
    || (List.range ncol).any (fun w => len w == 0 || (w != 0 && decide (start w < start (w - 1) + len (w - 1))))
    || decide (100 * start 0 < worstNs s n ref + txen * canNbit s n)
    || decide (cyc < start (ncol - 1) + len (ncol - 1))
    || (maskBit v 1 && (busy 30 || busy 31 ||
        (List.range (ttsNcyc s n)).any (fun y => (List.range ncol).any (fun w =>
          let c := ttsCell s n y w
          c.1 == 1 && (c.2 == 30 || c.2 == 31)))))

/-- A write of TTS_CTL is refused, RWL fields apart. -/
def ttsCtlRefuse (s : State) (n : Nat) (v : Word) : Bool :=
  maskBit v 0 && !s.fb F.TTS_CTL_EN (n - 4) && ttsEnableRefuse s n v

/-- A write of TTS_CTL changed EN (R440): `was` is its value before. -/
def ttsCtlWrite (s : State) (n : Nat) (was : Bool) : State :=
  let now := s.fb F.TTS_CTL_EN (n - 4)
  if now && !was then ttsTo (s.setTts n { watchAt := s.elapsed }) n tsSyncing
  else if was && !now then
    let s := if s.fb F.TTS_CTL_ROLE (n - 4) then ttsWithdraw (ttsWithdraw s n 30) n 31 else s
    ttsTo (s.setTts n {}) n tsOff
  else s

/-- Channel `n` goes bus-off: its board is SYNCING, and an own reference message that waits is withdrawn; the next one
follows an expiry of the watch (R440). DEDUCED: log entry 66. -/
def ttsBusOff (s : State) (n : Nat) : State :=
  if boardOn s n ∧ tsSlave ≤ s.ttsSt n then
    let s := if boardOwns s n 30 then ttsWithdraw s n 30 else s
    ttsTo (s.setTts n { s.ttsX n with sched := none, refDue := none }) n tsSyncing
  else s

/-- A TTS register as it reads: TTS_CYCTIME is the cycle time now in 100 ns. -/
def ttsPeek (s : State) (d : RegDesc) (i j : Nat) : Word :=
  match d.id with
  | .TTS_CYCTIME =>
    let x := s.ttsX (4 + i)
    if x.seen then word ((s.elapsed - x.markAt) / 100) else 0
  | _ => s.rd d i j

end Sys2Proof.Machine
end

