-- ==== Sys2Proof/Machine/Can.lean ====
section
/-! DEFINITION. Sys2Proof/Machine/Can.lean: what happens on the CAN channels and their counting boards, and their register
writes (spec/11_bus_controller.md R392 to R418; spec/12_time_and_schedule.md R436 to R448). -/

namespace Sys2Proof.Machine

/-! ### Error counters (R414, R416; ISO 11898-1) -/

/-- The error counters become `tec` and `rcv`, held at 511; a change of state they decide posts event 0xC6, and bus-off
takes the board to SYNCING (R414, R416, R440). PRESUMED: log entry 30. -/
def canCounters (s : State) (n tec rcv : Nat) : State :=
  let tec := min 511 tec
  let rcv := min 511 rcv
  let was := s.f F.CAN_STAT_ESTATE n
  let s := (s.setF F.CAN_ERRC_TEC tec n).setF F.CAN_ERRC_REC rcv n
  let st := if 255 < tec then 2 else if 127 < tec ∨ 127 < rcv then 1 else 0
  if st = was then s
  else
    let s := s.setF F.CAN_STAT_ESTATE st n
    let s := canEvent s n 0xFF 0xC6 st (word (tec + rcv * 65536))
    if st = 2 then ttsBusOff (s.setF F.CAN_STAT_BOFF_SEEN 1 n) n else s

/-- What an error counts in TEC and REC. -/
def errorCounts (e : CanError) : Nat × Nat :=
  match e with
  | .receiver => (0, 1)
  | .receiverAfterFlag => (0, 8)
  | .transmitter => (8, 0)
  | .uncounted => (0, 0)
  | .flagTransmitter => (8, 0)
  | .flagReceiver => (0, 8)

/-- A frame received without error takes REC down: by one, or from above 127 to a value from 119 to 127. A channel that
receives is not bus-off, so its TEC is 255 at most. -/
def recDown (s : State) (n : Nat) : State :=
  let r := s.f F.CAN_ERRC_REC n
  let t := min 255 (s.f F.CAN_ERRC_TEC n)
  if r = 0 then s
  else if r ≤ 127 then canCounters s n t (r - 1)
  else
    let (k, s) := s.takeFresh
    canCounters s n t (119 + Config.freeNat k % 9)

/-- Channel `n` takes part on the bus: it samples it, has integrated, and is not bus-off or recovering. -/
def canListens (s : State) (n : Nat) : Bool :=
  let x := s.canX n
  s.domOn 6 && x.mode != 0 && x.synced && decide (s.f F.CAN_STAT_ESTATE n ≤ 1)

/-! ### Reception -/

/-- A frame from the bus is received by channel `n` (R396, R414, R436, R438). A remote FD frame, or an FD frame with
FDE = 0, is not valid (R388). DESIGN CHOICE: log entry 63. -/
def canReceive (s : State) (n : Nat) (f : CanFrame) : State :=
  let x := s.canX n
  if canListens s n ∧ x.mode ≠ 3 ∧ x.active = none ∧ (!f.fdf || (!f.rtr && s.fb F.CAN_CTL_FDE n)) then
    let s := s.setCan n { x with busy := false }
    let s := rxFrame s n f (s.tbNow - f.ago)
    let s := if x.mode = 1 then recDown s n else s
    ttsFrame s n (canHdr f) (canPayload f) (canLen f) f.ago
  else s

/-- The classical data frame of a board's message: identifier `h` with rank `r`. -/
def boardFrame (h : Word) (r : Nat) (d : List Byte) (ago : Nat) : CanFrame :=
  let h := rankHdr h r
  { ide := maskBit h 29, rtr := false, fdf := false, brs := false, esi := false, id := BitVec.ofNat 29 (bits h 28 0),
    dlc := BitVec.ofNat 4 d.length, data := d, ago := ago }

/-- REFERENCE_MESSAGE (R436, R440): a reference message of rank `r` from the bus on channel 4 + c. -/
def execReferenceMessage (c : Fin 2) (r : BitVec 3) (byte0 : Byte) (ago : Nat) (s : State) :
    Host.Outcome State Fault Refusal :=
  .next (canReceive s (4 + c.val) (boardFrame (s.rd R.TTS_REFID c) r.toNat [byte0] ago))

/-- TIME_MARK (R438): a time mark of rank `r` from the bus on channel 4 + c, with the TB_NOW it carries. -/
def execTimeMark (c : Fin 2) (r : BitVec 3) (t : BitVec 64) (ago : Nat) (s : State) :
    Host.Outcome State Fault Refusal :=
  .next (
    let d := (List.range 8).map (fun i => BitVec.ofNat 8 (t.toNat >>> (8 * i)))
    canReceive s (4 + c.val) (boardFrame (s.rd R.TTS_TMID c) r.toNat d ago))

/-! ### Transmission -/

/-- TX_START (R409, R411): a start point of channel `n`. -/
def execTxStart (n : Fin 6) (s : State) : Host.Outcome State Fault Refusal := .next (canStart s n)

/-- The delay of R391 measured in an FD frame. DEDUCED: log entry 71. -/
def tdcMeasured (s : State) (n k : Nat) (tdcv : Byte) : State :=
  if maskBit (s.txW n k 1) 4 && s.fb F.CAN_TDC_TDCE n then s.setF F.CAN_TDC_TDCV tdcv.toNat n else s

/-- TRANSMITTED (R391, R392, R412, R413, R441, R444): the ACTIVE buffer's frame ends without error; in LOOPBACK it is
received as well. DESIGN CHOICE: log entry 64. -/
def execTransmitted (n : Fin 6) (tdcv : Byte) (s : State) : Host.Outcome State Fault Refusal :=
  .next (
    let n := n.val
    let x := s.canX n
    match x.active with
    | some k =>
      if !s.domOn 6 then s
      else
        let sof := canNsample s n
        let s := if x.mode = 3 then rxFrame s n (s.txFrame n k) (x.startTb + sof) else s
        let late := bit (s.txCancelPend n k)
        let s := tdcMeasured (s.setTxF n k 3 3 late) n k tdcv
        let s := txEnd s n k txDone 0xC1 late
        let s := s.setCan n { s.canX n with busy := false, active := none }
        let s := canCounters s n (s.f F.CAN_ERRC_TEC n - 1) (s.f F.CAN_ERRC_REC n)
        let s := ttsCellEnd s n 1
        if k = 30 ∧ boardOwns s n 30 then ttsRefSent s n (s.elapsed - (x.startAt + sof)) else s
    | none => s)

/-- ARBITRATION_LOST (R410): the ACTIVE buffer loses arbitration; the winner's frame stays on the bus. -/
def execArbitrationLost (n : Fin 6) (s : State) : Host.Outcome State Fault Refusal :=
  .next (
    let n := n.val
    let x := s.canX n
    match x.active with
    | some k =>
      if !s.domOn 6 then s
      else
        let s := s.setCan n { x with active := none }
        let a := min 255 (s.txArb n k + 1)
        let s := s.setTxF n k 15 8 a
        let s := if bits (s.txW n k 2) 7 0 < a then txEnd s n k txAbandoned 0xC4 1 else s.setTxSt n k txPending
        ttsCellLost s n
    | none => s)

/-- The ACTIVE buffer's frame meets an error (R410, R412, R413, R444). -/
def txError (s : State) (n k : Nat) : State :=
  let e := min 255 (s.txErr n k + 1)
  let s := s.setTxF n k 23 16 e
  let s :=
    if s.txCancelPend n k then txEnd s n k txCancErr 0xC3 0
    else if bits (s.txW n k 2) 15 8 < e then txEnd s n k txAbandoned 0xC4 2
    else s.setTxSt n k txPending
  ttsCellEnd s n 3

/-- BUS_ERROR (R394, R410, R414, R416): an error on the bus of channel `n`, with the delay measured in the frame it hits
if that went so far. In LISTEN nothing counts. -/
def execBusError (n : Fin 6) (e : CanError) (tdcv : Option Byte) (s : State) : Host.Outcome State Fault Refusal :=
  .next (
    let n := n.val
    let x := s.canX n
    if !canListens s n ∨ (e = .transmitter ∧ x.active = none) then s
    else
      let s := s.setCan n { x with busy := false, active := none }
      let s := match x.active with
        | some k =>
          let s := match tdcv with
            | some t => tdcMeasured s n k t
            | none => s
          txError s n k
        | none => s
      if x.mode = 2 then s
      else
        let (t, r) := errorCounts e
        canCounters s n (s.f F.CAN_ERRC_TEC n + t) (s.f F.CAN_ERRC_REC n + r))

/-- RECOVERY_COMPLETE (R414, R415, R417): error-active again, and aged-out buffers become STALE. In LISTEN and OFF, where
the counters do not change, no recovery ends (R394).
DEDUCED: log entry 62. -/
def execRecoveryComplete (n : Fin 6) (s : State) : Host.Outcome State Fault Refusal :=
  .next (
    let n := n.val
    if s.domOn 6 ∧ s.f F.CAN_STAT_ESTATE n = 3 ∧ ((s.canX n).mode = 1 ∨ (s.canX n).mode = 3) then
      let s := canCounters s n 0 0
      let s := canEvent s n 0xFF 0xC7 0 0
      let t := s.ttsX n
      let s := if boardOn s n ∧ !t.seen then s.setTts n { t with watchAt := s.elapsed } else s
      txStaleAll s n
    else s)

/-! ### Modes (R393) -/

/-- The mode `m` comes into force; leaving OFF, the channel integrates anew. -/
def canModeNow (s : State) (n m : Nat) : State :=
  let x := s.canX n
  let s := s.setF F.CAN_STAT_MODE_PEND 0 n
  s.setCan n { x with mode := m, synced := x.synced && x.mode != 0 && m != 0, busy := x.busy && m != 0 }

/-- MODE_CHANGE_EFFECT (R393): the frame in progress has ended, and the pending mode comes into force. -/
def execModeChangeEffect (n : Fin 6) (s : State) : Host.Outcome State Fault Refusal :=
  .next (
    if s.domOn 6 ∧ s.fb F.CAN_STAT_MODE_PEND n ∧ !(s.canX n).busy then canModeNow s n (s.f F.CAN_CTL_MODE n) else s)

/-- BUS_INTEGRATION (R393): 11 consecutive recessive bits. -/
def execBusIntegration (n : Fin 6) (s : State) : Host.Outcome State Fault Refusal :=
  .next (
    let x := s.canX n
    if s.domOn 6 ∧ x.mode ≠ 0 then s.setCan n { x with synced := true } else s)

/-! ### The boards -/

/-- WATCH_EXPIRY (R440): no reference message within CYC_LEN + REF_TO. A slave is SYNCING again; a potential master
requests its own reference message at once with cycle count 0, in place of one that waits with another. -/
def execWatchExpiry (c : Fin 2) (s : State) : Host.Outcome State Fault Refusal :=
  .next (
    let n := 4 + c.val
    if boardOn s n ∧ (s.ttsSt n = tsSyncing ∨ s.ttsSt n = tsSlave)
        ∧ (s.ttsX n).watchAt + cycNs s n + 1000 * s.f F.TTS_CFG_REF_TO c ≤ s.elapsed then
      let s := ttsTo s n tsSyncing
      let waits := s.txSt n 30 == txPending && (s.ttsX n).refDue == some 0
      if s.fb F.TTS_CTL_ROLE c ∧ !waits ∧ s.txSt n 30 ≠ txActive then ttsRequest s n 0 s.elapsed else s
    else s)

/-- REFERENCE_REQUEST (R440, R441): a master's next reference message is due; a potential master with PREEMPT requests
one at the start of the cycle it expects from a master of lower priority. -/
def execReferenceRequest (c : Fin 2) (s : State) : Host.Outcome State Fault Refusal :=
  .next (
    let n := 4 + c.val
    let x := s.ttsX n
    let next := (s.ttsCycle n + 1) % ttsNcyc s n
    if !boardOn s n ∨ s.txSt n 30 = txPending ∨ s.txSt n 30 = txActive then s
    else if s.ttsSt n = tsMaster then
      match x.sched with
      | some t => if t + cycNs s n ≤ s.elapsed then ttsRequest s n next (t + cycNs s n) else s
      | none => s
    else if s.ttsSt n = tsSlave ∧ s.fb F.TTS_CTL_ROLE c ∧ s.fb F.TTS_CTL_PREEMPT c ∧ !x.preempted
        ∧ s.f F.TTS_CTL_RANK c < s.f F.TTS_STAT_MRANK c ∧ x.markAt + cycNs s n ≤ s.elapsed then
      ttsRequest (s.setTts n { x with preempted := true }) n next s.elapsed
    else s)

/-- The start of the next window in elapsed time. In SYNCING the schedule goes on past the end of the cycle (R446). -/
def ttsNextStart (s : State) (n : Nat) : Nat :=
  let x := s.ttsX n
  let ncol := max 1 (s.f F.TTS_CFG_NCOL (n - 4))
  x.markAt + x.begun / ncol * cycNs s n + 100 * s.f F.TTS_START_V (n - 4) (x.begun % ncol)

/-- TTS_WINDOW_START (R443, R444, R445): the next window of the cycle opens and acts on its cell. -/
def execTtsWindowStart (c : Fin 2) (s : State) : Host.Outcome State Fault Refusal :=
  .next (
    let n := 4 + c.val
    let x := s.ttsX n
    let ncol := s.f F.TTS_CFG_NCOL c
    if boardOn s n ∧ x.seen ∧ x.win = none ∧ (x.begun < ncol ∨ s.ttsSt n = tsSyncing) ∧ ttsNextStart s n ≤ s.elapsed then
      let w := x.begun % max 1 ncol
      let (kind, buf) := ttsCell s n (s.ttsCycle n) w
      let at_ := ttsNextStart s n
      let s := s.setTts n { x with
        begun := x.begun + 1, win := some ⟨w, kind, buf, at_, at_ + 100 * s.f F.TTS_LEN_V c w, false⟩ }
      let s := if kind = 3 ∧ s.ttsSt n = tsMaster ∧ s.txSt n 31 ≠ txActive then ttsMarkRequest s n else s
      if s.ttsSt n = tsSyncing then s else canStart s n
    else s)

/-- TTS_WINDOW_END (R444, R446): the open window ends, and its cell gets its outcome; one whose frame has started gets
it as that ends. -/
def execTtsWindowEnd (c : Fin 2) (s : State) : Host.Outcome State Fault Refusal :=
  .next (
    let n := 4 + c.val
    let x := s.ttsX n
    match x.win with
    | some w =>
      if boardOn s n ∧ w.endAt ≤ s.elapsed then
        let y := s.ttsCycle n
        let s := s.setTts n { x with win := none }
        let mark := w.kind = 3 ∧ s.ttsSt n = tsMaster
        let buf := if w.kind = 3 then 31 else w.buf
        if w.started then s
        else if s.txSt n buf = txPending ∧ ((w.kind = 1 ∧ s.txTT n buf) ∨ mark) then
          let s := ttsMissed s n y w.col buf
          if mark then ttsWithdraw s n 31 else s
        else ttsOut s n y w.col 0
      else s
    | none => s)

/-! ### Register writes -/

/-- RWL fields of a channel may change: its MODE in force is OFF (R393). -/
def canOff (s : State) (n : Nat) : Bool := (s.canX n).mode == 0

/-- A write of CAN_CTL is refused, RWL fields apart (R390, R393, R442). -/
def canCtlRefuse (s : State) (n : Nat) (v : Word) : Bool :=
  let m := bits v 1 0
  s.changes F.CAN_CTL_MODE v n &&
    (decide (2 ≤ s.f F.CAN_STAT_ESTATE n) || (boardOn s n && m != 1)
      || (canOff s n && m != 0 && canTimingBad s n (maskBit v 4)))

/-- A frame is in progress on the bus (R393): one the channel knows of, or another node's, whose start no command tells and
which a channel that samples the bus may find there: a free value. DESIGN CHOICE: log entry 156. -/
def canBusBusy (s : State) (n : Nat) : Bool × State :=
  let x := s.canX n
  if x.busy || s.fb F.CAN_STAT_MODE_PEND n then (true, s)
  else if x.synced && (x.mode == 1 || x.mode == 2) then
    let (k, s) := s.takeFresh
    (Config.freeNat k % 2 == 1, s)
  else (false, s)

/-- A write of CAN_CTL takes effect (R393, R396). -/
def canCtlWrite (s : State) (n : Nat) (v : Word) : State :=
  let s := if maskBit v 8 then
      ((s.wr R.CAN_RXCNT 0 n).wr R.CAN_RXSTORED 0 n).wr R.CAN_RXOVR 0 n |>.wr R.CAN_RXFILT 0 n
    else s
  let m := s.f F.CAN_CTL_MODE n
  let x := s.canX n
  if m = x.mode then s.setF F.CAN_STAT_MODE_PEND 0 n
  else
    let (busy, s) := canBusBusy s n
    if busy then s.setF F.CAN_STAT_MODE_PEND 1 n else canModeNow s n m

/-- The request of transmit buffer `k` is refused (R408, R439). -/
def txReqRefuse (s : State) (n k : Nat) : Bool :=
  let h := s.txW n k 0
  let w := s.txW n k 1
  let fdf := maskBit w 4
  s.txSt n k == txPending || s.txSt n k == txActive || (fdf && (!s.fb F.CAN_CTL_FDE n || maskBit h 30))
    || (maskBit w 5 && !fdf) || (maskBit w 8 && !canQueued n) || maskBit h 31 || bits w 31 9 != 0 || bits w 7 6 != 0
    || boardOwns s n k

/-- A write of CAN_TXREQ (R408). -/
def txReqWrite (s : State) (n : Nat) (v : Word) : State :=
  foldN 32 (fun s k =>
    if maskBit v k then (if txReqRefuse s n k then canRefused s n else txRequestNow s n k) else s) s

/-- A write of CAN_TXCANCEL (R412). -/
def txCancelWrite (s : State) (n : Nat) (v : Word) : State :=
  foldN 32 (fun s k =>
    if !maskBit v k then s
    else if s.txSt n k = txPending then txEnd s n k txCancelled 0xC2 0
    else if s.txSt n k = txActive then
      let x := s.canX n
      if s.elapsed < x.commitAt then
        ttsCellLost (txEnd (s.setCan n { x with active := none }) n k txCancelled 0xC2 0) n
      else s.setTxF n k 4 4 1
    else s) s

/-- A write of CAN_RXREL_LO (`hi` 0) or CAN_RXREL_HI (`hi` 1) (R400). -/
def rxRelWrite (s : State) (n hi : Nat) (v : Word) : State :=
  if canQueued n then s
  else foldN 32 (fun s k => if maskBit v k then rxRelease s n (32 * hi + k) else s) s

/-- A write of CAN_RECOVER (R415). -/
def canRecoverWrite (s : State) (n : Nat) (v : Word) : State :=
  if !maskBit v 0 then s
  else if s.f F.CAN_STAT_ESTATE n = 2 then s.setF F.CAN_STAT_ESTATE 3 n
  else canRefused s n

/-- A write of CAN_RXBCFG is refused, RWL fields apart (R423). -/
def rxbcfgRefuse (s : State) (n k : Nat) (v : Word) : Bool :=
  maskBit v 0 && !s.fb F.CAN_RXBCFG_EN n k &&
    (decide (2 ≤ bits v 3 2) || (canQueued n && bits v 25 24 == 3) || (tabFind s.programs (bits v 11 8)).isNone)

/-- A write of word `w` of transmit buffer `k` is refused (R407, R439): the status word is read-only. -/
def txbRefuse (s : State) (n k w : Nat) (v : Word) : Bool :=
  decide (w < 20) && w != 3 &&
    (boardOwns s n k || ((s.txSt n k == txPending || s.txSt n k == txActive) && v != s.txW n k w))

/-- Bits of CAN_RXBCFG that a channel's kind leaves out (R420, R423): EVT and HP on queued channels, QSEL on the
others. -/
def rxbcfgMask (n : Nat) (v : Word) : Word :=
  if canQueued n then putBits (putBits v 5 4 0) 1 1 0 else putBits v 25 24 0

/-- The CAN and TTS registers at a switch-on of PD6 (R395): CAN_WAKE, in PD0, stays. -/
def canReset (s : State) : State :=
  let wake := s.rd R.CAN_WAKE
  let s := { s with regs := tabDropRange s.regs 0x50000000 0x50FFFFFF, can := [], tts := [] }
  if wake = 0 then s else s.wr R.CAN_WAKE wake

/-- A CAN register as it reads, receive buffers apart. -/
def canPeek (s : State) (d : RegDesc) (i j : Nat) : Word :=
  match d.id with
  | .CAN_TXPEND => word (maskOf 32 (fun k => s.txSt i k == txPending || s.txSt i k == txActive))
  | .CAN_TXB => if 20 ≤ j % 32 then 0 else s.rd d i j
  | .CAN_RXB => if canQueued i || 20 ≤ j % 32 then 0 else s.rd d i j
  | .CAN_RXF | .CAN_RXM | .CAN_RXBCFG => if canQueued i && 32 ≤ j then 0 else s.rd d i j
  | .CAN_QLOST_A | .CAN_QLOST_B => if canQueued i then s.rd d i j else 0
  | _ => s.rd d i j

/-- A CAN register instance that a channel's kind leaves out: it reads zero and ignores writes (R420). -/
def canHidden (d : RegDesc) (i j : Nat) : Bool :=
  match d.id with
  | .CAN_RXF | .CAN_RXM | .CAN_RXBCFG => canQueued i && decide (32 ≤ j)
  | .CAN_TXB => decide (20 ≤ j % 32)
  | _ => false

end Sys2Proof.Machine
end

