-- ==== Sys2Proof/Machine/Operands.lean ====
section
/-! DEFINITION. Sys2Proof/Machine/Operands.lean: a Rod's registers as its instructions name them, and the operand
constraints of R92 and R93. -/

namespace Sys2Proof.Machine

/-- General register `n` of Rod `r`: g0 reads zero (R41). -/
def gReg (s : State) (r : Nat) (n : BitVec 5) : Word := if n = 0 then 0 else tabGet 0 (s.rod r).g n.toNat

/-- Write general register `n`: a write of g0 is discarded (R41). -/
def setG (s : State) (r : Nat) (n : BitVec 5) (v : Word) : State :=
  if n = 0 then s
  else
    let x := s.rod r
    s.setRod r { x with g := tabPut x.g n.toNat v }

/-- Wide register `n` of Rod `r`, named by bits 2:0 (R93). -/
def wReg (s : State) (r : Nat) (n : BitVec 5) : Bead := tabGet 0 (s.rod r).w (n.toNat % 8)

/-- Write wide register `n`. -/
def setW (s : State) (r : Nat) (n : BitVec 5) (v : Bead) : State :=
  let x := s.rod r
  s.setRod r { x with w := tabPut x.w (n.toNat % 8) v }

/-- The pair at `n`: g(n) the low word, g(n + 1) the high word (R93). -/
def gPair (s : State) (r : Nat) (n : BitVec 5) : Nat := (gReg s r n).toNat + (gReg s r (n + 1)).toNat * 2 ^ 32

/-- Write the pair at `n`. -/
def setPair (s : State) (r : Nat) (n : BitVec 5) (v : Nat) : State :=
  setG (setG s r n (word v)) r (n + 1) (word (v / 2 ^ 32))

/-- A field that names a wide register breaks its constraint: bits 4:3 not zero (R93). -/
def badWide (n : BitVec 5) : Bool := decide (8 ≤ n.toNat)

/-- A field that names a register pair breaks its constraint: not even, or zero (R93). -/
def badPair (n : BitVec 5) : Bool := n == 0 || n.toNat % 2 == 1

/-- The byte address of a load or store: ga + sext(offset, 16), modulo 2^32 (R110). -/
def memAddr (s : State) (r : Nat) (f : MemForm) : Nat := (gReg s r f.a + f.off.signExtend 32).toNat

/-- The register address of an IN or OUT: ga + offset, modulo 2^32 (R112). -/
def ioData (s : State) (r : Nat) (f : IoForm) : Nat := (gReg s r f.a + f.off.setWidth 32).toNat

/-- The register that address `a` names to Rod `r`: its own window stands for its own Frame registers (R44, R87). -/
def ownWindow (r a : Nat) : Nat :=
  if 0x1100F000 ≤ a ∧ a < 0x1100F100 then 0x11001000 + r * 0x100 + (a - 0x1100F000) else a

/-- The register an IN or OUT names. -/
def ioAddr (s : State) (r : Nat) (f : IoForm) : Nat := ownWindow r (ioData s r f)

/-- The target of a branch: pc + 4 × sext(offset, 13) (R106). -/
def brTarget (pc : Word) (f : BrForm) : Word := pc + 4 * f.off.signExtend 32

/-- The target of a JMP-class word: base + 4 × sext(IMM, 18), the base pc where A = 0 (R107). -/
def jmpTarget (s : State) (r : Nat) (f : ImmForm) : Word :=
  (if f.a = 0 then (s.rod r).pc else gReg s r f.a) + 4 * f.imm.signExtend 32

end Sys2Proof.Machine
end

