-- ==== Sys2Proof/Machine/Rods.lean ====
section
/-! DEFINITION. Sys2Proof/Machine/Rods.lean: what becomes of a Rod: starts, stops, spares and migrations
(spec/02_coxis_model.md R68 to R72, R84 to R89; spec/14_store_and_spares.md R520 to R524). -/

namespace Sys2Proof.Machine

/-! ### The state of a Rod (R89) -/

/-- HALTED. -/
def rodHalted : Nat := 0
/-- RUNNING. -/
def rodRunning : Nat := 1
/-- WAITING. -/
def rodWaiting : Nat := 2
/-- FAULTED. -/
def rodFaulted : Nat := 3
/-- SHED. -/
def rodShed : Nat := 4
/-- STARTING. -/
def rodStarting : Nat := 5

/-- FRM_RSTAT.STATE of logical Rod `r`. -/
def State.rodSt (s : State) (r : Nat) : Nat := s.f F.FRM_RSTAT_STATE r
/-- The time logical Rod `r` has executed outside WAIT on its physical Rod (R71, R87). -/
def State.rodRan (s : State) (r : Nat) : Nat :=
  match (s.rod r).runFrom with
  | some t => (s.rod r).ran + (s.elapsed - t)
  | none => (s.rod r).ran

/-- Change FRM_RSTAT.STATE; only a RUNNING Rod adds to the time it has executed. DEDUCED: log entry 117. -/
def State.setRodSt (s : State) (r st : Nat) : State :=
  let x := s.rod r
  let x := if st = rodRunning then { x with runFrom := some (x.runFrom.getD s.elapsed) }
    else { x with ran := s.rodRan r, runFrom := none }
  (s.setRod r x).setF F.FRM_RSTAT_STATE st r

/-- What logical Rod `r` is held in. -/
def setHold (s : State) (r : Nat) (h : RodHold) : State := s.setRod r { s.rod r with hold := h }

/-- Rod `r` is between instructions and runs. -/
def State.canRun (s : State) (r : Nat) : Bool :=
  s.domOn 2 && s.rodSt r == rodRunning && (s.rod r).hold == .none

/-- The instruction of Rod `r` completes at `next` (R87: FRM_PC is the pc of the last instruction completed). -/
def rodGoto (s : State) (r : Nat) (next : Word) : State :=
  let x := s.rod r
  (s.setRod r { x with pc := next }).wr R.FRM_PC x.pc r

/-- The instruction of Rod `r` completes, and execution goes on in sequence. -/
def rodDone (s : State) (r : Nat) : State := rodGoto s r ((s.rod r).pc + 4)

/-- End the PUSH of every Rod whose reservation on ring `n` has committed: status 0 (R53). -/
def pushFinish (s : State) (n : Nat) : State :=
  foldN 16 (fun s r =>
    match (s.rod r).hold with
    | .pushing d n' slot =>
      if n' = n && !(s.ring n).resv.any (fun v => v.slot == slot) then
        rodDone (setG (setHold s r .none) r (BitVec.ofNat 5 d) 0) r
      else s
    | _ => s) s

/-- The instruction Rod `r` is held in is abandoned, and every reservation it holds, its bead written or not, is void;
what follows commits, and the PUSH of each Rod whose slot then commits ends (R53, R54, R57, R88). -/
def voidReservations (s : State) (r : Nat) : State :=
  foldN 32 (fun s n =>
    let x := s.ring n
    if x.resv.any (fun v => v.rod == some r) then
      pushFinish (ringCommit (s.setRing n { x with resv := x.resv.map (fun v =>
        if v.rod == some r then { v with written := true, isVoid := true } else v) }) n) n
    else s) (setHold s r .none)

/-- Restarts of Rod `r` within the last 60 s (R86, R89). -/
def restartsNow (s : State) (r : Nat) : Nat :=
  ((s.rod r).restarts.filter (fun t => decide (s.elapsed < t + 60000000000))).length

/-- The doorbell bits of Rod `r` written in this step (R12). -/
def bellsWritten (s : State) (r : Nat) : Nat :=
  match (s.rod r).bellWr with
  | some (t, m) => if t = s.elapsed then m else 0
  | none => 0

/-- A write of 1 to doorbell bits of Rod `r` (R66). -/
def bellWrite (s : State) (r mask : Nat) : State :=
  if s.domOn 2 then
    (ringBell s r mask).setRod r { s.rod r with bellWr := some (s.elapsed, bellsWritten s r ||| (mask % 2 ^ 16)) }
  else s

/-- Start or restart the program of Rod `r` under R84: everything but the template copy, which
TEMPLATE_COPY_DONE ends. A stop that still pends goes on pending (R88); a doorbell written in this step stays set (R12). -/
def startProgram (s : State) (r : Nat) : State :=
  match tabFind s.programs r with
  | none => s
  | some p =>
    let x := s.rod r
    let g := tabPut (tabPut [] 1 (word p.dataBase)) 2 (word r)
    let s := s.setRod r { x with
      g := g, w := [], pc := p.entry, scratch := [], inHandler := false, hold := .none }
    let s := { s with beadErr := tabDropRange s.beadErr (scratchBead r 0) (scratchBead r 0x3FFF) }
    let s := s.setF F.FRM_DOORBELL_V (bellsWritten s r) r
    ((s.setF F.FRM_RSTAT_SAT 0 r).setF F.FRM_RSTAT_OVF 0 r).setRodSt r rodStarting

/-! ### Stops (R88) -/

/-- An access class of R73 as a bit of a FENCE mask: M, I, Q, S, T (R122). -/
def ioClass (addr : Nat) : Nat :=
  if 0x10020000 ≤ addr ∧ addr < 0x10030000 then 3
  else if 0x10030000 ≤ addr ∧ addr < 0x10040000 then 4
  else if (List.range 24).any (fun n => addr == R.SOL_CMD.addr n) then 4
  else 1

/-- The class of an outstanding access. -/
def postedClass : Posted → Nat
  | .store .. => 0
  | .out a _ => ioClass a
  | .commit => 3
  | .logw _ => 3

/-- Rod `r` has an access of a class in the mask outstanding. -/
def outstanding (s : State) (r mask : Nat) : Bool := (s.rod r).posted.any (fun p => mask.testBit (postedClass p))

/-- Rod `r` is at a safe point: in a WAIT, or in a FENCE that waits on an S or T access (R67, R123). -/
def State.atSafePoint (s : State) (r : Nat) : Bool :=
  match (s.rod r).hold with
  | .wait _ => true
  | .fence m => outstanding s r (m &&& 24)
  | _ => false

/-- The stop of Rod `r` has ended: STOP clears, but for a STOP written in this step (R12). DEDUCED: log entry 118. -/
def stopClear (s : State) (r : Nat) : State :=
  let x := s.rod r
  let s := s.setRod r { x with stopAt := none, haltAt := some s.elapsed }
  if x.stopWr = some s.elapsed then s else s.setF F.FRM_RCTL_STOP 0 r

/-- Rod `r` stops: the instruction in progress is abandoned, its reservations voided, and it becomes HALTED (R88). -/
def rodHaltNow (s : State) (r : Nat) : State := (stopClear (voidReservations s r) r).setRodSt r rodHalted

/-! ### Physical Rods, spares and migration -/

/-- The physical Rod of logical Rod `r`: byte of HLT_RODMAP, 0xFF where none (R530). -/
def State.physOf (s : State) (r : Nat) : Nat :=
  bits (s.rd R.HLT_RODMAP (r / 4)) (8 * (r % 4) + 7) (8 * (r % 4))

/-- The measured rate of Rod `r` (R33): a free value where it has executed for 1 ms on its physical Rod and further since
the last measurement; else FRM_PACE holds (R71, R87). DEDUCED: log entry 117. -/
def paceMeasure (s : State) (r : Nat) : State :=
  let now := s.rodRan r
  if now < 1000000 ∨ (s.rod r).paceAt = some now then s
  else
    let (w, s) := freeReading s
    (s.setF F.FRM_PACE_RATE w.toNat r).setRod r { s.rod r with paceAt := some now }

/-- HLT_RODMAP shows physical Rod `p` for logical Rod `r`, 0xFF for none (R530). -/
def mapRod (s : State) (r p : Nat) : State :=
  s.wr R.HLT_RODMAP (putBits (s.rd R.HLT_RODMAP (r / 4)) (8 * (r % 4) + 7) (8 * (r % 4)) p) (r / 4)

/-- Bind logical Rod `r` to physical Rod `p`: FRM_PACE takes the last measurement on the old one, and measures that one from
here on (R71). -/
def bindRod (s : State) (r p : Nat) : State :=
  let s := paceMeasure s r
  let x := s.rod r
  mapRod (s.setRod r { x with ran := 0, runFrom := x.runFrom.map (fun _ => s.elapsed), paceAt := none }) r p

/-- The spare physical Rods: healthy, bound to no logical Rod, and not taken by a migration (R524). -/
def spareRods (s : State) : List Nat :=
  (List.range 18).filter (fun p => !s.sto.umap.rods.contains p &&
    !(List.range 16).any (fun r => s.physOf r == p) && !s.migration.any (fun m => m.phys == p))

/-- Spare counts shown in HLT_POOLS, EXHAUSTED, and event 0xF9 once for each pool that has run out (R525, R530). A pool
of an absent unit is neither counted nor reported (R5). -/
def poolsUpdate (s : State) : State :=
  let u := s.sto.umap
  let rods := (spareRods s).length
  let mx := bit (u.matrix.length == 0)
  let pp := 4 - u.ppaths.length
  let dp := if s.hasDfe then bit (u.dpaths.length == 0) else 0
  let sec := 8 - u.sections.length
  let s := ((s.setF F.HLT_POOLS_RODS rods).setF F.HLT_POOLS_MATRIX mx).setF F.HLT_POOLS_PPATHS pp
  let s := (s.setF F.HLT_POOLS_DPATH dp).setF F.HLT_POOLS_SECTIONS sec
  let out := (if rods = 0 then [1] else []) ++ (if mx = 0 then [2] else []) ++ (if pp = 0 then [3] else [])
    ++ (if dp = 0 && s.hasDfe then [4] else []) ++ (if sec = 0 then [5] else [])
  let s := s.setB F.HLT_STAT_EXHAUSTED (!out.isEmpty)
  let s := (out.filter (fun p => !s.sto.exhausted.contains p)).foldl
    (fun s p => healthEvent s 0 p 0xF9 p 0) s
  { s with sto := { s.sto with exhausted := out } }

/-- Retire physical Rod `p`: it enters the unit map (R513, R514). -/
def retireRod (s : State) (p : Nat) : State :=
  if s.sto.umap.rods.contains p then s
  else s.setMap { s.sto.umap with rods := s.sto.umap.rods ++ [p] }

/-- Logical Rod `r` becomes SHED: it runs nothing, its physical Rod is free, and event 0xF2 reports it (R522, R523). It
stops at once (R524), and a migration of it ends. DEDUCED: log entry 102. DEDUCED: log entry 161. -/
def shedRod (s : State) (r : Nat) : State :=
  let s := if s.migration.any (fun m => m.rod == r) then { s with migration := none, migEnd := some s.elapsed } else s
  let s := voidReservations s r
  let s := (stopClear (s.setRod r { s.rod r with marked := false }) r).setRodSt r rodShed
  let s := (bindRod s r 0xFF).setMask R.HLT_SHED r true
  healthEvent s r 1 0xF2 (s.f F.FRM_RSTAT_PRIO r) 0

/-- The victim of R522 among the logical Rods not SHED: one no program names first, then the lowest PRIORITY, among
equals the highest number. -/
def shedVictim (s : State) : Option Nat :=
  let key := fun r => match tabFind s.programs r with
    | none => (0 : Nat)
    | some p => 1 + p.priority
  ((List.range 16).filter (fun r => s.rodSt r != rodShed)).foldl
    (fun best r => match best with
      | none => some r
      | some b => if key r ≤ key b then some r else some b) none

/-- The physical Rod that a logical Rod in need of one takes: the lowest spare, else the Rod of a victim, which is shed,
or the one that the victim was moving to; none where the logical Rod is itself the victim (R522). DESIGN CHOICE: log
entry 163. -/
def takeRod (s : State) (r : Nat) : Option Nat × State :=
  match spareRods s with
  | p :: _ => (some p, s)
  | [] =>
    match shedVictim s with
    | none => (none, s)
    | some v =>
      if v = r then (none, shedRod s r)
      else
        let p := match s.migration with
          | some m => if m.rod = v then m.phys else s.physOf v
          | none => s.physOf v
        (some p, shedRod s v)

end Sys2Proof.Machine
end

