-- ==== Sys2Proof/Machine/Dfe.lean ====
section
/-! DEFINITION. Sys2Proof/Machine/Dfe.lean: the dielectric front end (spec/04_dielectric_moisture.md). -/

namespace Sys2Proof.Machine

/-- Dielectric channel `n` behind its registers. -/
def State.dfeX (s : State) (n : Nat) : DfeX := tabGet {} s.dfe n
/-- Change dielectric channel `n`. -/
def State.setDfe (s : State) (n : Nat) (x : DfeX) : State := { s with dfe := tabPut s.dfe n x }

/-- The DFE is present and its domain on. -/
def dfeOn (s : State) : Bool := s.hasDfe && s.domOn 5

/-- The AMP field of a tone word. -/
def toneAmp (w : Word) : Nat := bits w 31 24
/-- The K field of a tone word. -/
def toneK (w : Word) : Nat := bits w 20 0

/-- The staged plan of channel `n` (R156). -/
def stagedPlan (s : State) (n : Nat) : TonePlan :=
  ⟨s.f F.DFE_EXC_PLAN_FRAME_US n, s.f F.DFE_PLAN_FILT_MOUT_N n, s.f F.DFE_PLAN_FILT_FILT_N n,
   (List.range 8).map (fun k => s.rd R.DFE_TONE n k)⟩

/-- CURVE is accepted: a vendor crop curve, or a valid user curve of KIND 2 (R151, R213, R214). -/
def dfeCurveOk (s : State) (c : Nat) : Bool :=
  (decide (64 ≤ c) && decide (c ≤ 89)) || (decide (192 ≤ c) && decide (c ≤ 255) && curve2Ok s c)

/-- A tone of `k` cycles in `us` µs carries non-zero weight in curve `c` (R138, R145). -/
def toneWeighted (s : State) (c us k : Nat) : Bool :=
  (List.range 7).any (fun i =>
    let fi := nodeFreq s c i
    let fj := nodeFreq s c (i + 1)
    let wi := decide (0 < curveF s c (20 + 8 * i))
    let wj := decide (0 < curveF s c (28 + 8 * i))
    let x := k * 1000000
    (x == fi * us && wi) || (x == fj * us && wj) ||
      (decide (fi * us < x) && decide (x < fj * us) && (wi || wj)))

/-- A tone plan is valid (R138, R174, R175), for curve `c`. -/
def planOk (s : State) (c : Nat) (p : TonePlan) : Bool :=
  let used := p.tones.filter (fun t => toneAmp t != 0)
  decide (500 ≤ p.frameUs) && decide (p.frameUs ≤ 100000) && !used.isEmpty &&
    used.all (fun t => decide (p.frameUs ≤ 100 * toneK t) && decide (toneK t ≤ 20 * p.frameUs)) &&
    decide (used.map toneK).Nodup &&
    used.all (fun t => decide (10 ≤ toneAmp t) && decide (toneAmp t ≤ 250)) &&
    decide ((used.map toneAmp).sum ≤ 250) &&
    decide (10000 ≤ p.moutN * p.frameUs) && decide (p.moutN * p.frameUs ≤ 1000000) &&
    decide (1 ≤ p.moutN) && decide (p.moutN ≤ 2000) && decide (1 ≤ p.filtN) && decide (p.filtN ≤ 64) &&
    used.any (fun t => toneWeighted s c p.frameUs (toneK t))

/-- An event bead of the DFE: lane 3 the moisture published (R165). -/
def dfeEvent (s : State) (n code detail : Nat) : State := event s 16 (0x100 + n) code detail (s.rd R.DFE_CH_MOIST n)

/-- A submitted plan that passed its check waits for a frame boundary; a second replaces the first (R156, R157). -/
def planSubmit (s : State) (n : Nat) (p : TonePlan) : State :=
  let x := s.dfeX n
  let s := if x.plan.isSome then s.setF F.DFE_CH_STAT_SUPERSEDED 1 n else s
  s.setDfe n { s.dfeX n with plan := some p }

/-- Show the channel's flags: FAULT on moisture for every kind, on density for every kind but NOTEMP, and with NODENS
(R148, R153, R159, R161). -/
def dfeShow (s : State) (n : Nat) (l : List Nat) : State :=
  let un := s.f F.DFE_CH_STAT_SETTLE_LEFT n != 0
  let unw := un && !l.contains 6
  let mf := !l.isEmpty
  let df := !(dropFault l 5).isEmpty || s.fb F.DFE_CH_STAT_NODENS n
  let s := ((s.setB F.DFE_CH_STAT_FAULT mf n).setF F.DFE_CH_STAT_FKIND (l.headD 0) n).setB F.DFE_CH_STAT_UNSETTLED un n
  let s := s.setF F.DFE_CH_MFLAG_FLAGS (bit mf * flFault + bit unw * flUnsettled) n
  s.setF F.DFE_CH_DFLAG_FLAGS (bit df * flFault + bit unw * flUnsettled) n

/-- The channel's fault kinds become `l`; the events that this posts (R153, R165). DEDUCED: log entry 57. -/
def dfeSetFaults (s : State) (n : Nat) (l : List Nat) : List (Nat × Nat) × State :=
  let x := s.dfeX n
  let old := realFaults x.faults
  let ep := if old.isEmpty then (realFaults l).headD 0 else x.episode
  (faultEvents 0x40 old (realFaults l) ep, dfeShow (s.setDfe n { x with faults := l, episode := ep }) n l)

/-- Events of the DFE in order. -/
def dfeEvents (s : State) (n : Nat) (l : List (Nat × Nat)) : State := l.foldl (fun s e => dfeEvent s n e.1 e.2) s

/-- The channel's fault kinds become `l`, with events 0x40 and 0x41 (R153, R165). -/
def dfeFaults (s : State) (n : Nat) (l : List Nat) : State :=
  let (ev, s) := dfeSetFaults s n l
  dfeEvents s n ev

/-- A write of EN from 0 to 1 is refused (R166). -/
def dfeEnableRefuse (s : State) (n curve : Nat) : Bool :=
  !dfeCurveOk s curve || !planOk s curve (stagedPlan s n)

/-- EN goes from 0 to 1: the staged plan is submitted, and the words carry NOSETTLE with the value zero (R161, R166); a
channel without a path then holds PATH too, after NOSETTLE (R164). TEMP_HOLD counts from here until a valid temperature
is read (R150). DESIGN CHOICE: log entry 125. DEDUCED: log entry 130. -/
def dfeEnable (s : State) (n : Nat) : State :=
  let old := s.dfeX n
  let s := if old.plan.isSome then s.setF F.DFE_CH_STAT_SUPERSEDED 1 n else s
  let s := s.setDfe n { plan := some (stagedPlan s n), lastAt := s.elapsed, tempAt := s.elapsed, steps := s.steps,
                        faults := [6] }
  let s := ((s.wr R.DFE_CH_MOIST 0 n).wr R.DFE_CH_DENS 0 n).setF F.DFE_CH_STAT_SETTLE_LEFT 0 n
  let s := dfeShow (published (published s (0x100 + n)) (0x110 + n)) n [6]
  if tabGet n s.dfeSpare.pathOf n = 255 then dfeFaults s n [6, 4] else s

/-- EN goes from 1 to 0: the excitation stops at the next frame boundary (R166). -/
def dfeDisable (s : State) (n : Nat) : State := s.setDfe n { s.dfeX n with stopping := true }

/-! ### From admittance to moisture (R141 to R148) -/

/-- The mean I/Q of tone `k` over the frames of a filter (R139); of an empty one, whose contents the manual does not give,
zero, so that no tone remains and EMPTY follows. DESIGN CHOICE: log entry 124. Of a filter that holds fewer than FILT_N
frames it is the mean of those it holds. DESIGN CHOICE: log entry 167. -/
def meanIQ (frames : List (List IQ)) (k : Nat) : Rat × Rat :=
  let n : Rat := (max 1 frames.length : Nat)
  let sum := frames.foldl (fun (a : Int × Int) fr =>
    match fr[k]? with
    | some v => (a.1 + v.i, a.2 + v.q)
    | none => a) (0, 0)
  ((sum.1 : Rat) / n, (sum.2 : Rat) / n)

/-- The filtered I/Q of tone `k` of a channel (R139). -/
def filtered (x : DfeX) (k : Nat) : Rat × Rat := meanIQ x.frames k

/-- Cosine and sine of an angle in turns; at zero exactly 1 and 0. -/
def cosSin (t : Rat) : Rat × Rat := if t = 0 then (1, 0) else (cosTurns t, sinTurns t)

/-- The frequency of active tone `k` of channel `n` in Hz: K / T (R137). -/
def toneFreq (s : State) (n k : Nat) : Rat :=
  (s.f F.DFE_ACT_TONE_K n k * 1000000 : Nat) / ((s.f F.DFE_ACT_PLAN_FRAME_US n : Nat) : Rat)

/-- Conductance in nS and capacitance in fF of active tone `k` from its filtered I/Q (R141). -/
def admittance (s : State) (n k : Nat) (iq : Rat × Rat) : Rat × Rat :=
  let (i, q) := iq
  let v : Rat := (s.f F.DFE_ACT_TONE_AMP n k : Nat) / (100 : Rat)
  let f := toneFreq s n k
  let gain : Rat := (s.f F.DFE_CH_CAL1_CAL_GAIN n : Nat) / (0x4000 : Rat)
  let (c, sn) := cosSin (f * (s.fi F.DFE_CH_CAL1_CAL_TAU n : Rat) / (10 ^ 12 : Nat))
  let re := gain * ((i * c - q * sn) / v) - (s.fi F.DFE_CH_CAL0_CAL_GS n : Rat)
  let im := gain * ((i * sn + q * c) / v) - Config.twoPi * f * (s.fi F.DFE_CH_CAL0_CAL_CS n : Rat) / (1000000 : Nat)
  (re, im * (1000000 : Nat) / (Config.twoPi * f))

/-- Conductance and capacitance of active tone `k` as the channel measures them. -/
def toneGC (s : State) (n k : Nat) : Rat × Rat := admittance s n k (filtered (s.dfeX n) k)

/-- Coefficient number `k` (a0, a1, a2, w, d0, d1) of curve `c` at `f` Hz: linear in log10 f between the enclosing
nodes; outside the span the weight is zero and the others are not stated (R145). -/
def curveCoef (s : State) (c k : Nat) (f : Rat) : Rat :=
  let node := fun i => curveF s c (17 + 8 * i + k)
  let fr := fun i => ((nodeFreq s c i : Nat) : Rat)
  match (List.range 8).find? (fun i => decide (fr i = f)) with
  | some i => node i
  | none =>
    match (List.range 7).find? (fun i => decide (fr i < f) && decide (f < fr (i + 1))) with
    | some i =>
      let t := unitShare ((log10 f - log10 (fr i)) / (log10 (fr (i + 1)) - log10 (fr i)))
      node i + t * (node (i + 1) - node i)
    | none => if k = 3 then 0 else Config.outsideCoef c f k

/-- A tone that takes part: its frequency, ε′ − 1 and ε″. -/
structure ToneEps where
  f  : Rat
  e1 : Rat
  e2 : Rat
  deriving DecidableEq, Repr

/-- The active tones with ε′ − 1 of at least 0.05 (R141, R142). -/
def tonesLeft (s : State) (n : Nat) : List ToneEps :=
  let c0 : Rat := (10 * s.f F.DFE_CH_CELL_C0 n : Nat)
  ((List.range 8).filter (fun k => s.f F.DFE_ACT_TONE_AMP n k != 0)).filterMap (fun k =>
    let (g, c) := toneGC s n k
    let f := toneFreq s n k
    let e1 := c / c0 - 1
    if e1 < (1 : Rat) / 20 then none
    else some ⟨f, e1, g * (1000000 : Nat) / (Config.twoPi * f * c0)⟩)

/-- m0 of R146; none where no tone remains or the weights sum to zero. -/
def moisture0 (s : State) (c : Nat) (ts : List ToneEps) : Option Rat :=
  let ws := ts.map (fun t => curveCoef s c 3 t.f)
  let sum := ws.foldl (· + ·) 0
  if ts.isEmpty || sum == 0 then none
  else
    let num := ts.foldl (fun (a : Rat) t =>
      let psi := t.e2 / t.e1
      a + curveCoef s c 3 t.f * (curveCoef s c 0 t.f + curveCoef s c 1 t.f * psi + curveCoef s c 2 t.f * psi * psi)) 0
    some (num / sum)

/-- The remaining tone of highest frequency. -/
def topTone : List ToneEps → Option ToneEps
  | [] => none
  | t :: ts => match topTone ts with
    | none => some t
    | some u => if u.f < t.f then some t else some u

/-- ρ of R146 with a divisor of zero left open, and NODENS (R148). -/
def density (s : State) (c : Nat) (ts : List ToneEps) (m0 : Rat) (fresh : Nat) : Rat × Bool :=
  match topTone ts with
  | some h =>
    if ((1000000 : Nat) : Rat) ≤ h.f then
      let den := curveCoef s c 4 h.f + curveCoef s c 5 h.f * m0
      (if den = 0 then Config.freeRat fresh else h.e1 / den, false)
    else (curveF s c 1, true)
  | none => (curveF s c 1, true)

/-- The channel reads its temperature word at an output instant of a settled channel (R149, R150): t in °C, the fault kinds
then, and whether TSRC_LOST is newly set. Without a source neither NOTEMP nor TSRC_LOST holds; with no valid temperature
read since the enable, the one used is a free value. DEDUCED: log entry 126. DESIGN CHOICE: log entry 125. -/
def dfeTemp (s : State) (n : Nat) : Option Rat × List Nat × Bool × State :=
  let c := s.f F.DFE_CH_TSRC_TSRC n
  let x := s.dfeX n
  if c = 0xFFF then (none, dropFault x.faults 5, false, s.setF F.DFE_CH_STAT_TSRC_LOST 0 n)
  else
    let m := measOf s c
    if !m.bad then
      (some ((m.v : Rat) / 100), dropFault x.faults 5, false,
        (s.setDfe n { x with temp := some m.v, tempAt := s.elapsed }).setF F.DFE_CH_STAT_TSRC_LOST 0 n)
    else
      let new := !s.fb F.DFE_CH_STAT_TSRC_LOST n
      let s := s.setF F.DFE_CH_STAT_TSRC_LOST 1 n
      match x.temp with
      | some t => (some ((t : Rat) / 100), x.faults, new, s)
      | none =>
        let (k, s) := s.takeFresh
        (some (Config.freeRat k), x.faults, new, s)

/-- A computed result goes to the words where no fault holds them (R147, R148, R154): whether RANGE is newly set. RANGE is
judged on m as computed, before rounding and limiting. DEDUCED: log entry 127. NODENS follows the computation also while
another fault holds the words, and a density outside 32 bits has no stated value. DESIGN CHOICE: log entry 168. -/
def dfePut (s : State) (n c : Nat) (m rho : Rat) (nodens : Bool) : Bool × State :=
  let l := (s.dfeX n).faults
  let s := s.setB F.DFE_CH_STAT_NODENS nodens n
  if !(dropFault l 5).isEmpty then (false, dfeShow s n l)
  else
    let d := roundAway (10 * rho)
    let (w, s) := if satS 32 d = d then (wordI d, s) else freeReading s
    let s := if nodens then s else published (s.wr R.DFE_CH_DENS w n) (0x110 + n)
    let out := decide (m < curveF s c 4) || decide (curveF s c 5 < m)
    let new := l.isEmpty && out && !s.fb F.DFE_CH_STAT_RANGE n
    let s := if l.isEmpty then
        (published (s.wr R.DFE_CH_MOIST (wordI (clamp 0 10000 (roundAway (100 * m)))) n) (0x100 + n)).setB
          F.DFE_CH_STAT_RANGE out n
      else s
    (new, dfeShow s n l)

/-- A result is formed and published where no fault holds it, and then the events of the instant are posted, so that they
carry the value published (R146 to R148, R153, R154, R165). -/
def dfePublish (s : State) (n : Nat) : State :=
  let c := s.f F.DFE_CH_CTL_CURVE n
  let (t, l, lost, s) := dfeTemp s n
  let (ev1, s) := dfeSetFaults s n l
  let ev1 := if lost then (0x45, 0) :: ev1 else ev1
  let s := s.setDfe n { s.dfeX n with pubTb := some s.tbNow }
  let ts := tonesLeft s n
  match moisture0 s c ts with
  | none =>
    let (ev2, s) := dfeSetFaults s n (addFault l 7)
    dfeEvents s n (ev1 ++ ev2)
  | some m0 =>
    let (ev2, s) := dfeSetFaults s n (dropFault l 7)
    let (k, s) := s.takeFresh
    let (rho, nodens) := density s c ts m0 k
    let tterm : Rat := match t with
      | some t => curveF s c 2 * (t - 25)
      | none => 0
    let (out, s) := dfePut s n c (m0 + (if nodens then 0 else curveF s c 3 * (rho - curveF s c 1)) + tterm) rho nodens
    dfeEvents s n (ev1 ++ ev2 ++ if out then [(0x44, 0)] else [])

/-! ### Frames (R136 to R140, R152 to R160) -/

/-- ⌈SETTLE_US / FRAME_US⌉ (R158). -/
def skipFrames (s : State) (n frameUs : Nat) : Nat := ceilDiv (s.f F.DFE_CH_FLT_SETTLE_US n) frameUs

/-- A submitted plan takes effect at a frame boundary (R158, R160). The settle count decreases at every later boundary, the
one that ends the piece before the first multiple of a new T among them. DEDUCED: log entry 129. -/
def planTakeEffect (s : State) (n : Nat) : State :=
  match (s.dfeX n).plan with
  | none => s
  | some p =>
    let s := s.setF F.DFE_ACT_PLAN_FRAME_US p.frameUs n
    let s := (s.setF F.DFE_ACT_FILT_MOUT_N p.moutN n).setF F.DFE_ACT_FILT_FILT_N p.filtN n
    let s := foldN 8 (fun s k => s.wr R.DFE_ACT_TONE (p.tones.getD k 0) n k) s
    let skip := skipFrames s n p.frameUs
    let s := s.setDfe n { s.dfeX n with plan := none, frames := [], skipLeft := skip }
    let s := (s.setF F.DFE_CH_STAT_SETTLE_LEFT (p.filtN + skip) n).setF F.DFE_CH_STAT_ACTIVE 1 n
    dfeShow s n (s.dfeX n).faults

/-- A GO write: the staged plan is checked, and submitted or refused with event 0x43; where a frame boundary of the
running channel was taken in this 5 ns step, it takes effect there (R156). The plan of a disabled channel waits, and an
enable's plan supersedes it. DESIGN CHOICE: log entry 170. -/
def dfeGo (s : State) (n : Nat) : State :=
  let p := stagedPlan s n
  if !planOk s (s.f F.DFE_CH_CTL_CURVE n) p then dfeEvent (s.setF F.DFE_CH_STAT_REFUSED 1 n) n 0x43 0
  else
    let x := s.dfeX n
    let s := planSubmit s n p
    if s.fb F.DFE_CH_CTL_EN n && x.lastAt == s.elapsed && x.lastTb == some s.tbNow then planTakeEffect s n else s

/-- The active tones of channel `n`. -/
def toneList (s : State) (n : Nat) : List Nat := (List.range 8).filter (fun k => s.f F.DFE_ACT_TONE_AMP n k != 0)

/-- The current in mA that the active plan demands of the guard drivers, with `cg` fF between the shields: the sum of
2π f C_g V over its tones (R134). -/
def guardDemand (s : State) (n cg : Nat) : Rat :=
  (toneList s n).foldl (fun a k =>
    a + Config.twoPi * toneFreq s n k * (cg : Rat) * ((s.f F.DFE_ACT_TONE_AMP n k : Nat) : Rat) / ((10 ^ 14 : Nat) : Rat)) 0

/-- The peak sense current of a frame in 10⁻³ nA, summed over the active tones: the root of I² + Q² of each, rounded down
(R135). DEDUCED: log entry 178. -/
def sensePeak (s : State) (n : Nat) (iq : List (BitVec 32 × BitVec 32)) : Nat :=
  ((toneList s n).map (fun k => match iq[k]? with
    | some p => Nat.sqrt ((p.1.toInt.natAbs ^ 2 + p.2.toInt.natAbs ^ 2) * 10 ^ 6)
    | none => 0)).sum

/-- The frame is overloaded: a sense current above 20 mA peak, or a guard demand above 150 mA (R134, R135, R153). -/
def frameOvld (s : State) (n : Nat) (d : DfeFrame) : Bool :=
  decide (20 * 10 ^ 9 < sensePeak s n d.iq) || decide ((150 : Rat) < guardDemand s n d.cg.toNat)

/-- The fault conditions judged at a frame (R152, R153); of OVLD and OPEN or LOW that arise at one frame, OVLD is first.
DESIGN CHOICE: log entry 128. The frame at whose end OVLD clears counts among those without another fault kind.
DESIGN CHOICE: log entry 169. -/
def dfeJudge (s : State) (n : Nat) (d : DfeFrame) : State :=
  let x := s.dfeX n
  let ovld := frameOvld s n d
  let filtN := s.f F.DFE_ACT_FILT_FILT_N n
  let hi := decide (s.fi F.DFE_CH_CM_CM_HI n < d.vcm.toInt)
  let lo := decide (d.vcm.toInt < s.fi F.DFE_CH_CM_CM_LO n)
  let out := hi || lo
  let nout := if out then x.outCount + 1 else 0
  let novok := if ovld then 0 else x.ovOk + 1
  let l := if ovld then addFault x.faults 3 else if filtN ≤ novok then dropFault x.faults 3 else x.faults
  let held := l.contains 1 || l.contains 2
  let l := if out && decide (s.f F.DFE_CH_FLT_CM_N n ≤ nout) && !held then addFault l (if hi then 1 else 2) else l
  let okc := if out || l.any (fun k => k != 1 && k != 2) then 0 else x.okCount + 1
  let l := if filtN ≤ okc then dropFault (dropFault l 1) 2 else l
  let s := if out then s.setF F.DFE_CH_STAT_CM_SEEN 1 n else s
  let s := if ovld then s.setF F.DFE_CH_STAT_OVLD_SEEN 1 n else s
  let s := (s.setDfe n { x with outCount := nout, okCount := okc, ovOk := novok }).wr R.DFE_CH_VCM (d.vcm.signExtend 32) n
  dfeFaults s n l

/-- The physical path that serves channel `n`; 255 for none. The spare path is 8. -/
def dfePath (s : State) (n : Nat) : Nat := tabGet n s.dfeSpare.pathOf n

/-- The spare dielectric path is healthy and serves no channel. -/
def dfeSpareFree (s : State) : Bool := !s.sto.umap.dpaths.contains 8 && !s.dfeSpare.pathOf.any (fun q => q.2 == 8)

/-- Retire dielectric path `p`. -/
def retireDpath (s : State) (p : Nat) : State :=
  s.setMap { s.sto.umap with dpaths := addFault s.sto.umap.dpaths p }

/-- The spare takes over channel `n` with the filter it has built (R163): event 0xF6. DEDUCED: log entry 58. Where a plan has
taken effect since the third check, that filter holds the spare's frames of the old plan. DESIGN CHOICE: log entry 171. -/
def dfeSwap (s : State) (n : Nat) : State :=
  let s := retireDpath s (dfePath s n)
  let sp := s.dfeSpare
  let s := { s with dfeSpare := { sp with pathOf := tabPut sp.pathOf n 8, checks := [] } }
  let x := s.dfeX n
  let s := s.setDfe n { x with frames := x.spare, disagree := 0, takeover := false, spare := [] }
  poolsUpdate (healthEvent s n 4 0xF6 1 0)

/-- A check on channel `n` ends, with the spare's filter (R162, R163). -/
def dfeCheckDone (s : State) (n : Nat) (iq : List (List IQ)) (disagrees : Bool) : State :=
  let sp := s.dfeSpare
  let s := { s with dfeSpare := { sp with checks := [] } }
  let x := s.dfeX n
  if !disagrees then
    { s.setDfe n { x with disagree := 0 } with dfeSpare := { s.dfeSpare with disagreed := [] } }
  else if sp.disagreed.any (fun q => q.2 != n) then
    poolsUpdate (healthEvent (retireDpath s 8) n 4 0xF6 2 0)
  else
    let s := { s with dfeSpare := { s.dfeSpare with disagreed := [(8, n)] } }
    if x.disagree < 2 then s.setDfe n { x with disagree := x.disagree + 1 }
    else s.setDfe n { x with disagree := x.disagree + 1, takeover := true, spare := iq }

/-- The spare's results against the channel's: for any active tone, filtered capacitance or conductance off by more than
LIMIT (R162). -/
def dfeDisagrees (s : State) (n : Nat) (iq : List (List IQ)) : Bool :=
  let lim : Rat := ((s.f F.DFE_XCHK_LIMIT : Nat) : Rat) / 1000
  (List.range 8).any (fun k =>
    s.f F.DFE_ACT_TONE_AMP n k != 0 &&
      (let (g, c) := toneGC s n k
       let (gs, cs) := admittance s n k (meanIQ iq k)
       decide (lim * ratAbs c < ratAbs (cs - c)) || decide (lim * max g 1000 < ratAbs (gs - g))))

/-- I and Q of a frame as its filter holds them. -/
def frameIQ (l : List (BitVec 32 × BitVec 32)) : List IQ := l.map (fun p => IQ.mk p.1.toInt p.2.toInt)

/-- A frame boundary for the spare that checks channel `n` (R162): abandoned with UNSETTLED or FAULT. The first boundary
loads its settle count, its frames fill its filter as the channel's would, and it is judged as the count reaches zero.
DEDUCED: log entry 131. -/
def dfeCheckStep (s : State) (n : Nat) (d : DfeFrame) : State :=
  match tabFind s.dfeSpare.checks 8 with
  | none => s
  | some c =>
    let put := fun c => { s with dfeSpare := { s.dfeSpare with checks := [(8, c)] } }
    let filtN := s.f F.DFE_ACT_FILT_FILT_N n
    let skip := skipFrames s n (s.f F.DFE_ACT_PLAN_FRAME_US n)
    if c.ch ≠ n then s
    else if s.fb F.DFE_CH_STAT_UNSETTLED n || s.fb F.DFE_CH_STAT_FAULT n then
      { s with dfeSpare := { s.dfeSpare with checks := [] } }
    else if c.n = 0 then put { c with n := 1 }
    else
      let iq := if skip < c.n then (frameIQ d.spare :: c.iq).take filtN else []
      if c.n < filtN + skip then put { c with n := c.n + 1, iq := iq }
      else dfeCheckDone s n iq (dfeDisagrees s n iq)

/-- The settle count decreases at a frame boundary; the settled result is published as it reaches zero (R158, R159), with
event 0x42 but for the first after an enable (R165). DESIGN CHOICE: log entry 173. -/
def dfeSettleStep (s : State) (n : Nat) : State :=
  let left := s.f F.DFE_CH_STAT_SETTLE_LEFT n
  if left = 0 then s
  else
    let s := s.setF F.DFE_CH_STAT_SETTLE_LEFT (left - 1) n
    if left = 1 then
      let first := (s.dfeX n).faults.contains 6
      let s := dfeFaults s n (dropFault (s.dfeX n).faults 6)
      let s := dfePublish s n
      if first then s else dfeEvent s n 0x42 0
    else s

/-- A frame in which TB_NOW was stepped ends: it is discarded, and the settle count decreases (R140, R158). DEDUCED: log
entry 110. -/
def dfeDropFrame (s : State) (n : Nat) : State :=
  let x := s.dfeX n
  dfeSettleStep (s.setDfe n { x with skipLeft := x.skipLeft - 1 }) n

/-- A fault of the kinds that keep frames out of the filter (R154). NOSETTLE does not, since a plan's filter fills before
the first settled result (R158, R161). DEDUCED: log entry 132. -/
def blocksFrames (l : List Nat) : Bool := l.any (fun k => k != 5 && k != 6 && k != 7)

/-- The frame that ends at a boundary is taken in (R139, R152 to R154, R158, R159). A frame with a blocking fault at its
start or its end does not enter; as the last such fault ends, the filter drops what it held from before, so that the
next value has frames taken after the fault only. DEDUCED: log entry 133. -/
def dfeTakeFrame (s : State) (n : Nat) (d : DfeFrame) : State :=
  let was := blocksFrames (s.dfeX n).faults
  let s := dfeJudge s n d
  let x := s.dfeX n
  let is := blocksFrames x.faults
  let filtN := s.f F.DFE_ACT_FILT_FILT_N n
  let frames := if was && !is then [] else if was || is || x.skipLeft != 0 then x.frames
    else (frameIQ d.iq :: x.frames).take filtN
  let spare := if x.takeover then (frameIQ d.spare :: x.spare).take filtN else x.spare
  let s := s.setDfe n { x with frames := frames, spare := spare, skipLeft := x.skipLeft - 1, swapLeft := x.swapLeft - 1 }
  let s := foldN 8 (fun s k =>
    if s.f F.DFE_ACT_TONE_AMP n k != 0 then
      let (g, c) := toneGC s n k
      (s.wr R.DFE_G (wordI (roundAway g)) n k).wr R.DFE_C (wordI (roundAway c)) n k
    else (s.wr R.DFE_G 0 n k).wr R.DFE_C 0 n k) s
  dfeCheckStep (dfeSettleStep s n) n d

/-- A stopping channel stops at its frame boundary (R166); the fault kinds it held end without event 0x41 (R165).
DESIGN CHOICE: log entry 174. -/
def dfeStop (s : State) (n : Nat) : State :=
  let s := s.setDfe n { lastTb := some s.tbNow }
  let s := (s.setF F.DFE_CH_STAT_ACTIVE 0 n).setF F.DFE_CH_STAT_SETTLE_LEFT 0 n
  let s := if (tabFind s.dfeSpare.checks 8).any (fun c => c.ch == n) then
    { s with dfeSpare := { s.dfeSpare with checks := [] } } else s
  let s := ((s.setF F.DFE_CH_STAT_FAULT 1 n).setF F.DFE_CH_STAT_FKIND 0 n).setF F.DFE_CH_STAT_UNSETTLED 0 n
  (s.setF F.DFE_CH_MFLAG_FLAGS flFault n).setF F.DFE_CH_DFLAG_FLAGS flFault n

/-- The frame length in force at the next boundary in ns: the active plan's, or, before any runs, the submitted one's. -/
def dfeFrameNs (s : State) (n : Nat) : Nat :=
  match s.fb F.DFE_CH_STAT_ACTIVE n, (s.dfeX n).plan with
  | false, some p => p.frameUs * 1000
  | _, _ => s.f F.DFE_ACT_PLAN_FRAME_US n * 1000

/-- A frame boundary of channel `n` is now, and has not been taken (R136). -/
def dfeDue (s : State) (n : Nat) : Bool :=
  dfeOn s && (s.fb F.DFE_CH_CTL_EN n || (s.dfeX n).stopping) && s.tbHits (fun t => t % dfeFrameNs s n == 0) &&
    (s.dfeX n).lastTb != some s.tbNow

/-- A frame boundary (R136, R140, R158, R166). A takeover due since an earlier boundary happens here, if the spare is still
free (R163). -/
def dfeBoundary (s : State) (n : Nat) (d : DfeFrame) : State :=
  let x := s.dfeX n
  if x.stopping then dfeStop s n
  else
    let s := s.setDfe n { x with lastAt := s.elapsed, lastTb := some s.tbNow, steps := s.steps }
    let s := if !s.fb F.DFE_CH_STAT_ACTIVE n then s
      else if x.steps ≠ s.steps then dfeDropFrame s n else dfeTakeFrame s n d
    let s := if !x.takeover then s
      else if dfeSpareFree s then dfeSwap s n
      else s.setDfe n { s.dfeX n with takeover := false, spare := [] }
    planTakeEffect s n

/-- An output instant of channel `n` is now, its frame boundary taken (R141). -/
def dfeOutDue (s : State) (n : Nat) : Bool :=
  dfeOn s && s.fb F.DFE_CH_STAT_ACTIVE n && (s.dfeX n).lastTb == some s.tbNow && (s.dfeX n).pubTb != some s.tbNow &&
    s.tbHits (fun t => t % (s.f F.DFE_ACT_FILT_MOUT_N n * s.f F.DFE_ACT_PLAN_FRAME_US n * 1000) == 0)

/-- The next channel of the check rotation, all eight in turn (R162). -/
def dfeNextCheck (s : State) : Nat :=
  match s.dfeSpare.cursor with
  | none => 0
  | some k => (k + 1) % 8

/-! ### The commands -/

/-- A frame boundary of a channel. -/
def execDfeFrameBoundary (n : Fin 8) (d : DfeFrame) (s : State) : Host.Outcome State Fault Refusal :=
  .next (if dfeDue s n then dfeBoundary s n d else s)

/-- An output instant of a channel: a result is published once settled; while UNSETTLED the words hold, and no temperature
is read (R141, R150, R159). DEDUCED: log entry 126. -/
def execDfeOutputInstant (n : Fin 8) (s : State) : Host.Outcome State Fault Refusal :=
  .next (if dfeOutDue s n then
      if s.f F.DFE_CH_STAT_SETTLE_LEFT n = 0 && (s.dfeX n).swapLeft = 0 then dfePublish s n else s
    else s)

/-- TEMP_HOLD seconds without a valid temperature: NOTEMP on the moisture word (R150). -/
def execTempHoldExpiry (n : Fin 8) (s : State) : Host.Outcome State Fault Refusal :=
  .next (if dfeOn s && s.fb F.DFE_CH_STAT_ACTIVE n && s.fb F.DFE_CH_STAT_TSRC_LOST n &&
        decide ((s.dfeX n).tempAt + s.f F.DFE_CH_TSRC_TEMP_HOLD n * 1000000000 ≤ s.elapsed)
      then dfeFaults s n (addFault (s.dfeX n).faults 5) else s)

/-- The spare path begins a check of the next channel in rotation, or skips it while it is unsettled, at fault or not
running (R162). -/
def execDfeCrossCheck (s : State) : Host.Outcome State Fault Refusal :=
  .next (
    let sp := s.dfeSpare
    let n := dfeNextCheck s
    let per := s.f F.DFE_XCHK_PERIOD_S * 1000000000
    if dfeOn s && dfeSpareFree s && sp.checks.isEmpty &&
        (match tabFind sp.started 8 with
          | some t => decide (t + per ≤ s.elapsed)
          | none => true) then
      let ok := s.fb F.DFE_CH_STAT_ACTIVE n && !s.fb F.DFE_CH_STAT_UNSETTLED n && !s.fb F.DFE_CH_STAT_FAULT n
      let now := (s.dfeX n).lastAt == s.elapsed && (s.dfeX n).lastTb == some s.tbNow
      { s with dfeSpare := { sp with checks := if ok then [(8, { ch := n, start := s.elapsed, n := bit now })] else [],
                                     started := [(8, s.elapsed)], cursor := some n } }
    else s)

/-- A channel's path fails (R164, R520): the spare takes over, the words holding until its filter is full; with none
left, FAULT with kind PATH. A settle count that ends before the new filter is full still publishes a settled result.
DESIGN CHOICE: log entry 172. -/
def execDfePathFail (n : Fin 8) (s : State) : Host.Outcome State Fault Refusal :=
  .next (
    if !dfeOn s || dfePath s n == 255 then s
    else if dfeSpareFree s then
      let s := dfeSwap s n
      let x := s.dfeX n
      let skip := skipFrames s n (s.f F.DFE_ACT_PLAN_FRAME_US n)
      s.setDfe n { x with frames := [], skipLeft := skip, swapLeft := skip + s.f F.DFE_ACT_FILT_FILT_N n }
    else
      let s := retireDpath s (dfePath s n)
      let s := { s with dfeSpare := { s.dfeSpare with pathOf := tabPut s.dfeSpare.pathOf n 255 } }
      let s := poolsUpdate (healthEvent s n 4 0xF6 3 0)
      if s.fb F.DFE_CH_STAT_ACTIVE n || s.fb F.DFE_CH_CTL_EN n then dfeFaults s n (addFault (s.dfeX n).faults 4) else s)

end Sys2Proof.Machine
end

