-- ==== Sys2Proof/Machine/Sol.lean ====
section
/-! DEFINITION. Sys2Proof/Machine/Sol.lean: the solenoid drive (spec/08_solenoid_drive.md). -/

namespace Sys2Proof.Machine

/-- Solenoid channel `n` behind its registers. -/
def State.solX (s : State) (n : Nat) : SolX := tabGet {} s.sol n
/-- Change solenoid channel `n`. -/
def State.setSol (s : State) (n : Nat) (x : SolX) : State := { s with sol := tabPut s.sol n x }

/-! ### Pairs, classes and conditions -/

/-- Channel `n` is the odd member of a pair (R302). -/
def State.solOdd (s : State) (n : Nat) : Bool := n % 2 == 1 && s.fb F.SOL_CTL_PAR (n - 1)
/-- The channel that carries the settings and commands of channel `n`: itself, or 2k of its pair. -/
def State.solLead (s : State) (n : Nat) : Nat := if s.solOdd n then n - 1 else n
/-- The channels that switch with lead channel `n`. -/
def State.solMembers (s : State) (n : Nat) : List Nat := if s.fb F.SOL_CTL_PAR n then [n, n + 1] else [n]
/-- Channel `n` is class S (R307). -/
def State.solClassS (s : State) (n : Nat) : Bool := maskBit (s.rd R.SOL_CLASS_S) n
/-- GATED: a class S channel while FIRE_PERMIT is not asserted (R308). -/
def State.solGated (s : State) (n : Nat) : Bool := s.solClassS n && !s.fb F.SYS_STAT_FIRE
/-- The high side of bank `b` is on (R288, R309). -/
def State.solRail (s : State) (b : Nat) : Bool :=
  s.domOn 7 && !s.fb F.SOL_GSTAT_UNDERV && !s.fb F.SYS_STAT_SS && !s.fb F.SOL_BSTAT_DOWN b

/-- The high side of bank `b` conducts (R288): held off in hardware below 9.0 V of VLOG (R591).
DEDUCED: log entry 177. -/
def State.solHighOn (s : State) (b : Nat) : Bool := s.sys.vlogLow.isNone && s.solRail b

/-- A start on lead channel `n` is blocked (R296). -/
def solBlocked (s : State) (n : Nat) : Bool :=
  !s.solRail (n / 4) || (s.solMembers n).any (fun m =>
    s.fb F.SOL_STAT_TRIP m || s.fb F.SOL_STAT_LOST m || s.fb F.SOL_STAT_HOT m || s.solGated m)

/-- An event bead that names channel `n` (R315). -/
def solEvent (s : State) (n code detail : Nat) (value : Word) : State := event s 18 (0x100 + n) code detail value

/-- Show ON and PHASE on every member of lead channel `n`. -/
def solShow (s : State) (n phase : Nat) : State :=
  (s.solMembers n).foldl (fun s m =>
    (s.setF F.SOL_STAT_PHASE phase m).setB F.SOL_STAT_ON (phase == 1 || phase == 2) m) s

/-! ### The peak budget of a bank (R298 to R301) -/

/-- Channels of bank `b`. -/
def solBank (b : Nat) : List Nat := [4 * b, 4 * b + 1, 4 * b + 2, 4 * b + 3]

/-- Lead channels of bank `b` in their peak phase. -/
def State.solPeaks (s : State) (b : Nat) : List Nat :=
  (solBank b).filter (fun n => !s.solOdd n && s.f F.SOL_STAT_PHASE n == 1)

/-- Lead channels of bank `b` with a queued peak. -/
def State.solQueue (s : State) (b : Nat) : List Nat := (solBank b).filter (fun n => (s.solX n).queued.isSome)

/-- The peak load of bank `b` in mA (R298). -/
def State.solLoad (s : State) (b : Nat) : Nat := ((s.solPeaks b).map (fun n => s.f F.SOL_CUR_IPEAK n)).sum

/-- The most a bank's peaks may draw, in mA (R298). -/
def solBudget : Nat := 30000

/-- How long the peak of channel `n` lasts at most, in ns: the lesser of TPEAK and the pulse's duration (R299). -/
def solPeakLen (s : State) (n : Nat) (dur : Option Nat) : Nat :=
  let t := s.f F.SOL_TIM_TPEAK n * 1000
  match dur with
  | some d => min t (d * 1000)
  | none => t

/-- The projected load at `t` of peaks given by start, end and current. -/
def solLoadAt (l : List (Nat × Nat × Nat)) (t : Nat) : Nat :=
  ((l.filter (fun p => decide (p.1 ≤ t) && decide (t < p.2.1))).map (fun p => p.2.2)).sum

/-- The earliest instant from `t0` on at which a peak of `i` mA fits beside the peaks of `l`. -/
def solFitIn (l : List (Nat × Nat × Nat)) (t0 i : Nat) : Nat :=
  let cands := (t0 :: (l.map (fun p => p.2.1)).filter (fun t => decide (t0 < t))).filter
    (fun t => decide (solLoadAt l t + i ≤ solBudget))
  cands.foldl min (cands.headD t0)

/-- The start instant of the peak queued on channel `n`. -/
def State.solQueuedAt (s : State) (n : Nat) : Nat :=
  match (s.solX n).queued with
  | some q => q.start
  | none => 0

/-- Channel `n` behind the queued channels that start before it (R300): by start instant, then as they come. -/
def solInsert (s : State) (n : Nat) : List Nat → List Nat
  | [] => [n]
  | m :: l => if s.solQueuedAt n < s.solQueuedAt m then n :: m :: l else m :: solInsert s n l

/-- The queued channels of bank `b` in the order in which they start: by start instant, then channel number (R300). -/
def solOrder (s : State) (b : Nat) : List Nat := (s.solQueue b).foldl (fun l n => solInsert s n l) []

/-- The queued channel of bank `b` that starts next (R300). -/
def solNext (s : State) (b : Nat) : Option Nat := (solOrder s b).head?

/-- The running peaks of bank `b` but channel `n`'s: start, projected end and current. -/
def solRunning (s : State) (b n : Nat) : List (Nat × Nat × Nat) :=
  ((s.solPeaks b).filter (fun m => m != n)).map (fun m => ((s.solX m).onAt, (s.solX m).projEnd, s.f F.SOL_CUR_IPEAK m))

/-- Every peak of bank `b` but channel `n`'s as it is projected now, and the start of the last queued one: the running ones
to their ends, and behind them the queued ones, each at the earliest instant at which it fits (R299). -/
def solProjection (s : State) (b n : Nat) : List (Nat × Nat × Nat) × Nat :=
  ((solOrder s b).filter (fun m => m != n)).foldl (fun (l, t) m =>
    let i := s.f F.SOL_CUR_IPEAK m
    let t := solFitIn l t i
    (l ++ [(t, t + solPeakLen s m ((s.solX m).queued.bind SolPeak.dur), i)], t)) (solRunning s b n, s.elapsed)

/-- The earliest instant at which a new peak of channel `n` fits behind every queued peak (R299). -/
def solFit (s : State) (n : Nat) : Nat :=
  let (l, t) := solProjection s (n / 4) n
  solFitIn l t (s.f F.SOL_CUR_IPEAK n)

/-! ### Chopping (R289, R290) -/

/-- The chop period of channel `n` in ns. -/
def State.chopLen (s : State) (n : Nat) : Nat := max 1 (s.f F.SOL_TIM_CHOP n) * 100

/-- Where lead channel `n` stands in its chop periods: the TB_NOW at which they began, how many have ended since, and how
far the present one has come in ns; none before they begin. -/
def State.chopPos (s : State) (n : Nat) : Option (Nat × Nat × Nat) :=
  match (s.solX n).chop with
  | some c =>
    if s.fb F.SOL_STAT_ON n ∧ c ≤ s.tbNow then some (c, (s.tbNow - c) / s.chopLen n, (s.tbNow - c) % s.chopLen n) else none
  | none => none

/-- Where the low side switches in chop period `k`: a step of 5 ns within the period. -/
def State.chopAt (s : State) (n c k : Nat) : Nat := 5 * (Config.chopEdge n c k % (s.chopLen n / 5 + 1))

/-- The low side of lead channel `n` is commanded on (R289): in the peak phase until IPEAK is reached, then in the later
part of each chop period; in the hold phase in the first part of each, and not before they begin. -/
def State.solLow (s : State) (n : Nat) : Bool :=
  s.fb F.SOL_STAT_ON n &&
    match s.chopPos n with
    | some (c, k, o) =>
      if s.f F.SOL_STAT_PHASE n = 1 then decide (s.chopAt n c k ≤ o) else decide (o < s.chopAt n c k)
    | none => s.f F.SOL_STAT_PHASE n == 1

/-- The low side of lead channel `n` is on: as it is commanded, unless it is held off below 9.0 V of VLOG (R591). -/
def State.solLowOn (s : State) (n : Nat) : Bool := s.sys.vlogLow.isNone && s.solLow n

/-- The path of the off-time lead channel `n` is in (R290), 1 slow or 2 fast: TDEC's from peak to hold, HDEC's in a hold
chop period, and after switch-off the one it began with. 0 while the low side is on, and in the off-time of a peak chop
period, for which R290 selects none. -/
def State.solPath (s : State) (n : Nat) : Nat :=
  if s.f F.SOL_STAT_PHASE n = 3 then (s.solX n).path
  else if s.solLow n || s.f F.SOL_STAT_PHASE n != 2 then 0
  else if (s.chopPos n).isSome then 1 + s.f F.SOL_CTL_HDEC n
  else 1 + s.f F.SOL_CTL_TDEC n

/-- The mean current in mA of lead channel `n` over the last chop period that has ended (R289): in the peak phase within
5 % below IPEAK, in hold within 5 % or 20 mA of IHOLD. -/
def State.chopCurrent (s : State) (n : Nat) : Option Nat :=
  match s.chopPos n with
  | some (c, k + 1, _) =>
    let m := Config.chopMean n c k
    if s.f F.SOL_STAT_PHASE n = 1 then
      let ip := s.f F.SOL_CUR_IPEAK n
      some (ip - m % (ip / 20 + 1))
    else
      let ih := s.f F.SOL_CUR_IHOLD n
      let tol := max (ih / 20) 20
      some (ih - tol + m % (2 * tol + 1))
  | _ => none

/-- What SOL_IMEAS of channel `i` shows: the mean of the last chop period that has ended, of a pair each channel its part
(R302, R316). -/
def State.solMean (s : State) (i : Nat) : Nat :=
  let n := s.solLead i
  match s.chopCurrent n, s.chopPos n with
  | some total, some (c, k, _) =>
    if s.fb F.SOL_CTL_PAR n then
      let part := min total (Config.chopShare n c (k - 1))
      if i = n then part else total - part
    else total
  | _, _ => s.nat R.SOL_IMEAS i

/-- A run of chop periods of lead channel `n` ends: SOL_IMEAS keeps its last mean. -/
def solKeepMean (s : State) (n : Nat) : State :=
  (s.solMembers n).foldl (fun t m => t.wr R.SOL_IMEAS (word (s.solMean m % 65536)) m) s

/-! ### Switching -/

/-- The bank sequencer serves no capture (R305). -/
def solSeqFree (s : State) (b : Nat) : Bool :=
  (solBank b).all (fun m => (s.solX m).capAt.isNone && (s.solX m).capOn.isNone)

/-- Event 0x8A, posted after a pulse where MEASEV = 1 (R315). DEDUCED: log entry 46. -/
def solMeasured (s : State) (n : Nat) : State :=
  if s.fb F.SOL_CTL_MEASEV n then
    let pv := s.fb F.SOL_PULLIN_VALID n
    let dv := s.fb F.SOL_DROPOUT_VALID n
    let p := if pv then s.f F.SOL_PULLIN_T n / 1000 else 0
    let d := if dv then s.f F.SOL_DROPOUT_T n / 1000 else 0
    solEvent s n 0x8A (bit pv + 2 * bit dv) (word (p % 65536 + d % 65536 * 65536))
  else s

/-- The dip detector ends without a pull-in: VALID = 0 and NOPULL (R303). -/
def solNoPull (s : State) (n : Nat) : State :=
  let x := s.solX n
  if x.pulled || s.f F.SOL_MEAS_DIP_TH n == 0 then s
  else
    let s := s.setSol n { x with pulled := true }
    solEvent ((s.setF F.SOL_PULLIN_VALID 0 n).setF F.SOL_STAT_NOPULL 1 n) n 0x84 0 0

/-- The channel from which lead channel `n` takes its bank sequencer: a higher one that switched off in the same 5 ns step
(R305). -/
def solPreempts (s : State) (n : Nat) : Option Nat :=
  (solBank (n / 4)).find? (fun k => decide (n < k) && decide ((s.solX k).seqAt = some s.elapsed) &&
    ((s.solX k).capAt.isSome || (s.solX k).capOn.isSome))

/-- A capture of lead channel `n` is missed (R305). -/
def solDropBusy (s : State) (n : Nat) : State := solMeasured (s.setF F.SOL_STAT_DROP_BUSY 1 n) n

/-- Lead channel `n`, just switched off, takes up its bank sequencer, or misses its capture (R304, R305). -/
def solSequence (s : State) (n : Nat) : State :=
  let take := fun (s : State) =>
    s.setSol n { s.solX n with capAt := some (s.elapsed + s.f F.SOL_MEAS_DROP_DLY n * 1000), seqAt := some s.elapsed }
  if solSeqFree s (n / 4) then take s
  else
    match solPreempts s n with
    | some k => take (solDropBusy (s.setSol k { s.solX k with capAt := none, capOn := none }) k)
    | none => solDropBusy s n

/-- Every member of lead channel `n` decays along `path` (R290, R302). -/
def solDecay (s : State) (n path : Nat) : State :=
  (s.solMembers n).foldl (fun s m => s.setSol m { s.solX m with path := path }) s

/-- Lead channel `n` switches off: from the on-state its current decays along `path`, 1 slow or 2 fast, and its bank
sequencer takes up the capture of R304; a queued peak leaves the queue (R301). DEDUCED: log entry 43. -/
def solOff (s : State) (n path : Nat) : State :=
  let x := s.solX n
  let s := s.setSol n { x with queued := none }
  if s.fb F.SOL_STAT_ON n then
    let s := if s.f F.SOL_STAT_PHASE n = 1 then solNoPull s n else s
    let s := solShow (solKeepMean s n) n 3
    let s := solDecay (s.setSol n { s.solX n with pulseEnd := none, chop := none }) n path
    if s.fb F.SOL_MEAS_DROP_EN n then solSequence s n else solMeasured s n
  else s

/-- The decay path ODEC selects (R290); class S channels decay fast. -/
def solOdec (s : State) (n : Nat) : Nat := if s.solClassS n || s.fb F.SOL_CTL_ODEC n then 2 else 1

/-- A capture of channel `n` that has not ended is aborted (R304): VALID = 0 without NODROP. -/
def solAbort (s : State) (n : Nat) : State :=
  let x := s.solX n
  if x.capAt.isSome || x.capOn.isSome then
    solMeasured ((s.setSol n { x with capAt := none, capOn := none }).setF F.SOL_DROPOUT_VALID 0 n) n
  else s

/-- The peak phase of channel `n` begins (R289). -/
def solPeakStart (s : State) (n : Nat) (dur : Option Nat) : State :=
  let s := (s.solMembers n).foldl solAbort s
  let s := s.setSol n { s.solX n with
    queued := none, onAt := s.elapsed, peakEnd := s.elapsed + s.f F.SOL_TIM_TPEAK n * 1000,
    pulseEnd := dur.map (fun d => s.elapsed + d * 1000), projEnd := s.elapsed + solPeakLen s n dur,
    reached := false, pulled := false, path := 0, chop := none }
  (solShow s n 1).addR R.SOL_ONCNT 1 n

/-- The peak load of bank `b` but for channel `n`, in mA. -/
def State.solOthers (s : State) (b n : Nat) : Nat :=
  (((s.solPeaks b).filter (fun m => m != n)).map (fun m => s.f F.SOL_CUR_IPEAK m)).sum

/-- A peak about to begin on channel `n`: it starts, is queued behind the others, or is refused with CONFLICT, which
leaves the channel as it was (R298, R299). Behind a queued peak it joins the queue even where it fits at once. Answers
whether it was accepted. DEDUCED: log entry 157. -/
def solRequest (s : State) (n : Nat) (dur : Option Nat) : Bool × State :=
  let t := solFit s n
  let wait := t - s.elapsed
  if wait = 0 ∧ (s.solQueue (n / 4)).filter (fun m => m != n) = []
      ∧ s.solOthers (n / 4) n + s.f F.SOL_CUR_IPEAK n ≤ solBudget then (true, solPeakStart s n dur)
  else if wait ≤ s.f F.SOL_BCFG_DEFER_MAX (n / 4) * 1000 then
    (true, s.setSol n { s.solX n with queued := some ⟨s.elapsed, dur⟩ })
  else (false, solEvent (s.setF F.SOL_STAT_CONFLICT 1 n) n 0x82 0 (word wait))

/-- An ON, PULSE or repeat pulse begins: an on-state goes on without a new peak phase (R295), and a peak still running is
projected to the end it now has (R299). DEDUCED: log entry 143. -/
def solBegin (s : State) (n : Nat) (dur : Option Nat) : Bool × State :=
  if s.fb F.SOL_STAT_ON n then
    let x := s.solX n
    let stop := dur.map (fun d => s.elapsed + d * 1000)
    (true, s.setSol n { x with queued := none, pulseEnd := stop, projEnd := match stop with
      | some t => min x.peakEnd t
      | none => x.peakEnd })
  else solRequest s n dur

/-- A command that begins a pulse or ON replaces what the channel was running, where it is not refused (R295, R299). -/
def solReplace (s : State) (n : Nat) (dur : Option Nat) : State :=
  let (ok, s) := solBegin s n dur
  if ok then s.setSol n { s.solX n with rep := none } else s

/-- TB_NOW lies on the repeat grid of channel `n` (R294). -/
def solOnGrid (s : State) (n : Nat) : Bool :=
  s.tbHits (fun t => t % 1000 == 0 &&
    (((t / 1000 : Nat) : Int) - (s.f F.SOL_REPPH_REP_PH n : Nat)) % ((max 1 (s.f F.SOL_REP_REP_US n) : Nat) : Int) == 0)

/-- The on-time of a repeat pulse in µs: the loop's, or the DUR of REPEAT (R297). -/
def solRepeatDur (s : State) (n : Nat) : Nat :=
  if s.f F.SOL_CTL_SRC n = 1 then (s.solX n).onTime else ((s.solX n).rep).getD 0

/-- A repeat-grid instant of channel `n` (R293, R294, R296). -/
def solGridPulse (s : State) (n : Nat) : State :=
  let d := solRepeatDur s n
  let s := s.setSol n { s.solX n with gridTb := some s.tbNow, gridDur := d }
  if d = 0 then s
  else if solBlocked s n then s.setF F.SOL_STAT_BLOCKED 1 n
  else (solBegin s n (some d)).2

/-- Channel `n` runs REPEAT, of a command or for its loop (R293, R297). -/
def State.solRepeats (s : State) (n : Nat) : Bool :=
  s.fb F.SOL_CTL_EN n && (s.f F.SOL_CTL_SRC n == 1 || (s.solX n).rep.isSome)

/-- A repeat-grid instant of channel `n` that has not been taken. -/
def solGridDue (s : State) (n : Nat) : Bool :=
  s.solRepeats n && solOnGrid s n && (s.solX n).gridTb != some s.tbNow

/-- A repeat pulse of REP_US or more keeps channel `n` on until the next grid instant (R294). -/
def solAcross (s : State) (n : Nat) : Bool :=
  let x := s.solX n
  let rep := s.f F.SOL_REP_REP_US n
  s.solRepeats n && decide (rep ≤ x.gridDur) &&
    match x.gridTb with
    | some g => decide (s.tbNow < g + rep * 1000)
    | none => false

/-- A command acts at its start instant (R293, R295, R296). DEDUCED: log entry 41. -/
def solAct (s : State) (n op dur : Nat) : State :=
  let norep := fun (s : State) => s.setSol n { s.solX n with rep := none, queued := none }
  match op with
  | 1 => solOff (norep s) n (solOdec s n)
  | 2 => if solBlocked s n then s.setF F.SOL_STAT_BLOCKED 1 n else solReplace s n none
  | 3 => if solBlocked s n then s.setF F.SOL_STAT_BLOCKED 1 n else solReplace s n (some dur)
  | 4 =>
    let blocked := solBlocked s n
    let s := s.setSol n { s.solX n with rep := some dur }
    if blocked then s.setF F.SOL_STAT_BLOCKED 1 n
    else if solOnGrid s n && dur != 0 then solGridPulse s n
    else solOff s n (solOdec s n)
  | _ => s

/-- A command acts after its start instant (R34): LATE, and event 0x88 with the lateness. -/
def solLate (s : State) (n op late : Nat) : State :=
  solEvent (s.setF F.SOL_STAT_LATE 1 n) n 0x88 op (word (min late 0xFFFFFFFF))

/-- Writes of commands, EN and SRC to the power outputs are refused in Hold (R539). -/
def holdRefuses (s : State) : Bool := s.mode == modeHold

/-- The reset-hold table holds the power outputs, so that no command and no enable is taken: in Hold, and after a reset
in Boot (R27, R532, R539). DEDUCED: log entry 144. -/
def outputsHeld (s : State) : Bool := holdRefuses s || s.mode == modeBoot

/-- A write of SOL_CMD is refused (R25, R293, R297, R539; a disabled channel takes no command, log entry 20). -/
def solCmdRefuse (s : State) (n : Nat) (v : Word) : Bool :=
  let op := bits v 2 0
  s.f F.SOL_CTL_SRC n != 0 ||
    (op != 0 && (decide (5 ≤ op) || !s.fb F.SOL_CTL_EN n || outputsHeld s ||
      (op == 3 && s.nat R.SOL_DUR n == 0)))

/-- A write of SOL_CMD applied in the block (R292, R293, R295). -/
def solCmdWrite (s : State) (n : Nat) (v : Word) : State :=
  let op := bits v 2 0
  if op = 0 then s
  else
    let ton := s.rd64 R.SOL_TON_LO R.SOL_TON_HI n
    let start := if maskBit v 8 then s.tbNow else (ton + 4) / 5 * 5
    let dur := s.nat R.SOL_DUR n
    let x := s.solX n
    let s := if x.armed.isSome then s.setF F.SOL_STAT_REPLACED 1 n else s
    if s.tbNow < start then s.setSol n { x with armed := some ⟨op, start, dur⟩ }
    else
      let s := s.setSol n { x with armed := none }
      let s := if start < s.tbNow then solLate s n op (s.tbNow - start) else s
      solAct s n op dur

/-! ### Enables and settings (R302, R307, R317) -/

/-- A write of EN from 0 to 1 is refused: R317 over the values then held, with CTL as written. -/
def solEnableRefuse (s : State) (n : Nat) (v : Word) : Bool :=
  let par := maskBit v 1
  let ip := s.f F.SOL_CUR_IPEAK n
  let ih := s.f F.SOL_CUR_IHOLD n
  let oc := s.f F.SOL_OCL_OC_LIM n
  decide (2 ≤ bits v 3 2) || decide (ip < ih) || decide ((if par then 20 else 10) * oc < 11 * ip)
    || (!par && (decide (12000 < ip) || decide (4000 < ih)))
    || decide (s.f F.SOL_REP_REP_US n ≤ s.f F.SOL_REPPH_REP_PH n)
    || (s.fb F.SOL_MEAS_DROP_EN n && !maskBit v 6)
    || s.fb F.SOL_STAT_LOST n || (par && s.fb F.SOL_STAT_LOST (n + 1)) || s.fb F.SOL_BSTAT_DOWN (n / 4)
    || s.fb F.SYS_STAT_SS || s.solOdd n || outputsHeld s

/-- A write of SOL_CTL is refused (R302, R307, R317, R539). -/
def solCtlRefuse (s : State) (n : Nat) (v : Word) : Bool :=
  (maskBit v 1 != s.fb F.SOL_CTL_PAR n && (n % 2 == 1 || s.fb F.SOL_CTL_EN n || s.fb F.SOL_CTL_EN (n + 1) ||
      s.solClassS n != s.solClassS (n + 1)))
    || (s.solClassS n && !maskBit v 6)
    || (holdRefuses s && bits v 3 2 != s.f F.SOL_CTL_SRC n)
    || (maskBit v 0 && !s.fb F.SOL_CTL_EN n && solEnableRefuse s n v)

/-- The disable of R317: off at once with ODEC, the armed command and the queued peak discarded. -/
def solStop (s : State) (n path : Nat) : State :=
  solOff (s.setSol n { s.solX n with armed := none, rep := none }) n path

/-- A write of SOL_CTL takes effect; with SRC = 1 the channel runs REPEAT from its enable on, on-time 0 (R297). -/
def solCtlWrite (s : State) (n : Nat) (v : Word) : State :=
  let en := s.fb F.SOL_CTL_EN n
  let s := putReg s R.SOL_CTL v n
  if maskBit v 0 ∧ !en then s.setSol n { s.solX n with onTime := 0, rep := none }
  else if en ∧ !maskBit v 0 then solStop s n (solOdec s n)
  else s

/-- A write of SOL_CUR is refused above the single-channel range without PAR, for a changed field (R316, R572). -/
def solCurRefuse (s : State) (n : Nat) (v : Word) : Bool :=
  !s.fb F.SOL_CTL_PAR n &&
    ((s.changes F.SOL_CUR_IPEAK v n && decide (12000 < bits v 15 0)) ||
     (s.changes F.SOL_CUR_IHOLD v n && decide (4000 < bits v 31 16)))

/-- A write of a staging register is ignored and sets REFUSED while SRC = 1 (R297). -/
def solStageRefuse (s : State) (n : Nat) : Bool := s.f F.SOL_CTL_SRC n == 1

/-- A SOL_CLASS_S that would leave a pair with exactly one class S channel (R307). -/
def solClassRefuse (s : State) (v : Word) : Bool :=
  (List.range 12).any (fun k => s.fb F.SOL_CTL_PAR (2 * k) && (maskBit v (2 * k) != maskBit v (2 * k + 1)))

/-- The class S set takes hold: CLASS_S shows it, and class S channels decay fast (R307). -/
def solClassSet (s : State) (v : Word) : State :=
  let s := s.wr R.SOL_CLASS_S (word (v.toNat % 2 ^ 24))
  foldN 24 (fun s n =>
    let c := maskBit v n
    let s := s.setB F.SOL_CTL_CLASS_S c n
    if c then s.setF F.SOL_CTL_ODEC 1 n else s) s

/-- A clear of the trip latch, of both members of a pair; a trip of the same 5 ns step keeps it (R302, R310).
DEDUCED: log entry 44. -/
def solClrWrite (s : State) (n : Nat) (v : Word) : State :=
  if maskBit v 0 ∧ (s.solX n).tripAt ≠ some s.elapsed then
    (s.solMembers n).foldl (fun s m => s.setF F.SOL_STAT_TRIP 0 m) s
  else s

/-- A write of SOL_BCTL.RESTORE (R311): refused with its own flag while a channel of the bank is LOST. -/
def solRestoreWrite (s : State) (b : Nat) (v : Word) : State :=
  if maskBit v 0 then
    if (solBank b).any (fun n => s.fb F.SOL_STAT_LOST n) then s.setF F.SOL_BSTAT_REFUSED 1 b
    else (s.setF F.SOL_BSTAT_DOWN 0 b).setF F.SOL_BSTAT_DOWN_CAUSE 0 b
  else s

/-- A loop writes its output to channel `n` (R244, R297): false where the output is not mapped to the loop (R25). -/
def solLoopWrite (s : State) (n : Nat) (v : Int) : Bool × State :=
  if s.solOdd n || s.f F.SOL_CTL_SRC n != 1 then (false, s)
  else
    let t := clamp 0 (s.f F.SOL_REP_REP_US n : Nat) v
    (true, s.setSol n { s.solX n with onTime := t.toNat })

/-! ### What switches channels off from above (R308, R309, R313) -/

/-- Every lead channel of the list switches off along the path `p` gives. -/
def solOffAll (s : State) (l : List Nat) (p : State → Nat → Nat) : State :=
  (l.filter (fun n => !s.solOdd n)).foldl (fun s n => solOff s n (p s n)) s

/-- Class S channels decay fast, every other slow (R313). -/
def solSafePath (s : State) (n : Nat) : Nat := if s.solClassS n then 2 else 1

/-- SAFE_STOP_N, a reset or Hold (R313, R538): every channel off, armed commands and queued peaks discarded, EN clear. -/
def solAllOff (s : State) : State :=
  foldN 24 (fun s n =>
    let s := if s.solOdd n then s else solStop s n (solSafePath s n)
    s.setF F.SOL_CTL_EN 0 n) s

/-- FIRE_PERMIT drops: every class S channel switches off with fast decay, its queued peak removed (R301, R308). -/
def solFireDrop (s : State) : State := solOffAll s ((List.range 24).filter (fun n => s.solClassS n)) (fun _ _ => 2)

/-- A write of SOL_CLASS_S in Commission: a channel that it makes class S is off without FIRE_PERMIT (R307, R308). -/
def solClassWrite (s : State) (v : Word) : State :=
  let s := solClassSet s v
  if s.fb F.SYS_STAT_FIRE then s else solFireDrop s

/-- A bank goes down (R309): high side off, every channel off, event 0x87. -/
def solBankDown (s : State) (b cause : Nat) : State :=
  let was := s.f F.SOL_BSTAT_DOWN_CAUSE b
  if was = 1 ∨ was = cause then s
  else
    let s := (s.setF F.SOL_BSTAT_DOWN 1 b).setF F.SOL_BSTAT_DOWN_CAUSE cause b
    let s := solOffAll s (solBank b) solOdec
    solEvent s (4 * b) 0x87 cause (word b)

/-- Channel `n` is LOST: event 0x86, a record in the health log, and its bank down (R309, R312).
DEDUCED: log entry 45. -/
def solLose (s : State) (n : Nat) : State :=
  let b := eventBead s (0x100 + n) 0x86 0 0
  let s := ringPost (s.setF F.SOL_STAT_LOST 1 n) 18 b
  let s := logRecord s 1 [lane b 0, lane b 1, lane b 2, lane b 3]
  solBankDown s (n / 4) 1

/-- The SOL registers at a switch-on of PD7 (R309, R312, R314): reset values, undervoltage set, and the channels that
fail the low-side test LOST. -/
def solPowerOn (s : State) (classS : Word) (failed : List Nat) : State :=
  let s := { s with regs := tabDropRange s.regs 0x40000000 0x40FFFFFF, sol := [] }
  let s := (solClassSet s classS).setF F.SOL_GSTAT_UNDERV 1
  failed.foldl (fun s n => if n < 24 then solLose s n else s) s

/-- The SOL registers at step 4 of a reset that leaves PD7 on (R556): reset values, but LOST, a bank down with cause
LOST, HOT and the undervoltage stay, and a current that decays goes on along its path (R313). -/
def solReset (s : State) : State :=
  let keep := (List.range 24).map (fun n => (n, s.f F.SOL_STAT_LOST n, s.f F.SOL_STAT_HOT n, s.f F.SOL_STAT_PHASE n, (s.solX n).path))
  let down := (List.range 6).filter (fun b => s.f F.SOL_BSTAT_DOWN_CAUSE b == 1)
  let uv := s.f F.SOL_GSTAT_UNDERV
  let cls := s.rd R.SOL_CLASS_S
  let s := { s with regs := tabDropRange s.regs 0x40000000 0x40FFFFFF, sol := [] }
  let s := (solClassSet s cls).setF F.SOL_GSTAT_UNDERV uv
  let s := down.foldl (fun s b => (s.setF F.SOL_BSTAT_DOWN 1 b).setF F.SOL_BSTAT_DOWN_CAUSE 1 b) s
  keep.foldl (fun s (n, lost, hot, phase, path) =>
    let s := (s.setF F.SOL_STAT_LOST lost n).setF F.SOL_STAT_HOT hot n
    if phase = 3 then (s.setF F.SOL_STAT_PHASE 3 n).setSol n { path := path } else s) s

/-! ### Reading -/

/-- A SOL register as it reads, where its contents are made of others (R298, R302, R311, R316, R318, R319). -/
def solPeek (s : State) (id : Reg) (i : Nat) (raw : Word) : Word :=
  match id with
  | .SOL_ON => word (maskOf 24 (fun n => s.fb F.SOL_STAT_ON n))
  | .SOL_TRIPS => word (maskOf 24 (fun n => s.fb F.SOL_STAT_TRIP n))
  | .SOL_LOSTS => word (maskOf 24 (fun n => s.fb F.SOL_STAT_LOST n))
  | .SOL_BSTAT => putBits raw 3 3 (bit (s.solHighOn i))
  | .SOL_BPEAK => word (s.solLoad i + (s.solQueue i).length * 65536)
  | .SOL_STAT =>
    let x := s.solX (s.solLead i)
    let w := putBits (putBits raw 9 9 (bit (s.solGated i))) 8 8 (s.f F.SOL_BSTAT_DOWN (i / 4))
    putBits (putBits w 4 4 (bit x.queued.isSome)) 3 3 (bit x.armed.isSome)
  | .SOL_IMEAS => word (s.solMean i % 65536)
  | .SOL_DUR => if s.f F.SOL_CTL_SRC i = 1 then word (s.solX i).onTime else raw
  | _ => raw

/-- A register of the odd member of a pair that reads zero and ignores writes (R302). -/
def solHidden (s : State) (d : RegDesc) (i : Nat) : Bool :=
  decide (0x40001000 ≤ d.base) && decide (d.base < 0x40002000) && s.solOdd i && d.id != .SOL_STAT && d.id != .SOL_IMEAS

/-- A write of EN = 1 to the odd member of a pair, whose EN follows that of 2k (R302): refused where that would take it
from 0 to 1 (R317). DEDUCED: log entry 179. -/
def solOddEnable (s : State) (d : RegDesc) (i : Nat) (v : Word) : Bool :=
  d.id == .SOL_CTL && s.domOn 7 && s.solOdd i && maskBit v 0 && !s.fb F.SOL_CTL_EN (i - 1)

/-! ### What happens in the drive -/

/-- A solenoid event is due only on a lead channel of a powered drive. -/
def solLive (s : State) (n : Nat) : Bool := s.domOn 7 && !s.solOdd n

/-- A start instant (R293, R295): an armed command whose start instant has come acts; one that a step of TB_NOW
reaches or passes over acts late (R34, R433). A slewing tick of 10 ns that passes over it makes it no later. -/
def solStartNow (s : State) (n : Nat) : State :=
  let x := s.solX n
  match x.armed with
  | some c =>
    if solLive s n ∧ c.ton ≤ s.tbNow then
      let s := s.setSol n { x with armed := none }
      let s := if c.ton + 5 < s.tbNow ∨ s.stepAt = some s.elapsed then solLate s n c.op (s.tbNow - c.ton) else s
      solAct s n c.op c.dur
    else s
  | none => s

/-- DEFERRED_PEAK_START (R300): the first queued peak of its bank starts once it fits; a blocked channel leaves the queue (R301). DEDUCED: log
entry 42. -/
def execDeferredPeakStart (n : Fin 24) (s : State) : Host.Outcome State Fault Refusal :=
  .next (
    match (s.solX n).queued with
    | some q =>
      if solLive s n ∧ solBlocked s n then s.setSol n { s.solX n with queued := none }
      else if solLive s n ∧ solNext s (n / 4) = some n.val ∧ s.solLoad (n / 4) + s.f F.SOL_CUR_IPEAK n ≤ solBudget then
        let w := word (s.elapsed - q.start)
        let s := solPeakStart s n q.dur
        let s := s.setSol n { s.solX n with deferSeen := true }
        solEvent (s.wr R.SOL_DEFER w n) n 0x81 0 w
      else s
    | none => s)

/-- A repeat-grid instant of an enabled channel that runs REPEAT (R294, R296, R297). -/
def solGridNow (s : State) (n : Nat) : State := if solLive s n ∧ solGridDue s n then solGridPulse s n else s

/-- The peak phase of channel `n` ends with `high` its highest current in mA (R303, R309): a channel whose current never
exceeded OPEN_TH is open and switches off. -/
def solPeakOver (s : State) (n high : Nat) : State :=
  let s := solNoPull s n
  if high ≤ s.f F.SOL_OCL_OPEN_TH n then
    let s := solEvent (s.setF F.SOL_STAT_OPEN 1 n) n 0x83 0 (word high)
    solOff s n (solOdec s n)
  else s.setF F.SOL_STAT_OPEN 0 n

/-- SOL_PULSE_END (R293, R294): DUR has elapsed, and no repeat pulse keeps the channel on; a grid instant of the same step
comes first. A pulse that ends in its peak phase ends that phase, whose highest current was `high` mA. -/
def execSolPulseEnd (n : Fin 24) (high : BitVec 16) (s : State) : Host.Outcome State Fault Refusal :=
  .next (
    let due := solLive s n && s.fb F.SOL_STAT_ON n
    let s := if due && solGridDue s n then solGridPulse s n else s
    match (s.solX n).pulseEnd with
    | some t =>
      if due ∧ t ≤ s.elapsed ∧ !solAcross s n then
        let s := if s.f F.SOL_STAT_PHASE n = 1 then solPeakOver s n high.toNat else s
        solOff s n (solOdec s n)
      else s
    | none => s)

/-- SOL_PEAK_END (R289): TPEAK has elapsed; the channel passes to hold along TDEC, and hold chop periods follow once the current has
fallen to IHOLD. -/
def execSolPeakEnd (n : Fin 24) (high : BitVec 16) (s : State) : Host.Outcome State Fault Refusal :=
  .next (
    let x := s.solX n
    if solLive s n ∧ s.f F.SOL_STAT_PHASE n = 1 ∧ x.peakEnd ≤ s.elapsed then
      let s := solPeakOver s n high.toNat
      if s.fb F.SOL_STAT_ON n then
        let s := solKeepMean s n
        (solShow s n 2).setSol n { s.solX n with
          path := 1 + s.f F.SOL_CTL_TDEC n, chop := some (s.tbNow + 5 * Config.chopFall n s.tbNow) }
      else s
    else s)

/-- PULLIN_DETECTED (R303): the current has dipped DIP_TH below its maximum, which lay `t` ns after switch-on. -/
def execPullinDetected (n : Fin 24) (t : BitVec 25) (s : State) : Host.Outcome State Fault Refusal :=
  .next (
    let x := s.solX n
    if solLive s n ∧ s.f F.SOL_STAT_PHASE n = 1 ∧ !x.reached ∧ !x.pulled ∧ s.f F.SOL_MEAS_DIP_TH n ≠ 0
        ∧ x.onAt + t.toNat ≤ s.elapsed then
      let s := s.setSol n { x with pulled := true }
      (s.setF F.SOL_PULLIN_T t.toNat n).setF F.SOL_PULLIN_VALID 1 n
    else s)

/-- IPEAK_REACHED (R289, R303): chopping at IPEAK begins, and the dip detector ends. -/
def execIpeakReached (n : Fin 24) (s : State) : Host.Outcome State Fault Refusal :=
  .next (
    let x := s.solX n
    if solLive s n ∧ s.f F.SOL_STAT_PHASE n = 1 ∧ !x.reached then
      solNoPull (s.setSol n { x with reached := true, chop := some s.tbNow }) n
    else s)

/-- DROPOUT_CAPTURE (R304, R305): DROP_DLY has passed, and the sampling of the contact begins; a capture that a channel took
up before a pair took it as its odd member goes on. -/
def execDropoutCapture (n : Fin 24) (s : State) : Host.Outcome State Fault Refusal :=
  .next (
    let x := s.solX n
    match x.capAt with
    | some t =>
      if s.domOn 7 ∧ t ≤ s.elapsed then
        let s := s.setSol n { x with capAt := none, capOn := some s.elapsed }
        (s.setF F.SOL_BCAP_CH n (n / 4)).setF F.SOL_BCAP_VALID 0 (n / 4)
      else s
    | none => s)

/-- The kink of a capture (R304): the first k with |s[k + 8] − s[k]| at or above the threshold. -/
def solKink (v : List (BitVec 16)) (th : Nat) : Option Nat :=
  let at_ := fun k => (((v.getD k 0).toNat : Nat) : Int)
  (List.range 240).find? (fun k => decide (8 * (th : Int) ≤ ((at_ (k + 16) - 2 * at_ (k + 8) + at_ k).natAbs : Int)))

/-- DROPOUT_RESULT (R304): 256 samples have been taken, and the kink gives the drop-out time. -/
def execDropoutResult (n : Fin 24) (samples : List (BitVec 16)) (s : State) : Host.Outcome State Fault Refusal :=
  .next (
    let x := s.solX n
    let b := n.val / 4
    match x.capOn with
    | some t =>
      if s.domOn 7 ∧ t + 127500 ≤ s.elapsed then
        let s := s.setSol n { x with capOn := none }
        let s := foldN 256 (fun s k => s.wr R.SOL_CAP (word (samples.getD k 0).toNat) b k) s
        let s := s.setF F.SOL_BCAP_VALID 1 b
        let s := match solKink samples (s.f F.SOL_BCFG_KINK_TH b) with
          | some k =>
            (s.setF F.SOL_DROPOUT_T (s.f F.SOL_MEAS_DROP_DLY n * 1000 + (k + 8) * 500) n).setF F.SOL_DROPOUT_VALID 1 n
          | none => solEvent ((s.setF F.SOL_DROPOUT_VALID 0 n).setF F.SOL_STAT_NODROP 1 n) n 0x85 0 0
        solMeasured s n
      else s
    | none => s)

/-- SOL_DECAY_END (R318): the decaying current has fallen below 50 mA, of a channel that has become the odd member of a pair
since it switched off too. -/
def execSolDecayEnd (n : Fin 24) (s : State) : Host.Outcome State Fault Refusal :=
  .next (
    if s.domOn 7 ∧ s.f F.SOL_STAT_PHASE n = 3 then
      (solShow s n 0).setSol n { s.solX n with path := 0 }
    else s)

/-- SOL_OVERCURRENT_TRIP (R35, R302, R309): the comparator of channel `n` acts only while its low side is commanded on
and nothing holds it off. -/
def execSolOvercurrentTrip (n : Fin 24) (s : State) : Host.Outcome State Fault Refusal :=
  .next (
    let l := s.solLead n
    if s.domOn 7 ∧ s.solLowOn l then
      let s := (s.solMembers l).foldl (fun s m => s.setF F.SOL_STAT_TRIP 1 m) s
      let s := s.setSol l { s.solX l with tripAt := some s.elapsed }
      let s := solOff s l 1
      solEvent s n 0x80 0 (word (s.f F.SOL_OCL_OC_LIM l))
    else s)

/-- SOL_CLAMP_HOT (R309): the clamp of channel `n` has reached 170 °C; off with slow decay, class S included, and a
current that decays already takes the slow path. -/
def execSolClampHot (n : Fin 24) (s : State) : Host.Outcome State Fault Refusal :=
  .next (
    if s.domOn 7 ∧ !s.fb F.SOL_STAT_HOT n then
      let l := s.solLead n
      let s := solOff (solEvent (s.setF F.SOL_STAT_HOT 1 n) n 0x89 0 0) l 1
      if s.f F.SOL_STAT_PHASE l = 3 then solDecay s l 1 else s
    else s)

/-- SOL_CLAMP_COOL (R309): below 150 °C HOT clears, and nothing turns on. -/
def execSolClampCool (n : Fin 24) (s : State) : Host.Outcome State Fault Refusal :=
  .next (if s.domOn 7 then s.setF F.SOL_STAT_HOT 0 n else s)

/-- The low side of channel `n` is commanded off for longer than a chop period: the channel is off, or its current falls
from peak to hold. -/
def solIdle (s : State) (n : Nat) : Bool :=
  let l := s.solLead n
  !s.fb F.SOL_STAT_ON l || (s.f F.SOL_STAT_PHASE l == 2 && (s.chopPos l).isNone)

/-- SOL_CHANNEL_LOST (R309): the low side has conducted for 200 µs while commanded off. -/
def execSolChannelLost (n : Fin 24) (s : State) : Host.Outcome State Fault Refusal :=
  .next (if s.domOn 7 ∧ solIdle s n ∧ !s.fb F.SOL_STAT_LOST n then solLose s n else s)

/-- SOL_RAIL_OVERCURRENT (R309): the rail of bank `b` has exceeded 60 A. -/
def execSolRailOvercurrent (b : Fin 6) (s : State) : Host.Outcome State Fault Refusal :=
  .next (if s.solHighOn b then solBankDown s b 2 else s)

/-- VSOL_UNDERVOLTAGE (R309): VSOL, `mv` mV now, has been below 10.5 V for 1 ms; every high side is off. -/
def execVsolUndervoltage (mv : BitVec 16) (s : State) : Host.Outcome State Fault Refusal :=
  .next (
    if s.domOn 7 ∧ !s.fb F.SOL_GSTAT_UNDERV ∧ mv.toNat < 10500 then
      let s := (s.setF F.SOL_GSTAT_UNDERV 1).setF F.SOL_GSTAT_UNDERV_SEEN 1
      let s := event s 18 0x1FF 0x8B 1 (word mv.toNat)
      solOffAll s (List.range 24) solOdec
    else s)

/-- VSOL_RECOVERED (R309): VSOL has risen above 11.5 V. -/
def execVsolRecovered (mv : BitVec 16) (s : State) : Host.Outcome State Fault Refusal :=
  .next (
    if s.domOn 7 ∧ s.fb F.SOL_GSTAT_UNDERV ∧ 11500 < mv.toNat then
      event (s.setF F.SOL_GSTAT_UNDERV 0) 18 0x1FF 0x8B 0 (word mv.toNat)
    else s)

end Sys2Proof.Machine
end

