-- ==== Sys2Proof/Machine/Lsw.lean ====
section
/-! DEFINITION. Sys2Proof/Machine/Lsw.lean: the protected load switches (spec/09_load_switches.md). -/

namespace Sys2Proof.Machine

/-- Load switch `n` behind its registers. -/
def State.lswX (s : State) (n : Nat) : LswX := tabGet {} s.lsw n
/-- Change load switch `n`. -/
def State.setLsw (s : State) (n : Nat) (x : LswX) : State := { s with lsw := tabPut s.lsw n x }

/-- Load switch `n` is held (SYS_HELD, R556). -/
def State.lswHeld (s : State) (n : Nat) : Bool := maskBit (s.rd R.SYS_HELD) n

/-- The disconnect of group `k` is closed (R320). -/
def State.lswClosed (s : State) (k : Nat) : Bool :=
  s.domOn 7 && !s.fb F.SYS_STAT_SS && !s.fb F.LSW_GRSTAT_DOWN k

/-- The disconnect of group `k` conducts: held off in hardware below 9.0 V of VLOG (R591).
DEDUCED: log entry 177. -/
def State.lswGroupOn (s : State) (k : Nat) : Bool := s.sys.vlogLow.isNone && s.lswClosed k

/-- A condition holds channel `n` off (R324, R335), or its hold keeps it off as it stood (R338).
DEDUCED: log entry 155. -/
def lswBlocked (s : State) (n : Nat) : Bool :=
  !s.fb F.LSW_CTL_EN n || s.fb F.LSW_STAT_TRIP n || s.fb F.LSW_STAT_HOT n || s.fb F.LSW_STAT_EXHAUSTED n
    || s.fb F.LSW_STAT_PENDING n || s.fb F.LSW_STAT_LOST n || !s.lswClosed (n / 8) || s.fb F.LSW_GRSTAT_UNDERV (n / 8)
    || (s.lswHeld n && (s.lswX n).heldOff)

/-- An event bead that names channel `n` (R340). -/
def lswEvent (s : State) (n code detail : Nat) (value : Word) : State := event s 18 (0x200 + n) code detail value

/-- Channel `n` switches off; the off-time of R334 counts from here. -/
def lswOff (s : State) (n : Nat) : State :=
  let x := s.lswX n
  let s := s.setLsw n { x with offAt := none, offSince := if s.fb F.LSW_STAT_ON n then s.elapsed else x.offSince }
  s.setF F.LSW_STAT_ON 0 n

/-- Channel `n` switches on: the pull-up is disconnected, and a switch-on that starts a command in force opens the lamp
window (R329, R334). DEDUCED: log entry 47. -/
def lswOn (s : State) (n : Nat) : State :=
  let x := s.lswX n
  let lamp := x.lampDue && s.fb F.LSW_CTL_LAMP n
  let s := s.setLsw n { x with lampDue := false, lampEnd := if lamp then s.elapsed + 50000000 else x.lampEnd,
                               testAt := none, openHi := 0, openLo := 0 }
  let s := if lamp then s.setF F.LSW_STAT_LAMP_WIN 1 n else s
  s.setF F.LSW_STAT_ON 1 n

/-- The command in force starts: ON at once, PWM at the next period start (R322, R329, R335). The switch-on that starts
it is due, where an ON does not find the channel on already. -/
def lswResume (s : State) (n : Nat) : State :=
  let s := s.setLsw n { s.lswX n with lampDue := s.f F.LSW_STAT_CMD n != 1 || !s.fb F.LSW_STAT_ON n }
  if s.f F.LSW_STAT_CMD n = 1 ∧ !lswBlocked s n then lswOn (s.setLsw n { s.lswX n with offAt := none }) n else s

/-- The hold of load switch `n` ends: 1 release, 2 time limit, 3 fault, 4 SAFE_STOP_N (R557, R564). -/
def lswHoldEnd (s : State) (n cause : Nat) : State :=
  if s.lswHeld n then
    healthEvent (s.setMask R.SYS_HELD n false) 0 0 0xD2 cause (word (0x200 + n))
  else s

/-- The command in force of channel `n` becomes OFF, and the channel is disabled. -/
def lswDisable (s : State) (n : Nat) : State :=
  ((lswOff s n).setF F.LSW_CTL_EN 0 n).setF F.LSW_STAT_CMD 0 n

/-- A fault of R331: a held channel's hold ends, and it stays off, disabled (R338); another compares its retry budget.
DEDUCED: log entry 49. -/
def lswFault (s : State) (n kind : Nat) : State :=
  let held := s.lswHeld n
  let s := (lswOff s n).addR R.LSW_FCNT 1 n
  let s := s.setLsw n { s.lswX n with faultAt := s.elapsed, clean := none }
  if held then lswHoldEnd (lswDisable s n) n 3
  else if s.f F.LSW_STAT_RETRY_LEFT n = 0 then
    if s.fb F.LSW_STAT_EXHAUSTED n then s
    else lswEvent (s.setF F.LSW_STAT_EXHAUSTED 1 n) n 0x94 kind 0
  else s.setF F.LSW_STAT_PENDING 1 n

/-- The threshold in force in mA (R328, R329). -/
def lswThreshold (s : State) (n : Nat) : Nat :=
  s.f F.LSW_LIM_ILIM n * 100 * (if s.fb F.LSW_CTL_LAMP n && s.fb F.LSW_STAT_LAMP_WIN n then 5 else 1)

/-! ### Commands and registers -/

/-- A write to a register of channel `n` while it is held is refused (R556). -/
def lswHeldRefuse (s : State) (n : Nat) : Bool := s.lswHeld n

/-- A write of LSW_CMD is refused (R25, R322, R539, R556). -/
def lswCmdRefuse (s : State) (n : Nat) (v : Word) : Bool :=
  s.lswHeld n || s.f F.LSW_CTL_SRC n != 0 || (bits v 1 0 != 0 && (!s.fb F.LSW_CTL_EN n || outputsHeld s))

/-- A write of LSW_CMD (R322). -/
def lswCmdWrite (s : State) (n : Nat) (v : Word) : State :=
  match bits v 1 0 with
  | 0 => s
  | 1 => lswOff (s.setF F.LSW_STAT_CMD 0 n) n
  | op => lswResume (s.setF F.LSW_STAT_CMD (op - 1) n) n

/-- A write of LSW_CTL is refused (R342, R539, R556). -/
def lswCtlRefuse (s : State) (n : Nat) (v : Word) : Bool :=
  s.lswHeld n || (holdRefuses s && bits v 3 2 != s.f F.LSW_CTL_SRC n) ||
  (maskBit v 0 && !s.fb F.LSW_CTL_EN n &&
    (decide (2 ≤ bits v 3 2) || (maskBit v 4 && decide (80 < s.f F.LSW_LIM_ILIM n)) || s.fb F.LSW_STAT_LOST n
      || s.fb F.LSW_GRSTAT_DOWN (n / 8) || s.fb F.SYS_STAT_SS || outputsHeld s))

/-- A write of LSW_CTL takes effect (R323, R332, R342). -/
def lswCtlWrite (s : State) (n : Nat) (v : Word) : State :=
  let en := s.fb F.LSW_CTL_EN n
  let s := putReg s R.LSW_CTL v n
  if maskBit v 0 ∧ !en then
    let s := s.setF F.LSW_STAT_RETRY_LEFT (s.f F.LSW_RETRY_RETRY_MAX n) n
    let loop := s.f F.LSW_CTL_SRC n == 1
    let s := s.setF F.LSW_STAT_CMD (if loop then 2 else 0) n
    s.setLsw n { s.lswX n with clean := some s.elapsed, duty := 0, lampDue := loop }
  else if en ∧ !maskBit v 0 then lswDisable s n
  else s

/-- A write of LSW_DUTY is refused with SRC = 1 (R323) and while held. -/
def lswDutyRefuse (s : State) (n : Nat) : Bool := s.lswHeld n || s.f F.LSW_CTL_SRC n == 1

/-- A write of LSW_CLR.FAULT (R329, R333): the command in force of a channel that a condition held off resumes; a command
that runs goes on as it is, without a new lamp window. A trip of the same 5 ns step stays and follows R331 as a new fault. -/
def lswClrWrite (s : State) (n : Nat) (v : Word) : State :=
  if !maskBit v 0 then s
  else
    let same := (s.lswX n).tripAt == some s.elapsed
    let stood := lswBlocked s n
    let s := (s.setF F.LSW_STAT_EXHAUSTED 0 n).setF F.LSW_STAT_PENDING 0 n
    let s := s.setF F.LSW_STAT_RETRY_LEFT (s.f F.LSW_RETRY_RETRY_MAX n) n
    if same then
      if s.f F.LSW_STAT_RETRY_LEFT n = 0 then lswEvent (s.setF F.LSW_STAT_EXHAUSTED 1 n) n 0x94 1 0
      else s.setF F.LSW_STAT_PENDING 1 n
    else
      let s := s.setF F.LSW_STAT_TRIP 0 n
      let s := s.setLsw n { s.lswX n with clean := some s.elapsed, coolRun := s.fb F.LSW_STAT_HOT n }
      if stood then lswResume s n else s

/-- A write of LSW_GRCTL.RESTORE (R336); of a group that is not down it restores nothing. DEDUCED: log entry 113. -/
def lswRestoreWrite (s : State) (k : Nat) (v : Word) : State :=
  if !maskBit v 0 then s
  else if (List.range 8).any (fun j => s.fb F.LSW_STAT_LOST (8 * k + j)) then s.setF F.LSW_GRSTAT_REFUSED 1 k
  else if !s.fb F.LSW_GRSTAT_DOWN k then s
  else
    let s := (s.setF F.LSW_GRSTAT_DOWN 0 k).setF F.LSW_GRSTAT_DOWN_CAUSE 0 k
    foldN 8 (fun s j => s.setF F.LSW_STAT_CMD 0 (8 * k + j)) s

/-- Enabled channel `n` uses generator `g` (R327). -/
def lswUses (s : State) (g n : Nat) : Bool := s.fb F.LSW_CTL_EN n && s.f F.LSW_PWM_GEN n == g

/-- A loop writes its output to channel `n` (R244, R323): the duty in force, kept while the channel is held. -/
def lswLoopWrite (s : State) (n : Nat) (v : Int) : Bool × State :=
  if s.f F.LSW_CTL_SRC n != 1 then (false, s)
  else if s.lswHeld n then (true, s)
  else (true, s.setLsw n { s.lswX n with duty := (clamp 0 65535 v).toNat })

/-! ### Pulse-width modulation (R325, R326) -/

/-- PER of the generator of channel `n` in ns. -/
def lswPer (s : State) (n : Nat) : Nat := s.f F.LSW_GPER_PER_US (s.f F.LSW_PWM_GEN n) * 1000

/-- TB_NOW is a period start of channel `n` (R325). -/
def lswOnStart (s : State) (n : Nat) : Bool :=
  let per := max 1 (lswPer s n)
  let off := (ceilDiv (s.f F.LSW_PWM_OFFSET n * per) 256 + 4) / 5 * 5
  s.tbHits (fun t => ((t : Int) - (off : Nat)) % (per : Nat) == 0)

/-- The duty a period start takes (R323, R327). -/
def lswDuty (s : State) (n : Nat) : Nat :=
  if s.f F.LSW_CTL_SRC n = 1 then (s.lswX n).duty else s.f F.LSW_DUTY_V n

/-- DUTY × PER / 65,536, to the nearest 5 ns. -/
def lswOnTime (duty per : Nat) : Nat := (2 * duty * per + 327680) / 655360 * 5

/-- A period start of channel `n` under PWM. -/
def lswPeriod (s : State) (n : Nat) : State :=
  let s := s.setLsw n { s.lswX n with startTb := some s.tbNow }
  let per := lswPer s n
  let duty := lswDuty s n
  let t := lswOnTime duty per
  if duty = 0 ∨ t < 2000 then lswOff s n
  else
    let s := if s.fb F.LSW_STAT_ON n then s.setLsw n { s.lswX n with lampDue := false } else lswOn s n
    let full := duty == 65535 || decide (per < t + 2000)
    s.setLsw n { s.lswX n with offAt := if full then none else some (s.elapsed + t) }

/-- LSW_PERIOD_START (R325, R326). -/
def execLswPeriodStart (n : Fin 32) (s : State) : Host.Outcome State Fault Refusal :=
  .next (
    if s.domOn 7 ∧ s.f F.LSW_STAT_CMD n = 2 ∧ !lswBlocked s n ∧ lswOnStart s n ∧ (s.lswX n).startTb ≠ some s.tbNow then
      lswPeriod s n
    else s)

/-- LSW_PWM_OFF_EDGE (R325): the on-time has ended. -/
def execLswPwmOffEdge (n : Fin 32) (s : State) : Host.Outcome State Fault Refusal :=
  .next (
    match (s.lswX n).offAt with
    | some t => if s.domOn 7 ∧ t ≤ s.elapsed then lswOff s n else s
    | none => s)

/-! ### Faults (R328 to R336) -/

/-- LSW_CURRENT_LIMIT_TRIP (R328, R331, R335). -/
def execLswCurrentLimitTrip (n : Fin 32) (s : State) : Host.Outcome State Fault Refusal :=
  .next (
    if s.domOn 7 ∧ s.fb F.LSW_STAT_ON n then
      let s := lswEvent s n 0x90 (s.f F.LSW_STAT_LAMP_WIN n) (word (lswThreshold s n))
      let s := (s.setF F.LSW_STAT_TRIP 1 n).setLsw n { s.lswX n with tripAt := some s.elapsed }
      lswFault s n 1
    else s)

/-- LAMP_WINDOW_END (R329): 50 ms have passed. -/
def execLampWindowEnd (n : Fin 32) (s : State) : Host.Outcome State Fault Refusal :=
  .next (
    if s.domOn 7 ∧ s.fb F.LSW_STAT_LAMP_WIN n ∧ (s.lswX n).lampEnd ≤ s.elapsed then s.setF F.LSW_STAT_LAMP_WIN 0 n
    else s)

/-- THERMAL_LATCH (R330, R331): the channel has reached 170 °C; `temp` is its temperature in 0.1 °C. -/
def execThermalLatch (n : Fin 32) (temp : BitVec 16) (s : State) : Host.Outcome State Fault Refusal :=
  .next (
    if s.domOn 7 ∧ !s.fb F.LSW_STAT_HOT n ∧ 1700 ≤ temp.toInt then
      let s := (s.setF F.LSW_STAT_HOT 1 n).setF F.LSW_STAT_HOT_SEEN 1 n
      lswFault (lswEvent s n 0x91 0 (wordI temp.toInt)) n 2
    else s)

/-- THERMAL_RELEASE (R324, R330, R333): below 150 °C the latch releases; a fault cleared meanwhile lets the channel go on,
and an ON that nothing else holds off is followed. DEDUCED: log entry 113. -/
def execThermalRelease (n : Fin 32) (temp : BitVec 16) (s : State) : Host.Outcome State Fault Refusal :=
  .next (
    if s.domOn 7 ∧ s.fb F.LSW_STAT_HOT n ∧ temp.toInt < 1500 then
      let s := lswEvent (s.setF F.LSW_STAT_HOT 0 n) n 0x92 0 (wordI temp.toInt)
      let go := (s.lswX n).coolRun
      let s := s.setLsw n { s.lswX n with coolRun := false }
      if go then lswResume s n
      else if s.f F.LSW_STAT_CMD n = 1 ∧ !lswBlocked s n ∧ !s.fb F.LSW_STAT_ON n then lswOn s n
      else s
    else s)

/-- RETRY_RESTART (R331, R338): at max(f + RETRY_INT, release of HOT) the command in force resumes and a retry is used; a
held channel is not restarted. -/
def execRetryRestart (n : Fin 32) (s : State) : Host.Outcome State Fault Refusal :=
  .next (
    let x := s.lswX n
    if s.domOn 7 ∧ s.fb F.LSW_STAT_PENDING n ∧ !s.fb F.LSW_STAT_HOT n ∧ !s.lswHeld n
        ∧ x.faultAt + s.f F.LSW_RETRY_RETRY_INT n * 1000000 ≤ s.elapsed then
      let left := s.f F.LSW_STAT_RETRY_LEFT n - 1
      let s := (s.setF F.LSW_STAT_RETRY_LEFT left n).setF F.LSW_STAT_TRIP 0 n
      let s := (s.setF F.LSW_STAT_PENDING 0 n).setF F.LSW_STAT_RESTARTED 1 n
      let s := lswEvent s n 0x93 0 (word left)
      lswResume (s.setLsw n { s.lswX n with clean := some s.elapsed }) n
    else s)

/-- RETRY_RELOAD (R332): OK_S seconds without a fault. -/
def execRetryReload (n : Fin 32) (s : State) : Host.Outcome State Fault Refusal :=
  .next (
    match (s.lswX n).clean with
    | some t =>
      if s.domOn 7 ∧ s.fb F.LSW_CTL_EN n ∧ !s.fb F.LSW_STAT_EXHAUSTED n
          ∧ t + s.f F.LSW_RETRY_OK_S n * 1000000000 ≤ s.elapsed then
        (s.setF F.LSW_STAT_RETRY_LEFT (s.f F.LSW_RETRY_RETRY_MAX n) n).setLsw n { s.lswX n with clean := none }
      else s
    | none => s)

/-- OPEN_LOAD_TEST (R334): a reading of `mv` mV, in the width of LSW_VOUT, of an off channel, every 10 ms from OL_DLY on. -/
def execOpenLoadTest (n : Fin 32) (mv : BitVec 32) (s : State) : Host.Outcome State Fault Refusal :=
  .next (
    let x := s.lswX n
    let due : Bool := match x.testAt with
      | some t => decide (t + 10000000 ≤ s.elapsed)
      | none => decide (x.offSince + s.f F.LSW_LIM_OL_DLY n * 1000000 ≤ s.elapsed)
    if s.domOn 7 ∧ s.fb F.LSW_CTL_OL_EN n ∧ !s.fb F.LSW_STAT_ON n ∧ due then
      let above := decide ((s.f F.LSW_LIM_OL_TH n * 100 : Nat) < mv.toInt)
      let hi := if above then x.openHi + 1 else 0
      let lo := if above then 0 else x.openLo + 1
      let s := s.setLsw n { x with testAt := some s.elapsed, openHi := hi, openLo := lo }
      let was := s.fb F.LSW_STAT_OPEN n
      if 3 ≤ hi ∧ !was then
        lswEvent ((s.setF F.LSW_STAT_OPEN 1 n).setF F.LSW_STAT_OPEN_SEEN 1 n) n 0x95 0 (wordI mv.toInt)
      else if 3 ≤ lo ∧ was then lswEvent (s.setF F.LSW_STAT_OPEN 0 n) n 0x96 0 (wordI mv.toInt)
      else s
    else s)

/-- Group `k` goes down (R335): disconnect open, its channels off, event 0x98. -/
def lswGroupDown (s : State) (k cause : Nat) : State :=
  let was := s.f F.LSW_GRSTAT_DOWN_CAUSE k
  if was = 1 ∨ was = cause then s
  else
    let s := (s.setF F.LSW_GRSTAT_DOWN 1 k).setF F.LSW_GRSTAT_DOWN_CAUSE cause k
    let s := foldN 8 (fun s j => lswOff s (8 * k + j)) s
    lswEvent s (8 * k) 0x98 cause (word k)

/-- Channel `n` is LOST: off, event 0x97, a record in the health log, and a hold of it ended (R335, R336, R557).
DEDUCED: log entry 147. -/
def lswLose (s : State) (n detail : Nat) : State :=
  let b := eventBead s (0x200 + n) 0x97 detail 0
  let s := ringPost ((lswOff s n).setF F.LSW_STAT_LOST 1 n) 18 b
  let s := logRecord s 1 [lane b 0, lane b 1, lane b 2, lane b 3]
  lswHoldEnd s n 3

/-- LSW_CONDUCTING_WHILE_OFF (R335): above 100 mA for 200 µs while commanded off; the group goes down, for a channel that
is LOST already too. DEDUCED: log entry 147. -/
def execLswConductingWhileOff (n : Fin 32) (s : State) : Host.Outcome State Fault Refusal :=
  .next (
    if s.domOn 7 ∧ !s.fb F.LSW_STAT_ON n ∧ (!s.fb F.LSW_STAT_LOST n ∨ s.f F.LSW_GRSTAT_DOWN_CAUSE (n.val / 8) ≠ 1) then
      lswGroupDown (lswLose s n 1) (n / 8) 1 else s)

/-- LSW_NOT_CONDUCTING (R335): no current for 1 ms while on. -/
def execLswNotConducting (n : Fin 32) (s : State) : Host.Outcome State Fault Refusal :=
  .next (if s.domOn 7 ∧ s.fb F.LSW_STAT_ON n then lswLose s n 2 else s)

/-- GROUP_OVERCURRENT (R335): above 45 A for 100 µs. -/
def execGroupOvercurrent (k : Fin 4) (s : State) : Host.Outcome State Fault Refusal :=
  .next (if s.lswGroupOn k then lswGroupDown s k 2 else s)

/-- GROUP_OVERLOAD (R335): the mean of the last 1 s, in 10 mA, against 20 A; nothing switches.
DEDUCED: log entry 48. -/
def execGroupOverload (k : Fin 4) (mean : BitVec 16) (s : State) : Host.Outcome State Fault Refusal :=
  .next (
    if s.domOn 7 then
      let high := decide (2000 < mean.toNat)
      let was := s.fb F.LSW_GRSTAT_GOVL k
      let s := (s.setF F.LSW_GRCUR_MEAN mean.toNat k).setB F.LSW_GRSTAT_GOVL high k
      if high then
        let s := s.setF F.LSW_GRSTAT_GOVL_SEEN 1 k
        if was then s else lswEvent s (8 * k) 0x9A 0 (word mean.toNat)
      else s
    else s)

/-- GROUP_UNDERVOLTAGE (R335): VLS, `mv` mV now, below 8.0 V for 1 ms. -/
def execGroupUndervoltage (k : Fin 4) (mv : BitVec 16) (s : State) : Host.Outcome State Fault Refusal :=
  .next (
    if s.domOn 7 ∧ !s.fb F.LSW_GRSTAT_UNDERV k ∧ mv.toNat < 8000 then
      let s := (s.setF F.LSW_GRSTAT_UNDERV 1 k).setF F.LSW_GRSTAT_UNDERV_SEEN 1 k
      let s := lswEvent s (8 * k) 0x99 1 (word mv.toNat)
      foldN 8 (fun s j => lswOff s (8 * k + j)) s
    else s)

/-- GROUP_UNDERVOLTAGE_END (R335): VLS above 8.5 V; the channels resume, no retry consumed. -/
def execGroupUndervoltageEnd (k : Fin 4) (mv : BitVec 16) (s : State) : Host.Outcome State Fault Refusal :=
  .next (
    if s.domOn 7 ∧ s.fb F.LSW_GRSTAT_UNDERV k ∧ 8500 < mv.toNat then
      let s := lswEvent (s.setF F.LSW_GRSTAT_UNDERV 0 k) (8 * k) 0x99 0 (word mv.toNat)
      foldN 8 (fun s j => lswResume s (8 * k + j)) s
    else s)

/-! ### Holds, resets and power (R337 to R339, R555 to R557) -/

/-- SAFE_STOP_N asserts (R337, R543): every channel off and disabled, every hold ended. -/
def lswSafeStop (s : State) : State := foldN 32 (fun s n => lswHoldEnd (lswDisable s n) n 4) s

/-- The reset-hold entries of the load switches act (R338, R538): a HOLD entry holds the output as it stands, an OFF
entry switches it off and disables it. After a loss of VLOG every entry counts as OFF; under SAFE_STOP_N no hold begins.
DEDUCED: log entry 50. -/
def lswRht (s : State) (allOff : Bool) : State :=
  foldN 32 (fun s n =>
    if maskBit (s.rd R.SYS_RHT_LSW) n && !allOff && !s.fb F.SYS_STAT_SS then
      if s.lswHeld n then s
      else (s.setLsw n { s.lswX n with holdAt := s.elapsed, heldOff := lswBlocked s n }).setMask R.SYS_HELD n true
    else lswDisable (s.setMask R.SYS_HELD n false) n) s

/-- The LSW registers at step 4 of a reset that leaves PD7 on (R556): held channels, their generators and their groups
keep theirs; the others reset but for LOST, HOT, a group down with cause LOST, and the undervoltages. -/
def lswReset (s : State) : State :=
  let held := (List.range 32).filter (fun n => s.lswHeld n)
  let free := (List.range 32).filter (fun n => !s.lswHeld n)
  let s := free.foldl (fun s n =>
    let lost := s.f F.LSW_STAT_LOST n
    let hot := s.f F.LSW_STAT_HOT n
    let a := R.LSW_CTL.addr n
    let s := { s with regs := tabDropRange s.regs a (a + 0x3F), lsw := tabDrop s.lsw n }
    let s := s.setLsw n { offSince := s.elapsed }
    (s.setF F.LSW_STAT_LOST lost n).setF F.LSW_STAT_HOT hot n) s
  let s := foldN 8 (fun s g =>
    if held.any (fun n => s.f F.LSW_PWM_GEN n == g) then s
    else { s with regs := tabDropRange s.regs (R.LSW_GPER.addr g) (R.LSW_GPER.addr g + 0xF) }) s
  let s := foldN 4 (fun s k =>
    if held.any (fun n => n / 8 == k) then s
    else
      let lost := s.f F.LSW_GRSTAT_DOWN_CAUSE k == 1
      let uv := s.f F.LSW_GRSTAT_UNDERV k
      let s := { s with regs := tabDropRange s.regs (R.LSW_GRCTL.addr k) (R.LSW_GRCTL.addr k + 0x1F) }
      let s := s.setF F.LSW_GRSTAT_UNDERV uv k
      if lost then (s.setF F.LSW_GRSTAT_DOWN 1 k).setF F.LSW_GRSTAT_DOWN_CAUSE 1 k else s) s
  { s with regs := tabDropRange s.regs 0x41000000 0x410000FF }

/-- The LSW registers at a switch-on of PD7 (R335, R336, R339). -/
def lswPowerOn (s : State) (failed : List Nat) : State :=
  let s := { s with regs := tabDropRange s.regs 0x41000000 0x41FFFFFF, lsw := [] }
  let s := foldN 32 (fun s n => s.setLsw n { offSince := s.elapsed }) s
  let s := foldN 4 (fun s k => s.setF F.LSW_GRSTAT_UNDERV 1 k) s
  failed.foldl (fun s n => if n < 32 then lswGroupDown (lswLose s n 1) (n / 8) 1 else s) s

/-- A write to SYS_HREL releases load switch `n` (R557): it goes on under its command in force, an ON that its hold kept
off at once. DEDUCED: log entry 155. -/
def lswRelease (s : State) (n : Nat) : State :=
  let t := lswHoldEnd s n 1
  if s.lswHeld n ∧ t.f F.LSW_STAT_CMD n = 1 ∧ !lswBlocked t n ∧ !t.fb F.LSW_STAT_ON n then lswOn t n else t

/-- HOLD_MAX has run out for load switch `n` (R557). -/
def lswHoldExpire (s : State) (n : Nat) : State := lswHoldEnd (lswDisable s n) n 2

/-! ### Reading -/

/-- An LSW register as it reads, where its contents are made of others (R320, R341, R343, R344). -/
def lswPeek (s : State) (id : Reg) (i : Nat) (raw : Word) : Word :=
  match id with
  | .LSW_ON => word (maskOf 32 (fun n => s.fb F.LSW_STAT_ON n))
  | .LSW_FAULTS => word (maskOf 32 (fun n => s.fb F.LSW_STAT_TRIP n || s.fb F.LSW_STAT_HOT n
      || s.fb F.LSW_STAT_EXHAUSTED n || s.fb F.LSW_STAT_LOST n))
  | .LSW_OPENS => word (maskOf 32 (fun n => s.fb F.LSW_STAT_OPEN n))
  | .LSW_GUSE => word (maskOf 32 (fun n => lswUses s i n))
  | .LSW_GRSTAT => putBits raw 3 3 (bit (s.lswGroupOn i))
  | .LSW_DUTY => if s.f F.LSW_CTL_SRC i = 1 then word (s.lswX i).duty else raw
  | .LSW_STAT =>
    putBits (putBits raw 11 11 (s.f F.LSW_GRSTAT_UNDERV (i / 8))) 10 10 (s.f F.LSW_GRSTAT_DOWN (i / 8))
  | _ => raw

end Sys2Proof.Machine
end

