-- ==== Sys2Proof/Machine/Fire.lean ====
section
/-! DEFINITION. Sys2Proof/Machine/Fire.lean: FIRE_PERMIT (spec/15_modes_and_reset.md R541; R308). -/

namespace Sys2Proof.Machine

/-- Loop `n` is named in SYS_FIREMASK (R541, R562). -/
def State.fireNames (s : State) (n : Nat) : Bool :=
  if n < 32 then maskBit (s.rd R.SYS_FIREMASK_LO) n else maskBit (s.rd R.SYS_FIREMASK_HI) (n - 32)

/-- Every condition of R541 holds. -/
def fireCond (s : State) : Bool :=
  (s.mode == modeBatch || s.mode == modeFlow) && s.fb F.SYS_FIRECTL_EN &&
  (List.range 64).any (fun n => s.fireNames n) &&
  (List.range 64).all (fun n => !s.fireNames n || s.fb F.LPE_STAT_FIRE_REQ n) &&
  (s.fb F.FAN_AFSTAT_AIRFLOW_OK || !s.fb F.SYS_SAFECFG_FIRE_AF) &&
  !s.fb F.SYS_STAT_SS && !s.fb F.SYS_STAT_CRIT

/-- The host timer exceeds HOST_TIMEOUT (R380, R535). -/
def hostLate (s : State) : Bool :=
  s.domOn 7 && decide (s.sys.hostAt + s.f F.FAN_HTO_HOST_TIMEOUT * 1000000000 < s.elapsed)

/-- SYS_STAT as it reads (R563). -/
def sysStat (s : State) : Word :=
  putBits (putBits (s.rd R.SYS_STAT) 5 5 (bit (s.rd R.SYS_HELD != 0 || s.rd R.SYS_HELDM != 0))) 4 4 (bit (hostLate s))

/-- FIRE_PERMIT opens: FIREDROP_SEEN, event 0xD3, and every class S channel off (R308, R563, R564).
DESIGN CHOICE: log entry 12. -/
def fireOpen (s : State) : State :=
  let s := (s.setF F.SYS_STAT_FIRE 0).setF F.SYS_STAT_FIREDROP_SEEN 1
  let s := healthEvent s 0 0 0xD3 0 (sysStat s)
  if s.domOn 7 then solFireDrop s else s

/-- FIRE_PERMIT after any change: the time for which the conditions have held counts from their coming true, and it
opens in the first step at which one fails (R541). -/
def fireUpdate (s : State) : State :=
  if fireCond s then
    if s.sys.fireSince.isSome then s else { s with sys := { s.sys with fireSince := some s.elapsed } }
  else
    let s := { s with sys := { s.sys with fireSince := none } }
    if s.fb F.SYS_STAT_FIRE then fireOpen s else s

/-- FIRE_PERMIT_ASSERT (R541): every condition has held for FIRE_DLY ms. -/
def execFirePermitAssert (s : State) : Host.Outcome State Fault Refusal :=
  .next (
    match s.sys.fireSince with
    | some t =>
      if fireCond s ∧ !s.fb F.SYS_STAT_FIRE ∧ t + s.f F.SYS_SAFECFG_FIRE_DLY * 1000000 ≤ s.elapsed then
        let s := s.setF F.SYS_STAT_FIRE 1
        healthEvent s 0 0 0xD3 1 (sysStat s)
      else s
    | none => s)

end Sys2Proof.Machine
end

