-- ==== Sys2Proof/Machine/Mtr.lean ====
section
/-! DEFINITION. Sys2Proof/Machine/Mtr.lean: the motor unit (spec/10_motor_drives.md R345 to R372, R381 to R386). -/

namespace Sys2Proof.Machine

/-- Motor axis `n` behind its registers. -/
def State.mtrX (s : State) (n : Nat) : MtrX := tabGet {} s.mtr n
/-- Change motor axis `n`. -/
def State.setMtr (s : State) (n : Nat) (x : MtrX) : State := { s with mtr := tabPut s.mtr n x }

/-- OFF. -/
def axOff : Nat := 0
/-- ALIGN. -/
def axAlign : Nat := 1
/-- OPENLOOP. -/
def axOpen : Nat := 2
/-- RUN. -/
def axRun : Nat := 3
/-- RETRY_WAIT. -/
def axWait : Nat := 4
/-- BLOCKED. -/
def axBlocked : Nat := 5
/-- TRIPPED. -/
def axTripped : Nat := 6
/-- LOST. -/
def axLost : Nat := 7

/-- The state of axis `n` (R362). -/
def State.axis (s : State) (n : Nat) : Nat := s.f F.MTR_STAT_STATE n

/-- Axis `n` is held under RUN-ON (SYS_HELDM, R556). -/
def State.mtrHeld (s : State) (n : Nat) : Bool := maskBit (s.rd R.SYS_HELDM) n

/-- Hall feedback selected and not lost (R357). -/
def State.hallOk (s : State) (n : Nat) : Bool := s.f F.MTR_CTL_FB n == 2 && !s.fb F.MTR_STAT_HALL_LOST n

/-- An event bead that names axis `n` (R382). -/
def mtrEvent (s : State) (n code detail : Nat) (value : Word) : State := event s 18 (0x300 + n) code detail value
/-- An event bead of the FAN unit (R382). -/
def fanEvent (s : State) (code detail : Nat) (value : Word) : State := event s 18 0x3FF code detail value

/-! ### AIRFLOW_OK (R381) -/

/-- The axes of AF_MASK. -/
def State.afMask (s : State) : List Nat :=
  (List.range 8).filter (fun n => s.hasAxis n && maskBit (word (s.f F.FAN_AF_AF_MASK)) n)

/-- The axes of AF_MASK whose last judgement failed. -/
def afFailing (s : State) : Nat := maskOf 8 (fun n => s.afMask.contains n && (tabFind s.fan.afGood n).isNone)

/-- Since when every axis of AF_MASK has met the condition without a break; none where one does not. -/
def afSince (s : State) : Option Nat :=
  if s.afMask = [] ∨ afFailing s ≠ 0 then none
  else some ((s.afMask.map (fun n => tabGet 0 s.fan.afGood n)).foldl max 0)

/-- Axis `n` fails the airflow condition: AIRFLOW_OK drops, and FIRE_PERMIT with it where FIRE_AF asks for it. -/
def afFail (s : State) (n : Nat) : State :=
  let s := { s with fan := { s.fan with afGood := tabDrop s.fan.afGood n } }
  if s.afMask.contains n && s.fb F.FAN_AFSTAT_AIRFLOW_OK then
    let s := s.setF F.FAN_AFSTAT_AIRFLOW_OK 0
    fireUpdate (fanEvent s 0xB2 0 (word (afFailing s)))
  else s

/-- Axis `n` meets the airflow condition; its time counts from the first centre at which it does. -/
def afHold (s : State) (n : Nat) : State :=
  if (tabFind s.fan.afGood n).isSome then s
  else { s with fan := { s.fan with afGood := tabPut s.fan.afGood n s.elapsed } }

/-- The judgement of axis `n` at its period centre. -/
def afJudge (s : State) (n : Nat) : State :=
  let need := s.f F.FAN_AF_AF_MIN * s.nat R.FAN_AXSMAX n
  if s.axis n = axRun ∧ (need : Int) ≤ (s.rd R.MTR_SPEED n).toInt * 1000 then afHold s n else afFail s n

/-- AIRFLOW_OK_ASSERT: every axis of AF_MASK has met the condition for AF_DLY ms. -/
def execAirflowOkAssert (s : State) : Host.Outcome State Fault Refusal :=
  .next (
    match afSince s with
    | some t =>
      if s.domOn 7 ∧ !s.fb F.FAN_AFSTAT_AIRFLOW_OK ∧ t + s.f F.FAN_AF_AF_DLY * 1000000 ≤ s.elapsed then
        fireUpdate (fanEvent (s.setF F.FAN_AFSTAT_AIRFLOW_OK 1) 0xB2 1 0)
      else s
    | none => s)

/-! ### Commands (R358 to R361) -/

/-- Axis `n` takes its command from the autonomous table (R26, R380, R385): SRC 3, SRC 2 with the mode in force for the
whole unit, or RUN-ON. -/
def mtrAuto (s : State) (n : Nat) : Bool :=
  let src := s.f F.MTR_CTL_SRC n
  src == 3 || (src == 2 && (s.fb F.FAN_ASTAT_HOST || s.fb F.FAN_ASTAT_HOLD)) || (s.mtrX n).auto

/-- The command in force of axis `n` (R360). -/
def mtrCmd (s : State) (n : Nat) : Int :=
  let x := s.mtrX n
  if mtrAuto s n then x.autoCmd
  else match s.f F.MTR_CTL_SRC n with
    | 0 => x.cmd0
    | 1 => x.loopCmd
    | _ => x.zoneCmd

/-- The speed command limited to ±SPD_MAX. -/
def mtrSpeedCmd (s : State) (n : Nat) : Int :=
  let m : Int := (s.nat R.MTR_SMAX n : Nat)
  clamp (-m) m (mtrCmd s n)

/-- The command calls for running (R358). -/
def mtrCalls (s : State) (n : Nat) : Bool :=
  match s.f F.MTR_CTL_MODE n with
  | 0 => decide (s.f F.MTR_SPD_MIN_SPD n ≤ (mtrSpeedCmd s n).natAbs)
  | 1 => mtrCmd s n != 0
  | _ => true

/-- The direction the command asks for: 1 or −1. -/
def mtrWanted (s : State) (n : Nat) : Int := if mtrCmd s n < 0 then -1 else 1

/-- A hold-off is in force on axis `n` (R368, R370). -/
def mtrHoldOff (s : State) (n : Nat) : Bool :=
  s.fb F.SYS_STAT_SS || (decide (n < 4) &&
    (s.fb F.MTR_STAT_HOT n || s.fb F.MTR_GSTAT_OVERV || s.fb F.MTR_GSTAT_UNDERV))

/-- The limit of the current in mA, the fold-back of R348 in it. -/
def mtrLimit (s : State) (n : Nat) : Nat :=
  (if s.fb F.MTR_STAT_FOLDBACK n then min (s.f F.MTR_ILIM_I_LIM n) 2500 else s.f F.MTR_ILIM_I_LIM n) * 10

/-- The current limit in force of R364 in mA. -/
def mtrForce (s : State) (n : Nat) : Nat :=
  if s.axis n = axOpen then s.f F.MTR_ST0_OL_I n * 10
  else if s.axis n = axRun ∧ s.f F.MTR_CTL_MODE n = 1 then min (mtrLimit s n) (mtrCmd s n).natAbs
  else mtrLimit s n

/-! ### States (R362, R363) -/

/-- Axis `n` enters a state with its gates as given: an axis that leaves RUN fails the airflow condition in that step. -/
def mtrGo (s : State) (n st gates : Nat) : State :=
  let x := s.mtrX n
  let was := s.axis n
  let left := if was = axOff then s.elapsed else x.leftOff
  let s := (s.setF F.MTR_STAT_STATE st n).setMtr n { x with
    gates := gates, leftOff := left, stallFrom := none, unlockFrom := none, tachBad := none, tachGone := none }
  if was = axRun ∧ st ≠ axRun then afFail s n else s

/-- The gates of the stop action: COAST or BRAKE, and coast under a hold-off (R361, R368). -/
def mtrStopGates (s : State) (n : Nat) : Nat := if mtrHoldOff s n then 0 else s.f F.MTR_CTL_STOPMODE n

/-- Axis `n` goes to OFF with its stop action (R361, R362). -/
def mtrStop (s : State) (n : Nat) : State := mtrGo s n axOff (mtrStopGates s n)

/-- Axis `n` enters RUN: 1 from OPENLOOP, 2 directly (R363, R382). -/
def mtrRun (s : State) (n how : Nat) (integral : Int) : State :=
  let s := mtrGo s n axRun 2
  let s := s.setMtr n { s.mtrX n with integral := integral, runAt := s.elapsed, idCmd := 0 }
  mtrEvent s n 0xA3 how (word (s.msSince (s.mtrX n).leftOff))

/-- A start by the two OFF rows of R363. -/
def mtrStart (s : State) (n : Nat) : State :=
  let dir := mtrWanted s n
  let x := s.mtrX n
  let s := s.setMtr n { x with dir := dir }
  if s.hallOk n ∨ (x.tracked ∧ (s.f F.MTR_SPD_LOCK_SPD n : Int) ≤ x.est * dir) then mtrRun s n 2 0
  else
    let s := mtrGo s n axAlign 2
    s.setMtr n { s.mtrX n with alignAt := s.elapsed, iqCmd := 0, idCmd := ((s.f F.MTR_ST0_ALIGN_I n * 10 : Nat) : Int),
                               angle := Config.alignAngle n % 65536 }

/-- The hold of axis `n` ends: 1 release, 2 time limit, 3 fault, 4 SAFE_STOP_N (R557). -/
def mtrHoldEnd (s : State) (n cause : Nat) : State :=
  if s.mtrHeld n then
    let s := (s.setMask R.SYS_HELDM n false).setMtr n { s.mtrX n with auto := false }
    healthEvent s 0 0 0xD2 cause (word (0x300 + n))
  else s

/-- A trip of axis `n` with the phase current in 10 mA (R36, R368). -/
def mtrTrip (s : State) (n cause : Nat) (cur : Word) : State :=
  if s.axis n = axLost then s
  else
    let s := mtrGo s n axTripped 0
    let s := (s.setF F.MTR_STAT_TRIP_SEEN 1 n).setF F.MTR_STAT_TRIP_CAUSE cause n
    let s := mtrEvent (s.setMtr n { s.mtrX n with tripAt := some s.elapsed }) n 0xA0 cause cur
    mtrHoldEnd s n 3

/-- Axis `n` is LOST: event 0xA6, a record in the health log (R368, R369). -/
def mtrLose (s : State) (n : Nat) : State :=
  let s := mtrGo s n axLost 0
  let b := eventBead s (0x300 + n) 0xA6 0 0
  let s := logRecord (ringPost s 18 b) 1 [lane b 0, lane b 1, lane b 2, lane b 3]
  mtrHoldEnd s n 3

/-- A hold-off puts a starting or running axis in OFF with coast (R363, R368). DEDUCED: log entry 53. -/
def mtrHeldOff (s : State) (n : Nat) : State :=
  if s.axis n = axAlign ∨ s.axis n = axOpen ∨ s.axis n = axRun then mtrGo s n axOff 0
  else if s.axis n = axOff then s.setMtr n { s.mtrX n with gates := 0 }
  else s

/-- In OFF an enabled axis applies its stop action (R362). -/
def mtrOffGates (s : State) (n : Nat) : State :=
  if s.axis n = axOff ∧ s.fb F.MTR_CTL_EN n then s.setMtr n { s.mtrX n with gates := mtrStopGates s n } else s

/-- The disconnect of bridge `n` is closed (R362, R369). -/
def State.bridgeClosed (s : State) (n : Nat) : Bool := s.domOn 7 && s.axis n != axLost

/-- The axes whose bridges VDRV feeds (R345). -/
def State.bridges (s : State) : List Nat := (List.range 4).filter (fun n => s.hasAxis n)

/-! ### The period centre (R346 to R358) -/

/-- The PWM period in ns, to the nearest 10 ns (R346). DEDUCED: log entry 51. -/
def mtrPeriod (s : State) (n : Nat) : Nat :=
  let hz := max 1 (s.f F.MTR_PWM_PWM_HZ n)
  (2 * 100000000 + hz) / (2 * hz) * 10

/-- TB_NOW is a period centre of axis `n`, or a slewing tick of 10 ns has just passed one: the TB_NOW of that centre. The
grid is fixed by the axis's first centre, and instants that a step passes are not performed (R346, R433). -/
def mtrCentre (s : State) (n : Nat) : Option Nat :=
  match (s.mtrX n).centreTb with
  | none => some s.tbNow
  | some t =>
    let on := fun (c : Nat) => decide (t < c) && (c - t) % max 1 (mtrPeriod s n) == 0
    if on s.tbNow then some s.tbNow
    else if s.tim.leap && on (s.tbNow - 5) then some (s.tbNow - 5)
    else none

/-- The gate command of phase `ph` of axis `n`, high or low (R346, R350, R362): off, the low sides on, or centre-aligned
PWM, in which a port keeps both off for the dead time DT. -/
def mtrGate (s : State) (n ph : Nat) (high : Bool) : Bool :=
  let x := s.mtrX n
  match x.gates, x.centreTb with
  | 1, _ => !high
  | 2, some c =>
    let per := max 1 (mtrPeriod s n)
    let u := (s.tbNow - c) % per
    let dist := min u (per - u)
    let half := 5 * (Config.pwmHalf n c ph % (per / 10 + 1))
    let dead := if n < 4 then 0 else 5 * s.f F.MTR_PWM_DT n
    if high then decide (dist < half) else decide (half + dead ≤ dist)
  | _, _ => false

/-- A phase current at the centre, in mA: of axes 0 to 3 as its shunt gives it; of axes 4 to 7 (2d − 1) × SD_FS, where d is
the fraction of ones in the control filter's window of 128³ parts (R345, R351). -/
def mtrPhase (s : State) (n : Nat) (x : BitVec 32) : Rat :=
  if n < 4 then (x.toInt : Rat)
  else
    let d : Rat := ((min x.toNat (2 ^ 21) : Nat) : Rat) / ((2 ^ 21 : Nat) : Rat)
    (2 * d - 1) * ((s.f F.MTR_SDFS_SD_FS n * 10 : Nat) : Rat)

/-- The rms current of a phase over the last period in mA; the filter of axes 4 to 7 gives no more than SD_FS. -/
def mtrPhaseRms (s : State) (n : Nat) (x : BitVec 32) : Nat :=
  if n < 4 then x.toNat else min x.toNat (s.f F.MTR_SDFS_SD_FS n * 10)

/-- The rms phase current of the last period in mA: the root of the mean square of the three phases.
PRESUMED: log entry 165. -/
def mtrRms (s : State) (n : Nat) (d : MtrSample) : Nat :=
  let sq := fun (x : BitVec 32) => mtrPhaseRms s n x * mtrPhaseRms s n x
  Nat.sqrt ((sq d.ru + sq d.rv + sq d.rw) / 3)

/-- The d-axis and q-axis currents of a centre in mA rms, from the three phase currents and the rotor angle: an amplitude of
√2 × I is I rms (R347). PRESUMED: log entry 165. -/
def mtrPark (s : State) (n : Nat) (d : MtrSample) : Int × Int :=
  let th : Rat := (((s.mtrX n).angle : Nat) : Rat) / ((65536 : Nat) : Rat)
  let iu := mtrPhase s n d.iu
  let iv := mtrPhase s n d.iv
  let iw := mtrPhase s n d.iw
  let amp : Rat := 2 / 3 * (1000000000 / 1414213562)
  (roundAway (amp * (iu * cosTurns th + iv * cosTurns (th - 1 / 3) + iw * cosTurns (th + 1 / 3))),
   roundAway (-amp * (iu * sinTurns th + iv * sinTurns (th - 1 / 3) + iw * sinTurns (th + 1 / 3))))

/-- Phase `ph` carries less than 5 % of the mean rms current of the other two, and that mean is above 2 A (R368). -/
def mtrThin (s : State) (n : Nat) (d : MtrSample) (ph : Nat) : Bool :=
  let u := mtrPhaseRms s n d.ru
  let v := mtrPhaseRms s n d.rv
  let w := mtrPhaseRms s n d.rw
  let p := if ph = 0 then u else if ph = 1 then v else w
  let rest := u + v + w - p
  decide (40 * p < rest) && decide (4000 < rest)

/-- The instant since when a condition has held, carried from centre to centre. -/
def since (s : State) (old : Option Nat) (now : Bool) : Option Nat :=
  if now then (match old with
    | some t => some t
    | none => some s.elapsed) else none

/-- A condition has held for `ns`. -/
def lasted (s : State) (t : Option Nat) (ns : Nat) : Bool :=
  match t with
  | some t => decide (t + ns ≤ s.elapsed)
  | none => false

/-- The speed the observer estimates, positive in the direction DIR sets (R352, R384). -/
def mtrEstimate (s : State) (n : Nat) (d : MtrSample) : Int :=
  if s.fb F.MTR_CTL_DIR n then -d.est.toInt else d.est.toInt

/-- The observer can track the rotor of axis `n` (R354). -/
def mtrTracks (s : State) (n : Nat) (d : MtrSample) : Bool :=
  d.tracked && (if n < 4 then decide (s.f F.MTR_SPD_MIN_SPD n ≤ d.est.toInt.natAbs) else (s.mtrX n).gates != 0)

/-- What the observer gives at a centre, and LOCKED (R353, R354). -/
def mtrObserve (s : State) (n : Nat) (d : MtrSample) : State :=
  let x := s.mtrX n
  let minS := s.f F.MTR_SPD_MIN_SPD n
  let track := mtrTracks s n d
  let est := if s.hallOk n || track then mtrEstimate s n d else 0
  let dt := s.elapsed - x.olAt
  let den : Int := ((s.f F.MTR_MOT0_POLES n * 1000000000 : Nat) : Int)
  let ol : Int := ((s.f F.MTR_ST1_OL_ACC n * dt * 600 : Nat) : Int)
  let near := s.axis n != axOpen || decide (10 * ((est * x.dir * den - ol).natAbs : Int) ≤ ol)
  let lockFrom := since s x.lockFrom (decide (s.f F.MTR_SPD_LOCK_SPD n ≤ est.natAbs) && near)
  let predFrom := since s x.predFrom (decide (s.f F.MTR_ILIM_I_LIM n * 10 < 4 * d.pred.toNat))
  let locked := (s.fb F.MTR_STAT_LOCKED n || lasted s lockFrom 50000000) && decide (minS ≤ est.natAbs)
    && !lasted s predFrom 10000000
  let s := s.setMtr n { x with est := est, tracked := track, lockFrom := lockFrom, predFrom := predFrom }
  s.setB F.MTR_STAT_LOCKED locked n

/-- The codes of the three Hall inputs in the order of the rotor's sectors (R357). PRESUMED: log entry 151. -/
def hallOrder : List Nat := [1, 3, 2, 6, 4, 5]

/-- A Hall code is invalid, or skips a sector: neighbours differ in one input (R357). -/
def hallWrong (last : Option Nat) (code : Nat) : Bool :=
  match hallOrder.findIdx? (fun c => c == code) with
  | none => true
  | some k =>
    match last.bind (fun l => hallOrder.findIdx? (fun c => c == l)) with
    | some m => !((k + 6 - m) % 6 == 0 || (k + 6 - m) % 6 == 1 || (k + 6 - m) % 6 == 5)
    | none => false

/-- The observer's angle held within sector `k` of the six: one beyond the sector gives the nearer of its two edges (R357).
DEDUCED: log entry 151. -/
def hallAngle (k angle : Nat) : Nat :=
  let a := k * 65536 / 6
  let b := (k + 1) * 65536 / 6
  let off := (angle + 65536 - a) % 65536
  if off < b - a then angle
  else if off - (b - a) < 65536 - off then b - 1
  else a

/-- The rotor angle of a centre: in the sector of the Hall inputs interpolated from the observer, else the observer's; in
ALIGN fixed, and in OPENLOOP at a frequency that rises at OL_ACC (R353, R357, R362). -/
def mtrAngle (s : State) (n : Nat) (d : MtrSample) : Nat :=
  let x := s.mtrX n
  let st := s.axis n
  if st = axAlign then Config.alignAngle n % 65536
  else if st = axOpen then
    let dt := s.elapsed - x.olAt
    let turn : Int := ((s.f F.MTR_ST1_OL_ACC n * dt * dt * 32768 / 10 ^ 18 : Nat) : Int)
    let way : Int := if s.fb F.MTR_CTL_DIR n then -x.dir else x.dir
    (((Config.alignAngle n % 65536 : Nat) + way * turn) % 65536).toNat
  else match s.hallOk n, hallOrder.findIdx? (fun c => c == d.hall.toNat) with
    | true, some k => hallAngle k d.angle.toNat
    | _, _ => d.angle.toNat

/-- The tachometer speed in 0.1 rpm, of PPR pulses for each revolution (R355): over the time to the last pulse from the
one that ended the count before, and no more than the time without a pulse allows. DESIGN CHOICE: log entry 148. -/
def mtrTach (s : State) (n : Nat) (d : MtrSample) : Nat × Option Nat :=
  let x := s.mtrX n
  let ppr := max 1 (s.f F.MTR_FB_PPR n)
  let speed := fun (k dt : Nat) => k * 600000000000 / (ppr * max 1 dt)
  if d.pulses = 0 then
    (match x.tachAt with
      | some t => min x.tachSpd (speed 1 (s.elapsed - t))
      | none => 0, x.tachAt)
  else
    let at_ := s.elapsed - d.ago.toNat
    (match x.tachAt with
      | some t => speed d.pulses.toNat (at_ - t)
      | none => 0, some at_)

/-- The tachometer and Hall checks of a centre, the rotor angle, and the speed in use (R355 to R357).
DEDUCED: log entry 54. -/
def mtrSpeedIn (s : State) (n : Nat) (d : MtrSample) : State :=
  let x := s.mtrX n
  let fbTach := s.f F.MTR_CTL_FB n == 1
  let run := s.axis n == axRun && fbTach
  let (tach, tachAt) := if fbTach then mtrTach s n d else (0, none)
  let off := decide (x.est.natAbs < 5 * (tach - x.est.natAbs + (x.est.natAbs - tach)))
  let tachGood := since s x.tachGood (run && !off)
  let wait := x.tachWait && !lasted s tachGood 200000000
  let use := run && !s.fb F.MTR_STAT_TACH_LOST n && !wait
  let speed := if use then (if x.est < 0 then -(tach : Int) else tach) else x.est
  let fbHall := s.f F.MTR_CTL_FB n == 2
  let code := d.hall.toNat
  let hall := if fbHall && hallWrong x.hall code then s.elapsed :: x.hallBad else x.hallBad
  let turned := s.axis n == axRun && s.hallOk n && speed != 0
  let s := s.setMtr n { x with
    dir := if turned then (if speed < 0 then -1 else 1) else x.dir,
    speed := speed, tachGood := tachGood, tachWait := wait, tachAt := tachAt, tachSpd := tach,
    tachBad := since s x.tachBad (run && off),
    tachGone := since s x.tachGone (run && d.pulses == 0 && decide (s.f F.MTR_SPD_MIN_SPD n < x.est.natAbs)),
    angle := mtrAngle s n d, hall := if fbHall && hallOrder.contains code then some code else x.hall,
    hallBad := hall.filter (fun t => decide (s.elapsed ≤ t + 100000000)) }
  if fbTach then s.wr R.MTR_TACHSPD (word tach) n else s

/-- The overload account of an integrated bridge (R348), in 10⁻¹⁵ A²s. -/
def mtrAccount (s : State) (n : Nat) (d : MtrSample) : State :=
  if 4 ≤ n then s
  else
    let x := s.mtrX n
    let i : Int := (mtrRms s n d : Nat)
    let e := (x.energy : Int) + (i * i - 625000000) * (mtrPeriod s n : Nat)
    let e := e.toNat
    let was := s.fb F.MTR_STAT_FOLDBACK n
    let fold := if was then decide (2975 * 10 ^ 15 ≤ e) else decide (5950 * 10 ^ 15 ≤ e)
    let v := word (e / 10 ^ 14)
    let s := (s.setMtr n { x with energy := e }).wr R.MTR_I2T v n
    if fold != was then mtrEvent (s.setB F.MTR_STAT_FOLDBACK fold n) n 0xA8 (bit fold) v else s

/-- The gain registers: a value and a shift (R218, R383). -/
def gainOf (w : Word) (x : Int) : Int := ashr ((bits w 25 0 : Int) * x) (bits w 31 26)

/-- The speed the loops of axis `n` aim at: its command, or in position mode what the position loop commands (R358). -/
def mtrTarget (s : State) (n : Nat) : Int :=
  if s.f F.MTR_CTL_MODE n = 2 then
    let e := sext (toField (mtrCmd s n - (s.rd R.MTR_POS n).toInt) 32) 32
    let smax : Int := (s.nat R.MTR_SMAX n : Nat)
    clamp (-smax) smax (gainOf (s.rd R.MTR_KPOS n) e)
  else mtrSpeedCmd s n

/-- A command against the running direction, which the speed loop decelerates at the limit where FB is not a valid Hall
(R361): with Hall feedback the running direction follows the speed through zero. -/
def mtrReverses (s : State) (n : Nat) : Bool :=
  s.f F.MTR_CTL_MODE n == 0 && !s.hallOk n && decide (mtrTarget s n * (s.mtrX n).dir < 0)

/-- The currents axis `n` commands at a centre: OL_I in OPENLOOP (R362), and in RUN the q-axis current of R358, held within
the current limit in force, with no regenerating current under BUSLIM (R349). DEDUCED: log entry 52. -/
def mtrLoops (s : State) (n : Nat) : State :=
  let x := s.mtrX n
  if s.axis n = axOpen then s.setMtr n { x with idCmd := 0, iqCmd := x.dir * ((s.f F.MTR_ST0_OL_I n * 10 : Nat) : Int) }
  else if s.axis n ≠ axRun then s
  else
    let lim : Int := (mtrLimit s n : Nat)
    let safe := fun (iq : Int) => if n < 4 && s.fb F.MTR_GSTAT_BUSLIM && decide (iq * x.speed < 0) then 0 else iq
    if s.f F.MTR_CTL_MODE n = 1 then s.setMtr n { x with iqCmd := safe (clamp (-lim) lim (mtrCmd s n)) }
    else if mtrReverses s n then s.setMtr n { x with iqCmd := safe (-x.dir * lim) }
    else
      let e := mtrTarget s n - x.speed
      let iq := clamp (-lim) lim (gainOf (s.rd R.MTR_KSP n) e + x.integral)
      let i' := clamp (-lim) lim (x.integral + gainOf (s.rd R.MTR_KSI n) e)
      s.setMtr n { x with iqCmd := safe iq, integral := i' }

/-! ### Stall attempts (R364, R365) -/

/-- A stall condition of R364 holds. -/
def mtrStalled (s : State) (n : Nat) : Bool :=
  let x := s.mtrX n
  let st := s.axis n
  ((st == axOpen || st == axRun) && lasted s x.stallFrom (s.f F.MTR_ST2_STALL_MS n * 1000000)) ||
    (st == axOpen && decide (x.olAt + s.f F.MTR_ST2_OL_TMAX n * 1000000 ≤ s.elapsed)) ||
    (st == axRun && !s.hallOk n && lasted s x.unlockFrom 100000000)

/-- A stall attempt that is due (R364, R365): the gates turn off and it counts; RETRIES + 1 of them block the axis. What
R366 ranks behind a stall attempt takes one that is due in its step first. -/
def mtrAttempt (s : State) (n : Nat) : State :=
  if mtrStalled s n then
    let a := s.f F.MTR_STAT_ATTEMPTS n + 1
    let s := (s.setF F.MTR_STAT_ATTEMPTS a n).setF F.MTR_STAT_STALL_SEEN 1 n
    let s := mtrEvent s n 0xA1 a (wordI (s.mtrX n).speed)
    if a ≤ s.f F.MTR_ST3_RETRIES n then
      let s := mtrGo s n axWait 0
      s.setMtr n { s.mtrX n with retryAt := s.elapsed }
    else mtrHoldEnd (mtrEvent (mtrGo s n axBlocked 0) n 0xA2 0 0) n 3
  else s

/-- The transitions a centre decides (R361, R363). -/
def mtrDecide (s : State) (n : Nat) : State :=
  let s := mtrAttempt s n
  let st := s.axis n
  let x := s.mtrX n
  if st = axOff then
    if s.fb F.MTR_CTL_EN n ∧ mtrCalls s n ∧ !mtrHoldOff s n ∧ (s.f F.MTR_CTL_MODE n ≠ 2 ∨ s.hallOk n) then mtrStart s n
    else s
  else if st = axAlign ∨ st = axOpen ∨ st = axRun then
    if !mtrCalls s n then mtrStop s n
    else if st = axOpen ∧ s.fb F.MTR_STAT_LOCKED n then mtrRun s n 1 ((s.f F.MTR_ST0_OL_I n * 10 : Nat) : Int)
    else if st = axRun ∧ mtrReverses s n ∧ x.speed.natAbs ≤ s.f F.MTR_SPD_MIN_SPD n then mtrStop s n
    else s
  else s

/-- The words of axis `n` at a centre (R352, R354): where the observer cannot track the rotor and no valid Hall feedback
shows it, the speed word reads 0 and the position word holds. -/
def mtrPublish (s : State) (n : Nat) (d : MtrSample) : State :=
  let x := s.mtrX n
  let speed := if s.hallOk n || x.tracked then x.speed else 0
  let acc := x.posAcc + speed * ((mtrPeriod s n * 65536 : Nat) : Int)
  let s := s.setMtr n { x with posAcc := acc }
  let s := (s.wr R.MTR_SPEED (wordI speed) n).wr R.MTR_POS (wordI (acc / 600000000000)) n
  let dq := mtrPark s n d
  let s := (s.wr R.MTR_IQ (wordI dq.2) n).wr R.MTR_ID (wordI dq.1) n
  let s := s.wr R.MTR_IRMS (word (mtrRms s n d)) n
  published (published s (0x800 + n)) (0x810 + n)

/-- The stall conditions as the centre finds them (R364), since when a phase is thin in RUN (R368), and ILIMIT. -/
def mtrStallWatch (s : State) (n : Nat) (d : MtrSample) : State :=
  let x := s.mtrX n
  let st := s.axis n
  let atLim := decide (95 * mtrForce s n ≤ 100 * mtrRms s n d)
  let run := st == axOpen || st == axRun
  let s := s.setB F.MTR_STAT_ILIMIT atLim n
  s.setMtr n { x with
    stallFrom := since s x.stallFrom (run && atLim && decide (x.speed.natAbs < s.f F.MTR_SPD_LOCK_SPD n)),
    unlockFrom := since s x.unlockFrom (st == axRun && !s.hallOk n && !s.fb F.MTR_STAT_LOCKED n),
    openFrom := ((List.range 3).filter (fun ph => st == axRun && mtrThin s n d ph)).map
      (fun ph => (ph, tabGet s.elapsed x.openFrom ph)) }

/-- A period centre (R346): the axis measures, decides, runs its loops and publishes its words. -/
def mtrCentreNow (s : State) (n : Nat) (d : MtrSample) : State :=
  match mtrCentre s n with
  | some c =>
    if s.domOn 7 ∧ s.hasAxis n ∧ s.f F.MTR_PWM_PWM_HZ n ≠ 0 then
      let s := s.setMtr n { s.mtrX n with centreTb := some c }
      let s := mtrSpeedIn (mtrObserve s n d) n d
      let s := mtrStallWatch (mtrAccount s n d) n d
      let s := mtrPublish (mtrLoops (mtrDecide s n) n) n d
      afJudge s n
    else s
  | none => s

/-! ### Starting, stalling and feedback loss (R356, R357, R363 to R365) -/

/-- ALIGN_END: ALIGN_MS has elapsed. -/
def execAlignEnd (n : Fin 8) (s : State) : Host.Outcome State Fault Refusal :=
  .next (
    if s.domOn 7 ∧ s.axis n = axAlign ∧ (s.mtrX n).alignAt + s.f F.MTR_ST1_ALIGN_MS n * 1000000 ≤ s.elapsed then
      let s := mtrGo s n axOpen 2
      s.setMtr n { s.mtrX n with olAt := s.elapsed, lockFrom := none, idCmd := 0,
                                 iqCmd := (s.mtrX n).dir * ((s.f F.MTR_ST0_OL_I n * 10 : Nat) : Int) }
    else s)

/-- RETRY_WAIT_END (R363): RWAIT_S has elapsed. -/
def execRetryWaitEnd (n : Fin 8) (s : State) : Host.Outcome State Fault Refusal :=
  .next (
    if s.domOn 7 ∧ s.axis n = axWait ∧ (s.mtrX n).retryAt + s.f F.MTR_ST3_RWAIT_S n * 1000000000 ≤ s.elapsed then
      if mtrCalls s n ∧ !mtrHoldOff s n ∧ (s.f F.MTR_CTL_MODE n ≠ 2 ∨ s.hallOk n) then mtrStart s n else mtrStop s n
    else s)

/-- ATTEMPTS_RESET (R365): 60 s in RUN without a stall attempt. -/
def execAttemptsReset (n : Fin 8) (s : State) : Host.Outcome State Fault Refusal :=
  .next (
    if s.domOn 7 ∧ s.axis n = axRun ∧ (s.mtrX n).runAt + 60000000000 ≤ s.elapsed then s.setF F.MTR_STAT_ATTEMPTS 0 n
    else s)

/-- TACH_LOST (R356): no pulse for 200 ms, or a disagreement of 200 ms; the axis runs on by the estimate, and the integral
takes up the change, so that the current command does not step. DEDUCED: log entry 152. -/
def execTachLost (n : Fin 8) (s : State) : Host.Outcome State Fault Refusal :=
  .next (
    let x := s.mtrX n
    let gone := lasted s x.tachGone 200000000
    if s.domOn 7 ∧ s.axis n = axRun ∧ s.f F.MTR_CTL_FB n = 1 ∧ !s.fb F.MTR_STAT_TACH_LOST n
        ∧ (gone || lasted s x.tachBad 200000000) then
      let s := s.setF F.MTR_STAT_TACH_LOST 1 n
      let loops := s.f F.MTR_CTL_MODE n != 1 && !mtrReverses s n
      let kept := if loops then x.iqCmd - gainOf (s.rd R.MTR_KSP n) (mtrTarget s n - x.est) else x.integral
      let s := s.setMtr n { x with speed := x.est, integral := kept }
      mtrEvent s n 0xA4 (if gone then 2 else 1) (wordI x.est)
    else s)

/-- HALL_LOST (R357): three invalid codes or sector skips within 100 ms. -/
def execHallLost (n : Fin 8) (s : State) : Host.Outcome State Fault Refusal :=
  .next (
    let x := s.mtrX n
    if s.domOn 7 ∧ s.f F.MTR_CTL_FB n = 2 ∧ !s.fb F.MTR_STAT_HALL_LOST n ∧ 3 ≤ x.hallBad.length then
      let s := s.setF F.MTR_STAT_HALL_LOST 1 n
      let starts := s.axis n == axAlign || s.axis n == axOpen || s.axis n == axRun
      let goes := starts && s.f F.MTR_CTL_MODE n != 2 && decide (s.f F.MTR_SPD_MIN_SPD n ≤ x.est.natAbs)
      if goes then mtrEvent s n 0xA5 1 0
      else
        let s := if starts then mtrStop s n else s
        mtrEvent s n 0xA5 2 0
    else s)

/-! ### Trips and losses (R368) -/

/-- What the guard filter gives for a window in which `ones` of its 4,096 parts are ones, in 10 mA (R351): its window of
0.8 µs has 16³ of them. -/
def guardCurrent (s : State) (n : Nat) (ones : Nat) : Rat :=
  ratAbs ((((2 * ones : Nat) : Rat) / ((4096 : Nat) : Rat) - 1) * (s.f F.MTR_SDFS_SD_FS n : Rat))

/-- A trip of R368 that is detected on axis `n`, with the phase current in 10 mA, or the ones in the guard filter's window: a
phase comparator of axes 0 to 3 at or above OC_LIM; the stack return of axes 4 to 7; their guard filter above OC_LIM (R351);
a bitstream without a transition for 2 µs while enabled; and in RUN a phase too small for 100 ms. DEDUCED: log entry 153. -/
def mtrTripNow (s : State) (k : TripKind) (n v : Nat) : State :=
  if !s.domOn 7 then s
  else match k with
    | .overcurrent => if n < 4 ∧ s.hasAxis n ∧ s.f F.MTR_OCL_OC_LIM n ≤ v then mtrTrip s n 1 (word v) else s
    | .desaturation => if 4 ≤ n then mtrTrip s n 2 (word v) else s
    | .filtered =>
      let i := guardCurrent s n (min v 4096)
      if 4 ≤ n ∧ ((s.f F.MTR_OCL_OC_LIM n : Nat) : Rat) < i then mtrTrip s n 3 (wordI (roundAway i)) else s
    | .bitstream => if 4 ≤ n ∧ s.fb F.MTR_CTL_EN n then mtrTrip s n 5 (word v) else s
    | .phaseOpen =>
      if s.axis n = axRun ∧ (s.mtrX n).openFrom.any (fun q => decide (q.2 + 100000000 ≤ s.elapsed)) then mtrTrip s n 4 (word v)
      else s

/-- Event 0xA7 for axis `n` (R382): set or cleared, 1 UNDERV, 2 OVERV, 3 HOT, and VDRV in mV.
DEDUCED: log entry 56. -/
def holdOffEvent (s : State) (n kind : Nat) (set : Bool) : State :=
  mtrEvent s n 0xA7 (bit set * 128 + kind) (s.rd R.MTR_VDRV)

/-- BRIDGE_OVERTEMPERATURE: a bridge of axes 0 to 3 reaches 150 °C. -/
def execBridgeOvertemperature (m : BridgeTemp) (s : State) : Host.Outcome State Fault Refusal :=
  .next (
    let n := m.axis.val
    if s.domOn 7 ∧ n < 4 ∧ s.hasAxis n ∧ 1500 ≤ m.temp.toInt then
      let s := s.wr R.MTR_TEMP m.temp n
      if s.fb F.MTR_STAT_HOT n then s else holdOffEvent (mtrHeldOff (s.setF F.MTR_STAT_HOT 1 n) n) n 3 true
    else s)

/-- BRIDGE_COOLED: below 130 °C. -/
def execBridgeCooled (m : BridgeTemp) (s : State) : Host.Outcome State Fault Refusal :=
  .next (
    let n := m.axis.val
    if s.domOn 7 ∧ n < 4 ∧ s.hasAxis n ∧ m.temp.toInt < 1300 then
      let s := s.wr R.MTR_TEMP m.temp n
      if s.fb F.MTR_STAT_HOT n then mtrOffGates (holdOffEvent (s.setF F.MTR_STAT_HOT 0 n) n 3 false) n else s
    else s)

/-- VDRV is measured at `mv` mV (R349): BUSLIM is set above 63 V and cleared below 62 V. -/
def busVdrv (s : State) (mv : Nat) : State :=
  let s := s.wr R.MTR_VDRV (word mv)
  if 63000 < mv then s.setF F.MTR_GSTAT_BUSLIM 1
  else if mv < 62000 then s.setF F.MTR_GSTAT_BUSLIM 0
  else s

/-- The unit has bridges, and VDRV is theirs (R5, R345). -/
def State.hasVdrv (s : State) : Bool := s.domOn 7 && !s.bridges.isEmpty

/-- VDRV_OVERVOLTAGE: VDRV, `mv` mV now, above 66 V for 100 µs. -/
def execVdrvOvervoltage (mv : BitVec 32) (s : State) : Host.Outcome State Fault Refusal :=
  .next (
    if s.hasVdrv ∧ 66000 < mv.toNat ∧ !s.fb F.MTR_GSTAT_OVERV then
      let s := busVdrv (s.setF F.MTR_GSTAT_OVERV 1) mv.toNat
      s.bridges.foldl (fun s n => holdOffEvent (mtrHeldOff s n) n 2 true) s
    else s)

/-- VDRV_OVERVOLTAGE_END: below 62 V. -/
def execVdrvOvervoltageEnd (mv : BitVec 32) (s : State) : Host.Outcome State Fault Refusal :=
  .next (
    if s.hasVdrv ∧ mv.toNat < 62000 ∧ s.fb F.MTR_GSTAT_OVERV then
      let s := busVdrv (s.setF F.MTR_GSTAT_OVERV 0) mv.toNat
      s.bridges.foldl (fun s n => mtrOffGates (holdOffEvent s n 2 false) n) s
    else s)

/-- VDRV_UNDERVOLTAGE: below 20 V for 1 ms. -/
def execVdrvUndervoltage (mv : BitVec 32) (s : State) : Host.Outcome State Fault Refusal :=
  .next (
    if s.hasVdrv ∧ mv.toNat < 20000 ∧ !s.fb F.MTR_GSTAT_UNDERV then
      let s := busVdrv (s.setF F.MTR_GSTAT_UNDERV 1) mv.toNat
      s.bridges.foldl (fun s n => holdOffEvent (mtrHeldOff s n) n 1 true) s
    else s)

/-- VDRV_UNDERVOLTAGE_END: above 22 V. -/
def execVdrvUndervoltageEnd (mv : BitVec 32) (s : State) : Host.Outcome State Fault Refusal :=
  .next (
    if s.hasVdrv ∧ 22000 < mv.toNat ∧ s.fb F.MTR_GSTAT_UNDERV then
      let s := busVdrv (s.setF F.MTR_GSTAT_UNDERV 0) mv.toNat
      s.bridges.foldl (fun s n => mtrOffGates (holdOffEvent s n 1 false) n) s
    else s)

/-- BUSLIM (R349): set above 63 V, cleared below 62 V. -/
def execBuslim (mv : BitVec 32) (s : State) : Host.Outcome State Fault Refusal :=
  .next (if s.hasVdrv then busVdrv s mv.toNat else s)

/-- MTR_CONDUCTING_WHILE_OFF: a phase of axes 0 to 3 conducts for 200 µs, gates off and no rotor tracked. -/
def execMtrConductingWhileOff (n : Fin 8) (s : State) : Host.Outcome State Fault Refusal :=
  .next (
    let x := s.mtrX n
    if s.domOn 7 ∧ n.val < 4 ∧ s.hasAxis n ∧ s.axis n ≠ axLost ∧ x.gates = 0
        ∧ !(x.tracked && decide (s.f F.MTR_SPD_MIN_SPD n ≤ x.est.natAbs)) then mtrLose s n
    else s)

/-- DESAT_WHILE_OFF: the stack return of axes 4 to 7 asserted for 200 µs, gate commands off. -/
def execDesatWhileOff (n : Fin 8) (s : State) : Host.Outcome State Fault Refusal :=
  .next (if s.domOn 7 ∧ 4 ≤ n.val ∧ s.axis n ≠ axLost ∧ (s.mtrX n).gates = 0 then mtrLose s n else s)

/-! ### Register writes (R360, R365, R367, R383, R384) -/

/-- A write of MTR_CMD is refused (R25, R539, R556), in Boot as in Hold. DEDUCED: log entry 150. -/
def mtrCmdRefuse (s : State) (n : Nat) : Bool := s.mtrHeld n || s.f F.MTR_CTL_SRC n != 0 || outputsHeld s

/-- A write of EN from 0 to 1 is refused: R384 over the values then held, with CTL as written. -/
def mtrEnableRefuse (s : State) (n : Nat) (v : Word) : Bool :=
  let mode := bits v 9 8
  let fbk := bits v 13 12
  let src := bits v 3 2
  let hz := s.f F.MTR_PWM_PWM_HZ n
  let il := s.f F.MTR_ILIM_I_LIM n
  let oc := s.f F.MTR_OCL_OC_LIM n
  mode == 3 || fbk == 3 || decide (2 ≤ bits v 17 16)
    || (decide (2 ≤ src) && mode != 0)
    || (mode == 2 && (fbk != 2 || s.fb F.MTR_STAT_HALL_LOST n))
    || (if n < 4 then decide (hz < 16000) || decide (40000 < hz) else decide (hz < 2000) || decide (20000 < hz))
    || s.f F.MTR_MOT0_RS n == 0 || s.f F.MTR_MOT1_LD n == 0 || s.f F.MTR_MOT1_LQ n == 0 || s.rd R.MTR_MOT2 n == 0
    || decide (100 * oc * oc < 242 * il * il)
    || decide (il < s.f F.MTR_ST0_ALIGN_I n) || decide (il < s.f F.MTR_ST0_OL_I n)
    || decide (s.f F.MTR_SPD_LOCK_SPD n < s.f F.MTR_SPD_MIN_SPD n)
    || decide (hz < 10 * s.nat R.MTR_CBW n)
    || s.axis n == axLost || s.fb F.SYS_STAT_SS || outputsHeld s

/-- A write of MTR_CTL is refused. -/
def mtrCtlRefuse (s : State) (n : Nat) (v : Word) : Bool :=
  s.mtrHeld n || (holdRefuses s && bits v 3 2 != s.f F.MTR_CTL_SRC n) ||
    (maskBit v 0 && !s.fb F.MTR_CTL_EN n && mtrEnableRefuse s n v)

/-- A write of MTR_CTL takes effect (R360, R363, R365, R377). DEDUCED: log entry 55. -/
def mtrCtlWrite (s : State) (n : Nat) (v : Word) : State :=
  let en := s.fb F.MTR_CTL_EN n
  let s := if en ∧ !maskBit v 0 then mtrAttempt s n else s
  let s := putReg s R.MTR_CTL v n
  if maskBit v 0 ∧ !en then
    let s := s.setF F.MTR_STAT_ATTEMPTS 0 n
    let s := (s.setF F.FAN_AXDEM_STOPPED 1 n).setF F.FANA_AXDEM_STOPPED 1 n
    let x := s.mtrX n
    let pos := (s.rd R.MTR_POS n).toInt
    let s := s.setMtr n { x with zoneCmd := 0, autoCmd := 0 }
    mtrOffGates (if s.f F.MTR_CTL_MODE n = 2 then s.setMtr n { s.mtrX n with cmd0 := pos, loopCmd := pos } else s) n
  else if en ∧ !maskBit v 0 then (if s.axis n ≤ axWait then mtrStop s n else s)
  else if en then mtrOffGates s n
  else s

/-- The ranges of MTR_ILIM and MTR_OCL (R383), for a changed field. -/
def mtrLimRefuse (s : State) (fl : Fld) (n lo hi : Nat) (v : Word) : Bool :=
  s.changes fl v n && (decide (bits v 19 0 < lo) || (decide (n < 4) && decide (hi < bits v 19 0)))

/-- A write of MTR_CLR (R356, R357, R365 to R367); a trip of the same 5 ns step stays. -/
def mtrClrWrite (s : State) (n : Nat) (v : Word) : State :=
  let s := mtrAttempt s n
  let s := if maskBit v 0 ∧ s.axis n = axTripped ∧ (s.mtrX n).tripAt ≠ some s.elapsed then mtrStop s n else s
  let s := if maskBit v 1 then s.setF F.MTR_STAT_ATTEMPTS 0 n else s
  let s := if maskBit v 1 ∧ s.axis n = axBlocked then mtrStop s n else s
  let s := if maskBit v 2 ∧ s.fb F.MTR_STAT_TACH_LOST n then
      (s.setF F.MTR_STAT_TACH_LOST 0 n).setMtr n { s.mtrX n with tachWait := true, tachGood := none }
    else s
  if maskBit v 3 then (s.setF F.MTR_STAT_HALL_LOST 0 n).setMtr n { s.mtrX n with hallBad := [] } else s

/-- A loop writes its output to axis `n` (R244, R360): false where the output is not mapped to the loop (R25). -/
def mtrLoopWrite (s : State) (n : Nat) (v : Int) : Bool × State :=
  if s.f F.MTR_CTL_SRC n != 1 then (false, s) else (true, s.setMtr n { s.mtrX n with loopCmd := v })

/-! ### Holds, resets and power (R369 to R372, R555 to R557) -/

/-- Axis `n` is disabled, gates as given; BLOCKED, TRIPPED and LOST survive (R363). -/
def mtrDisable (s : State) (n gates : Nat) : State :=
  let s := s.setF F.MTR_CTL_EN 0 n
  if s.axis n ≤ axWait then mtrGo s n axOff gates else s.setMtr n { s.mtrX n with gates := 0 }

/-- SAFE_STOP_N asserts (R370, R543): every gate off, every axis disabled, every hold ended. -/
def mtrSafeStop (s : State) : State := foldN 8 (fun s n => mtrHoldEnd (mtrDisable s n 0) n 4) s

/-- The reset-hold entries of the axes act, at a reset or on entry to Hold (R371, R538). After a loss of VLOG a RUN-ON
entry counts as COAST; what R27 ranks above the entries keeps the gates off. At a reset BRAKE acts on a TRIPPED and a
BLOCKED axis too, which its registers then leave in OFF (R556). DEDUCED: log entry 154. -/
def mtrRht (s : State) (vlogLost reset : Bool) : State :=
  foldN 8 (fun s n =>
    let e := bits (s.rd R.SYS_RHT_MTR) (2 * n + 1) (2 * n)
    if e = 2 ∧ s.f F.MTR_CTL_MODE n = 0 ∧ !vlogLost ∧ !s.fb F.SYS_STAT_SS then
      if s.fb F.MTR_CTL_EN n then
        if s.mtrHeld n then s
        else (s.setMask R.SYS_HELDM n true).setMtr n { s.mtrX n with holdAt := s.elapsed }
      else s.setMtr n { s.mtrX n with gates := 0 }
    else
      let brake := if e = 1 ∧ !mtrHoldOff s n then 1 else 0
      let s := mtrDisable (s.setMask R.SYS_HELDM n false) n brake
      if reset ∧ s.axis n ≠ axLost then s.setMtr n { s.mtrX n with gates := brake } else s) s

/-- The MTR registers at step 4 of a reset that leaves PD7 on (R556): held axes keep theirs; of the others LOST and HOT
stay, and the supply conditions go on. -/
def mtrReset (s : State) : State :=
  foldN 8 (fun s n =>
    if s.mtrHeld n then s
    else
      let lost := s.axis n == axLost
      let hot := s.f F.MTR_STAT_HOT n
      let gates := (s.mtrX n).gates
      let a := R.MTR_CTL.addr n
      let s := afFail s n
      let s := { s with regs := tabDropRange s.regs a (a + 0xFFF), mtr := tabDrop s.mtr n }
      let s := (s.setF F.MTR_STAT_STATE (if lost then axLost else axOff) n).setF F.MTR_STAT_HOT hot n
      s.setMtr n { gates := gates }) s

/-- The MTR registers at a switch-on of PD7 (R368, R369, R372). -/
def mtrPowerOn (s : State) (failed : List Nat) : State :=
  let s := { s with regs := tabDropRange s.regs 0x42000000 0x42FFFFFF, mtr := [] }
  let s := if s.bridges.isEmpty then s else s.setF F.MTR_GSTAT_UNDERV 1
  failed.foldl (fun s n => if n < 4 ∧ s.hasAxis n then mtrLose s n else s) s

/-- RUNON_MAX has run out for axis `n` (R557). -/
def mtrHoldExpire (s : State) (n : Nat) : State :=
  mtrHoldEnd (mtrDisable s n (mtrStopGates s n)) n 2

/-! ### Reading -/

/-- An MTR register as it reads, where its contents are made of others (R352, R360, R385, R386, R604). -/
def mtrPeek (s : State) (id : Reg) (n : Nat) (raw : Word) : Word :=
  match id with
  | .MTR_CMD => wordI (mtrCmd s n)
  | .MTR_STAT =>
    let w := putBits (putBits raw 12 12 (bit (mtrAuto s n))) 11 11 (s.f F.SYS_STAT_SS)
    if n < 4 then
      putBits (putBits (putBits w 9 9 (s.f F.MTR_GSTAT_OVERV)) 8 8 (s.f F.MTR_GSTAT_UNDERV)) 7 7 (s.f F.MTR_GSTAT_BUSLIM)
    else w
  | .MTR_FLAG =>
    let w := putBits (putBits raw 7 0 (bit (axisFault s n false))) 15 8 (bit (axisFault s n true))
    putBits w 31 16 (age16 (s.msSince (s.ageFrom (0x800 + n))))
  | .MTR_AXES => word (maskOf 8 (fun n => s.axis n == axRun) + 256 * maskOf 8 (fun n => s.axis n == axBlocked)
      + 65536 * maskOf 8 (fun n => decide (axTripped ≤ s.axis n)))
  | _ => raw

end Sys2Proof.Machine
end

