-- ==== Sys2Proof/Machine/Fan.lean ====
section
/-! DEFINITION. Sys2Proof/Machine/Fan.lean: the FAN unit's zone demand and autonomous table (spec/10_motor_drives.md
R373 to R380, R387). The two tables have one form: `auto` says which is meant. -/

namespace Sys2Proof.Machine

/-- The registers of one of the two tables. -/
structure FanTab where
  zctl  : RegDesc
  zdem  : RegDesc
  zx    : RegDesc
  zy    : RegDesc
  axcfg : RegDesc
  axmax : RegDesc
  axdem : RegDesc

/-- The zone table, or the autonomous table. -/
def fanTab (auto : Bool) : FanTab :=
  if auto then ⟨R.FANA_ZCTL, R.FANA_ZDEM, R.FANA_ZX, R.FANA_ZY, R.FANA_AXCFG, R.FANA_AXSMAX, R.FANA_AXDEM⟩
  else ⟨R.FAN_ZCTL, R.FAN_ZDEM, R.FAN_ZX, R.FAN_ZY, R.FAN_AXCFG, R.FAN_AXSMAX, R.FAN_AXDEM⟩

/-- Point `i` of the curve of zone `z`. -/
def fanPoint (s : State) (t : FanTab) (z i : Nat) : Int × Int :=
  ((s.rd t.zx z i).toInt, (bits (s.rd t.zy z i) 9 0 : Int))

/-- The curve and MSRC of zone `z` pass the check of R374, with ZCTL as given. -/
def fanZoneOk (s : State) (t : FanTab) (z : Nat) (ctl : Word) : Bool :=
  let n := bits ctl 7 4
  decide (2 ≤ n) && decide (n ≤ 8) && msrcOk s (bits ctl 27 16) &&
    (List.range n).all (fun i => decide ((fanPoint s t z i).2 ≤ 1000)) &&
    (List.range (n - 1)).all (fun i => decide ((fanPoint s t z i).1 < (fanPoint s t z (i + 1)).1))

/-- The demand of zone `z`'s curve at `x` (R374). -/
def fanCurve (s : State) (t : FanTab) (z n : Nat) (x : Int) : Nat :=
  let (x0, y0) := fanPoint s t z 0
  let (xl, yl) := fanPoint s t z (n - 1)
  if x ≤ x0 then y0.toNat
  else if xl ≤ x then yl.toNat
  else
    match (List.range (n - 1)).find? (fun i => decide (x ≤ (fanPoint s t z (i + 1)).1)) with
    | none => yl.toNat
    | some i =>
      let (xi, yi) := fanPoint s t z i
      let (xj, yj) := fanPoint s t z (i + 1)
      (roundAway ((yi : Rat) + ((x - xi : Int) : Rat) * ((yj - yi : Int) : Rat) / ((xj - xi : Int) : Rat))).toNat

/-- What an evaluation finds for zone `z`: whether it contributes, whether its demand is held for CLIPPED, and the
demand (R375, R378). -/
def fanZone (s : State) (t : FanTab) (z : Nat) : Bool × Bool × Nat :=
  let ctl := s.rd t.zctl z
  let src := bits ctl 27 16
  if !maskBit ctl 0 || src == 0xFFF || !fanZoneOk s t z ctl then (false, false, 0)
  else
    let m := measOf s src
    let dem := s.rd t.zdem z
    if m.lost then (false, false, 0)
    else if m.skipped then (if maskBit dem 16 then (true, true, bits dem 9 0) else (false, false, 0))
    else (true, false, fanCurve s t z (bits ctl 7 4) m.v)

/-- Every zone of a table is evaluated: ZDEM shows the outcome. -/
def fanZones (s : State) (t : FanTab) : State :=
  foldN 32 (fun s z =>
    let (c, h, d) := fanZone s t z
    s.wr t.zdem (word (d + 65536 * bit c + 131072 * bit h)) z) s

/-- The demand of axis `n` and the zone that gave it (R376); of equal demands the lowest zone is named. -/
def fanDemand (s : State) (t : FanTab) (n : Nat) : Nat × Option Nat :=
  let best := (List.range 32).foldl (fun (acc : Option (Nat × Nat)) z =>
    let dem := s.rd t.zdem z
    if maskBit dem 16 && (bits (s.rd t.zctl z) 15 8).testBit n then
      match acc with
      | some (d, _) => if d < bits dem 9 0 then some (bits dem 9 0, z) else acc
      | none => some (bits dem 9 0, z)
    else acc) none
  match best with
  | some (d, z) => (d, some z)
  | none => (bits (s.rd t.axcfg n) 9 0, none)

/-- The demand, stopped flag and speed command a table gives axis `n` (R376, R377). -/
def fanAxis (s : State) (t : FanTab) (n : Nat) : Int × State :=
  let (d, z) := fanDemand s t n
  let cfg := s.rd t.axcfg n
  let was := maskBit (s.rd t.axdem n) 26
  let stopped := if was then decide (d < bits cfg 19 10) else decide (d < bits cfg 29 20)
  let cmd : Int := if stopped then 0 else ((d * (s.rd t.axmax n).toNat / 1000 : Nat) : Int)
  let blocked := s.axis n == axBlocked
  let w := word (d + 65536 * z.getD 0 + 16777216 * bit z.isNone + 33554432 * bit blocked + 67108864 * bit stopped)
  (cmd, s.wr t.axdem w n)

/-- The causes of the autonomous table mode at an evaluation, and its begin or end (R380). -/
def fanMode (s : State) : State :=
  let host := hostLate s
  let hold := s.mode == modeHold
  let run := s.rd R.SYS_HELDM != 0
  let was := s.fb F.FAN_ASTAT_ACTIVE
  let act := host || hold || run
  let s := s.wr R.FAN_ASTAT (word (bit act + 2 * bit host + 4 * bit hold + 8 * bit run))
  let s := foldN 8 (fun s n => s.setMtr n { s.mtrX n with auto := s.mtrHeld n }) s
  if act && !was then fanEvent s 0xB0 (if host then 1 else if hold then 2 else 3) 0
  else if was && !act then fanEvent s 0xB1 0 0
  else s

/-- Both tables are evaluated at a TB_NOW that is a multiple of FAN_PER ms (R373); a BLOCKED axis is sent no command. -/
def fanEvaluate (s : State) : State :=
  let per := s.f F.FAN_GCTL_FAN_PER * 1000000
  if s.domOn 7 ∧ s.tbHits (fun t => t % per == 0) ∧ s.fan.evalTb ≠ some s.tbNow then
    let s := { s with fan := { s.fan with evalTb := some s.tbNow } }
    let s := fanMode (fanZones (fanZones s (fanTab false)) (fanTab true))
    foldN 8 (fun s n =>
      let (zc, s) := fanAxis s (fanTab false) n
      let (ac, s) := fanAxis s (fanTab true) n
      if s.axis n = axBlocked then s else s.setMtr n { s.mtrX n with zoneCmd := zc, autoCmd := ac }) s
  else s

/-! ### Register writes -/

/-- A write of FAN_ZCTL with EN from 0 to 1 in the zone table is refused (R374). DEDUCED: log entry 61. -/
def fanZctlRefuse (s : State) (z : Nat) (v : Word) : Bool :=
  maskBit v 0 && !s.fb F.FAN_ZCTL_EN z && !fanZoneOk s (fanTab false) z v

/-- A write of FANA_ZCTL that leaves a disabled autonomous zone disabled is refused with a reserved or absent MSRC (R20,
R378). DEDUCED: log entry 61. -/
def fanaZctlRefuse (s : State) (z : Nat) (v : Word) : Bool :=
  !maskBit v 0 && !s.fb F.FANA_ZCTL_EN z && s.changes F.FANA_ZCTL_MSRC v z && !msrcOk s (bits v 27 16)

/-- A write of FAN_AXCFG with START below STOP is refused (R377). -/
def fanAxRefuse (v : Word) : Bool := decide (bits v 19 10 < bits v 29 20)

/-- A write of FAN_AF changes what AIRFLOW_OK asks for (R381): an axis of the mask that does not meet it ends it, as an
empty mask does. -/
def fanAfWrite (s : State) (v : Word) : State :=
  let s := putReg s R.FAN_AF v
  if (afSince s).isNone && s.fb F.FAN_AFSTAT_AIRFLOW_OK then
    fireUpdate (fanEvent (s.setF F.FAN_AFSTAT_AIRFLOW_OK 0) 0xB2 0 (word (afFailing s)))
  else s

/-- The check of the autonomous table at the end of Commission and at every load (R378). The stored field
keeps its value. DEDUCED: log entry 60. -/
def fanAutoCheck (s : State) : State :=
  foldN 32 (fun s z =>
    if s.fb F.FANA_ZCTL_EN z && !fanZoneOk s (fanTab true) z (s.rd R.FANA_ZCTL z) then
      (s.setF F.FANA_ZCTL_EN 0 z).setF F.FAN_GSTAT_ABAD 1
    else s) s

/-! ### Reset, power and reading -/

/-- The FAN registers at step 4 of a reset that leaves PD7 on (R556): the autonomous table stays. -/
def fanReset (s : State) : State :=
  let keep := s.regs.filter (fun p => decide (0x43000200 ≤ p.1) && decide (p.1 < 0x43000300) ||
    decide (0x43002000 ≤ p.1) && decide (p.1 < 0x43003000))
  let s := { s with regs := tabDropRange s.regs 0x43000000 0x43FFFFFF }
  let s := keep.foldl (fun s p => { s with regs := tabPut s.regs p.1 p.2 }) s
  { storedLoad s 0x4300000C 0x4300000C with fan := { s.fan with afGood := [] } }

/-- The FAN registers at a switch-on of PD7: the autonomous table from the store, and its check (R372, R378). -/
def fanPowerOn (s : State) : State :=
  let s := { s with regs := tabDropRange s.regs 0x43000000 0x43FFFFFF, fan := {} }
  fanAutoCheck (storedLoad s 0x43000000 0x43FFFFFF)

/-- Step 8 of a boot with PD7 on: the autonomous table comes from the store's working copy and is checked (R378, R545). -/
def fanTableLoad (s : State) : State := fanAutoCheck (storedLoad s 0x43000200 0x43002FFF)

/-- A FAN register as it reads. -/
def fanPeek (s : State) (id : Reg) (raw : Word) : Word :=
  match id with
  | .FAN_ASTAT => putBits raw 31 16 (min 65535 ((s.elapsed - s.sys.hostAt) / 1000000000))
  | .FAN_AFSTAT => putBits raw 15 8 (afFailing s)
  | _ => raw

end Sys2Proof.Machine
end

