-- ==== Sys2Proof/Machine/Trace.lean ====
section
/-! DEFINITION. Sys2Proof/Machine/Trace.lean: the trace unit (spec/07_learning_and_trace.md R278 to R287). Triggers by
events and links are in Ops.lean. -/

namespace Sys2Proof.Machine

/-- Channel `c` records: ARMED or TRIGGERED. -/
def State.trcOn (s : State) (c : Nat) : Bool := s.f F.TRC_STAT_STATE c == 1 || s.f F.TRC_STAT_STATE c == 2

/-- Two successive samples cross the level in a direction the channel waits for (R283). -/
def trcCross (s : State) (c : Nat) (p v : Int) : Bool :=
  let lvl := (s.rd R.TRC_LEVEL c).toInt
  let mode := s.f F.TRC_TRG_TMODE c
  ((mode == 1 || mode == 3) && decide (p < lvl) && decide (lvl ≤ v))
    || ((mode == 2 || mode == 3) && decide (lvl ≤ p) && decide (v < lvl))

/-- Lay a sample into the buffer of channel `c`, and count it (R281, R285). `info` holds the bits of word 1 that the
node gives; `gapNs` is the distance at which a sample is not a gap. -/
def trcStore (s : State) (c : Nat) (v : Int) (info tb gapNs : Nat) : State :=
  let x := s.trcX c
  let trig := s.f F.TRC_STAT_STATE c == 2 && x.waiting
  let gap := match x.lastTb with
    | some t => tb != t + gapNs
    | none => false
  let w1 := (x.seq + 1) % 65536 * 65536 + bit trig * 32768 + bit gap * 8192 + info
  let k := x.next % 4096
  let s := (s.wr R.TRC_BUF (wordI v) c (2 * k)).wr R.TRC_BUF (word w1) c (2 * k + 1)
  let count := min 4096 (s.f F.TRC_COUNT_V c + 1)
  let next := (k + 1) % 4096
  let s := (s.setF F.TRC_COUNT_V count c).setF F.TRC_STAT_START ((next + 4096 - count) % 4096) c
  let s := if trig then s.wr64 R.TRC_TTIME_LO R.TRC_TTIME_HI tb c else s
  s.setTrc c { x with seq := x.seq + 1, next := next, waiting := x.waiting && !trig, lastV := some v, lastTb := some tb }

/-- The level test of the sample that channel `c` is about to record (R283). -/
def trcLevel (s : State) (c : Nat) (v : Int) : State :=
  match (s.trcX c).lastV with
  | some p => if trcCross s c p v then trcTrigger 8 s c 2 else s
  | none => s

/-- Channel `c` records one sample, and after the last post-trigger sample it is DONE (R282, R283). -/
def trcRecord (s : State) (c : Nat) (v : Int) (info tb gapNs : Nat) : State :=
  if !s.trcOn c then s
  else
    let s := trcStore s c v info tb gapNs
    if s.f F.TRC_STAT_STATE c = 2 then
      let x := s.trcX c
      let s := s.setTrc c { x with post := x.post - 1 }
      if x.post ≤ 1 then s.setF F.TRC_STAT_STATE 3 c else s
    else s

/-- The instant at which a period-clocked channel records, where TB_NOW has come to a multiple of its PERIOD_US (R280). -/
def trcDue (s : State) (c : Nat) : Option Nat :=
  let per := max 1 (s.f F.TRC_PER_V c * 1000)
  if !(s.trcOn c && s.f F.TRC_SEL_KIND c == 0) || (s.trcX c).takenTb == some s.tbNow then none
  else if s.tbNow % per = 0 then some s.tbNow
  else if s.tbHits (fun t => t % per == 0) then some (s.tbNow - 5)
  else none

/-- The word that a period-clocked channel records: zero without flags for 0xFFF (R20). -/
def trcWord (s : State) (c : Nat) : Meas :=
  let src := s.f F.TRC_SEL_INDEX c
  if src = 0xFFF then ⟨0, 0, 0, 0⟩ else measOf s src

/-- A period-clocked channel records the current word (R280); the level tests of all that record at this instant come
first, so that a link sees a trigger of the same instant (R283). -/
def tracePeriod (s : State) (c : Nat) : State :=
  match trcDue s c with
  | none => s
  | some tb =>
    if !s.domOn 3 then s
    else
      let s := foldN 8 (fun s k => if (trcDue s k).isSome then trcLevel s k (trcWord s k).v else s) s
      let m := trcWord s c
      trcRecord (s.setTrc c { s.trcX c with takenTb := some s.tbNow }) c m.v m.flags tb (s.f F.TRC_PER_V c * 1000)

/-! ### Register writes (R282 to R286) -/

/-- An ARM of channel `c` is refused (R282, R283). -/
def trcArmRefuse (s : State) (c : Nat) : Bool :=
  let idx := s.f F.TRC_SEL_INDEX c
  let fe := decide (idx < 0x30) || (decide (0x100 ≤ idx) && decide (idx < 0x108)) || (decide (0x110 ≤ idx) && decide (idx < 0x118))
  let link := s.f F.TRC_TRG_LINKMASK c
  s.trcOn c || (s.f F.TRC_TRG_TMODE c == 4 && s.f F.TRC_SEL_KIND c == 0 && !fe)
    || (s.f F.TRC_TRG_TMODE c == 5 && (link == 0 || link == 2 ^ c))

/-- A write of TRC_CTL is refused. -/
def trcCtlRefuse (s : State) (c : Nat) (v : Word) : Bool :=
  decide (1 < bits v 0 0 + bits v 1 1 + bits v 2 2) || (maskBit v 0 && trcArmRefuse s c)

/-- A write of TRC_SEL names a source under R20 where KIND is 0. -/
def trcSelRefuse (s : State) (c : Nat) (v : Word) : Bool :=
  bits v 31 28 == 0 && (s.changes F.TRC_SEL_INDEX v c || s.changes F.TRC_SEL_KIND v c) && !msrcOk s (bits v 11 0)

/-- ARM: the buffer is emptied. DEDUCED: log entry 40. -/
def trcArm (s : State) (c : Nat) : State :=
  let s := (s.wr R.TRC_STAT (putBits (s.rd R.TRC_STAT c) 8 0 1) c).setF F.TRC_STAT_START 0 c
  (s.wr R.TRC_COUNT 0 c).setTrc c {}

/-- STOP: the channel is DONE with the samples it has. -/
def trcStop (s : State) (c : Nat) : State := if s.trcOn c then s.setF F.TRC_STAT_STATE 3 c else s

/-- A write of TRC_CTL takes effect. -/
def trcCtlWrite (s : State) (c : Nat) (v : Word) : State :=
  if maskBit v 0 then trcArm s c
  else if maskBit v 1 then trcTrigger 8 s c 1
  else if maskBit v 2 then trcStop s c
  else s

end Sys2Proof.Machine
end

