-- ==== Sys2Proof/Machine/LpeBase.lean ====
section
/-! DEFINITION. Sys2Proof/Machine/LpeBase.lean: the Loop Engine's law, configuration checks, outputs and state changes
(spec/06_loop_engine.md; spec/07_learning_and_trace.md R260 to R277). -/

namespace Sys2Proof.Machine

/-- Loop `n` behind its registers. -/
def State.lpeX (s : State) (n : Nat) : LpeX := tabGet {} s.lpe n
/-- Change loop `n`. -/
def State.setLpe (s : State) (n : Nat) (x : LpeX) : State := { s with lpe := tabPut s.lpe n x }

/-- OFF. -/
def lpOff : Nat := 0
/-- MANUAL. -/
def lpManual : Nat := 1
/-- AUTO. -/
def lpAuto : Nat := 2
/-- OBSERVE. -/
def lpObserve : Nat := 3
/-- SAFE. -/
def lpSafe : Nat := 4

/-- The state of loop `n` (R254). -/
def State.loopSt (s : State) (n : Nat) : Nat := s.f F.LPE_STAT_STATE n

/-- Loop `n` runs jobs: not OFF and not shed (R235, R249). -/
def State.loopRuns (s : State) (n : Nat) : Bool := s.loopSt n != lpOff && !s.fb F.LPE_STAT_SHED n

/-- Loop `n` counts as open: OFF or MANUAL. -/
def State.loopOpen (s : State) (n : Nat) : Bool := decide (s.loopSt n ≤ lpManual)

/-- An event bead of loop `n` (R251). -/
def lpeEvent (s : State) (n code detail : Nat) (value : Word) : State := event s 17 n code detail value

/-! ### Numbers (R218, R219) -/

/-- A product of a coefficient, value and shift, with a signal (R218). -/
def prod (c : Int × Nat) (v : Int) : Int := ashr (c.1 * v) c.2

/-- Write-back to 32 bits, or sat32, and whether it limited (R219). -/
def wb (v : Int) : Lim := ⟨satS 32 v, decide (satS 32 v ≠ v)⟩

/-- The sum of the products of coefficients `f j` with the elements of a vector. -/
def dot (f : Nat → Int × Nat) (v : List Int) : Int := v.zipIdx.foldl (fun a p => a + prod (f p.2) p.1) 0

/-- Element `k` of a vector. -/
def elem (v : List Int) (k : Nat) : Int := v.getD k 0
/-- Element `k` of a vector of limited values. -/
def elemL (v : List Lim) (k : Nat) : Lim := v.getD k ⟨0, false⟩
/-- The values of a vector of limited values. -/
def vals (v : List Lim) : List Int := v.map Lim.v

/-- Coefficient entry `e` of loop `n` (R220). -/
def coef (s : State) (n e : Nat) : Int × Nat := ((s.rd R.COEF n e).toInt, s.f F.COEFS_SH n e)

/-- The registers `d n 0` to `d n (k - 1)`, signed. -/
def regVec (s : State) (d : RegDesc) (n k : Nat) : List Int := (List.range k).map (fun i => (s.rd d n i).toInt)

/-! ### Configuration -/

/-- The configuration of loop `n` as its registers stand. -/
def loopCfg (s : State) (n : Nat) : LoopCfg :=
  let nu := s.f F.LPE_DIM_NU n
  let nz := s.f F.LPE_DIM_NZ n
  { nx := s.f F.LPE_DIM_NX n, nm := s.f F.LPE_DIM_NM n, nu := nu, nz := nz,
    umin := regVec s R.LPE_UMIN n nu, umax := regVec s R.LPE_UMAX n nu,
    imin := regVec s R.LPE_IMIN n nz, imax := regVec s R.LPE_IMAX n nz,
    zsrc := (List.range nz).map (fun l => s.f F.LPE_ZSRC_V n l),
    dst := (List.range nu).map (fun j => s.f F.LPE_ODST_DST n j),
    rc := s.f F.RC_CFG_PH_MODE n != 0, rcN := s.f F.RC_SIZE_N n, rcBase := s.f F.RC_SIZE_RC_BASE n,
    lead := s.f F.RC_CFG_LEAD n, rcOut := s.f F.RC_CFG_RC_OUT n, rcZl := s.f F.RC_CFG_RC_ZL n }

/-- The configuration in force at loop `n`'s outputs: that of its last released job, else its registers' (R238). -/
def cfgInForce (s : State) (n : Nat) : LoopCfg :=
  match (s.lpeX n).job with
  | some j => j.cfg
  | none => loopCfg s n

/-- The multiply-accumulates of one job, without the preset (R216, R268). -/
def loopMacs (s : State) (n : Nat) : Nat :=
  let nx := s.f F.LPE_DIM_NX n
  let nm := s.f F.LPE_DIM_NM n
  let nu := s.f F.LPE_DIM_NU n
  let nz := s.f F.LPE_DIM_NZ n
  let e := bit (s.f F.LPE_DLCFG_DL_MODE n != 0)
  nx * nx + nx * nu + nx * e + nm * nx + nx * nm + nu * nx + nu * nz + nz
    + (if s.f F.RC_CFG_PH_MODE n != 0 then 9 else 0)

/-- The demand of loop `n` in multiply-accumulates per second (R247). -/
def loopDemand (s : State) (n : Nat) : Rat :=
  (((loopMacs s n + 50) * 1000000 : Nat) : Rat) / ((max 1 (s.f F.LPE_PER_V n) : Nat) : Rat)

/-- The summed demand of the loops that run jobs, `extra` counted among them. -/
def demandSum (s : State) (extra : Option Nat) : Rat :=
  (List.range 64).foldl (fun a n => if s.loopRuns n || extra == some n then a + loopDemand s n else a) 0

/-- The healthy matrix units of 0 to 4 (R513, R520). -/
def matrixHealthy (s : State) : List Nat := (List.range 5).filter (fun u => !s.sto.umap.matrix.contains u)
/-- The active matrix units: four at most, the fifth being the spare (R231). -/
def matrixActive (s : State) : List Nat := (matrixHealthy s).take 4
/-- The capacity in multiply-accumulates per second (R247). -/
def matrixCapacity (s : State) : Rat := (((matrixActive s).length * 250000000 : Nat) : Rat)

/-- A destination code that R244 gives, in a unit that is present, and not one of loop `n`'s own references (R245). -/
def dstNamed (s : State) (n c : Nat) : Bool :=
  c == 0 || (decide (0x100 ≤ c) && decide (c < 0x118)) || (decide (0x200 ≤ c) && decide (c < 0x220))
    || (decide (0x300 ≤ c) && decide (c < 0x308) && s.hasAxis (c - 0x300))
    || (decide (0x400 ≤ c) && decide (c < 0x500) && (c - 0x400) / 4 != n)

/-- Loop `n` may name destination `c`: R245. -/
def dstOk (s : State) (n c : Nat) : Bool :=
  dstNamed s n c && (c == 0 ||
    (List.range 64).all (fun m => m == n || (List.range 4).all (fun j => s.f F.LPE_ODST_DST m j != c)))

/-- Reference `l` of loop `n` is named by an output of some loop (R246). -/
def refNamed (s : State) (n l : Nat) : Bool :=
  (List.range 64).any (fun m => (List.range 4).any (fun j => s.f F.LPE_ODST_DST m j == 0x400 + 4 * n + l))

/-- A motor position or a counter input (R227, R263). -/
def countSrc (s : State) (c : Nat) : Bool :=
  (decide (0x810 ≤ c) && decide (c < 0x818) && s.hasAxis (c - 0x810)) || (decide (0x900 ≤ c) && decide (c < 0x904))

/-- The line of loop `n` takes in taps `a` to `a + k - 1`. -/
def lineHolds (s : State) (n a k : Nat) : Bool :=
  let b := s.f F.LPE_DLBASE_DL_BASE n
  s.f F.LPE_DLCFG_DL_MODE n != 0 && decide (a < b + s.f F.LPE_DLCFG_DL_LEN n) && decide (b < a + k)

/-- The learned table of loop `n` takes in entries `a` to `a + k - 1`. -/
def tableHolds (s : State) (n a k : Nat) : Bool :=
  let b := s.f F.RC_SIZE_RC_BASE n
  s.f F.RC_CFG_PH_MODE n != 0 && decide (a < b + s.f F.RC_SIZE_N n) && decide (b < a + k)

/-- The delay-line conditions of R237, and R257's on an output as the input. DEDUCED: log entry 29. -/
def lineOk (s : State) (n : Nat) : Bool :=
  let mode := s.f F.LPE_DLCFG_DL_MODE n
  let b := s.f F.LPE_DLBASE_DL_BASE n
  let len := s.f F.LPE_DLCFG_DL_LEN n
  mode == 0 || (decide (b + len ≤ 16384)
    && (List.range 64).all (fun m => m == n || s.loopSt m == lpOff || !lineHolds s m b len)
    && (mode != 2 || countSrc s (s.f F.LPE_DLSRC_DL_DSRC n))
    && (!s.fb F.LPE_DLCFG_DL_SRCSEL n || decide (s.f F.LPE_DLSRC_DL_SRC n % 4 < s.f F.LPE_DIM_NU n)))

/-- The repetitive controller's conditions of R270. -/
def rcOk (s : State) (n : Nat) : Bool :=
  let mode := s.f F.RC_CFG_PH_MODE n
  let b := s.f F.RC_SIZE_RC_BASE n
  let len := s.f F.RC_SIZE_N n
  let ph := s.f F.RC_PSRC_PH_SRC n
  let mk := s.f F.RC_PSRC_MK_SRC n
  mode == 0 || (decide (8 ≤ len) && decide (len ≤ 4096) && decide (b + len ≤ 65536)
    && (List.range 64).all (fun m => m == n || s.loopSt m == lpOff || !tableHolds s m b len)
    && decide (s.f F.RC_CFG_RC_OUT n < s.f F.LPE_DIM_NU n) && decide (s.f F.RC_CFG_RC_ZL n < s.f F.LPE_DIM_NZ n)
    && decide (s.f F.RC_CFG_LEAD n < len) && s.f F.RC_PER_V n != 0
    && (countSrc s ph || (mode == 2 && ph == 0xFFF))
    && (mode != 2 || (decide (0x900 ≤ mk) && decide (mk < 0x904))) && ph != mk)

/-- A CMD MANUAL from OFF would be accepted: R237 and R270. -/
def loopOk (s : State) (n : Nat) : Bool :=
  let c := loopCfg s n
  decide (1 ≤ c.nx) && decide (c.nx ≤ 16) && decide (c.nm ≤ 8) && decide (1 ≤ c.nu) && decide (c.nu ≤ 4) && decide (c.nz ≤ 4)
    && c.zsrc.all (fun m => decide (m < c.nm))
    && (c.umin.zip c.umax).all (fun p => decide (p.1 ≤ p.2)) && (c.imin.zip c.imax).all (fun p => decide (p.1 ≤ p.2))
    && c.dst.all (fun d => dstOk s n d)
    && decide (s.f F.LPE_PHASE_V n < s.f F.LPE_PER_V n) && decide (s.f F.LPE_ODLY_V n * 100 < s.f F.LPE_PER_V n * 1000)
    && lineOk s n && rcOk s n && decide (demandSum s (some n) ≤ matrixCapacity s)

/-! ### Outputs (R244 to R246) -/

/-- Loop `n` writes `v` to the destination of its output `j`: whether it was applied (R25, R245). In Hold an output to a
power output is not applied, and no flag is set (R539). DEDUCED: log entry 37. -/
def loopApply (s : State) (n j dst : Nat) (v : Int) : Bool × State :=
  if 0x100 ≤ dst ∧ dst < 0x400 ∧ s.mode = modeHold then (false, s)
  else
    let (ok, s) :=
      if dst < 0x100 then (true, s)
      else if dst < 0x200 then solLoopWrite s (dst - 0x100) v
      else if dst < 0x300 then lswLoopWrite s (dst - 0x200) v
      else if dst < 0x400 then mtrLoopWrite s (dst - 0x300) v
      else if dst < 0x500 then (true, s.wr R.LPE_REF (wordI v) ((dst - 0x400) / 4) ((dst - 0x400) % 4))
      else (true, s)
    let x := s.lpeX n
    (ok, if ok then (s.wr R.LPE_UAPP (wordI v) n j).setLpe n { x with unmapped := x.unmapped.filter (fun k => k != j) }
      else if x.unmapped.contains j then s
      else lpeEvent (s.setLpe n { x with unmapped := j :: x.unmapped }) n 0x67 j (word dst))

/-- Loop `n` writes a vector to its outputs: which were applied. An output that the loop no longer has is unmapped no
more (R245, R254). -/
def loopApplyEach (s : State) (n : Nat) (c : LoopCfg) (us : List Int) : List Bool × State :=
  let x := s.lpeX n
  let s := s.setLpe n { x with unmapped := x.unmapped.filter (fun k => decide (k < c.nu)) }
  let (l, s) := (us.take (min 4 c.nu)).zipIdx.foldl (fun acc p =>
    let (ok, s) := loopApply acc.2 n p.2 (c.dst.getD p.2 0) p.1
    (acc.1 ++ [ok], s)) ([], s)
  (l, s.setB F.LPE_STAT_UNMAPPED (!(s.lpeX n).unmapped.isEmpty) n)

/-- Loop `n` writes a vector to its outputs. -/
def loopApplyAll (s : State) (n : Nat) (c : LoopCfg) (us : List Int) : State := (loopApplyEach s n c us).2

/-- LPE_MAN of loop `n`, limited, and which outputs that limited (R235). -/
def loopMan (s : State) (n : Nat) (c : LoopCfg) : List Int × List Bool :=
  let l := (List.range c.nu).map (fun j =>
    let v := (s.rd R.LPE_MAN n j).toInt
    let w := clamp (elem c.umin j) (elem c.umax j) v
    (w, decide (w ≠ v)))
  (l.map (·.1), l.map (·.2))

/-! ### State changes (R236, R239) -/

/-- Loop `n` enters a state: AUTO_PEND ends, CAUSE and event 0x60. -/
def loopGo (s : State) (n st cause : Nat) (idx : Word) : State :=
  let s := ((s.setF F.LPE_STAT_STATE st n).setF F.LPE_STAT_CAUSE cause n).setF F.LPE_STAT_AUTO_PEND 0 n
  lpeEvent s n 0x60 (st + 16 * cause) idx

/-- Loop `n` enters SAFE (R242): SAFE_VALUE to its destinations in the same step, and its firing request falls. -/
def loopSafe (s : State) (n cause : Nat) : State :=
  if s.loopSt n = lpOff ∨ s.loopSt n = lpSafe then s
  else
    let s := (loopGo s n lpSafe cause 0xFFFFFFFF).setF F.LPE_STAT_FIRE_REQ 0 n
    let c := cfgInForce s n
    fireUpdate (loopApplyAll s n c (regVec s R.LPE_SAFE n c.nu))

/-- Loop `n` runs no more jobs: a running job's results are discarded (R236); one that has finished waits for its output
instant, where it is traced (R280). -/
def jobsEnd (s : State) (n : Nat) : State :=
  let x := s.lpeX n
  let kept := (x.earlier ++ x.job.toList).filter (fun j => j.done && !j.out)
  s.setLpe n { x with job := none, earlier := kept.map (fun j => { j with spent := true }) }

/-- Loop `n` goes to OFF by a command (R236): a running job's results are discarded. -/
def loopOffCmd (s : State) (n : Nat) : State :=
  let s := loopGo s n lpOff 1 0xFFFFFFFF
  let s := (s.setF F.LPE_STAT_FIRE_REQ 0 n).setF F.LPE_STAT_SHED 0 n
  let s := jobsEnd s n
  fireUpdate (s.setLpe n { s.lpeX n with loading := false })

/-- ALL_SAFE: every loop that is not OFF enters SAFE with cause 6 (R258). -/
def loopAllSafe (s : State) : State := foldN 64 (fun s n => loopSafe s n 6) s

/-! ### The delay line and the phase when a loop leaves OFF (R228, R263, R264) -/

/-- The word a selector names: valid or not, and its value. 0xFFF enters zero as a valid input (R20). -/
def selWord (s : State) (c : Nat) : Bool × Int :=
  if c = 0xFFF then (true, 0)
  else
    let m := measOf s c
    (!m.bad, m.v)

/-- The delay line's input word (R226). -/
def lineInput (s : State) (n : Nat) : Bool × Int :=
  let c := s.f F.LPE_DLSRC_DL_SRC n
  if s.fb F.LPE_DLCFG_DL_SRCSEL n then (true, (s.rd R.LPE_UAPP n (c % 4)).toInt) else selWord s c

/-- The taps of loop `n`'s line, newest first. -/
def lineTaps (s : State) (n : Nat) : List Word :=
  (List.range (s.f F.LPE_DLCFG_DL_LEN n)).map (fun t => s.rd R.DLPOOL (s.f F.LPE_DLBASE_DL_BASE n + t))

/-- Set the taps of loop `n`'s line. -/
def linePut (s : State) (n : Nat) (l : List Word) : State :=
  l.zipIdx.foldl (fun s p => s.wr R.DLPOOL p.1 (s.f F.LPE_DLBASE_DL_BASE n + p.2)) s

/-- Every tap of the line takes a value. -/
def lineFill (s : State) (n : Nat) (v : Int) : State :=
  linePut s n (List.replicate (s.f F.LPE_DLCFG_DL_LEN n) (wordI v))

/-- The line is set as on leaving OFF (R228). -/
def lineInit (s : State) (n : Nat) : State :=
  let mode := s.f F.LPE_DLCFG_DL_MODE n
  let s := s.wr R.LPE_DLACC 0 n
  if mode = 0 then s.setLpe n { s.lpeX n with dlDiv := 0, dlRedo := false }
  else
    let (okD, pos) := selWord s (s.f F.LPE_DLSRC_DL_DSRC n)
    let (ok, v) := lineInput s n
    let fill := s.fb F.LPE_DLCFG_DL_FILL n
    let s := s.setLpe n { s.lpeX n with
      dlDiv := 0, dlRedo := false, dlPos := if mode = 2 ∧ okD then some pos else none,
      dlLast := if ok then v else 0, dlFill := fill && !ok }
    if fill ∧ ok then lineFill s n v else s

/-- smod of R263. -/
def smod (x : Int) (m : Nat) : Nat := (x % (max 1 m : Nat)).toNat

/-- The difference of two counts, modulo 2^32, signed (R227). -/
def signed32 (x : Int) : Int := (wordI x).toInt

/-- The phase is set as on leaving OFF (R263, R264); one that no valid word sets stays, modulo PH_PER (R262).
DEDUCED: log entry 140. -/
def phaseInit (s : State) (n : Nat) : State :=
  let per := s.f F.RC_PER_V n
  let x := { s.lpeX n with phRedo := false, ph := (s.lpeX n).ph % max 1 per }
  let s := s.setB F.RC_STAT_NOMARK (s.f F.RC_CFG_PH_MODE n == 2) n
  let (ok, p) := selWord s (s.f F.RC_PSRC_PH_SRC n)
  match s.f F.RC_CFG_PH_MODE n with
  | 1 =>
    if ok then s.setLpe n { x with phPos := some p, ph := smod (signed32 (p - (s.rd R.RC_ORG n).toInt)) per }
    else s.setLpe n { x with phPos := none }
  | 2 =>
    let (_, mk) := selWord s (s.f F.RC_PSRC_MK_SRC n)
    s.setLpe n { x with mark := some mk, marked := false, samples := 0 }
  | _ => s.setLpe n x

/-- Pool entry `e` changes from `old`: loops keep what it held at the end of their last job (R271). -/
def poolNote (s : State) (e : Nat) (old : Word) : State :=
  { s with lpe := s.lpe.map (fun q =>
      let x := q.2
      (q.1, { x with since := if x.finished && (tabFind x.since e).isNone then tabPut x.since e old else x.since })) }

/-- CMD MANUAL from OFF takes effect (R225, R228, R236, R272). -/
def loopLeaveOff (s : State) (n : Nat) : State :=
  let s := (s.wr R.LPE_MISS 0 n).wr R.LPE_OVR 0 n
  let x := s.lpeX n
  let s := s.setLpe n { x with
    job := none, instants := 0, skips := [], windows := [], frozen := [], recover := 0, limited := [],
    firstDue := false, bumpDue := false, holdCnt := 0, qHeld := 0, zeroed := false,
    loading := s.f F.RC_CFG_PH_MODE n != 0 && s.fb F.RC_CFG_RESTORE n }
  loopGo (phaseInit (lineInit s n) n) n lpManual 1 0xFFFFFFFF

/-- AUTO, OBSERVE or SAFE to MANUAL: LPE_MAN takes the outputs in force (R236). -/
def loopToManual (s : State) (n : Nat) : State :=
  let s := foldN 4 (fun s j => s.wr R.LPE_MAN (s.rd R.LPE_UAPP n j) n j) s
  loopGo (s.setLpe n { s.lpeX n with firstDue := false, bumpDue := false }) n lpManual 1 0xFFFFFFFF

/-! ### Shedding (R249) -/

/-- Loop `n` is shed: SAFE with cause 7, and it runs no jobs. DEDUCED: log entry 39. -/
def loopShed (s : State) (n : Nat) : State :=
  let s := loopSafe s n 7
  jobsEnd (s.setF F.LPE_STAT_SHED 1 n) n

/-- Loops are shed until the demand fits: those not essential first, each kind in descending number. -/
def loopShedAll (s : State) : State :=
  let order := (List.range 64).reverse
  let all := (order.filter (fun n => !s.fb F.LPE_CTL_ESSENTIAL n)) ++ (order.filter (fun n => s.fb F.LPE_CTL_ESSENTIAL n))
  all.foldl (fun s n =>
    if s.loopRuns n && decide (matrixCapacity s < demandSum s none) then loopShed s n else s) s

end Sys2Proof.Machine
end

