-- ==== Sys2Proof/Machine/Lpe.lean ====
section
/-! DEFINITION. Sys2Proof/Machine/Lpe.lean: sample instants, jobs, output instants and register writes of the Loop
Engine, the repetitive controller in them (spec/06_loop_engine.md; spec/07_learning_and_trace.md). -/

namespace Sys2Proof.Machine

/-! ### The law (R215) -/

/-- xp and yp of a job (R215). -/
def jobPredict (s : State) (n : Nat) (c : LoopCfg) (ua : List Int) (vd : Int) : List Lim × List Lim :=
  let xh := regVec s R.LPE_X n c.nx
  let xp := (List.range c.nx).map (fun i =>
    wb (dot (fun j => coef s n (16 * i + j)) xh + dot (fun j => coef s n (256 + 4 * i + j)) ua
      + prod (coef s n (320 + i)) vd))
  let yp := (List.range c.nm).map (fun i => wb (dot (fun j => coef s n (336 + 16 * i + j)) (vals xp)))
  (xp, yp)

/-- Entry `k`, modulo N, of the learned table (R266). -/
def tableAt (s : State) (c : LoopCfg) (k : Int) : Int :=
  (s.rd R.RCPOOL (c.rcBase + (k % (max 1 c.rcN : Nat)).toNat)).toInt

/-- A job learns (R267). -/
def learnNow (s : State) (n : Nat) (j : LoopJob) : Bool :=
  j.cfg.rc && j.st == lpAuto && !j.first && s.fb F.RC_CTL_LEARN n && s.fb F.RC_CTL_APPLY n && j.phOk
    && j.used.getD (j.cfg.zsrc.getD j.cfg.rcZl 0) false && !(s.lpeX n).limited.contains j.cfg.rcOut

/-- The integrator step of a job (R215): preset, integration on y or yp, or none; sat32 limits are told apart. -/
def jobZ (s : State) (n : Nat) (j : LoopJob) (yp kx : List Lim) : List Lim × List Lim :=
  let c := j.cfg
  let lim := fun l (w : Lim) => (⟨clamp (elem c.imin l) (elem c.imax l) w.v, w.lim⟩ : Lim)
  if j.st = lpManual ∨ j.first then
    let v := (List.range c.nu).map (fun k => wb (elem j.ua k + (elemL kx k).v))
    ((List.range c.nz).map (fun l => lim l (wb (dot (fun k => coef s n (676 + 4 * l + k)) (vals v)))), v)
  else if j.st = lpAuto ∨ j.st = lpObserve then
    let err := (List.range c.nz).map (fun l =>
      let m := c.zsrc.getD l 0
      if j.used.getD m false ∧ j.st = lpAuto then wb (elem j.refs l - elem j.y m) else wb (elem j.refs l - (elemL yp m).v))
    ((List.range c.nz).map (fun l =>
      lim l (wb ((s.rd R.LPE_Z n l).toInt + prod (coef s n (672 + l)) (elemL err l).v))), err)
  else ((regVec s R.LPE_Z n c.nz).map (fun v => ⟨v, false⟩), [])

/-- What a job computes, with the coefficients memory holds (R215, R222, R266). -/
def jobRun (s : State) (n : Nat) (j : LoopJob) : LoopRes :=
  let c := j.cfg
  let x := s.lpeX n
  let (xp, yp) := jobPredict s n c j.ua j.vd
  let nu := (List.range c.nm).map (fun i =>
    if j.used.getD i false ∧ j.st ≠ lpObserve then wb (elem j.y i - (elemL yp i).v) else ⟨0, false⟩)
  let xh := (List.range c.nx).map (fun i => wb ((elemL xp i).v + dot (fun k => coef s n (464 + 8 * i + k)) (vals nu)))
  let kx := (List.range c.nu).map (fun k => wb (dot (fun i => coef s n (592 + 16 * k + i)) (vals xh)))
  let (z, zin) := jobZ s n j yp kx
  let hold := c.rc && !j.phOk && decide (x.holdCnt < s.f F.RC_HOLD_PH_HOLD n)
  let qHeld : Int := if !c.rc then 0
    else if j.phOk then tableAt s c (j.idx + c.lead : Nat)
    else if hold then x.qHeld else 0
  let q : Int := if c.rc && s.fb F.RC_CTL_APPLY n then qHeld else 0
  let uw := (List.range c.nu).map (fun k =>
    wb (dot (fun l => coef s n (656 + 4 * k + l)) (vals z) - (elemL kx k).v + (if k = c.rcOut then q else 0)))
  let u := (List.range c.nu).map (fun k =>
    (⟨clamp (elem c.umin k) (elem c.umax k) (elemL uw k).v, (elemL uw k).lim⟩ : Lim))
  let ulim := (List.range c.nu).map (fun k => decide ((elemL u k).v ≠ (elemL uw k).v))
  let learn := learnNow s n j
  let err : Lim := if learn then wb (elem j.refs c.rcZl - elem j.y (c.zsrc.getD c.rcZl 0)) else ⟨0, false⟩
  let sm := wb ((List.range 7).foldl (fun a k =>
    a + prod ((s.rd R.RC_Q n k).toInt, s.f F.RC_QS_SH n k) (tableAt s c ((j.idx : Int) + k - 3))) 0)
  let t := wb (prod ((s.rd R.RC_RHO n).toInt, s.f F.RC_RHOS_SH n) sm.v
    + prod ((s.rd R.RC_GAMMA n).toInt, s.f F.RC_GAMMAS_SH n) err.v)
  let sat := (xp ++ yp ++ nu ++ xh ++ kx ++ z ++ zin ++ uw).any Lim.lim || (learn && (err.lim || sm.lim || t.lim))
  { xp := xp, yp := yp, nu := nu, xh := xh, kx := kx, z := z, u := u, ulim := ulim, q := q, qHeld := qHeld,
    hold := if j.phOk then 0 else if hold then x.holdCnt + 1 else x.holdCnt,
    qzero := c.rc && !j.phOk && !hold && !x.zeroed, err := err, learn := if learn then some t.v else none, sat := sat }

/-! ### Tracing a job (R279 to R281) -/

/-- The node a channel traces, in a finished job whose output instant has passed: its value, and whether it was
limited. -/
def jobNode (kind i : Nat) (j : LoopJob) (r : LoopRes) : Lim :=
  let c := j.cfg
  match kind with
  | 1 => if i < c.nm then ⟨elem j.y i, false⟩ else ⟨0, false⟩
  | 2 => elemL r.yp i
  | 3 => elemL r.nu i
  | 4 => elemL r.xp i
  | 5 => elemL r.xh i
  | 6 => elemL r.z i
  | 7 => elemL r.kx i
  | 8 => elemL r.u i
  | 9 => ⟨elem j.applied i, false⟩
  | 10 => if i = 0 then ⟨j.vd, false⟩ else ⟨0, false⟩
  | 11 => if c.rc ∧ i = c.rcOut ∧ i < c.nu then ⟨r.q, false⟩ else ⟨0, false⟩
  | 12 => if i = 0 then r.err else ⟨0, false⟩
  | 13 => if i = 0 then ⟨(j.idx : Nat), false⟩ else ⟨0, false⟩
  | 14 => if i < c.nz then ⟨elem j.refs i, false⟩ else ⟨0, false⟩
  | _ => ⟨0, false⟩

/-- Channel `c` traces the jobs of loop `n`. -/
def trcLoop (s : State) (c n : Nat) : Bool := s.f F.TRC_SEL_KIND c != 0 && s.f F.TRC_SEL_LOOP c == n && s.trcOn c

/-- The job now at its trace is the DIV-th of channel `c`. -/
def trcTurn (s : State) (c : Nat) : Bool := decide (s.f F.TRC_DIV_V c ≤ (s.trcX c).jobs + 1)

/-- What channel `c` records of a job. -/
def trcNode (s : State) (c : Nat) (j : LoopJob) (r : LoopRes) : Lim := jobNode (s.f F.TRC_SEL_KIND c) (s.f F.TRC_SEL_INDEX c) j r

/-- The loop-clocked channels that trace loop `n` take its job, every DIV-th one (R280): the level tests of all of them
come first, so that a link sees a trigger of the same instant (R283). -/
def jobTrace (s : State) (n : Nat) (j : LoopJob) (r : LoopRes) : State :=
  let s := foldN 8 (fun s c => if trcLoop s c n && trcTurn s c then trcLevel s c (trcNode s c j r).v else s) s
  foldN 8 (fun s c =>
    if !trcLoop s c n then s
    else
      let x := s.trcX c
      if !trcTurn s c then s.setTrc c { x with jobs := x.jobs + 1 }
      else
        let i := s.f F.TRC_SEL_INDEX c
        let v := trcNode s c j r
        let info := bit v.lim * 16384 + bit j.missed * 4096 + j.st % 8 * 256
          + (if s.f F.TRC_SEL_KIND c = 1 then bit (j.used.getD i false) * 2048 + j.flags.getD i 0 % 256 else 0)
        trcRecord (s.setTrc c { x with jobs := 0 }) c v.v info j.tb (s.f F.TRC_DIV_V c * j.per)) s

/-- A job whose end and output instant have both come is traced. -/
def jobClose (s : State) (n : Nat) (j : LoopJob) : State :=
  match j.done && j.out, j.res with
  | true, some r => jobTrace s n j r
  | _, _ => s

/-! ### Output instants (R232, R235, R240, R241) -/

/-- The residual of the first law output after MANUAL (R241). A residual outside 32 bits has no stated value.
DESIGN CHOICE: log entry 32. -/
def loopBump (s : State) (n : Nat) (us : List Int) : State :=
  let s := s.setLpe n { s.lpeX n with bumpDue := false }
  (us.take 4).zipIdx.foldl (fun s p =>
    let b := p.1 - (s.rd R.LPE_UAPP n p.2).toInt
    let (w, s) := if satS 32 b = b then (wordI b, s) else freeReading s
    let s := s.wr R.LPE_BUMP w n p.2
    if b = 0 then s else lpeEvent (s.setF F.LPE_STAT_BUMP 1 n) n 0x61 p.2 w) s

/-- A deadline miss (R232). -/
def loopMiss (s : State) (n : Nat) : State :=
  let s := s.addR R.LPE_MISS 1 n
  let first := !s.fb F.LPE_STAT_MISS n
  let s := s.setF F.LPE_STAT_MISS 1 n
  if first then lpeEvent s n 0x62 0 (s.rd R.LPE_MISS n) else s

/-- Which outputs the limits held at this output instant, and ULIM where such a one was applied (R246, R267). -/
def loopLimited (r : List Bool × State) (n : Nat) (l : List Bool) : State :=
  let (app, s) := r
  let lim := (l.zipIdx.filter (·.1)).map (·.2)
  (s.setB F.LPE_STAT_ULIM (lim.any (fun j => app.getD j false)) n).setLpe n { s.lpeX n with limited := lim }

/-- What loop `n` does at the output instant of job `j`, by the state it is in then. DEDUCED: log entry 116. -/
def loopOutputAct (s : State) (n : Nat) (j : LoopJob) : State :=
  let c := j.cfg
  let st := s.loopSt n
  if st = lpManual then
    let (us, lim) := loopMan s n c
    loopLimited (loopApplyEach s n c us) n lim
  else if st = lpSafe then
    loopLimited (loopApplyEach s n c (regVec s R.LPE_SAFE n c.nu)) n []
  else if st = lpAuto ∨ st = lpObserve then
    match j.done, j.res with
    | true, some r =>
      if j.st = lpAuto ∨ j.st = lpObserve then
        let us := vals r.u
        let s := if (s.lpeX n).bumpDue then loopBump s n us else s
        loopLimited (loopApplyEach s n c us) n r.ulim
      else s
    | _, _ => loopMiss s n
  else s

/-- The output instant of job `j` of loop `n`: the job then (R232, R281). -/
def loopOutput (s : State) (n : Nat) (j : LoopJob) : LoopJob × State :=
  let s := if j.spent then s else loopOutputAct s n j
  let j := { j with out := true, missed := !j.done, applied := regVec s R.LPE_UAPP n j.cfg.nu }
  (j, jobClose s n j)

/-- The output instants of loop `n` that have come: those of jobs of an older grid first (R232, R238). -/
def loopOutputs (s : State) (n : Nat) : State :=
  let l := (s.lpeX n).earlier
  let s := s.setLpe n { s.lpeX n with earlier := l.filter (fun j => decide (s.tbNow < j.due)) }
  let s := l.foldl (fun s j => if j.due ≤ s.tbNow then (loopOutput s n j).2 else s) s
  match (s.lpeX n).job with
  | some j =>
    if !j.out ∧ j.due ≤ s.tbNow then
      let (j, s) := loopOutput s n j
      s.setLpe n { s.lpeX n with job := some j }
    else s
  | none => s

/-- An output instant of loop `n` (R232): at that instant, or late where a step of TB_NOW passed it.
DEDUCED: log entry 38. -/
def loopOutputNow (s : State) (n : Nat) : State := if s.domOn 3 then loopOutputs s n else s

/-! ### Sample instants (R223 to R228, R263, R264) -/

/-- The delay line at a released sample instant: vd (R226, R227). -/
def lineStep (s : State) (n : Nat) : Int × State :=
  let s := if (s.lpeX n).dlRedo then lineInit s n else s
  let mode := s.f F.LPE_DLCFG_DL_MODE n
  if mode = 0 then (0, (s.setF F.LPE_STAT_DL_HELD 0 n).setF F.LPE_STAT_DL_NODISP 0 n)
  else
    let x := s.lpeX n
    let (ok, inp) := lineInput s n
    let v := if ok then inp else x.dlLast
    let filled := x.dlFill && ok
    let (okD, pos) := if mode = 2 then selWord s (s.f F.LPE_DLSRC_DL_DSRC n) else (true, 0)
    let step : Int := (max 1 (s.f F.LPE_DLSTEP_V n) : Nat)
    let div := max 1 (s.f F.LPE_DLBASE_DL_DIV n)
    let cnt := x.dlDiv + x.instants
    let acc := match x.dlPos with
      | some p => satS 32 ((s.rd R.LPE_DLACC n).toInt + signed32 (pos - p))
      | none => (s.rd R.LPE_DLACC n).toInt
    let moves : Int := if 0 ≤ acc then acc / step else 0
    let k : Nat := if mode = 1 then cnt / div else if okD then moves.toNat else 0
    let s := if mode = 2 ∧ okD then s.wr R.LPE_DLACC (wordI (acc - moves * step)) n else s
    let s := s.setLpe n { x with
      dlLast := v, dlFill := x.dlFill && !ok, dlDiv := if mode = 1 then cnt % div else x.dlDiv,
      dlPos := if mode = 2 ∧ okD then some pos else x.dlPos }
    let s := (s.setB F.LPE_STAT_DL_HELD (!ok) n).setB F.LPE_STAT_DL_NODISP (mode == 2 && !okD) n
    let s := if filled then lineFill s n v else s
    let len := s.f F.LPE_DLCFG_DL_LEN n
    let k := if (s.lpeX n).dlFill then 0 else min k len
    let s := if k = 0 then s else linePut s n ((List.replicate k (wordI v) ++ lineTaps s n).take len)
    ((s.rd R.DLPOOL (s.f F.LPE_DLBASE_DL_BASE n + (len - 1))).toInt, s)

/-- The phase of MARK mode (R264): whether it is valid. -/
def phaseMark (s : State) (n : Nat) : Bool × State :=
  let x := s.lpeX n
  let src := s.f F.RC_PSRC_PH_SRC n
  let (okM, mk) := selWord s (s.f F.RC_PSRC_MK_SRC n)
  let (ok, p) := selWord s src
  let x := if okM ∧ x.mark ≠ some mk then { x with mark := some mk, org := p, marked := true, samples := 0 } else x
  let d : Int := if src = 0xFFF then (x.samples : Nat) else signed32 (p - x.org)
  let good := x.marked && ok && decide (0 ≤ d) && decide (d < s.f F.RC_PER_V n)
  let x := { x with ph := if good then d.toNat else x.ph, samples := x.samples + 1 }
  (good, (s.setLpe n x).setB F.RC_STAT_NOMARK (!x.marked) n)

/-- The phase at a released sample instant (R263, R264). -/
def phaseStep (s : State) (n : Nat) : Bool × State :=
  let s := if (s.lpeX n).phRedo then phaseInit s n else s
  match s.f F.RC_CFG_PH_MODE n with
  | 1 =>
    let (ok, p) := selWord s (s.f F.RC_PSRC_PH_SRC n)
    let s := if (s.lpeX n).phPos.isNone then phaseInit s n else s
    let x := s.lpeX n
    if ok then
      (true, s.setLpe n { x with
        ph := smod ((x.ph : Int) + signed32 (p - x.phPos.getD p)) (s.f F.RC_PER_V n), phPos := some p })
    else (false, s)
  | 2 => phaseMark s n
  | _ => (false, s)

/-- The class of a latched measurement (R224). -/
inductive MeasClass where
  | absent | lost | skipped | used
  deriving DecidableEq, Repr

/-- Classify measurement `i`, counting its skips: 0xFFF is absent; lost, skipped or used. -/
def classify (s : State) (n i : Nat) (m : Meas) : MeasClass × State :=
  let src := s.f F.LPE_MSRC_MSRC n i
  if src = 0xFFF then (.absent, s)
  else
    let x := s.lpeX n
    let req := s.fb F.LPE_MSRC_REQ n i
    let lim := s.f F.LPE_SUP_LOSS_SKIP n
    let maxAge := s.f F.LPE_MSRC_AGE_MAX n i
    let old := hasFlag m.flags flClipped || (maxAge != 0xFFFF && decide (maxAge < m.age))
    let key := i * 4096 + src
    let stale := s.fb F.LPE_MSRC_NEW_ONLY n i && tabFind x.seen key == some m.pubs
    let skips := if m.lost then 0 else if old then tabGet 0 x.skips i + 1
      else if stale then tabGet 0 x.skips i else 0
    let s := s.setLpe n { x with skips := tabPut x.skips i skips, seen := tabPut x.seen key m.pubs }
    if m.lost || (req && lim != 0 && decide (lim ≤ skips)) then (.lost, s)
    else if old || stale then (.skipped, s)
    else (.used, s)

/-- The freeze test of a used required measurement (R225): whether it is frozen, with the variance rounded down. -/
def freezeTest (s : State) (n i : Nat) (w : List (Int × Int)) : Bool × Nat :=
  let k := s.f F.LPE_SUP_FREEZE_N n
  let ys := w.map (·.1)
  let ps := w.map (·.2)
  let sum := ys.foldl (· + ·) 0
  let sq := ys.foldl (fun a y => a + y * y) 0
  let num : Int := (k : Int) * sq - sum * sum
  let spread := ps.foldl max (ps.headD 0) - ps.foldl min (ps.headD 0)
  let flat := decide (num < (s.nat R.LPE_FEPS n i * k * k : Nat))
  (flat && decide ((s.nat R.LPE_FPRED n i : Nat) < spread), (num / (max 1 (k * k) : Nat)).toNat)

/-- The freeze check of measurement `i` at this sample (R225); event 0x66 when it becomes frozen. -/
def freezeStep (s : State) (n i : Nat) (y yp : Int) : State :=
  let k := s.f F.LPE_SUP_FREEZE_N n
  let x := s.lpeX n
  let w := ((y, yp) :: tabGet [] x.windows i).take k
  let s := s.setLpe n { x with windows := tabPut x.windows i w }
  let (fr, var) := if w.length < k ∨ k = 0 then (false, 0) else freezeTest s n i w
  let x := s.lpeX n
  if fr then
    if x.frozen.contains i then s
    else lpeEvent (s.setLpe n { x with frozen := i :: x.frozen }) n 0x66 i (word (min var (2 ^ 32 - 1)))
  else s.setLpe n { x with frozen := x.frozen.filter (fun k => k != i) }

/-- The measurement words current at a sample instant (R23): those of loop `n`'s inputs, zero without flags for
0xFFF. -/
def loopWords (s : State) (n nm : Nat) : List Meas :=
  (List.range (min 8 nm)).map (fun i =>
    let src := s.f F.LPE_MSRC_MSRC n i
    if src = 0xFFF then ⟨0, 0, 0, 0⟩ else measOf s src)

/-- Latch and classify every measurement (R223, R224). -/
def latchAll (s : State) (n : Nat) (ms : List Meas) : List MeasClass × State :=
  ms.zipIdx.foldl (fun acc p =>
    let (c, s) := classify acc.2 n p.2 p.1
    (acc.1 ++ [c], s.wr R.LPE_Y (wordI p.1.v) n p.2)) ([], s)

/-- The transition a sample decides, feedback loss, freeze, recovery, then entry to AUTO (R236, R239). -/
def sampleGo (s : State) (n : Nat) (lost frozen : Option Nat) (clean : Bool) : State :=
  let s := match s.loopSt n, lost, frozen with
    | 2, some i, _ => (loopGo s n lpObserve 2 (word i)).setLpe n { (loopGo s n lpObserve 2 (word i)).lpeX n with obsAt := s.elapsed, recover := 0 }
    | 2, none, some i => (loopGo s n lpObserve 3 (word i)).setLpe n { (loopGo s n lpObserve 3 (word i)).lpeX n with obsAt := s.elapsed, recover := 0 }
    | 3, _, _ =>
      let k := if clean then (s.lpeX n).recover + 1 else 0
      let s := s.setLpe n { s.lpeX n with recover := k }
      if clean ∧ s.f F.LPE_SUP_RECOVER_N n ≤ k then loopGo s n lpAuto 4 0xFFFFFFFF else s
    | _, _, _ => s
  s

/-- AUTO_PEND takes effect at the sample instant (R236). -/
def autoEntry (s : State) (n : Nat) : State :=
  if s.fb F.LPE_STAT_AUTO_PEND n ∧ s.loopSt n = lpManual then
    let s := loopGo s n lpAuto 1 0xFFFFFFFF
    s.setLpe n { s.lpeX n with firstDue := true, bumpDue := true }
  else s

/-- The freeze checks of the required measurements used by a job, against the yp of that job (R225). `again` says that this
sample has entered the windows before, with another yp. -/
def freezeAll (s : State) (n : Nat) (req used : List Bool) (y : List Int) (yp : List Lim) (again : Bool) : State :=
  let s := foldN used.length (fun s i =>
    if req.getD i false && used.getD i false then
      let x := s.lpeX n
      let s := if again then s.setLpe n { x with windows := tabPut x.windows i (tabGet [] x.windows i).tail } else s
      freezeStep s n i (elem y i) (elemL yp i).v
    else s) s
  if s.f F.LPE_SUP_FREEZE_N n = 0 then s.setLpe n { s.lpeX n with frozen := [] } else s

/-- A job is released at a sample instant: words latched, the line and the phase moved, the state decided, the job made
ready (R215, R223 to R228, R230, R263, R264). The freeze check that decides a transition is made here, where coefficient
memory is locked while the loop stays out of MANUAL; that of a MANUAL sample is made with the job's own yp at dispatch. A
job that is done before its output instant keeps it. DEDUCED: log entry 26. DEDUCED: log entry 33. -/
def loopRelease (s : State) (n : Nat) : State :=
  let cfg := loopCfg s n
  let ua := regVec s R.LPE_UAPP n cfg.nu
  let ms := loopWords s n cfg.nm
  let (vd, s) := lineStep s n
  let (phOk, s) := phaseStep s n
  let (cls, s) := latchAll s n ms
  let isUsed := fun i => cls.getD i .absent == .used
  let req := fun i => s.fb F.LPE_MSRC_REQ n i && cls.getD i .absent != .absent
  let idx := List.range cfg.nm
  let yp := (jobPredict s n cfg ua vd).2
  let late := s.loopSt n == lpManual && !s.fb F.LPE_STAT_AUTO_PEND n
  let s := if late then s else freezeAll s n (idx.map req) (idx.map isUsed) (ms.map (·.v)) yp false
  let x := s.lpeX n
  let x := { x with frozen := x.frozen.filter req }
  let lost := idx.find? (fun i => req i && cls.getD i .absent == .lost)
  let frozen := idx.find? (fun i => req i && x.frozen.contains i)
  let clean := idx.all (fun i => !req i || (isUsed i && !x.frozen.contains i))
  let earlier := match x.job with
    | some j => if j.out then x.earlier else x.earlier ++ [j]
    | none => x.earlier
  let s := s.setLpe n { x with instants := 0, earlier := earlier }
  let s := s.setB F.LPE_STAT_SKIPPING (cls.contains .skipped) n
  let s := (s.setB F.LPE_STAT_LOSS lost.isSome n).setB F.LPE_STAT_FROZEN frozen.isSome n
  let s := autoEntry (sampleGo s n lost frozen clean) n
  let x := s.lpeX n
  let per := max 1 (s.f F.RC_PER_V n)
  let job : LoopJob := {
    cfg := cfg, tb := s.tbNow, due := s.tbNow + s.f F.LPE_ODLY_V n * 100, per := s.f F.LPE_PER_V n * 1000,
    req := idx.map req, got := idx.map isUsed, yp := yp, st := s.loopSt n,
    first := x.firstDue && s.loopSt n == lpAuto,
    y := ms.map (·.v), flags := ms.map (·.flags), used := idx.map (fun i => isUsed i && (late || !x.frozen.contains i)),
    ua := ua, refs := regVec s R.LPE_REF n cfg.nz, vd := vd, phOk := phOk, ph := x.ph, idx := x.ph * cfg.rcN / per }
  s.setLpe n { x with job := some job, firstDue := false }

/-- A sample instant finds the previous job unfinished (R233). DEDUCED: log entry 27. -/
def loopOverrun (s : State) (n : Nat) : State :=
  let s := s.addR R.LPE_OVR 1 n
  let first := !s.fb F.LPE_STAT_OVERRUN n
  let s := s.setF F.LPE_STAT_OVERRUN 1 n
  let s := if first then lpeEvent s n 0x65 0 (s.rd R.LPE_OVR n) else s
  autoEntry s n

/-- TB_NOW is a sample instant of loop `n` not yet taken (R230). -/
def onSample (s : State) (n : Nat) : Bool :=
  let per := max 1 (s.f F.LPE_PER_V n * 1000)
  s.domOn 3 && s.loopRuns n && s.tbHits (fun t => t % per == s.f F.LPE_PHASE_V n * 1000 % per) && (s.lpeX n).sampleTb != some s.tbNow

/-- OBSERVE_MAX of loop `n`; a write applies from the next 5 ns step (R252). -/
def observeMax (s : State) (n : Nat) : Nat :=
  match (s.lpeX n).obsWas with
  | some (t, v) => if t = s.elapsed then v else s.f F.LPE_OBS_V n
  | none => s.f F.LPE_OBS_V n

/-- OBSERVE_MAX has elapsed since loop `n` entered OBSERVE (R236). -/
def loopExpired (s : State) (n : Nat) : Bool :=
  s.loopSt n == lpObserve && decide ((s.lpeX n).obsAt + observeMax s n * 1000000 ≤ s.elapsed)

/-- The expiry of OBSERVE_MAX acts ahead of a CMD MANUAL and of a sample's own transitions in the same step (R239). DEDUCED:
log entry 114. -/
def loopExpire (s : State) (n : Nat) : State := if loopExpired s n then loopSafe s n 5 else s

/-- A sample instant of loop `n` (R23, R230, R233, R239). -/
def loopSampleNow (s : State) (n : Nat) : State :=
  if onSample s n then
    let s := loopExpire (loopOutputs s n) n
    let x := s.lpeX n
    let s := s.setLpe n { x with sampleTb := some s.tbNow, instants := x.instants + 1 }
    if x.loading then autoEntry s n
    else
      match x.job with
      | some j => if j.done then loopRelease s n else loopOverrun s n
      | none => loopRelease s n
  else s

/-! ### Jobs on the matrix units (R231, R232, R248) -/

/-- The jobs that run on a unit. -/
def jobsRunning (s : State) : Nat :=
  ((List.range 64).filter (fun n => match (s.lpeX n).job with
    | some j => j.unit.isSome && !j.done
    | none => false)).length

/-- A released job waits for a unit: its deadline. -/
def jobWaits (s : State) (n : Nat) : Option Nat :=
  match (s.lpeX n).job with
  | some j => if j.unit.isNone ∧ !j.done then some j.due else none
  | none => none

/-- The job that a free unit takes: the earliest deadline, then the lowest loop number (R231). -/
def jobNext (s : State) : Option Nat :=
  ((List.range 64).foldl (fun (best : Option (Nat × Nat)) n =>
    match jobWaits s n, best with
    | some d, some (e, _) => if d < e then some (d, n) else best
    | some d, none => some (d, n)
    | none, _ => best) none).map (·.2)

/-- The lowest active unit that runs no job; R231 leaves open which free unit takes it. DESIGN CHOICE: log entry 164. -/
def unitFree (s : State) : Option Nat :=
  (matrixActive s).find? (fun u => (List.range 64).all (fun n => match (s.lpeX n).job with
    | some j => j.unit != some u || j.done
    | none => true))

/-- The freeze check of a job with the yp that it forms (R225): that of a job released in MANUAL, and that of another whose
coefficients a CMD MANUAL has opened since its sample. The measurements that it still uses. DEDUCED: log entry 26. -/
def jobFreeze (s : State) (n : Nat) (j : LoopJob) : LoopJob × State :=
  let yp := (jobPredict s n j.cfg j.ua j.vd).2
  let manual := j.st == lpManual
  if !manual && yp == j.yp then (j, s)
  else
    let s := freezeAll s n j.req j.got j.y yp (!manual)
    let fr := (s.lpeX n).frozen
    let used := j.got.zipIdx.map (fun p => p.1 && !(j.req.getD p.2 false && fr.contains p.2))
    ({ j with used := used }, s.setB F.LPE_STAT_FROZEN (!fr.isEmpty) n)

/-- A unit takes the job of loop `n`: it computes with the coefficients of this moment (R222), and, restarted after a
unit's failure, with those of its first dispatch (R248). -/
def jobStart (s : State) (n u : Nat) : State :=
  match (s.lpeX n).job with
  | some j =>
    match j.res with
    | some _ => s.setLpe n { s.lpeX n with job := some { j with unit := some u } }
    | none =>
      let (j, s) := jobFreeze s n j
      s.setLpe n { s.lpeX n with job := some { j with unit := some u, res := some (jobRun s n j) } }
  | none => s

/-- A free active unit takes the released job with the earliest deadline, where that is loop `n`'s (R231). -/
def jobDispatchNow (s : State) (n : Nat) : State :=
  match unitFree s with
  | some u => if s.domOn 3 ∧ jobNext s = some n then jobStart s n u else s
  | none => s

/-- q falls to zero after PH_HOLD jobs without a valid phase (R266, R274). -/
def qZero (s : State) (n : Nat) : State :=
  lpeEvent (s.setLpe n { s.lpeX n with qHeld := 0, zeroed := true }) n 0x69 0 (s.rd R.RC_IDX n)

/-- The pool entry that a job learns. -/
def jobEntry (j : LoopJob) : Nat := j.cfg.rcBase + j.idx % max 1 j.cfg.rcN

/-- Pool entry `e` takes a value. -/
def poolPut (s : State) (e : Nat) (v : Word) : State := (poolNote s e (s.rd R.RCPOOL e)).wr R.RCPOOL v e

/-- A write of pool entry `e`, which held `old`: a running job of its owner that learns the entry does not write over it,
so that the write holds from the next job on (R261). -/
def poolWritten (s : State) (e : Nat) (old : Word) : State :=
  let s := poolNote s e old
  { s with lpe := s.lpe.map (fun q => (q.1, { q.2 with job := q.2.job.map (fun j =>
      if j.res.isSome && !j.done && jobEntry j == e then { j with poolWr := true } else j) })) }

/-- The repetitive controller's registers at the end of a job (R266, R274, R277). DEDUCED: log entry 34. -/
def rcEnd (s : State) (n : Nat) (j : LoopJob) (r : LoopRes) : State :=
  if !j.cfg.rc then s
  else
    let was := s.fb F.RC_STAT_PH_LOST n
    let s := if !j.phOk && !was then lpeEvent s n 0x68 (s.f F.RC_CFG_PH_MODE n) (s.rd R.RC_IDX n)
      else if j.phOk && was then lpeEvent s n 0x6A 0 (word j.idx) else s
    let s := if r.qzero && !(s.lpeX n).zeroed then qZero s n else s
    let s := ((s.setB F.RC_STAT_PH_VALID j.phOk n).setB F.RC_STAT_PH_LOST (!j.phOk) n).setB F.RC_STAT_LEARNING r.learn.isSome n
    let s := if j.phOk then s else s.setF F.RC_STAT_PH_SEEN 1 n
    let s := ((s.setF F.RC_IDX_V j.idx n).wr R.RC_PHASE (word j.ph) n).wr R.RC_QOUT (wordI r.q) n
    let x := s.lpeX n
    let s := s.setLpe n { x with qHeld := r.qHeld, holdCnt := r.hold, zeroed := x.zeroed && !j.phOk }
    match r.learn with
    | some t => if j.poolWr then s else poolPut s (jobEntry j) (wordI t)
    | none => s

/-- A job's results are kept: xh, z, yp and what the repetitive controller learned (R215, R232). -/
def jobEnd (s : State) (n : Nat) (j : LoopJob) (r : LoopRes) : State :=
  let put := fun (s : State) (d : RegDesc) (l : List Lim) =>
    (l.take d.n2).zipIdx.foldl (fun s p => s.wr d (wordI p.1.v) n p.2) s
  let s := put (put s R.LPE_X r.xh) R.LPE_YP r.yp
  let s := if j.st = lpSafe then s else put s R.LPE_Z r.z
  let first := r.sat && !s.fb F.LPE_STAT_SAT n
  let s := if r.sat then s.setF F.LPE_STAT_SAT 1 n else s
  let s := if first then lpeEvent s n 0x64 0 0 else s
  let s := rcEnd s n j r
  let j := { j with unit := none, done := true }
  jobClose (s.setLpe n { s.lpeX n with job := some j, finished := true, since := [] }) n j

/-- JOB_END: the job of loop `n` has run to its end on its unit. -/
def execJobEnd (n : Fin 64) (s : State) : Host.Outcome State Fault Refusal :=
  .next (
    match (s.lpeX n).job with
    | some j =>
      match j.unit, j.res with
      | some _, some r => if s.domOn 3 ∧ !j.done then jobEnd s n j r else s
      | _, _ => s
    | none => s)

/-- Q_HOLD_EXPIRY: the running job finds no valid phase after PH_HOLD such jobs (R266). -/
def execQHoldExpiry (n : Fin 64) (s : State) : Host.Outcome State Fault Refusal :=
  .next (
    match (s.lpeX n).job with
    | some j =>
      match j.res with
      | some r => if s.domOn 3 ∧ !j.done ∧ r.qzero ∧ !(s.lpeX n).zeroed then qZero s n else s
      | none => s
    | none => s)

/-- The expiry of OBSERVE_MAX of loop `n` (R236). -/
def observeMaxNow (s : State) (n : Nat) : State := if s.domOn 3 then loopExpire s n else s

/-- Matrix unit `u` fails (R248, R249, R520): it is retired, its job waits again with what it latched, the spare takes
over or the capacity falls. -/
def matrixUnitFailNow (s : State) (u : Nat) : State :=
  if !s.domOn 3 ∨ s.sto.umap.matrix.contains u then s
  else
    let spare := (matrixHealthy s).length = 5
    let s := s.setMap { s.sto.umap with matrix := s.sto.umap.matrix ++ [u] }
    let s := foldN 64 (fun s n =>
      match (s.lpeX n).job with
      | some j =>
        if j.unit = some u ∧ !j.done then
          s.setLpe n { s.lpeX n with job := some { j with unit := none } }
        else s
      | none => s) s
    let s := poolsUpdate (healthEvent s u 2 0xF4 (if spare then 1 else 2) (word (matrixActive s).length))
    if spare then s else loopShedAll s

/-! ### Learned tables (R271, R272) -/

/-- SNAP_COMPLETE: the snapshot enters the working copy (R271). -/
def execSnapComplete (n : Fin 64) (s : State) : Host.Outcome State Fault Refusal :=
  .next (
    match (s.lpeX n).snap with
    | some t =>
      if s.domOn 3 then
        let s := recordWrite (s.setLpe n { s.lpeX n with snap := none }) n t
        let s := (s.setF F.RC_STAT_SNAP_BUSY 0 n).setF F.RC_STAT_SNAP_DONE 1 n
        lpeEvent s n 0x6B 0 (word t.length)
      else s
    | none => s)

/-- TABLE_LOAD_DONE: the table comes from the newest valid bank's record, or is zeroed (R272). -/
def execTableLoadDone (n : Fin 64) (s : State) : Host.Outcome State Fault Refusal :=
  .next (
    if s.domOn 3 ∧ (s.lpeX n).loading then
      let len := s.f F.RC_SIZE_N n
      let rec_ := match newestBank s.sto with
        | some b => recordRead b.cells n
        | none => none
      let t := match rec_ with
        | some l => if l.length = len then some l else none
        | none => none
      let s := s.setLpe n { s.lpeX n with loading := false }
      let s := s.setB F.RC_STAT_NOREC t.isNone n
      (t.getD (List.replicate len 0)).zipIdx.foldl
        (fun s p => poolPut s (s.f F.RC_SIZE_RC_BASE n + p.2) p.1) s
    else s)

/-! ### Register writes -/

/-- A CMD of loop `n` is refused (R236, R237, R249, R539). -/
def loopCmdRefuse (s : State) (n cmd : Nat) : Bool :=
  let st := s.loopSt n
  match cmd with
  | 0 => false
  | 1 => false
  | 2 => holdRefuses s || (st == lpOff && !loopOk s n)
      || (decide (lpAuto ≤ st) && s.fb F.LPE_STAT_SHED n)
  | 3 => holdRefuses s || !(st == lpManual || st == lpAuto)
  | 4 => st == lpOff
  | _ => true

/-- A write of LPE_CTL is refused (R243, R253). -/
def lpeCtlRefuse (s : State) (n : Nat) (v : Word) : Bool :=
  loopCmdRefuse s n (bits v 2 0) ||
    (maskBit v 16 && (s.loopSt n == lpOff || s.loopSt n == lpSafe || holdRefuses s))

/-- A CMD takes effect (R236, R239). -/
def loopCmd (s : State) (n cmd : Nat) : State :=
  let st := s.loopSt n
  match cmd with
  | 1 => if st = lpOff then s else loopOffCmd s n
  | 2 => if st = lpOff then loopLeaveOff s n else if st = lpManual then s else loopToManual (loopExpire s n) n
  | 3 => if st = lpManual then s.setF F.LPE_STAT_AUTO_PEND 1 n else s
  | 4 => loopSafe s n 1
  | _ => s

/-- A write of LPE_CTL takes effect: the firing request first, then the command, which may take it back.
DEDUCED: log entry 28. -/
def lpeCtlWrite (s : State) (n : Nat) (v : Word) : State :=
  let s := if maskBit v 16 then s.setF F.LPE_STAT_FIRE_REQ 1 n else s
  let s := if maskBit v 17 then s.setF F.LPE_STAT_FIRE_REQ 0 n else s
  loopCmd (fireUpdate s) n (bits v 2 0)

/-- The registers whose fields enter the conditions of R237 and R270. -/
def lpeChecked : List Reg :=
  [.LPE_DIM, .LPE_PER, .LPE_PHASE, .LPE_ODLY, .LPE_ODST, .LPE_UMIN, .LPE_UMAX, .LPE_IMIN, .LPE_IMAX, .LPE_ZSRC, .LPE_DLCFG,
   .LPE_DLBASE, .LPE_DLSRC, .LPE_DLSTEP, .RC_CFG, .RC_SIZE, .RC_PSRC, .RC_PER, .RC_ORG]

/-- The checks of a loop's registers beyond their fields' ranges and openness. -/
def lpeRefuse (s : State) (d : RegDesc) (n j : Nat) (v : Word) : Bool :=
  let manual := s.loopSt n == lpManual && lpeChecked.contains d.id && v != s.rd d n j && !loopOk (putReg s d v n j) n
  manual || (match d.id with
    | .LPE_CTL => lpeCtlRefuse s n v
    | .LPE_SUP => s.changes F.LPE_SUP_FREEZE_N v n && !(bits v 7 0 == 0 || (decide (4 ≤ bits v 7 0) && decide (bits v 7 0 ≤ 64)))
    | .LPE_ODST => s.changes F.LPE_ODST_DST v n j && !dstOk s n (bits v 11 0)
    | .LPE_REF => v != s.rd d n j && refNamed s n j
    | .COEF => decide (692 ≤ j) || (v != s.rd d n j && s.fb F.LPE_STAT_AUTO_PEND n)
    | .COEFS => decide (692 ≤ j) || (s.changes F.COEFS_SH v n j && s.fb F.LPE_STAT_AUTO_PEND n)
    | .RC_CTL => maskBit v 8 && (s.f F.RC_CFG_PH_MODE n == 0 || s.fb F.RC_STAT_SNAP_BUSY n)
    | _ => false)

/-- The owning loop of pool tap `t`, closed (R229). -/
def tapClosed (s : State) (t : Nat) : Option Nat :=
  (List.range 64).find? (fun n => !s.loopOpen n && lineHolds s n t 1)

/-- The owning loop of learned-table entry `e`, closed (R261). -/
def entryClosed (s : State) (e : Nat) : Option Nat :=
  (List.range 64).find? (fun n => !s.loopOpen n && tableHolds s n e 1)

/-- A refused write or command of loop `n` at an address (R221, R236, R251). DEDUCED: log entry 31. -/
def lpeRefused (s : State) (n addr : Nat) : State := lpeEvent (s.setF F.LPE_STAT_REFUSED 1 n) n 0x63 0 (word addr)

/-- A write of a manual value while the loop is MANUAL goes to the destination at once (R240). -/
def lpeManWrite (s : State) (n j : Nat) : State :=
  let c := cfgInForce s n
  if s.loopSt n = lpManual ∧ j < c.nu then
    let s := (loopApply s n j (c.dst.getD j 0) (elem (loopMan s n c).1 j)).2
    s.setB F.LPE_STAT_UNMAPPED (!(s.lpeX n).unmapped.isEmpty) n
  else s

/-- A change of the phase's registers while MANUAL: the phase starts anew at the next released sample, and with RESTORE
the table is loaded (R238). -/
def phaseChanged (s : State) (n : Nat) : State :=
  let x := s.lpeX n
  s.setLpe n { x with phRedo := true, loading := x.loading || (s.f F.RC_CFG_PH_MODE n != 0 && s.fb F.RC_CFG_RESTORE n) }

/-- What a write of a loop's register does beside its fields; `old` is the register before it. A snapshot takes the table
as it stood at the end of the loop's last finished job, or as it stands where none has finished (R271).
DEDUCED: log entry 35. DEDUCED: log entry 141. -/
def lpeWrite (s : State) (d : RegDesc) (n j : Nat) (v old : Word) : State :=
  let manual := s.loopSt n == lpManual
  let changed := s.rd d n j != old
  match d.id with
  | .LPE_CTL => lpeCtlWrite s n v
  | .LPE_OBS =>
    let x := s.lpeX n
    if x.obsWas.any (fun p => p.1 == s.elapsed) then s
    else s.setLpe n { x with obsWas := some (s.elapsed, F.LPE_OBS_V.of old) }
  | .LPE_MAN => lpeManWrite s n j
  | .LPE_DLCFG | .LPE_DLBASE | .LPE_DLSRC | .LPE_DLSTEP =>
    if manual && changed then s.setLpe n { s.lpeX n with dlRedo := true } else s
  | .RC_SIZE | .RC_PSRC | .RC_PER | .RC_ORG => if manual && changed then phaseChanged s n else s
  | .RC_CFG => if manual && bits old 1 0 != s.f F.RC_CFG_PH_MODE n then phaseChanged s n else s
  | .RC_CTL =>
    if maskBit v 8 then
      let t := (List.range (s.f F.RC_SIZE_N n)).map (fun k =>
        let e := s.f F.RC_SIZE_RC_BASE n + k
        tabGet (s.rd R.RCPOOL e) (s.lpeX n).since e)
      (s.setF F.RC_STAT_SNAP_BUSY 1 n).setLpe n { s.lpeX n with snap := some t }
    else s
  | _ => s

/-! ### Power and reading (R250, R273, R286) -/

/-- PD3 goes off: loops, pools, tables and trace are lost. -/
def lpePowerOff (s : State) : State :=
  fireUpdate { s with regs := tabDropRange s.regs 0x20000000 0x21FFFFFF, lpe := [], trc := [] }

/-- PD3 comes on: every loop OFF, registers at their reset values (R275: RC_Q[3] is one). -/
def lpePowerOn (s : State) : State :=
  foldN 64 (fun s n => s.wr R.RC_Q 1 n 3) { s with regs := tabDropRange s.regs 0x20000000 0x21FFFFFF, lpe := [], trc := [] }

/-- A mask over loops 0 to 31 or 32 to 63. -/
def loopMask (lo : Nat) (p : Nat → Bool) : Word := word (maskOf 32 (fun n => p (lo + n)))

/-- An LPE register as it reads, where its contents are made of others (R216, R247, R258, R259). -/
def lpePeek (s : State) (id : Reg) (n j : Nat) (raw : Word) : Word :=
  match id with
  | .LPE_MACS =>
    let c := loopMacs s n
    word (c % 65536 + (c + s.f F.LPE_DIM_NZ n * s.f F.LPE_DIM_NU n) % 65536 * 65536)
  | .COEF | .COEFS => if 692 ≤ j then 0 else raw
  | .LPE_GSTAT =>
    let u := (matrixActive s).length
    word (u + u * 250 * 16 + 65536 * bit ((matrixHealthy s).length == 5))
  | .LPE_LOAD => word ((demandSum s none / 1000).ceil.toNat)
  | .LPE_POOL => word ((List.range 64).foldl (fun a m =>
      if s.loopSt m != lpOff && s.f F.LPE_DLCFG_DL_MODE m != 0 then a + s.f F.LPE_DLCFG_DL_LEN m else a) 0)
  | .LPE_SAFE_LO => loopMask 0 (fun m => s.loopSt m == lpSafe)
  | .LPE_SAFE_HI => loopMask 32 (fun m => s.loopSt m == lpSafe)
  | .LPE_MISS_LO => loopMask 0 (fun m => s.fb F.LPE_STAT_MISS m)
  | .LPE_MISS_HI => loopMask 32 (fun m => s.fb F.LPE_STAT_MISS m)
  | _ => raw

end Sys2Proof.Machine
end

