-- ==== Sys2Proof/Machine/Image.lean ====
section
/-! DEFINITION. Sys2Proof/Machine/Image.lean: program images: their check, and how one comes into force
(spec/02_coxis_model.md R61, R81 to R84; spec/14_store_and_spares.md R522). -/

namespace Sys2Proof.Machine

/-- The bytes `a` to `a + n - 1` are all zero. -/
def zeroBytes (m : List Host.Cell) (a n : Nat) : Bool := m.all (fun c => !(decide (a ≤ c.1) && decide (c.1 < a + n)) || c.2 == 0)

/-- Two address ranges, by start and length, overlap; an empty one meets none (R83). DEDUCED: log entry 112. -/
def rangesMeet (a b : Nat × Nat) : Bool :=
  decide (a.1 < b.1 + b.2) && decide (b.1 < a.1 + a.2) && a.2 != 0 && b.2 != 0

/-- No two ranges of a list overlap. -/
def rangesApart : List (Nat × Nat) → Bool
  | [] => true
  | r :: rs => rs.all (fun q => !rangesMeet r q) && rangesApart rs

/-- Frame SRAM is 8 MiB. -/
def frameSize : Nat := 0x800000

/-- Program table entry `i` of an image: its ROD and the entry (R82). -/
def imageProgram (m : List Host.Cell) (i : Nat) : Nat × Program :=
  let a := 0x40 + 32 * i
  (cellsRead m (a + 0x14) 1,
   { entry := word (cellsRead m a 4), excEntry := word (cellsRead m (a + 4) 4), dataBase := cellsRead m (a + 8) 4,
     dataSize := cellsRead m (a + 0xC) 4, tplStart := cellsRead m (a + 0x10) 4, priority := cellsRead m (a + 0x15) 1,
     policy := cellsRead m (a + 0x16) 1, restartMax := cellsRead m (a + 0x17) 1 })

/-- The program entries in use. -/
def imagePrograms (m : List Host.Cell) : List (Nat × Program) :=
  (List.range (cellsRead m 6 2)).map (imageProgram m)

/-- Ring table entry `n`: CRG_BASE and CRG_CFG (R81). -/
def imageRing (m : List Host.Cell) (n : Nat) : Nat × Nat :=
  (cellsRead m (0x240 + 8 * n) 4, cellsRead m (0x244 + 8 * n) 1)

/-- The bytes of a ring's storage for a CRG_CFG value. -/
def ringBytes (cfg : Nat) : Nat := 16 * (16 * 2 ^ (cfg / 2 % 16))

/-- The ranges of Frame SRAM an image lays claim to: code, data regions, storage of enabled rings. -/
def imageRanges (m : List Host.Cell) : List (Nat × Nat) :=
  (cellsRead m 0x14 4, cellsRead m 0x10 4) :: (imagePrograms m).map (fun p => (p.2.dataBase, p.2.dataSize))
    ++ ((List.range 32).filter (fun n => (imageRing m n).2 % 2 == 1)).map
      (fun n => ((imageRing m n).1, ringBytes (imageRing m n).2))

/-- The header's own fields hold (R81, R83), for an image that must be `want` bytes where the host loads it. -/
def imageHeaderOk (m : List Host.Cell) (want : Option Nat) : Bool :=
  let size := cellsRead m 8 4
  let co := cellsRead m 0xC 4
  let cs := cellsRead m 0x10 4
  let toff := cellsRead m 0x18 4
  let ts := cellsRead m 0x1C 4
  let progs := cellsRead m 6 2
  cellsRead m 0 4 == 0x43584E42 && cellsRead m 4 2 == 1 && decide (0x340 ≤ size) && decide (size ≤ 0x400000)
    && want.all (fun w => w == size) && decide (1 ≤ progs) && decide (progs ≤ 16)
    && decide (0x340 ≤ co) && decide (co + cs ≤ size) && decide (0x340 ≤ toff) && decide (toff + ts ≤ size)
    && !rangesMeet (co, cs) (toff, ts) && cs % 4 == 0 && cellsRead m 0x14 4 % 64 == 0 && ts % 16 == 0
    && zeroBytes m 0x24 28

/-- A program entry in use holds (R82, R83). -/
def imageEntryOk (m : List Host.Cell) (i : Nat) : Bool :=
  let (rod, p) := imageProgram m i
  let base := cellsRead m 0x14 4
  let size := cellsRead m 0x10 4
  let inCode := fun (a : Word) => decide (base ≤ a.toNat) && decide (a.toNat < base + size)
  decide (rod ≤ 15) && decide (p.policy ≤ 2) && decide (p.restartMax ≤ 15) && p.dataBase % 16 == 0
    && p.dataSize % 16 == 0 && p.entry.toNat % 4 == 0 && p.excEntry.toNat % 4 == 0
    && decide (p.tplStart + p.dataSize ≤ cellsRead m 0x1C 4) && inCode p.entry && (p.excEntry == 0 || inCode p.excEntry)
    && zeroBytes m (0x40 + 32 * i + 0x18) 8

/-- A ring table entry holds (R61, R83). -/
def imageRingOk (m : List Host.Cell) (n : Nat) : Bool :=
  let (base, cfg) := imageRing m n
  decide (cfg < 32) && decide (cfg / 2 ≤ 12) && base % 256 == 0 && decide (base + ringBytes cfg ≤ frameSize)
    && zeroBytes m (0x245 + 8 * n) 3

/-- The image's CRC-32C checks, its own field taken as zero (R81). -/
def imageCrcOk (m : List Host.Cell) : Bool :=
  let bytes := (List.range (cellsRead m 8 4)).map (fun a =>
    if 0x20 ≤ a ∧ a < 0x24 then 0 else (cellsGet m a).toNat)
  crc32c bytes == cellsRead m 0x20 4

/-- The image passes the check of R83. -/
def imageOk (m : List Host.Cell) (want : Option Nat) : Bool :=
  let progs := cellsRead m 6 2
  imageHeaderOk m want && (List.range progs).all (imageEntryOk m) && decide ((imagePrograms m).map Prod.fst).Nodup
    && zeroBytes m (0x40 + 32 * progs) (32 * (16 - progs)) && (List.range 32).all (imageRingOk m)
    && (imageRanges m).all (fun r => decide (r.1 + r.2 ≤ frameSize)) && rangesApart (imageRanges m) && imageCrcOk m

/-! ### An image comes into force -/

/-- The code section goes to Frame SRAM; the program table and the data template are those of the image. -/
def imageLoad (s : State) (m : List Host.Cell) : State :=
  let co := cellsRead m 0xC 4
  let cs := cellsRead m 0x10 4
  let cb := cellsRead m 0x14 4
  let toff := cellsRead m 0x18 4
  let ts := cellsRead m 0x1C 4
  let progs := (imagePrograms m).foldl (fun t p => tabPut t p.1 p.2) ([] : Tab Program)
  let tpl := (m.filter (fun c => decide (toff ≤ c.1) && decide (c.1 < toff + ts))).map (fun c => (c.1 - toff, c.2))
  let s := { s with
    frame := cellsCopy s.frame m co cs cb, beadErr := beadErrClear s.beadErr cb cs,
    programs := progs, template := tpl }
  foldN 16 (fun s r => match tabFind progs r with
    | some p => (s.setF F.FRM_RSTAT_PRIO p.priority r).setF F.FRM_RSTAT_POLICY p.policy r
    | none => (s.setF F.FRM_RSTAT_PRIO 0 r).setF F.FRM_RSTAT_POLICY 0 r) s

/-- Ring `n` takes base, size and enable from the ring table, its books at zero (R58, R62, R81). -/
def ringFromImage (s : State) (m : List Host.Cell) (n : Nat) : State :=
  let (base, cfg) := imageRing m n
  let s := (s.wr R.CRG_BASE (word base) n).setF F.CRG_CFG_SIZE (cfg / 2 % 16) n
  if cfg % 2 = 1 then ringEnable s n else s.wr R.CRG_TALLY (word (s.ringSize n)) n

/-- The ring table of an image is applied. -/
def ringsFromImage (s : State) (m : List Host.Cell) : State := foldN 32 (fun s n => ringFromImage s m n) s

/-- Every logical Rod that a program names and that is not SHED starts (R84). -/
def startPrograms (s : State) : State :=
  foldN 16 (fun s r => if (tabFind s.programs r).isSome && s.rodSt r != rodShed then startProgram s r else s) s

/-- At boot and at the exit from Commission the healthy physical Rods are bound to the logical Rods, in ascending order;
where they do not cover those that are not SHED, the victims of R522 are shed. -/
def bindRods (s : State) : State :=
  let good := (List.range 18).filter (fun p => !s.sto.umap.rods.contains p)
  let shed := fun (s : State) => maskOf 16 (fun r => s.rodSt r == rodShed)
  let s := foldN 4 (fun s m => s.wr R.HLT_RODMAP 0xFFFFFFFF m) (s.wr R.HLT_SHED (word (shed s)))
  let whole := (List.range 16).filter (fun r => s.rodSt r != rodShed)
  let s := foldN (whole.length - good.length) (fun s _ => match shedVictim s with
    | some v => shedRod s v
    | none => s) s
  let live := (List.range 16).filter (fun r => s.rodSt r != rodShed)
  poolsUpdate ((live.zip good).foldl (fun s b => bindRod s b.1 b.2) s)

/-- As the unit map is applied, before an image is known, the healthy physical Rods go to the logical Rods in ascending
order (R530, R545). -/
def rodsAssign (s : State) : State :=
  let good := (List.range 18).filter (fun p => !s.sto.umap.rods.contains p)
  let s := foldN 4 (fun s m => s.wr R.HLT_RODMAP 0xFFFFFFFF m) s
  poolsUpdate (((List.range 16).zip good).foldl (fun s b => mapRod s b.1 b.2) s)

end Sys2Proof.Machine
end

