-- ==== Sys2Proof/Machine/Sto.lean ====
section
/-! DEFINITION. Sys2Proof/Machine/Sto.lean: store control: the log, commits, the banks at boot, and the STO registers
(spec/14_store_and_spares.md R496 to R518, R528, R529). -/

namespace Sys2Proof.Machine

/-! ### The log (R515 to R518) -/

/-- Words 0 to 14 of record `l` (R515). -/
def logBody (l : Nat) (r : LogRec) : List Nat :=
  [l, r.kind, r.tb % 2 ^ 32, r.tb / 2 ^ 32] ++ (List.range 11).map (fun i => (r.payload.getD i 0).toNat)

/-- The CRC-32C that word 15 of record `l` is to hold. -/
def logCrc (l : Nat) (r : LogRec) : Nat := crc32c ((logBody l r).flatMap wordBytes)

/-- The slot of record `l` checks (R516). -/
def logChecks (l : Nat) (x : LogSlot) : Bool := x.crc == logCrc l x.body

/-- The highest LSEQ that checks, 0 where none does (R516). -/
def logHead (t : Tab LogSlot) : Nat := (t.filter (fun p => logChecks p.1 p.2)).foldl (fun m p => max m p.1) 0

/-- The next record in the queue is written: it becomes the newest of at most 65,536 (R515, R516). -/
def logWriteOne (s : State) : State :=
  match s.logQueue with
  | [] => s
  | r :: rest =>
    let l := (s.rd R.STO_LOGHEAD + 1).toNat
    let log := tabPut (tabDrop s.sto.log ((l + 2 ^ 32 - 65536) % 2 ^ 32)) l ⟨r, logCrc l r⟩
    { s with logQueue := rest, sto := { s.sto with log := log } }.wr R.STO_LOGHEAD (word l)

/-- LOG_RECORD_WRITTEN (R516). -/
def execLogRecordWritten (s : State) : Host.Outcome State Fault Refusal := .next (logWriteOne s)

/-- Every queued record is written. -/
def logFlush (s : State) : State := foldN s.logQueue.length (fun s _ => logWriteOne s) s

/-- The sixteen words of the slot of record `l` (R515). -/
def logWords (l : Nat) (x : LogSlot) : List Nat := logBody l x.body ++ [x.crc]

/-- The record that STO_LOGIDX names, if the log holds it (R518). -/
def logAtIdx (s : State) : Option LogSlot := tabFind s.sto.log (s.nat R.STO_LOGIDX)

/-- STO_LOGSTAT (R518): AHEAD above STO_LOGHEAD, GONE where 65,536 records have come since, BAD where the CRC fails.
DEDUCED: log entry 181. -/
def logStat (s : State) : Nat :=
  let i := s.nat R.STO_LOGIDX
  let head := s.nat R.STO_LOGHEAD
  if head < i then 4
  else if i + 65536 ≤ head then 1
  else 2 * bit ((logAtIdx s).any (fun x => !logChecks i x))

/-! ### Opening and commits (R502 to R506) -/

/-- Change main bank A or B. -/
def StoX.setBank (x : StoX) (b : Bool) (k : Bank) : StoX := if b then { x with bankB := k } else { x with bankA := k }
/-- Main bank A or B. -/
def StoX.bank (x : StoX) (b : Bool) : Bank := if b then x.bankB else x.bankA

/-- The target is opened: its MAGIC is zero until a commit completes (R502). -/
def stoOpen (s : State) (b : Bool) : State :=
  if s.fb F.STO_STAT_OPEN then s
  else (s.setSto (s.sto.setBank b { s.sto.bank b with trailer := (s.sto.bank b).trailer.opened })).setF F.STO_STAT_OPEN 1

/-- SEQ of the newest valid bank, 0 where none is. -/
def StoX.newestSeq (x : StoX) : Nat := ((newestBank x).map Bank.seq).getD 0

/-- Key bank KA is valid. -/
def StoX.kvalidA (x : StoX) : Bool := x.keyA.valid
/-- Key bank KB is valid. -/
def StoX.kvalidB (x : StoX) : Bool := x.keyB.valid
/-- KB is the newest valid key bank. -/
def StoX.knewestB (x : StoX) : Bool := x.kvalidB && (!x.kvalidA || decide (x.keyA.seq < x.keyB.seq))
/-- The newest valid key bank. -/
def StoX.newestKey (x : StoX) : Option KeyBank :=
  if x.knewestB then some x.keyB else if x.kvalidA then some x.keyA else none

/-- A main commit starts (R504): BUSY, the content and the pages with D_T set fixed, without image pages where
LOAD_COMMIT starts it (R501), the target opened. -/
def commitStart (s : State) (load : Option LoadReq) : State :=
  let b := s.sto.targetB
  let s := (stoOpen s b).setF F.STO_STAT_BUSY 1
  let d := if b then s.sto.dirtyB else s.sto.dirtyA
  s.setSto { s.sto with
    commit := some { key := false, bankB := b, start := s.elapsed, content := s.sto.work, load := load,
                     pages := d.list.filter (fun p => decide (1024 ≤ p) || load.isNone) } }

/-- A key-bank commit starts (R512): into the key bank that is not the newest valid one. -/
def commitStartKey (s : State) : State :=
  let b := s.sto.kvalidA && !s.sto.knewestB
  let x := s.sto
  let x := if b then { x with keyB := { x.keyB with trailer := x.keyB.trailer.opened } }
    else { x with keyA := { x.keyA with trailer := x.keyA.trailer.opened } }
  (s.setSto { x with
    commit := some { key := true, bankB := b, start := s.elapsed, keys := x.keyWork, pages := List.range 6 } }).setF F.STO_STAT_BUSY 1

/-- Writing pages in order with the verifies that fail, a page named once for each failed verify (R505): how many were
written, and whether the commit goes through. -/
def writePages (fails : List Nat) : List Nat → Nat → Nat → Nat × Bool
  | [], _, done => (done, true)
  | p :: ps, again, done =>
    match fails.count p with
    | 0 => writePages fails ps again (done + 1)
    | 1 => if again < 7 then writePages fails ps (again + 1) (done + 1) else (done + 1, false)
    | _ => (done + 1, false)

/-- STO_LAST, STO_LASTUS and event 0xFC as a commit ends with a RESULT (R504, R507, R527, R529). -/
def commitRecord (s : State) (c : Commit) (result pages seq : Nat) : State :=
  let s := s.wr R.STO_LAST (word (result + bit c.key * 16 + pages * 65536))
  let s := s.wr R.STO_LASTUS (word ((s.elapsed - c.start) / 1000))
  let s := s.setF F.STO_STAT_BUSY 0
  let s := if result = 1 then s else s.setF F.STO_STAT_FAIL_SEEN 1
  healthEvent s 0 0 0xFC result (word seq)

/-- The dirty bits of a bank after pages were written: those pages clear but where a later write set them again. -/
def Dirty.after (d : Dirty) (written late : List Nat) : Dirty :=
  { all := false, image := d.image && written.all (fun p => decide (1024 ≤ p)) && !d.all,
    pages := ((d.list.filter (fun p => !written.contains p)).filter (fun p => decide (1024 ≤ p) || !(d.image && !d.all)))
      ++ late.eraseDups.filter (fun p => written.contains p) }

/-- A bank's bytes after pages were written from the working copy's content and, for image pages, from the newest valid
bank (R504). -/
def commitCells (old content newest : List Host.Cell) (written : List Nat) : List Host.Cell :=
  let src := (newest.filter (fun c => decide (c.1 < 0x400000))) ++ content.filter (fun c => decide (0x400000 ≤ c.1))
  (src.filter (fun c => written.contains (c.1 / 4096))).foldl (fun m c => cellsPut m c.1 c.2)
    (old.filter (fun c => !written.contains (c.1 / 4096)))

/-- A main commit lands (R503 to R506): the target, with CRC and CRCT over what it holds now, is the newest valid bank, and
its SEQ one higher. -/
def commitLand (s : State) (c : Commit) (pages : List Nat) : State :=
  let x := s.sto
  let newest := ((newestBank x).map Bank.cells).getD []
  let seq := if (newestBank x).isSome then x.newestSeq + 1 else 1
  let cells := commitCells (x.bank c.bankB).cells c.content newest pages
  let k : Bank := ⟨cells, Trailer.of (seq % 2 ^ 64) (crcCells cells 0x5FF000)⟩
  let d := if c.bankB then x.dirtyB else x.dirtyA
  let x := (x.setBank c.bankB k).setDirty c.bankB (d.after pages c.late)
  let o := if c.bankB then x.dirtyA else x.dirtyB
  let x := if c.load.isSome then x.setDirty (!c.bankB) { o with image := true } else x
  (s.setSto { x with commit := none }).setF F.STO_STAT_OPEN 0

/-- A commit ends (R504, R505, R512), with the pages whose verifies fail: what ended, and whether it landed. -/
def commitFinish (s : State) (fails : List Nat) : Option (Commit × Bool) × State :=
  match s.sto.commit with
  | none => (none, s)
  | some c =>
    let pages := c.pages
    let (done, ok) := writePages fails pages 0 0
    let x := s.sto
    if c.key then
      let old := if c.bankB then x.keyB else x.keyA
      let seq := if x.newestKey.isSome then (x.newestKey.map KeyBank.seq).getD 0 + 1 else 1
      if ok then
        let k : KeyBank := ⟨c.keys, Trailer.of seq (keyCrc c.keys)⟩
        let x := if c.bankB then { x with keyB := k } else { x with keyA := k }
        (some (c, true), commitRecord (s.setSto { x with commit := none, keyDirty := x.keyWork != c.keys }) c 1 done seq)
      else
        let k : KeyBank := { old with trailer := old.trailer.opened }
        let x := if c.bankB then { x with keyB := k } else { x with keyA := k }
        (some (c, false), commitRecord (s.setSto { x with commit := none }) c 4 done (seq - 1))
    else if ok then
      let s := commitLand s c pages
      (some (c, true), commitRecord s c 1 done s.sto.newestSeq)
    else
      let s := s.setSto { x.setDirty c.bankB { all := true } with commit := none }
      (some (c, false), commitRecord s c 4 done s.sto.newestSeq)

/-- A reset or the loss of VLOG abandons a running commit (R507, R509): how many pages it had written is free; every page is
dirty for the target (R508). The flag says a commit was abandoned. DESIGN CHOICE: log entry 79. -/
def commitAbandon (s : State) (result : Nat) : Bool × State :=
  match s.sto.commit with
  | none => (false, s)
  | some c =>
    let (k, s) := s.takeFresh
    let x := s.sto
    let pages := Config.freeNat k % (c.pages.length + 1)
    let x := { x.setDirty x.targetB { all := true } with commit := none }
    (true, commitRecord (s.setSto x) c result pages (if c.key then (x.newestKey.map KeyBank.seq).getD 0 else x.newestSeq))

/-! ### Reset and boot (R507, R508, R510 to R514) -/

/-- What the working copy holds with no valid main bank: for each stored field the number of its register's table (R570). -/
def noBankCells : List Host.Cell :=
  storedRegs.foldl (fun m d =>
    if d.reset = 0 then m
    else d.addrs.foldl (fun m a => match storedOffset a with
      | some off => cellsWrite m off 4 d.reset.toNat
      | none => m) m) []

/-- The working copy and the key area's settings are loaded from the newest valid banks; an open load is closed and a
waiting activation dropped, and the copy's bead errors are gone (R507, R508). After a power-on reset every page is dirty for the target. DEDUCED: log entry 18. -/
def stoReload (s : State) (powerOn : Bool) : State :=
  let s := loadAbort s
  let x := s.sto
  let work := match newestBank x with
    | some b => b.cells.filter (fun c => decide (0x400000 ≤ c.1))
    | none => noBankCells
  let s := { s with beadErr := tabDropRange s.beadErr workBeads 671487,
                    hlt := { s.hlt with found := s.hlt.found.filter (fun k => decide (k < workBeads)) } }
  let x := { x with work := work, keyWork := (x.newestKey.map KeyBank.vals).getD [], keyDirty := false, keySlots := [], activate := none }
  s.setSto (if powerOn then x.setDirty x.targetB { all := true } else x)

/-- Two main banks, or two key banks, of equal SEQ. -/
def StoX.equalMain (x : StoX) : Bool := x.validA && x.validB && x.bankA.seq == x.bankB.seq
/-- Two key banks of equal SEQ. -/
def StoX.equalKey (x : StoX) : Bool := x.kvalidA && x.kvalidB && x.keyA.seq == x.keyB.seq

/-- Event 0xFD: the boot bank (R510, R527, R550). -/
def bootBankEvent (s : State) (refused resume : Bool) : State :=
  let x := s.sto
  let b := newestB x
  let detail := bit b + 2 * bit (if b then x.validA else x.validB) + 4 * bit refused + 8 * bit x.equalMain
    + 16 * bit x.equalKey + 32 * bit resume
  healthEvent s 0 0 0xFD detail (word x.newestSeq)

/-- The image of the newest valid bank is checked and put into force with its ring table, or refused (R83, R511, R545).
The flag says it was refused. -/
def bootImage (s : State) : Bool × State :=
  match newestBank s.sto with
  | some b =>
    let m := b.cells.filter (fun c => decide (c.1 < 0x400000))
    if imageOk m none then (false, ringsFromImage (imageLoad s m) m) else (true, { s with programs := [], template := [] })
  | none => (true, { s with programs := [], template := [] })

/-! ### Registers (R500, R518, R528) -/

/-- A write of STO_CTL is refused (R504, R528). -/
def stoCtlRefuse (s : State) (v : Word) : Bool :=
  (maskBit v 0 && maskBit v 1) || (maskBit v 0 && (s.sto.commit.isSome || s.sto.load.isSome))

/-- A write of STO_CTL takes effect (R504, R518). -/
def stoCtlWrite (s : State) (v : Word) : State :=
  if maskBit v 0 then commitStart s none
  else if maskBit v 1 then logRecord s 3 ((List.range 11).map (fun i => s.rd R.STO_LOGBUF i))
  else s

/-- STO_UADDR after an access of STO_UDATA (R528). -/
def udataNext (s : State) : State :=
  let a := s.f F.STO_UADDR_V
  s.setF F.STO_UADDR_V (if 258044 ≤ a then 0 else a + 4)

/-- A word of the working copy as it is read at `off`: a single-bit error is corrected and counted (R48); a bead with a
double-bit error is poisoned and logged, and as it is never delivered as data its word is free (R49, R50).
DESIGN CHOICE: log entry 182. -/
def workRead (s : State) (off : Nat) : Word × State :=
  let k := workBead off
  match tabFind s.beadErr k with
  | none => (s.workWord off, s)
  | some .single => (s.workWord off, s.addR R.HLT_CORR 1)
  | some .double => freeReading (poisonEvent (poisonBead s k) k 2)
  | some .poisoned => freeReading (poisonEvent s k 2)

/-- A read of STO_UDATA (R500). -/
def udataRead (s : State) : Word × State :=
  let (w, s) := workRead s (0x5C0000 + s.f F.STO_UADDR_V)
  (w, udataNext s)

/-- A write of STO_UDATA (R500). -/
def udataWrite (s : State) (v : Word) : State := udataNext (workWrite s (0x5C0000 + s.f F.STO_UADDR_V) v)

/-- A write of STO_UADDR is refused: not a multiple of 4. -/
def uaddrRefuse (v : Word) : Bool := v.toNat % 4 != 0

/-- An STO register as it reads, where its contents are made of others. -/
def stoPeek (s : State) (id : Reg) (i : Nat) (raw : Word) : Word :=
  let x := s.sto
  match id with
  | .STO_CTL => 0
  | .STO_STAT => word (raw.toNat ||| (8 * bit (newestB x) + 16 * bit x.validA + 32 * bit x.validB + 64 * bit x.kvalidA
      + 128 * bit x.kvalidB + 256 * bit x.knewestB))
  | .STO_SEQ_LO => word x.newestSeq
  | .STO_SEQ_HI => word (x.newestSeq / 2 ^ 32)
  | .STO_DIRTY => word x.dirtyT.list.length
  | .STO_UDATA => s.workWord (0x5C0000 + s.f F.STO_UADDR_V)
  | .STO_LOGREC =>
    if s.rd R.STO_LOGHEAD < s.rd R.STO_LOGIDX then 0 else match logAtIdx s with
    | some x => word ((logWords (s.nat R.STO_LOGIDX) x).getD i 0)
    | none => 0
  | .STO_LOGSTAT => word (logStat s)
  | _ => raw

end Sys2Proof.Machine
end

