-- ==== Sys2Proof/Machine/Modes.lean ====
section
/-! DEFINITION. Sys2Proof/Machine/Modes.lean: modes, power domains, Hold and the key area's settings
(spec/15_modes_and_reset.md R532 to R544; spec/01_architecture.md R18, R39; spec/14_store_and_spares.md R512). -/

namespace Sys2Proof.Machine

/-- Change what stands behind the SYS and DIO registers. -/
def State.setSys (s : State) (x : SysX) : State := { s with sys := x }

/-! ### The key area (R480, R512, R570) -/

/-- The register address `a` is a key word: it reads zero (R480). -/
def keyWord (a : Nat) : Bool := R.KEY.holds a

/-- The registers `lo` to `hi` that the key area holds take its values, or their reset values where no key bank gave
any. -/
def keyLoad (s : State) (lo hi : Nat) : State :=
  let inside := fun (a : Nat) => decide (lo ≤ a) && decide (a ≤ hi)
  let s := { s with regs := s.regs.filter (fun p => !(inside p.1 && keyField p.1)) }
  (s.sto.keyWork.filter (fun p => inside p.1 && keyField p.1 && !keyWord p.1)).foldl
    (fun s p => { s with regs := tabPut s.regs p.1 p.2 }) s

/-- Keys and permissions of the key area come into force (R494). -/
def keysInForce (s : State) : State :=
  { s with net := { s.net with force := s.sto.keyWork.filter (fun p => decide (0x60000800 ≤ p.1) && decide (p.1 < 0x60001000)) } }

/-- At boot KRXHW and KTX start at their stored marks (R481). -/
def marksLoad (s : State) : State :=
  foldN 8 (fun s k =>
    let m := s.sto.mark k
    (s.wr64 R.KRXHW_LO R.KRXHW_HI m.krxhw k).wr64 R.KTX_LO R.KTX_HI m.ktx k) s

/-! ### Power domains (R18, R39, R544) -/

/-- The state of domain `n` in SYS_PDSTAT: 0 OFF, 1 RAMPING, 2 ON. -/
def State.pd (s : State) (n : Nat) : Nat := bits (s.rd R.SYS_PDSTAT) (2 * n + 1) (2 * n)
/-- Change the state of domain `n`. -/
def State.setPd (s : State) (n v : Nat) : State := s.wr R.SYS_PDSTAT (putBits (s.rd R.SYS_PDSTAT) (2 * n + 1) (2 * n) v)

/-- What R39 says of domain `n` in mode `m`: 0 off, 1 on, 2 switchable. -/
def pdRule (m n : Nat) : Nat :=
  if n = 0 then 1
  else if m = modeDormant then 0
  else if m = modeBoot ∨ m = modeCommission ∨ m = modeHold then 1
  else if n = 2 ∨ n = 7 then 1
  else if (m = modeBatch ∨ m = modeFlow) ∧ (n = 3 ∨ n = 4) then 1
  else 2

/-- The domains, 1 to 7, that mode `m` needs on. -/
def pdNeeds (m : Nat) : List Nat := [1, 2, 3, 4, 5, 6, 7].filter (fun n => pdRule m n == 1)

/-- SYS_PDCTL has a bit for domain `n` (R562). -/
def pdHasBit (n : Nat) : Bool := [1, 3, 4, 5, 6].contains n

/-- What domain `n` loses when it goes off (R18, R40). -/
def pdDrop (s : State) (n : Nat) : State :=
  match n with
  | 1 =>
    let s := { s with regs := tabDropRange (tabDropRange s.regs 0x60000000 0x600007FF) 0x61000100 0x610001FF }
    { s.setPtp { reqSeq := s.tim.ptp.reqSeq } with net := { s.net with
        inQ := s.net.inQ.filter (fun p => p.frame.port == .l0), outQ := s.net.outQ.filter (fun f => f.port == 9), ports := [] } }
  | 2 =>
    let regs := tabDropRange (tabDropRange s.regs 0x11000000 0x1101FFFF) 0x32000000 0x32FFFFFF
    { colReset { s with regs := regs } with
      frame := [], beadErr := tabDropRange s.beadErr 0 (workBeads - 1), rings := [], rods := [], programs := [], template := [], migration := none,
      migEnd := none, curves := [], sto := { s.sto with secCopy := [], activate := none }, hlt := { s.hlt with found := s.hlt.found.filter (fun k => decide (workBeads ≤ k)) } }
  | 3 => lpePowerOff s
  | 4 => { s with regs := tabDropRange s.regs 0x30000000 0x30FFFFFF, pfe := [], pfeSpare := { pathOf := s.pfeSpare.pathOf } }
  | 5 => { s with regs := tabDropRange s.regs 0x31000000 0x31FFFFFF, dfe := [], dfeSpare := { pathOf := s.dfeSpare.pathOf } }
  | 6 => canReset s
  | 7 => { s with regs := tabDropRange s.regs 0x40000000 0x43FFFFFF, sol := [], lsw := [], mtr := [], fan := {} }
  | _ => s

/-- Domain `n` goes OFF (R544). -/
def pdOff (s : State) (n : Nat) : State :=
  if s.pd n = 0 then s
  else
    let s := (pdDrop s n).setPd n 0
    let s := if pdHasBit n then s.setMask R.SYS_PDCTL n false else s
    s.setSys { s.sys with ramps := tabDrop s.sys.ramps n }

/-- Domain `n`, if OFF, starts to ramp (R544). DEDUCED: log entry 95. -/
def pdRamp (s : State) (n : Nat) : State :=
  let s := if pdHasBit n then s.setMask R.SYS_PDCTL n true else s
  if s.pd n = 0 then (s.setPd n 1).setSys { s.sys with ramps := tabPut s.sys.ramps n s.elapsed } else s

/-- The dielectric front end's registers at a switch-on: stored fields from the working copy, tones under R175. -/
def dfePowerOn (s : State) : State :=
  let s := storedLoad s 0x31000000 0x31FFFFFF
  foldN 8 (fun s n =>
    [(0, 0x32000064), (1, 0x320003E8), (2, 0x32002710)].foldl
      (fun s t => (s.wr R.DFE_TONE (word t.2) n t.1).wr R.DFE_ACT_TONE (word t.2) n t.1) s) s

/-- Class S of the key area. -/
def classSKept (s : State) : Word := tabGet 0 s.sto.keyWork R.SOL_CLASS_S.base

/-- Domain `n` reaches ON: its units start, with the outputs that fail the tests of R312, R336 and R369 for PD7. -/
def pdOn (s : State) (n : Nat) (t : OutputTest) : State :=
  let s := (s.setPd n 2).setSys { s.sys with ramps := tabDrop s.sys.ramps n, pdSince := tabPut s.sys.pdSince n s.elapsed }
  match n with
  | 1 =>
    let s := { s with net := { s.net with ports := tabPut s.net.ports 8 { speed := 1, since := s.elapsed } } }
    keyLoad (keyLoad s 0x60000000 0x600007FF) 0x61000100 0x610001FF
  | 2 => curvesLoad s
  | 3 => lpePowerOn s
  | 4 => agesFrom s (List.range 48)
  | 5 => if s.hasDfe then
      agesFrom (dfePowerOn s) ((List.range 8).map (fun n => 0x100 + n) ++ (List.range 8).map (fun n => 0x110 + n)) else s
  | 6 => canReset s
  | 7 =>
    let s := agesFrom s ((List.range 8).map (fun n => 0x800 + n) ++ (List.range 8).map (fun n => 0x810 + n))
    let s := solPowerOn s (classSKept s) (t.sol.map Fin.val)
    fanPowerOn (mtrPowerOn (lswPowerOn s (t.lsw.map Fin.val)) (t.mtr.map Fin.val))
  | _ => s

/-! ### Mode changes (R532 to R534, R541) -/

/-- The mode and HCAUSE change: no change pends, and SYS_FIRECTL.EN clears. -/
def setMode (s : State) (m cause : Nat) : State :=
  (s.wr R.SYS_MODE (word (m + cause * 2 ^ 24))).wr R.SYS_FIRECTL 0

/-- Event 0xD0: the mode changed from `old` (R564). -/
def modeEvent (s : State) (old : Nat) : State :=
  healthEvent s 0 0 0xD0 (s.mode + 16 * s.f F.SYS_MODE_HCAUSE) (word old)

/-- The controller enters mode `m`. -/
def modeTo (s : State) (m cause : Nat) : State :=
  let old := s.mode
  fireUpdate (modeEvent (setMode s m cause) old)

/-- A SYS write or command is refused. -/
def sysRefused (s : State) : State := s.setF F.SYS_STAT_REFUSED 1

/-- A change to mode `m` pends (R534). -/
def modePend (s : State) (m : Nat) : State := (s.setF F.SYS_MODE_PEND 1).setF F.SYS_MODE_TARGET m

/-- No change pends. -/
def modeUnpend (s : State) : State := (s.setF F.SYS_MODE_PEND 0).setF F.SYS_MODE_TARGET 0

/-- A transition to mode `m` that R533 allows: at once, or when every domain it needs is ON (R534). -/
def modeChange (s : State) (m : Nat) : State :=
  let need := (pdNeeds m).filter (fun n => !s.domOn n)
  if need.isEmpty then modeTo s m 0 else need.foldl pdRamp (modePend s m)

/-! ### Hold (R534, R536, R538) -/

/-- What an entry to Hold does to loops and outputs (R538); a critical fault in Commission does the same (R536). -/
def holdOutputs (s : State) : State :=
  let s := fireUpdate (s.wr R.SYS_FIRECTL 0)
  let s := if s.domOn 3 then loopAllSafe s else s
  if s.domOn 7 then mtrRht (lswRht (solAllOff s) false) false false else s

/-- The Rods that SYS_CMD DORMANT stopped start again from ENTRY (R548). -/
def rodsRestart (s : State) : State :=
  let l := s.sys.stopped
  let s := s.setSys { s.sys with stopped := [] }
  l.foldl (fun s r => if s.rodSt r = rodShed then s else startProgram (rodHaltNow s r) r) s

/-- Hold is entered with a cause: 1 host loss, 2 critical fault, 4 command (R538, R563). In Hold the cause joins those of
the present Hold. -/
def enterHold (s : State) (cause : Nat) : State :=
  if s.mode = modeHold then s.setF F.SYS_MODE_HCAUSE (s.f F.SYS_MODE_HCAUSE ||| cause)
  else
    let old := s.mode
    let s := holdOutputs (setMode s modeHold cause)
    let s := (pdNeeds modeHold).foldl pdRamp s
    modeEvent (rodsRestart s) old

/-- The controller enters Ready from Boot, Commission or Dormant: the host timer restarts, the watchdog is armed, and a
critical fault that is in force, or that was recorded as it arose in Boot or Dormant, leads to Hold (R535, R536, R554).
DEDUCED: log entry 115. -/
def enterReady (s : State) : State :=
  let crit := s.fb F.SYS_STAT_CRIT || s.sys.critRec
  let s := modeTo s modeReady 0
  let s := s.setSys { s.sys with hostAt := s.elapsed, wdtArmed := s.fb F.SYS_SAFECFG_WDT_EN, wdtAt := s.elapsed,
                                 critRec := false }
  if crit then enterHold s 2 else s

/-- Ready, Batch, Flow or Store. -/
def State.operating (s : State) : Bool := decide (modeReady ≤ s.mode) && decide (s.mode ≤ modeStore)

/-! ### Waking (R549, R550) -/

/-- A wake cause arises in Dormant: the resume starts, and the change to Ready pends (R534); of causes in one step the lowest code shows.
DEDUCED: log entry 105. -/
def wake (s : State) (cause : Nat) : State :=
  if s.mode != modeDormant then s
  else if s.sys.resume then
    if tabFind s.sys.ramps 2 = some s.elapsed ∧ cause < s.f F.SYS_WAKE_CAUSE then s.setF F.SYS_WAKE_CAUSE cause else s
  else
    let s := s.setF F.SYS_WAKE_CAUSE cause
    pdRamp (modePend (s.setSys { s.sys with resume := true }) modeReady) 2

/-- A critical fault arises or clears: SYS_STAT.CRIT and what R536 says follows. -/
def critChange (s : State) (on : Bool) : State :=
  let was := s.fb F.SYS_STAT_CRIT
  let s := s.setB F.SYS_STAT_CRIT on
  let s := if was || !on then s
    else if s.operating || s.mode == modeHold then enterHold s 2
    else if s.mode = modeCommission then holdOutputs s
    else wake (s.setSys { s.sys with critRec := true }) 5
  fireUpdate s

/-! ### Contacts as DIO shows them (R558 to R560) -/

/-- Discrete input `n`. -/
def State.dioX (s : State) (n : Nat) : DioX := tabGet {} s.sys.dio n
/-- Change discrete input `n`. -/
def State.setDio (s : State) (n : Nat) (x : DioX) : State := s.setSys { s.sys with dio := tabPut s.sys.dio n x }

/-- The state of input `n` after INV. -/
def dioState (s : State) (n : Nat) : Bool := (s.dioX n).state != s.fb F.DIO_CFG_INV n

/-- DIO_IN (R560). -/
def dioIn (s : State) : Word :=
  word (maskOf 16 (fun n => dioState s n) + 2 ^ 16 * bit s.sys.stopA + 2 ^ 17 * bit s.sys.stopB
    + 2 ^ 18 * bit s.sys.commission + 2 ^ 19 * bit s.sys.wakeLow.isSome)

end Sys2Proof.Machine
end

