-- ==== Sys2Proof/Machine/Pfe.lean ====
section
/-! DEFINITION. Sys2Proof/Machine/Pfe.lean: the precision front end and curve memory writes
(spec/05_precision_inputs.md). -/

namespace Sys2Proof.Machine

/-- Precision channel `n` behind its registers. -/
def State.pfeX (s : State) (n : Nat) : PfeX := tabGet {} s.pfe n
/-- Change precision channel `n`. -/
def State.setPfe (s : State) (n : Nat) (x : PfeX) : State := { s with pfe := tabPut s.pfe n x }

/-- 1 / f_out in ns, by RATE code (R179). -/
def pfePeriod : Nat → Nat
  | 0 => 100000000 | 1 => 50000000 | 2 => 20000000 | 3 => 10000000 | 4 => 5000000
  | 5 => 2500000 | 6 => 2000000 | 7 => 1000000 | 8 => 500000 | _ => 250000

/-- 1 / f_chop in ns, by CHOP code (R178). -/
def pfeChop : Nat → Nat
  | 0 => 80000 | 1 => 160000 | _ => 320000

/-- The conversion period of channel `n`. -/
def State.pfePer (s : State) (n : Nat) : Nat := pfePeriod (s.f F.PFE_CH_CONV_RATE n)

/-- The window of channel `n`: 3 / f_out + 1 / f_chop (R179). -/
def State.pfeWindow (s : State) (n : Nat) : Nat := 3 * s.pfePer n + pfeChop (s.f F.PFE_CH_CONV_CHOP n)

/-- Full scale of a range in 10 nV: four times the one below (R182). -/
def pfeFs (range : Nat) : Nat := 2000000 * 4 ^ range

/-- The excitation current in nA that channel `n` drives (R183): in modes 3 to 5 that of EXC, while it runs. -/
def State.excitation (s : State) (n : Nat) : Nat :=
  if s.domOn 4 && s.fb F.PFE_CH_STAT_ACTIVE n && decide (3 ≤ s.f F.PFE_CH_CTL_MODE n) then
    match s.f F.PFE_CH_CONV_EXC n with
    | 1 => 250000
    | 2 => 1000000
    | _ => 0
  else 0

/-- The channel's mode has ranges: modes 1 and 2 convert on range 3 (R181, R182, R207). -/
def pfeRanged (mode : Nat) : Bool := mode == 0 || decide (3 ≤ mode)

/-- CURVE is accepted for MODE (R189), a user curve being valid and of the right quantity (R212, R214). -/
def pfeCurveOk (s : State) (mode c : Nat) : Bool :=
  c == 0 || (decide (1 ≤ c) && decide (c ≤ 8) && mode == 0)
    || (decide (16 ≤ c) && decide (c ≤ 19) && decide (3 ≤ mode))
    || (decide (24 ≤ c) && decide (c ≤ 31) && decide (3 ≤ mode))
    || (decide (192 ≤ c) && curve1Ok s c &&
        (match curveQty s c with
          | 0 => mode == 0 || mode == 1
          | 1 => mode == 2
          | _ => decide (3 ≤ mode)))

/-- A write of EN from 0 to 1 with this MODE and CURVE is refused (R199). -/
def pfeEnableRefuse (s : State) (n mode curve : Nat) : Bool :=
  let exc := s.f F.PFE_CH_CONV_EXC n
  decide (5 < mode) || decide (2 < exc) || decide (2 < s.f F.PFE_CH_CONV_CHOP n) || decide (9 < s.f F.PFE_CH_CONV_RATE n)
    || decide (s.f F.PFE_CH_RANGE_RANGE_MAX n < s.f F.PFE_CH_RANGE_RANGE_MIN n)
    || (decide (3 ≤ mode) && exc == 0) || (decide (mode < 3) && exc != 0)
    || !pfeCurveOk s mode curve

/-- Show the channel's fault kinds and flags in PFE_CH_STAT and its flag byte (R198, R208). -/
def pfeShow (s : State) (n : Nat) (fault clipped ranged : Bool) (kind : Nat) : State :=
  let s := (s.setB F.PFE_CH_STAT_FAULT fault n).setB F.PFE_CH_STAT_CLIPPED clipped n
  let s := (s.setB F.PFE_CH_STAT_RANGED ranged n).setF F.PFE_CH_STAT_FKIND kind n
  s.setF F.PFE_CH_FLAG_FLAGS (bit fault * flFault + bit clipped * flClipped + bit ranged * flRanged) n

/-- An event bead of the PFE: lane 3 the value published (R200). -/
def pfeEvent (s : State) (n code detail : Nat) : State := event s 16 n code detail (s.rd R.PFE_CH_VAL n)

/-- The channel's fault kinds become `l`: FAULT and FKIND follow; the events that this posts (R198, R200). -/
def pfeSetFaults (s : State) (n : Nat) (l : List Nat) : List (Nat × Nat) × State :=
  let x := s.pfeX n
  let old := realFaults x.faults
  let ep := if old.isEmpty then (realFaults l).headD 0 else x.episode
  let s := s.setPfe n { x with faults := l, episode := ep }
  (faultEvents 0x20 old (realFaults l) ep,
    pfeShow s n (!l.isEmpty) (s.fb F.PFE_CH_STAT_CLIPPED n) (s.fb F.PFE_CH_STAT_RANGED n) (l.headD 0))

/-- Events of the PFE in order. -/
def pfeEvents (s : State) (n : Nat) (l : List (Nat × Nat)) : State := l.foldl (fun s e => pfeEvent s n e.1 e.2) s

/-- The channel's fault kinds become `l`, with events 0x20 and 0x21. -/
def pfeFaults (s : State) (n : Nat) (l : List Nat) : State :=
  let (ev, s) := pfeSetFaults s n l
  pfeEvents s n ev

/-- EN goes from 0 to 1 (R188, R199): NOSETTLE with the value zero, on RANGE_MAX or the fixed range, with an empty filter;
a channel without a path then holds PATH too, after NOSETTLE (R203). CJ_HOLD counts from here until a valid T_cj is
read (R193). DEDUCED: log entry 130. DESIGN CHOICE: log entry 134. -/
def pfeEnable (s : State) (n : Nat) : State :=
  let mode := s.f F.PFE_CH_CTL_MODE n
  let r := if !pfeRanged mode then 3
    else if s.fb F.PFE_CH_RANGE_AUTO n then s.f F.PFE_CH_RANGE_RANGE_MAX n else s.f F.PFE_CH_RANGE_RANGE n
  let s := s.setPfe n { range := r, tcjAt := s.elapsed, steps := s.steps, faults := [6] }
  let s := if pfeRanged mode && s.fb F.PFE_CH_RANGE_AUTO n then s.setF F.PFE_CH_RANGE_RANGE r n else s
  let s := ((s.wr R.PFE_CH_VAL 0 n).setF F.PFE_CH_STAT_ACTIVE 1 n).setF F.PFE_CH_STAT_CJ_LOST 0 n
  let s := s.setF F.PFE_CH_STAT_SPAN 0 n
  let s := pfeShow (published s n) n true false false 6
  if tabGet n s.pfeSpare.pathOf n = 255 then pfeFaults s n [6, 4] else s

/-- EN goes from 1 to 0: the channel stops at its next conversion instant (R199). -/
def pfeDisable (s : State) (n : Nat) : State := s.setPfe n { s.pfeX n with stopping := true }

/-- A write of PFE_CH_RANGE is refused (R207). -/
def pfeRangeRefuse (s : State) (n : Nat) (v : Word) : Bool :=
  let mx := bits v 13 12
  let mn := bits v 9 8
  let r := bits v 5 4
  v != s.rd R.PFE_CH_RANGE n && (decide (mx < mn) || (!maskBit v 0 && (decide (r < mn) || decide (mx < r))))

/-- A write of PFE_CH_RANGE: with AUTO = 1 RANGE is read only and shows the range in force; while enabled the write takes
effect at the next conversion instant and sets low_count to zero (R188, R207). -/
def pfeRangeWrite (s : State) (n : Nat) (v : Word) : State :=
  let r := if !maskBit v 0 then bits v 5 4
    else if s.fb F.PFE_CH_CTL_EN n && pfeRanged (s.f F.PFE_CH_CTL_MODE n) then (s.pfeX n).range % 4
    else s.f F.PFE_CH_RANGE_RANGE n
  let s := s.wr R.PFE_CH_RANGE (word (bits v 13 12 * 4096 + bits v 9 8 * 256 + r * 16 + bits v 0 0)) n
  if s.fb F.PFE_CH_CTL_EN n then s.setPfe n { s.pfeX n with rangeReq := true, lowCount := 0 } else s

/-! ### Linearisation -/

/-- 1 + A t + B t² (+ C (t − 100) t³ below 0 °C) of IEC 60751 at t = `u` / 200 °C, times 10^15 × 200^4 (R183; log
entry 10). PRESUMED: log entry 10. -/
def ptPoly (u : Int) : Int :=
  10 ^ 15 * 200 ^ 4 + 39083 * 10 ^ 8 * 200 ^ 3 * u - 5775 * 10 ^ 5 * 200 ^ 2 * u * u
    - (if u < 0 then 4183 * (u - 20000) * u * u * u else 0)

/-- The resistance `r` in mΩ lies at or above that of a platinum sensor of `r0` mΩ at `u` / 200 °C; strictly above
for a negative `u`, where halves round away from zero. -/
def ptAbove (r0 r u : Int) : Bool :=
  if 0 < u then decide (r0 * ptPoly u ≤ r * (10 ^ 15 * 200 ^ 4)) else decide (r0 * ptPoly u < r * (10 ^ 15 * 200 ^ 4))

/-- The greatest k from `lo` on, less than `2 ^ fuel` above it, for which `above` says that the input lies at or beyond
k − 0.5 units, given in half units. -/
def searchUp (above : Int → Bool) : Nat → Int → Int
  | 0, lo => lo
  | fuel + 1, lo => searchUp above fuel (if above (2 * (lo + 2 ^ fuel) - 1) then lo + 2 ^ fuel else lo)

/-- The temperature in 0.01 °C of a platinum sensor: the rounded inverse of IEC 60751 within −200 to 850 °C, and whether
the input lay beyond an end (R190, R191). -/
def ptTemp (r0 : Int) (r : Int) : Int × Bool :=
  let full : Int := 10 ^ 15 * 200 ^ 4
  if r * full < r0 * ptPoly (-40000) then (-20000, true)
  else if r0 * ptPoly 170000 < r * full then (85000, true)
  else (min 85000 (searchUp (ptAbove r0 r) 17 (-20000)), false)

/-- The nominal resistance of curves 16 to 19 in mΩ (R189). -/
def ptNominal : Nat → Int
  | 16 => 100000 | 17 => 200000 | 18 => 500000 | _ => 1000000

/-- The span of curves 1 to 8 and 24 to 31 in °C (R190). -/
def curveSpan : Nat → Int × Int
  | 1 => (250, 1820) | 2 => (-270, 1000) | 3 => (-210, 1200) | 4 => (-270, 1372)
  | 5 => (-270, 1300) | 6 => (-50, 1768) | 7 => (-50, 1768) | 8 => (-270, 400)
  | 24 => (-40, 150) | 25 => (-35, 150) | 26 => (-20, 150) | 27 => (-10, 150)
  | 28 => (-5, 150) | 29 => (5, 150) | 30 => (10, 150) | 31 => (25, 200)
  | _ => (0, 0)

/-- A temperature in 0.01 °C limited to a curve's span. -/
def spanLimit (c : Nat) (t : Rat) : Int × Bool :=
  let (lo, hi) := curveSpan c
  if t < ((100 * lo : Int) : Rat) then (100 * lo, true)
  else if ((100 * hi : Int) : Rat) < t then (100 * hi, true)
  else (roundAway t, false)

/-- The rise of a thermocouple curve over `n` steps of 0.005 °C from `u` on, in its own unit: positive for every step. -/
def thermoRise (c : Nat) (u : Int) (n : Nat) : Nat := ((List.range n).map (fun (k : Nat) => Config.thermoStep c (u + k) + 1)).sum

/-- E of a thermocouple curve in 10 nV at `u` / 200 °C (R192): rising from zero at 0 °C, on curve 4 through 1.000 mV at
25.00 °C and 2.023 mV at 50.00 °C. Type B rises over its span only. DESIGN CHOICE: log entry 6. -/
def thermoE (c : Nat) (u : Int) : Rat :=
  if c = 1 then
    if u < 50000 then Config.thermoLow u else Config.thermoLow 50000 + (thermoRise 1 50000 (u - 50000).toNat : Rat) / 1000
  else if u < 0 then -((thermoRise c u u.natAbs : Nat) : Rat) / 1000
  else if c = 4 then
    if u ≤ 5000 then 100000 * (thermoRise 4 0 u.toNat : Rat) / (thermoRise 4 0 5000 : Rat)
    else if u ≤ 10000 then 100000 + 102300 * (thermoRise 4 5000 (u - 5000).toNat : Rat) / (thermoRise 4 5000 5000 : Rat)
    else 202300 + (thermoRise 4 10000 (u - 10000).toNat : Rat) / 1000
  else (thermoRise c 0 u.toNat : Rat) / 1000

/-- E⁻¹ of a thermocouple curve, rounded to 0.01 °C within its span, and whether the voltage lay beyond an end (R190 to
R192). -/
def thermoTemp (c : Nat) (v : Rat) : Int × Bool :=
  let (lo, hi) := curveSpan c
  if v < thermoE c (200 * lo) then (100 * lo, true)
  else if thermoE c (200 * hi) < v then (100 * hi, true)
  else
    let above := fun u => if 0 < u then decide (thermoE c u ≤ v) else decide (thermoE c u < v)
    (min (100 * hi) (searchUp above 18 (100 * lo)), false)

/-- The nominal resistance of a vendor NTC curve in mΩ and its B between 25 °C and 85 °C in K (R190). -/
def ntcNominal : Nat → Nat × Nat
  | 24 => (100000, 3500) | 25 => (220000, 3500) | 26 => (470000, 3500) | 27 => (1000000, 3500)
  | 28 => (1000000, 3950) | 29 => (2000000, 3500) | 30 => (2000000, 3950) | _ => (5000000, 3950)

/-- The rise of a vendor NTC curve over `n` steps of 1 °C of the B equation from `u` °C on, in its own unit: positive for every
step. -/
def ntcRise (c : Nat) (u : Int) (n : Nat) : Nat := ((List.range n).map (fun (k : Nat) => Config.ntcStep c (u + k) + 1)).sum

/-- The temperature in °C of a vendor NTC curve where the B equation gives `u` °C: it rises with it, through 25 °C and
85 °C. -/
def ntcNode (c : Nat) (u : Int) : Rat :=
  if u ≤ 25 then 25 - ((ntcRise c u (25 - u).toNat : Nat) : Rat) / 1000
  else if u ≤ 85 then 25 + 60 * ((ntcRise c 25 (u - 25).toNat : Nat) : Rat) / ((ntcRise c 25 60 : Nat) : Rat)
  else 85 + ((ntcRise c 85 (u - 85).toNat : Nat) : Rat) / 1000

/-- The temperature in 0.01 °C of a positive resistance in mΩ on a vendor NTC curve (R190): the B equation through the nominal
resistance at 25 °C gives a temperature, held to 1,000 °C, and the vendor's curve rises with that, linear between whole
degrees. DEDUCED: log entry 6. -/
def ntcTemp (c : Nat) (r : Int) : Rat :=
  let (r0, b) := ntcNominal c
  let x : Rat := (r : Rat) / ((r0 : Nat) : Rat)
  let lnx := if 1 ≤ x then ln x else -ln (1 / x)
  let inv := 100 / 29815 + lnx / ((b : Nat) : Rat)
  let t := if inv ≤ 0 then 1000 else min 1000 (1 / inv - 27315 / 100)
  let u := t.floor
  100 * (ntcNode c u + (t - (u : Rat)) * (ntcNode c (u + 1) - ntcNode c u))

/-- The value of a curve for a raw input, and whether the input lay beyond a span end (R189 to R194). A resistance of zero
or less lies beyond the hot end of an NTC curve. -/
def linearise (s : State) (c : Nat) (raw tcj : Int) : Int × Bool :=
  if c = 0 then (raw, false)
  else if c ≤ 8 then thermoTemp c ((raw : Rat) + thermoE c (2 * tcj))
  else if c ≤ 19 then ptTemp (ptNominal c) raw
  else if c ≤ 31 then if raw ≤ 0 then (100 * (curveSpan c).2, true) else spanLimit c (ntcTemp c raw)
  else
    let (y, sp) := curve1Value s c raw
    (roundAway y, sp)

/-- The cold junction of channel `n` (R192): the valid T_cj in 0.01 °C, if its source gives one now. -/
def coldJunction (s : State) (n : Nat) : Option Int :=
  if s.fb F.PFE_CH_CJ_CJ_SEL n then
    let c := s.f F.PFE_CH_CJ_CJ_SRC n
    if c = 0xFFF then some 0
    else
      let m := measOf s c
      if m.bad then none else some m.v
  else some (s.rd R.PFE_CJT (n / 4)).toInt

/-- The channel reads its cold junction at a conversion (R193): the T_cj to use, the fault kinds then, and whether CJ_LOST
is newly set. With no valid T_cj read since the enable, the one used is a free value. DESIGN CHOICE: log entry 134. -/
def pfeColdJunction (s : State) (n : Nat) : Int × List Nat × Bool × State :=
  let x := s.pfeX n
  match coldJunction s n with
  | some t =>
    (t, dropFault x.faults 5, false,
      (s.setPfe n { x with tcj := some t, tcjAt := s.elapsed }).setF F.PFE_CH_STAT_CJ_LOST 0 n)
  | none =>
    let new := !s.fb F.PFE_CH_STAT_CJ_LOST n
    let s := s.setF F.PFE_CH_STAT_CJ_LOST 1 n
    match x.tcj with
    | some t => (t, x.faults, new, s)
    | none =>
      let (k, s) := s.takeFresh
      ((Config.freeWord k).toInt, x.faults, new, s)

/-! ### The filter (R178 to R186) -/

/-- Modulator samples per conversion: 5 MHz / f_out (R178). -/
def State.pfeDecim (s : State) (n : Nat) : Nat := s.pfePer n / 200
/-- Modulator samples per chop period: the length of filter stage 1. -/
def State.pfeStage1 (s : State) (n : Nat) : Nat := pfeChop (s.f F.PFE_CH_CONV_CHOP n) / 200
/-- Modulator samples of a window (R179). -/
def State.pfeTaps (s : State) (n : Nat) : Nat := 3 * s.pfeDecim n + s.pfeStage1 n

/-- A modulator sample at the limit of its range (R184, R186). -/
def modLimit (v : BitVec 24) : Bool := v == 0x7FFFFF || v == 0x800000

/-- The newest `t` samples of a filter. -/
def takeRuns : Nat → List ModRun → List ModRun
  | _, [] => []
  | t, r :: l => if t = 0 then [] else if t < r.n then [{ r with n := t }] else r :: takeRuns (t - r.n) l

/-- The samples of an interval enter a filter of `taps` samples, each with 6 fractional bits (R185). -/
def pushRuns (taps : Nat) (mods : List (BitVec 24 × Nat)) (l : List ModRun) : List ModRun :=
  takeRuns taps (mods.reverse.map (fun m => { v := 64 * m.1.toInt, n := m.2, clip := modLimit m.1 }) ++ l)

/-- How many samples a filter holds. -/
def runsLen (l : List ModRun) : Nat := (l.map ModRun.n).sum

/-- n over 4. -/
def choose4 (n : Nat) : Nat := n * (n - 1) * (n - 2) * (n - 3) / 24

/-- The sum of the newest `t` weights of the filter: a moving average over `c` samples, then a third-order sinc over `m`
(R178), each weight taken `m`³ `c` times. -/
def tapSum (m c t : Nat) : Int :=
  let f := fun (d : Nat) => ((choose4 (t + 3 - d) : Nat) : Int)
  (f 0 - 3 * f m + 3 * f (2 * m) - f (3 * m)) - (f c - 3 * f (m + c) + 3 * f (2 * m + c) - f (3 * m + c))

/-- The output of a filter, in counts with 6 fractional bits. -/
def filterSum (m c : Nat) : Nat → List ModRun → Int
  | _, [] => 0
  | t, r :: l => r.v * (tapSum m c (t + r.n) - tapSum m c t) + filterSum m c (t + r.n) l

/-- The voltage at the range input in 10 nV that a filter gives on a range: full scale is 2²³ counts.
DESIGN CHOICE: log entry 135. -/
def filterVolt (s : State) (n range : Nat) (l : List ModRun) : Rat :=
  let m := s.pfeDecim n
  let c := s.pfeStage1 n
  ((filterSum m c 0 l * (pfeFs range : Nat) : Int) : Rat) / ((2 ^ 29 * m ^ 3 * c : Nat) : Rat)

/-- The filter state goes from one range to another, times 4^k or 4^−k, and its samples are from before the change
(R184, R185, R187). -/
def rescale (old new : Nat) (l : List ModRun) : List ModRun :=
  l.map (fun r => { r with v := if new ≤ old then r.v * 4 ^ (old - new) else r.v / 4 ^ (new - old), old := true })

/-- The raw value of a conversion in the unit of its mode (R181, R183, R196), rounded as R191 rounds a curve's output;
one without a current, or beyond 32 bits, is a free value. DEDUCED: log entry 136. -/
def pfeRaw (mode : Nat) (d : PfeSample) (volt : Rat) (fresh : Nat) : Int :=
  let i : Rat := (d.iMeas.toNat : Nat)
  let r := match mode with
    | 0 => roundAway volt
    | 1 => roundAway (8 * volt)
    | 2 => roundAway (volt / 5)
    | 4 => roundAway ((volt - 2 * (d.lead.toInt : Rat)) * 10000 / i)
    | _ => roundAway (volt * 10000 / i)
  if (3 ≤ mode ∧ d.iMeas = 0) ∨ r < -2 ^ 31 ∨ 2 ^ 31 ≤ r then (Config.freeWord fresh).toInt else r

/-- V_CM of a conversion in mV (R195, R196): the mean of the two contacts, in mode 1 behind the divider, where an open
contact stands at 21.25 V; in the other modes an open input is pulled above 3 V. DEDUCED: log entry 137. -/
def pfeVcm (mode : Nat) (d : PfeSample) (fresh : Nat) : Rat :=
  let at' := fun (o : Option (BitVec 32)) => (match o with
    | some v => (v.toInt : Rat)
    | none => 21250000)
  let mean := (at' d.inp + at' d.inn) / 2000
  if mode = 1 then 1250 + (mean - 1250) / 8
  else if d.inp.isNone || d.inn.isNone then 3000 + 1 / 1000 + ratAbs (Config.freeRat fresh)
  else mean

/-- A contact stands beyond −0.3 V to +3.5 V, in mode 1 behind the divider, where an open contact stands above it (R196,
R585): above it, or below it. -/
def contactOut (mode : Nat) (o : Option (BitVec 32)) : Bool × Bool :=
  let at' := fun (v : Rat) => if mode = 1 then 1250 + (v - 1250) / 8 else v
  match o with
  | some v =>
    let x := at' ((v.toInt : Rat) / 1000)
    (decide ((3500 : Rat) < x), decide (x < -300))
  | none => (mode == 1, false)

/-- The range rule of R184 on a conversion of a magnitude in 10 nV: the next range and low_count. -/
def autoRange (range lo hi lowCount : Nat) (clippedNow : Bool) (volt : Rat) : Nat × Nat :=
  if clippedNow ∨ ((9 * pfeFs range : Nat) : Rat) < 10 * volt then ((if range < hi then range + 1 else range), 0)
  else if 5 * volt < ((pfeFs range : Nat) : Rat) then
    if 16 ≤ lowCount + 1 ∧ lo < range then (range - 1, 0) else (range, lowCount + 1)
  else (range, 0)

/-- A write decides: the range it leaves the channel in (R188). -/
def rangeAfterWrite (s : State) (n range : Nat) : Nat :=
  if s.fb F.PFE_CH_RANGE_AUTO n then
    max (s.f F.PFE_CH_RANGE_RANGE_MIN n) (min (s.f F.PFE_CH_RANGE_RANGE_MAX n) range)
  else s.f F.PFE_CH_RANGE_RANGE n

/-- The fault conditions judged at a conversion of a raw value and V_CM (R195, R197, R585): the channel's counts brought up to
date, and its kinds. A contact beyond its limits is out of the window, on the side of V_CM where that is out too, else on
its own. DEDUCED: log entry 137. -/
def pfeJudge (s : State) (n : Nat) (raw : Int) (vcm : Rat) (d : PfeSample) : List Nat × State :=
  let excBad := d.excBad
  let x := s.pfeX n
  let mode := s.f F.PFE_CH_CTL_MODE n
  let cmN := s.f F.PFE_CH_FLT_CM_N n
  let l := if s.pfeTaps n ≤ runsLen x.runs then dropFault x.faults 6 else x.faults
  -- excitation, modes 3 to 5
  let exc := decide (3 ≤ mode)
  let bad := if exc && excBad then x.excBad + 1 else 0
  let good := if exc && !excBad then x.excOk + 1 else 0
  let l := if exc && decide (cmN ≤ bad) then addFault l 3 else l
  let l := if decide (3 ≤ good) then dropFault l 3 else l
  -- current threshold, mode 2
  let ilo := s.f F.PFE_CH_FLT_I_LO n
  let low := mode == 2 && ilo != 0 && decide (raw < (1000 * ilo : Nat))
  let nlow := if low then x.iLow + 1 else 0
  let nok := if mode == 2 && !low then x.iOk + 1 else 0
  let l := if low && decide (cmN ≤ nlow) then addFault l 7 else l
  let l := if decide (3 ≤ nok) then dropFault l 7 else l
  -- common-mode window, every other mode, and contact limits
  let p := contactOut mode d.inp
  let m := contactOut mode d.inn
  let above := mode != 2 && decide ((s.fi F.PFE_CH_CM_CM_HI n : Rat) < vcm)
  let below := mode != 2 && decide (vcm < (s.fi F.PFE_CH_CM_CM_LO n : Rat))
  let hi := above || (!below && (p.1 || m.1))
  let out := hi || below || p.2 || m.2
  let nout := if out then x.outCount + 1 else 0
  let held := l.contains 1 || l.contains 2
  let l := if out && decide (cmN ≤ nout) && !held then addFault l (if hi then 1 else 2) else l
  let others := l.any (fun k => k != 1 && k != 2)
  let okc := if out || others then 0 else x.okCount + 1
  let l := if decide (3 ≤ okc) then dropFault (dropFault l 1) 2 else l
  let s := if out then s.setF F.PFE_CH_STAT_CM_SEEN 1 n else s
  (l, s.setPfe n { x with excBad := bad, excOk := good, iLow := nlow, iOk := nok, outCount := nout, okCount := okc })

/-- The physical path that serves channel `n`; 255 for none. -/
def pfePath (s : State) (n : Nat) : Nat := tabGet n s.pfeSpare.pathOf n

/-- The spare precision paths, 48 to 51, that are healthy and serve no channel. -/
def pfeFreeSpares (s : State) : List Nat :=
  [48, 49, 50, 51].filter (fun p => !s.sto.umap.ppaths.contains p && !s.pfeSpare.pathOf.any (fun q => q.2 == p))

/-- Retire precision path `p` (R513, R520). -/
def retirePpath (s : State) (p : Nat) : State :=
  s.setMap { s.sto.umap with ppaths := addFault s.sto.umap.ppaths p }

/-- Spare `p` takes over channel `n` with the filter it has built, and the channel's path is retired: event 0xF5 (R202,
R203). -/
def pfeSwap (s : State) (n p : Nat) : State :=
  let s := retirePpath s (pfePath s n)
  let sp := s.pfeSpare
  let s := { s with pfeSpare := { sp with pathOf := tabPut sp.pathOf n p, checks := tabDrop sp.checks p } }
  let x := s.pfeX n
  let s := s.setPfe n { x with runs := x.spare, spare := [], disagree := 0, takeover := none, filling := false }
  poolsUpdate (healthEvent s n 3 0xF5 1 (word (pfeFreeSpares s).length))

/-- A check by spare `p` on channel `n` ends, with the spare's filter (R201, R202): agreement clears the count; the third disagreement in a row
calls for the takeover; a spare that disagrees with two channels in successive checks is retired. -/
def pfeCheckDone (s : State) (p n : Nat) (runs : List ModRun) (disagrees : Bool) : State :=
  let count := fun (s : State) =>
    let x := s.pfeX n
    if x.disagree < 2 then s.setPfe n { x with disagree := x.disagree + 1 }
    else s.setPfe n { x with disagree := x.disagree + 1, takeover := some p, spare := runs }
  let sp := s.pfeSpare
  let s := { s with pfeSpare := { sp with checks := tabDrop sp.checks p } }
  let x := s.pfeX n
  if !disagrees then
    let s := s.setPfe n { x with disagree := 0 }
    { s with pfeSpare := { s.pfeSpare with disagreed := tabDrop s.pfeSpare.disagreed p } }
  else
    match tabFind sp.disagreed p with
    | some m =>
      if m ≠ n then
        let s := retirePpath s p
        poolsUpdate (healthEvent s n 3 0xF5 2 (word (pfeFreeSpares s).length))
      else count s
    | none => count { s with pfeSpare := { s.pfeSpare with disagreed := tabPut s.pfeSpare.disagreed p n } }

/-- A conversion of channel `n` seen by the check on it, if one runs (R201): abandoned as the range changes, or where a
compared conversion, one of the four after the spare's window has filled, carries a flag, or the spare's own is CLIPPED. -/
def pfeCheckStep (s : State) (n : Nat) (spare : List (BitVec 24 × Nat)) (volt : Rat) (range : Nat) (moved flagged : Bool) :
    State :=
  match s.pfeSpare.checks.find? (fun c => c.2.ch == n) with
  | none => s
  | some (p, c) =>
    let sp := s.pfeSpare
    let put := fun c => { s with pfeSpare := { sp with checks := tabPut sp.checks p c } }
    let c := { c with runs := pushRuns (s.pfeTaps n) spare c.runs }
    let full := decide (s.pfeTaps n ≤ runsLen c.runs)
    let clipped := c.runs.any (fun r => r.clip && r.n != 0)
    if moved || (full && (flagged || clipped)) then { s with pfeSpare := { sp with checks := tabDrop sp.checks p } }
    else if !full then put c
    else
      let c := { c with n := c.n + 1, sumCh := c.sumCh + volt, sumSp := c.sumSp + filterVolt s n range c.runs }
      if c.n < 4 then put c
      else
        pfeCheckDone s p n c.runs
          (decide (((4 * s.f F.PFE_XCHK_LIMIT * pfeFs range : Nat) : Rat) < ratAbs (c.sumCh - c.sumSp) * 1000000))

/-- The range of a channel after a conversion instant (R184, R188): a pending write decides where it calls for another
range, else the rule of R184 where the channel autoranges; and low_count. -/
def nextRange (s : State) (n range : Nat) (req : Bool) (lowCount : Nat) (clippedNow : Bool) (volt : Rat) : Nat × Nat :=
  let w := if req then rangeAfterWrite s n range else range
  if !pfeRanged (s.f F.PFE_CH_CTL_MODE n) then (range, 0)
  else if w ≠ range then (w, 0)
  else if s.fb F.PFE_CH_RANGE_AUTO n then
    autoRange range (s.f F.PFE_CH_RANGE_RANGE_MIN n) (s.f F.PFE_CH_RANGE_RANGE_MAX n) lowCount clippedNow (ratAbs volt)
  else (range, 0)

/-- The channel goes to the range after a conversion instant, its filter with it (R184, R185, R188): whether it moved. -/
def pfeRangeStep (s : State) (n : Nat) (clippedNow : Bool) (volt : Rat) : Bool × State :=
  let x := s.pfeX n
  let (next, low) := nextRange s n x.range x.rangeReq x.lowCount clippedNow volt
  let moved := next != x.range
  let s := s.setPfe n { x with
    range := next, rangeReq := false, lowCount := if moved then 0 else low,
    runs := if moved then rescale x.range next x.runs else x.runs,
    spare := if moved then rescale x.range next x.spare else x.spare }
  let s := if moved then s.setF F.PFE_CH_STAT_RANGE_SEEN 1 n else s
  (moved, if moved && s.fb F.PFE_CH_RANGE_AUTO n then s.setF F.PFE_CH_RANGE_RANGE next n else s)

/-- A conversion instant at which nothing is published (R180, R203): the range is chosen as at any other (R184, R188), with
its event (R200); a check on the channel takes the spare's samples, and ends where the range moves (R201). -/
def pfeUnpublished (s : State) (n : Nat) (d : PfeSample) : State :=
  let x := s.pfeX n
  let (moved, s) := pfeRangeStep s n (x.runs.any (fun r => r.clip && r.n != 0 && !r.old)) (filterVolt s n x.range x.runs)
  let s := if moved && s.fb F.PFE_CH_CTL_RNGEV n then pfeEvent s n 0x22 (s.pfeX n).range else s
  match s.pfeSpare.checks.find? (fun c => c.2.ch == n) with
  | none => s
  | some (p, c) =>
    let sp := s.pfeSpare
    let c := { c with runs := pushRuns (s.pfeTaps n) d.spare c.runs }
    { s with pfeSpare := { sp with checks := if moved then tabDrop sp.checks p else tabPut sp.checks p c } }

/-- A conversion with a full or filling filter: range, faults and value, its word published unless FAULT holds, and then
its events, so that they carry the value published (R179 to R200). -/
def pfeMeasure (s : State) (n : Nat) (d : PfeSample) : State :=
  let x := s.pfeX n
  let mode := s.f F.PFE_CH_CTL_MODE n
  let curve := s.f F.PFE_CH_CTL_CURVE n
  let range := x.range
  let volt := filterVolt s n range x.runs
  let clipped := x.runs.any (fun r => r.clip && r.n != 0)
  let clippedNow := x.runs.any (fun r => r.clip && r.n != 0 && !r.old)
  let open' := mode != 1 && mode != 2 && (d.inp.isNone || d.inn.isNone)
  let (k, s) := if open' || (3 ≤ mode && d.iMeas == 0) then s.takeFresh else (0, s)
  let raw := pfeRaw mode d volt k
  let vcm := pfeVcm mode d k
  let s := ((s.wr R.PFE_CH_RAW (wordI raw) n).wr R.PFE_CH_VCM (wordI (roundAway vcm)) n).setF F.PFE_CH_STAT_RANGE_NOW range n
  let (moved, s) := pfeRangeStep s n clippedNow volt
  let ranged := !moved && x.runs.any (fun r => r.old && r.n != 0)
  let (l, s) := pfeJudge s n raw vcm d
  let (ev1, s) := pfeSetFaults s n l
  let (tcj, l, lost, s) := if 1 ≤ curve ∧ curve ≤ 8 then pfeColdJunction s n else (0, l, false, s)
  let (ev2, s) := pfeSetFaults s n l
  let (v, span) := linearise s curve raw tcj
  let wasClipped := s.fb F.PFE_CH_STAT_CLIPPED n
  let wasSpan := s.fb F.PFE_CH_STAT_SPAN n
  let s := pfeShow s n (!l.isEmpty) clipped ranged (l.headD 0)
  let s := if l.isEmpty then published (s.wr R.PFE_CH_VAL (wordI v) n) n else s
  let s := s.setB F.PFE_CH_STAT_SPAN span n
  let s := if clipped then s.setF F.PFE_CH_STAT_CLIP_SEEN 1 n else s
  let s := pfeEvents s n (ev1 ++ (if lost then [(0x25, 0)] else []) ++ ev2
    ++ (if moved && s.fb F.PFE_CH_CTL_RNGEV n then [(0x22, (s.pfeX n).range)] else [])
    ++ (if clipped && !wasClipped then [(0x23, range)] else [])
    ++ (if span && !wasSpan then [(0x24, 0)] else []))
  pfeCheckStep s n d.spare volt range moved (clipped || ranged || !l.isEmpty)

/-- A conversion instant of a running channel (R179, R180, R202, R203). The interval's samples enter the filter. With a step of
TB_NOW in it nothing is published, no fault is judged and no takeover happens. A takeover due since an earlier instant
happens, if its spare is still free. While a spare that replaced a failed path fills its window, the word holds and no flag
is set. DEDUCED: log entry 138. DEDUCED: log entry 139. -/
def pfeConvert (s : State) (n : Nat) (d : PfeSample) : State :=
  let x := s.pfeX n
  let taps := s.pfeTaps n
  let s1 := s.setPfe n { x with
    convTb := some s.tbNow, steps := s.steps, runs := pushRuns taps d.mods x.runs,
    spare := if x.takeover.isSome then pushRuns taps d.spare x.spare else [] }
  if x.steps ≠ s.steps then pfeUnpublished s1 n d
  else
    let s2 := match x.takeover with
      | some p => if (pfeFreeSpares s1).contains p then pfeSwap s1 n p
        else s1.setPfe n { s1.pfeX n with takeover := none, spare := [] }
      | none => s1
    let y := s2.pfeX n
    if y.filling && decide (runsLen y.runs < taps) then pfeUnpublished s2 n d
    else pfeMeasure (s2.setPfe n { y with filling := false }) n d

/-- A stopping channel stops at its conversion instant: FAULT with the value last published, FKIND and ACTIVE zero
(R199). -/
def pfeStop (s : State) (n : Nat) : State :=
  let sp := s.pfeSpare
  let s := { s with pfeSpare := { sp with checks := sp.checks.filter (fun c => c.2.ch != n) } }
  let s := s.setPfe n { s.pfeX n with stopping := false, faults := [], episode := 0, convTb := some s.tbNow,
                                      takeover := none, spare := [], disagree := 0, filling := false }
  let s := ((s.setF F.PFE_CH_STAT_ACTIVE 0 n).setF F.PFE_CH_STAT_CJ_LOST 0 n).setF F.PFE_CH_STAT_SPAN 0 n
  pfeShow s n true false false 0

/-- A conversion instant of channel `n` is now, and its conversion has not been taken (R179). -/
def pfeDue (s : State) (n : Nat) : Bool :=
  s.domOn 4 && s.fb F.PFE_CH_STAT_ACTIVE n && s.tbHits (fun t => t % s.pfePer n == 0) && (s.pfeX n).convTb != some s.tbNow

/-- The channel the next check takes: the enabled channels in ascending order, in turn (R201). -/
def pfeNextCheck (s : State) : Option Nat :=
  let en := (List.range 48).filter (fun n => s.fb F.PFE_CH_CTL_EN n && s.fb F.PFE_CH_STAT_ACTIVE n &&
    !s.pfeSpare.checks.any (fun c => c.2.ch == n))
  match s.pfeSpare.cursor with
  | none => en.head?
  | some k => match en.find? (fun n => decide (k < n)) with
    | some n => some n
    | none => en.head?

/-- Spare `p` begins a check: free, none in progress on it, PERIOD_S after its last (R201). -/
def pfeStartCheck (s : State) (p : Nat) : State :=
  let sp := s.pfeSpare
  let per := s.f F.PFE_XCHK_PERIOD_S * 1000000000
  let ready := s.domOn 4 && (pfeFreeSpares s).contains p && (tabFind sp.checks p).isNone &&
    s.pfe.all (fun q => q.2.takeover != some p) &&
    (match tabFind sp.started p with
      | some t => decide (t + per ≤ s.elapsed)
      | none => true)
  match pfeNextCheck s with
  | some n =>
    if ready then
      { s with pfeSpare := { sp with checks := tabPut sp.checks p { ch := n, start := s.elapsed },
                                     started := tabPut sp.started p s.elapsed, cursor := some n } }
    else s
  | none => s

/-- The path of channel `n` fails outright (R203): a free spare takes over, and the word holds its last value until the
spare's window is full; with none left, FAULT with kind PATH. -/
def pfePathFail (s : State) (n : Nat) : State :=
  if !s.domOn 4 || pfePath s n == 255 then s
  else
    match pfeFreeSpares s with
    | p :: _ =>
      let s := pfeSwap s n p
      let s := pfeShow s n (s.fb F.PFE_CH_STAT_FAULT n) false false (s.f F.PFE_CH_STAT_FKIND n)
      s.setPfe n { s.pfeX n with runs := [], filling := true }
    | [] =>
      let s := retirePpath s (pfePath s n)
      let s := { s with pfeSpare := { s.pfeSpare with pathOf := tabPut s.pfeSpare.pathOf n 255 } }
      let s := healthEvent s n 3 0xF5 3 0
      let s := poolsUpdate s
      if s.fb F.PFE_CH_STAT_ACTIVE n then pfeFaults s n (addFault (s.pfeX n).faults 4) else s

/-! ### The commands -/

/-- At a conversion instant the channel publishes its word, or stops where it was disabled (R179, R199). -/
def execPfeConversion (n : Fin 48) (d : PfeSample) (s : State) : Host.Outcome State Fault Refusal :=
  .next (if pfeDue s n then
      if (s.pfeX n).stopping then pfeStop s n else pfeConvert s n d
    else s)

/-- CJ_HOLD seconds without a valid T_cj on a thermocouple curve: FAULT with kind NOCJ (R193). -/
def execCjHoldExpiry (n : Fin 48) (s : State) : Host.Outcome State Fault Refusal :=
  .next (if s.domOn 4 && s.fb F.PFE_CH_STAT_ACTIVE n && s.fb F.PFE_CH_STAT_CJ_LOST n &&
        decide (1 ≤ s.f F.PFE_CH_CTL_CURVE n) && decide (s.f F.PFE_CH_CTL_CURVE n ≤ 8) &&
        decide ((s.pfeX n).tcjAt + s.f F.PFE_CH_FLT_CJ_HOLD n * 1000000000 ≤ s.elapsed)
      then pfeFaults s n (addFault (s.pfeX n).faults 5) else s)

/-- A free spare path begins a check of the next enabled channel (R201). -/
def execPfeCrossCheck (p : Fin 4) (s : State) : Host.Outcome State Fault Refusal :=
  .next (pfeStartCheck s (48 + p.val))

/-- A path delivers no conversion by its instant (R203). -/
def execPfePathFail (n : Fin 48) (s : State) : Host.Outcome State Fault Refusal :=
  .next (pfePathFail s n)

/-- The cold-junction sensors are read, every 100 ms (R204). -/
def execCjSensorRead (m : Fin 12) (t : BitVec 32) (s : State) : Host.Outcome State Fault Refusal :=
  .next (if s.domOn 4 && s.tbHits (fun t => t % 100000000 == 0) then s.wr R.PFE_CJT t m else s)

end Sys2Proof.Machine
end

