-- ==== Sys2Proof/Machine/Reset.lean ====
section
/-! DEFINITION. Sys2Proof/Machine/Reset.lean: the resets and the boot sequence (spec/15_modes_and_reset.md R545,
R551 to R556). -/

namespace Sys2Proof.Machine

/-! ### The unit map at boot (R510 to R514) -/

/-- Channels whose own path the unit map retires take the healthy spares in ascending order; 255 where none is left. -/
def pathsOf (retired own spares : List Nat) : Tab Nat :=
  let bad := own.filter (fun n => retired.contains n)
  let good := spares.filter (fun p => !retired.contains p)
  bad.zipIdx.map (fun q => (q.1, good.getD q.2 255))

/-- The unit map is applied to the converter paths. -/
def pathsAssign (s : State) : State :=
  let u := s.sto.umap
  rodsAssign { s with pfeSpare := { s.pfeSpare with pathOf := pathsOf u.ppaths (List.range 48) [48, 49, 50, 51] },
                       dfeSpare := { s.dfeSpare with pathOf := pathsOf u.dpaths (List.range 8) [8] } }

/-! ### Boot (R545) -/

/-- Boot from step 3: the key area and the working copy give their registers, the unit map is applied, the KIND 4 record
is written, Commission is decided, and PD2 is switched on (R511, R533, R545, R553). -/
def bootStart (s : State) : State :=
  let s := keyLoad (storedLoad s 0x10000000 0x1000FFFF) 0x10000000 0x1FFFFFFF
  let s := keyLoad (keyLoad s 0x60000800 0x60000FFF) 0x61000000 0x610000FF
  let s := if s.domOn 7 then solClassSet s (classSKept s) else s
  let s := pathsAssign (marksLoad (keysInForce s))
  let s := logRecord s 4 [s.rd R.SYS_RCAUSE]
  let none := !((newestBank s.sto).isSome && s.sto.newestKey.isSome)
  pdRamp (s.setSys { s.sys with boot := true, toCommission := s.sys.commission || none }) 2

/-- The machine as VLOG comes back (R514, R542, R545): everything at its reset value but the store, and the contacts as
they stand, whose times count from now. DEDUCED: log entry 97. DEDUCED: log entry 111. -/
def powerOnState (s : State) : State :=
  let x := s.sys
  let t := s.sto
  let map := if t.mapClr then {} else t.mapRecs.now UnitMap.bytes {}
  let s1 : State :=
    { pending := s.pending, variant := s.variant, elapsed := s.elapsed, fresh := s.fresh, sent := s.sent,
      regs := State.reset.regs, ageBase := (List.range 4).map (fun n => (0x900 + n, s.elapsed)),
      sto := { bankA := t.bankA, bankB := t.bankB, keyA := t.keyA, keyB := t.keyB, dirtyA := t.dirtyA, dirtyB := t.dirtyB,
               log := t.log, marks := t.marks, umap := map,
               mapRecs := if t.mapClr then t.mapRecs.put UnitMap.bytes {} else t.mapRecs },
      sys := { powered := true, stopA := x.stopA, stopB := x.stopB, stopAAt := s.elapsed, stopBAt := s.elapsed,
               commission := x.commission, wakeLow := x.wakeLow.map (fun _ => s.elapsed),
               resetLow := x.resetLow.map (fun _ => s.elapsed),
               dio := x.dio.map (fun d => (d.1, { d.2 with since := s.elapsed, state := false })) } }
  stoReload (s1.wr R.STO_LOGHEAD (word (logHead t.log))) true

/-! ### Resets (R551 to R556) -/

/-- A reset other than power-on, of a KIND, with the Rod of a Rod-fatal one and whether an early kick caused it.
DEDUCED: log entry 16. DEDUCED: log entry 75. DEDUCED: log entry 96. -/
def sysReset (s : State) (kind rod : Nat) (early : Bool) : State :=
  if !s.sys.powered then s
  else
    let m := s.mode
    let count := min 65535 (s.f F.SYS_RCAUSE_COUNT + 1)
    let s := s.wr R.SYS_RCAUSE (word (count * 65536 + m * 4096 + rod * 256 + bit early * 16
      + bit s.sto.commit.isSome * 8 + kind))
    let s := (commitAbandon s 2).2
    let s := fireUpdate (setMode s modeBoot 0)
    let s := if m = modeBoot then s else modeEvent s m
    let s := if s.domOn 7 then mtrRht (lswRht (solAllOff s) false) false true else pdOff s 7
    let s := [1, 2, 3, 4, 5, 6].foldl pdOff s
    let s := stoReload s false
    let s := if s.domOn 7 then fanReset (mtrReset (lswReset (solReset s))) else s
    let s := s.setSys { s.sys with wdtArmed := false, boot := false, resume := false, ramps := [], stopped := [],
                                   pdSince := tabPut s.sys.pdSince 7 s.elapsed,
                                   exiting := false, exitRun := false, exitMain := false, exitFailed := false }
    if s.sys.inReset then s else bootStart s

/-- A program with POLICY RESET faults (R86, R551): KIND 5. -/
def rodFatalReset (s : State) (r : Nat) : State := sysReset s 5 r false

/-- What an outcome leaves, or the state before where there is no next one. -/
def State.orNext (s : State) : Host.Outcome State Fault Refusal → State
  | .next t => t
  | _ => s

/-- EXTERNAL_RESET (R551): RESET_N low for 10 µs. -/
def execExternalReset (s : State) : Host.Outcome State Fault Refusal :=
  .next (
    match s.sys.resetLow with
    | some t =>
      if s.sys.powered ∧ !s.sys.inReset ∧ t + 10000 ≤ s.elapsed then
        sysReset (s.setSys { s.sys with inReset := true }) 2 0 false
      else s
    | none => s)

/-- WATCHDOG_EXPIRY (R554). -/
def execWatchdogExpiry (s : State) : Host.Outcome State Fault Refusal :=
  .next (
    if s.sys.wdtArmed ∧ s.sys.wdtAt + s.f F.SYS_WDT_WDT_MAX * 1000000 ≤ s.elapsed then sysReset s 3 0 false else s)

/-- A reset of this step comes first where it stands behind in the queue: a tick comes when no command waits, so the
commands of the queue fall in the present step (R537). DEDUCED: log entry 159. -/
def resetsAhead (s : State) : State :=
  s.pending.foldl (fun s c => match c with
    | .externalReset => s.orNext (execExternalReset s)
    | .watchdogExpiry => s.orNext (execWatchdogExpiry s)
    | _ => s) s

end Sys2Proof.Machine
end

