-- ==== Sys2Proof/Machine/Frame.lean ====
section
/-! DEFINITION. Sys2Proof/Machine/Frame.lean: taking an exception, the fault of a program, and what every Coxis
instruction passes first (spec/02_coxis_model.md R85, R86; spec/03_coxis_instructions.md R92, R109, R128 to R132). -/

namespace Sys2Proof.Machine

/-- The program of Rod `r` ends in FAULTED, and a stop that pends with it (R86). -/
def rodFaultNow (s : State) (r : Nat) : State := (stopClear s r).setRodSt r rodFaulted

/-- The program of Rod `r` faults (R86): a health event, its reservations voided, then its POLICY. -/
def programFault (s : State) (r : Nat) : State :=
  let s := voidReservations s r
  let pol := s.f F.FRM_RSTAT_POLICY r
  let s := healthEvent s r 1 0xF3 pol (s.rd R.FRM_ECAUSE r)
  match tabFind s.programs r with
  | none => rodFaultNow s r
  | some p =>
    if p.policy = 1 ∧ restartsNow s r < p.restartMax then
      let s := s.setRod r { s.rod r with restarts := s.elapsed :: (s.rod r).restarts }
      startProgram s r
    else if p.policy = 2 then rodFatalReset s r
    else rodFaultNow s r

/-- Taking an exception (R85, R128, R131): FRM_EPC, FRM_ECAUSE and FRM_EADDR are written; the Rod enters its handler,
or, with no handler or inside it, its program faults. -/
def raise (s : State) (r cls code : Nat) (epc eaddr : Word) : State :=
  let x := s.rod r
  let nested := x.inHandler
  let s := (s.wr R.FRM_EPC epc r).wr R.FRM_EADDR eaddr r
  let s := s.wr R.FRM_ECAUSE (word (cls * 4096 + bit nested * 256 + code)) r
  match tabFind s.programs r with
  | some p =>
    if !nested ∧ p.excEntry ≠ 0 then s.setRod r { x with pc := p.excEntry, inHandler := true }
    else programFault s r
  | none => programFault s r

/-- An instruction may lie at `a`: a multiple of 4 in Frame SRAM, outside enabled ring storage (R109). -/
def codeAddrOk (s : State) (a : Word) : Bool :=
  a.toNat % 4 == 0 && decide (a.toNat < 0x800000) && !s.inRing a.toNat 4

/-- One Coxis instruction of Rod `r`, class `cls`: nothing unless the Rod runs; then the fetch conditions, then
ILLEGAL, then the instruction itself (R92, R109, R130). DESIGN CHOICE: log entry 14. -/
def rodExec (s : State) (r cls : Nat) (illegal : Bool) (body : State → State) : State :=
  if !s.canRun r then s
  else
    let pc := (s.rod r).pc
    if !codeAddrOk s pc then raise s r 0 0x02 pc pc
    else
      match beadCheck s (pc.toNat / 16) with
      | (true, s) => raise s r 0 0x03 pc pc
      | (false, s) => if illegal then raise s r cls 0x01 pc 0 else body s

end Sys2Proof.Machine
end

