-- ==== Sys2Proof/Machine/FrameRegs.lean ====
section
/-! DEFINITION. Sys2Proof/Machine/FrameRegs.lean: writes of the Rod control and ring registers
(spec/02_coxis_model.md R59 to R63, R66, R88). -/

namespace Sys2Proof.Machine

/-- A write of FRM_RCTL is refused (R88, R523). -/
def rctlRefuse (s : State) (r : Nat) (v : Word) : Bool :=
  let start := maskBit v 0
  let stop := maskBit v 1
  (start && stop) || (start && ((tabFind s.programs r).isNone || s.rodSt r == rodShed))

/-- A write of FRM_RCTL takes effect (R88): START of a HALTED or FAULTED Rod, or a request to stop; a STOP written in the
step in which the Rod halted stays set (R12). -/
def rctlAction (s : State) (r : Nat) (v : Word) : State :=
  let st := s.rodSt r
  let x := s.rod r
  if maskBit v 0 then
    if st = rodHalted ∨ st = rodFaulted then
      (startProgram (s.setRod r { x with stopAt := none }) r).setF F.FRM_RCTL_STOP 0 r
    else s
  else if maskBit v 1 then
    if st = rodRunning ∨ st = rodWaiting ∨ st = rodStarting then
      (s.setRod r { x with stopAt := some (x.stopAt.getD s.elapsed), stopWr := some s.elapsed }).setF F.FRM_RCTL_STOP 1 r
    else if x.haltAt = some s.elapsed then s.setF F.FRM_RCTL_STOP 1 r
    else s
  else s

/-- Every logical Rod is stopped as a write of FRM_RCTL.STOP does (R479, R548): the Rods that had a program going. -/
def rodsStop (s : State) : List Nat × State :=
  let l := (List.range 16).filter (fun r =>
    s.rodSt r == rodRunning || s.rodSt r == rodWaiting || s.rodSt r == rodStarting)
  (l, l.foldl (fun s r => rctlAction s r 2) s)

/-- Rods so stopped have come to rest. -/
def rodsStopped (s : State) (l : List Nat) : Bool :=
  l.all (fun r => s.rodSt r == rodHalted || s.rodSt r == rodFaulted || s.rodSt r == rodShed)

/-- A write of CRG_CFG breaks R61: SIZE changed on an enabled ring, or storage that clashes. -/
def crgCfgRefuse (s : State) (n : Nat) (v : Word) : Bool :=
  let sz := bits v 4 1
  let en := s.fb F.CRG_CFG_EN n
  let resize := sz != s.f F.CRG_CFG_SIZE n
  (resize && (en || decide (12 < sz))) ||
    (!en && (resize || maskBit v 0) && ringClash s n (s.nat R.CRG_BASE n) sz)

/-- A write of CRG_BASE breaks R61. -/
def crgBaseRefuse (s : State) (n : Nat) (v : Word) : Bool :=
  v != s.rd R.CRG_BASE n &&
    (s.fb F.CRG_CFG_EN n || v.toNat % 256 != 0 || decide (0x800000 ≤ v.toNat) ||
      ringClash s n v.toNat (s.f F.CRG_CFG_SIZE n))

/-- A write of CRG_CFG takes effect (R62): the size, whose change keeps the books (R58), an enable, or a disable that
waits for RESERVED to reach zero. The tags of dropped beads come back. A write of EN = 1 while a disable waits leaves it
waiting. DEDUCED: log entry 119. -/
def crgCfgAction (s : State) (n : Nat) (v : Word) : List Nat × State :=
  let en := s.fb F.CRG_CFG_EN n
  let resize := bits v 4 1 != s.f F.CRG_CFG_SIZE n
  let s := s.setF F.CRG_CFG_SIZE (bits v 4 1) n
  let s := if resize then s.wr R.CRG_TALLY (word (s.ringSize n)) n else s
  if maskBit v 0 then (([] : List Nat), if en then s else ringEnable s n)
  else if en then
    let s := s.setRing n { s.ring n with closing := true }
    if s.nat R.CRG_RESERVED n = 0 then ringDisableEffect s n else ([], s)
  else ([], s)

end Sys2Proof.Machine
end

