-- ==== Sys2Proof/Machine/NetBase.lean ====
section
/-! DEFINITION. Sys2Proof/Machine/NetBase.lean: the ports, the keys in force, and the frames the controller sends
(spec/13_columns_and_links.md R464 to R472, R480, R481, R493 to R495; spec/15_modes_and_reset.md R546). -/

namespace Sys2Proof.Machine

/-! ### Ports: 8 the host port, 9 L0, 10 L1, as COL_STATE.MEDIUM codes them (R469, R488) -/

/-- A port register: of the host port `h`, of a long-reach port `l`. -/
def State.netRd (s : State) (p : Nat) (h l : RegDesc) (j : Nat := 0) : Word := if p = 8 then s.rd h j else s.rd l (p - 9) j

/-- A field of a port register. -/
def State.netF (s : State) (p : Nat) (h l : Fld) : Nat := if p = 8 then s.f h else s.f l (p - 9)

/-- Set a field of a port register. -/
def State.netSetF (s : State) (p : Nat) (h l : Fld) (v : Nat) : State := if p = 8 then s.setF h v else s.setF l v (p - 9)

/-- Add to a count of a port. -/
def State.netAdd (s : State) (p : Nat) (h l : RegDesc) (n : Nat) : State := if p = 8 then s.addR h n else s.addR l n (p - 9)

/-- The domain of port `p` is on: L0 lies in PD0, the others in PD1. -/
def State.portOn (s : State) (p : Nat) : Bool := s.domOn (if p = 9 then 0 else 1)

/-- Port `p` can carry frames: its domain on, enabled, with a link. -/
def State.portUp (s : State) (p : Nat) : Bool :=
  s.portOn p && s.netF p F.NETH_CTL_EN F.NETL_CTL_EN == 1 && s.netF p F.NETH_STAT_LINK F.NETL_STAT_LINK == 1

/-- A frame discarded (R493). -/
def netDrop (s : State) (p : Nat) : State := s.netAdd p R.NETH_RXDROP R.NETL_RXDROP 1

/-- The receive ring of port `p` (R469). -/
def rxRing (p : Nat) : Nat := if p = 8 then 10 else if p = 9 then 12 else 13

/-! ### Keys (R480, R494, R495, R546) -/

/-- The commissioning key stands in slot `k`: slot 0 in Commission, while it is not VALID. -/
def commKey (s : State) (k : Nat) : Bool :=
  k == 0 && s.mode == modeCommission && !maskBit (tabGet 0 s.net.force (R.KPERM.addr 0)) 8

/-- The permission word of slot `k` in force: every permission on every port for the commissioning key. -/
def keyPerm (s : State) (k : Nat) : Word := if commKey s k then 0x7011F else tabGet 0 s.net.force (R.KPERM.addr k)

/-- The 32 bytes of the key of slot `k` in force. DEDUCED: log entry 19. -/
def keyBytes (s : State) (k : Nat) : List Nat :=
  (List.range 8).flatMap (fun i =>
    leBytes (if commKey s k then Config.commissioningKey i else tabGet 0 s.net.force (R.KEY.addr k i)).toNat 4)

/-! ### Taking frames (R470, R481, R482) -/

/-- A port as COL_STATE.MEDIUM codes it. -/
def portCode : NetPort → Nat
  | .host => 8
  | .l0 => 9
  | .l1 => 10

/-- Bytes as numbers. -/
def natBytes (l : List (BitVec 8)) : List Nat := l.map BitVec.toNat

/-- Port `p` accepts a frame's VLAN tag and IP version (R470). DEDUCED: log entry 81. -/
def netTakes (s : State) (p : Nat) (src : NetSrc) : Bool :=
  (s.netF p F.NETH_CTL_VLANEN F.NETL_CTL_VLANEN == 0
      || src.vlan.map BitVec.toNat == some (s.netF p F.NETH_CTL_VID F.NETL_CTL_VID))
    && (src.v6 || s.netF p F.NETH_IP4PFX_V F.NETL_IP4PFX_V != 0)

/-- The header and payload of a Tarbylink frame, the tag apart (R472). -/
def tlBytes (type len key zero1 replay seq credit zero2 tstamp : Nat) (payload : List Nat) : List Nat :=
  leBytes 0x4C54 2 ++ [1, type] ++ leBytes len 2 ++ [key, zero1] ++ leBytes replay 8 ++ leBytes seq 2 ++ leBytes credit 2
    ++ leBytes zero2 4 ++ leBytes tstamp 8 ++ payload

/-- The header holds (R482, check 1). -/
def tlHeaderOk (f : TlFrame) : Bool :=
  f.magic == 0x4C54 && f.version == 1 && decide (f.len.toNat ≤ 1088) && f.len.toNat == f.payload.length
    && decide (f.keysel.toNat < 8) && f.zero1 == 0 && f.zero2 == 0 && f.tag.length == 16

/-- The key slot of a frame. -/
def tlKey (f : TlFrame) : Nat := f.keysel.toNat % 8

/-- The slot is VALID and permits the port (check 2). -/
def tlPortOk (s : State) (f : TlFrame) : Bool :=
  let p := keyPerm s (tlKey f)
  maskBit p 8 && maskBit p (16 + (portCode f.port - 8))

/-- The tag is the frame's HMAC under the slot's key (check 3). -/
def tlTagOk (s : State) (type : Nat) (f : TlFrame) : Bool :=
  let m := tlBytes type f.len.toNat f.keysel.toNat f.zero1.toNat f.replay.toNat f.seq.toNat f.credit.toNat f.zero2.toNat
    f.tstamp.toNat (natBytes f.payload)
  (hmac (keyBytes s (tlKey f)) m).take 16 == natBytes f.tag

/-- Checks 1 to 3 hold. -/
def tlAuthentic (s : State) (type : Nat) (f : TlFrame) : Bool := tlHeaderOk f && tlPortOk s f && tlTagOk s type f

/-- REPLAY lies above the stored mark: the frame waits for it to be written (R481). -/
def krxWaits (s : State) (f : TlFrame) : Bool := decide ((s.sto.mark (tlKey f)).krxhw < f.replay.toNat)

/-- A Tarbylink frame that arrives now passes R482, and so restarts the host timer (R380). -/
def tlPasses (s : State) (type : Nat) (f : TlFrame) : Bool :=
  s.portUp (portCode f.port) && netTakes s (portCode f.port) f.src && tlAuthentic s type f && !krxWaits s f
    && decide (s.rd64 R.KRXHW_LO R.KRXHW_HI (tlKey f) < f.replay.toNat)

/-- The Tarbylink frame a command brings, with its TYPE. -/
def tlOf : Instr → Option (Nat × TlFrame)
  | .hello f => some (0x01, f)
  | .bye f => some (0x03, f)
  | .regRead f => some (0x10, f)
  | .regWrite f => some (0x12, f)
  | .ringData f => some (0x20, f)
  | .credit f => some (0x21, f)
  | .loadBegin f => some (0x30, f)
  | .loadData f => some (0x31, f)
  | .loadCommit f => some (0x32, f)
  | .values f => some (0x40, f)
  | .statusQ f => some (0x50, f)
  | .wake f => some (0x52, f)
  | _ => none

/-! ### Sending (R467, R471, R472, R481) -/

/-- Where frames for Column `n` go (R471): MAC address, VLAN tag plus one, IP version, IP address, UDP port. -/
def colDest (s : State) (n : Nat) : List Nat :=
  let x := s.colX n
  let ip := if s.fb F.COL_STATE_IPV6 n then
      s.nat R.COL_ADDR n 0 + s.nat R.COL_ADDR n 1 * 2 ^ 32 + s.nat R.COL_ADDR n 2 * 2 ^ 64 + s.nat R.COL_ADDR n 3 * 2 ^ 96
    else s.nat R.COL_ADDR n 0
  [x.mac, (x.vlan.map (· + 1)).getD 0, s.f F.COL_STATE_IPV6 n, ip, s.f F.COL_PORT_V n]

/-- The Column a waiting frame goes to has become FREE meanwhile. -/
def netGone (s : State) (f : OutFrame) : Bool := (f.col.map (fun n => s.colSt n == coFree)).getD false

/-- A frame of the controller leaves (R467, R471, R481). A frame to no Column carries free values as SEQ and CREDIT.
DEDUCED: log entry 82. DESIGN CHOICE: log entry 83. DESIGN CHOICE: log entry 84. -/
def netSendNow (s : State) (f : OutFrame) : State :=
  if netGone s f then s else
  let replay := s.rd64 R.KTX_LO R.KTX_HI f.key + 1
  let s := s.wr64 R.KTX_LO R.KTX_HI replay f.key
  let (dest, seq, credit, s) := match f.col with
    | some n =>
      let s := s.setF F.COL_SEQ_TXSEQ (s.f F.COL_SEQ_TXSEQ n + 1) n
      (colDest s n, s.f F.COL_SEQ_TXSEQ n, s.f F.COL_RXBK_FREED n, colReturned s n)
    | none =>
      let (k, s) := s.takeFresh
      ([f.mac, (f.vlan.map (· + 1)).getD 0, bit f.v6, f.ip, f.udp], Config.freeNat (2 * k) % 65536,
        Config.freeNat (2 * k + 1) % 65536, s)
  let m := tlBytes f.type f.payload.length f.key 0 replay seq credit 0 s.tbNow f.payload
  let data := m ++ (hmac (keyBytes s f.key) m).take 16
  if s.portUp f.port then { s with sent := s.sent ++ [⟨f.port, "TARBYLINK", dest, data⟩] } else s

/-- KTX of slot `k` has reached its stored mark: frames wait until the mark is written (R481). -/
def ktxWaits (s : State) (k : Nat) : Bool := decide ((s.sto.mark k).ktx ≤ s.rd64 R.KTX_LO R.KTX_HI k)

/-- A frame leaves, or waits behind those of its key slot that wait. -/
def netSend (s : State) (f : OutFrame) : State :=
  if ktxWaits s f.key || s.net.outQ.any (fun g => g.key == f.key) then
    { s with net := { s.net with outQ := s.net.outQ ++ [f] } }
  else netSendNow s f

/-- Frames that wait for slot `k` leave, in order, as far as the mark lets them. -/
def netPump : Nat → State → Nat → State
  | 0, s, _ => s
  | fuel + 1, s, k =>
    match s.net.outQ.find? (fun g => g.key == k) with
    | some f =>
      if ktxWaits s k then s
      else netPump fuel (netSendNow { s with net := { s.net with outQ := s.net.outQ.erase f } } f) k
    | none => s

/-- A frame to Column `n`. -/
def colFrame (s : State) (n type : Nat) (payload : List Nat) : OutFrame :=
  { key := s.f F.COL_STATE_KEYSEL n, col := some n, port := s.f F.COL_STATE_MEDIUM n, mac := 0, vlan := none, v6 := false,
    ip := 0, udp := 0, type := type, payload := payload }

/-- Send a frame to Column `n`. -/
def colSend (s : State) (n type : Nat) (payload : List Nat) : State := netSend s (colFrame s n type payload)

/-! ### Credit returned (R465, R467) -/

/-- A Tarbylink Column owes a quarter of its RX_LIMIT: a CREDIT frame goes. DEDUCED: log entry 86. -/
def colCreditDue (s : State) (n : Nat) : State :=
  if s.colSt n = coAdmitted ∧ 8 ≤ s.f F.COL_STATE_MEDIUM n ∧ colOwed s n ≠ 0 ∧ s.f F.COL_RX_RX_LIMIT n / 4 ≤ colOwed s n
      ∧ !s.net.outQ.any (fun f => f.col == some n) then
    colSend s n 0x21 []
  else s

/-- Tagged beads have left a ring: each frees one bead of its Column's book, and credit due is returned. -/
def creditReturn (s : State) (tags : List Nat) : State :=
  if tags.isEmpty then s
  else
    let s := tags.foldl (fun s n => colFreed s n) s
    tags.eraseDups.foldl (fun s n => colCreditDue s n) s

end Sys2Proof.Machine
end

