-- ==== Sys2Proof/Machine/Activate.lean ====
section
/-! DEFINITION. Sys2Proof/Machine/Activate.lean: the answer to a program load, and the activation of an image
(spec/13_columns_and_links.md R478, R479). -/

namespace Sys2Proof.Machine

/-- LOAD_RSP with a status. -/
def loadRsp (s : State) (c reqId status : Nat) : State := colSend s c 0x33 (leBytes reqId 4 ++ leBytes status 4)

/-- LOAD_RSP to the LOAD_COMMIT `r`, while its Column is ADMITTED. -/
def loadAnswer (s : State) (r : LoadReq) (status : Nat) : State :=
  if s.colSt r.col = coAdmitted then loadRsp s r.col r.reqId status else s

/-- The Rods of a waiting activation have stopped: the rings are enabled anew from the ring table, the programs of the new
image start, and LOAD_COMMIT is answered (R479). The restarts counted for a logical Rod stay, and an activation
does not end while DORMANT pends. DEDUCED: log entry 91. DEDUCED: log entry 158. -/
def activateDue (s : State) : State :=
  match s.sto.activate with
  | none => s
  | some a =>
    if !rodsStopped s a.rods || (s.fb F.SYS_MODE_PEND && s.f F.SYS_MODE_TARGET == modeDormant) then s
    else
      let s := s.setSto { s.sto with activate := none }
      let s := foldN 32 (fun s n =>
        let (tags, s) := ringDisableEffect s n
        creditReturn s tags) s
      loadAnswer (startPrograms (bootImage s).2) a.load 0

/-- Activation in Ready (R479): every logical Rod is stopped as a write of FRM_RCTL.STOP does, and the rest follows when
they have come to rest. -/
def loadActivate (s : State) (r : LoadReq) : State :=
  let (l, s) := rodsStop s
  activateDue (s.setSto { s.sto with activate := some ⟨r, l⟩ })

end Sys2Proof.Machine
end

