-- ==== Sys2Proof/Machine/Flags.lean ====
section
/-! DEFINITION. Sys2Proof/Machine/Flags.lean: the results of the integer and fixed-point operations with the sticky
flag each raises (R42, R100 to R105). -/

namespace Sys2Proof.Machine

/-- A signed result does not fit in 32 bits (R42). -/
def ovfOf (v : Int) : Bool := decide (v < -2 ^ 31) || decide (2 ^ 31 - 1 < v)

/-- An exact signed result as a word, with its overflow. -/
def withOvf (v : Int) : Word × Bool := (wordI v, ovfOf v)

/-- ADD. -/
def aluAdd (a b : Word) : Word × Bool := withOvf (a.toInt + b.toInt)
/-- SUB. -/
def aluSub (a b : Word) : Word × Bool := withOvf (a.toInt - b.toInt)
/-- MUL. -/
def aluMul (a b : Word) : Word × Bool := withOvf (a.toInt * b.toInt)
/-- High word of the signed product. -/
def aluMulh (a b : Word) : Word := wordI (a.toInt * b.toInt / 2 ^ 32)
/-- High word of the unsigned product. -/
def aluMulhu (a b : Word) : Word := word (a.toNat * b.toNat / 2 ^ 32)

/-- DIV with the corners of R101. -/
def aluDiv (a b : Word) : Word × Bool :=
  if b = 0 then (0, true)
  else withOvf (a.toInt.tdiv b.toInt)
/-- DIVU with the corner of R101. -/
def aluDivu (a b : Word) : Word := if b = 0 then 0xFFFFFFFF else word (a.toNat / b.toNat)
/-- REM with the corners of R101. -/
def aluRem (a b : Word) : Word × Bool :=
  if b = 0 then (a, true)
  else (wordI (a.toInt.tmod b.toInt), ovfOf (a.toInt.tdiv b.toInt))
/-- REMU with the corner of R101. -/
def aluRemu (a b : Word) : Word := if b = 0 then a else word (a.toNat % b.toNat)

/-- A result limited to the signed numbers of `n` bits, with SAT when it is limited. -/
def withSat (n : Nat) (v : Int) : Int × Bool := (satS n v, satS n v != v)

/-- MULQ and MULQ.R: the exact product, rounded where `rnd`, shifted and limited (R103). -/
def fixMulq (a b : Word) (sh : Nat) (rnd : Bool) : Word × Bool :=
  let p := a.toInt * b.toInt
  let p := if rnd ∧ 1 ≤ sh then p + 2 ^ (sh - 1) else p
  let (v, sat) := withSat 32 (ashr p sh)
  (wordI v, sat)

/-- The signed 72-bit accumulator in bits 71:0 of a wide register (R104). -/
def accOf (w : Bead) : Int := (w.setWidth 72).toInt

/-- MACQ: the accumulator limited to 72 bits and sign-extended (R104). -/
def fixMacq (w : Bead) (a b : Word) (sh : Nat) : Bead × Bool :=
  let (v, sat) := withSat 72 (accOf w + ashr (a.toInt * b.toInt) sh)
  (BitVec.ofInt 128 v, sat)

/-- CLAMP: max(lo, min(ga, hi)); SAT when the result differs from ga (R105). -/
def fixClamp (a lo hi : Word) : Word × Bool :=
  let v := wordI (clamp lo.toInt hi.toInt a.toInt)
  (v, v != a)

/-- CLAMP.N (R103). -/
def fixClampN (a : Word) (n : Nat) : Word × Bool :=
  let (v, sat) := withSat n a.toInt
  (wordI v, sat)

/-- CLAMP.A (R103, R104). -/
def fixClampA (w : Bead) (sh : Nat) : Word × Bool :=
  let (v, sat) := withSat 32 (ashr (accOf w) sh)
  (wordI v, sat)

/-- Raise OVF of Rod `r` where `o`: an instruction never clears it (R42). -/
def orOvf (s : State) (r : Nat) (o : Bool) : State := if o then s.setF F.FRM_RSTAT_OVF 1 r else s
/-- Raise SAT of Rod `r` where `o`: an instruction never clears it (R42). -/
def orSat (s : State) (r : Nat) (o : Bool) : State := if o then s.setF F.FRM_RSTAT_SAT 1 r else s

/-- The condition of a branch (R106), by its D code. -/
def brCond (code : Nat) (a b : Word) : Bool :=
  match code with
  | 0 => a == b
  | 1 => a != b
  | 2 => a.slt b
  | 3 => !a.slt b
  | 4 => a.ult b
  | 5 => !a.ult b
  | 6 => (a &&& b) != 0
  | _ => (a &&& b) == 0

end Sys2Proof.Machine
end

