-- ==== Sys2Proof/Machine/Dio.lean ====
section
/-! DEFINITION. Sys2Proof/Machine/Dio.lean: discrete inputs and outputs, SAFE_STOP_N and the other contacts
(spec/15_modes_and_reset.md R542, R543, R549, R551, R558 to R561; spec/18_physical.md R591). -/

namespace Sys2Proof.Machine

/-- PD0 runs. -/
def State.alive (s : State) : Bool := s.pd 0 == 2

/-! ### SAFE_STOP_N (R542, R543) -/

/-- Whether one channel counts as low while the other is high, and since when. -/
def stopTrack (s : State) : State :=
  let x := s.sys
  let d := (x.lowA && x.stopB) || (x.lowB && x.stopA)
  s.setSys { x with discFrom := if d then (if x.discFrom.isSome then x.discFrom else some s.elapsed) else none }

/-- SAFE_STOP_N asserts: every power output off through the hardwired path, FIRE_PERMIT opens, every hold ends. -/
def stopAssert (s : State) : State :=
  let s := (s.setF F.SYS_STAT_SS 1).setF F.SYS_STAT_SS_SEEN 1
  let s := if s.domOn 7 then mtrSafeStop (lswSafeStop (solAllOff s)) else s
  fireUpdate (healthEvent s 0 0 0xD1 1 (dioIn s))

/-- SAFE_STOP_ASSERT (R542, R543): channel A, or B, has been low for SS_FILT µs. -/
def execSafeStopAssert (b : Bool) (s : State) : Host.Outcome State Fault Refusal :=
  .next (
    let s := resetsAhead s
    let x := s.sys
    let high := if b then x.stopB else x.stopA
    let at_ := if b then x.stopBAt else x.stopAAt
    let low := if b then x.lowB else x.lowA
    if s.alive ∧ !high ∧ !low ∧ at_ + s.f F.SYS_SAFECFG_SS_FILT * 1000 ≤ s.elapsed then
      let s := stopTrack (s.setSys (if b then { x with lowB := true } else { x with lowA := true }))
      if s.fb F.SYS_STAT_SS then s else stopAssert s
    else s)

/-- SAFE_STOP_RELEASE (R542): both channels high for 50 ms, and no discrepancy latched. -/
def execSafeStopRelease (s : State) : Host.Outcome State Fault Refusal :=
  .next (
    let s := resetsAhead s
    let x := s.sys
    if s.alive ∧ s.fb F.SYS_STAT_SS ∧ !s.fb F.SYS_STAT_SS_DISC ∧ x.stopA ∧ x.stopB
        ∧ max x.stopAAt x.stopBAt + 50000000 ≤ s.elapsed then
      let s := s.setF F.SYS_STAT_SS 0
      fireUpdate (healthEvent s 0 0 0xD1 0 (dioIn s))
    else s)

/-- What SAFE_STOP_N does in this step, after its resets, comes now where it stands behind in the queue (R537). DEDUCED: log
entry 159. -/
def stopsAhead (s : State) : State :=
  let s := resetsAhead s
  s.pending.foldl (fun s c => match c with
    | .safeStopAssert b => s.orNext (execSafeStopAssert b s)
    | .safeStopRelease => s.orNext (execSafeStopRelease s)
    | _ => s) s

/-- SS_DISCREPANCY (R542): one channel low while the other is high for more than 500 ms. -/
def execSsDiscrepancy (s : State) : Host.Outcome State Fault Refusal :=
  .next (
    match s.sys.discFrom with
    | some t => if s.alive ∧ t + 500000000 < s.elapsed then s.setF F.SYS_STAT_SS_DISC 1 else s
    | none => s)

/-- A write of SYS_CLR.SSDISC is refused while a channel is low (R542). -/
def ssdiscRefuse (s : State) (v : Word) : Bool := maskBit v 0 && !(s.sys.stopA && s.sys.stopB)

/-- A write of SYS_CLR.SSDISC (R542). -/
def ssdiscWrite (s : State) (v : Word) : State := if maskBit v 0 then s.setF F.SYS_STAT_SS_DISC 0 else s

/-! ### Contacts (R549, R551, R558) -/

/-- A stop channel's contact takes a level: high, it no longer counts as low. -/
def stopContact (s : State) (b high : Bool) : State :=
  let x := s.sys
  let x :=
    if b then (if x.stopB = high then x else { x with stopB := high, stopBAt := s.elapsed, lowB := x.lowB && !high })
    else if x.stopA = high then x else { x with stopA := high, stopAAt := s.elapsed, lowA := x.lowA && !high }
  stopTrack (s.setSys x)

/-- RESET_N is released: after an external reset Boot starts (R551, R552). -/
def resetRelease (s : State) : State :=
  let was := s.sys.inReset
  let s := s.setSys { s.sys with resetLow := none, inReset := false }
  if was then bootStart s else s

/-- Since when a contact that just took a level is low. -/
def lowSince (s : State) (old : Option Nat) (high : Bool) : Option Nat :=
  if high then none else if old.isSome then old else some s.elapsed

/-- A contact takes a level. -/
def contactEdge (s : State) (p : Pin) (high : Bool) : State :=
  match p with
  | .input n =>
    let d := s.dioX n.val
    if d.contact = high then s else s.setDio n.val { d with contact := high, since := s.elapsed }
  | .stopA => stopContact s false high
  | .stopB => stopContact s true high
  | .commission => s.setSys { s.sys with commission := high }
  | .wakeN => s.setSys { s.sys with wakeLow := lowSince s s.sys.wakeLow high }
  | .resetN => if high then resetRelease s else s.setSys { s.sys with resetLow := lowSince s s.sys.resetLow high }

/-- The count of input `n` is set: it is published under MSRC 0x900 + n (R558). -/
def dioCount (s : State) (n : Nat) (v : Word) : State := published (s.wr R.DIO_CNT v n) (0x900 + n)

/-- The state of input `n` after INV has changed: the edge counts, and rings its doorbell (R558). -/
def dioEdge (s : State) (n : Nat) : State :=
  let e := if dioState s n then 1 else 2
  let s := if n < 4 ∧ s.f F.DIO_CFG_CEDGE n &&& e ≠ 0 then dioCount s n (s.rd R.DIO_CNT n + 1) else s
  if s.f F.DIO_CFG_DEDGE n &&& e ≠ 0 then ringBell s (s.f F.DIO_CFG_ROD n) (2 ^ s.f F.DIO_CFG_DB n) else s

/-- DISCRETE_INPUT_EDGE (R558): a contact takes a level, or a discrete input has held its new level for FILT × 10 µs. -/
def execDiscreteInputEdge (e : DioEdge) (s : State) : Host.Outcome State Fault Refusal :=
  .next (
    match e with
    | .contact p high => contactEdge s p high
    | .filtered n =>
      let d := s.dioX n.val
      if s.alive ∧ d.contact ≠ d.state ∧ d.since + s.f F.DIO_CFG_FILT n.val * 10000 ≤ s.elapsed then
        dioEdge (s.setDio n.val { d with state := d.contact }) n.val
      else s)

/-- A write of DIO_CNTCLR: the counts named become zero and are published (R558). -/
def cntclrWrite (s : State) (v : Word) : State := foldN 4 (fun s n => if maskBit v n then dioCount s n 0 else s) s

/-- A write of DIO_CFG is refused: CEDGE on an input that counts nothing (R561). -/
def dioCfgRefuse (n : Nat) (v : Word) : Bool := decide (4 ≤ n) && bits v 11 10 != 0

/-- A write of DIO_CFG has changed the register from `old`: a new INV changes the state after INV, which is an edge that
the written CEDGE and DEDGE select. DEDUCED: log entry 160. -/
def dioCfgWrite (s : State) (n : Nat) (old : Word) : State :=
  if bits old 8 8 = s.f F.DIO_CFG_INV n then s else dioEdge s n

/-! ### Outputs (R559, R560, R591) -/

/-- ATTN_N is asserted (R550, R559); below 9.0 V of VLOG it is open (R591). -/
def attnOn (s : State) : Bool :=
  s.alive && s.sys.vlogLow.isNone &&
    (s.fb F.DIO_OUT_ATTN || s.mode == modeBoot || s.mode == modeCommission || s.mode == modeHold
      || s.fb F.SYS_STAT_CRIT || s.fb F.SYS_STAT_SS || s.sys.resume)

/-- AUX24 is on: in every mode but Dormant, and from the step of a wake on (R577). -/
def aux24On (s : State) : Bool := s.alive && (s.mode != modeDormant || s.sys.resume)

/-- A DIO register as it reads, where its contents are made of others (R560). -/
def dioPeek (s : State) (id : Reg) (i : Nat) (raw : Word) : Word :=
  let live := s.alive && s.sys.vlogLow.isNone
  match id with
  | .DIO_IN => dioIn s
  | .DIO_OUT => word (bit (s.fb F.DIO_OUT_ATTN) + 256 * bit (attnOn s) + 512 * bit (live && s.fb F.SYS_STAT_FIRE)
      + 1024 * bit (live && s.domOn 7 && s.fb F.FAN_AFSTAT_AIRFLOW_OK))
  | .DIO_CNTAGE => word (65536 * age16 (s.msSince (s.ageFrom (0x900 + i))))
  | .DIO_CNTCLR => 0
  | _ => raw

/-- The gates of axis `n` as they are driven (R591). -/
def gatesOut (s : State) (n : Nat) : Nat := if s.sys.vlogLow.isSome then 0 else (s.mtrX n).gates
/-- Solenoid channel `n` conducts from its rail: the high side of its bank and its low side are on (R288, R302, R591). -/
def solOut (s : State) (n : Nat) : Bool := s.solHighOn (n / 4) && s.solLowOn (s.solLead n)
/-- Load switch `n` conducts from its supply: the disconnect of its group and the switch are on (R320, R591). -/
def lswOut (s : State) (n : Nat) : Bool := s.lswGroupOn (n / 8) && s.fb F.LSW_STAT_ON n

/-- VLOG_HOLD_OFF (R591): below 9.0 V every switch, gate and contact is held off in hardware, whatever the logic holds. -/
def execVlogHoldOff (s : State) : Host.Outcome State Fault Refusal :=
  .next (if s.sys.powered ∧ s.sys.vlogLow.isNone then s.setSys { s.sys with vlogLow := some s.elapsed } else s)

/-- VLOG_HOLD_OFF_END (R591): the logic governs the outputs again. -/
def execVlogHoldOffEnd (s : State) : Host.Outcome State Fault Refusal :=
  .next (s.setSys { s.sys with vlogLow := none })

end Sys2Proof.Machine
end

