-- ==== Sys2Proof/Machine/Hlt.lean ====
section
/-! DEFINITION. Sys2Proof/Machine/Hlt.lean: sensors, critical faults, scrubbing and the spares' self-test
(spec/14_store_and_spares.md R514, R519 to R521, R525 to R527, R530, R531). -/

namespace Sys2Proof.Machine

/-- Change the health monitor. -/
def State.setHlt (s : State) (x : HltX) : State := { s with hlt := x }

/-! ### Conditions (R526) -/

/-- HLT_STAT shows the conditions in force, and a critical fault that arises or clears acts (R531, R536). -/
def hltShow (s : State) : State :=
  let x := s.hlt
  let crit := x.tempCrit || x.flooded || s.fb F.HLT_STAT_SUPPLY
  let s := (s.setB F.HLT_STAT_WARN (x.tempWarn || x.wet)).setB F.HLT_STAT_HUMID (x.wet || x.flooded)
  if crit = s.fb F.HLT_STAT_CRIT then s else critChange (s.setB F.HLT_STAT_CRIT crit) crit

/-- A temperature condition arises or clears: event 0xFB with the hottest sensor and its reading. -/
def tempEvent (s : State) (on : Bool) (level : Nat) : State :=
  let s := if on then s.setF F.HLT_STAT_TEMP_SEEN 1 else s
  healthEvent s (s.f F.HLT_TMAX_SENSOR) 0 0xFB (if on then level else 0) (wordI (s.fi F.HLT_TMAX_T))

/-- A humidity condition arises or clears: event 0xFA. -/
def humidEvent (s : State) (on : Bool) (level : Nat) : State :=
  let s := if on then s.setF F.HLT_STAT_HUMID_SEEN 1 else s
  healthEvent s 0 0 0xFA (if on then level else 0) (s.rd R.HLT_HUMID)

/-- The hottest of the readings, and its sensor, the lowest of equals. -/
def hottest (l : List (BitVec 16)) : Int × Nat :=
  match l.zipIdx with
  | [] => (0, 0)
  | q :: t => t.foldl (fun m p => if m.1 < p.1.toInt then (p.1.toInt, p.2) else m) (q.1.toInt, q.2)

/-- The temperature conditions are judged. DEDUCED: log entry 99. -/
def tempJudge (s : State) : State :=
  let t := s.fi F.HLT_TMAX_T
  let w := if 1250 ≤ t then true else if t < 1200 then false else s.hlt.tempWarn
  let c := if 1350 ≤ t then true else if t < 1250 then false else s.hlt.tempCrit
  let s := if w = s.hlt.tempWarn then s else tempEvent (s.setHlt { s.hlt with tempWarn := w }) w 1
  if c = s.hlt.tempCrit then s else tempEvent (s.setHlt { s.hlt with tempCrit := c }) c 2

/-- The humidity conditions are judged: 10 s is 100 intervals between reads in a row. DEDUCED: log entry 98. -/
def humidJudge (s : State) : State :=
  let h := s.nat R.HLT_HUMID
  let warn := s.f F.HLT_HUMLIM_HUM_WARN
  let x := s.hlt
  let nw := if warn ≤ h then x.humWarn + 1 else 0
  let no := if h + 50 < warn then x.humOk + 1 else 0
  let nc := if s.f F.HLT_HUMLIM_HUM_CRIT ≤ h then x.humCrit + 1 else 0
  let s := s.setHlt { x with humWarn := min nw 101, humOk := min no 101, humCrit := min nc 101 }
  let w := if 100 < nw then true else if 100 < no then false else x.wet
  let c := x.flooded || decide (100 < nc)
  let s := if w = x.wet then s else humidEvent (s.setHlt { s.hlt with wet := w }) w 1
  if c = x.flooded then s else humidEvent (s.setHlt { s.hlt with flooded := c }) c 2

/-- SENSOR_READ (R526): at every TB_NOW that is a multiple of 100 ms. -/
def execSensorRead (v : Sensors) (s : State) : Host.Outcome State Fault Refusal :=
  .next (
    let s := stopsAhead s
    if s.sys.powered ∧ s.tbHits (fun t => t % 100000000 == 0) ∧ s.hlt.readTb ≠ some s.tbNow then
      let s := s.setHlt { s.hlt with readTb := some s.tbNow }
      let s := foldN 12 (fun s i => s.wr R.HLT_TEMP ((v.temp.getD i 0).signExtend 32) i) s
      let m := hottest (v.temp.take 12)
      let s := (s.setFi F.HLT_TMAX_T m.1).setF F.HLT_TMAX_SENSOR m.2
      let s := (s.wr R.HLT_HUMID (v.humid.setWidth 32)).wr R.HLT_VLOG (v.vlog.setWidth 32)
      hltShow (humidJudge (tempJudge (s.wr R.HLT_VCORE (v.vcore.setWidth 32))))
    else s)

/-- CORE_SUPPLY_CRITICAL (R526): outside ±5 % of nominal for 1 ms. -/
def execCoreSupplyCritical (mv : BitVec 16) (s : State) : Host.Outcome State Fault Refusal :=
  .next (
    let s := stopsAhead s
    if s.sys.powered ∧ !s.fb F.HLT_STAT_SUPPLY ∧ (mv.toNat < 855 ∨ 945 < mv.toNat) then
      let s := (s.setF F.HLT_STAT_SUPPLY 1).setF F.HLT_STAT_SUPPLY_SEEN 1
      hltShow (healthEvent s 0 0 0xFB 2 (mv.setWidth 32))
    else s)

/-- CORE_SUPPLY_CLEARED (R526): within ±3 % for 100 ms. -/
def execCoreSupplyCleared (mv : BitVec 16) (s : State) : Host.Outcome State Fault Refusal :=
  .next (
    if s.sys.powered ∧ s.fb F.HLT_STAT_SUPPLY ∧ 873 ≤ mv.toNat ∧ mv.toNat ≤ 927 then
      hltShow (healthEvent (s.setF F.HLT_STAT_SUPPLY 0) 0 0 0xFB 0 (mv.setWidth 32))
    else s)

/-! ### Scrubbing (R519 to R521) -/

/-- What the beads hold after upsets: two bits make a double error, one bit a single error unless more is wrong. -/
def upset (t : Tab BeadErr) (u : Upset) : Tab BeadErr :=
  match tabFind t u.bead.val with
  | none => tabPut t u.bead.val (if u.double then .double else .single)
  | some .single => tabPut t u.bead.val (if u.double then .double else .single)
  | some _ => t

/-- The scrubber reads one bead that is in error, unless a write cleared it first: the counts of single errors by section
and the sections with a double error grow. DEDUCED: log entry 101. -/
def scrubBead (p : (Tab Nat × List Nat) × State) (q : Nat × BeadErr) : (Tab Nat × List Nat) × State :=
  let (k, e) := q
  let ((one, two), s) := p
  let report := fun (s : State) =>
    if s.hlt.found.contains k then s else poisonEvent (s.setHlt { s.hlt with found := k :: s.hlt.found }) k 1
  if tabFind s.beadErr k != some e then p else
  match e with
  | .single =>
    let one := if k < 524288 then tabPut one (k / 4096) (tabGet 0 one (k / 4096) + 1) else one
    ((one, two), { s with beadErr := tabDrop s.beadErr k }.addR R.HLT_CORR 1)
  | .double =>
    let two := if k < 524288 then (k / 4096) :: two else two
    ((one, two), report (poisonBead s k))
  | .poisoned => ((one, two), report s)

/-- SCRUB_PASS (R519, R520): a pass of SCRUB_S seconds ends. It met the upsets, and corrected `others` single-bit errors
in scratch memories of spare Rods. DESIGN CHOICE: log entry 100. -/
def execScrubPass (ups : List Upset) (others : BitVec 16) (s : State) : Host.Outcome State Fault Refusal :=
  .next (
    if s.domOn 2 ∧ s.hlt.scrubAt + s.f F.HLT_SCRUB_SCRUB_S * 1000000000 ≤ s.elapsed then
      let before := (ups.filter (fun u => !u.late)).foldl upset s.beadErr
      let s := { s with beadErr := before }
      let was := s.rd R.HLT_CORR
      let ((one, two), s) := before.foldl scrubBead ((([] : Tab Nat), ([] : List Nat)), s)
      let s := s.addR R.HLT_CORR others.toNat
      let s := (s.setF F.HLT_SCRUBST_PASSES (s.f F.HLT_SCRUBST_PASSES + 1)).setF F.HLT_SCRUBST_CORR
        (min 65535 (s.rd R.HLT_CORR - was).toNat)
      let s := foldN 128 (fun s sec =>
        let k := tabGet 0 one sec
        if s.f F.HLT_SCRUB_SECT_TH ≤ k ∨ two.contains sec then sectionFail s sec k else s) s
      { s with beadErr := (ups.filter (fun u => u.late)).foldl upset s.beadErr, hlt := { s.hlt with scrubAt := s.elapsed } }
    else s)

/-- SECTION_REMAP_DONE (R521): the copy has ended, and every access goes to the spare. -/
def execSectionRemapDone (sec : Fin 128) (s : State) : Host.Outcome State Fault Refusal :=
  .next (
    match tabFind s.sto.secCopy sec.val with
    | some (spare, singles) =>
      let u := s.sto.umap
      let s := (s.setSto { s.sto with secCopy := tabDrop s.sto.secCopy sec.val }).setMap
        { u with sections := (sec.val, spare) :: u.sections }
      poolsUpdate (healthEvent s sec.val 5 0xF7 spare (word singles))
    | none => s)

/-! ### Self-test of the spares (R520) -/

/-- SPARE_SELF_TEST (R520): each second; the spare Rods and the spare matrix unit that fail are retired. -/
def execSpareSelfTest (rods : List (Fin 18)) (matrix : Bool) (s : State) : Host.Outcome State Fault Refusal :=
  .next (
    if s.sys.powered ∧ (s.hlt.testAt.all (fun t => decide (t + 1000000000 ≤ s.elapsed))) then
      let s := s.setHlt { s.hlt with testAt := some s.elapsed }
      let s := if s.domOn 2 then
          rods.foldl (fun s p =>
            if (spareRods s).contains p.val then
              let s := retireRod s p.val
              healthEvent s p.val 1 0xFE 1 (word (spareRods s).length)
            else s) s
        else s
      let s := if s.domOn 3 && matrix && (matrixHealthy s).length == 5 then
          healthEvent (s.setMap { s.sto.umap with matrix := s.sto.umap.matrix ++ (matrixHealthy s).drop 4 })
            ((matrixHealthy s).getD 4 4) 2 0xFE 2 0
        else s
      poolsUpdate s
    else s)

/-! ### Register writes (R514, R530) -/

/-- A write of HLT_HUMLIM is refused: HUM_WARN at or above HUM_CRIT. -/
def humlimRefuse (v : Word) : Bool := decide (bits v 25 16 ≤ bits v 9 0)

/-- A write of HLT_MAPCLR (R514): the unit map is empty from the next power-on reset. -/
def mapclrWrite (s : State) (v : Word) : State :=
  if maskBit v 0 then s.setSto { s.sto with mapClr := true } else s

end Sys2Proof.Machine
end

