-- ==== Sys2Proof/Machine/Sys.lean ====
section
/-! DEFINITION. Sys2Proof/Machine/Sys.lean: commands of system control, and what happens to modes and domains
(spec/15_modes_and_reset.md R533 to R557, R562, R563; spec/11_bus_controller.md R419; spec/14_store_and_spares.md
R509). -/

namespace Sys2Proof.Machine

/-! ### The exit from Commission (R547) -/

/-- The next commit of the exit starts, if none runs and none has failed. -/
def exitNext (s : State) : State :=
  let x := s.sys
  if !x.exiting || s.sto.commit.isSome || x.exitFailed then s
  else if s.sto.keyDirty then commitStartKey (s.setSys { x with exitRun := true })
  else if x.exitMain then commitStart (loadAbort (s.setSys { x with exitRun := true, exitMain := false })) none
  else s

/-- A commit has ended: one of the exit that fails ends the exit, else the next follows. -/
def exitAfter (s : State) (ok : Bool) : State :=
  if s.sys.exitRun then exitNext (s.setSys { s.sys with exitRun := false, exitFailed := s.sys.exitFailed || !ok })
  else exitNext s

/-- The exit begins (R547). DEDUCED: log entry 103. -/
def exitStart (s : State) : State :=
  let s := modePend s modeReady
  exitNext (s.setSys { s.sys with exiting := true, exitFailed := false,
                                  exitMain := s.sys.written || (newestBank s.sto).isNone })

/-- Key writes take effect, and every Column that holds a written slot is retired with RCAUSE command (R494). -/
def keysTakeEffect (s : State) : State :=
  let written := s.sto.keySlots
  let s := keysInForce (s.setSto { s.sto with keySlots := [] })
  foldN 256 (fun s n =>
    if s.f F.COL_STATE_MEDIUM n ≥ 8 ∧ written.contains (s.f F.COL_STATE_KEYSEL n) ∧ s.colSt n ≠ coFree ∧ s.colSt n ≠ coRetired
    then colRetire s n 1 else s) s

/-- COMMISSION_EXIT (R547): the commits have ended; Ready, or Commission goes on. A refused image that it finds posts no
event. DESIGN CHOICE: log entry 176. -/
def execCommissionExit (s : State) : Host.Outcome State Fault Refusal :=
  .next (
    let x := s.sys
    if !x.exiting ∨ s.sto.commit.isSome then s
    else if x.exitFailed then
      sysRefused (modeUnpend (s.setSys { x with exiting := false, exitMain := false, exitFailed := false }))
    else if s.sto.keyDirty ∨ x.exitMain then s
    else
      let s := fanAutoCheck (keysTakeEffect (s.setSys { x with exiting := false }))
      let s := bindRods (bootImage s).2
      enterReady (startPrograms s))

/-! ### Dormant (R548 to R550) -/

/-- A key slot may wake the controller through L0 (R485). -/
def slotWakes (s : State) (k : Nat) : Bool :=
  let p := tabGet 0 s.net.force (R.KPERM.addr k)
  maskBit p 8 && maskBit p 4 && maskBit p 17

/-- Every condition of R548 holds. -/
def dormantOk (s : State) : Bool :=
  s.mode == modeReady && !s.fb F.SYS_MODE_PEND
    && (List.range 24).all (fun n => !s.fb F.SOL_STAT_ON n) && (List.range 32).all (fun n => !s.fb F.LSW_STAT_ON n)
    && (List.range 8).all (fun n => s.axis n == axOff || decide (axBlocked ≤ s.axis n))
    && s.rd R.SYS_HELD == 0 && s.rd R.SYS_HELDM == 0
    && !s.fb F.STO_STAT_BUSY && !s.fb F.STO_STAT_LOADOPEN
    && ((List.range 8).any (fun k => slotWakes s k) || s.fb F.CAN_WAKE_WEN || s.fb F.SYS_WAKE_PIN_EN || s.fb F.SYS_WAKE_TIMER_EN)

/-- The command is accepted: every logical Rod is stopped as FRM_RCTL.STOP does, and the change pends.
DEDUCED: log entry 104. -/
def dormantStart (s : State) : State :=
  let (l, s) := rodsStop s
  modePend (s.setSys { s.sys with stopped := l }) modeDormant

/-- DORMANT_ENTERED (R548): the Rods have stopped, and the domains go off in their order. -/
def execDormantEntered (s : State) : Host.Outcome State Fault Refusal :=
  .next (
    if s.mode = modeReady ∧ s.fb F.SYS_MODE_PEND ∧ s.f F.SYS_MODE_TARGET = modeDormant
        ∧ rodsStopped s s.sys.stopped = true then
      let s := [7, 5, 4, 3, 6, 2, 1].foldl pdOff s
      modeTo (s.setSys { s.sys with stopped := [], wdtArmed := false }) modeDormant 0
    else s)

/-- WAKE_PIN (R549): WAKE_N low for 1 ms with PIN_EN = 1. -/
def execWakePin (s : State) : Host.Outcome State Fault Refusal :=
  .next (
    match s.sys.wakeLow with
    | some t => if s.fb F.SYS_WAKE_PIN_EN ∧ t + 1000000 ≤ s.elapsed then wake s 3 else s
    | none => s)

/-- WAKE_TIMER (R549): TB_NOW has reached SYS_WAKEAT with TIMER_EN = 1. -/
def execWakeTimer (s : State) : Host.Outcome State Fault Refusal :=
  .next (
    if s.fb F.SYS_WAKE_TIMER_EN ∧ s.rd64 R.SYS_WAKEAT_LO R.SYS_WAKEAT_HI ≤ s.tbNow then wake s 4 else s)

/-- CAN_WAKE_PATTERN (R419): the wake detector of channel 0 recognises the pattern in Dormant. -/
def execCanWakePattern (s : State) : Host.Outcome State Fault Refusal :=
  .next (
    if s.mode = modeDormant ∧ s.fb F.CAN_WAKE_WEN then wake (s.setF F.CAN_WAKE_WOK 1) 2 else s)

/-- RESUME_COMPLETE (R550): every domain is on; the image is copied, the rings enabled, the programs started. A logical
Rod SHED before stays so (R523). -/
def execResumeComplete (s : State) : Host.Outcome State Fault Refusal :=
  .next (
    if s.sys.resume ∧ [1, 2, 3, 4, 5, 6, 7].all (fun n => s.domOn n) then
      let (refused, s) := bootImage s
      let s := foldN 16 (fun s r => if maskBit (s.rd R.HLT_SHED) r then s.setRodSt r rodShed else s) s
      let s := bootBankEvent (startPrograms s) refused true
      enterReady (s.setSys { s.sys with resume := false })
    else s)

/-! ### SYS_PDCTL (R39, R544) -/

/-- A write of SYS_PDCTL is refused. -/
def pdctlRefuse (s : State) (v : Word) : Bool :=
  [1, 3, 4, 5, 6].any (fun n =>
    maskBit v n != maskBit (s.rd R.SYS_PDCTL) n &&
      (pdRule s.mode n != 2 ||
        (!maskBit v n && s.fb F.SYS_MODE_PEND && pdRule (s.f F.SYS_MODE_TARGET) n == 1)))

/-- A write of SYS_PDCTL switches domains. -/
def pdctlWrite (s : State) (v : Word) : State :=
  [1, 3, 4, 5, 6].foldl (fun s n =>
    let was := maskBit (s.rd R.SYS_PDCTL) n
    if maskBit v n && !was then pdRamp s n else if !maskBit v n && was then pdOff s n else s) s

/-- The next domains of the boot or resume sequence are switched on; with PD7 on through a reset, the last of the others
brings step 8 (R545, R550). -/
def pdAdvance (s : State) (n : Nat) : State :=
  let off := fun (l : List Nat) => l.any (fun n => s.pd n == 0)
  let on := fun (l : List Nat) => l.all (fun n => s.domOn n)
  if on [2] && off [1, 3, 6] then [1, 3, 6].foldl pdRamp s
  else if on [1, 2, 3, 6] && off [4, 5] then [4, 5].foldl pdRamp s
  else if on [1, 2, 3, 4, 5, 6] && off [7] then pdRamp s 7
  else if on [1, 2, 3, 4, 5, 6, 7] && n != 7 then fanTableLoad s
  else s

/-- DOMAIN_ON (R534, R544, R545, R550): a ramping domain reaches ON, and what waited for it goes on. -/
def execDomainOn (n : Fin 8) (t : OutputTest) (s : State) : Host.Outcome State Fault Refusal :=
  .next (
    if s.pd n.val ≠ 1 then s
    else
      let s := pdOn s n.val t
      if s.sys.boot ∨ s.sys.resume then pdAdvance s n.val
      else if s.fb F.SYS_MODE_PEND ∧ !s.sys.exiting ∧ s.f F.SYS_MODE_TARGET ≠ modeDormant
          ∧ (pdNeeds (s.f F.SYS_MODE_TARGET)).all (fun k => s.domOn k) then
        modeTo s (s.f F.SYS_MODE_TARGET) 0
      else s)

/-! ### Boot, power and resets (R509, R545, R551, R552) -/

/-- BOOT_COMPLETE (R545): step 8 ends in Commission, or step 10 in Ready. -/
def execBootComplete (s : State) : Host.Outcome State Fault Refusal :=
  .next (
    if s.sys.boot ∧ [1, 2, 3, 4, 5, 6, 7].all (fun n => s.domOn n) then
      let s := s.setSys { s.sys with boot := false }
      if s.sys.toCommission then
        let s := bindRods (modeTo s modeCommission 0)
        bootBankEvent (s.setSys { s.sys with written := false }) false false
      else
        let (refused, s) := bootImage s
        enterReady (startPrograms (bootBankEvent (bindRods s) refused false))
    else s)

/-- POWER_ON (R545): VLOG has risen; the power-on reset, and boot from its first step. -/
def execPowerOn (s : State) : Host.Outcome State Fault Refusal :=
  .next (if s.sys.powered then s else bootStart (powerOnState s))

/-- VLOG_LOST (R509, R552, R591): 100 µs below 9.0 V, with VLOG in mV. DEDUCED: log entry 107. -/
def execVlogLost (mv : BitVec 16) (s : State) : Host.Outcome State Fault Refusal :=
  .next (
    match s.sys.vlogLow with
    | some t =>
      if s.sys.powered ∧ t + 100000 ≤ s.elapsed then
        let s := (commitAbandon s 3).2
        let s := logWriteOne { logFlush s with logQueue := [⟨2, s.tbNow, [mv.setWidth 32, s.rd R.STO_LAST]⟩] }
        let s := fireUpdate (setMode s modeBoot 0)
        let s := if s.domOn 7 then mtrRht (lswRht (solAllOff s) true) true true else s
        let s := [1, 2, 3, 4, 5, 6, 7].foldl pdOff s
        let x := { s.sys with powered := false, boot := false, resume := false, wdtArmed := false, inReset := false,
                              stopped := [], exiting := false, vlogLow := none }
        { s.setPd 0 0 with logQueue := [], sys := x }
      else s
    | none => s)

/-- RESET_N_RELEASE (R552): Boot starts at its step 3. -/
def execResetNRelease (s : State) : Host.Outcome State Fault Refusal := .next (resetRelease s)

/-! ### Host loss, the watchdog and holds (R535, R554, R557) -/

/-- A write of SYS_WDTKICK (R554): it restarts the watchdog, or resets where it comes early. -/
def wdtKick (s : State) (v : Word) : State :=
  if !maskBit v 0 || !s.sys.wdtArmed then s
  else if s.elapsed < s.sys.wdtAt + s.f F.SYS_WDT_WDT_MIN * 1000000 then sysReset s 3 0 true
  else s.setSys { s.sys with wdtAt := s.elapsed }

/-- A write of SYS_WDT is refused: WDT_MIN at or above WDT_MAX (R562). -/
def wdtRefuse (v : Word) : Bool := decide (bits v 15 0 ≤ bits v 31 16)

/-- A write of SYS_HREL or SYS_HRELM is refused but in Ready, Batch, Flow and Store (R539, R557). -/
def hrelRefuse (s : State) (v : Word) : Bool := v != 0 && !s.operating

/-- A write of SYS_HREL (R557). -/
def hrelWrite (s : State) (v : Word) : State := foldN 32 (fun s n => if maskBit v n then lswRelease s n else s) s

/-- A write of SYS_HRELM (R557). -/
def hrelmWrite (s : State) (v : Word) : State := foldN 8 (fun s n => if maskBit v n then mtrHoldEnd s n 1 else s) s

/-- HOLD_MAX_EXPIRY (R557). -/
def execHoldMaxExpiry (n : Fin 32) (s : State) : Host.Outcome State Fault Refusal :=
  .next (
    if s.domOn 7 ∧ s.lswHeld n.val
        ∧ (s.lswX n.val).holdAt + s.f F.SYS_RHT_TIME_HOLD_MAX * 1000000000 ≤ s.elapsed then lswHoldExpire s n.val
    else s)

/-- RUNON_MAX_EXPIRY (R557). -/
def execRunonMaxExpiry (n : Fin 8) (s : State) : Host.Outcome State Fault Refusal :=
  .next (
    let k := s.f F.SYS_RHT_TIME_RUNON_MAX
    if s.domOn 7 ∧ s.mtrHeld n.val ∧ k ≠ 0 ∧ (s.mtrX n.val).holdAt + k * 1000000000 ≤ s.elapsed then mtrHoldExpire s n.val
    else s)

/-- A write of SYS_RHT_MTR is refused: 0b11 for an axis (R562). -/
def rhtMtrRefuse (s : State) (v : Word) : Bool :=
  (List.range 8).any (fun n => s.hasAxis n && bits v (2 * n + 1) (2 * n) == 3
    && bits (s.rd R.SYS_RHT_MTR) (2 * n + 1) (2 * n) != 3)

/-! ### The order of one step (R537) -/

/-- The critical faults of this step, after its resets and what SAFE_STOP_N does, arise now where they stand behind in the
queue (R537). DEDUCED: log entry 159. -/
def critsAhead (s : State) : State :=
  let s := stopsAhead s
  s.pending.foldl (fun s c => match c with
    | .coreSupplyCritical mv => s.orNext (execCoreSupplyCritical mv s)
    | .sensorRead v => s.orNext (execSensorRead v s)
    | _ => s) s

/-- A Tarbylink frame that restarts the host timer comes later in this step. -/
def hostComes (s : State) : Bool := s.pending.any (fun c => (tlOf c).any (fun q => tlPasses s q.1 q.2))

/-- The host is lost in this step (R535): a frame of the same step comes before it. -/
def hostLossNow (s : State) : Bool :=
  s.operating && maskBit (s.rd R.SYS_SAFECFG) (26 + s.mode) && hostLate s && !hostComes s

/-- HOST_LOSS (R535, R537). -/
def execHostLoss (s : State) : Host.Outcome State Fault Refusal :=
  let s := critsAhead s
  .next (if hostLossNow s then enterHold s 1 else s)

/-- What R537 puts before a SYS_CMD of this step has its effect, a host loss that stands behind it too. -/
def cmdAhead (s : State) : State := if s.pending.contains .hostLoss then s.orNext (execHostLoss s) else critsAhead s

/-! ### SYS_CMD (R533, R534, R551) -/

/-- A write of SYS_CMD by the host or a Rod. -/
def sysCmd (s : State) (who : Writer) (op : Nat) : State :=
  let host := who == .host
  let s := cmdAhead s
  let m := s.mode
  if op = 0 then s
  else if 8 ≤ op then sysRefused s
  else if op = 7 then (if host then sysReset s 4 0 false else sysRefused s)
  else if s.fb F.SYS_MODE_PEND ∧ op ≤ 5 then sysRefused s
  else
    let target := if op = 6 then modeHold else if op = 5 then modeDormant else op + 1
    let crit := s.fb F.SYS_STAT_CRIT
    if target = m then s
    else if op = 6 then (if s.operating then enterHold s 4 else sysRefused s)
    else if op = 5 then (if dormantOk s then dormantStart s else sysRefused s)
    else if op = 1 then
      if m = modeCommission then
        if host ∧ !crit ∧ !s.sys.commission then exitStart s else sysRefused s
      else if m = modeBatch ∨ m = modeFlow ∨ m = modeStore then modeChange s modeReady
      else if m = modeHold ∧ host ∧ !crit then modeChange s modeReady
      else sysRefused s
    else if m = modeReady ∧ !crit then modeChange s target
    else sysRefused s

/-- A SYS register as it reads, where its contents are made of others (R8, R562, R563). -/
def sysPeek (s : State) (id : Reg) (raw : Word) : Word :=
  match id with
  | .SYS_CONFIG => match s.variant with
    | .F => 0x0131
    | .G => 0x0122
    | .T => 0x0113
  | .SYS_STAT => sysStat s
  | .SYS_CMD | .SYS_WDTKICK | .SYS_HREL | .SYS_HRELM | .SYS_CLR => 0
  | _ => raw

end Sys2Proof.Machine
end

