-- ==== Sys2Proof/Machine/RegAccess.lean ====
section
/-! DEFINITION. Sys2Proof/Machine/RegAccess.lean: reads and writes of registers by the host and by Rods: which register
an address names, what a write may change, what its refusal shows and what it does
(spec/00_scope.md R3, R5, R9 to R14; spec/01_architecture.md R18; spec/17_register_map.md R569 to R572). -/

namespace Sys2Proof.Machine

/-! ### Addresses (R569) -/

/-- The registers that may lie at `a`, by region. -/
def regsAt (a : Nat) : List RegDesc :=
  if a < 0x10010000 then regsSYS
  else if a < 0x10020000 then regsHLT
  else if a < 0x10030000 then regsSTO
  else if a < 0x10040000 then regsTIM
  else if a < 0x11000000 then regsDIO
  else if a < 0x11010000 then regsFRM
  else if a < 0x20000000 then regsCRG
  else if a < 0x21000000 then regsLPE
  else if a < 0x30000000 then regsTRC
  else if a < 0x31000000 then regsPFE
  else if a < 0x32000000 then regsDFE
  else if a < 0x40000000 then regsCRV
  else if a < 0x41000000 then regsSOL
  else if a < 0x42000000 then regsLSW
  else if a < 0x43000000 then regsMTR
  else if a < 0x50000000 then regsFAN
  else if a < 0x50100000 then regsCAN
  else if a < 0x51000000 then regsTTS
  else if a < 0x60000000 then regsCOL
  else if a < 0x61000000 then regsNET
  else regsLRL

/-- The instance of register `d` at address `a`. -/
def RegDesc.instanceAt (d : RegDesc) (a : Nat) : Option (Nat × Nat) :=
  if a < d.base then none
  else
    let r := a - d.base
    let i := if d.s1 = 0 then 0 else r / d.s1
    let r := if d.s1 = 0 then r else r % d.s1
    let j := if d.s2 = 0 then 0 else r / d.s2
    let r := if d.s2 = 0 then r else r % d.s2
    if i < d.n1 ∧ j < d.n2 ∧ r = 0 then some (i, j) else none

/-- The register at an address, with its instance numbers. -/
def regFind (a : Nat) : Option (RegDesc × Nat × Nat) :=
  (regsAt a).findSome? (fun d => (d.instanceAt a).map (fun p => (d, p.1, p.2)))

/-- A user curve slot's word at an address: the curve and the word (R210). -/
def curveAt (a : Nat) : Option (Nat × Nat) :=
  if 0x32010000 ≤ a ∧ a < 0x32050000 ∧ a % 4 = 0 then some ((a - 0x32010000) / 0x400, (a - 0x32010000) % 0x400 / 4) else none

/-- The power domain of a register address (R569). -/
def domainOf (a : Nat) : Nat :=
  if a < 0x11000000 then 0
  else if a < 0x20000000 then 2
  else if a < 0x30000000 then 3
  else if a < 0x31000000 then 4
  else if a < 0x32000000 then 5
  else if a < 0x40000000 then 2
  else if a < 0x50000000 then 7
  else if a = 0x50000070 then 0
  else if a < 0x51000000 then 6
  else if a < 0x60000000 then 2
  else if 0x61000000 ≤ a ∧ a < 0x61000100 then 0
  else 1

/-- The register belongs to an absent unit (R2, R3, R5): the dielectric front end on the T, axes 0 to 3 on the G with
what the FAN unit holds for them. -/
def regAbsent (s : State) (d : RegDesc) (a i : Nat) : Bool :=
  (!s.hasDfe && decide (0x31000000 ≤ a) && decide (a < 0x32000000)) ||
    (s.variant == .G && decide (i < 4) && decide (0x42000000 ≤ a) && decide (a < 0x42008000)) ||
    (s.variant == .G && decide (i < 4) && [Reg.FAN_AXCFG, Reg.FAN_AXSMAX, Reg.FAN_AXDEM, Reg.FANA_AXCFG, Reg.FANA_AXSMAX,
      Reg.FANA_AXDEM].contains d.id)

/-- A register instance that its unit leaves out: it reads zero and ignores writes (R302, R383, R407, R420). -/
def regHidden (s : State) (d : RegDesc) (i j : Nat) : Bool :=
  solHidden s d i || canHidden d i j || (d.id == .MTR_SDFS && decide (i < 4))

/-- The register shows nothing: its domain is off, its unit absent, or its unit leaves the instance out (R3, R18). -/
def regDead (s : State) (d : RegDesc) (a i j : Nat) : Bool :=
  !s.domOn (domainOf a) || regAbsent s d a i || regHidden s d i j

/-- The bits of a register that exist in this configuration and for this instance (R5, R420, R423). -/
def regBits (s : State) (d : RegDesc) (i : Nat) (v : Word) : Word :=
  match d.id with
  | .SYS_RHT_MTR => if s.variant == .G then putBits v 7 0 0 else v
  | .SYS_HRELM => if s.variant == .G then putBits v 3 0 0 else v
  | .FAN_ZCTL | .FANA_ZCTL => if s.variant == .G then putBits v 11 8 0 else v
  | .FAN_AF => if s.variant == .G then putBits v 3 0 0 else v
  | .CAN_RXBCFG => rxbcfgMask i v
  | _ => v

/-! ### Reading -/

/-- A measured register of which no command of the block tells: a free value, in the register's bits (log entry 5). -/
def measured (s : State) (hi : Nat) (raw : Word) : Word × State :=
  let (w, s) := freeReading s
  (putBits raw hi 0 w.toNat, s)

/-- A measured register of domain `n`: its reset value in the step in which the domain came on or the unit was reset, and
measured from then on. DEDUCED: log entry 145. -/
def measuredOn (s : State) (n hi : Nat) (raw : Word) : Word × State :=
  if tabFind s.sys.pdSince n = some s.elapsed then (raw, s) else measured s hi raw

/-- MTR_TEMP of bridge `n` as it reads: measured, below 150 °C where HOT is clear and 130 °C or more where it is set, since
R368 compares the same sensor. DEDUCED: log entry 145. -/
def bridgeTemp (s : State) (n : Nat) : Word × State :=
  let (v, s) := measuredOn s 7 31 (s.rd R.MTR_TEMP n)
  (wordI (if s.fb F.MTR_STAT_HOT n then max 1300 v.toInt else min 1499 v.toInt), s)

/-- FRM_PACE as Rod `r` or the host reads it (R33, R71, R87). -/
def paceRead (s : State) (r : Nat) : Word × State :=
  let s := paceMeasure s r
  (s.rd R.FRM_PACE r, s)

/-- A FRM register as it reads (R89): RESTARTS counts the last 60 s. -/
def frmPeek (s : State) (id : Reg) (r : Nat) (raw : Word) : Word :=
  match id with
  | .FRM_RSTAT => putBits raw 19 16 (min 15 (restartsNow s r))
  | _ => raw

/-- A front-end or curve register as it reads, where its contents are made of others (R169, R204, R210). -/
def sensePeek (s : State) (id : Reg) (i : Nat) (raw : Word) : Word :=
  match id with
  | .PFE_CH_FLAG => putBits raw 31 16 (age16 (s.msSince (s.ageFrom i)))
  | .PFE_EN_LO => word (maskOf 32 (fun n => s.fb F.PFE_CH_CTL_EN n))
  | .PFE_EN_HI => word (maskOf 16 (fun n => s.fb F.PFE_CH_CTL_EN (32 + n)))
  | .PFE_FAULT_LO => word (maskOf 32 (fun n => s.fb F.PFE_CH_STAT_FAULT n))
  | .PFE_FAULT_HI => word (maskOf 16 (fun n => s.fb F.PFE_CH_STAT_FAULT (32 + n)))
  | .DFE_CH_MFLAG => putBits raw 31 16 (age16 (s.msSince (s.ageFrom (0x100 + i))))
  | .DFE_CH_DFLAG => putBits raw 31 16 (age16 (s.msSince (s.ageFrom (0x110 + i))))
  | .DFE_GSTAT =>
    let w := putBits (putBits raw 7 0 (maskOf 8 (fun n => s.fb F.DFE_CH_CTL_EN n))) 15 8 (maskOf 8 (fun n => s.fb F.DFE_CH_STAT_FAULT n))
    putBits w 23 16 (maskOf 8 (fun n => s.fb F.DFE_CH_STAT_UNSETTLED n))
  | .CRV_USE_LO => word (maskOf 32 (fun k => curveInUse s (192 + k)))
  | .CRV_USE_HI => word (maskOf 32 (fun k => curveInUse s (224 + k)))
  | _ => raw

/-- A register as it reads, without what reading it does. -/
def regPeek (s : State) (d : RegDesc) (i j : Nat) : Word :=
  let a := d.base
  let raw := s.rd d i j
  if a < 0x10010000 then sysPeek s d.id raw
  else if a < 0x10020000 then raw
  else if a < 0x10030000 then stoPeek s d.id i raw
  else if a < 0x10040000 then raw
  else if a < 0x11000000 then dioPeek s d.id i raw
  else if a < 0x11010000 then frmPeek s d.id i raw
  else if a < 0x20000000 then raw
  else if a < 0x21000000 then lpePeek s d.id i j raw
  else if a < 0x30000000 then raw
  else if a < 0x40000000 then sensePeek s d.id i raw
  else if a < 0x41000000 then solPeek s d.id i raw
  else if a < 0x42000000 then lswPeek s d.id i raw
  else if a < 0x43000000 then mtrPeek s d.id i raw
  else if a < 0x50000000 then fanPeek s d.id raw
  else if a < 0x50100000 then canPeek s d i j
  else if a < 0x51000000 then ttsPeek s d i j
  else if a < 0x60000000 then colPeek s d.id i j raw
  else raw

/-- A read of a register, with what reading it does: TIM_NOW_LO latches the high word (R428), STO_UDATA advances the
address (R528), a receive buffer locks or is released (R400). -/
def regRead (s : State) (d : RegDesc) (i j : Nat) : Word × State :=
  match d.id with
  | .TIM_NOW_LO => timNowLo s
  | .STO_UDATA => udataRead s
  | .CAN_RXB => if canQueued i || 20 ≤ j % 32 then (0, s) else rxRead s i (j / 32) (j % 32)
  | .FRM_PACE => paceRead s i
  | .LSW_IMEAS | .LSW_GRCUR => measuredOn s 7 15 (s.rd d i j)
  | .SOL_BVOLT | .LSW_GRVOLT | .LSW_VOUT | .LSW_TEMP => measuredOn s 7 31 (s.rd d i j)
  | .MTR_TEMP => if i < 4 then bridgeTemp s i else (0, s)
  | _ => (regPeek s d i j, s)

/-- A read of register space at an address (R3, R18, R113): zero where no register is. -/
def readAddr (a : Nat) (s : State) : Word × State :=
  match curveAt a with
  | some (c, w) => if s.domOn 2 then (curveWord s c w, s) else (0, s)
  | none =>
    match regFind a with
    | some (d, i, j) =>
      if regDead s d a i j then (0, s)
      else
        let (v, s) := regRead s d i j
        (regBits s d i v, s)
    | none => (0, s)

/-! ### What a write may change (R9, R10, R572) -/

/-- The present value of a register that a write is compared with: key words stand in the key area, and are never
shown (R480). -/
def regOld (s : State) (d : RegDesc) (i j : Nat) : Word :=
  if d.id == .KEY then tabGet 0 s.sto.keyWork (d.addr i j) else s.rd d i j

/-- The unit that owns the RWL fields of a register is open or off. -/
def rwlOpen (s : State) (d : RegDesc) (i j : Nat) : Bool :=
  let a := d.base
  if a < 0x20000000 then !s.fb F.CRG_CFG_EN i
  else if a < 0x21000000 then s.loopOpen i
  else if a < 0x30000000 then !s.trcOn i
  else if a < 0x31000000 then !s.fb F.PFE_CH_CTL_EN i
  else if a < 0x40000000 then !s.fb F.DFE_CH_CTL_EN i
  else if a < 0x41000000 then !s.fb F.SOL_CTL_EN i
  else if a < 0x42000000 then
    if d.id == .LSW_GPER then !(List.range 32).any (fun n => lswUses s i n) else !s.fb F.LSW_CTL_EN i
  else if a < 0x43000000 then !s.fb F.MTR_CTL_EN i
  else if a < 0x50000000 then !s.fb F.FAN_ZCTL_EN i
  else if a < 0x50100000 then
    match d.id with
    | .CAN_RXF | .CAN_RXM | .CAN_RXBCFG => !s.fb F.CAN_RXBCFG_EN i j
    | .CAN_TXB => true
    | _ => canOff s i
  else if a < 0x51000000 then !s.fb F.TTS_CTL_EN i
  else !s.fb F.AF_CTL_EN i

/-- A field's stated range, or the check of a source selector (R20, R572). -/
def chkOk (s : State) (c : Chk) (n w : Nat) : Bool :=
  match c with
  | .any => true
  | .inRange lo hi => decide (lo ≤ n) && decide (n ≤ hi)
  | .inSigned lo hi => decide (lo ≤ sext n w) && decide (sext n w ≤ hi)
  | .oneOf vs => vs.contains n
  | .msrc => msrcOk s n

/-- A write of `v` over `old` breaks the rules of one field. A field left at its present value is not checked. -/
def fieldBad (s : State) (d : RegDesc) (i j : Nat) (old v : Word) (fd : FieldDesc) : Bool :=
  let new := bits v fd.hi fd.lo
  new != bits old fd.hi fd.lo &&
    (match fd.acc with
     | .rw => !chkOk s fd.chk new (fd.hi + 1 - fd.lo)
     | .rwl => !rwlOpen s d i j || !chkOk s fd.chk new (fd.hi + 1 - fd.lo)
     | .rwc => s.mode != modeCommission || !chkOk s fd.chk new (fd.hi + 1 - fd.lo)
     | .ro | .wo | .w1c | .w1s => false)

/-- A dielectric channel's curve number that a write may set (R151). -/
def dfeCurveNumber (s : State) (c : Nat) : Bool :=
  (decide (64 ≤ c) && decide (c ≤ 89)) || (decide (192 ≤ c) && curveKind s c == 2)

/-- A common-mode window is empty: CM_LO at or above CM_HI (R168, R204). -/
def windowRefuse (v : Word) : Bool := decide (sext (bits v 31 16) 16 ≤ sext (bits v 15 0) 16)

/-- The checks of a write that a register's chapter states beyond its fields' own. -/
def regRefuse (s : State) (d : RegDesc) (i j : Nat) (old v : Word) : Bool :=
  let a := d.base
  if 0x20000000 ≤ a ∧ a < 0x20180000 then lpeRefuse s d i j v
  else
    (decide (0x41001000 ≤ a) && decide (a < 0x41002000) && lswHeldRefuse s i) ||
    (decide (0x42000000 ≤ a) && decide (a < 0x42001000) && s.mtrHeld i) ||
    (match d.id with
    | .FRM_RCTL => rctlRefuse s i v
    | .CRG_CFG => crgCfgRefuse s i v
    | .CRG_BASE => crgBaseRefuse s i v
    | .DFE_CH_CTL =>
      (s.changes F.DFE_CH_CTL_CURVE v i && !dfeCurveNumber s (bits v 15 8)) ||
        (maskBit v 0 && !s.fb F.DFE_CH_CTL_EN i && dfeEnableRefuse s i (bits v 15 8))
    | .PFE_CH_CTL => maskBit v 0 && !s.fb F.PFE_CH_CTL_EN i && pfeEnableRefuse s i (bits v 11 8) (bits v 23 16)
    | .PFE_CH_RANGE => pfeRangeRefuse s i v
    | .DFE_CH_CM | .PFE_CH_CM => v != old && windowRefuse v
    | .DLPOOL => v != old && (tapClosed s i).isSome
    | .RCPOOL => v != old && (entryClosed s i).isSome
    | .TRC_CTL => trcCtlRefuse s i v
    | .TRC_SEL => trcSelRefuse s i v
    | .SOL_CTL => solCtlRefuse s i v
    | .SOL_CUR => solCurRefuse s i v
    | .SOL_TON_LO | .SOL_TON_HI | .SOL_DUR => solStageRefuse s i
    | .SOL_CMD => solCmdRefuse s i v
    | .SOL_CLASS_S => solClassRefuse s v
    | .LSW_CTL => lswCtlRefuse s i v
    | .LSW_CMD => lswCmdRefuse s i v
    | .LSW_DUTY => lswDutyRefuse s i
    | .MTR_CTL => mtrCtlRefuse s i v
    | .MTR_CMD => mtrCmdRefuse s i
    | .MTR_ILIM => mtrLimRefuse s F.MTR_ILIM_I_LIM i 100 6000 v
    | .MTR_OCL => mtrLimRefuse s F.MTR_OCL_OC_LIM i 0 10000 v
    | .FAN_ZCTL => fanZctlRefuse s i v
    | .FANA_ZCTL => fanaZctlRefuse s i v
    | .FAN_AXCFG | .FANA_AXCFG => v != old && fanAxRefuse v
    | .CAN_CTL => canCtlRefuse s i v
    | .CAN_RXBCFG => rxbcfgRefuse s i j v
    | .CAN_TXB => txbRefuse s i (j / 32) (j % 32) v
    | .TTS_CTL => ttsCtlRefuse s (4 + i) v
    | .COL_CMD => colCmdRefuse s i v
    | .AF_CTL => afCtlRefuse s i v
    | .HLT_HUMLIM => v != old && humlimRefuse v
    | .HLT_MAPCLR => maskBit v 0 && s.mode != modeCommission
    | .STO_CTL => stoCtlRefuse s v
    | .STO_UADDR => v != old && uaddrRefuse v
    | .SYS_PDCTL => pdctlRefuse s v
    | .SYS_FIRECTL => maskBit v 0 && s.mode == modeHold
    | .SYS_WDT => v != old && wdtRefuse v
    | .SYS_RHT_MTR => rhtMtrRefuse s v
    | .SYS_HREL => hrelRefuse s v
    | .SYS_HRELM => hrelRefuse s (word (bits v 7 0))
    | .SYS_CLR => ssdiscRefuse s v
    | .DIO_CFG => dioCfgRefuse i v
    | _ => false)

/-- The refusal flag of the unit a register belongs to (R10). DEDUCED: log entry 108. -/
def regRefused (s : State) (d : RegDesc) (a i : Nat) : State :=
  let b := d.base
  if b < 0x10010000 then sysRefused s
  else if b < 0x10020000 then s.setF F.HLT_STAT_REFUSED 1
  else if b < 0x10030000 then s.setF F.STO_STAT_REFUSED 1
  else if b < 0x10040000 then s.setF F.TIM_STAT_REFUSED 1
  else if b < 0x11000000 then s.setF F.DIO_STAT_REFUSED 1
  else if b < 0x11010000 then s.setF F.FRM_RSTAT_REFUSED 1 i
  else if b < 0x20000000 then s.setF F.CRG_STAT_REFUSED 1 i
  else if b < 0x20180000 then lpeRefused s i a
  else if b < 0x21000000 then
    match (if d.id == .DLPOOL then tapClosed s i else entryClosed s i) with
    | some n => lpeRefused s n a
    | none => s
  else if b < 0x30000000 then s.setF F.TRC_STAT_REFUSED 1 i
  else if b < 0x30008000 then s.setF F.PFE_CH_STAT_REFUSED 1 i
  else if b < 0x31000000 then s.setF F.PFE_GSTAT_XREFUSED 1
  else if b < 0x31001000 then s.setF F.DFE_GSTAT_XREFUSED 1
  else if b < 0x32000000 then s.setF F.DFE_CH_STAT_REFUSED 1 i
  else if b < 0x40000000 then s.setF F.CRV_STAT_REFUSED 1
  else if b < 0x40001000 then s.setF F.SOL_GSTAT_XREFUSED 1
  else if b < 0x41000000 then s.setF F.SOL_STAT_REFUSED 1 i
  else if b < 0x41001000 then s.setF F.LSW_GSTAT_XREFUSED 1
  else if b < 0x42000000 then s.setF F.LSW_STAT_REFUSED 1 i
  else if b < 0x43000000 then s.setF F.MTR_STAT_REFUSED 1 i
  else if b < 0x50000000 then s.setF F.FAN_GSTAT_REFUSED 1
  else if b < 0x50100000 then canRefused s i
  else if b < 0x51000000 then s.setF F.TTS_STAT_REFUSED 1 i
  else if b < 0x60000000 then s.setF F.COL_GSTAT_REFUSED 1
  else if b < 0x61000000 then s.setF F.NETH_STAT_REFUSED 1
  else s.setF F.NETL_STAT_REFUSED 1 i

/-- A write of an enabled bit that also tells what failed: an enable whose staged plan fails posts event 0x43 as a GO
does (R156, R166). -/
def regRefusedWith (s : State) (d : RegDesc) (a i : Nat) (v : Word) : State :=
  let s := regRefused s d a i
  if d.id == .DFE_CH_CTL && maskBit v 0 && !s.fb F.DFE_CH_CTL_EN i && !planOk s (bits v 15 8) (stagedPlan s i) then
    dfeEvent s i 0x43 0
  else s

/-! ### What a write does -/

/-- The registers whose write lays down its own fields. -/
def regPut (s : State) (d : RegDesc) (i j : Nat) (v : Word) : State :=
  match d.id with
  | .CRG_CFG | .SYS_PDCTL | .KEY => s
  | .FRM_DOORBELL => bellWrite s i v.toNat
  | .PFE_CH_RANGE => pfeRangeWrite s i v
  | .SOL_CTL => solCtlWrite s i v
  | .SOL_CLASS_S => solClassWrite s v
  | .LSW_CTL => lswCtlWrite s i v
  | .MTR_CTL => mtrCtlWrite s i v
  | .FAN_AF => fanAfWrite s v
  | .STO_UDATA => udataWrite s v
  | _ => putReg s d v i j

/-- What a write does beside its fields; `old` is the register before it, `who` its writer. -/
def regAct (s : State) (who : Writer) (d : RegDesc) (i j : Nat) (old v : Word) : State :=
  match d.id with
  | .FRM_RCTL => rctlAction s i v
  | .CRG_CFG =>
    let (tags, s) := crgCfgAction s i v
    creditReturn s tags
  | .DFE_CH_CTL =>
    if maskBit v 0 && !maskBit old 0 then dfeEnable s i else if maskBit old 0 && !maskBit v 0 then dfeDisable s i else s
  | .DFE_EXC_PLAN => if maskBit v 31 then dfeGo s i else s
  | .PFE_CH_CTL =>
    if maskBit v 0 && !maskBit old 0 then pfeEnable s i else if maskBit old 0 && !maskBit v 0 then pfeDisable s i else s
  | .LPE_GCTL => if maskBit v 0 then loopAllSafe s else s
  | .TRC_CTL => trcCtlWrite s i v
  | .SOL_CMD => solCmdWrite s i v
  | .SOL_BCTL => solRestoreWrite s i v
  | .SOL_CLR => solClrWrite s i v
  | .LSW_CMD => lswCmdWrite s i v
  | .LSW_CLR => lswClrWrite s i v
  | .LSW_GRCTL => lswRestoreWrite s i v
  | .MTR_CMD => s.setMtr i { s.mtrX i with cmd0 := v.toInt }
  | .MTR_CLR => mtrClrWrite s i v
  | .CAN_CTL => canCtlWrite s i v
  | .CAN_TXREQ => txReqWrite s i v
  | .CAN_TXCANCEL => txCancelWrite s i v
  | .CAN_RXREL_LO => rxRelWrite s i 0 v
  | .CAN_RXREL_HI => rxRelWrite s i 1 v
  | .CAN_RECOVER => canRecoverWrite s i v
  | .TTS_CTL => ttsCtlWrite s (4 + i) (maskBit old 0)
  | .TIM_DISC => timSrcWrite s
  | .COL_CMD => colCmdWrite s i v
  | .NETH_CTL =>
    if bits old 2 0 != bits v 2 0 then
      { s with net := { s.net with ports := tabPut s.net.ports 8 { speed := 1, since := s.elapsed } } }
    else s
  | .HLT_MAPCLR => mapclrWrite s v
  | .STO_CTL => stoCtlWrite s v
  | .SYS_CMD => sysCmd s who (bits v 3 0)
  | .SYS_PDCTL => pdctlWrite s v
  | .SYS_SAFECFG | .SYS_FIREMASK_LO | .SYS_FIREMASK_HI | .SYS_FIRECTL => fireUpdate s
  | .SYS_WDTKICK => wdtKick s v
  | .SYS_HREL => hrelWrite s v
  | .SYS_HRELM => hrelmWrite s v
  | .SYS_CLR => ssdiscWrite s v
  | .DIO_CNTCLR => cntclrWrite s v
  | .DIO_CFG => dioCfgWrite s i old
  | .RCPOOL => poolWritten s i old
  | _ => if 0x20000000 ≤ d.base ∧ d.base < 0x20180000 then lpeWrite s d i j v old else s

/-- The register's contents for the store, once written: a key word is only there (R480, R500, R512). -/
def regStore (s : State) (d : RegDesc) (i j : Nat) (v : Word) : State :=
  storeField s (d.addr i j) (if d.id == .KEY then v else s.rd d i j)

/-- A write of a register that exists: refused as a whole, or its fields, its store entry and what it does. W1C bits that
its effect sets stay set over a later write of the same step (R11). DEDUCED: log entry 123. -/
def regWrite (s : State) (who : Writer) (d : RegDesc) (a i j : Nat) (v : Word) : State :=
  let old := regOld s d i j
  if d.fields.any (fieldBad s d i j old v) || regRefuse s d i j old v then regRefusedWith s d a i v
  else regAct (regStore (regPut s d i j v) d i j v) who d i j old v

/-- A write of word `w` of curve slot `c` (R210, R211): refused on a user curve in use that it would change. -/
def curveWrite (s : State) (c w : Nat) (v : Word) : State :=
  let v := if w = 0 then putBits v 31 24 0 else v
  if c < 192 ∨ curveWord s c w = v then s
  else if curveInUse s c then s.setF F.CRV_STAT_REFUSED 1
  else storeField { s with curves := tabPut s.curves (c * 256 + w) v } (0x32010000 + c * 0x400 + 4 * w) v

/-- A write of a register instance (R3, R18): ignored where its domain is off or its unit absent, and on the status word
of a transmit buffer. -/
def writeReg (who : Writer) (d : RegDesc) (i j : Nat) (v : Word) (s : State) : State :=
  let a := d.addr i j
  if solOddEnable s d i v then regRefusedWith s d a i v
  else if regDead s d a i j || (d.id == .CAN_TXB && j % 32 == 3) then s else regWrite s who d a i j (regBits s d i v)

/-- A write of register space at an address (R113): ignored where no register is. -/
def writeAddr (who : Writer) (a : Nat) (v : Word) (s : State) : State :=
  match curveAt a with
  | some (c, w) => if s.domOn 2 then curveWrite s c w v else s
  | none =>
    match regFind a with
    | some (d, i, j) => writeReg who d i j v s
    | none => s

/-- The word that writes a register's fields back as they are, its other bits zero. -/
def keepWord (s : State) (d : RegDesc) (i j : Nat) : Word :=
  d.fields.foldl (fun w fd => match fd.acc with
    | .rw | .rwl | .rwc => putBits w fd.hi fd.lo (bits (s.rd d i j) fd.hi fd.lo)
    | .ro | .wo | .w1c | .w1s => w) 0

/-- A write that gives the listed fields of a register their values and leaves its other fields as they are. -/
def writeFields (s : State) (who : Writer) (d : RegDesc) (l : List (Fld × Nat)) (i : Nat := 0) (j : Nat := 0) : State :=
  writeReg who d i j (l.foldl (fun w p => putBits w p.1.hi p.1.lo p.2) (keepWord s d i j)) s

end Sys2Proof.Machine
end

