-- ==== Sys2Proof/Machine/CoxisOps.lean ====
section
/-! DEFINITION. Sys2Proof/Machine/CoxisOps.lean: the shared operations of the Coxis instructions: memory, posted
accesses and their order, rings, waits (spec/02_coxis_model.md R44 to R80, spec/03_coxis_instructions.md). -/

namespace Sys2Proof.Machine

/-! ### Memory -/

/-- `a` lies in Frame SRAM (R44). -/
def inFrame (a : Nat) : Bool := decide (a < 0x800000)
/-- `a` lies in the scratch window (R44). -/
def inScratch (a : Nat) : Bool := decide (0x800000 ≤ a) && decide (a < 0x804000)

/-- A load or store of `size` bytes may address `a` (R44, R46). -/
def memAllowed (s : State) (a size : Nat) : Bool := inScratch a || (inFrame a && !s.inRing a size)

/-- The number of the bead at `a` as Rod `r` sees it. -/
def beadOf (r a : Nat) : Nat := if inScratch a then scratchBead r (a - 0x800000) else a / 16

/-- Read `size` bytes as Rod `r` sees them, lowest address least significant. -/
def memRead (s : State) (r a size : Nat) : Nat :=
  if inScratch a then cellsRead (s.rod r).scratch (a - 0x800000) size else cellsRead s.frame a size

/-- Write `size` bytes as Rod `r` sees them: of the bead, only those bytes change (R47). -/
def memWrite (s : State) (r a size v : Nat) : State :=
  if inScratch a then
    let x := s.rod r
    s.setRod r { x with scratch := cellsWrite x.scratch (a - 0x800000) size v }
  else { s with frame := cellsWrite s.frame a size v }

/-- Perform a store: a whole bead with fresh check bits, a poisoned one reported as every access to one is; a part of a
bead only where the bead is sound then (R47, R50). -/
def storePerform (s : State) (r a size v : Nat) : State :=
  if size = 16 then
    let k := beadOf r a
    let s := match tabFind s.beadErr k with
      | some .double | some .poisoned => (beadCheck s k).2
      | _ => s
    let s := memWrite s r a size v
    { s with beadErr := tabDrop s.beadErr k }
  else
    match beadCheck s (beadOf r a) with
    | (true, s) => s
    | (false, s) => memWrite s r a size v

/-! ### Posted accesses (R75, R96, R97) -/

/-- Two byte ranges overlap. -/
def overlaps (a n b m : Nat) : Bool := decide (a < b + m) && decide (b < a + n)

/-- The Frame Rod program order of R75: of two outstanding accesses the earlier must complete first.
DESIGN CHOICE: log entry 17. DEDUCED: log entry 59. -/
def mustPrecede : Posted → Posted → Bool
  | .store a n _, .store b m _ => overlaps a n b m
  | .out a _, .out b _ => a == b || (ioClass a == 3 && ioClass b == 3) ||
      (decide (0x10030000 ≤ a) && decide (a < 0x10040000) && decide (0x10030000 ≤ b) && decide (b < 0x10040000))
  | _, _ => false

/-- Carry out one outstanding access of Rod `r`. An OUT that starts a commit stays outstanding until the commit ends
(R73, R97), one that appends a log record until the record is written (R518). -/
def performPosted (s : State) (r : Nat) : Posted → State
  | .store a n b => storePerform s r a n b.toNat
  | .out a v =>
    let idle := !s.fb F.STO_STAT_BUSY
    let queued := s.logQueue.length
    let s := writeAddr (.rod (Fin.ofNat 16 r)) a v s
    if ioClass a == 3 && idle && s.fb F.STO_STAT_BUSY then
      let x := s.rod r
      s.setRod r { x with posted := x.posted ++ [.commit] }
    else if a == R.STO_CTL.base && maskBit v 1 && decide (queued < s.logQueue.length) then
      let x := s.rod r
      s.setRod r { x with posted := x.posted ++ [.logw (s.nat R.STO_LOGHEAD + s.logQueue.length)] }
    else s
  | .commit => s
  | .logw _ => s

/-- The outstanding access number `k` of Rod `r` may complete now: no earlier one must precede it, and a commit
completes only when it has ended. -/
def postedReady (s : State) (r k : Nat) : Bool :=
  let ps := (s.rod r).posted
  match ps[k]? with
  | none => false
  | some .commit => !s.fb F.STO_STAT_BUSY
  | some (.logw k) => decide (k ≤ s.nat R.STO_LOGHEAD)
  | some p => !(ps.take k).any (fun q => mustPrecede q p)

/-- The outstanding access number `k` completes. -/
def postedComplete (s : State) (r k : Nat) : State :=
  let x := s.rod r
  match x.posted[k]? with
  | none => s
  | some p => performPosted (s.setRod r { x with posted := x.posted.eraseIdx k }) r p

/-- The outstanding accesses of a list that must complete before an access for which `hit` says so of each one (those
hit, and those that must precede one of these), and the rest, both in program order. -/
def postedSplit (hit : Posted → Bool) : List Posted → List Posted × List Posted
  | [] => ([], [])
  | p :: ps =>
    let later := postedSplit hit ps
    if hit p || later.1.any (fun q => mustPrecede p q) then (p :: later.1, later.2) else (later.1, p :: later.2)

/-- Complete, in program order, the outstanding accesses that must come before an access of Rod `r`. -/
def drain (s : State) (r : Nat) (hit : Posted → Bool) : State :=
  let x := s.rod r
  let l := postedSplit hit x.posted
  if l.1.isEmpty then s else l.1.foldl (fun s p => performPosted s r p) (s.setRod r { x with posted := l.2 })

/-- Earlier stores that overlap `n` bytes at `a` complete first (R75). -/
def drainStores (s : State) (r a n : Nat) : State :=
  drain s r (fun p => match p with
    | .store b m _ => overlaps a n b m
    | _ => false)

/-- Earlier register writes that an access to `a` follows in order complete first: the same register, and any in the
same ordered block (R74, R75). -/
def drainOuts (s : State) (r a : Nat) : State :=
  drain s r (fun p => mustPrecede p (.out a 0) && p != .commit)

/-- Everything Rod `r` has outstanding in classes M, I, Q and T completes; class S goes on (R68). -/
def drainAll (s : State) (r : Nat) : State := drain s r (fun p => postedClass p != 3)

/-- Post an access of Rod `r`: it completes later (R96). -/
def post (s : State) (r : Nat) (p : Posted) : State :=
  let x := s.rod r
  s.setRod r { x with posted := x.posted ++ [p] }

/-! ### Loads, stores and atomics -/

/-- The exceptions of a data access to `a` before its bead is looked at: MISALIGN, then ACCESS (R130). -/
def memFault (a size : Nat) (allowed : Bool) : Option Nat :=
  if a % size != 0 then some 0x04 else if !allowed then some 0x05 else none

/-- LD of `size` bytes: `put` writes the destination (R110, R111). -/
def loadOp (s : State) (r size : Nat) (f : MemForm) (put : State → Nat → State) : State :=
  let pc := (s.rod r).pc
  let a := memAddr s r f
  match memFault a size (memAllowed s a size) with
  | some code => raise s r 7 code pc (word a)
  | none =>
    let s := drainStores s r a size
    match beadCheck s (beadOf r a) with
    | (true, s) => raise s r 7 0x06 pc (word (a / 16 * 16))
    | (false, s) => rodDone (put s (memRead s r a size)) r

/-- ST of `size` bytes of `v`: to scratch at once, to Frame SRAM posted; a part of a bead that is poisoned when the
store is issued raises POISON (R50, R97, R110). -/
def storeOp (s : State) (r size : Nat) (f : MemForm) (v : Nat) : State :=
  let pc := (s.rod r).pc
  let a := memAddr s r f
  match memFault a size (memAllowed s a size) with
  | some code => raise s r 8 code pc (word a)
  | none =>
    let (bad, s) := if size = 16 then (false, s) else beadCheck s (beadOf r a)
    if bad then raise s r 8 0x06 pc (word (a / 16 * 16))
    else if inScratch a then rodDone (storePerform s r a size v) r
    else rodDone (post s r (.store a size (BitVec.ofNat 128 (v % 2 ^ (8 * size))))) r

/-- An atomic on the Frame word at ga: `op old gb gd` gives the new value and whether it overflowed (R124, R125). -/
def atomOp (s : State) (r : Nat) (f : RegForm) (op : Word → Word → Word → Word × Bool) : State :=
  rodExec s r 0xD (f.aux != 0) fun s =>
    let pc := (s.rod r).pc
    let a := (gReg s r f.a).toNat
    match memFault a 4 (inFrame a && !s.inRing a 4) with
    | some code => raise s r 0xD code pc (word a)
    | none =>
      let s := drainStores s r a 4
      match beadCheck s (a / 16) with
      | (true, s) => raise s r 0xD 0x06 pc (word (a / 16 * 16))
      | (false, s) =>
        let old := word (cellsRead s.frame a 4)
        let (v, o) := op old (gReg s r f.b) (gReg s r f.d)
        let s := { s with frame := cellsWrite s.frame a 4 v.toNat }
        rodDone (orOvf (setG s r f.d old) r o) r

/-! ### Register space -/

/-- The exceptions of an IN or OUT to `a`: MISALIGN, then ACCESS outside register space (R44, R113). -/
def ioFault (a : Nat) : Option Nat :=
  if a % 4 != 0 then some 0x04
  else if a < 0x10000000 ∨ 0x70000000 ≤ a then some 0x05
  else none

/-! ### WAIT (R64 to R66, R117 to R120) -/

/-- The bits of `mask` whose ring satisfies `p`. -/
def ringMask (mask : Word) (p : Nat → Bool) : Nat :=
  foldN 32 (fun acc n => if maskBit mask n && p n then acc + 2 ^ n else acc) 0

/-- What of a wait set is true now: data rings, space rings, doorbells, the deadline. -/
def waitTrue (s : State) (r : Nat) (ws : WaitSet) : Wakes where
  data := ringMask ws.data (fun n => s.nat R.CRG_COUNT n != 0)
  space := ringMask ws.space (fun n => s.nat R.CRG_TALLY n != 0)
  bells := s.f F.FRM_DOORBELL_V r &&& ws.bells
  due := match ws.deadline with
    | some d => decide (d ≤ s.tbNow) && d != 2 ^ 64 - 1
    | none => false

/-- Some wake condition is among them. -/
def Wakes.any (w : Wakes) : Bool := w.data != 0 || w.space != 0 || w.bells != 0 || w.due

/-- Some condition of the wait set is true (R64). -/
def waitDue (s : State) (r : Nat) (ws : WaitSet) : Bool := (waitTrue s r ws).any

/-- WAIT returns for the conditions `w`: the result and cause word, and the reported doorbells cleared, in one step (R66,
R120). -/
def waitReturn (s : State) (r : Nat) (ws : WaitSet) (w : Wakes) (imm : Bool) : State :=
  let cause := w.bells + bit (w.data != 0) * 2 ^ 16 + bit (w.space != 0) * 2 ^ 17 + bit w.due * 2 ^ 18 + bit imm * 2 ^ 19
  let s := s.setF F.FRM_DOORBELL_V (s.f F.FRM_DOORBELL_V r - (s.f F.FRM_DOORBELL_V r &&& w.bells)) r
  let s := setW s r (BitVec.ofNat 5 ws.dest) (ofLanes (word w.data) (word w.space) (word cause) 0)
  rodDone ((setHold s r .none).setRodSt r rodRunning) r

/-- The wake conditions of the Rod that is being migrated are held until its migration ends, as they stand at the instant at
which the first of them is true (R70, R120). DEDUCED: log entry 121. -/
def wakeHold (s : State) : State :=
  match s.migration with
  | none => s
  | some m =>
    match (s.rod m.rod).hold with
    | .wait ws => if m.held.any then s else { s with migration := some { m with held := waitTrue s m.rod ws } }
    | _ => s

/-- What the end of a step brings (R70, R479): wake conditions of a Rod that is being migrated are held, and an activation
whose Rods have stopped goes on. -/
def settle (s : State) : State := activateDue (wakeHold s)

/-- No migration can start: one is in progress, or the last ended less than 1 ms ago (R69). -/
def migrationBarred (s : State) : Bool :=
  s.migration.isSome || (match s.migEnd with
    | some t => decide (s.elapsed < t + 1000000)
    | none => false)

/-- Rod `r` comes to a safe point; marked, while no migration can start, it is not moved there (R69). -/
def reachSafePoint (s : State) (r : Nat) : State :=
  s.setRod r { s.rod r with stay := (s.rod r).marked && migrationBarred s }

/-- The lowest ring of the wait set that a Rod may not consume from or produce into (R65, R118). -/
def waitOffender (ws : WaitSet) : Option Nat :=
  (List.range 32).find? (fun n => (maskBit ws.data n && !rodsConsume n) || (maskBit ws.space n && !rodsProduce n))

/-! ### Rings (R52, R53, R114 to R116) -/

/-- The push itself, its earlier accesses complete where it waits for them: statuses 2 and 1, else a reservation, whose
bead is written and committed in this step where `inStep` (R114). -/
def pushNow (s : State) (r d n wide : Nat) (inStep : Bool) : State :=
  let s := wakeHold s
  let fin := fun (s : State) (st : Word) => rodDone (setG (setHold s r .none) r (BitVec.ofNat 5 d) st) r
  if !s.ringOn n || (s.ring n).closing then fin s 2
  else if s.nat R.CRG_TALLY n = 0 then fin s 1
  else
    let b := wReg s r (BitVec.ofNat 5 wide)
    let (slot, s) := ringReserve s n (some r) d
    let s := s.putFrameBead (s.slotAddr n slot) b
    let x := s.ring n
    let s := s.setRing n { x with tags := tabDrop x.tags slot }
    let s := setHold s r (.pushing d n slot)
    if inStep then pushFinish (ringCommit (ringMark s n slot false) n) n else s

/-- A Rod PUSH or POP of a ring it does not own: RING_OWNER, and the ring's OWNER bit (R52, R63). -/
def ringOwnerFault (s : State) (r n : Nat) : State :=
  raise (s.setF F.CRG_STAT_OWNER 1 n) r 0xA 0x07 (s.rod r).pc (word n)

/-- POP and POP.A (R114, R115). -/
def popOp (s : State) (r : Nat) (f : RegForm) : State :=
  rodExec s r 0xA (f.aux != 0 || badWide f.b) fun s =>
    let s := wakeHold s
    let n := f.a.toNat
    let pc := (s.rod r).pc
    if !rodsConsume n then ringOwnerFault s r n
    else if !s.ringOn n then rodDone (setG s r f.d 2) r
    else
      match ringPop s n with
      | (.empty, tags, s) => rodDone (setG (creditReturn s tags) r f.d 1) r
      | (.bead b, tags, s) => rodDone (setG (setW (creditReturn s tags) r f.b b) r f.d 0) r
      | (.poison, tags, s) =>
        let s := creditReturn s tags
        raise s r 0xA 0x06 pc (putBits (s.rd R.FRM_EADDR r) 4 0 n)

end Sys2Proof.Machine
end

