-- ==== Sys2Proof/Machine/Coxis.lean ====
section
/-! DEFINITION. Sys2Proof/Machine/Coxis.lean: the meaning of every Coxis instruction (spec/03_coxis_instructions.md). -/

namespace Sys2Proof.Machine

/-- The outcome of every step in this file. -/
abbrev Out := Host.Outcome State Fault Refusal

/-- An OPR instruction on ga and gb with a result in gd: FN fixed, AUX zero (R100). -/
def oprOp (r : Nat) (f : RegForm) (illegal : Bool) (op : Word → Word → Word × Bool) (s : State) : State :=
  rodExec s r 0x0 illegal fun s =>
    let (v, o) := op (gReg s r f.a) (gReg s r f.b)
    rodDone (orOvf (setG s r f.d v) r o) r

/-- A FIX instruction whose result goes to gd (R103). -/
def fixOp (r : Nat) (f : RegForm) (illegal : Bool) (op : State → Word × Bool) (s : State) : State :=
  rodExec s r 0x3 illegal fun s =>
    let (v, sat) := op s
    rodDone (orSat (setG s r f.d v) r sat) r

/-- A branch on the condition of code `code` (R106, R109). -/
def brOp (r : Nat) (code : Nat) (f : BrForm) (s : State) : State :=
  rodExec s r 0x4 false fun s =>
    let pc := (s.rod r).pc
    if brCond code (gReg s r f.a) (gReg s r f.b) then
      let t := brTarget pc f
      if codeAddrOk s t then rodGoto s r t else raise s r 0x4 0x02 pc t
    else rodDone s r

/-- The shift of a FIX instruction breaks its constraint (R103). -/
def badShift (aux : BitVec 6) : Bool := aux == 63

/-- ADD (R100). -/
def execAdd (r : Fin 16) (f : RegForm) (s : State) : Out :=
  .next (oprOp r f (f.aux != 0) (fun a b => aluAdd a b) s)

/-- SUB (R100). -/
def execSub (r : Fin 16) (f : RegForm) (s : State) : Out :=
  .next (oprOp r f (f.aux != 0) (fun a b => aluSub a b) s)

/-- AND (R100). -/
def execAnd (r : Fin 16) (f : RegForm) (s : State) : Out :=
  .next (oprOp r f (f.aux != 0) (fun a b => (a &&& b, false)) s)

/-- OR (R100). -/
def execOr (r : Fin 16) (f : RegForm) (s : State) : Out :=
  .next (oprOp r f (f.aux != 0) (fun a b => (a ||| b, false)) s)

/-- XOR (R100). -/
def execXor (r : Fin 16) (f : RegForm) (s : State) : Out :=
  .next (oprOp r f (f.aux != 0) (fun a b => (a ^^^ b, false)) s)

/-- ANDN (R100). -/
def execAndn (r : Fin 16) (f : RegForm) (s : State) : Out :=
  .next (oprOp r f (f.aux != 0) (fun a b => (a &&& ~~~b, false)) s)

/-- SLL (R100). -/
def execSll (r : Fin 16) (f : RegForm) (s : State) : Out :=
  .next (oprOp r f (f.aux != 0) (fun a b => (a <<< (b.toNat % 32), false)) s)

/-- SRL (R100). -/
def execSrl (r : Fin 16) (f : RegForm) (s : State) : Out :=
  .next (oprOp r f (f.aux != 0) (fun a b => (a >>> (b.toNat % 32), false)) s)

/-- SRA (R100). -/
def execSra (r : Fin 16) (f : RegForm) (s : State) : Out :=
  .next (oprOp r f (f.aux != 0) (fun a b => (a.sshiftRight (b.toNat % 32), false)) s)

/-- SLLI: B = 0, AUX 0 to 31 (R100). -/
def execSlli (r : Fin 16) (f : RegForm) (s : State) : Out :=
  .next (oprOp r f (f.b != 0 || f.aux.toNat ≥ 32) (fun a _ => (a <<< f.aux.toNat, false)) s)

/-- SRLI: B = 0, AUX 0 to 31 (R100). -/
def execSrli (r : Fin 16) (f : RegForm) (s : State) : Out :=
  .next (oprOp r f (f.b != 0 || f.aux.toNat ≥ 32) (fun a _ => (a >>> f.aux.toNat, false)) s)

/-- SRAI: B = 0, AUX 0 to 31 (R100). -/
def execSrai (r : Fin 16) (f : RegForm) (s : State) : Out :=
  .next (oprOp r f (f.b != 0 || f.aux.toNat ≥ 32) (fun a _ => (a.sshiftRight f.aux.toNat, false)) s)

/-- SLT (R100). -/
def execSlt (r : Fin 16) (f : RegForm) (s : State) : Out :=
  .next (oprOp r f (f.aux != 0) (fun a b => (word (bit (a.slt b)), false)) s)

/-- SLTU (R100). -/
def execSltu (r : Fin 16) (f : RegForm) (s : State) : Out :=
  .next (oprOp r f (f.aux != 0) (fun a b => (word (bit (a.ult b)), false)) s)

/-- MIN (R100). -/
def execMin (r : Fin 16) (f : RegForm) (s : State) : Out :=
  .next (oprOp r f (f.aux != 0) (fun a b => (if a.slt b then a else b, false)) s)

/-- MAX (R100). -/
def execMax (r : Fin 16) (f : RegForm) (s : State) : Out :=
  .next (oprOp r f (f.aux != 0) (fun a b => (if a.slt b then b else a, false)) s)

/-- MINU (R100). -/
def execMinu (r : Fin 16) (f : RegForm) (s : State) : Out :=
  .next (oprOp r f (f.aux != 0) (fun a b => (if a.ult b then a else b, false)) s)

/-- MAXU (R100). -/
def execMaxu (r : Fin 16) (f : RegForm) (s : State) : Out :=
  .next (oprOp r f (f.aux != 0) (fun a b => (if a.ult b then b else a, false)) s)

/-- SEXT.8: B = 0 (R100). -/
def execSext8 (r : Fin 16) (f : RegForm) (s : State) : Out :=
  .next (oprOp r f (f.b != 0 || f.aux != 0) (fun a _ => ((a.setWidth 8).signExtend 32, false)) s)

/-- SEXT.16: B = 0 (R100). -/
def execSext16 (r : Fin 16) (f : RegForm) (s : State) : Out :=
  .next (oprOp r f (f.b != 0 || f.aux != 0) (fun a _ => ((a.setWidth 16).signExtend 32, false)) s)

/-- MUL (R100). -/
def execMul (r : Fin 16) (f : RegForm) (s : State) : Out :=
  .next (oprOp r f (f.aux != 0) (fun a b => aluMul a b) s)

/-- MULH (R100). -/
def execMulh (r : Fin 16) (f : RegForm) (s : State) : Out :=
  .next (oprOp r f (f.aux != 0) (fun a b => (aluMulh a b, false)) s)

/-- MULHU (R100). -/
def execMulhu (r : Fin 16) (f : RegForm) (s : State) : Out :=
  .next (oprOp r f (f.aux != 0) (fun a b => (aluMulhu a b, false)) s)

/-- DIV (R100, R101). -/
def execDiv (r : Fin 16) (f : RegForm) (s : State) : Out :=
  .next (oprOp r f (f.aux != 0) (fun a b => aluDiv a b) s)

/-- DIVU (R100, R101). -/
def execDivu (r : Fin 16) (f : RegForm) (s : State) : Out :=
  .next (oprOp r f (f.aux != 0) (fun a b => (aluDivu a b, false)) s)

/-- REM (R100, R101). -/
def execRem (r : Fin 16) (f : RegForm) (s : State) : Out :=
  .next (oprOp r f (f.aux != 0) (fun a b => aluRem a b) s)

/-- REMU (R100, R101). -/
def execRemu (r : Fin 16) (f : RegForm) (s : State) : Out :=
  .next (oprOp r f (f.aux != 0) (fun a b => (aluRemu a b, false)) s)

/-- W.GET: gd := lane AUX of wa (R100). -/
def execWGet (r : Fin 16) (f : RegForm) (s : State) : Out :=
  .next (rodExec s r 0x0 (badWide f.a || f.b != 0 || f.aux.toNat ≥ 4) fun s =>
    rodDone (setG s r f.d (lane (wReg s r f.a) f.aux.toNat)) r)

/-- W.PUT: lane AUX of wd := ga (R100). -/
def execWPut (r : Fin 16) (f : RegForm) (s : State) : Out :=
  .next (rodExec s r 0x0 (badWide f.d || f.b != 0 || f.aux.toNat ≥ 4) fun s =>
    rodDone (setW s r f.d (putLane (wReg s r f.d) f.aux.toNat (gReg s r f.a))) r)

/-- W.MOV: wd := wa (R100). -/
def execWMov (r : Fin 16) (f : RegForm) (s : State) : Out :=
  .next (rodExec s r 0x0 (badWide f.d || badWide f.a || f.b != 0 || f.aux != 0) fun s =>
    rodDone (setW s r f.d (wReg s r f.a)) r)

/-- W.ZERO: wd := 0 (R100). -/
def execWZero (r : Fin 16) (f : RegForm) (s : State) : Out :=
  .next (rodExec s r 0x0 (badWide f.d || f.a != 0 || f.b != 0 || f.aux != 0) fun s =>
    rodDone (setW s r f.d 0) r)

/-- ADDI: gd := ga + sext(IMM, 18), OVF on signed overflow (R102). -/
def execAddi (r : Fin 16) (f : ImmForm) (s : State) : Out :=
  .next (rodExec s r 0x1 false fun s =>
    let (v, o) := aluAdd (gReg s r f.a) (f.imm.signExtend 32)
    rodDone (orOvf (setG s r f.d v) r o) r)

/-- LUI: gd := (IMM << 14) or the low 14 bits of ga (R102). -/
def execLui (r : Fin 16) (f : ImmForm) (s : State) : Out :=
  .next (rodExec s r 0x2 false fun s =>
    rodDone (setG s r f.d ((f.imm.setWidth 32 <<< 14) ||| (gReg s r f.a &&& 0x3FFF))) r)

/-- MULQ (R103, R104). -/
def execMulq (r : Fin 16) (f : RegForm) (s : State) : Out :=
  .next (fixOp r f (badShift f.aux) (fun s => fixMulq (gReg s r f.a) (gReg s r f.b) f.aux.toNat false) s)

/-- MULQ.R (R103, R104). -/
def execMulqR (r : Fin 16) (f : RegForm) (s : State) : Out :=
  .next (fixOp r f (badShift f.aux) (fun s => fixMulq (gReg s r f.a) (gReg s r f.b) f.aux.toNat true) s)

/-- MACQ: the accumulator in wd (R103, R104). -/
def execMacq (r : Fin 16) (f : RegForm) (s : State) : Out :=
  .next (rodExec s r 0x3 (badWide f.d || badShift f.aux) fun s =>
    let (v, sat) := fixMacq (wReg s r f.d) (gReg s r f.a) (gReg s r f.b) f.aux.toNat
    rodDone (orSat (setW s r f.d v) r sat) r)

/-- CLAMP: the limits in the pair at B (R103, R105). -/
def execClamp (r : Fin 16) (f : RegForm) (s : State) : Out :=
  .next (fixOp r f (badPair f.b || f.aux != 0) (fun s => fixClamp (gReg s r f.a) (gReg s r f.b) (gReg s r (f.b + 1))) s)

/-- CLAMP.N: width AUX, 1 to 32 (R103). -/
def execClampN (r : Fin 16) (f : RegForm) (s : State) : Out :=
  .next (fixOp r f (f.b != 0 || f.aux == 0 || f.aux.toNat > 32) (fun s => fixClampN (gReg s r f.a) f.aux.toNat) s)

/-- CLAMP.A: the accumulator in wa (R103, R104). -/
def execClampA (r : Fin 16) (f : RegForm) (s : State) : Out :=
  .next (fixOp r f (badWide f.a || f.b != 0 || badShift f.aux) (fun s => fixClampA (wReg s r f.a) f.aux.toNat) s)

/-- BEQ (R106). -/
def execBeq (r : Fin 16) (f : BrForm) (s : State) : Out :=
  .next (brOp r 0 f s)

/-- BNE (R106). -/
def execBne (r : Fin 16) (f : BrForm) (s : State) : Out :=
  .next (brOp r 1 f s)

/-- BLT (R106). -/
def execBlt (r : Fin 16) (f : BrForm) (s : State) : Out :=
  .next (brOp r 2 f s)

/-- BGE (R106). -/
def execBge (r : Fin 16) (f : BrForm) (s : State) : Out :=
  .next (brOp r 3 f s)

/-- BLTU (R106). -/
def execBltu (r : Fin 16) (f : BrForm) (s : State) : Out :=
  .next (brOp r 4 f s)

/-- BGEU (R106). -/
def execBgeu (r : Fin 16) (f : BrForm) (s : State) : Out :=
  .next (brOp r 5 f s)

/-- BANY (R106). -/
def execBany (r : Fin 16) (f : BrForm) (s : State) : Out :=
  .next (brOp r 6 f s)

/-- BNONE (R106). -/
def execBnone (r : Fin 16) (f : BrForm) (s : State) : Out :=
  .next (brOp r 7 f s)

/-- JMP: any D but 0 raises ILLEGAL; CALL is the word with D = 31 (R107, R109). -/
def execJmp (r : Fin 16) (f : ImmForm) (s : State) : Out :=
  .next (rodExec s r 0x5 (f.d != 0) fun s =>
    let t := jmpTarget s r f
    if codeAddrOk s t then rodGoto s r t else raise s r 0x5 0x02 (s.rod r).pc t)

/-- CALL: g31 takes the address of the instruction plus 4, after the base is read (R107, R109). -/
def execCall (r : Fin 16) (a : BitVec 5) (imm : BitVec 18) (s : State) : Out :=
  .next (rodExec s r 0x5 false fun s =>
    let t := jmpTarget s r ⟨31, a, imm⟩
    let pc := (s.rod r).pc
    if codeAddrOk s t then setG (rodGoto s r t) r 31 (pc + 4) else raise s r 0x5 0x02 pc t)

/-- RET: pc := ga (R108, R109). -/
def execRet (r : Fin 16) (f : RegForm) (s : State) : Out :=
  .next (rodExec s r 0x6 (f.d != 0 || f.b != 0 || f.aux != 0) fun s =>
    let t := gReg s r f.a
    if codeAddrOk s t then rodGoto s r t else raise s r 0x6 0x02 (s.rod r).pc t)

/-- ERET: pc := ga, and the Rod leaves its handler; ILLEGAL outside one (R108, R109, R131). -/
def execEret (r : Fin 16) (f : RegForm) (s : State) : Out :=
  .next (rodExec s r 0x6 (f.d != 0 || f.b != 0 || f.aux != 0 || !(s.rod r).inHandler) fun s =>
    let t := gReg s r f.a
    if codeAddrOk s t then
      let s := rodGoto s r t
      s.setRod r { s.rod r with inHandler := false }
    else raise s r 0x6 0x02 (s.rod r).pc t)

/-- LD.8 (R110). -/
def execLd8 (r : Fin 16) (f : MemForm) (s : State) : Out :=
  .next (rodExec s r 0x7 false fun s => loadOp s r 1 f (fun s v => setG s r f.d (word v)))

/-- LD.16 (R110). -/
def execLd16 (r : Fin 16) (f : MemForm) (s : State) : Out :=
  .next (rodExec s r 0x7 false fun s => loadOp s r 2 f (fun s v => setG s r f.d (word v)))

/-- LD.32 (R110). -/
def execLd32 (r : Fin 16) (f : MemForm) (s : State) : Out :=
  .next (rodExec s r 0x7 false fun s => loadOp s r 4 f (fun s v => setG s r f.d (word v)))

/-- LD.128: D names a wide register (R110). -/
def execLd128 (r : Fin 16) (f : MemForm) (s : State) : Out :=
  .next (rodExec s r 0x7 (badWide f.d) fun s =>
    loadOp s r 16 f (fun s v => setW s r f.d (BitVec.ofNat 128 v)))

/-- ST.8 (R110). -/
def execSt8 (r : Fin 16) (f : MemForm) (s : State) : Out :=
  .next (rodExec s r 0x8 false fun s => storeOp s r 1 f (gReg s r f.d).toNat)

/-- ST.16 (R110). -/
def execSt16 (r : Fin 16) (f : MemForm) (s : State) : Out :=
  .next (rodExec s r 0x8 false fun s => storeOp s r 2 f (gReg s r f.d).toNat)

/-- ST.32 (R110). -/
def execSt32 (r : Fin 16) (f : MemForm) (s : State) : Out :=
  .next (rodExec s r 0x8 false fun s => storeOp s r 4 f (gReg s r f.d).toNat)

/-- ST.128: D names a wide register (R110). -/
def execSt128 (r : Fin 16) (f : MemForm) (s : State) : Out :=
  .next (rodExec s r 0x8 (badWide f.d) fun s => storeOp s r 16 f (wReg s r f.d).toNat)

/-- IN: gd := the register, with every side effect of the read, g0 included (R94, R112, R113). -/
def execIn (r : Fin 16) (f : IoForm) (s : State) : Out :=
  .next (rodExec s r 0x9 (f.off.toNat % 4 != 0) fun s =>
    let a := ioAddr s r f
    match ioFault (ioData s r f) with
    | some code => raise s r 0x9 code (s.rod r).pc (word (ioData s r f))
    | none =>
      let (v, s) := readAddr a (drainOuts s r a)
      rodDone (setG s r f.d v) r)

/-- OUT: posted to its register (R96, R112, R113). -/
def execOut (r : Fin 16) (f : IoForm) (s : State) : Out :=
  .next (rodExec s r 0x9 (f.off.toNat % 4 != 0) fun s =>
    let a := ioAddr s r f
    match ioFault (ioData s r f) with
    | some code => raise s r 0x9 code (s.rod r).pc (word (ioData s r f))
    | none => rodDone (post s r (.out a (gReg s r f.d))) r)

/-- An access a Rod has outstanding completes, where the order of R75 lets it. A FENCE that waits on no S or T access any
more is no safe point, and its Rod shows RUNNING again (R89, R123). -/
def execPostedAccessComplete (r : Fin 16) (k : Nat) (s : State) : Out :=
  .next (if postedReady s r k then
      let late := ((s.rod r).posted[k]?).any (fun p => decide (3 ≤ postedClass p))
      let s := postedComplete s r k
      match (s.rod r).hold with
      | .fence _ => if late && s.rodSt r == rodWaiting && !s.atSafePoint r then s.setRodSt r rodRunning else s
      | _ => s
    else s)

/-- PUSH (R52 to R54, R114, R116). With `inStep` false the slot is reserved and its commit comes with SLOT_COMMIT. -/
def execPush (r : Fin 16) (f : RegForm) (inStep : Bool) (s : State) : Out :=
  .next (rodExec s r 0xA (f.aux != 0 || badWide f.b) fun s =>
    if !rodsProduce f.a.toNat then ringOwnerFault s r f.a.toNat
    else pushNow s r f.d.toNat f.a.toNat f.b.toNat inStep)

/-- PUSH.R: waits for every earlier access of the Rod before it reserves (R77, R116). -/
def execPushR (r : Fin 16) (f : RegForm) (s : State) : Out :=
  .next (rodExec s r 0xA (f.aux != 0 || badWide f.b) fun s =>
    if !rodsProduce f.a.toNat then ringOwnerFault s r f.a.toNat
    else if (s.rod r).posted.isEmpty then pushNow s r f.d.toNat f.a.toNat f.b.toNat true
    else setHold s r (.pushR f.d.toNat f.a.toNat f.b.toNat))

/-- The earlier accesses of a waiting PUSH.R are complete: it reserves and commits (R77). -/
def execPushRRelease (r : Fin 16) (s : State) : Out :=
  .next (match (s.rod r).hold with
    | .pushR d n w => if (s.rod r).posted.isEmpty then pushNow s r d n w true else s
    | _ => s)

/-- POP (R114, R115). -/
def execPop (r : Fin 16) (f : RegForm) (s : State) : Out :=
  .next (popOp s r f)

/-- POP.A: in this model every later access begins after it in any case (R78). -/
def execPopA (r : Fin 16) (f : RegForm) (s : State) : Out :=
  .next (popOp s r f)

/-- A reserved slot is written and commits once every earlier slot has (R54). -/
def execSlotCommit (n : Fin 32) (slot : Nat) (s : State) : Out :=
  .next (if (s.ring n).resv.any (fun v => v.slot == slot && !v.written) then
      pushFinish (ringCommit (ringMark s n slot false) n) n
    else s)

/-- WAIT (R64, R65, R117 to R119): at once where a condition is already true, else the Rod sleeps. -/
def execWait (r : Fin 16) (f : WaitForm) (s : State) : Out :=
  .next (rodExec s r 0xB (badWide f.d || badWide f.a || (f.b != 0 && badPair f.b) || f.fn != 0 || f.aux != 0) fun s =>
    let pc := (s.rod r).pc
    let w := wReg s r f.a
    if bits (lane w 2) 31 16 != 0 || lane w 3 != 0 then raise s r 0xB 0x01 pc 0
    else
      let ws : WaitSet := ⟨lane w 0, lane w 1, bits (lane w 2) 15 0,
        if f.b = 0 then none else some (gPair s r f.b), f.d.toNat⟩
      match waitOffender ws with
      | some n => raise s r 0xB 0x08 pc (word n)
      | none =>
        if waitDue s r ws then waitReturn s r ws (waitTrue s r ws) true
        else reachSafePoint ((setHold s r (.wait ws)).setRodSt r rodWaiting) r)

/-- A wake condition is true: WAIT returns, or, while the Rod is being migrated, the condition is held (R64, R66, R70). -/
def execWaitReturn (r : Fin 16) (s : State) : Out :=
  .next (match (s.rod r).hold with
    | .wait ws =>
      if s.migration.any (fun m => m.rod == r.val) then wakeHold s
      else if waitDue s r ws then waitReturn s r ws (waitTrue s r ws) false
      else s
    | _ => s)

/-- FENCE: waits for the earlier accesses of the classes in its mask (R76, R122, R123). -/
def execFence (r : Fin 16) (f : ImmForm) (s : State) : Out :=
  .next (rodExec s r 0xC (f.d != 0 || f.a != 0 || f.imm.toNat ≥ 32) fun s =>
    if outstanding s r f.imm.toNat then
      let s := setHold s r (.fence f.imm.toNat)
      if s.atSafePoint r then reachSafePoint (s.setRodSt r rodWaiting) r else s
    else rodDone s r)

/-- The fenced accesses are complete, and the Rod goes on (R76); not while it is being migrated. -/
def execFenceComplete (r : Fin 16) (s : State) : Out :=
  .next (match (s.rod r).hold with
    | .fence m =>
      if outstanding s r m || s.migration.any (fun m => m.rod == r.val) then s
      else rodDone ((setHold s r .none).setRodSt r rodRunning) r
    | _ => s)

/-- AT.SWAP (R124). -/
def execAtSwap (r : Fin 16) (f : RegForm) (s : State) : Out :=
  .next (atomOp s r f (fun _ b _ => (b, false)))

/-- AT.ADD (R124). -/
def execAtAdd (r : Fin 16) (f : RegForm) (s : State) : Out :=
  .next (atomOp s r f (fun old b _ => aluAdd old b))

/-- AT.AND (R124). -/
def execAtAnd (r : Fin 16) (f : RegForm) (s : State) : Out :=
  .next (atomOp s r f (fun old b _ => (old &&& b, false)))

/-- AT.OR (R124). -/
def execAtOr (r : Fin 16) (f : RegForm) (s : State) : Out :=
  .next (atomOp s r f (fun old b _ => (old ||| b, false)))

/-- AT.XOR (R124). -/
def execAtXor (r : Fin 16) (f : RegForm) (s : State) : Out :=
  .next (atomOp s r f (fun old b _ => (old ^^^ b, false)))

/-- AT.MIN (R124). -/
def execAtMin (r : Fin 16) (f : RegForm) (s : State) : Out :=
  .next (atomOp s r f (fun old b _ => (if old.slt b then old else b, false)))

/-- AT.MAX (R124). -/
def execAtMax (r : Fin 16) (f : RegForm) (s : State) : Out :=
  .next (atomOp s r f (fun old b _ => (if old.slt b then b else old, false)))

/-- AT.MINU (R124). -/
def execAtMinu (r : Fin 16) (f : RegForm) (s : State) : Out :=
  .next (atomOp s r f (fun old b _ => (if old.ult b then old else b, false)))

/-- AT.MAXU (R124). -/
def execAtMaxu (r : Fin 16) (f : RegForm) (s : State) : Out :=
  .next (atomOp s r f (fun old b _ => (if old.ult b then b else old, false)))

/-- AT.CAS: gb if the word equals the value gd held, else unchanged (R124, R125). -/
def execAtCas (r : Fin 16) (f : RegForm) (s : State) : Out :=
  .next (atomOp s r f (fun old b d => (if old = d then b else old, false)))

/-- TIME: the pair takes TB_NOW + ga, modulo 2^64, after the Rod's earlier writes to TIM (R74, R126). -/
def execTime (r : Fin 16) (f : ImmForm) (s : State) : Out :=
  .next (rodExec s r 0xE (badPair f.d || f.imm != 0) fun s =>
    let s := drainOuts s r 0x10030000
    rodDone (setPair s r f.d ((s.tbNow + (gReg s r f.a).toNat) % 2 ^ 64)) r)

/-- TRAP: the exception TRAP with IMM as its code (R127). -/
def execTrap (r : Fin 16) (f : ImmForm) (s : State) : Out :=
  .next (rodExec s r 0xF (f.d != 0 || f.a != 0) fun s => raise s r 0xF 0x0F (s.rod r).pc (f.imm.setWidth 32))

/-! ### Rod control and migration -/

/-- A stopping Rod reaches a safe point and becomes HALTED (R88). -/
def execRodHalt (r : Fin 16) (s : State) : Out :=
  .next (if (s.rod r).stopAt.isSome && s.atSafePoint r && !(s.migration.any (fun m => m.rod == r.val))
    then rodHaltNow s r else s)

/-- 1 ms after the stop without a safe point: the Rod abandons its instruction and becomes HALTED (R88). -/
def execRodStopForced (r : Fin 16) (s : State) : Out :=
  .next (match (s.rod r).stopAt with
    | some t => if t + 1000000 ≤ s.elapsed && !s.atSafePoint r then rodHaltNow s r else s
    | none => s)

/-- The template slice has been copied, after the stores the Rod had issued before: the program leaves STARTING and runs
(R84, R88). -/
def execTemplateCopyDone (r : Fin 16) (s : State) : Out :=
  .next (match tabFind s.programs r with
    | some p =>
      if s.domOn 2 && s.rodSt r == rodStarting then
        let s := drain s r (fun q => postedClass q == 0)
        let s := { s with
          frame := cellsCopy s.frame s.template p.tplStart p.dataSize p.dataBase,
          beadErr := beadErrClear s.beadErr p.dataBase p.dataSize }
        s.setRodSt r rodRunning
      else s
    | none => s)

/-- A physical Rod degrades (R520). -/
def rodDegrades (s : State) : RodSign → Bool
  | .errors n => decide (s.f F.HLT_SCRUB_RODCE_TH ≤ n.toNat)
  | .pace a b c => decide (a.toNat < 400) && decide (b.toNat < 400) && decide (c.toNat < 400)
  | .handshake ns => decide (1000 < ns.toNat)

/-- The health monitor marks the physical Rod of a logical Rod that degrades for migration (R68, R520); one asleep then is
at a safe point. DEDUCED: log entry 120. -/
def execRodMarked (m : RodMark) (s : State) : Out :=
  let r : Nat := m.rod
  .next (if s.domOn 2 && s.rodSt r != rodShed && !(s.rod r).marked && rodDegrades s m.sign then
      let s := s.setRod r { s.rod r with marked := true }
      if s.atSafePoint r then reachSafePoint s r else s
    else s)

/-- A marked Rod at a safe point begins to move: one migration at a time, 1 ms apart (R68, R69). Its accesses but S
complete; with no spare left a victim's Rod is taken, or the Rod itself is shed (R522). -/
def execMigrationStart (r : Fin 16) (s : State) : Out :=
  .next (
    if s.domOn 2 && (s.rod r).marked && s.atSafePoint r && !(s.rod r).stay && !migrationBarred s then
      let old := s.physOf r
      match takeRod (drainAll s r) r with
      | (some p, s) => { s with migration := some ⟨r, p, s.elapsed, {}⟩ }
      | (none, s) => poolsUpdate (retireRod s old)
    else s)

/-- The spare is bound to the logical Rod and resumes its WAIT or FENCE; the old physical Rod is retired and event 0xF0
posted; a WAIT with a wake condition held returns (R69, R70). DEDUCED: log entry 121. -/
def execMigrationEnd (s : State) : Out :=
  .next (match (wakeHold s).migration with
    | some m =>
      let old := s.physOf m.rod
      let s := retireRod (bindRod s m.rod m.phys) old
      let s := healthEvent s m.rod 1 0xF0 m.phys (word old)
      let s := s.setRod m.rod { s.rod m.rod with marked := false }
      let s := poolsUpdate { s with migration := none, migEnd := some s.elapsed }
      match (s.rod m.rod).hold with
      | .wait ws => if m.held.any then waitReturn s m.rod ws m.held false else s
      | _ => s
    | none => s)

/-- A physical Rod fails outright (R72): it is retired; the logical Rod it carried takes a spare or a victim's Rod, or
is shed (R522); a program it ran has faulted, with cause ROD_FAIL (R129), and its POLICY follows (R86), but for a logical
Rod that is itself the victim. DEDUCED: log entry 122. -/
def execRodFail (p : Fin 18) (s : State) : Out :=
  .next (
    if !s.domOn 2 || s.sto.umap.rods.contains p.val then s
    else
      let owner := (List.range 16).find? (fun r => s.physOf r == p.val)
      let s := if s.migration.any (fun m => m.phys == p.val || owner == some m.rod)
        then { s with migration := none, migEnd := some s.elapsed } else s
      let s := retireRod s p
      match owner with
      | none => poolsUpdate (healthEvent s p 1 0xF1 p (word (spareRods s).length))
      | some r =>
        let ran := s.rodSt r == rodRunning || s.rodSt r == rodWaiting || s.rodSt r == rodStarting
        let s := if ran then
            let s := (s.wr R.FRM_EPC (s.rd R.FRM_PC r) r).wr R.FRM_EADDR 0 r
            s.wr R.FRM_ECAUSE (word (bit (s.rod r).inHandler * 256 + 0x0E)) r
          else s
        let s := healthEvent (voidReservations s r) r 1 0xF1 p (word ((spareRods s).length - 1))
        let (np, s) := takeRod s r
        match np with
        | none =>
          let s := poolsUpdate s
          if ran then healthEvent s r 1 0xF3 (s.f F.FRM_RSTAT_POLICY r) (s.rd R.FRM_ECAUSE r) else s
        | some q =>
          let s := poolsUpdate (bindRod s r q)
          let s := s.setRod r { s.rod r with marked := false }
          if ran then programFault s r else s)

end Sys2Proof.Machine
end

