-- ==== Sys2Proof/Machine/Link.lean ====
section
/-! DEFINITION. Sys2Proof/Machine/Link.lean: the host engine: Tarbylink, program loading, and the network protocols
(spec/13_columns_and_links.md R454 to R486; spec/14_store_and_spares.md R501 to R506, R512). -/

namespace Sys2Proof.Machine

/-! ### What a port takes (R470, R493) -/

/-- A frame reaches port `p`: it is counted; the flag says whether its VLAN tag and IP version are accepted. -/
def netArrive (s : State) (p : Nat) (src : NetSrc) : Bool × State :=
  (netTakes s p src, s.netAdd p R.NETH_RXFRM R.NETL_RXFRM 1)

/-- What a frame to port `p` does: nothing where the port carries none, counted and dropped where its tag or IP version is
not accepted. What R537 puts before the frames of a step has its effect first. -/
def netFrame (s : State) (p : Nat) (src : NetSrc) (body : State → State) : State :=
  let s := critsAhead s
  if !s.portUp p then s
  else
    match netArrive s p src with
    | (true, s) => body s
    | (false, s) => netDrop s p

/-! ### Frames that fail (R482) -/

/-- The Column whose identity a frame has (R454). -/
def colOfTl (s : State) (f : TlFrame) : Option Nat :=
  (List.range 256).find? (fun n =>
    s.colSt n != coFree && s.f F.COL_STATE_MEDIUM n == portCode f.port && s.f F.COL_STATE_KEYSEL n == tlKey f
      && s.fb F.COL_STATE_IPV6 n == f.src.v6 && s.f F.COL_PORT_V n == f.src.udp.toNat
      && (if f.src.v6 then (List.range 4).all (fun i => s.rd R.COL_ADDR n i == word (f.src.ip.toNat / 2 ^ (32 * i)))
          else s.rd R.COL_ADDR n 0 == word f.src.ip.toNat))

/-- A frame fails: counted at the port and at the Column whose identity it carries, with event 0xE8 for the first. -/
def tlAuthFail (s : State) (f : TlFrame) : State :=
  let s := s.netAdd (portCode f.port) R.NETH_AUTHFAIL R.NETL_AUTHFAIL 1
  match colOfTl s f with
  | some n =>
    let first := s.f F.COL_HLTH_AUTHFAIL n = 0
    let s := colBump s F.COL_HLTH_AUTHFAIL n 1
    if first then colEvent s n 0xE8 0 (word (s.f F.COL_HLTH_AUTHFAIL n)) else s
  | none => s

/-! ### A frame of a Column (R456, R461 to R463, R468, R471) -/

/-- COL_TOFS from a frame with a TSTAMP and the TB_NOW of its reception (R463). -/
def tlTofs (s : State) (n : Nat) (f : TlFrame) : State := if f.tstamp = 0 then s else colTofs s n f.tstamp.toInt s.net.rxTb

/-- A frame of Column `n` that has passed R482: the sequence check, then liveness, admission, time offset and credit. The
flag says that the frame is valid. A RETIRED Column's frames are ignored. -/
def tlColumn (s : State) (n : Nat) (f : TlFrame) : Bool × State :=
  if s.colSt n = coRetired then (false, s)
  else
    let s := s.setCol n { s.colX n with mac := f.src.mac.toNat, vlan := f.src.vlan.map BitVec.toNat }
    match colSeqStep s n f.seq.toNat 16 with
    | (false, s) => (false, s)
    | (true, s) =>
      let s := tlTofs (colValid s n (portCode f.port)) n f
      (true, if s.colSt n = coAdmitted then colCredit s n f.credit.toNat else s)

/-- A message that only an ADMITTED Column's partner may send: `body` acts on the Column. -/
def tlForColumn (s : State) (f : TlFrame) (body : State → Nat → State) : State :=
  match colOfTl s f with
  | none => s
  | some n =>
    match tlColumn s n f with
    | (true, s) => if s.colSt n = coAdmitted then body s n else s
    | (false, s) => s

/-- The key slot of a frame grants permission bit `b` of KPERM (R495). -/
def tlMay (s : State) (f : TlFrame) (b : Nat) : Bool := maskBit (keyPerm s (tlKey f)) b

/-! ### HELLO and BYE (R456, R457, R459, R460, R473, R484) -/

/-- The first enabled filter that accepts a HELLO (R459). DEDUCED: log entry 106. -/
def afOfTl (s : State) (f : TlFrame) : Option Nat :=
  (List.range 16).find? (fun k =>
    s.fb F.AF_CTL_EN k && s.f F.AF_CTL_MEDIUM k == portCode f.port && bits (s.rd R.AF_ID k) 2 0 == tlKey f
      && (word f.src.ip.toNat ^^^ s.rd R.AF_MATCH k) &&& s.rd R.AF_MASK k == 0)

/-- The RX_LIMITs of the Columns that share a port's receive ring (R460). -/
def rxLimits (s : State) (p : Nat) : Nat :=
  ((List.range 256).map (fun n => if s.colSt n != coFree && s.f F.COL_STATE_MEDIUM n == p then s.f F.COL_RX_RX_LIMIT n else 0)).sum

/-- HELLO_ACK to Column `n`. -/
def helloAck (s : State) (n : Nat) : State :=
  colSend s n 0x02 (leBytes n 4 ++ leBytes (sysPeek s .SYS_CONFIG 0).toNat 4)

/-- Column `n` is taken for the HELLO that filter `k` accepts. -/
def tlTake (s : State) (n k : Nat) (f : TlFrame) : State :=
  let s := colTake s n k (portCode f.port)
    { book := true, seqKnown := true, mac := f.src.mac.toNat, vlan := f.src.vlan.map BitVec.toNat }
  let s := ((s.setF F.COL_STATE_KEYSEL (tlKey f) n).setB F.COL_STATE_IPV6 f.src.v6 n).setF F.COL_PORT_V f.src.udp.toNat n
  let s := s.setF F.COL_SEQ_RXSEQ f.seq.toNat n
  foldN (if f.src.v6 then 4 else 1) (fun s i => s.wr R.COL_ADDR (word (f.src.ip.toNat / 2 ^ (32 * i))) n i) s

/-- A HELLO offered to the filters. A Column is asked for first, then room in the receive ring.
DEDUCED: log entry 89. -/
def tlNewcomer (s : State) (f : TlFrame) : State :=
  let p := portCode f.port
  match afOfTl s f with
  | none => s
  | some k =>
    match colFreeOne s with
    | none => colNoRoom s k
    | some n =>
      if s.ringSize (rxRing p) < rxLimits s p + s.f F.AF_LIM_RX_LIMIT k then s.addR R.COL_NOSPACE 1
      else
        let s := tlTofs (tlTake s n k f) n f
        if (s.colX n).admitN ≤ 1 then helloAck (colCredit (colAdmit s n) n f.credit.toNat) n else s

/-- A HELLO (R473, R484): a Column that holds the key slot for another partner is retired with RCAUSE takeover. -/
def tlHello (s : State) (f : TlFrame) : State :=
  if !s.domOn 2 then s
  else
    let own := colOfTl s f
    let s := foldN 256 (fun s n =>
      if 8 ≤ s.f F.COL_STATE_MEDIUM n ∧ s.f F.COL_STATE_KEYSEL n = tlKey f ∧ own ≠ some n then colRetire s n 3 else s) s
    match own with
    | some n =>
      match tlColumn s n f with
      | (true, s) => if s.colSt n = coAdmitted then helloAck s n else s
      | (false, s) => s
    | none => tlNewcomer s f

/-- A BYE retires its Column in every state but RETIRED (R456). DEDUCED: log entry 88. -/
def tlBye (s : State) (f : TlFrame) : State :=
  match colOfTl s f with
  | none => s
  | some n =>
    match tlColumn s n f with
    | (true, s) => colRetire s n 1
    | (false, s) => s

/-! ### Register and memory access (R474, R475) -/

/-- Word `i` of a payload. -/
def payWord (d : List Nat) (i : Nat) : Nat := leAt d (4 * i) 4

/-- Register space without the Rods' own window (R44). -/
def hostRegSpace (a : Nat) : Bool :=
  decide (0x10000000 ≤ a) && decide (a < 0x70000000) && !(decide (0x1100F000 ≤ a) && decide (a < 0x1100F100))

/-- One entry of a REG_READ: value and status. -/
def hostRead (s : State) (a : Nat) : Nat × Nat × State :=
  if a % 4 ≠ 0 then (0, 1, s)
  else if a < 0x800000 then
    if s.inRing a 4 then (0, 1, s)
    else
      match beadCheck s (a / 16) with
      | (true, s) => (0, 2, s)
      | (false, s) => (cellsRead s.frame a 4, 0, s)
  else if hostRegSpace a then
    let (v, s) := readAddr a s
    (v.toNat, 0, s)
  else (0, 1, s)

/-- One entry of a REG_WRITE: its status. -/
def hostWrite (s : State) (a : Nat) (v : Word) : Nat × State :=
  if a % 4 ≠ 0 then (1, s)
  else if a < 0x800000 then
    if s.inRing a 4 then (1, s)
    else
      match beadCheck s (a / 16) with
      | (true, s) => (2, s)
      | (false, s) => (0, { s with frame := cellsWrite s.frame a 4 v.toNat })
  else if hostRegSpace a then (0, writeAddr .host a v s)
  else (1, s)

/-- A REG_READ of `n` addresses. -/
def tlRegRead (s : State) (f : TlFrame) : State :=
  let d := natBytes f.payload
  tlForColumn s f fun s c =>
    let n := d.length / 4 - 1
    let (out, s) := if tlMay s f 0 then
        foldN n (fun acc i =>
          let (v, st, s) := hostRead acc.2 (payWord d (i + 1))
          (acc.1 ++ leBytes v 4 ++ leBytes st 4, s)) (([] : List Nat), s)
      else ((List.replicate n (leBytes 0 4 ++ leBytes 4 4)).flatten, s)
    colSend s c 0x11 (d.take 4 ++ out)

/-- A REG_WRITE of `n` pairs, each applied before the next. A reset that one of them causes ends the rest. -/
def tlRegWrite (s : State) (f : TlFrame) : State :=
  let d := natBytes f.payload
  tlForColumn s f fun s c =>
    let n := (d.length - 4) / 8
    let (out, s) := if tlMay s f 1 then
        foldN n (fun acc i =>
          if acc.2.colSt c = coFree then acc
          else
            let (st, s) := hostWrite acc.2 (payWord d (2 * i + 1)) (word (payWord d (2 * i + 2)))
            (acc.1 ++ leBytes st 4, s)) (([] : List Nat), s)
      else ((List.replicate n (leBytes 4 4)).flatten, s)
    colSend s c 0x13 (d.take 4 ++ out)

/-! ### Beads, credit and values (R462, R465, R466, R468, R476) -/

/-- The beads of a payload, 16 bytes each. -/
def payBeads (d : List Nat) : List Bead := (List.range (d.length / 16)).map (fun i => BitVec.ofNat 128 (leAt d (16 * i) 16))

/-- A RING_DATA: one record in the port's receive ring, within the Column's credit. DEDUCED: log entry 90. -/
def tlRingData (s : State) (f : TlFrame) : State :=
  let p := portCode f.port
  let d := natBytes f.payload
  let n := d.length / 16
  let r := rxRing p
  let s := if tlMay s f 2 then s else netDrop s p
  tlForColumn s f fun s c =>
    if !tlMay s f 2 then s
    else if !colCredits s c (1 + n) then netDrop (colCredViol s c) p
    else if !s.ringOn r || (s.ring r).closing || s.nat R.CRG_TALLY r < 1 + n then s.addR R.CRG_LOST (1 + n) r
    else
      let head := ofLanes (word (c + n * 2 ^ 8 + 0xD5 * 2 ^ 24)) (word f.seq.toNat) (word s.net.rxTb) (word (s.net.rxTb / 2 ^ 32))
      colReceived (ringAddAll s r (head :: payBeads d) (some c)) c (1 + n)

/-- A VALUES message: bit 0 of an entry's flags sets FAULT, bit 1 CLIPPED. An entry for no slot is skipped. -/
def tlValues (s : State) (f : TlFrame) : State :=
  let d := natBytes f.payload
  tlForColumn s f fun s c =>
    foldN (d.length / 8) (fun s i =>
      let k := d.getD (8 * i) 0
      let fl := d.getD (8 * i + 1) 0
      if k < 4 then
        colPublish s c k (fl % 2 * flFault + fl / 2 % 2 * flClipped) (sext (leAt d (8 * i + 4) 4) 32)
      else s) s

/-! ### Program loading (R478, R501, R502) -/

/-- A LOAD message: refused with status 2 without the permission. -/
def tlLoad (s : State) (f : TlFrame) (body : State → Nat → Nat → List Nat → State) : State :=
  let d := natBytes f.payload
  tlForColumn s f fun s c => if tlMay s f 3 then body s c (payWord d 0) d else loadRsp s c (payWord d 0) 2

/-- LOAD_BEGIN opens a load; an image staged earlier is discarded. -/
def tlLoadBegin (s : State) (f : TlFrame) : State :=
  tlLoad s f fun s c id d =>
    let size := payWord d 1
    let other := (s.sto.load.map (fun l => l.col != c)).getD false
    if other || s.sto.commit.isSome then loadRsp s c id 1
    else
      let s := loadAbort s
      if 0x400000 < size then loadRsp s c id 3
      else loadRsp ((s.setSto { s.sto with load := some ⟨c, size⟩ }).setF F.STO_STAT_LOADOPEN 1) c id 0

/-- LOAD_DATA writes image bytes into the target bank. A chunk that is no multiple of 16 must end the image.
DEDUCED: log entry 80. -/
def tlLoadData (s : State) (f : TlFrame) : State :=
  tlLoad s f fun s c id d =>
    let off := payWord d 1
    let bytes := d.drop 8
    match s.sto.load with
    | none => loadRsp s c id (if s.sto.commit.isSome then 1 else 6)
    | some l =>
      if l.col ≠ c ∨ s.sto.commit.isSome then loadRsp s c id 1
      else if l.size < off + bytes.length then loadRsp (loadAbort s) c id 3
      else if bytes.length % 16 ≠ 0 ∧ off + bytes.length ≠ l.size then netDrop s (portCode f.port)
      else
        let b := s.sto.targetB
        let s := stoOpen s b
        let k := s.sto.bank b
        let s := s.setSto (s.sto.setBank b { k with cells := cellsWriteBytes k.cells off (bytes.map (BitVec.ofNat 8)) })
        loadRsp s c id 0

/-- LOAD_COMMIT checks the staged image and starts the commit, which answers when it ends. -/
def tlLoadCommit (s : State) (f : TlFrame) : State :=
  tlLoad s f fun s c id d =>
    match s.sto.load with
    | none => loadRsp s c id (if s.sto.commit.isSome then 1 else 6)
    | some l =>
      if l.col ≠ c ∨ s.sto.commit.isSome then loadRsp s c id 1
      else
        let image := (s.sto.bank s.sto.targetB).cells.filter (fun x => decide (x.1 < 0x400000))
        if imageOk image (some l.size) then
          let s := (s.setSto { s.sto with load := none }).setF F.STO_STAT_LOADOPEN 0
          commitStart s (some ⟨c, id, payWord d 1 % 2 == 1⟩)
        else loadRsp (loadAbort s) c id 3

/-- What a load's commit answers as it ends (R478, R479). -/
def loadEnd (s : State) (r : LoadReq) (ok : Bool) : State :=
  if !ok then loadAnswer s r 4
  else if !r.activate then loadAnswer s r 0
  else if s.mode = modeReady then loadActivate s r
  else loadAnswer s r 5

/-- COMMIT_END (R504 to R507, R512): the running commit ends, `fails` naming the pages whose verifies failed. -/
def execCommitEnd (fails : List Nat) (s : State) : Host.Outcome State Fault Refusal :=
  .next (
    match commitFinish s fails with
    | (none, s) => s
    | (some (c, ok), s) =>
      let s := match c.load with
        | some r => loadEnd s r ok
        | none => s
      exitAfter s ok)

/-! ### STATUS_Q and WAKE (R473, R485) -/

/-- A STATUS_Q: answered to the Column it belongs to, or to where it came from. -/
def tlStatus (s : State) (f : TlFrame) : State :=
  let p := portCode f.port
  let d := natBytes f.payload
  let answer := fun (s : State) (col : Option Nat) =>
    netSend s { key := tlKey f, col := col, port := p, mac := f.src.mac.toNat, vlan := f.src.vlan.map BitVec.toNat,
                v6 := f.src.v6, ip := f.src.ip.toNat, udp := f.src.udp.toNat, type := 0x51,
                payload := d.take 4 ++ leBytes (s.rd R.SYS_MODE).toNat 4
                  ++ leBytes (sysPeek s .SYS_CONFIG 0).toNat 4 ++ leBytes s.tbNow 8 }
  let ok := tlMay s f 4
  let s := if ok then s else netDrop s p
  match colOfTl s f with
  | some n =>
    if s.colSt n = coRetired then (if ok then answer s none else s)
    else
      match tlColumn s n f with
      | (true, s) => if ok then answer s (some n) else s
      | (false, s) => s
  | none => if ok then answer s none else s

/-- A WAKE: in Dormant, on L0, it starts the resume. -/
def tlWake (s : State) (f : TlFrame) : State :=
  let ok := tlMay s f 4
  let s := if ok then s else netDrop s (portCode f.port)
  let s := match colOfTl s f with
    | some n => (tlColumn s n f).2
    | none => s
  if ok && f.port == .l0 then wake s 1 else s

/-! ### Frames by type (R473) -/

/-- The payload length fits the type. -/
def tlLenOk (type len : Nat) : Bool :=
  match type with
  | 0x01 | 0x03 | 0x21 | 0x52 => len == 0
  | 0x10 => len % 4 == 0 && decide (8 ≤ len) && decide (len ≤ 516)
  | 0x12 => len % 8 == 4 && decide (12 ≤ len) && decide (len ≤ 516)
  | 0x20 => len % 16 == 0 && decide (16 ≤ len) && decide (len ≤ 1024)
  | 0x30 | 0x32 => len == 8
  | 0x31 => decide (24 ≤ len) && decide (len ≤ 1032)
  | 0x40 => len % 8 == 0 && decide (8 ≤ len) && decide (len ≤ 32)
  | 0x50 => len == 4
  | _ => false

/-- What a message does that has passed R482; in Dormant only STATUS_Q and WAKE on L0 are handled (R485).
DEDUCED: log entry 87. -/
def tlMessage (s : State) (type : Nat) (f : TlFrame) : State :=
  if s.mode = modeDormant ∧ (f.port ≠ .l0 ∨ (type ≠ 0x50 ∧ type ≠ 0x52)) then s
  else if !tlLenOk type f.payload.length then netDrop s (portCode f.port)
  else
    match type with
    | 0x01 => tlHello s f
    | 0x03 => tlBye s f
    | 0x10 => tlRegRead s f
    | 0x12 => tlRegWrite s f
    | 0x20 => tlRingData s f
    | 0x21 => tlForColumn s f (fun s _ => s)
    | 0x30 => tlLoadBegin s f
    | 0x31 => tlLoadData s f
    | 0x32 => tlLoadCommit s f
    | 0x40 => tlValues s f
    | 0x50 => tlStatus s f
    | 0x52 => tlWake s f
    | _ => s

/-- Check 4 and what follows, for a frame received at TB_NOW `tb`: REPLAY exceeds KRXHW, which becomes REPLAY; the host
timer restarts (R380). -/
def tlPass (s : State) (type tb : Nat) (f : TlFrame) : State :=
  let k := tlKey f
  if f.replay.toNat ≤ s.rd64 R.KRXHW_LO R.KRXHW_HI k then tlAuthFail s f
  else
    let s := s.wr64 R.KRXHW_LO R.KRXHW_HI f.replay.toNat k
    let s := { s with net := { s.net with rxTb := tb } }
    tlMessage (s.setSys { s.sys with hostAt := s.elapsed }) type f

/-- A Tarbylink frame arrives (R470, R472, R482): a failed check is counted, a frame above the mark waits, and those behind
it of its slot with it. DEDUCED: log entry 85. -/
def tlFrame (s : State) (type : Nat) (f : TlFrame) : State :=
  netFrame s (portCode f.port) f.src fun s =>
    if !tlAuthentic s type f then tlAuthFail s f
    else if s.net.inQ.any (fun q => tlKey q.frame == tlKey f)
        || (krxWaits s f && decide (s.rd64 R.KRXHW_LO R.KRXHW_HI (tlKey f) < f.replay.toNat)) then
      { s with net := { s.net with inQ := s.net.inQ ++ [⟨type, s.tbNow, f⟩] } }
    else tlPass s type s.tbNow f

/-- Frames that wait for slot `k` go on, in order, as far as the mark lets them. -/
def tlPump : Nat → State → Nat → State
  | 0, s, _ => s
  | fuel + 1, s, k =>
    match s.net.inQ.find? (fun q => tlKey q.frame == k) with
    | some q =>
      if krxWaits s q.frame then s
      else
        let s := { s with net := { s.net with inQ := s.net.inQ.erase q } }
        tlPump fuel (tlPass s q.type q.tb q.frame) k
    | none => s

/-- A frame outside the supported protocols or with a bad checksum is counted and dropped (R470). -/
def netForeign (s : State) (p : Nat) : State :=
  if s.portUp p then netDrop (s.netAdd p R.NETH_RXFRM R.NETL_RXFRM 1) p else s

/-- REPLAY_MARK_WRITTEN (R481, R513): the receive or transmit mark of slot `k` rises by 65,536, and frames that wait go
on. -/
def execReplayMarkWritten (k : Fin 8) (tx : Bool) (s : State) : Host.Outcome State Fault Refusal :=
  .next (
    let n := k.val
    let m := s.sto.mark n
    if tx then
      if s.net.outQ.any (fun g => g.key == n) && ktxWaits s n then
        let s := s.setSto (s.sto.putMark n { m with ktx := m.ktx + 65536 })
        netPump s.net.outQ.length s n
      else s
    else
      match s.net.inQ.find? (fun q => tlKey q.frame == n) with
      | some q =>
        if krxWaits s q.frame then
          let s := s.setSto (s.sto.putMark n { m with krxhw := m.krxhw + 65536 })
          tlPump s.net.inQ.length s n
        else s
      | none => s)

/-! ### Records the host engine sends (R467, R476, R477) -/

/-- The committed beads of ring `n` from its head, void beads apart. -/
def ringBeads (s : State) (n : Nat) : List Nat :=
  ((List.range (s.nat R.CRG_COUNT n)).map (fun k => (s.nat R.CRG_HEAD n + k) % s.ringSize n)).filter
    (fun slot => !(s.ring n).voids.contains slot)

/-- Remove `k` beads of ring `n`: their data, and whether one was poisoned. -/
def ringTake : Nat → State → Nat → List Bead → Bool → List Bead × Bool × State
  | 0, s, _, acc, bad => (acc, bad, s)
  | k + 1, s, n, acc, bad =>
    match ringPop s n with
    | (.bead b, tags, s) => ringTake k (creditReturn s tags) n (acc ++ [b]) bad
    | (.poison, tags, s) => ringTake k (creditReturn s tags) n acc true
    | (.empty, tags, s) => (acc, bad, creditReturn s tags)

/-- A record of transmit ring `r` goes to a Column on this port. -/
def txPortOk (s : State) (r n : Nat) : Bool :=
  let m := s.f F.COL_STATE_MEDIUM n
  s.colSt n != coFree && (if r = 11 then m == 8 else m == 9 || m == 10)

/-- The head of ring `r` is discarded with the `k` beads that it claims, in one discard of port `p`: those that have not been
pushed go with it as they come (R477). -/
def txDiscard (s : State) (r p k : Nat) : State :=
  let here := min k (ringBeads s r).length
  let (_, _, s) := ringTake here s r [] false
  let owed := tabGet 0 s.net.txOwed r + (k - here)
  ({ s with net := { s.net with txOwed := tabPut s.net.txOwed r owed } }).netAdd p R.NETH_TXDROP R.NETL_TXDROP 1

/-- The head record of transmit ring `r` (R476, R477): beads of a record discarded before go first. -/
def txRecord (s : State) (r : Nat) : State :=
  let s := ringSkip (s.nat R.CRG_COUNT r) s r
  let owed := tabGet 0 s.net.txOwed r
  match ringBeads s r with
  | [] => s
  | slot :: _ =>
    let here := (ringBeads s r).length
    if owed ≠ 0 then
      let (_, _, s) := ringTake (min owed here) s r [] false
      { s with net := { s.net with txOwed := tabPut s.net.txOwed r (owed - here) } }
    else
      let b := lane (s.frameBead (s.slotAddr r slot)) 0
      let col := bits b 7 0
      let n := bits b 15 8
      let type := bits b 23 16
      let m := s.f F.COL_STATE_MEDIUM col
      let p := if r = 11 then 8 else if s.colSt col != coFree && m == 10 then 10 else 9
      let err := tabFind s.beadErr (s.slotAddr r slot / 16)
      if err == some .poisoned || err == some .double || bits b 31 24 != 0xD5 then txDiscard s r p 1
      else if 2 ≤ type || (n == 0 && type == 0) || 64 < n || !txPortOk s r col || s.colSt col != coAdmitted then
        txDiscard s r p (1 + n)
      else if here < 1 + n || colTally s col < (1 + n : Nat) then s
      else
        let (beads, bad, s) := ringTake (1 + n) s r [] false
        if bad then s.netAdd p R.NETH_TXDROP R.NETL_TXDROP 1
        else
          let s := s.setF F.COL_TXBK_SENT (s.f F.COL_TXBK_SENT col + 1 + n) col
          colSend s col (if type = 0 then 0x20 else 0x22) ((beads.drop 1).flatMap (fun b => leBytes b.toNat 16))

/-- HOST_TX_RECORD (R477): the head record of CR11 (`host`) or CR14 is sent, discarded or waits.
DEDUCED: log entry 92. -/
def execHostTxRecord (host : Bool) (s : State) : Host.Outcome State Fault Refusal :=
  .next (
    let r := if host then 11 else 14
    if !s.ringOn r || !(s.domOn 1 || r == 14) then s else txRecord s r)

/-- CREDIT_TIMER (R467): freed credit has waited CRED_US. -/
def execCreditTimer (n : Fin 256) (s : State) : Host.Outcome State Fault Refusal :=
  .next (
    let c := n.val
    let p := s.f F.COL_STATE_MEDIUM c
    match (s.colX c).freedAt with
    | some t =>
      if s.colSt c = coAdmitted ∧ 8 ≤ p ∧ colOwed s c ≠ 0
          ∧ t + s.netF p F.NETH_CRED_CRED_US F.NETL_CRED_CRED_US * 1000 ≤ s.elapsed
          ∧ !s.net.outQ.any (fun f => f.col == some c) then colSend s c 0x21 []
      else s
    | none => s)

/-! ### ARP, NDP, ICMP and links (R469, R470) -/

/-- The MAC address of port `p`, byte 0 first. -/
def macBytes (s : State) (p : Nat) : List Nat :=
  leBytes (s.netRd p R.NETH_MAC_LO R.NETL_MAC_LO).toNat 4 ++ leBytes (s.netRd p R.NETH_MAC_HI R.NETL_MAC_HI).toNat 2

/-- The global IPv6 address of port `p`. -/
def ip6Of (s : State) (p : Nat) : Nat :=
  (List.range 4).foldl (fun v i => v + (s.netRd p R.NETH_IP6 R.NETL_IP6 i).toNat * 2 ^ (32 * i)) 0

/-- The link-local address of port `p`, from its MAC address in EUI-64 form. -/
def linkLocal (s : State) (p : Nat) : Nat :=
  match macBytes s p with
  | [a, b, c, d, e, f] => beAt [0xFE, 0x80, 0, 0, 0, 0, 0, 0, a ^^^ 2, b, c, 0xFF, 0xFE, d, e, f] 0 16
  | _ => 0

/-- An answer goes back to where a frame came from. PRESUMED: log entry 93. -/
def netReply (s : State) (p : Nat) (src : NetSrc) (what : String) (data : List Nat) : State :=
  { s with sent := s.sent ++ [⟨p, what, [src.mac.toNat, ((src.vlan.map BitVec.toNat).map (· + 1)).getD 0, bit src.v6, src.ip.toNat],
                              data⟩] }

/-- ARP_REQUEST (R470): a request for the port's IPv4 address is answered, with that address and the MAC address. -/
def execArpRequest (port : NetPort) (src : NetSrc) (target : BitVec 32) (s : State) : Host.Outcome State Fault Refusal :=
  .next (
    let p := portCode port
    netFrame s p { src with v6 := false } fun s =>
      if s.netRd p R.NETH_IP4 R.NETL_IP4 = target then
        netReply s p { src with v6 := false } "ARP_REPLY" (beBytes target.toNat 4 ++ macBytes s p)
      else netDrop s p)

/-- NEIGHBOUR_SOLICITATION (R470): answered for the link-local and the global address, with that address and the MAC
address. -/
def execNeighbourSolicitation (port : NetPort) (src : NetSrc) (target : BitVec 128) (s : State) :
    Host.Outcome State Fault Refusal :=
  .next (
    let p := portCode port
    netFrame s p { src with v6 := true } fun s =>
      if target.toNat = linkLocal s p ∨ (target ≠ 0 ∧ target.toNat = ip6Of s p) then
        netReply s p { src with v6 := true } "NEIGHBOUR_ADVERTISEMENT" (beBytes target.toNat 16 ++ macBytes s p)
      else netDrop s p)

/-- ECHO_REQUEST (R470, R485): answered with its own data up to 1,472 bytes, and never in Dormant. -/
def execEchoRequest (port : NetPort) (src : NetSrc) (data : List (BitVec 8)) (s : State) : Host.Outcome State Fault Refusal :=
  .next (
    let p := portCode port
    netFrame s p src fun s =>
      if data.length ≤ 1472 ∧ s.mode ≠ modeDormant then netReply s p src "ECHO_REPLY" (natBytes data) else netDrop s p)

/-- The speed the host port tries: 1 for 1000BASE-T1, 2 for 100BASE-T1 (R469). -/
def hostSpeed (s : State) : Nat :=
  if s.f F.NETH_CTL_SPEED = 0 then max 1 (tabGet ({} : PortX) s.net.ports 8).speed else s.f F.NETH_CTL_SPEED

/-- LINK_CHANGE (R469, R493): an enabled port's link comes up, at the speed in use, or goes down. -/
def execLinkChange (port : NetPort) (up : Bool) (s : State) : Host.Outcome State Fault Refusal :=
  .next (
    let p := portCode port
    let was := s.netF p F.NETH_STAT_LINK F.NETL_STAT_LINK == 1
    if !s.portOn p || up == was || (up && s.netF p F.NETH_CTL_EN F.NETL_CTL_EN == 0) then s
    else
      let s := s.netSetF p F.NETH_STAT_LINK F.NETL_STAT_LINK (bit up)
      let s := s.netSetF p F.NETH_STAT_LINKCHG_SEEN F.NETL_STAT_LINKCHG_SEEN 1
      let s := s.netSetF p F.NETH_STAT_SPEED_NOW F.NETL_STAT_SPEED_NOW (if !up then 0 else if p = 8 then hostSpeed s else 3)
      if p = 8 && !up then { s with net := { s.net with ports := tabPut s.net.ports 8 { speed := 1, since := s.elapsed } } } else s)

/-- LINK_SPEED_TRY (R469): 2 s without a link on the host port, SPEED auto. DEDUCED: log entry 94. -/
def execLinkSpeedTry (s : State) : Host.Outcome State Fault Refusal :=
  .next (
    let x := tabGet ({} : PortX) s.net.ports 8
    if s.portOn 8 ∧ s.fb F.NETH_CTL_EN ∧ s.f F.NETH_CTL_SPEED = 0 ∧ !s.fb F.NETH_STAT_LINK
        ∧ x.since + 2000000000 ≤ s.elapsed then
      { s with net := { s.net with ports := tabPut s.net.ports 8 { speed := if x.speed = 2 then 1 else 2, since := s.elapsed } } }
    else s)

end Sys2Proof.Machine
end

