-- ==== Sys2Proof/Machine/Writes.lean ====
section
/-! DEFINITION. Sys2Proof/Machine/Writes.lean: the commands that are an access to one register: each writes its field and
leaves the register's other fields as they are (spec/17_register_map.md R572 and the rules each cites). -/

namespace Sys2Proof.Machine

/-- ROD_START (R88): FRM_RCTL.START. -/
def execRodStart (r : Fin 16) (s : State) : Host.Outcome State Fault Refusal :=
  .next (writeFields s .host R.FRM_RCTL [(F.FRM_RCTL_START, 1)] r.val)

/-- ROD_STOP (R88): FRM_RCTL.STOP. -/
def execRodStop (r : Fin 16) (s : State) : Host.Outcome State Fault Refusal :=
  .next (writeFields s .host R.FRM_RCTL [(F.FRM_RCTL_STOP, 1)] r.val)

/-- DOORBELL (R66): FRM_DOORBELL bits of logical Rod `r`. -/
def execDoorbell (r : Fin 16) (bells : BitVec 16) (s : State) : Host.Outcome State Fault Refusal :=
  .next (writeFields s .host R.FRM_DOORBELL [(F.FRM_DOORBELL_V, bells.toNat)] r.val)

/-- RING_ENABLE (R62): CRG_CFG.EN = 1. -/
def execRingEnable (n : Fin 32) (s : State) : Host.Outcome State Fault Refusal :=
  .next (writeFields s .host R.CRG_CFG [(F.CRG_CFG_EN, 1)] n.val)

/-- RING_DISABLE (R62): CRG_CFG.EN = 0. -/
def execRingDisable (n : Fin 32) (s : State) : Host.Outcome State Fault Refusal :=
  .next (writeFields s .host R.CRG_CFG [(F.CRG_CFG_EN, 0)] n.val)

/-- RING_DISABLE_EFFECT (R62): a closed ring with nothing reserved drops its beads and is disabled. -/
def execRingDisableEffect (n : Fin 32) (s : State) : Host.Outcome State Fault Refusal :=
  .next (
    if s.domOn 2 && (s.ring n.val).closing && s.nat R.CRG_RESERVED n.val == 0 then
      let (tags, s) := ringDisableEffect s n.val
      creditReturn s tags
    else s)

/-- DFE_GO (R156): DFE_EXC_PLAN.GO. -/
def execDfeGo (n : Fin 8) (s : State) : Host.Outcome State Fault Refusal :=
  .next (writeFields s .host R.DFE_EXC_PLAN [(F.DFE_EXC_PLAN_GO, 1)] n.val)

/-- DFE_ENABLE (R166): DFE_CH_CTL.EN = 1. -/
def execDfeEnable (n : Fin 8) (s : State) : Host.Outcome State Fault Refusal :=
  .next (writeFields s .host R.DFE_CH_CTL [(F.DFE_CH_CTL_EN, 1)] n.val)

/-- DFE_DISABLE (R166): DFE_CH_CTL.EN = 0. -/
def execDfeDisable (n : Fin 8) (s : State) : Host.Outcome State Fault Refusal :=
  .next (writeFields s .host R.DFE_CH_CTL [(F.DFE_CH_CTL_EN, 0)] n.val)

/-- PFE_ENABLE (R199): PFE_CH_CTL.EN = 1. -/
def execPfeEnable (n : Fin 48) (s : State) : Host.Outcome State Fault Refusal :=
  .next (writeFields s .host R.PFE_CH_CTL [(F.PFE_CH_CTL_EN, 1)] n.val)

/-- PFE_DISABLE (R199): PFE_CH_CTL.EN = 0. -/
def execPfeDisable (n : Fin 48) (s : State) : Host.Outcome State Fault Refusal :=
  .next (writeFields s .host R.PFE_CH_CTL [(F.PFE_CH_CTL_EN, 0)] n.val)

/-- PFE_RANGE_WRITE (R188, R207): PFE_CH_RANGE. -/
def execPfeRangeWrite (n : Fin 48) (v : BitVec 32) (s : State) : Host.Outcome State Fault Refusal :=
  .next (writeReg .host R.PFE_CH_RANGE n.val 0 v s)

/-- CURVE_SLOT_WRITE (R210): word `w` of the slot of curve `c`. -/
def execCurveSlotWrite (c : Fin 256) (w : Fin 256) (v : BitVec 32) (s : State) : Host.Outcome State Fault Refusal :=
  .next (if s.domOn 2 then curveWrite s c.val w.val v else s)

/-- LOOP_CMD_OFF (R236): LPE_CTL.CMD = OFF. -/
def execLoopCmdOff (n : Fin 64) (s : State) : Host.Outcome State Fault Refusal :=
  .next (writeFields s .host R.LPE_CTL [(F.LPE_CTL_CMD, 1)] n.val)

/-- LOOP_CMD_AUTO (R236): LPE_CTL.CMD = AUTO. -/
def execLoopCmdAuto (n : Fin 64) (s : State) : Host.Outcome State Fault Refusal :=
  .next (writeFields s .host R.LPE_CTL [(F.LPE_CTL_CMD, 3)] n.val)

/-- LOOP_FIRE (R243): LPE_CTL.FIRE. -/
def execLoopFire (n : Fin 64) (s : State) : Host.Outcome State Fault Refusal :=
  .next (writeFields s .host R.LPE_CTL [(F.LPE_CTL_FIRE, 1)] n.val)

/-- LOOP_FIRE_CLR (R243): LPE_CTL.FIRE_CLR. -/
def execLoopFireClr (n : Fin 64) (s : State) : Host.Outcome State Fault Refusal :=
  .next (writeFields s .host R.LPE_CTL [(F.LPE_CTL_FIRE_CLR, 1)] n.val)

/-- COEFF_WRITE (R220, R221): the value, or the shift, of coefficient entry `k` of loop `n`. -/
def execCoeffWrite (n : Fin 64) (k : Fin 1024) (shift : Bool) (v : BitVec 32) (s : State) :
    Host.Outcome State Fault Refusal :=
  .next (writeReg .host (if shift then R.COEFS else R.COEF) n.val k.val v s)

/-- LOOP_RWL_WRITE (R238): the register at word `w` of the registers of loop `n`. -/
def execLoopRwlWrite (n : Fin 64) (w : Fin 160) (v : BitVec 32) (s : State) : Host.Outcome State Fault Refusal :=
  .next (writeAddr .host (0x20000000 + 0x1000 * n.val + 4 * w.val) v s)

/-- DL_POOL_WRITE (R229): tap `t` of the delay-line pool. -/
def execDlPoolWrite (t : Fin 16384) (v : BitVec 32) (s : State) : Host.Outcome State Fault Refusal :=
  .next (writeReg .host R.DLPOOL t.val 0 v s)

/-- LPE_MAN_WRITE (R240, R246): LPE_MAN[j]. -/
def execLpeManWrite (n : Fin 64) (j : Fin 4) (v : BitVec 32) (s : State) : Host.Outcome State Fault Refusal :=
  .next (writeReg .host R.LPE_MAN n.val j.val v s)

/-- LPE_REF_WRITE (R246): LPE_REF[l]. -/
def execLpeRefWrite (n : Fin 64) (l : Fin 4) (v : BitVec 32) (s : State) : Host.Outcome State Fault Refusal :=
  .next (writeReg .host R.LPE_REF n.val l.val v s)

/-- RC_SNAP (R271): RC_CTL.SNAP. -/
def execRcSnap (n : Fin 64) (s : State) : Host.Outcome State Fault Refusal :=
  .next (writeFields s .host R.RC_CTL [(F.RC_CTL_SNAP, 1)] n.val)

/-- RC_POOL_WRITE (R261): entry `e` of the learned-table pool. -/
def execRcPoolWrite (e : Fin 65536) (v : BitVec 32) (s : State) : Host.Outcome State Fault Refusal :=
  .next (writeReg .host R.RCPOOL e.val 0 v s)

/-- TRACE_ARM (R282): TRC_CTL.ARM. -/
def execTraceArm (c : Fin 8) (s : State) : Host.Outcome State Fault Refusal :=
  .next (writeFields s .host R.TRC_CTL [(F.TRC_CTL_ARM, 1)] c.val)

/-- TRACE_TRIG (R283): TRC_CTL.TRIG. -/
def execTraceTrig (c : Fin 8) (s : State) : Host.Outcome State Fault Refusal :=
  .next (writeFields s .host R.TRC_CTL [(F.TRC_CTL_TRIG, 1)] c.val)

/-- TRACE_STOP (R282): TRC_CTL.STOP. -/
def execTraceStop (c : Fin 8) (s : State) : Host.Outcome State Fault Refusal :=
  .next (writeFields s .host R.TRC_CTL [(F.TRC_CTL_STOP, 1)] c.val)

/-- SOL_CLEAR_TRIP (R310): SOL_CLR.TRIP. -/
def execSolClearTrip (n : Fin 24) (s : State) : Host.Outcome State Fault Refusal :=
  .next (writeFields s .host R.SOL_CLR [(F.SOL_CLR_TRIP, 1)] n.val)

/-- SOL_BANK_RESTORE (R311): SOL_BCTL.RESTORE. -/
def execSolBankRestore (b : Fin 6) (s : State) : Host.Outcome State Fault Refusal :=
  .next (writeFields s .host R.SOL_BCTL [(F.SOL_BCTL_RESTORE, 1)] b.val)

/-- SOL_ENABLE (R317): SOL_CTL.EN = 1. -/
def execSolEnable (n : Fin 24) (s : State) : Host.Outcome State Fault Refusal :=
  .next (writeFields s .host R.SOL_CTL [(F.SOL_CTL_EN, 1)] n.val)

/-- SOL_DISABLE (R317): SOL_CTL.EN = 0. -/
def execSolDisable (n : Fin 24) (s : State) : Host.Outcome State Fault Refusal :=
  .next (writeFields s .host R.SOL_CTL [(F.SOL_CTL_EN, 0)] n.val)

/-- SOL_CLASS_S_WRITE (R307): SOL_CLASS_S. -/
def execSolClassSWrite (v : BitVec 24) (s : State) : Host.Outcome State Fault Refusal :=
  .next (writeFields s .host R.SOL_CLASS_S [(F.SOL_CLASS_S_V, v.toNat)])

/-- LSW_CMD_OFF (R322): LSW_CMD.OP = OFF. -/
def execLswCmdOff (n : Fin 32) (s : State) : Host.Outcome State Fault Refusal :=
  .next (writeFields s .host R.LSW_CMD [(F.LSW_CMD_OP, 1)] n.val)

/-- LSW_CMD_ON (R322): LSW_CMD.OP = ON. -/
def execLswCmdOn (n : Fin 32) (s : State) : Host.Outcome State Fault Refusal :=
  .next (writeFields s .host R.LSW_CMD [(F.LSW_CMD_OP, 2)] n.val)

/-- LSW_CMD_PWM (R322): LSW_CMD.OP = PWM. -/
def execLswCmdPwm (n : Fin 32) (s : State) : Host.Outcome State Fault Refusal :=
  .next (writeFields s .host R.LSW_CMD [(F.LSW_CMD_OP, 3)] n.val)

/-- LSW_CLEAR_FAULT (R333): LSW_CLR.FAULT. -/
def execLswClearFault (n : Fin 32) (s : State) : Host.Outcome State Fault Refusal :=
  .next (writeFields s .host R.LSW_CLR [(F.LSW_CLR_FAULT, 1)] n.val)

/-- GROUP_RESTORE (R336): LSW_GRCTL.RESTORE. -/
def execGroupRestore (k : Fin 4) (s : State) : Host.Outcome State Fault Refusal :=
  .next (writeFields s .host R.LSW_GRCTL [(F.LSW_GRCTL_RESTORE, 1)] k.val)

/-- LSW_ENABLE (R342): LSW_CTL.EN = 1. -/
def execLswEnable (n : Fin 32) (s : State) : Host.Outcome State Fault Refusal :=
  .next (writeFields s .host R.LSW_CTL [(F.LSW_CTL_EN, 1)] n.val)

/-- LSW_DISABLE (R342): LSW_CTL.EN = 0. -/
def execLswDisable (n : Fin 32) (s : State) : Host.Outcome State Fault Refusal :=
  .next (writeFields s .host R.LSW_CTL [(F.LSW_CTL_EN, 0)] n.val)

/-- FAN_ZONE_ENABLE (R374, R378): FAN_ZCTL.EN = 1 of a zone of the zone table, or of the autonomous table (`auto`). -/
def execFanZoneEnable (auto : Bool) (z : Fin 32) (s : State) : Host.Outcome State Fault Refusal :=
  .next (
    if auto then writeFields s .host R.FANA_ZCTL [(F.FANA_ZCTL_EN, 1)] z.val
    else writeFields s .host R.FAN_ZCTL [(F.FAN_ZCTL_EN, 1)] z.val)

/-- RX_BUFFER_LOCK (R400): a read of word 0 of receive buffer `k`. -/
def execRxBufferLock (n : Fin 6) (k : Fin 64) (s : State) : Host.Outcome State Fault Refusal :=
  .next (if !s.domOn 6 || canQueued n.val then s else (rxRead s n.val k.val 0).2)

/-- RX_BUFFER_RELEASE (R400): a read of the release word of receive buffer `k`. -/
def execRxBufferRelease (n : Fin 6) (k : Fin 64) (s : State) : Host.Outcome State Fault Refusal :=
  .next (if !s.domOn 6 || canQueued n.val then s else (rxRead s n.val k.val (rxReleaseWord s n.val k.val)).2)

/-- RX_RELEASE_WRITE (R400): CAN_RXREL_LO, or CAN_RXREL_HI (`hi`). -/
def execRxReleaseWrite (n : Fin 6) (hi : Bool) (v : BitVec 32) (s : State) : Host.Outcome State Fault Refusal :=
  .next (writeReg .host (if hi then R.CAN_RXREL_HI else R.CAN_RXREL_LO) n.val 0 v s)

/-- CAN_TXREQ (R408): CAN_TXREQ. -/
def execCanTxreq (n : Fin 6) (v : BitVec 32) (s : State) : Host.Outcome State Fault Refusal :=
  .next (writeReg .host R.CAN_TXREQ n.val 0 v s)

/-- CAN_TXCANCEL (R412): CAN_TXCANCEL. -/
def execCanTxcancel (n : Fin 6) (v : BitVec 32) (s : State) : Host.Outcome State Fault Refusal :=
  .next (writeReg .host R.CAN_TXCANCEL n.val 0 v s)

/-- CAN_RECOVER (R415): CAN_RECOVER.GO. -/
def execCanRecover (n : Fin 6) (s : State) : Host.Outcome State Fault Refusal :=
  .next (writeFields s .host R.CAN_RECOVER [(F.CAN_RECOVER_GO, 1)] n.val)

/-- CAN_MODE_WRITE (R390, R393): CAN_CTL.MODE. -/
def execCanModeWrite (n : Fin 6) (m : BitVec 2) (s : State) : Host.Outcome State Fault Refusal :=
  .next (writeFields s .host R.CAN_CTL [(F.CAN_CTL_MODE, m.toNat)] n.val)

/-- CAN_CLRCNT (R396): CAN_CTL.CLRCNT. -/
def execCanClrcnt (n : Fin 6) (s : State) : Host.Outcome State Fault Refusal :=
  .next (writeFields s .host R.CAN_CTL [(F.CAN_CTL_CLRCNT, 1)] n.val)

/-- BOARD_ENABLE (R447): TTS_CTL.EN = 1 of the board of channel 4 + `b`. -/
def execBoardEnable (b : Fin 2) (s : State) : Host.Outcome State Fault Refusal :=
  .next (writeFields s .host R.TTS_CTL [(F.TTS_CTL_EN, 1)] b.val)

/-- BOARD_DISABLE (R440): TTS_CTL.EN = 0. -/
def execBoardDisable (b : Fin 2) (s : State) : Host.Outcome State Fault Refusal :=
  .next (writeFields s .host R.TTS_CTL [(F.TTS_CTL_EN, 0)] b.val)

/-- TIM_NOW_LO_READ (R428): a read of TIM_NOW_LO. -/
def execTimNowLoRead (s : State) : Host.Outcome State Fault Refusal := .next (if s.domOn 0 then (timNowLo s).2 else s)

/-- TIM_SRC_WRITE (R429): TIM_DISC.SRC. -/
def execTimSrcWrite (src : BitVec 2) (s : State) : Host.Outcome State Fault Refusal :=
  .next (writeFields s .host R.TIM_DISC [(F.TIM_DISC_SRC, src.toNat)])

/-- STO_COMMIT (R504): STO_CTL.COMMIT. -/
def execStoCommit (s : State) : Host.Outcome State Fault Refusal :=
  .next (writeFields s .host R.STO_CTL [(F.STO_CTL_COMMIT, 1)])

/-- STO_LOGW (R518): STO_CTL.LOGW. -/
def execStoLogw (s : State) : Host.Outcome State Fault Refusal :=
  .next (writeFields s .host R.STO_CTL [(F.STO_CTL_LOGW, 1)])

/-- STO_UDATA_ACCESS (R500, R528): a write of STO_UDATA, or a read of it. -/
def execStoUdataAccess (w : Option (BitVec 32)) (s : State) : Host.Outcome State Fault Refusal :=
  .next (
    match w with
    | some v => writeReg .host R.STO_UDATA 0 0 v s
    | none => if s.domOn 0 then (udataRead s).2 else s)

/-- HLT_MAPCLR (R514): HLT_MAPCLR.CLR. -/
def execHltMapclr (s : State) : Host.Outcome State Fault Refusal :=
  .next (writeFields s .host R.HLT_MAPCLR [(F.HLT_MAPCLR_CLR, 1)])

/-- SYS_CMD_READY (R533, R534, R548, R551): SYS_CMD.OP = READY, by the host or a Rod. -/
def execSysCmdReady (who : Writer) (s : State) : Host.Outcome State Fault Refusal :=
  .next (writeFields s who R.SYS_CMD [(F.SYS_CMD_OP, 1)])

/-- SYS_CMD_BATCH (R533, R534, R548, R551): SYS_CMD.OP = BATCH, by the host or a Rod. -/
def execSysCmdBatch (who : Writer) (s : State) : Host.Outcome State Fault Refusal :=
  .next (writeFields s who R.SYS_CMD [(F.SYS_CMD_OP, 2)])

/-- SYS_CMD_FLOW (R533, R534, R548, R551): SYS_CMD.OP = FLOW, by the host or a Rod. -/
def execSysCmdFlow (who : Writer) (s : State) : Host.Outcome State Fault Refusal :=
  .next (writeFields s who R.SYS_CMD [(F.SYS_CMD_OP, 3)])

/-- SYS_CMD_STORE (R533, R534, R548, R551): SYS_CMD.OP = STORE, by the host or a Rod. -/
def execSysCmdStore (who : Writer) (s : State) : Host.Outcome State Fault Refusal :=
  .next (writeFields s who R.SYS_CMD [(F.SYS_CMD_OP, 4)])

/-- SYS_CMD_DORMANT (R533, R534, R548, R551): SYS_CMD.OP = DORMANT, by the host or a Rod. -/
def execSysCmdDormant (who : Writer) (s : State) : Host.Outcome State Fault Refusal :=
  .next (writeFields s who R.SYS_CMD [(F.SYS_CMD_OP, 5)])

/-- SYS_CMD_HOLD (R533, R534, R548, R551): SYS_CMD.OP = HOLD, by the host or a Rod. -/
def execSysCmdHold (who : Writer) (s : State) : Host.Outcome State Fault Refusal :=
  .next (writeFields s who R.SYS_CMD [(F.SYS_CMD_OP, 6)])

/-- SYS_CMD_RESET (R533, R534, R548, R551): SYS_CMD.OP = RESET, by the host or a Rod. -/
def execSysCmdReset (who : Writer) (s : State) : Host.Outcome State Fault Refusal :=
  .next (writeFields s who R.SYS_CMD [(F.SYS_CMD_OP, 7)])

/-- DOMAIN_SWITCH (R544): SYS_PDCTL. -/
def execDomainSwitch (v : BitVec 32) (s : State) : Host.Outcome State Fault Refusal :=
  .next (writeReg .host R.SYS_PDCTL 0 0 v s)

/-- FIRECTL_ENABLE (R541): SYS_FIRECTL.EN. -/
def execFirectlEnable (on : Bool) (s : State) : Host.Outcome State Fault Refusal :=
  .next (writeFields s .host R.SYS_FIRECTL [(F.SYS_FIRECTL_EN, bit on)])

/-- SS_DISC_CLEAR (R542): SYS_CLR.SSDISC. -/
def execSsDiscClear (s : State) : Host.Outcome State Fault Refusal :=
  .next (writeFields s .host R.SYS_CLR [(F.SYS_CLR_SSDISC, 1)])

/-- WATCHDOG_KICK (R554): SYS_WDTKICK.KICK. -/
def execWatchdogKick (s : State) : Host.Outcome State Fault Refusal :=
  .next (writeFields s .host R.SYS_WDTKICK [(F.SYS_WDTKICK_KICK, 1)])

/-- HOLD_RELEASE (R557): SYS_HREL. -/
def execHoldRelease (v : BitVec 32) (s : State) : Host.Outcome State Fault Refusal :=
  .next (writeReg .host R.SYS_HREL 0 0 v s)

/-- HOLD_RELEASE_AXIS (R557): SYS_HRELM. -/
def execHoldReleaseAxis (v : BitVec 8) (s : State) : Host.Outcome State Fault Refusal :=
  .next (writeFields s .host R.SYS_HRELM [(F.SYS_HRELM_V, v.toNat)])

/-- COUNT_CLEAR (R558): DIO_CNTCLR. -/
def execCountClear (v : BitVec 4) (s : State) : Host.Outcome State Fault Refusal :=
  .next (writeFields s .host R.DIO_CNTCLR [(F.DIO_CNTCLR_V, v.toNat)])

end Sys2Proof.Machine
end

