-- ==== Sys2Proof/Machine/Instants.lean ====
section
/-! DEFINITION. Sys2Proof/Machine/Instants.lean: the order of the commands of one 5 ns step, where a rule gives one (R23,
R232, R239, R300, R366, R373, R403, R455), and the commands that wait for others of their step. DEDUCED: log entry 166. -/

namespace Sys2Proof.Machine

/-! ### The order -/

/-- What an order of one step is about: a loop (R232, R239), the measurement words (R23, R373), an axis (R366), the COL unit
(R455), the receive buffers (R403), or a bank (R300). -/
inductive Scope where
  | loop (n : Nat)
  | words
  | axis (n : Nat)
  | col
  | buffers
  | bank (b : Nat)
  deriving DecidableEq, Repr

/-- The places a command has in the orders of its step: of two in one order the lower comes first. -/
abbrev Turns : Type := List (Scope × Nat)

/-- A command at `a` comes before one at `b` in some order. -/
def turnsBefore (a b : Turns) : Bool := a.any (fun p => b.any (fun q => p.1 == q.1 && decide (p.2 < q.2)))

/-- A command that may publish a measurement word comes before the samples of its step. -/
def publishes : Turns := [(.words, 1)]

/-- A place that holds for every loop. -/
def everyLoop (k : Nat) : Turns := (List.range 64).map (fun n => (.loop n, k))
/-- A place that holds for the axes below `m`. -/
def axesBelow (m k : Nat) : Turns := (List.range m).map (fun n => (.axis n, k))

/-- The place of a CMD of loop `n` (R239): OFF, then SAFE, then MANUAL. -/
def loopCmdTurn (n cmd : Nat) : Turns :=
  match cmd with
  | 1 => [(.loop n, 1)]
  | 2 => [(.loop n, 4)]
  | 4 => [(.loop n, 2)]
  | _ => []

/-- The place of a register write: a loop's CMD, ALL_SAFE, MTR_CLR, MTR_CTL, MTR_CMD and COL_CMD have one (R239, R366,
R455). -/
def writeTurns (a : Nat) (v : Word) : Turns :=
  let at_ := fun (d : RegDesc) (m : Nat) => (List.range m).find? (fun n => d.addr n == a)
  publishes ++
    (match at_ R.LPE_CTL 64 with
      | some n => loopCmdTurn n (bits v 2 0)
      | none => []) ++
    (if a = R.LPE_GCTL.base ∧ F.LPE_GCTL_ALL_SAFE.of v = 1 then everyLoop 2 else []) ++
    (match at_ R.MTR_CLR 8 with
      | some n => [(.axis n, 5)]
      | none => []) ++
    (match at_ R.MTR_CTL 8 with
      | some n => [(.axis n, 6)]
      | none => []) ++
    (match at_ R.MTR_CMD 8 with
      | some n => [(.axis n, 7)]
      | none => []) ++
    (match at_ R.COL_CMD 256 with
      | some n => [(.col, n)]
      | none => [])

/-- The place of a Tarbylink frame among the frames of its step: host port, L0, L1 (R455). -/
def portTurn (p : Nat) : Scope × Nat := (.col, 248 + p)

/-- The places of a command that may wait. -/
def Later.turns : Later → Turns
  | .write _ a v => writeTurns a.toNat v
  | .loopCmd n cmd => loopCmdTurn n cmd ++ publishes
  | .allSafe => everyLoop 2 ++ publishes
  | .unitFail _ => everyLoop 2 ++ publishes
  | .observeMax n => [(.loop n, 3), (.words, 1)]
  | .loopOutput n => [(.loop n, 6)]
  | .loopSample n => [(.loop n, 7), (.words, 2)]
  | .loopDispatch n => [(.loop n, 8), (.words, 3)]
  | .traceSample _ => [(.words, 2)]
  | .fanEvaluation => [(.words, 2)]
  | .mtrTrip _ n _ => [(.axis n, 2), (.words, 1)]
  | .mtrStall n => [(.axis n, 4), (.words, 1)]
  | .mtrClear n _ => [(.axis n, 5), (.words, 1)]
  | .mtrEnable n _ => [(.axis n, 6), (.words, 1)]
  | .mtrCmd n _ => [(.axis n, 7), (.words, 1)]
  | .mtrCentre n _ => [(.axis n, 8), (.words, 1)]
  | .solCmd n _ _ => [(.bank (n / 4), n), (.words, 1)]
  | .solStart n => [(.bank (n / 4), n), (.words, 1)]
  | .solGrid n => [(.bank (n / 4), n), (.words, 1)]
  | .colCmd n _ _ => [(.col, n), (.words, 1)]
  | .colExpiry _ _ => [(.col, 300), (.words, 1)]
  | .canFrame n _ => [(.col, 260 + n), (.buffers, 2), (.words, 1)]
  | .tlFrame _ f => [portTurn (portCode f.port), (.words, 1)]
  | .netForeign p => [portTurn p, (.words, 1)]

/-- The places of a command that waits in the queue. A register access of a Rod, and a frame, may touch any register, so
that they stand where such an access does. -/
def turnsOf : Instr → Turns
  | .registerWrite who a v => (Later.write who a v).turns
  | .postedAccessComplete _ _ => [(.col, 0), (.buffers, 1)] ++ axesBelow 8 5 ++ publishes
  | .rxBufferLock _ _ | .rxBufferRelease _ _ | .rxReleaseWrite _ _ _ => (.buffers, 1) :: publishes
  | .loopCmdOff n => (Later.loopCmd n 1).turns
  | .loopCmdManual n => (Later.loopCmd n 2).turns
  | .loopCmdSafe n => (Later.loopCmd n 4).turns
  | .allSafe => Later.allSafe.turns
  | .matrixUnitFail u => (Later.unitFail u).turns
  | .observeMaxExpiry n => (Later.observeMax n).turns
  | .jobEnd n => [(.loop n, 5)]
  | .qHoldExpiry _ | .snapComplete _ | .tableLoadDone _ => []
  | .loopOutputInstant n => (Later.loopOutput n).turns
  | .loopSampleInstant n => (Later.loopSample n).turns
  | .jobDispatch n => (Later.loopDispatch n).turns
  | .tracePeriodSample c => (Later.traceSample c).turns
  | .fanEvaluation => Later.fanEvaluation.turns
  | .mtrConductingWhileOff n | .desatWhileOff n => [(.axis n, 1), (.words, 1)]
  | .phaseOvercurrentTrip n _ | .desaturationTrip n _ | .bitstreamLost n _ | .phaseOpen n _ =>
    [(.axis n, 2), (.words, 1)]
  | .filteredOvercurrentTrip n _ => [(.axis n, 2), (.words, 1)]
  | .bridgeOvertemperature m | .bridgeCooled m => [(.axis m.axis, 3), (.words, 1)]
  | .vdrvOvervoltage _ | .vdrvOvervoltageEnd _ | .vdrvUndervoltage _ | .vdrvUndervoltageEnd _ => axesBelow 4 3 ++ publishes
  | .safeStopAssert _ | .safeStopRelease => axesBelow 8 3 ++ publishes
  | .stallAttempt n => (Later.mtrStall n).turns
  | .mtrClearTrip n | .mtrClearBlock n | .mtrClearTach n | .mtrClearHall n => [(.axis n, 5), (.words, 1)]
  | .mtrEnable n | .mtrDisable n => [(.axis n, 6), (.words, 1)]
  | .mtrCmdWrite n v => (Later.mtrCmd n v).turns
  | .mtrPeriodCentre n d => (Later.mtrCentre n d).turns
  | .solCmdOff n _ | .solCmdOn n _ | .solCmdPulse n _ | .solCmdRepeat n _ => [(.bank (n / 4), n), (.words, 1)]
  | .solStartInstant n => (Later.solStart n).turns
  | .solRepeatGrid n => (Later.solGrid n).turns
  | .colRetire n | .colClearHealth n | .colReturn n _ => [(.col, n), (.words, 1)]
  | .livenessExpiry n | .probationExpiry n | .columnFreed n => (Later.colExpiry 0 n).turns
  | .canFrameReceived n f => (Later.canFrame n f).turns
  | .hello f | .bye f | .ringData f | .credit f | .values f | .loadBegin f | .loadData f | .loadCommit f | .statusQ f
  | .wake f => (Later.tlFrame 0 f).turns
  | .regRead f | .regWrite f => (Later.tlFrame 0 f).turns ++ (.buffers, 1) :: axesBelow 8 5
  | .netFrameDropped p _ => (Later.netForeign (portCode p)).turns
  | _ => publishes

/-- A command of the queue comes before `c` (log entry 166). -/
def State.waits (s : State) (c : Later) : Bool := s.pending.any (fun p => turnsBefore (turnsOf p) c.turns)

/-! ### What the commands do -/

/-- The effect of a command that may wait. -/
def laterAct (s : State) : Later → State
  | .write who a v => writeAddr who (match who with
      | .host => a.toNat
      | .rod r => ownWindow r a.toNat) v s
  | .loopCmd n cmd => writeFields s .host R.LPE_CTL [(F.LPE_CTL_CMD, cmd)] n
  | .allSafe => writeFields s .host R.LPE_GCTL [(F.LPE_GCTL_ALL_SAFE, 1)]
  | .unitFail u => matrixUnitFailNow s u
  | .observeMax n => observeMaxNow s n
  | .loopOutput n => loopOutputNow s n
  | .loopSample n => loopSampleNow s n
  | .loopDispatch n => jobDispatchNow s n
  | .traceSample c => tracePeriod s c
  | .fanEvaluation => fanEvaluate s
  | .mtrTrip k n v => mtrTripNow s k n v
  | .mtrStall n => if s.domOn 7 then mtrAttempt s n else s
  | .mtrClear n b => writeFields s .host R.MTR_CLR [(⟨R.MTR_CLR, b, b⟩, 1)] n
  | .mtrEnable n on => writeFields s .host R.MTR_CTL [(F.MTR_CTL_EN, bit on)] n
  | .mtrCmd n v => writeReg .host R.MTR_CMD n 0 v s
  | .mtrCentre n d => mtrCentreNow s n d
  | .solCmd n op now => writeFields s .host R.SOL_CMD [(F.SOL_CMD_OP, op), (F.SOL_CMD_NOW, bit now)] n
  | .solStart n => solStartNow s n
  | .solGrid n => solGridNow s n
  | .colCmd n op count => writeFields s .host R.COL_CMD [(F.COL_CMD_OP, op), (F.COL_CMD_COUNT, count)] n
  | .colExpiry st n => colExpiry s st n
  | .canFrame n f => canReceive s n f
  | .tlFrame type f => tlFrame s type f
  | .netForeign p => netForeign s p

/-- The first of the commands that wait which no other of them comes before. -/
def heldNext (l : List Later) : Option Later := l.find? (fun c => l.all (fun d => !turnsBefore d.turns c.turns))

/-- The commands that wait and that `p` picks have their effect, in their order. -/
def heldRun : Nat → (Later → Bool) → State → State
  | 0, _, s => s
  | fuel + 1, p, s =>
    match heldNext (s.held.filter p) with
    | some c => heldRun fuel p (laterAct { s with held := s.held.erase c } c)
    | none => s

/-- The end of a step: every command that waits has its effect. -/
def settleHeld (s : State) : State := heldRun s.held.length (fun _ => true) s

/-- A command takes its turn: while one that comes before it is in the queue it waits; else those that wait and come before
it have their effect first. -/
def inTurn (c : Later) (s : State) : Host.Outcome State Fault Refusal :=
  .next (
    if s.waits c then { s with held := s.held ++ [c] }
    else laterAct (heldRun s.held.length (fun h => turnsBefore h.turns c.turns) s) c)

/-! ### The commands -/

/-- REGISTER_WRITE (R572): a write of register space by the host or a Rod; a Rod's own window stands for its own Frame
registers (R44, R87). -/
def execRegisterWrite (who : Writer) (a v : BitVec 32) (s : State) : Host.Outcome State Fault Refusal :=
  inTurn (.write who a v) s

/-- LOOP_CMD_MANUAL (R236): LPE_CTL.CMD = MANUAL. -/
def execLoopCmdManual (n : Fin 64) (s : State) : Host.Outcome State Fault Refusal := inTurn (.loopCmd n 2) s

/-- LOOP_CMD_SAFE (R236): LPE_CTL.CMD = SAFE. -/
def execLoopCmdSafe (n : Fin 64) (s : State) : Host.Outcome State Fault Refusal := inTurn (.loopCmd n 4) s

/-- ALL_SAFE (R258): LPE_GCTL.ALL_SAFE. -/
def execAllSafe (s : State) : Host.Outcome State Fault Refusal := inTurn .allSafe s

/-- MATRIX_UNIT_FAIL (R248, R249, R520). -/
def execMatrixUnitFail (u : Fin 5) (s : State) : Host.Outcome State Fault Refusal := inTurn (.unitFail u) s

/-- OBSERVE_MAX_EXPIRY (R236). -/
def execObserveMaxExpiry (n : Fin 64) (s : State) : Host.Outcome State Fault Refusal := inTurn (.observeMax n) s

/-- LOOP_OUTPUT_INSTANT (R232). -/
def execLoopOutputInstant (n : Fin 64) (s : State) : Host.Outcome State Fault Refusal := inTurn (.loopOutput n) s

/-- LOOP_SAMPLE_INSTANT (R23, R230, R233, R239). -/
def execLoopSampleInstant (n : Fin 64) (s : State) : Host.Outcome State Fault Refusal := inTurn (.loopSample n) s

/-- JOB_DISPATCH (R231). -/
def execJobDispatch (n : Fin 64) (s : State) : Host.Outcome State Fault Refusal := inTurn (.loopDispatch n) s

/-- TRACE_PERIOD_SAMPLE (R280). -/
def execTracePeriodSample (c : Fin 8) (s : State) : Host.Outcome State Fault Refusal := inTurn (.traceSample c) s

/-- FAN_EVALUATION (R373). -/
def execFanEvaluation (s : State) : Host.Outcome State Fault Refusal := inTurn .fanEvaluation s

/-- PHASE_OVERCURRENT_TRIP (R368): a phase comparator of axes 0 to 3, with the phase current in 10 mA. -/
def execPhaseOvercurrentTrip (n : Fin 8) (cur : BitVec 32) (s : State) : Host.Outcome State Fault Refusal :=
  inTurn (.mtrTrip .overcurrent n cur.toNat) s

/-- DESATURATION_TRIP (R368): the stack return of axes 4 to 7 asserts. -/
def execDesaturationTrip (n : Fin 8) (cur : BitVec 32) (s : State) : Host.Outcome State Fault Refusal :=
  inTurn (.mtrTrip .desaturation n cur.toNat) s

/-- FILTERED_OVERCURRENT_TRIP (R351, R368): the guard filter of axes 4 to 7, with the ones of its window. -/
def execFilteredOvercurrentTrip (n : Fin 8) (ones : BitVec 13) (s : State) : Host.Outcome State Fault Refusal :=
  inTurn (.mtrTrip .filtered n ones.toNat) s

/-- BITSTREAM_LOST (R368): no transition for 2 µs while enabled. -/
def execBitstreamLost (n : Fin 8) (cur : BitVec 32) (s : State) : Host.Outcome State Fault Refusal :=
  inTurn (.mtrTrip .bitstream n cur.toNat) s

/-- PHASE_OPEN (R368): in RUN, one phase too small for 100 ms. -/
def execPhaseOpen (n : Fin 8) (cur : BitVec 32) (s : State) : Host.Outcome State Fault Refusal :=
  inTurn (.mtrTrip .phaseOpen n cur.toNat) s

/-- STALL_ATTEMPT (R364, R365). -/
def execStallAttempt (n : Fin 8) (s : State) : Host.Outcome State Fault Refusal := inTurn (.mtrStall n) s

/-- MTR_CLEAR_TRIP (R366, R367): MTR_CLR.TRIP. -/
def execMtrClearTrip (n : Fin 8) (s : State) : Host.Outcome State Fault Refusal := inTurn (.mtrClear n 0) s

/-- MTR_CLEAR_BLOCK (R365 to R367): MTR_CLR.BLOCK. -/
def execMtrClearBlock (n : Fin 8) (s : State) : Host.Outcome State Fault Refusal := inTurn (.mtrClear n 1) s

/-- MTR_CLEAR_TACH (R356): MTR_CLR.TACH. -/
def execMtrClearTach (n : Fin 8) (s : State) : Host.Outcome State Fault Refusal := inTurn (.mtrClear n 2) s

/-- MTR_CLEAR_HALL (R357): MTR_CLR.HALL. -/
def execMtrClearHall (n : Fin 8) (s : State) : Host.Outcome State Fault Refusal := inTurn (.mtrClear n 3) s

/-- MTR_ENABLE (R384): MTR_CTL.EN = 1. -/
def execMtrEnable (n : Fin 8) (s : State) : Host.Outcome State Fault Refusal := inTurn (.mtrEnable n true) s

/-- MTR_DISABLE (R363): MTR_CTL.EN = 0. -/
def execMtrDisable (n : Fin 8) (s : State) : Host.Outcome State Fault Refusal := inTurn (.mtrEnable n false) s

/-- MTR_CMD_WRITE (R360): MTR_CMD. -/
def execMtrCmdWrite (n : Fin 8) (v : BitVec 32) (s : State) : Host.Outcome State Fault Refusal := inTurn (.mtrCmd n v) s

/-- MTR_PERIOD_CENTRE (R346). -/
def execMtrPeriodCentre (n : Fin 8) (d : MtrSample) (s : State) : Host.Outcome State Fault Refusal := inTurn (.mtrCentre n d) s

/-- SOL_CMD_OFF (R292, R293): SOL_CMD.OP = OFF, with NOW or for the staged instant. -/
def execSolCmdOff (n : Fin 24) (now : Bool) (s : State) : Host.Outcome State Fault Refusal := inTurn (.solCmd n 1 now) s

/-- SOL_CMD_ON (R292, R293): SOL_CMD.OP = ON, with NOW or for the staged instant. -/
def execSolCmdOn (n : Fin 24) (now : Bool) (s : State) : Host.Outcome State Fault Refusal := inTurn (.solCmd n 2 now) s

/-- SOL_CMD_PULSE (R292, R293): SOL_CMD.OP = PULSE, with NOW or for the staged instant. -/
def execSolCmdPulse (n : Fin 24) (now : Bool) (s : State) : Host.Outcome State Fault Refusal := inTurn (.solCmd n 3 now) s

/-- SOL_CMD_REPEAT (R292, R293): SOL_CMD.OP = REPEAT, with NOW or for the staged instant. -/
def execSolCmdRepeat (n : Fin 24) (now : Bool) (s : State) : Host.Outcome State Fault Refusal := inTurn (.solCmd n 4 now) s

/-- SOL_START_INSTANT (R293, R295). -/
def execSolStartInstant (n : Fin 24) (s : State) : Host.Outcome State Fault Refusal := inTurn (.solStart n) s

/-- SOL_REPEAT_GRID (R294, R296, R297). -/
def execSolRepeatGrid (n : Fin 24) (s : State) : Host.Outcome State Fault Refusal := inTurn (.solGrid n) s

/-- COL_RETIRE (R456): COL_CMD RETIRE. -/
def execColRetire (n : Fin 256) (s : State) : Host.Outcome State Fault Refusal := inTurn (.colCmd n 1 0) s

/-- COL_CLEAR_HEALTH (R487): COL_CMD CLRH. -/
def execColClearHealth (n : Fin 256) (s : State) : Host.Outcome State Fault Refusal := inTurn (.colCmd n 2 0) s

/-- COL_RETURN (R467): COL_CMD RETURN with a COUNT. -/
def execColReturn (n : Fin 256) (count : BitVec 16) (s : State) : Host.Outcome State Fault Refusal :=
  inTurn (.colCmd n 3 count.toNat) s

/-- LIVENESS_EXPIRY (R456): no valid frame for the liveness limit. -/
def execLivenessExpiry (n : Fin 256) (s : State) : Host.Outcome State Fault Refusal := inTurn (.colExpiry coAdmitted n) s

/-- PROBATION_EXPIRY (R456): COL_PROB ms without admission. -/
def execProbationExpiry (n : Fin 256) (s : State) : Host.Outcome State Fault Refusal := inTurn (.colExpiry coProbation n) s

/-- COLUMN_FREED (R458): DRAIN_MS have passed and no bead remains. -/
def execColumnFreed (n : Fin 256) (s : State) : Host.Outcome State Fault Refusal := inTurn (.colExpiry coRetired n) s

/-- CAN_FRAME_RECEIVED (R396): a valid frame from the bus. -/
def execCanFrameReceived (n : Fin 6) (f : CanFrame) (s : State) : Host.Outcome State Fault Refusal := inTurn (.canFrame n f) s

/-- HELLO (R484). -/
def execHello (f : TlFrame) (s : State) : Host.Outcome State Fault Refusal := inTurn (.tlFrame 0x01 f) s
/-- BYE (R473). -/
def execBye (f : TlFrame) (s : State) : Host.Outcome State Fault Refusal := inTurn (.tlFrame 0x03 f) s
/-- REG_READ (R474). -/
def execRegRead (f : TlFrame) (s : State) : Host.Outcome State Fault Refusal := inTurn (.tlFrame 0x10 f) s
/-- REG_WRITE (R475). -/
def execRegWrite (f : TlFrame) (s : State) : Host.Outcome State Fault Refusal := inTurn (.tlFrame 0x12 f) s
/-- RING_DATA (R476). -/
def execRingData (f : TlFrame) (s : State) : Host.Outcome State Fault Refusal := inTurn (.tlFrame 0x20 f) s
/-- CREDIT (R468). -/
def execCredit (f : TlFrame) (s : State) : Host.Outcome State Fault Refusal := inTurn (.tlFrame 0x21 f) s
/-- LOAD_BEGIN (R478). -/
def execLoadBegin (f : TlFrame) (s : State) : Host.Outcome State Fault Refusal := inTurn (.tlFrame 0x30 f) s
/-- LOAD_DATA (R478). -/
def execLoadData (f : TlFrame) (s : State) : Host.Outcome State Fault Refusal := inTurn (.tlFrame 0x31 f) s
/-- LOAD_COMMIT (R478). -/
def execLoadCommit (f : TlFrame) (s : State) : Host.Outcome State Fault Refusal := inTurn (.tlFrame 0x32 f) s
/-- VALUES (R462). -/
def execValues (f : TlFrame) (s : State) : Host.Outcome State Fault Refusal := inTurn (.tlFrame 0x40 f) s
/-- STATUS_Q (R473). -/
def execStatusQ (f : TlFrame) (s : State) : Host.Outcome State Fault Refusal := inTurn (.tlFrame 0x50 f) s
/-- WAKE (R485). -/
def execWake (f : TlFrame) (s : State) : Host.Outcome State Fault Refusal := inTurn (.tlFrame 0x52 f) s

/-- NET_FRAME_DROPPED (R470, R473): a frame outside the supported protocols or with a bad checksum, or a Tarbylink frame
with its type, undefined or of a LEN that breaks it. -/
def execNetFrameDropped (p : NetPort) (f : Option (BitVec 8 × TlFrame)) (s : State) : Host.Outcome State Fault Refusal :=
  inTurn (match f with
    | some (type, f) => .tlFrame type.toNat f
    | none => .netForeign (portCode p)) s

end Sys2Proof.Machine
end

