-- ==== Sys2Proof/Machine/Dispatch.lean ====
section
/-! DEFINITION. Sys2Proof/Machine/Dispatch.lean: one arm per command, each one call of its meaning. -/

namespace Sys2Proof.Machine

/-- The effect of a command on everything but the queue. -/
def exec (i : Instr) (s : State) : Host.Outcome State Fault Refusal :=
  match i with
  | .registerWrite who a v => Sys2Proof.Machine.execRegisterWrite who a v s
  | .add r f => Sys2Proof.Machine.execAdd r f s
  | .sub r f => Sys2Proof.Machine.execSub r f s
  | .and r f => Sys2Proof.Machine.execAnd r f s
  | .or r f => Sys2Proof.Machine.execOr r f s
  | .xor r f => Sys2Proof.Machine.execXor r f s
  | .andn r f => Sys2Proof.Machine.execAndn r f s
  | .sll r f => Sys2Proof.Machine.execSll r f s
  | .srl r f => Sys2Proof.Machine.execSrl r f s
  | .sra r f => Sys2Proof.Machine.execSra r f s
  | .slli r f => Sys2Proof.Machine.execSlli r f s
  | .srli r f => Sys2Proof.Machine.execSrli r f s
  | .srai r f => Sys2Proof.Machine.execSrai r f s
  | .slt r f => Sys2Proof.Machine.execSlt r f s
  | .sltu r f => Sys2Proof.Machine.execSltu r f s
  | .min r f => Sys2Proof.Machine.execMin r f s
  | .max r f => Sys2Proof.Machine.execMax r f s
  | .minu r f => Sys2Proof.Machine.execMinu r f s
  | .maxu r f => Sys2Proof.Machine.execMaxu r f s
  | .sext8 r f => Sys2Proof.Machine.execSext8 r f s
  | .sext16 r f => Sys2Proof.Machine.execSext16 r f s
  | .mul r f => Sys2Proof.Machine.execMul r f s
  | .mulh r f => Sys2Proof.Machine.execMulh r f s
  | .mulhu r f => Sys2Proof.Machine.execMulhu r f s
  | .div r f => Sys2Proof.Machine.execDiv r f s
  | .divu r f => Sys2Proof.Machine.execDivu r f s
  | .rem r f => Sys2Proof.Machine.execRem r f s
  | .remu r f => Sys2Proof.Machine.execRemu r f s
  | .wGet r f => Sys2Proof.Machine.execWGet r f s
  | .wPut r f => Sys2Proof.Machine.execWPut r f s
  | .wMov r f => Sys2Proof.Machine.execWMov r f s
  | .wZero r f => Sys2Proof.Machine.execWZero r f s
  | .addi r f => Sys2Proof.Machine.execAddi r f s
  | .lui r f => Sys2Proof.Machine.execLui r f s
  | .mulq r f => Sys2Proof.Machine.execMulq r f s
  | .mulqR r f => Sys2Proof.Machine.execMulqR r f s
  | .macq r f => Sys2Proof.Machine.execMacq r f s
  | .clamp r f => Sys2Proof.Machine.execClamp r f s
  | .clampN r f => Sys2Proof.Machine.execClampN r f s
  | .clampA r f => Sys2Proof.Machine.execClampA r f s
  | .beq r f => Sys2Proof.Machine.execBeq r f s
  | .bne r f => Sys2Proof.Machine.execBne r f s
  | .blt r f => Sys2Proof.Machine.execBlt r f s
  | .bge r f => Sys2Proof.Machine.execBge r f s
  | .bltu r f => Sys2Proof.Machine.execBltu r f s
  | .bgeu r f => Sys2Proof.Machine.execBgeu r f s
  | .bany r f => Sys2Proof.Machine.execBany r f s
  | .bnone r f => Sys2Proof.Machine.execBnone r f s
  | .jmp r f => Sys2Proof.Machine.execJmp r f s
  | .call r a imm => Sys2Proof.Machine.execCall r a imm s
  | .ret r f => Sys2Proof.Machine.execRet r f s
  | .eret r f => Sys2Proof.Machine.execEret r f s
  | .ld8 r f => Sys2Proof.Machine.execLd8 r f s
  | .ld16 r f => Sys2Proof.Machine.execLd16 r f s
  | .ld32 r f => Sys2Proof.Machine.execLd32 r f s
  | .ld128 r f => Sys2Proof.Machine.execLd128 r f s
  | .st8 r f => Sys2Proof.Machine.execSt8 r f s
  | .st16 r f => Sys2Proof.Machine.execSt16 r f s
  | .st32 r f => Sys2Proof.Machine.execSt32 r f s
  | .st128 r f => Sys2Proof.Machine.execSt128 r f s
  | .ioIn r f => Sys2Proof.Machine.execIn r f s
  | .ioOut r f => Sys2Proof.Machine.execOut r f s
  | .postedAccessComplete r k => Sys2Proof.Machine.execPostedAccessComplete r k s
  | .push r f inStep => Sys2Proof.Machine.execPush r f inStep s
  | .pushR r f => Sys2Proof.Machine.execPushR r f s
  | .pushRRelease r => Sys2Proof.Machine.execPushRRelease r s
  | .pop r f => Sys2Proof.Machine.execPop r f s
  | .popA r f => Sys2Proof.Machine.execPopA r f s
  | .slotCommit n slot => Sys2Proof.Machine.execSlotCommit n slot s
  | .wait r f => Sys2Proof.Machine.execWait r f s
  | .waitReturn r => Sys2Proof.Machine.execWaitReturn r s
  | .fence r f => Sys2Proof.Machine.execFence r f s
  | .fenceComplete r => Sys2Proof.Machine.execFenceComplete r s
  | .atSwap r f => Sys2Proof.Machine.execAtSwap r f s
  | .atAdd r f => Sys2Proof.Machine.execAtAdd r f s
  | .atAnd r f => Sys2Proof.Machine.execAtAnd r f s
  | .atOr r f => Sys2Proof.Machine.execAtOr r f s
  | .atXor r f => Sys2Proof.Machine.execAtXor r f s
  | .atMin r f => Sys2Proof.Machine.execAtMin r f s
  | .atMax r f => Sys2Proof.Machine.execAtMax r f s
  | .atMinu r f => Sys2Proof.Machine.execAtMinu r f s
  | .atMaxu r f => Sys2Proof.Machine.execAtMaxu r f s
  | .atCas r f => Sys2Proof.Machine.execAtCas r f s
  | .time r f => Sys2Proof.Machine.execTime r f s
  | .trap r f => Sys2Proof.Machine.execTrap r f s
  | .rodStart r => Sys2Proof.Machine.execRodStart r s
  | .rodStop r => Sys2Proof.Machine.execRodStop r s
  | .rodHalt r => Sys2Proof.Machine.execRodHalt r s
  | .rodStopForced r => Sys2Proof.Machine.execRodStopForced r s
  | .templateCopyDone r => Sys2Proof.Machine.execTemplateCopyDone r s
  | .doorbell r bells => Sys2Proof.Machine.execDoorbell r bells s
  | .rodMarked m => Sys2Proof.Machine.execRodMarked m s
  | .migrationStart r => Sys2Proof.Machine.execMigrationStart r s
  | .migrationEnd => Sys2Proof.Machine.execMigrationEnd s
  | .rodFail p => Sys2Proof.Machine.execRodFail p s
  | .ringEnable n => Sys2Proof.Machine.execRingEnable n s
  | .ringDisable n => Sys2Proof.Machine.execRingDisable n s
  | .ringDisableEffect n => Sys2Proof.Machine.execRingDisableEffect n s
  | .dfeGo n => Sys2Proof.Machine.execDfeGo n s
  | .dfeEnable n => Sys2Proof.Machine.execDfeEnable n s
  | .dfeDisable n => Sys2Proof.Machine.execDfeDisable n s
  | .dfeFrameBoundary n d => Sys2Proof.Machine.execDfeFrameBoundary n d s
  | .dfeOutputInstant n => Sys2Proof.Machine.execDfeOutputInstant n s
  | .tempHoldExpiry n => Sys2Proof.Machine.execTempHoldExpiry n s
  | .dfeCrossCheck => Sys2Proof.Machine.execDfeCrossCheck s
  | .dfePathFail n => Sys2Proof.Machine.execDfePathFail n s
  | .pfeEnable n => Sys2Proof.Machine.execPfeEnable n s
  | .pfeDisable n => Sys2Proof.Machine.execPfeDisable n s
  | .pfeRangeWrite n v => Sys2Proof.Machine.execPfeRangeWrite n v s
  | .pfeConversion n d => Sys2Proof.Machine.execPfeConversion n d s
  | .cjHoldExpiry n => Sys2Proof.Machine.execCjHoldExpiry n s
  | .pfeCrossCheck p => Sys2Proof.Machine.execPfeCrossCheck p s
  | .pfePathFail n => Sys2Proof.Machine.execPfePathFail n s
  | .curveSlotWrite c w v => Sys2Proof.Machine.execCurveSlotWrite c w v s
  | .loopCmdOff n => Sys2Proof.Machine.execLoopCmdOff n s
  | .loopCmdManual n => Sys2Proof.Machine.execLoopCmdManual n s
  | .loopCmdAuto n => Sys2Proof.Machine.execLoopCmdAuto n s
  | .loopCmdSafe n => Sys2Proof.Machine.execLoopCmdSafe n s
  | .loopFire n => Sys2Proof.Machine.execLoopFire n s
  | .loopFireClr n => Sys2Proof.Machine.execLoopFireClr n s
  | .allSafe => Sys2Proof.Machine.execAllSafe s
  | .coeffWrite n k shift v => Sys2Proof.Machine.execCoeffWrite n k shift v s
  | .loopRwlWrite n w v => Sys2Proof.Machine.execLoopRwlWrite n w v s
  | .dlPoolWrite t v => Sys2Proof.Machine.execDlPoolWrite t v s
  | .lpeManWrite n j v => Sys2Proof.Machine.execLpeManWrite n j v s
  | .lpeRefWrite n l v => Sys2Proof.Machine.execLpeRefWrite n l v s
  | .loopSampleInstant n => Sys2Proof.Machine.execLoopSampleInstant n s
  | .jobDispatch n => Sys2Proof.Machine.execJobDispatch n s
  | .jobEnd n => Sys2Proof.Machine.execJobEnd n s
  | .qHoldExpiry n => Sys2Proof.Machine.execQHoldExpiry n s
  | .loopOutputInstant n => Sys2Proof.Machine.execLoopOutputInstant n s
  | .observeMaxExpiry n => Sys2Proof.Machine.execObserveMaxExpiry n s
  | .matrixUnitFail u => Sys2Proof.Machine.execMatrixUnitFail u s
  | .rcSnap n => Sys2Proof.Machine.execRcSnap n s
  | .snapComplete n => Sys2Proof.Machine.execSnapComplete n s
  | .tableLoadDone n => Sys2Proof.Machine.execTableLoadDone n s
  | .rcPoolWrite e v => Sys2Proof.Machine.execRcPoolWrite e v s
  | .traceArm c => Sys2Proof.Machine.execTraceArm c s
  | .traceTrig c => Sys2Proof.Machine.execTraceTrig c s
  | .traceStop c => Sys2Proof.Machine.execTraceStop c s
  | .tracePeriodSample c => Sys2Proof.Machine.execTracePeriodSample c s
  | .solCmdOff n now => Sys2Proof.Machine.execSolCmdOff n now s
  | .solCmdOn n now => Sys2Proof.Machine.execSolCmdOn n now s
  | .solCmdPulse n now => Sys2Proof.Machine.execSolCmdPulse n now s
  | .solCmdRepeat n now => Sys2Proof.Machine.execSolCmdRepeat n now s
  | .solStartInstant n => Sys2Proof.Machine.execSolStartInstant n s
  | .deferredPeakStart n => Sys2Proof.Machine.execDeferredPeakStart n s
  | .solRepeatGrid n => Sys2Proof.Machine.execSolRepeatGrid n s
  | .solPulseEnd n high => Sys2Proof.Machine.execSolPulseEnd n high s
  | .solPeakEnd n high => Sys2Proof.Machine.execSolPeakEnd n high s
  | .pullinDetected n t => Sys2Proof.Machine.execPullinDetected n t s
  | .dropoutCapture n => Sys2Proof.Machine.execDropoutCapture n s
  | .dropoutResult n samples => Sys2Proof.Machine.execDropoutResult n samples s
  | .solOvercurrentTrip n => Sys2Proof.Machine.execSolOvercurrentTrip n s
  | .solClampHot n => Sys2Proof.Machine.execSolClampHot n s
  | .solClampCool n => Sys2Proof.Machine.execSolClampCool n s
  | .solChannelLost n => Sys2Proof.Machine.execSolChannelLost n s
  | .solRailOvercurrent b => Sys2Proof.Machine.execSolRailOvercurrent b s
  | .vsolUndervoltage mv => Sys2Proof.Machine.execVsolUndervoltage mv s
  | .vsolRecovered mv => Sys2Proof.Machine.execVsolRecovered mv s
  | .solClearTrip n => Sys2Proof.Machine.execSolClearTrip n s
  | .solBankRestore b => Sys2Proof.Machine.execSolBankRestore b s
  | .solEnable n => Sys2Proof.Machine.execSolEnable n s
  | .solDisable n => Sys2Proof.Machine.execSolDisable n s
  | .solClassSWrite v => Sys2Proof.Machine.execSolClassSWrite v s
  | .lswCmdOff n => Sys2Proof.Machine.execLswCmdOff n s
  | .lswCmdOn n => Sys2Proof.Machine.execLswCmdOn n s
  | .lswCmdPwm n => Sys2Proof.Machine.execLswCmdPwm n s
  | .lswPeriodStart n => Sys2Proof.Machine.execLswPeriodStart n s
  | .lswPwmOffEdge n => Sys2Proof.Machine.execLswPwmOffEdge n s
  | .lswCurrentLimitTrip n => Sys2Proof.Machine.execLswCurrentLimitTrip n s
  | .lampWindowEnd n => Sys2Proof.Machine.execLampWindowEnd n s
  | .thermalLatch n temp => Sys2Proof.Machine.execThermalLatch n temp s
  | .thermalRelease n temp => Sys2Proof.Machine.execThermalRelease n temp s
  | .retryRestart n => Sys2Proof.Machine.execRetryRestart n s
  | .retryReload n => Sys2Proof.Machine.execRetryReload n s
  | .lswClearFault n => Sys2Proof.Machine.execLswClearFault n s
  | .openLoadTest n mv => Sys2Proof.Machine.execOpenLoadTest n mv s
  | .lswConductingWhileOff n => Sys2Proof.Machine.execLswConductingWhileOff n s
  | .lswNotConducting n => Sys2Proof.Machine.execLswNotConducting n s
  | .groupOvercurrent k => Sys2Proof.Machine.execGroupOvercurrent k s
  | .groupOverload k mean => Sys2Proof.Machine.execGroupOverload k mean s
  | .groupUndervoltage k mv => Sys2Proof.Machine.execGroupUndervoltage k mv s
  | .groupUndervoltageEnd k mv => Sys2Proof.Machine.execGroupUndervoltageEnd k mv s
  | .groupRestore k => Sys2Proof.Machine.execGroupRestore k s
  | .lswEnable n => Sys2Proof.Machine.execLswEnable n s
  | .lswDisable n => Sys2Proof.Machine.execLswDisable n s
  | .mtrPeriodCentre n d => Sys2Proof.Machine.execMtrPeriodCentre n d s
  | .mtrCmdWrite n v => Sys2Proof.Machine.execMtrCmdWrite n v s
  | .mtrEnable n => Sys2Proof.Machine.execMtrEnable n s
  | .mtrDisable n => Sys2Proof.Machine.execMtrDisable n s
  | .alignEnd n => Sys2Proof.Machine.execAlignEnd n s
  | .stallAttempt n => Sys2Proof.Machine.execStallAttempt n s
  | .retryWaitEnd n => Sys2Proof.Machine.execRetryWaitEnd n s
  | .attemptsReset n => Sys2Proof.Machine.execAttemptsReset n s
  | .mtrClearTrip n => Sys2Proof.Machine.execMtrClearTrip n s
  | .mtrClearBlock n => Sys2Proof.Machine.execMtrClearBlock n s
  | .mtrClearTach n => Sys2Proof.Machine.execMtrClearTach n s
  | .mtrClearHall n => Sys2Proof.Machine.execMtrClearHall n s
  | .phaseOvercurrentTrip n cur => Sys2Proof.Machine.execPhaseOvercurrentTrip n cur s
  | .desaturationTrip n cur => Sys2Proof.Machine.execDesaturationTrip n cur s
  | .filteredOvercurrentTrip n cur => Sys2Proof.Machine.execFilteredOvercurrentTrip n cur s
  | .bitstreamLost n cur => Sys2Proof.Machine.execBitstreamLost n cur s
  | .phaseOpen n cur => Sys2Proof.Machine.execPhaseOpen n cur s
  | .bridgeOvertemperature m => Sys2Proof.Machine.execBridgeOvertemperature m s
  | .bridgeCooled m => Sys2Proof.Machine.execBridgeCooled m s
  | .vdrvOvervoltage mv => Sys2Proof.Machine.execVdrvOvervoltage mv s
  | .vdrvOvervoltageEnd mv => Sys2Proof.Machine.execVdrvOvervoltageEnd mv s
  | .vdrvUndervoltage mv => Sys2Proof.Machine.execVdrvUndervoltage mv s
  | .vdrvUndervoltageEnd mv => Sys2Proof.Machine.execVdrvUndervoltageEnd mv s
  | .buslim mv => Sys2Proof.Machine.execBuslim mv s
  | .mtrConductingWhileOff n => Sys2Proof.Machine.execMtrConductingWhileOff n s
  | .desatWhileOff n => Sys2Proof.Machine.execDesatWhileOff n s
  | .tachLost n => Sys2Proof.Machine.execTachLost n s
  | .hallLost n => Sys2Proof.Machine.execHallLost n s
  | .airflowOkAssert => Sys2Proof.Machine.execAirflowOkAssert s
  | .fanEvaluation => Sys2Proof.Machine.execFanEvaluation s
  | .fanZoneEnable auto z => Sys2Proof.Machine.execFanZoneEnable auto z s
  | .canFrameReceived n f => Sys2Proof.Machine.execCanFrameReceived n f s
  | .rxBufferLock n k => Sys2Proof.Machine.execRxBufferLock n k s
  | .rxBufferRelease n k => Sys2Proof.Machine.execRxBufferRelease n k s
  | .rxReleaseWrite n hi v => Sys2Proof.Machine.execRxReleaseWrite n hi v s
  | .canTxreq n v => Sys2Proof.Machine.execCanTxreq n v s
  | .canTxcancel n v => Sys2Proof.Machine.execCanTxcancel n v s
  | .txStart n => Sys2Proof.Machine.execTxStart n s
  | .transmitted n tdcv => Sys2Proof.Machine.execTransmitted n tdcv s
  | .arbitrationLost n => Sys2Proof.Machine.execArbitrationLost n s
  | .busError n e tdcv => Sys2Proof.Machine.execBusError n e tdcv s
  | .canRecover n => Sys2Proof.Machine.execCanRecover n s
  | .recoveryComplete n => Sys2Proof.Machine.execRecoveryComplete n s
  | .canModeWrite n m => Sys2Proof.Machine.execCanModeWrite n m s
  | .modeChangeEffect n => Sys2Proof.Machine.execModeChangeEffect n s
  | .canClrcnt n => Sys2Proof.Machine.execCanClrcnt n s
  | .canWakePattern => Sys2Proof.Machine.execCanWakePattern s
  | .boardEnable b => Sys2Proof.Machine.execBoardEnable b s
  | .boardDisable b => Sys2Proof.Machine.execBoardDisable b s
  | .referenceMessage c r byte0 ago => Sys2Proof.Machine.execReferenceMessage c r byte0 ago s
  | .timeMark c r t ago => Sys2Proof.Machine.execTimeMark c r t ago s
  | .watchExpiry c => Sys2Proof.Machine.execWatchExpiry c s
  | .referenceRequest c => Sys2Proof.Machine.execReferenceRequest c s
  | .ttsWindowStart c => Sys2Proof.Machine.execTtsWindowStart c s
  | .ttsWindowEnd c => Sys2Proof.Machine.execTtsWindowEnd c s
  | .timNowLoRead => Sys2Proof.Machine.execTimNowLoRead s
  | .timSrcWrite src => Sys2Proof.Machine.execTimSrcWrite src s
  | .ptpSync m twoStep => Sys2Proof.Machine.execPtpSync m twoStep s
  | .ptpFollowUp m => Sys2Proof.Machine.execPtpFollowUp m s
  | .ptpAnnounce m d => Sys2Proof.Machine.execPtpAnnounce m d s
  | .ptpDelayReq => Sys2Proof.Machine.execPtpDelayReq s
  | .ptpDelayResp m => Sys2Proof.Machine.execPtpDelayResp m s
  | .holdoverExpiry => Sys2Proof.Machine.execHoldoverExpiry s
  | .colRetire n => Sys2Proof.Machine.execColRetire n s
  | .colClearHealth n => Sys2Proof.Machine.execColClearHealth n s
  | .colReturn n count => Sys2Proof.Machine.execColReturn n count s
  | .livenessExpiry n => Sys2Proof.Machine.execLivenessExpiry n s
  | .probationExpiry n => Sys2Proof.Machine.execProbationExpiry n s
  | .columnFreed n => Sys2Proof.Machine.execColumnFreed n s
  | .creditTimer n => Sys2Proof.Machine.execCreditTimer n s
  | .hello f => Sys2Proof.Machine.execHello f s
  | .bye f => Sys2Proof.Machine.execBye f s
  | .regRead f => Sys2Proof.Machine.execRegRead f s
  | .regWrite f => Sys2Proof.Machine.execRegWrite f s
  | .ringData f => Sys2Proof.Machine.execRingData f s
  | .credit f => Sys2Proof.Machine.execCredit f s
  | .values f => Sys2Proof.Machine.execValues f s
  | .loadBegin f => Sys2Proof.Machine.execLoadBegin f s
  | .loadData f => Sys2Proof.Machine.execLoadData f s
  | .loadCommit f => Sys2Proof.Machine.execLoadCommit f s
  | .statusQ f => Sys2Proof.Machine.execStatusQ f s
  | .wake f => Sys2Proof.Machine.execWake f s
  | .hostTxRecord host => Sys2Proof.Machine.execHostTxRecord host s
  | .replayMarkWritten k tx => Sys2Proof.Machine.execReplayMarkWritten k tx s
  | .arpRequest port src target => Sys2Proof.Machine.execArpRequest port src target s
  | .neighbourSolicitation port src target => Sys2Proof.Machine.execNeighbourSolicitation port src target s
  | .echoRequest port src data => Sys2Proof.Machine.execEchoRequest port src data s
  | .linkChange port up => Sys2Proof.Machine.execLinkChange port up s
  | .linkSpeedTry => Sys2Proof.Machine.execLinkSpeedTry s
  | .stoCommit => Sys2Proof.Machine.execStoCommit s
  | .commitEnd fails => Sys2Proof.Machine.execCommitEnd fails s
  | .stoLogw => Sys2Proof.Machine.execStoLogw s
  | .logRecordWritten => Sys2Proof.Machine.execLogRecordWritten s
  | .stoUdataAccess w => Sys2Proof.Machine.execStoUdataAccess w s
  | .vlogLost mv => Sys2Proof.Machine.execVlogLost mv s
  | .scrubPass ups others => Sys2Proof.Machine.execScrubPass ups others s
  | .sectionRemapDone sec => Sys2Proof.Machine.execSectionRemapDone sec s
  | .spareSelfTest rods matrix => Sys2Proof.Machine.execSpareSelfTest rods matrix s
  | .hltMapclr => Sys2Proof.Machine.execHltMapclr s
  | .sensorRead v => Sys2Proof.Machine.execSensorRead v s
  | .coreSupplyCritical mv => Sys2Proof.Machine.execCoreSupplyCritical mv s
  | .coreSupplyCleared mv => Sys2Proof.Machine.execCoreSupplyCleared mv s
  | .sysCmdReady who => Sys2Proof.Machine.execSysCmdReady who s
  | .sysCmdBatch who => Sys2Proof.Machine.execSysCmdBatch who s
  | .sysCmdFlow who => Sys2Proof.Machine.execSysCmdFlow who s
  | .sysCmdStore who => Sys2Proof.Machine.execSysCmdStore who s
  | .sysCmdDormant who => Sys2Proof.Machine.execSysCmdDormant who s
  | .sysCmdHold who => Sys2Proof.Machine.execSysCmdHold who s
  | .sysCmdReset who => Sys2Proof.Machine.execSysCmdReset who s
  | .commissionExit => Sys2Proof.Machine.execCommissionExit s
  | .domainSwitch v => Sys2Proof.Machine.execDomainSwitch v s
  | .domainOn n t => Sys2Proof.Machine.execDomainOn n t s
  | .hostLoss => Sys2Proof.Machine.execHostLoss s
  | .firePermitAssert => Sys2Proof.Machine.execFirePermitAssert s
  | .firectlEnable on => Sys2Proof.Machine.execFirectlEnable on s
  | .safeStopAssert b => Sys2Proof.Machine.execSafeStopAssert b s
  | .safeStopRelease => Sys2Proof.Machine.execSafeStopRelease s
  | .ssDiscrepancy => Sys2Proof.Machine.execSsDiscrepancy s
  | .ssDiscClear => Sys2Proof.Machine.execSsDiscClear s
  | .powerOn => Sys2Proof.Machine.execPowerOn s
  | .externalReset => Sys2Proof.Machine.execExternalReset s
  | .resetNRelease => Sys2Proof.Machine.execResetNRelease s
  | .watchdogKick => Sys2Proof.Machine.execWatchdogKick s
  | .watchdogExpiry => Sys2Proof.Machine.execWatchdogExpiry s
  | .dormantEntered => Sys2Proof.Machine.execDormantEntered s
  | .wakePin => Sys2Proof.Machine.execWakePin s
  | .wakeTimer => Sys2Proof.Machine.execWakeTimer s
  | .resumeComplete => Sys2Proof.Machine.execResumeComplete s
  | .holdRelease v => Sys2Proof.Machine.execHoldRelease v s
  | .holdReleaseAxis v => Sys2Proof.Machine.execHoldReleaseAxis v s
  | .holdMaxExpiry n => Sys2Proof.Machine.execHoldMaxExpiry n s
  | .runonMaxExpiry n => Sys2Proof.Machine.execRunonMaxExpiry n s
  | .discreteInputEdge e => Sys2Proof.Machine.execDiscreteInputEdge e s
  | .countClear v => Sys2Proof.Machine.execCountClear v s
  | .ipeakReached n => Sys2Proof.Machine.execIpeakReached n s
  | .solDecayEnd n => Sys2Proof.Machine.execSolDecayEnd n s
  | .vlogHoldOff => Sys2Proof.Machine.execVlogHoldOff s
  | .vlogHoldOffEnd => Sys2Proof.Machine.execVlogHoldOffEnd s
  | .busIntegration n => Sys2Proof.Machine.execBusIntegration n s
  | .netFrameDropped p f => Sys2Proof.Machine.execNetFrameDropped p f s
  | .bootComplete => Sys2Proof.Machine.execBootComplete s
  | .cjSensorRead m t => Sys2Proof.Machine.execCjSensorRead m t s

end Sys2Proof.Machine
end

