-- ==== Sys2Proof/Machine/Step.lean ====
section
/-! DEFINITION. Sys2Proof/Machine/Step.lean: one step of the block: the command that has waited longest, or a tick. -/

namespace Sys2Proof.Machine

/-- One step: the command at the front of the queue runs on the state with the queue's rest; with no command in the queue the
step's commands that wait have their effect, and the block takes one tick of 5 ns (log entry 1). -/
def step (s : State) : Host.Outcome State Fault Refusal :=
  match s.pending with
  | [] => idleStep (settle (settleHeld s))
  | c :: rest => exec c { s with pending := rest }

/-- The command a word spells, put at the front of the queue. No row of spec/opcode_table.json has bits, so no word
spells one (log entry 24). -/
def State.withFetchWord (s : State) (nbits w : Nat) : State :=
  match decodeTableWord nbits w with
  | some c => { s with pending := c :: s.pending }
  | none => s

end Sys2Proof.Machine
end

