-- ==== Sys2Proof/Safety.lean ====
section
/-! DEFINITION. Sys2Proof/Safety.lean: what claims are stated in: memories in canonical form, and what two states have in
common. -/

namespace Sys2Proof.Machine

/-- Every memory of the machine is in its canonical form: Frame SRAM, the restart template, each Rod's scratch, the
store's working copy and its two main banks. -/
def State.memOk (s : State) : Prop :=
  Memory.wf s.frame = true ∧ Memory.wf s.template = true ∧ (∀ p ∈ s.rods, Memory.wf p.2.scratch = true) ∧
    Memory.wf s.sto.work = true ∧ Memory.wf s.sto.bankA.cells = true ∧ Memory.wf s.sto.bankB.cells = true

/-- The registers `s` and `t` have in common: all whose address does not satisfy `p`. -/
def RegsBut (p : Nat → Prop) (s t : State) : Prop := ∀ a, ¬ p a → tabFind t.regs a = tabFind s.regs a

/-- The registers that posting an event may change: ring books, trace status and the log's lost count (R54, R58, R59,
R282, R283, R516). -/
def eventReg (a : Nat) : Prop :=
  (0x11010000 ≤ a ∧ a < 0x11010800) ∨ (∃ c < 8, a = R.TRC_STAT.addr c) ∨ a = R.STO_LOGLOST.addr ∨ a = R.STO_STAT.addr

/-- A state without what posting an event may change: registers, W1C bits set in this step, ring beads and their errors, ring control, trace
channels and the log's queue. -/
def State.apart (s : State) : State :=
  { s with regs := [], w1cSet := [], frame := [], beadErr := [], rings := [], trc := [], logQueue := [] }

end Sys2Proof.Machine
end

