-- ==== Sys2Proof/WellFormed.lean ====
section
/-! DEFINITION. Sys2Proof/WellFormed.lean: which commands the outside can send at all: a frame carries as many bytes as
its length code says, a list one entry per tone or sensor. A JMP-class word whose D is 31 is CALL (R107). A command outside these
bounds names nothing the manual describes; exec still answers it. -/

namespace Sys2Proof

/-- Bytes of a CAN data length code (ISO 11898-1, R388): 0 to 8, and in an FD frame 12, 16, 20, 24, 32, 48 and 64. -/
def canBytes (fdf : Bool) (dlc : Nat) : Nat :=
  if dlc ≤ 8 then dlc else if fdf then [12, 16, 20, 24, 32, 48, 64].getD (dlc - 9) 64 else 8

/-- A CAN frame: as many data bytes as its length code says and none in a remote frame, a base identifier in bits 28:18,
no remote FD frame, BRS and ESI only in an FD frame. -/
def CanFrame.wf (f : CanFrame) : Bool :=
  f.data.length == (if f.rtr then 0 else canBytes f.fdf f.dlc.toNat)
    && (f.ide || f.id.toNat % 2 ^ 18 == 0) && !(f.fdf && f.rtr) && (f.fdf || (!f.brs && !f.esi))

/-- A network source: an IPv4 address has 32 bits. -/
def NetSrc.wf (x : NetSrc) : Bool := x.v6 || decide (x.ip.toNat < 2 ^ 32)

/-- A Tarbylink frame: a payload of at most 65,535 bytes from a source that can send. -/
def TlFrame.wf (f : TlFrame) : Bool := decide (f.payload.length ≤ 65535) && f.src.wf

/-- An IEEE 1588 time: whole ns of a second. -/
def PtpMsg.wf (m : PtpMsg) : Bool := decide (m.nsec.toNat < 1000000000)

/-- A demodulation frame: one pair per tone, and with a check running the spare's pairs too (R139, R162). -/
def DfeFrame.wf (d : DfeFrame) : Bool := d.iq.length == 8 && (d.spare.length == 8 || d.spare.isEmpty)

/-- The sensors: 12 temperatures (R526). -/
def Sensors.wf (v : Sensors) : Bool := v.temp.length == 12

/-- The commands the outside can send. -/
def Instr.wf : Instr → Bool
  | .registerWrite _ _ _ => true
  | .add _ _ => true
  | .sub _ _ => true
  | .and _ _ => true
  | .or _ _ => true
  | .xor _ _ => true
  | .andn _ _ => true
  | .sll _ _ => true
  | .srl _ _ => true
  | .sra _ _ => true
  | .slli _ _ => true
  | .srli _ _ => true
  | .srai _ _ => true
  | .slt _ _ => true
  | .sltu _ _ => true
  | .min _ _ => true
  | .max _ _ => true
  | .minu _ _ => true
  | .maxu _ _ => true
  | .sext8 _ _ => true
  | .sext16 _ _ => true
  | .mul _ _ => true
  | .mulh _ _ => true
  | .mulhu _ _ => true
  | .div _ _ => true
  | .divu _ _ => true
  | .rem _ _ => true
  | .remu _ _ => true
  | .wGet _ _ => true
  | .wPut _ _ => true
  | .wMov _ _ => true
  | .wZero _ _ => true
  | .addi _ _ => true
  | .lui _ _ => true
  | .mulq _ _ => true
  | .mulqR _ _ => true
  | .macq _ _ => true
  | .clamp _ _ => true
  | .clampN _ _ => true
  | .clampA _ _ => true
  | .beq _ _ => true
  | .bne _ _ => true
  | .blt _ _ => true
  | .bge _ _ => true
  | .bltu _ _ => true
  | .bgeu _ _ => true
  | .bany _ _ => true
  | .bnone _ _ => true
  | .jmp _ f => f.d != 31
  | .call _ _ _ => true
  | .ret _ _ => true
  | .eret _ _ => true
  | .ld8 _ _ => true
  | .ld16 _ _ => true
  | .ld32 _ _ => true
  | .ld128 _ _ => true
  | .st8 _ _ => true
  | .st16 _ _ => true
  | .st32 _ _ => true
  | .st128 _ _ => true
  | .ioIn _ _ => true
  | .ioOut _ _ => true
  | .postedAccessComplete _ _ => true
  | .push _ _ _ => true
  | .pushR _ _ => true
  | .pushRRelease _ => true
  | .pop _ _ => true
  | .popA _ _ => true
  | .slotCommit _ _ => true
  | .wait _ _ => true
  | .waitReturn _ => true
  | .fence _ _ => true
  | .fenceComplete _ => true
  | .atSwap _ _ => true
  | .atAdd _ _ => true
  | .atAnd _ _ => true
  | .atOr _ _ => true
  | .atXor _ _ => true
  | .atMin _ _ => true
  | .atMax _ _ => true
  | .atMinu _ _ => true
  | .atMaxu _ _ => true
  | .atCas _ _ => true
  | .time _ _ => true
  | .trap _ _ => true
  | .rodStart _ => true
  | .rodStop _ => true
  | .rodHalt _ => true
  | .rodStopForced _ => true
  | .templateCopyDone _ => true
  | .doorbell _ _ => true
  | .rodMarked _ => true
  | .migrationStart _ => true
  | .migrationEnd => true
  | .rodFail _ => true
  | .ringEnable _ => true
  | .ringDisable _ => true
  | .ringDisableEffect _ => true
  | .dfeGo _ => true
  | .dfeEnable _ => true
  | .dfeDisable _ => true
  | .dfeFrameBoundary _ d => d.wf
  | .dfeOutputInstant _ => true
  | .tempHoldExpiry _ => true
  | .dfeCrossCheck => true
  | .dfePathFail _ => true
  | .pfeEnable _ => true
  | .pfeDisable _ => true
  | .pfeRangeWrite _ _ => true
  | .pfeConversion _ _ => true
  | .cjHoldExpiry _ => true
  | .pfeCrossCheck _ => true
  | .pfePathFail _ => true
  | .curveSlotWrite _ _ _ => true
  | .loopCmdOff _ => true
  | .loopCmdManual _ => true
  | .loopCmdAuto _ => true
  | .loopCmdSafe _ => true
  | .loopFire _ => true
  | .loopFireClr _ => true
  | .allSafe => true
  | .coeffWrite _ _ _ _ => true
  | .loopRwlWrite _ _ _ => true
  | .dlPoolWrite _ _ => true
  | .lpeManWrite _ _ _ => true
  | .lpeRefWrite _ _ _ => true
  | .loopSampleInstant _ => true
  | .jobDispatch _ => true
  | .jobEnd _ => true
  | .qHoldExpiry _ => true
  | .loopOutputInstant _ => true
  | .observeMaxExpiry _ => true
  | .matrixUnitFail _ => true
  | .rcSnap _ => true
  | .snapComplete _ => true
  | .tableLoadDone _ => true
  | .rcPoolWrite _ _ => true
  | .traceArm _ => true
  | .traceTrig _ => true
  | .traceStop _ => true
  | .tracePeriodSample _ => true
  | .solCmdOff _ _ => true
  | .solCmdOn _ _ => true
  | .solCmdPulse _ _ => true
  | .solCmdRepeat _ _ => true
  | .solStartInstant _ => true
  | .deferredPeakStart _ => true
  | .solRepeatGrid _ => true
  | .solPulseEnd _ _ => true
  | .solPeakEnd _ _ => true
  | .pullinDetected _ _ => true
  | .dropoutCapture _ => true
  | .dropoutResult _ samples => samples.length == 256
  | .solOvercurrentTrip _ => true
  | .solClampHot _ => true
  | .solClampCool _ => true
  | .solChannelLost _ => true
  | .solRailOvercurrent _ => true
  | .vsolUndervoltage _ => true
  | .vsolRecovered _ => true
  | .solClearTrip _ => true
  | .solBankRestore _ => true
  | .solEnable _ => true
  | .solDisable _ => true
  | .solClassSWrite _ => true
  | .lswCmdOff _ => true
  | .lswCmdOn _ => true
  | .lswCmdPwm _ => true
  | .lswPeriodStart _ => true
  | .lswPwmOffEdge _ => true
  | .lswCurrentLimitTrip _ => true
  | .lampWindowEnd _ => true
  | .thermalLatch _ _ => true
  | .thermalRelease _ _ => true
  | .retryRestart _ => true
  | .retryReload _ => true
  | .lswClearFault _ => true
  | .openLoadTest _ _ => true
  | .lswConductingWhileOff _ => true
  | .lswNotConducting _ => true
  | .groupOvercurrent _ => true
  | .groupOverload _ _ => true
  | .groupUndervoltage _ _ => true
  | .groupUndervoltageEnd _ _ => true
  | .groupRestore _ => true
  | .lswEnable _ => true
  | .lswDisable _ => true
  | .mtrPeriodCentre _ _ => true
  | .mtrCmdWrite _ _ => true
  | .mtrEnable _ => true
  | .mtrDisable _ => true
  | .alignEnd _ => true
  | .stallAttempt _ => true
  | .retryWaitEnd _ => true
  | .attemptsReset _ => true
  | .mtrClearTrip _ => true
  | .mtrClearBlock _ => true
  | .mtrClearTach _ => true
  | .mtrClearHall _ => true
  | .phaseOvercurrentTrip _ _ => true
  | .desaturationTrip _ _ => true
  | .filteredOvercurrentTrip _ ones => decide (ones.toNat ≤ 4096)
  | .bitstreamLost _ _ => true
  | .phaseOpen _ _ => true
  | .bridgeOvertemperature _ => true
  | .bridgeCooled _ => true
  | .vdrvOvervoltage _ => true
  | .vdrvOvervoltageEnd _ => true
  | .vdrvUndervoltage _ => true
  | .vdrvUndervoltageEnd _ => true
  | .buslim _ => true
  | .mtrConductingWhileOff _ => true
  | .desatWhileOff _ => true
  | .tachLost _ => true
  | .hallLost _ => true
  | .airflowOkAssert => true
  | .fanEvaluation => true
  | .fanZoneEnable _ _ => true
  | .canFrameReceived _ f => f.wf
  | .rxBufferLock _ _ => true
  | .rxBufferRelease _ _ => true
  | .rxReleaseWrite _ _ _ => true
  | .canTxreq _ _ => true
  | .canTxcancel _ _ => true
  | .txStart _ => true
  | .transmitted _ _ => true
  | .arbitrationLost _ => true
  | .busError _ _ _ => true
  | .canRecover _ => true
  | .recoveryComplete _ => true
  | .canModeWrite _ _ => true
  | .modeChangeEffect _ => true
  | .canClrcnt _ => true
  | .canWakePattern => true
  | .boardEnable _ => true
  | .boardDisable _ => true
  | .referenceMessage _ _ _ _ => true
  | .timeMark _ _ _ _ => true
  | .watchExpiry _ => true
  | .referenceRequest _ => true
  | .ttsWindowStart _ => true
  | .ttsWindowEnd _ => true
  | .timNowLoRead => true
  | .timSrcWrite _ => true
  | .ptpSync m _ => m.wf
  | .ptpFollowUp m => m.wf
  | .ptpAnnounce m _ => m.wf
  | .ptpDelayReq => true
  | .ptpDelayResp m => m.wf
  | .holdoverExpiry => true
  | .colRetire _ => true
  | .colClearHealth _ => true
  | .colReturn _ _ => true
  | .livenessExpiry _ => true
  | .probationExpiry _ => true
  | .columnFreed _ => true
  | .creditTimer _ => true
  | .hello f => f.wf
  | .bye f => f.wf
  | .regRead f => f.wf
  | .regWrite f => f.wf
  | .ringData f => f.wf
  | .credit f => f.wf
  | .values f => f.wf
  | .loadBegin f => f.wf
  | .loadData f => f.wf
  | .loadCommit f => f.wf
  | .statusQ f => f.wf
  | .wake f => f.wf
  | .hostTxRecord _ => true
  | .replayMarkWritten _ _ => true
  | .arpRequest _ src _ => src.wf
  | .neighbourSolicitation _ src _ => src.wf
  | .echoRequest _ src data => src.wf && decide (data.length ≤ 65535)
  | .linkChange _ _ => true
  | .linkSpeedTry => true
  | .stoCommit => true
  | .commitEnd _ => true
  | .stoLogw => true
  | .logRecordWritten => true
  | .stoUdataAccess _ => true
  | .vlogLost _ => true
  | .scrubPass _ _ => true
  | .sectionRemapDone _ => true
  | .spareSelfTest rods _ => rods.Nodup
  | .hltMapclr => true
  | .sensorRead v => v.wf
  | .coreSupplyCritical _ => true
  | .coreSupplyCleared _ => true
  | .sysCmdReady _ => true
  | .sysCmdBatch _ => true
  | .sysCmdFlow _ => true
  | .sysCmdStore _ => true
  | .sysCmdDormant _ => true
  | .sysCmdHold _ => true
  | .sysCmdReset _ => true
  | .commissionExit => true
  | .domainSwitch _ => true
  | .domainOn _ _ => true
  | .hostLoss => true
  | .firePermitAssert => true
  | .firectlEnable _ => true
  | .safeStopAssert _ => true
  | .safeStopRelease => true
  | .ssDiscrepancy => true
  | .ssDiscClear => true
  | .powerOn => true
  | .externalReset => true
  | .resetNRelease => true
  | .watchdogKick => true
  | .watchdogExpiry => true
  | .dormantEntered => true
  | .wakePin => true
  | .wakeTimer => true
  | .resumeComplete => true
  | .holdRelease _ => true
  | .holdReleaseAxis _ => true
  | .holdMaxExpiry _ => true
  | .runonMaxExpiry _ => true
  | .discreteInputEdge _ => true
  | .countClear _ => true
  | .ipeakReached _ => true
  | .solDecayEnd _ => true
  | .vlogHoldOff => true
  | .vlogHoldOffEnd => true
  | .busIntegration _ => true
  | .netFrameDropped _ f => (match f with | some x => x.2.wf | none => true)
  | .bootComplete => true
  | .cjSensorRead _ _ => true

end Sys2Proof
end

