-- ==== Sys2Proof/Certificates/Slice0/Obligations.lean ====
section
/-! DEFINITION. Sys2Proof/Certificates/Slice0/Obligations.lean: the statements for the provers. -/

namespace Sys2Proof.Claims

end Sys2Proof.Claims

open Sys2Proof Sys2Proof.Machine Sys2Proof.Claims

namespace Sys2Proof.Claims

open Sys2Proof.Machine

/-! ### Rods and Coxis instructions -/

/-- Rod `r` runs, and the bead its next instruction lies in has no stored error. -/
def ready (s : State) (r : Nat) : Prop :=
  s.canRun r = true ∧ codeAddrOk s (s.rod r).pc = true ∧ tabFind s.beadErr ((s.rod r).pc.toNat / 16) = none

/-- Nothing changes but Rod `r` and the registers that satisfy `p`. -/
def onlyRod (s t : State) (r : Nat) (p : Nat → Prop) : Prop :=
  { t with rods := s.rods, regs := s.regs, w1cSet := s.w1cSet } = s ∧ (∀ q, q ≠ r → t.rod q = s.rod q) ∧ RegsBut p s t

/-- The registers in which an instruction leaves a trace: FRM_PC and the sticky flags of FRM_RSTAT. -/
def rodRegs (r : Nat) (a : Nat) : Prop := a = R.FRM_PC.addr r ∨ a = R.FRM_RSTAT.addr r

/-- Instruction of Rod `r` in sequence: it sets OVF or SAT where the flag says so and never clears one, and FRM_PC shows it. -/
def sequel (s t : State) (r : Nat) (ovf sat : Bool) : Prop :=
  (t.rod r).pc = (s.rod r).pc + 4 ∧ t.rd R.FRM_PC r = (s.rod r).pc ∧
    t.rd R.FRM_RSTAT r = s.rd R.FRM_RSTAT r ||| (if ovf then 0x200#32 else 0) ||| (if sat then 0x100#32 else 0) ∧
    onlyRod s t r (rodRegs r)

/-- Instruction of Rod `r` whose one result is `v` in general register `d`; a result in g0 is discarded. -/
def gResult (s t : State) (r : Nat) (d : BitVec 5) (v : Word) (ovf sat : Bool) : Prop :=
  (∀ n, gReg t r n = if n = d ∧ d ≠ 0 then v else gReg s r n) ∧
    t.rod r = { s.rod r with g := (t.rod r).g, pc := (t.rod r).pc } ∧ sequel s t r ovf sat

/-- Instruction of Rod `r` whose one result is `v` in wide register `d`. -/
def wResult (s t : State) (r : Nat) (d : BitVec 5) (v : Bead) (sat : Bool) : Prop :=
  (∀ n, n.toNat < 8 → wReg t r n = if n = d then v else wReg s r n) ∧
    t.rod r = { s.rod r with w := (t.rod r).w, pc := (t.rod r).pc } ∧ sequel s t r false sat

/-- `exec` answers a next state, of which `P` holds. -/
def runsTo (i : Instr) (s : State) (P : State → Prop) : Prop := ∃ t, exec i s = .next t ∧ P t

/-- What a command that may wait in its step is held as, with what it does (log entry 166). -/
def heldAs : Instr → Option Later
  | .registerWrite who a v => some (.write who a v)
  | .loopCmdManual n => some (.loopCmd n 2)
  | .loopCmdSafe n => some (.loopCmd n 4)
  | .allSafe => some .allSafe
  | .matrixUnitFail u => some (.unitFail u)
  | .observeMaxExpiry n => some (.observeMax n)
  | .loopOutputInstant n => some (.loopOutput n)
  | .loopSampleInstant n => some (.loopSample n)
  | .jobDispatch n => some (.loopDispatch n)
  | .tracePeriodSample c => some (.traceSample c)
  | .fanEvaluation => some .fanEvaluation
  | .phaseOvercurrentTrip n cur => some (.mtrTrip .overcurrent n cur.toNat)
  | .desaturationTrip n cur => some (.mtrTrip .desaturation n cur.toNat)
  | .filteredOvercurrentTrip n ones => some (.mtrTrip .filtered n ones.toNat)
  | .bitstreamLost n cur => some (.mtrTrip .bitstream n cur.toNat)
  | .phaseOpen n cur => some (.mtrTrip .phaseOpen n cur.toNat)
  | .stallAttempt n => some (.mtrStall n)
  | .mtrClearTrip n => some (.mtrClear n 0)
  | .mtrClearBlock n => some (.mtrClear n 1)
  | .mtrClearTach n => some (.mtrClear n 2)
  | .mtrClearHall n => some (.mtrClear n 3)
  | .mtrEnable n => some (.mtrEnable n true)
  | .mtrDisable n => some (.mtrEnable n false)
  | .mtrCmdWrite n v => some (.mtrCmd n v)
  | .mtrPeriodCentre n d => some (.mtrCentre n d)
  | .solCmdOff n now => some (.solCmd n 1 now)
  | .solCmdOn n now => some (.solCmd n 2 now)
  | .solCmdPulse n now => some (.solCmd n 3 now)
  | .solCmdRepeat n now => some (.solCmd n 4 now)
  | .solStartInstant n => some (.solStart n)
  | .solRepeatGrid n => some (.solGrid n)
  | .colRetire n => some (.colCmd n 1 0)
  | .colClearHealth n => some (.colCmd n 2 0)
  | .colReturn n count => some (.colCmd n 3 count.toNat)
  | .livenessExpiry n => some (.colExpiry coAdmitted n)
  | .probationExpiry n => some (.colExpiry coProbation n)
  | .columnFreed n => some (.colExpiry coRetired n)
  | .canFrameReceived n f => some (.canFrame n f)
  | .hello f => some (.tlFrame 0x01 f)
  | .bye f => some (.tlFrame 0x03 f)
  | .regRead f => some (.tlFrame 0x10 f)
  | .regWrite f => some (.tlFrame 0x12 f)
  | .ringData f => some (.tlFrame 0x20 f)
  | .credit f => some (.tlFrame 0x21 f)
  | .loadBegin f => some (.tlFrame 0x30 f)
  | .loadData f => some (.tlFrame 0x31 f)
  | .loadCommit f => some (.tlFrame 0x32 f)
  | .values f => some (.tlFrame 0x40 f)
  | .statusQ f => some (.tlFrame 0x50 f)
  | .wake f => some (.tlFrame 0x52 f)
  | .netFrameDropped _ (some (type, f)) => some (.tlFrame type.toNat f)
  | .netFrameDropped p none => some (.netForeign (portCode p))
  | _ => none

/-- No command of its step comes before `i`, in the queue or waiting. -/
def inFront (i : Instr) (s : State) : Prop := s.held = [] ∧ ∀ c, heldAs i = some c → s.waits c = false

/-- Where no command of its step comes before `i`, `exec` answers a next state, of which `P` holds. -/
def goesTo (i : Instr) (s : State) (P : State → Prop) : Prop := inFront i s → runsTo i s P

/-- An OPR instruction: its command, the words it accepts, its result and its overflow, of ga, gb and AUX. -/
structure OprCase where
  cmd   : RegForm → Instr
  legal : RegForm → Bool
  val   : Word → Word → Nat → Word
  ovf   : Word → Word → Bool

/-- AUX is zero. -/
def auxZero (f : RegForm) : Bool := f.aux == 0
/-- B is zero and AUX a shift of 0 to 31. -/
def shiftImm (f : RegForm) : Bool := f.b == 0 && decide (f.aux.toNat < 32)
/-- B and AUX are zero. -/
def bAuxZero (f : RegForm) : Bool := f.b == 0 && f.aux == 0
/-- No overflow. -/
def noOvf (_ _ : Word) : Bool := false
/-- The corners of a signed division. -/
def divOvf (a b : Word) : Bool := b == 0 || (a == 0x80000000#32 && b == 0xFFFFFFFF#32)

/-- The table of R100 with R101. -/
def oprTable (r : Fin 16) : List OprCase := [
  ⟨.add r, auxZero, fun a b _ => a + b, fun a b => a.saddOverflow b⟩,
  ⟨.sub r, auxZero, fun a b _ => a - b, fun a b => a.ssubOverflow b⟩,
  ⟨.and r, auxZero, fun a b _ => a &&& b, noOvf⟩,
  ⟨.or r, auxZero, fun a b _ => a ||| b, noOvf⟩,
  ⟨.xor r, auxZero, fun a b _ => a ^^^ b, noOvf⟩,
  ⟨.andn r, auxZero, fun a b _ => a &&& ~~~b, noOvf⟩,
  ⟨.sll r, auxZero, fun a b _ => a <<< (b.toNat % 32), noOvf⟩,
  ⟨.srl r, auxZero, fun a b _ => a >>> (b.toNat % 32), noOvf⟩,
  ⟨.sra r, auxZero, fun a b _ => a.sshiftRight (b.toNat % 32), noOvf⟩,
  ⟨.slli r, shiftImm, fun a _ n => a <<< n, noOvf⟩,
  ⟨.srli r, shiftImm, fun a _ n => a >>> n, noOvf⟩,
  ⟨.srai r, shiftImm, fun a _ n => a.sshiftRight n, noOvf⟩,
  ⟨.slt r, auxZero, fun a b _ => if a.toInt < b.toInt then 1 else 0, noOvf⟩,
  ⟨.sltu r, auxZero, fun a b _ => if a.toNat < b.toNat then 1 else 0, noOvf⟩,
  ⟨.min r, auxZero, fun a b _ => BitVec.ofInt 32 (Min.min a.toInt b.toInt), noOvf⟩,
  ⟨.max r, auxZero, fun a b _ => BitVec.ofInt 32 (Max.max a.toInt b.toInt), noOvf⟩,
  ⟨.minu r, auxZero, fun a b _ => BitVec.ofNat 32 (Min.min a.toNat b.toNat), noOvf⟩,
  ⟨.maxu r, auxZero, fun a b _ => BitVec.ofNat 32 (Max.max a.toNat b.toNat), noOvf⟩,
  ⟨.sext8 r, bAuxZero, fun a _ _ => (a.setWidth 8).signExtend 32, noOvf⟩,
  ⟨.sext16 r, bAuxZero, fun a _ _ => (a.setWidth 16).signExtend 32, noOvf⟩,
  ⟨.mul r, auxZero, fun a b _ => a * b, fun a b => a.smulOverflow b⟩,
  ⟨.mulh r, auxZero, fun a b _ => (a.signExtend 64 * b.signExtend 64).extractLsb' 32 32, noOvf⟩,
  ⟨.mulhu r, auxZero, fun a b _ => (a.setWidth 64 * b.setWidth 64).extractLsb' 32 32, noOvf⟩,
  ⟨.div r, auxZero, fun a b _ => a.sdiv b, divOvf⟩,
  ⟨.divu r, auxZero, fun a b _ => if b = 0 then 0xFFFFFFFF else a / b, noOvf⟩,
  ⟨.rem r, auxZero, fun a b _ => a.srem b, divOvf⟩,
  ⟨.remu r, auxZero, fun a b _ => if b = 0 then a else a % b, noOvf⟩]

/-- Nothing changes but what `e` takes out of a state and the registers that satisfy `p`. -/
def quiet (e : State → State) (p : Nat → Prop) (s t : State) : Prop :=
  { e t with w1cSet := [] } = { e s with w1cSet := [] } ∧ RegsBut p s t

/-- The same where events are posted: they act on the rings, the trace channels and the log's queue too. -/
def noisy (e : State → State) (p : Nat → Prop) (s t : State) : Prop :=
  (e t).apart = (e s).apart ∧ RegsBut (fun a => p a ∨ eventReg a) s t

/-- The log's queue of `t` holds the KIND 1 record of a health event (R517, R527). -/
def healthLogged (s t : State) (idx pool code detail : Nat) (value : Word) : Prop :=
  ∃ rec ∈ t.logQueue, rec.kind = 1 ∧ rec.tb = s.tbNow ∧
    rec.payload = [word (idx + pool * 2 ^ 8 + code * 2 ^ 16 + detail * 2 ^ 24), word s.tbNow, word (s.tbNow / 2 ^ 32), value]

end Sys2Proof.Claims

/-- One step runs the command at the front of the queue on the state with the queue's rest; a command that another of its step precedes waits. The model's own choices and readings in it: log entries 1, 166. -/
def Obligations.StepRunsFrontCommand : Prop :=
  (∀ (c : Instr) (rest : List Instr) (s : State), s.pending = c :: rest → step s = exec c { s with pending := rest }) ∧
    (∀ s : State, s.pending = [] → step s = idleStep (settle (settleHeld s))) ∧
    (∀ s : State, s.pending = [] → s.held = [] → s.migration = none → s.sto.activate = none → s.sys.powered = true →
      s.tbNow + 10 < 2 ^ 64 → step s = .next (timTick s)) ∧
    (∀ (i : Instr) (c : Later) (s : State), heldAs i = some c →
      (s.waits c = true → exec i s = .next { s with held := s.held ++ [c] }) ∧
      (s.waits c = false → s.held = [] → exec i s = .next (laterAct s c))) ∧
    ∀ (c : Later) (s : State), s.held = [c] → turnsBefore c.turns c.turns = false →
      settleHeld s = laterAct { s with held := [] } c

/-- Decoding the word of a Coxis instruction gives the instruction back, and each word has one meaning. -/
def Obligations.CoxisWordsAndCommandsAgree : Prop :=
  (∀ (i : Instr) (w : BitVec 32), i.wf = true → coxisEncode i = some w → (∀ r f, i ≠ .push r f false) →
    ∃ r, coxisDecode r w = some i) ∧
    ∀ (r : Fin 16) (w : BitVec 32) (i : Instr), coxisDecode r w = some i → coxisEncode i = some w ∧ i.wf = true

/-- The 27 integer instructions of class OPR write their result to gd, set OVF where the table says so, and change nothing else. -/
def Obligations.IntegerInstructionResults : Prop :=
  ∀ (r : Fin 16) (s : State), ready s r → ∀ c ∈ oprTable r, ∀ f : RegForm, c.legal f = true →
    runsTo (c.cmd f) s fun t =>
      gResult s t r f.d (c.val (gReg s r f.a) (gReg s r f.b) f.aux.toNat) (c.ovf (gReg s r f.a) (gReg s r f.b)) false

/-- W.GET, W.PUT, W.MOV, W.ZERO, ADDI and LUI write their one result and change nothing else. -/
def Obligations.WideMovesAndImmediates : Prop :=
  ∀ (r : Fin 16) (s : State), ready s r →
    (∀ f : RegForm, f.a.toNat < 8 → f.b = 0 → f.aux.toNat < 4 →
      runsTo (.wGet r f) s fun t => gResult s t r f.d ((wReg s r f.a).extractLsb' (32 * f.aux.toNat) 32) false false) ∧
    (∀ f : RegForm, f.d.toNat < 8 → f.b = 0 → f.aux.toNat < 4 →
      runsTo (.wPut r f) s fun t => ∃ v, wResult s t r f.d v false ∧
        ∀ k < 4, v.extractLsb' (32 * k) 32 = if k = f.aux.toNat then gReg s r f.a else (wReg s r f.d).extractLsb' (32 * k) 32) ∧
    (∀ f : RegForm, f.d.toNat < 8 → f.a.toNat < 8 → f.b = 0 → f.aux = 0 →
      runsTo (.wMov r f) s fun t => wResult s t r f.d (wReg s r f.a) false) ∧
    (∀ f : RegForm, f.d.toNat < 8 → f.a = 0 → f.b = 0 → f.aux = 0 →
      runsTo (.wZero r f) s fun t => wResult s t r f.d 0 false) ∧
    (∀ f : ImmForm, runsTo (.addi r f) s fun t =>
      gResult s t r f.d (gReg s r f.a + f.imm.signExtend 32) ((gReg s r f.a).saddOverflow (f.imm.signExtend 32)) false) ∧
    (∀ f : ImmForm, runsTo (.lui r f) s fun t =>
      gResult s t r f.d (f.imm ++ (gReg s r f.a).extractLsb' 0 14) false false)

namespace Sys2Proof.Claims

open Sys2Proof.Machine

--#
/-- `x` limited to the signed numbers of `n` bits. -/
def limit (n : Nat) (x : Int) : Int := Max.max (-(2 ^ (n - 1) : Nat)) (Min.min x ((2 ^ (n - 1) : Nat) - 1))

/-- The exact product shifted right, rounding toward minus infinity (R103). -/
def shiftedProduct (a b : Word) (n : Nat) : Int := a.toInt * b.toInt / (2 ^ n : Nat)

/-- Rod `r` goes on at `next`, with nothing else changed. -/
def jumps (s t : State) (r : Nat) (next : Word) : Prop :=
  t.rod r = { s.rod r with pc := next } ∧ t.rd R.FRM_PC r = (s.rod r).pc ∧ onlyRod s t r (fun a => a = R.FRM_PC.addr r)

/-- The branches of R106 with their conditions. -/
def brTable (r : Fin 16) : List ((BrForm → Instr) × (Word → Word → Prop)) := [
  (.beq r, fun a b => a = b), (.bne r, fun a b => a ≠ b), (.blt r, fun a b => a.toInt < b.toInt),
  (.bge r, fun a b => b.toInt ≤ a.toInt), (.bltu r, fun a b => a.toNat < b.toNat), (.bgeu r, fun a b => b.toNat ≤ a.toNat),
  (.bany r, fun a b => a &&& b ≠ 0), (.bnone r, fun a b => a &&& b = 0)]

/-- A branch, its target `4 × sext(offset)` from its own address (R106). -/
def brTo (s : State) (r : Nat) (f : BrForm) : Word := (s.rod r).pc + 4 * f.off.signExtend 32

/-- The target of a JMP-class word (R107). -/
def jmpTo (s : State) (r : Nat) (a : BitVec 5) (imm : BitVec 18) : Word :=
  (if a = 0 then (s.rod r).pc else gReg s r a) + 4 * imm.signExtend 32

end Sys2Proof.Claims

/-- The six fixed-point instructions give the limited value of R103 to R105, set SAT exactly when it was limited, and change nothing else. -/
def Obligations.FixedPointResults : Prop :=
  ∀ (r : Fin 16) (s : State), ready s r → ∀ f : RegForm,
    let a := gReg s r f.a
    let b := gReg s r f.b
    let n := f.aux.toNat
    let half : Int := if 1 ≤ n then (2 ^ (n - 1) : Nat) else 0
    let p := shiftedProduct a b n
    let q := (a.toInt * b.toInt + half) / (2 ^ n : Nat)
    let acc := ((wReg s r f.d).setWidth 72).toInt + p
    let out := ((wReg s r f.a).setWidth 72).toInt / (2 ^ n : Nat)
    let c := Max.max b.toInt (Min.min a.toInt (gReg s r (f.b + 1)).toInt)
    (n < 63 → runsTo (.mulq r f) s fun t => gResult s t r f.d (wordI (limit 32 p)) false (limit 32 p != p)) ∧
    (n < 63 → runsTo (.mulqR r f) s fun t => gResult s t r f.d (wordI (limit 32 q)) false (limit 32 q != q)) ∧
    (n < 63 → f.d.toNat < 8 → runsTo (.macq r f) s fun t =>
      wResult s t r f.d (BitVec.ofInt 128 (limit 72 acc)) (limit 72 acc != acc)) ∧
    (n = 0 → f.b.toNat % 2 = 0 → f.b ≠ 0 → runsTo (.clamp r f) s fun t => gResult s t r f.d (wordI c) false (c != a.toInt)) ∧
    (1 ≤ n → n ≤ 32 → f.b = 0 → runsTo (.clampN r f) s fun t =>
      gResult s t r f.d (wordI (limit n a.toInt)) false (limit n a.toInt != a.toInt)) ∧
    (n < 63 → f.a.toNat < 8 → f.b = 0 → runsTo (.clampA r f) s fun t =>
      gResult s t r f.d (wordI (limit 32 out)) false (limit 32 out != out))

/-- Branches, jumps and returns go to the stated address, or on in sequence, and change nothing else. -/
def Obligations.BranchesAndJumps : Prop :=
  ∀ (r : Fin 16) (s : State), ready s r →
    (∀ c ∈ brTable r, ∀ f : BrForm,
      (c.2 (gReg s r f.a) (gReg s r f.b) → codeAddrOk s (brTo s r f) = true →
        runsTo (c.1 f) s fun t => jumps s t r (brTo s r f)) ∧
      (¬ c.2 (gReg s r f.a) (gReg s r f.b) → runsTo (c.1 f) s fun t => jumps s t r ((s.rod r).pc + 4))) ∧
    (∀ f : ImmForm, f.d = 0 → codeAddrOk s (jmpTo s r f.a f.imm) = true →
      runsTo (.jmp r f) s fun t => jumps s t r (jmpTo s r f.a f.imm)) ∧
    (∀ a imm, codeAddrOk s (jmpTo s r a imm) = true → runsTo (.call r a imm) s fun t =>
      (∀ n, gReg t r n = if n = 31 then (s.rod r).pc + 4 else gReg s r n) ∧
        t.rod r = { s.rod r with g := (t.rod r).g, pc := jmpTo s r a imm } ∧ t.rd R.FRM_PC r = (s.rod r).pc ∧
        onlyRod s t r (fun k => k = R.FRM_PC.addr r)) ∧
    (∀ f : RegForm, f.d = 0 → f.b = 0 → f.aux = 0 → codeAddrOk s (gReg s r f.a) = true →
      (runsTo (.ret r f) s fun t => jumps s t r (gReg s r f.a)) ∧
      ((s.rod r).inHandler = true → runsTo (.eret r f) s fun t =>
        t.rod r = { s.rod r with pc := gReg s r f.a, inHandler := false } ∧ t.rd R.FRM_PC r = (s.rod r).pc ∧
          onlyRod s t r (fun k => k = R.FRM_PC.addr r)))

namespace Sys2Proof.Claims

open Sys2Proof.Machine

--#
/-- Rod `r` takes an exception into its handler (R85, R128, R131): class and code in FRM_ECAUSE, the addresses in FRM_EPC
and FRM_EADDR, the pc at EXC_ENTRY, and nothing else changed. -/
def entersHandler (s t : State) (r : Nat) (p : Program) (cls code : Nat) (epc eaddr : Word) : Prop :=
  t.rd R.FRM_EPC r = epc ∧ t.rd R.FRM_ECAUSE r = word (cls * 2 ^ 12 + code) ∧ t.rd R.FRM_EADDR r = eaddr ∧
    t.rod r = { s.rod r with pc := p.excEntry, inHandler := true } ∧
    onlyRod s t r (fun a => a = R.FRM_EPC.addr r ∨ a = R.FRM_ECAUSE.addr r ∨ a = R.FRM_EADDR.addr r)

/-- Rod `r` has a handler and is not in it. -/
def handled (s : State) (r : Nat) (p : Program) : Prop :=
  tabFind s.programs r = some p ∧ p.excEntry ≠ 0 ∧ (s.rod r).inHandler = false

/-- The register-form instructions with their class and the forms they accept (R92, R93, R100, R103, R108, R114, R124). -/
def regTable (r : Fin 16) : List (Nat × (RegForm → Instr) × (RegForm → Bool)) :=
  (oprTable r).map (fun c => (0x0, c.cmd, c.legal)) ++ [
  (0x0, .wGet r, fun f => decide (f.a.toNat < 8) && f.b == 0 && decide (f.aux.toNat < 4)),
  (0x0, .wPut r, fun f => decide (f.d.toNat < 8) && f.b == 0 && decide (f.aux.toNat < 4)),
  (0x0, .wMov r, fun f => decide (f.d.toNat < 8) && decide (f.a.toNat < 8) && f.b == 0 && f.aux == 0),
  (0x0, .wZero r, fun f => decide (f.d.toNat < 8) && f.a == 0 && f.b == 0 && f.aux == 0),
  (0x3, .mulq r, fun f => f.aux != 63), (0x3, .mulqR r, fun f => f.aux != 63),
  (0x3, .macq r, fun f => decide (f.d.toNat < 8) && f.aux != 63),
  (0x3, .clamp r, fun f => f.b != 0 && f.b.toNat % 2 == 0 && f.aux == 0),
  (0x3, .clampN r, fun f => f.b == 0 && decide (1 ≤ f.aux.toNat) && decide (f.aux.toNat ≤ 32)),
  (0x3, .clampA r, fun f => decide (f.a.toNat < 8) && f.b == 0 && f.aux != 63),
  (0x6, .ret r, fun f => f.d == 0 && f.b == 0 && f.aux == 0),
  (0x6, .eret r, fun f => f.d == 0 && f.b == 0 && f.aux == 0),
  (0xA, fun f => .push r f true, fun f => decide (f.b.toNat < 8) && f.aux == 0),
  (0xA, .pushR r, fun f => decide (f.b.toNat < 8) && f.aux == 0),
  (0xA, .pop r, fun f => decide (f.b.toNat < 8) && f.aux == 0),
  (0xA, .popA r, fun f => decide (f.b.toNat < 8) && f.aux == 0),
  (0xD, .atSwap r, auxZero), (0xD, .atAdd r, auxZero), (0xD, .atAnd r, auxZero), (0xD, .atOr r, auxZero),
  (0xD, .atXor r, auxZero), (0xD, .atMin r, auxZero), (0xD, .atMax r, auxZero), (0xD, .atMinu r, auxZero),
  (0xD, .atMaxu r, auxZero), (0xD, .atCas r, auxZero)]

/-- The immediate-form instructions that have a constraint (R107, R122, R126, R127). -/
def immTable (r : Fin 16) : List (Nat × (ImmForm → Instr) × (ImmForm → Bool)) := [
  (0x5, .jmp r, fun f => f.d == 0), (0xC, .fence r, fun f => f.d == 0 && f.a == 0 && decide (f.imm.toNat < 32)),
  (0xE, .time r, fun f => f.d != 0 && f.d.toNat % 2 == 0 && f.imm == 0), (0xF, .trap r, fun f => f.d == 0 && f.a == 0)]

end Sys2Proof.Claims

/-- Every word that breaks an operand constraint raises ILLEGAL, enters the handler and has no other effect. The model's own choices and readings in it: log entry 14. -/
def Obligations.IllegalWordsEnterTheHandler : Prop :=
  ∀ (r : Fin 16) (s : State) (p : Program), ready s r → handled s r p →
    let traps := fun (cls : Nat) (i : Instr) =>
      runsTo i s fun t => entersHandler s t r p cls 0x01 (s.rod r).pc 0
    (∀ c ∈ regTable r, ∀ f : RegForm, c.2.2 f = false → traps c.1 (c.2.1 f)) ∧
    (∀ f : RegForm, traps 0x6 (.eret r f)) ∧
    (∀ c ∈ immTable r, ∀ f : ImmForm, c.2.2 f = false → traps c.1 (c.2.1 f)) ∧
    (∀ f : MemForm, 8 ≤ f.d.toNat → traps 0x7 (.ld128 r f) ∧ traps 0x8 (.st128 r f)) ∧
    (∀ f : IoForm, f.off.toNat % 4 ≠ 0 → traps 0x9 (.ioIn r f) ∧ traps 0x9 (.ioOut r f)) ∧
    (∀ f : WaitForm, 8 ≤ f.d.toNat ∨ 8 ≤ f.a.toNat ∨ f.b.toNat % 2 = 1 ∨ f.fn ≠ 0 ∨ f.aux ≠ 0 ∨
      (wReg s r f.a).extractLsb' 80 16 ≠ 0 ∨ (wReg s r f.a).extractLsb' 96 32 ≠ 0 → traps 0xB (.wait r f))

/-- A wait set names ring `n` in a mask although Rods may not consume from it, or produce into it (R65). -/
def offends (w : Bead) (n : Nat) : Prop :=
  (w.getLsbD n = true ∧ rodsConsume n = false) ∨ (w.getLsbD (32 + n) = true ∧ rodsProduce n = false)

/-- Rod `r` takes the exception of a PUSH or POP on a ring `n` it does not own, which the ring's OWNER bit shows (R52, R63). -/
def ringRefused (s t : State) (r : Nat) (p : Program) (n : Nat) : Prop :=
  ∃ u, u.fb F.CRG_STAT_OWNER n = true ∧
    quiet (fun v => { v with regs := [], migration := none }) (fun a => a = R.CRG_STAT.addr n) s u ∧
    entersHandler u t r p 0xA 0x07 (s.rod r).pc (word n)

/-- TRAP, bad transfers and fetches, WAIT masks and ring ownership enter the handler as stated; without a handler, or in it, the program faults by POLICY. The model's own choices and readings in it: log entries 14, 118. -/
def Obligations.TrapsAndFetchFaults : Prop :=
  (∀ (r : Fin 16) (s : State) (f : ImmForm), ready s r → f.d = 0 → f.a = 0 →
    exec (.trap r f) s = .next (raise s r 0xF 0x0F (s.rod r).pc (f.imm.setWidth 32))) ∧
  (∀ (r : Fin 16) (s : State) (p : Program), handled s r p → s.canRun r = true →
    (ready s r →
      (∀ f : ImmForm, f.d = 0 → f.a = 0 →
        runsTo (.trap r f) s fun t => entersHandler s t r p 0xF 0x0F (s.rod r).pc (f.imm.setWidth 32)) ∧
      (∀ c ∈ brTable r, ∀ f : BrForm, c.2 (gReg s r f.a) (gReg s r f.b) → codeAddrOk s (brTo s r f) = false →
        runsTo (c.1 f) s fun t => entersHandler s t r p 0x4 0x02 (s.rod r).pc (brTo s r f)) ∧
      (∀ a imm, codeAddrOk s (jmpTo s r a imm) = false →
        (runsTo (.jmp r ⟨0, a, imm⟩) s fun t => entersHandler s t r p 0x5 0x02 (s.rod r).pc (jmpTo s r a imm)) ∧
        runsTo (.call r a imm) s fun t => entersHandler s t r p 0x5 0x02 (s.rod r).pc (jmpTo s r a imm)) ∧
      (∀ a, codeAddrOk s (gReg s r a) = false →
        runsTo (.ret r ⟨0, a, 0, 0⟩) s fun t => entersHandler s t r p 0x6 0x02 (s.rod r).pc (gReg s r a)) ∧
      (∀ (f : WaitForm) (n : Nat), f.d.toNat < 8 → f.a.toNat < 8 → f.b.toNat % 2 = 0 → f.fn = 0 → f.aux = 0 →
        (wReg s r f.a).extractLsb' 80 16 = 0 → (wReg s r f.a).extractLsb' 96 32 = 0 →
        n < 32 → offends (wReg s r f.a) n → (∀ m < n, ¬ offends (wReg s r f.a) m) →
        runsTo (.wait r f) s fun t => entersHandler s t r p 0xB 0x08 (s.rod r).pc (word n)) ∧
      (∀ f : RegForm, f.b.toNat < 8 → f.aux = 0 →
        (rodsProduce f.a.toNat = false → ∀ i ∈ [Instr.push r f true, .push r f false, .pushR r f],
          runsTo i s fun t => ringRefused s t r p f.a.toNat) ∧
        (rodsConsume f.a.toNat = false → ∀ i ∈ [Instr.pop r f, .popA r f],
          runsTo i s fun t => ringRefused s t r p f.a.toNat))) ∧
    (codeAddrOk s (s.rod r).pc = false → ∀ (w : BitVec 32) (i : Instr), coxisDecode r w = some i →
      runsTo i s fun t => entersHandler s t r p 0x0 0x02 (s.rod r).pc (s.rod r).pc)) ∧
  ∀ (r : Fin 16) (s : State) (cls code : Nat) (epc eaddr : Word), s.logQueue.length < 64 →
    (∀ p, tabFind s.programs r = some p → p.policy ≠ 2 ∧ (p.excEntry = 0 ∨ (s.rod r).inHandler = true)) →
    let t := raise s r cls code epc eaddr
    let cause := word (cls * 2 ^ 12 + (if (s.rod r).inHandler then 0x100 else 0) + code)
    t.rd R.FRM_EPC r = epc ∧ t.rd R.FRM_EADDR r = eaddr ∧ t.rd R.FRM_ECAUSE r = cause ∧
      healthLogged s t r 1 0xF3 (s.f F.FRM_RSTAT_POLICY r) cause ∧
      (∀ n < 32, ∀ v ∈ (t.ring n).resv, v.rod = some r.val → v.written = true ∧ v.isVoid = true) ∧
      (∀ p, tabFind s.programs r = some p → p.policy = 1 → restartsNow s r < p.restartMax →
        t.rodSt r = rodStarting ∧ (t.rod r).pc = p.entry ∧ (t.rod r).inHandler = false ∧ (t.rod r).hold = .none ∧
          (t.rod r).restarts = s.elapsed :: (s.rod r).restarts ∧
          ∀ n, gReg t r n = if n = 1 then word p.dataBase else if n = 2 then word r else 0) ∧
      ((∀ p, tabFind s.programs r = some p → p.policy = 0 ∨ p.restartMax ≤ restartsNow s r) → t.rodSt r = rodFaulted)

namespace Sys2Proof.Claims

open Sys2Proof.Machine

--#
/-- The byte at address `a` as Rod `r` reads it: its own scratch, or Frame SRAM (R44). -/
def byteAt (s : State) (r a : Nat) : Byte :=
  if 0x800000 ≤ a ∧ a < 0x804000 then cellsGet (s.rod r).scratch (a - 0x800000) else cellsGet s.frame a

/-- `n` bytes at `a` as a number, the lowest address least significant (R100, R110). -/
def bytesAt (s : State) (r a : Nat) : Nat → Nat
  | 0 => 0
  | n + 1 => bytesAt s r a n + (byteAt s r (a + n)).toNat * 256 ^ n

/-- An instruction of Rod `r` may load or store `n` bytes at `a`: aligned, in scratch or in Frame SRAM outside enabled
ring storage, in a bead without stored error, and no store of the Rod to these bytes still outstanding. -/
def reachable (s : State) (r a n : Nat) : Prop :=
  a % n = 0 ∧ ((0x800000 ≤ a ∧ a < 0x804000) ∨ (a < 0x800000 ∧ s.inRing a n = false)) ∧
    tabFind s.beadErr (beadOf r a) = none ∧
    ∀ b m d, Posted.store b m d ∈ (s.rod r).posted → a + n ≤ b ∨ b + m ≤ a

/-- The address of a load or store (R110). -/
def memAt (s : State) (r : Nat) (f : MemForm) : Nat := (gReg s r f.a + f.off.signExtend 32).toNat

/-- Loads into a general register, with their size; stores likewise, and the operand's low bytes they store. -/
def loadTable (r : Fin 16) : List ((MemForm → Instr) × Nat) := [(.ld8 r, 1), (.ld16 r, 2), (.ld32 r, 4)]

/-- Stores with their size and the data they store. -/
def storeTable (s : State) (r : Fin 16) : List ((MemForm → Instr) × Nat × (MemForm → Nat) × (MemForm → Prop)) := [
  (.st8 r, 1, fun f => (gReg s r f.d).toNat % 2 ^ 8, fun _ => True),
  (.st16 r, 2, fun f => (gReg s r f.d).toNat % 2 ^ 16, fun _ => True),
  (.st32 r, 4, fun f => (gReg s r f.d).toNat, fun _ => True),
  (.st128 r, 16, fun f => (wReg s r f.d).toNat, fun f => f.d.toNat < 8)]

/-- Atomics: the new value of the word from its old value, gb and gd, and whether it overflows (R124). -/
def atomTable (r : Fin 16) : List ((RegForm → Instr) × (Word → Word → Word → Word) × (Word → Word → Bool)) := [
  (.atSwap r, fun _ b _ => b, noOvf), (.atAdd r, fun o b _ => o + b, fun o b => o.saddOverflow b),
  (.atAnd r, fun o b _ => o &&& b, noOvf), (.atOr r, fun o b _ => o ||| b, noOvf), (.atXor r, fun o b _ => o ^^^ b, noOvf),
  (.atMin r, fun o b _ => BitVec.ofInt 32 (Min.min o.toInt b.toInt), noOvf),
  (.atMax r, fun o b _ => BitVec.ofInt 32 (Max.max o.toInt b.toInt), noOvf),
  (.atMinu r, fun o b _ => BitVec.ofNat 32 (Min.min o.toNat b.toNat), noOvf),
  (.atMaxu r, fun o b _ => BitVec.ofNat 32 (Max.max o.toNat b.toNat), noOvf),
  (.atCas r, fun o b d => if o = d then b else o, noOvf)]

end Sys2Proof.Claims

/-- Loads read the addressed bytes, least significant first; a store to scratch writes exactly its bytes at once, one to Frame SRAM when it is applied. -/
def Obligations.LoadsAndStoresMoveTheirBytes : Prop :=
  (∀ (r : Fin 16) (s : State), ready s r →
    (∀ c ∈ loadTable r, ∀ f : MemForm, reachable s r (memAt s r f) c.2 →
      runsTo (c.1 f) s fun t => gResult s t r f.d (word (bytesAt s r (memAt s r f) c.2)) false false) ∧
    (∀ f : MemForm, f.d.toNat < 8 → reachable s r (memAt s r f) 16 →
      runsTo (.ld128 r f) s fun t => wResult s t r f.d (BitVec.ofNat 128 (bytesAt s r (memAt s r f) 16)) false)) ∧
  (∀ (r : Fin 16) (s : State), s.memOk →
    (ready s r → ∀ c ∈ storeTable s r, ∀ f : MemForm, c.2.2.2 f → reachable s r (memAt s r f) c.2.1 →
      (0x800000 ≤ memAt s r f → runsTo (c.1 f) s fun t =>
        (∀ k < c.2.1, byteAt t r (memAt s r f + k) = BitVec.ofNat 8 (c.2.2.1 f / 256 ^ k)) ∧
          (∀ a, a < memAt s r f ∨ memAt s r f + c.2.1 ≤ a → byteAt t r a = byteAt s r a) ∧
          t.rod r = { s.rod r with scratch := (t.rod r).scratch, pc := (s.rod r).pc + 4 } ∧
          { t with rods := s.rods, regs := s.regs, w1cSet := s.w1cSet, beadErr := s.beadErr } = s ∧ (∀ q, q ≠ r.val → t.rod q = s.rod q) ∧
          (∀ k, tabFind t.beadErr k = tabFind s.beadErr k) ∧
          t.rd R.FRM_PC r = (s.rod r).pc ∧ RegsBut (fun a => a = R.FRM_PC.addr r) s t) ∧
      (memAt s r f < 0x800000 → runsTo (c.1 f) s fun t =>
        t.rod r = { s.rod r with
          posted := (s.rod r).posted ++ [.store (memAt s r f) c.2.1 (BitVec.ofNat 128 (c.2.2.1 f))],
          pc := (s.rod r).pc + 4 } ∧
          t.rd R.FRM_PC r = (s.rod r).pc ∧ onlyRod s t r (fun a => a = R.FRM_PC.addr r))) ∧
    (∀ (k a n : Nat) (d : Bead), (s.rod r).posted[k]? = some (.store a n d) → a + n ≤ 0x800000 →
      n ∈ [1, 2, 4, 16] → (∀ j < k, ∀ b m e, (s.rod r).posted[j]? = some (.store b m e) → a + n ≤ b ∨ b + m ≤ a) →
      tabFind s.beadErr (a / 16) = none →
      runsTo (.postedAccessComplete r k) s fun t =>
        (∀ j < n, cellsGet t.frame (a + j) = BitVec.ofNat 8 (d.toNat / 256 ^ j)) ∧
          (∀ b, b < a ∨ a + n ≤ b → cellsGet t.frame b = cellsGet s.frame b) ∧
          t.rod r = { s.rod r with posted := (s.rod r).posted.eraseIdx k } ∧ (∀ q, q ≠ r.val → t.rod q = s.rod q) ∧
          (∀ j, tabFind t.beadErr j = tabFind s.beadErr j) ∧
          { t with rods := s.rods, frame := s.frame, beadErr := s.beadErr } = s))

/-- The ten atomics give gd the old word and store the new value of R124, and change nothing else. -/
def Obligations.AtomicsReadModifyWrite : Prop :=
  ∀ (r : Fin 16) (s : State), ready s r → Memory.wf s.frame = true → ∀ c ∈ atomTable r, ∀ f : RegForm, f.aux = 0 →
    let a := (gReg s r f.a).toNat
    let old := word (bytesAt s r a 4)
    let new := c.2.1 old (gReg s r f.b) (gReg s r f.d)
    a < 0x800000 → reachable s r a 4 →
      runsTo (c.1 f) s fun t =>
        (∀ k < 4, cellsGet t.frame (a + k) = BitVec.ofNat 8 (new.toNat / 256 ^ k)) ∧
        (∀ b, b < a ∨ a + 4 ≤ b → cellsGet t.frame b = cellsGet s.frame b) ∧
        gResult s { t with frame := s.frame } r f.d old (c.2.2 old (gReg s r f.b)) false

/-- The register that address `a` of register space names to Rod `r`: its own window stands for its own Frame registers (R44). -/
def ownReg (r a : Nat) : Nat :=
  if 0x1100F000 ≤ a ∧ a < 0x1100F100 then 0x11001000 + 0x100 * r + (a - 0x1100F000) else a

/-- The registers a read of which acts, or which show a measurement that no command carries (log entry 5). -/
def actsOnRead : List Reg := [.TIM_NOW_LO, .STO_UDATA, .CAN_RXB, .FRM_PACE, .LSW_IMEAS, .LSW_GRCUR, .SOL_BVOLT, .LSW_GRVOLT,
  .LSW_VOUT, .LSW_TEMP, .MTR_TEMP]

/-- The Frame registers of a Rod that show what they hold. -/
def heldFrm : List RegDesc := [R.FRM_RCTL, R.FRM_PC, R.FRM_EPC, R.FRM_ECAUSE, R.FRM_EADDR, R.FRM_DOORBELL]

/-- IN reads the register its address names, the Rod's own through its window, and zero where none is; OUT posts its write; both check the address. The model's own choices and readings in it: log entries 5, 17. -/
def Obligations.RegisterInAndOut : Prop :=
  ∀ (r : Fin 16) (s : State), ready s r → ∀ f : IoForm, f.off.toNat % 4 = 0 →
    let a := gReg s r f.a + f.off.setWidth 32
    let b := ownReg r a.toNat
    (a.toNat % 4 = 0 → 0x10000000 ≤ a.toNat → a.toNat < 0x70000000 →
      ((∀ k v, Posted.out k v ∉ (s.rod r).posted) →
        (runsTo (.ioIn r f) s fun t => ∃ v u, readAddr b s = (v, u) ∧ gResult u t r f.d v false false) ∧
        (regFind b = none → curveAt b = none → runsTo (.ioIn r f) s fun t => gResult s t r f.d 0 false false) ∧
        (∀ d i j, regFind b = some (d, i, j) → curveAt b = none →
          (regDead s d b i j = true → runsTo (.ioIn r f) s fun t => gResult s t r f.d 0 false false) ∧
          (regDead s d b i j = false → d.id ∉ actsOnRead →
            runsTo (.ioIn r f) s fun t => gResult s t r f.d (regBits s d i (regPeek s d i j)) false false)) ∧
        (∀ c w, curveAt b = some (c, w) → runsTo (.ioIn r f) s fun t => gResult s t r f.d (curveWord s c w) false false) ∧
        (∀ d ∈ heldFrm, a.toNat = d.addr 0 + 0xE000 → runsTo (.ioIn r f) s fun t => gResult s t r f.d (s.rd d r) false false)) ∧
      runsTo (.ioOut r f) s fun t =>
        t.rod r = { s.rod r with posted := (s.rod r).posted ++ [.out b (gReg s r f.d)], pc := (s.rod r).pc + 4 } ∧
          t.rd R.FRM_PC r = (s.rod r).pc ∧ onlyRod s t r (fun k => k = R.FRM_PC.addr r)) ∧
    (∀ p, handled s r p → ∀ i ∈ [Instr.ioIn r f, .ioOut r f],
      (a.toNat % 4 ≠ 0 → runsTo i s fun t => entersHandler s t r p 0x9 0x04 (s.rod r).pc a) ∧
      (a.toNat % 4 = 0 → a.toNat < 0x10000000 ∨ 0x70000000 ≤ a.toNat →
        runsTo i s fun t => entersHandler s t r p 0x9 0x05 (s.rod r).pc a))

namespace Sys2Proof.Claims

open Sys2Proof.Machine

--#
/-- The registers of ring `n`. -/
def ringRegs (n a : Nat) : Prop := 0x11010000 + 0x40 * n ≤ a ∧ a < 0x11010000 + 0x40 * n + 0x40

/-- The books of ring `n` of R58: tail, tally, reserved, committed count, head, produced and consumed. -/
def books (s : State) (n : Nat) : List Word :=
  [s.rd R.CRG_TAIL n, s.rd R.CRG_TALLY n, s.rd R.CRG_RESERVED n, s.rd R.CRG_COUNT n, s.rd R.CRG_HEAD n,
    s.rd R.CRG_PRODUCED n, s.rd R.CRG_CONSUMED n]

/-- Ring `n` takes beads: enabled, not closing, with a free slot, nothing reserved and no Rod amid a PUSH to it. -/
def openRing (s : State) (n : Nat) : Prop :=
  s.ringOn n = true ∧ (s.ring n).closing = false ∧ s.rd R.CRG_TALLY n ≠ 0 ∧ (s.ring n).resv = [] ∧
    ∀ q d k, (s.rod q).hold ≠ .pushing d n k

/-- A slot number after `k`, around the ring. -/
def nextSlot (s : State) (n : Nat) (k : Word) : Word := word ((k.toNat + 1) % s.ringSize n)

/-- Nothing changes but Rod `r`, ring `n` with its books, the 16 bytes at `a` and the bead errors there; wake conditions
of a Rod that is being migrated are held (R70). -/
def onlyRing (s t : State) (r n a : Nat) : Prop :=
  { t with rods := s.rods, regs := s.regs, w1cSet := s.w1cSet, rings := s.rings, frame := s.frame, beadErr := s.beadErr } =
      wakeHold s ∧
    (∀ q, q ≠ r → t.rod q = s.rod q) ∧ (∀ m, m ≠ n → t.ring m = s.ring m) ∧
    RegsBut (fun k => k = R.FRM_PC.addr r ∨ ringRegs n k) s t ∧
    (∀ k, k < a ∨ a + 16 ≤ k → cellsGet t.frame k = cellsGet s.frame k) ∧
    ∀ k, k ≠ a / 16 → tabFind t.beadErr k = tabFind s.beadErr k

/-- Rod `r` completes an instruction whose one register result is the status `st` in general register `d`. -/
def status (s t : State) (r : Nat) (d : BitVec 5) (st : Word) : Prop :=
  (∀ n, gReg t r n = if n = d ∧ d ≠ 0 then st else gReg s r n) ∧
    t.rod r = { s.rod r with g := (t.rod r).g, w := (t.rod r).w, pc := (s.rod r).pc + 4, hold := .none } ∧
    t.rd R.FRM_PC r = (s.rod r).pc

/-- Bead `b` has been added to ring `n` of `s`, reserved, written and committed in one step (R54, R58). -/
def added (s t : State) (r n : Nat) (b : Bead) : Prop :=
  books t n = [nextSlot s n (s.rd R.CRG_TAIL n), s.rd R.CRG_TALLY n - 1, s.rd R.CRG_RESERVED n, s.rd R.CRG_COUNT n + 1,
    s.rd R.CRG_HEAD n, s.rd R.CRG_PRODUCED n + 1, s.rd R.CRG_CONSUMED n] ∧
    (∀ k < 16, cellsGet t.frame (s.slotAddr n (s.nat R.CRG_TAIL n) + k) = BitVec.ofNat 8 (b.toNat / 256 ^ k)) ∧
    (t.ring n).resv = [] ∧ onlyRing s t r n (s.slotAddr n (s.nat R.CRG_TAIL n))

end Sys2Proof.Claims

/-- PUSH and PUSH.R write their bead to the tail slot in slot order; POP and POP.A take the head bead, skip voids and raise on poison; status 1 and 2 as stated. The model's own choices and readings in it: log entry 121. -/
def Obligations.PushesAndPopsMoveBeads : Prop :=
  (∀ (r : Fin 16) (s : State) (f : RegForm), Memory.wf s.frame = true → f.b.toNat < 8 → f.aux = 0 →
    rodsProduce f.a.toNat = true →
    let n := f.a.toNat
    let w := wReg s r f.b
    (ready s r →
      (openRing s n →
        (runsTo (.push r f true) s fun t => status s t r f.d 0 ∧ added s t r n w) ∧
        ((s.rod r).posted = [] → runsTo (.pushR r f) s fun t => status s t r f.d 0 ∧ added s t r n w) ∧
        (n < 32 → runsTo (.push r f false) s fun u =>
          runsTo (.slotCommit (Fin.ofNat 32 n) (s.nat R.CRG_TAIL n)) u fun t => status s t r f.d 0 ∧ added s t r n w)) ∧
      (∀ i ∈ [Instr.push r f true, .push r f false, .pushR r f], (s.rod r).posted = [] →
        (s.ringOn n = true → (s.ring n).closing = false → s.rd R.CRG_TALLY n = 0 →
          runsTo i s fun t => status s t r f.d 1 ∧ onlyRod (wakeHold s) t r (fun a => a = R.FRM_PC.addr r)) ∧
        (s.ringOn n = false ∨ (s.ring n).closing = true →
          runsTo i s fun t => status s t r f.d 2 ∧ onlyRod (wakeHold s) t r (fun a => a = R.FRM_PC.addr r))) ∧
      ((s.rod r).posted ≠ [] → runsTo (.pushR r f) s fun t =>
        t.rod r = { s.rod r with hold := .pushR f.d.toNat n f.b.toNat } ∧ onlyRod s t r (fun _ => False))) ∧
    ((s.rod r).hold = .pushR f.d.toNat n f.b.toNat → (s.rod r).posted = [] → openRing s n →
      runsTo (.pushRRelease r) s fun t => status s t r f.d 0 ∧ added s t r n w)) ∧
  (∀ (n : Fin 32) (k : Nat) (v : Resv) (s : State), (s.ring n).resv.head? = some v → v.written = false → v.slot ≠ k →
    (∃ x ∈ (s.ring n).resv, x.slot = k ∧ x.written = false) →
    (∀ q d j, (s.rod q).hold = .pushing d n j → ∃ x ∈ (s.ring n).resv, x.slot = j) → runsTo (.slotCommit n k) s fun t =>
      (t.ring n).resv = (s.ring n).resv.map (fun x => if x.slot = k then { x with written := true, isVoid := false } else x) ∧
        (t.ring n).voids = (s.ring n).voids ∧ (∀ m, m ≠ n.val → t.ring m = s.ring m) ∧ { t with rings := s.rings } = s) ∧
  (∀ (r : Fin 16) (s : State) (f : RegForm), ready s r → f.b.toNat < 8 → f.aux = 0 → rodsConsume f.a.toNat = true →
    let n := f.a.toNat
    let a := s.slotAddr n (s.nat R.CRG_HEAD n)
    ∀ i ∈ [Instr.pop r f, .popA r f],
      (s.ringOn n = true → s.rd R.CRG_COUNT n ≠ 0 → tabFind (s.ring n).tags (s.nat R.CRG_HEAD n) = none →
        (s.ring n).voids.contains (s.nat R.CRG_HEAD n) = false → tabFind s.beadErr (a / 16) = none →
        runsTo i s fun t => status s t r f.d 0 ∧
          (∀ m, m.toNat < 8 → wReg t r m = if m = f.b then s.frameBead a else wReg s r m) ∧
          books t n = [s.rd R.CRG_TAIL n, s.rd R.CRG_TALLY n + 1, s.rd R.CRG_RESERVED n, s.rd R.CRG_COUNT n - 1,
            nextSlot s n (s.rd R.CRG_HEAD n), s.rd R.CRG_PRODUCED n, s.rd R.CRG_CONSUMED n + 1] ∧
          onlyRing s t r n a ∧ t.frame = s.frame) ∧
      (s.ringOn n = true → (s.ring n).voids.contains (s.nat R.CRG_HEAD n) = true → (s.ring n).tags = [] →
        let next := (nextSlot s n (s.rd R.CRG_HEAD n)).toNat
        let b := s.slotAddr n next
        let after := fun (t : State) (k : Word) (head : Word) => books t n = [s.rd R.CRG_TAIL n, s.rd R.CRG_TALLY n + k,
            s.rd R.CRG_RESERVED n, s.rd R.CRG_COUNT n - k, head, s.rd R.CRG_PRODUCED n, s.rd R.CRG_CONSUMED n + k] ∧
          t.rd R.CRG_VOID n = s.rd R.CRG_VOID n + 1 ∧ onlyRing s t r n b ∧ t.frame = s.frame
        (s.rd R.CRG_COUNT n = 1 → runsTo i s fun t => status s t r f.d 1 ∧ (∀ m, wReg t r m = wReg s r m) ∧
          after t 1 (nextSlot s n (s.rd R.CRG_HEAD n))) ∧
        (2 ≤ s.nat R.CRG_COUNT n → (s.ring n).voids.contains next = false → tabFind s.beadErr (b / 16) = none →
          runsTo i s fun t => status s t r f.d 0 ∧
            (∀ m, m.toNat < 8 → wReg t r m = if m = f.b then s.frameBead b else wReg s r m) ∧
            after t 2 (nextSlot s n (nextSlot s n (s.rd R.CRG_HEAD n))))) ∧
      (∀ p, handled s r p → s.ringOn n = true → n ≠ 19 → s.rd R.CRG_COUNT n ≠ 0 →
        (s.ring n).voids.contains (s.nat R.CRG_HEAD n) = false → tabFind (s.ring n).tags (s.nat R.CRG_HEAD n) = none →
        tabFind s.beadErr (a / 16) = some .poisoned → runsTo i s fun t =>
          t.fb F.CRG_STAT_POISON n = true ∧ t.rd R.CRG_CONSUMED n = s.rd R.CRG_CONSUMED n + 1 ∧
            t.rd R.CRG_COUNT n = s.rd R.CRG_COUNT n - 1 ∧ t.rd R.CRG_HEAD n = nextSlot s n (s.rd R.CRG_HEAD n) ∧
            t.rod r = { s.rod r with pc := p.excEntry, inHandler := true } ∧ t.rd R.FRM_EPC r = (s.rod r).pc ∧
            t.rd R.FRM_ECAUSE r = 0xA006 ∧ t.rd R.FRM_EADDR r = (s.rd R.FRM_EADDR r &&& 0xFFFFFFE0) ||| word n) ∧
      (s.ringOn n = true → s.rd R.CRG_COUNT n = 0 → runsTo i s fun t => status s t r f.d 1 ∧
        (∀ m, wReg t r m = wReg s r m) ∧ onlyRod (wakeHold s) t r (fun k => k = R.FRM_PC.addr r)) ∧
      (s.ringOn n = false → runsTo i s fun t => status s t r f.d 2 ∧
        (∀ m, wReg t r m = wReg s r m) ∧ onlyRod (wakeHold s) t r (fun k => k = R.FRM_PC.addr r)))

/-- Enabling a ring zeroes its books and frees every slot; disabling it with nothing reserved drops its beads as consumed. The model's own choices and readings in it: log entries 119, 175. -/
def Obligations.RingEnableAndDisable : Prop :=
  ∀ (n : Fin 32) (s : State), s.domOn 2 = true → (s.ring n).tags = [] →
    let drops := fun (i : Instr) => runsTo i s fun t =>
      t.fb F.CRG_CFG_EN n = false ∧ t.ring n = {} ∧
        books t n = [s.rd R.CRG_TAIL n, word (s.ringSize n), s.rd R.CRG_RESERVED n, 0, s.rd R.CRG_TAIL n,
          s.rd R.CRG_PRODUCED n, s.rd R.CRG_CONSUMED n + s.rd R.CRG_COUNT n] ∧
        { t with rings := s.rings, regs := s.regs, w1cSet := s.w1cSet, net := s.net } = s ∧
        t.net = { s.net with txOwed := tabDrop s.net.txOwed n } ∧ (∀ m, m ≠ n.val → t.ring m = s.ring m) ∧
        RegsBut (ringRegs n) s t
    (s.fb F.CRG_CFG_EN n = false → ringClash s n (s.nat R.CRG_BASE n) (s.f F.CRG_CFG_SIZE n) = false →
      runsTo (.ringEnable n) s fun t =>
        t.fb F.CRG_CFG_EN n = true ∧ books t n = [0, word (s.ringSize n), 0, 0, 0, 0, 0] ∧ t.rd R.CRG_LOST n = 0 ∧
          t.rd R.CRG_VOID n = 0 ∧ t.ring n = {} ∧ { t with rings := s.rings, regs := s.regs, w1cSet := s.w1cSet } = s ∧
          (∀ m, m ≠ n.val → t.ring m = s.ring m) ∧ RegsBut (ringRegs n) s t) ∧
    (s.fb F.CRG_CFG_EN n = true → s.rd R.CRG_RESERVED n ≠ 0 → runsTo (.ringDisable n) s fun t =>
      t.ring n = { s.ring n with closing := true } ∧ (∀ a, tabFind t.regs a = tabFind s.regs a ∨ a = R.CRG_CFG.addr n) ∧
        t.rd R.CRG_CFG n = s.rd R.CRG_CFG n ∧ { t with rings := s.rings, regs := s.regs, w1cSet := s.w1cSet } = s ∧
        (∀ m, m ≠ n.val → t.ring m = s.ring m)) ∧
    (s.fb F.CRG_CFG_EN n = true → s.rd R.CRG_RESERVED n = 0 → drops (.ringDisable n)) ∧
    (s.fb F.CRG_CFG_EN n = true → (s.ring n).closing = true → s.rd R.CRG_RESERVED n = 0 → drops (.ringDisableEffect n))

namespace Sys2Proof.Claims

open Sys2Proof.Machine

--#
/-- The wait set that WAIT takes from wa and the pair at B (R117). -/
def waitSet (s : State) (r : Nat) (f : WaitForm) : WaitSet :=
  let w := wReg s r f.a
  ⟨w.extractLsb' 0 32, w.extractLsb' 32 32, (w.extractLsb' 64 16).toNat,
    if f.b = 0 then none else some ((gReg s r f.b).toNat + (gReg s r (f.b + 1)).toNat * 2 ^ 32), f.d.toNat⟩

/-- WAIT accepts the word and the wait set: R92, R93, R117, R118 and the ownership of R65. -/
def waitLegal (s : State) (r : Nat) (f : WaitForm) : Prop :=
  f.d.toNat < 8 ∧ f.a.toNat < 8 ∧ f.b.toNat % 2 = 0 ∧ f.fn = 0 ∧ f.aux = 0 ∧
    (wReg s r f.a).extractLsb' 80 16 = 0 ∧ (wReg s r f.a).extractLsb' 96 32 = 0 ∧
    ∀ n < 32, ((wReg s r f.a).getLsbD n = true → rodsConsume n = true) ∧
      ((wReg s r f.a).getLsbD (32 + n) = true → rodsProduce n = true)

/-- Ring `n` of the data mask has a committed bead. -/
def dataTrue (s : State) (ws : WaitSet) (n : Nat) : Prop := ws.data.getLsbD n = true ∧ s.rd R.CRG_COUNT n ≠ 0
/-- Ring `n` of the space mask has a free slot. -/
def spaceTrue (s : State) (ws : WaitSet) (n : Nat) : Prop := ws.space.getLsbD n = true ∧ s.rd R.CRG_TALLY n ≠ 0
/-- Doorbell `n` of the mask is set. -/
def bellTrue (s : State) (r : Nat) (ws : WaitSet) (n : Nat) : Prop :=
  ws.bells.testBit n = true ∧ (s.rd R.FRM_DOORBELL r).getLsbD n = true
/-- The deadline is reached (R119). -/
def deadlineTrue (s : State) (ws : WaitSet) : Prop := ∃ d, ws.deadline = some d ∧ d ≤ s.tbNow ∧ d ≠ 2 ^ 64 - 1

/-- Some condition of the wait set is true (R64). -/
def waitTrueNow (s : State) (r : Nat) (ws : WaitSet) : Prop :=
  (∃ n < 32, dataTrue s ws n ∨ spaceTrue s ws n) ∨ (∃ n < 16, bellTrue s r ws n) ∨ deadlineTrue s ws

/-- The result of WAIT (R120). -/
def waitAnswer (s : State) (r : Nat) (ws : WaitSet) (imm : Bool) (v : Bead) : Prop :=
  (∀ n < 32, (v.getLsbD n = true ↔ dataTrue s ws n) ∧ (v.getLsbD (32 + n) = true ↔ spaceTrue s ws n)) ∧
    (∀ n < 16, v.getLsbD (64 + n) = true ↔ bellTrue s r ws n) ∧
    (v.getLsbD 80 = true ↔ ∃ n < 32, dataTrue s ws n) ∧ (v.getLsbD 81 = true ↔ ∃ n < 32, spaceTrue s ws n) ∧
    (v.getLsbD 82 = true ↔ deadlineTrue s ws) ∧ v.getLsbD 83 = imm ∧ ∀ n, 84 ≤ n → v.getLsbD n = false

/-- Since when Rod `r` executes, which it does now: FRM_PACE counts no time in WAIT (R87). -/
def runsSince (s : State) (r : Nat) : Option Nat := some ((s.rod r).runFrom.getD s.elapsed)

/-- Rod `r` is held at a safe point (R67): its executing time stands, and marked, where no migration can start now, it
stays (R69). -/
def rests (s : State) (r : Nat) (h : RodHold) : RodX :=
  { s.rod r with hold := h, ran := s.rodRan r, runFrom := none, stay := (s.rod r).marked && migrationBarred s }

/-- No migration moves Rod `r`. -/
def unmoved (s : State) (r : Nat) : Prop := ∀ m, s.migration = some m → m.rod ≠ r

/-- WAIT of Rod `r` has returned: the result in wd, the reported doorbells cleared, the Rod running in sequence. -/
def waitDone (s t : State) (r : Nat) (ws : WaitSet) (imm : Bool) : Prop :=
  ∃ v, waitAnswer s r ws imm v ∧
    (∀ m : BitVec 5, m.toNat < 8 → wReg t r m = if m.toNat = ws.dest then v else wReg s r m) ∧
    t.rod r = { s.rod r with w := (t.rod r).w, pc := (s.rod r).pc + 4, hold := .none, runFrom := runsSince s r } ∧
    (∀ n < 16, (t.rd R.FRM_DOORBELL r).getLsbD n = ((s.rd R.FRM_DOORBELL r).getLsbD n && !v.getLsbD (64 + n))) ∧
    t.rodSt r = rodRunning ∧ t.rd R.FRM_PC r = (s.rod r).pc ∧
    onlyRod s t r (fun a => a = R.FRM_PC.addr r ∨ a = R.FRM_RSTAT.addr r ∨ a = R.FRM_DOORBELL.addr r)

/-- The access class of an outstanding access (R73, R112): M for a store, S and T for the blocks STO and TIM and for the
timed SOL_CMD, else I. -/
def ofClass (p : Posted) (c : Nat) : Prop :=
  match p with
  | .store .. => c = 0
  | .out a _ =>
    let sto := 0x10020000 ≤ a ∧ a < 0x10030000
    let timed := (0x10030000 ≤ a ∧ a < 0x10040000) ∨ ∃ n < 24, a = R.SOL_CMD.addr n
    (c = 3 ∧ sto) ∨ (c = 4 ∧ ¬ sto ∧ timed) ∨ (c = 1 ∧ ¬ sto ∧ ¬ timed)
  | .commit | .logw _ => c = 3

/-- Rod `r` has an outstanding access of a class in the mask (R122). -/
def fenced (s : State) (r mask : Nat) : Prop := ∃ p ∈ (s.rod r).posted, ∃ c, ofClass p c ∧ mask.testBit c = true

end Sys2Proof.Claims

/-- WAIT answers R120's word at once where a condition is true, else sleeps until one is, and reported doorbells are cleared. The model's own choices and readings in it: log entries 117, 120, 121. -/
def Obligations.WaitSleepsUntilItsConditions : Prop :=
  ∀ (r : Fin 16) (s : State),
    (ready s r → ∀ f : WaitForm, waitLegal s r f →
      (waitTrueNow s r (waitSet s r f) → runsTo (.wait r f) s fun t => waitDone s t r (waitSet s r f) true) ∧
      (¬ waitTrueNow s r (waitSet s r f) → runsTo (.wait r f) s fun t =>
        t.rod r = rests s r (.wait (waitSet s r f)) ∧ t.rodSt r = rodWaiting ∧
          onlyRod s t r (fun a => a = R.FRM_RSTAT.addr r))) ∧
    (∀ ws : WaitSet, (s.rod r).hold = .wait ws → ws.dest < 8 → ws.bells < 2 ^ 16 →
      (unmoved s r → waitTrueNow s r ws → runsTo (.waitReturn r) s fun t => waitDone s t r ws false) ∧
      (unmoved s r → ¬ waitTrueNow s r ws → exec (.waitReturn r) s = .next s) ∧
      (∀ m, s.migration = some m → m.rod = r → runsTo (.waitReturn r) s fun t =>
        (∃ m', t.migration = some m' ∧ { m' with held := m.held } = m ∧
          (m'.held.any = true ↔ m.held.any = true ∨ waitTrueNow s r ws) ∧ (m.held.any = true → m' = m)) ∧
          { t with migration := s.migration } = s))

/-- FENCE holds its Rod while an access of a class in its mask is outstanding, and TIME gives TB_NOW + ga in its pair. The model's own choices and readings in it: log entries 17, 117, 120. -/
def Obligations.FencesAndTime : Prop :=
  ∀ (r : Fin 16) (s : State),
    (ready s r → ∀ f : ImmForm, f.d = 0 → f.a = 0 → f.imm.toNat < 32 →
      (¬ fenced s r f.imm.toNat → runsTo (.fence r f) s fun t => jumps s t r ((s.rod r).pc + 4)) ∧
      (fenced s r f.imm.toNat → runsTo (.fence r f) s fun t =>
        (fenced s r (f.imm.toNat &&& 24) → t.rodSt r = rodWaiting ∧ t.rod r = rests s r (.fence f.imm.toNat)) ∧
          (¬ fenced s r (f.imm.toNat &&& 24) →
            t.rodSt r = s.rodSt r ∧ t.rod r = { s.rod r with hold := .fence f.imm.toNat }) ∧
          onlyRod s t r (fun a => a = R.FRM_RSTAT.addr r))) ∧
    (∀ m, (s.rod r).hold = .fence m → unmoved s r →
      (¬ fenced s r m → runsTo (.fenceComplete r) s fun t =>
        t.rod r = { s.rod r with pc := (s.rod r).pc + 4, hold := .none, runFrom := runsSince s r } ∧ t.rodSt r = rodRunning ∧
          t.rd R.FRM_PC r = (s.rod r).pc ∧ onlyRod s t r (rodRegs r)) ∧
      (fenced s r m → exec (.fenceComplete r) s = .next s)) ∧
    (ready s r → ∀ f : ImmForm, f.d ≠ 0 → f.d.toNat % 2 = 0 → f.imm = 0 → (∀ a v, Posted.out a v ∉ (s.rod r).posted) →
      runsTo (.time r f) s fun t =>
        let v := BitVec.ofNat 64 (s.tbNow + (gReg s r f.a).toNat)
        (∀ n, gReg t r n = if n = f.d then v.extractLsb' 0 32 else if n = f.d + 1 then v.extractLsb' 32 32 else gReg s r n) ∧
          t.rod r = { s.rod r with g := (t.rod r).g, pc := (s.rod r).pc + 4 } ∧ t.rd R.FRM_PC r = (s.rod r).pc ∧
          onlyRod s t r (fun a => a = R.FRM_PC.addr r))

namespace Sys2Proof.Claims

open Sys2Proof.Machine

--#
/-- Rod `r` holds no reservation of a ring. -/
def noReservation (s : State) (r : Nat) : Prop := ∀ n < 32, ∀ v ∈ (s.ring n).resv, v.rod ≠ some r

/-- Rod `r` has stopped (R88): HALTED, holding nothing; a STOP written in this step stays set (R12). -/
def stopped (s t : State) (r : Nat) : Prop :=
  t.rodSt r = rodHalted ∧
    (t.fb F.FRM_RCTL_STOP r = true ↔ s.fb F.FRM_RCTL_STOP r = true ∧ (s.rod r).stopWr = some s.elapsed) ∧
    t.rod r = { s.rod r with hold := .none, stopAt := none, haltAt := some s.elapsed, ran := s.rodRan r, runFrom := none } ∧
    onlyRod s t r (fun a => a = R.FRM_RSTAT.addr r ∨ a = R.FRM_RCTL.addr r)

/-- A physical Rod degrades (R520): errors at the threshold, three paces below 400, or a handshake above 1000 ns. -/
def degrading (s : State) : RodSign → Prop
  | .errors n => s.f F.HLT_SCRUB_RODCE_TH ≤ n.toNat
  | .pace a b c => a.toNat < 400 ∧ b.toNat < 400 ∧ c.toNat < 400
  | .handshake ns => 1000 < ns.toNat

/-- The lowest-numbered healthy physical Rod that no logical Rod is bound to. -/
def freeRod (s : State) (p : Nat) : Prop :=
  let spare := fun q => q ∉ s.sto.umap.rods ∧ ∀ r < 16, s.physOf r ≠ q
  p < 18 ∧ spare p ∧ ∀ q < p, ¬ spare q

end Sys2Proof.Claims

/-- START gives a Rod its initial state, STOP is a request that halts it, the template copy fills its data region; doorbells set bits and marks wait. The model's own choices and readings in it: log entries 117, 118, 120. -/
def Obligations.RodsStartStopAndTakeTemplates : Prop :=
  (∀ (r : Fin 16) (s : State), s.domOn 2 = true →
    (∀ p, tabFind s.programs r = some p → s.rodSt r = rodHalted ∨ s.rodSt r = rodFaulted →
      runsTo (.rodStart r) s fun t =>
        (∀ n, gReg t r n = if n = 1 then word p.dataBase else if n = 2 then word r else 0) ∧ (∀ n, wReg t r n = 0) ∧
        t.rod r = { s.rod r with g := (t.rod r).g, w := (t.rod r).w, pc := p.entry, scratch := [], inHandler := false,
                                 hold := .none, stopAt := none, ran := s.rodRan r, runFrom := none } ∧
        t.rodSt r = rodStarting ∧ t.fb F.FRM_RCTL_STOP r = false ∧ t.fb F.FRM_RSTAT_OVF r = false ∧ t.fb F.FRM_RSTAT_SAT r = false ∧
        t.f F.FRM_DOORBELL_V r = bellsWritten s r ∧
        (∀ k, tabFind t.beadErr k =
          if scratchBead r 0 ≤ k ∧ k ≤ scratchBead r 0x3FFF then none else tabFind s.beadErr k) ∧
        onlyRod { s with beadErr := t.beadErr } t r
          (fun a => a = R.FRM_RCTL.addr r ∨ a = R.FRM_RSTAT.addr r ∨ a = R.FRM_DOORBELL.addr r)) ∧
    (∀ p, tabFind s.programs r = some p → s.rodSt r = rodRunning →
      runsTo (.rodStart r) s fun t => t.rod r = s.rod r ∧ t.rodSt r = rodRunning ∧
        onlyRod s t r (fun a => a = R.FRM_RCTL.addr r)) ∧
    (s.rodSt r = rodRunning ∨ s.rodSt r = rodWaiting ∨ s.rodSt r = rodStarting → (s.rod r).stopAt = none →
      runsTo (.rodStop r) s fun t => t.fb F.FRM_RCTL_STOP r = true ∧ 
          t.rod r = { s.rod r with stopAt := some s.elapsed, stopWr := some s.elapsed } ∧
        onlyRod s t r (fun a => a = R.FRM_RCTL.addr r)) ∧
    (∀ at0, (s.rod r).stopAt = some at0 → noReservation s r →
      (s.atSafePoint r = true → unmoved s r → runsTo (.rodHalt r) s fun t => stopped s t r) ∧
      (s.atSafePoint r = false → at0 + 1000000 ≤ s.elapsed → runsTo (.rodStopForced r) s fun t => stopped s t r) ∧
      (s.elapsed < at0 + 1000000 → exec (.rodStopForced r) s = .next s))) ∧
  (∀ (r : Fin 16) (s : State), s.domOn 2 = true →
    (∀ p, s.memOk → tabFind s.programs r = some p → s.rodSt r = rodStarting →
      (∀ a n b, Posted.store a n b ∉ (s.rod r).posted) → runsTo (.templateCopyDone r) s fun t =>
      (∀ k < p.dataSize, cellsGet t.frame (p.dataBase + k) = cellsGet s.template (p.tplStart + k)) ∧
        (∀ a, a < p.dataBase ∨ p.dataBase + p.dataSize ≤ a → cellsGet t.frame a = cellsGet s.frame a) ∧
        t.rodSt r = rodRunning ∧ t.rod r = { s.rod r with runFrom := runsSince s r } ∧ (∀ q, q ≠ r → t.rod q = s.rod q) ∧
        { t with frame := s.frame, beadErr := s.beadErr, rods := s.rods, regs := s.regs, w1cSet := s.w1cSet } = s ∧
        RegsBut (fun a => a = R.FRM_RSTAT.addr r) s t) ∧
    (∀ bells, runsTo (.doorbell r bells) s fun t =>
      (∀ n < 16, (t.rd R.FRM_DOORBELL r).getLsbD n = ((s.rd R.FRM_DOORBELL r).getLsbD n || bells.getLsbD n)) ∧
        t.rod r = { s.rod r with bellWr := some (s.elapsed, bellsWritten s r ||| bells.toNat) } ∧
        onlyRod s t r (fun a => a = R.FRM_DOORBELL.addr r)) ∧
    ∀ why, (s.rodSt r ≠ rodShed → (s.rod r).marked = false → degrading s why → runsTo (.rodMarked ⟨r, why⟩) s fun t =>
        (s.atSafePoint r = false → t.rod r = { s.rod r with marked := true }) ∧
          (s.atSafePoint r = true → t.rod r = { s.rod r with marked := true, stay := migrationBarred s }) ∧
          onlyRod s t r (fun _ => False)) ∧
      (s.rodSt r = rodShed ∨ (s.rod r).marked = true ∨ ¬ degrading s why → exec (.rodMarked ⟨r, why⟩) s = .next s))

/-- A migration takes the lowest free physical Rod and ends bound to it; an outright failure retires a Rod and faults its program by its POLICY. The model's own choices and readings in it: log entries 121, 122, 163. -/
def Obligations.MigrationsAndRodFailures : Prop :=
  ∀ (s : State), s.domOn 2 = true → s.logQueue.length < 32 →
    (∀ (r : Fin 16) (q : Nat), (s.rod r).marked = true → s.atSafePoint r = true → (s.rod r).stay = false →
      s.migration = none → (∀ t0, s.migEnd = some t0 → t0 + 1000000 ≤ s.elapsed) → (s.rod r).posted = [] → freeRod s q →
      runsTo (.migrationStart r) s fun t => t.migration = some ⟨r, q, s.elapsed, {}⟩ ∧
        { t with migration := none, rods := s.rods } = s ∧ ∀ p, t.rod p = s.rod p) ∧
    (∀ m, s.migration = some m → m.rod < 16 → m.phys < 18 → runsTo .migrationEnd s fun t =>
      t.physOf m.rod = m.phys ∧ s.physOf m.rod ∈ t.sto.umap.rods ∧ t.migration = none ∧ t.migEnd = some s.elapsed ∧
        (t.rod m.rod).marked = false ∧ healthLogged s t m.rod 1 0xF0 m.phys (word (s.physOf m.rod)) ∧
        (∀ k < 16, k ≠ m.rod → t.physOf k = s.physOf k ∧ t.rod k = s.rod k) ∧
        ∀ ws, (s.rod m.rod).hold = .wait ws → m.held.any = true →
          (t.rod m.rod).hold = .none ∧ t.rodSt m.rod = rodRunning) ∧
    (∀ (p : Fin 18) (r q : Nat), p.val ∉ s.sto.umap.rods → s.migration = none → r < 16 → s.physOf r = p →
      (∀ k < 16, k ≠ r → s.physOf k ≠ p) → freeRod s q → runsTo (.rodFail p) s fun t =>
        t.sto.umap.rods = s.sto.umap.rods ++ [p.val] ∧ t.physOf r = q ∧ (∀ k < 16, k ≠ r → t.physOf k = s.physOf k) ∧
          (s.rodSt r = rodRunning → s.f F.FRM_RSTAT_POLICY r = 0 → (∀ pr, tabFind s.programs r = some pr → pr.policy = 0) →
            t.rd R.FRM_ECAUSE r = word (0x0E + if (s.rod r).inHandler then 0x100 else 0) ∧
              t.rd R.FRM_EPC r = s.rd R.FRM_PC r ∧ t.rd R.FRM_EADDR r = 0 ∧ t.rodSt r = rodFaulted) ∧
          (s.rodSt r = rodRunning → ∀ pr, tabFind s.programs r = some pr → pr.policy = 1 →
            (restartsNow s r < pr.restartMax → t.rodSt r = rodStarting ∧ (t.rod r).pc = pr.entry ∧
              (t.rod r).restarts = s.elapsed :: (s.rod r).restarts) ∧
            (pr.restartMax ≤ restartsNow s r → t.rodSt r = rodFaulted)))

namespace Sys2Proof.Claims

open Sys2Proof.Machine

--#
/-! ### Dielectric front end -/

/-- A state without the dielectric channels, their published words' counts and the registers. -/
def noDfe (s : State) : State := { s with regs := [], dfe := [], pubs := [], ageBase := [] }

/-- The registers of dielectric channel `n`. -/
def dfeRegs (n a : Nat) : Prop := 0x31001000 + 0x100 * n ≤ a ∧ a < 0x31001000 + 0x100 * n + 0x100

/-- A frame boundary of the running channel `n` has been taken in this step. -/
def boundaryNow (s : State) (n : Nat) : Bool :=
  s.fb F.DFE_CH_CTL_EN n && (s.dfeX n).lastAt == s.elapsed && (s.dfeX n).lastTb == some s.tbNow

/-- A plan that fits its registers. -/
def planFits (p : TonePlan) : Prop :=
  p.frameUs < 2 ^ 17 ∧ 0 < p.frameUs ∧ p.moutN < 2 ^ 11 ∧ p.filtN < 2 ^ 7 ∧ 0 < p.filtN ∧ p.tones.length = 8

end Sys2Proof.Claims

/-- GO and EN submit a checked tone plan, a frame boundary puts it in force with its settle count, and a disabled channel stops there. The model's own choices and readings in it: log entries 130, 170, 174. -/
def Obligations.DielectricPlansAndChannels : Prop :=
  ∀ (n : Fin 8) (s : State), dfeOn s = true →
    let p := stagedPlan s n
    let c := s.f F.DFE_CH_CTL_CURVE n
    (planOk s c p = true → boundaryNow s n = false → runsTo (.dfeGo n) s fun t =>
      t.dfeX n = { s.dfeX n with plan := some p } ∧
        t.fb F.DFE_CH_STAT_SUPERSEDED n = (s.fb F.DFE_CH_STAT_SUPERSEDED n || (s.dfeX n).plan.isSome) ∧
        (∀ m, m ≠ n.val → t.dfeX m = s.dfeX m) ∧
        quiet noDfe (fun a => a = R.DFE_CH_STAT.addr n ∨ a = R.DFE_EXC_PLAN.addr n) s t) ∧
    (planOk s c p = true → boundaryNow s n = true → s.f F.DFE_CH_FLT_SETTLE_US n = 0 → runsTo (.dfeGo n) s fun t =>
      t.f F.DFE_ACT_PLAN_FRAME_US n = p.frameUs ∧ (∀ k < 8, t.rd R.DFE_ACT_TONE n k = s.rd R.DFE_TONE n k) ∧
        t.f F.DFE_CH_STAT_SETTLE_LEFT n = p.filtN ∧ (t.dfeX n).plan = none ∧
        (∀ m, m ≠ n.val → t.dfeX m = s.dfeX m) ∧ quiet noDfe (dfeRegs n) s t) ∧
    (planOk s c p = false → runsTo (.dfeGo n) s fun t =>
      t.dfe = s.dfe ∧ t.fb F.DFE_CH_STAT_REFUSED n = true ∧
        noisy noDfe (fun a => a = R.DFE_CH_STAT.addr n ∨ a = R.DFE_EXC_PLAN.addr n) s t) ∧
    (s.fb F.DFE_CH_CTL_EN n = false → dfeCurveOk s c = true → planOk s c p = true → runsTo (.dfeEnable n) s fun t =>
      t.fb F.DFE_CH_CTL_EN n = true ∧ (t.dfeX n).plan = some p ∧ t.rd R.DFE_CH_MOIST n = 0 ∧ t.rd R.DFE_CH_DENS n = 0 ∧
        t.fb F.DFE_CH_STAT_FAULT n = true ∧ t.f F.DFE_CH_STAT_FKIND n = 6 ∧ t.f F.DFE_CH_MFLAG_FLAGS n = 1 ∧
        (∀ m, m ≠ n.val → t.dfeX m = s.dfeX m) ∧ (dfePath s n ≠ 255 → quiet noDfe (dfeRegs n) s t) ∧
        (dfePath s n = 255 → noisy noDfe (dfeRegs n) s t)) ∧
    (s.fb F.DFE_CH_CTL_EN n = true → runsTo (.dfeDisable n) s fun t =>
      t.fb F.DFE_CH_CTL_EN n = false ∧ t.dfeX n = { s.dfeX n with stopping := true } ∧
        (∀ m, m ≠ n.val → t.dfeX m = s.dfeX m) ∧ quiet noDfe (fun a => a = R.DFE_CH_CTL.addr n) s t) ∧
    (∀ (d : DfeFrame) q, dfeDue s n = true → (s.dfeX n).stopping = false → (s.dfeX n).takeover = false →
      s.fb F.DFE_CH_STAT_ACTIVE n = false → (s.dfeX n).plan = some q → planFits q →
      q.filtN + (s.f F.DFE_CH_FLT_SETTLE_US n + q.frameUs - 1) / q.frameUs < 256 →
      runsTo (.dfeFrameBoundary n d) s fun t =>
        t.f F.DFE_ACT_PLAN_FRAME_US n = q.frameUs ∧ t.f F.DFE_ACT_FILT_MOUT_N n = q.moutN ∧
          t.f F.DFE_ACT_FILT_FILT_N n = q.filtN ∧ (∀ k < 8, t.rd R.DFE_ACT_TONE n k = q.tones.getD k 0) ∧
          t.f F.DFE_CH_STAT_SETTLE_LEFT n = q.filtN + (s.f F.DFE_CH_FLT_SETTLE_US n + q.frameUs - 1) / q.frameUs ∧
          t.fb F.DFE_CH_STAT_ACTIVE n = true ∧ t.fb F.DFE_CH_STAT_UNSETTLED n = true ∧ (t.dfeX n).plan = none ∧
          (t.dfeX n).frames = [] ∧ (∀ m, m ≠ n.val → t.dfeX m = s.dfeX m) ∧ quiet noDfe (dfeRegs n) s t) ∧
    (∀ d : DfeFrame, dfeDue s n = true → (s.dfeX n).stopping = true → (∀ k, tabFind s.dfeSpare.checks 8 = some k → k.ch ≠ n) →
      runsTo (.dfeFrameBoundary n d) s fun t =>
        t.fb F.DFE_CH_STAT_ACTIVE n = false ∧ t.fb F.DFE_CH_STAT_FAULT n = true ∧ t.f F.DFE_CH_STAT_FKIND n = 0 ∧
          t.f F.DFE_CH_MFLAG_FLAGS n = 1 ∧ t.rd R.DFE_CH_MOIST n = s.rd R.DFE_CH_MOIST n ∧
          (∀ m, m ≠ n.val → t.dfeX m = s.dfeX m) ∧ quiet noDfe (dfeRegs n) s t)

/-- A settled output instant publishes moisture from m0, density and reference; an empty cell faults; checks rotate; a failed path is swapped or faulted. The model's own choices and readings in it: log entries 58, 124, 167, 168. -/
def Obligations.DielectricResultsAndSpares : Prop :=
  ∀ (n : Fin 8) (s : State), dfeOn s = true →
    let x := s.dfeX n
    let c := s.f F.DFE_CH_CTL_CURVE n
    (dfeOutDue s n = true → s.f F.DFE_CH_STAT_SETTLE_LEFT n = 0 → x.swapLeft = 0 → x.faults = [] →
      s.f F.DFE_CH_TSRC_TSRC n = 0xFFF →
      (∀ m0 h, moisture0 s c (tonesLeft s n) = some m0 → topTone (tonesLeft s n) = some h → 1000000 ≤ h.f →
        curveCoef s c 4 h.f + curveCoef s c 5 h.f * m0 ≠ 0 →
        let rho := h.e1 / (curveCoef s c 4 h.f + curveCoef s c 5 h.f * m0);
        -2 ^ 31 ≤ roundAway (10 * rho) → roundAway (10 * rho) < 2 ^ 31 → runsTo (.dfeOutputInstant n) s fun t =>
          t.rd R.DFE_CH_MOIST n =
              wordI (Max.max 0 (Min.min (roundAway (100 * (m0 + curveF s c 3 * (rho - curveF s c 1)))) 10000)) ∧
            t.rd R.DFE_CH_DENS n = wordI (roundAway (10 * rho)) ∧ t.f F.DFE_CH_MFLAG_FLAGS n = 0 ∧
            t.f F.DFE_CH_DFLAG_FLAGS n = 0 ∧ noisy noDfe (dfeRegs n) { s with fresh := t.fresh } t) ∧
      (moisture0 s c (tonesLeft s n) = none → runsTo (.dfeOutputInstant n) s fun t =>
        t.fb F.DFE_CH_STAT_FAULT n = true ∧ t.f F.DFE_CH_STAT_FKIND n = 7 ∧ t.rd R.DFE_CH_MOIST n = s.rd R.DFE_CH_MOIST n ∧
          t.rd R.DFE_CH_DENS n = s.rd R.DFE_CH_DENS n ∧ noisy noDfe (dfeRegs n) s t)) ∧
    (s.fb F.DFE_CH_STAT_ACTIVE n = true → s.fb F.DFE_CH_STAT_TSRC_LOST n = true → x.faults = [] →
      s.f F.DFE_CH_STAT_SETTLE_LEFT n = 0 → s.fb F.DFE_CH_STAT_NODENS n = false →
      x.tempAt + s.f F.DFE_CH_TSRC_TEMP_HOLD n * 1000000000 ≤ s.elapsed → runsTo (.tempHoldExpiry n) s fun t =>
        t.f F.DFE_CH_STAT_FKIND n = 5 ∧ t.f F.DFE_CH_MFLAG_FLAGS n = 1 ∧ t.f F.DFE_CH_DFLAG_FLAGS n = 0 ∧
          t.rd R.DFE_CH_MOIST n = s.rd R.DFE_CH_MOIST n ∧ noisy noDfe (dfeRegs n) s t) ∧
    (dfeSpareFree s = true → s.dfeSpare.checks = [] →
      (∀ t0, tabFind s.dfeSpare.started 8 = some t0 → t0 + s.f F.DFE_XCHK_PERIOD_S * 1000000000 ≤ s.elapsed) →
      runsTo .dfeCrossCheck s fun t =>
        let k := (match s.dfeSpare.cursor with | none => 0 | some k => (k + 1) % 8)
        t.dfeSpare.cursor = some k ∧
          t.dfeSpare.checks.map (fun q => q.2.ch) =
            (if s.fb F.DFE_CH_STAT_ACTIVE k && !s.fb F.DFE_CH_STAT_UNSETTLED k && !s.fb F.DFE_CH_STAT_FAULT k then [k] else []) ∧
          { t with dfeSpare := s.dfeSpare } = s) ∧
    (dfePath s n ≠ 255 →
      (dfeSpareFree s = true → runsTo (.dfePathFail n) s fun t =>
        dfePath t n = 8 ∧ dfePath s n ∈ t.sto.umap.dpaths ∧ (t.dfeX n).frames = [] ∧
          (∀ m, m ≠ n.val → dfePath t m = dfePath s m ∧ t.dfeX m = s.dfeX m)) ∧
      (dfeSpareFree s = false → s.fb F.DFE_CH_STAT_ACTIVE n = true → x.faults = [] → runsTo (.dfePathFail n) s fun t =>
        dfePath t n = 255 ∧ dfePath s n ∈ t.sto.umap.dpaths ∧ t.fb F.DFE_CH_STAT_FAULT n = true ∧
          t.f F.DFE_CH_STAT_FKIND n = 4 ∧ (∀ m, m ≠ n.val → dfePath t m = dfePath s m ∧ t.dfeX m = s.dfeX m)))

namespace Sys2Proof.Claims

open Sys2Proof.Machine

--#
/-! ### Precision front end and curve memory -/

/-- A state without the precision channels, their published words' counts and the registers. -/
def noPfe (s : State) : State := { s with regs := [], pfe := [], pubs := [], ageBase := [] }

/-- The registers of precision channel `n`. -/
def pfeRegs (n a : Nat) : Prop := 0x30000000 + 0x100 * n ≤ a ∧ a < 0x30000000 + 0x100 * n + 0x100

/-- Precision channel `n` converts undisturbed: no step of TB_NOW since its last instant, no sample at the limit or from
before a range change in its filter `l`, no fault, takeover, filling spare or check on it, and its range fixed. -/
def pfeCalm (s : State) (n : Nat) (l : List ModRun) : Prop :=
  let x := s.pfeX n
  pfeDue s n = true ∧ x.stopping = false ∧ x.steps = s.steps ∧ (∀ r ∈ l, r.clip = false ∧ r.old = false) ∧
    x.filling = false ∧ x.takeover = none ∧ x.rangeReq = false ∧ x.faults = [] ∧ s.fb F.PFE_CH_RANGE_AUTO n = false ∧
    ∀ c ∈ s.pfeSpare.checks, c.2.ch ≠ n

end Sys2Proof.Claims

/-- EN starts and stops a precision channel, a calm conversion publishes its raw value, and the window and cold-junction faults hold the word. The model's own choices and readings in it: log entries 130, 135, 136, 137. -/
def Obligations.PrecisionChannelsConvert : Prop :=
  ∀ (n : Fin 48) (s : State), s.domOn 4 = true →
    let x := s.pfeX n
    let others := fun (t : State) => ∀ m, m ≠ n.val → t.pfeX m = s.pfeX m
    (s.fb F.PFE_CH_CTL_EN n = false → pfeEnableRefuse s n (s.f F.PFE_CH_CTL_MODE n) (s.f F.PFE_CH_CTL_CURVE n) = false →
      runsTo (.pfeEnable n) s fun t =>
        t.fb F.PFE_CH_CTL_EN n = true ∧ t.fb F.PFE_CH_STAT_ACTIVE n = true ∧ t.rd R.PFE_CH_VAL n = 0 ∧
          t.fb F.PFE_CH_STAT_FAULT n = true ∧ t.f F.PFE_CH_STAT_FKIND n = 6 ∧ t.f F.PFE_CH_FLAG_FLAGS n = 1 ∧
          others t ∧ (pfePath s n ≠ 255 → quiet noPfe (pfeRegs n) s t) ∧
          (pfePath s n = 255 → noisy noPfe (pfeRegs n) s t)) ∧
    (s.fb F.PFE_CH_CTL_EN n = true → runsTo (.pfeDisable n) s fun t =>
      t.fb F.PFE_CH_CTL_EN n = false ∧ t.pfeX n = { x with stopping := true } ∧ others t ∧
        quiet noPfe (fun a => a = R.PFE_CH_CTL.addr n) s t) ∧
    (∀ d : PfeSample, pfeDue s n = true → x.stopping = true → (∀ c ∈ s.pfeSpare.checks, c.2.ch ≠ n) →
      runsTo (.pfeConversion n d) s fun t =>
        t.fb F.PFE_CH_STAT_ACTIVE n = false ∧ t.fb F.PFE_CH_STAT_FAULT n = true ∧ t.f F.PFE_CH_STAT_FKIND n = 0 ∧
          t.rd R.PFE_CH_VAL n = s.rd R.PFE_CH_VAL n ∧ others t ∧ quiet noPfe (pfeRegs n) s t) ∧
    (∀ v : Word, bits v 9 8 ≤ bits v 13 12 →
      (v.getLsbD 0 = false → bits v 9 8 ≤ bits v 5 4 ∧ bits v 5 4 ≤ bits v 13 12) → runsTo (.pfeRangeWrite n v) s fun t =>
        t.f F.PFE_CH_RANGE_RANGE_MAX n = bits v 13 12 ∧ t.f F.PFE_CH_RANGE_RANGE_MIN n = bits v 9 8 ∧
          t.fb F.PFE_CH_RANGE_AUTO n = v.getLsbD 0 ∧
          (v.getLsbD 0 = false → t.f F.PFE_CH_RANGE_RANGE n = bits v 5 4) ∧
          (v.getLsbD 0 = true → t.f F.PFE_CH_RANGE_RANGE n =
            if s.fb F.PFE_CH_CTL_EN n && pfeRanged (s.f F.PFE_CH_CTL_MODE n) then x.range % 4 else s.f F.PFE_CH_RANGE_RANGE n) ∧
          others t ∧ quiet noPfe (fun a => a = R.PFE_CH_RANGE.addr n) s t) ∧
    (∀ (d : PfeSample) (p q : BitVec 32), let l := pushRuns (s.pfeTaps n) d.mods x.runs
      let raw := roundAway (filterVolt s n x.range l)
      let vcm : Rat := ((p.toInt + q.toInt : Int) : Rat) / 2000
      pfeCalm s n l → d.inp = some p → d.inn = some q → -2 ^ 31 ≤ raw → raw < 2 ^ 31 →
      s.f F.PFE_CH_CTL_MODE n = 0 → s.f F.PFE_CH_CTL_CURVE n = 0 →
      let high := 3500000 < p.toInt ∨ 3500000 < q.toInt
      let low := p.toInt < -300000 ∨ q.toInt < -300000
      ((s.fi F.PFE_CH_CM_CM_LO n : Rat) ≤ vcm → vcm ≤ (s.fi F.PFE_CH_CM_CM_HI n : Rat) → ¬ high → ¬ low →
        runsTo (.pfeConversion n d) s fun t =>
          t.rd R.PFE_CH_VAL n = wordI raw ∧ t.rd R.PFE_CH_RAW n = wordI raw ∧
            t.rd R.PFE_CH_VCM n = wordI (roundAway vcm) ∧ t.f F.PFE_CH_FLAG_FLAGS n = 0 ∧
            t.fb F.PFE_CH_STAT_FAULT n = false ∧ tabGet 0 t.pubs n = tabGet 0 s.pubs n + 1 ∧ (t.pfeX n).runs = l ∧
            others t ∧ quiet noPfe (pfeRegs n) s t) ∧
      ((s.fi F.PFE_CH_CM_CM_HI n : Rat) < vcm ∨ ((s.fi F.PFE_CH_CM_CM_LO n : Rat) ≤ vcm ∧ high) →
        s.f F.PFE_CH_FLT_CM_N n ≤ x.outCount + 1 →
        runsTo (.pfeConversion n d) s fun t =>
          t.fb F.PFE_CH_STAT_FAULT n = true ∧ t.f F.PFE_CH_STAT_FKIND n = 1 ∧ t.rd R.PFE_CH_VAL n = s.rd R.PFE_CH_VAL n ∧
            t.f F.PFE_CH_FLAG_FLAGS n = 1 ∧ others t ∧ noisy noPfe (pfeRegs n) s t) ∧
      (vcm ≤ (s.fi F.PFE_CH_CM_CM_HI n : Rat) →
        vcm < (s.fi F.PFE_CH_CM_CM_LO n : Rat) ∨ ((s.fi F.PFE_CH_CM_CM_LO n : Rat) ≤ vcm ∧ ¬ high ∧ low) →
        s.f F.PFE_CH_FLT_CM_N n ≤ x.outCount + 1 → runsTo (.pfeConversion n d) s fun t =>
          t.fb F.PFE_CH_STAT_FAULT n = true ∧ t.f F.PFE_CH_STAT_FKIND n = 2 ∧ t.rd R.PFE_CH_VAL n = s.rd R.PFE_CH_VAL n ∧
            t.f F.PFE_CH_FLAG_FLAGS n = 1 ∧ others t ∧ noisy noPfe (pfeRegs n) s t)) ∧
    (s.fb F.PFE_CH_STAT_ACTIVE n = true → s.fb F.PFE_CH_STAT_CJ_LOST n = true → x.faults = [] →
      1 ≤ s.f F.PFE_CH_CTL_CURVE n → s.f F.PFE_CH_CTL_CURVE n ≤ 8 →
      x.tcjAt + s.f F.PFE_CH_FLT_CJ_HOLD n * 1000000000 ≤ s.elapsed → runsTo (.cjHoldExpiry n) s fun t =>
        t.fb F.PFE_CH_STAT_FAULT n = true ∧ t.f F.PFE_CH_STAT_FKIND n = 5 ∧ t.rd R.PFE_CH_VAL n = s.rd R.PFE_CH_VAL n ∧
          others t ∧ noisy noPfe (pfeRegs n) s t) ∧
    (∀ (m : Fin 12) (v : Word), s.tbNow % 100000000 = 0 → runsTo (.cjSensorRead m v) s fun t =>
      t.rd R.PFE_CJT m = v ∧ quiet (fun u => { u with regs := [] }) (fun a => a = R.PFE_CJT.addr m) s t)

/-- A spare path checks the next enabled channel and replaces a failed path; a user curve slot takes writes unless it is in use. The model's own choices and readings in it: log entry 58. -/
def Obligations.PrecisionSparesAndCurves : Prop :=
  ∀ s : State,
    (∀ (p : Fin 4) (k : Nat), s.domOn 4 = true → 48 + p.val ∈ pfeFreeSpares s → tabFind s.pfeSpare.checks (48 + p) = none →
      (∀ t0, tabFind s.pfeSpare.started (48 + p) = some t0 → t0 + s.f F.PFE_XCHK_PERIOD_S * 1000000000 ≤ s.elapsed) →
      (∀ q ∈ s.pfe, q.2.takeover ≠ some (48 + p.val)) →
      let open_ := fun j => j < 48 ∧ s.fb F.PFE_CH_CTL_EN j = true ∧ s.fb F.PFE_CH_STAT_ACTIVE j = true ∧
        ∀ c ∈ s.pfeSpare.checks, c.2.ch ≠ j
      open_ k → (s.pfeSpare.cursor = none → ∀ j, open_ j → k ≤ j) →
      (∀ c, s.pfeSpare.cursor = some c → (c < k ∧ ∀ j, open_ j → c < j → k ≤ j) ∨
        ((∀ j, open_ j → j ≤ c) ∧ ∀ j, open_ j → k ≤ j)) →
      runsTo (.pfeCrossCheck p) s fun t =>
        (tabFind t.pfeSpare.checks (48 + p)).map (fun c => c.ch) = some k ∧ t.pfeSpare.cursor = some k ∧
          { t with pfeSpare := s.pfeSpare } = s) ∧
    (∀ n : Fin 48, s.domOn 4 = true → pfePath s n ≠ 255 →
      (∀ p rest, pfeFreeSpares s = p :: rest → runsTo (.pfePathFail n) s fun t =>
        pfePath t n = p ∧ pfePath s n ∈ t.sto.umap.ppaths ∧ (t.pfeX n).runs = [] ∧ (t.pfeX n).filling = true ∧
          (∀ m, m ≠ n.val → pfePath t m = pfePath s m ∧ t.pfeX m = s.pfeX m)) ∧
      (pfeFreeSpares s = [] → s.fb F.PFE_CH_STAT_ACTIVE n = true → (s.pfeX n).faults = [] → runsTo (.pfePathFail n) s fun t =>
        pfePath t n = 255 ∧ pfePath s n ∈ t.sto.umap.ppaths ∧ t.fb F.PFE_CH_STAT_FAULT n = true ∧
          t.f F.PFE_CH_STAT_FKIND n = 4 ∧ (∀ m, m ≠ n.val → pfePath t m = pfePath s m ∧ t.pfeX m = s.pfeX m))) ∧
    (∀ (c w : Fin 256) (v : Word), s.domOn 2 = true →
      let v' := if w.val = 0 then v &&& 0x00FFFFFF else v
      (192 ≤ c.val → curveInUse s c = false → runsTo (.curveSlotWrite c w v) s fun t =>
        curveWord t c w = v' ∧ (∀ d k, (d, k) ≠ (c.val, w.val) → k < 256 → curveWord t d k = curveWord s d k) ∧
          { t with curves := s.curves, sto := s.sto, sys := s.sys } = s) ∧
      (192 ≤ c.val → curveInUse s c = true → curveWord s c w ≠ v' → runsTo (.curveSlotWrite c w v) s fun t =>
        t.fb F.CRV_STAT_REFUSED = true ∧ quiet (fun u => { u with regs := [] }) (fun a => a = R.CRV_STAT.addr) s t) ∧
      (c.val < 192 → exec (.curveSlotWrite c w v) s = .next s))

namespace Sys2Proof.Claims

open Sys2Proof.Machine

--#
/-! ### Loop Engine -/

/-- A state without the loops, the time the firing conditions have held, and the registers. -/
def noLoop (s : State) : State := { s with regs := [], lpe := [], sys := { s.sys with fireSince := none } }

/-- A state without its registers. -/
def noRegs (s : State) : State := { s with regs := [] }

/-- The registers of loop `n`. -/
def loopRegs (n a : Nat) : Prop := 0x20000000 + 0x1000 * n ≤ a ∧ a < 0x20000000 + 0x1000 * n + 0x1000

/-- The delay-line pool. -/
def lineRegs (a : Nat) : Prop := 0x20180000 ≤ a ∧ a < 0x20200000

/-- The references of the loops. -/
def refRegs (a : Nat) : Prop := ∃ m l, m < 64 ∧ l < 4 ∧ a = R.LPE_REF.addr m l

/-- The registers of the trace unit. -/
def traceRegs (a : Nat) : Prop := 0x21000000 ≤ a ∧ a < 0x22000000

/-- Besides loop `n`, its registers and `p`, a change leaves all as it was; FIRE_PERMIT, where it is given, may open. -/
def loopOnly (n : Nat) (p : Nat → Prop) (s t : State) : Prop :=
  (∀ m, m ≠ n → t.lpeX m = s.lpeX m) ∧
    (s.fb F.SYS_STAT_FIRE = false → noisy noLoop (fun a => loopRegs n a ∨ p a) s t)

/-- Loop `m` is as it was but for what it notes of its table: the entries since its last job, and the write of one that its
running job learns (R261, R271). -/
def loopNotes (s t : State) (m : Nat) : Prop :=
  { t.lpeX m with since := (s.lpeX m).since, job := (s.lpeX m).job } = s.lpeX m ∧
    (t.lpeX m).job.map (fun j => { j with poolWr := false }) = (s.lpeX m).job.map (fun j => { j with poolWr := false })

/-- No register besides. -/
def noneElse (_ : Nat) : Prop := False

/-- Every output of a configuration has no destination or a reference. -/
def dstQuiet (c : LoopCfg) : Prop := ∀ j, c.dst.getD j 0 = 0 ∨ (0x400 ≤ c.dst.getD j 0 ∧ c.dst.getD j 0 < 0x500)

/-- Loop `n` in state `st` for cause `c`, no AUTO pending. -/
def loopIs (t : State) (n st c : Nat) : Prop :=
  t.loopSt n = st ∧ t.f F.LPE_STAT_CAUSE n = c ∧ t.fb F.LPE_STAT_AUTO_PEND n = false

end Sys2Proof.Claims

/-- Loop commands OFF, MANUAL, AUTO, SAFE, FIRE, FIRE_CLR and ALL_SAFE move a loop as the table of R236 says. The model's own choices and readings in it: log entries 31, 114, 166. -/
def Obligations.LoopCommands : Prop :=
  ∀ (n : Fin 64) (s : State), s.domOn 3 = true →
    let st := s.loopSt n
    (st ≠ 0 → runsTo (.loopCmdOff n) s fun t =>
      loopIs t n 0 1 ∧ t.fb F.LPE_STAT_FIRE_REQ n = false ∧ t.fb F.LPE_STAT_SHED n = false ∧ (t.lpeX n).job = none ∧
        loopOnly n noneElse s t ∧
        (Memory.wf s.frame = true → s.fb F.SYS_STAT_FIRE = false → s.ringOn 17 = true → (s.ring 17).closing = false → s.rd R.CRG_TALLY 17 ≠ 0 →
          t.frameBead (s.slotAddr 17 (s.nat R.CRG_TAIL 17)) =
              ofLanes (word (n + 0x60 * 2 ^ 16 + 0x10 * 2 ^ 24)) s.tbLo s.tbHi 0xFFFFFFFF ∧
            t.rd R.CRG_PRODUCED 17 = s.rd R.CRG_PRODUCED 17 + 1)) ∧
    (st = 0 → runsTo (.loopCmdOff n) s fun t => t.loopSt n = 0 ∧ loopOnly n noneElse s t) ∧
    (st = 0 → s.mode ≠ 6 → loopOk s n = true → goesTo (.loopCmdManual n) s fun t =>
      loopIs t n 1 1 ∧ t.rd R.LPE_MISS n = 0 ∧ t.rd R.LPE_OVR n = 0 ∧ (t.lpeX n).job = none ∧ loopOnly n lineRegs s t) ∧
    (2 ≤ st → s.mode ≠ 6 → s.fb F.LPE_STAT_SHED n = false → loopExpired s n = false → goesTo (.loopCmdManual n) s fun t =>
      loopIs t n 1 1 ∧ (∀ j, j < 4 → t.rd R.LPE_MAN n j = s.rd R.LPE_UAPP n j) ∧ loopOnly n noneElse s t) ∧
    (st = 1 → s.mode ≠ 6 → runsTo (.loopCmdAuto n) s fun t =>
      t.loopSt n = 1 ∧ t.fb F.LPE_STAT_AUTO_PEND n = true ∧ loopOnly n noneElse s t) ∧
    (st = 2 → s.mode ≠ 6 → runsTo (.loopCmdAuto n) s fun t => t.loopSt n = 2 ∧ loopOnly n noneElse s t) ∧
    (st ≠ 0 → st ≠ 4 → goesTo (.loopCmdSafe n) s fun t =>
      loopIs t n 4 1 ∧ t.fb F.LPE_STAT_FIRE_REQ n = false ∧
        (dstQuiet (cfgInForce s n) → (∀ j, j < min 4 (cfgInForce s n).nu → t.rd R.LPE_UAPP n j = s.rd R.LPE_SAFE n j) ∧
          loopOnly n refRegs s t)) ∧
    (st = 4 → goesTo (.loopCmdSafe n) s fun t => t.loopSt n = 4 ∧ loopOnly n noneElse s t) ∧
    (∀ c, (c = Instr.loopCmdAuto n ∧ st ≠ 1 ∧ st ≠ 2) ∨ (c = .loopCmdSafe n ∧ st = 0) ∨
        (c = .loopCmdManual n ∧ st = 0 ∧ loopOk s n = false) ∨ (c = .loopFire n ∧ (st = 0 ∨ st = 4)) →
      goesTo c s fun t => t.fb F.LPE_STAT_REFUSED n = true ∧ t.loopSt n = st ∧ t.lpeX n = s.lpeX n ∧
        noisy noRegs (fun a => a = R.LPE_STAT.addr n) s t) ∧
    (1 ≤ st → st ≤ 3 → s.mode ≠ 6 → runsTo (.loopFire n) s fun t =>
      t.fb F.LPE_STAT_FIRE_REQ n = true ∧ t.loopSt n = st ∧ t.lpeX n = s.lpeX n ∧ loopOnly n noneElse s t) ∧
    runsTo (.loopFireClr n) s (fun t =>
      t.fb F.LPE_STAT_FIRE_REQ n = false ∧ t.loopSt n = st ∧ t.lpeX n = s.lpeX n ∧ loopOnly n noneElse s t) ∧
    goesTo .allSafe s (fun t =>
      (∀ m, m < 64 → t.loopSt m = if s.loopSt m = 0 then 0 else 4) ∧
        (∀ m, m < 64 → s.loopSt m ≠ 0 → s.loopSt m ≠ 4 → loopIs t m 4 6 ∧ t.fb F.LPE_STAT_FIRE_REQ m = false))

/-- Coefficients, loop registers, taps, table entries, manual values and references take writes where their loop is open, and refuse others. The model's own choices and readings in it: log entries 31, 108. -/
def Obligations.LoopRegisterWrites : Prop :=
  ∀ (n : Fin 64) (v : Word) (s : State), s.domOn 3 = true →
    let refused := fun (m : Nat) (t : State) => t.fb F.LPE_STAT_REFUSED m = true ∧
      noisy noRegs (fun a => a = R.LPE_STAT.addr m) s t
    (∀ k : Fin 1024, k.val < 692 → s.loopOpen n = true → s.fb F.LPE_STAT_AUTO_PEND n = false →
      (runsTo (.coeffWrite n k false v) s fun t =>
        t.rd R.COEF n k = v ∧ quiet noRegs (fun a => a = R.COEF.addr n k) s t) ∧
      (bits v 5 0 ≤ 62 → runsTo (.coeffWrite n k true v) s fun t =>
        t.f F.COEFS_SH n k = bits v 5 0 ∧ quiet noRegs (fun a => a = R.COEFS.addr n k) s t)) ∧
    (∀ k : Fin 1024, s.loopOpen n = false → v ≠ s.rd R.COEF n k → runsTo (.coeffWrite n k false v) s (refused n)) ∧
    (∀ w : Fin 160, s.loopSt n = 0 →
      let a := 0x20000000 + 0x1000 * n.val + 4 * w.val
      (∀ d j, regFind a = some (d, n.val, j) →
        ¬ d.id ∈ [Reg.LPE_CTL, .LPE_MAN, .LPE_SUP, .LPE_ODST, .LPE_REF, .RC_CTL] →
        runsTo (.loopRwlWrite n w v) s fun t =>
          if ∃ fd ∈ d.fields, fieldBad s d n j (s.rd d n j) v fd = true then refused n t
          else t.rd d n j = layFields d (tabGet 0 s.w1cSet (d.addr n j)) (s.rd d n j) v ∧
            quiet (fun u => { noRegs u with lpe := if d.id = .LPE_OBS then [] else u.lpe }) (fun b => b = a) s t ∧
            ∀ m, m ≠ n.val → t.lpeX m = s.lpeX m) ∧
      (regFind a = none → exec (.loopRwlWrite n w v) s = .next s)) ∧
    (∀ k : Fin 16384,
      ((∀ m, m < 64 → s.loopOpen m = false → lineHolds s m k 1 = false) → runsTo (.dlPoolWrite k v) s fun t =>
        t.rd R.DLPOOL k = v ∧ quiet noRegs (fun a => a = R.DLPOOL.addr k) s t) ∧
      (s.loopOpen n = false → lineHolds s n k 1 = true →
        (∀ m, m < n.val → s.loopOpen m = false → lineHolds s m k 1 = false) → v ≠ s.rd R.DLPOOL k →
        runsTo (.dlPoolWrite k v) s (refused n))) ∧
    (∀ k : Fin 65536,
      ((∀ m, m < 64 → s.loopOpen m = false → tableHolds s m k 1 = false) → runsTo (.rcPoolWrite k v) s fun t =>
        t.rd R.RCPOOL k = v ∧ (∀ m, loopNotes s t m) ∧ quiet noLoop (fun a => a = R.RCPOOL.addr k) s t) ∧
      (s.loopOpen n = false → tableHolds s n k 1 = true →
        (∀ m, m < n.val → s.loopOpen m = false → tableHolds s m k 1 = false) → v ≠ s.rd R.RCPOOL k →
        runsTo (.rcPoolWrite k v) s (refused n))) ∧
    (∀ l : Fin 4,
      ((∀ m j, m < 64 → j < 4 → s.f F.LPE_ODST_DST m j ≠ 0x400 + 4 * n.val + l.val) → runsTo (.lpeRefWrite n l v) s fun t =>
        t.rd R.LPE_REF n l = v ∧ quiet noRegs (fun a => a = R.LPE_REF.addr n l) s t) ∧
      (∀ m j, m < 64 → j < 4 → s.f F.LPE_ODST_DST m j = 0x400 + 4 * n.val + l.val → v ≠ s.rd R.LPE_REF n l →
        runsTo (.lpeRefWrite n l v) s (refused n))) ∧
    (∀ j : Fin 4,
      (s.loopSt n ≠ 1 → runsTo (.lpeManWrite n j v) s fun t =>
        t.rd R.LPE_MAN n j = v ∧ quiet noRegs (fun a => a = R.LPE_MAN.addr n j) s t) ∧
      (let c := cfgInForce s n
       s.loopSt n = 1 → j.val < c.nu → c.dst.getD j 0 = 0 → runsTo (.lpeManWrite n j v) s fun t =>
        t.rd R.LPE_MAN n j = v ∧ t.rd R.LPE_UAPP n j = wordI (clamp (c.umin.getD j 0) (c.umax.getD j 0) v.toInt) ∧
          (∀ m, m ≠ n.val → t.lpeX m = s.lpeX m) ∧ quiet noLoop (loopRegs n) s t))

/-- A sample instant latches the words and releases a job or counts an overrun; an output instant applies the state's values or counts a miss. The model's own choices and readings in it: log entries 33, 38, 114, 116, 166. -/
def Obligations.LoopSamplesAndOutputs : Prop :=
  ∀ (n : Fin 64) (s : State), s.domOn 3 = true →
    let x := s.lpeX n
    let st := s.loopSt n
    let others := fun (t : State) => ∀ m, m ≠ n.val → t.lpeX m = s.lpeX m
    let pend := s.fb F.LPE_STAT_AUTO_PEND n
    (onSample s n = true → x.loading = false → x.earlier = [] → loopExpired s n = false → (∀ j, x.job = some j → j.done = true ∧ j.out = true) →
      goesTo (.loopSampleInstant n) s fun t =>
        (∀ i, i < min 8 (s.f F.LPE_DIM_NM n) → s.f F.LPE_MSRC_MSRC n i ≠ 0xFFF →
          t.rd R.LPE_Y n i = wordI (measOf s (s.f F.LPE_MSRC_MSRC n i)).v) ∧
        (∃ j, (t.lpeX n).job = some j ∧ j.tb = s.tbNow ∧ j.due = s.tbNow + s.f F.LPE_ODLY_V n * 100 ∧ j.unit = none ∧
          j.done = false ∧ j.out = false ∧ j.cfg = loopCfg s n ∧ j.st = t.loopSt n ∧
          j.ua = regVec s R.LPE_UAPP n (s.f F.LPE_DIM_NU n) ∧ j.refs = regVec s R.LPE_REF n (s.f F.LPE_DIM_NZ n) ∧
          j.y = (List.range (min 8 (s.f F.LPE_DIM_NM n))).map (fun i =>
            if s.f F.LPE_MSRC_MSRC n i = 0xFFF then 0 else (measOf s (s.f F.LPE_MSRC_MSRC n i)).v)) ∧
        (st = 1 → t.loopSt n = if pend then 2 else 1) ∧ (st = 4 → t.loopSt n = 4) ∧
        (st = 2 → (∀ i, i < s.f F.LPE_DIM_NM n → s.fb F.LPE_MSRC_REQ n i = false) → t.loopSt n = 2) ∧
        (∀ i, st = 2 → i < min 8 (s.f F.LPE_DIM_NM n) → s.fb F.LPE_MSRC_REQ n i = true → s.f F.LPE_MSRC_MSRC n i ≠ 0xFFF →
          (measOf s (s.f F.LPE_MSRC_MSRC n i)).lost = true → t.loopSt n = 3 ∧ t.f F.LPE_STAT_CAUSE n = 2) ∧
        others t ∧ noisy noLoop (fun a => loopRegs n a ∨ lineRegs a) s t) ∧
    (∀ j, onSample s n = true → x.loading = false → x.earlier = [] → loopExpired s n = false → x.job = some j → j.done = false → (j.out = true ∨ s.tbNow < j.due) →
      goesTo (.loopSampleInstant n) s fun t =>
        t.rd R.LPE_OVR n = s.rd R.LPE_OVR n + 1 ∧ t.fb F.LPE_STAT_OVERRUN n = true ∧ (t.lpeX n).job = some j ∧
          (∀ i, i < 8 → t.rd R.LPE_Y n i = s.rd R.LPE_Y n i) ∧ others t ∧ noisy noLoop (loopRegs n) s t) ∧
    (∀ j, x.earlier = [] → x.job = some j → j.out = false → j.spent = false → j.due ≤ s.tbNow → dstQuiet j.cfg → st ≤ 4 → st ≠ 0 →
      (st = 2 ∨ st = 3 → j.done = true → j.st = 2 ∨ j.st = 3) →
      goesTo (.loopOutputInstant n) s fun t =>
        (t.lpeX n).job.map (fun k => k.out) = some true ∧ t.loopSt n = st ∧ others t ∧
        noisy noLoop (fun a => loopRegs n a ∨ refRegs a ∨ traceRegs a) { s with fresh := t.fresh } t ∧
        (st = 1 → (∀ k, k < min 4 j.cfg.nu →
            t.rd R.LPE_UAPP n k = wordI (clamp (j.cfg.umin.getD k 0) (j.cfg.umax.getD k 0) (s.rd R.LPE_MAN n k).toInt)) ∧
          (t.fb F.LPE_STAT_ULIM n = true ↔ ∃ k, k < min 4 j.cfg.nu ∧ (s.rd R.LPE_MAN n k).toInt ≠
            clamp (j.cfg.umin.getD k 0) (j.cfg.umax.getD k 0) (s.rd R.LPE_MAN n k).toInt)) ∧
        (st = 4 → ∀ k, k < min 4 j.cfg.nu → t.rd R.LPE_UAPP n k = s.rd R.LPE_SAFE n k) ∧
        (∀ r, st = 2 ∨ st = 3 → j.done = true → j.res = some r → ∀ k, k < min 4 j.cfg.nu → k < r.u.length →
          t.rd R.LPE_UAPP n k = wordI (elemL r.u k).v) ∧
        (st = 2 ∨ st = 3 → j.done = false → t.rd R.LPE_MISS n = s.rd R.LPE_MISS n + 1 ∧ t.fb F.LPE_STAT_MISS n = true ∧
          ∀ k, k < 4 → t.rd R.LPE_UAPP n k = s.rd R.LPE_UAPP n k)) ∧
    (∀ w, (w = s.f F.LPE_OBS_V n ∧ ∀ p, x.obsWas = some p → p.1 ≠ s.elapsed) ∨ x.obsWas = some (s.elapsed, w) →
      st = 3 → x.obsAt + w * 1000000 ≤ s.elapsed → goesTo (.observeMaxExpiry n) s fun t =>
      loopIs t n 4 5 ∧ t.fb F.LPE_STAT_FIRE_REQ n = false ∧ (dstQuiet (cfgInForce s n) → loopOnly n refRegs s t))

/-- A free unit takes the earliest job, the job computes the law of R215, its end keeps the results, and a failed unit gives its job back. The model's own choices and readings in it: log entries 26, 164. -/
def Obligations.JobsFollowTheLaw : Prop :=
  ∀ (n : Fin 64) (s : State), s.domOn 3 = true →
    let x := s.lpeX n
    let others := fun (t : State) => ∀ m, m ≠ n.val → t.lpeX m = s.lpeX m
    let free := fun (u : Nat) => ∀ m j, m < 64 → (s.lpeX m).job = some j → j.unit = some u → j.done = true
    (∀ (j : LoopJob) (u : Nat), x.job = some j → j.unit = none → j.done = false → j.res = none →
      (∀ m k, m < 64 → (s.lpeX m).job = some k → k.unit = none → k.done = false →
        j.due < k.due ∨ (j.due = k.due ∧ n.val ≤ m)) →
      u ∈ matrixActive s → free u → (∀ w ∈ matrixActive s, w < u → ¬ free w) →
      goesTo (.jobDispatch n) s fun t =>
        let f := jobFreeze s n j
        (t.lpeX n).job = some { f.1 with unit := some u, res := some (jobRun f.2 n f.1) } ∧ others t ∧
          { f.1 with used := j.used } = j ∧ noisy noLoop (fun a => a = R.LPE_STAT.addr n) s t ∧
          (j.st ≠ 1 → (jobPredict s n j.cfg j.ua j.vd).2 = j.yp → f = (j, s) ∧ { t with lpe := s.lpe } = s)) ∧
    (∀ j : LoopJob, j.ua.length = j.cfg.nu →
      let c := j.cfg
      let r := jobRun s n j
      let k := coef s n
      let xp := fun i => satS 32 (∑ p ∈ Finset.range c.nx, prod (k (16 * i + p)) (s.rd R.LPE_X n p).toInt +
        ∑ p ∈ Finset.range c.nu, prod (k (256 + 4 * i + p)) (elem j.ua p) + prod (k (320 + i)) j.vd)
      let yp := fun i => satS 32 (∑ p ∈ Finset.range c.nx, prod (k (336 + 16 * i + p)) (xp p))
      let nu := fun i => if j.used.getD i false ∧ j.st ≠ 3 then satS 32 (elem j.y i - yp i) else 0
      let xh := fun i => satS 32 (xp i + ∑ p ∈ Finset.range c.nm, prod (k (464 + 8 * i + p)) (nu p))
      let kx := fun i => satS 32 (∑ p ∈ Finset.range c.nx, prod (k (592 + 16 * i + p)) (xh p))
      let err := fun l => satS 32 (elem j.refs l -
        if j.used.getD (c.zsrc.getD l 0) false ∧ j.st = 2 then elem j.y (c.zsrc.getD l 0) else yp (c.zsrc.getD l 0))
      let z := fun l =>
        if j.st = 1 ∨ j.first then clamp (elem c.imin l) (elem c.imax l) (satS 32 (∑ p ∈ Finset.range c.nu,
          prod (k (676 + 4 * l + p)) (satS 32 (elem j.ua p + kx p))))
        else if j.st = 2 ∨ j.st = 3 then clamp (elem c.imin l) (elem c.imax l)
          (satS 32 ((s.rd R.LPE_Z n l).toInt + prod (k (672 + l)) (err l)))
        else (s.rd R.LPE_Z n l).toInt
      (∀ i, i < c.nx → (elemL r.xp i).v = xp i ∧ (elemL r.xh i).v = xh i) ∧
      (∀ i, i < c.nm → (elemL r.yp i).v = yp i ∧ (elemL r.nu i).v = nu i) ∧
      ((∀ l, l < c.nz → c.zsrc.getD l 0 < c.nm) → (∀ l, l < c.nz → (elemL r.z l).v = z l) ∧
        ∀ i, i < c.nu → (elemL r.kx i).v = kx i ∧ (elemL r.u i).v = clamp (elem c.umin i) (elem c.umax i)
          (satS 32 (∑ l ∈ Finset.range c.nz, prod (k (656 + 4 * i + l)) (z l) - kx i + if i = c.rcOut then r.q else 0))) ∧
      (c.rc = false → r.q = 0)) ∧
    (∀ j r u, x.job = some j → j.unit = some u → j.res = some r → j.done = false → runsTo (.jobEnd n) s fun t =>
      (∀ i, i < 16 → t.rd R.LPE_X n i = if i < r.xh.length then wordI (elemL r.xh i).v else s.rd R.LPE_X n i) ∧
      (∀ i, i < 8 → t.rd R.LPE_YP n i = if i < r.yp.length then wordI (elemL r.yp i).v else s.rd R.LPE_YP n i) ∧
      (∀ i, i < 4 → t.rd R.LPE_Z n i = if i < r.z.length ∧ j.st ≠ 4 then wordI (elemL r.z i).v else s.rd R.LPE_Z n i) ∧
      t.fb F.LPE_STAT_SAT n = (s.fb F.LPE_STAT_SAT n || r.sat) ∧ (t.lpeX n).job = some { j with unit := none, done := true } ∧
      (∀ m, m ≠ n.val → loopNotes s t m) ∧ (r.learn = none → others t) ∧
      (j.cfg.rc = false → others t ∧ noisy noLoop (fun a => loopRegs n a ∨ traceRegs a) s t)) ∧
    (∀ j r, x.job = some j → j.res = some r → j.done = false → r.qzero = true → x.zeroed = false →
      runsTo (.qHoldExpiry n) s fun t =>
        t.lpeX n = { x with qHeld := 0, zeroed := true } ∧ others t ∧ noisy noLoop noneElse s t) ∧
    (∀ u : Fin 5, s.sto.umap.matrix.contains u.val = false → goesTo (.matrixUnitFail u) s fun t =>
      t.sto.umap.matrix = s.sto.umap.matrix ++ [u.val] ∧
        (s.sto.umap.matrix = [] → ∀ m, m < 64 → (t.lpeX m).job = (s.lpeX m).job.map (fun j =>
          if j.unit = some u.val ∧ j.done = false then { j with unit := none } else j)) ∧
        (s.sto.umap.matrix ≠ [] → (matrixHealthy s).length < 5 → demandSum t none ≤ matrixCapacity t))

namespace Sys2Proof.Claims

open Sys2Proof.Machine

--#
/-! ### Learned tables and the trace unit -/

/-- A state without its registers, loops and trace channels. -/
def noTrace (s : State) : State := { s with regs := [], trc := [] }

/-- The words of loop `n`'s table. -/
def tableWords (s : State) (n : Nat) : List Word :=
  (List.range (s.f F.RC_SIZE_N n)).map (fun k => s.rd R.RCPOOL (s.f F.RC_SIZE_RC_BASE n + k))

/-- The words of loop `n`'s table as they stood at the end of its last finished job, or as they stand (R271). -/
def snapWords (s : State) (n : Nat) : List Word :=
  (List.range (s.f F.RC_SIZE_N n)).map (fun k =>
    tabGet (s.rd R.RCPOOL (s.f F.RC_SIZE_RC_BASE n + k)) (s.lpeX n).since (s.f F.RC_SIZE_RC_BASE n + k))

end Sys2Proof.Claims

/-- A snapshot takes the loop's table into its learned-table record, and a load takes the record, or zeros, into the table. The model's own choices and readings in it: log entries 35, 78, 141. -/
def Obligations.LearnedTablesAreKeptAndLoaded : Prop :=
  ∀ (n : Fin 64) (s : State), s.domOn 3 = true →
    let x := s.lpeX n
    let others := fun (t : State) => ∀ m, m ≠ n.val → t.lpeX m = s.lpeX m
    (s.f F.RC_CFG_PH_MODE n ≠ 0 → s.fb F.RC_STAT_SNAP_BUSY n = false → runsTo (.rcSnap n) s fun t =>
      t.fb F.RC_STAT_SNAP_BUSY n = true ∧ t.lpeX n = { x with snap := some (snapWords s n) } ∧ others t ∧
        quiet noLoop (fun a => a = R.RC_STAT.addr n ∨ a = R.RC_CTL.addr n) s t) ∧
    (s.f F.RC_CFG_PH_MODE n = 0 ∨ s.fb F.RC_STAT_SNAP_BUSY n = true → runsTo (.rcSnap n) s fun t =>
      t.fb F.LPE_STAT_REFUSED n = true ∧ noisy noRegs (fun a => a = R.LPE_STAT.addr n) s t) ∧
    (∀ l, x.snap = some l → runsTo (.snapComplete n) s fun t =>
      t.fb F.RC_STAT_SNAP_BUSY n = false ∧ t.fb F.RC_STAT_SNAP_DONE n = true ∧ t.lpeX n = { x with snap := none } ∧
        others t ∧ noisy (fun u => { noLoop u with sto := {} }) (fun a => a = R.RC_STAT.addr n) s t ∧
        (Memory.wf s.sto.work = true → 0 < l.length → l.length ≤ 4096 → recordRead t.sto.work n = some l) ∧
        { t.sto with work := s.sto.work, dirtyA := s.sto.dirtyA, dirtyB := s.sto.dirtyB, commit := s.sto.commit } = s.sto) ∧
    (x.loading = true → runsTo (.tableLoadDone n) s fun t =>
      let found := ((newestBank s.sto).bind fun b => recordRead b.cells n).filter (fun l => l.length == s.f F.RC_SIZE_N n)
      tableWords t n = found.getD (List.replicate (s.f F.RC_SIZE_N n) 0) ∧ t.fb F.RC_STAT_NOREC n = found.isNone ∧
        loopNotes { s with lpe := tabPut s.lpe n { x with loading := false } } t n ∧ (∀ m, m ≠ n.val → loopNotes s t m) ∧
        quiet noLoop (fun a => a = R.RC_STAT.addr n ∨ (0x20200000 ≤ a ∧ a < 0x20280000)) s t)

/-- ARM, TRIG and STOP move a trace channel, links trigger in the same step, and a period sample is recorded. The model's own choices and readings in it: log entry 40. -/
def Obligations.TraceChannelsRecord : Prop :=
  ∀ (c : Fin 8) (s : State), s.domOn 3 = true →
    let x := s.trcX c
    let st := s.f F.TRC_STAT_STATE c
    let word_ := fun src => if src = 0xFFF then (⟨0, 0, 0, 0⟩ : Meas) else measOf s src
    (st = 0 ∨ st = 3 → s.f F.TRC_TRG_TMODE c < 4 → runsTo (.traceArm c) s fun t =>
      t.f F.TRC_STAT_STATE c = 1 ∧ t.f F.TRC_STAT_CAUSE c = 0 ∧ t.fb F.TRC_STAT_PRE_SHORT c = false ∧
        t.f F.TRC_STAT_START c = 0 ∧ t.f F.TRC_COUNT_V c = 0 ∧ (∀ d, d ≠ c.val → t.trcX d = s.trcX d) ∧
        quiet noTrace (fun a => a = R.TRC_CTL.addr c ∨ a = R.TRC_STAT.addr c ∨ a = R.TRC_COUNT.addr c) s t) ∧
    (st = 1 ∨ st = 2 → runsTo (.traceArm c) s fun t =>
      t.fb F.TRC_STAT_REFUSED c = true ∧ t.f F.TRC_STAT_STATE c = st ∧ quiet noRegs (fun a => a = R.TRC_STAT.addr c) s t) ∧
    (st = 1 → runsTo (.traceTrig c) s fun t =>
      t.f F.TRC_STAT_STATE c = 2 ∧ t.f F.TRC_STAT_CAUSE c = 1 ∧
        t.fb F.TRC_STAT_PRE_SHORT c = decide (s.f F.TRC_COUNT_V c < s.f F.TRC_PRE_V c) ∧
        (∀ d, d < 8 → d ≠ c.val → s.f F.TRC_STAT_STATE d = 1 → s.f F.TRC_TRG_TMODE d = 5 →
          (s.f F.TRC_TRG_LINKMASK d).testBit c = true → t.f F.TRC_STAT_STATE d = 2 ∧ t.f F.TRC_STAT_CAUSE d = 4) ∧
        (∀ d, d < 8 → d ≠ c.val → s.f F.TRC_STAT_STATE d ≠ 1 → t.f F.TRC_STAT_STATE d = s.f F.TRC_STAT_STATE d) ∧
        quiet noTrace (fun a => a = R.TRC_CTL.addr c ∨ ∃ d, d < 8 ∧ a = R.TRC_STAT.addr d) s t) ∧
    (st = 0 ∨ st = 3 → runsTo (.traceTrig c) s fun t => quiet noRegs (fun a => a = R.TRC_CTL.addr c) s t) ∧
    (st = 1 ∨ st = 2 → runsTo (.traceStop c) s fun t =>
      t.f F.TRC_STAT_STATE c = 3 ∧ quiet noRegs (fun a => a = R.TRC_CTL.addr c ∨ a = R.TRC_STAT.addr c) s t) ∧
    (st = 1 ∨ st = 2 → s.f F.TRC_SEL_KIND c = 0 → s.tbNow % (s.f F.TRC_PER_V c * 1000) = 0 → x.takenTb ≠ some s.tbNow →
      s.f F.TRC_TRG_TMODE c = 0 →
      (∀ d, d < 8 → s.f F.TRC_STAT_STATE d = 1 → s.f F.TRC_TRG_TMODE d = 0 ∨ 4 ≤ s.f F.TRC_TRG_TMODE d) → goesTo (.tracePeriodSample c) s fun t =>
        let m := word_ (s.f F.TRC_SEL_INDEX c)
        let k := x.next % 4096
        t.rd R.TRC_BUF c (2 * k) = wordI m.v ∧ (m.flags < 256 → bits (t.rd R.TRC_BUF c (2 * k + 1)) 7 0 = m.flags) ∧
          (s.f F.TRC_COUNT_V c ≤ 4096 → t.f F.TRC_COUNT_V c = min 4096 (s.f F.TRC_COUNT_V c + 1) ∧
            (t.f F.TRC_STAT_START c + t.f F.TRC_COUNT_V c) % 4096 = (k + 1) % 4096) ∧
          t.f F.TRC_STAT_STATE c = (if st = 2 ∧ x.post ≤ 1 then 3 else st) ∧ (∀ d, d ≠ c.val → t.trcX d = s.trcX d) ∧
          quiet noTrace (fun a => (0x21000000 + 0x40 * c.val ≤ a ∧ a < 0x21000040 + 0x40 * c.val) ∨
            (0x21100000 + 0x8000 * c.val ≤ a ∧ a < 0x21108000 + 0x8000 * c.val)) s t)

namespace Sys2Proof.Claims

open Sys2Proof.Machine

--#
/-! ### Solenoid drive -/

/-- A state without the solenoid channels and the registers. -/
def noSol (s : State) : State := { s with regs := [], sol := [] }

/-- The registers of solenoid channel `n`, and of the other member where it leads a pair. -/
def solRegs (s : State) (n a : Nat) : Prop :=
  0x40001000 + 0x80 * n ≤ a ∧ a < 0x40001000 + 0x80 * (n + (s.solMembers n).length)

/-- Solenoid channel `n` alone changes, with what its events leave. -/
def solOnly (n : Nat) (s t : State) : Prop :=
  (∀ m, m ≠ n → t.solX m = s.solX m) ∧ noisy noSol (solRegs s n) s t

/-- Solenoid channel `n` switches off along `path`: it alone changes, with what its events leave, but for the other member
of a pair, which decays along it too, and a higher channel of its bank that switched off in the same step, whose capture
it takes over (R305). -/
def solOffOnly (n path : Nat) (s t : State) : Prop :=
  (∀ m, m ≠ n →
      let off := s.fb F.SOL_STAT_ON n = true
      let y := if off ∧ m ∈ s.solMembers n then { s.solX m with path := path } else s.solX m
      t.solX m = if off ∧ s.fb F.SOL_MEAS_DROP_EN n = true ∧ solPreempts s n = some m
        then { y with capAt := none, capOn := none } else y) ∧
    noisy noSol (fun a => solRegs s n a ∨ ∃ k, solPreempts s n = some k ∧ a = R.SOL_STAT.addr k) s t

/-- The peak phase of lead channel `n` has begun in this step, for a pulse of `dur` µs or an ON; the captures of its pair
that have not ended are aborted. -/
def peakBegun (n : Nat) (dur : Option Nat) (s t : State) : Prop :=
  (∀ m ∈ s.solMembers n, t.f F.SOL_STAT_PHASE m = 1 ∧ t.fb F.SOL_STAT_ON m = true) ∧
    t.rd R.SOL_ONCNT n = s.rd R.SOL_ONCNT n + 1 ∧ (t.solX n).onAt = s.elapsed ∧ (t.solX n).queued = none ∧
    (t.solX n).peakEnd = s.elapsed + s.f F.SOL_TIM_TPEAK n * 1000 ∧
    (t.solX n).pulseEnd = dur.map (fun d => s.elapsed + d * 1000) ∧
    (∀ m, m ≠ n → t.solX m =
      if m ∈ s.solMembers n then { s.solX m with capAt := none, capOn := none } else s.solX m) ∧
    noisy noSol (solRegs s n) s t

/-- Lead channel `n` has switched off along a decay path, 1 slow or 2 fast; with DROP_EN its bank sequencer takes the
capture up, free or taken from a higher channel of this step, or DROP_BUSY shows that it was busy. -/
def switchedOff (n path : Nat) (s t : State) : Prop :=
  (∀ m ∈ s.solMembers n, t.f F.SOL_STAT_PHASE m = 3 ∧ t.fb F.SOL_STAT_ON m = false) ∧
    (t.solX n).path = path ∧ (t.solX n).pulseEnd = none ∧ (t.solX n).queued = none ∧
    (s.fb F.SOL_MEAS_DROP_EN n = true → if solSeqFree s (n / 4) = true ∨ (solPreempts s n).isSome = true
      then (t.solX n).capAt = some (s.elapsed + s.f F.SOL_MEAS_DROP_DLY n * 1000) else t.fb F.SOL_STAT_DROP_BUSY n = true)

/-- The write of SOL_CMD with operation `op`, 1 OFF to 4 REPEAT. -/
def solCmd (n : Fin 24) (op : Nat) (now : Bool) : Instr :=
  if op = 1 then .solCmdOff n now else if op = 2 then .solCmdOn n now else if op = 3 then .solCmdPulse n now
  else .solCmdRepeat n now

/-- Nothing of bank `b` but channel `n` runs or waits, and IPEAK of `n` is within the budget of 30 A. -/
def bankIdle (s : State) (n : Nat) : Prop :=
  (∀ m ∈ solBank (n / 4), m ≠ n → s.f F.SOL_STAT_PHASE m ≠ 1 ∧ (s.solX m).queued = none) ∧ s.f F.SOL_CUR_IPEAK n ≤ 30000

end Sys2Proof.Claims

/-- A solenoid command is refused, armed for its instant, or acts: peak, queue, CONFLICT, BLOCKED, repeat or switch-off. The model's own choices and readings in it: log entries 20, 41, 42, 143, 144, 157. -/
def Obligations.SolenoidCommands : Prop :=
  ∀ (n : Fin 24) (s : State), s.domOn 7 = true → s.solOdd n = false →
    let x := s.solX n
    let dur := s.nat R.SOL_DUR n
    let b := n.val / 4
    let ready := s.fb F.SOL_CTL_EN n = true ∧ s.f F.SOL_CTL_SRC n = 0 ∧ s.mode ≠ 6 ∧ s.mode ≠ 0 ∧ x.armed = none
    let len := fun (op : Nat) => if op = 3 then some dur else none
    let blocking := s.fb F.SOL_STAT_TRIP n = true ∨ s.fb F.SOL_STAT_LOST n = true ∨ s.fb F.SOL_STAT_HOT n = true ∨
      s.fb F.SOL_BSTAT_DOWN b = true ∨ s.fb F.SOL_GSTAT_UNDERV = true ∨ s.fb F.SYS_STAT_SS = true
    let ton := (s.rd64 R.SOL_TON_LO R.SOL_TON_HI n + 4) / 5 * 5
    (∀ op now, 1 ≤ op → op ≤ 4 →
      s.fb F.SOL_CTL_EN n = false ∨ s.f F.SOL_CTL_SRC n ≠ 0 ∨ s.mode = 6 ∨ s.mode = 0 ∨ (op = 3 ∧ dur = 0) →
      goesTo (solCmd n op now) s fun t =>
        t.fb F.SOL_STAT_REFUSED n = true ∧ quiet noRegs (fun a => a = R.SOL_STAT.addr n) s t) ∧
    (∀ op, 1 ≤ op → op ≤ 4 → (op = 3 → dur ≠ 0) → ready → s.tbNow < ton → goesTo (solCmd n op false) s fun t =>
      t.solX n = { x with armed := some ⟨op, ton, dur⟩ } ∧ (∀ m, m ≠ n.val → t.solX m = s.solX m) ∧
        quiet noSol (fun a => a = R.SOL_CMD.addr n) s t) ∧
    (ready → s.fb F.SOL_STAT_ON n = true → goesTo (.solCmdOff n true) s fun t =>
      switchedOff n (solOdec s n) s t ∧ (t.solX n).rep = none ∧ solOffOnly n (solOdec s n) s t) ∧
    (∀ op, op = 2 ∨ op = 3 → (op = 3 → dur ≠ 0) → ready →
      (blocking → goesTo (solCmd n op true) s fun t =>
        t.fb F.SOL_STAT_BLOCKED n = true ∧ (∀ m, t.solX m = s.solX m) ∧
          quiet noSol (fun a => a = R.SOL_CMD.addr n ∨ a = R.SOL_STAT.addr n) s t) ∧
      (solBlocked s n = false → s.fb F.SOL_STAT_ON n = true → goesTo (solCmd n op true) s fun t =>
        t.solX n = { x with rep := none, queued := none, pulseEnd := (len op).map (fun d => s.elapsed + d * 1000),
                            projEnd := ((len op).map (fun d => min x.peakEnd (s.elapsed + d * 1000))).getD x.peakEnd } ∧
          quiet noSol (fun a => a = R.SOL_CMD.addr n) s t) ∧
      (solBlocked s n = false → s.fb F.SOL_STAT_ON n = false → bankIdle s n → goesTo (solCmd n op true) s fun t =>
        peakBegun n (len op) s t ∧ (t.solX n).rep = none) ∧
      (∀ m, solBlocked s n = false → s.fb F.SOL_STAT_ON n = false → s.solPeaks b = [m] → m ≠ n.val →
        (∀ k ∈ solBank b, k ≠ n.val → (s.solX k).queued = none) → (s.solX m).onAt ≤ s.elapsed →
        s.elapsed < (s.solX m).projEnd → 30000 < s.f F.SOL_CUR_IPEAK m + s.f F.SOL_CUR_IPEAK n →
        s.f F.SOL_CUR_IPEAK n ≤ 30000 → goesTo (solCmd n op true) s fun t =>
          let e := (s.solX m).projEnd
          (if e - s.elapsed ≤ s.f F.SOL_BCFG_DEFER_MAX b * 1000
            then t.solX n = { x with rep := none, queued := some ⟨s.elapsed, len op⟩ } ∧
              t.fb F.SOL_STAT_CONFLICT n = s.fb F.SOL_STAT_CONFLICT n
            else t.solX n = x ∧ t.fb F.SOL_STAT_CONFLICT n = true) ∧
          t.fb F.SOL_STAT_ON n = false ∧ solOnly n s t)) ∧
    (ready → solBlocked s n = false → solOnGrid s n = false → s.fb F.SOL_STAT_ON n = false →
      goesTo (.solCmdRepeat n true) s fun t =>
        t.solX n = { x with rep := some dur, queued := none } ∧ quiet noSol (fun a => a = R.SOL_CMD.addr n) s t) ∧
    (∀ c, x.armed = some c → c.ton ≤ s.tbNow → s.tbNow ≤ c.ton + 5 → s.stepAt ≠ some s.elapsed →
      (c.op = 1 → s.fb F.SOL_STAT_ON n = true → goesTo (.solStartInstant n) s fun t =>
        switchedOff n (solOdec s n) s t ∧ (t.solX n).armed = none ∧ (t.solX n).rep = none ∧ solOffOnly n (solOdec s n) s t) ∧
      (c.op = 2 ∨ c.op = 3 → solBlocked s n = false → s.fb F.SOL_STAT_ON n = false → bankIdle s n →
        goesTo (.solStartInstant n) s fun t =>
          peakBegun n (if c.op = 3 then some c.dur else none) s t ∧ (t.solX n).armed = none)) ∧
    (∀ d, s.fb F.SOL_CTL_EN n = true → s.f F.SOL_CTL_SRC n = 0 → x.rep = some d → d ≠ 0 → solOnGrid s n = true →
      x.gridTb ≠ some s.tbNow → solBlocked s n = false → s.fb F.SOL_STAT_ON n = false → bankIdle s n →
      goesTo (.solRepeatGrid n) s fun t => peakBegun n (some d) s t ∧ (t.solX n).rep = some d) ∧
    (∀ q, x.queued = some q →
      (solBlocked s n = false → solNext s b = some n.val → s.solLoad b + s.f F.SOL_CUR_IPEAK n ≤ 30000 →
        runsTo (.deferredPeakStart n) s fun t =>
          peakBegun n q.dur s t ∧ t.rd R.SOL_DEFER n = word (s.elapsed - q.start)) ∧
      (solBlocked s n = true → runsTo (.deferredPeakStart n) s fun t =>
        t.solX n = { x with queued := none } ∧ (∀ m, m ≠ n.val → t.solX m = s.solX m) ∧ quiet noSol noneElse s t))

/-- A solenoid passes from peak to hold, decays at its pulse's end, and measures pull-in and drop-out. The model's own choices and readings in it: log entries 43, 46. -/
def Obligations.SolenoidPhasesAndMeasurements : Prop :=
  ∀ (n : Fin 24) (s : State), s.domOn 7 = true → s.solOdd n = false →
    let x := s.solX n
    let b := n.val / 4
    let phase := s.f F.SOL_STAT_PHASE n
    let onlyAnd := fun (p : Nat → Prop) (t : State) =>
      (∀ m, m ≠ n.val → t.solX m = s.solX m) ∧ noisy noSol (fun a => solRegs s n a ∨ p a) s t
    (∀ high : BitVec 16, phase = 1 → s.fb F.SOL_STAT_ON n = true → x.peakEnd ≤ s.elapsed →
      runsTo (.solPeakEnd n high) s fun t =>
        (if s.f F.SOL_OCL_OPEN_TH n < high.toNat
          then (∀ m ∈ s.solMembers n, t.f F.SOL_STAT_PHASE m = 2 ∧ t.fb F.SOL_STAT_ON m = true) ∧
            (t.solX n).path = 1 + s.f F.SOL_CTL_TDEC n ∧ t.fb F.SOL_STAT_OPEN n = false ∧ onlyAnd noneElse t
          else switchedOff n (solOdec s n) s t ∧ t.fb F.SOL_STAT_OPEN n = true ∧ solOffOnly n (solOdec s n) s t)) ∧
    (∀ (high : BitVec 16) (e : Nat), x.pulseEnd = some e → e ≤ s.elapsed → s.fb F.SOL_STAT_ON n = true →
      solGridDue s n = false →
      (solAcross s n = false → runsTo (.solPulseEnd n high) s fun t =>
        switchedOff n (solOdec s n) s t ∧ solOffOnly n (solOdec s n) s t) ∧
      (solAcross s n = true → exec (.solPulseEnd n high) s = .next s)) ∧
    (∀ τ : BitVec 25, phase = 1 → x.reached = false → x.pulled = false → s.f F.SOL_MEAS_DIP_TH n ≠ 0 →
      x.onAt + τ.toNat ≤ s.elapsed → runsTo (.pullinDetected n τ) s fun t =>
        t.f F.SOL_PULLIN_T n = τ.toNat ∧ t.fb F.SOL_PULLIN_VALID n = true ∧ t.solX n = { x with pulled := true } ∧
          (∀ m, m ≠ n.val → t.solX m = s.solX m) ∧ quiet noSol (fun a => a = R.SOL_PULLIN.addr n) s t) ∧
    (phase = 1 → x.reached = false → runsTo (.ipeakReached n) s fun t =>
      (t.solX n).reached = true ∧ (x.pulled = false → s.f F.SOL_MEAS_DIP_TH n ≠ 0 →
        t.fb F.SOL_PULLIN_VALID n = false ∧ t.fb F.SOL_STAT_NOPULL n = true) ∧ onlyAnd noneElse t) ∧
    (∀ e, x.capAt = some e → e ≤ s.elapsed → runsTo (.dropoutCapture n) s fun t =>
      t.solX n = { x with capAt := none, capOn := some s.elapsed } ∧ t.f F.SOL_BCAP_CH b = n ∧
        t.fb F.SOL_BCAP_VALID b = false ∧ onlyAnd (fun a => a = R.SOL_BCAP.addr b) t) ∧
    (∀ (l : List (BitVec 16)) (e : Nat), x.capOn = some e → e + 127500 ≤ s.elapsed →
      let v := fun k => ((l.getD k 0).toNat : Int)
      let kink := fun k => 8 * (s.f F.SOL_BCFG_KINK_TH b : Int) ≤ |v (k + 16) - 2 * v (k + 8) + v k|
      runsTo (.dropoutResult n l) s fun t =>
        (∀ k, k < 256 → t.rd R.SOL_CAP b k = word (l.getD k 0).toNat) ∧ t.fb F.SOL_BCAP_VALID b = true ∧
          (t.solX n).capOn = none ∧
          (∀ k, k < 240 → kink k → (∀ i, i < k → ¬ kink i) →
            t.f F.SOL_DROPOUT_T n = s.f F.SOL_MEAS_DROP_DLY n * 1000 + (k + 8) * 500 ∧ t.fb F.SOL_DROPOUT_VALID n = true) ∧
          ((∀ k, k < 240 → ¬ kink k) → t.fb F.SOL_DROPOUT_VALID n = false ∧ t.fb F.SOL_STAT_NODROP n = true) ∧
          onlyAnd (fun a => a = R.SOL_BCAP.addr b ∨ ∃ k, k < 256 ∧ a = R.SOL_CAP.addr b k) t) ∧
    (phase = 3 → runsTo (.solDecayEnd n) s fun t =>
      (∀ m ∈ s.solMembers n, t.f F.SOL_STAT_PHASE m = 0 ∧ t.fb F.SOL_STAT_ON m = false) ∧
        t.solX n = { x with path := 0 } ∧ (∀ m, m ≠ n.val → t.solX m = s.solX m) ∧ quiet noSol (solRegs s n) s t)

/-- Trips, hot clamps, lost channels, rail and supply faults switch solenoids off; clears, restores, enables and class S writes act as stated. The model's own choices and readings in it: log entries 43, 44, 45, 144, 177. -/
def Obligations.SolenoidProtectionAndEnable : Prop :=
  ∀ (n : Fin 24) (s : State), s.domOn 7 = true →
    let x := s.solX n
    let b := n.val / 4
    let l := s.solLead n
    let unit := fun (a : Nat) => 0x40000000 ≤ a ∧ a < 0x41000000
    let allOff := fun (p : Nat → Prop) (t : State) => (∀ m, m < 24 → p m → s.solOdd m = false → t.fb F.SOL_STAT_ON m = false) ∧
      (∀ m, ¬ p m → t.solX m = s.solX m) ∧ noisy noSol unit s t
    (s.solLowOn l = false → exec (.solOvercurrentTrip n) s = .next s) ∧
    (s.solLowOn l = true → runsTo (.solOvercurrentTrip n) s fun t =>
      (∀ m ∈ s.solMembers l, t.fb F.SOL_STAT_TRIP m = true) ∧ (t.solX l).tripAt = some s.elapsed ∧
        switchedOff l 1 s t ∧ solOffOnly l 1 s t) ∧
    (s.fb F.SOL_STAT_HOT n = false → s.fb F.SOL_STAT_ON l = true → runsTo (.solClampHot n) s fun t =>
      t.fb F.SOL_STAT_HOT n = true ∧ switchedOff l 1 s t ∧ solOffOnly l 1 s t) ∧
    (runsTo (.solClampCool n) s fun t =>
      t.fb F.SOL_STAT_HOT n = false ∧ quiet noRegs (fun a => a = R.SOL_STAT.addr n) s t) ∧
    (solIdle s n = true → s.fb F.SOL_STAT_LOST n = false → s.f F.SOL_BSTAT_DOWN_CAUSE b ≠ 1 →
      runsTo (.solChannelLost n) s fun t =>
        t.fb F.SOL_STAT_LOST n = true ∧ t.fb F.SOL_BSTAT_DOWN b = true ∧ t.f F.SOL_BSTAT_DOWN_CAUSE b = 1 ∧
          allOff (fun m => m / 4 = b) t) ∧
    (∀ k : Fin 6, s.solHighOn k = true → s.f F.SOL_BSTAT_DOWN_CAUSE k = 0 → runsTo (.solRailOvercurrent k) s fun t =>
      t.fb F.SOL_BSTAT_DOWN k = true ∧ t.f F.SOL_BSTAT_DOWN_CAUSE k = 2 ∧ allOff (fun m => m / 4 = k) t) ∧
    (∀ mv : BitVec 16, s.fb F.SOL_GSTAT_UNDERV = false → mv.toNat < 10500 → runsTo (.vsolUndervoltage mv) s fun t =>
      t.fb F.SOL_GSTAT_UNDERV = true ∧ t.fb F.SOL_GSTAT_UNDERV_SEEN = true ∧ allOff (fun m => m < 24) t) ∧
    (∀ mv : BitVec 16, s.fb F.SOL_GSTAT_UNDERV = true → 11500 < mv.toNat → runsTo (.vsolRecovered mv) s fun t =>
      t.fb F.SOL_GSTAT_UNDERV = false ∧ noisy noRegs (fun a => a = R.SOL_GSTAT.addr) s t) ∧
    (s.solOdd n = false → runsTo (.solClearTrip n) s fun t =>
      (x.tripAt ≠ some s.elapsed → ∀ m ∈ s.solMembers n, t.fb F.SOL_STAT_TRIP m = false) ∧
        (x.tripAt = some s.elapsed → t.fb F.SOL_STAT_TRIP n = s.fb F.SOL_STAT_TRIP n) ∧ quiet noRegs (solRegs s n) s t) ∧
    (∀ k : Fin 6, runsTo (.solBankRestore k) s fun t =>
      (if ∃ m ∈ solBank k, s.fb F.SOL_STAT_LOST m = true
        then t.fb F.SOL_BSTAT_REFUSED k = true ∧ t.fb F.SOL_BSTAT_DOWN k = s.fb F.SOL_BSTAT_DOWN k
        else t.fb F.SOL_BSTAT_DOWN k = false ∧ t.f F.SOL_BSTAT_DOWN_CAUSE k = 0) ∧
        quiet noRegs (fun a => a = R.SOL_BSTAT.addr k ∨ a = R.SOL_BCTL.addr k) s t) ∧
    (let par := s.fb F.SOL_CTL_PAR n
     let ip := s.f F.SOL_CUR_IPEAK n
     let ih := s.f F.SOL_CUR_IHOLD n
     s.solOdd n = false → s.fb F.SOL_CTL_EN n = false → s.f F.SOL_CTL_SRC n < 2 → ih ≤ ip →
      11 * ip ≤ (if par then 20 else 10) * s.f F.SOL_OCL_OC_LIM n → (par = false → ip ≤ 12000 ∧ ih ≤ 4000) →
      s.f F.SOL_REPPH_REP_PH n < s.f F.SOL_REP_REP_US n →
      (s.fb F.SOL_MEAS_DROP_EN n = true ∨ s.solClassS n = true → s.fb F.SOL_CTL_ODEC n = true) →
      (∀ m ∈ s.solMembers n, s.fb F.SOL_STAT_LOST m = false) → s.fb F.SOL_BSTAT_DOWN b = false → s.fb F.SYS_STAT_SS = false →
      s.mode ≠ 6 → s.mode ≠ 0 → runsTo (.solEnable n) s fun t =>
        t.fb F.SOL_CTL_EN n = true ∧ t.solX n = { x with onTime := 0, rep := none } ∧
          (∀ m, m ≠ n.val → t.solX m = s.solX m) ∧ quiet noSol (fun a => a = R.SOL_CTL.addr n) s t) ∧
    (s.solOdd n = false → s.fb F.SOL_CTL_EN n = true → (s.solClassS n = true → s.fb F.SOL_CTL_ODEC n = true) →
      runsTo (.solDisable n) s fun t =>
        t.fb F.SOL_CTL_EN n = false ∧ (t.solX n).armed = none ∧ (t.solX n).rep = none ∧ (t.solX n).queued = none ∧
          (s.fb F.SOL_STAT_ON n = true → switchedOff n (solOdec s n) s t) ∧ solOffOnly n (solOdec s n) s t) ∧
    (∀ v : BitVec 24,
      (s.mode = 1 → (∀ k, k < 12 → s.fb F.SOL_CTL_PAR (2 * k) = true → v.getLsbD (2 * k) = v.getLsbD (2 * k + 1)) →
        runsTo (.solClassSWrite v) s fun t =>
          t.rd R.SOL_CLASS_S = v.setWidth 32 ∧ (∀ m, m < 24 → t.fb F.SOL_CTL_CLASS_S m = v.getLsbD m ∧
            (v.getLsbD m = true → t.fb F.SOL_CTL_ODEC m = true)) ∧
          tabGet 0 t.sto.keyWork R.SOL_CLASS_S.addr = v.setWidth 32 ∧ t.sto.keyDirty = true ∧
          (s.fb F.SYS_STAT_FIRE = true → quiet (fun u => { u with regs := [], sto := {} })
            (fun a => a = R.SOL_CLASS_S.addr ∨ ∃ m, m < 24 ∧ a = R.SOL_CTL.addr m) s t) ∧
          (s.fb F.SYS_STAT_FIRE = false →
            (∀ m, m < 24 → v.getLsbD m = true → s.solOdd m = false → t.fb F.SOL_STAT_ON m = false) ∧
            noisy (fun u => { noSol u with sto := {} }) unit s t)) ∧
      (s.mode ≠ 1 → bits (s.rd R.SOL_CLASS_S) 23 0 ≠ v.toNat → runsTo (.solClassSWrite v) s fun t =>
        t.fb F.SOL_GSTAT_XREFUSED = true ∧ quiet noRegs (fun a => a = R.SOL_GSTAT.addr) s t))

namespace Sys2Proof.Claims

open Sys2Proof.Machine

--#
/-! ### Load switches -/

/-- A state without the load switches and the registers. -/
def noLsw (s : State) : State := { s with regs := [], lsw := [] }

/-- The registers of load switch `n`. -/
def lswRegs (n a : Nat) : Prop := 0x41001000 + 0x40 * n ≤ a ∧ a < 0x41001000 + 0x40 * n + 0x40

/-- The registers of the load switches. -/
def lswUnit (a : Nat) : Prop := 0x41000000 ≤ a ∧ a < 0x42000000

/-- Load switch `n` alone changes, with what its events leave. -/
def lswOnly (n : Nat) (s t : State) : Prop :=
  (∀ m, m ≠ n → t.lswX m = s.lswX m) ∧ noisy noLsw (lswRegs n) s t

/-- The same without an event. -/
def lswQuiet (n : Nat) (s t : State) : Prop :=
  (∀ m, m ≠ n → t.lswX m = s.lswX m) ∧ quiet noLsw (lswRegs n) s t

/-- What a fault of load switch `n` leaves: off and counted; a held one no longer held, another pending a retry, or
exhausted without one. -/
def lswFaulted (n : Nat) (s t : State) : Prop :=
  t.fb F.LSW_STAT_ON n = false ∧ t.rd R.LSW_FCNT n = s.rd R.LSW_FCNT n + 1 ∧ (t.lswX n).faultAt = s.elapsed ∧
    (s.lswHeld n = true → t.lswHeld n = false ∧
      (∀ m, m ≠ n → t.lswX m = s.lswX m) ∧ noisy noLsw (fun a => lswRegs n a ∨ a = R.SYS_HELD.addr) s t) ∧
    (s.lswHeld n = false → (if s.f F.LSW_STAT_RETRY_LEFT n = 0 then t.fb F.LSW_STAT_EXHAUSTED n = true
      else t.fb F.LSW_STAT_PENDING n = true) ∧ lswOnly n s t)

/-- Nothing of channel `n` and its group, and no hold of it off, keeps it off once a fault is cleared. -/
def lswFree (s : State) (n : Nat) : Prop :=
  s.fb F.LSW_CTL_EN n = true ∧ s.fb F.LSW_STAT_LOST n = false ∧ s.lswClosed (n / 8) = true ∧
    s.fb F.LSW_GRSTAT_UNDERV (n / 8) = false ∧ (s.lswHeld n = true → (s.lswX n).heldOff = false)

end Sys2Proof.Claims

/-- Load switches follow their command in force, ON at once, PWM at period starts with the rounded on-time, and EN starts and stops them. The model's own choices and readings in it: log entries 47, 144, 155. -/
def Obligations.LoadSwitchCommandsAndPwm : Prop :=
  ∀ (n : Fin 32) (s : State), s.domOn 7 = true →
    let x := s.lswX n
    let refused := fun (t : State) => t.fb F.LSW_STAT_REFUSED n = true ∧ quiet noRegs (fun a => a = R.LSW_STAT.addr n) s t
    (s.lswHeld n = true →
      ∀ c ∈ [Instr.lswCmdOff n, .lswCmdOn n, .lswCmdPwm n, .lswEnable n, .lswDisable n, .lswClearFault n], runsTo c s refused) ∧
    (s.lswHeld n = false → s.f F.LSW_CTL_SRC n ≠ 0 ∨ s.fb F.LSW_CTL_EN n = false ∨ s.mode = 6 ∨ s.mode = 0 →
      ∀ c ∈ [Instr.lswCmdOff n, .lswCmdOn n, .lswCmdPwm n], runsTo c s refused) ∧
    (s.lswHeld n = false → s.f F.LSW_CTL_SRC n = 0 → s.fb F.LSW_CTL_EN n = true → s.mode ≠ 6 → s.mode ≠ 0 →
      (runsTo (.lswCmdOff n) s fun t =>
        t.f F.LSW_STAT_CMD n = 0 ∧ t.fb F.LSW_STAT_ON n = false ∧ (t.lswX n).offAt = none ∧ lswQuiet n s t) ∧
      (runsTo (.lswCmdOn n) s fun t =>
        t.f F.LSW_STAT_CMD n = 1 ∧ t.fb F.LSW_STAT_ON n = (s.fb F.LSW_STAT_ON n || !lswBlocked s n) ∧
          (lswBlocked s n = false → (t.lswX n).offAt = none) ∧
          (lswBlocked s n = false → s.fb F.LSW_STAT_ON n = false → s.fb F.LSW_CTL_LAMP n = true →
            t.fb F.LSW_STAT_LAMP_WIN n = true ∧ (t.lswX n).lampEnd = s.elapsed + 50000000) ∧ lswQuiet n s t) ∧
      (runsTo (.lswCmdPwm n) s fun t =>
        t.f F.LSW_STAT_CMD n = 2 ∧ t.fb F.LSW_STAT_ON n = s.fb F.LSW_STAT_ON n ∧ lswQuiet n s t)) ∧
    (let per := s.f F.LSW_GPER_PER_US (s.f F.LSW_PWM_GEN n) * 1000
     let d := if s.f F.LSW_CTL_SRC n = 1 then x.duty else s.f F.LSW_DUTY_V n
     s.f F.LSW_STAT_CMD n = 2 → lswBlocked s n = false → lswOnStart s n = true → x.startTb ≠ some s.tbNow →
      runsTo (.lswPeriodStart n) s fun t =>
        ∃ on : Nat, on % 5 = 0 ∧ 2 * |(65536 * on : Int) - d * per| ≤ 327680 ∧
          (if d = 0 ∨ on < 2000 then t.fb F.LSW_STAT_ON n = false ∧ (t.lswX n).offAt = none
            else t.fb F.LSW_STAT_ON n = true ∧
              (t.lswX n).offAt = if d = 65535 ∨ per < on + 2000 then none else some (s.elapsed + on)) ∧
          (t.lswX n).startTb = some s.tbNow ∧ lswQuiet n s t) ∧
    (∀ e, x.offAt = some e → e ≤ s.elapsed → runsTo (.lswPwmOffEdge n) s fun t =>
      t.fb F.LSW_STAT_ON n = false ∧ (t.lswX n).offAt = none ∧ lswQuiet n s t) ∧
    (s.fb F.LSW_STAT_LAMP_WIN n = true → x.lampEnd ≤ s.elapsed → runsTo (.lampWindowEnd n) s fun t =>
      t.fb F.LSW_STAT_LAMP_WIN n = false ∧ quiet noRegs (fun a => a = R.LSW_STAT.addr n) s t) ∧
    (s.lswHeld n = false → s.fb F.LSW_CTL_EN n = false → s.f F.LSW_CTL_SRC n < 2 →
      (s.fb F.LSW_CTL_LAMP n = true → s.f F.LSW_LIM_ILIM n ≤ 80) → s.fb F.LSW_STAT_LOST n = false →
      s.fb F.LSW_GRSTAT_DOWN (n / 8) = false → s.fb F.SYS_STAT_SS = false → s.mode ≠ 6 → s.mode ≠ 0 → runsTo (.lswEnable n) s fun t =>
        t.fb F.LSW_CTL_EN n = true ∧ t.f F.LSW_STAT_RETRY_LEFT n = s.f F.LSW_RETRY_RETRY_MAX n ∧
          t.f F.LSW_STAT_CMD n = (if s.f F.LSW_CTL_SRC n = 1 then 2 else 0) ∧ (t.lswX n).duty = 0 ∧ lswQuiet n s t) ∧
    (s.lswHeld n = false → s.fb F.LSW_CTL_EN n = true → runsTo (.lswDisable n) s fun t =>
      t.fb F.LSW_CTL_EN n = false ∧ t.fb F.LSW_STAT_ON n = false ∧ t.f F.LSW_STAT_CMD n = 0 ∧ lswQuiet n s t)

/-- Load switch faults switch off and use the retry budget; clears, readings, group faults, undervoltage and RESTORE act as stated. The model's own choices and readings in it: log entries 48, 49, 113, 155, 177. -/
def Obligations.LoadSwitchFaultsAndGroups : Prop :=
  (∀ (n : Fin 32) (s : State), s.domOn 7 = true →
    let x := s.lswX n
    let max := s.f F.LSW_RETRY_RETRY_MAX n
    let left := s.f F.LSW_STAT_RETRY_LEFT n
    (s.fb F.LSW_STAT_ON n = true → runsTo (.lswCurrentLimitTrip n) s fun t =>
      t.fb F.LSW_STAT_TRIP n = true ∧ (t.lswX n).tripAt = some s.elapsed ∧ lswFaulted n s t) ∧
    (∀ temp : BitVec 16, s.fb F.LSW_STAT_HOT n = false → 1700 ≤ temp.toInt → runsTo (.thermalLatch n temp) s fun t =>
      t.fb F.LSW_STAT_HOT n = true ∧ t.fb F.LSW_STAT_HOT_SEEN n = true ∧ lswFaulted n s t) ∧
    (∀ temp : BitVec 16, s.fb F.LSW_STAT_HOT n = true → temp.toInt < 1500 → runsTo (.thermalRelease n temp) s fun t =>
      t.fb F.LSW_STAT_HOT n = false ∧ (t.lswX n).coolRun = false ∧
        (s.f F.LSW_STAT_CMD n ≠ 1 → t.fb F.LSW_STAT_ON n = s.fb F.LSW_STAT_ON n) ∧
        (s.f F.LSW_STAT_CMD n = 1 → lswFree s n → s.fb F.LSW_STAT_TRIP n = false →
          s.fb F.LSW_STAT_EXHAUSTED n = false → s.fb F.LSW_STAT_PENDING n = false → t.fb F.LSW_STAT_ON n = true) ∧
        lswOnly n s t) ∧
    (s.fb F.LSW_STAT_PENDING n = true → s.fb F.LSW_STAT_HOT n = false → s.lswHeld n = false → 0 < left →
      x.faultAt + s.f F.LSW_RETRY_RETRY_INT n * 1000000 ≤ s.elapsed → runsTo (.retryRestart n) s fun t =>
        t.f F.LSW_STAT_RETRY_LEFT n = left - 1 ∧ t.fb F.LSW_STAT_TRIP n = false ∧ t.fb F.LSW_STAT_PENDING n = false ∧
          t.fb F.LSW_STAT_RESTARTED n = true ∧
          (s.f F.LSW_STAT_CMD n = 1 → lswFree s n → s.fb F.LSW_STAT_EXHAUSTED n = false → t.fb F.LSW_STAT_ON n = true) ∧
          lswOnly n s t) ∧
    (∀ e, x.clean = some e → s.fb F.LSW_CTL_EN n = true → s.fb F.LSW_STAT_EXHAUSTED n = false →
      e + s.f F.LSW_RETRY_OK_S n * 1000000000 ≤ s.elapsed → runsTo (.retryReload n) s fun t =>
        t.f F.LSW_STAT_RETRY_LEFT n = max ∧ t.lswX n = { x with clean := none } ∧ lswQuiet n s t) ∧
    (s.lswHeld n = false → runsTo (.lswClearFault n) s fun t =>
      t.f F.LSW_STAT_RETRY_LEFT n = max ∧
        (x.tripAt ≠ some s.elapsed → t.fb F.LSW_STAT_TRIP n = false ∧ t.fb F.LSW_STAT_EXHAUSTED n = false ∧
          t.fb F.LSW_STAT_PENDING n = false ∧ (t.lswX n).coolRun = s.fb F.LSW_STAT_HOT n ∧
          (lswBlocked s n = true → s.f F.LSW_STAT_CMD n = 1 → lswFree s n → s.fb F.LSW_STAT_HOT n = false →
            t.fb F.LSW_STAT_ON n = true) ∧
          (lswBlocked s n = false → t.fb F.LSW_STAT_ON n = s.fb F.LSW_STAT_ON n ∧ (t.lswX n).lampDue = x.lampDue)) ∧
        (x.tripAt = some s.elapsed → t.fb F.LSW_STAT_TRIP n = s.fb F.LSW_STAT_TRIP n ∧
          t.fb F.LSW_STAT_EXHAUSTED n = decide (max = 0) ∧ t.fb F.LSW_STAT_PENDING n = decide (max ≠ 0)) ∧ lswOnly n s t) ∧
    (∀ mv : BitVec 32, s.fb F.LSW_CTL_OL_EN n = true → s.fb F.LSW_STAT_ON n = false →
      (∀ e, x.testAt = some e → e + 10000000 ≤ s.elapsed) →
      (x.testAt = none → x.offSince + s.f F.LSW_LIM_OL_DLY n * 1000000 ≤ s.elapsed) →
      let above := (s.f F.LSW_LIM_OL_TH n * 100 : Int) < mv.toInt
      let was := s.fb F.LSW_STAT_OPEN n
      runsTo (.openLoadTest n mv) s fun t =>
        t.lswX n = { x with testAt := some s.elapsed, openHi := if above then x.openHi + 1 else 0,
                            openLo := if above then 0 else x.openLo + 1 } ∧
          t.fb F.LSW_STAT_OPEN n = (if above ∧ 2 ≤ x.openHi then true else if ¬ above ∧ 2 ≤ x.openLo then false else was) ∧
          (above → 2 ≤ x.openHi → was = false → t.fb F.LSW_STAT_OPEN_SEEN n = true) ∧ lswOnly n s t) ∧
    (s.fb F.LSW_STAT_ON n = true → runsTo (.lswNotConducting n) s fun t =>
      t.fb F.LSW_STAT_LOST n = true ∧ t.fb F.LSW_STAT_ON n = false ∧ t.lswHeld n = false ∧
        (∀ m, m ≠ n.val → t.lswX m = s.lswX m) ∧ noisy noLsw (fun a => lswRegs n a ∨ a = R.SYS_HELD.addr) s t)) ∧
  (∀ (k : Fin 4) (s : State), s.domOn 7 = true →
    let g := k.val
    let others := fun (t : State) => ∀ m, m / 8 ≠ g → t.lswX m = s.lswX m ∧ t.rd R.LSW_STAT m = s.rd R.LSW_STAT m
    let offs := fun (t : State) => ∀ j, j < 8 → t.fb F.LSW_STAT_ON (8 * g + j) = false
    (∀ n : Fin 32, n.val / 8 = g → s.fb F.LSW_STAT_ON n = false →
      s.f F.LSW_GRSTAT_DOWN_CAUSE g ≠ 1 → runsTo (.lswConductingWhileOff n) s fun t =>
        t.fb F.LSW_STAT_LOST n = true ∧ t.lswHeld n = false ∧ t.fb F.LSW_GRSTAT_DOWN g = true ∧
          t.f F.LSW_GRSTAT_DOWN_CAUSE g = 1 ∧ offs t ∧ others t ∧
          noisy noLsw (fun a => lswUnit a ∨ a = R.SYS_HELD.addr) s t) ∧
    (s.lswGroupOn g = true → s.f F.LSW_GRSTAT_DOWN_CAUSE g = 0 → runsTo (.groupOvercurrent k) s fun t =>
      t.fb F.LSW_GRSTAT_DOWN g = true ∧ t.f F.LSW_GRSTAT_DOWN_CAUSE g = 2 ∧ t.lswClosed g = false ∧ offs t ∧ others t ∧
        noisy noLsw lswUnit s t) ∧
    (∀ mean : BitVec 16, runsTo (.groupOverload k mean) s fun t =>
      t.fb F.LSW_GRSTAT_GOVL g = decide (2000 < mean.toNat) ∧
        (2000 < mean.toNat → t.fb F.LSW_GRSTAT_GOVL_SEEN g = true) ∧ t.f F.LSW_GRCUR_MEAN g = mean.toNat ∧
        noisy noRegs (fun a => a = R.LSW_GRSTAT.addr g ∨ a = R.LSW_GRCUR.addr g) s t) ∧
    (∀ mv : BitVec 16, s.fb F.LSW_GRSTAT_UNDERV g = false → mv.toNat < 8000 → runsTo (.groupUndervoltage k mv) s fun t =>
      t.fb F.LSW_GRSTAT_UNDERV g = true ∧ t.fb F.LSW_GRSTAT_UNDERV_SEEN g = true ∧ offs t ∧ others t ∧
        noisy noLsw lswUnit s t) ∧
    (∀ mv : BitVec 16, s.fb F.LSW_GRSTAT_UNDERV g = true → 8500 < mv.toNat → runsTo (.groupUndervoltageEnd k mv) s fun t =>
      t.fb F.LSW_GRSTAT_UNDERV g = false ∧ others t ∧ noisy noLsw lswUnit s t ∧
        ∀ j, j < 8 → s.f F.LSW_STAT_CMD (8 * g + j) = 1 → lswBlocked t (8 * g + j) = false →
          t.fb F.LSW_STAT_ON (8 * g + j) = true) ∧
    (runsTo (.groupRestore k) s fun t =>
      (if ∃ j ∈ List.range 8, s.fb F.LSW_STAT_LOST (8 * g + j) = true
        then t.fb F.LSW_GRSTAT_REFUSED g = true ∧ t.fb F.LSW_GRSTAT_DOWN g = s.fb F.LSW_GRSTAT_DOWN g
        else t.fb F.LSW_GRSTAT_DOWN g = false ∧ (s.fb F.LSW_GRSTAT_DOWN g = true → t.f F.LSW_GRSTAT_DOWN_CAUSE g = 0 ∧
          ∀ j, j < 8 → t.f F.LSW_STAT_CMD (8 * g + j) = 0)) ∧
        others t ∧ quiet noRegs lswUnit s t))

namespace Sys2Proof.Claims

open Sys2Proof.Machine

--#
/-! ### Motor drives -/

/-- A state without the axes, the airflow judgement, the words' counts, the time the firing conditions have held, and the
registers. -/
def noMtr (s : State) : State :=
  { s with regs := [], mtr := [], fan := {}, pubs := [], ageBase := [], sys := { s.sys with fireSince := none } }

/-- The registers of axis `n`. -/
def mtrRegs (n a : Nat) : Prop := 0x42000000 + 0x1000 * n ≤ a ∧ a < 0x42000000 + 0x1000 * n + 0x1000

/-- Besides axis `n`, its registers and `p`, nothing changes but AIRFLOW_OK; FIRE_PERMIT, where it is given, may open. -/
def mtrOnly (n : Nat) (p : Nat → Prop) (s t : State) : Prop :=
  (∀ m, m ≠ n → t.mtrX m = s.mtrX m) ∧
    (s.fb F.SYS_STAT_FIRE = false → noisy noMtr (fun a => mtrRegs n a ∨ a = R.FAN_AFSTAT.addr ∨ p a) s t)

/-- Axis `n` is in state `st` with gates `g`. -/
def axisIs (t : State) (n st g : Nat) : Prop := t.axis n = st ∧ (t.mtrX n).gates = g

/-- What may start axis `n` holds: a command that calls, no hold-off, and Hall feedback for position mode. -/
def mayStart (s : State) (n : Nat) : Prop :=
  mtrCalls s n = true ∧ mtrHoldOff s n = false ∧ (s.f F.MTR_CTL_MODE n ≠ 2 ∨ s.hallOk n = true)

/-- Axis `n` has started: with Hall feedback in RUN, with an untracked rotor in ALIGN, in the direction asked for. -/
def started (n : Nat) (s t : State) : Prop :=
  (t.mtrX n).dir = mtrWanted s n ∧ (s.hallOk n = true → axisIs t n 3 2 ∧ (t.mtrX n).integral = 0) ∧
    (s.hallOk n = false → (s.mtrX n).tracked = false → axisIs t n 1 2 ∧ (t.mtrX n).alignAt = s.elapsed)

end Sys2Proof.Claims

/-- Axis commands, enables, clears, the end of ALIGN, stalls, retries and lost feedback move an axis as the table of R363 says. The model's own choices and readings in it: log entries 55, 150, 152. -/
def Obligations.MotorCommandsAndTransitions : Prop :=
  ∀ (n : Fin 8) (s : State), s.domOn 7 = true → s.hasAxis n = true → s.mtrHeld n = false →
    let x := s.mtrX n
    let st := s.axis n
    let stop := s.f F.MTR_CTL_STOPMODE n
    let alone := mtrStalled s n = false
    let same := fun (t : State) => ∀ m, m ≠ n.val → t.mtrX m = s.mtrX m
    (∀ v : Word,
      (s.f F.MTR_CTL_SRC n = 0 → s.mode ≠ 6 → s.mode ≠ 0 → goesTo (.mtrCmdWrite n v) s fun t =>
        t.mtrX n = { x with cmd0 := v.toInt } ∧ same t ∧ quiet noMtr (fun a => a = R.MTR_CMD.addr n) s t) ∧
      (s.f F.MTR_CTL_SRC n ≠ 0 ∨ s.mode = 6 ∨ s.mode = 0 → goesTo (.mtrCmdWrite n v) s fun t =>
        t.fb F.MTR_STAT_REFUSED n = true ∧ quiet noRegs (fun a => a = R.MTR_STAT.addr n) s t)) ∧
    (let mode := s.f F.MTR_CTL_MODE n
     let fbk := s.f F.MTR_CTL_FB n
     let hz := s.f F.MTR_PWM_PWM_HZ n
     let il := s.f F.MTR_ILIM_I_LIM n
     let oc := s.f F.MTR_OCL_OC_LIM n
     s.fb F.MTR_CTL_EN n = false → mode < 3 → fbk < 3 → stop < 2 → (2 ≤ s.f F.MTR_CTL_SRC n → mode = 0) →
      (mode = 2 → fbk = 2 ∧ s.fb F.MTR_STAT_HALL_LOST n = false) →
      (if n.val < 4 then 16000 ≤ hz ∧ hz ≤ 40000 else 2000 ≤ hz ∧ hz ≤ 20000) → s.f F.MTR_MOT0_RS n ≠ 0 →
      s.f F.MTR_MOT1_LD n ≠ 0 → s.f F.MTR_MOT1_LQ n ≠ 0 → s.rd R.MTR_MOT2 n ≠ 0 → 242 * il * il ≤ 100 * oc * oc →
      s.f F.MTR_ST0_ALIGN_I n ≤ il → s.f F.MTR_ST0_OL_I n ≤ il → s.f F.MTR_SPD_MIN_SPD n ≤ s.f F.MTR_SPD_LOCK_SPD n →
      10 * s.nat R.MTR_CBW n ≤ hz → st ≠ 7 → s.fb F.SYS_STAT_SS = false → s.mode ≠ 6 → s.mode ≠ 0 →
      goesTo (.mtrEnable n) s fun t =>
        t.fb F.MTR_CTL_EN n = true ∧ t.f F.MTR_STAT_ATTEMPTS n = 0 ∧ t.axis n = st ∧
          t.fb F.FAN_AXDEM_STOPPED n = true ∧ t.fb F.FANA_AXDEM_STOPPED n = true ∧ (t.mtrX n).zoneCmd = 0 ∧
          (t.mtrX n).autoCmd = 0 ∧
          (t.mtrX n).gates = (if st = 0 then mtrStopGates s n else x.gates) ∧ (mode = 2 → (t.mtrX n).cmd0 = (s.rd R.MTR_POS n).toInt) ∧ same t ∧
          quiet noMtr (fun a => mtrRegs n a ∨ a = R.FAN_AXDEM.addr n ∨ a = R.FANA_AXDEM.addr n) s t) ∧
    (s.fb F.MTR_CTL_EN n = true → mtrStalled s n = false → goesTo (.mtrDisable n) s fun t =>
      t.fb F.MTR_CTL_EN n = false ∧ (if st ≤ 4 then axisIs t n 0 (mtrStopGates s n) else axisIs t n st x.gates) ∧ mtrOnly n noneElse s t) ∧
    (alone → goesTo (.mtrClearTrip n) s fun t =>
      (if st = 6 ∧ x.tripAt ≠ some s.elapsed then axisIs t n 0 (mtrStopGates s n) else axisIs t n st x.gates) ∧ same t ∧
        quiet noMtr (mtrRegs n) s t) ∧
    (alone → goesTo (.mtrClearBlock n) s fun t =>
      (if st = 5 then axisIs t n 0 (mtrStopGates s n) else axisIs t n st x.gates) ∧ t.f F.MTR_STAT_ATTEMPTS n = 0 ∧ same t ∧
        quiet noMtr (mtrRegs n) s t) ∧
    (alone → goesTo (.mtrClearTach n) s fun t =>
      t.fb F.MTR_STAT_TACH_LOST n = false ∧ (s.fb F.MTR_STAT_TACH_LOST n = true → (t.mtrX n).tachWait = true) ∧
        axisIs t n st x.gates ∧ same t ∧ quiet noMtr (mtrRegs n) s t) ∧
    (alone → goesTo (.mtrClearHall n) s fun t =>
      t.fb F.MTR_STAT_HALL_LOST n = false ∧ t.mtrX n = { x with hallBad := [] } ∧ t.axis n = st ∧ same t ∧
        quiet noMtr (mtrRegs n) s t) ∧
    (st = 1 → x.alignAt + s.f F.MTR_ST1_ALIGN_MS n * 1000000 ≤ s.elapsed → runsTo (.alignEnd n) s fun t =>
      axisIs t n 2 2 ∧ (t.mtrX n).olAt = s.elapsed ∧ same t ∧ quiet noMtr (mtrRegs n) s t) ∧
    (mtrStalled s n = true → goesTo (.stallAttempt n) s fun t =>
      t.fb F.MTR_STAT_STALL_SEEN n = true ∧
        (if s.f F.MTR_STAT_ATTEMPTS n + 1 ≤ s.f F.MTR_ST3_RETRIES n
          then axisIs t n 4 0 ∧ (t.mtrX n).retryAt = s.elapsed ∧
            t.f F.MTR_STAT_ATTEMPTS n = (s.f F.MTR_STAT_ATTEMPTS n + 1) % 16
          else axisIs t n 5 0) ∧ mtrOnly n noneElse s t) ∧
    (st = 4 → x.retryAt + s.f F.MTR_ST3_RWAIT_S n * 1000000000 ≤ s.elapsed →
      (mayStart s n → runsTo (.retryWaitEnd n) s fun t => started n s t ∧ mtrOnly n noneElse s t) ∧
      (mtrCalls s n = false → runsTo (.retryWaitEnd n) s fun t => axisIs t n 0 (mtrStopGates s n) ∧ mtrOnly n noneElse s t)) ∧
    (st = 3 → x.runAt + 60000000000 ≤ s.elapsed → runsTo (.attemptsReset n) s fun t =>
      t.f F.MTR_STAT_ATTEMPTS n = 0 ∧ t.axis n = 3 ∧ quiet noRegs (fun a => a = R.MTR_STAT.addr n) s t) ∧
    (∀ e, st = 3 → s.f F.MTR_CTL_FB n = 1 → s.fb F.MTR_STAT_TACH_LOST n = false →
      x.tachGone = some e ∨ x.tachBad = some e → e + 200000000 ≤ s.elapsed → runsTo (.tachLost n) s fun t =>
        t.fb F.MTR_STAT_TACH_LOST n = true ∧ t.axis n = 3 ∧
          t.mtrX n = { x with speed := x.est, integral := (t.mtrX n).integral } ∧
          (s.f F.MTR_CTL_MODE n = 0 → mtrReverses s n = false →
            gainOf (s.rd R.MTR_KSP n) (mtrSpeedCmd s n - x.est) + (t.mtrX n).integral = x.iqCmd) ∧
          mtrOnly n noneElse s t) ∧
    (s.f F.MTR_CTL_FB n = 2 → s.fb F.MTR_STAT_HALL_LOST n = false → 3 ≤ x.hallBad.length → runsTo (.hallLost n) s fun t =>
      t.fb F.MTR_STAT_HALL_LOST n = true ∧
        (if 1 ≤ st ∧ st ≤ 3 ∧ s.f F.MTR_CTL_MODE n ≠ 2 ∧ s.f F.MTR_SPD_MIN_SPD n ≤ x.est.natAbs then t.axis n = st
          else if st = 1 ∨ st = 2 ∨ st = 3 then axisIs t n 0 (mtrStopGates s n) else t.axis n = st) ∧ mtrOnly n noneElse s t)

/-- A motor trip or loss opens all gates and ends a hold; hot bridges and supply faults stop starting and running bridges; BUSLIM follows VDRV. The model's own choices and readings in it: log entries 53, 56, 153. -/
def Obligations.MotorTripsAndSupply : Prop :=
  ∀ (n : Fin 8) (s : State), s.domOn 7 = true →
    let x := s.mtrX n
    let st := s.axis n
    let low := n.val < 4 ∧ s.hasAxis n = true
    let high := 4 ≤ n.val
    let held := fun a => a = R.SYS_HELDM.addr
    let resumed := fun (t : State) m => if s.axis m = 0 ∧ s.fb F.MTR_CTL_EN m = true
      then { s.mtrX m with gates := mtrStopGates t m } else s.mtrX m
    let units := fun a => ∃ m, m < 8 ∧ mtrRegs m a
    (∀ (c : Instr) (cause : Nat) (cur : BitVec 32) (ones : BitVec 13), st ≠ 7 →
      (c = .phaseOvercurrentTrip n cur ∧ cause = 1 ∧ low ∧ s.f F.MTR_OCL_OC_LIM n ≤ cur.toNat) ∨
        (c = .desaturationTrip n cur ∧ cause = 2 ∧ high) ∨
        (c = .filteredOvercurrentTrip n ones ∧ cause = 3 ∧ high ∧ ones.toNat ≤ 4096 ∧
          (s.f F.MTR_OCL_OC_LIM n : Rat) < |(2 * (ones.toNat : Rat) / 4096 - 1) * (s.f F.MTR_SDFS_SD_FS n : Rat)|) ∨
        (c = .phaseOpen n cur ∧ cause = 4 ∧ st = 3 ∧ ∃ q ∈ x.openFrom, q.2 + 100000000 ≤ s.elapsed) ∨ (c = .bitstreamLost n cur ∧ cause = 5 ∧ high ∧ s.fb F.MTR_CTL_EN n = true) →
      goesTo c s fun t => axisIs t n 6 0 ∧ t.fb F.MTR_STAT_TRIP_SEEN n = true ∧ t.f F.MTR_STAT_TRIP_CAUSE n = cause ∧
        (t.mtrX n).tripAt = some s.elapsed ∧ t.mtrHeld n = false ∧ mtrOnly n held s t) ∧
    (st ≠ 7 → x.gates = 0 →
      (low → (x.tracked = false ∨ x.est.natAbs < s.f F.MTR_SPD_MIN_SPD n) → runsTo (.mtrConductingWhileOff n) s fun t =>
        axisIs t n 7 0 ∧ t.mtrHeld n = false ∧ mtrOnly n held s t) ∧
      (high → runsTo (.desatWhileOff n) s fun t => axisIs t n 7 0 ∧ t.mtrHeld n = false ∧ mtrOnly n held s t)) ∧
    (∀ temp : BitVec 32, temp.toInt < 1500 → exec (.bridgeOvertemperature ⟨n, temp⟩) s = .next s) ∧
    (∀ temp : BitVec 32, 1300 ≤ temp.toInt → exec (.bridgeCooled ⟨n, temp⟩) s = .next s) ∧
    (∀ temp : BitVec 32, low → s.fb F.MTR_STAT_HOT n = false → 1500 ≤ temp.toInt →
      runsTo (.bridgeOvertemperature ⟨n, temp⟩) s fun t =>
      t.fb F.MTR_STAT_HOT n = true ∧ t.rd R.MTR_TEMP n = temp ∧ (if st = 1 ∨ st = 2 ∨ st = 3 then axisIs t n 0 0 else t.axis n = st) ∧
        mtrOnly n noneElse s t) ∧
    (∀ temp : BitVec 32, low → s.fb F.MTR_STAT_HOT n = true → temp.toInt < 1300 → runsTo (.bridgeCooled ⟨n, temp⟩) s fun t =>
      t.fb F.MTR_STAT_HOT n = false ∧ t.rd R.MTR_TEMP n = temp ∧ t.axis n = st ∧ t.mtrX n = resumed t n ∧ mtrOnly n noneElse s t) ∧
    ((∀ m, m < 4 → s.hasAxis m = false) → ∀ mv : BitVec 32,
      ∀ c ∈ [Instr.vdrvOvervoltage mv, .vdrvOvervoltageEnd mv, .vdrvUndervoltage mv, .vdrvUndervoltageEnd mv, .buslim mv],
        exec c s = .next s) ∧
    ((∃ m, m < 4 ∧ s.hasAxis m = true) → ∀ mv : BitVec 32,
      let limited := fun (t : State) => t.rd R.MTR_VDRV = mv ∧ t.fb F.MTR_GSTAT_BUSLIM =
        (if 63000 < mv.toNat then true else if mv.toNat < 62000 then false else s.fb F.MTR_GSTAT_BUSLIM)
      let stopped := fun (t : State) => limited t ∧
        (∀ m, m < 4 → s.hasAxis m = true →
          if s.axis m = 1 ∨ s.axis m = 2 ∨ s.axis m = 3 then axisIs t m 0 0 else t.axis m = s.axis m) ∧
        (∀ m, 4 ≤ m → t.mtrX m = s.mtrX m) ∧ (∀ m, 4 ≤ m → m < 8 → t.rd R.MTR_STAT m = s.rd R.MTR_STAT m) ∧
        (s.fb F.SYS_STAT_FIRE = false → noisy noMtr (fun a => units a ∨ a = R.FAN_AFSTAT.addr ∨ a = R.MTR_GSTAT.addr ∨
          a = R.MTR_VDRV.addr) s t)
      let ended := fun (t : State) => limited t ∧ (∀ m, m < 8 → t.axis m = s.axis m) ∧
        (∀ m, t.mtrX m = if m < 4 ∧ s.hasAxis m = true then resumed t m else s.mtrX m) ∧
        noisy noMtr (fun a => a = R.MTR_GSTAT.addr ∨ a = R.MTR_VDRV.addr) s t
      (66000 < mv.toNat → s.fb F.MTR_GSTAT_OVERV = false → runsTo (.vdrvOvervoltage mv) s fun t =>
        t.fb F.MTR_GSTAT_OVERV = true ∧ stopped t) ∧
      (mv.toNat < 20000 → s.fb F.MTR_GSTAT_UNDERV = false → runsTo (.vdrvUndervoltage mv) s fun t =>
        t.fb F.MTR_GSTAT_UNDERV = true ∧ stopped t) ∧
      (mv.toNat < 62000 → s.fb F.MTR_GSTAT_OVERV = true → runsTo (.vdrvOvervoltageEnd mv) s fun t =>
        t.fb F.MTR_GSTAT_OVERV = false ∧ ended t) ∧
      (22000 < mv.toNat → s.fb F.MTR_GSTAT_UNDERV = true → runsTo (.vdrvUndervoltageEnd mv) s fun t =>
        t.fb F.MTR_GSTAT_UNDERV = false ∧ ended t) ∧
      (runsTo (.buslim mv) s fun t =>
        limited t ∧ quiet noRegs (fun a => a = R.MTR_GSTAT.addr ∨ a = R.MTR_VDRV.addr) s t))

/-- At a period centre an axis publishes its words, an enabled called axis in OFF starts, and the speed loop sets the current in RUN. The model's own choices and readings in it: log entries 51, 52, 165. -/
def Obligations.MotorCentresMeasureAndDecide : Prop :=
  ∀ (n : Fin 8) (d : MtrSample) (s : State) (c : Nat), s.domOn 7 = true → s.hasAxis n = true →
    s.f F.MTR_PWM_PWM_HZ n ≠ 0 → mtrCentre s n = some c → s.f F.MTR_CTL_FB n ≠ 1 →
    let x := s.mtrX n
    let st := s.axis n
    let seen := d.tracked = true ∧ (if n.val < 4 then s.f F.MTR_SPD_MIN_SPD n ≤ d.est.toInt.natAbs else x.gates ≠ 0)
    let v : Int := if s.hallOk n = true ∨ seen then (if s.fb F.MTR_CTL_DIR n = true then -d.est.toInt else d.est.toInt) else 0
    let sdFs : Rat := ((s.f F.MTR_SDFS_SD_FS n * 10 : Nat) : Rat)
    goesTo (.mtrPeriodCentre n d) s fun t =>
      (t.mtrX n).centreTb = some c ∧ t.rd R.MTR_IQ n = wordI (mtrPark t n d).2 ∧ t.rd R.MTR_ID n = wordI (mtrPark t n d).1 ∧
        t.rd R.MTR_IRMS n = word (mtrRms s n d) ∧
        (∀ y : BitVec 32, 4 ≤ n.val → y.toNat ≤ 2 ^ 21 → mtrPhase t n y = (2 * (y.toNat : Rat) / 2 ^ 21 - 1) * sdFs) ∧
        t.rd R.MTR_SPEED n = wordI v ∧
        (t.mtrX n).posAcc = x.posAcc + v * (mtrPeriod s n * 65536 : Nat) ∧
        t.rd R.MTR_POS n = wordI ((t.mtrX n).posAcc / 600000000000) ∧
        ((measOf t (0x800 + n)).flags = if t.axis n = 7 then 1 else 0) ∧
        tabGet 0 t.pubs (0x800 + n) = tabGet 0 s.pubs (0x800 + n) + 1 ∧
        tabGet 0 t.pubs (0x810 + n) = tabGet 0 s.pubs (0x810 + n) + 1 ∧
        (∀ m, m ≠ n.val → t.mtrX m = s.mtrX m) ∧
        (s.fb F.SYS_STAT_FIRE = false → noisy noMtr (fun a => mtrRegs n a ∨ a = R.FAN_AFSTAT.addr) s t) ∧
        (st = 0 → s.fb F.MTR_CTL_EN n = false → axisIs t n 0 x.gates) ∧
        (st = 0 → s.fb F.MTR_CTL_EN n = true → mayStart s n → s.hallOk n = false → d.tracked = false →
          axisIs t n 1 2 ∧ (t.mtrX n).dir = mtrWanted s n) ∧
        (let lim : Int := (mtrLimit s n : Nat)
         let e := mtrSpeedCmd s n - v
         st = 3 → s.f F.MTR_CTL_MODE n = 0 → s.hallOk n = true → mtrCalls s n = true → 4 ≤ n.val →
          s.f F.MTR_ST2_STALL_MS n ≠ 0 →
          (∀ t0, x.stallFrom = some t0 → s.elapsed < t0 + s.f F.MTR_ST2_STALL_MS n * 1000000) → t.axis n = 3 ∧
            (t.mtrX n).iqCmd = clamp (-lim) lim (gainOf (s.rd R.MTR_KSP n) e + x.integral) ∧
            (t.mtrX n).integral = clamp (-lim) lim (x.integral + gainOf (s.rd R.MTR_KSI n) e))

namespace Sys2Proof.Claims

open Sys2Proof.Machine

--#
/-! ### FAN unit -/

/-- The registers of the FAN unit. -/
def fanRegs (a : Nat) : Prop := 0x43000000 ≤ a ∧ a < 0x44000000

/-- The number of points and the points of zone `z` pass R374, and its source is one. -/
def zoneOk (s : State) (auto : Bool) (z : Nat) : Prop :=
  let ctl := s.rd (fanTab auto).zctl z
  2 ≤ bits ctl 7 4 ∧ bits ctl 7 4 ≤ 8 ∧ msrcOk s (bits ctl 27 16) = true ∧
    (∀ i, i < bits ctl 7 4 → (fanPoint s (fanTab auto) z i).2 ≤ 1000) ∧
    (∀ i, i + 1 < bits ctl 7 4 → (fanPoint s (fanTab auto) z i).1 < (fanPoint s (fanTab auto) z (i + 1)).1)

end Sys2Proof.Claims

/-- An evaluation gives each zone its curve's demand, each axis the highest, and each table's speed command; zones enable under R374; AIRFLOW_OK asserts. The model's own choices and readings in it: log entries 55, 61. -/
def Obligations.FanDemandsAndAirflow : Prop :=
  ∀ s : State, s.domOn 7 = true →
    (s.tbNow % (s.f F.FAN_GCTL_FAN_PER * 1000000) = 0 → s.fan.evalTb ≠ some s.tbNow → goesTo .fanEvaluation s fun t =>
      (∀ (auto : Bool) (z : Nat), z < 32 →
        let b := fanTab auto
        let ctl := s.rd b.zctl z
        let np := bits ctl 7 4
        let m := measOf s (bits ctl 27 16)
        let p := fanPoint s b z
        let dem := t.rd b.zdem z
        maskBit ctl 0 = true → zoneOk s auto z → bits ctl 27 16 ≠ 0xFFF →
          (m.lost = true → maskBit dem 16 = false) ∧
          (m.skipped = true → maskBit dem 16 = maskBit (s.rd b.zdem z) 16 ∧ (maskBit dem 16 = true →
            bits dem 9 0 = bits (s.rd b.zdem z) 9 0 ∧ maskBit dem 17 = true)) ∧
          (m.lost = false → m.skipped = false → maskBit dem 16 = true ∧ maskBit dem 17 = false ∧
            (m.v ≤ (p 0).1 → (bits dem 9 0 : Int) = (p 0).2) ∧ ((p (np - 1)).1 ≤ m.v → (bits dem 9 0 : Int) = (p (np - 1)).2) ∧
            (∀ i, i + 1 < np → (p i).1 < m.v → m.v < (p (i + 1)).1 → (bits dem 9 0 : Int) =
              roundAway ((p i).2 + ((m.v - (p i).1 : Int) : Rat) * (((p (i + 1)).2 - (p i).2 : Int) : Rat) /
                (((p (i + 1)).1 - (p i).1 : Int) : Rat))))) ∧
      (∀ (auto : Bool) (n : Nat), n < 8 →
        let b := fanTab auto
        let w := t.rd b.axdem n
        let d := bits w 9 0
        let gives := fun z => z < 32 ∧ maskBit (t.rd b.zdem z) 16 = true ∧ (bits (s.rd b.zctl z) 15 8).testBit n = true
        let cmd : Int := if maskBit w 26 then 0 else (d * (s.rd b.axmax n).toNat / 1000 : Nat)
        ((∃ z, gives z) → (∃ z, gives z ∧ bits (t.rd b.zdem z) 9 0 = d) ∧ ∀ z, gives z → bits (t.rd b.zdem z) 9 0 ≤ d) ∧
          ((¬ ∃ z, gives z) → d = bits (s.rd b.axcfg n) 9 0 ∧ maskBit w 24 = true) ∧
          maskBit w 26 = (if maskBit (s.rd b.axdem n) 26 then decide (d < bits (s.rd b.axcfg n) 19 10)
            else decide (d < bits (s.rd b.axcfg n) 29 20)) ∧
          maskBit w 25 = decide (s.axis n = 5) ∧
          (if auto then (t.mtrX n).autoCmd else (t.mtrX n).zoneCmd) =
            (if s.axis n = 5 then (if auto then (s.mtrX n).autoCmd else (s.mtrX n).zoneCmd) else cmd)) ∧
      t.fb F.FAN_ASTAT_HOST = hostLate s ∧ t.fb F.FAN_ASTAT_HOLD = decide (s.mode = 6) ∧
      t.fb F.FAN_ASTAT_RUNON = decide (s.rd R.SYS_HELDM ≠ 0) ∧
      t.fb F.FAN_ASTAT_ACTIVE = (hostLate s || decide (s.mode = 6) || decide (s.rd R.SYS_HELDM ≠ 0)) ∧
      noisy noMtr fanRegs s t) ∧
    (∀ z : Fin 32,
      (s.fb F.FAN_ZCTL_EN z = false → zoneOk s false z → runsTo (.fanZoneEnable false z) s fun t =>
        t.fb F.FAN_ZCTL_EN z = true ∧ quiet noRegs (fun a => a = R.FAN_ZCTL.addr z) s t) ∧
      (s.fb F.FAN_ZCTL_EN z = false → ¬ zoneOk s false z → runsTo (.fanZoneEnable false z) s fun t =>
        t.fb F.FAN_GSTAT_REFUSED = true ∧ quiet noRegs (fun a => a = R.FAN_GSTAT.addr) s t) ∧
      (s.mode = 1 → runsTo (.fanZoneEnable true z) s fun t =>
        t.fb F.FANA_ZCTL_EN z = true ∧
          quiet (fun u => { u with regs := [], sto := {}, sys := {} }) (fun a => a = R.FANA_ZCTL.addr z) s t) ∧
      (s.mode ≠ 1 → s.fb F.FANA_ZCTL_EN z = false → runsTo (.fanZoneEnable true z) s fun t =>
        t.fb F.FAN_GSTAT_REFUSED = true ∧ quiet noRegs (fun a => a = R.FAN_GSTAT.addr) s t)) ∧
    (s.afMask ≠ [] → s.fb F.FAN_AFSTAT_AIRFLOW_OK = false →
      (∀ n ∈ s.afMask, ∃ e, tabFind s.fan.afGood n = some e ∧ e + s.f F.FAN_AF_AF_DLY * 1000000 ≤ s.elapsed) → runsTo .airflowOkAssert s fun t =>
        t.fb F.FAN_AFSTAT_AIRFLOW_OK = true ∧ (∀ m, t.mtrX m = s.mtrX m) ∧
          (s.fb F.SYS_STAT_FIRE = false → noisy noMtr (fun a => a = R.FAN_AFSTAT.addr) s t))

namespace Sys2Proof.Claims

open Sys2Proof.Machine

--#
/-! ### Bus controller -/

/-- The registers of CAN channel `n`. -/
def canRegs (n a : Nat) : Prop := 0x50000000 + 0x10000 * n ≤ a ∧ a < 0x50000000 + 0x10000 * n + 0x10000

/-- A state without the CAN channels, the boards, the registers and the counter of free values. -/
def noCan (s : State) : State := { s with regs := [], can := [], tts := [], fresh := 0 }

/-- CAN channel `n` alone changes, with the registers that satisfy `p` and what its events leave. -/
def canOnly (p : Nat → Prop) (n : Nat) (s t : State) : Prop :=
  (∀ m, m ≠ n → t.canX m = s.canX m) ∧ (∀ m, t.ttsX m = s.ttsX m) ∧ noisy noCan (fun a => canRegs n a ∨ p a) s t

/-- The same without an event. -/
def canQuiet (n : Nat) (s t : State) : Prop :=
  (∀ m, m ≠ n → t.canX m = s.canX m) ∧ t.tts = s.tts ∧ t.fresh = s.fresh ∧ quiet noCan (canRegs n) s t

/-- The frame is valid for channel `n`, which takes part on the bus and sends nothing itself. -/
def canTakes (s : State) (n : Nat) (f : CanFrame) : Prop :=
  canListens s n = true ∧ (s.canX n).mode ≠ 3 ∧ (s.canX n).active = none ∧
    (f.fdf = true → f.rtr = false ∧ s.fb F.CAN_CTL_FDE n = true)

/-- No Column has the identity of a frame, and no admission filter accepts it. -/
def stranger (s : State) (n hdr : Nat) : Prop := colOfCan s n hdr = none ∧ afOfCan s n hdr = none

/-- Filter `k` of channel `n` comes before filter `j` (R398). -/
def filterBefore (s : State) (n k j : Nat) : Prop :=
  if 4 ≤ n then k < j
  else (s.fb F.CAN_RXBCFG_HP n k = true ∧ s.fb F.CAN_RXBCFG_HP n j = false) ∨
    (s.fb F.CAN_RXBCFG_HP n k = s.fb F.CAN_RXBCFG_HP n j ∧ k < j)

/-- The 20 words of a received frame: header, info, payload, time stamp (R399, R404). -/
def rxWords (s : State) (f : CanFrame) (k : Nat) : List Word :=
  [word (canHdr f), word (canInfo f k)] ++ payloadWords (canPayload f) 16 ++
    [word (s.tbNow - f.ago), word ((s.tbNow - f.ago) / 2 ^ 32)]

/-- Receive buffer `k` holds the words `ws`. -/
def rxHolds (s : State) (n k : Nat) (ws : List Word) : Prop := ∀ w < 20, s.rd R.CAN_RXB n (32 * k + w) = ws.getD w 0

/-- The state of a channel that its error counters decide (R414; ISO 11898-1). -/
def canEstate (tec rcv : Nat) : Nat := if 255 < tec then 2 else if 127 < tec ∨ 127 < rcv then 1 else 0

end Sys2Proof.Claims

/-- A received frame meets the first accepting filter, lands in its buffer, shadow or queue, and counts in exactly one of three counters. The model's own choices and readings in it: log entries 30, 65, 72. -/
def Obligations.CanFramesAreFilteredAndStored : Prop :=
  ∀ (n : Fin 6) (f : CanFrame) (s : State), canTakes s n f → boardOn s n = false → stranger s n (canHdr f) →
    let hdr := canHdr f
    let ws := fun k => rxWords s f k
    let beads := 1 + (canLen f + 15) / 16
    (∀ k, s.f F.CAN_RXBCFG_FMODE n k = 0 → (canAccepts s n k hdr = true ↔
      ∀ i < 31, (s.rd R.CAN_RXM n k).getLsbD i = true → hdr.testBit i = (s.rd R.CAN_RXF n k).getLsbD i)) ∧
    (∀ k, canFilter s n hdr = some k → k < (if 4 ≤ n.val then 32 else 64) ∧ s.fb F.CAN_RXBCFG_EN n k = true ∧
      canAccepts s n k hdr = true ∧ ∀ j, j < (if 4 ≤ n.val then 32 else 64) → s.fb F.CAN_RXBCFG_EN n j = true →
        canAccepts s n j hdr = true → j = k ∨ filterBefore s n k j) ∧
    goesTo (.canFrameReceived n f) s fun t =>
      let counts := fun (stored ovr filt : Word) => t.rd R.CAN_RXSTORED n = s.rd R.CAN_RXSTORED n + stored ∧
        t.rd R.CAN_RXOVR n = s.rd R.CAN_RXOVR n + ovr ∧ t.rd R.CAN_RXFILT n = s.rd R.CAN_RXFILT n + filt
      let was := s.f F.CAN_ERRC_REC n
      let now := t.f F.CAN_ERRC_REC n
      t.rd R.CAN_RXCNT n = s.rd R.CAN_RXCNT n + 1 ∧ (t.canX n).busy = false ∧
        (canFilter s n hdr = none → counts 0 0 1) ∧
        (∀ k, canFilter s n hdr = some k →
          (n.val < 4 →
            (s.rxLocked n k = false → s.rxFull n k = false → counts 1 0 0) ∧
            (s.rxLocked n k = false → s.rxFull n k = true → counts 0 1 0 ∧ t.fb F.CAN_STAT_OVR_SEEN n = true) ∧
            (s.rxLocked n k = false → rxHolds t n k (ws k) ∧ t.rxFull n k = true ∧
              (2 ≤ s.f F.CAN_RXBCFG_EVT n k → s.domOn 2 = true →
                (t.rd R.FRM_DOORBELL (s.f F.CAN_RXBCFG_ROD n k)).getLsbD (s.f F.CAN_RXBCFG_DB n k) = true)) ∧
            (s.rxLocked n k = true → tabFind (t.canX n).shadows k = some (ws k) ∧
              (∀ w < 20, t.rd R.CAN_RXB n (32 * k + w) = s.rd R.CAN_RXB n (32 * k + w)) ∧
              (tabFind (s.canX n).shadows k = none → counts 1 0 0) ∧
              (tabFind (s.canX n).shadows k ≠ none → counts 0 1 0 ∧ t.fb F.CAN_STAT_OVR_SEEN n = true))) ∧
          (4 ≤ n.val →
            let q := s.f F.CAN_RXBCFG_QSEL n k
            let r := 2 * (n.val - 4) + (q - 1)
            (q = 0 ∨ q = 3 → counts 0 0 1) ∧
            (q = 1 ∨ q = 2 →
              (s.ringOn r = true → (s.ring r).closing = false → beads ≤ s.nat R.CRG_TALLY r →
                counts 1 0 0 ∧ t.rd R.CRG_TALLY r = s.rd R.CRG_TALLY r - word beads ∧
                  t.rd R.CRG_PRODUCED r = s.rd R.CRG_PRODUCED r + word beads) ∧
              (s.ringOn r = false ∨ (s.ring r).closing = true ∨ s.nat R.CRG_TALLY r < beads →
                counts 0 1 0 ∧ t.rd (qlostReg (q - 1)) n = s.rd (qlostReg (q - 1)) n + 1 ∧
                  t.fb F.CAN_STAT_QLOST_SEEN n = true ∧
                  (s.domOn 2 = true → s.ringOn r = false → t.rd R.CRG_LOST r = s.rd R.CRG_LOST r + word beads))))) ∧
        ((s.canX n).mode ≠ 1 → now = was) ∧
        ((s.canX n).mode = 1 → was ≤ 127 → now = was - 1) ∧
        ((s.canX n).mode = 1 → 127 < was → 119 ≤ now ∧ now ≤ 127) ∧
        canOnly (fun a => ∃ r < 16, a = R.FRM_DOORBELL.addr r) n s t

/-- A read of word 0 locks a receive buffer, a read of the release word or a release write frees it, and a waiting shadow moves in with SHADOW set. The model's own choices and readings in it: log entry 166. -/
def Obligations.CanBuffersLockAndRelease : Prop :=
  ∀ (n : Fin 6) (s : State), s.domOn 6 = true →
    let same := fun (t : State) (m : Nat) => t.rxFull n m = s.rxFull n m ∧ t.rxLocked n m = s.rxLocked n m ∧
      tabFind (t.canX n).shadows m = tabFind (s.canX n).shadows m
    let freed := fun (t : State) (k : Nat) => t.rxLocked n k = false ∧ tabFind (t.canX n).shadows k = none ∧
      match tabFind (s.canX n).shadows k with
      | none => t.rxFull n k = false
      | some ws => t.rxFull n k = true ∧ ∀ w < 20, w < ws.length →
          t.rd R.CAN_RXB n (32 * k + w) = if w = 1 then ws.getD 1 0 ||| 0x80#32 else ws.getD w 0
    (n.val < 4 → ∀ k : Fin 64,
      (runsTo (.rxBufferLock n k) s fun t => t.rxLocked n k = true ∧ (∀ m < 64, m ≠ k.val → same t m) ∧
        t.rxFull n k = s.rxFull n k ∧
        quiet noRegs (fun a => a = R.CAN_RXLOCK_LO.addr n ∨ a = R.CAN_RXLOCK_HI.addr n) s t) ∧
      (s.rxLocked n k = false → exec (.rxBufferRelease n k) s = .next s) ∧
      (s.rxLocked n k = true → runsTo (.rxBufferRelease n k) s fun t =>
        freed t k ∧ (∀ m < 64, m ≠ k.val → same t m) ∧
          canOnly (fun a => ∃ r < 16, a = R.FRM_DOORBELL.addr r) n s t) ∧
      (∀ f : CanFrame, Instr.rxBufferLock n k ∈ s.pending ∨ Instr.rxBufferRelease n k ∈ s.pending →
        exec (.canFrameReceived n f) s = .next { s with held := s.held ++ [.canFrame n f] })) ∧
    (n.val < 4 → ∀ (hi : Bool) (v : BitVec 32), runsTo (.rxReleaseWrite n hi v) s fun t =>
      (∀ k < 64, if 32 ≤ k ↔ hi = true then
          (if v.getLsbD (k % 32) then freed t k else same t k) else same t k) ∧
        canOnly (fun a => ∃ r < 16, a = R.FRM_DOORBELL.addr r) n s t) ∧
    (4 ≤ n.val →
      (∀ k : Fin 64, exec (.rxBufferLock n k) s = .next s ∧ exec (.rxBufferRelease n k) s = .next s) ∧
      ∀ (hi : Bool) (v : BitVec 32), runsTo (.rxReleaseWrite n hi v) s fun t =>
        t.can = s.can ∧ quiet noRegs (fun a => a = R.CAN_RXREL_LO.addr n ∨ a = R.CAN_RXREL_HI.addr n) s t)

namespace Sys2Proof.Claims

open Sys2Proof.Machine

/-- What R408 refuses of the request of transmit buffer `k`, on a channel without a board that owns it. -/
def txBad (s : State) (n k : Nat) : Prop :=
  let h := s.txW n k 0
  let w := s.txW n k 1
  s.txSt n k = 1 ∨ s.txSt n k = 2 ∨
    (w.getLsbD 4 = true ∧ (s.fb F.CAN_CTL_FDE n = false ∨ h.getLsbD 30 = true)) ∨
    (w.getLsbD 5 = true ∧ w.getLsbD 4 = false) ∨ (w.getLsbD 8 = true ∧ n < 4) ∨
    h.getLsbD 31 = true ∨ bits w 31 9 ≠ 0 ∨ bits w 7 6 ≠ 0

/-- Transmit buffer `k` waits with its age at its limit (R411). -/
def txOld (s : State) (n k : Nat) : Prop :=
  let lim := bits (s.txW n k 2) 31 16
  s.txSt n k = 1 ∧ lim ≠ 0 ∧ lim ≤ s.txAge n k

end Sys2Proof.Claims

/-- Transmit buffers are requested, chosen in bus order, sent, taken back and given up as stated. The model's own choices and readings in it: log entries 30, 63, 71. -/
def Obligations.CanTransmitBuffers : Prop :=
  ∀ (n : Fin 6) (s : State), s.domOn 6 = true → boardOn s n = false → (s.ttsX n).cell = none →
    let x := s.canX n
    let only := fun (t : State) => canOnly (fun _ => False) n s t
    let cand := fun (k : Nat) => k < 32 ∧ s.txSt n k = 1 ∧ ¬ txOld s n k ∧ s.txTT n k = false
    (∀ v : BitVec 32, runsTo (.canTxreq n v) s fun t =>
      (∀ k < 32, v.getLsbD k = true → ¬ txBad s n k →
        t.txW n k 3 = 1 ∧ tabFind (t.canX n).reqAt k = some s.elapsed) ∧
      (∀ k < 32, v.getLsbD k = false ∨ txBad s n k →
        t.txW n k 3 = s.txW n k 3 ∧ tabFind (t.canX n).reqAt k = tabFind x.reqAt k) ∧
      ((∃ k < 32, v.getLsbD k = true ∧ txBad s n k) → t.fb F.CAN_STAT_REFUSED n = true) ∧
      (∀ k < 32, ∀ w < 20, w ≠ 3 → t.txW n k w = s.txW n k w) ∧
      t.canX n = { x with reqAt := (t.canX n).reqAt } ∧ canQuiet n s t) ∧
    (∀ v : BitVec 32, runsTo (.canTxcancel n v) s fun t =>
      (∀ k < 32, v.getLsbD k = true → (s.txSt n k = 1 → t.txSt n k = 4) ∧
        (s.txSt n k = 2 → s.elapsed < x.commitAt → t.txSt n k = 4 ∧ t.txArb n k = s.txArb n k ∧ (t.canX n).active = none) ∧
        (s.txSt n k = 2 → x.commitAt ≤ s.elapsed → t.txSt n k = 2 ∧ t.txCancelPend n k = true)) ∧
      (∀ k < 32, v.getLsbD k = false ∨ (s.txSt n k ≠ 1 ∧ s.txSt n k ≠ 2) → t.txW n k 3 = s.txW n k 3) ∧ only t) ∧
    (canMayStart s n = true → runsTo (.txStart n) s fun t =>
      (∀ k < 32, txOld s n k → t.txSt n k = 7) ∧
      (∀ k < 32, ¬ txOld s n k → ¬ cand k → t.txW n k 3 = s.txW n k 3) ∧
      ((∀ k, ¬ cand k) → t.can = s.can ∧ t.sent = s.sent) ∧
      (∀ j, cand j → ∃ k, cand k ∧ t.txSt n k = 2 ∧ (t.canX n).active = some k ∧ (t.canX n).busy = true ∧
        (t.canX n).startAt = s.elapsed ∧ (t.canX n).startTb = s.tbNow ∧
        (∀ i, cand i → i ≠ k → t.txSt n i = 1 ∧ lexLt (txKey s n i) (txKey s n k) = false ∧
          (lexLt (txKey s n k) (txKey s n i) = false → k < i)) ∧
        (if x.mode = 1 then ∃ e, t.sent = s.sent ++ [e] ∧ e.port = n.val ∧ e.dest = [canHdr (s.txFrame n k)]
          else t.sent = s.sent)) ∧
      (∀ m, m ≠ n.val → t.canX m = s.canX m) ∧ t.tts = s.tts ∧
      noisy (fun u => noCan { u with sent := [] }) (canRegs n) s t) ∧
    (x.mode = 0 ∨ x.mode = 2 → exec (.txStart n) s = .next s) ∧
    (∀ k : Fin 32, x.active = some k.val →
      (∀ tdcv : Byte, x.mode ≠ 3 → runsTo (.transmitted n tdcv) s fun t =>
        t.txSt n k = 3 ∧ maskBit (t.txW n k 3) 3 = s.txCancelPend n k ∧ t.txCancelPend n k = false ∧
          (t.canX n).active = none ∧ (t.canX n).busy = false ∧
          t.f F.CAN_ERRC_TEC n = s.f F.CAN_ERRC_TEC n - 1 ∧ t.f F.CAN_ERRC_REC n = s.f F.CAN_ERRC_REC n ∧
          ((s.txFrame n k).fdf = true → s.fb F.CAN_TDC_TDCE n = true → t.f F.CAN_TDC_TDCV n = tdcv.toNat) ∧ only t) ∧
      (runsTo (.arbitrationLost n) s fun t =>
        t.txArb n k = min 255 (s.txArb n k + 1) ∧ (t.canX n).active = none ∧ (t.canX n).busy = x.busy ∧
          t.txSt n k = (if bits (s.txW n k 2) 7 0 < min 255 (s.txArb n k + 1) then 6 else 1) ∧
          t.txErr n k = s.txErr n k ∧ only t) ∧
      (∀ (e : CanError) (d : Option Byte), canListens s n = true → runsTo (.busError n e d) s fun t =>
        t.txErr n k = min 255 (s.txErr n k + 1) ∧ (t.canX n).active = none ∧ (t.canX n).busy = false ∧
          t.txSt n k = (if s.txCancelPend n k then 5
            else if bits (s.txW n k 2) 15 8 < min 255 (s.txErr n k + 1) then 6 else 1) ∧
          t.txArb n k = s.txArb n k ∧ only t)) ∧
    (∀ (e : CanError) (d : Option Byte), canListens s n = true → (e = .transmitter → x.active ≠ none) →
      runsTo (.busError n e d) s fun t =>
        let tec := t.f F.CAN_ERRC_TEC n
        let rcv := t.f F.CAN_ERRC_REC n
        (x.mode = 2 → tec = s.f F.CAN_ERRC_TEC n ∧ rcv = s.f F.CAN_ERRC_REC n) ∧
        (x.mode ≠ 2 → tec = min 511 (s.f F.CAN_ERRC_TEC n + (errorCounts e).1) ∧
          rcv = min 511 (s.f F.CAN_ERRC_REC n + (errorCounts e).2) ∧ t.f F.CAN_STAT_ESTATE n = canEstate tec rcv))

namespace Sys2Proof.Claims

open Sys2Proof.Machine

/-- The bit timing of channel `n` is one R390 lets leave OFF, with `fde` the FDE bit. -/
def timingOk (s : State) (n : Nat) (fde : Bool) : Prop :=
  let nseg1 := s.f F.CAN_NBT_NTSEG1 n + 1
  let nseg2 := s.f F.CAN_NBT_NTSEG2 n + 1
  let dseg1 := s.f F.CAN_DBT_DTSEG1 n + 1
  let dseg2 := s.f F.CAN_DBT_DTSEG2 n + 1
  let nominal := 5 * (s.f F.CAN_NBT_NBRP n + 1) * (1 + nseg1 + nseg2)
  let data := 5 * (s.f F.CAN_DBT_DBRP n + 1) * (1 + dseg1 + dseg2)
  1000 ≤ nominal ∧ nominal ≤ 100000 ∧ (fde = true → data ≤ nominal ∧ 125 ≤ data) ∧
    s.f F.CAN_NBT_NSJW n + 1 ≤ nseg2 ∧ s.f F.CAN_DBT_DSJW n + 1 ≤ dseg2 ∧ 2 ≤ nseg1 ∧ 2 ≤ dseg1 ∧
    (fde = true → data < 1000 → s.fb F.CAN_TDC_TDCE n = true)

end Sys2Proof.Claims

/-- MODE changes at once on an idle bus and else with the frame's end; bad timing and bus-off refuse it; recovery is started by software and ends error-active. The model's own choices and readings in it: log entries 63, 156. -/
def Obligations.CanModesAndRecovery : Prop :=
  ∀ (n : Fin 6) (s : State), s.domOn 6 = true →
    let x := s.canX n
    let es := s.f F.CAN_STAT_ESTATE n
    let busy := x.busy || s.fb F.CAN_STAT_MODE_PEND n
    let held := fun (t : State) => t.canX n = x ∧ t.fb F.CAN_STAT_MODE_PEND n = true
    let inForce := fun (t : State) (m : Nat) => (t.canX n).mode = m ∧ t.fb F.CAN_STAT_MODE_PEND n = false ∧
      ((t.canX n).synced = true ↔ x.synced = true ∧ x.mode ≠ 0 ∧ m ≠ 0)
    let refused := fun (t : State) => t.fb F.CAN_STAT_REFUSED n = true ∧ quiet noRegs (fun a => a = R.CAN_STAT.addr n) s t
    (∀ m : BitVec 2,
      let bad := m.toNat ≠ s.f F.CAN_CTL_MODE n ∧ (2 ≤ es ∨ (boardOn s n = true ∧ m ≠ 1) ∨
        (x.mode = 0 ∧ m ≠ 0 ∧ ¬ timingOk s n (s.fb F.CAN_CTL_FDE n)))
      (bad → runsTo (.canModeWrite n m) s refused) ∧
      (¬ bad →
        runsTo (.canModeWrite n m) s fun t =>
          t.f F.CAN_CTL_MODE n = m.toNat ∧ t.fb F.CAN_CTL_FDE n = s.fb F.CAN_CTL_FDE n ∧
            (x.mode ≠ m.toNat → busy = true → held t) ∧
            (x.mode ≠ m.toNat → busy = false →
              if x.synced = true ∧ (x.mode = 1 ∨ x.mode = 2) then held t ∨ inForce t m.toNat else inForce t m.toNat) ∧
            (x.mode = m.toNat → t.canX n = x ∧ t.fb F.CAN_STAT_MODE_PEND n = false) ∧
            (∀ k, k ≠ n.val → t.canX k = s.canX k) ∧
            quiet noCan (fun a => a = R.CAN_CTL.addr n ∨ a = R.CAN_STAT.addr n) s t)) ∧
    (s.fb F.CAN_STAT_MODE_PEND n = true → x.busy = false → runsTo (.modeChangeEffect n) s fun t =>
      (t.canX n).mode = s.f F.CAN_CTL_MODE n ∧ t.fb F.CAN_STAT_MODE_PEND n = false ∧
        (∀ k, k ≠ n.val → t.canX k = s.canX k) ∧ quiet noCan (fun a => a = R.CAN_STAT.addr n) s t) ∧
    (x.mode ≠ 0 → runsTo (.busIntegration n) s fun t =>
      t.canX n = { x with synced := true } ∧ (∀ k, k ≠ n.val → t.canX k = s.canX k) ∧ { t with can := s.can } = s) ∧
    (x.mode = 0 → exec (.busIntegration n) s = .next s) ∧
    (runsTo (.canClrcnt n) s fun t =>
      t.rd R.CAN_RXCNT n = 0 ∧ t.rd R.CAN_RXSTORED n = 0 ∧ t.rd R.CAN_RXOVR n = 0 ∧ t.rd R.CAN_RXFILT n = 0 ∧
        t.rd R.CAN_CTL n = s.rd R.CAN_CTL n ∧ (∀ k, k ≠ n.val → t.canX k = s.canX k) ∧ quiet noCan (canRegs n) s t) ∧
    (es = 2 → runsTo (.canRecover n) s fun t => t.f F.CAN_STAT_ESTATE n = 3 ∧
      quiet noRegs (fun a => a = R.CAN_STAT.addr n ∨ a = R.CAN_RECOVER.addr n) s t) ∧
    (es ≠ 2 → runsTo (.canRecover n) s fun t => t.fb F.CAN_STAT_REFUSED n = true ∧ t.f F.CAN_STAT_ESTATE n = es ∧
      quiet noRegs (fun a => a = R.CAN_STAT.addr n ∨ a = R.CAN_RECOVER.addr n) s t) ∧
    (es = 3 → x.mode = 0 ∨ x.mode = 2 → exec (.recoveryComplete n) s = .next s) ∧
    (es = 3 → x.mode = 1 ∨ x.mode = 3 → runsTo (.recoveryComplete n) s fun t =>
      t.f F.CAN_STAT_ESTATE n = 0 ∧ t.f F.CAN_ERRC_TEC n = 0 ∧ t.f F.CAN_ERRC_REC n = 0 ∧
        (∀ k < 32, (txOld s n k → t.txSt n k = 7) ∧ (¬ txOld s n k → t.txW n k 3 = s.txW n k 3)) ∧
        t.can = s.can ∧ noisy noCan (canRegs n) s t)

namespace Sys2Proof.Claims

open Sys2Proof.Machine

--#
/-! ### Network time and the counting boards -/

/-- The registers of the board of channel 4 + `b`. -/
def ttsRegs (b a : Nat) : Prop := 0x50100000 + 0x4000 * b ≤ a ∧ a < 0x50100000 + 0x4000 * b + 0x4000

/-- The board of channel 4 + `b` and that channel alone change, with what the channel's events leave. -/
def boardOnly (b : Nat) (s t : State) : Prop :=
  (∀ m, m ≠ 4 + b → t.canX m = s.canX m ∧ t.ttsX m = s.ttsX m) ∧
    noisy noCan (fun a => canRegs (4 + b) a ∨ ttsRegs b a) s t

/-- The nominal bit time of channel `n` in ns (R390). -/
def nominalBit (s : State) (n : Nat) : Nat :=
  5 * (s.f F.CAN_NBT_NBRP n + 1) * (1 + (s.f F.CAN_NBT_NTSEG1 n + 1) + (s.f F.CAN_NBT_NTSEG2 n + 1))

/-- The board of channel 4 + `b` may be enabled (R447); a reference message has at most 62 bits, or 87 with an extended
identifier (R445). -/
def boardFit (s : State) (b : Nat) : Prop :=
  let n := 4 + b
  let ncol := s.f F.TTS_CFG_NCOL b
  let start := fun w => s.f F.TTS_START_V b w
  let len := fun w => s.f F.TTS_LEN_V b w
  let txen := s.f F.TTS_CFG_TXEN b
  let refBits := if maskBit (s.rd R.TTS_REFID b) 29 then 87 else 62
  (s.canX n).mode = 1 ∧ 1000 ≤ s.f F.TTS_CYC_CYC_LEN b ∧ s.f F.TTS_CYC_CYC_LEN b ≤ 10000000 ∧
    s.f F.TTS_CYC_NCYC_LOG b ≤ 6 ∧ 1 ≤ ncol ∧ ncol ≤ 32 ∧ 1 ≤ txen ∧
    (∀ w < ncol, len w ≠ 0 ∧ (w ≠ 0 → start (w - 1) + len (w - 1) ≤ start w)) ∧
    (refBits + txen) * nominalBit s n ≤ 100 * start 0 ∧ start (ncol - 1) + len (ncol - 1) ≤ s.f F.TTS_CYC_CYC_LEN b ∧
    (s.fb F.TTS_CTL_ROLE b = true →
      (∀ k ∈ [30, 31], s.txSt n k ≠ 1 ∧ s.txSt n k ≠ 2) ∧
      ∀ y < 2 ^ s.f F.TTS_CYC_NCYC_LOG b, ∀ w < ncol, (ttsCell s n y w).1 = 1 →
        (ttsCell s n y w).2 ≠ 30 ∧ (ttsCell s n y w).2 ≠ 31)

/-- A reference message of rank `r` with cycle count `c`, its Ref_Mark `ago` ns before, opens a cycle of the board. -/
def cycleBegun (s t : State) (b r c ago : Nat) : Prop :=
  let x := t.ttsX (4 + b)
  t.f F.TTS_STAT_CYCLE b = c ∧ t.f F.TTS_STAT_MRANK b = r ∧ x.known = true ∧
    t.rd R.TTS_REFMARK_LO b = word (s.tbNow - ago) ∧ t.rd R.TTS_REFMARK_HI b = word ((s.tbNow - ago) / 2 ^ 32) ∧
    x.markAt = s.elapsed - ago ∧ x.watchAt = s.elapsed - ago ∧ x.seen = true ∧ x.begun = 0 ∧ x.win = none ∧
    x.refDue = none ∧ x.preempted = false ∧
    (¬ ((s.ttsX (4 + b)).known = true ∧ s.f F.TTS_STAT_MRANK b = r) → t.fb F.TTS_STAT_MCHG_SEEN b = true)

/-- The own reference message with cycle count `c` is requested in buffer 30, scheduled for elapsed time `due`. -/
def refRequested (s t : State) (b c due : Nat) : Prop :=
  let n := 4 + b
  let x := t.ttsX n
  t.txW n 30 3 = 1 ∧ t.txW n 30 0 = rankHdr (s.rd R.TTS_REFID b) (s.f F.TTS_CTL_RANK b) ∧ t.txW n 30 1 = 1 ∧
    t.txW n 30 4 = word (c % 64) ∧ x.refDue = some c ∧ x.sched = some due

end Sys2Proof.Claims

/-- Counting boards enable under R447, follow reference messages, send their own as master, and go back to SYNCING when the watch expires. The model's own choices and readings in it: log entries 66, 67, 68. -/
def Obligations.BoardStatesAndReferences : Prop :=
  ∀ (b : Fin 2) (s : State), s.domOn 6 = true →
    let n := 4 + b.val
    let x := s.ttsX n
    let st := s.f F.TTS_STAT_STATE b
    let own := s.f F.TTS_CTL_RANK b
    let cyc := 100 * s.f F.TTS_CYC_CYC_LEN b
    let role := s.fb F.TTS_CTL_ROLE b
    let next := (s.f F.TTS_STAT_CYCLE b + 1) % 2 ^ s.f F.TTS_CYC_NCYC_LOG b
    let waits := s.txSt n 30 = 1 ∨ s.txSt n 30 = 2
    (s.fb F.TTS_CTL_EN b = false → boardFit s b → runsTo (.boardEnable b) s fun t =>
      t.fb F.TTS_CTL_EN b = true ∧ t.f F.TTS_STAT_STATE b = 1 ∧ t.ttsX n = { watchAt := s.elapsed } ∧ boardOnly b s t) ∧
    (s.fb F.TTS_CTL_EN b = false → ¬ boardFit s b → runsTo (.boardEnable b) s fun t =>
      t.fb F.TTS_STAT_REFUSED b = true ∧ quiet noRegs (fun a => a = R.TTS_STAT.addr b) s t) ∧
    (s.fb F.TTS_CTL_EN b = true → runsTo (.boardDisable b) s fun t =>
      t.fb F.TTS_CTL_EN b = false ∧ t.f F.TTS_STAT_STATE b = 0 ∧ t.ttsX n = {} ∧
        (∀ k ∈ [30, 31], role = true → s.txSt n k = 1 → t.txSt n k = 4) ∧ boardOnly b s t) ∧
    (s.fb F.TTS_CTL_EN b = true →
      (∀ (r : BitVec 3) (byte0 : Byte) (ago : Nat), canListens s n = true → (s.canX n).mode ≠ 3 →
        (s.canX n).active = none →
        let c := byte0.toNat % 64
        let ignored := st = 0 ∨ (st = 3 ∧ own ≤ r.toNat)
        let f := boardFrame (s.rd R.TTS_REFID b) r.toNat [byte0] ago
        runsTo (.referenceMessage b r byte0 ago) s fun t =>
          (ignored → t.ttsX n = x ∧ t.f F.TTS_STAT_STATE b = st ∧ t.f F.TTS_STAT_CYCLE b = s.f F.TTS_STAT_CYCLE b) ∧
          (¬ ignored → t.f F.TTS_STAT_STATE b = 2 ∧ cycleBegun s t b r.toNat c ago ∧ (t.ttsX n).sched = none ∧
            (x.seen = true → c ≠ next → t.fb F.TTS_STAT_JUMP_SEEN b = true) ∧
            (128 ≤ byte0.toNat → t.fb F.TTS_STAT_GAP_SEEN b = true) ∧
            (role = true → s.txSt n 30 = 1 → t.txSt n 30 = 4)) ∧
          (stranger s n (canHdr f) → boardOnly b s t)) ∧
      (st = 1 ∨ st = 2 → x.watchAt + cyc + 1000 * s.f F.TTS_CFG_REF_TO b ≤ s.elapsed → runsTo (.watchExpiry b) s fun t =>
        let asked := (s.txSt n 30 = 1 ∧ x.refDue = some 0) ∨ s.txSt n 30 = 2
        t.f F.TTS_STAT_STATE b = 1 ∧ (role = true → ¬ asked → refRequested s t b 0 s.elapsed) ∧
          (role = false ∨ asked → t.ttsX n = x ∧ t.txW n 30 3 = s.txW n 30 3) ∧ boardOnly b s t) ∧
      (∀ d, st = 3 → ¬ waits → x.sched = some d → d + cyc ≤ s.elapsed → runsTo (.referenceRequest b) s fun t =>
        refRequested s t b next (d + cyc) ∧ boardOnly b s t) ∧
      (st = 2 → ¬ waits → role = true → s.fb F.TTS_CTL_PREEMPT b = true → x.preempted = false →
        own < s.f F.TTS_STAT_MRANK b → x.markAt + cyc ≤ s.elapsed → runsTo (.referenceRequest b) s fun t =>
          refRequested s t b next s.elapsed ∧ (t.ttsX n).preempted = true ∧ boardOnly b s t) ∧
      ((s.canX n).active = some 30 → role = true →
        (∀ (c : Nat) (tdcv : Byte), c < 64 → x.refDue = some c → (s.canX n).mode ≠ 3 →
          let ago := s.elapsed - ((s.canX n).startAt + canNsample s n)
          runsTo (.transmitted (Fin.ofNat 6 n) tdcv) s fun t =>
            t.f F.TTS_STAT_STATE b = 3 ∧ cycleBegun s t b own c ago ∧
              (s.f F.CAN_ERRC_TEC n ≤ 256 → (t.ttsX n).sched = x.sched) ∧ t.txSt n 30 = 3 ∧ boardOnly b s t) ∧
        (runsTo (.arbitrationLost (Fin.ofNat 6 n)) s fun t =>
          t.f F.TTS_STAT_STATE b = st ∧ (x.cell = none → t.ttsX n = x) ∧ boardOnly b s t)) ∧
      (∀ e : CanError, canListens s n = true → (s.canX n).mode ≠ 2 → (s.canX n).active = none → e ≠ .transmitter →
        255 < s.f F.CAN_ERRC_TEC n + (errorCounts e).1 → 2 ≤ st → runsTo (.busError (Fin.ofNat 6 n) e none) s fun t =>
          t.f F.TTS_STAT_STATE b = 1 ∧ t.f F.CAN_STAT_ESTATE n = 2 ∧ (t.ttsX n).refDue = none ∧ (t.ttsX n).sched = none ∧
            (role = true → s.txSt n 30 = 1 → t.txSt n 30 = 4) ∧ boardOnly b s t))

namespace Sys2Proof.Claims

open Sys2Proof.Machine

/-- The outcome of cell `j` = 32y + w of the board of channel 4 + `b` (R451). -/
def outcome (s : State) (b j : Nat) : Nat :=
  bits (s.rd R.TTS_OUT b (j / 16)) (2 * (j % 16) + 1) (2 * (j % 16))

end Sys2Proof.Claims

/-- Each window opens on its cell, starts what the cell names, and leaves SENT, FAILED, MISSED or NONE. The model's own choices and readings in it: log entries 66, 67, 69. -/
def Obligations.BoardWindowsAndOutcomes : Prop :=
  ∀ (b : Fin 2) (s : State), s.domOn 6 = true → s.fb F.TTS_CTL_EN b = true →
    let n := 4 + b.val
    let x := s.ttsX n
    let st := s.f F.TTS_STAT_STATE b
    let ncol := s.f F.TTS_CFG_NCOL b
    let y := s.f F.TTS_STAT_CYCLE b
    (x.seen = true → x.win = none → x.begun < ncol →
      let w := x.begun
      let cell := ttsCell s n y w
      let start := x.markAt + 100 * s.f F.TTS_START_V b w
      let fin := start + 100 * s.f F.TTS_LEN_V b w
      let calm := canMayStart s n = true ∧ (∀ k < 32, ¬ txOld s n k) ∧ s.txSt n 30 ≠ 1
      let timely := s.elapsed ≤ start + s.f F.TTS_CFG_TXEN b * nominalBit s n ∧ s.elapsed < fin
      start ≤ s.elapsed → runsTo (.ttsWindowStart b) s fun t =>
        (t.ttsX n).begun = w + 1 ∧
          (∃ v, (t.ttsX n).win = some v ∧ v.col = w ∧ v.kind = cell.1 ∧ v.buf = cell.2 ∧ v.startAt = start ∧ v.endAt = fin) ∧
          (st = 1 → t.can = s.can) ∧
          (2 ≤ st → calm → cell.1 = 0 → t.can = s.can ∧ t.sent = s.sent) ∧
          (2 ≤ st → calm → timely → cell.1 = 1 → s.txSt n cell.2 = 1 → s.txTT n cell.2 = true →
            t.txSt n cell.2 = 2 ∧ (t.canX n).active = some cell.2 ∧ (t.ttsX n).cell = some (32 * y + w) ∧
              ∀ k < 32, k ≠ cell.2 → t.txW n k 3 = s.txW n k 3) ∧
          (st = 3 → calm → timely → cell.1 = 3 → s.txSt n 31 ≠ 2 →
            t.txSt n 31 = 2 ∧ (t.canX n).active = some 31 ∧ (t.ttsX n).cell = some (32 * y + w) ∧
              t.txW n 31 0 = rankHdr (s.rd R.TTS_TMID b) (s.f F.TTS_CTL_RANK b) ∧ t.txW n 31 1 = 8 ∧
              t.txW n 31 4 = s.rd R.TTS_REFMARK_LO b ∧ t.txW n 31 5 = s.rd R.TTS_REFMARK_HI b) ∧
          (∀ m, m ≠ n → t.canX m = s.canX m ∧ t.ttsX m = s.ttsX m) ∧
          noisy (fun u => noCan { u with sent := [] }) (fun a => canRegs n a) s t) ∧
    (∀ w, x.win = some w → w.endAt ≤ s.elapsed →
      let buf := if w.kind = 3 then 31 else w.buf
      let j := 32 * y + w.col
      let missed := w.started = false ∧ s.txSt n buf = 1 ∧
        ((w.kind = 1 ∧ s.txTT n buf = true) ∨ (w.kind = 3 ∧ st = 3))
      runsTo (.ttsWindowEnd b) s fun t =>
        t.ttsX n = { x with win := none } ∧
          (w.started = true → ∀ i, t.rd R.TTS_OUT b i = s.rd R.TTS_OUT b i) ∧
          (missed → outcome t b j = 2 ∧ t.rd R.TTS_MISSED b = s.rd R.TTS_MISSED b + 1 ∧
            t.fb F.TTS_STAT_MISSED_SEEN b = true ∧ (w.kind = 3 → t.txSt n 31 = 4)) ∧
          (w.started = false → ¬ missed → outcome t b j = 0 ∧ t.rd R.TTS_MISSED b = s.rd R.TTS_MISSED b) ∧
          (∀ i, i / 16 ≠ j / 16 → t.rd R.TTS_OUT b (i / 16) = s.rd R.TTS_OUT b (i / 16)) ∧
          t.can = s.can ∧ (∀ m, m ≠ n → t.ttsX m = s.ttsX m) ∧
          noisy noCan (fun a => canRegs n a ∨ a = R.TTS_OUT.addr b (j / 16) ∨ a = R.TTS_MISSED.addr b ∨
            a = R.TTS_STAT.addr b) s t) ∧
    (∀ (k : Fin 30) (j : Nat) (tdcv : Byte), (s.canX n).active = some k.val → (s.canX n).mode ≠ 3 → x.cell = some j →
      runsTo (.transmitted (Fin.ofNat 6 n) tdcv) s fun t => outcome t b j = 1 ∧ (t.ttsX n).cell = none) ∧
    (∀ (k : Fin 32) (j : Nat) (e : CanError), (s.canX n).active = some k.val → canListens s n = true → x.cell = some j →
      runsTo (.busError (Fin.ofNat 6 n) e none) s fun t => outcome t b j = 3 ∧ (t.ttsX n).cell = none)

namespace Sys2Proof.Claims

open Sys2Proof.Machine

--#
/-- A state without the discipline, the registers and the counter of free values. -/
def noTim (s : State) : State := { s with regs := [], tim := {}, fresh := 0 }

/-- The TIM registers. -/
def timRegs (a : Nat) : Prop := 0x10030000 ≤ a ∧ a < 0x10040000

/-- The discipline alone changes, TB_NOW with it where it steps. -/
def timOnly (s t : State) : Prop := quiet (fun u => noTim { u with tbNow := 0, stepAt := none, steps := 0 }) timRegs s t

/-- An accepted sample `o`: rate, f_int, the states of R429 and the registers that show them. -/
def accepted (s t : State) (o rate fint : Rat) : Prop :=
  let hist := (o :: s.tim.hist).take 4
  t.tim.rate = rate ∧ t.tim.fint = fint ∧ t.tim.lastAt = some s.elapsed ∧ t.tim.quietAt = s.elapsed ∧ t.tim.hist = hist ∧
    t.f F.TIM_STAT_STATE = (if (hist.length = 4 ∧ ∀ h ∈ hist, |h| ≤ 1000) ∨ (s.f F.TIM_STAT_STATE = 2 ∧ |o| ≤ 4000)
      then 2 else 1) ∧
    (rate.den = 1 → t.rd R.TIM_RATE = wordI rate.num) ∧ (fint.den = 1 → t.rd R.TIM_FINT = wordI fint.num)

/-- A discipline sample `o` in ns (R429, R430, R433): a near one steers, a far one is discarded until three agree, and
then TB_NOW steps forward or slews at full rate. -/
def sampled (s t : State) (o : Rat) : Prop :=
  let th : Rat := ((1000 * s.f F.TIM_STEPTH_V : Nat) : Rat)
  let slew : Rat := ((1000 * s.f F.TIM_DISC_SLEW_MAX : Nat) : Rat)
  let tc : Rat := ((max 1 (s.f F.TIM_DISC_TC_S) : Nat) : Rat)
  let lim := fun (r : Rat) => max (-slew) (min slew r)
  let far := if s.tim.farSet.all (fun f => decide (|f - o| ≤ th)) then o :: s.tim.farSet else [o]
  let still := t.tbNow = s.tbNow ∧ t.rd R.TIM_STEPS = s.rd R.TIM_STEPS
  (o.den = 1 → t.rd R.TIM_OFS = wordI (max (-(2 ^ 31 - 1)) (min o.num (2 ^ 31 - 1)))) ∧ t.elapsed = s.elapsed ∧
    (|o| ≤ th → t.fb F.TIM_STAT_FAR = false ∧ t.tim.farSet = [] ∧ still ∧ ∀ e, s.tim.lastAt = some e →
      let dt : Rat := ((s.elapsed - e : Nat) : Rat) / 1000000000
      let fint := lim (s.tim.fint + o * dt / (4 * tc * tc))
      accepted s t o (lim (o / tc + fint)) fint) ∧
    (th < |o| → t.fb F.TIM_STAT_FAR_SEEN = true ∧
      (far.length < 3 → t.fb F.TIM_STAT_FAR = true ∧ t.fb F.TIM_STAT_OUTLIER_SEEN = true ∧ still ∧
        t.tim = { s.tim with farSet := far, ptp := t.tim.ptp } ∧ t.f F.TIM_STAT_STATE = s.f F.TIM_STAT_STATE) ∧
      (3 ≤ far.length → 0 < o → s.fb F.TIM_DISC_STEP_EN = true →
        let n := 5 * (o / 5).floor.toNat
        t.tbNow = s.tbNow + n ∧ t.rd R.TIM_STEPS = s.rd R.TIM_STEPS + 1 ∧ t.fb F.TIM_STAT_STEP_SEEN = true ∧
          t.rd R.TIM_LSTEP_LO = word n ∧ t.rd R.TIM_LSTEP_HI = word (n / 2 ^ 32) ∧ t.fb F.TIM_STAT_FAR = false ∧
          t.tim.farSet = [] ∧ accepted s t o s.tim.fint s.tim.fint) ∧
      (3 ≤ far.length → ¬ (0 < o ∧ s.fb F.TIM_DISC_STEP_EN = true) → t.fb F.TIM_STAT_FAR = true ∧
        t.tim.farSet = far ∧ still ∧ accepted s t o (if o < 0 then -slew else slew) s.tim.fint))

end Sys2Proof.Claims

/-- TB_NOW ticks 0, 5 or 10 ns with elapsed time, a LO read latches HI, a SRC write and HOLDOVER follow f_int, and an accepted time mark is a sample. The model's own choices and readings in it: log entries 1, 73, 74, 76, 77. -/
def Obligations.TimeBaseAndItsSources : Prop :=
  ∀ s : State,
    (s.pending = [] → s.held = [] → s.migration = none → s.sto.activate = none → s.sys.powered = true → s.tbNow + 10 < 2 ^ 64 → 
      let owed := s.tim.owed + s.tim.rate / 200000000
      let d := if 5 / 2 ≤ owed then 10 else if owed ≤ -(5 / 2) then 0 else 5
      ∃ t, step s = .next t ∧ t.tim = { s.tim with owed := owed + 5 - d, leap := t.tim.leap } ∧
      t.tbNow = s.tbNow + d ∧ t.elapsed = s.elapsed + d ∧ t.w1cSet = [] ∧
      { t with tbNow := s.tbNow, elapsed := s.elapsed, tim := s.tim, w1cSet := s.w1cSet } = s) ∧
    (s.domOn 0 = true → runsTo .timNowLoRead s fun t => t.rd R.TIM_NOW_HI = word (s.tbNow / 2 ^ 32) ∧
      quiet noRegs (fun a => a = R.TIM_NOW_HI.addr) s t) ∧
    (∀ src : BitVec 2, s.domOn 0 = true →
      runsTo (.timSrcWrite src) s fun t =>
        t.f F.TIM_DISC_SRC = src.toNat ∧ t.f F.TIM_STAT_STATE = (if src = 0 then 0 else 1) ∧
          t.tim.fint = s.tim.fint ∧ t.tim.rate = s.tim.fint ∧ t.tim.hist = [] ∧ t.tim.farSet = [] ∧
          t.tim.quietAt = s.elapsed ∧ t.fb F.TIM_STAT_FAR = false ∧ quiet noTim timRegs s t) ∧
    (s.f F.TIM_DISC_SRC ≠ 0 → s.f F.TIM_STAT_STATE ≠ 3 → s.tim.quietAt + s.f F.TIM_SRCTO_V * 1000000 ≤ s.elapsed →
      runsTo .holdoverExpiry s fun t => t.f F.TIM_STAT_STATE = 3 ∧ t.tim = { s.tim with rate := s.tim.fint } ∧
        quiet noTim timRegs s t) ∧
    (∀ (b : Fin 2) (r : BitVec 3) (tm : BitVec 64) (ago : Nat), s.domOn 6 = true → s.fb F.TTS_CTL_EN b = true →
      canListens s (4 + b.val) = true → (s.canX (4 + b.val)).mode ≠ 3 → (s.canX (4 + b.val)).active = none →
      (s.nat R.TTS_TMID b ^^^ s.nat R.TTS_REFID b) &&& rankMask (s.rd R.TTS_REFID b) ≠ 0 →
      let due := s.f F.TTS_STAT_STATE b = 2 ∧ (s.ttsX (4 + b.val)).seen = true ∧ r.toNat = s.f F.TTS_STAT_MRANK b ∧
        s.f F.TIM_DISC_SRC = 2 + b.val
      let o : Int := (tm.toNat : Int) + s.fi F.TTS_PROP_V b -
        (s.nat R.TTS_REFMARK_LO b + s.nat R.TTS_REFMARK_HI b * 2 ^ 32 : Nat)
      runsTo (.timeMark b r tm ago) s fun t =>
        (due → sampled s t (o : Rat)) ∧
        (¬ due → t.tim = s.tim ∧ t.tbNow = s.tbNow ∧ t.rd R.TIM_STAT = s.rd R.TIM_STAT ∧ t.rd R.TIM_OFS = s.rd R.TIM_OFS) ∧
        t.ttsX (4 + b.val) = s.ttsX (4 + b.val) ∧ t.rd R.TTS_STAT b = s.rd R.TTS_STAT b)

namespace Sys2Proof.Claims

open Sys2Proof.Machine

/-- A PTP message is for the running slave: source, transport and domain (R434). -/
def ptpHears (s : State) (m : PtpMsg) : Prop :=
  s.f F.TIM_DISC_SRC = 1 ∧ s.domOn 1 = true ∧ s.fb F.NETH_CTL_EN = true ∧
    m.transport.toNat = s.f F.TIM_PTP_TRANSPORT ∧ m.domain.toNat = s.f F.TIM_PTP_DOMAIN

/-- Without the PTP slave's own state. -/
def ptpOnly (s t : State) : Prop := { t with tim := { t.tim with ptp := s.tim.ptp } } = s

end Sys2Proof.Claims

/-- The PTP slave pairs the chosen master's Sync times, measures the path delay, and makes each pair with a known delay a sample. The model's own choices and readings in it: log entries 36, 73, 76. -/
def Obligations.PtpSlaveSamples : Prop :=
  ∀ (m : PtpMsg) (s : State), ptpHears s m →
    let p := s.tim.ptp
    let src := m.src.toNat
    let corr : Rat := (m.corr.toInt : Rat) / 65536
    let time : Rat := ((m.sec.toNat * 1000000000 + m.nsec.toNat : Nat) : Rat)
    let t2 : Rat := (((s.tbNow - m.ago) / 5 * 5 : Nat) : Rat) - ((s.f F.TIM_PTPLAT_RX_LAT : Nat) : Rat)
    let inRange := -7 ≤ m.interval.toInt ∧ m.interval.toInt ≤ 4
    let paired := fun (t : State) (t1 t2 : Rat) =>
      t.tim.ptp = { p with wait := none, pair := some (t1, t2) } ∧
        (p.delay = none → ptpOnly s t) ∧ (∀ d, p.delay = some d → sampled s t (t1 - t2 + d) ∧ timOnly s t)
    (∀ d : PtpData, d.steps.toNat < 255 → runsTo (.ptpAnnounce m d) s fun t =>
      (∃ e, e ∈ t.tim.ptp.masters ∧ e.src = src ∧ e.interval = m.interval.toInt ∧ e.lastAt = s.elapsed ∧
        e.rank = [d.prio1.toNat, d.class_.toNat, d.accuracy.toNat, d.variance.toNat, d.prio2.toNat, d.gm.toNat,
          d.steps.toNat, src] ∧
        (∀ k, p.masters.find? (fun k => k.src == src) = some k → e.prevAt = some k.lastAt)) ∧
      (∀ k, k.src ≠ src → (k ∈ t.tim.ptp.masters ↔ k ∈ p.masters)) ∧ t.tim.ptp.barred = p.barred ∧
        (src ∈ p.barred → ptpBest t ≠ some src) ∧ ptpOnly s t) ∧
    (∀ two : Bool, ¬ inRange → runsTo (.ptpSync m two) s fun t =>
      src ∈ t.tim.ptp.barred ∧ (∀ k, k ≠ src → (k ∈ t.tim.ptp.barred ↔ k ∈ p.barred)) ∧ ptpBest t ≠ some src ∧
        t.tim.ptp = { p with barred := t.tim.ptp.barred } ∧ ptpOnly s t) ∧
    (inRange → ptpBest s = some src →
      (runsTo (.ptpSync m true) s fun t =>
        t.tim.ptp = { p with wait := some (m.seq.toNat, src, t2, corr) } ∧ ptpOnly s t) ∧
      (runsTo (.ptpSync m false) s fun t => paired t (time + corr) t2)) ∧
    (∀ r2 c, p.wait = some (m.seq.toNat, src, r2, c) → runsTo (.ptpFollowUp m) s fun t =>
      paired t (time + corr + c) r2) ∧
    ((ptpBest s).isSome = true → p.pair.isSome = true → runsTo .ptpDelayReq s fun t =>
      t.tim.ptp = { p with
          req := some (p.reqSeq, ((s.tbNow / 5 * 5 + s.f F.TIM_PTPLAT_TX_LAT : Nat) : Rat)), reqSeq := (p.reqSeq + 1) % 65536 } ∧
        (∃ e, t.sent = s.sent ++ [e] ∧ e.what = "Delay_Req") ∧ ptpOnly s { t with sent := s.sent }) ∧
    (∀ (t3 t1 r2 : Rat), p.req = some (m.seq.toNat, t3) → p.pair = some (t1, r2) → ptpBest s = some src →
      runsTo (.ptpDelayResp m) s fun t =>
        let d : Rat := ((r2 - t1) + (time - corr - t3)) / 2
        t.tim.ptp = { p with req := none, delay := some d } ∧ (d.den = 1 → t.rd R.TIM_PTPDLY = wordI d.num) ∧
          quiet noTim (fun a => a = R.TIM_PTPDLY.addr) s t)

namespace Sys2Proof.Claims

open Sys2Proof.Machine

--#
/-! ### Columns -/

/-- The registers of Column `n`, its value slots with them. -/
def colRegs (n a : Nat) : Prop :=
  (0x51000000 + 0x40 * n ≤ a ∧ a < 0x51000000 + 0x40 * n + 0x40) ∨
    (0x51008000 + 0x20 * n ≤ a ∧ a < 0x51008000 + 0x20 * n + 0x20)

/-- The registers of the COL unit. -/
def colUnit (a : Nat) : Prop := 0x51000000 ≤ a ∧ a < 0x52000000

/-- A state without the Columns, the registers and the open load. -/
def noCol (s : State) : State := { s with regs := [], col := [], sto := {} }

/-- Column `n` alone changes, with the registers that satisfy `p`, what its event leaves, and its own open load. -/
def colOnly (p : Nat → Prop) (n : Nat) (s t : State) : Prop :=
  (∀ m, m ≠ n → t.colX m = s.colX m) ∧ noisy noCol (fun a => colRegs n a ∨ p a) s t ∧
    ((∀ l, s.sto.load = some l → l.col ≠ n) → t.sto = s.sto)

/-- The four value slots of Column `n` are STALE, their words as they were (R30). -/
def slotsStale (s t : State) (n : Nat) : Prop :=
  ∀ k < 4, t.f F.COL_VFLAG_FLAGS n k = (s.f F.COL_VFLAG_FLAGS n k ||| flStale) ∧ t.rd R.COL_VAL n k = s.rd R.COL_VAL n k

/-- Column `n` leaves ADMITTED, or another state, for `st` with its slots STALE and its own load closed. -/
def colLeaves (s t : State) (n st : Nat) : Prop :=
  t.f F.COL_STATE_STATE n = st ∧ slotsStale s t n ∧ (∀ l, s.sto.load = some l → l.col = n → t.sto.load = none) ∧
    colOnly (fun _ => False) n s t

/-- Column `n` is FREE: its registers read zero. -/
def colFreeNow (t : State) (n : Nat) : Prop :=
  tabFind t.col n = none ∧ t.rd R.COL_STATE n = 0 ∧ t.rd R.COL_HLTH n = 0 ∧ t.rd R.COL_TXBK n = 0 ∧
    t.rd R.COL_RXBK n = 0 ∧ t.rd R.COL_SEQ n = 0 ∧ ∀ k < 4, t.rd R.COL_ADDR n k = 0 ∧ t.rd R.COL_VAL n k = 0

/-- No frame of the key slot waits for its mark, nor needs to (R481). -/
def keyClear (s : State) (key : Nat) : Prop :=
  (∀ g ∈ s.net.outQ, g.key ≠ key) ∧ s.rd64 R.KTX_LO R.KTX_HI key < (s.sto.mark key).ktx

/-- A frame of `type` goes to Column `n` at once (R467, R471, R472, R481): the key slot's replay number and the Column's
TXSEQ advance, and its credit counts as returned; on a port that is up the frame leaves with them and its tag. -/
def colSent (s t : State) (n type : Nat) (payload : List Nat) : Prop :=
  let key := s.f F.COL_STATE_KEYSEL n
  let port := s.f F.COL_STATE_MEDIUM n
  let replay := s.rd64 R.KTX_LO R.KTX_HI key + 1
  let seq := (s.f F.COL_SEQ_TXSEQ n + 1) % 65536
  let m := leBytes 0x4C54 2 ++ [1, type] ++ leBytes payload.length 2 ++ [key, 0] ++ leBytes replay 8 ++ leBytes seq 2 ++
    leBytes (s.f F.COL_RXBK_FREED n) 2 ++ leBytes 0 4 ++ leBytes s.tbNow 8 ++ payload
  (replay < 2 ^ 64 → t.rd64 R.KTX_LO R.KTX_HI key = replay) ∧ t.f F.COL_SEQ_TXSEQ n = seq ∧
    t.f F.COL_RXBK_RETURNED n = s.f F.COL_RXBK_FREED n ∧ (t.colX n).freedAt = none ∧
    (s.portUp port = true → t.sent = s.sent ++ [⟨port, "TARBYLINK", colDest s n, m ++ (hmac (keyBytes s key) m).take 16⟩]) ∧
    (s.portUp port = false → t.sent = s.sent)

end Sys2Proof.Claims

/-- Columns retire on command, fall silent, expire from probation and become free when drained; CLRH, RETURN and the credit timer act on their books. The model's own choices and readings in it: log entries 81, 82, 83, 166. -/
def Obligations.ColumnsLiveAndRetire : Prop :=
  ∀ (n : Fin 256) (s : State), s.domOn 2 = true →
    let x := s.colX n
    let st := s.f F.COL_STATE_STATE n
    let owed := (s.f F.COL_RXBK_FREED n + 65536 - s.f F.COL_RXBK_RETURNED n) % 65536
    let refused := fun (t : State) => t.fb F.COL_GSTAT_REFUSED = true ∧ quiet noRegs (fun a => a = R.COL_GSTAT.addr) s t
    ((st = 1 ∨ st = 2 ∨ st = 3 → goesTo (.colRetire n) s fun t =>
      colLeaves s t n 4 ∧ t.f F.COL_STATE_RCAUSE n = 1 ∧ (t.colX n).retiredAt = s.elapsed) ∧
    (st = 0 ∨ st = 4 → goesTo (.colRetire n) s refused) ∧
    (st ≠ 0 → goesTo (.colClearHealth n) s fun t => t.rd R.COL_HLTH n = 0 ∧
      quiet noRegs (fun a => a = R.COL_HLTH.addr n ∨ a = R.COL_CMD.addr n) s t) ∧
    (st = 0 → goesTo (.colClearHealth n) s refused) ∧
    (∀ count : BitVec 16,
      (st ≠ 0 → x.book = true → count.toNat ≤ owed → goesTo (.colReturn n count) s fun t =>
        t.f F.COL_RXBK_RETURNED n = (s.f F.COL_RXBK_RETURNED n + count.toNat) % 65536 ∧
          t.f F.COL_RXBK_FREED n = s.f F.COL_RXBK_FREED n ∧
          t.colX n = { x with freedAt := if count.toNat = owed then none else x.freedAt } ∧
          (∀ m, m ≠ n.val → t.colX m = s.colX m) ∧
          quiet noCol (fun a => a = R.COL_RXBK.addr n ∨ a = R.COL_CMD.addr n) s t) ∧
      (st = 0 ∨ x.book = false ∨ owed < count.toNat → goesTo (.colReturn n count) s refused))) ∧
    (st = 2 → x.lastAt + x.liveMs * 1000000 ≤ s.elapsed → goesTo (.livenessExpiry n) s fun t =>
      colLeaves s t n 3 ∧ (t.colX n).silentAt = s.elapsed) ∧
    (st = 1 → x.firstAt + s.f F.COL_PROB_V * 1000000 ≤ s.elapsed → goesTo (.probationExpiry n) s fun t =>
      colFreeNow t n ∧ t.rd R.COL_NPROBFAIL = s.rd R.COL_NPROBFAIL + 1 ∧
        colOnly (fun a => a = R.COL_NPROBFAIL.addr) n s t ∧ t.sto = s.sto) ∧
    (st = 4 → x.retiredAt + s.f F.COL_RECL_DRAIN_MS * 1000000 ≤ s.elapsed →
      (x.book = true → x.rcvd % 65536 = s.f F.COL_RXBK_FREED n) → goesTo (.columnFreed n) s fun t =>
        colFreeNow t n ∧ colOnly (fun _ => False) n s t ∧ t.sto = s.sto) ∧
    (∀ e, x.freedAt = some e → st = 2 → 8 ≤ s.f F.COL_STATE_MEDIUM n → owed ≠ 0 →
      (∀ g ∈ s.net.outQ, g.col ≠ some n.val) →
      e + (if s.f F.COL_STATE_MEDIUM n = 8 then s.f F.NETH_CRED_CRED_US
        else s.f F.NETL_CRED_CRED_US (s.f F.COL_STATE_MEDIUM n - 9)) * 1000 ≤ s.elapsed →
      let key := s.f F.COL_STATE_KEYSEL n
      runsTo (.creditTimer n) s fun t =>
        (keyClear s key → colSent s t n 0x21 [] ∧ t.net = s.net) ∧
        (¬ keyClear s key → t.col = s.col ∧ t.sent = s.sent ∧ t.regs = s.regs ∧
          ∃ g, t.net.outQ = s.net.outQ ++ [g] ∧ g.key = key ∧ g.col = some n.val ∧ g.type = 0x21 ∧ g.payload = []))

namespace Sys2Proof.Claims

open Sys2Proof.Machine

/-- What slot `k` of filter `i` extracts from the bytes `d` (R462), if anything. -/
def slotTakes (s : State) (i k : Nat) (d : List Nat) : Prop :=
  let w := s.f F.AF_SLOT_W i k
  let size := if w = 3 then 4 else w
  w ≠ 0 ∧ s.f F.AF_SLOT_OFF i k + size ≤ d.length ∧
    (s.fb F.AF_SLOT_KEYEN i k = true → s.f F.AF_SLOT_KEYOFF i k < d.length ∧
      d.getD (s.f F.AF_SLOT_KEYOFF i k) 0 = s.f F.AF_SLOT_KEYVAL i k)

/-- The value it publishes: sat32(ashr(raw × gain, shift) + offset). -/
def slotValue (s : State) (i k : Nat) (d : List Nat) : Int :=
  let w := s.f F.AF_SLOT_W i k
  let size := if w = 3 then 4 else w
  let off := s.f F.AF_SLOT_OFF i k
  let u := ((List.range size).map fun j =>
    d.getD (off + j) 0 * 256 ^ (if s.fb F.AF_SLOT_BE i k then size - 1 - j else j)).sum
  let raw : Int := if s.fb F.AF_SLOT_SGN i k ∧ 2 ^ (8 * size - 1) ≤ u then (u : Int) - 2 ^ (8 * size) else u
  max (-(2 ^ 31)) (min (2 ^ 31 - 1) (raw * s.fi F.AF_SGAIN_GAIN i k / 2 ^ s.f F.AF_SGAIN_SHIFT i k +
    (s.rd R.AF_SOFS i k).toInt))

/-- The slots of Column `n`, of filter `i`, after a frame with bytes `d` that is used. -/
def slotsTaken (s t : State) (n i : Nat) (d : List Nat) : Prop :=
  ∀ k < 4, (slotTakes s i k d → t.rd R.COL_VAL n k = wordI (slotValue s i k d) ∧ t.f F.COL_VFLAG_FLAGS n k = 0 ∧
      t.ageFrom (0x400 + 4 * n + k) = s.elapsed) ∧
    (¬ slotTakes s i k d → t.rd R.COL_VAL n k = s.rd R.COL_VAL n k ∧ t.ageFrom (0x400 + 4 * n + k) = s.ageFrom (0x400 + 4 * n + k))

end Sys2Proof.Claims

/-- A stored CAN frame belongs to its partner's Column, or takes a FREE one through its filter; sequence, liveness, admission and values follow. The model's own choices and readings in it: log entries 72, 166. -/
def Obligations.ColumnsFollowCanPartners : Prop :=
  ∀ (n : Fin 6) (f : CanFrame) (s : State) (m : Nat), s.domOn 2 = true → n.val < 4 → canTakes s n f →
    canFilter s n (canHdr f) = some m →
    let hdr := canHdr f
    let d := canPayload f
    let others := fun (t : State) (c : Nat) => ∀ b, b ≠ c → t.colX b = s.colX b ∧ t.rd R.COL_STATE b = s.rd R.COL_STATE b
    (∀ c, colOfCan s n hdr = some c → s.f F.COL_STATE_STATE c = 4 → goesTo (.canFrameReceived n f) s fun t =>
      t.col = s.col ∧ ∀ a, colUnit a → tabFind t.regs a = tabFind s.regs a) ∧
    (∀ c, colOfCan s n hdr = some c → s.f F.COL_STATE_STATE c ∈ [1, 2, 3] →
      let x := s.colX c
      let i := s.f F.COL_STATE_FILTER c
      let o := s.f F.AF_ID_SEQOFF i
      let numbered := o ≠ 0xFF ∧ o < d.length
      let seq := d.getD o 0
      let delta := (seq + 256 - s.f F.COL_SEQ_RXSEQ c % 256) % 256
      let dup := numbered ∧ x.seqKnown = true ∧ (delta = 0 ∨ 128 ≤ delta)
      let ts := s.f F.AF_ID_TSOFF i
      let live := s.f F.COL_LIVE_PERIOD_MS c * s.f F.COL_LIVE_LIVE_K c
      let st := s.f F.COL_STATE_STATE c
      let p := s.f F.COL_STATE_PCOUNT c + 1
      goesTo (.canFrameReceived n f) s fun t =>
        (t.colX c).lastAt = s.elapsed ∧ others t c ∧
        (dup → t.f F.COL_HLTH_DUP c = min 255 (s.f F.COL_HLTH_DUP c + 1) ∧ t.rd R.COL_STATE c = s.rd R.COL_STATE c ∧
          t.rd R.COL_SEQ c = s.rd R.COL_SEQ c ∧ (t.colX c).validAt = x.validAt ∧
          ∀ k < 4, t.rd R.COL_VAL c k = s.rd R.COL_VAL c k) ∧
        (¬ dup →
          t.f F.COL_SEQ_RXSEQ c = (if numbered then seq else s.f F.COL_SEQ_RXSEQ c) ∧
            t.f F.COL_HLTH_SEQGAP c = (if numbered ∧ x.seqKnown = true then min 255 (s.f F.COL_HLTH_SEQGAP c + (delta - 1))
              else s.f F.COL_HLTH_SEQGAP c) ∧
            (t.colX c).validAt = s.elapsed ∧ t.f F.COL_STATE_MEDIUM c = n.val ∧
            (t.colX c).liveMs = live ∧
            (ts ≠ 0xFF → ts + 8 ≤ d.length → t.rd R.COL_TOFS c = wordI (max (-(2 ^ 31 - 1)) (min (2 ^ 31 - 1)
              (sext (leAt d ts 8) 64 - ((s.tbNow - f.ago : Nat) : Int))))) ∧
            t.f F.COL_STATE_STATE c = (if st = 1 ∧ p < x.admitN then 1 else 2) ∧
            (st = 1 → t.f F.COL_STATE_PCOUNT c = min 255 p) ∧
            (st = 1 ∧ p < x.admitN → ∀ k < 4, t.rd R.COL_VAL c k = s.rd R.COL_VAL c k) ∧
            (¬ (st = 1 ∧ p < x.admitN) → slotsTaken s t c i d))) ∧
    (∀ k : Fin 256,
      (Instr.canFrameReceived n f ∈ s.pending →
        exec (.livenessExpiry k) s = .next { s with held := s.held ++ [.colExpiry coAdmitted k] }) ∧
      (∀ op ∈ [Instr.colRetire k, .colClearHealth k], op ∈ s.pending →
        exec (.canFrameReceived n f) s = .next { s with held := s.held ++ [.canFrame n f] })) ∧
    (∀ i, colOfCan s n hdr = none → afOfCan s n hdr = some i →
      (∀ c < 256, s.f F.COL_STATE_STATE c = 0 → (∀ b < c, s.f F.COL_STATE_STATE b ≠ 0) →
        goesTo (.canFrameReceived n f) s fun t =>
          t.f F.COL_STATE_STATE c = (if s.f F.AF_LIVE_ADMIT_N i ≤ 1 then 2 else 1) ∧ t.f F.COL_STATE_FILTER c = i ∧
            t.f F.COL_STATE_MEDIUM c = n.val ∧ t.f F.COL_STATE_PCOUNT c = 1 ∧
            t.rd R.COL_ADDR c 0 = word (hdr / 2 ^ s.f F.AF_ID_ASH i % 2 ^ s.f F.AF_ID_AW i) ∧
            t.rd R.COL_LIVE c = word (s.f F.AF_LIVE_PERIOD_MS i + s.f F.AF_LIVE_LIVE_K i * 65536) ∧
            t.f F.COL_TX_TX_LIMIT c = s.f F.AF_LIM_TX_LIMIT i ∧ t.f F.COL_RX_RX_LIMIT c = s.f F.AF_LIM_RX_LIMIT i ∧
            (t.colX c).chmask = s.f F.AF_CTL_CHMASK i ∧ (t.colX c).book = s.fb F.AF_CTL_CREDIT i ∧
            (t.colX c).firstAt = s.elapsed ∧ (t.colX c).validAt = s.elapsed ∧ others t c ∧
            (1 < s.f F.AF_LIVE_ADMIT_N i → ∀ k < 4, t.f F.COL_VFLAG_FLAGS c k = flStale)) ∧
      ((∀ c < 256, s.f F.COL_STATE_STATE c ≠ 0) →
        let old := fun (c : Nat) => c < 256 ∧ s.f F.COL_STATE_STATE c = 3 ∧
          (s.colX c).silentAt + s.f F.COL_RECL_COL_RECLAIM * 1000000000 < s.elapsed
        (∀ c, old c → (∀ b, old b → b ≠ c → (s.colX c).silentAt < (s.colX b).silentAt ∨
            ((s.colX c).silentAt = (s.colX b).silentAt ∧ c < b)) → goesTo (.canFrameReceived n f) s fun t =>
          t.f F.COL_STATE_STATE c = 4 ∧ t.f F.COL_STATE_RCAUSE c = 2 ∧ slotsStale s t c ∧
            t.rd R.COL_NWAITED = s.rd R.COL_NWAITED + 1 ∧ t.rd R.COL_NREFUSED = s.rd R.COL_NREFUSED ∧ others t c) ∧
        ((∀ c, ¬ old c) → goesTo (.canFrameReceived n f) s fun t =>
          t.rd R.COL_NREFUSED = s.rd R.COL_NREFUSED + 1 ∧ t.fb F.COL_GSTAT_FULL_SEEN = true ∧ t.col = s.col ∧
            t.rd R.COL_NWAITED = s.rd R.COL_NWAITED ∧ ∀ b < 256, t.rd R.COL_STATE b = s.rd R.COL_STATE b)))

namespace Sys2Proof.Claims

open Sys2Proof.Machine

--#
/-! ### Tarbylink -/

/-- A message to the controller with its type (R473). -/
def tlMessageOf (f : TlFrame) (m : Instr × Nat) : Prop :=
  m ∈ [(Instr.hello f, 0x01), (.bye f, 0x03), (.regRead f, 0x10), (.regWrite f, 0x12), (.ringData f, 0x20),
    (.credit f, 0x21), (.loadBegin f, 0x30), (.loadData f, 0x31), (.loadCommit f, 0x32), (.values f, 0x40),
    (.statusQ f, 0x50), (.wake f, 0x52)]

/-- A port takes the frames of a source: its VLAN tag and its IP version (R470, R493). -/
def portTakes (s : State) (p : Nat) (src : NetSrc) : Prop :=
  (s.netF p F.NETH_CTL_VLANEN F.NETL_CTL_VLANEN = 0 ∨
    src.vlan.map BitVec.toNat = some (s.netF p F.NETH_CTL_VID F.NETL_CTL_VID)) ∧
    (src.v6 = true ∨ s.netF p F.NETH_IP4PFX_V F.NETL_IP4PFX_V ≠ 0)

/-- Checks 1 to 3 of R482. -/
def tlGood (s : State) (type : Nat) (f : TlFrame) : Prop :=
  (f.magic = 0x4C54 ∧ f.version = 1 ∧ f.len.toNat ≤ 1088 ∧ f.len.toNat = f.payload.length ∧ f.keysel.toNat < 8 ∧
    f.zero1 = 0 ∧ f.zero2 = 0 ∧ f.tag.length = 16) ∧ tlPortOk s f = true ∧ tlTagOk s type f = true

/-- The registers that a frame to port `p` under key slot `k` counts in. -/
def rxRegs (p k a : Nat) : Prop :=
  a = (if p = 8 then R.NETH_RXFRM.addr else R.NETL_RXFRM.addr (p - 9)) ∨ a = R.KRXHW_LO.addr k ∨ a = R.KRXHW_HI.addr k

/-- What R537 puts before the frames of a step has had its effect. -/
def noneAhead (s : State) : Prop := critsAhead s = s

/-- A frame of `type` passes R482 and is handled at once. -/
def heard (s : State) (type : Nat) (f : TlFrame) : Prop :=
  noneAhead s ∧ s.portUp (portCode f.port) = true ∧ portTakes s (portCode f.port) f.src ∧ tlGood s type f ∧
    (∀ q ∈ s.net.inQ, tlKey q.frame ≠ tlKey f) ∧ f.replay.toNat ≤ (s.sto.mark (tlKey f)).krxhw ∧
    s.rd64 R.KRXHW_LO R.KRXHW_HI (tlKey f) < f.replay.toNat

end Sys2Proof.Claims

/-- A Tarbylink frame that fails a check of R482 is counted and never answered; one that passes sets the replay mark and restarts the host timer. The model's own choices and readings in it: log entries 81, 85, 159, 166. -/
def Obligations.LinkFramesAreAuthenticated : Prop :=
  ∀ (f : TlFrame) (s : State) (m : Instr × Nat), tlMessageOf f m → noneAhead s →
    let p := portCode f.port
    let k := tlKey f
    let up := s.portUp p = true
    let counted := fun (t : State) => t.netRd p R.NETH_RXFRM R.NETL_RXFRM = s.netRd p R.NETH_RXFRM R.NETL_RXFRM + 1
    let waits := (∃ q ∈ s.net.inQ, tlKey q.frame = k)
    let mark := (s.sto.mark k).krxhw
    let old := s.rd64 R.KRXHW_LO R.KRXHW_HI k
    let failed := fun (t : State) => counted t ∧
      t.netRd p R.NETH_AUTHFAIL R.NETL_AUTHFAIL = s.netRd p R.NETH_AUTHFAIL R.NETL_AUTHFAIL + 1 ∧
      (∀ c, colOfTl s f = some c → t.f F.COL_HLTH_AUTHFAIL c = min 255 (s.f F.COL_HLTH_AUTHFAIL c + 1)) ∧
      noisy id (fun a => rxRegs p k a ∨ a = (if p = 8 then R.NETH_AUTHFAIL.addr else R.NETL_AUTHFAIL.addr (p - 9)) ∨
        ∃ c, colOfTl s f = some c ∧ a = R.COL_HLTH.addr c) s t ∧ t.rd64 R.KRXHW_LO R.KRXHW_HI k = old
    (s.portUp p = false → goesTo m.1 s (· = s)) ∧
    (up → ¬ portTakes s p f.src → goesTo m.1 s fun t => counted t ∧
      t.netRd p R.NETH_RXDROP R.NETL_RXDROP = s.netRd p R.NETH_RXDROP R.NETL_RXDROP + 1 ∧
      quiet noRegs (fun a => rxRegs p k a ∨ a = if p = 8 then R.NETH_RXDROP.addr else R.NETL_RXDROP.addr (p - 9)) s t) ∧
    (up → portTakes s p f.src → ¬ tlGood s m.2 f → goesTo m.1 s failed) ∧
    (up → portTakes s p f.src → tlGood s m.2 f → ¬ waits → f.replay.toNat ≤ old → goesTo m.1 s failed) ∧
    (up → portTakes s p f.src → tlGood s m.2 f → waits ∨ (mark < f.replay.toNat ∧ old < f.replay.toNat) →
      goesTo m.1 s fun t => counted t ∧ t.net = { s.net with inQ := s.net.inQ ++ [⟨m.2, s.tbNow, f⟩] } ∧
        quiet (fun u => { u with regs := [], net := {} }) (rxRegs p k) s t) ∧
    (heard s m.2 f → m.2 ≠ 0x12 → m.2 ≠ 0x52 → goesTo m.1 s fun t => counted t ∧
      t.rd64 R.KRXHW_LO R.KRXHW_HI k = f.replay.toNat ∧ t.sys.hostAt = s.elapsed) ∧
    (∀ tb, s.net.inQ = [⟨m.2, tb, f⟩] → mark < f.replay.toNat → f.replay.toNat ≤ mark + 65536 → old < f.replay.toNat →
      m.2 ≠ 0x12 → m.2 ≠ 0x52 → runsTo (.replayMarkWritten (Fin.ofNat 8 k) false) s fun t =>
        t.net.inQ = [] ∧ t.net.rxTb = tb ∧ (t.sto.mark k).krxhw = mark + 65536 ∧
          t.rd64 R.KRXHW_LO R.KRXHW_HI k = f.replay.toNat ∧ t.sys.hostAt = s.elapsed) ∧
    (s.net.inQ = [] → exec (.replayMarkWritten (Fin.ofNat 8 k) false) s = .next s) ∧
    (∀ (c ty : Nat) (d : List Nat), c < 256 → s.f F.COL_STATE_STATE c ≠ 0 → s.f F.COL_STATE_KEYSEL c = k →
      s.net.outQ = [colFrame s c ty d] → (s.sto.mark k).ktx = s.rd64 R.KTX_LO R.KTX_HI k →
      runsTo (.replayMarkWritten (Fin.ofNat 8 k) true) s fun t =>
        t.net.outQ = [] ∧ (t.sto.mark k).ktx = (s.sto.mark k).ktx + 65536 ∧ colSent s t c ty d)

namespace Sys2Proof.Claims

open Sys2Proof.Machine

/-- The state `u` in which a frame of ADMITTED Column `c` has been taken: handled under R482, ahead in sequence, its
liveness, credit and time offset in the Column (R461 to R463, R468, R471). -/
def took (s u : State) (c : Nat) (f : TlFrame) : Prop :=
  let x := s.colX c
  let k := tlKey f
  let delta := (f.seq.toNat + 65536 - s.f F.COL_SEQ_RXSEQ c) % 65536
  let out := (s.f F.COL_TXBK_SENT c + 65536 - s.f F.COL_TXBK_CRED c) % 65536
  let back := (f.credit.toNat + 65536 - s.f F.COL_TXBK_CRED c) % 65536
  u.rd64 R.KRXHW_LO R.KRXHW_HI k = f.replay.toNat ∧ u.sys = { s.sys with hostAt := s.elapsed } ∧
    u.net = { s.net with rxTb := s.tbNow } ∧
    u.colX c = { x with
      mac := f.src.mac.toNat, vlan := f.src.vlan.map BitVec.toNat, lastAt := s.elapsed, validAt := s.elapsed,
      liveMs := s.f F.COL_LIVE_PERIOD_MS c * s.f F.COL_LIVE_LIVE_K c } ∧
    (∀ b, b ≠ c → u.colX b = s.colX b) ∧ u.rd R.COL_STATE c = s.rd R.COL_STATE c ∧
    u.f F.COL_SEQ_RXSEQ c = f.seq.toNat ∧ u.f F.COL_HLTH_SEQGAP c = min 255 (s.f F.COL_HLTH_SEQGAP c + (delta - 1)) ∧
    u.f F.COL_SEQ_TXSEQ c = s.f F.COL_SEQ_TXSEQ c ∧ u.rd R.COL_RXBK c = s.rd R.COL_RXBK c ∧
    u.f F.COL_TXBK_SENT c = s.f F.COL_TXBK_SENT c ∧
    (back ≤ out → u.f F.COL_TXBK_CRED c = f.credit.toNat ∧ u.f F.COL_HLTH_CREDVIOL c = s.f F.COL_HLTH_CREDVIOL c) ∧
    (out < back → u.f F.COL_TXBK_CRED c = s.f F.COL_TXBK_CRED c ∧
      u.f F.COL_HLTH_CREDVIOL c = min 255 (s.f F.COL_HLTH_CREDVIOL c + 1)) ∧
    (if f.tstamp = 0 then u.rd R.COL_TOFS c = s.rd R.COL_TOFS c
      else u.rd R.COL_TOFS c = wordI (max (-(2 ^ 31 - 1)) (min (2 ^ 31 - 1) (f.tstamp.toInt - s.tbNow)))) ∧
    noisy (fun v => { v with regs := [], col := [], net := {}, sys := {} })
      (fun a => rxRegs (portCode f.port) k a ∨ (0x51000000 + 0x40 * c ≤ a ∧ a < 0x51000000 + 0x40 * c + 0x40)) s u

/-- A frame of `type` that is handled at once belongs to ADMITTED Column `c` and is ahead in sequence, outside Dormant. -/
def fromColumn (s : State) (type : Nat) (f : TlFrame) (c : Nat) : Prop :=
  heard s type f ∧ s.mode ≠ 7 ∧ colOfTl s f = some c ∧ s.f F.COL_STATE_STATE c = 2 ∧ (s.colX c).seqKnown = true ∧
    0 < (f.seq.toNat + 65536 - s.f F.COL_SEQ_RXSEQ c) % 65536 ∧
    (f.seq.toNat + 65536 - s.f F.COL_SEQ_RXSEQ c) % 65536 < 32768

/-- The registers of ring `n` and what else a record for Column `c` changes. -/
def recordOnly (n c : Nat) (u t : State) : Prop :=
  (∀ b, b ≠ c → t.colX b = u.colX b) ∧ (∀ q, q ≠ n → t.ring q = u.ring q) ∧
    { t with regs := u.regs, rings := u.rings, frame := u.frame, beadErr := u.beadErr, col := u.col } = u ∧
    RegsBut (fun a => ringRegs n a) u t

end Sys2Proof.Claims

/-- CREDIT, VALUES, RING_DATA, BYE, STATUS_Q and HELLO of a Column do what R473 says, and a HELLO of a newcomer takes a Column. The model's own choices and readings in it: log entries 88, 89, 90, 106, 166. -/
def Obligations.LinkMessagesOfColumns : Prop :=
  ∀ (f : TlFrame) (s : State),
    let p := portCode f.port
    let k := tlKey f
    let d := natBytes f.payload
    let len := f.payload.length
    (∀ c, fromColumn s 0x21 f c → len = 0 → goesTo (.credit f) s fun t => took s t c f) ∧
    (∀ c, fromColumn s 0x40 f c → 8 ≤ len → len ≤ 32 → len % 8 = 0 → goesTo (.values f) s fun t => ∃ u, took s u c f ∧
      (∀ i < len / 8, d.getD (8 * i) 0 < 4 → (∀ j, i < j → j < len / 8 → d.getD (8 * j) 0 ≠ d.getD (8 * i) 0) →
        let slot := d.getD (8 * i) 0
        t.rd R.COL_VAL c slot = word (leAt d (8 * i + 4) 4) ∧
          t.f F.COL_VFLAG_FLAGS c slot = d.getD (8 * i + 1) 0 % 4 ∧ t.ageFrom (0x400 + 4 * c + slot) = s.elapsed) ∧
      (∀ slot < 4, (∀ i < len / 8, d.getD (8 * i) 0 ≠ slot) → t.rd R.COL_VAL c slot = s.rd R.COL_VAL c slot ∧
        t.rd R.COL_VFLAG c slot = s.rd R.COL_VFLAG c slot) ∧
      quiet (fun v => { v with regs := [], ageBase := [], pubs := [] })
        (fun a => 0x51008000 + 0x20 * c ≤ a ∧ a < 0x51008000 + 0x20 * c + 0x20) u t) ∧
    (∀ c, fromColumn s 0x20 f c → 16 ≤ len → len ≤ 1024 → len % 16 = 0 →
      let n := 1 + len / 16
      let r := rxRing p
      let within := n + ((s.colX c).rcvd + 65536 - s.f F.COL_RXBK_RETURNED c) % 65536 ≤ s.f F.COL_RX_RX_LIMIT c
      let dropped := fun (u t : State) => t.netRd p R.NETH_RXDROP R.NETL_RXDROP = u.netRd p R.NETH_RXDROP R.NETL_RXDROP + 1 ∧
        (t.colX c).rcvd = (s.colX c).rcvd ∧ ∀ a, ringRegs r a → tabFind t.regs a = tabFind u.regs a
      goesTo (.ringData f) s fun t =>
        (tlMay s f 2 = true → within → s.ringOn r = true → (s.ring r).closing = false → n ≤ s.nat R.CRG_TALLY r →
          ∃ u, took s u c f ∧ recordOnly r c u t ∧ (t.colX c).rcvd = ((s.colX c).rcvd + n) % 65536 ∧
            t.rd R.CRG_TALLY r = u.rd R.CRG_TALLY r - word n ∧ t.rd R.CRG_PRODUCED r = u.rd R.CRG_PRODUCED r + word n) ∧
        (tlMay s f 2 = true → ¬ within → ∃ u, took s u c f ∧ dropped u t ∧
          t.f F.COL_HLTH_CREDVIOL c = min 255 (u.f F.COL_HLTH_CREDVIOL c + 1)) ∧
        (tlMay s f 2 = false → ∃ u, took s u c f ∧ dropped u t)) ∧
    (∀ c, fromColumn s 0x03 f c → len = 0 → goesTo (.bye f) s fun t => ∃ u, took s u c f ∧
      colLeaves u t c 4 ∧ t.f F.COL_STATE_RCAUSE c = 1) ∧
    (∀ c, fromColumn s 0x50 f c → len = 4 → tlMay s f 4 = true → keyClear s k → goesTo (.statusQ f) s fun t =>
      ∃ u, took s u c f ∧ colSent u t c 0x51 (d ++ leBytes (s.rd R.SYS_MODE).toNat 4 ++
        leBytes (sysPeek s .SYS_CONFIG 0).toNat 4 ++ leBytes s.tbNow 8)) ∧
    (∀ c, fromColumn s 0x01 f c → len = 0 → s.domOn 2 = true → keyClear s k →
      (∀ b < 256, b ≠ c → s.f F.COL_STATE_KEYSEL b = k → s.f F.COL_STATE_MEDIUM b < 8) → goesTo (.hello f) s fun t =>
        ∃ u, took s u c f ∧ colSent u t c 0x02 (leBytes c 4 ++ leBytes (sysPeek s .SYS_CONFIG 0).toNat 4)) ∧
    (∀ c i, heard s 0x01 f → s.mode ≠ 7 → len = 0 → s.domOn 2 = true → colOfTl s f = none → afOfTl s f = some i → c < 256 →
      s.f F.COL_STATE_STATE c = 0 → (∀ b < c, s.f F.COL_STATE_STATE b ≠ 0) →
      let fits := rxLimits s p + s.f F.AF_LIM_RX_LIMIT i ≤ s.ringSize (rxRing p)
      goesTo (.hello f) s fun t =>
        (∀ b < 256, 8 ≤ s.f F.COL_STATE_MEDIUM b → s.f F.COL_STATE_KEYSEL b = k → s.f F.COL_STATE_STATE b ∈ [1, 2, 3] →
          t.f F.COL_STATE_STATE b = 4 ∧ t.f F.COL_STATE_RCAUSE b = 3) ∧
        (fits → t.f F.COL_STATE_STATE c = (if s.f F.AF_LIVE_ADMIT_N i ≤ 1 then 2 else 1) ∧ t.f F.COL_STATE_FILTER c = i ∧
          t.f F.COL_STATE_MEDIUM c = p ∧ t.f F.COL_STATE_KEYSEL c = k ∧ t.fb F.COL_STATE_IPV6 c = f.src.v6 ∧
          t.f F.COL_PORT_V c = f.src.udp.toNat ∧ t.rd R.COL_ADDR c 0 = word f.src.ip.toNat ∧
          t.f F.COL_SEQ_RXSEQ c = f.seq.toNat ∧ (t.colX c).mac = f.src.mac.toNat ∧ (t.colX c).book = true) ∧
        (¬ fits → t.rd R.COL_NOSPACE = s.rd R.COL_NOSPACE + 1 ∧ t.f F.COL_STATE_STATE c = 0))

namespace Sys2Proof.Claims

open Sys2Proof.Machine

--#
/-- Reads of the host, in order: the bytes of the response, and the state after them (R474). -/
def readEach : List Nat → State → List Nat × State
  | [], u => ([], u)
  | a :: as, u =>
    let (v, st, u) := hostRead u a
    let (out, u) := readEach as u
    (leBytes v 4 ++ leBytes st 4 ++ out, u)

/-- Writes of the host, in order, each applied before the next, as long as its Column stands (R475). -/
def writeEach (c : Nat) : List (Nat × Word) → State → List Nat × State
  | [], u => ([], u)
  | p :: ps, u =>
    if u.colSt c = 0 then ([], u)
    else
      let (st, u) := hostWrite u p.1 p.2
      let (out, u) := writeEach c ps u
      (leBytes st 4 ++ out, u)

/-- The addresses of a REG_READ and the pairs of a REG_WRITE (R473). -/
def readAddrs (d : List Nat) : List Nat := (List.range (d.length / 4 - 1)).map fun i => payWord d (i + 1)
/-- The pairs of a REG_WRITE. -/
def writePairs (d : List Nat) : List (Nat × Word) :=
  (List.range ((d.length - 4) / 8)).map fun i => (payWord d (2 * i + 1), word (payWord d (2 * i + 2)))

/-- LOAD_RSP with request `id` and a status goes to Column `c`. -/
def loadReplied (u t : State) (c id st : Nat) : Prop := colSent u t c 0x33 (leBytes id 4 ++ leBytes st 4)

end Sys2Proof.Claims

/-- REG_READ and REG_WRITE answer every entry with the status of R474, and LOAD messages open, fill, check and commit one load. The model's own choices and readings in it: log entries 80, 166. -/
def Obligations.LinkAccessesAndLoads : Prop :=
  (∀ (u : State) (a : Nat),
    let frame := a % 4 = 0 ∧ a < 0x800000 ∧ u.inRing a 4 = false
    let regs := a % 4 = 0 ∧ 0x10000000 ≤ a ∧ a < 0x70000000 ∧ ¬ (0x1100F000 ≤ a ∧ a < 0x1100F100)
    (¬ frame → ¬ regs → hostRead u a = (0, 1, u) ∧ ∀ v, hostWrite u a v = (1, u)) ∧
    (regs → hostRead u a = ((readAddr a u).1.toNat, 0, (readAddr a u).2) ∧
      ∀ v, hostWrite u a v = (0, writeAddr .host a v u)) ∧
    (frame → tabFind u.beadErr (a / 16) = none → hostRead u a = (cellsRead u.frame a 4, 0, u) ∧
      ∀ v, hostWrite u a v = (0, { u with frame := cellsWrite u.frame a 4 v.toNat })) ∧
    (frame → tabFind u.beadErr (a / 16) = some .poisoned → (hostRead u a).1 = 0 ∧ (hostRead u a).2.1 = 2 ∧
      ∀ v, (hostWrite u a v).1 = 2)) ∧
  ∀ (f : TlFrame) (s : State) (c : Nat), keyClear s (tlKey f) →
    let d := natBytes f.payload
    let len := f.payload.length
    let id := payWord d 0
    (fromColumn s 0x10 f c → 8 ≤ len → len ≤ 516 → len % 4 = 0 → goesTo (.regRead f) s fun t => ∃ u, took s u c f ∧
      (tlMay s f 0 = true → ∃ v, v = readEach (readAddrs d) u ∧ colSent v.2 t c 0x11 (d.take 4 ++ v.1)) ∧
      (tlMay s f 0 = false → colSent u t c 0x11 (d.take 4 ++ (readAddrs d).flatMap fun _ => [0, 0, 0, 0, 4, 0, 0, 0]))) ∧
    (fromColumn s 0x12 f c → 12 ≤ len → len ≤ 516 → len % 8 = 4 → goesTo (.regWrite f) s fun t => ∃ u, took s u c f ∧
      (tlMay s f 1 = true → ∃ v, v = writeEach c (writePairs d) u ∧
        (v.2.colSt c ≠ 0 → keyClear v.2 (v.2.f F.COL_STATE_KEYSEL c) → colSent v.2 t c 0x13 (d.take 4 ++ v.1))) ∧
      (tlMay s f 1 = false → colSent u t c 0x13 (d.take 4 ++ (writePairs d).flatMap fun _ => [4, 0, 0, 0]))) ∧
    (∀ m ∈ [(Instr.loadBegin f, 0x30), (.loadData f, 0x31), (.loadCommit f, 0x32)], fromColumn s m.2 f c →
      tlLenOk m.2 len = true → tlMay s f 3 = false → goesTo m.1 s fun t => ∃ u, took s u c f ∧
        loadReplied u t c id 2 ∧ t.sto = s.sto) ∧
    (∀ m ∈ [(Instr.loadData f, 0x31), (.loadCommit f, 0x32)], fromColumn s m.2 f c → tlLenOk m.2 len = true →
      tlMay s f 3 = true → s.sto.commit ≠ none ∨ (∀ l, s.sto.load = some l → l.col ≠ c) →
      goesTo m.1 s fun t => ∃ u, took s u c f ∧ t.sto = s.sto ∧
        loadReplied u t c id (if s.sto.commit = none ∧ s.sto.load = none then 6 else 1)) ∧
    (tlMay s f 3 = true → fromColumn s 0x30 f c → len = 8 →
      let size := payWord d 1
      let busy := (∃ l, s.sto.load = some l ∧ l.col ≠ c) ∨ s.sto.commit ≠ none
      goesTo (.loadBegin f) s fun t => ∃ u, took s u c f ∧
        (busy → loadReplied u t c id 1 ∧ t.sto = s.sto) ∧
        (¬ busy → 0x400000 < size → loadReplied u t c id 3 ∧ t.sto.load = none) ∧
        (¬ busy → size ≤ 0x400000 → loadReplied u t c id 0 ∧ t.sto.load = some ⟨c, size⟩ ∧ t.fb F.STO_STAT_LOADOPEN = true)) ∧
    (tlMay s f 3 = true → fromColumn s 0x31 f c → 24 ≤ len → len ≤ 1032 → ∀ l, s.sto.load = some l → l.col = c →
      let off := payWord d 1
      let bytes := f.payload.drop 8
      s.sto.commit = none → goesTo (.loadData f) s fun t => ∃ u, took s u c f ∧
        (l.size < off + (len - 8) → loadReplied u t c id 3 ∧ t.sto.load = none) ∧
        (off + (len - 8) ≤ l.size → (len - 8) % 16 = 0 ∨ off + (len - 8) = l.size →
          Memory.wf (s.sto.bank s.sto.targetB).cells = true →
          loadReplied u t c id 0 ∧ t.sto.load = some l ∧ t.fb F.STO_STAT_OPEN = true ∧
            (∀ a, cellsGet (t.sto.bank s.sto.targetB).cells a =
              if off ≤ a ∧ a < off + (len - 8) then bytes.getD (a - off) 0
              else cellsGet (s.sto.bank s.sto.targetB).cells a) ∧
            t.sto.bank (!s.sto.targetB) = s.sto.bank (!s.sto.targetB))) ∧
    (tlMay s f 3 = true → fromColumn s 0x32 f c → len = 8 → ∀ l, s.sto.load = some l → l.col = c →
      let image := (s.sto.bank s.sto.targetB).cells.filter fun x => decide (x.1 < 0x400000)
      s.sto.commit = none → goesTo (.loadCommit f) s fun t => ∃ u, took s u c f ∧ t.sto.load = none ∧ t.fb F.STO_STAT_LOADOPEN = false ∧
        (imageOk image (some l.size) = true → t.fb F.STO_STAT_BUSY = true ∧ t.sent = u.sent ∧
          ∃ x, t.sto.commit = some x ∧ x.key = false ∧ x.bankB = s.sto.targetB ∧ x.start = s.elapsed ∧
            x.load = some ⟨c, id, payWord d 1 % 2 == 1⟩) ∧
        (imageOk image (some l.size) = false → loadReplied u t c id 3 ∧ t.sto.commit = s.sto.commit))

namespace Sys2Proof.Claims

open Sys2Proof.Machine

/-- The answer to a frame from `src` on port `p`. -/
def answer (p : Nat) (src : NetSrc) (v6 : Bool) (what : String) (data : List Nat) : Sent :=
  ⟨p, what, [src.mac.toNat, ((src.vlan.map BitVec.toNat).map (· + 1)).getD 0, bit v6, src.ip.toNat], data⟩

end Sys2Proof.Claims

/-- Ports answer ARP, neighbour solicitations and echo requests, follow their links, drop the rest, and send the records of CR11 and CR14. The model's own choices and readings in it: log entries 81, 92, 93, 94, 166. -/
def Obligations.PortsAnswerAndSendRecords : Prop :=
  (∀ (port : NetPort) (src : NetSrc) (s : State),
    let p := portCode port
    let got := fun (t : State) => t.netRd p R.NETH_RXFRM R.NETL_RXFRM = s.netRd p R.NETH_RXFRM R.NETL_RXFRM + 1
    let counts := fun (t : State) => RegsBut (fun a =>
      a = (if p = 8 then R.NETH_RXFRM.addr else R.NETL_RXFRM.addr (p - 9)) ∨
        a = if p = 8 then R.NETH_RXDROP.addr else R.NETL_RXDROP.addr (p - 9)) s t
    let sends := fun (e : Sent) (t : State) => got t ∧ t.sent = s.sent ++ [e] ∧
      t.netRd p R.NETH_RXDROP R.NETL_RXDROP = s.netRd p R.NETH_RXDROP R.NETL_RXDROP ∧
      { t with regs := s.regs, w1cSet := s.w1cSet, sent := s.sent } = s ∧ counts t
    let drops := fun (t : State) => got t ∧ { t with regs := s.regs, w1cSet := s.w1cSet } = s ∧ counts t ∧
      t.netRd p R.NETH_RXDROP R.NETL_RXDROP = s.netRd p R.NETH_RXDROP R.NETL_RXDROP + 1
    noneAhead s → s.portUp p = true →
      (portTakes s p { src with v6 := false } → ∀ a : BitVec 32,
        (s.netRd p R.NETH_IP4 R.NETL_IP4 = a → runsTo (.arpRequest port src a) s
          (sends (answer p src false "ARP_REPLY" (beBytes a.toNat 4 ++ macBytes s p)))) ∧
        (s.netRd p R.NETH_IP4 R.NETL_IP4 ≠ a → runsTo (.arpRequest port src a) s drops)) ∧
      (portTakes s p { src with v6 := true } → ∀ a : BitVec 128,
        let own := a.toNat = linkLocal s p ∨ (a ≠ 0 ∧ a.toNat = ip6Of s p)
        (own → runsTo (.neighbourSolicitation port src a) s
          (sends (answer p src true "NEIGHBOUR_ADVERTISEMENT" (beBytes a.toNat 16 ++ macBytes s p)))) ∧
        (¬ own → runsTo (.neighbourSolicitation port src a) s drops)) ∧
      (portTakes s p src → ∀ data : List (BitVec 8),
        (data.length ≤ 1472 → s.mode ≠ 7 → runsTo (.echoRequest port src data) s
          (sends (answer p src src.v6 "ECHO_REPLY" (natBytes data)))) ∧
        (1472 < data.length ∨ s.mode = 7 → runsTo (.echoRequest port src data) s drops)) ∧
      goesTo (.netFrameDropped port none) s drops ∧
      (∀ (ty : BitVec 8) (f : TlFrame), heard s ty.toNat f → s.mode ≠ 7 → tlLenOk ty.toNat f.payload.length = false →
        goesTo (.netFrameDropped port (some (ty, f))) s fun t =>
          let q := portCode f.port
          t.netRd q R.NETH_RXDROP R.NETL_RXDROP = s.netRd q R.NETH_RXDROP R.NETL_RXDROP + 1 ∧ t.sent = s.sent ∧
            t.col = s.col ∧ t.rd64 R.KRXHW_LO R.KRXHW_HI (tlKey f) = f.replay.toNat)) ∧
  (∀ (port : NetPort) (up : Bool) (s : State),
    let p := portCode port
    let link := fun (u : State) => u.netF p F.NETH_STAT_LINK F.NETL_STAT_LINK
    let stat := fun (a : Nat) => a = if p = 8 then R.NETH_STAT.addr else R.NETL_STAT.addr (p - 9)
    s.portOn p = true → link s = bit (!up) → (up = true → s.netF p F.NETH_CTL_EN F.NETL_CTL_EN = 1) →
      runsTo (.linkChange port up) s fun t =>
        link t = bit up ∧ t.netF p F.NETH_STAT_LINKCHG_SEEN F.NETL_STAT_LINKCHG_SEEN = 1 ∧
          t.netF p F.NETH_STAT_SPEED_NOW F.NETL_STAT_SPEED_NOW =
            (if up then (if p = 8 then hostSpeed s else 3) else 0) ∧
          quiet (fun u => { u with regs := [], net := {} }) stat s t) ∧
  (∀ s : State, s.domOn 1 = true → s.fb F.NETH_CTL_EN = true → s.f F.NETH_CTL_SPEED = 0 → s.fb F.NETH_STAT_LINK = false →
    let x := tabGet ({} : PortX) s.net.ports 8
    x.since + 2000000000 ≤ s.elapsed → runsTo .linkSpeedTry s fun t =>
      tabGet ({} : PortX) t.net.ports 8 = { speed := if x.speed = 2 then 1 else 2, since := s.elapsed } ∧
        { t with net := s.net } = s) ∧
  ∀ (host : Bool) (s : State),
    let r := if host then 11 else 14
    let size := s.ringSize r
    let slot := fun (i : Nat) => s.slotAddr r ((s.nat R.CRG_HEAD r + i) % size)
    let h := lane (s.frameBead (slot 0)) 0
    let c := bits h 7 0
    let n := bits h 15 8
    let ty := bits h 23 16
    let medium := s.f F.COL_STATE_MEDIUM c
    let fine := s.ringOn r = true ∧ (s.domOn 1 = true ∨ r = 14) ∧ (s.ring r).voids = [] ∧ (s.ring r).tags = [] ∧ tabGet 0 s.net.txOwed r = 0 ∧
      tabFind s.beadErr (s.slotAddr r (s.nat R.CRG_HEAD r) / 16) = none ∧
      (∀ i, tabFind s.beadErr (slot i / 16) = none) ∧ s.rd R.CRG_COUNT r ≠ 0
    let good := bits h 31 24 = 0xD5 ∧ ty ≤ 1 ∧ ¬ (n = 0 ∧ ty = 0) ∧ n ≤ 64 ∧ s.f F.COL_STATE_STATE c = 2 ∧
      (if host then medium = 8 else medium = 9 ∨ medium = 10)
    let taken := fun (k : Nat) (t : State) => t.rd R.CRG_COUNT r = s.rd R.CRG_COUNT r - word k ∧
      t.rd R.CRG_TALLY r = s.rd R.CRG_TALLY r + word k ∧ t.rd R.CRG_CONSUMED r = s.rd R.CRG_CONSUMED r + word k ∧
      t.nat R.CRG_HEAD r = (s.nat R.CRG_HEAD r + k) % size
    fine →
      (good → 1 + n ≤ s.nat R.CRG_COUNT r → (1 + n : Int) ≤ colTally s c → keyClear s (s.f F.COL_STATE_KEYSEL c) →
        runsTo (.hostTxRecord host) s fun t => taken (1 + n) t ∧
          t.f F.COL_TXBK_SENT c = (s.f F.COL_TXBK_SENT c + 1 + n) % 65536 ∧
          colSent s t c (if ty = 0 then 0x20 else 0x22)
            ((List.range n).flatMap fun i => leBytes (s.frameBead (slot (i + 1))).toNat 16)) ∧
      (good → s.nat R.CRG_COUNT r < 1 + n ∨ colTally s c < 1 + n → exec (.hostTxRecord host) s = .next s) ∧
      (bits h 31 24 ≠ 0xD5 → runsTo (.hostTxRecord host) s fun t => taken 1 t ∧ t.sent = s.sent ∧
        (host = true → t.rd R.NETH_TXDROP = s.rd R.NETH_TXDROP + 1))

namespace Sys2Proof.Claims

open Sys2Proof.Machine

--#
/-! ### Store and health -/

/-- The registers of store control. -/
def stoRegs (a : Nat) : Prop := 0x10020000 ≤ a ∧ a < 0x10030000
/-- The registers of the health monitor. -/
def hltRegs (a : Nat) : Prop := 0x10010000 ≤ a ∧ a < 0x10020000

/-- A state without the store and the registers. -/
def noStore (s : State) : State := { s with regs := [], sto := {} }
/-- A state without the health monitor's own and the registers. -/
def noHealth (s : State) : State := { s with regs := [], hlt := {} }

/-- The verifies that fail let the commit land: no page fails twice, and at most seven are written again (R505). -/
def writesHold (pages fails : List Nat) : Prop :=
  (∀ p ∈ pages, fails.count p ≤ 1) ∧ (pages.filter fun p => fails.contains p).length ≤ 7

/-- The logical Rods that run, wait or start. -/
def rodsLive (s : State) : List Nat :=
  (List.range 16).filter fun r => s.rodSt r == rodRunning || s.rodSt r == rodWaiting || s.rodSt r == rodStarting

/-- A commit has ended with a result after writing so many pages (R504, R529). -/
def commitEnded (s t : State) (key : Bool) (result : Nat) : Prop :=
  t.fb F.STO_STAT_BUSY = false ∧ t.f F.STO_LAST_RESULT = result ∧ t.fb F.STO_LAST_KEY = key ∧
    (result ≠ 1 → t.fb F.STO_STAT_FAIL_SEEN = true) ∧
    (∀ c, s.sto.commit = some c → t.rd R.STO_LASTUS = word ((s.elapsed - c.start) / 1000)) ∧ noisy noStore stoRegs s t

end Sys2Proof.Claims

/-- A commit opens its target, fixes content and dirty pages, and lands or fails by R505; the log queues and writes its records; STO_UDATA advances. The model's own choices and readings in it: log entry 180. -/
def Obligations.StoreCommitsAndLogs : Prop :=
  ∀ s : State, s.domOn 0 = true →
    let x := s.sto
    let b := x.targetB
    let off := 0x5C0000 + s.f F.STO_UADDR_V
    let next := if 258044 ≤ s.f F.STO_UADDR_V then 0 else s.f F.STO_UADDR_V + 4
    let same := fun (t : State) => t.sto.keyA = x.keyA ∧ t.sto.keyB = x.keyB ∧ t.sto.log = x.log ∧ t.sto.work = x.work ∧
      t.sto.marks = x.marks ∧ t.sto.umap = x.umap ∧ t.sto.mapRecs = x.mapRecs ∧ t.sto.load = x.load
    (x.commit = none → x.load = none → runsTo .stoCommit s fun t =>
      t.fb F.STO_STAT_BUSY = true ∧ t.fb F.STO_STAT_OPEN = true ∧
        (∃ c, t.sto.commit = some c ∧ c.key = false ∧ c.bankB = b ∧ c.start = s.elapsed ∧ c.content = x.work ∧
          c.load = none ∧ c.late = [] ∧ ∀ p, p ∈ c.pages ↔ p < 1535 ∧ x.dirtyT.has p = true) ∧
        (s.fb F.STO_STAT_OPEN = false → t.sto.bank b = { x.bank b with trailer := (x.bank b).trailer.opened }) ∧
        (s.fb F.STO_STAT_OPEN = true → t.sto.bank b = x.bank b) ∧ t.sto.bank (!b) = x.bank (!b) ∧ same t ∧
        quiet noStore (fun a => a = R.STO_STAT.addr ∨ a = R.STO_CTL.addr) s t) ∧
    (x.commit ≠ none ∨ x.load ≠ none → runsTo .stoCommit s fun t =>
      t.fb F.STO_STAT_REFUSED = true ∧ quiet noRegs (fun a => a = R.STO_STAT.addr) s t) ∧
    (∀ (fails : List Nat) (c : Commit), x.commit = some c → s.sys.exiting = false → s.sys.exitRun = false → c.load = none →
      let k := x.bank c.bankB
      let d := if c.bankB then x.dirtyB else x.dirtyA
      let newest := ((newestBank x).map Bank.cells).getD []
      (c.key = false → writesHold c.pages fails →
        Memory.wf k.cells = true → Memory.wf c.content = true → Memory.wf newest = true →
        runsTo (.commitEnd fails) s fun t =>
          commitEnded s t false 1 ∧ t.f F.STO_LAST_PAGES = c.pages.length % 2048 ∧ t.fb F.STO_STAT_OPEN = false ∧
            t.sto.commit = none ∧ t.sto.bank (!c.bankB) = x.bank (!c.bankB) ∧ same t ∧
            (t.sto.bank c.bankB).valid = true ∧
            (t.sto.bank c.bankB).seq = (if newestBank x = none then 1 else x.newestSeq + 1) % 2 ^ 64 ∧
            (∀ a, cellsGet (t.sto.bank c.bankB).cells a =
              if a / 4096 ∈ c.pages then (if a < 0x400000 then cellsGet newest a else cellsGet c.content a)
              else cellsGet k.cells a) ∧
            (c.pages = d.list → c.late = [] →
              ∀ p, p < 1535 → (if c.bankB then t.sto.dirtyB else t.sto.dirtyA).has p = false)) ∧
      (c.key = false → ¬ writesHold c.pages fails → runsTo (.commitEnd fails) s fun t =>
        commitEnded s t false 4 ∧ t.sto = { x.setDirty c.bankB { all := true } with commit := none }) ∧
      (c.key = true → writesHold c.pages fails → runsTo (.commitEnd fails) s fun t =>
        let n := if x.newestKey = none then 1 else (x.newestKey.map KeyBank.seq).getD 0 + 1
        commitEnded s t true 1 ∧ t.sto.commit = none ∧ (if c.bankB then t.sto.keyB else t.sto.keyA) = ⟨c.keys, Trailer.of n (keyCrc c.keys)⟩ ∧
          (if c.bankB then t.sto.keyB else t.sto.keyA).valid = true ∧
          (if c.bankB then t.sto.keyA else t.sto.keyB) = (if c.bankB then x.keyA else x.keyB) ∧
          t.sto.bankA = x.bankA ∧ t.sto.bankB = x.bankB) ∧
      (c.key = true → ¬ writesHold c.pages fails → runsTo (.commitEnd fails) s fun t =>
        commitEnded s t true 4 ∧ (if c.bankB then t.sto.keyB else t.sto.keyA).valid = false ∧
          (if c.bankB then t.sto.keyA else t.sto.keyB) = (if c.bankB then x.keyA else x.keyB))) ∧
    (∀ (fails : List Nat) (c : Commit) (r : LoadReq), x.commit = some c → s.sys.exiting = false → s.sys.exitRun = false →
      c.load = some r → s.colSt r.col = 2 → keyClear s (s.f F.COL_STATE_KEYSEL r.col) →
      let answers := fun (st : Nat) => runsTo (.commitEnd fails) s fun t =>
        ∃ u, noisy noStore stoRegs s u ∧ loadReplied u t r.col r.reqId st
      (¬ writesHold c.pages fails → answers 4) ∧ (writesHold c.pages fails → r.activate = false → answers 0) ∧
        (writesHold c.pages fails → r.activate = true → s.mode ≠ 2 → answers 5) ∧
        (writesHold c.pages fails → r.activate = true → s.mode = 2 → rodsLive s ≠ [] → runsTo (.commitEnd fails) s fun t =>
          t.sto.commit = none ∧ t.sto.activate = some ⟨r, rodsLive s⟩ ∧ t.sent = s.sent ∧
            ∀ q ∈ rodsLive s, (s.rod q).stopAt = none → t.fb F.FRM_RCTL_STOP q = true ∧ (t.rod q).stopAt = some s.elapsed) ∧
        (writesHold c.pages fails → r.activate = true → s.mode = 2 → rodsLive s = [] → s.fb F.SYS_MODE_PEND = false →
          runsTo (.commitEnd fails) s fun t => t.sto.commit = none ∧ t.sto.activate = none ∧
            ∀ k, newestBank t.sto = some k →
              imageOk (k.cells.filter fun x => decide (x.1 < 0x400000)) none = true →
              t.programs = (imagePrograms (k.cells.filter fun x => decide (x.1 < 0x400000))).foldl
                (fun u p => tabPut u p.1 p.2) [])) ∧
    (s.logQueue.length < 64 → runsTo .stoLogw s fun t =>
      t.logQueue = s.logQueue ++ [⟨3, s.tbNow, (List.range 11).map fun i => s.rd R.STO_LOGBUF i⟩] ∧
        quiet (fun u => { u with regs := [], logQueue := [] }) (fun a => a = R.STO_CTL.addr) s t) ∧
    (64 ≤ s.logQueue.length → runsTo .stoLogw s fun t =>
      t.rd R.STO_LOGLOST = s.rd R.STO_LOGLOST + 1 ∧ t.fb F.STO_STAT_LOGLOST_SEEN = true ∧
        quiet noRegs (fun a => a = R.STO_CTL.addr ∨ a = R.STO_LOGLOST.addr ∨ a = R.STO_STAT.addr) s t) ∧
    (∀ (r : LogRec) (rest : List LogRec), s.logQueue = r :: rest → runsTo .logRecordWritten s fun t =>
      let l := s.rd R.STO_LOGHEAD + 1
      t.logQueue = rest ∧ t.rd R.STO_LOGHEAD = l ∧ tabFind t.sto.log l.toNat = some ⟨r, logCrc l.toNat r⟩ ∧
        tabFind t.sto.log (l - 65536).toNat = none ∧
        (∀ k, k ≠ l.toNat → k ≠ (l - 65536).toNat → tabFind t.sto.log k = tabFind x.log k) ∧
        { t with logQueue := s.logQueue, regs := s.regs, w1cSet := s.w1cSet, sto := { t.sto with log := x.log } } = s ∧
        RegsBut (fun a => a = R.STO_LOGHEAD.addr) s t) ∧
    (∀ v : BitVec 32, Memory.wf x.work = true → runsTo (.stoUdataAccess (some v)) s fun t =>
      t.workWord off = v ∧ (∀ a, a < off ∨ off + 4 ≤ a → cellsGet t.sto.work a = cellsGet x.work a) ∧
        (v ≠ s.workWord off → t.sto.dirtyA.has (off / 4096) = true ∧ t.sto.dirtyB.has (off / 4096) = true) ∧
        (v = s.workWord off → t.sto = x) ∧ t.sto.bankA = x.bankA ∧ t.sto.bankB = x.bankB ∧ t.f F.STO_UADDR_V = next ∧
        quiet noStore (fun a => a = R.STO_UADDR.addr) s t) ∧
    (tabFind s.beadErr (workBead off) = none → runsTo (.stoUdataAccess none) s fun t =>
      t.f F.STO_UADDR_V = next ∧ quiet noRegs (fun a => a = R.STO_UADDR.addr) s t)

/-- Sensor reads and core-supply events show and judge conditions, scrubbing clears errors and fails sections, and failed spares are retired. The model's own choices and readings in it: log entries 99, 100, 101, 115, 159. -/
def Obligations.HealthMonitorActs : Prop :=
  ∀ s : State,
    let due := s.sys.powered = true
    let critical := fun (t : State) => t.fb F.HLT_STAT_CRIT = true ∧ t.fb F.SYS_STAT_CRIT = true ∧ (s.operating = true → t.mode = 6) ∧
      (s.mode = 0 ∨ s.mode = 7 → t.sys.critRec = true)
    let calm := s.fb F.HLT_STAT_CRIT = false ∧ s.fb F.SYS_STAT_CRIT = false
    (∀ others : BitVec 16, s.domOn 2 = true → s.hlt.scrubAt + s.f F.HLT_SCRUB_SCRUB_S * 1000000000 ≤ s.elapsed →
      (s.beadErr.map Prod.fst).Nodup → (s.ringOn 19 = true → ∀ q ∈ s.beadErr, q.2 = .single) →
      let count := fun (e : BeadErr) => (s.beadErr.filter fun q => q.2 == e).length
      let inSec := fun (sec : Nat) (e : BeadErr) => (s.beadErr.filter fun q => q.2 == e && q.1 < 524288 && q.1 / 4096 == sec).length
      let bad := fun (sec : Nat) => s.f F.HLT_SCRUB_SECT_TH ≤ inSec sec .single ∨ 0 < inSec sec .double
      runsTo (.scrubPass [] others) s fun t =>
        (∀ k, tabFind t.beadErr k = match tabFind s.beadErr k with
          | some .double => some .poisoned
          | some .poisoned => some .poisoned
          | _ => none) ∧
          t.rd R.HLT_CORR = s.rd R.HLT_CORR + word (count .single + others.toNat) ∧
          t.rd R.HLT_POISON = s.rd R.HLT_POISON + word (count .double) ∧ t.hlt.scrubAt = s.elapsed ∧
          t.f F.HLT_SCRUBST_PASSES = (s.f F.HLT_SCRUBST_PASSES + 1) % 65536 ∧
          (∀ sec, sec < 128 → bad sec → (∀ m, m < 128 → m ≠ sec → ¬ bad m) → 0 < spareSections s →
            tabFind s.sto.secCopy sec = none → tabFind t.sto.secCopy sec = some (8 - spareSections s, inSec sec .single)) ∧
          ((∀ sec, sec < 128 → ¬ bad sec) → t.sto = s.sto) ∧
          noisy (fun u => { u with regs := [], sto := {}, hlt := {} }) hltRegs s t) ∧
    (∀ (sec : Fin 128) (spare singles : Nat), tabFind s.sto.secCopy sec = some (spare, singles) →
      runsTo (.sectionRemapDone sec) s fun t =>
        t.sto.umap = { s.sto.umap with sections := (sec.val, spare) :: s.sto.umap.sections } ∧
          t.sto.secCopy = tabDrop s.sto.secCopy sec ∧ noisy noStore hltRegs s t) ∧
    (due → (∀ t, s.hlt.testAt = some t → t + 1000000000 ≤ s.elapsed) →
      (∀ p : Fin 18, s.domOn 2 = true → p.val ∈ spareRods s → runsTo (.spareSelfTest [p] false) s fun t =>
        t.sto.umap = { s.sto.umap with rods := s.sto.umap.rods ++ [p.val] } ∧ t.hlt = { s.hlt with testAt := some s.elapsed } ∧
          noisy (fun u => { u with regs := [], sto := {}, hlt := {} }) hltRegs s t) ∧
      (s.domOn 3 = true → s.sto.umap.matrix = [] → runsTo (.spareSelfTest [] true) s fun t =>
        t.sto.umap = { s.sto.umap with matrix := [4] } ∧ t.hlt = { s.hlt with testAt := some s.elapsed } ∧
          noisy (fun u => { u with regs := [], sto := {}, hlt := {} }) hltRegs s t)) ∧
    (s.domOn 0 = true → s.mode = 1 → runsTo .hltMapclr s fun t =>
      t.sto = { s.sto with mapClr := true } ∧ quiet noStore (fun a => a = R.HLT_MAPCLR.addr) s t) ∧
    (s.domOn 0 = true → s.mode ≠ 1 → runsTo .hltMapclr s fun t =>
      t.fb F.HLT_STAT_REFUSED = true ∧ quiet noRegs (fun a => a = R.HLT_STAT.addr) s t) ∧
    (∀ v : Sensors, due → stopsAhead s = s → s.tbNow % 100000000 = 0 → s.hlt.readTb ≠ some s.tbNow → v.temp.length = 12 →
      let temp := fun (i : Nat) => (v.temp.getD i 0).toInt
      let shown := fun (t : State) =>
        (∀ i, i < 12 → t.rd R.HLT_TEMP i = (v.temp.getD i 0).signExtend 32) ∧ t.rd R.HLT_HUMID = v.humid.setWidth 32 ∧
          t.rd R.HLT_VLOG = v.vlog.setWidth 32 ∧ t.rd R.HLT_VCORE = v.vcore.setWidth 32 ∧ t.hlt.readTb = some s.tbNow ∧
          (∀ i, i < 12 → temp i ≤ t.fi F.HLT_TMAX_T) ∧ temp (t.f F.HLT_TMAX_SENSOR) = t.fi F.HLT_TMAX_T ∧
          (∀ i, i < t.f F.HLT_TMAX_SENSOR → temp i < t.fi F.HLT_TMAX_T)
      ((∀ i, i < 12 → temp i < 1200) → v.humid.toNat < s.f F.HLT_HUMLIM_HUM_WARN → v.humid.toNat < s.f F.HLT_HUMLIM_HUM_CRIT →
        s.hlt.tempWarn = false → s.hlt.tempCrit = false → s.hlt.wet = false → s.hlt.flooded = false →
        s.fb F.HLT_STAT_SUPPLY = false → calm → runsTo (.sensorRead v) s fun t =>
          shown t ∧ t.fb F.HLT_STAT_WARN = false ∧ t.fb F.HLT_STAT_HUMID = false ∧ t.fb F.HLT_STAT_CRIT = false ∧
            t.hlt.humWarn = 0 ∧ t.hlt.humCrit = 0 ∧ quiet noHealth hltRegs s t) ∧
      ((∃ i, i < 12 ∧ 1350 ≤ temp i) → s.hlt.tempCrit = false → calm → runsTo (.sensorRead v) s fun t =>
        shown t ∧ t.hlt.tempWarn = true ∧ t.hlt.tempCrit = true ∧ t.fb F.HLT_STAT_WARN = true ∧ critical t)) ∧
    (∀ mv : BitVec 16, due → stopsAhead s = s → s.fb F.HLT_STAT_SUPPLY = false → mv.toNat < 855 ∨ 945 < mv.toNat → calm →
      runsTo (.coreSupplyCritical mv) s fun t =>
        t.fb F.HLT_STAT_SUPPLY = true ∧ t.fb F.HLT_STAT_SUPPLY_SEEN = true ∧ critical t) ∧
    (∀ mv : BitVec 16, due → s.fb F.HLT_STAT_SUPPLY = true → s.fb F.HLT_STAT_CRIT = true → 873 ≤ mv.toNat → mv.toNat ≤ 927 →
      runsTo (.coreSupplyCleared mv) s fun t =>
        t.fb F.HLT_STAT_SUPPLY = false ∧ t.fb F.HLT_STAT_CRIT = (s.hlt.tempCrit || s.hlt.flooded) ∧
          (s.hlt.tempCrit = false → s.hlt.flooded = false → t.fb F.SYS_STAT_CRIT = false) ∧
          (s.fb F.SYS_STAT_FIRE = false →
            noisy (fun u => { u with regs := [], sys := {} }) (fun a => hltRegs a ∨ a = R.SYS_STAT.addr) s t))

namespace Sys2Proof.Claims

open Sys2Proof.Machine

--#
/-! ### Modes, domains and resets -/

/-- A SYS write or command is refused: SYS_STAT.REFUSED alone shows it. -/
def sysRefuses (s t : State) : Prop := t.fb F.SYS_STAT_REFUSED = true ∧ quiet noRegs (fun a => a = R.SYS_STAT.addr) s t

/-- A state without the SYS and DIO units' own and the registers. -/
def noSys (s : State) : State := { s with regs := [], sys := {} }

/-- Mode `m` is entered outside Hold: no change pends, SYS_FIRECTL is clear, and FIRE_PERMIT is open. -/
def modeEntered (t : State) (m : Nat) : Prop :=
  t.mode = m ∧ t.rd R.SYS_MODE = word m ∧ t.rd R.SYS_FIRECTL = 0 ∧ t.fb F.SYS_STAT_FIRE = false

/-- Load switch `n` follows its entry of the reset-hold table: it is held on as it was, or off and disabled. -/
def switchHeld (s t : State) (n : Nat) : Prop :=
  if maskBit (s.rd R.SYS_RHT_LSW) n && !s.fb F.SYS_STAT_SS
    then maskBit (t.rd R.SYS_HELD) n = true ∧ t.fb F.LSW_STAT_ON n = s.fb F.LSW_STAT_ON n ∧ t.fb F.LSW_CTL_EN n = s.fb F.LSW_CTL_EN n
    else maskBit (t.rd R.SYS_HELD) n = false ∧ t.fb F.LSW_STAT_ON n = false ∧ t.fb F.LSW_CTL_EN n = false

/-- Hold is entered with a cause (R534, R538). -/
def held (s t : State) (cause : Nat) : Prop :=
  t.mode = 6 ∧ t.f F.SYS_MODE_HCAUSE = cause ∧ t.fb F.SYS_MODE_PEND = false ∧ t.f F.SYS_MODE_TARGET = 0 ∧
    t.rd R.SYS_FIRECTL = 0 ∧ t.fb F.SYS_STAT_FIRE = false ∧ t.sys.stopped = [] ∧
    (∀ n, 1 ≤ n → n < 8 → t.pd n = if s.pd n = 0 then 1 else s.pd n) ∧
    (s.domOn 7 = true → (∀ n, n < 24 → t.fb F.SOL_CTL_EN n = false ∧ (s.solOdd n = false → t.fb F.SOL_STAT_ON n = false)) ∧
      (∀ n, n < 32 → switchHeld s t n) ∧
      (∀ n, n < 8 → bits (s.rd R.SYS_RHT_MTR) (2 * n + 1) (2 * n) ≠ 2 ∨ s.f F.MTR_CTL_MODE n ≠ 0 ∨ s.fb F.SYS_STAT_SS = true →
        t.fb F.MTR_CTL_EN n = false ∧ maskBit (t.rd R.SYS_HELDM) n = false))

end Sys2Proof.Claims

/-- SYS_CMD moves between the modes exactly as R533 allows, waits for domains as R534 says, enters Hold at once, and leaves Commission by R547. The model's own choices and readings in it: log entries 104, 115, 159. -/
def Obligations.ModesChangeByCommand : Prop :=
  (∀ (who : Writer) (s : State), s.domOn 0 = true →
    let m := s.mode
    let pend := s.fb F.SYS_MODE_PEND
    let crit := s.fb F.SYS_STAT_CRIT
    let host := who = .host
    let allowed := fun (op : Nat) => (op = 1 ∧ (m = 3 ∨ m = 4 ∨ m = 5 ∨ (m = 6 ∧ host ∧ crit = false))) ∨
      ((op = 2 ∨ op = 3 ∨ op = 4) ∧ m = 2 ∧ crit = false)
    let cmds : List (Nat × Instr) := [(1, .sysCmdReady who), (2, .sysCmdBatch who), (3, .sysCmdFlow who),
      (4, .sysCmdStore who), (5, .sysCmdDormant who), (6, .sysCmdHold who)]
    let cmdOnly := fun (p : Nat → Prop) (a : Nat) => a = R.SYS_CMD.addr ∨ p a
    let refused := fun (t : State) => t.fb F.SYS_STAT_REFUSED = true ∧ quiet noRegs (cmdOnly fun a => a = R.SYS_STAT.addr) s t
    (2 ≤ m → m ≤ 5 → Instr.hostLoss ∈ s.pending → critsAhead s = s → hostLossNow s = true → ∀ c ∈ cmds, c.1 ≠ 1 →
      runsTo c.2 s fun t => held s t 1 ∧ (c.1 ≠ 6 → t.fb F.SYS_STAT_REFUSED = true)) ∧
    (∀ mv : BitVec 16, 2 ≤ m → m ≤ 5 → s.pending = [.coreSupplyCritical mv] → s.sys.powered = true → crit = false →
      s.fb F.HLT_STAT_CRIT = false → s.fb F.HLT_STAT_SUPPLY = false → mv.toNat < 855 ∨ 945 < mv.toNat → ∀ c ∈ cmds,
      runsTo c.2 s fun t => held s t 2 ∧ (c.1 ≠ 6 → t.fb F.SYS_STAT_REFUSED = true)) ∧
    (cmdAhead s = s →
    (∀ c ∈ cmds, c.1 ≤ 5 → pend = true → runsTo c.2 s refused) ∧
    (∀ c ∈ cmds, pend = false ∨ c.1 = 6 → m = (if c.1 = 6 then 6 else if c.1 = 5 then 7 else c.1 + 1) →
      runsTo c.2 s fun t => quiet noRegs (cmdOnly fun _ => False) s t) ∧
    (∀ c ∈ cmds, c.1 ≤ 4 → pend = false → m ≠ c.1 + 1 → ¬ allowed c.1 →
      ¬ (c.1 = 1 ∧ m = 1 ∧ host ∧ crit = false ∧ s.sys.commission = false) → runsTo c.2 s refused) ∧
    (∀ c ∈ cmds, c.1 ≤ 4 → pend = false → allowed c.1 →
      ((∀ n ∈ pdNeeds (c.1 + 1), s.domOn n = true) → runsTo c.2 s fun t =>
        modeEntered t (c.1 + 1) ∧ (s.fb F.SYS_STAT_FIRE = true → t.fb F.SYS_STAT_FIREDROP_SEEN = true) ∧
          (s.fb F.SYS_STAT_FIRE = false →
            noisy noSys (cmdOnly fun a => a = R.SYS_MODE.addr ∨ a = R.SYS_FIRECTL.addr) s t)) ∧
      (¬ (∀ n ∈ pdNeeds (c.1 + 1), s.domOn n = true) → runsTo c.2 s fun t =>
        t.mode = m ∧ t.fb F.SYS_MODE_PEND = true ∧ t.f F.SYS_MODE_TARGET = c.1 + 1 ∧
          (∀ n, n < 8 → t.pd n = if n ∈ pdNeeds (c.1 + 1) ∧ s.pd n = 0 then 1 else s.pd n) ∧
          quiet noSys (cmdOnly fun a => a = R.SYS_MODE.addr ∨ a = R.SYS_PDSTAT.addr ∨ a = R.SYS_PDCTL.addr) s t)) ∧
    (m = 1 → pend = false → host → crit = false → s.sys.commission = false → s.sto.commit = none →
      runsTo (.sysCmdReady who) s fun t =>
        t.mode = 1 ∧ t.fb F.SYS_MODE_PEND = true ∧ t.f F.SYS_MODE_TARGET = 2 ∧ t.sys.exiting = true ∧
          (s.sto.keyDirty = true → ∃ c, t.sto.commit = some c ∧ c.key = true ∧ c.keys = s.sto.keyWork) ∧
          (s.sto.keyDirty = false → s.sys.written = true ∨ newestBank s.sto = none →
            ∃ c, t.sto.commit = some c ∧ c.key = false ∧ c.content = s.sto.work) ∧
          (s.sto.keyDirty = false → s.sys.written = false → newestBank s.sto ≠ none → t.sto = s.sto)) ∧
    (2 ≤ m → m ≤ 5 → runsTo (.sysCmdHold who) s fun t => held s t 4) ∧
    (m = 0 ∨ m = 1 ∨ m = 7 → runsTo (.sysCmdHold who) s refused) ∧
    (dormantOk s = true → runsTo (.sysCmdDormant who) s fun t =>
      t.mode = 2 ∧ t.fb F.SYS_MODE_PEND = true ∧ t.f F.SYS_MODE_TARGET = 7 ∧ t.sys.stopped = rodsLive s ∧
        (∀ r ∈ rodsLive s, (s.rod r).stopAt = none → t.fb F.FRM_RCTL_STOP r = true ∧ (t.rod r).stopAt = some s.elapsed) ∧
        quiet (fun u => { u with regs := [], sys := {}, rods := [] })
          (cmdOnly fun a => a = R.SYS_MODE.addr ∨ ∃ r < 16, a = R.FRM_RCTL.addr r) s t) ∧
    (pend = false → m ≠ 7 → dormantOk s = false → runsTo (.sysCmdDormant who) s refused))) ∧
  (∀ s : State, critsAhead s = s → 2 ≤ s.mode → s.mode ≤ 5 → maskBit (s.rd R.SYS_SAFECFG) (26 + s.mode) = true → hostLate s = true →
    (hostComes s = false → runsTo .hostLoss s fun t => held s t 1) ∧ (hostComes s = true → exec .hostLoss s = .next s)) ∧
  ∀ s : State, s.sys.exiting = true → s.sto.commit = none →
    (s.sys.exitFailed = true → runsTo .commissionExit s fun t =>
      t.mode = s.mode ∧ t.fb F.SYS_MODE_PEND = false ∧ t.f F.SYS_MODE_TARGET = 0 ∧ t.fb F.SYS_STAT_REFUSED = true ∧
        t.sys.exiting = false ∧ quiet noSys (fun a => a = R.SYS_MODE.addr ∨ a = R.SYS_STAT.addr) s t) ∧
    (s.sys.exitFailed = false → s.sto.keyDirty = false → s.sys.exitMain = false → runsTo .commissionExit s fun t =>
      t.mode = (if s.fb F.SYS_STAT_CRIT = true ∨ s.sys.critRec = true then 6 else 2) ∧ t.sys.exiting = false ∧ t.sys.hostAt = s.elapsed ∧
        t.sys.wdtArmed = s.fb F.SYS_SAFECFG_WDT_EN ∧ t.sys.wdtAt = s.elapsed ∧
        ∀ a, 0x60000800 ≤ a → a < 0x60001000 → tabFind t.net.force a = tabFind s.sto.keyWork a)

/-- SYS_PDCTL switches domains under R544, a domain that reaches ON lets pending changes and sequences go on, Dormant is entered and left by its sources. The model's own choices and readings in it: log entries 95, 105, 115. -/
def Obligations.DomainsDormantAndWaking : Prop :=
  (∀ (v : BitVec 32) (s : State), s.domOn 0 = true →
    let ctl := fun (n : Nat) => maskBit (s.rd R.SYS_PDCTL) n
    let sw := [1, 3, 4, 5, 6]
    let may := ∀ n ∈ sw, maskBit v n ≠ ctl n → pdRule s.mode n = 2 ∧
      (maskBit v n = false → s.fb F.SYS_MODE_PEND = true → pdRule (s.f F.SYS_MODE_TARGET) n ≠ 1)
    (¬ may → runsTo (.domainSwitch v) s (sysRefuses s)) ∧
    (may → (∀ n ∈ sw, ctl n = decide (s.pd n ≠ 0)) → runsTo (.domainSwitch v) s fun t =>
      (∀ n ∈ sw, maskBit (t.rd R.SYS_PDCTL) n = maskBit v n ∧
        t.pd n = if maskBit v n then (if s.pd n = 0 then 1 else s.pd n) else 0) ∧
        t.pd 0 = s.pd 0 ∧ t.pd 2 = s.pd 2 ∧ t.pd 7 = s.pd 7 ∧ t.mode = s.mode ∧ t.rods = s.rods ∧ t.sto = s.sto ∧
        (s.fb F.SYS_STAT_FIRE = false → t.frame = s.frame) ∧ (s.pd 1 ≠ 0 → maskBit v 1 = false → ∀ a, 0x60000000 ≤ a → a < 0x60000800 → tabFind t.regs a = none))) ∧
  (∀ (n : Fin 8) (test : OutputTest) (s : State), s.pd n = 1 →
    let target := s.f F.SYS_MODE_TARGET
    let on := fun (k : Nat) => k = n.val ∨ s.domOn k = true
    let walk := s.sys.boot = true ∨ s.sys.resume = true
    (¬ walk → s.fb F.SYS_MODE_PEND = true → s.sys.exiting = false → target ≠ 7 → (∀ k ∈ pdNeeds target, on k) →
      runsTo (.domainOn n test) s fun t => t.domOn n = true ∧ modeEntered t target) ∧
    (¬ walk → s.fb F.SYS_MODE_PEND = false ∨ ¬ (∀ k ∈ pdNeeds target, on k) → runsTo (.domainOn n test) s fun t =>
      t.mode = s.mode ∧ ∀ k, k < 8 → t.pd k = if k = n.val then 2 else s.pd k) ∧
    (∀ p ∈ [([2], [1, 3, 6]), ([1, 2, 3, 6], [4, 5]), ([1, 2, 3, 4, 5, 6], [7])],
      walk → n.val ∈ p.1 → (∀ k ∈ p.1, on k) → (∀ k ∈ p.2, s.pd k = 0) → runsTo (.domainOn n test) s fun t =>
        t.domOn n = true ∧ t.mode = s.mode ∧ ∀ k ∈ p.2, t.pd k = 1)) ∧
  (∀ s : State, s.mode = 2 → s.fb F.SYS_MODE_PEND = true → s.f F.SYS_MODE_TARGET = 7 →
    (∀ r ∈ s.sys.stopped, s.rodSt r = rodHalted ∨ s.rodSt r = rodFaulted ∨ s.rodSt r = rodShed) →
    runsTo .dormantEntered s fun t => modeEntered t 7 ∧ (∀ n, 1 ≤ n → n < 8 → t.pd n = 0) ∧ t.pd 0 = s.pd 0 ∧
      t.sys.wdtArmed = false ∧ t.sto.bankA = s.sto.bankA ∧ t.sto.bankB = s.sto.bankB) ∧
  (∀ s : State,
    let woken := fun (cause : Nat) (p : Nat → Prop) (t : State) => t.f F.SYS_WAKE_CAUSE = cause ∧ t.sys.resume = true ∧
      t.pd 2 = 1 ∧ t.mode = 7 ∧ t.fb F.SYS_MODE_PEND = true ∧ t.f F.SYS_MODE_TARGET = 2 ∧
      quiet (fun u => noSys { u with net := { u.net with rxTb := 0 } })
        (fun a => a = R.SYS_WAKE.addr ∨ a = R.SYS_MODE.addr ∨ a = R.SYS_PDSTAT.addr ∨ p a) s t
    s.mode = 7 → s.sys.resume = false → s.pd 2 = 0 →
      (∀ t0, s.sys.wakeLow = some t0 → s.fb F.SYS_WAKE_PIN_EN = true →
        (t0 + 1000000 ≤ s.elapsed → runsTo .wakePin s (woken 3 noneElse)) ∧ (s.elapsed < t0 + 1000000 → exec .wakePin s = .next s)) ∧
      (s.fb F.SYS_WAKE_TIMER_EN = true → s.rd64 R.SYS_WAKEAT_LO R.SYS_WAKEAT_HI ≤ s.tbNow →
        runsTo .wakeTimer s (woken 4 noneElse)) ∧
      (∀ f : TlFrame, f.port = .l0 → f.payload = [] → heard s 0x52 f → tlMay s f 4 = true → colOfTl s f = none →
        goesTo (.wake f) s fun t => woken 1 (rxRegs 9 (tlKey f)) t ∧ t.sys.hostAt = s.elapsed) ∧
      (s.fb F.CAN_WAKE_WEN = true → runsTo .canWakePattern s fun t =>
        woken 2 (fun a => a = R.CAN_WAKE.addr) t ∧ t.fb F.CAN_WAKE_WOK = true)) ∧
  ∀ s : State, s.sys.resume = true → (∀ n, 1 ≤ n → n < 8 → s.domOn n = true) → runsTo .resumeComplete s fun t =>
    t.mode = (if s.fb F.SYS_STAT_CRIT = true ∨ s.sys.critRec = true then 6 else 2) ∧ t.sys.resume = false ∧ t.sys.hostAt = s.elapsed ∧
      (∀ k, newestBank s.sto = some k → imageOk (k.cells.filter fun c => decide (c.1 < 0x400000)) none = true →
        t.programs = (imagePrograms (k.cells.filter fun c => decide (c.1 < 0x400000))).foldl (fun u p => tabPut u p.1 p.2) []) ∧
      (newestBank s.sto = none → t.programs = [] ∧ t.template = [])

namespace Sys2Proof.Claims

open Sys2Proof.Machine

--#
/-- A reset of a kind has acted (R507, R508, R551 to R553, R556): SYS_RCAUSE, Boot, domains PD2 to PD6 off with their
contents, PD7 on as before with its solenoids off and held load switches kept, the store's abandoned commit and reloaded
working copy, and boot under way with PD2 ramping, or waiting while RESET_N is low. -/
def resetDone (s t : State) (kind : Nat) (early : Bool) (rod : Nat := 0) : Prop :=
  t.f F.SYS_RCAUSE_KIND = kind ∧ t.f F.SYS_RCAUSE_MODE = s.mode ∧ t.f F.SYS_RCAUSE_ROD = rod ∧
    t.fb F.SYS_RCAUSE_WDT_EARLY = early ∧ t.fb F.SYS_RCAUSE_COMMIT = s.sto.commit.isSome ∧
    t.f F.SYS_RCAUSE_COUNT = min 65535 (s.f F.SYS_RCAUSE_COUNT + 1) ∧ modeEntered t 0 ∧
    (∀ n ∈ [1, 3, 4, 5, 6], t.pd n = 0) ∧ t.pd 7 = (if s.domOn 7 then 2 else 0) ∧ t.pd 0 = s.pd 0 ∧
    (s.domOn 2 = true → t.frame = [] ∧ t.rods = [] ∧ t.rings = [] ∧ t.programs = []) ∧
    (s.domOn 7 = true → (∀ n, n < 24 → t.fb F.SOL_CTL_EN n = false) ∧
      ∀ n, n < 32 → maskBit (s.rd R.SYS_RHT_LSW) n = true → s.fb F.SYS_STAT_SS = false →
        maskBit (t.rd R.SYS_HELD) n = true ∧ t.fb F.LSW_STAT_ON n = s.fb F.LSW_STAT_ON n) ∧
    t.sto.commit = none ∧ t.sto.load = none ∧ t.sto.bankA = s.sto.bankA ∧ t.sto.bankB = s.sto.bankB ∧
    t.sto.keyA = s.sto.keyA ∧ t.sto.keyB = s.sto.keyB ∧
    (∀ b, newestBank s.sto = some b → t.sto.work = b.cells.filter fun c => decide (0x400000 ≤ c.1)) ∧
    t.tbNow = s.tbNow ∧ t.elapsed = s.elapsed ∧ t.sys.wdtArmed = false ∧ t.sys.resume = false ∧
    t.sys.boot = !s.sys.inReset ∧ t.pd 2 = bit (!s.sys.inReset) ∧
    (s.sys.inReset = false →
      t.sys.toCommission = (s.sys.commission || (newestBank s.sto).isNone || s.sto.newestKey.isNone))

end Sys2Proof.Claims

/-- Every reset records its cause and passes through Boot as R552 says; kicks, power loss, power-on and the end of boot do what their rules state. The model's own choices and readings in it: log entries 16, 96, 97, 107, 115, 159, 180. -/
def Obligations.ResetsBootAndPower : Prop :=
  (∀ s : State, s.domOn 0 = true → s.sys.powered = true →
    (cmdAhead s = s → s.sys.inReset = false → runsTo (.sysCmdReset .host) s fun t => resetDone s t 4 false) ∧
    (∀ w, cmdAhead s = s → w ≠ Writer.host → runsTo (.sysCmdReset w) s fun t => t.fb F.SYS_STAT_REFUSED = true ∧
      quiet noRegs (fun a => a = R.SYS_CMD.addr ∨ a = R.SYS_STAT.addr) s t) ∧
    (∀ t0, s.sys.resetLow = some t0 → s.sys.inReset = false →
      (t0 + 10000 ≤ s.elapsed → runsTo .externalReset s fun t => t.sys.inReset = true ∧
        resetDone { s with sys := { s.sys with inReset := true } } t 2 false) ∧
      (s.elapsed < t0 + 10000 → exec .externalReset s = .next s)) ∧
    (s.sys.inReset = true → runsTo .resetNRelease s fun t => t.sys.inReset = false ∧ t.sys.resetLow = none ∧ t.sys.boot = true ∧
      (s.pd 2 = 0 → t.pd 2 = 1) ∧ t.mode = s.mode) ∧
    (s.sys.inReset = false → runsTo .resetNRelease s fun t => t = { s with sys := { s.sys with resetLow := none } }) ∧
    (let last := s.sys.wdtAt
     let lo := s.f F.SYS_WDT_WDT_MIN * 1000000
     let hi := s.f F.SYS_WDT_WDT_MAX * 1000000
     (s.sys.wdtArmed = true → last + lo ≤ s.elapsed → s.elapsed < last + hi → runsTo .watchdogKick s fun t =>
       t.sys = { s.sys with wdtAt := s.elapsed } ∧ quiet noSys (fun a => a = R.SYS_WDTKICK.addr) s t) ∧
     (s.sys.wdtArmed = true → s.elapsed < last + lo → s.sys.inReset = false → runsTo .watchdogKick s fun t =>
       resetDone s t 3 true) ∧
     (s.sys.wdtArmed = false → runsTo .watchdogKick s fun t => quiet noRegs (fun a => a = R.SYS_WDTKICK.addr) s t) ∧
     (s.sys.wdtArmed = true → last + hi ≤ s.elapsed → s.sys.inReset = false → runsTo .watchdogExpiry s fun t =>
       resetDone s t 3 false) ∧
     (s.elapsed < last + hi → exec .watchdogExpiry s = .next s))) ∧
  (∀ (r : Fin 16) (s : State) (pr : Program), s.sys.powered = true → tabFind s.programs r = some pr → pr.policy = 2 →
    (∀ (cls code : Nat) (epc eaddr : Word), pr.excEntry = 0 ∨ (s.rod r).inHandler = true →
      resetDone s (raise s r cls code epc eaddr) 5 false r) ∧
    ∀ (p : Fin 18) (q : Nat), s.domOn 2 = true → p.val ∉ s.sto.umap.rods → s.migration = none → s.physOf r = p →
      (∀ k < 16, k ≠ r.val → s.physOf k ≠ p) → freeRod s q → s.rodSt r = rodRunning →
      runsTo (.rodFail p) s fun t => resetDone s t 5 false r) ∧
  (∀ (mv : BitVec 16) (t0 : Nat) (s : State), s.sys.powered = true → s.sys.vlogLow = some t0 → t0 + 100000 ≤ s.elapsed →
    s.sto.commit = none → runsTo (.vlogLost mv) s fun t =>
      let l := s.rd R.STO_LOGHEAD + word (s.logQueue.length + 1)
      let r : LogRec := ⟨2, s.tbNow, [mv.setWidth 32, s.rd R.STO_LAST]⟩
      t.sys.powered = false ∧ (∀ n, n < 8 → t.pd n = 0) ∧ t.fb F.SYS_STAT_FIRE = false ∧ t.logQueue = [] ∧
        t.rd R.STO_LOGHEAD = l ∧ tabFind t.sto.log l.toNat = some ⟨r, logCrc l.toNat r⟩ ∧
        t.sto.bankA = s.sto.bankA ∧ t.sto.bankB = s.sto.bankB ∧ t.sto.marks = s.sto.marks) ∧
  (∀ s : State, s.sys.powered = false → runsTo .powerOn s fun t =>
    t.sys.powered = true ∧ t.sys.boot = true ∧ t.mode = 0 ∧ t.f F.SYS_RCAUSE_KIND = 1 ∧ t.f F.SYS_RCAUSE_COUNT = 0 ∧
      t.pd 0 = 2 ∧ t.pd 2 = 1 ∧ (∀ n ∈ [1, 3, 4, 5, 6, 7], t.pd n = 0) ∧ t.fb F.SYS_STAT_SS = true ∧
      t.fb F.SYS_STAT_SS_DISC = false ∧ t.sys.stopAAt = s.elapsed ∧ t.sys.stopBAt = s.elapsed ∧ t.tbNow = 0 ∧
      t.frame = [] ∧ t.rods = [] ∧ t.rings = [] ∧ t.pending = s.pending ∧ t.sto.bankA = s.sto.bankA ∧ t.sto.bankB = s.sto.bankB ∧
      t.sto.keyA = s.sto.keyA ∧ t.sto.keyB = s.sto.keyB ∧ t.sto.log = s.sto.log ∧ t.sto.marks = s.sto.marks ∧
      (s.sto.mapClr = true → t.sto.umap = {}) ∧ (s.sto.mapClr = false → t.sto.umap = s.sto.mapRecs.now UnitMap.bytes {})) ∧
  ∀ s : State, s.sys.boot = true → (∀ n, 1 ≤ n → n < 8 → s.domOn n = true) →
    let critical := s.fb F.SYS_STAT_CRIT = true ∨ s.sys.critRec = true
    let image := fun (b : Bank) => b.cells.filter fun c => decide (c.1 < 0x400000)
    (s.sys.toCommission = true → runsTo .bootComplete s fun t =>
      modeEntered t 1 ∧ t.sys.boot = false ∧ t.sys.written = false ∧ t.programs = s.programs) ∧
    (s.sys.toCommission = false → runsTo .bootComplete s fun t =>
      t.mode = (if critical then 6 else 2) ∧ t.sys.boot = false ∧ t.sys.hostAt = s.elapsed ∧
        t.sys.wdtArmed = s.fb F.SYS_SAFECFG_WDT_EN ∧ t.sys.wdtAt = s.elapsed ∧
        (∀ b, newestBank s.sto = some b → imageOk (image b) none = true →
          t.programs = (imagePrograms (image b)).foldl (fun u p => tabPut u p.1 p.2) [] ∧
            ∀ n, n < 32 → t.nat R.CRG_BASE n = (imageRing (image b) n).1 ∧
              ((imageRing (image b) n).2 % 2 = 1 → t.fb F.CRG_CFG_EN n = true)) ∧
        (∀ b, newestBank s.sto = some b → imageOk (image b) none = false → t.programs = []))

namespace Sys2Proof.Claims

open Sys2Proof.Machine

--#
/-! ### FIRE_PERMIT, SAFE_STOP_N, holds and discrete inputs -/

/-- The conditions of R541, FIRE_DLY apart. -/
def fireAllowed (s : State) : Prop :=
  let names := fun (n : Nat) => if n < 32 then maskBit (s.rd R.SYS_FIREMASK_LO) n = true
    else maskBit (s.rd R.SYS_FIREMASK_HI) (n - 32) = true
  (s.mode = 3 ∨ s.mode = 4) ∧ s.fb F.SYS_FIRECTL_EN = true ∧ (∃ n, n < 64 ∧ names n) ∧
    (∀ n, n < 64 → names n → s.fb F.LPE_STAT_FIRE_REQ n = true) ∧
    (s.fb F.FAN_AFSTAT_AIRFLOW_OK = true ∨ s.fb F.SYS_SAFECFG_FIRE_AF = false) ∧ s.fb F.SYS_STAT_SS = false ∧
    s.fb F.SYS_STAT_CRIT = false

end Sys2Proof.Claims

/-- FIRE_PERMIT asserts only after FIRE_DLY of all its conditions and opens with the first that fails; SAFE_STOP_N turns every power output off. The model's own choices and readings in it: log entry 159. -/
def Obligations.FirePermitAndSafeStop : Prop :=
  ∀ s : State,
    let x := s.sys
    let alive := s.pd 0 = 2
    let fire := s.fb F.SYS_STAT_FIRE = true
    let stat := fun (a : Nat) => a = R.SYS_STAT.addr
    (∀ t0, x.fireSince = some t0 → ¬ fire →
      let due := t0 + s.f F.SYS_SAFECFG_FIRE_DLY * 1000000 ≤ s.elapsed
      (fireAllowed s → due → runsTo .firePermitAssert s fun t => t.fb F.SYS_STAT_FIRE = true ∧ noisy noRegs stat s t) ∧
        (¬ due ∨ ¬ fireAllowed s → exec .firePermitAssert s = .next s)) ∧
    (s.domOn 0 = true → s.mode ≠ 6 → ¬ fire → runsTo (.firectlEnable true) s fun t => t.fb F.SYS_FIRECTL_EN = true ∧
      (fireAllowed t → t.sys.fireSince = some (x.fireSince.getD s.elapsed)) ∧ (¬ fireAllowed t → t.sys.fireSince = none) ∧
      t.sys = { x with fireSince := t.sys.fireSince } ∧ quiet noSys (fun a => a = R.SYS_FIRECTL.addr) s t) ∧
    (s.domOn 0 = true → s.mode = 6 → runsTo (.firectlEnable true) s (sysRefuses s)) ∧
    (s.domOn 0 = true → fire → runsTo (.firectlEnable false) s fun t => t.fb F.SYS_FIRECTL_EN = false ∧
      t.fb F.SYS_STAT_FIRE = false ∧ t.fb F.SYS_STAT_FIREDROP_SEEN = true ∧ t.sys.fireSince = none ∧
      (s.domOn 7 = true → ∀ n, n < 24 → s.solClassS n = true → s.solOdd n = false → t.fb F.SOL_STAT_ON n = false)) ∧
    (∀ b : Bool,
      let since := if b then x.stopBAt else x.stopAAt
      let due := since + s.f F.SYS_SAFECFG_SS_FILT * 1000 ≤ s.elapsed
      let low := fun (t : State) => (if b then t.sys.lowB else t.sys.lowA) = true
      alive → resetsAhead s = s → (if b then x.stopB else x.stopA) = false → (if b then x.lowB else x.lowA) = false →
        (due → s.fb F.SYS_STAT_SS = false → runsTo (.safeStopAssert b) s fun t => low t ∧ t.fb F.SYS_STAT_SS = true ∧
          t.fb F.SYS_STAT_SS_SEEN = true ∧ t.fb F.SYS_STAT_FIRE = false ∧ t.mode = s.mode ∧
          (s.domOn 7 = true →
            (∀ n, n < 24 → t.fb F.SOL_CTL_EN n = false ∧ (s.solOdd n = false → t.fb F.SOL_STAT_ON n = false)) ∧
            (∀ n, n < 32 → t.fb F.LSW_CTL_EN n = false ∧ t.fb F.LSW_STAT_ON n = false ∧ maskBit (t.rd R.SYS_HELD) n = false) ∧
            (∀ n, n < 8 → t.fb F.MTR_CTL_EN n = false ∧ (s.axis n ≤ 4 → t.axis n = 0) ∧ maskBit (t.rd R.SYS_HELDM) n = false))) ∧
        (due → s.fb F.SYS_STAT_SS = true → runsTo (.safeStopAssert b) s fun t => low t ∧ quiet noSys noneElse s t) ∧
        (¬ due → exec (.safeStopAssert b) s = .next s)) ∧
    (let due := max x.stopAAt x.stopBAt + 50000000 ≤ s.elapsed
     alive → resetsAhead s = s → s.fb F.SYS_STAT_SS = true → s.fb F.SYS_STAT_SS_DISC = false → x.stopA = true → x.stopB = true → ¬ fire →
       (due → runsTo .safeStopRelease s fun t => t.fb F.SYS_STAT_SS = false ∧ noisy noSys stat s t) ∧
       (¬ due → exec .safeStopRelease s = .next s)) ∧
    (resetsAhead s = s → x.stopA = false ∨ x.stopB = false ∨ s.fb F.SYS_STAT_SS_DISC = true → exec .safeStopRelease s = .next s) ∧
    (∀ t0, alive → x.discFrom = some t0 →
      (t0 + 500000000 < s.elapsed → runsTo .ssDiscrepancy s fun t => t.fb F.SYS_STAT_SS_DISC = true ∧ quiet noRegs stat s t) ∧
      (s.elapsed ≤ t0 + 500000000 → exec .ssDiscrepancy s = .next s)) ∧
    (s.domOn 0 = true → x.stopA = true → x.stopB = true → runsTo .ssDiscClear s fun t =>
      t.fb F.SYS_STAT_SS_DISC = false ∧ quiet noRegs (fun a => stat a ∨ a = R.SYS_CLR.addr) s t) ∧
    (s.domOn 0 = true → x.stopA = false ∨ x.stopB = false → runsTo .ssDiscClear s (sysRefuses s))

/-- Holds end by release and time limit; contacts, filtered inputs, counts and doorbells follow R558; VLOG below 9.0 V is noted. The model's own choices and readings in it: log entries 107, 155, 177. -/
def Obligations.HoldsEndAndInputsCount : Prop :=
  ∀ s : State,
    let running := 2 ≤ s.mode ∧ s.mode ≤ 5
    let only := fun (x : SysX) (p : Nat → Prop) (t : State) => t.sys = x ∧ quiet noSys p s t
    let calm := s.fb F.SYS_STAT_FIRE = false
    (s.domOn 0 = true →
      (∀ v : BitVec 32, running → runsTo (.holdRelease v) s fun t =>
        (∀ n, n < 32 → maskBit (t.rd R.SYS_HELD) n = (maskBit (s.rd R.SYS_HELD) n && !v.getLsbD n)) ∧
          ((∀ n, n < 32 → s.f F.LSW_STAT_CMD n = 1 → s.fb F.LSW_STAT_ON n = true) →
            noisy noRegs (fun a => a = R.SYS_HELD.addr ∨ a = R.SYS_HREL.addr) s t) ∧
          (∀ n, n < 32 → maskBit (s.rd R.SYS_HELD) n = true → v.getLsbD n = true → s.f F.LSW_STAT_CMD n = 1 →
            lswBlocked t n = false → t.fb F.LSW_STAT_ON n = true)) ∧
      (∀ v : BitVec 32, ¬ running → v ≠ 0 → runsTo (.holdRelease v) s (sysRefuses s)) ∧
      (∀ v : BitVec 8, running → runsTo (.holdReleaseAxis v) s fun t =>
        (∀ n, n < 8 → s.hasAxis n = true → maskBit (t.rd R.SYS_HELDM) n = (maskBit (s.rd R.SYS_HELDM) n && !v.getLsbD n)) ∧
          noisy noMtr (fun a => a = R.SYS_HELDM.addr ∨ a = R.SYS_HRELM.addr) s t) ∧
      (∀ v : BitVec 8, ¬ running → (∃ n, n < 8 ∧ s.hasAxis n = true ∧ v.getLsbD n = true) →
        runsTo (.holdReleaseAxis v) s (sysRefuses s)) ∧
      (∀ v : BitVec 4, runsTo (.countClear v) s fun t =>
        (∀ n, n < 4 → t.rd R.DIO_CNT n = if v.getLsbD n then 0 else s.rd R.DIO_CNT n) ∧
          (∀ n, n < 4 → v.getLsbD n = true → t.ageFrom (0x900 + n) = s.elapsed) ∧
          quiet (fun u => { u with regs := [], ageBase := [], pubs := [] })
            (fun a => a = R.DIO_CNTCLR.addr ∨ ∃ n, n < 4 ∧ a = R.DIO_CNT.addr n) s t)) ∧
    (∀ n : Fin 32, s.domOn 7 = true → maskBit (s.rd R.SYS_HELD) n = true →
      let due := (s.lswX n).holdAt + s.f F.SYS_RHT_TIME_HOLD_MAX * 1000000000 ≤ s.elapsed
      (due → runsTo (.holdMaxExpiry n) s fun t => maskBit (t.rd R.SYS_HELD) n = false ∧ t.fb F.LSW_CTL_EN n = false ∧
        t.fb F.LSW_STAT_ON n = false ∧ t.f F.LSW_STAT_CMD n = 0 ∧ (∀ m, m ≠ n.val → t.lswX m = s.lswX m) ∧
        noisy (fun u => { u with regs := [], lsw := [] })
          (fun a => a = R.SYS_HELD.addr ∨ a = R.LSW_CTL.addr n ∨ a = R.LSW_STAT.addr n) s t) ∧
      (¬ due → exec (.holdMaxExpiry n) s = .next s)) ∧
    (∀ n : Fin 8, s.domOn 7 = true → maskBit (s.rd R.SYS_HELDM) n = true →
      let k := s.f F.SYS_RHT_TIME_RUNON_MAX
      let due := k ≠ 0 ∧ (s.mtrX n).holdAt + k * 1000000000 ≤ s.elapsed
      (due → runsTo (.runonMaxExpiry n) s fun t => maskBit (t.rd R.SYS_HELDM) n = false ∧ t.fb F.MTR_CTL_EN n = false ∧
        (s.axis n ≤ 4 → t.axis n = 0 ∧ (t.mtrX n).gates = if mtrHoldOff s n then 0 else s.f F.MTR_CTL_STOPMODE n) ∧
        (∀ m, m ≠ n.val → t.mtrX m = s.mtrX m) ∧
        (calm → noisy (fun u => { u with regs := [], mtr := [], fan := {}, sys := {} }) (fun a =>
          a = R.SYS_HELDM.addr ∨ a = R.MTR_CTL.addr n ∨ a = R.MTR_STAT.addr n ∨ a = R.FAN_AFSTAT.addr) s t)) ∧
      (¬ due → exec (.runonMaxExpiry n) s = .next s)) ∧
    (∀ (n : Fin 16) (high : Bool),
      let d := s.dioX n
      (d.contact = high → exec (.discreteInputEdge (.contact (.input n) high)) s = .next s) ∧
      (d.contact ≠ high → runsTo (.discreteInputEdge (.contact (.input n) high)) s fun t =>
        t.dioX n = { d with contact := high, since := s.elapsed } ∧ (∀ m, m ≠ n.val → t.dioX m = s.dioX m) ∧
          only { s.sys with dio := t.sys.dio } noneElse t)) ∧
    (∀ high : Bool,
      let edge := fun (p : Pin) => Instr.discreteInputEdge (.contact p high)
      (s.sys.stopA ≠ high → runsTo (edge .stopA) s fun t => t.sys.stopA = high ∧ t.sys.stopAAt = s.elapsed ∧
        (high = true → t.sys.lowA = false) ∧ t.sys.stopB = s.sys.stopB ∧ t.sys.lowB = s.sys.lowB ∧ quiet noSys noneElse s t) ∧
      (s.sys.stopB ≠ high → runsTo (edge .stopB) s fun t => t.sys.stopB = high ∧ t.sys.stopBAt = s.elapsed ∧
        (high = true → t.sys.lowB = false) ∧ t.sys.stopA = s.sys.stopA ∧ t.sys.lowA = s.sys.lowA ∧ quiet noSys noneElse s t) ∧
      runsTo (edge .commission) s (only { s.sys with commission := high } noneElse) ∧
      (s.sys.wakeLow = none → runsTo (edge .wakeN) s
        (only { s.sys with wakeLow := if high then none else some s.elapsed } noneElse)) ∧
      (high = false → s.sys.resetLow = none → runsTo (edge .resetN) s
        (only { s.sys with resetLow := some s.elapsed } noneElse))) ∧
    (∀ n : Fin 16, s.pd 0 = 2 →
      let d := s.dioX n
      let due := d.contact ≠ d.state ∧ d.since + s.f F.DIO_CFG_FILT n * 10000 ≤ s.elapsed
      let edge := if d.contact != s.fb F.DIO_CFG_INV n then 1 else 2
      let counts := n.val < 4 ∧ s.f F.DIO_CFG_CEDGE n &&& edge ≠ 0
      let rings := s.domOn 2 = true ∧ s.f F.DIO_CFG_DEDGE n &&& edge ≠ 0
      let rod := s.f F.DIO_CFG_ROD n
      (due → runsTo (.discreteInputEdge (.filtered n)) s fun t =>
        t.dioX n = { d with state := d.contact } ∧ (∀ m, m ≠ n.val → t.dioX m = s.dioX m) ∧
          (counts → t.rd R.DIO_CNT n = s.rd R.DIO_CNT n + 1 ∧ t.ageFrom (0x900 + n) = s.elapsed) ∧
          (¬ counts → n.val < 4 → t.rd R.DIO_CNT n = s.rd R.DIO_CNT n ∧ t.ageFrom (0x900 + n) = s.ageFrom (0x900 + n)) ∧
          (∀ b, b < 16 → maskBit (t.rd R.FRM_DOORBELL rod) b = (maskBit (s.rd R.FRM_DOORBELL rod) b ||
            (decide rings && decide (b = s.f F.DIO_CFG_DB n)))) ∧
          t.sys = { s.sys with dio := t.sys.dio } ∧
          quiet (fun u => { u with regs := [], sys := {}, ageBase := [], pubs := [] })
            (fun a => (n.val < 4 ∧ a = R.DIO_CNT.addr n) ∨ a = R.FRM_DOORBELL.addr rod) s t) ∧
      (¬ due → exec (.discreteInputEdge (.filtered n)) s = .next s)) ∧
    (s.sys.powered = true → s.sys.vlogLow = none →
      runsTo .vlogHoldOff s fun t => only { s.sys with vlogLow := some s.elapsed } noneElse t ∧ attnOn t = false ∧
        ∀ n, solOut t n = false ∧ lswOut t n = false ∧ gatesOut t n = 0) ∧
    runsTo .vlogHoldOffEnd s (only { s.sys with vlogLow := none } noneElse)

namespace Sys2Proof.Claims

open Sys2Proof.Machine

--#
/-! ### Registers, reset and memory -/

/-- The registers a write of which does more than lay its fields down, apart from those of the loop engine. -/
def actingRegs : List Reg := [.CRG_CFG, .SYS_PDCTL, .KEY, .FRM_DOORBELL, .PFE_CH_RANGE, .SOL_CTL, .SOL_CLASS_S, .LSW_CTL,
  .MTR_CTL, .FAN_AF, .STO_UDATA, .FRM_RCTL, .DFE_CH_CTL, .DFE_EXC_PLAN, .PFE_CH_CTL, .TRC_CTL, .SOL_CMD, .SOL_BCTL,
  .SOL_CLR, .LSW_CMD, .LSW_CLR, .LSW_GRCTL, .MTR_CMD, .MTR_CLR, .CAN_CTL, .CAN_TXB, .CAN_TXREQ, .CAN_TXCANCEL,
  .CAN_RXREL_LO, .CAN_RXREL_HI, .CAN_RECOVER, .TTS_CTL, .TIM_DISC, .COL_CMD, .NETH_CTL, .HLT_MAPCLR, .STO_CTL, .SYS_CMD,
  .SYS_SAFECFG, .SYS_FIREMASK_LO, .SYS_FIREMASK_HI, .SYS_FIRECTL, .SYS_WDTKICK, .SYS_HREL, .SYS_HRELM, .SYS_CLR,
  .DIO_CNTCLR, .DIO_CFG]

/-- The register `d` is none of those. -/
def plainReg (d : RegDesc) : Prop := d.id ∉ actingRegs ∧ (d.base < 0x20000000 ∨ 0x20180000 ≤ d.base)

/-- A write may change the field `fd` of `d` from `old` to what `v` holds (R9, R10, R572): it is read-only, a one-shot or
write-1-to-clear bit, or as before, or its unit is open, its mode Commission where it must be, and its value in range. -/
def fieldMay (s : State) (d : RegDesc) (i j : Nat) (old v : Word) (fd : FieldDesc) : Prop :=
  let new := bits v fd.hi fd.lo
  new = bits old fd.hi fd.lo ∨ match fd.acc with
    | .rw => chkOk s fd.chk new (fd.hi + 1 - fd.lo) = true
    | .rwl => rwlOpen s d i j = true ∧ chkOk s fd.chk new (fd.hi + 1 - fd.lo) = true
    | .rwc => s.mode = 1 ∧ chkOk s fd.chk new (fd.hi + 1 - fd.lo) = true
    | .ro | .wo | .w1c | .w1s => True

/-- The fields of one register do not overlap. -/
def fieldsApart (d : RegDesc) : Prop :=
  (∀ fd ∈ d.fields, fd.lo ≤ fd.hi ∧ fd.hi < 32) ∧ d.fields.Pairwise fun x y => x.hi < y.lo ∨ y.hi < x.lo

/-- The refusal flags of the units of PD0 (R10, R530, R528, R438, R560, R562). -/
def pd0Flag (a : Nat) : Fld :=
  if a < 0x10010000 then F.SYS_STAT_REFUSED else if a < 0x10020000 then F.HLT_STAT_REFUSED
  else if a < 0x10030000 then F.STO_STAT_REFUSED else if a < 0x10040000 then F.TIM_STAT_REFUSED else F.DIO_STAT_REFUSED

/-- The refusal flag of the unit that a register at `a` belongs to (R10), the loop engine's apart. -/
def unitFlag (a : Nat) : Fld :=
  if a < 0x11000000 then pd0Flag a else if a < 0x11010000 then F.FRM_RSTAT_REFUSED else if a < 0x20000000 then F.CRG_STAT_REFUSED
  else if a < 0x30000000 then F.TRC_STAT_REFUSED else if a < 0x30008000 then F.PFE_CH_STAT_REFUSED
  else if a < 0x31000000 then F.PFE_GSTAT_XREFUSED else if a < 0x31001000 then F.DFE_GSTAT_XREFUSED
  else if a < 0x32000000 then F.DFE_CH_STAT_REFUSED else if a < 0x40000000 then F.CRV_STAT_REFUSED
  else if a < 0x40001000 then F.SOL_GSTAT_XREFUSED else if a < 0x41000000 then F.SOL_STAT_REFUSED
  else if a < 0x41001000 then F.LSW_GSTAT_XREFUSED else if a < 0x42000000 then F.LSW_STAT_REFUSED
  else if a < 0x43000000 then F.MTR_STAT_REFUSED else if a < 0x50000000 then F.FAN_GSTAT_REFUSED
  else if a < 0x50100000 then F.CAN_STAT_REFUSED else if a < 0x51000000 then F.TTS_STAT_REFUSED
  else if a < 0x60000000 then F.COL_GSTAT_REFUSED else if a < 0x61000000 then F.NETH_STAT_REFUSED else F.NETL_STAT_REFUSED

/-- The instance of that flag for instance `i` of the register: a flag of the whole unit has one. -/
def unitFlagOf (a i : Nat) : Nat :=
  if unitFlag a ∈ [F.FRM_RSTAT_REFUSED, F.CRG_STAT_REFUSED, F.TRC_STAT_REFUSED, F.PFE_CH_STAT_REFUSED, F.DFE_CH_STAT_REFUSED,
    F.SOL_STAT_REFUSED, F.LSW_STAT_REFUSED, F.MTR_STAT_REFUSED, F.CAN_STAT_REFUSED, F.TTS_STAT_REFUSED, F.NETL_STAT_REFUSED]
  then i else 0

/-- A write in the pools of the loop engine. -/
def poolReg (d : RegDesc) : Prop := 0x20180000 ≤ d.base ∧ d.base < 0x21000000

/-- A host's write of the word `v` at address `a` is the command `c`, where no command of its step comes before. -/
def writeIs (s : State) (a : Nat) (v : Word) (c : Instr) : Prop :=
  let w := Instr.registerWrite .host (BitVec.ofNat 32 a) v
  inFront w s → inFront c s → exec w s = exec c s

/-- Commands of the table that are one register write of the host (R113). -/
def writesAreCommands (s : State) (v : Word) : Prop :=
  (∀ r : Fin 16, writeIs s (R.FRM_RCTL.addr r) 1 (.rodStart r) ∧ writeIs s (R.FRM_RCTL.addr r) 2 (.rodStop r)) ∧
    (∀ n : Fin 48, writeIs s (R.PFE_CH_RANGE.addr n) v (.pfeRangeWrite n v)) ∧
    (∀ (n : Fin 64) (k : Fin 1024), writeIs s (R.COEF.addr n k) v (.coeffWrite n k false v) ∧
      writeIs s (R.COEFS.addr n k) v (.coeffWrite n k true v)) ∧
    (∀ (n : Fin 64) (j : Fin 4), writeIs s (R.LPE_MAN.addr n j) v (.lpeManWrite n j v) ∧
      writeIs s (R.LPE_REF.addr n j) v (.lpeRefWrite n j v)) ∧
    (∀ t : Fin 16384, writeIs s (R.DLPOOL.addr t) v (.dlPoolWrite t v)) ∧
    (∀ e : Fin 65536, writeIs s (R.RCPOOL.addr e) v (.rcPoolWrite e v)) ∧
    (∀ n : Fin 32, writeIs s (R.LSW_CMD.addr n) 1 (.lswCmdOff n) ∧ writeIs s (R.LSW_CMD.addr n) 2 (.lswCmdOn n) ∧
      writeIs s (R.LSW_CMD.addr n) 3 (.lswCmdPwm n)) ∧
    (∀ n : Fin 8, writeIs s (R.MTR_CMD.addr n) v (.mtrCmdWrite n v)) ∧
    (∀ n : Fin 6, writeIs s (R.CAN_TXREQ.addr n) v (.canTxreq n v) ∧ writeIs s (R.CAN_TXCANCEL.addr n) v (.canTxcancel n v) ∧
      writeIs s (R.CAN_RXREL_LO.addr n) v (.rxReleaseWrite n false v) ∧
      writeIs s (R.CAN_RXREL_HI.addr n) v (.rxReleaseWrite n true v) ∧ writeIs s (R.CAN_RECOVER.addr n) 1 (.canRecover n)) ∧
    writeIs s R.STO_UDATA.addr v (.stoUdataAccess (some v)) ∧ writeIs s R.STO_CTL.addr 1 .stoCommit ∧
    writeIs s R.STO_CTL.addr 2 .stoLogw ∧ writeIs s R.SYS_PDCTL.addr v (.domainSwitch v) ∧
    writeIs s R.SYS_HREL.addr v (.holdRelease v) ∧ writeIs s R.SYS_WDTKICK.addr 1 .watchdogKick ∧
    ∀ c ∈ [((1 : Word), Instr.sysCmdReady .host), (2, .sysCmdBatch .host), (3, .sysCmdFlow .host), (4, .sysCmdStore .host),
      (5, .sysCmdDormant .host), (6, .sysCmdHold .host), (7, .sysCmdReset .host)], writeIs s R.SYS_CMD.addr c.1 c.2

end Sys2Proof.Claims

/-- A register write completes: it changes exactly the fields it may under their access codes, enters the store where stored, or is refused as a whole. The model's own choices and readings in it: log entries 31, 108, 123, 166, 179. -/
def Obligations.RegisterWritesLayFieldsDown : Prop :=
  (∀ (who : Writer) (a v : BitVec 32) (s : State), inFront (.registerWrite who a v) s →
    exec (.registerWrite who a v) s = .next (writeAddr who (match who with
      | .host => a.toNat
      | .rod r => ownWindow r a.toNat) v s)) ∧
  (∀ (v : Word) (s : State), writesAreCommands s v) ∧
  (∀ (a i j : Nat) (d : RegDesc), regFind a = some (d, i, j) → fieldsApart d) ∧
  (∀ (r : Fin 16) (a v : BitVec 32) (s : State), 0x1100F000 ≤ a.toNat → a.toNat < 0x1100F100 →
    let own := Instr.registerWrite (.rod r) (BitVec.ofNat 32 (0x11001000 + 0x100 * r.val + (a.toNat - 0x1100F000))) v
    inFront (.registerWrite (.rod r) a v) s → inFront own s → exec (.registerWrite (.rod r) a v) s = exec own s) ∧
  ∀ (who : Writer) (a v : BitVec 32) (s : State), curveAt a.toNat = none →
    (∀ r : Fin 16, who = .rod r → ¬ (0x1100F000 ≤ a.toNat ∧ a.toNat < 0x1100F100)) →
    (regFind a.toNat = none → goesTo (.registerWrite who a v) s (· = s)) ∧
    ∀ (d : RegDesc) (i j : Nat), regFind a.toNat = some (d, i, j) →
      let old := s.rd d i j
      let v' := regBits s d i v
      let may := ∀ fd ∈ d.fields, fieldMay s d i j old v' fd
      (solOddEnable s d i v = false →
        s.domOn (domainOf a.toNat) = false ∨ regAbsent s d a.toNat i = true ∨ regHidden s d i j = true →
        goesTo (.registerWrite who a v) s (· = s)) ∧
      (solOddEnable s d i v = true → goesTo (.registerWrite who a v) s fun t =>
        t.fb F.SOL_STAT_REFUSED i = true ∧ quiet noRegs (fun k => k = R.SOL_STAT.addr i) s t) ∧
      (regDead s d a.toNat i j = false → plainReg d →
        (may → regRefuse s d i j old v' = false → goesTo (.registerWrite who a v) s fun t =>
          (∀ fd ∈ d.fields, ∀ b, fd.lo ≤ b → b ≤ fd.hi → maskBit (t.rd d i j) b = match fd.acc with
            | .rw | .rwl | .rwc => maskBit v' b
            | .w1c => maskBit old b && (!maskBit v' b || maskBit (tabGet 0 s.w1cSet a.toNat) b)
            | .ro | .wo | .w1s => maskBit old b) ∧
            (∀ b, (∀ fd ∈ d.fields, ¬ (fd.lo ≤ b ∧ b ≤ fd.hi)) → maskBit (t.rd d i j) b = maskBit old b) ∧
            (∀ off, storedOffset a.toNat = some off → Memory.wf s.sto.work = true →
              t.workWord off = t.rd d i j ∧ t.sys = { s.sys with written := true } ∧
                ∀ k, k < off ∨ off + 4 ≤ k → cellsGet t.sto.work k = cellsGet s.sto.work k) ∧
            (storedOffset a.toNat = none → keyField a.toNat = true →
              tabGet 0 t.sto.keyWork a.toNat = t.rd d i j ∧ t.sto.keyDirty = true ∧ t.sys = s.sys) ∧
            (storedOffset a.toNat = none → keyField a.toNat = false → t.sto = s.sto ∧ t.sys = s.sys) ∧
            quiet (fun u => { u with regs := [], sto := {}, sys := {}, lpe := if d.id = .RCPOOL then [] else u.lpe })
              (fun k => k = d.addr i j) s t) ∧
        (¬ may ∨ regRefuse s d i j old v' = true → goesTo (.registerWrite who a v) s fun t =>
          (¬ poolReg d → t.fb (unitFlag d.base) (unitFlagOf d.base i) = true ∧
            quiet noRegs (fun k => k = (unitFlag d.base).reg.addr (unitFlagOf d.base i)) s t) ∧
          (poolReg d → ∃ n < 64, t.fb F.LPE_STAT_REFUSED n = true ∧ noisy noRegs (fun k => k = R.LPE_STAT.addr n) s t)))

/-- After reset every memory is in canonical form and empty, every register holds its reset value, PD0 alone is on, the mode is Boot, and SAFE_STOP_N is asserted. The model's own choices and readings in it: log entries 3, 4, 13, 25. -/
def Obligations.ResetLeavesTheStatedState : Prop :=
  let s := State.reset
  s.pending = [] ∧ s.sent = [] ∧ s.memOk ∧ s.frame = [] ∧ s.tbNow = 0 ∧
    (∀ n, n < 8 → s.pd n = if n = 0 then 2 else 0) ∧ s.mode = 0 ∧ s.fb F.SYS_MODE_PEND = false ∧
    s.fb F.SYS_STAT_SS = true ∧ s.fb F.SYS_STAT_SS_DISC = false ∧ s.fb F.SYS_STAT_FIRE = false ∧
    s.f F.SYS_RCAUSE_KIND = 1 ∧ s.rd R.SYS_PDCTL = 0x7A ∧ s.rd R.SYS_WDT = 0x3E8 ∧ (∀ n, n < 16 → s.rd R.DIO_CFG n = 0x64) ∧
    ∀ (d : RegDesc) (i j : Nat), d.addr i j ≠ R.SYS_STAT.addr → d.addr i j ≠ R.SYS_PDSTAT.addr → s.rd d i j = d.reset

/-- Every step keeps every memory in its canonical form: equal memories are equal data in every state a run can reach. -/
def Obligations.MemoriesStayCanonical : Prop :=
  ∀ s t : State, s.memOk → step s = .next t → t.memOk
end

