-- ==== Sys2Proof/Laws/Base.lean ====
section
/-! SUPPORT. Sys2Proof/Laws/Base.lean: tables and bit fields read after they are written. -/

namespace Sys2Proof.Machine

/-! ### Tables -/

section
variable {α : Type}

theorem tabFind_tabPut (t : Tab α) (k k' : Nat) (v : α) :
    tabFind (tabPut t k v) k' = if k = k' then some v else tabFind t k' := by
  induction t with
  | nil => simp [tabPut, tabFind]
  | cons p t ih =>
    obtain ⟨a, b⟩ := p
    simp only [tabPut]
    split
    · subst_vars; simp only [tabFind]; split <;> rfl
    · split
      · simp only [tabFind]
      · simp only [tabFind, ih]
        split
        · rename_i h1 _ h2
          subst h2
          simp [Ne.symm h1]
        · rfl

@[simp] theorem tabFind_tabPut_same (t : Tab α) (k : Nat) (v : α) : tabFind (tabPut t k v) k = some v := by
  simp [tabFind_tabPut]

theorem tabFind_tabPut_ne {t : Tab α} {k k' : Nat} {v : α} (h : k ≠ k') :
    tabFind (tabPut t k v) k' = tabFind t k' := by
  simp [tabFind_tabPut, h]

@[simp] theorem tabGet_tabPut_same (d : α) (t : Tab α) (k : Nat) (v : α) : tabGet d (tabPut t k v) k = v := by
  simp [tabGet]

theorem tabGet_tabPut (d : α) (t : Tab α) (k k' : Nat) (v : α) :
    tabGet d (tabPut t k v) k' = if k = k' then v else tabGet d t k' := by
  unfold tabGet
  rw [tabFind_tabPut]
  split <;> rfl

theorem tabGet_tabPut_ne {d : α} {t : Tab α} {k k' : Nat} {v : α} (h : k ≠ k') :
    tabGet d (tabPut t k v) k' = tabGet d t k' := by
  simp [tabGet, tabFind_tabPut, h]

theorem tabFind_filter_keys (t : Tab α) (p : Nat → Bool) (k : Nat) :
    tabFind (t.filter (fun q => p q.1)) k = if p k then tabFind t k else none := by
  induction t with
  | nil => simp [tabFind]
  | cons q t ih =>
    obtain ⟨a, b⟩ := q
    by_cases h : p a <;> simp only [List.filter, h, tabFind, ih] <;> by_cases e : a = k <;> simp_all

theorem tabFind_tabDrop (t : Tab α) (k k' : Nat) :
    tabFind (tabDrop t k) k' = if k' = k then none else tabFind t k' := by
  unfold tabDrop
  rw [tabFind_filter_keys t (fun a => a != k)]
  by_cases h : k' = k <;> simp [h]

theorem tabFind_tabDropRange (t : Tab α) (lo hi k : Nat) :
    tabFind (tabDropRange t lo hi) k = if lo ≤ k ∧ k ≤ hi then none else tabFind t k := by
  unfold tabDropRange
  rw [tabFind_filter_keys t (fun a => !(decide (lo ≤ a) && decide (a ≤ hi)))]
  by_cases h : lo ≤ k ∧ k ≤ hi
  · simp [h]
  · by_cases h1 : lo ≤ k <;> simp_all

end

/-! ### Bit fields -/

theorem bits_lt (w : Word) (hi lo : Nat) : bits w hi lo < 2 ^ (hi + 1 - lo) := Nat.mod_lt _ (Nat.two_pow_pos _)

theorem testBit_bits (w : Word) (hi lo k : Nat) :
    (bits w hi lo).testBit k = (decide (k < hi + 1 - lo) && w.toNat.testBit (lo + k)) := by
  simp [bits, Nat.testBit_mod_two_pow, Nat.testBit_shiftRight]

/-- What a field write does to each bit. -/
theorem testBit_putBits (w : Word) {hi lo : Nat} (v : Nat) (h : lo ≤ hi) (k : Nat) :
    (putBits w hi lo v).toNat.testBit k =
      (decide (k < 32) && if lo ≤ k ∧ k ≤ hi then v.testBit (k - lo) else w.toNat.testBit k) := by
  have e : putBits w hi lo v = word (((w.toNat >>> (hi + 1)) <<< (hi + 1)) |||
      (((v % 2 ^ (hi + 1 - lo)) <<< lo) ||| (w.toNat % 2 ^ lo))) := by
    unfold putBits
    have h1 : w.toNat % 2 ^ lo < 2 ^ lo := Nat.mod_lt _ (Nat.two_pow_pos _)
    have h2 : v % 2 ^ (hi + 1 - lo) < 2 ^ (hi + 1 - lo) := Nat.mod_lt _ (Nat.two_pow_pos _)
    have h3 : (v % 2 ^ (hi + 1 - lo)) <<< lo ||| w.toNat % 2 ^ lo < 2 ^ (hi + 1) := by
      apply Nat.or_lt_two_pow
      · rw [Nat.shiftLeft_eq]
        calc _ < 2 ^ (hi + 1 - lo) * 2 ^ lo := Nat.mul_lt_mul_of_pos_right h2 (Nat.two_pow_pos _)
          _ = 2 ^ (hi + 1) := by rw [← Nat.pow_add]; congr 1; omega
      · exact lt_of_lt_of_le h1 (Nat.pow_le_pow_right (by omega) (by omega))
    rw [← Nat.shiftLeft_add_eq_or_of_lt h3, ← Nat.shiftLeft_add_eq_or_of_lt h1]
    rw [Nat.shiftLeft_eq, Nat.shiftLeft_eq]
    ac_rfl
  rw [e]
  simp only [BitVec.toNat_ofNat, Nat.testBit_mod_two_pow, Nat.testBit_or, Nat.testBit_shiftLeft,
    Nat.testBit_shiftRight]
  by_cases hk : k < 32
  · by_cases a : hi + 1 ≤ k
    · have b : ¬ (lo ≤ k ∧ k ≤ hi) := by omega
      have c : ¬ k < lo := by omega
      have d : ¬ (k - lo < hi + 1 - lo) := by omega
      have f : hi + 1 + (k - (hi + 1)) = k := by omega
      simp [hk, a, b, c, d, f]
    · by_cases b : lo ≤ k
      · have c : k ≤ hi := by omega
        have d : k - lo < hi + 1 - lo := by omega
        simp [hk, a, b, c, d]
      · have c : k < lo := by omega
        simp [hk, a, b, c]
  · simp [hk]

/-- A field read where it was written. -/
theorem bits_putBits_same (w : Word) {hi lo : Nat} (v : Nat) (h : lo ≤ hi) (h' : hi < 32) :
    bits (putBits w hi lo v) hi lo = v % 2 ^ (hi + 1 - lo) := by
  apply Nat.eq_of_testBit_eq
  intro k
  rw [testBit_bits, testBit_putBits _ _ h, Nat.testBit_mod_two_pow]
  by_cases hk : k < hi + 1 - lo
  · have a : lo + k < 32 := by omega
    have b : lo ≤ lo + k ∧ lo + k ≤ hi := by omega
    simp [hk, a, b]
  · simp [hk]

/-- A field beside the written one. -/
theorem bits_putBits_ne (w : Word) {hi lo hi' lo' : Nat} (v : Nat) (h : lo ≤ hi) (h' : hi' < 32)
    (d : hi' < lo ∨ hi < lo') : bits (putBits w hi lo v) hi' lo' = bits w hi' lo' := by
  apply Nat.eq_of_testBit_eq
  intro k
  rw [testBit_bits, testBit_bits, testBit_putBits _ _ h]
  by_cases hk : k < hi' + 1 - lo'
  · have a : lo' + k < 32 := by omega
    have b : ¬ (lo ≤ lo' + k ∧ lo' + k ≤ hi) := by omega
    simp only [hk, a, b, decide_true, Bool.true_and, if_false]
  · simp [hk]

/-- Setting one bit. -/
theorem putBits_one (w : Word) {n : Nat} (h : n < 32) : putBits w n n 1 = w ||| (1#32 <<< n) := by
  apply BitVec.eq_of_toNat_eq
  apply Nat.eq_of_testBit_eq
  intro k
  rw [testBit_putBits _ _ (Nat.le_refl _), ← BitVec.getLsbD, ← BitVec.getLsbD]
  simp only [BitVec.getLsbD_or, BitVec.getLsbD_shiftLeft, BitVec.getLsbD_one]
  by_cases hk : k < 32
  · by_cases e : k = n
    · subst e; simp [hk]
    · have b : ¬ (n ≤ k ∧ k ≤ n) := by omega
      have c : k < n ∨ ¬ (k - n = 0) := by omega
      rcases c with c | c
      · simp [hk, b, c]
      · simp [hk, b]; omega
  · have : w.getLsbD k = false := BitVec.getLsbD_of_ge w k (by omega)
    simp [hk, this]

/-! ### Folds -/

/-- What every step of a fold keeps, the fold keeps. -/
theorem foldN_keeps {σ : Type} {P : σ → Prop} {f : σ → Nat → σ} (n : Nat) (h : ∀ s k, k < n → P s → P (f s k)) :
    ∀ s, P s → P (foldN n f s) := by
  intro s hs
  unfold foldN
  have : ∀ (l : List Nat) s, (∀ k ∈ l, k < n) → P s → P (l.foldl f s) := by
    intro l
    induction l with
    | nil => intro s _ hs; exact hs
    | cons k l ih =>
      intro s hl hs
      exact ih _ (fun k hk => hl k (by simp [hk])) (h s k (hl k (by simp)) hs)
  exact this _ s (fun k hk => List.mem_range.mp hk) hs

end Sys2Proof.Machine
end

