-- ==== Sys2Proof/Laws/State.lean ====
section
/-! SUPPORT. Sys2Proof/Laws/State.lean: what every update of the state leaves, field by field, and what reads see of it. -/

namespace Sys2Proof.Machine

variable (s : State)

/-! ### wr -/

@[simp] theorem State.wr_pending (d : RegDesc) (v : Word) (i j : Nat) : (s.wr d v i j).pending = s.pending := rfl
@[simp] theorem State.wr_held (d : RegDesc) (v : Word) (i j : Nat) : (s.wr d v i j).held = s.held := rfl
@[simp] theorem State.wr_variant (d : RegDesc) (v : Word) (i j : Nat) : (s.wr d v i j).variant = s.variant := rfl
@[simp] theorem State.wr_tbNow (d : RegDesc) (v : Word) (i j : Nat) : (s.wr d v i j).tbNow = s.tbNow := rfl
@[simp] theorem State.wr_elapsed (d : RegDesc) (v : Word) (i j : Nat) : (s.wr d v i j).elapsed = s.elapsed := rfl
@[simp] theorem State.wr_fresh (d : RegDesc) (v : Word) (i j : Nat) : (s.wr d v i j).fresh = s.fresh := rfl
@[simp] theorem State.wr_w1cSet (d : RegDesc) (v : Word) (i j : Nat) : (s.wr d v i j).w1cSet = s.w1cSet := rfl
@[simp] theorem State.wr_frame (d : RegDesc) (v : Word) (i j : Nat) : (s.wr d v i j).frame = s.frame := rfl
@[simp] theorem State.wr_beadErr (d : RegDesc) (v : Word) (i j : Nat) : (s.wr d v i j).beadErr = s.beadErr := rfl
@[simp] theorem State.wr_rings (d : RegDesc) (v : Word) (i j : Nat) : (s.wr d v i j).rings = s.rings := rfl
@[simp] theorem State.wr_rods (d : RegDesc) (v : Word) (i j : Nat) : (s.wr d v i j).rods = s.rods := rfl
@[simp] theorem State.wr_programs (d : RegDesc) (v : Word) (i j : Nat) : (s.wr d v i j).programs = s.programs := rfl
@[simp] theorem State.wr_template (d : RegDesc) (v : Word) (i j : Nat) : (s.wr d v i j).template = s.template := rfl
@[simp] theorem State.wr_migration (d : RegDesc) (v : Word) (i j : Nat) : (s.wr d v i j).migration = s.migration := rfl
@[simp] theorem State.wr_migEnd (d : RegDesc) (v : Word) (i j : Nat) : (s.wr d v i j).migEnd = s.migEnd := rfl
@[simp] theorem State.wr_logQueue (d : RegDesc) (v : Word) (i j : Nat) : (s.wr d v i j).logQueue = s.logQueue := rfl
@[simp] theorem State.wr_sent (d : RegDesc) (v : Word) (i j : Nat) : (s.wr d v i j).sent = s.sent := rfl
@[simp] theorem State.wr_dfe (d : RegDesc) (v : Word) (i j : Nat) : (s.wr d v i j).dfe = s.dfe := rfl
@[simp] theorem State.wr_dfeSpare (d : RegDesc) (v : Word) (i j : Nat) : (s.wr d v i j).dfeSpare = s.dfeSpare := rfl
@[simp] theorem State.wr_pubs (d : RegDesc) (v : Word) (i j : Nat) : (s.wr d v i j).pubs = s.pubs := rfl
@[simp] theorem State.wr_ageBase (d : RegDesc) (v : Word) (i j : Nat) : (s.wr d v i j).ageBase = s.ageBase := rfl
@[simp] theorem State.wr_stepAt (d : RegDesc) (v : Word) (i j : Nat) : (s.wr d v i j).stepAt = s.stepAt := rfl
@[simp] theorem State.wr_steps (d : RegDesc) (v : Word) (i j : Nat) : (s.wr d v i j).steps = s.steps := rfl
@[simp] theorem State.wr_curves (d : RegDesc) (v : Word) (i j : Nat) : (s.wr d v i j).curves = s.curves := rfl
@[simp] theorem State.wr_pfe (d : RegDesc) (v : Word) (i j : Nat) : (s.wr d v i j).pfe = s.pfe := rfl
@[simp] theorem State.wr_pfeSpare (d : RegDesc) (v : Word) (i j : Nat) : (s.wr d v i j).pfeSpare = s.pfeSpare := rfl
@[simp] theorem State.wr_trc (d : RegDesc) (v : Word) (i j : Nat) : (s.wr d v i j).trc = s.trc := rfl
@[simp] theorem State.wr_lpe (d : RegDesc) (v : Word) (i j : Nat) : (s.wr d v i j).lpe = s.lpe := rfl
@[simp] theorem State.wr_sol (d : RegDesc) (v : Word) (i j : Nat) : (s.wr d v i j).sol = s.sol := rfl
@[simp] theorem State.wr_lsw (d : RegDesc) (v : Word) (i j : Nat) : (s.wr d v i j).lsw = s.lsw := rfl
@[simp] theorem State.wr_mtr (d : RegDesc) (v : Word) (i j : Nat) : (s.wr d v i j).mtr = s.mtr := rfl
@[simp] theorem State.wr_fan (d : RegDesc) (v : Word) (i j : Nat) : (s.wr d v i j).fan = s.fan := rfl
@[simp] theorem State.wr_can (d : RegDesc) (v : Word) (i j : Nat) : (s.wr d v i j).can = s.can := rfl
@[simp] theorem State.wr_tim (d : RegDesc) (v : Word) (i j : Nat) : (s.wr d v i j).tim = s.tim := rfl
@[simp] theorem State.wr_tts (d : RegDesc) (v : Word) (i j : Nat) : (s.wr d v i j).tts = s.tts := rfl
@[simp] theorem State.wr_col (d : RegDesc) (v : Word) (i j : Nat) : (s.wr d v i j).col = s.col := rfl
@[simp] theorem State.wr_net (d : RegDesc) (v : Word) (i j : Nat) : (s.wr d v i j).net = s.net := rfl
@[simp] theorem State.wr_sto (d : RegDesc) (v : Word) (i j : Nat) : (s.wr d v i j).sto = s.sto := rfl
@[simp] theorem State.wr_hlt (d : RegDesc) (v : Word) (i j : Nat) : (s.wr d v i j).hlt = s.hlt := rfl
@[simp] theorem State.wr_sys (d : RegDesc) (v : Word) (i j : Nat) : (s.wr d v i j).sys = s.sys := rfl

/-! ### setF -/

@[simp] theorem State.setF_pending (fl : Fld) (v i j : Nat) : (s.setF fl v i j).pending = s.pending := rfl
@[simp] theorem State.setF_held (fl : Fld) (v i j : Nat) : (s.setF fl v i j).held = s.held := rfl
@[simp] theorem State.setF_variant (fl : Fld) (v i j : Nat) : (s.setF fl v i j).variant = s.variant := rfl
@[simp] theorem State.setF_tbNow (fl : Fld) (v i j : Nat) : (s.setF fl v i j).tbNow = s.tbNow := rfl
@[simp] theorem State.setF_elapsed (fl : Fld) (v i j : Nat) : (s.setF fl v i j).elapsed = s.elapsed := rfl
@[simp] theorem State.setF_fresh (fl : Fld) (v i j : Nat) : (s.setF fl v i j).fresh = s.fresh := rfl
@[simp] theorem State.setF_w1cSet (fl : Fld) (v i j : Nat) :
    (s.setF fl v i j).w1cSet = markW1c s.w1cSet fl v (fl.reg.addr i j) := rfl
@[simp] theorem State.setF_frame (fl : Fld) (v i j : Nat) : (s.setF fl v i j).frame = s.frame := rfl
@[simp] theorem State.setF_beadErr (fl : Fld) (v i j : Nat) : (s.setF fl v i j).beadErr = s.beadErr := rfl
@[simp] theorem State.setF_rings (fl : Fld) (v i j : Nat) : (s.setF fl v i j).rings = s.rings := rfl
@[simp] theorem State.setF_rods (fl : Fld) (v i j : Nat) : (s.setF fl v i j).rods = s.rods := rfl
@[simp] theorem State.setF_programs (fl : Fld) (v i j : Nat) : (s.setF fl v i j).programs = s.programs := rfl
@[simp] theorem State.setF_template (fl : Fld) (v i j : Nat) : (s.setF fl v i j).template = s.template := rfl
@[simp] theorem State.setF_migration (fl : Fld) (v i j : Nat) : (s.setF fl v i j).migration = s.migration := rfl
@[simp] theorem State.setF_migEnd (fl : Fld) (v i j : Nat) : (s.setF fl v i j).migEnd = s.migEnd := rfl
@[simp] theorem State.setF_logQueue (fl : Fld) (v i j : Nat) : (s.setF fl v i j).logQueue = s.logQueue := rfl
@[simp] theorem State.setF_sent (fl : Fld) (v i j : Nat) : (s.setF fl v i j).sent = s.sent := rfl
@[simp] theorem State.setF_dfe (fl : Fld) (v i j : Nat) : (s.setF fl v i j).dfe = s.dfe := rfl
@[simp] theorem State.setF_dfeSpare (fl : Fld) (v i j : Nat) : (s.setF fl v i j).dfeSpare = s.dfeSpare := rfl
@[simp] theorem State.setF_pubs (fl : Fld) (v i j : Nat) : (s.setF fl v i j).pubs = s.pubs := rfl
@[simp] theorem State.setF_ageBase (fl : Fld) (v i j : Nat) : (s.setF fl v i j).ageBase = s.ageBase := rfl
@[simp] theorem State.setF_stepAt (fl : Fld) (v i j : Nat) : (s.setF fl v i j).stepAt = s.stepAt := rfl
@[simp] theorem State.setF_steps (fl : Fld) (v i j : Nat) : (s.setF fl v i j).steps = s.steps := rfl
@[simp] theorem State.setF_curves (fl : Fld) (v i j : Nat) : (s.setF fl v i j).curves = s.curves := rfl
@[simp] theorem State.setF_pfe (fl : Fld) (v i j : Nat) : (s.setF fl v i j).pfe = s.pfe := rfl
@[simp] theorem State.setF_pfeSpare (fl : Fld) (v i j : Nat) : (s.setF fl v i j).pfeSpare = s.pfeSpare := rfl
@[simp] theorem State.setF_trc (fl : Fld) (v i j : Nat) : (s.setF fl v i j).trc = s.trc := rfl
@[simp] theorem State.setF_lpe (fl : Fld) (v i j : Nat) : (s.setF fl v i j).lpe = s.lpe := rfl
@[simp] theorem State.setF_sol (fl : Fld) (v i j : Nat) : (s.setF fl v i j).sol = s.sol := rfl
@[simp] theorem State.setF_lsw (fl : Fld) (v i j : Nat) : (s.setF fl v i j).lsw = s.lsw := rfl
@[simp] theorem State.setF_mtr (fl : Fld) (v i j : Nat) : (s.setF fl v i j).mtr = s.mtr := rfl
@[simp] theorem State.setF_fan (fl : Fld) (v i j : Nat) : (s.setF fl v i j).fan = s.fan := rfl
@[simp] theorem State.setF_can (fl : Fld) (v i j : Nat) : (s.setF fl v i j).can = s.can := rfl
@[simp] theorem State.setF_tim (fl : Fld) (v i j : Nat) : (s.setF fl v i j).tim = s.tim := rfl
@[simp] theorem State.setF_tts (fl : Fld) (v i j : Nat) : (s.setF fl v i j).tts = s.tts := rfl
@[simp] theorem State.setF_col (fl : Fld) (v i j : Nat) : (s.setF fl v i j).col = s.col := rfl
@[simp] theorem State.setF_net (fl : Fld) (v i j : Nat) : (s.setF fl v i j).net = s.net := rfl
@[simp] theorem State.setF_sto (fl : Fld) (v i j : Nat) : (s.setF fl v i j).sto = s.sto := rfl
@[simp] theorem State.setF_hlt (fl : Fld) (v i j : Nat) : (s.setF fl v i j).hlt = s.hlt := rfl
@[simp] theorem State.setF_sys (fl : Fld) (v i j : Nat) : (s.setF fl v i j).sys = s.sys := rfl

/-! ### setFi -/

@[simp] theorem State.setFi_pending (fl : Fld) (v : Int) (i j : Nat) : (s.setFi fl v i j).pending = s.pending := rfl
@[simp] theorem State.setFi_held (fl : Fld) (v : Int) (i j : Nat) : (s.setFi fl v i j).held = s.held := rfl
@[simp] theorem State.setFi_variant (fl : Fld) (v : Int) (i j : Nat) : (s.setFi fl v i j).variant = s.variant := rfl
@[simp] theorem State.setFi_tbNow (fl : Fld) (v : Int) (i j : Nat) : (s.setFi fl v i j).tbNow = s.tbNow := rfl
@[simp] theorem State.setFi_elapsed (fl : Fld) (v : Int) (i j : Nat) : (s.setFi fl v i j).elapsed = s.elapsed := rfl
@[simp] theorem State.setFi_fresh (fl : Fld) (v : Int) (i j : Nat) : (s.setFi fl v i j).fresh = s.fresh := rfl
@[simp] theorem State.setFi_w1cSet (fl : Fld) (v : Int) (i j : Nat) :
    (s.setFi fl v i j).w1cSet = markW1c s.w1cSet fl (toField v fl.width) (fl.reg.addr i j) := rfl
@[simp] theorem State.setFi_frame (fl : Fld) (v : Int) (i j : Nat) : (s.setFi fl v i j).frame = s.frame := rfl
@[simp] theorem State.setFi_beadErr (fl : Fld) (v : Int) (i j : Nat) : (s.setFi fl v i j).beadErr = s.beadErr := rfl
@[simp] theorem State.setFi_rings (fl : Fld) (v : Int) (i j : Nat) : (s.setFi fl v i j).rings = s.rings := rfl
@[simp] theorem State.setFi_rods (fl : Fld) (v : Int) (i j : Nat) : (s.setFi fl v i j).rods = s.rods := rfl
@[simp] theorem State.setFi_programs (fl : Fld) (v : Int) (i j : Nat) : (s.setFi fl v i j).programs = s.programs := rfl
@[simp] theorem State.setFi_template (fl : Fld) (v : Int) (i j : Nat) : (s.setFi fl v i j).template = s.template := rfl
@[simp] theorem State.setFi_migration (fl : Fld) (v : Int) (i j : Nat) : (s.setFi fl v i j).migration = s.migration := rfl
@[simp] theorem State.setFi_migEnd (fl : Fld) (v : Int) (i j : Nat) : (s.setFi fl v i j).migEnd = s.migEnd := rfl
@[simp] theorem State.setFi_logQueue (fl : Fld) (v : Int) (i j : Nat) : (s.setFi fl v i j).logQueue = s.logQueue := rfl
@[simp] theorem State.setFi_sent (fl : Fld) (v : Int) (i j : Nat) : (s.setFi fl v i j).sent = s.sent := rfl
@[simp] theorem State.setFi_dfe (fl : Fld) (v : Int) (i j : Nat) : (s.setFi fl v i j).dfe = s.dfe := rfl
@[simp] theorem State.setFi_dfeSpare (fl : Fld) (v : Int) (i j : Nat) : (s.setFi fl v i j).dfeSpare = s.dfeSpare := rfl
@[simp] theorem State.setFi_pubs (fl : Fld) (v : Int) (i j : Nat) : (s.setFi fl v i j).pubs = s.pubs := rfl
@[simp] theorem State.setFi_ageBase (fl : Fld) (v : Int) (i j : Nat) : (s.setFi fl v i j).ageBase = s.ageBase := rfl
@[simp] theorem State.setFi_stepAt (fl : Fld) (v : Int) (i j : Nat) : (s.setFi fl v i j).stepAt = s.stepAt := rfl
@[simp] theorem State.setFi_steps (fl : Fld) (v : Int) (i j : Nat) : (s.setFi fl v i j).steps = s.steps := rfl
@[simp] theorem State.setFi_curves (fl : Fld) (v : Int) (i j : Nat) : (s.setFi fl v i j).curves = s.curves := rfl
@[simp] theorem State.setFi_pfe (fl : Fld) (v : Int) (i j : Nat) : (s.setFi fl v i j).pfe = s.pfe := rfl
@[simp] theorem State.setFi_pfeSpare (fl : Fld) (v : Int) (i j : Nat) : (s.setFi fl v i j).pfeSpare = s.pfeSpare := rfl
@[simp] theorem State.setFi_trc (fl : Fld) (v : Int) (i j : Nat) : (s.setFi fl v i j).trc = s.trc := rfl
@[simp] theorem State.setFi_lpe (fl : Fld) (v : Int) (i j : Nat) : (s.setFi fl v i j).lpe = s.lpe := rfl
@[simp] theorem State.setFi_sol (fl : Fld) (v : Int) (i j : Nat) : (s.setFi fl v i j).sol = s.sol := rfl
@[simp] theorem State.setFi_lsw (fl : Fld) (v : Int) (i j : Nat) : (s.setFi fl v i j).lsw = s.lsw := rfl
@[simp] theorem State.setFi_mtr (fl : Fld) (v : Int) (i j : Nat) : (s.setFi fl v i j).mtr = s.mtr := rfl
@[simp] theorem State.setFi_fan (fl : Fld) (v : Int) (i j : Nat) : (s.setFi fl v i j).fan = s.fan := rfl
@[simp] theorem State.setFi_can (fl : Fld) (v : Int) (i j : Nat) : (s.setFi fl v i j).can = s.can := rfl
@[simp] theorem State.setFi_tim (fl : Fld) (v : Int) (i j : Nat) : (s.setFi fl v i j).tim = s.tim := rfl
@[simp] theorem State.setFi_tts (fl : Fld) (v : Int) (i j : Nat) : (s.setFi fl v i j).tts = s.tts := rfl
@[simp] theorem State.setFi_col (fl : Fld) (v : Int) (i j : Nat) : (s.setFi fl v i j).col = s.col := rfl
@[simp] theorem State.setFi_net (fl : Fld) (v : Int) (i j : Nat) : (s.setFi fl v i j).net = s.net := rfl
@[simp] theorem State.setFi_sto (fl : Fld) (v : Int) (i j : Nat) : (s.setFi fl v i j).sto = s.sto := rfl
@[simp] theorem State.setFi_hlt (fl : Fld) (v : Int) (i j : Nat) : (s.setFi fl v i j).hlt = s.hlt := rfl
@[simp] theorem State.setFi_sys (fl : Fld) (v : Int) (i j : Nat) : (s.setFi fl v i j).sys = s.sys := rfl

/-! ### setB -/

@[simp] theorem State.setB_pending (fl : Fld) (b : Bool) (i j : Nat) : (s.setB fl b i j).pending = s.pending := rfl
@[simp] theorem State.setB_held (fl : Fld) (b : Bool) (i j : Nat) : (s.setB fl b i j).held = s.held := rfl
@[simp] theorem State.setB_variant (fl : Fld) (b : Bool) (i j : Nat) : (s.setB fl b i j).variant = s.variant := rfl
@[simp] theorem State.setB_tbNow (fl : Fld) (b : Bool) (i j : Nat) : (s.setB fl b i j).tbNow = s.tbNow := rfl
@[simp] theorem State.setB_elapsed (fl : Fld) (b : Bool) (i j : Nat) : (s.setB fl b i j).elapsed = s.elapsed := rfl
@[simp] theorem State.setB_fresh (fl : Fld) (b : Bool) (i j : Nat) : (s.setB fl b i j).fresh = s.fresh := rfl
@[simp] theorem State.setB_w1cSet (fl : Fld) (b : Bool) (i j : Nat) :
    (s.setB fl b i j).w1cSet = markW1c s.w1cSet fl (bit b) (fl.reg.addr i j) := rfl
@[simp] theorem State.setB_frame (fl : Fld) (b : Bool) (i j : Nat) : (s.setB fl b i j).frame = s.frame := rfl
@[simp] theorem State.setB_beadErr (fl : Fld) (b : Bool) (i j : Nat) : (s.setB fl b i j).beadErr = s.beadErr := rfl
@[simp] theorem State.setB_rings (fl : Fld) (b : Bool) (i j : Nat) : (s.setB fl b i j).rings = s.rings := rfl
@[simp] theorem State.setB_rods (fl : Fld) (b : Bool) (i j : Nat) : (s.setB fl b i j).rods = s.rods := rfl
@[simp] theorem State.setB_programs (fl : Fld) (b : Bool) (i j : Nat) : (s.setB fl b i j).programs = s.programs := rfl
@[simp] theorem State.setB_template (fl : Fld) (b : Bool) (i j : Nat) : (s.setB fl b i j).template = s.template := rfl
@[simp] theorem State.setB_migration (fl : Fld) (b : Bool) (i j : Nat) : (s.setB fl b i j).migration = s.migration := rfl
@[simp] theorem State.setB_migEnd (fl : Fld) (b : Bool) (i j : Nat) : (s.setB fl b i j).migEnd = s.migEnd := rfl
@[simp] theorem State.setB_logQueue (fl : Fld) (b : Bool) (i j : Nat) : (s.setB fl b i j).logQueue = s.logQueue := rfl
@[simp] theorem State.setB_sent (fl : Fld) (b : Bool) (i j : Nat) : (s.setB fl b i j).sent = s.sent := rfl
@[simp] theorem State.setB_dfe (fl : Fld) (b : Bool) (i j : Nat) : (s.setB fl b i j).dfe = s.dfe := rfl
@[simp] theorem State.setB_dfeSpare (fl : Fld) (b : Bool) (i j : Nat) : (s.setB fl b i j).dfeSpare = s.dfeSpare := rfl
@[simp] theorem State.setB_pubs (fl : Fld) (b : Bool) (i j : Nat) : (s.setB fl b i j).pubs = s.pubs := rfl
@[simp] theorem State.setB_ageBase (fl : Fld) (b : Bool) (i j : Nat) : (s.setB fl b i j).ageBase = s.ageBase := rfl
@[simp] theorem State.setB_stepAt (fl : Fld) (b : Bool) (i j : Nat) : (s.setB fl b i j).stepAt = s.stepAt := rfl
@[simp] theorem State.setB_steps (fl : Fld) (b : Bool) (i j : Nat) : (s.setB fl b i j).steps = s.steps := rfl
@[simp] theorem State.setB_curves (fl : Fld) (b : Bool) (i j : Nat) : (s.setB fl b i j).curves = s.curves := rfl
@[simp] theorem State.setB_pfe (fl : Fld) (b : Bool) (i j : Nat) : (s.setB fl b i j).pfe = s.pfe := rfl
@[simp] theorem State.setB_pfeSpare (fl : Fld) (b : Bool) (i j : Nat) : (s.setB fl b i j).pfeSpare = s.pfeSpare := rfl
@[simp] theorem State.setB_trc (fl : Fld) (b : Bool) (i j : Nat) : (s.setB fl b i j).trc = s.trc := rfl
@[simp] theorem State.setB_lpe (fl : Fld) (b : Bool) (i j : Nat) : (s.setB fl b i j).lpe = s.lpe := rfl
@[simp] theorem State.setB_sol (fl : Fld) (b : Bool) (i j : Nat) : (s.setB fl b i j).sol = s.sol := rfl
@[simp] theorem State.setB_lsw (fl : Fld) (b : Bool) (i j : Nat) : (s.setB fl b i j).lsw = s.lsw := rfl
@[simp] theorem State.setB_mtr (fl : Fld) (b : Bool) (i j : Nat) : (s.setB fl b i j).mtr = s.mtr := rfl
@[simp] theorem State.setB_fan (fl : Fld) (b : Bool) (i j : Nat) : (s.setB fl b i j).fan = s.fan := rfl
@[simp] theorem State.setB_can (fl : Fld) (b : Bool) (i j : Nat) : (s.setB fl b i j).can = s.can := rfl
@[simp] theorem State.setB_tim (fl : Fld) (b : Bool) (i j : Nat) : (s.setB fl b i j).tim = s.tim := rfl
@[simp] theorem State.setB_tts (fl : Fld) (b : Bool) (i j : Nat) : (s.setB fl b i j).tts = s.tts := rfl
@[simp] theorem State.setB_col (fl : Fld) (b : Bool) (i j : Nat) : (s.setB fl b i j).col = s.col := rfl
@[simp] theorem State.setB_net (fl : Fld) (b : Bool) (i j : Nat) : (s.setB fl b i j).net = s.net := rfl
@[simp] theorem State.setB_sto (fl : Fld) (b : Bool) (i j : Nat) : (s.setB fl b i j).sto = s.sto := rfl
@[simp] theorem State.setB_hlt (fl : Fld) (b : Bool) (i j : Nat) : (s.setB fl b i j).hlt = s.hlt := rfl
@[simp] theorem State.setB_sys (fl : Fld) (b : Bool) (i j : Nat) : (s.setB fl b i j).sys = s.sys := rfl

/-! ### addR -/

@[simp] theorem State.addR_pending (d : RegDesc) (n i j : Nat) : (s.addR d n i j).pending = s.pending := rfl
@[simp] theorem State.addR_held (d : RegDesc) (n i j : Nat) : (s.addR d n i j).held = s.held := rfl
@[simp] theorem State.addR_variant (d : RegDesc) (n i j : Nat) : (s.addR d n i j).variant = s.variant := rfl
@[simp] theorem State.addR_tbNow (d : RegDesc) (n i j : Nat) : (s.addR d n i j).tbNow = s.tbNow := rfl
@[simp] theorem State.addR_elapsed (d : RegDesc) (n i j : Nat) : (s.addR d n i j).elapsed = s.elapsed := rfl
@[simp] theorem State.addR_fresh (d : RegDesc) (n i j : Nat) : (s.addR d n i j).fresh = s.fresh := rfl
@[simp] theorem State.addR_w1cSet (d : RegDesc) (n i j : Nat) : (s.addR d n i j).w1cSet = s.w1cSet := rfl
@[simp] theorem State.addR_frame (d : RegDesc) (n i j : Nat) : (s.addR d n i j).frame = s.frame := rfl
@[simp] theorem State.addR_beadErr (d : RegDesc) (n i j : Nat) : (s.addR d n i j).beadErr = s.beadErr := rfl
@[simp] theorem State.addR_rings (d : RegDesc) (n i j : Nat) : (s.addR d n i j).rings = s.rings := rfl
@[simp] theorem State.addR_rods (d : RegDesc) (n i j : Nat) : (s.addR d n i j).rods = s.rods := rfl
@[simp] theorem State.addR_programs (d : RegDesc) (n i j : Nat) : (s.addR d n i j).programs = s.programs := rfl
@[simp] theorem State.addR_template (d : RegDesc) (n i j : Nat) : (s.addR d n i j).template = s.template := rfl
@[simp] theorem State.addR_migration (d : RegDesc) (n i j : Nat) : (s.addR d n i j).migration = s.migration := rfl
@[simp] theorem State.addR_migEnd (d : RegDesc) (n i j : Nat) : (s.addR d n i j).migEnd = s.migEnd := rfl
@[simp] theorem State.addR_logQueue (d : RegDesc) (n i j : Nat) : (s.addR d n i j).logQueue = s.logQueue := rfl
@[simp] theorem State.addR_sent (d : RegDesc) (n i j : Nat) : (s.addR d n i j).sent = s.sent := rfl
@[simp] theorem State.addR_dfe (d : RegDesc) (n i j : Nat) : (s.addR d n i j).dfe = s.dfe := rfl
@[simp] theorem State.addR_dfeSpare (d : RegDesc) (n i j : Nat) : (s.addR d n i j).dfeSpare = s.dfeSpare := rfl
@[simp] theorem State.addR_pubs (d : RegDesc) (n i j : Nat) : (s.addR d n i j).pubs = s.pubs := rfl
@[simp] theorem State.addR_ageBase (d : RegDesc) (n i j : Nat) : (s.addR d n i j).ageBase = s.ageBase := rfl
@[simp] theorem State.addR_stepAt (d : RegDesc) (n i j : Nat) : (s.addR d n i j).stepAt = s.stepAt := rfl
@[simp] theorem State.addR_steps (d : RegDesc) (n i j : Nat) : (s.addR d n i j).steps = s.steps := rfl
@[simp] theorem State.addR_curves (d : RegDesc) (n i j : Nat) : (s.addR d n i j).curves = s.curves := rfl
@[simp] theorem State.addR_pfe (d : RegDesc) (n i j : Nat) : (s.addR d n i j).pfe = s.pfe := rfl
@[simp] theorem State.addR_pfeSpare (d : RegDesc) (n i j : Nat) : (s.addR d n i j).pfeSpare = s.pfeSpare := rfl
@[simp] theorem State.addR_trc (d : RegDesc) (n i j : Nat) : (s.addR d n i j).trc = s.trc := rfl
@[simp] theorem State.addR_lpe (d : RegDesc) (n i j : Nat) : (s.addR d n i j).lpe = s.lpe := rfl
@[simp] theorem State.addR_sol (d : RegDesc) (n i j : Nat) : (s.addR d n i j).sol = s.sol := rfl
@[simp] theorem State.addR_lsw (d : RegDesc) (n i j : Nat) : (s.addR d n i j).lsw = s.lsw := rfl
@[simp] theorem State.addR_mtr (d : RegDesc) (n i j : Nat) : (s.addR d n i j).mtr = s.mtr := rfl
@[simp] theorem State.addR_fan (d : RegDesc) (n i j : Nat) : (s.addR d n i j).fan = s.fan := rfl
@[simp] theorem State.addR_can (d : RegDesc) (n i j : Nat) : (s.addR d n i j).can = s.can := rfl
@[simp] theorem State.addR_tim (d : RegDesc) (n i j : Nat) : (s.addR d n i j).tim = s.tim := rfl
@[simp] theorem State.addR_tts (d : RegDesc) (n i j : Nat) : (s.addR d n i j).tts = s.tts := rfl
@[simp] theorem State.addR_col (d : RegDesc) (n i j : Nat) : (s.addR d n i j).col = s.col := rfl
@[simp] theorem State.addR_net (d : RegDesc) (n i j : Nat) : (s.addR d n i j).net = s.net := rfl
@[simp] theorem State.addR_sto (d : RegDesc) (n i j : Nat) : (s.addR d n i j).sto = s.sto := rfl
@[simp] theorem State.addR_hlt (d : RegDesc) (n i j : Nat) : (s.addR d n i j).hlt = s.hlt := rfl
@[simp] theorem State.addR_sys (d : RegDesc) (n i j : Nat) : (s.addR d n i j).sys = s.sys := rfl

/-! ### subR -/

@[simp] theorem State.subR_pending (d : RegDesc) (n i j : Nat) : (s.subR d n i j).pending = s.pending := rfl
@[simp] theorem State.subR_held (d : RegDesc) (n i j : Nat) : (s.subR d n i j).held = s.held := rfl
@[simp] theorem State.subR_variant (d : RegDesc) (n i j : Nat) : (s.subR d n i j).variant = s.variant := rfl
@[simp] theorem State.subR_tbNow (d : RegDesc) (n i j : Nat) : (s.subR d n i j).tbNow = s.tbNow := rfl
@[simp] theorem State.subR_elapsed (d : RegDesc) (n i j : Nat) : (s.subR d n i j).elapsed = s.elapsed := rfl
@[simp] theorem State.subR_fresh (d : RegDesc) (n i j : Nat) : (s.subR d n i j).fresh = s.fresh := rfl
@[simp] theorem State.subR_w1cSet (d : RegDesc) (n i j : Nat) : (s.subR d n i j).w1cSet = s.w1cSet := rfl
@[simp] theorem State.subR_frame (d : RegDesc) (n i j : Nat) : (s.subR d n i j).frame = s.frame := rfl
@[simp] theorem State.subR_beadErr (d : RegDesc) (n i j : Nat) : (s.subR d n i j).beadErr = s.beadErr := rfl
@[simp] theorem State.subR_rings (d : RegDesc) (n i j : Nat) : (s.subR d n i j).rings = s.rings := rfl
@[simp] theorem State.subR_rods (d : RegDesc) (n i j : Nat) : (s.subR d n i j).rods = s.rods := rfl
@[simp] theorem State.subR_programs (d : RegDesc) (n i j : Nat) : (s.subR d n i j).programs = s.programs := rfl
@[simp] theorem State.subR_template (d : RegDesc) (n i j : Nat) : (s.subR d n i j).template = s.template := rfl
@[simp] theorem State.subR_migration (d : RegDesc) (n i j : Nat) : (s.subR d n i j).migration = s.migration := rfl
@[simp] theorem State.subR_migEnd (d : RegDesc) (n i j : Nat) : (s.subR d n i j).migEnd = s.migEnd := rfl
@[simp] theorem State.subR_logQueue (d : RegDesc) (n i j : Nat) : (s.subR d n i j).logQueue = s.logQueue := rfl
@[simp] theorem State.subR_sent (d : RegDesc) (n i j : Nat) : (s.subR d n i j).sent = s.sent := rfl
@[simp] theorem State.subR_dfe (d : RegDesc) (n i j : Nat) : (s.subR d n i j).dfe = s.dfe := rfl
@[simp] theorem State.subR_dfeSpare (d : RegDesc) (n i j : Nat) : (s.subR d n i j).dfeSpare = s.dfeSpare := rfl
@[simp] theorem State.subR_pubs (d : RegDesc) (n i j : Nat) : (s.subR d n i j).pubs = s.pubs := rfl
@[simp] theorem State.subR_ageBase (d : RegDesc) (n i j : Nat) : (s.subR d n i j).ageBase = s.ageBase := rfl
@[simp] theorem State.subR_stepAt (d : RegDesc) (n i j : Nat) : (s.subR d n i j).stepAt = s.stepAt := rfl
@[simp] theorem State.subR_steps (d : RegDesc) (n i j : Nat) : (s.subR d n i j).steps = s.steps := rfl
@[simp] theorem State.subR_curves (d : RegDesc) (n i j : Nat) : (s.subR d n i j).curves = s.curves := rfl
@[simp] theorem State.subR_pfe (d : RegDesc) (n i j : Nat) : (s.subR d n i j).pfe = s.pfe := rfl
@[simp] theorem State.subR_pfeSpare (d : RegDesc) (n i j : Nat) : (s.subR d n i j).pfeSpare = s.pfeSpare := rfl
@[simp] theorem State.subR_trc (d : RegDesc) (n i j : Nat) : (s.subR d n i j).trc = s.trc := rfl
@[simp] theorem State.subR_lpe (d : RegDesc) (n i j : Nat) : (s.subR d n i j).lpe = s.lpe := rfl
@[simp] theorem State.subR_sol (d : RegDesc) (n i j : Nat) : (s.subR d n i j).sol = s.sol := rfl
@[simp] theorem State.subR_lsw (d : RegDesc) (n i j : Nat) : (s.subR d n i j).lsw = s.lsw := rfl
@[simp] theorem State.subR_mtr (d : RegDesc) (n i j : Nat) : (s.subR d n i j).mtr = s.mtr := rfl
@[simp] theorem State.subR_fan (d : RegDesc) (n i j : Nat) : (s.subR d n i j).fan = s.fan := rfl
@[simp] theorem State.subR_can (d : RegDesc) (n i j : Nat) : (s.subR d n i j).can = s.can := rfl
@[simp] theorem State.subR_tim (d : RegDesc) (n i j : Nat) : (s.subR d n i j).tim = s.tim := rfl
@[simp] theorem State.subR_tts (d : RegDesc) (n i j : Nat) : (s.subR d n i j).tts = s.tts := rfl
@[simp] theorem State.subR_col (d : RegDesc) (n i j : Nat) : (s.subR d n i j).col = s.col := rfl
@[simp] theorem State.subR_net (d : RegDesc) (n i j : Nat) : (s.subR d n i j).net = s.net := rfl
@[simp] theorem State.subR_sto (d : RegDesc) (n i j : Nat) : (s.subR d n i j).sto = s.sto := rfl
@[simp] theorem State.subR_hlt (d : RegDesc) (n i j : Nat) : (s.subR d n i j).hlt = s.hlt := rfl
@[simp] theorem State.subR_sys (d : RegDesc) (n i j : Nat) : (s.subR d n i j).sys = s.sys := rfl

/-! ### setMask -/

@[simp] theorem State.setMask_pending (d : RegDesc) (n : Nat) (b : Bool) (i j : Nat) : (s.setMask d n b i j).pending = s.pending := rfl
@[simp] theorem State.setMask_held (d : RegDesc) (n : Nat) (b : Bool) (i j : Nat) : (s.setMask d n b i j).held = s.held := rfl
@[simp] theorem State.setMask_variant (d : RegDesc) (n : Nat) (b : Bool) (i j : Nat) : (s.setMask d n b i j).variant = s.variant := rfl
@[simp] theorem State.setMask_tbNow (d : RegDesc) (n : Nat) (b : Bool) (i j : Nat) : (s.setMask d n b i j).tbNow = s.tbNow := rfl
@[simp] theorem State.setMask_elapsed (d : RegDesc) (n : Nat) (b : Bool) (i j : Nat) : (s.setMask d n b i j).elapsed = s.elapsed := rfl
@[simp] theorem State.setMask_fresh (d : RegDesc) (n : Nat) (b : Bool) (i j : Nat) : (s.setMask d n b i j).fresh = s.fresh := rfl
@[simp] theorem State.setMask_w1cSet (d : RegDesc) (n : Nat) (b : Bool) (i j : Nat) : (s.setMask d n b i j).w1cSet = s.w1cSet := rfl
@[simp] theorem State.setMask_frame (d : RegDesc) (n : Nat) (b : Bool) (i j : Nat) : (s.setMask d n b i j).frame = s.frame := rfl
@[simp] theorem State.setMask_beadErr (d : RegDesc) (n : Nat) (b : Bool) (i j : Nat) : (s.setMask d n b i j).beadErr = s.beadErr := rfl
@[simp] theorem State.setMask_rings (d : RegDesc) (n : Nat) (b : Bool) (i j : Nat) : (s.setMask d n b i j).rings = s.rings := rfl
@[simp] theorem State.setMask_rods (d : RegDesc) (n : Nat) (b : Bool) (i j : Nat) : (s.setMask d n b i j).rods = s.rods := rfl
@[simp] theorem State.setMask_programs (d : RegDesc) (n : Nat) (b : Bool) (i j : Nat) : (s.setMask d n b i j).programs = s.programs := rfl
@[simp] theorem State.setMask_template (d : RegDesc) (n : Nat) (b : Bool) (i j : Nat) : (s.setMask d n b i j).template = s.template := rfl
@[simp] theorem State.setMask_migration (d : RegDesc) (n : Nat) (b : Bool) (i j : Nat) : (s.setMask d n b i j).migration = s.migration := rfl
@[simp] theorem State.setMask_migEnd (d : RegDesc) (n : Nat) (b : Bool) (i j : Nat) : (s.setMask d n b i j).migEnd = s.migEnd := rfl
@[simp] theorem State.setMask_logQueue (d : RegDesc) (n : Nat) (b : Bool) (i j : Nat) : (s.setMask d n b i j).logQueue = s.logQueue := rfl
@[simp] theorem State.setMask_sent (d : RegDesc) (n : Nat) (b : Bool) (i j : Nat) : (s.setMask d n b i j).sent = s.sent := rfl
@[simp] theorem State.setMask_dfe (d : RegDesc) (n : Nat) (b : Bool) (i j : Nat) : (s.setMask d n b i j).dfe = s.dfe := rfl
@[simp] theorem State.setMask_dfeSpare (d : RegDesc) (n : Nat) (b : Bool) (i j : Nat) : (s.setMask d n b i j).dfeSpare = s.dfeSpare := rfl
@[simp] theorem State.setMask_pubs (d : RegDesc) (n : Nat) (b : Bool) (i j : Nat) : (s.setMask d n b i j).pubs = s.pubs := rfl
@[simp] theorem State.setMask_ageBase (d : RegDesc) (n : Nat) (b : Bool) (i j : Nat) : (s.setMask d n b i j).ageBase = s.ageBase := rfl
@[simp] theorem State.setMask_stepAt (d : RegDesc) (n : Nat) (b : Bool) (i j : Nat) : (s.setMask d n b i j).stepAt = s.stepAt := rfl
@[simp] theorem State.setMask_steps (d : RegDesc) (n : Nat) (b : Bool) (i j : Nat) : (s.setMask d n b i j).steps = s.steps := rfl
@[simp] theorem State.setMask_curves (d : RegDesc) (n : Nat) (b : Bool) (i j : Nat) : (s.setMask d n b i j).curves = s.curves := rfl
@[simp] theorem State.setMask_pfe (d : RegDesc) (n : Nat) (b : Bool) (i j : Nat) : (s.setMask d n b i j).pfe = s.pfe := rfl
@[simp] theorem State.setMask_pfeSpare (d : RegDesc) (n : Nat) (b : Bool) (i j : Nat) : (s.setMask d n b i j).pfeSpare = s.pfeSpare := rfl
@[simp] theorem State.setMask_trc (d : RegDesc) (n : Nat) (b : Bool) (i j : Nat) : (s.setMask d n b i j).trc = s.trc := rfl
@[simp] theorem State.setMask_lpe (d : RegDesc) (n : Nat) (b : Bool) (i j : Nat) : (s.setMask d n b i j).lpe = s.lpe := rfl
@[simp] theorem State.setMask_sol (d : RegDesc) (n : Nat) (b : Bool) (i j : Nat) : (s.setMask d n b i j).sol = s.sol := rfl
@[simp] theorem State.setMask_lsw (d : RegDesc) (n : Nat) (b : Bool) (i j : Nat) : (s.setMask d n b i j).lsw = s.lsw := rfl
@[simp] theorem State.setMask_mtr (d : RegDesc) (n : Nat) (b : Bool) (i j : Nat) : (s.setMask d n b i j).mtr = s.mtr := rfl
@[simp] theorem State.setMask_fan (d : RegDesc) (n : Nat) (b : Bool) (i j : Nat) : (s.setMask d n b i j).fan = s.fan := rfl
@[simp] theorem State.setMask_can (d : RegDesc) (n : Nat) (b : Bool) (i j : Nat) : (s.setMask d n b i j).can = s.can := rfl
@[simp] theorem State.setMask_tim (d : RegDesc) (n : Nat) (b : Bool) (i j : Nat) : (s.setMask d n b i j).tim = s.tim := rfl
@[simp] theorem State.setMask_tts (d : RegDesc) (n : Nat) (b : Bool) (i j : Nat) : (s.setMask d n b i j).tts = s.tts := rfl
@[simp] theorem State.setMask_col (d : RegDesc) (n : Nat) (b : Bool) (i j : Nat) : (s.setMask d n b i j).col = s.col := rfl
@[simp] theorem State.setMask_net (d : RegDesc) (n : Nat) (b : Bool) (i j : Nat) : (s.setMask d n b i j).net = s.net := rfl
@[simp] theorem State.setMask_sto (d : RegDesc) (n : Nat) (b : Bool) (i j : Nat) : (s.setMask d n b i j).sto = s.sto := rfl
@[simp] theorem State.setMask_hlt (d : RegDesc) (n : Nat) (b : Bool) (i j : Nat) : (s.setMask d n b i j).hlt = s.hlt := rfl
@[simp] theorem State.setMask_sys (d : RegDesc) (n : Nat) (b : Bool) (i j : Nat) : (s.setMask d n b i j).sys = s.sys := rfl

/-! ### wr64 -/

@[simp] theorem State.wr64_pending (lo hi : RegDesc) (v i j : Nat) : (s.wr64 lo hi v i j).pending = s.pending := rfl
@[simp] theorem State.wr64_held (lo hi : RegDesc) (v i j : Nat) : (s.wr64 lo hi v i j).held = s.held := rfl
@[simp] theorem State.wr64_variant (lo hi : RegDesc) (v i j : Nat) : (s.wr64 lo hi v i j).variant = s.variant := rfl
@[simp] theorem State.wr64_tbNow (lo hi : RegDesc) (v i j : Nat) : (s.wr64 lo hi v i j).tbNow = s.tbNow := rfl
@[simp] theorem State.wr64_elapsed (lo hi : RegDesc) (v i j : Nat) : (s.wr64 lo hi v i j).elapsed = s.elapsed := rfl
@[simp] theorem State.wr64_fresh (lo hi : RegDesc) (v i j : Nat) : (s.wr64 lo hi v i j).fresh = s.fresh := rfl
@[simp] theorem State.wr64_w1cSet (lo hi : RegDesc) (v i j : Nat) : (s.wr64 lo hi v i j).w1cSet = s.w1cSet := rfl
@[simp] theorem State.wr64_frame (lo hi : RegDesc) (v i j : Nat) : (s.wr64 lo hi v i j).frame = s.frame := rfl
@[simp] theorem State.wr64_beadErr (lo hi : RegDesc) (v i j : Nat) : (s.wr64 lo hi v i j).beadErr = s.beadErr := rfl
@[simp] theorem State.wr64_rings (lo hi : RegDesc) (v i j : Nat) : (s.wr64 lo hi v i j).rings = s.rings := rfl
@[simp] theorem State.wr64_rods (lo hi : RegDesc) (v i j : Nat) : (s.wr64 lo hi v i j).rods = s.rods := rfl
@[simp] theorem State.wr64_programs (lo hi : RegDesc) (v i j : Nat) : (s.wr64 lo hi v i j).programs = s.programs := rfl
@[simp] theorem State.wr64_template (lo hi : RegDesc) (v i j : Nat) : (s.wr64 lo hi v i j).template = s.template := rfl
@[simp] theorem State.wr64_migration (lo hi : RegDesc) (v i j : Nat) : (s.wr64 lo hi v i j).migration = s.migration := rfl
@[simp] theorem State.wr64_migEnd (lo hi : RegDesc) (v i j : Nat) : (s.wr64 lo hi v i j).migEnd = s.migEnd := rfl
@[simp] theorem State.wr64_logQueue (lo hi : RegDesc) (v i j : Nat) : (s.wr64 lo hi v i j).logQueue = s.logQueue := rfl
@[simp] theorem State.wr64_sent (lo hi : RegDesc) (v i j : Nat) : (s.wr64 lo hi v i j).sent = s.sent := rfl
@[simp] theorem State.wr64_dfe (lo hi : RegDesc) (v i j : Nat) : (s.wr64 lo hi v i j).dfe = s.dfe := rfl
@[simp] theorem State.wr64_dfeSpare (lo hi : RegDesc) (v i j : Nat) : (s.wr64 lo hi v i j).dfeSpare = s.dfeSpare := rfl
@[simp] theorem State.wr64_pubs (lo hi : RegDesc) (v i j : Nat) : (s.wr64 lo hi v i j).pubs = s.pubs := rfl
@[simp] theorem State.wr64_ageBase (lo hi : RegDesc) (v i j : Nat) : (s.wr64 lo hi v i j).ageBase = s.ageBase := rfl
@[simp] theorem State.wr64_stepAt (lo hi : RegDesc) (v i j : Nat) : (s.wr64 lo hi v i j).stepAt = s.stepAt := rfl
@[simp] theorem State.wr64_steps (lo hi : RegDesc) (v i j : Nat) : (s.wr64 lo hi v i j).steps = s.steps := rfl
@[simp] theorem State.wr64_curves (lo hi : RegDesc) (v i j : Nat) : (s.wr64 lo hi v i j).curves = s.curves := rfl
@[simp] theorem State.wr64_pfe (lo hi : RegDesc) (v i j : Nat) : (s.wr64 lo hi v i j).pfe = s.pfe := rfl
@[simp] theorem State.wr64_pfeSpare (lo hi : RegDesc) (v i j : Nat) : (s.wr64 lo hi v i j).pfeSpare = s.pfeSpare := rfl
@[simp] theorem State.wr64_trc (lo hi : RegDesc) (v i j : Nat) : (s.wr64 lo hi v i j).trc = s.trc := rfl
@[simp] theorem State.wr64_lpe (lo hi : RegDesc) (v i j : Nat) : (s.wr64 lo hi v i j).lpe = s.lpe := rfl
@[simp] theorem State.wr64_sol (lo hi : RegDesc) (v i j : Nat) : (s.wr64 lo hi v i j).sol = s.sol := rfl
@[simp] theorem State.wr64_lsw (lo hi : RegDesc) (v i j : Nat) : (s.wr64 lo hi v i j).lsw = s.lsw := rfl
@[simp] theorem State.wr64_mtr (lo hi : RegDesc) (v i j : Nat) : (s.wr64 lo hi v i j).mtr = s.mtr := rfl
@[simp] theorem State.wr64_fan (lo hi : RegDesc) (v i j : Nat) : (s.wr64 lo hi v i j).fan = s.fan := rfl
@[simp] theorem State.wr64_can (lo hi : RegDesc) (v i j : Nat) : (s.wr64 lo hi v i j).can = s.can := rfl
@[simp] theorem State.wr64_tim (lo hi : RegDesc) (v i j : Nat) : (s.wr64 lo hi v i j).tim = s.tim := rfl
@[simp] theorem State.wr64_tts (lo hi : RegDesc) (v i j : Nat) : (s.wr64 lo hi v i j).tts = s.tts := rfl
@[simp] theorem State.wr64_col (lo hi : RegDesc) (v i j : Nat) : (s.wr64 lo hi v i j).col = s.col := rfl
@[simp] theorem State.wr64_net (lo hi : RegDesc) (v i j : Nat) : (s.wr64 lo hi v i j).net = s.net := rfl
@[simp] theorem State.wr64_sto (lo hi : RegDesc) (v i j : Nat) : (s.wr64 lo hi v i j).sto = s.sto := rfl
@[simp] theorem State.wr64_hlt (lo hi : RegDesc) (v i j : Nat) : (s.wr64 lo hi v i j).hlt = s.hlt := rfl
@[simp] theorem State.wr64_sys (lo hi : RegDesc) (v i j : Nat) : (s.wr64 lo hi v i j).sys = s.sys := rfl

/-! ### setRing -/

@[simp] theorem State.setRing_pending (n : Nat) (x : RingX) : (s.setRing n x).pending = s.pending := rfl
@[simp] theorem State.setRing_held (n : Nat) (x : RingX) : (s.setRing n x).held = s.held := rfl
@[simp] theorem State.setRing_variant (n : Nat) (x : RingX) : (s.setRing n x).variant = s.variant := rfl
@[simp] theorem State.setRing_tbNow (n : Nat) (x : RingX) : (s.setRing n x).tbNow = s.tbNow := rfl
@[simp] theorem State.setRing_elapsed (n : Nat) (x : RingX) : (s.setRing n x).elapsed = s.elapsed := rfl
@[simp] theorem State.setRing_fresh (n : Nat) (x : RingX) : (s.setRing n x).fresh = s.fresh := rfl
@[simp] theorem State.setRing_regs (n : Nat) (x : RingX) : (s.setRing n x).regs = s.regs := rfl
@[simp] theorem State.setRing_w1cSet (n : Nat) (x : RingX) : (s.setRing n x).w1cSet = s.w1cSet := rfl
@[simp] theorem State.setRing_frame (n : Nat) (x : RingX) : (s.setRing n x).frame = s.frame := rfl
@[simp] theorem State.setRing_beadErr (n : Nat) (x : RingX) : (s.setRing n x).beadErr = s.beadErr := rfl
@[simp] theorem State.setRing_rods (n : Nat) (x : RingX) : (s.setRing n x).rods = s.rods := rfl
@[simp] theorem State.setRing_programs (n : Nat) (x : RingX) : (s.setRing n x).programs = s.programs := rfl
@[simp] theorem State.setRing_template (n : Nat) (x : RingX) : (s.setRing n x).template = s.template := rfl
@[simp] theorem State.setRing_migration (n : Nat) (x : RingX) : (s.setRing n x).migration = s.migration := rfl
@[simp] theorem State.setRing_migEnd (n : Nat) (x : RingX) : (s.setRing n x).migEnd = s.migEnd := rfl
@[simp] theorem State.setRing_logQueue (n : Nat) (x : RingX) : (s.setRing n x).logQueue = s.logQueue := rfl
@[simp] theorem State.setRing_sent (n : Nat) (x : RingX) : (s.setRing n x).sent = s.sent := rfl
@[simp] theorem State.setRing_dfe (n : Nat) (x : RingX) : (s.setRing n x).dfe = s.dfe := rfl
@[simp] theorem State.setRing_dfeSpare (n : Nat) (x : RingX) : (s.setRing n x).dfeSpare = s.dfeSpare := rfl
@[simp] theorem State.setRing_pubs (n : Nat) (x : RingX) : (s.setRing n x).pubs = s.pubs := rfl
@[simp] theorem State.setRing_ageBase (n : Nat) (x : RingX) : (s.setRing n x).ageBase = s.ageBase := rfl
@[simp] theorem State.setRing_stepAt (n : Nat) (x : RingX) : (s.setRing n x).stepAt = s.stepAt := rfl
@[simp] theorem State.setRing_steps (n : Nat) (x : RingX) : (s.setRing n x).steps = s.steps := rfl
@[simp] theorem State.setRing_curves (n : Nat) (x : RingX) : (s.setRing n x).curves = s.curves := rfl
@[simp] theorem State.setRing_pfe (n : Nat) (x : RingX) : (s.setRing n x).pfe = s.pfe := rfl
@[simp] theorem State.setRing_pfeSpare (n : Nat) (x : RingX) : (s.setRing n x).pfeSpare = s.pfeSpare := rfl
@[simp] theorem State.setRing_trc (n : Nat) (x : RingX) : (s.setRing n x).trc = s.trc := rfl
@[simp] theorem State.setRing_lpe (n : Nat) (x : RingX) : (s.setRing n x).lpe = s.lpe := rfl
@[simp] theorem State.setRing_sol (n : Nat) (x : RingX) : (s.setRing n x).sol = s.sol := rfl
@[simp] theorem State.setRing_lsw (n : Nat) (x : RingX) : (s.setRing n x).lsw = s.lsw := rfl
@[simp] theorem State.setRing_mtr (n : Nat) (x : RingX) : (s.setRing n x).mtr = s.mtr := rfl
@[simp] theorem State.setRing_fan (n : Nat) (x : RingX) : (s.setRing n x).fan = s.fan := rfl
@[simp] theorem State.setRing_can (n : Nat) (x : RingX) : (s.setRing n x).can = s.can := rfl
@[simp] theorem State.setRing_tim (n : Nat) (x : RingX) : (s.setRing n x).tim = s.tim := rfl
@[simp] theorem State.setRing_tts (n : Nat) (x : RingX) : (s.setRing n x).tts = s.tts := rfl
@[simp] theorem State.setRing_col (n : Nat) (x : RingX) : (s.setRing n x).col = s.col := rfl
@[simp] theorem State.setRing_net (n : Nat) (x : RingX) : (s.setRing n x).net = s.net := rfl
@[simp] theorem State.setRing_sto (n : Nat) (x : RingX) : (s.setRing n x).sto = s.sto := rfl
@[simp] theorem State.setRing_hlt (n : Nat) (x : RingX) : (s.setRing n x).hlt = s.hlt := rfl
@[simp] theorem State.setRing_sys (n : Nat) (x : RingX) : (s.setRing n x).sys = s.sys := rfl
@[simp] theorem State.setRing_ring (n : Nat) (x : RingX) : (s.setRing n x).ring n = x := tabGet_tabPut_same _ _ _ _
theorem State.setRing_ring_ne {n m : Nat} (h : n ≠ m) (x : RingX) : (s.setRing n x).ring m = s.ring m := tabGet_tabPut_ne h

/-! ### setTrc -/

@[simp] theorem State.setTrc_pending (n : Nat) (x : TrcX) : (s.setTrc n x).pending = s.pending := rfl
@[simp] theorem State.setTrc_held (n : Nat) (x : TrcX) : (s.setTrc n x).held = s.held := rfl
@[simp] theorem State.setTrc_variant (n : Nat) (x : TrcX) : (s.setTrc n x).variant = s.variant := rfl
@[simp] theorem State.setTrc_tbNow (n : Nat) (x : TrcX) : (s.setTrc n x).tbNow = s.tbNow := rfl
@[simp] theorem State.setTrc_elapsed (n : Nat) (x : TrcX) : (s.setTrc n x).elapsed = s.elapsed := rfl
@[simp] theorem State.setTrc_fresh (n : Nat) (x : TrcX) : (s.setTrc n x).fresh = s.fresh := rfl
@[simp] theorem State.setTrc_regs (n : Nat) (x : TrcX) : (s.setTrc n x).regs = s.regs := rfl
@[simp] theorem State.setTrc_w1cSet (n : Nat) (x : TrcX) : (s.setTrc n x).w1cSet = s.w1cSet := rfl
@[simp] theorem State.setTrc_frame (n : Nat) (x : TrcX) : (s.setTrc n x).frame = s.frame := rfl
@[simp] theorem State.setTrc_beadErr (n : Nat) (x : TrcX) : (s.setTrc n x).beadErr = s.beadErr := rfl
@[simp] theorem State.setTrc_rings (n : Nat) (x : TrcX) : (s.setTrc n x).rings = s.rings := rfl
@[simp] theorem State.setTrc_rods (n : Nat) (x : TrcX) : (s.setTrc n x).rods = s.rods := rfl
@[simp] theorem State.setTrc_programs (n : Nat) (x : TrcX) : (s.setTrc n x).programs = s.programs := rfl
@[simp] theorem State.setTrc_template (n : Nat) (x : TrcX) : (s.setTrc n x).template = s.template := rfl
@[simp] theorem State.setTrc_migration (n : Nat) (x : TrcX) : (s.setTrc n x).migration = s.migration := rfl
@[simp] theorem State.setTrc_migEnd (n : Nat) (x : TrcX) : (s.setTrc n x).migEnd = s.migEnd := rfl
@[simp] theorem State.setTrc_logQueue (n : Nat) (x : TrcX) : (s.setTrc n x).logQueue = s.logQueue := rfl
@[simp] theorem State.setTrc_sent (n : Nat) (x : TrcX) : (s.setTrc n x).sent = s.sent := rfl
@[simp] theorem State.setTrc_dfe (n : Nat) (x : TrcX) : (s.setTrc n x).dfe = s.dfe := rfl
@[simp] theorem State.setTrc_dfeSpare (n : Nat) (x : TrcX) : (s.setTrc n x).dfeSpare = s.dfeSpare := rfl
@[simp] theorem State.setTrc_pubs (n : Nat) (x : TrcX) : (s.setTrc n x).pubs = s.pubs := rfl
@[simp] theorem State.setTrc_ageBase (n : Nat) (x : TrcX) : (s.setTrc n x).ageBase = s.ageBase := rfl
@[simp] theorem State.setTrc_stepAt (n : Nat) (x : TrcX) : (s.setTrc n x).stepAt = s.stepAt := rfl
@[simp] theorem State.setTrc_steps (n : Nat) (x : TrcX) : (s.setTrc n x).steps = s.steps := rfl
@[simp] theorem State.setTrc_curves (n : Nat) (x : TrcX) : (s.setTrc n x).curves = s.curves := rfl
@[simp] theorem State.setTrc_pfe (n : Nat) (x : TrcX) : (s.setTrc n x).pfe = s.pfe := rfl
@[simp] theorem State.setTrc_pfeSpare (n : Nat) (x : TrcX) : (s.setTrc n x).pfeSpare = s.pfeSpare := rfl
@[simp] theorem State.setTrc_lpe (n : Nat) (x : TrcX) : (s.setTrc n x).lpe = s.lpe := rfl
@[simp] theorem State.setTrc_sol (n : Nat) (x : TrcX) : (s.setTrc n x).sol = s.sol := rfl
@[simp] theorem State.setTrc_lsw (n : Nat) (x : TrcX) : (s.setTrc n x).lsw = s.lsw := rfl
@[simp] theorem State.setTrc_mtr (n : Nat) (x : TrcX) : (s.setTrc n x).mtr = s.mtr := rfl
@[simp] theorem State.setTrc_fan (n : Nat) (x : TrcX) : (s.setTrc n x).fan = s.fan := rfl
@[simp] theorem State.setTrc_can (n : Nat) (x : TrcX) : (s.setTrc n x).can = s.can := rfl
@[simp] theorem State.setTrc_tim (n : Nat) (x : TrcX) : (s.setTrc n x).tim = s.tim := rfl
@[simp] theorem State.setTrc_tts (n : Nat) (x : TrcX) : (s.setTrc n x).tts = s.tts := rfl
@[simp] theorem State.setTrc_col (n : Nat) (x : TrcX) : (s.setTrc n x).col = s.col := rfl
@[simp] theorem State.setTrc_net (n : Nat) (x : TrcX) : (s.setTrc n x).net = s.net := rfl
@[simp] theorem State.setTrc_sto (n : Nat) (x : TrcX) : (s.setTrc n x).sto = s.sto := rfl
@[simp] theorem State.setTrc_hlt (n : Nat) (x : TrcX) : (s.setTrc n x).hlt = s.hlt := rfl
@[simp] theorem State.setTrc_sys (n : Nat) (x : TrcX) : (s.setTrc n x).sys = s.sys := rfl
@[simp] theorem State.setTrc_trcX (n : Nat) (x : TrcX) : (s.setTrc n x).trcX n = x := tabGet_tabPut_same _ _ _ _
theorem State.setTrc_trcX_ne {n m : Nat} (h : n ≠ m) (x : TrcX) : (s.setTrc n x).trcX m = s.trcX m := tabGet_tabPut_ne h

/-! ### setRod -/

@[simp] theorem State.setRod_pending (n : Nat) (x : RodX) : (s.setRod n x).pending = s.pending := rfl
@[simp] theorem State.setRod_held (n : Nat) (x : RodX) : (s.setRod n x).held = s.held := rfl
@[simp] theorem State.setRod_variant (n : Nat) (x : RodX) : (s.setRod n x).variant = s.variant := rfl
@[simp] theorem State.setRod_tbNow (n : Nat) (x : RodX) : (s.setRod n x).tbNow = s.tbNow := rfl
@[simp] theorem State.setRod_elapsed (n : Nat) (x : RodX) : (s.setRod n x).elapsed = s.elapsed := rfl
@[simp] theorem State.setRod_fresh (n : Nat) (x : RodX) : (s.setRod n x).fresh = s.fresh := rfl
@[simp] theorem State.setRod_regs (n : Nat) (x : RodX) : (s.setRod n x).regs = s.regs := rfl
@[simp] theorem State.setRod_w1cSet (n : Nat) (x : RodX) : (s.setRod n x).w1cSet = s.w1cSet := rfl
@[simp] theorem State.setRod_frame (n : Nat) (x : RodX) : (s.setRod n x).frame = s.frame := rfl
@[simp] theorem State.setRod_beadErr (n : Nat) (x : RodX) : (s.setRod n x).beadErr = s.beadErr := rfl
@[simp] theorem State.setRod_rings (n : Nat) (x : RodX) : (s.setRod n x).rings = s.rings := rfl
@[simp] theorem State.setRod_programs (n : Nat) (x : RodX) : (s.setRod n x).programs = s.programs := rfl
@[simp] theorem State.setRod_template (n : Nat) (x : RodX) : (s.setRod n x).template = s.template := rfl
@[simp] theorem State.setRod_migration (n : Nat) (x : RodX) : (s.setRod n x).migration = s.migration := rfl
@[simp] theorem State.setRod_migEnd (n : Nat) (x : RodX) : (s.setRod n x).migEnd = s.migEnd := rfl
@[simp] theorem State.setRod_logQueue (n : Nat) (x : RodX) : (s.setRod n x).logQueue = s.logQueue := rfl
@[simp] theorem State.setRod_sent (n : Nat) (x : RodX) : (s.setRod n x).sent = s.sent := rfl
@[simp] theorem State.setRod_dfe (n : Nat) (x : RodX) : (s.setRod n x).dfe = s.dfe := rfl
@[simp] theorem State.setRod_dfeSpare (n : Nat) (x : RodX) : (s.setRod n x).dfeSpare = s.dfeSpare := rfl
@[simp] theorem State.setRod_pubs (n : Nat) (x : RodX) : (s.setRod n x).pubs = s.pubs := rfl
@[simp] theorem State.setRod_ageBase (n : Nat) (x : RodX) : (s.setRod n x).ageBase = s.ageBase := rfl
@[simp] theorem State.setRod_stepAt (n : Nat) (x : RodX) : (s.setRod n x).stepAt = s.stepAt := rfl
@[simp] theorem State.setRod_steps (n : Nat) (x : RodX) : (s.setRod n x).steps = s.steps := rfl
@[simp] theorem State.setRod_curves (n : Nat) (x : RodX) : (s.setRod n x).curves = s.curves := rfl
@[simp] theorem State.setRod_pfe (n : Nat) (x : RodX) : (s.setRod n x).pfe = s.pfe := rfl
@[simp] theorem State.setRod_pfeSpare (n : Nat) (x : RodX) : (s.setRod n x).pfeSpare = s.pfeSpare := rfl
@[simp] theorem State.setRod_trc (n : Nat) (x : RodX) : (s.setRod n x).trc = s.trc := rfl
@[simp] theorem State.setRod_lpe (n : Nat) (x : RodX) : (s.setRod n x).lpe = s.lpe := rfl
@[simp] theorem State.setRod_sol (n : Nat) (x : RodX) : (s.setRod n x).sol = s.sol := rfl
@[simp] theorem State.setRod_lsw (n : Nat) (x : RodX) : (s.setRod n x).lsw = s.lsw := rfl
@[simp] theorem State.setRod_mtr (n : Nat) (x : RodX) : (s.setRod n x).mtr = s.mtr := rfl
@[simp] theorem State.setRod_fan (n : Nat) (x : RodX) : (s.setRod n x).fan = s.fan := rfl
@[simp] theorem State.setRod_can (n : Nat) (x : RodX) : (s.setRod n x).can = s.can := rfl
@[simp] theorem State.setRod_tim (n : Nat) (x : RodX) : (s.setRod n x).tim = s.tim := rfl
@[simp] theorem State.setRod_tts (n : Nat) (x : RodX) : (s.setRod n x).tts = s.tts := rfl
@[simp] theorem State.setRod_col (n : Nat) (x : RodX) : (s.setRod n x).col = s.col := rfl
@[simp] theorem State.setRod_net (n : Nat) (x : RodX) : (s.setRod n x).net = s.net := rfl
@[simp] theorem State.setRod_sto (n : Nat) (x : RodX) : (s.setRod n x).sto = s.sto := rfl
@[simp] theorem State.setRod_hlt (n : Nat) (x : RodX) : (s.setRod n x).hlt = s.hlt := rfl
@[simp] theorem State.setRod_sys (n : Nat) (x : RodX) : (s.setRod n x).sys = s.sys := rfl
@[simp] theorem State.setRod_rod (n : Nat) (x : RodX) : (s.setRod n x).rod n = x := tabGet_tabPut_same _ _ _ _
theorem State.setRod_rod_ne {n m : Nat} (h : n ≠ m) (x : RodX) : (s.setRod n x).rod m = s.rod m := tabGet_tabPut_ne h

/-! ### setCan -/

@[simp] theorem State.setCan_pending (n : Nat) (x : CanX) : (s.setCan n x).pending = s.pending := rfl
@[simp] theorem State.setCan_held (n : Nat) (x : CanX) : (s.setCan n x).held = s.held := rfl
@[simp] theorem State.setCan_variant (n : Nat) (x : CanX) : (s.setCan n x).variant = s.variant := rfl
@[simp] theorem State.setCan_tbNow (n : Nat) (x : CanX) : (s.setCan n x).tbNow = s.tbNow := rfl
@[simp] theorem State.setCan_elapsed (n : Nat) (x : CanX) : (s.setCan n x).elapsed = s.elapsed := rfl
@[simp] theorem State.setCan_fresh (n : Nat) (x : CanX) : (s.setCan n x).fresh = s.fresh := rfl
@[simp] theorem State.setCan_regs (n : Nat) (x : CanX) : (s.setCan n x).regs = s.regs := rfl
@[simp] theorem State.setCan_w1cSet (n : Nat) (x : CanX) : (s.setCan n x).w1cSet = s.w1cSet := rfl
@[simp] theorem State.setCan_frame (n : Nat) (x : CanX) : (s.setCan n x).frame = s.frame := rfl
@[simp] theorem State.setCan_beadErr (n : Nat) (x : CanX) : (s.setCan n x).beadErr = s.beadErr := rfl
@[simp] theorem State.setCan_rings (n : Nat) (x : CanX) : (s.setCan n x).rings = s.rings := rfl
@[simp] theorem State.setCan_rods (n : Nat) (x : CanX) : (s.setCan n x).rods = s.rods := rfl
@[simp] theorem State.setCan_programs (n : Nat) (x : CanX) : (s.setCan n x).programs = s.programs := rfl
@[simp] theorem State.setCan_template (n : Nat) (x : CanX) : (s.setCan n x).template = s.template := rfl
@[simp] theorem State.setCan_migration (n : Nat) (x : CanX) : (s.setCan n x).migration = s.migration := rfl
@[simp] theorem State.setCan_migEnd (n : Nat) (x : CanX) : (s.setCan n x).migEnd = s.migEnd := rfl
@[simp] theorem State.setCan_logQueue (n : Nat) (x : CanX) : (s.setCan n x).logQueue = s.logQueue := rfl
@[simp] theorem State.setCan_sent (n : Nat) (x : CanX) : (s.setCan n x).sent = s.sent := rfl
@[simp] theorem State.setCan_dfe (n : Nat) (x : CanX) : (s.setCan n x).dfe = s.dfe := rfl
@[simp] theorem State.setCan_dfeSpare (n : Nat) (x : CanX) : (s.setCan n x).dfeSpare = s.dfeSpare := rfl
@[simp] theorem State.setCan_pubs (n : Nat) (x : CanX) : (s.setCan n x).pubs = s.pubs := rfl
@[simp] theorem State.setCan_ageBase (n : Nat) (x : CanX) : (s.setCan n x).ageBase = s.ageBase := rfl
@[simp] theorem State.setCan_stepAt (n : Nat) (x : CanX) : (s.setCan n x).stepAt = s.stepAt := rfl
@[simp] theorem State.setCan_steps (n : Nat) (x : CanX) : (s.setCan n x).steps = s.steps := rfl
@[simp] theorem State.setCan_curves (n : Nat) (x : CanX) : (s.setCan n x).curves = s.curves := rfl
@[simp] theorem State.setCan_pfe (n : Nat) (x : CanX) : (s.setCan n x).pfe = s.pfe := rfl
@[simp] theorem State.setCan_pfeSpare (n : Nat) (x : CanX) : (s.setCan n x).pfeSpare = s.pfeSpare := rfl
@[simp] theorem State.setCan_trc (n : Nat) (x : CanX) : (s.setCan n x).trc = s.trc := rfl
@[simp] theorem State.setCan_lpe (n : Nat) (x : CanX) : (s.setCan n x).lpe = s.lpe := rfl
@[simp] theorem State.setCan_sol (n : Nat) (x : CanX) : (s.setCan n x).sol = s.sol := rfl
@[simp] theorem State.setCan_lsw (n : Nat) (x : CanX) : (s.setCan n x).lsw = s.lsw := rfl
@[simp] theorem State.setCan_mtr (n : Nat) (x : CanX) : (s.setCan n x).mtr = s.mtr := rfl
@[simp] theorem State.setCan_fan (n : Nat) (x : CanX) : (s.setCan n x).fan = s.fan := rfl
@[simp] theorem State.setCan_tim (n : Nat) (x : CanX) : (s.setCan n x).tim = s.tim := rfl
@[simp] theorem State.setCan_tts (n : Nat) (x : CanX) : (s.setCan n x).tts = s.tts := rfl
@[simp] theorem State.setCan_col (n : Nat) (x : CanX) : (s.setCan n x).col = s.col := rfl
@[simp] theorem State.setCan_net (n : Nat) (x : CanX) : (s.setCan n x).net = s.net := rfl
@[simp] theorem State.setCan_sto (n : Nat) (x : CanX) : (s.setCan n x).sto = s.sto := rfl
@[simp] theorem State.setCan_hlt (n : Nat) (x : CanX) : (s.setCan n x).hlt = s.hlt := rfl
@[simp] theorem State.setCan_sys (n : Nat) (x : CanX) : (s.setCan n x).sys = s.sys := rfl
@[simp] theorem State.setCan_canX (n : Nat) (x : CanX) : (s.setCan n x).canX n = x := tabGet_tabPut_same _ _ _ _
theorem State.setCan_canX_ne {n m : Nat} (h : n ≠ m) (x : CanX) : (s.setCan n x).canX m = s.canX m := tabGet_tabPut_ne h

/-! ### setCol -/

@[simp] theorem State.setCol_pending (n : Nat) (x : ColX) : (s.setCol n x).pending = s.pending := rfl
@[simp] theorem State.setCol_held (n : Nat) (x : ColX) : (s.setCol n x).held = s.held := rfl
@[simp] theorem State.setCol_variant (n : Nat) (x : ColX) : (s.setCol n x).variant = s.variant := rfl
@[simp] theorem State.setCol_tbNow (n : Nat) (x : ColX) : (s.setCol n x).tbNow = s.tbNow := rfl
@[simp] theorem State.setCol_elapsed (n : Nat) (x : ColX) : (s.setCol n x).elapsed = s.elapsed := rfl
@[simp] theorem State.setCol_fresh (n : Nat) (x : ColX) : (s.setCol n x).fresh = s.fresh := rfl
@[simp] theorem State.setCol_regs (n : Nat) (x : ColX) : (s.setCol n x).regs = s.regs := rfl
@[simp] theorem State.setCol_w1cSet (n : Nat) (x : ColX) : (s.setCol n x).w1cSet = s.w1cSet := rfl
@[simp] theorem State.setCol_frame (n : Nat) (x : ColX) : (s.setCol n x).frame = s.frame := rfl
@[simp] theorem State.setCol_beadErr (n : Nat) (x : ColX) : (s.setCol n x).beadErr = s.beadErr := rfl
@[simp] theorem State.setCol_rings (n : Nat) (x : ColX) : (s.setCol n x).rings = s.rings := rfl
@[simp] theorem State.setCol_rods (n : Nat) (x : ColX) : (s.setCol n x).rods = s.rods := rfl
@[simp] theorem State.setCol_programs (n : Nat) (x : ColX) : (s.setCol n x).programs = s.programs := rfl
@[simp] theorem State.setCol_template (n : Nat) (x : ColX) : (s.setCol n x).template = s.template := rfl
@[simp] theorem State.setCol_migration (n : Nat) (x : ColX) : (s.setCol n x).migration = s.migration := rfl
@[simp] theorem State.setCol_migEnd (n : Nat) (x : ColX) : (s.setCol n x).migEnd = s.migEnd := rfl
@[simp] theorem State.setCol_logQueue (n : Nat) (x : ColX) : (s.setCol n x).logQueue = s.logQueue := rfl
@[simp] theorem State.setCol_sent (n : Nat) (x : ColX) : (s.setCol n x).sent = s.sent := rfl
@[simp] theorem State.setCol_dfe (n : Nat) (x : ColX) : (s.setCol n x).dfe = s.dfe := rfl
@[simp] theorem State.setCol_dfeSpare (n : Nat) (x : ColX) : (s.setCol n x).dfeSpare = s.dfeSpare := rfl
@[simp] theorem State.setCol_pubs (n : Nat) (x : ColX) : (s.setCol n x).pubs = s.pubs := rfl
@[simp] theorem State.setCol_ageBase (n : Nat) (x : ColX) : (s.setCol n x).ageBase = s.ageBase := rfl
@[simp] theorem State.setCol_stepAt (n : Nat) (x : ColX) : (s.setCol n x).stepAt = s.stepAt := rfl
@[simp] theorem State.setCol_steps (n : Nat) (x : ColX) : (s.setCol n x).steps = s.steps := rfl
@[simp] theorem State.setCol_curves (n : Nat) (x : ColX) : (s.setCol n x).curves = s.curves := rfl
@[simp] theorem State.setCol_pfe (n : Nat) (x : ColX) : (s.setCol n x).pfe = s.pfe := rfl
@[simp] theorem State.setCol_pfeSpare (n : Nat) (x : ColX) : (s.setCol n x).pfeSpare = s.pfeSpare := rfl
@[simp] theorem State.setCol_trc (n : Nat) (x : ColX) : (s.setCol n x).trc = s.trc := rfl
@[simp] theorem State.setCol_lpe (n : Nat) (x : ColX) : (s.setCol n x).lpe = s.lpe := rfl
@[simp] theorem State.setCol_sol (n : Nat) (x : ColX) : (s.setCol n x).sol = s.sol := rfl
@[simp] theorem State.setCol_lsw (n : Nat) (x : ColX) : (s.setCol n x).lsw = s.lsw := rfl
@[simp] theorem State.setCol_mtr (n : Nat) (x : ColX) : (s.setCol n x).mtr = s.mtr := rfl
@[simp] theorem State.setCol_fan (n : Nat) (x : ColX) : (s.setCol n x).fan = s.fan := rfl
@[simp] theorem State.setCol_can (n : Nat) (x : ColX) : (s.setCol n x).can = s.can := rfl
@[simp] theorem State.setCol_tim (n : Nat) (x : ColX) : (s.setCol n x).tim = s.tim := rfl
@[simp] theorem State.setCol_tts (n : Nat) (x : ColX) : (s.setCol n x).tts = s.tts := rfl
@[simp] theorem State.setCol_net (n : Nat) (x : ColX) : (s.setCol n x).net = s.net := rfl
@[simp] theorem State.setCol_sto (n : Nat) (x : ColX) : (s.setCol n x).sto = s.sto := rfl
@[simp] theorem State.setCol_hlt (n : Nat) (x : ColX) : (s.setCol n x).hlt = s.hlt := rfl
@[simp] theorem State.setCol_sys (n : Nat) (x : ColX) : (s.setCol n x).sys = s.sys := rfl
@[simp] theorem State.setCol_colX (n : Nat) (x : ColX) : (s.setCol n x).colX n = x := tabGet_tabPut_same _ _ _ _
theorem State.setCol_colX_ne {n m : Nat} (h : n ≠ m) (x : ColX) : (s.setCol n x).colX m = s.colX m := tabGet_tabPut_ne h

/-! ### setDfe -/

@[simp] theorem State.setDfe_pending (n : Nat) (x : DfeX) : (s.setDfe n x).pending = s.pending := rfl
@[simp] theorem State.setDfe_held (n : Nat) (x : DfeX) : (s.setDfe n x).held = s.held := rfl
@[simp] theorem State.setDfe_variant (n : Nat) (x : DfeX) : (s.setDfe n x).variant = s.variant := rfl
@[simp] theorem State.setDfe_tbNow (n : Nat) (x : DfeX) : (s.setDfe n x).tbNow = s.tbNow := rfl
@[simp] theorem State.setDfe_elapsed (n : Nat) (x : DfeX) : (s.setDfe n x).elapsed = s.elapsed := rfl
@[simp] theorem State.setDfe_fresh (n : Nat) (x : DfeX) : (s.setDfe n x).fresh = s.fresh := rfl
@[simp] theorem State.setDfe_regs (n : Nat) (x : DfeX) : (s.setDfe n x).regs = s.regs := rfl
@[simp] theorem State.setDfe_w1cSet (n : Nat) (x : DfeX) : (s.setDfe n x).w1cSet = s.w1cSet := rfl
@[simp] theorem State.setDfe_frame (n : Nat) (x : DfeX) : (s.setDfe n x).frame = s.frame := rfl
@[simp] theorem State.setDfe_beadErr (n : Nat) (x : DfeX) : (s.setDfe n x).beadErr = s.beadErr := rfl
@[simp] theorem State.setDfe_rings (n : Nat) (x : DfeX) : (s.setDfe n x).rings = s.rings := rfl
@[simp] theorem State.setDfe_rods (n : Nat) (x : DfeX) : (s.setDfe n x).rods = s.rods := rfl
@[simp] theorem State.setDfe_programs (n : Nat) (x : DfeX) : (s.setDfe n x).programs = s.programs := rfl
@[simp] theorem State.setDfe_template (n : Nat) (x : DfeX) : (s.setDfe n x).template = s.template := rfl
@[simp] theorem State.setDfe_migration (n : Nat) (x : DfeX) : (s.setDfe n x).migration = s.migration := rfl
@[simp] theorem State.setDfe_migEnd (n : Nat) (x : DfeX) : (s.setDfe n x).migEnd = s.migEnd := rfl
@[simp] theorem State.setDfe_logQueue (n : Nat) (x : DfeX) : (s.setDfe n x).logQueue = s.logQueue := rfl
@[simp] theorem State.setDfe_sent (n : Nat) (x : DfeX) : (s.setDfe n x).sent = s.sent := rfl
@[simp] theorem State.setDfe_dfeSpare (n : Nat) (x : DfeX) : (s.setDfe n x).dfeSpare = s.dfeSpare := rfl
@[simp] theorem State.setDfe_pubs (n : Nat) (x : DfeX) : (s.setDfe n x).pubs = s.pubs := rfl
@[simp] theorem State.setDfe_ageBase (n : Nat) (x : DfeX) : (s.setDfe n x).ageBase = s.ageBase := rfl
@[simp] theorem State.setDfe_stepAt (n : Nat) (x : DfeX) : (s.setDfe n x).stepAt = s.stepAt := rfl
@[simp] theorem State.setDfe_steps (n : Nat) (x : DfeX) : (s.setDfe n x).steps = s.steps := rfl
@[simp] theorem State.setDfe_curves (n : Nat) (x : DfeX) : (s.setDfe n x).curves = s.curves := rfl
@[simp] theorem State.setDfe_pfe (n : Nat) (x : DfeX) : (s.setDfe n x).pfe = s.pfe := rfl
@[simp] theorem State.setDfe_pfeSpare (n : Nat) (x : DfeX) : (s.setDfe n x).pfeSpare = s.pfeSpare := rfl
@[simp] theorem State.setDfe_trc (n : Nat) (x : DfeX) : (s.setDfe n x).trc = s.trc := rfl
@[simp] theorem State.setDfe_lpe (n : Nat) (x : DfeX) : (s.setDfe n x).lpe = s.lpe := rfl
@[simp] theorem State.setDfe_sol (n : Nat) (x : DfeX) : (s.setDfe n x).sol = s.sol := rfl
@[simp] theorem State.setDfe_lsw (n : Nat) (x : DfeX) : (s.setDfe n x).lsw = s.lsw := rfl
@[simp] theorem State.setDfe_mtr (n : Nat) (x : DfeX) : (s.setDfe n x).mtr = s.mtr := rfl
@[simp] theorem State.setDfe_fan (n : Nat) (x : DfeX) : (s.setDfe n x).fan = s.fan := rfl
@[simp] theorem State.setDfe_can (n : Nat) (x : DfeX) : (s.setDfe n x).can = s.can := rfl
@[simp] theorem State.setDfe_tim (n : Nat) (x : DfeX) : (s.setDfe n x).tim = s.tim := rfl
@[simp] theorem State.setDfe_tts (n : Nat) (x : DfeX) : (s.setDfe n x).tts = s.tts := rfl
@[simp] theorem State.setDfe_col (n : Nat) (x : DfeX) : (s.setDfe n x).col = s.col := rfl
@[simp] theorem State.setDfe_net (n : Nat) (x : DfeX) : (s.setDfe n x).net = s.net := rfl
@[simp] theorem State.setDfe_sto (n : Nat) (x : DfeX) : (s.setDfe n x).sto = s.sto := rfl
@[simp] theorem State.setDfe_hlt (n : Nat) (x : DfeX) : (s.setDfe n x).hlt = s.hlt := rfl
@[simp] theorem State.setDfe_sys (n : Nat) (x : DfeX) : (s.setDfe n x).sys = s.sys := rfl
@[simp] theorem State.setDfe_dfeX (n : Nat) (x : DfeX) : (s.setDfe n x).dfeX n = x := tabGet_tabPut_same _ _ _ _
theorem State.setDfe_dfeX_ne {n m : Nat} (h : n ≠ m) (x : DfeX) : (s.setDfe n x).dfeX m = s.dfeX m := tabGet_tabPut_ne h

/-! ### setLpe -/

@[simp] theorem State.setLpe_pending (n : Nat) (x : LpeX) : (s.setLpe n x).pending = s.pending := rfl
@[simp] theorem State.setLpe_held (n : Nat) (x : LpeX) : (s.setLpe n x).held = s.held := rfl
@[simp] theorem State.setLpe_variant (n : Nat) (x : LpeX) : (s.setLpe n x).variant = s.variant := rfl
@[simp] theorem State.setLpe_tbNow (n : Nat) (x : LpeX) : (s.setLpe n x).tbNow = s.tbNow := rfl
@[simp] theorem State.setLpe_elapsed (n : Nat) (x : LpeX) : (s.setLpe n x).elapsed = s.elapsed := rfl
@[simp] theorem State.setLpe_fresh (n : Nat) (x : LpeX) : (s.setLpe n x).fresh = s.fresh := rfl
@[simp] theorem State.setLpe_regs (n : Nat) (x : LpeX) : (s.setLpe n x).regs = s.regs := rfl
@[simp] theorem State.setLpe_w1cSet (n : Nat) (x : LpeX) : (s.setLpe n x).w1cSet = s.w1cSet := rfl
@[simp] theorem State.setLpe_frame (n : Nat) (x : LpeX) : (s.setLpe n x).frame = s.frame := rfl
@[simp] theorem State.setLpe_beadErr (n : Nat) (x : LpeX) : (s.setLpe n x).beadErr = s.beadErr := rfl
@[simp] theorem State.setLpe_rings (n : Nat) (x : LpeX) : (s.setLpe n x).rings = s.rings := rfl
@[simp] theorem State.setLpe_rods (n : Nat) (x : LpeX) : (s.setLpe n x).rods = s.rods := rfl
@[simp] theorem State.setLpe_programs (n : Nat) (x : LpeX) : (s.setLpe n x).programs = s.programs := rfl
@[simp] theorem State.setLpe_template (n : Nat) (x : LpeX) : (s.setLpe n x).template = s.template := rfl
@[simp] theorem State.setLpe_migration (n : Nat) (x : LpeX) : (s.setLpe n x).migration = s.migration := rfl
@[simp] theorem State.setLpe_migEnd (n : Nat) (x : LpeX) : (s.setLpe n x).migEnd = s.migEnd := rfl
@[simp] theorem State.setLpe_logQueue (n : Nat) (x : LpeX) : (s.setLpe n x).logQueue = s.logQueue := rfl
@[simp] theorem State.setLpe_sent (n : Nat) (x : LpeX) : (s.setLpe n x).sent = s.sent := rfl
@[simp] theorem State.setLpe_dfe (n : Nat) (x : LpeX) : (s.setLpe n x).dfe = s.dfe := rfl
@[simp] theorem State.setLpe_dfeSpare (n : Nat) (x : LpeX) : (s.setLpe n x).dfeSpare = s.dfeSpare := rfl
@[simp] theorem State.setLpe_pubs (n : Nat) (x : LpeX) : (s.setLpe n x).pubs = s.pubs := rfl
@[simp] theorem State.setLpe_ageBase (n : Nat) (x : LpeX) : (s.setLpe n x).ageBase = s.ageBase := rfl
@[simp] theorem State.setLpe_stepAt (n : Nat) (x : LpeX) : (s.setLpe n x).stepAt = s.stepAt := rfl
@[simp] theorem State.setLpe_steps (n : Nat) (x : LpeX) : (s.setLpe n x).steps = s.steps := rfl
@[simp] theorem State.setLpe_curves (n : Nat) (x : LpeX) : (s.setLpe n x).curves = s.curves := rfl
@[simp] theorem State.setLpe_pfe (n : Nat) (x : LpeX) : (s.setLpe n x).pfe = s.pfe := rfl
@[simp] theorem State.setLpe_pfeSpare (n : Nat) (x : LpeX) : (s.setLpe n x).pfeSpare = s.pfeSpare := rfl
@[simp] theorem State.setLpe_trc (n : Nat) (x : LpeX) : (s.setLpe n x).trc = s.trc := rfl
@[simp] theorem State.setLpe_sol (n : Nat) (x : LpeX) : (s.setLpe n x).sol = s.sol := rfl
@[simp] theorem State.setLpe_lsw (n : Nat) (x : LpeX) : (s.setLpe n x).lsw = s.lsw := rfl
@[simp] theorem State.setLpe_mtr (n : Nat) (x : LpeX) : (s.setLpe n x).mtr = s.mtr := rfl
@[simp] theorem State.setLpe_fan (n : Nat) (x : LpeX) : (s.setLpe n x).fan = s.fan := rfl
@[simp] theorem State.setLpe_can (n : Nat) (x : LpeX) : (s.setLpe n x).can = s.can := rfl
@[simp] theorem State.setLpe_tim (n : Nat) (x : LpeX) : (s.setLpe n x).tim = s.tim := rfl
@[simp] theorem State.setLpe_tts (n : Nat) (x : LpeX) : (s.setLpe n x).tts = s.tts := rfl
@[simp] theorem State.setLpe_col (n : Nat) (x : LpeX) : (s.setLpe n x).col = s.col := rfl
@[simp] theorem State.setLpe_net (n : Nat) (x : LpeX) : (s.setLpe n x).net = s.net := rfl
@[simp] theorem State.setLpe_sto (n : Nat) (x : LpeX) : (s.setLpe n x).sto = s.sto := rfl
@[simp] theorem State.setLpe_hlt (n : Nat) (x : LpeX) : (s.setLpe n x).hlt = s.hlt := rfl
@[simp] theorem State.setLpe_sys (n : Nat) (x : LpeX) : (s.setLpe n x).sys = s.sys := rfl
@[simp] theorem State.setLpe_lpeX (n : Nat) (x : LpeX) : (s.setLpe n x).lpeX n = x := tabGet_tabPut_same _ _ _ _
theorem State.setLpe_lpeX_ne {n m : Nat} (h : n ≠ m) (x : LpeX) : (s.setLpe n x).lpeX m = s.lpeX m := tabGet_tabPut_ne h

/-! ### setLsw -/

@[simp] theorem State.setLsw_pending (n : Nat) (x : LswX) : (s.setLsw n x).pending = s.pending := rfl
@[simp] theorem State.setLsw_held (n : Nat) (x : LswX) : (s.setLsw n x).held = s.held := rfl
@[simp] theorem State.setLsw_variant (n : Nat) (x : LswX) : (s.setLsw n x).variant = s.variant := rfl
@[simp] theorem State.setLsw_tbNow (n : Nat) (x : LswX) : (s.setLsw n x).tbNow = s.tbNow := rfl
@[simp] theorem State.setLsw_elapsed (n : Nat) (x : LswX) : (s.setLsw n x).elapsed = s.elapsed := rfl
@[simp] theorem State.setLsw_fresh (n : Nat) (x : LswX) : (s.setLsw n x).fresh = s.fresh := rfl
@[simp] theorem State.setLsw_regs (n : Nat) (x : LswX) : (s.setLsw n x).regs = s.regs := rfl
@[simp] theorem State.setLsw_w1cSet (n : Nat) (x : LswX) : (s.setLsw n x).w1cSet = s.w1cSet := rfl
@[simp] theorem State.setLsw_frame (n : Nat) (x : LswX) : (s.setLsw n x).frame = s.frame := rfl
@[simp] theorem State.setLsw_beadErr (n : Nat) (x : LswX) : (s.setLsw n x).beadErr = s.beadErr := rfl
@[simp] theorem State.setLsw_rings (n : Nat) (x : LswX) : (s.setLsw n x).rings = s.rings := rfl
@[simp] theorem State.setLsw_rods (n : Nat) (x : LswX) : (s.setLsw n x).rods = s.rods := rfl
@[simp] theorem State.setLsw_programs (n : Nat) (x : LswX) : (s.setLsw n x).programs = s.programs := rfl
@[simp] theorem State.setLsw_template (n : Nat) (x : LswX) : (s.setLsw n x).template = s.template := rfl
@[simp] theorem State.setLsw_migration (n : Nat) (x : LswX) : (s.setLsw n x).migration = s.migration := rfl
@[simp] theorem State.setLsw_migEnd (n : Nat) (x : LswX) : (s.setLsw n x).migEnd = s.migEnd := rfl
@[simp] theorem State.setLsw_logQueue (n : Nat) (x : LswX) : (s.setLsw n x).logQueue = s.logQueue := rfl
@[simp] theorem State.setLsw_sent (n : Nat) (x : LswX) : (s.setLsw n x).sent = s.sent := rfl
@[simp] theorem State.setLsw_dfe (n : Nat) (x : LswX) : (s.setLsw n x).dfe = s.dfe := rfl
@[simp] theorem State.setLsw_dfeSpare (n : Nat) (x : LswX) : (s.setLsw n x).dfeSpare = s.dfeSpare := rfl
@[simp] theorem State.setLsw_pubs (n : Nat) (x : LswX) : (s.setLsw n x).pubs = s.pubs := rfl
@[simp] theorem State.setLsw_ageBase (n : Nat) (x : LswX) : (s.setLsw n x).ageBase = s.ageBase := rfl
@[simp] theorem State.setLsw_stepAt (n : Nat) (x : LswX) : (s.setLsw n x).stepAt = s.stepAt := rfl
@[simp] theorem State.setLsw_steps (n : Nat) (x : LswX) : (s.setLsw n x).steps = s.steps := rfl
@[simp] theorem State.setLsw_curves (n : Nat) (x : LswX) : (s.setLsw n x).curves = s.curves := rfl
@[simp] theorem State.setLsw_pfe (n : Nat) (x : LswX) : (s.setLsw n x).pfe = s.pfe := rfl
@[simp] theorem State.setLsw_pfeSpare (n : Nat) (x : LswX) : (s.setLsw n x).pfeSpare = s.pfeSpare := rfl
@[simp] theorem State.setLsw_trc (n : Nat) (x : LswX) : (s.setLsw n x).trc = s.trc := rfl
@[simp] theorem State.setLsw_lpe (n : Nat) (x : LswX) : (s.setLsw n x).lpe = s.lpe := rfl
@[simp] theorem State.setLsw_sol (n : Nat) (x : LswX) : (s.setLsw n x).sol = s.sol := rfl
@[simp] theorem State.setLsw_mtr (n : Nat) (x : LswX) : (s.setLsw n x).mtr = s.mtr := rfl
@[simp] theorem State.setLsw_fan (n : Nat) (x : LswX) : (s.setLsw n x).fan = s.fan := rfl
@[simp] theorem State.setLsw_can (n : Nat) (x : LswX) : (s.setLsw n x).can = s.can := rfl
@[simp] theorem State.setLsw_tim (n : Nat) (x : LswX) : (s.setLsw n x).tim = s.tim := rfl
@[simp] theorem State.setLsw_tts (n : Nat) (x : LswX) : (s.setLsw n x).tts = s.tts := rfl
@[simp] theorem State.setLsw_col (n : Nat) (x : LswX) : (s.setLsw n x).col = s.col := rfl
@[simp] theorem State.setLsw_net (n : Nat) (x : LswX) : (s.setLsw n x).net = s.net := rfl
@[simp] theorem State.setLsw_sto (n : Nat) (x : LswX) : (s.setLsw n x).sto = s.sto := rfl
@[simp] theorem State.setLsw_hlt (n : Nat) (x : LswX) : (s.setLsw n x).hlt = s.hlt := rfl
@[simp] theorem State.setLsw_sys (n : Nat) (x : LswX) : (s.setLsw n x).sys = s.sys := rfl
@[simp] theorem State.setLsw_lswX (n : Nat) (x : LswX) : (s.setLsw n x).lswX n = x := tabGet_tabPut_same _ _ _ _
theorem State.setLsw_lswX_ne {n m : Nat} (h : n ≠ m) (x : LswX) : (s.setLsw n x).lswX m = s.lswX m := tabGet_tabPut_ne h

/-! ### setMtr -/

@[simp] theorem State.setMtr_pending (n : Nat) (x : MtrX) : (s.setMtr n x).pending = s.pending := rfl
@[simp] theorem State.setMtr_held (n : Nat) (x : MtrX) : (s.setMtr n x).held = s.held := rfl
@[simp] theorem State.setMtr_variant (n : Nat) (x : MtrX) : (s.setMtr n x).variant = s.variant := rfl
@[simp] theorem State.setMtr_tbNow (n : Nat) (x : MtrX) : (s.setMtr n x).tbNow = s.tbNow := rfl
@[simp] theorem State.setMtr_elapsed (n : Nat) (x : MtrX) : (s.setMtr n x).elapsed = s.elapsed := rfl
@[simp] theorem State.setMtr_fresh (n : Nat) (x : MtrX) : (s.setMtr n x).fresh = s.fresh := rfl
@[simp] theorem State.setMtr_regs (n : Nat) (x : MtrX) : (s.setMtr n x).regs = s.regs := rfl
@[simp] theorem State.setMtr_w1cSet (n : Nat) (x : MtrX) : (s.setMtr n x).w1cSet = s.w1cSet := rfl
@[simp] theorem State.setMtr_frame (n : Nat) (x : MtrX) : (s.setMtr n x).frame = s.frame := rfl
@[simp] theorem State.setMtr_beadErr (n : Nat) (x : MtrX) : (s.setMtr n x).beadErr = s.beadErr := rfl
@[simp] theorem State.setMtr_rings (n : Nat) (x : MtrX) : (s.setMtr n x).rings = s.rings := rfl
@[simp] theorem State.setMtr_rods (n : Nat) (x : MtrX) : (s.setMtr n x).rods = s.rods := rfl
@[simp] theorem State.setMtr_programs (n : Nat) (x : MtrX) : (s.setMtr n x).programs = s.programs := rfl
@[simp] theorem State.setMtr_template (n : Nat) (x : MtrX) : (s.setMtr n x).template = s.template := rfl
@[simp] theorem State.setMtr_migration (n : Nat) (x : MtrX) : (s.setMtr n x).migration = s.migration := rfl
@[simp] theorem State.setMtr_migEnd (n : Nat) (x : MtrX) : (s.setMtr n x).migEnd = s.migEnd := rfl
@[simp] theorem State.setMtr_logQueue (n : Nat) (x : MtrX) : (s.setMtr n x).logQueue = s.logQueue := rfl
@[simp] theorem State.setMtr_sent (n : Nat) (x : MtrX) : (s.setMtr n x).sent = s.sent := rfl
@[simp] theorem State.setMtr_dfe (n : Nat) (x : MtrX) : (s.setMtr n x).dfe = s.dfe := rfl
@[simp] theorem State.setMtr_dfeSpare (n : Nat) (x : MtrX) : (s.setMtr n x).dfeSpare = s.dfeSpare := rfl
@[simp] theorem State.setMtr_pubs (n : Nat) (x : MtrX) : (s.setMtr n x).pubs = s.pubs := rfl
@[simp] theorem State.setMtr_ageBase (n : Nat) (x : MtrX) : (s.setMtr n x).ageBase = s.ageBase := rfl
@[simp] theorem State.setMtr_stepAt (n : Nat) (x : MtrX) : (s.setMtr n x).stepAt = s.stepAt := rfl
@[simp] theorem State.setMtr_steps (n : Nat) (x : MtrX) : (s.setMtr n x).steps = s.steps := rfl
@[simp] theorem State.setMtr_curves (n : Nat) (x : MtrX) : (s.setMtr n x).curves = s.curves := rfl
@[simp] theorem State.setMtr_pfe (n : Nat) (x : MtrX) : (s.setMtr n x).pfe = s.pfe := rfl
@[simp] theorem State.setMtr_pfeSpare (n : Nat) (x : MtrX) : (s.setMtr n x).pfeSpare = s.pfeSpare := rfl
@[simp] theorem State.setMtr_trc (n : Nat) (x : MtrX) : (s.setMtr n x).trc = s.trc := rfl
@[simp] theorem State.setMtr_lpe (n : Nat) (x : MtrX) : (s.setMtr n x).lpe = s.lpe := rfl
@[simp] theorem State.setMtr_sol (n : Nat) (x : MtrX) : (s.setMtr n x).sol = s.sol := rfl
@[simp] theorem State.setMtr_lsw (n : Nat) (x : MtrX) : (s.setMtr n x).lsw = s.lsw := rfl
@[simp] theorem State.setMtr_fan (n : Nat) (x : MtrX) : (s.setMtr n x).fan = s.fan := rfl
@[simp] theorem State.setMtr_can (n : Nat) (x : MtrX) : (s.setMtr n x).can = s.can := rfl
@[simp] theorem State.setMtr_tim (n : Nat) (x : MtrX) : (s.setMtr n x).tim = s.tim := rfl
@[simp] theorem State.setMtr_tts (n : Nat) (x : MtrX) : (s.setMtr n x).tts = s.tts := rfl
@[simp] theorem State.setMtr_col (n : Nat) (x : MtrX) : (s.setMtr n x).col = s.col := rfl
@[simp] theorem State.setMtr_net (n : Nat) (x : MtrX) : (s.setMtr n x).net = s.net := rfl
@[simp] theorem State.setMtr_sto (n : Nat) (x : MtrX) : (s.setMtr n x).sto = s.sto := rfl
@[simp] theorem State.setMtr_hlt (n : Nat) (x : MtrX) : (s.setMtr n x).hlt = s.hlt := rfl
@[simp] theorem State.setMtr_sys (n : Nat) (x : MtrX) : (s.setMtr n x).sys = s.sys := rfl
@[simp] theorem State.setMtr_mtrX (n : Nat) (x : MtrX) : (s.setMtr n x).mtrX n = x := tabGet_tabPut_same _ _ _ _
theorem State.setMtr_mtrX_ne {n m : Nat} (h : n ≠ m) (x : MtrX) : (s.setMtr n x).mtrX m = s.mtrX m := tabGet_tabPut_ne h

/-! ### setPfe -/

@[simp] theorem State.setPfe_pending (n : Nat) (x : PfeX) : (s.setPfe n x).pending = s.pending := rfl
@[simp] theorem State.setPfe_held (n : Nat) (x : PfeX) : (s.setPfe n x).held = s.held := rfl
@[simp] theorem State.setPfe_variant (n : Nat) (x : PfeX) : (s.setPfe n x).variant = s.variant := rfl
@[simp] theorem State.setPfe_tbNow (n : Nat) (x : PfeX) : (s.setPfe n x).tbNow = s.tbNow := rfl
@[simp] theorem State.setPfe_elapsed (n : Nat) (x : PfeX) : (s.setPfe n x).elapsed = s.elapsed := rfl
@[simp] theorem State.setPfe_fresh (n : Nat) (x : PfeX) : (s.setPfe n x).fresh = s.fresh := rfl
@[simp] theorem State.setPfe_regs (n : Nat) (x : PfeX) : (s.setPfe n x).regs = s.regs := rfl
@[simp] theorem State.setPfe_w1cSet (n : Nat) (x : PfeX) : (s.setPfe n x).w1cSet = s.w1cSet := rfl
@[simp] theorem State.setPfe_frame (n : Nat) (x : PfeX) : (s.setPfe n x).frame = s.frame := rfl
@[simp] theorem State.setPfe_beadErr (n : Nat) (x : PfeX) : (s.setPfe n x).beadErr = s.beadErr := rfl
@[simp] theorem State.setPfe_rings (n : Nat) (x : PfeX) : (s.setPfe n x).rings = s.rings := rfl
@[simp] theorem State.setPfe_rods (n : Nat) (x : PfeX) : (s.setPfe n x).rods = s.rods := rfl
@[simp] theorem State.setPfe_programs (n : Nat) (x : PfeX) : (s.setPfe n x).programs = s.programs := rfl
@[simp] theorem State.setPfe_template (n : Nat) (x : PfeX) : (s.setPfe n x).template = s.template := rfl
@[simp] theorem State.setPfe_migration (n : Nat) (x : PfeX) : (s.setPfe n x).migration = s.migration := rfl
@[simp] theorem State.setPfe_migEnd (n : Nat) (x : PfeX) : (s.setPfe n x).migEnd = s.migEnd := rfl
@[simp] theorem State.setPfe_logQueue (n : Nat) (x : PfeX) : (s.setPfe n x).logQueue = s.logQueue := rfl
@[simp] theorem State.setPfe_sent (n : Nat) (x : PfeX) : (s.setPfe n x).sent = s.sent := rfl
@[simp] theorem State.setPfe_dfe (n : Nat) (x : PfeX) : (s.setPfe n x).dfe = s.dfe := rfl
@[simp] theorem State.setPfe_dfeSpare (n : Nat) (x : PfeX) : (s.setPfe n x).dfeSpare = s.dfeSpare := rfl
@[simp] theorem State.setPfe_pubs (n : Nat) (x : PfeX) : (s.setPfe n x).pubs = s.pubs := rfl
@[simp] theorem State.setPfe_ageBase (n : Nat) (x : PfeX) : (s.setPfe n x).ageBase = s.ageBase := rfl
@[simp] theorem State.setPfe_stepAt (n : Nat) (x : PfeX) : (s.setPfe n x).stepAt = s.stepAt := rfl
@[simp] theorem State.setPfe_steps (n : Nat) (x : PfeX) : (s.setPfe n x).steps = s.steps := rfl
@[simp] theorem State.setPfe_curves (n : Nat) (x : PfeX) : (s.setPfe n x).curves = s.curves := rfl
@[simp] theorem State.setPfe_pfeSpare (n : Nat) (x : PfeX) : (s.setPfe n x).pfeSpare = s.pfeSpare := rfl
@[simp] theorem State.setPfe_trc (n : Nat) (x : PfeX) : (s.setPfe n x).trc = s.trc := rfl
@[simp] theorem State.setPfe_lpe (n : Nat) (x : PfeX) : (s.setPfe n x).lpe = s.lpe := rfl
@[simp] theorem State.setPfe_sol (n : Nat) (x : PfeX) : (s.setPfe n x).sol = s.sol := rfl
@[simp] theorem State.setPfe_lsw (n : Nat) (x : PfeX) : (s.setPfe n x).lsw = s.lsw := rfl
@[simp] theorem State.setPfe_mtr (n : Nat) (x : PfeX) : (s.setPfe n x).mtr = s.mtr := rfl
@[simp] theorem State.setPfe_fan (n : Nat) (x : PfeX) : (s.setPfe n x).fan = s.fan := rfl
@[simp] theorem State.setPfe_can (n : Nat) (x : PfeX) : (s.setPfe n x).can = s.can := rfl
@[simp] theorem State.setPfe_tim (n : Nat) (x : PfeX) : (s.setPfe n x).tim = s.tim := rfl
@[simp] theorem State.setPfe_tts (n : Nat) (x : PfeX) : (s.setPfe n x).tts = s.tts := rfl
@[simp] theorem State.setPfe_col (n : Nat) (x : PfeX) : (s.setPfe n x).col = s.col := rfl
@[simp] theorem State.setPfe_net (n : Nat) (x : PfeX) : (s.setPfe n x).net = s.net := rfl
@[simp] theorem State.setPfe_sto (n : Nat) (x : PfeX) : (s.setPfe n x).sto = s.sto := rfl
@[simp] theorem State.setPfe_hlt (n : Nat) (x : PfeX) : (s.setPfe n x).hlt = s.hlt := rfl
@[simp] theorem State.setPfe_sys (n : Nat) (x : PfeX) : (s.setPfe n x).sys = s.sys := rfl
@[simp] theorem State.setPfe_pfeX (n : Nat) (x : PfeX) : (s.setPfe n x).pfeX n = x := tabGet_tabPut_same _ _ _ _
theorem State.setPfe_pfeX_ne {n m : Nat} (h : n ≠ m) (x : PfeX) : (s.setPfe n x).pfeX m = s.pfeX m := tabGet_tabPut_ne h

/-! ### setSol -/

@[simp] theorem State.setSol_pending (n : Nat) (x : SolX) : (s.setSol n x).pending = s.pending := rfl
@[simp] theorem State.setSol_held (n : Nat) (x : SolX) : (s.setSol n x).held = s.held := rfl
@[simp] theorem State.setSol_variant (n : Nat) (x : SolX) : (s.setSol n x).variant = s.variant := rfl
@[simp] theorem State.setSol_tbNow (n : Nat) (x : SolX) : (s.setSol n x).tbNow = s.tbNow := rfl
@[simp] theorem State.setSol_elapsed (n : Nat) (x : SolX) : (s.setSol n x).elapsed = s.elapsed := rfl
@[simp] theorem State.setSol_fresh (n : Nat) (x : SolX) : (s.setSol n x).fresh = s.fresh := rfl
@[simp] theorem State.setSol_regs (n : Nat) (x : SolX) : (s.setSol n x).regs = s.regs := rfl
@[simp] theorem State.setSol_w1cSet (n : Nat) (x : SolX) : (s.setSol n x).w1cSet = s.w1cSet := rfl
@[simp] theorem State.setSol_frame (n : Nat) (x : SolX) : (s.setSol n x).frame = s.frame := rfl
@[simp] theorem State.setSol_beadErr (n : Nat) (x : SolX) : (s.setSol n x).beadErr = s.beadErr := rfl
@[simp] theorem State.setSol_rings (n : Nat) (x : SolX) : (s.setSol n x).rings = s.rings := rfl
@[simp] theorem State.setSol_rods (n : Nat) (x : SolX) : (s.setSol n x).rods = s.rods := rfl
@[simp] theorem State.setSol_programs (n : Nat) (x : SolX) : (s.setSol n x).programs = s.programs := rfl
@[simp] theorem State.setSol_template (n : Nat) (x : SolX) : (s.setSol n x).template = s.template := rfl
@[simp] theorem State.setSol_migration (n : Nat) (x : SolX) : (s.setSol n x).migration = s.migration := rfl
@[simp] theorem State.setSol_migEnd (n : Nat) (x : SolX) : (s.setSol n x).migEnd = s.migEnd := rfl
@[simp] theorem State.setSol_logQueue (n : Nat) (x : SolX) : (s.setSol n x).logQueue = s.logQueue := rfl
@[simp] theorem State.setSol_sent (n : Nat) (x : SolX) : (s.setSol n x).sent = s.sent := rfl
@[simp] theorem State.setSol_dfe (n : Nat) (x : SolX) : (s.setSol n x).dfe = s.dfe := rfl
@[simp] theorem State.setSol_dfeSpare (n : Nat) (x : SolX) : (s.setSol n x).dfeSpare = s.dfeSpare := rfl
@[simp] theorem State.setSol_pubs (n : Nat) (x : SolX) : (s.setSol n x).pubs = s.pubs := rfl
@[simp] theorem State.setSol_ageBase (n : Nat) (x : SolX) : (s.setSol n x).ageBase = s.ageBase := rfl
@[simp] theorem State.setSol_stepAt (n : Nat) (x : SolX) : (s.setSol n x).stepAt = s.stepAt := rfl
@[simp] theorem State.setSol_steps (n : Nat) (x : SolX) : (s.setSol n x).steps = s.steps := rfl
@[simp] theorem State.setSol_curves (n : Nat) (x : SolX) : (s.setSol n x).curves = s.curves := rfl
@[simp] theorem State.setSol_pfe (n : Nat) (x : SolX) : (s.setSol n x).pfe = s.pfe := rfl
@[simp] theorem State.setSol_pfeSpare (n : Nat) (x : SolX) : (s.setSol n x).pfeSpare = s.pfeSpare := rfl
@[simp] theorem State.setSol_trc (n : Nat) (x : SolX) : (s.setSol n x).trc = s.trc := rfl
@[simp] theorem State.setSol_lpe (n : Nat) (x : SolX) : (s.setSol n x).lpe = s.lpe := rfl
@[simp] theorem State.setSol_lsw (n : Nat) (x : SolX) : (s.setSol n x).lsw = s.lsw := rfl
@[simp] theorem State.setSol_mtr (n : Nat) (x : SolX) : (s.setSol n x).mtr = s.mtr := rfl
@[simp] theorem State.setSol_fan (n : Nat) (x : SolX) : (s.setSol n x).fan = s.fan := rfl
@[simp] theorem State.setSol_can (n : Nat) (x : SolX) : (s.setSol n x).can = s.can := rfl
@[simp] theorem State.setSol_tim (n : Nat) (x : SolX) : (s.setSol n x).tim = s.tim := rfl
@[simp] theorem State.setSol_tts (n : Nat) (x : SolX) : (s.setSol n x).tts = s.tts := rfl
@[simp] theorem State.setSol_col (n : Nat) (x : SolX) : (s.setSol n x).col = s.col := rfl
@[simp] theorem State.setSol_net (n : Nat) (x : SolX) : (s.setSol n x).net = s.net := rfl
@[simp] theorem State.setSol_sto (n : Nat) (x : SolX) : (s.setSol n x).sto = s.sto := rfl
@[simp] theorem State.setSol_hlt (n : Nat) (x : SolX) : (s.setSol n x).hlt = s.hlt := rfl
@[simp] theorem State.setSol_sys (n : Nat) (x : SolX) : (s.setSol n x).sys = s.sys := rfl
@[simp] theorem State.setSol_solX (n : Nat) (x : SolX) : (s.setSol n x).solX n = x := tabGet_tabPut_same _ _ _ _
theorem State.setSol_solX_ne {n m : Nat} (h : n ≠ m) (x : SolX) : (s.setSol n x).solX m = s.solX m := tabGet_tabPut_ne h

/-! ### setTts -/

@[simp] theorem State.setTts_pending (n : Nat) (x : TtsX) : (s.setTts n x).pending = s.pending := rfl
@[simp] theorem State.setTts_held (n : Nat) (x : TtsX) : (s.setTts n x).held = s.held := rfl
@[simp] theorem State.setTts_variant (n : Nat) (x : TtsX) : (s.setTts n x).variant = s.variant := rfl
@[simp] theorem State.setTts_tbNow (n : Nat) (x : TtsX) : (s.setTts n x).tbNow = s.tbNow := rfl
@[simp] theorem State.setTts_elapsed (n : Nat) (x : TtsX) : (s.setTts n x).elapsed = s.elapsed := rfl
@[simp] theorem State.setTts_fresh (n : Nat) (x : TtsX) : (s.setTts n x).fresh = s.fresh := rfl
@[simp] theorem State.setTts_regs (n : Nat) (x : TtsX) : (s.setTts n x).regs = s.regs := rfl
@[simp] theorem State.setTts_w1cSet (n : Nat) (x : TtsX) : (s.setTts n x).w1cSet = s.w1cSet := rfl
@[simp] theorem State.setTts_frame (n : Nat) (x : TtsX) : (s.setTts n x).frame = s.frame := rfl
@[simp] theorem State.setTts_beadErr (n : Nat) (x : TtsX) : (s.setTts n x).beadErr = s.beadErr := rfl
@[simp] theorem State.setTts_rings (n : Nat) (x : TtsX) : (s.setTts n x).rings = s.rings := rfl
@[simp] theorem State.setTts_rods (n : Nat) (x : TtsX) : (s.setTts n x).rods = s.rods := rfl
@[simp] theorem State.setTts_programs (n : Nat) (x : TtsX) : (s.setTts n x).programs = s.programs := rfl
@[simp] theorem State.setTts_template (n : Nat) (x : TtsX) : (s.setTts n x).template = s.template := rfl
@[simp] theorem State.setTts_migration (n : Nat) (x : TtsX) : (s.setTts n x).migration = s.migration := rfl
@[simp] theorem State.setTts_migEnd (n : Nat) (x : TtsX) : (s.setTts n x).migEnd = s.migEnd := rfl
@[simp] theorem State.setTts_logQueue (n : Nat) (x : TtsX) : (s.setTts n x).logQueue = s.logQueue := rfl
@[simp] theorem State.setTts_sent (n : Nat) (x : TtsX) : (s.setTts n x).sent = s.sent := rfl
@[simp] theorem State.setTts_dfe (n : Nat) (x : TtsX) : (s.setTts n x).dfe = s.dfe := rfl
@[simp] theorem State.setTts_dfeSpare (n : Nat) (x : TtsX) : (s.setTts n x).dfeSpare = s.dfeSpare := rfl
@[simp] theorem State.setTts_pubs (n : Nat) (x : TtsX) : (s.setTts n x).pubs = s.pubs := rfl
@[simp] theorem State.setTts_ageBase (n : Nat) (x : TtsX) : (s.setTts n x).ageBase = s.ageBase := rfl
@[simp] theorem State.setTts_stepAt (n : Nat) (x : TtsX) : (s.setTts n x).stepAt = s.stepAt := rfl
@[simp] theorem State.setTts_steps (n : Nat) (x : TtsX) : (s.setTts n x).steps = s.steps := rfl
@[simp] theorem State.setTts_curves (n : Nat) (x : TtsX) : (s.setTts n x).curves = s.curves := rfl
@[simp] theorem State.setTts_pfe (n : Nat) (x : TtsX) : (s.setTts n x).pfe = s.pfe := rfl
@[simp] theorem State.setTts_pfeSpare (n : Nat) (x : TtsX) : (s.setTts n x).pfeSpare = s.pfeSpare := rfl
@[simp] theorem State.setTts_trc (n : Nat) (x : TtsX) : (s.setTts n x).trc = s.trc := rfl
@[simp] theorem State.setTts_lpe (n : Nat) (x : TtsX) : (s.setTts n x).lpe = s.lpe := rfl
@[simp] theorem State.setTts_sol (n : Nat) (x : TtsX) : (s.setTts n x).sol = s.sol := rfl
@[simp] theorem State.setTts_lsw (n : Nat) (x : TtsX) : (s.setTts n x).lsw = s.lsw := rfl
@[simp] theorem State.setTts_mtr (n : Nat) (x : TtsX) : (s.setTts n x).mtr = s.mtr := rfl
@[simp] theorem State.setTts_fan (n : Nat) (x : TtsX) : (s.setTts n x).fan = s.fan := rfl
@[simp] theorem State.setTts_can (n : Nat) (x : TtsX) : (s.setTts n x).can = s.can := rfl
@[simp] theorem State.setTts_tim (n : Nat) (x : TtsX) : (s.setTts n x).tim = s.tim := rfl
@[simp] theorem State.setTts_col (n : Nat) (x : TtsX) : (s.setTts n x).col = s.col := rfl
@[simp] theorem State.setTts_net (n : Nat) (x : TtsX) : (s.setTts n x).net = s.net := rfl
@[simp] theorem State.setTts_sto (n : Nat) (x : TtsX) : (s.setTts n x).sto = s.sto := rfl
@[simp] theorem State.setTts_hlt (n : Nat) (x : TtsX) : (s.setTts n x).hlt = s.hlt := rfl
@[simp] theorem State.setTts_sys (n : Nat) (x : TtsX) : (s.setTts n x).sys = s.sys := rfl
@[simp] theorem State.setTts_ttsX (n : Nat) (x : TtsX) : (s.setTts n x).ttsX n = x := tabGet_tabPut_same _ _ _ _
theorem State.setTts_ttsX_ne {n m : Nat} (h : n ≠ m) (x : TtsX) : (s.setTts n x).ttsX m = s.ttsX m := tabGet_tabPut_ne h

/-! ### setHlt -/

@[simp] theorem State.setHlt_pending (x : HltX) : (s.setHlt x).pending = s.pending := rfl
@[simp] theorem State.setHlt_held (x : HltX) : (s.setHlt x).held = s.held := rfl
@[simp] theorem State.setHlt_variant (x : HltX) : (s.setHlt x).variant = s.variant := rfl
@[simp] theorem State.setHlt_tbNow (x : HltX) : (s.setHlt x).tbNow = s.tbNow := rfl
@[simp] theorem State.setHlt_elapsed (x : HltX) : (s.setHlt x).elapsed = s.elapsed := rfl
@[simp] theorem State.setHlt_fresh (x : HltX) : (s.setHlt x).fresh = s.fresh := rfl
@[simp] theorem State.setHlt_regs (x : HltX) : (s.setHlt x).regs = s.regs := rfl
@[simp] theorem State.setHlt_w1cSet (x : HltX) : (s.setHlt x).w1cSet = s.w1cSet := rfl
@[simp] theorem State.setHlt_frame (x : HltX) : (s.setHlt x).frame = s.frame := rfl
@[simp] theorem State.setHlt_beadErr (x : HltX) : (s.setHlt x).beadErr = s.beadErr := rfl
@[simp] theorem State.setHlt_rings (x : HltX) : (s.setHlt x).rings = s.rings := rfl
@[simp] theorem State.setHlt_rods (x : HltX) : (s.setHlt x).rods = s.rods := rfl
@[simp] theorem State.setHlt_programs (x : HltX) : (s.setHlt x).programs = s.programs := rfl
@[simp] theorem State.setHlt_template (x : HltX) : (s.setHlt x).template = s.template := rfl
@[simp] theorem State.setHlt_migration (x : HltX) : (s.setHlt x).migration = s.migration := rfl
@[simp] theorem State.setHlt_migEnd (x : HltX) : (s.setHlt x).migEnd = s.migEnd := rfl
@[simp] theorem State.setHlt_logQueue (x : HltX) : (s.setHlt x).logQueue = s.logQueue := rfl
@[simp] theorem State.setHlt_sent (x : HltX) : (s.setHlt x).sent = s.sent := rfl
@[simp] theorem State.setHlt_dfe (x : HltX) : (s.setHlt x).dfe = s.dfe := rfl
@[simp] theorem State.setHlt_dfeSpare (x : HltX) : (s.setHlt x).dfeSpare = s.dfeSpare := rfl
@[simp] theorem State.setHlt_pubs (x : HltX) : (s.setHlt x).pubs = s.pubs := rfl
@[simp] theorem State.setHlt_ageBase (x : HltX) : (s.setHlt x).ageBase = s.ageBase := rfl
@[simp] theorem State.setHlt_stepAt (x : HltX) : (s.setHlt x).stepAt = s.stepAt := rfl
@[simp] theorem State.setHlt_steps (x : HltX) : (s.setHlt x).steps = s.steps := rfl
@[simp] theorem State.setHlt_curves (x : HltX) : (s.setHlt x).curves = s.curves := rfl
@[simp] theorem State.setHlt_pfe (x : HltX) : (s.setHlt x).pfe = s.pfe := rfl
@[simp] theorem State.setHlt_pfeSpare (x : HltX) : (s.setHlt x).pfeSpare = s.pfeSpare := rfl
@[simp] theorem State.setHlt_trc (x : HltX) : (s.setHlt x).trc = s.trc := rfl
@[simp] theorem State.setHlt_lpe (x : HltX) : (s.setHlt x).lpe = s.lpe := rfl
@[simp] theorem State.setHlt_sol (x : HltX) : (s.setHlt x).sol = s.sol := rfl
@[simp] theorem State.setHlt_lsw (x : HltX) : (s.setHlt x).lsw = s.lsw := rfl
@[simp] theorem State.setHlt_mtr (x : HltX) : (s.setHlt x).mtr = s.mtr := rfl
@[simp] theorem State.setHlt_fan (x : HltX) : (s.setHlt x).fan = s.fan := rfl
@[simp] theorem State.setHlt_can (x : HltX) : (s.setHlt x).can = s.can := rfl
@[simp] theorem State.setHlt_tim (x : HltX) : (s.setHlt x).tim = s.tim := rfl
@[simp] theorem State.setHlt_tts (x : HltX) : (s.setHlt x).tts = s.tts := rfl
@[simp] theorem State.setHlt_col (x : HltX) : (s.setHlt x).col = s.col := rfl
@[simp] theorem State.setHlt_net (x : HltX) : (s.setHlt x).net = s.net := rfl
@[simp] theorem State.setHlt_sto (x : HltX) : (s.setHlt x).sto = s.sto := rfl
@[simp] theorem State.setHlt_hlt (x : HltX) : (s.setHlt x).hlt = x := rfl
@[simp] theorem State.setHlt_sys (x : HltX) : (s.setHlt x).sys = s.sys := rfl

/-! ### setSys -/

@[simp] theorem State.setSys_pending (x : SysX) : (s.setSys x).pending = s.pending := rfl
@[simp] theorem State.setSys_held (x : SysX) : (s.setSys x).held = s.held := rfl
@[simp] theorem State.setSys_variant (x : SysX) : (s.setSys x).variant = s.variant := rfl
@[simp] theorem State.setSys_tbNow (x : SysX) : (s.setSys x).tbNow = s.tbNow := rfl
@[simp] theorem State.setSys_elapsed (x : SysX) : (s.setSys x).elapsed = s.elapsed := rfl
@[simp] theorem State.setSys_fresh (x : SysX) : (s.setSys x).fresh = s.fresh := rfl
@[simp] theorem State.setSys_regs (x : SysX) : (s.setSys x).regs = s.regs := rfl
@[simp] theorem State.setSys_w1cSet (x : SysX) : (s.setSys x).w1cSet = s.w1cSet := rfl
@[simp] theorem State.setSys_frame (x : SysX) : (s.setSys x).frame = s.frame := rfl
@[simp] theorem State.setSys_beadErr (x : SysX) : (s.setSys x).beadErr = s.beadErr := rfl
@[simp] theorem State.setSys_rings (x : SysX) : (s.setSys x).rings = s.rings := rfl
@[simp] theorem State.setSys_rods (x : SysX) : (s.setSys x).rods = s.rods := rfl
@[simp] theorem State.setSys_programs (x : SysX) : (s.setSys x).programs = s.programs := rfl
@[simp] theorem State.setSys_template (x : SysX) : (s.setSys x).template = s.template := rfl
@[simp] theorem State.setSys_migration (x : SysX) : (s.setSys x).migration = s.migration := rfl
@[simp] theorem State.setSys_migEnd (x : SysX) : (s.setSys x).migEnd = s.migEnd := rfl
@[simp] theorem State.setSys_logQueue (x : SysX) : (s.setSys x).logQueue = s.logQueue := rfl
@[simp] theorem State.setSys_sent (x : SysX) : (s.setSys x).sent = s.sent := rfl
@[simp] theorem State.setSys_dfe (x : SysX) : (s.setSys x).dfe = s.dfe := rfl
@[simp] theorem State.setSys_dfeSpare (x : SysX) : (s.setSys x).dfeSpare = s.dfeSpare := rfl
@[simp] theorem State.setSys_pubs (x : SysX) : (s.setSys x).pubs = s.pubs := rfl
@[simp] theorem State.setSys_ageBase (x : SysX) : (s.setSys x).ageBase = s.ageBase := rfl
@[simp] theorem State.setSys_stepAt (x : SysX) : (s.setSys x).stepAt = s.stepAt := rfl
@[simp] theorem State.setSys_steps (x : SysX) : (s.setSys x).steps = s.steps := rfl
@[simp] theorem State.setSys_curves (x : SysX) : (s.setSys x).curves = s.curves := rfl
@[simp] theorem State.setSys_pfe (x : SysX) : (s.setSys x).pfe = s.pfe := rfl
@[simp] theorem State.setSys_pfeSpare (x : SysX) : (s.setSys x).pfeSpare = s.pfeSpare := rfl
@[simp] theorem State.setSys_trc (x : SysX) : (s.setSys x).trc = s.trc := rfl
@[simp] theorem State.setSys_lpe (x : SysX) : (s.setSys x).lpe = s.lpe := rfl
@[simp] theorem State.setSys_sol (x : SysX) : (s.setSys x).sol = s.sol := rfl
@[simp] theorem State.setSys_lsw (x : SysX) : (s.setSys x).lsw = s.lsw := rfl
@[simp] theorem State.setSys_mtr (x : SysX) : (s.setSys x).mtr = s.mtr := rfl
@[simp] theorem State.setSys_fan (x : SysX) : (s.setSys x).fan = s.fan := rfl
@[simp] theorem State.setSys_can (x : SysX) : (s.setSys x).can = s.can := rfl
@[simp] theorem State.setSys_tim (x : SysX) : (s.setSys x).tim = s.tim := rfl
@[simp] theorem State.setSys_tts (x : SysX) : (s.setSys x).tts = s.tts := rfl
@[simp] theorem State.setSys_col (x : SysX) : (s.setSys x).col = s.col := rfl
@[simp] theorem State.setSys_net (x : SysX) : (s.setSys x).net = s.net := rfl
@[simp] theorem State.setSys_sto (x : SysX) : (s.setSys x).sto = s.sto := rfl
@[simp] theorem State.setSys_hlt (x : SysX) : (s.setSys x).hlt = s.hlt := rfl
@[simp] theorem State.setSys_sys (x : SysX) : (s.setSys x).sys = x := rfl

/-! ### setSto -/

@[simp] theorem State.setSto_pending (x : StoX) : (s.setSto x).pending = s.pending := rfl
@[simp] theorem State.setSto_held (x : StoX) : (s.setSto x).held = s.held := rfl
@[simp] theorem State.setSto_variant (x : StoX) : (s.setSto x).variant = s.variant := rfl
@[simp] theorem State.setSto_tbNow (x : StoX) : (s.setSto x).tbNow = s.tbNow := rfl
@[simp] theorem State.setSto_elapsed (x : StoX) : (s.setSto x).elapsed = s.elapsed := rfl
@[simp] theorem State.setSto_fresh (x : StoX) : (s.setSto x).fresh = s.fresh := rfl
@[simp] theorem State.setSto_regs (x : StoX) : (s.setSto x).regs = s.regs := rfl
@[simp] theorem State.setSto_w1cSet (x : StoX) : (s.setSto x).w1cSet = s.w1cSet := rfl
@[simp] theorem State.setSto_frame (x : StoX) : (s.setSto x).frame = s.frame := rfl
@[simp] theorem State.setSto_beadErr (x : StoX) : (s.setSto x).beadErr = s.beadErr := rfl
@[simp] theorem State.setSto_rings (x : StoX) : (s.setSto x).rings = s.rings := rfl
@[simp] theorem State.setSto_rods (x : StoX) : (s.setSto x).rods = s.rods := rfl
@[simp] theorem State.setSto_programs (x : StoX) : (s.setSto x).programs = s.programs := rfl
@[simp] theorem State.setSto_template (x : StoX) : (s.setSto x).template = s.template := rfl
@[simp] theorem State.setSto_migration (x : StoX) : (s.setSto x).migration = s.migration := rfl
@[simp] theorem State.setSto_migEnd (x : StoX) : (s.setSto x).migEnd = s.migEnd := rfl
@[simp] theorem State.setSto_logQueue (x : StoX) : (s.setSto x).logQueue = s.logQueue := rfl
@[simp] theorem State.setSto_sent (x : StoX) : (s.setSto x).sent = s.sent := rfl
@[simp] theorem State.setSto_dfe (x : StoX) : (s.setSto x).dfe = s.dfe := rfl
@[simp] theorem State.setSto_dfeSpare (x : StoX) : (s.setSto x).dfeSpare = s.dfeSpare := rfl
@[simp] theorem State.setSto_pubs (x : StoX) : (s.setSto x).pubs = s.pubs := rfl
@[simp] theorem State.setSto_ageBase (x : StoX) : (s.setSto x).ageBase = s.ageBase := rfl
@[simp] theorem State.setSto_stepAt (x : StoX) : (s.setSto x).stepAt = s.stepAt := rfl
@[simp] theorem State.setSto_steps (x : StoX) : (s.setSto x).steps = s.steps := rfl
@[simp] theorem State.setSto_curves (x : StoX) : (s.setSto x).curves = s.curves := rfl
@[simp] theorem State.setSto_pfe (x : StoX) : (s.setSto x).pfe = s.pfe := rfl
@[simp] theorem State.setSto_pfeSpare (x : StoX) : (s.setSto x).pfeSpare = s.pfeSpare := rfl
@[simp] theorem State.setSto_trc (x : StoX) : (s.setSto x).trc = s.trc := rfl
@[simp] theorem State.setSto_lpe (x : StoX) : (s.setSto x).lpe = s.lpe := rfl
@[simp] theorem State.setSto_sol (x : StoX) : (s.setSto x).sol = s.sol := rfl
@[simp] theorem State.setSto_lsw (x : StoX) : (s.setSto x).lsw = s.lsw := rfl
@[simp] theorem State.setSto_mtr (x : StoX) : (s.setSto x).mtr = s.mtr := rfl
@[simp] theorem State.setSto_fan (x : StoX) : (s.setSto x).fan = s.fan := rfl
@[simp] theorem State.setSto_can (x : StoX) : (s.setSto x).can = s.can := rfl
@[simp] theorem State.setSto_tim (x : StoX) : (s.setSto x).tim = s.tim := rfl
@[simp] theorem State.setSto_tts (x : StoX) : (s.setSto x).tts = s.tts := rfl
@[simp] theorem State.setSto_col (x : StoX) : (s.setSto x).col = s.col := rfl
@[simp] theorem State.setSto_net (x : StoX) : (s.setSto x).net = s.net := rfl
@[simp] theorem State.setSto_sto (x : StoX) : (s.setSto x).sto = x := rfl
@[simp] theorem State.setSto_hlt (x : StoX) : (s.setSto x).hlt = s.hlt := rfl
@[simp] theorem State.setSto_sys (x : StoX) : (s.setSto x).sys = s.sys := rfl

/-! ### setTim -/

@[simp] theorem State.setTim_pending (x : TimX) : (s.setTim x).pending = s.pending := rfl
@[simp] theorem State.setTim_held (x : TimX) : (s.setTim x).held = s.held := rfl
@[simp] theorem State.setTim_variant (x : TimX) : (s.setTim x).variant = s.variant := rfl
@[simp] theorem State.setTim_tbNow (x : TimX) : (s.setTim x).tbNow = s.tbNow := rfl
@[simp] theorem State.setTim_elapsed (x : TimX) : (s.setTim x).elapsed = s.elapsed := rfl
@[simp] theorem State.setTim_fresh (x : TimX) : (s.setTim x).fresh = s.fresh := rfl
@[simp] theorem State.setTim_regs (x : TimX) : (s.setTim x).regs = s.regs := rfl
@[simp] theorem State.setTim_w1cSet (x : TimX) : (s.setTim x).w1cSet = s.w1cSet := rfl
@[simp] theorem State.setTim_frame (x : TimX) : (s.setTim x).frame = s.frame := rfl
@[simp] theorem State.setTim_beadErr (x : TimX) : (s.setTim x).beadErr = s.beadErr := rfl
@[simp] theorem State.setTim_rings (x : TimX) : (s.setTim x).rings = s.rings := rfl
@[simp] theorem State.setTim_rods (x : TimX) : (s.setTim x).rods = s.rods := rfl
@[simp] theorem State.setTim_programs (x : TimX) : (s.setTim x).programs = s.programs := rfl
@[simp] theorem State.setTim_template (x : TimX) : (s.setTim x).template = s.template := rfl
@[simp] theorem State.setTim_migration (x : TimX) : (s.setTim x).migration = s.migration := rfl
@[simp] theorem State.setTim_migEnd (x : TimX) : (s.setTim x).migEnd = s.migEnd := rfl
@[simp] theorem State.setTim_logQueue (x : TimX) : (s.setTim x).logQueue = s.logQueue := rfl
@[simp] theorem State.setTim_sent (x : TimX) : (s.setTim x).sent = s.sent := rfl
@[simp] theorem State.setTim_dfe (x : TimX) : (s.setTim x).dfe = s.dfe := rfl
@[simp] theorem State.setTim_dfeSpare (x : TimX) : (s.setTim x).dfeSpare = s.dfeSpare := rfl
@[simp] theorem State.setTim_pubs (x : TimX) : (s.setTim x).pubs = s.pubs := rfl
@[simp] theorem State.setTim_ageBase (x : TimX) : (s.setTim x).ageBase = s.ageBase := rfl
@[simp] theorem State.setTim_stepAt (x : TimX) : (s.setTim x).stepAt = s.stepAt := rfl
@[simp] theorem State.setTim_steps (x : TimX) : (s.setTim x).steps = s.steps := rfl
@[simp] theorem State.setTim_curves (x : TimX) : (s.setTim x).curves = s.curves := rfl
@[simp] theorem State.setTim_pfe (x : TimX) : (s.setTim x).pfe = s.pfe := rfl
@[simp] theorem State.setTim_pfeSpare (x : TimX) : (s.setTim x).pfeSpare = s.pfeSpare := rfl
@[simp] theorem State.setTim_trc (x : TimX) : (s.setTim x).trc = s.trc := rfl
@[simp] theorem State.setTim_lpe (x : TimX) : (s.setTim x).lpe = s.lpe := rfl
@[simp] theorem State.setTim_sol (x : TimX) : (s.setTim x).sol = s.sol := rfl
@[simp] theorem State.setTim_lsw (x : TimX) : (s.setTim x).lsw = s.lsw := rfl
@[simp] theorem State.setTim_mtr (x : TimX) : (s.setTim x).mtr = s.mtr := rfl
@[simp] theorem State.setTim_fan (x : TimX) : (s.setTim x).fan = s.fan := rfl
@[simp] theorem State.setTim_can (x : TimX) : (s.setTim x).can = s.can := rfl
@[simp] theorem State.setTim_tim (x : TimX) : (s.setTim x).tim = x := rfl
@[simp] theorem State.setTim_tts (x : TimX) : (s.setTim x).tts = s.tts := rfl
@[simp] theorem State.setTim_col (x : TimX) : (s.setTim x).col = s.col := rfl
@[simp] theorem State.setTim_net (x : TimX) : (s.setTim x).net = s.net := rfl
@[simp] theorem State.setTim_sto (x : TimX) : (s.setTim x).sto = s.sto := rfl
@[simp] theorem State.setTim_hlt (x : TimX) : (s.setTim x).hlt = s.hlt := rfl
@[simp] theorem State.setTim_sys (x : TimX) : (s.setTim x).sys = s.sys := rfl

/-! ### Reads of registers after an update of something else -/

@[simp] theorem State.setRing_rd (k : Nat) (x : RingX) (d : RegDesc) (i j : Nat) : (s.setRing k x).rd d i j = s.rd d i j := rfl
@[simp] theorem State.setRing_nat (k : Nat) (x : RingX) (d : RegDesc) (i j : Nat) : (s.setRing k x).nat d i j = s.nat d i j := rfl
@[simp] theorem State.setRing_f (k : Nat) (x : RingX) (fl : Fld) (i j : Nat) : (s.setRing k x).f fl i j = s.f fl i j := rfl
@[simp] theorem State.setRing_fi (k : Nat) (x : RingX) (fl : Fld) (i j : Nat) : (s.setRing k x).fi fl i j = s.fi fl i j := rfl
@[simp] theorem State.setRing_fb (k : Nat) (x : RingX) (fl : Fld) (i j : Nat) : (s.setRing k x).fb fl i j = s.fb fl i j := rfl
@[simp] theorem State.setRing_domOn (k : Nat) (x : RingX) (m : Nat) : (s.setRing k x).domOn m = s.domOn m := rfl
@[simp] theorem State.setRing_mode (k : Nat) (x : RingX) : (s.setRing k x).mode = s.mode := rfl
@[simp] theorem State.setTrc_rd (k : Nat) (x : TrcX) (d : RegDesc) (i j : Nat) : (s.setTrc k x).rd d i j = s.rd d i j := rfl
@[simp] theorem State.setTrc_nat (k : Nat) (x : TrcX) (d : RegDesc) (i j : Nat) : (s.setTrc k x).nat d i j = s.nat d i j := rfl
@[simp] theorem State.setTrc_f (k : Nat) (x : TrcX) (fl : Fld) (i j : Nat) : (s.setTrc k x).f fl i j = s.f fl i j := rfl
@[simp] theorem State.setTrc_fi (k : Nat) (x : TrcX) (fl : Fld) (i j : Nat) : (s.setTrc k x).fi fl i j = s.fi fl i j := rfl
@[simp] theorem State.setTrc_fb (k : Nat) (x : TrcX) (fl : Fld) (i j : Nat) : (s.setTrc k x).fb fl i j = s.fb fl i j := rfl
@[simp] theorem State.setTrc_domOn (k : Nat) (x : TrcX) (m : Nat) : (s.setTrc k x).domOn m = s.domOn m := rfl
@[simp] theorem State.setTrc_mode (k : Nat) (x : TrcX) : (s.setTrc k x).mode = s.mode := rfl
@[simp] theorem State.setRod_rd (k : Nat) (x : RodX) (d : RegDesc) (i j : Nat) : (s.setRod k x).rd d i j = s.rd d i j := rfl
@[simp] theorem State.setRod_nat (k : Nat) (x : RodX) (d : RegDesc) (i j : Nat) : (s.setRod k x).nat d i j = s.nat d i j := rfl
@[simp] theorem State.setRod_f (k : Nat) (x : RodX) (fl : Fld) (i j : Nat) : (s.setRod k x).f fl i j = s.f fl i j := rfl
@[simp] theorem State.setRod_fi (k : Nat) (x : RodX) (fl : Fld) (i j : Nat) : (s.setRod k x).fi fl i j = s.fi fl i j := rfl
@[simp] theorem State.setRod_fb (k : Nat) (x : RodX) (fl : Fld) (i j : Nat) : (s.setRod k x).fb fl i j = s.fb fl i j := rfl
@[simp] theorem State.setRod_domOn (k : Nat) (x : RodX) (m : Nat) : (s.setRod k x).domOn m = s.domOn m := rfl
@[simp] theorem State.setRod_mode (k : Nat) (x : RodX) : (s.setRod k x).mode = s.mode := rfl
@[simp] theorem State.setCan_rd (k : Nat) (x : CanX) (d : RegDesc) (i j : Nat) : (s.setCan k x).rd d i j = s.rd d i j := rfl
@[simp] theorem State.setCan_nat (k : Nat) (x : CanX) (d : RegDesc) (i j : Nat) : (s.setCan k x).nat d i j = s.nat d i j := rfl
@[simp] theorem State.setCan_f (k : Nat) (x : CanX) (fl : Fld) (i j : Nat) : (s.setCan k x).f fl i j = s.f fl i j := rfl
@[simp] theorem State.setCan_fi (k : Nat) (x : CanX) (fl : Fld) (i j : Nat) : (s.setCan k x).fi fl i j = s.fi fl i j := rfl
@[simp] theorem State.setCan_fb (k : Nat) (x : CanX) (fl : Fld) (i j : Nat) : (s.setCan k x).fb fl i j = s.fb fl i j := rfl
@[simp] theorem State.setCan_domOn (k : Nat) (x : CanX) (m : Nat) : (s.setCan k x).domOn m = s.domOn m := rfl
@[simp] theorem State.setCan_mode (k : Nat) (x : CanX) : (s.setCan k x).mode = s.mode := rfl
@[simp] theorem State.setCol_rd (k : Nat) (x : ColX) (d : RegDesc) (i j : Nat) : (s.setCol k x).rd d i j = s.rd d i j := rfl
@[simp] theorem State.setCol_nat (k : Nat) (x : ColX) (d : RegDesc) (i j : Nat) : (s.setCol k x).nat d i j = s.nat d i j := rfl
@[simp] theorem State.setCol_f (k : Nat) (x : ColX) (fl : Fld) (i j : Nat) : (s.setCol k x).f fl i j = s.f fl i j := rfl
@[simp] theorem State.setCol_fi (k : Nat) (x : ColX) (fl : Fld) (i j : Nat) : (s.setCol k x).fi fl i j = s.fi fl i j := rfl
@[simp] theorem State.setCol_fb (k : Nat) (x : ColX) (fl : Fld) (i j : Nat) : (s.setCol k x).fb fl i j = s.fb fl i j := rfl
@[simp] theorem State.setCol_domOn (k : Nat) (x : ColX) (m : Nat) : (s.setCol k x).domOn m = s.domOn m := rfl
@[simp] theorem State.setCol_mode (k : Nat) (x : ColX) : (s.setCol k x).mode = s.mode := rfl
@[simp] theorem State.setDfe_rd (k : Nat) (x : DfeX) (d : RegDesc) (i j : Nat) : (s.setDfe k x).rd d i j = s.rd d i j := rfl
@[simp] theorem State.setDfe_nat (k : Nat) (x : DfeX) (d : RegDesc) (i j : Nat) : (s.setDfe k x).nat d i j = s.nat d i j := rfl
@[simp] theorem State.setDfe_f (k : Nat) (x : DfeX) (fl : Fld) (i j : Nat) : (s.setDfe k x).f fl i j = s.f fl i j := rfl
@[simp] theorem State.setDfe_fi (k : Nat) (x : DfeX) (fl : Fld) (i j : Nat) : (s.setDfe k x).fi fl i j = s.fi fl i j := rfl
@[simp] theorem State.setDfe_fb (k : Nat) (x : DfeX) (fl : Fld) (i j : Nat) : (s.setDfe k x).fb fl i j = s.fb fl i j := rfl
@[simp] theorem State.setDfe_domOn (k : Nat) (x : DfeX) (m : Nat) : (s.setDfe k x).domOn m = s.domOn m := rfl
@[simp] theorem State.setDfe_mode (k : Nat) (x : DfeX) : (s.setDfe k x).mode = s.mode := rfl
@[simp] theorem State.setLpe_rd (k : Nat) (x : LpeX) (d : RegDesc) (i j : Nat) : (s.setLpe k x).rd d i j = s.rd d i j := rfl
@[simp] theorem State.setLpe_nat (k : Nat) (x : LpeX) (d : RegDesc) (i j : Nat) : (s.setLpe k x).nat d i j = s.nat d i j := rfl
@[simp] theorem State.setLpe_f (k : Nat) (x : LpeX) (fl : Fld) (i j : Nat) : (s.setLpe k x).f fl i j = s.f fl i j := rfl
@[simp] theorem State.setLpe_fi (k : Nat) (x : LpeX) (fl : Fld) (i j : Nat) : (s.setLpe k x).fi fl i j = s.fi fl i j := rfl
@[simp] theorem State.setLpe_fb (k : Nat) (x : LpeX) (fl : Fld) (i j : Nat) : (s.setLpe k x).fb fl i j = s.fb fl i j := rfl
@[simp] theorem State.setLpe_domOn (k : Nat) (x : LpeX) (m : Nat) : (s.setLpe k x).domOn m = s.domOn m := rfl
@[simp] theorem State.setLpe_mode (k : Nat) (x : LpeX) : (s.setLpe k x).mode = s.mode := rfl
@[simp] theorem State.setLsw_rd (k : Nat) (x : LswX) (d : RegDesc) (i j : Nat) : (s.setLsw k x).rd d i j = s.rd d i j := rfl
@[simp] theorem State.setLsw_nat (k : Nat) (x : LswX) (d : RegDesc) (i j : Nat) : (s.setLsw k x).nat d i j = s.nat d i j := rfl
@[simp] theorem State.setLsw_f (k : Nat) (x : LswX) (fl : Fld) (i j : Nat) : (s.setLsw k x).f fl i j = s.f fl i j := rfl
@[simp] theorem State.setLsw_fi (k : Nat) (x : LswX) (fl : Fld) (i j : Nat) : (s.setLsw k x).fi fl i j = s.fi fl i j := rfl
@[simp] theorem State.setLsw_fb (k : Nat) (x : LswX) (fl : Fld) (i j : Nat) : (s.setLsw k x).fb fl i j = s.fb fl i j := rfl
@[simp] theorem State.setLsw_domOn (k : Nat) (x : LswX) (m : Nat) : (s.setLsw k x).domOn m = s.domOn m := rfl
@[simp] theorem State.setLsw_mode (k : Nat) (x : LswX) : (s.setLsw k x).mode = s.mode := rfl
@[simp] theorem State.setMtr_rd (k : Nat) (x : MtrX) (d : RegDesc) (i j : Nat) : (s.setMtr k x).rd d i j = s.rd d i j := rfl
@[simp] theorem State.setMtr_nat (k : Nat) (x : MtrX) (d : RegDesc) (i j : Nat) : (s.setMtr k x).nat d i j = s.nat d i j := rfl
@[simp] theorem State.setMtr_f (k : Nat) (x : MtrX) (fl : Fld) (i j : Nat) : (s.setMtr k x).f fl i j = s.f fl i j := rfl
@[simp] theorem State.setMtr_fi (k : Nat) (x : MtrX) (fl : Fld) (i j : Nat) : (s.setMtr k x).fi fl i j = s.fi fl i j := rfl
@[simp] theorem State.setMtr_fb (k : Nat) (x : MtrX) (fl : Fld) (i j : Nat) : (s.setMtr k x).fb fl i j = s.fb fl i j := rfl
@[simp] theorem State.setMtr_domOn (k : Nat) (x : MtrX) (m : Nat) : (s.setMtr k x).domOn m = s.domOn m := rfl
@[simp] theorem State.setMtr_mode (k : Nat) (x : MtrX) : (s.setMtr k x).mode = s.mode := rfl
@[simp] theorem State.setPfe_rd (k : Nat) (x : PfeX) (d : RegDesc) (i j : Nat) : (s.setPfe k x).rd d i j = s.rd d i j := rfl
@[simp] theorem State.setPfe_nat (k : Nat) (x : PfeX) (d : RegDesc) (i j : Nat) : (s.setPfe k x).nat d i j = s.nat d i j := rfl
@[simp] theorem State.setPfe_f (k : Nat) (x : PfeX) (fl : Fld) (i j : Nat) : (s.setPfe k x).f fl i j = s.f fl i j := rfl
@[simp] theorem State.setPfe_fi (k : Nat) (x : PfeX) (fl : Fld) (i j : Nat) : (s.setPfe k x).fi fl i j = s.fi fl i j := rfl
@[simp] theorem State.setPfe_fb (k : Nat) (x : PfeX) (fl : Fld) (i j : Nat) : (s.setPfe k x).fb fl i j = s.fb fl i j := rfl
@[simp] theorem State.setPfe_domOn (k : Nat) (x : PfeX) (m : Nat) : (s.setPfe k x).domOn m = s.domOn m := rfl
@[simp] theorem State.setPfe_mode (k : Nat) (x : PfeX) : (s.setPfe k x).mode = s.mode := rfl
@[simp] theorem State.setSol_rd (k : Nat) (x : SolX) (d : RegDesc) (i j : Nat) : (s.setSol k x).rd d i j = s.rd d i j := rfl
@[simp] theorem State.setSol_nat (k : Nat) (x : SolX) (d : RegDesc) (i j : Nat) : (s.setSol k x).nat d i j = s.nat d i j := rfl
@[simp] theorem State.setSol_f (k : Nat) (x : SolX) (fl : Fld) (i j : Nat) : (s.setSol k x).f fl i j = s.f fl i j := rfl
@[simp] theorem State.setSol_fi (k : Nat) (x : SolX) (fl : Fld) (i j : Nat) : (s.setSol k x).fi fl i j = s.fi fl i j := rfl
@[simp] theorem State.setSol_fb (k : Nat) (x : SolX) (fl : Fld) (i j : Nat) : (s.setSol k x).fb fl i j = s.fb fl i j := rfl
@[simp] theorem State.setSol_domOn (k : Nat) (x : SolX) (m : Nat) : (s.setSol k x).domOn m = s.domOn m := rfl
@[simp] theorem State.setSol_mode (k : Nat) (x : SolX) : (s.setSol k x).mode = s.mode := rfl
@[simp] theorem State.setTts_rd (k : Nat) (x : TtsX) (d : RegDesc) (i j : Nat) : (s.setTts k x).rd d i j = s.rd d i j := rfl
@[simp] theorem State.setTts_nat (k : Nat) (x : TtsX) (d : RegDesc) (i j : Nat) : (s.setTts k x).nat d i j = s.nat d i j := rfl
@[simp] theorem State.setTts_f (k : Nat) (x : TtsX) (fl : Fld) (i j : Nat) : (s.setTts k x).f fl i j = s.f fl i j := rfl
@[simp] theorem State.setTts_fi (k : Nat) (x : TtsX) (fl : Fld) (i j : Nat) : (s.setTts k x).fi fl i j = s.fi fl i j := rfl
@[simp] theorem State.setTts_fb (k : Nat) (x : TtsX) (fl : Fld) (i j : Nat) : (s.setTts k x).fb fl i j = s.fb fl i j := rfl
@[simp] theorem State.setTts_domOn (k : Nat) (x : TtsX) (m : Nat) : (s.setTts k x).domOn m = s.domOn m := rfl
@[simp] theorem State.setTts_mode (k : Nat) (x : TtsX) : (s.setTts k x).mode = s.mode := rfl
@[simp] theorem State.setHlt_rd (x : HltX) (d : RegDesc) (i j : Nat) : (s.setHlt x).rd d i j = s.rd d i j := rfl
@[simp] theorem State.setHlt_nat (x : HltX) (d : RegDesc) (i j : Nat) : (s.setHlt x).nat d i j = s.nat d i j := rfl
@[simp] theorem State.setHlt_f (x : HltX) (fl : Fld) (i j : Nat) : (s.setHlt x).f fl i j = s.f fl i j := rfl
@[simp] theorem State.setHlt_fi (x : HltX) (fl : Fld) (i j : Nat) : (s.setHlt x).fi fl i j = s.fi fl i j := rfl
@[simp] theorem State.setHlt_fb (x : HltX) (fl : Fld) (i j : Nat) : (s.setHlt x).fb fl i j = s.fb fl i j := rfl
@[simp] theorem State.setHlt_domOn (x : HltX) (m : Nat) : (s.setHlt x).domOn m = s.domOn m := rfl
@[simp] theorem State.setHlt_mode (x : HltX) : (s.setHlt x).mode = s.mode := rfl
@[simp] theorem State.setSys_rd (x : SysX) (d : RegDesc) (i j : Nat) : (s.setSys x).rd d i j = s.rd d i j := rfl
@[simp] theorem State.setSys_nat (x : SysX) (d : RegDesc) (i j : Nat) : (s.setSys x).nat d i j = s.nat d i j := rfl
@[simp] theorem State.setSys_f (x : SysX) (fl : Fld) (i j : Nat) : (s.setSys x).f fl i j = s.f fl i j := rfl
@[simp] theorem State.setSys_fi (x : SysX) (fl : Fld) (i j : Nat) : (s.setSys x).fi fl i j = s.fi fl i j := rfl
@[simp] theorem State.setSys_fb (x : SysX) (fl : Fld) (i j : Nat) : (s.setSys x).fb fl i j = s.fb fl i j := rfl
@[simp] theorem State.setSys_domOn (x : SysX) (m : Nat) : (s.setSys x).domOn m = s.domOn m := rfl
@[simp] theorem State.setSys_mode (x : SysX) : (s.setSys x).mode = s.mode := rfl
@[simp] theorem State.setSto_rd (x : StoX) (d : RegDesc) (i j : Nat) : (s.setSto x).rd d i j = s.rd d i j := rfl
@[simp] theorem State.setSto_nat (x : StoX) (d : RegDesc) (i j : Nat) : (s.setSto x).nat d i j = s.nat d i j := rfl
@[simp] theorem State.setSto_f (x : StoX) (fl : Fld) (i j : Nat) : (s.setSto x).f fl i j = s.f fl i j := rfl
@[simp] theorem State.setSto_fi (x : StoX) (fl : Fld) (i j : Nat) : (s.setSto x).fi fl i j = s.fi fl i j := rfl
@[simp] theorem State.setSto_fb (x : StoX) (fl : Fld) (i j : Nat) : (s.setSto x).fb fl i j = s.fb fl i j := rfl
@[simp] theorem State.setSto_domOn (x : StoX) (m : Nat) : (s.setSto x).domOn m = s.domOn m := rfl
@[simp] theorem State.setSto_mode (x : StoX) : (s.setSto x).mode = s.mode := rfl
@[simp] theorem State.setTim_rd (x : TimX) (d : RegDesc) (i j : Nat) : (s.setTim x).rd d i j = s.rd d i j := rfl
@[simp] theorem State.setTim_nat (x : TimX) (d : RegDesc) (i j : Nat) : (s.setTim x).nat d i j = s.nat d i j := rfl
@[simp] theorem State.setTim_f (x : TimX) (fl : Fld) (i j : Nat) : (s.setTim x).f fl i j = s.f fl i j := rfl
@[simp] theorem State.setTim_fi (x : TimX) (fl : Fld) (i j : Nat) : (s.setTim x).fi fl i j = s.fi fl i j := rfl
@[simp] theorem State.setTim_fb (x : TimX) (fl : Fld) (i j : Nat) : (s.setTim x).fb fl i j = s.fb fl i j := rfl
@[simp] theorem State.setTim_domOn (x : TimX) (m : Nat) : (s.setTim x).domOn m = s.domOn m := rfl
@[simp] theorem State.setTim_mode (x : TimX) : (s.setTim x).mode = s.mode := rfl

/-! ### Reads of tables after an update of something else -/

@[simp] theorem State.wr_ring (d : RegDesc) (v : Word) (i j : Nat) (m : Nat) : (s.wr d v i j).ring m = s.ring m := rfl
@[simp] theorem State.wr_trcX (d : RegDesc) (v : Word) (i j : Nat) (m : Nat) : (s.wr d v i j).trcX m = s.trcX m := rfl
@[simp] theorem State.wr_rod (d : RegDesc) (v : Word) (i j : Nat) (m : Nat) : (s.wr d v i j).rod m = s.rod m := rfl
@[simp] theorem State.wr_canX (d : RegDesc) (v : Word) (i j : Nat) (m : Nat) : (s.wr d v i j).canX m = s.canX m := rfl
@[simp] theorem State.wr_colX (d : RegDesc) (v : Word) (i j : Nat) (m : Nat) : (s.wr d v i j).colX m = s.colX m := rfl
@[simp] theorem State.wr_dfeX (d : RegDesc) (v : Word) (i j : Nat) (m : Nat) : (s.wr d v i j).dfeX m = s.dfeX m := rfl
@[simp] theorem State.wr_lpeX (d : RegDesc) (v : Word) (i j : Nat) (m : Nat) : (s.wr d v i j).lpeX m = s.lpeX m := rfl
@[simp] theorem State.wr_lswX (d : RegDesc) (v : Word) (i j : Nat) (m : Nat) : (s.wr d v i j).lswX m = s.lswX m := rfl
@[simp] theorem State.wr_mtrX (d : RegDesc) (v : Word) (i j : Nat) (m : Nat) : (s.wr d v i j).mtrX m = s.mtrX m := rfl
@[simp] theorem State.wr_pfeX (d : RegDesc) (v : Word) (i j : Nat) (m : Nat) : (s.wr d v i j).pfeX m = s.pfeX m := rfl
@[simp] theorem State.wr_solX (d : RegDesc) (v : Word) (i j : Nat) (m : Nat) : (s.wr d v i j).solX m = s.solX m := rfl
@[simp] theorem State.wr_ttsX (d : RegDesc) (v : Word) (i j : Nat) (m : Nat) : (s.wr d v i j).ttsX m = s.ttsX m := rfl
@[simp] theorem State.setF_ring (fl : Fld) (v i j : Nat) (m : Nat) : (s.setF fl v i j).ring m = s.ring m := rfl
@[simp] theorem State.setF_trcX (fl : Fld) (v i j : Nat) (m : Nat) : (s.setF fl v i j).trcX m = s.trcX m := rfl
@[simp] theorem State.setF_rod (fl : Fld) (v i j : Nat) (m : Nat) : (s.setF fl v i j).rod m = s.rod m := rfl
@[simp] theorem State.setF_canX (fl : Fld) (v i j : Nat) (m : Nat) : (s.setF fl v i j).canX m = s.canX m := rfl
@[simp] theorem State.setF_colX (fl : Fld) (v i j : Nat) (m : Nat) : (s.setF fl v i j).colX m = s.colX m := rfl
@[simp] theorem State.setF_dfeX (fl : Fld) (v i j : Nat) (m : Nat) : (s.setF fl v i j).dfeX m = s.dfeX m := rfl
@[simp] theorem State.setF_lpeX (fl : Fld) (v i j : Nat) (m : Nat) : (s.setF fl v i j).lpeX m = s.lpeX m := rfl
@[simp] theorem State.setF_lswX (fl : Fld) (v i j : Nat) (m : Nat) : (s.setF fl v i j).lswX m = s.lswX m := rfl
@[simp] theorem State.setF_mtrX (fl : Fld) (v i j : Nat) (m : Nat) : (s.setF fl v i j).mtrX m = s.mtrX m := rfl
@[simp] theorem State.setF_pfeX (fl : Fld) (v i j : Nat) (m : Nat) : (s.setF fl v i j).pfeX m = s.pfeX m := rfl
@[simp] theorem State.setF_solX (fl : Fld) (v i j : Nat) (m : Nat) : (s.setF fl v i j).solX m = s.solX m := rfl
@[simp] theorem State.setF_ttsX (fl : Fld) (v i j : Nat) (m : Nat) : (s.setF fl v i j).ttsX m = s.ttsX m := rfl
@[simp] theorem State.setFi_ring (fl : Fld) (v : Int) (i j : Nat) (m : Nat) : (s.setFi fl v i j).ring m = s.ring m := rfl
@[simp] theorem State.setFi_trcX (fl : Fld) (v : Int) (i j : Nat) (m : Nat) : (s.setFi fl v i j).trcX m = s.trcX m := rfl
@[simp] theorem State.setFi_rod (fl : Fld) (v : Int) (i j : Nat) (m : Nat) : (s.setFi fl v i j).rod m = s.rod m := rfl
@[simp] theorem State.setFi_canX (fl : Fld) (v : Int) (i j : Nat) (m : Nat) : (s.setFi fl v i j).canX m = s.canX m := rfl
@[simp] theorem State.setFi_colX (fl : Fld) (v : Int) (i j : Nat) (m : Nat) : (s.setFi fl v i j).colX m = s.colX m := rfl
@[simp] theorem State.setFi_dfeX (fl : Fld) (v : Int) (i j : Nat) (m : Nat) : (s.setFi fl v i j).dfeX m = s.dfeX m := rfl
@[simp] theorem State.setFi_lpeX (fl : Fld) (v : Int) (i j : Nat) (m : Nat) : (s.setFi fl v i j).lpeX m = s.lpeX m := rfl
@[simp] theorem State.setFi_lswX (fl : Fld) (v : Int) (i j : Nat) (m : Nat) : (s.setFi fl v i j).lswX m = s.lswX m := rfl
@[simp] theorem State.setFi_mtrX (fl : Fld) (v : Int) (i j : Nat) (m : Nat) : (s.setFi fl v i j).mtrX m = s.mtrX m := rfl
@[simp] theorem State.setFi_pfeX (fl : Fld) (v : Int) (i j : Nat) (m : Nat) : (s.setFi fl v i j).pfeX m = s.pfeX m := rfl
@[simp] theorem State.setFi_solX (fl : Fld) (v : Int) (i j : Nat) (m : Nat) : (s.setFi fl v i j).solX m = s.solX m := rfl
@[simp] theorem State.setFi_ttsX (fl : Fld) (v : Int) (i j : Nat) (m : Nat) : (s.setFi fl v i j).ttsX m = s.ttsX m := rfl
@[simp] theorem State.setB_ring (fl : Fld) (b : Bool) (i j : Nat) (m : Nat) : (s.setB fl b i j).ring m = s.ring m := rfl
@[simp] theorem State.setB_trcX (fl : Fld) (b : Bool) (i j : Nat) (m : Nat) : (s.setB fl b i j).trcX m = s.trcX m := rfl
@[simp] theorem State.setB_rod (fl : Fld) (b : Bool) (i j : Nat) (m : Nat) : (s.setB fl b i j).rod m = s.rod m := rfl
@[simp] theorem State.setB_canX (fl : Fld) (b : Bool) (i j : Nat) (m : Nat) : (s.setB fl b i j).canX m = s.canX m := rfl
@[simp] theorem State.setB_colX (fl : Fld) (b : Bool) (i j : Nat) (m : Nat) : (s.setB fl b i j).colX m = s.colX m := rfl
@[simp] theorem State.setB_dfeX (fl : Fld) (b : Bool) (i j : Nat) (m : Nat) : (s.setB fl b i j).dfeX m = s.dfeX m := rfl
@[simp] theorem State.setB_lpeX (fl : Fld) (b : Bool) (i j : Nat) (m : Nat) : (s.setB fl b i j).lpeX m = s.lpeX m := rfl
@[simp] theorem State.setB_lswX (fl : Fld) (b : Bool) (i j : Nat) (m : Nat) : (s.setB fl b i j).lswX m = s.lswX m := rfl
@[simp] theorem State.setB_mtrX (fl : Fld) (b : Bool) (i j : Nat) (m : Nat) : (s.setB fl b i j).mtrX m = s.mtrX m := rfl
@[simp] theorem State.setB_pfeX (fl : Fld) (b : Bool) (i j : Nat) (m : Nat) : (s.setB fl b i j).pfeX m = s.pfeX m := rfl
@[simp] theorem State.setB_solX (fl : Fld) (b : Bool) (i j : Nat) (m : Nat) : (s.setB fl b i j).solX m = s.solX m := rfl
@[simp] theorem State.setB_ttsX (fl : Fld) (b : Bool) (i j : Nat) (m : Nat) : (s.setB fl b i j).ttsX m = s.ttsX m := rfl
@[simp] theorem State.addR_ring (d : RegDesc) (n i j : Nat) (m : Nat) : (s.addR d n i j).ring m = s.ring m := rfl
@[simp] theorem State.addR_trcX (d : RegDesc) (n i j : Nat) (m : Nat) : (s.addR d n i j).trcX m = s.trcX m := rfl
@[simp] theorem State.addR_rod (d : RegDesc) (n i j : Nat) (m : Nat) : (s.addR d n i j).rod m = s.rod m := rfl
@[simp] theorem State.addR_canX (d : RegDesc) (n i j : Nat) (m : Nat) : (s.addR d n i j).canX m = s.canX m := rfl
@[simp] theorem State.addR_colX (d : RegDesc) (n i j : Nat) (m : Nat) : (s.addR d n i j).colX m = s.colX m := rfl
@[simp] theorem State.addR_dfeX (d : RegDesc) (n i j : Nat) (m : Nat) : (s.addR d n i j).dfeX m = s.dfeX m := rfl
@[simp] theorem State.addR_lpeX (d : RegDesc) (n i j : Nat) (m : Nat) : (s.addR d n i j).lpeX m = s.lpeX m := rfl
@[simp] theorem State.addR_lswX (d : RegDesc) (n i j : Nat) (m : Nat) : (s.addR d n i j).lswX m = s.lswX m := rfl
@[simp] theorem State.addR_mtrX (d : RegDesc) (n i j : Nat) (m : Nat) : (s.addR d n i j).mtrX m = s.mtrX m := rfl
@[simp] theorem State.addR_pfeX (d : RegDesc) (n i j : Nat) (m : Nat) : (s.addR d n i j).pfeX m = s.pfeX m := rfl
@[simp] theorem State.addR_solX (d : RegDesc) (n i j : Nat) (m : Nat) : (s.addR d n i j).solX m = s.solX m := rfl
@[simp] theorem State.addR_ttsX (d : RegDesc) (n i j : Nat) (m : Nat) : (s.addR d n i j).ttsX m = s.ttsX m := rfl
@[simp] theorem State.subR_ring (d : RegDesc) (n i j : Nat) (m : Nat) : (s.subR d n i j).ring m = s.ring m := rfl
@[simp] theorem State.subR_trcX (d : RegDesc) (n i j : Nat) (m : Nat) : (s.subR d n i j).trcX m = s.trcX m := rfl
@[simp] theorem State.subR_rod (d : RegDesc) (n i j : Nat) (m : Nat) : (s.subR d n i j).rod m = s.rod m := rfl
@[simp] theorem State.subR_canX (d : RegDesc) (n i j : Nat) (m : Nat) : (s.subR d n i j).canX m = s.canX m := rfl
@[simp] theorem State.subR_colX (d : RegDesc) (n i j : Nat) (m : Nat) : (s.subR d n i j).colX m = s.colX m := rfl
@[simp] theorem State.subR_dfeX (d : RegDesc) (n i j : Nat) (m : Nat) : (s.subR d n i j).dfeX m = s.dfeX m := rfl
@[simp] theorem State.subR_lpeX (d : RegDesc) (n i j : Nat) (m : Nat) : (s.subR d n i j).lpeX m = s.lpeX m := rfl
@[simp] theorem State.subR_lswX (d : RegDesc) (n i j : Nat) (m : Nat) : (s.subR d n i j).lswX m = s.lswX m := rfl
@[simp] theorem State.subR_mtrX (d : RegDesc) (n i j : Nat) (m : Nat) : (s.subR d n i j).mtrX m = s.mtrX m := rfl
@[simp] theorem State.subR_pfeX (d : RegDesc) (n i j : Nat) (m : Nat) : (s.subR d n i j).pfeX m = s.pfeX m := rfl
@[simp] theorem State.subR_solX (d : RegDesc) (n i j : Nat) (m : Nat) : (s.subR d n i j).solX m = s.solX m := rfl
@[simp] theorem State.subR_ttsX (d : RegDesc) (n i j : Nat) (m : Nat) : (s.subR d n i j).ttsX m = s.ttsX m := rfl
@[simp] theorem State.setMask_ring (d : RegDesc) (n : Nat) (b : Bool) (i j : Nat) (m : Nat) : (s.setMask d n b i j).ring m = s.ring m := rfl
@[simp] theorem State.setMask_trcX (d : RegDesc) (n : Nat) (b : Bool) (i j : Nat) (m : Nat) : (s.setMask d n b i j).trcX m = s.trcX m := rfl
@[simp] theorem State.setMask_rod (d : RegDesc) (n : Nat) (b : Bool) (i j : Nat) (m : Nat) : (s.setMask d n b i j).rod m = s.rod m := rfl
@[simp] theorem State.setMask_canX (d : RegDesc) (n : Nat) (b : Bool) (i j : Nat) (m : Nat) : (s.setMask d n b i j).canX m = s.canX m := rfl
@[simp] theorem State.setMask_colX (d : RegDesc) (n : Nat) (b : Bool) (i j : Nat) (m : Nat) : (s.setMask d n b i j).colX m = s.colX m := rfl
@[simp] theorem State.setMask_dfeX (d : RegDesc) (n : Nat) (b : Bool) (i j : Nat) (m : Nat) : (s.setMask d n b i j).dfeX m = s.dfeX m := rfl
@[simp] theorem State.setMask_lpeX (d : RegDesc) (n : Nat) (b : Bool) (i j : Nat) (m : Nat) : (s.setMask d n b i j).lpeX m = s.lpeX m := rfl
@[simp] theorem State.setMask_lswX (d : RegDesc) (n : Nat) (b : Bool) (i j : Nat) (m : Nat) : (s.setMask d n b i j).lswX m = s.lswX m := rfl
@[simp] theorem State.setMask_mtrX (d : RegDesc) (n : Nat) (b : Bool) (i j : Nat) (m : Nat) : (s.setMask d n b i j).mtrX m = s.mtrX m := rfl
@[simp] theorem State.setMask_pfeX (d : RegDesc) (n : Nat) (b : Bool) (i j : Nat) (m : Nat) : (s.setMask d n b i j).pfeX m = s.pfeX m := rfl
@[simp] theorem State.setMask_solX (d : RegDesc) (n : Nat) (b : Bool) (i j : Nat) (m : Nat) : (s.setMask d n b i j).solX m = s.solX m := rfl
@[simp] theorem State.setMask_ttsX (d : RegDesc) (n : Nat) (b : Bool) (i j : Nat) (m : Nat) : (s.setMask d n b i j).ttsX m = s.ttsX m := rfl
@[simp] theorem State.wr64_ring (lo hi : RegDesc) (v i j : Nat) (m : Nat) : (s.wr64 lo hi v i j).ring m = s.ring m := rfl
@[simp] theorem State.wr64_trcX (lo hi : RegDesc) (v i j : Nat) (m : Nat) : (s.wr64 lo hi v i j).trcX m = s.trcX m := rfl
@[simp] theorem State.wr64_rod (lo hi : RegDesc) (v i j : Nat) (m : Nat) : (s.wr64 lo hi v i j).rod m = s.rod m := rfl
@[simp] theorem State.wr64_canX (lo hi : RegDesc) (v i j : Nat) (m : Nat) : (s.wr64 lo hi v i j).canX m = s.canX m := rfl
@[simp] theorem State.wr64_colX (lo hi : RegDesc) (v i j : Nat) (m : Nat) : (s.wr64 lo hi v i j).colX m = s.colX m := rfl
@[simp] theorem State.wr64_dfeX (lo hi : RegDesc) (v i j : Nat) (m : Nat) : (s.wr64 lo hi v i j).dfeX m = s.dfeX m := rfl
@[simp] theorem State.wr64_lpeX (lo hi : RegDesc) (v i j : Nat) (m : Nat) : (s.wr64 lo hi v i j).lpeX m = s.lpeX m := rfl
@[simp] theorem State.wr64_lswX (lo hi : RegDesc) (v i j : Nat) (m : Nat) : (s.wr64 lo hi v i j).lswX m = s.lswX m := rfl
@[simp] theorem State.wr64_mtrX (lo hi : RegDesc) (v i j : Nat) (m : Nat) : (s.wr64 lo hi v i j).mtrX m = s.mtrX m := rfl
@[simp] theorem State.wr64_pfeX (lo hi : RegDesc) (v i j : Nat) (m : Nat) : (s.wr64 lo hi v i j).pfeX m = s.pfeX m := rfl
@[simp] theorem State.wr64_solX (lo hi : RegDesc) (v i j : Nat) (m : Nat) : (s.wr64 lo hi v i j).solX m = s.solX m := rfl
@[simp] theorem State.wr64_ttsX (lo hi : RegDesc) (v i j : Nat) (m : Nat) : (s.wr64 lo hi v i j).ttsX m = s.ttsX m := rfl
@[simp] theorem State.setRing_trcX (k : Nat) (x : RingX) (m : Nat) : (s.setRing k x).trcX m = s.trcX m := rfl
@[simp] theorem State.setRing_rod (k : Nat) (x : RingX) (m : Nat) : (s.setRing k x).rod m = s.rod m := rfl
@[simp] theorem State.setRing_canX (k : Nat) (x : RingX) (m : Nat) : (s.setRing k x).canX m = s.canX m := rfl
@[simp] theorem State.setRing_colX (k : Nat) (x : RingX) (m : Nat) : (s.setRing k x).colX m = s.colX m := rfl
@[simp] theorem State.setRing_dfeX (k : Nat) (x : RingX) (m : Nat) : (s.setRing k x).dfeX m = s.dfeX m := rfl
@[simp] theorem State.setRing_lpeX (k : Nat) (x : RingX) (m : Nat) : (s.setRing k x).lpeX m = s.lpeX m := rfl
@[simp] theorem State.setRing_lswX (k : Nat) (x : RingX) (m : Nat) : (s.setRing k x).lswX m = s.lswX m := rfl
@[simp] theorem State.setRing_mtrX (k : Nat) (x : RingX) (m : Nat) : (s.setRing k x).mtrX m = s.mtrX m := rfl
@[simp] theorem State.setRing_pfeX (k : Nat) (x : RingX) (m : Nat) : (s.setRing k x).pfeX m = s.pfeX m := rfl
@[simp] theorem State.setRing_solX (k : Nat) (x : RingX) (m : Nat) : (s.setRing k x).solX m = s.solX m := rfl
@[simp] theorem State.setRing_ttsX (k : Nat) (x : RingX) (m : Nat) : (s.setRing k x).ttsX m = s.ttsX m := rfl
@[simp] theorem State.setTrc_ring (k : Nat) (x : TrcX) (m : Nat) : (s.setTrc k x).ring m = s.ring m := rfl
@[simp] theorem State.setTrc_rod (k : Nat) (x : TrcX) (m : Nat) : (s.setTrc k x).rod m = s.rod m := rfl
@[simp] theorem State.setTrc_canX (k : Nat) (x : TrcX) (m : Nat) : (s.setTrc k x).canX m = s.canX m := rfl
@[simp] theorem State.setTrc_colX (k : Nat) (x : TrcX) (m : Nat) : (s.setTrc k x).colX m = s.colX m := rfl
@[simp] theorem State.setTrc_dfeX (k : Nat) (x : TrcX) (m : Nat) : (s.setTrc k x).dfeX m = s.dfeX m := rfl
@[simp] theorem State.setTrc_lpeX (k : Nat) (x : TrcX) (m : Nat) : (s.setTrc k x).lpeX m = s.lpeX m := rfl
@[simp] theorem State.setTrc_lswX (k : Nat) (x : TrcX) (m : Nat) : (s.setTrc k x).lswX m = s.lswX m := rfl
@[simp] theorem State.setTrc_mtrX (k : Nat) (x : TrcX) (m : Nat) : (s.setTrc k x).mtrX m = s.mtrX m := rfl
@[simp] theorem State.setTrc_pfeX (k : Nat) (x : TrcX) (m : Nat) : (s.setTrc k x).pfeX m = s.pfeX m := rfl
@[simp] theorem State.setTrc_solX (k : Nat) (x : TrcX) (m : Nat) : (s.setTrc k x).solX m = s.solX m := rfl
@[simp] theorem State.setTrc_ttsX (k : Nat) (x : TrcX) (m : Nat) : (s.setTrc k x).ttsX m = s.ttsX m := rfl
@[simp] theorem State.setRod_ring (k : Nat) (x : RodX) (m : Nat) : (s.setRod k x).ring m = s.ring m := rfl
@[simp] theorem State.setRod_trcX (k : Nat) (x : RodX) (m : Nat) : (s.setRod k x).trcX m = s.trcX m := rfl
@[simp] theorem State.setRod_canX (k : Nat) (x : RodX) (m : Nat) : (s.setRod k x).canX m = s.canX m := rfl
@[simp] theorem State.setRod_colX (k : Nat) (x : RodX) (m : Nat) : (s.setRod k x).colX m = s.colX m := rfl
@[simp] theorem State.setRod_dfeX (k : Nat) (x : RodX) (m : Nat) : (s.setRod k x).dfeX m = s.dfeX m := rfl
@[simp] theorem State.setRod_lpeX (k : Nat) (x : RodX) (m : Nat) : (s.setRod k x).lpeX m = s.lpeX m := rfl
@[simp] theorem State.setRod_lswX (k : Nat) (x : RodX) (m : Nat) : (s.setRod k x).lswX m = s.lswX m := rfl
@[simp] theorem State.setRod_mtrX (k : Nat) (x : RodX) (m : Nat) : (s.setRod k x).mtrX m = s.mtrX m := rfl
@[simp] theorem State.setRod_pfeX (k : Nat) (x : RodX) (m : Nat) : (s.setRod k x).pfeX m = s.pfeX m := rfl
@[simp] theorem State.setRod_solX (k : Nat) (x : RodX) (m : Nat) : (s.setRod k x).solX m = s.solX m := rfl
@[simp] theorem State.setRod_ttsX (k : Nat) (x : RodX) (m : Nat) : (s.setRod k x).ttsX m = s.ttsX m := rfl
@[simp] theorem State.setCan_ring (k : Nat) (x : CanX) (m : Nat) : (s.setCan k x).ring m = s.ring m := rfl
@[simp] theorem State.setCan_trcX (k : Nat) (x : CanX) (m : Nat) : (s.setCan k x).trcX m = s.trcX m := rfl
@[simp] theorem State.setCan_rod (k : Nat) (x : CanX) (m : Nat) : (s.setCan k x).rod m = s.rod m := rfl
@[simp] theorem State.setCan_colX (k : Nat) (x : CanX) (m : Nat) : (s.setCan k x).colX m = s.colX m := rfl
@[simp] theorem State.setCan_dfeX (k : Nat) (x : CanX) (m : Nat) : (s.setCan k x).dfeX m = s.dfeX m := rfl
@[simp] theorem State.setCan_lpeX (k : Nat) (x : CanX) (m : Nat) : (s.setCan k x).lpeX m = s.lpeX m := rfl
@[simp] theorem State.setCan_lswX (k : Nat) (x : CanX) (m : Nat) : (s.setCan k x).lswX m = s.lswX m := rfl
@[simp] theorem State.setCan_mtrX (k : Nat) (x : CanX) (m : Nat) : (s.setCan k x).mtrX m = s.mtrX m := rfl
@[simp] theorem State.setCan_pfeX (k : Nat) (x : CanX) (m : Nat) : (s.setCan k x).pfeX m = s.pfeX m := rfl
@[simp] theorem State.setCan_solX (k : Nat) (x : CanX) (m : Nat) : (s.setCan k x).solX m = s.solX m := rfl
@[simp] theorem State.setCan_ttsX (k : Nat) (x : CanX) (m : Nat) : (s.setCan k x).ttsX m = s.ttsX m := rfl
@[simp] theorem State.setCol_ring (k : Nat) (x : ColX) (m : Nat) : (s.setCol k x).ring m = s.ring m := rfl
@[simp] theorem State.setCol_trcX (k : Nat) (x : ColX) (m : Nat) : (s.setCol k x).trcX m = s.trcX m := rfl
@[simp] theorem State.setCol_rod (k : Nat) (x : ColX) (m : Nat) : (s.setCol k x).rod m = s.rod m := rfl
@[simp] theorem State.setCol_canX (k : Nat) (x : ColX) (m : Nat) : (s.setCol k x).canX m = s.canX m := rfl
@[simp] theorem State.setCol_dfeX (k : Nat) (x : ColX) (m : Nat) : (s.setCol k x).dfeX m = s.dfeX m := rfl
@[simp] theorem State.setCol_lpeX (k : Nat) (x : ColX) (m : Nat) : (s.setCol k x).lpeX m = s.lpeX m := rfl
@[simp] theorem State.setCol_lswX (k : Nat) (x : ColX) (m : Nat) : (s.setCol k x).lswX m = s.lswX m := rfl
@[simp] theorem State.setCol_mtrX (k : Nat) (x : ColX) (m : Nat) : (s.setCol k x).mtrX m = s.mtrX m := rfl
@[simp] theorem State.setCol_pfeX (k : Nat) (x : ColX) (m : Nat) : (s.setCol k x).pfeX m = s.pfeX m := rfl
@[simp] theorem State.setCol_solX (k : Nat) (x : ColX) (m : Nat) : (s.setCol k x).solX m = s.solX m := rfl
@[simp] theorem State.setCol_ttsX (k : Nat) (x : ColX) (m : Nat) : (s.setCol k x).ttsX m = s.ttsX m := rfl
@[simp] theorem State.setDfe_ring (k : Nat) (x : DfeX) (m : Nat) : (s.setDfe k x).ring m = s.ring m := rfl
@[simp] theorem State.setDfe_trcX (k : Nat) (x : DfeX) (m : Nat) : (s.setDfe k x).trcX m = s.trcX m := rfl
@[simp] theorem State.setDfe_rod (k : Nat) (x : DfeX) (m : Nat) : (s.setDfe k x).rod m = s.rod m := rfl
@[simp] theorem State.setDfe_canX (k : Nat) (x : DfeX) (m : Nat) : (s.setDfe k x).canX m = s.canX m := rfl
@[simp] theorem State.setDfe_colX (k : Nat) (x : DfeX) (m : Nat) : (s.setDfe k x).colX m = s.colX m := rfl
@[simp] theorem State.setDfe_lpeX (k : Nat) (x : DfeX) (m : Nat) : (s.setDfe k x).lpeX m = s.lpeX m := rfl
@[simp] theorem State.setDfe_lswX (k : Nat) (x : DfeX) (m : Nat) : (s.setDfe k x).lswX m = s.lswX m := rfl
@[simp] theorem State.setDfe_mtrX (k : Nat) (x : DfeX) (m : Nat) : (s.setDfe k x).mtrX m = s.mtrX m := rfl
@[simp] theorem State.setDfe_pfeX (k : Nat) (x : DfeX) (m : Nat) : (s.setDfe k x).pfeX m = s.pfeX m := rfl
@[simp] theorem State.setDfe_solX (k : Nat) (x : DfeX) (m : Nat) : (s.setDfe k x).solX m = s.solX m := rfl
@[simp] theorem State.setDfe_ttsX (k : Nat) (x : DfeX) (m : Nat) : (s.setDfe k x).ttsX m = s.ttsX m := rfl
@[simp] theorem State.setLpe_ring (k : Nat) (x : LpeX) (m : Nat) : (s.setLpe k x).ring m = s.ring m := rfl
@[simp] theorem State.setLpe_trcX (k : Nat) (x : LpeX) (m : Nat) : (s.setLpe k x).trcX m = s.trcX m := rfl
@[simp] theorem State.setLpe_rod (k : Nat) (x : LpeX) (m : Nat) : (s.setLpe k x).rod m = s.rod m := rfl
@[simp] theorem State.setLpe_canX (k : Nat) (x : LpeX) (m : Nat) : (s.setLpe k x).canX m = s.canX m := rfl
@[simp] theorem State.setLpe_colX (k : Nat) (x : LpeX) (m : Nat) : (s.setLpe k x).colX m = s.colX m := rfl
@[simp] theorem State.setLpe_dfeX (k : Nat) (x : LpeX) (m : Nat) : (s.setLpe k x).dfeX m = s.dfeX m := rfl
@[simp] theorem State.setLpe_lswX (k : Nat) (x : LpeX) (m : Nat) : (s.setLpe k x).lswX m = s.lswX m := rfl
@[simp] theorem State.setLpe_mtrX (k : Nat) (x : LpeX) (m : Nat) : (s.setLpe k x).mtrX m = s.mtrX m := rfl
@[simp] theorem State.setLpe_pfeX (k : Nat) (x : LpeX) (m : Nat) : (s.setLpe k x).pfeX m = s.pfeX m := rfl
@[simp] theorem State.setLpe_solX (k : Nat) (x : LpeX) (m : Nat) : (s.setLpe k x).solX m = s.solX m := rfl
@[simp] theorem State.setLpe_ttsX (k : Nat) (x : LpeX) (m : Nat) : (s.setLpe k x).ttsX m = s.ttsX m := rfl
@[simp] theorem State.setLsw_ring (k : Nat) (x : LswX) (m : Nat) : (s.setLsw k x).ring m = s.ring m := rfl
@[simp] theorem State.setLsw_trcX (k : Nat) (x : LswX) (m : Nat) : (s.setLsw k x).trcX m = s.trcX m := rfl
@[simp] theorem State.setLsw_rod (k : Nat) (x : LswX) (m : Nat) : (s.setLsw k x).rod m = s.rod m := rfl
@[simp] theorem State.setLsw_canX (k : Nat) (x : LswX) (m : Nat) : (s.setLsw k x).canX m = s.canX m := rfl
@[simp] theorem State.setLsw_colX (k : Nat) (x : LswX) (m : Nat) : (s.setLsw k x).colX m = s.colX m := rfl
@[simp] theorem State.setLsw_dfeX (k : Nat) (x : LswX) (m : Nat) : (s.setLsw k x).dfeX m = s.dfeX m := rfl
@[simp] theorem State.setLsw_lpeX (k : Nat) (x : LswX) (m : Nat) : (s.setLsw k x).lpeX m = s.lpeX m := rfl
@[simp] theorem State.setLsw_mtrX (k : Nat) (x : LswX) (m : Nat) : (s.setLsw k x).mtrX m = s.mtrX m := rfl
@[simp] theorem State.setLsw_pfeX (k : Nat) (x : LswX) (m : Nat) : (s.setLsw k x).pfeX m = s.pfeX m := rfl
@[simp] theorem State.setLsw_solX (k : Nat) (x : LswX) (m : Nat) : (s.setLsw k x).solX m = s.solX m := rfl
@[simp] theorem State.setLsw_ttsX (k : Nat) (x : LswX) (m : Nat) : (s.setLsw k x).ttsX m = s.ttsX m := rfl
@[simp] theorem State.setMtr_ring (k : Nat) (x : MtrX) (m : Nat) : (s.setMtr k x).ring m = s.ring m := rfl
@[simp] theorem State.setMtr_trcX (k : Nat) (x : MtrX) (m : Nat) : (s.setMtr k x).trcX m = s.trcX m := rfl
@[simp] theorem State.setMtr_rod (k : Nat) (x : MtrX) (m : Nat) : (s.setMtr k x).rod m = s.rod m := rfl
@[simp] theorem State.setMtr_canX (k : Nat) (x : MtrX) (m : Nat) : (s.setMtr k x).canX m = s.canX m := rfl
@[simp] theorem State.setMtr_colX (k : Nat) (x : MtrX) (m : Nat) : (s.setMtr k x).colX m = s.colX m := rfl
@[simp] theorem State.setMtr_dfeX (k : Nat) (x : MtrX) (m : Nat) : (s.setMtr k x).dfeX m = s.dfeX m := rfl
@[simp] theorem State.setMtr_lpeX (k : Nat) (x : MtrX) (m : Nat) : (s.setMtr k x).lpeX m = s.lpeX m := rfl
@[simp] theorem State.setMtr_lswX (k : Nat) (x : MtrX) (m : Nat) : (s.setMtr k x).lswX m = s.lswX m := rfl
@[simp] theorem State.setMtr_pfeX (k : Nat) (x : MtrX) (m : Nat) : (s.setMtr k x).pfeX m = s.pfeX m := rfl
@[simp] theorem State.setMtr_solX (k : Nat) (x : MtrX) (m : Nat) : (s.setMtr k x).solX m = s.solX m := rfl
@[simp] theorem State.setMtr_ttsX (k : Nat) (x : MtrX) (m : Nat) : (s.setMtr k x).ttsX m = s.ttsX m := rfl
@[simp] theorem State.setPfe_ring (k : Nat) (x : PfeX) (m : Nat) : (s.setPfe k x).ring m = s.ring m := rfl
@[simp] theorem State.setPfe_trcX (k : Nat) (x : PfeX) (m : Nat) : (s.setPfe k x).trcX m = s.trcX m := rfl
@[simp] theorem State.setPfe_rod (k : Nat) (x : PfeX) (m : Nat) : (s.setPfe k x).rod m = s.rod m := rfl
@[simp] theorem State.setPfe_canX (k : Nat) (x : PfeX) (m : Nat) : (s.setPfe k x).canX m = s.canX m := rfl
@[simp] theorem State.setPfe_colX (k : Nat) (x : PfeX) (m : Nat) : (s.setPfe k x).colX m = s.colX m := rfl
@[simp] theorem State.setPfe_dfeX (k : Nat) (x : PfeX) (m : Nat) : (s.setPfe k x).dfeX m = s.dfeX m := rfl
@[simp] theorem State.setPfe_lpeX (k : Nat) (x : PfeX) (m : Nat) : (s.setPfe k x).lpeX m = s.lpeX m := rfl
@[simp] theorem State.setPfe_lswX (k : Nat) (x : PfeX) (m : Nat) : (s.setPfe k x).lswX m = s.lswX m := rfl
@[simp] theorem State.setPfe_mtrX (k : Nat) (x : PfeX) (m : Nat) : (s.setPfe k x).mtrX m = s.mtrX m := rfl
@[simp] theorem State.setPfe_solX (k : Nat) (x : PfeX) (m : Nat) : (s.setPfe k x).solX m = s.solX m := rfl
@[simp] theorem State.setPfe_ttsX (k : Nat) (x : PfeX) (m : Nat) : (s.setPfe k x).ttsX m = s.ttsX m := rfl
@[simp] theorem State.setSol_ring (k : Nat) (x : SolX) (m : Nat) : (s.setSol k x).ring m = s.ring m := rfl
@[simp] theorem State.setSol_trcX (k : Nat) (x : SolX) (m : Nat) : (s.setSol k x).trcX m = s.trcX m := rfl
@[simp] theorem State.setSol_rod (k : Nat) (x : SolX) (m : Nat) : (s.setSol k x).rod m = s.rod m := rfl
@[simp] theorem State.setSol_canX (k : Nat) (x : SolX) (m : Nat) : (s.setSol k x).canX m = s.canX m := rfl
@[simp] theorem State.setSol_colX (k : Nat) (x : SolX) (m : Nat) : (s.setSol k x).colX m = s.colX m := rfl
@[simp] theorem State.setSol_dfeX (k : Nat) (x : SolX) (m : Nat) : (s.setSol k x).dfeX m = s.dfeX m := rfl
@[simp] theorem State.setSol_lpeX (k : Nat) (x : SolX) (m : Nat) : (s.setSol k x).lpeX m = s.lpeX m := rfl
@[simp] theorem State.setSol_lswX (k : Nat) (x : SolX) (m : Nat) : (s.setSol k x).lswX m = s.lswX m := rfl
@[simp] theorem State.setSol_mtrX (k : Nat) (x : SolX) (m : Nat) : (s.setSol k x).mtrX m = s.mtrX m := rfl
@[simp] theorem State.setSol_pfeX (k : Nat) (x : SolX) (m : Nat) : (s.setSol k x).pfeX m = s.pfeX m := rfl
@[simp] theorem State.setSol_ttsX (k : Nat) (x : SolX) (m : Nat) : (s.setSol k x).ttsX m = s.ttsX m := rfl
@[simp] theorem State.setTts_ring (k : Nat) (x : TtsX) (m : Nat) : (s.setTts k x).ring m = s.ring m := rfl
@[simp] theorem State.setTts_trcX (k : Nat) (x : TtsX) (m : Nat) : (s.setTts k x).trcX m = s.trcX m := rfl
@[simp] theorem State.setTts_rod (k : Nat) (x : TtsX) (m : Nat) : (s.setTts k x).rod m = s.rod m := rfl
@[simp] theorem State.setTts_canX (k : Nat) (x : TtsX) (m : Nat) : (s.setTts k x).canX m = s.canX m := rfl
@[simp] theorem State.setTts_colX (k : Nat) (x : TtsX) (m : Nat) : (s.setTts k x).colX m = s.colX m := rfl
@[simp] theorem State.setTts_dfeX (k : Nat) (x : TtsX) (m : Nat) : (s.setTts k x).dfeX m = s.dfeX m := rfl
@[simp] theorem State.setTts_lpeX (k : Nat) (x : TtsX) (m : Nat) : (s.setTts k x).lpeX m = s.lpeX m := rfl
@[simp] theorem State.setTts_lswX (k : Nat) (x : TtsX) (m : Nat) : (s.setTts k x).lswX m = s.lswX m := rfl
@[simp] theorem State.setTts_mtrX (k : Nat) (x : TtsX) (m : Nat) : (s.setTts k x).mtrX m = s.mtrX m := rfl
@[simp] theorem State.setTts_pfeX (k : Nat) (x : TtsX) (m : Nat) : (s.setTts k x).pfeX m = s.pfeX m := rfl
@[simp] theorem State.setTts_solX (k : Nat) (x : TtsX) (m : Nat) : (s.setTts k x).solX m = s.solX m := rfl
@[simp] theorem State.setHlt_ring (x : HltX) (m : Nat) : (s.setHlt x).ring m = s.ring m := rfl
@[simp] theorem State.setHlt_trcX (x : HltX) (m : Nat) : (s.setHlt x).trcX m = s.trcX m := rfl
@[simp] theorem State.setHlt_rod (x : HltX) (m : Nat) : (s.setHlt x).rod m = s.rod m := rfl
@[simp] theorem State.setHlt_canX (x : HltX) (m : Nat) : (s.setHlt x).canX m = s.canX m := rfl
@[simp] theorem State.setHlt_colX (x : HltX) (m : Nat) : (s.setHlt x).colX m = s.colX m := rfl
@[simp] theorem State.setHlt_dfeX (x : HltX) (m : Nat) : (s.setHlt x).dfeX m = s.dfeX m := rfl
@[simp] theorem State.setHlt_lpeX (x : HltX) (m : Nat) : (s.setHlt x).lpeX m = s.lpeX m := rfl
@[simp] theorem State.setHlt_lswX (x : HltX) (m : Nat) : (s.setHlt x).lswX m = s.lswX m := rfl
@[simp] theorem State.setHlt_mtrX (x : HltX) (m : Nat) : (s.setHlt x).mtrX m = s.mtrX m := rfl
@[simp] theorem State.setHlt_pfeX (x : HltX) (m : Nat) : (s.setHlt x).pfeX m = s.pfeX m := rfl
@[simp] theorem State.setHlt_solX (x : HltX) (m : Nat) : (s.setHlt x).solX m = s.solX m := rfl
@[simp] theorem State.setHlt_ttsX (x : HltX) (m : Nat) : (s.setHlt x).ttsX m = s.ttsX m := rfl
@[simp] theorem State.setSys_ring (x : SysX) (m : Nat) : (s.setSys x).ring m = s.ring m := rfl
@[simp] theorem State.setSys_trcX (x : SysX) (m : Nat) : (s.setSys x).trcX m = s.trcX m := rfl
@[simp] theorem State.setSys_rod (x : SysX) (m : Nat) : (s.setSys x).rod m = s.rod m := rfl
@[simp] theorem State.setSys_canX (x : SysX) (m : Nat) : (s.setSys x).canX m = s.canX m := rfl
@[simp] theorem State.setSys_colX (x : SysX) (m : Nat) : (s.setSys x).colX m = s.colX m := rfl
@[simp] theorem State.setSys_dfeX (x : SysX) (m : Nat) : (s.setSys x).dfeX m = s.dfeX m := rfl
@[simp] theorem State.setSys_lpeX (x : SysX) (m : Nat) : (s.setSys x).lpeX m = s.lpeX m := rfl
@[simp] theorem State.setSys_lswX (x : SysX) (m : Nat) : (s.setSys x).lswX m = s.lswX m := rfl
@[simp] theorem State.setSys_mtrX (x : SysX) (m : Nat) : (s.setSys x).mtrX m = s.mtrX m := rfl
@[simp] theorem State.setSys_pfeX (x : SysX) (m : Nat) : (s.setSys x).pfeX m = s.pfeX m := rfl
@[simp] theorem State.setSys_solX (x : SysX) (m : Nat) : (s.setSys x).solX m = s.solX m := rfl
@[simp] theorem State.setSys_ttsX (x : SysX) (m : Nat) : (s.setSys x).ttsX m = s.ttsX m := rfl
@[simp] theorem State.setSto_ring (x : StoX) (m : Nat) : (s.setSto x).ring m = s.ring m := rfl
@[simp] theorem State.setSto_trcX (x : StoX) (m : Nat) : (s.setSto x).trcX m = s.trcX m := rfl
@[simp] theorem State.setSto_rod (x : StoX) (m : Nat) : (s.setSto x).rod m = s.rod m := rfl
@[simp] theorem State.setSto_canX (x : StoX) (m : Nat) : (s.setSto x).canX m = s.canX m := rfl
@[simp] theorem State.setSto_colX (x : StoX) (m : Nat) : (s.setSto x).colX m = s.colX m := rfl
@[simp] theorem State.setSto_dfeX (x : StoX) (m : Nat) : (s.setSto x).dfeX m = s.dfeX m := rfl
@[simp] theorem State.setSto_lpeX (x : StoX) (m : Nat) : (s.setSto x).lpeX m = s.lpeX m := rfl
@[simp] theorem State.setSto_lswX (x : StoX) (m : Nat) : (s.setSto x).lswX m = s.lswX m := rfl
@[simp] theorem State.setSto_mtrX (x : StoX) (m : Nat) : (s.setSto x).mtrX m = s.mtrX m := rfl
@[simp] theorem State.setSto_pfeX (x : StoX) (m : Nat) : (s.setSto x).pfeX m = s.pfeX m := rfl
@[simp] theorem State.setSto_solX (x : StoX) (m : Nat) : (s.setSto x).solX m = s.solX m := rfl
@[simp] theorem State.setSto_ttsX (x : StoX) (m : Nat) : (s.setSto x).ttsX m = s.ttsX m := rfl
@[simp] theorem State.setTim_ring (x : TimX) (m : Nat) : (s.setTim x).ring m = s.ring m := rfl
@[simp] theorem State.setTim_trcX (x : TimX) (m : Nat) : (s.setTim x).trcX m = s.trcX m := rfl
@[simp] theorem State.setTim_rod (x : TimX) (m : Nat) : (s.setTim x).rod m = s.rod m := rfl
@[simp] theorem State.setTim_canX (x : TimX) (m : Nat) : (s.setTim x).canX m = s.canX m := rfl
@[simp] theorem State.setTim_colX (x : TimX) (m : Nat) : (s.setTim x).colX m = s.colX m := rfl
@[simp] theorem State.setTim_dfeX (x : TimX) (m : Nat) : (s.setTim x).dfeX m = s.dfeX m := rfl
@[simp] theorem State.setTim_lpeX (x : TimX) (m : Nat) : (s.setTim x).lpeX m = s.lpeX m := rfl
@[simp] theorem State.setTim_lswX (x : TimX) (m : Nat) : (s.setTim x).lswX m = s.lswX m := rfl
@[simp] theorem State.setTim_mtrX (x : TimX) (m : Nat) : (s.setTim x).mtrX m = s.mtrX m := rfl
@[simp] theorem State.setTim_pfeX (x : TimX) (m : Nat) : (s.setTim x).pfeX m = s.pfeX m := rfl
@[simp] theorem State.setTim_solX (x : TimX) (m : Nat) : (s.setTim x).solX m = s.solX m := rfl
@[simp] theorem State.setTim_ttsX (x : TimX) (m : Nat) : (s.setTim x).ttsX m = s.ttsX m := rfl

end Sys2Proof.Machine
end

