-- ==== Sys2Proof/Laws/Memory.lean ====
section
/-! SUPPORT. Sys2Proof/Laws/Memory.lean: bytes read after a write, and the canonical form that every memory operation
keeps (spec/02_coxis_model.md R44 to R50). -/

namespace Sys2Proof.Machine

/-- The canonical form, as a statement about the head and the rest. -/
theorem Memory.wf_cons {a : Nat} {b : Byte} {t : List Host.Cell} :
    Memory.wf ((a, b) :: t) = true ↔ b ≠ 0 ∧ (∀ c ∈ t.head?, a < c.1) ∧ Memory.wf t = true := by
  cases t with
  | nil => simp [Memory.wf]
  | cons c t => obtain ⟨a', b'⟩ := c; simp [Memory.wf, and_assoc]

theorem cellsGet_of_lt {t : List Host.Cell} (h : Memory.wf t = true) {k : Nat} (hk : ∀ c ∈ t.head?, k < c.1) :
    cellsGet t k = 0 := by
  induction t with
  | nil => rfl
  | cons c t ih =>
    obtain ⟨a, b⟩ := c
    rw [Memory.wf_cons] at h
    have ha : k < a := by simpa using hk
    simp only [cellsGet]
    rw [if_neg (by omega)]
    exact ih h.2.2 (fun c hc => lt_trans ha (h.2.1 c hc))

/-- A byte read after one byte was written. -/
theorem cellsGet_cellsPut {t : List Host.Cell} (h : Memory.wf t = true) (a k : Nat) (b : Byte) :
    cellsGet (cellsPut t a b) k = if a = k then b else cellsGet t k := by
  induction t with
  | nil =>
    simp only [cellsPut]
    split
    · rename_i hb; subst hb; simp [cellsGet]
    · simp [cellsGet]
  | cons c t ih =>
    obtain ⟨a', b'⟩ := c
    have hw := h
    rw [Memory.wf_cons] at h
    simp only [cellsPut]
    by_cases e : a' = a
    · subst e
      rw [if_pos rfl]
      split
      · rename_i hb; subst hb
        by_cases hk : a' = k
        · subst hk
          rw [if_pos rfl]
          exact cellsGet_of_lt h.2.2 h.2.1
        · simp [cellsGet, hk]
      · simp only [cellsGet]; split <;> rfl
    · rw [if_neg e]
      by_cases l : a < a'
      · rw [if_pos l]
        split
        · rename_i hb; subst hb
          by_cases hk : a = k
          · subst hk
            rw [if_pos rfl]
            exact cellsGet_of_lt hw (by simpa using l)
          · simp [hk]
        · simp only [cellsGet]
      · rw [if_neg l]
        simp only [cellsGet, ih h.2.2]
        split
        · rename_i hk; subst hk; simp [Ne.symm e]
        · rfl

theorem cellsPut_head {t : List Host.Cell} {a k : Nat} {b : Byte} (hk : k < a) (ht : ∀ c ∈ t.head?, k < c.1)
    (hw : Memory.wf t = true) : ∀ c ∈ (cellsPut t a b).head?, k < c.1 := by
  cases t with
  | nil => simp only [cellsPut]; split <;> simp [hk]
  | cons c t =>
    obtain ⟨a', b'⟩ := c
    have h' : k < a' := by simpa using ht
    rw [Memory.wf_cons] at hw
    simp only [cellsPut]
    split
    · split
      · intro c hc; exact lt_trans h' (hw.2.1 c hc)
      · simp [hk]
    · split
      · split <;> simp [hk, h']
      · simp [h']

/-- Writing a byte keeps the canonical form. -/
theorem Memory.wf_cellsPut {t : List Host.Cell} (h : Memory.wf t = true) (a : Nat) (b : Byte) :
    Memory.wf (cellsPut t a b) = true := by
  induction t with
  | nil => simp only [cellsPut]; split <;> simp_all [Memory.wf]
  | cons c t ih =>
    obtain ⟨a', b'⟩ := c
    have hw := h
    rw [Memory.wf_cons] at h
    simp only [cellsPut]
    split
    · rename_i e; subst e
      split
      · exact h.2.2
      · exact Memory.wf_cons.mpr ⟨by assumption, h.2.1, h.2.2⟩
    · split
      · split
        · exact hw
        · exact Memory.wf_cons.mpr ⟨by assumption, by simpa, hw⟩
      · exact Memory.wf_cons.mpr ⟨h.1, cellsPut_head (by omega) h.2.1 h.2.2, ih h.2.2⟩

/-- Storing a number keeps the canonical form. -/
theorem Memory.wf_cellsWrite {t : List Host.Cell} (h : Memory.wf t = true) (a n v : Nat) :
    Memory.wf (cellsWrite t a n v) = true := by
  induction n generalizing t a v with
  | zero => exact h
  | succ n ih => exact ih (Memory.wf_cellsPut h a _) _ _

/-- Storing bytes keeps the canonical form. -/
theorem Memory.wf_cellsWriteBytes {t : List Host.Cell} (h : Memory.wf t = true) (a : Nat) (bs : List Byte) :
    Memory.wf (cellsWriteBytes t a bs) = true := by
  induction bs generalizing t a with
  | nil => exact h
  | cons b bs ih => exact ih (Memory.wf_cellsPut h a b) _

/-- Dropping cells keeps the canonical form. -/
theorem Memory.wf_filter {t : List Host.Cell} (h : Memory.wf t = true) (p : Host.Cell → Bool) :
    Memory.wf (t.filter p) = true ∧ ∀ k, (∀ c ∈ t.head?, k < c.1) → ∀ c ∈ (t.filter p).head?, k < c.1 := by
  induction t with
  | nil => exact ⟨h, fun _ h => h⟩
  | cons c t ih =>
    obtain ⟨a, b⟩ := c
    rw [Memory.wf_cons] at h
    have i := ih h.2.2
    by_cases hp : p (a, b)
    · simp only [List.filter, hp]
      exact ⟨Memory.wf_cons.mpr ⟨h.1, i.2 a h.2.1, i.1⟩, by simp⟩
    · simp only [List.filter, hp]
      refine ⟨i.1, fun k hk => i.2 k ?_⟩
      intro c hc
      exact lt_trans (by simpa using hk) (h.2.1 c hc)

/-- Clearing bytes keeps the canonical form. -/
theorem Memory.wf_cellsClear {t : List Host.Cell} (h : Memory.wf t = true) (a n : Nat) :
    Memory.wf (cellsClear t a n) = true := (Memory.wf_filter h _).1

/-- Copying bytes keeps the canonical form. -/
theorem Memory.wf_cellsCopy {m : List Host.Cell} (h : Memory.wf m = true) (src : List Host.Cell) (a n b : Nat) :
    Memory.wf (cellsCopy m src a n b) = true := by
  unfold cellsCopy
  generalize src.filter _ = l
  have h := Memory.wf_cellsClear h b n
  revert h
  generalize cellsClear m b n = m
  intro h
  induction l generalizing m with
  | nil => exact h
  | cons c l ih => exact ih _ (Memory.wf_cellsPut h _ _)

/-- A byte outside a store reads as before. -/
theorem cellsGet_cellsWrite_outside {t : List Host.Cell} (h : Memory.wf t = true) (a n v k : Nat)
    (hk : k < a ∨ a + n ≤ k) : cellsGet (cellsWrite t a n v) k = cellsGet t k := by
  induction n generalizing t a v with
  | zero => rfl
  | succ n ih =>
    simp only [cellsWrite]
    rw [ih (Memory.wf_cellsPut h a _) _ _ (by omega), cellsGet_cellsPut h, if_neg (by omega)]

/-- A stored byte, the least significant at the lowest address. -/
theorem cellsGet_cellsWrite_inside {t : List Host.Cell} (h : Memory.wf t = true) (a n v k : Nat) (hk : k < n) :
    cellsGet (cellsWrite t a n v) (a + k) = BitVec.ofNat 8 (v / 256 ^ k) := by
  induction n generalizing t a v k with
  | zero => omega
  | succ n ih =>
    simp only [cellsWrite]
    cases k with
    | zero =>
      rw [cellsGet_cellsWrite_outside (Memory.wf_cellsPut h a _) _ _ _ _ (by omega), cellsGet_cellsPut h]
      simp
    | succ k =>
      have e : a + (k + 1) = a + 1 + k := by omega
      rw [e, ih (Memory.wf_cellsPut h a _) (a + 1) (v / 256) k (by omega), Nat.div_div_eq_div_mul, Nat.pow_succ,
        Nat.mul_comm]

/-- A number read where it was stored. -/
theorem cellsRead_cellsWrite_same {t : List Host.Cell} (h : Memory.wf t = true) (a n v : Nat) :
    cellsRead (cellsWrite t a n v) a n = v % 256 ^ n := by
  have g : ∀ m k, k + m = n → cellsRead (cellsWrite t a n v) (a + k) m = v / 256 ^ k % 256 ^ m := by
    intro m
    induction m with
    | zero => intro k _; simp [cellsRead, Nat.mod_one]
    | succ m ih =>
      intro k hk
      simp only [cellsRead]
      rw [cellsGet_cellsWrite_inside h _ _ _ _ (by omega), Nat.add_assoc, ih (k + 1) (by omega)]
      simp only [BitVec.toNat_ofNat]
      rw [Nat.pow_succ 256 k, ← Nat.div_div_eq_div_mul, Nat.pow_succ 256 m, Nat.mul_comm (256 ^ m) 256, Nat.mod_mul]
  simpa using g n 0 (by omega)

end Sys2Proof.Machine
end

