-- ==== Sys2Proof/Laws/Regs.lean ====
section
/-! SUPPORT. Sys2Proof/Laws/Regs.lean: a register and a field read after a write of the same or of another, and which
registers an update leaves. -/

namespace Sys2Proof.Machine

/-! ### One register -/

@[simp] theorem State.rd_wr_same (s : State) (d : RegDesc) (v : Word) (i j : Nat) : (s.wr d v i j).rd d i j = v :=
  tabGet_tabPut_same _ _ _ _

theorem State.rd_wr_ne (s : State) {d d' : RegDesc} {v : Word} {i j i' j' : Nat} (h : d'.addr i' j' ≠ d.addr i j) :
    (s.wr d' v i' j').rd d i j = s.rd d i j := tabGet_tabPut_ne h

/-- A register other than the one a field write goes to. -/
theorem State.rd_setF_ne (s : State) {d : RegDesc} {fl : Fld} {v i j i' j' : Nat}
    (h : fl.reg.addr i' j' ≠ d.addr i j) : (s.setF fl v i' j').rd d i j = s.rd d i j := tabGet_tabPut_ne h

/-- The register of a field after the field was written. -/
@[simp] theorem State.rd_setF_same (s : State) (fl : Fld) (v i j : Nat) :
    (s.setF fl v i j).rd fl.reg i j = putBits (s.rd fl.reg i j) fl.hi fl.lo v := tabGet_tabPut_same _ _ _ _

/-- A field read where it was written. -/
theorem State.f_setF_same (s : State) (fl : Fld) (v i j : Nat) (h : fl.lo ≤ fl.hi) (h' : fl.hi < 32) :
    (s.setF fl v i j).f fl i j = v % 2 ^ fl.width := by
  simp [State.f, bits_putBits_same _ _ h h', Fld.width]

/-- A field beside the written one in the same register. -/
theorem State.f_setF_beside (s : State) {fl fl' : Fld} (v i j : Nat) (r : fl.reg = fl'.reg) (h : fl.lo ≤ fl.hi)
    (h' : fl'.hi < 32) (d : fl'.hi < fl.lo ∨ fl.hi < fl'.lo) : (s.setF fl v i j).f fl' i j = s.f fl' i j := by
  simp [State.f, ← r, bits_putBits_ne _ _ h h' d]

/-- A field of another register. -/
theorem State.f_setF_ne (s : State) {fl fl' : Fld} {v i j i' j' : Nat}
    (h : fl'.reg.addr i' j' ≠ fl.reg.addr i j) : (s.setF fl' v i' j').f fl i j = s.f fl i j := by
  simp only [State.f, State.rd_setF_ne s h]

/-- A field of a register other than the one written. -/
theorem State.f_wr_ne (s : State) {fl : Fld} {d : RegDesc} {v : Word} {i j i' j' : Nat}
    (h : d.addr i' j' ≠ fl.reg.addr i j) : (s.wr d v i' j').f fl i j = s.f fl i j := by
  simp only [State.f, State.rd_wr_ne s h]

/-- A field right after its register was written. -/
@[simp] theorem State.f_wr_same (s : State) (fl : Fld) (v : Word) (i j : Nat) :
    (s.wr fl.reg v i j).f fl i j = bits v fl.hi fl.lo := by
  simp [State.f]

/-! ### Updates of registers by address -/

theorem State.regs_wr (s : State) (d : RegDesc) (v : Word) (i j : Nat) :
    (s.wr d v i j).regs = tabPut s.regs (d.addr i j) v := rfl

theorem RegsBut.refl {p : Nat → Prop} (s : State) : RegsBut p s s := fun _ _ => rfl

theorem RegsBut.trans {p : Nat → Prop} {s t u : State} (h : RegsBut p s t) (h' : RegsBut p t u) : RegsBut p s u :=
  fun a ha => (h' a ha).trans (h a ha)

theorem RegsBut.mono {p q : Nat → Prop} {s t : State} (h : RegsBut p s t) (pq : ∀ a, p a → q a) : RegsBut q s t :=
  fun a ha => h a (fun x => ha (pq a x))

theorem RegsBut.wr {p : Nat → Prop} {s t : State} (h : RegsBut p s t) {d : RegDesc} {v : Word} {i j : Nat}
    (hp : p (d.addr i j)) : RegsBut p s (t.wr d v i j) := by
  intro a ha
  rw [State.regs_wr, tabFind_tabPut_ne (fun e => ha (by rw [← e]; exact hp))]
  exact h a ha

theorem RegsBut.setF {p : Nat → Prop} {s t : State} (h : RegsBut p s t) {fl : Fld} {v i j : Nat}
    (hp : p (fl.reg.addr i j)) : RegsBut p s (t.setF fl v i j) := RegsBut.wr h hp

/-- An update that keeps the registers. -/
theorem RegsBut.of_regs {p : Nat → Prop} {s t u : State} (h : RegsBut p s t) (e : u.regs = t.regs) : RegsBut p s u :=
  fun a ha => by rw [e]; exact h a ha

/-- A register outside the changed ones reads as before. -/
theorem RegsBut.rd {p : Nat → Prop} {s t : State} (h : RegsBut p s t) {d : RegDesc} {i j : Nat}
    (hp : ¬ p (d.addr i j)) : t.rd d i j = s.rd d i j := by
  simp only [State.rd, tabGet, h _ hp]

/-- A field of a register outside the changed ones reads as before. -/
theorem RegsBut.f {p : Nat → Prop} {s t : State} (h : RegsBut p s t) {fl : Fld} {i j : Nat}
    (hp : ¬ p (fl.reg.addr i j)) : t.f fl i j = s.f fl i j := by
  simp only [State.f, h.rd hp]

end Sys2Proof.Machine
end

