-- ==== Sys2Proof/Laws/Rod.lean ====
section
/-! SUPPORT. Sys2Proof/Laws/Rod.lean: a Rod's registers after an instruction wrote one, and how an instruction passes its
fetch. -/

namespace Sys2Proof.Machine

/-! ### General and wide registers -/

theorem setG_eq (s : State) (r : Nat) (n : BitVec 5) (v : Word) (h : n ≠ 0) :
    setG s r n v = s.setRod r { s.rod r with g := tabPut (s.rod r).g n.toNat v } := by
  rw [setG, if_neg h]

@[simp] theorem setG_zero (s : State) (r : Nat) (v : Word) : setG s r 0#5 v = s := if_pos rfl

/-- A general register after a write: g0 discards it. -/
theorem gReg_setG (s : State) (r : Nat) (d n : BitVec 5) (v : Word) :
    gReg (setG s r d v) r n = if n = d ∧ d ≠ 0 then v else gReg s r n := by
  by_cases hd : d = 0
  · subst hd; simp
  · rw [setG_eq _ _ _ _ hd]
    unfold gReg
    rw [State.setRod_rod]
    by_cases hn : n = 0
    · rw [if_pos hn, if_pos hn, if_neg (fun h => hd (by rw [← h.1, hn]))]
    · rw [if_neg hn, if_neg hn, tabGet_tabPut]
      by_cases e : n = d
      · rw [if_pos (by rw [e]), if_pos ⟨e, hd⟩]
      · rw [if_neg (fun h => e (BitVec.eq_of_toNat_eq h).symm), if_neg (fun h => e h.1)]

/-- A wide register after a write. -/
theorem wReg_setW (s : State) (r : Nat) (d n : BitVec 5) (v : Bead) :
    wReg (setW s r d v) r n = if d.toNat % 8 = n.toNat % 8 then v else wReg s r n := by
  simp [wReg, setW, tabGet_tabPut]

theorem setG_rod (s : State) (r : Nat) (d : BitVec 5) (v : Word) :
    (setG s r d v).rod r = { s.rod r with g := ((setG s r d v).rod r).g } := by
  by_cases hd : d = 0
  · subst hd; simp
  · rw [setG_eq _ _ _ _ hd]; simp

theorem setG_rod_ne (s : State) {r q : Nat} (d : BitVec 5) (v : Word) (h : q ≠ r) : (setG s r d v).rod q = s.rod q := by
  unfold setG
  split
  · rfl
  · exact State.setRod_rod_ne s (Ne.symm h) _

@[simp] theorem setG_regs (s : State) (r : Nat) (d : BitVec 5) (v : Word) : (setG s r d v).regs = s.regs := by
  unfold setG; split <;> rfl

theorem setG_else (s : State) (r : Nat) (d : BitVec 5) (v : Word) : { setG s r d v with rods := s.rods } = s := by
  unfold setG; split <;> rfl

@[simp] theorem setG_pc (s : State) (r : Nat) (d : BitVec 5) (v : Word) : ((setG s r d v).rod r).pc = (s.rod r).pc := by
  rw [setG_rod]

/-! ### Completion in sequence -/

@[simp] theorem rodGoto_rod (s : State) (r : Nat) (a : Word) : (rodGoto s r a).rod r = { s.rod r with pc := a } := by
  simp [rodGoto]

theorem rodGoto_rod_ne (s : State) {r q : Nat} (a : Word) (h : q ≠ r) : (rodGoto s r a).rod q = s.rod q := by
  simp [rodGoto, State.setRod_rod_ne s (Ne.symm h)]

theorem rodGoto_regs (s : State) (r : Nat) (a : Word) :
    (rodGoto s r a).regs = tabPut s.regs (R.FRM_PC.addr r) (s.rod r).pc := rfl

theorem rodGoto_else (s : State) (r : Nat) (a : Word) :
    { rodGoto s r a with rods := s.rods, regs := s.regs } = s := rfl

@[simp] theorem rodDone_rod (s : State) (r : Nat) : (rodDone s r).rod r = { s.rod r with pc := (s.rod r).pc + 4 } := by
  simp [rodDone]

theorem rodDone_rod_ne (s : State) {r q : Nat} (h : q ≠ r) : (rodDone s r).rod q = s.rod q := rodGoto_rod_ne s _ h

/-- A general register does not change as an instruction completes. -/
@[simp] theorem gReg_rodGoto (s : State) (r : Nat) (a : Word) (n : BitVec 5) : gReg (rodGoto s r a) r n = gReg s r n := by
  simp [gReg]

@[simp] theorem gReg_rodDone (s : State) (r : Nat) (n : BitVec 5) : gReg (rodDone s r) r n = gReg s r n := by
  simp [rodDone]

@[simp] theorem wReg_rodDone (s : State) (r : Nat) (n : BitVec 5) : wReg (rodDone s r) r n = wReg s r n := by
  simp [wReg, rodDone]

/-! ### Flags -/

@[simp] theorem orOvf_rod (s : State) (r q : Nat) (o : Bool) : (orOvf s r o).rod q = s.rod q := by
  unfold orOvf; split <;> rfl

@[simp] theorem orSat_rod (s : State) (r q : Nat) (o : Bool) : (orSat s r o).rod q = s.rod q := by
  unfold orSat; split <;> rfl

theorem orOvf_else (s : State) (r : Nat) (o : Bool) : { orOvf s r o with regs := s.regs, w1cSet := s.w1cSet } = s := by
  unfold orOvf; split <;> rfl

theorem orSat_else (s : State) (r : Nat) (o : Bool) : { orSat s r o with regs := s.regs, w1cSet := s.w1cSet } = s := by
  unfold orSat; split <;> rfl

/-! ### The way into an instruction (R92, R109) -/

/-- A Rod that runs at a fetchable pc in a sound bead reaches its instruction. -/
theorem rodExec_body {s : State} {r : Nat} (run : s.canRun r = true) (pc : codeAddrOk s (s.rod r).pc = true)
    (bead : tabFind s.beadErr ((s.rod r).pc.toNat / 16) = none) (cls : Nat) (body : State → State) :
    rodExec s r cls false body = body s := by
  simp [rodExec, run, pc, beadCheck, bead]

/-- A word that breaks a constraint of its class raises ILLEGAL there. -/
theorem rodExec_illegal {s : State} {r : Nat} (run : s.canRun r = true) (pc : codeAddrOk s (s.rod r).pc = true)
    (bead : tabFind s.beadErr ((s.rod r).pc.toNat / 16) = none) (cls : Nat) (body : State → State) :
    rodExec s r cls true body = raise s r cls 0x01 (s.rod r).pc 0 := by
  simp [rodExec, run, pc, beadCheck, bead]

/-- A Rod that does not run does nothing. -/
theorem rodExec_idle {s : State} {r : Nat} (run : s.canRun r = false) (cls : Nat) (il : Bool) (body : State → State) :
    rodExec s r cls il body = s := by
  simp [rodExec, run]

end Sys2Proof.Machine
end

