-- ==== Sys2Proof/Laws/Store.lean ====
section
/-! SUPPORT. Sys2Proof/Laws/Store.lean: trailers and mark records as they are written are valid, and the record written last
is the one in force. -/

namespace Sys2Proof.Machine

@[simp] theorem Trailer.of_checks (seq crc : Nat) : (Trailer.of seq crc).checks crc = true := by
  simp [Trailer.checks, Trailer.of, Trailer.bytes]

@[simp] theorem Trailer.opened_checks (t : Trailer) (crc : Nat) : t.opened.checks crc = false := by
  simp [Trailer.checks, Trailer.opened, trailerMagic]

variable {α : Type} (bytes : α → List Nat) (t : Twin α) (v d : α)

theorem MarkRec.ok_of (n : Nat) : MarkRec.ok bytes ⟨v, n, crc32c (bytes v ++ wordBytes n)⟩ = true := by simp [MarkRec.ok]

theorem Twin.best_put : (t.put bytes v).best bytes =
    some ⟨v, ((t.best bytes).map MarkRec.count).getD 0 + 1,
      crc32c (bytes v ++ wordBytes (((t.best bytes).map MarkRec.count).getD 0 + 1))⟩ := by
  cases ha : t.a.ok bytes <;> cases hb : t.b.ok bytes <;> by_cases h : t.a.count < t.b.count <;>
    simp [Twin.put, Twin.best, MarkRec.ok_of, ha, hb, h]

@[simp] theorem Twin.now_put : (t.put bytes v).now bytes d = v := by simp [Twin.now, Twin.best_put]

@[simp] theorem StoX.mark_putMark (x : StoX) (k : Nat) (m : Marks) : (x.putMark k m).mark k = m := by
  simp [StoX.mark, StoX.putMark, tabGet_tabPut_same]

theorem StoX.mark_putMark_ne (x : StoX) {k n : Nat} (h : k ≠ n) (m : Marks) : (x.putMark k m).mark n = x.mark n := by
  simp [StoX.mark, StoX.putMark, tabGet_tabPut_ne h]

@[simp] theorem State.setMap_umap (s : State) (u : UnitMap) : (s.setMap u).sto.umap = u := rfl

/-- What a boot finds in the mark area is the map in force (R513). -/
@[simp] theorem State.setMap_mapRecs (s : State) (u : UnitMap) : (s.setMap u).sto.mapRecs.now UnitMap.bytes {} = u := by
  simp [State.setMap, State.setSto]

end Sys2Proof.Machine
end

