-- ==== Sys2Proof/Tests/Slice0.lean ====
section
/-! SUPPORT. Sys2Proof/Tests/Slice0.lean: tests of single commands on small states. Expected values come from the rules
and worked examples of spec/ by hand; test_witness theorems show states that meet the hypotheses of the obligations. -/

namespace Sys2Proof.Tests

open Sys2Proof Sys2Proof.Machine Sys2Proof.Claims

set_option Elab.async false

/-! ### Small states -/

/-- The state after a command. -/
def after (o : Host.Outcome State Fault Refusal) : State :=
  match o with
  | .next t => t
  | _ => State.reset

/-- Fields of register instances set to values. -/
def put (s : State) (l : List (Fld × Nat × Nat)) : State := l.foldl (fun s p => s.setF p.1 p.2.2 p.2.1) s

/-- Fields of doubly indexed register instances set to values. -/
def put2 (s : State) (l : List (Fld × Nat × Nat × Nat)) : State := l.foldl (fun s p => s.setF p.1 p.2.2.2 p.2.1 p.2.2.1) s

/-- Registers set to words. -/
def regs (s : State) (l : List (RegDesc × Nat × Word)) : State := l.foldl (fun s p => s.wr p.1 p.2.2 p.2.1) s

/-- Every domain on, VLOG present, both stop channels high, SAFE_STOP_N released, Ready. -/
def up : State :=
  put ([1, 2, 3, 4, 5, 6, 7].foldl (fun s n => s.setPd n 2)
    { State.reset with tbNow := 1000000, elapsed := 1000000, sys := { powered := true, stopA := true, stopB := true } })
    [(F.SYS_MODE_MODE, 0, 2), (F.SYS_STAT_SS, 0, 0)]

/-- The state of `up` in a mode. -/
def inMode (m : Nat) : State := put up [(F.SYS_MODE_MODE, 0, m)]

/-- A program with a handler. -/
def prog : Program := ⟨0x100, 0x200, 0x4000, 32, 16, 1, 0, 3⟩

/-- Logical Rod 1 runs a program on physical Rod 1, at 0x100. -/
def rodUp : State :=
  { put up [(F.FRM_RSTAT_STATE, 1, 1), (F.HLT_RODMAP_V, 0, 0xFFFF01FF), (F.HLT_RODMAP_V, 1, 0xFFFFFFFF),
      (F.HLT_RODMAP_V, 2, 0xFFFFFFFF), (F.HLT_RODMAP_V, 3, 0xFFFFFFFF)] with
    rods := [(1, { pc := 0x100,
                   g := [(3, 7), (4, 0xFFFFFFFF), (5, 0x80000000), (6, 0x1000), (7, 0x800010), (8, 0x80), (9, 0x8000),
                     (12, 100), (13, 200)],
                   w := [(1, 0x0123456789ABCDEF0011223344556677), (2, 0x0F)] })],
    programs := [(1, prog)], frame := [(0x1000, 0x11), (0x1001, 0x22), (0x1002, 0x33), (0x1003, 0x84), (0x100F, 0x55)],
    template := [(16, 0xAA), (47, 0xBB)] }

/-- A main bank of these bytes and this SEQ, with its trailer as a commit writes it. -/
def bankOf (cells : List Host.Cell) (seq : Nat) : Bank := ⟨cells, Trailer.of seq (crcCells cells 0x5FF000)⟩

/-- A network source. -/
def peer : NetSrc := ⟨0x020000000001, none, false, 0x0A000002, 4660⟩

/-- A Tarbylink frame from it, its tag not yet right. -/
def tl (p : NetPort) (replay : Nat) (payload : List (BitVec 8)) : TlFrame :=
  ⟨p, peer, 0x4C54, 1, BitVec.ofNat 16 payload.length, 0, 0, BitVec.ofNat 64 replay, 1, 0, 0, 0, payload, List.replicate 16 0⟩

/-! ### Commands that the outside cannot send -/

theorem test_wf_call_is_no_jmp : (Instr.jmp 0 ⟨31, 0, 0⟩).wf = false := by decide
theorem test_wf_dfe_tones : (Instr.dfeFrameBoundary 0 ⟨[], 0, 0, []⟩).wf = false := by decide
theorem test_wf_dropout_samples : (Instr.dropoutResult 0 [1, 2]).wf = false := by decide
theorem test_wf_can_data : CanFrame.wf ⟨false, false, false, false, false, 0x40000, 2, [1], 0⟩ = false := by decide
theorem test_wf_can_base_id : CanFrame.wf ⟨false, false, false, false, false, 1, 0, [], 0⟩ = false := by decide
theorem test_wf_can_remote_fd : CanFrame.wf ⟨false, true, true, false, false, 0, 0, [], 0⟩ = false := by decide
theorem test_wf_can_rate_switch : CanFrame.wf ⟨false, false, false, true, false, 0, 0, [], 0⟩ = false := by decide
theorem test_wf_can_fd_length : CanFrame.wf ⟨false, false, true, true, false, 0, 9, List.replicate 12 0, 0⟩ = true := by decide
theorem test_wf_ipv4 : NetSrc.wf { peer with ip := 0x100000000 } = false := by decide
theorem test_wf_payload (p : List (BitVec 8)) (h : 65535 < p.length) : TlFrame.wf (tl .l0 1 p) = false := by
  have : ¬ p.length ≤ 65535 := by omega
  simp [TlFrame.wf, tl, this]
theorem test_wf_ptp_time : PtpMsg.wf ⟨0, 0, 0, 0, 0, 0, 1000000000, 0, 0⟩ = false := by decide
theorem test_wf_self_test : (Instr.spareSelfTest [1, 1] false).wf = false := by decide
theorem test_wf_sensors : Sensors.wf ⟨[0], 0, 0, 0⟩ = false := by decide
theorem test_wf_dropped_frame (p : List (BitVec 8)) (h : 65535 < p.length) :
    (Instr.netFrameDropped .l0 (some (1, tl .l0 1 p))).wf = false := test_wf_payload p h
theorem test_wf_echo : (Instr.echoRequest .l0 { peer with ip := 0x100000000 } []).wf = false := by decide
theorem test_wf_link_messages (p : List (BitVec 8)) (h : 65535 < p.length) :
    ∀ i ∈ [Instr.hello (tl .l0 1 p), .bye (tl .l0 1 p), .regRead (tl .l0 1 p), .regWrite (tl .l0 1 p), .ringData (tl .l0 1 p),
      .credit (tl .l0 1 p), .values (tl .l0 1 p), .loadBegin (tl .l0 1 p), .loadData (tl .l0 1 p), .loadCommit (tl .l0 1 p),
      .statusQ (tl .l0 1 p), .wake (tl .l0 1 p)], i.wf = false := by
  have := test_wf_payload p h
  simp only [List.forall_mem_cons, List.not_mem_nil, false_imp_iff, implies_true, and_true]
  exact ⟨this, this, this, this, this, this, this, this, this, this, this, this⟩

/-! ### The block and its queue -/

/-- The worked encodings of spec/03_coxis_instructions.md, and a word whose FN no instruction of its class has. -/
theorem test_worked_encodings :
    coxisDecode 1 0x0190A000 = some (.add 1 ⟨3, 4, 5, 0⟩) ∧ coxisDecode 1 0x23180262 = some (.lui 1 ⟨6, 6, 0x262⟩) ∧
    coxisDecode 1 0x33A12014 = some (.mulq 1 ⟨7, 8, 9, 20⟩) ∧ coxisDecode 1 0x41297FF8 = some (.blt 1 ⟨10, 11, 0x1FF8⟩) ∧
    coxisDecode 1 0x73060040 = some (.ld32 1 ⟨6, 1, 0x40⟩) ∧ coxisDecode 1 0xB1048000 = some (.wait 1 ⟨2, 1, 4, 0, 0⟩) ∧
    coxisDecode 1 0xC0000005 = some (.fence 1 ⟨0, 0, 5⟩) ∧ coxisDecode 1 0x000006C0 = none := by decide +kernel

theorem test_table_has_no_bits : decodeTableWord 32 0x0190A000 = none ∧ State.reset.withFetchWord 32 1 = State.reset := by
  decide +kernel

theorem test_witness_step :
    ({ up with pending := [.coreSupplyCleared 0, .ptpDelayReq] } : State).pending = .coreSupplyCleared 0 :: [.ptpDelayReq] ∧
      up.pending = [] ∧ up.migration = none ∧ up.sto.activate = none ∧ up.sys.powered = true ∧ up.tbNow + 10 < 2 ^ 64 := by
  exact ⟨rfl, by decide +kernel⟩

/-- With nothing held and an empty queue no command comes before another, and nothing of the step is put ahead. -/
theorem test_nothing_ahead (s : State) (h : s.pending = []) (k : s.held = []) (i : Instr) :
    inFront i s ∧ resetsAhead s = s ∧ stopsAhead s = s ∧ critsAhead s = s ∧ cmdAhead s = s ∧ noneAhead s := by
  have r : resetsAhead s = s := by simp [resetsAhead, h]
  have p : stopsAhead s = s := by simp [stopsAhead, r, h]
  have c : critsAhead s = s := by simp [critsAhead, p, h]
  exact ⟨⟨k, fun c _ => by simp [State.waits, h]⟩, r, p, c, by simp [cmdAhead, h, c], c⟩

theorem test_witness_nothing_ahead : up.pending = [] ∧ up.held = [] ∧ rodUp.held = [] := by decide +kernel

/-- A command that must wait is held, and one that comes first is not. -/
theorem test_held : ({ up with pending := [.dfeOutputInstant 0] } : State).waits .fanEvaluation = true ∧
    (after (exec .fanEvaluation { up with pending := [.dfeOutputInstant 0] })).held = [.fanEvaluation] ∧
    ({ up with pending := [.snapComplete 0] } : State).waits .fanEvaluation = false := by decide +kernel

theorem test_idle_tick : (after (step up)).tbNow = 1000005 ∧ (after (step up)).elapsed = 1000005 := by decide +kernel

theorem test_queue_front : (after (step { up with pending := [.vlogHoldOff, .vlogHoldOffEnd] })).sys.vlogLow = some 1000000 ∧
    (after (step { up with pending := [.vlogHoldOff, .vlogHoldOffEnd] })).pending.length = 1 := by decide +kernel

/-! ### Coxis instructions -/

/-- gd, OVF and SAT after an instruction of Rod 1. -/
def seen (s : State) (i : Instr) (d : BitVec 5) : Word × Bool × Bool :=
  let t := after (exec i s)
  (gReg t 1 d, t.fb F.FRM_RSTAT_OVF 1, t.fb F.FRM_RSTAT_SAT 1)

theorem test_ready : ready rodUp 1 := by unfold ready; decide +kernel

theorem test_witness_integer : ready rodUp 1 ∧ ∀ c ∈ oprTable 1, c.legal ⟨10, 5, 0, 0⟩ = true := by
  exact ⟨test_ready, by simp [oprTable, auxZero, shiftImm, bAuxZero]⟩

/-- −2^31 and −1: R100 and R101. -/
theorem test_arithmetic :
    ([Instr.add 1 ⟨10, 5, 4, 0⟩, .sub 1 ⟨10, 5, 4, 0⟩, .and 1 ⟨10, 5, 4, 0⟩, .or 1 ⟨10, 5, 4, 0⟩, .xor 1 ⟨10, 5, 4, 0⟩,
      .andn 1 ⟨10, 5, 4, 0⟩, .sll 1 ⟨10, 5, 4, 0⟩, .srl 1 ⟨10, 5, 4, 0⟩, .sra 1 ⟨10, 5, 4, 0⟩].map (seen rodUp · 10)) =
    [(0x7FFFFFFF, true, false), (0x80000001, false, false), (0x80000000, false, false), (0xFFFFFFFF, false, false),
      (0x7FFFFFFF, false, false), (0, false, false), (0, false, false), (1, false, false), (0xFFFFFFFF, false, false)] := by
  decide +kernel

theorem test_shift_immediates_and_extensions :
    ([Instr.slli 1 ⟨10, 4, 0, 4⟩, .srli 1 ⟨10, 4, 0, 4⟩, .srai 1 ⟨10, 5, 0, 31⟩, .sext8 1 ⟨10, 8, 0, 0⟩,
      .sext16 1 ⟨10, 9, 0, 0⟩].map (fun i => (seen rodUp i 10).1)) =
    [0xFFFFFFF0, 0x0FFFFFFF, 0xFFFFFFFF, 0xFFFFFF80, 0xFFFF8000] := by decide +kernel

theorem test_compare_and_limits :
    ([Instr.slt 1 ⟨10, 5, 3, 0⟩, .sltu 1 ⟨10, 5, 3, 0⟩, .min 1 ⟨10, 5, 3, 0⟩, .max 1 ⟨10, 5, 3, 0⟩, .minu 1 ⟨10, 5, 3, 0⟩,
      .maxu 1 ⟨10, 5, 3, 0⟩].map (fun i => (seen rodUp i 10).1)) = [1, 0, 0x80000000, 7, 7, 0x80000000] := by decide +kernel

theorem test_products_and_quotients :
    ([Instr.mul 1 ⟨10, 5, 4, 0⟩, .mulh 1 ⟨10, 5, 4, 0⟩, .mulhu 1 ⟨10, 5, 4, 0⟩, .div 1 ⟨10, 5, 4, 0⟩, .divu 1 ⟨10, 5, 4, 0⟩,
      .rem 1 ⟨10, 5, 4, 0⟩, .remu 1 ⟨10, 5, 4, 0⟩, .div 1 ⟨10, 3, 0, 0⟩, .divu 1 ⟨10, 3, 0, 0⟩, .rem 1 ⟨10, 3, 0, 0⟩,
      .remu 1 ⟨10, 3, 0, 0⟩].map (seen rodUp · 10)) =
    [(0x80000000, true, false), (0, false, false), (0x7FFFFFFF, false, false), (0x80000000, true, false), (0, false, false),
      (0, true, false), (0x80000000, false, false), (0, true, false), (0xFFFFFFFF, false, false), (7, true, false),
      (7, false, false)] := by decide +kernel

theorem test_result_in_g0_is_discarded :
    gReg (after (exec (.add 1 ⟨0, 3, 3, 0⟩) rodUp)) 1 0 = 0 ∧ ((after (exec (.add 1 ⟨0, 3, 3, 0⟩) rodUp)).rod 1).pc = 0x104 := by
  decide +kernel

theorem test_immediates_and_wide_moves :
    (seen rodUp (.addi 1 ⟨10, 3, 0x3FFFF⟩) 10).1 = 6 ∧ (seen rodUp (.lui 1 ⟨6, 6, 0x262⟩) 6).1 = 0x00989000 ∧
    (seen rodUp (.wGet 1 ⟨10, 1, 0, 3⟩) 10).1 = 0x01234567 ∧
    wReg (after (exec (.wPut 1 ⟨2, 3, 0, 1⟩) rodUp)) 1 2 = 0x70000000F ∧
    wReg (after (exec (.wMov 1 ⟨3, 2, 0, 0⟩) rodUp)) 1 3 = 0x0F ∧ wReg (after (exec (.wZero 1 ⟨1, 0, 0, 0⟩) rodUp)) 1 1 = 0 := by
  decide +kernel

/-- R103 to R105. -/
theorem test_fixed_point :
    seen rodUp (.mulq 1 ⟨10, 4, 3, 1⟩) 10 = (0xFFFFFFFC, false, false) ∧
    seen rodUp (.mulqR 1 ⟨10, 4, 3, 1⟩) 10 = (0xFFFFFFFD, false, false) ∧
    seen rodUp (.mulq 1 ⟨10, 5, 5, 0⟩) 10 = (0x7FFFFFFF, false, true) ∧
    seen rodUp (.clamp 1 ⟨10, 3, 12, 0⟩) 10 = (100, false, true) ∧
    seen rodUp (.clampN 1 ⟨10, 12, 0, 7⟩) 10 = (63, false, true) ∧
    seen rodUp (.clampA 1 ⟨10, 2, 0, 1⟩) 10 = (7, false, false) ∧
    wReg (after (exec (.macq 1 ⟨2, 3, 3, 0⟩) rodUp)) 1 2 = 64 := by decide +kernel

theorem test_branches :
    (([Instr.beq 1 ⟨3, 3, 2⟩, .bne 1 ⟨3, 3, 2⟩, .blt 1 ⟨5, 3, 0x1FFF⟩, .bge 1 ⟨3, 5, 2⟩, .bltu 1 ⟨3, 5, 2⟩, .bgeu 1 ⟨3, 5, 2⟩,
      .bany 1 ⟨3, 8, 2⟩, .bnone 1 ⟨3, 8, 2⟩].map (fun i => ((after (exec i rodUp)).rod 1).pc)) =
    [0x108, 0x104, 0xFC, 0x108, 0x108, 0x104, 0x104, 0x108]) := by decide +kernel

theorem test_jumps :
    ((after (exec (.jmp 1 ⟨0, 0, 0x10⟩) rodUp)).rod 1).pc = 0x140 ∧ ((after (exec (.jmp 1 ⟨0, 6, 1⟩) rodUp)).rod 1).pc = 0x1004 ∧
    ((after (exec (.call 1 0 0x10) rodUp)).rod 1).pc = 0x140 ∧ gReg (after (exec (.call 1 0 0x10) rodUp)) 1 31 = 0x104 ∧
    ((after (exec (.ret 1 ⟨0, 6, 0, 0⟩) rodUp)).rod 1).pc = 0x1000 := by decide +kernel

/-- Rod 1 in its handler. -/
def rodIn : State := rodUp.setRod 1 { rodUp.rod 1 with inHandler := true }

theorem test_eret : ((after (exec (.eret 1 ⟨0, 6, 0, 0⟩) rodIn)).rod 1).pc = 0x1000 ∧
    ((after (exec (.eret 1 ⟨0, 6, 0, 0⟩) rodIn)).rod 1).inHandler = false := by decide +kernel

theorem test_witness_fixed_and_branches :
    ready rodUp 1 ∧ ready rodIn 1 ∧ (rodIn.rod 1).inHandler = true ∧ codeAddrOk rodUp (gReg rodUp 1 6) = true ∧
    codeAddrOk rodUp (brTo rodUp 1 ⟨3, 3, 2⟩) = true ∧ gReg rodUp 1 3 = gReg rodUp 1 3 ∧ ¬ gReg rodUp 1 3 ≠ gReg rodUp 1 3 ∧
    codeAddrOk rodUp (jmpTo rodUp 1 6 1) = true := by
  unfold ready; decide +kernel

/-- FRM_EPC, FRM_ECAUSE, FRM_EADDR and the pc after an instruction of Rod 1. -/
def trapped (s : State) (i : Instr) : List Word :=
  let t := after (exec i s)
  [t.rd R.FRM_EPC 1, t.rd R.FRM_ECAUSE 1, t.rd R.FRM_EADDR 1, (t.rod 1).pc]

theorem test_witness_exceptions : ready rodUp 1 ∧ handled rodUp 1 prog ∧ rodUp.canRun 1 = true ∧
    auxZero ⟨1, 2, 3, 1⟩ = false ∧ codeAddrOk rodUp (brTo rodUp 1 ⟨3, 3, 0x1F00⟩) = false ∧
    codeAddrOk rodUp (jmpTo rodUp 1 9 0x3FFFF) = true ∧ codeAddrOk rodUp (gReg rodUp 1 7) = false ∧
    codeAddrOk (rodUp.setRod 1 { rodUp.rod 1 with pc := 0x102 }) 0x102 = false ∧
    codeAddrOk rodUp (jmpTo rodUp 1 4 0) = false := by
  unfold ready handled; decide +kernel

/-- R92, R108, R109, R127, R128. -/
theorem test_exceptions :
    trapped rodUp (.add 1 ⟨1, 2, 3, 1⟩) = [0x100, 0x0001, 0, 0x200] ∧
    trapped rodUp (.eret 1 ⟨0, 6, 0, 0⟩) = [0x100, 0x6001, 0, 0x200] ∧
    trapped rodUp (.trap 1 ⟨0, 0, 0x2A⟩) = [0x100, 0xF00F, 0x2A, 0x200] ∧
    trapped rodUp (.ret 1 ⟨0, 7, 0, 0⟩) = [0x100, 0x6002, 0x800010, 0x200] ∧
    trapped (rodUp.setRod 1 { rodUp.rod 1 with pc := 0x102 }) (.add 1 ⟨1, 2, 3, 0⟩) = [0x102, 0x0002, 0x102, 0x200] ∧
    trapped rodUp (.wait 1 ⟨8, 1, 0, 0, 0⟩) = [0x100, 0xB001, 0, 0x200] := by decide +kernel

/-! ### Memory, registers and rings -/

theorem test_loads :
    ([Instr.ld8 1 ⟨10, 6, 3⟩, .ld16 1 ⟨10, 6, 2⟩, .ld32 1 ⟨10, 6, 0⟩].map (fun i => (seen rodUp i 10).1)) =
      [0x84, 0x8433, 0x84332211] ∧ wReg (after (exec (.ld128 1 ⟨3, 6, 0⟩) rodUp)) 1 3 = 0x55000000000000000000000084332211 := by
  decide +kernel

/-- Rod 1 with a store to Frame SRAM outstanding. -/
def rodPosted : State := after (exec (.st16 1 ⟨4, 6, 2⟩) rodUp)

theorem test_stores :
    cellsRead ((after (exec (.st32 1 ⟨5, 7, 4⟩) rodUp)).rod 1).scratch 0x14 4 = 0x80000000 ∧
    cellsRead ((after (exec (.st8 1 ⟨4, 7, 0⟩) rodUp)).rod 1).scratch 0x10 2 = 0xFF ∧
    cellsRead ((after (exec (.st128 1 ⟨1, 7, 0⟩) rodUp)).rod 1).scratch 0x1C 4 = 0x01234567 ∧
    (rodPosted.rod 1).posted = [.store 0x1002 2 0xFFFF] ∧ cellsRead rodPosted.frame 0x1000 4 = 0x84332211 ∧
    cellsRead (after (exec (.postedAccessComplete 1 0) rodPosted)).frame 0x1000 4 = 0xFFFF2211 := by decide +kernel

theorem test_witness_memory :
    reachable rodUp 1 (memAt rodUp 1 ⟨10, 6, 3⟩) 1 ∧ reachable rodUp 1 (memAt rodUp 1 ⟨10, 6, 2⟩) 2 ∧
    reachable rodUp 1 (memAt rodUp 1 ⟨10, 7, 0⟩) 16 ∧ 0x800000 ≤ memAt rodUp 1 ⟨10, 7, 0⟩ ∧
    memAt rodUp 1 ⟨10, 6, 0⟩ < 0x800000 ∧ rodUp.memOk ∧ (rodPosted.rod 1).posted[0]? = some (.store 0x1002 2 0xFFFF) := by
  refine ⟨?_, ?_, ?_, ?_, ?_, ?_, ?_⟩
  · exact ⟨by decide +kernel, by decide +kernel, by decide +kernel, by simp [rodUp, State.rod, tabGet, tabFind]⟩
  · exact ⟨by decide +kernel, by decide +kernel, by decide +kernel, by simp [rodUp, State.rod, tabGet, tabFind]⟩
  · exact ⟨by decide +kernel, by decide +kernel, by decide +kernel, by simp [rodUp, State.rod, tabGet, tabFind]⟩
  · decide +kernel
  · decide +kernel
  · unfold State.memOk; decide +kernel
  · decide +kernel

/-- gd, the word stored and OVF after an atomic of Rod 1 on the word 0x84332211. -/
def swapped (i : Instr) : Word × Nat × Bool :=
  let t := after (exec i rodUp)
  (gReg t 1 10, cellsRead t.frame 0x1000 4, t.fb F.FRM_RSTAT_OVF 1)

theorem test_atomics :
    ([Instr.atSwap 1 ⟨10, 6, 3, 0⟩, .atAdd 1 ⟨10, 6, 5, 0⟩, .atAnd 1 ⟨10, 6, 3, 0⟩, .atOr 1 ⟨10, 6, 3, 0⟩, .atXor 1 ⟨10, 6, 3, 0⟩,
      .atMin 1 ⟨10, 6, 3, 0⟩, .atMax 1 ⟨10, 6, 3, 0⟩, .atMinu 1 ⟨10, 6, 3, 0⟩, .atMaxu 1 ⟨10, 6, 3, 0⟩,
      .atCas 1 ⟨10, 6, 3, 0⟩].map swapped) =
    [(0x84332211, 7, false), (0x84332211, 0x04332211, true), (0x84332211, 1, false), (0x84332211, 0x84332217, false),
      (0x84332211, 0x84332216, false), (0x84332211, 0x84332211, false), (0x84332211, 7, false), (0x84332211, 7, false),
      (0x84332211, 0x84332211, false), (0x84332211, 0x84332211, false)] := by decide +kernel

/-- Rod 1 with the addresses of FRM_ECAUSE in its window, of no register and of SYS_WDT in g14, g15 and g16. -/
def rodIo : State :=
  { rodUp.setRod 1 { rodUp.rod 1 with g := [(3, 7), (14, 0x1100F010), (15, 0x10000F00), (16, 0x1000002C), (17, 0x1000)] } with
    regs := tabPut rodUp.regs (R.FRM_ECAUSE.addr 1) 0x6002 }

theorem test_in_and_out :
    (seen rodIo (.ioIn 1 ⟨10, 14, 0⟩) 10).1 = 0x6002 ∧ (seen rodIo (.ioIn 1 ⟨10, 15, 0⟩) 10).1 = 0 ∧
    ((after (exec (.ioOut 1 ⟨3, 16, 0⟩) rodIo)).rod 1).posted = [.out 0x1000002C 7] ∧
    trapped rodIo (.ioIn 1 ⟨10, 17, 0⟩) = [0x100, 0x9005, 0x1000, 0x200] ∧
    trapped rodIo (.ioOut 1 ⟨3, 16, 2⟩) = [0x100, 0x9001, 0, 0x200] := by decide +kernel

theorem test_witness_registers :
    ready rodIo 1 ∧ (rodIo.rod 1).posted = [] ∧ rodIo.domOn 2 = true ∧ gReg rodIo 1 14 = 0x1100F010 ∧
    regFind 0x10000F00 = none ∧ curveAt 0x10000F00 = none ∧ handled rodIo 1 prog ∧ (gReg rodIo 1 17).toNat < 0x10000000 := by
  unfold ready handled; decide +kernel

/-- Ring 20 enabled at 0x8000 with 16 slots, one bead committed in slot 15, and Rod 1 with w2 to push. -/
def ringUp : State :=
  regs { rodUp with frame := [(0x1000, 0x11), (0x80F0, 0x77)] }
    [(R.CRG_BASE, 20, 0x8000), (R.CRG_CFG, 20, 1), (R.CRG_TALLY, 20, 15), (R.CRG_COUNT, 20, 1), (R.CRG_HEAD, 20, 15),
      (R.CRG_TAIL, 20, 0)]

theorem test_witness_rings :
    ready ringUp 1 ∧ openRing ringUp 20 ∧ Memory.wf ringUp.frame = true ∧ rodsProduce 20 = true ∧ rodsConsume 20 = true ∧
    (ringUp.rod 1).posted = [] ∧ (ringUp.ringOn 20 = true ∧ ringUp.rd R.CRG_COUNT 20 ≠ 0) ∧
    tabFind (ringUp.ring 20).tags 15 = none ∧ (ringUp.ring 20).voids.contains 15 = false ∧
    (ringUp.ringOn 21 = false ∧ (regs ringUp [(R.CRG_TALLY, 20, 0)]).rd R.CRG_TALLY 20 = 0 ∧
      (regs ringUp [(R.CRG_COUNT, 20, 0)]).rd R.CRG_COUNT 20 = 0) := by
  refine ⟨by unfold ready; decide +kernel, ⟨by decide +kernel, by decide +kernel, by decide +kernel, by decide +kernel, ?_⟩,
    by decide +kernel⟩
  intro q d k
  simp [ringUp, regs, State.wr, rodUp, State.rod, tabGet, tabFind]
  split <;> simp

theorem test_push_and_pop :
    (let t := after (exec (.push 1 ⟨10, 20, 2, 0⟩ true) ringUp)
     gReg t 1 10 = 0 ∧ cellsRead t.frame 0x8000 16 = 0x0F ∧ t.rd R.CRG_TAIL 20 = 1 ∧ t.rd R.CRG_COUNT 20 = 2 ∧ t.rd R.CRG_TALLY 20 = 14) ∧
    (let t := after (exec (.pop 1 ⟨10, 20, 3, 0⟩) ringUp)
     gReg t 1 10 = 0 ∧ wReg t 1 3 = 0x77 ∧ t.rd R.CRG_HEAD 20 = 0 ∧ t.rd R.CRG_COUNT 20 = 0 ∧ t.rd R.CRG_CONSUMED 20 = 1) ∧
    gReg (after (exec (.popA 1 ⟨10, 21, 3, 0⟩) ringUp)) 1 10 = 2 ∧
    gReg (after (exec (.pushR 1 ⟨10, 20, 2, 0⟩) (regs ringUp [(R.CRG_TALLY, 20, 0)]))) 1 10 = 1 := by decide +kernel

theorem test_push_in_two_steps :
    (let u := after (exec (.push 1 ⟨10, 20, 2, 0⟩ false) ringUp)
     let t := after (exec (.slotCommit 20 0) u)
     u.rd R.CRG_RESERVED 20 = 1 ∧ u.rd R.CRG_COUNT 20 = 1 ∧ t.rd R.CRG_RESERVED 20 = 0 ∧ t.rd R.CRG_COUNT 20 = 2 ∧
      (t.rod 1).pc = 0x104) := by decide +kernel

/-- Rod 1 held in PUSH.R. -/
def ringHeld : State := ringUp.setRod 1 { ringUp.rod 1 with hold := .pushR 10 20 2 }

theorem test_push_r_release : (after (exec (.pushRRelease 1) ringHeld)).rd R.CRG_COUNT 20 = 2 ∧
    ((after (exec (.pushRRelease 1) ringHeld)).rod 1).hold = .none ∧ (ringHeld.rod 1).hold = .pushR 10 20 2 := by decide +kernel

theorem test_ring_enable_and_disable :
    (let t := after (exec (.ringEnable 21) ringUp)
     t.fb F.CRG_CFG_EN 21 = true ∧ t.rd R.CRG_TALLY 21 = 16) ∧
    (let t := after (exec (.ringDisable 20) ringUp)
     t.fb F.CRG_CFG_EN 20 = false ∧ t.rd R.CRG_CONSUMED 20 = 1 ∧ t.rd R.CRG_COUNT 20 = 0) ∧
    ((after (exec (.ringDisable 20) (regs ringUp [(R.CRG_RESERVED, 20, 1)]))).ring 20).closing = true ∧
    (after (exec (.ringDisableEffect 20) (ringUp.setRing 20 { closing := true }))).fb F.CRG_CFG_EN 20 = false := by decide +kernel

theorem test_witness_ring_switching :
    ringUp.domOn 2 = true ∧ (ringUp.ring 20).tags = [] ∧ ringUp.fb F.CRG_CFG_EN 21 = false ∧
    ringClash ringUp 21 (ringUp.nat R.CRG_BASE 21) (ringUp.f F.CRG_CFG_SIZE 21) = false ∧ ringUp.fb F.CRG_CFG_EN 20 = true ∧
    ringUp.rd R.CRG_RESERVED 20 = 0 := by decide +kernel

/-! ### WAIT, FENCE, TIME and Rods -/

/-- w1 is a wait set: ring 20 of the data mask; w2 one of doorbell 3; g12 and g13 a deadline far ahead. -/
def rodWait : State :=
  ringUp.setRod 1 { ringUp.rod 1 with w := [(1, 0x100000), (2, 0x80000000000000000)], g := [(12, 100), (13, 200)] }

theorem test_wait :
    (let t := after (exec (.wait 1 ⟨3, 1, 0, 0, 0⟩) rodWait)
     wReg t 1 3 = 0x900000000000000100000 ∧ (t.rod 1).pc = 0x104) ∧
    (let u := after (exec (.wait 1 ⟨3, 2, 12, 0, 0⟩) rodWait)
     let v := after (exec (.doorbell 1 8) u)
     let t := after (exec (.waitReturn 1) v)
     u.rodSt 1 = rodWaiting ∧ (u.rod 1).hold = .wait ⟨0, 0, 8, some (200 * 2 ^ 32 + 100), 3⟩ ∧
      exec (.waitReturn 1) u = .next u ∧ wReg t 1 3 = 0x80000000000000000 ∧ t.f F.FRM_DOORBELL_V 1 = 0 ∧ t.rodSt 1 = rodRunning) := by
  refine ⟨by decide +kernel, ?_⟩
  refine ⟨by decide +kernel, by decide +kernel, ?_, by decide +kernel, by decide +kernel, by decide +kernel⟩
  have h : (match exec (.waitReturn 1) (after (exec (.wait 1 ⟨3, 2, 12, 0, 0⟩) rodWait)) with
    | .next t => decide (t = after (exec (.wait 1 ⟨3, 2, 12, 0, 0⟩) rodWait))
    | _ => false) = true := by decide +kernel
  revert h
  cases exec (.waitReturn 1) (after (exec (.wait 1 ⟨3, 2, 12, 0, 0⟩) rodWait)) <;> simp

theorem test_witness_wait : ready rodWait 1 ∧ waitLegal rodWait 1 ⟨3, 1, 0, 0, 0⟩ ∧ waitLegal rodWait 1 ⟨3, 2, 12, 0, 0⟩ ∧
    (∃ n < 32, dataTrue rodWait (waitSet rodWait 1 ⟨3, 1, 0, 0, 0⟩) n) := by
  refine ⟨by unfold ready; decide +kernel, by unfold waitLegal; decide +kernel, by unfold waitLegal; decide +kernel, 20, by decide, ?_⟩
  unfold dataTrue; decide +kernel

theorem test_fence_and_time :
    ((after (exec (.fence 1 ⟨0, 0, 1⟩) rodUp)).rod 1).pc = 0x104 ∧
    ((after (exec (.fence 1 ⟨0, 0, 1⟩) rodPosted)).rod 1).hold = .fence 1 ∧
    (after (exec (.fence 1 ⟨0, 0, 8⟩) (after (exec (.ioOut 1 ⟨3, 16, 0⟩)
      (rodIo.setRod 1 { rodIo.rod 1 with g := [(16, 0x10020020)] }))))).rodSt 1 = rodWaiting ∧
    ((after (exec (.fenceComplete 1) (rodUp.setRod 1 { rodUp.rod 1 with hold := .fence 1 }))).rod 1).pc = 0x104 ∧
    gReg (after (exec (.time 1 ⟨10, 3, 0⟩) rodUp)) 1 10 = 1000007 ∧ gReg (after (exec (.time 1 ⟨10, 3, 0⟩) rodUp)) 1 11 = 0 := by
  decide +kernel

theorem test_witness_fence :
    ¬ fenced rodUp 1 1 ∧ fenced rodPosted 1 1 ∧ (∀ a v, Posted.out a v ∉ (rodUp.rod 1).posted) := by
  refine ⟨by simp [fenced, rodUp, State.rod, tabGet, tabFind], ?_, by simp [rodUp, State.rod, tabGet, tabFind]⟩
  exact ⟨.store 0x1002 2 0xFFFF, by decide +kernel, 0, rfl, by decide⟩

/-- The state of Rod 1 in `rodUp` replaced. -/
def rodAs (st : Nat) (x : RodX) : State := (put rodUp [(F.FRM_RSTAT_STATE, 1, st)]).setRod 1 x

theorem test_rods :
    (let t := after (exec (.rodStart 1) (rodAs 0 { pc := 4, g := [(5, 6)] }))
     t.rodSt 1 = rodStarting ∧ gReg t 1 1 = 0x4000 ∧ gReg t 1 2 = 1 ∧ gReg t 1 5 = 0 ∧ (t.rod 1).pc = 0x100) ∧
    (after (exec (.rodStop 1) rodUp)).fb F.FRM_RCTL_STOP 1 = true ∧
    (after (exec (.rodHalt 1) (rodAs 2 { hold := .wait ⟨0, 0, 1, none, 0⟩, stopAt := some 5 }))).rodSt 1 = rodHalted ∧
    (after (exec (.rodStopForced 1) (rodAs 1 { stopAt := some 0 }))).rodSt 1 = rodHalted ∧
    (after (exec (.rodStopForced 1) (rodAs 1 { stopAt := some 1 }))).rodSt 1 = rodRunning := by decide +kernel

theorem test_template_doorbell_mark :
    (let t := after (exec (.templateCopyDone 1) (rodAs 5 {}))
     t.rodSt 1 = rodRunning ∧ cellsRead t.frame 0x4000 1 = 0xAA ∧ cellsRead t.frame 0x401F 1 = 0xBB) ∧
    (after (exec (.doorbell 1 0x8001) (put rodUp [(F.FRM_DOORBELL_V, 1, 2)]))).f F.FRM_DOORBELL_V 1 = 0x8003 ∧
    (after (exec (.rodStart 1) (after (exec (.doorbell 1 4) (put (rodAs 0 {}) [(F.FRM_DOORBELL_V, 1, 2)]))))).f F.FRM_DOORBELL_V 1 = 4 ∧
    ((after (exec (.rodMarked ⟨1, .handshake 1001⟩) rodUp)).rod 1).marked = true ∧
    ((after (exec (.rodMarked ⟨1, .handshake 1000⟩) rodUp)).rod 1).marked = false := by decide +kernel

theorem test_witness_rods :
    rodUp.domOn 2 = true ∧ tabFind (rodAs 0 {}).programs 1 = some prog ∧ (rodAs 0 {}).rodSt 1 = rodHalted ∧
    ((rodAs 1 { stopAt := some 0 }).rod 1).stopAt = some 0 ∧ noReservation (rodAs 1 { stopAt := some 0 }) 1 ∧
    (rodAs 2 { hold := .wait ⟨0, 0, 1, none, 0⟩ }).atSafePoint 1 = true ∧ (rodAs 1 {}).atSafePoint 1 = false ∧
    (rodAs 5 {}).memOk ∧ (rodAs 5 {}).rodSt 1 = rodStarting ∧
    ((rodAs 5 {}).rod 1).posted = [] ∧ unmoved (rodAs 2 { hold := .wait ⟨0, 0, 1, none, 0⟩ }) 1 ∧
    degrading rodUp (.handshake 1001) ∧ ¬ degrading rodUp (.handshake 1000) := by
  unfold unmoved degrading State.memOk noReservation; decide +kernel

/-- A marked Rod 1 at a safe point. -/
def rodMark : State := rodAs 2 { hold := .wait ⟨0, 0, 1, none, 0⟩, marked := true }

/-- Its migration to physical Rod 2. -/
def rodMove : State := { rodMark with migration := some ⟨1, 2, 0, {}⟩ }

/-- The same, with doorbell 0 rung during it. -/
def rodHeard : State := { rodMark with migration := some ⟨1, 2, 0, ⟨0, 0, 1, false⟩⟩ }

theorem test_migration :
    (after (exec (.migrationStart 1) rodMark)).migration = some ⟨1, 0, 1000000, {}⟩ ∧
    (after (exec .migrationEnd rodHeard)).rodSt 1 = rodRunning ∧
    (after (exec (.migrationStart 1) (rodMark.setRod 1 { rodMark.rod 1 with stay := true }))).migration = none ∧
    (after (exec .migrationEnd rodMove)).physOf 1 = 2 ∧ (after (exec .migrationEnd rodMove)).sto.umap.rods = [1] ∧
    (let t := after (exec (.rodFail 1) rodUp)
     t.sto.umap.rods = [1] ∧ t.physOf 1 = 0 ∧ t.rodSt 1 = rodFaulted ∧ t.rd R.FRM_ECAUSE 1 = 0x0E) := by decide +kernel

theorem test_witness_migration :
    rodMark.domOn 2 = true ∧ rodMark.logQueue.length < 32 ∧ (rodMark.rod 1).marked = true ∧ rodMark.atSafePoint 1 = true ∧
    rodMark.migration = none ∧ (rodMark.rod 1).posted = [] ∧ freeRod rodMark 0 ∧ rodMove.migration = some ⟨1, 2, 0, {}⟩ ∧
    (rodMark.rod 1).stay = false ∧ rodMark.migEnd = none ∧ rodHeard.migration = some ⟨1, 2, 0, ⟨0, 0, 1, false⟩⟩ ∧
    Wakes.any ⟨0, 0, 1, false⟩ = true ∧ (rodHeard.rod 1).hold = .wait ⟨0, 0, 1, none, 0⟩ ∧
    rodUp.physOf 1 = 1 ∧ (∀ k < 16, k ≠ 1 → rodUp.physOf k ≠ 1) ∧ rodUp.f F.FRM_RSTAT_POLICY 1 = 0 ∧
    (after (exec (.rodStart 1) rodMark)).rodSt 1 = rodWaiting := by
  unfold freeRod; decide +kernel


/-! ### Masks, ownership, programs without a handler and beads that are no data -/

/-- w1 names ring 17 in the space mask, which Rods do not produce into. -/
def rodMasked : State := rodUp.setRod 1 { rodUp.rod 1 with w := [(1, 0x2000000000000)] }

theorem test_mask_and_ownership :
    trapped rodMasked (.wait 1 ⟨3, 1, 0, 0, 0⟩) = [0x100, 0xB008, 17, 0x200] ∧
    trapped ringUp (.push 1 ⟨10, 17, 2, 0⟩ true) = [0x100, 0xA007, 17, 0x200] ∧
    (after (exec (.push 1 ⟨10, 17, 2, 0⟩ true) ringUp)).fb F.CRG_STAT_OWNER 17 = true := by decide +kernel

theorem test_witness_mask_and_ownership :
    handled rodMasked 1 prog ∧ ready rodMasked 1 ∧ rodMasked.canRun 1 = true ∧ offends (wReg rodMasked 1 1) 17 ∧
    (∀ m < 17, ¬ offends (wReg rodMasked 1 1) m) ∧ (wReg rodMasked 1 1).extractLsb' 80 16 = 0 ∧
    (wReg rodMasked 1 1).extractLsb' 96 32 = 0 ∧ rodsProduce 17 = false ∧ rodsConsume 11 = false := by
  unfold handled ready offends; decide +kernel

/-- Rod 1 in its handler, its program of a policy. -/
def rodPolicy (policy restartMax : Nat) : State :=
  { rodIn with programs := [(1, { prog with policy := policy, restartMax := restartMax })] }

theorem test_nested_faults :
    (let t := after (exec (.trap 1 ⟨0, 0, 0x2A⟩) (rodPolicy 0 3))
     t.rodSt 1 = rodFaulted ∧ t.rd R.FRM_ECAUSE 1 = 0xF10F ∧ t.rd R.FRM_EADDR 1 = 0x2A) ∧
    (let t := after (exec (.trap 1 ⟨0, 0, 0x2A⟩) (rodPolicy 1 1))
     t.rodSt 1 = rodStarting ∧ (t.rod 1).pc = 0x100 ∧ gReg t 1 1 = 0x4000) ∧
    (after (exec (.trap 1 ⟨0, 0, 0x2A⟩) (rodPolicy 1 0))).rodSt 1 = rodFaulted := by decide +kernel

theorem test_witness_nested_faults :
    (rodPolicy 1 1).logQueue.length < 64 ∧ ((rodPolicy 1 1).rod 1).inHandler = true ∧
    tabFind (rodPolicy 1 1).programs 1 = some { prog with policy := 1, restartMax := 1 } ∧
    restartsNow (rodPolicy 1 1) 1 < 1 ∧ 0 ≤ restartsNow (rodPolicy 1 0) 1 := by decide +kernel

theorem test_witness_in_anywhere :
    ownReg 1 0x1100F010 = 0x11001110 ∧ 0x1100F010 = R.FRM_ECAUSE.addr 0 + 0xE000 ∧
    (R.SYS_WDT.id ∉ actsOnRead) ∧ regDead rodIo R.SYS_WDT 0x1000002C 0 0 = false := by
  decide +kernel

/-- Ring 20 with two beads, its head slot 15 void. -/
def ringVoid (count : Word) : State := (regs ringUp [(R.CRG_COUNT, 20, count)]).setRing 20 { voids := [15] }
/-- Ring 20 with its head bead poisoned. -/
def ringPoison : State := { ringUp with beadErr := [(0x80F, .poisoned)] }

theorem test_void_and_poisoned_heads :
    (let t := after (exec (.pop 1 ⟨10, 20, 3, 0⟩) (ringVoid 1))
     gReg t 1 10 = 1 ∧ t.rd R.CRG_VOID 20 = 1 ∧ t.rd R.CRG_COUNT 20 = 0) ∧
    (let t := after (exec (.pop 1 ⟨10, 20, 3, 0⟩) (ringVoid 2))
     gReg t 1 10 = 0 ∧ wReg t 1 3 = 0 ∧ t.rd R.CRG_CONSUMED 20 = 2 ∧ t.rd R.CRG_HEAD 20 = 1) ∧
    trapped ringPoison (.pop 1 ⟨10, 20, 3, 0⟩) = [0x100, 0xA006, 20, 0x200] ∧
    (after (exec (.pop 1 ⟨10, 20, 3, 0⟩) ringPoison)).fb F.CRG_STAT_POISON 20 = true := by decide +kernel

theorem test_witness_void_and_poisoned_heads :
    (ringVoid 2).ringOn 20 = true ∧ ((ringVoid 2).ring 20).voids.contains ((ringVoid 2).nat R.CRG_HEAD 20) = true ∧
    ((ringVoid 2).ring 20).tags = [] ∧ (ringVoid 1).rd R.CRG_COUNT 20 = 1 ∧ 2 ≤ (ringVoid 2).nat R.CRG_COUNT 20 ∧
    ((ringVoid 2).ring 20).voids.contains (nextSlot (ringVoid 2) 20 ((ringVoid 2).rd R.CRG_HEAD 20)).toNat = false ∧
    tabFind (ringVoid 2).beadErr ((ringVoid 2).slotAddr 20 0 / 16) = none ∧ handled ringPoison 1 prog ∧ ready ringPoison 1 ∧
    tabFind ringPoison.beadErr (ringPoison.slotAddr 20 (ringPoison.nat R.CRG_HEAD 20) / 16) = some .poisoned := by
  unfold handled ready; decide +kernel

/-- Ring 20 with two reservations, neither written. -/
def ringTwo : State := ringUp.setRing 20 { resv := [⟨0, false, false, some 1, 0⟩, ⟨1, false, false, some 2, 0⟩] }

theorem test_commit_behind_another :
    ((after (exec (.slotCommit 20 1) ringTwo)).ring 20).resv = [⟨0, false, false, some 1, 0⟩, ⟨1, true, false, some 2, 0⟩] ∧
    (after (exec (.slotCommit 20 1) ringTwo)).rd R.CRG_COUNT 20 = 1 := by decide +kernel

theorem test_witness_commit_behind_another :
    (ringTwo.ring 20).resv.head? = some ⟨0, false, false, some 1, 0⟩ ∧
    (∃ x ∈ (ringTwo.ring 20).resv, x.slot = 1 ∧ x.written = false) ∧
    (∀ q d j, (ringTwo.rod q).hold = .pushing d 20 j → ∃ x ∈ (ringTwo.ring 20).resv, x.slot = j) := by
  refine ⟨by decide +kernel, by decide +kernel, ?_⟩
  intro q d j
  simp [ringTwo, ringUp, regs, State.wr, State.setRing, rodUp, State.rod, tabGet, tabFind]
  split <;> simp
/-! ### Front ends -/

/-- Curve 192: eight nodes of weight 1 with a0 = 10 and d0 = 1, the last at 1 MHz, the range 0 to 1. -/
def crop : List (Nat × Word) :=
  [(0, 0x802), (1, 0x3F800000), (5, 0x3F800000)] ++
    (List.range 8).flatMap (fun i => [(16 + 8 * i, BitVec.ofNat 32 (if i = 7 then 1000000 else 10000 * (i + 1))), (17 + 8 * i, 0x41200000),
      (20 + 8 * i, 0x3F800000), (21 + 8 * i, 0x3F800000)])

/-- Dielectric channel 0 at 10 ms, with curve 192 and a staged plan of one tone of 1 MHz in frames of 500 µs. -/
def dfeUp (l : List (Fld × Nat × Nat)) (x : DfeX) : State :=
  { put ((put up [(F.DFE_CH_CTL_CURVE, 0, 192), (F.DFE_EXC_PLAN_FRAME_US, 0, 500), (F.DFE_PLAN_FILT_MOUT_N, 0, 20),
      (F.DFE_PLAN_FILT_FILT_N, 0, 1), (F.DFE_CH_FLT_SETTLE_US, 0, 501), (F.DFE_ACT_PLAN_FRAME_US, 0, 500),
      (F.DFE_ACT_FILT_MOUT_N, 0, 20), (F.DFE_CH_CELL_C0, 0, 100), (F.DFE_CH_CAL0_CAL_CS, 0, 65536 - 2000),
      (F.DFE_CH_TSRC_TSRC, 0, 0xFFF)]).wr R.DFE_TONE 0x640001F4 0 0) l with
    curves := crop.foldl (fun t p => tabPut t (192 * 256 + p.1) p.2) [], dfe := [(0, x)], tbNow := 10000000, elapsed := 10000000 }

/-- The channel stopped, running, and settled at an output instant. -/
def dfeIdle : State := dfeUp [] { plan := some ⟨100, 1, 1, []⟩ }
def dfeOn1 : State := dfeUp [(F.DFE_CH_CTL_EN, 0, 1)] { plan := some ⟨500, 20, 1, List.replicate 8 0⟩ }
def dfeStops : State := dfeUp [(F.DFE_CH_CTL_EN, 0, 0), (F.DFE_CH_STAT_ACTIVE, 0, 1)] { stopping := true }
def dfeOut (a : Nat) : State :=
  (dfeUp [(F.DFE_CH_CTL_EN, 0, 1), (F.DFE_CH_STAT_ACTIVE, 0, 1)] { lastTb := some 10000000 }).wr R.DFE_ACT_TONE (BitVec.ofNat 32 a) 0 0

/-- Running, a frame boundary just taken, with no settle time. -/
def dfeEdge : State :=
  dfeUp [(F.DFE_CH_CTL_EN, 0, 1), (F.DFE_CH_STAT_ACTIVE, 0, 1), (F.DFE_CH_FLT_SETTLE_US, 0, 0)]
    { lastAt := 10000000, lastTb := some 10000000 }

theorem test_witness_dielectric_plans :
    (dfeOn dfeIdle = true ∧ planOk dfeIdle 192 (stagedPlan dfeIdle 0) = true ∧ dfeIdle.fb F.DFE_CH_CTL_EN 0 = false ∧ boundaryNow dfeIdle 0 = false ∧
      dfeCurveOk dfeIdle 192 = true) ∧
    planOk up (up.f F.DFE_CH_CTL_CURVE 0) (stagedPlan up 0) = false ∧ dfeOn up = true ∧
    (dfeOn1.fb F.DFE_CH_CTL_EN 0 = true ∧ dfeDue dfeOn1 0 = true ∧ (dfeOn1.dfeX 0).stopping = false ∧ (dfeOn1.dfeX 0).takeover = false ∧
      dfeOn1.fb F.DFE_CH_STAT_ACTIVE 0 = false ∧ (dfeOn1.dfeX 0).plan = some ⟨500, 20, 1, List.replicate 8 0⟩) ∧
    (planOk dfeEdge 192 (stagedPlan dfeEdge 0) = true ∧ boundaryNow dfeEdge 0 = true ∧ dfeEdge.f F.DFE_CH_FLT_SETTLE_US 0 = 0) ∧
    (dfeDue dfeStops 0 = true ∧ (dfeStops.dfeX 0).stopping = true ∧ tabFind dfeStops.dfeSpare.checks 8 = none) := by
  decide +kernel

theorem test_witness_plan_fits : planFits ⟨500, 20, 1, List.replicate 8 0⟩ ∧ 1 + (501 + 500 - 1) / 500 < 256 := by
  unfold planFits; decide

theorem test_dielectric_plans :
    (let t := after (exec (.dfeGo 0) dfeIdle)
     t.fb F.DFE_CH_STAT_SUPERSEDED 0 = true ∧ ((t.dfeX 0).plan.map (·.frameUs)) = some 500) ∧
    (let t := after (exec (.dfeGo 0) dfeEdge)
     t.f F.DFE_CH_STAT_SETTLE_LEFT 0 = 1 ∧ (t.dfeX 0).plan = none) ∧
    (after (exec (.dfeGo 0) up)).fb F.DFE_CH_STAT_REFUSED 0 = true ∧
    (let t := after (exec (.dfeEnable 0) dfeIdle)
     t.fb F.DFE_CH_CTL_EN 0 = true ∧ t.f F.DFE_CH_STAT_FKIND 0 = 6) ∧
    (let t := after (exec (.dfeFrameBoundary 0 ⟨[], 0, 0, []⟩) dfeOn1)
     t.f F.DFE_CH_STAT_SETTLE_LEFT 0 = 3 ∧ t.fb F.DFE_CH_STAT_ACTIVE 0 = true) ∧
    (after (exec (.dfeFrameBoundary 0 ⟨[], 0, 0, []⟩) dfeStops)).fb F.DFE_CH_STAT_ACTIVE 0 = false ∧
    ((after (exec (.dfeDisable 0) dfeOn1)).dfeX 0).stopping = true := by decide +kernel

theorem twoPi_ne : Config.twoPi ≠ 0 := by
  have h : (0 : Rat) ≤ max 0 (min Config.twoPiTail (1 / 1000000)) := le_max_left _ _
  unfold Config.twoPi
  intro e
  have : (0 : Rat) < 6283185 / 1000000 := by norm_num
  linarith

/-- An empty I/Q filter with C_CAL = −2 pF over C0 = 1 pF: ε′ − 1 = 1 and ε″ = 0 at 1 MHz. -/
theorem tone_of (s : State) (hf : toneFreq s 0 0 = 1000000) (h1 : filtered (s.dfeX 0) 0 = (0, 0))
    (h2 : s.fi F.DFE_CH_CAL1_CAL_TAU 0 = 0) (h3 : s.fi F.DFE_CH_CAL0_CAL_GS 0 = 0) (h4 : s.fi F.DFE_CH_CAL0_CAL_CS 0 = -2000)
    (hr : (List.range 8).filter (fun k => s.f F.DFE_ACT_TONE_AMP 0 k != 0) = [0]) (hc : s.f F.DFE_CH_CELL_C0 0 = 100) :
    tonesLeft s 0 = [⟨1000000, 1, 0⟩] := by
  have hg : toneGC s 0 0 = (0, 2000) := by
    have := twoPi_ne
    simp only [toneGC, admittance, h1, hf, h2, h3, h4, cosSin]
    norm_num
    field_simp
  simp only [tonesLeft, hr, hc, List.filterMap_cons, List.filterMap_nil, hg, hf]
  norm_num

theorem test_tone : tonesLeft (dfeOut 0x640001F4) 0 = [⟨1000000, 1, 0⟩] :=
  tone_of _ (by decide +kernel) (by decide +kernel) (by decide +kernel) (by decide +kernel) (by decide +kernel) (by decide +kernel)
    (by decide +kernel)

theorem test_witness_dielectric_results :
    (dfeOutDue (dfeOut 0x640001F4) 0 = true ∧ (dfeOut 0x640001F4).f F.DFE_CH_STAT_SETTLE_LEFT 0 = 0 ∧
      ((dfeOut 0x640001F4).dfeX 0).swapLeft = 0 ∧ ((dfeOut 0x640001F4).dfeX 0).faults = [] ∧
      (dfeOut 0x640001F4).f F.DFE_CH_TSRC_TSRC 0 = 0xFFF) ∧
    moisture0 (dfeOut 0x640001F4) 192 (tonesLeft (dfeOut 0x640001F4) 0) = some 10 ∧
    topTone (tonesLeft (dfeOut 0x640001F4) 0) = some ⟨1000000, 1, 0⟩ ∧
    curveCoef (dfeOut 0x640001F4) 192 4 1000000 + curveCoef (dfeOut 0x640001F4) 192 5 1000000 * 10 = 1 ∧
    (-2 ^ 31 ≤ roundAway (10 * (1 / (1 : Rat))) ∧ roundAway (10 * (1 / (1 : Rat))) < 2 ^ 31) ∧
    dfeOutDue (dfeOut 0) 0 = true ∧ moisture0 (dfeOut 0) 192 (tonesLeft (dfeOut 0) 0) = none := by
  refine ⟨by decide +kernel, ?_, ?_, by decide +kernel, by decide +kernel, by decide +kernel, ?_⟩
  · rw [test_tone]; decide +kernel
  · rw [test_tone]; decide +kernel
  · have : tonesLeft (dfeOut 0) 0 = [] := by
      have hr : (List.range 8).filter (fun k => (dfeOut 0).f F.DFE_ACT_TONE_AMP 0 k != 0) = [] := by decide +kernel
      unfold tonesLeft
      rw [hr]
      rfl
    rw [this]
    decide +kernel

/-- R135: a tone of 21 mA peak, and 20 mA in I with 5 mA in Q, overload a frame; 12 mA and 16 mA do not. -/
theorem test_sense_overload :
    let s := dfeOut 0x640001F4
    let frame := fun (i q : Nat) => (⟨(BitVec.ofNat 32 i, BitVec.ofNat 32 q) :: List.replicate 7 (0, 0), 0, 0, []⟩ : DfeFrame)
    (decide (20 * 10 ^ 9 < sensePeak s 0 (frame 21000000 0).iq) && decide (20 * 10 ^ 9 < sensePeak s 0 (frame 20000000 5000000).iq) &&
      !decide (20 * 10 ^ 9 < sensePeak s 0 (frame 12000000 16000000).iq)) = true := by decide +kernel

/-- The channel has lost its temperature source. -/
def dfeNoTemp : State := dfeUp [(F.DFE_CH_STAT_ACTIVE, 0, 1), (F.DFE_CH_STAT_TSRC_LOST, 0, 1), (F.DFE_CH_TSRC_TEMP_HOLD, 0, 0)] {}
/-- The spare path serves channel 3. -/
def dfeSpent : State := { dfeNoTemp with dfeSpare := { pathOf := [(3, 8)] } }

theorem test_dielectric_spares :
    (let t := after (exec (.tempHoldExpiry 0) dfeNoTemp)
     t.f F.DFE_CH_STAT_FKIND 0 = 5 ∧ t.f F.DFE_CH_MFLAG_FLAGS 0 = 1 ∧ t.f F.DFE_CH_DFLAG_FLAGS 0 = 0) ∧
    (let t := after (exec .dfeCrossCheck dfeNoTemp)
     t.dfeSpare.cursor = some 0 ∧ t.dfeSpare.checks.map (·.2.ch) = [0]) ∧
    (after (exec .dfeCrossCheck { up with dfeSpare := { cursor := some 7 } })).dfeSpare.cursor = some 0 ∧
    dfePath (after (exec (.dfePathFail 0) dfeNoTemp)) 0 = 8 ∧
    (let t := after (exec (.dfePathFail 0) dfeSpent)
     dfePath t 0 = 255 ∧ t.f F.DFE_CH_STAT_FKIND 0 = 4 ∧ t.sto.umap.dpaths = [0]) := by decide +kernel

theorem test_witness_dielectric_spares :
    (dfeOn dfeNoTemp = true ∧ dfeNoTemp.fb F.DFE_CH_STAT_TSRC_LOST 0 = true ∧ dfeNoTemp.f F.DFE_CH_STAT_SETTLE_LEFT 0 = 0 ∧
      dfeNoTemp.fb F.DFE_CH_STAT_NODENS 0 = false) ∧
    (dfeSpareFree dfeNoTemp = true ∧ dfeNoTemp.dfeSpare.checks = [] ∧ tabFind dfeNoTemp.dfeSpare.started 8 = none) ∧
    dfePath dfeNoTemp 0 ≠ 255 ∧ dfeSpareFree dfeSpent = false ∧ dfeSpent.fb F.DFE_CH_STAT_ACTIVE 0 = true ∧
    (dfeSpent.dfeX 0).faults = [] := by decide +kernel

/-- Precision channel 5, enabled and active without a fault, at 100 ms, with a fixed range. -/
def pfeRun (x : PfeX) : State :=
  { put up [(F.PFE_CH_CTL_EN, 5, 1), (F.PFE_CH_STAT_ACTIVE, 5, 1), (F.PFE_CH_CONV_RATE, 5, 0), (F.PFE_CH_CM_CM_HI, 5, 100),
      (F.PFE_CH_CM_CM_LO, 5, 65536 - 100), (F.PFE_CH_FLT_CM_N, 5, 2), (F.PFE_CH_STAT_CJ_LOST, 5, 1),
      (F.PFE_CH_RANGE_AUTO, 5, 0), (F.PFE_CH_FLT_CJ_HOLD, 5, 0)] with
    pfe := [(5, x)], tbNow := 100000000, elapsed := 100000000 }

/-- The same with the curve of type K, its cold junction lost. -/
def pfeCold : State := put (pfeRun {}) [(F.PFE_CH_CTL_CURVE, 5, 4)]

/-- What channel 5 samples of 10 mV on range 3, with both contacts at a voltage in mV against the reference. -/
def sampled (mv : Int) : PfeSample :=
  ⟨[(0x10000, 2000000)], some (BitVec.ofInt 32 (1000 * mv)), some (BitVec.ofInt 32 (1000 * mv)), 0, 0, false, []⟩

/-- Contacts in the window of V_CM, one of them beyond −0.3 V to +3.5 V. -/
def spread (p q : Int) : PfeSample := { sampled 0 with inp := some (BitVec.ofInt 32 p), inn := some (BitVec.ofInt 32 q) }

theorem test_contact_limits :
    (after (exec (.pfeConversion 5 (spread 4000000 (-4000000))) (pfeRun { outCount := 1 }))).f F.PFE_CH_STAT_FKIND 5 = 1 ∧
    (after (exec (.pfeConversion 5 (spread 400000 (-400000))) (pfeRun { outCount := 1 }))).f F.PFE_CH_STAT_FKIND 5 = 2 ∧
    (after (exec (.pfeConversion 5 (spread 200000 (-200000))) (pfeRun { outCount := 1 }))).f F.PFE_CH_STAT_FKIND 5 = 0 := by
  decide +kernel

theorem test_witness_precision :
    (up.domOn 4 = true ∧ up.fb F.PFE_CH_CTL_EN 5 = false ∧
      pfeEnableRefuse up 5 (up.f F.PFE_CH_CTL_MODE 5) (up.f F.PFE_CH_CTL_CURVE 5) = false) ∧
    (pfeDue (pfeRun { stopping := true }) 5 = true ∧ (pfeRun {}).pfeSpare.checks = []) ∧
    pfeCalm (pfeRun { outCount := 1 }) 5 (pushRuns ((pfeRun {}).pfeTaps 5) (sampled 100).mods []) ∧
    roundAway (filterVolt (pfeRun {}) 5 3 (pushRuns ((pfeRun {}).pfeTaps 5) (sampled 100).mods [])) = 1000000 ∧ (pfeRun {}).f F.PFE_CH_CTL_MODE 5 = 0 ∧ (pfeRun {}).f F.PFE_CH_CTL_CURVE 5 = 0 ∧
    ((pfeRun {}).fi F.PFE_CH_CM_CM_HI 5 = 100 ∧ (pfeRun {}).fi F.PFE_CH_CM_CM_LO 5 = -100 ∧
      (pfeRun {}).f F.PFE_CH_FLT_CM_N 5 ≤ (pfeRun { outCount := 1 } |>.pfeX 5).outCount + 1) ∧
    (pfeCold.fb F.PFE_CH_STAT_ACTIVE 5 = true ∧ pfeCold.fb F.PFE_CH_STAT_CJ_LOST 5 = true ∧ (pfeCold.pfeX 5).faults = [] ∧
      pfeCold.f F.PFE_CH_CTL_CURVE 5 = 4 ∧
      (pfeCold.pfeX 5).tcjAt + pfeCold.f F.PFE_CH_FLT_CJ_HOLD 5 * 1000000000 ≤ pfeCold.elapsed) ∧
    (pfeRun {}).tbNow % 100000000 = 0 := by
  unfold pfeCalm
  decide +kernel

theorem test_precision :
    (let t := after (exec (.pfeEnable 5) up)
     t.fb F.PFE_CH_STAT_ACTIVE 5 = true ∧ t.f F.PFE_CH_STAT_FKIND 5 = 6) ∧
    ((after (exec (.pfeDisable 5) (pfeRun {}))).pfeX 5).stopping = true ∧
    (after (exec (.pfeConversion 5 (sampled 0)) (pfeRun { stopping := true }))).fb F.PFE_CH_STAT_ACTIVE 5 = false ∧
    (after (exec (.pfeRangeWrite 5 0x3130) up)).rd R.PFE_CH_RANGE 5 = 0x3130 ∧
    (after (exec (.pfeConversion 5 (sampled 100)) (pfeRun {}))).rd R.PFE_CH_VAL 5 = 1000000 ∧
    (after (exec (.pfeConversion 5 (sampled 101)) (pfeRun { outCount := 1 }))).f F.PFE_CH_STAT_FKIND 5 = 1 ∧
    (after (exec (.pfeConversion 5 (sampled (-101))) (pfeRun { outCount := 1 }))).f F.PFE_CH_STAT_FKIND 5 = 2 ∧
    (after (exec (.cjHoldExpiry 5) pfeCold)).f F.PFE_CH_STAT_FKIND 5 = 5 ∧
    (after (exec (.cjSensorRead 11 2500) (pfeRun {}))).rd R.PFE_CJT 11 = 2500 := by decide +kernel

/-- IEC 60751: 138.5055 Ω at 100 °C, and both ends of the range. -/
theorem test_platinum : ptTemp 100000 138506 = (10000, false) ∧ ptTemp 100000 100000 = (0, false) ∧
    ptTemp 100000 0 = (-20000, true) ∧ ptTemp 100000 400000 = (85000, true) := by decide +kernel

/-- All spare precision paths serve channels. -/
def pfeSpent : State := { pfeRun {} with pfeSpare := { pathOf := [(0, 48), (1, 49), (2, 50), (3, 51)] } }

theorem test_spares_and_curves :
    ((tabFind (after (exec (.pfeCrossCheck 3) (pfeRun {}))).pfeSpare.checks 51).map (·.ch)) = some 5 ∧
    pfePath (after (exec (.pfePathFail 5) (pfeRun {}))) 5 = 48 ∧
    (let t := after (exec (.pfePathFail 5) pfeSpent)
     pfePath t 5 = 255 ∧ t.f F.PFE_CH_STAT_FKIND 5 = 4) ∧
    curveWord (after (exec (.curveSlotWrite 200 0 0xFF000802) up)) 200 0 = 0x802 ∧
    (after (exec (.curveSlotWrite 192 3 1) (put dfeOn1 []))).fb F.CRV_STAT_REFUSED = true := by decide +kernel

theorem test_witness_spares_and_curves :
    (51 ∈ pfeFreeSpares (pfeRun {}) ∧ tabFind (pfeRun {}).pfeSpare.checks 51 = none ∧ tabFind (pfeRun {}).pfeSpare.started 51 = none ∧
      (pfeRun {}).pfeSpare.cursor = none ∧ (∀ q ∈ (pfeRun {}).pfe, q.2.takeover ≠ some 51)) ∧
    (∀ j < 48, (pfeRun {}).fb F.PFE_CH_CTL_EN j = true → 5 ≤ j) ∧ (pfeRun {}).fb F.PFE_CH_STAT_ACTIVE 5 = true ∧ (pfeRun {}).fb F.PFE_CH_CTL_EN 5 = true ∧
    pfePath (pfeRun {}) 5 ≠ 255 ∧ pfeFreeSpares (pfeRun {}) = 48 :: [49, 50, 51] ∧ pfeFreeSpares pfeSpent = [] ∧
    pfePath pfeSpent 5 ≠ 255 ∧ up.domOn 2 = true ∧ curveInUse up 200 = false ∧ curveInUse dfeOn1 192 = true ∧
    curveWord dfeOn1 192 3 ≠ 1 := by decide +kernel

/-! ### Loop Engine and trace unit -/

/-- Loop 2 of one state, measurement, output and integrator in a state of R236, its job and coefficients set: A = 2, B = 1,
C = 1, L = 2, Kx = 1, Kz = 1, Ki = 1; x̂ = 3, z = 5, the output in force 4, LPE_MAN 150, the reference 20, the measurement 7. -/
def loopIn (st : Nat) (x : LpeX) (l : List (Fld × Nat × Nat)) : State :=
  let s := put { up with lpe := [(2, x)] } ([(F.LPE_STAT_STATE, 2, st), (F.LPE_DIM_NX, 2, 1), (F.LPE_DIM_NM, 2, 1), (F.LPE_DIM_NU, 2, 1),
    (F.LPE_DIM_NZ, 2, 1), (F.LPE_PER_V, 2, 1000), (F.LPE_ODLY_V, 2, 5)] ++ l)
  [(R.LPE_UMIN, 0, 0xFFFFFF9C), (R.LPE_UMAX, 0, 100), (R.LPE_IMIN, 0, 0xFFFFFF9C), (R.LPE_IMAX, 0, 100), (R.LPE_MAN, 0, 150),
    (R.LPE_SAFE, 0, 9), (R.LPE_UAPP, 0, 4), (R.LPE_REF, 0, 20), (R.LPE_Z, 0, 5), (R.LPE_X, 0, 3), (R.COEF, 0, 2), (R.COEF, 256, 1),
    (R.COEF, 336, 1), (R.COEF, 464, 2), (R.COEF, 592, 1), (R.COEF, 656, 1), (R.COEF, 672, 1)].foldl
    (fun s p => s.wr p.1 p.2.2 2 p.2.1) ((put2 s [(F.LPE_MSRC_MSRC, 2, 0, 0x900), (F.LPE_MSRC_REQ, 2, 0, 0)]).wr R.DIO_CNT 7 0)

/-- A job of loop 2 with the words above, waiting. -/
def job (st : Nat) : LoopJob :=
  { cfg := loopCfg (loopIn 2 {} []) 2, tb := 999000, due := 1000000, st := st, first := false, y := [7], req := [false], got := [true], yp := [⟨10, false⟩], flags := [0], used := [true],
    ua := [4], refs := [20], vd := 0, phOk := false, ph := 0, idx := 0 }

/-- R215 by hand: xp = 2·3 + 4 = 10, yp = 10, ν = 7 − 10, x̂ = 10 − 6 = 4, Kx = 4, e = 20 − 7 = 13, z = 18, u = 14. -/
theorem test_law :
    (let r := jobRun (loopIn 2 {} []) 2 (job 2)
     [r.xp, r.yp, r.nu, r.xh, r.kx, r.z, r.u].map vals = [[10], [10], [-3], [4], [4], [18], [14]]) ∧
    (let r := jobRun (loopIn 3 {} [(F.LPE_OBS_V, 2, 1)]) 2 (job 3)
     [r.nu, r.z, r.u].map vals = [[0], [15], [5]]) := by decide +kernel

/-- The job on unit 0 with its results. -/
def jobOn : LoopJob := { job 2 with unit := some 0, res := some (jobRun (loopIn 2 {} []) 2 (job 2)) }
/-- The job finished. -/
def jobDone : LoopJob := { jobOn with unit := none, done := true }

theorem test_loop_commands :
    ((after (exec (.loopCmdOff 2) (loopIn 2 { job := some (job 2) } []))).lpeX 2).job = none ∧
    (let t := after (exec (.loopCmdManual 2) (loopIn 0 {} []))
     t.loopSt 2 = 1 ∧ t.f F.LPE_STAT_CAUSE 2 = 1) ∧
    (let t := after (exec (.loopCmdManual 2) (loopIn 2 {} []))
     t.loopSt 2 = 1 ∧ t.rd R.LPE_MAN 2 0 = 4) ∧
    (after (exec (.loopCmdAuto 2) (loopIn 1 {} []))).fb F.LPE_STAT_AUTO_PEND 2 = true ∧
    (let t := after (exec (.loopCmdSafe 2) (loopIn 2 {} []))
     t.loopSt 2 = 4 ∧ t.rd R.LPE_UAPP 2 0 = 9) ∧
    (after (exec (.loopCmdAuto 2) (loopIn 0 {} []))).fb F.LPE_STAT_REFUSED 2 = true ∧
    (after (exec (.loopFire 2) (loopIn 3 {} [(F.LPE_OBS_V, 2, 1)]))).fb F.LPE_STAT_FIRE_REQ 2 = true ∧
    (after (exec (.loopFireClr 2) (loopIn 2 {} [(F.LPE_STAT_FIRE_REQ, 2, 1)]))).fb F.LPE_STAT_FIRE_REQ 2 = false ∧
    (let t := after (exec .allSafe (loopIn 2 {} []))
     t.loopSt 2 = 4 ∧ t.f F.LPE_STAT_CAUSE 2 = 6 ∧ t.loopSt 3 = 0) := by decide +kernel

/-- Event ring 17 enabled at 0x8000. -/
def loopRing : State :=
  regs { loopIn 2 {} [] with frame := [(0x8000, 1)] } [(R.CRG_BASE, 17, 0x8000), (R.CRG_CFG, 17, 1), (R.CRG_TALLY, 17, 16)]

theorem test_witness_loop_commands :
    (loopIn 0 {} []).domOn 3 = true ∧ (loopIn 0 {} []).loopSt 2 = 0 ∧ loopOk (loopIn 0 {} []) 2 = true ∧ (loopIn 0 {} []).mode ≠ 6 ∧
    loopOk (loopIn 0 {} [(F.LPE_DIM_NX, 2, 0)]) 2 = false ∧ (loopIn 4 {} []).loopSt 2 = 4 ∧ (loopIn 2 {} []).fb F.LPE_STAT_SHED 2 = false ∧
    dstQuiet (cfgInForce (loopIn 2 {} []) 2) ∧ (loopIn 2 {} []).fb F.SYS_STAT_FIRE = false ∧
    loopExpired (loopIn 2 {} []) 2 = false ∧
    (Memory.wf loopRing.frame = true ∧ loopRing.ringOn 17 = true ∧ (loopRing.ring 17).closing = false ∧
      loopRing.rd R.CRG_TALLY 17 ≠ 0 ∧ loopRing.loopSt 2 ≠ 0) := by
  refine ⟨by decide +kernel, by decide +kernel, by decide +kernel, by decide +kernel, by decide +kernel, by decide +kernel,
    by decide +kernel, fun j => ?_, by decide +kernel, by decide +kernel, by decide +kernel⟩
  have : (cfgInForce (loopIn 2 {} []) 2).dst = [0] := by decide +kernel
  rw [this]
  cases j <;> simp

theorem test_loop_off_event :
    (after (exec (.loopCmdOff 2) loopRing)).frameBead 0x8000 = ofLanes 0x10600002 1000000 0 0xFFFFFFFF := by decide +kernel

/-- A loop with a delay line at tap 100 and a table at entry 200, in a state of R236; an output to reference 1 of loop 5. -/
def loopPools (st : Nat) : State :=
  loopIn st {} [(F.LPE_DLCFG_DL_MODE, 2, 1), (F.LPE_DLCFG_DL_LEN, 2, 4), (F.LPE_DLBASE_DL_BASE, 2, 100), (F.RC_CFG_PH_MODE, 2, 1),
    (F.RC_SIZE_N, 2, 8), (F.RC_SIZE_RC_BASE, 2, 200)] |> (put2 · [(F.LPE_ODST_DST, 2, 3, 0x400 + 4 * 5 + 1)])

theorem test_witness_loop_writes :
    ((loopPools 1).loopOpen 2 = true ∧ (loopPools 1).fb F.LPE_STAT_AUTO_PEND 2 = false ∧ bits (62 : Word) 5 0 ≤ 62) ∧
    ((loopPools 2).loopOpen 2 = false ∧ (5 : Word) ≠ (loopPools 2).rd R.COEF 2 691) ∧
    ((loopPools 0).loopSt 2 = 0 ∧ (regFind (0x20000000 + 0x1000 * 2 + 4 * 155) = none) ∧
      (regFind (R.LPE_PER.addr 2) = some (R.LPE_PER, 2, 0))) ∧
    ((∀ m < 64, (loopPools 2).loopOpen m = false → lineHolds (loopPools 2) m 104 1 = false) ∧
      lineHolds (loopPools 2) 2 103 1 = true ∧ (5 : Word) ≠ (loopPools 2).rd R.DLPOOL 103 ∧
      (∀ m < 2, (loopPools 2).loopOpen m = true)) ∧
    ((∀ m < 64, (loopPools 2).loopOpen m = false → tableHolds (loopPools 2) m 208 1 = false) ∧
      tableHolds (loopPools 2) 2 207 1 = true ∧ (5 : Word) ≠ (loopPools 2).rd R.RCPOOL 207) ∧
    (loopPools 2).f F.LPE_ODST_DST 2 3 = 0x400 + 4 * 5 + 1 ∧ (5 : Word) ≠ (loopPools 2).rd R.LPE_REF 5 1 ∧ (∀ m < 64, ∀ j < 4, up.f F.LPE_ODST_DST m j ≠ 0x400 + 4 * 5 + 1) ∧
    ((loopPools 1).loopSt 2 = 1 ∧ (cfgInForce (loopPools 1) 2).nu = 1 ∧ (cfgInForce (loopPools 1) 2).dst.getD 0 0 = 0) := by
  decide +kernel

theorem test_loop_writes :
    (after (exec (.coeffWrite 2 691 false 5) (loopPools 1))).rd R.COEF 2 691 = 5 ∧
    (after (exec (.coeffWrite 2 691 false 5) (loopPools 2))).fb F.LPE_STAT_REFUSED 2 = true ∧
    (after (exec (.loopRwlWrite 2 ⟨(R.LPE_PER.addr 2 - 0x20002000) / 4, by decide⟩ 2000) (loopPools 0))).f F.LPE_PER_V 2 = 2000 ∧
    (after (exec (.dlPoolWrite 104 5) (loopPools 2))).rd R.DLPOOL 104 = 5 ∧
    (after (exec (.dlPoolWrite 103 5) (loopPools 2))).fb F.LPE_STAT_REFUSED 2 = true ∧
    (after (exec (.rcPoolWrite 208 5) (loopPools 2))).rd R.RCPOOL 208 = 5 ∧
    (after (exec (.rcPoolWrite 207 5) (loopPools 2))).fb F.LPE_STAT_REFUSED 2 = true ∧
    (after (exec (.lpeRefWrite 5 0 5) (loopPools 2))).rd R.LPE_REF 5 0 = 5 ∧
    (after (exec (.lpeRefWrite 5 1 5) (loopPools 2))).fb F.LPE_STAT_REFUSED 5 = true ∧
    (after (exec (.lpeRefWrite 5 1 0) (loopPools 2))).fb F.LPE_STAT_REFUSED 5 = false ∧
    (let t := after (exec (.lpeManWrite 2 0 300) (loopPools 1))
     t.rd R.LPE_MAN 2 0 = 300 ∧ t.rd R.LPE_UAPP 2 0 = 100) := by decide +kernel

/-- Loop 2 in AUTO requires its measurement, Column 0's value 0, which is stale. -/
def loopLost : State := put2 (loopIn 2 {} []) [(F.LPE_MSRC_MSRC, 2, 0, 0x400), (F.LPE_MSRC_REQ, 2, 0, 1)]

theorem test_witness_loop_instants :
    (onSample (loopIn 2 {} []) 2 = true ∧ ((loopIn 2 {} []).lpeX 2).loading = false ∧ ((loopIn 2 {} []).lpeX 2).job = none ∧
      ((loopIn 2 {} []).lpeX 2).earlier = [] ∧ loopExpired (loopIn 2 {} []) 2 = false ∧
      onSample (loopIn 1 {} [(F.LPE_STAT_AUTO_PEND, 2, 1)]) 2 = true ∧ onSample (loopIn 4 {} []) 2 = true) ∧
    (onSample loopLost 2 = true ∧ (measOf loopLost 0x400).lost = true) ∧
    (onSample (loopIn 2 { job := some { jobOn with due := 1000001 } } []) 2 = true ∧ jobOn.done = false) ∧
    (dstQuiet (job 2).cfg ∧ (job 2).due ≤ up.tbNow ∧ jobDone.st = 2 ∧ jobDone.done = true ∧ jobDone.out = false ∧ jobDone.spent = false ∧ jobDone.res.isSome = true) ∧
    (loopIn 3 {} [(F.LPE_OBS_V, 2, 1)]).loopSt 2 = 3 ∧ ((loopIn 3 {} [(F.LPE_OBS_V, 2, 1)]).lpeX 2).obsWas = none ∧ ((loopIn 3 {} [(F.LPE_OBS_V, 2, 1)]).lpeX 2).obsAt + (loopIn 3 {} [(F.LPE_OBS_V, 2, 1)]).f F.LPE_OBS_V 2 * 1000000 ≤ up.elapsed := by
  refine ⟨by decide +kernel, by decide +kernel, by decide +kernel, ⟨fun j => ?_, by decide +kernel⟩, by decide +kernel⟩
  have : (job 2).cfg.dst = [0] := by decide +kernel
  rw [this]
  cases j <;> simp

theorem test_loop_instants :
    (let t := after (exec (.loopSampleInstant 2) (loopIn 1 {} [(F.LPE_STAT_AUTO_PEND, 2, 1)]))
     t.rd R.LPE_Y 2 0 = 7 ∧ t.loopSt 2 = 2 ∧ (t.lpeX 2).job.map (fun j => (j.due, j.y, j.refs)) = some (1000500, [7], [20])) ∧
    (let t := after (exec (.loopSampleInstant 2) loopLost)
     t.loopSt 2 = 3 ∧ t.f F.LPE_STAT_CAUSE 2 = 2) ∧
    (let t := after (exec (.loopSampleInstant 2) (loopIn 2 { job := some { jobOn with due := 1000001 } } []))
     t.rd R.LPE_OVR 2 = 1 ∧ t.fb F.LPE_STAT_OVERRUN 2 = true) ∧
    (after (exec (.loopOutputInstant 2) (loopIn 1 { job := some (job 1) } []))).rd R.LPE_UAPP 2 0 = 100 ∧
    (after (exec (.loopOutputInstant 2) (loopIn 4 { job := some (job 4) } []))).rd R.LPE_UAPP 2 0 = 9 ∧
    (after (exec (.loopOutputInstant 2) (loopIn 2 { job := some jobDone } []))).rd R.LPE_UAPP 2 0 = 14 ∧
    (let t := after (exec (.loopOutputInstant 2) (loopIn 2 { job := some jobOn } []))
     t.rd R.LPE_UAPP 2 0 = 4 ∧ t.rd R.LPE_MISS 2 = 1) ∧
    (after (exec (.observeMaxExpiry 2) (loopIn 3 {} [(F.LPE_OBS_V, 2, 1)]))).f F.LPE_STAT_CAUSE 2 = 5 := by decide +kernel

/-- Loop 2 with the repetitive controller on, whose phase is lost for longer than PH_HOLD. -/
def loopHeld : State :=
  loopIn 2 { job := some { jobOn with res := some { jobRun (loopIn 2 {} []) 2 (job 2) with qzero := true } }, qHeld := 8 } []

theorem test_jobs :
    (let t := after (exec (.jobDispatch 2) (loopIn 2 { job := some (job 2) } []))
     (t.lpeX 2).job.map (fun j => (j.unit, j.res.map (fun r => vals r.u))) = some (some 0, some [14])) ∧
    (let t := after (exec (.jobEnd 2) (loopIn 2 { job := some jobOn } []))
     t.rd R.LPE_X 2 0 = 4 ∧ t.rd R.LPE_YP 2 0 = 10 ∧ t.rd R.LPE_Z 2 0 = 18 ∧ (t.lpeX 2).job.map (·.done) = some true) ∧
    ((after (exec (.qHoldExpiry 2) loopHeld)).lpeX 2).qHeld = 0 ∧
    (let t := after (exec (.matrixUnitFail 0) (loopIn 2 { job := some jobOn } []))
     t.sto.umap.matrix = [0] ∧ (t.lpeX 2).job.map (·.unit) = some none) := by decide +kernel

theorem test_witness_jobs :
    (((loopIn 2 { job := some (job 2) } []).lpeX 2).job = some (job 2) ∧ (job 2).unit = none ∧ (job 2).done = false ∧
      (job 2).res = none ∧ 0 ∈ matrixActive up ∧ (job 2).ua.length = (job 2).cfg.nu ∧ (job 2).cfg.zsrc.getD 0 0 < (job 2).cfg.nm ∧
      (job 2).cfg.rc = false ∧
      (jobPredict (loopIn 2 { job := some (job 2) } []) 2 (job 2).cfg (job 2).ua (job 2).vd).2 = (job 2).yp) ∧
    (∀ m < 64, m ≠ 2 → ((loopIn 2 { job := some (job 2) } []).lpeX m).job = none) ∧
    (jobOn.unit = some 0 ∧ jobOn.res.isSome = true ∧ jobOn.done = false) ∧
    ((loopHeld.lpeX 2).zeroed = false ∧ ((loopHeld.lpeX 2).job.bind (·.res)).map (·.qzero) = some true) ∧
    up.sto.umap.matrix = [] ∧ ({ up.sto.umap with matrix := [4] } : UnitMap).matrix.contains 0 = false := by decide +kernel

/-- The table of loop 2, eight entries from 200, the first 42. -/
def loopTable (x : LpeX) : State :=
  (put { loopIn 2 x [(F.RC_CFG_PH_MODE, 2, 1), (F.RC_SIZE_N, 2, 8), (F.RC_SIZE_RC_BASE, 2, 200)] with sto := {} } []).wr R.RCPOOL 42 200

theorem test_learned_tables :
    (let t := after (exec (.rcSnap 2) (loopTable {}))
     t.fb F.RC_STAT_SNAP_BUSY 2 = true ∧ (t.lpeX 2).snap.map (·.length) = some 8 ∧
      recordRead (after (exec (.snapComplete 2) t)).sto.work 2 = some [42, 0, 0, 0, 0, 0, 0, 0] ∧
      (after (exec (.rcSnap 2) t)).fb F.LPE_STAT_REFUSED 2 = true) ∧
    (after (exec (.rcSnap 2) (loopIn 2 {} []))).fb F.LPE_STAT_REFUSED 2 = true ∧
    (let t := after (exec (.tableLoadDone 2) (loopTable { loading := true }))
     t.rd R.RCPOOL 200 = 0 ∧ t.fb F.RC_STAT_NOREC 2 = true ∧ (t.lpeX 2).loading = false) := by decide +kernel

theorem test_witness_learned_tables :
    (loopTable {}).f F.RC_CFG_PH_MODE 2 ≠ 0 ∧ (loopTable {}).fb F.RC_STAT_SNAP_BUSY 2 = false ∧
    (loopIn 2 {} []).f F.RC_CFG_PH_MODE 2 = 0 ∧ ((loopTable { snap := some [1] }).lpeX 2).snap = some [1] ∧
    ((loopTable { loading := true }).lpeX 2).loading = true ∧ Memory.wf (loopTable {}).sto.work = true := by decide +kernel

/-- Trace channel 1 in a state, with three samples, PRE 4, on the counter input 0; channel 2 is ARMED and linked to it. -/
def traceIn (st : Nat) (l : List (Fld × Nat × Nat)) : State :=
  (put { up with trc := [(1, { next := 4095, post := 1 })] } ([(F.TRC_STAT_STATE, 1, st), (F.TRC_COUNT_V, 1, 3), (F.TRC_PRE_V, 1, 4),
    (F.TRC_STAT_START, 1, 4092), (F.TRC_SEL_INDEX, 1, 0x900), (F.TRC_PER_V, 1, 100), (F.TRC_STAT_STATE, 2, 1), (F.TRC_TRG_TMODE, 2, 5),
    (F.TRC_TRG_LINKMASK, 2, 2)] ++ l)).wr R.DIO_CNT 7 0

theorem test_trace :
    (let t := after (exec (.traceArm 1) (traceIn 3 []))
     t.f F.TRC_STAT_STATE 1 = 1 ∧ t.f F.TRC_COUNT_V 1 = 0) ∧
    (after (exec (.traceArm 1) (traceIn 1 []))).fb F.TRC_STAT_REFUSED 1 = true ∧
    (let t := after (exec (.traceTrig 1) (traceIn 1 []))
     t.f F.TRC_STAT_STATE 1 = 2 ∧ t.fb F.TRC_STAT_PRE_SHORT 1 = true ∧ t.f F.TRC_STAT_STATE 2 = 2 ∧ t.f F.TRC_STAT_CAUSE 2 = 4) ∧
    (after (exec (.traceStop 1) (traceIn 2 []))).f F.TRC_STAT_STATE 1 = 3 ∧
    (let t := after (exec (.tracePeriodSample 1) (traceIn 2 []))
     t.rd R.TRC_BUF 1 8190 = 7 ∧ t.f F.TRC_COUNT_V 1 = 4 ∧ t.f F.TRC_STAT_STATE 1 = 3) := by decide +kernel

theorem test_witness_trace :
    ((traceIn 3 []).f F.TRC_STAT_STATE 1 = 3 ∧ (traceIn 3 []).f F.TRC_TRG_TMODE 1 < 4) ∧ (traceIn 1 []).f F.TRC_STAT_STATE 1 = 1 ∧
    ((traceIn 1 []).f F.TRC_STAT_STATE 2 = 1 ∧ (traceIn 1 []).f F.TRC_TRG_TMODE 2 = 5 ∧
      ((traceIn 1 []).f F.TRC_TRG_LINKMASK 2).testBit 1 = true) ∧
    ((traceIn 2 []).f F.TRC_STAT_STATE 1 = 2 ∧ (traceIn 2 []).f F.TRC_SEL_KIND 1 = 0 ∧
      (traceIn 2 []).tbNow % ((traceIn 2 []).f F.TRC_PER_V 1 * 1000) = 0 ∧ ((traceIn 2 []).trcX 1).takenTb ≠ some (traceIn 2 []).tbNow ∧
      (traceIn 2 []).f F.TRC_TRG_TMODE 1 = 0 ∧ (traceIn 2 []).f F.TRC_COUNT_V 1 ≤ 4096) := by decide +kernel

/-! ### Solenoid drive -/

/-- Solenoid channels 5 and 6 of bank 1 enabled with 10 A peaks of 100 µs, repeat every 500 µs, DUR 50 µs, and the first
in a phase. -/
def solIn (phase : Nat) (x : SolX) (l : List (Fld × Nat × Nat)) : State :=
  put (regs { up with sol := [(5, x)] } [(R.SOL_DUR, 5, 50)]) ([5, 6].flatMap (fun n => [(F.SOL_CTL_EN, n, 1), (F.SOL_CUR_IPEAK, n, 10000), (F.SOL_CUR_IHOLD, n, 1000),
    (F.SOL_TIM_TPEAK, n, 100), (F.SOL_REP_REP_US, n, 500), (F.SOL_OCL_OC_LIM, n, 20000)]) ++
    [(F.SOL_STAT_PHASE, 5, phase), (F.SOL_STAT_ON, 5, if phase = 1 ∨ phase = 2 then 1 else 0), 
      (F.SOL_BCFG_DEFER_MAX, 1, 100)] ++ l)

/-- Channel 6 in a peak of 25 A that ends 60 µs from now. -/
def solPeak (defer : Nat) : State :=
  (solIn 0 {} [(F.SOL_STAT_PHASE, 6, 1), (F.SOL_STAT_ON, 6, 1), (F.SOL_CUR_IPEAK, 6, 25000), (F.SOL_BCFG_DEFER_MAX, 1, defer)]).setSol 6
    { onAt := 1000000, projEnd := 1060000 }

/-- Channel 5 armed. -/
def solArmed (op phase : Nat) : State := solIn phase { armed := some ⟨op, 999995, 50⟩ } []

/-- Channel 5 tripped while its peak waits. -/
def solTripped : State := solIn 0 { queued := some ⟨999000, none⟩ } [(F.SOL_STAT_TRIP, 5, 1)]

theorem test_solenoid_commands :
    (after (exec (.solCmdOn 5 true) (put (solIn 0 {} []) [(F.SOL_CTL_EN, 5, 0)]))).fb F.SOL_STAT_REFUSED 5 = true ∧
    ((after (exec (.solCmdPulse 5 false) (regs (solIn 0 {} []) [(R.SOL_TON_LO, 5, 1000001)]))).solX 5).armed = some ⟨3, 1000005, 50⟩ ∧
    ((after (exec (.solCmdOff 5 true) (solIn 2 {} []))).f F.SOL_STAT_PHASE 5 = 3) ∧
    (after (exec (.solCmdOn 5 true) (put (solIn 0 {} []) [(F.SOL_STAT_HOT, 5, 1)]))).fb F.SOL_STAT_BLOCKED 5 = true ∧
    (let t := after (exec (.solCmdPulse 5 true) (solIn 0 {} []))
     t.f F.SOL_STAT_PHASE 5 = 1 ∧ t.rd R.SOL_ONCNT 5 = 1 ∧ (t.solX 5).pulseEnd = some 1050000) ∧
    ((after (exec (.solCmdOn 5 true) (solPeak 60))).solX 5).queued = some ⟨1000000, none⟩ ∧
    (after (exec (.solCmdOn 5 true) (solPeak 59))).fb F.SOL_STAT_CONFLICT 5 = true ∧
    ((after (exec (.solCmdRepeat 5 true) (solIn 0 {} [(F.SOL_REP_REP_US, 5, 300)]))).solX 5).rep = some 50 ∧
    (after (exec (.solStartInstant 5) (solArmed 2 0))).f F.SOL_STAT_PHASE 5 = 1 ∧
    (after (exec (.solStartInstant 5) (solArmed 1 2))).f F.SOL_STAT_PHASE 5 = 3 ∧
    (after (exec (.solRepeatGrid 5) (solIn 0 { rep := some 50 } []))).f F.SOL_STAT_PHASE 5 = 1 ∧
    ((after (exec (.deferredPeakStart 5) solTripped)).solX 5).queued = none ∧
    (after (exec (.deferredPeakStart 5) (solIn 0 { queued := some ⟨999000, none⟩ } []))).rd R.SOL_DEFER 5 = 1000 := by
  decide +kernel

theorem test_witness_solenoid_commands :
    ((solIn 0 {} []).domOn 7 = true ∧ (solIn 0 {} []).solOdd 5 = false ∧ (solIn 0 {} []).fb F.SOL_CTL_EN 5 = true ∧
      (solIn 0 {} []).f F.SOL_CTL_SRC 5 = 0 ∧ (solIn 0 {} []).mode ≠ 6 ∧ (solIn 0 {} []).nat R.SOL_DUR 5 = 50) ∧
    (regs (solIn 0 {} []) [(R.SOL_TON_LO, 5, 1000001)]).tbNow <
      ((regs (solIn 0 {} []) [(R.SOL_TON_LO, 5, 1000001)]).rd64 R.SOL_TON_LO R.SOL_TON_HI 5 + 4) / 5 * 5 ∧
    (solIn 2 {} []).fb F.SOL_STAT_ON 5 = true ∧ (put (solIn 0 {} []) [(F.SOL_STAT_HOT, 5, 1)]).fb F.SOL_STAT_HOT 5 = true ∧
    (solBlocked (solIn 0 {} []) 5 = false ∧ (solIn 0 {} []).fb F.SOL_STAT_ON 5 = false) ∧
    (bankIdle (solIn 0 {} []) 5 ∧ bankIdle (solArmed 2 0) 5 ∧ bankIdle (solIn 0 { rep := some 50 } []) 5) ∧
    (solBlocked (solPeak 60) 5 = false ∧ (solPeak 60).solPeaks 1 = [6] ∧ (∀ k ∈ solBank 1, k ≠ 5 → ((solPeak 60).solX k).queued = none) ∧
      30000 < (solPeak 60).f F.SOL_CUR_IPEAK 6 + (solPeak 60).f F.SOL_CUR_IPEAK 5 ∧ ((solPeak 60).solX 6).onAt ≤ up.elapsed ∧
      up.elapsed < ((solPeak 60).solX 6).projEnd ∧ (solPeak 60).f F.SOL_CUR_IPEAK 5 ≤ 30000) ∧
    (solBlocked solTripped 5 = true ∧ (solTripped.solX 5).queued = some ⟨999000, none⟩) ∧
    solOnGrid (solIn 0 {} [(F.SOL_REP_REP_US, 5, 300)]) 5 = false ∧ solOnGrid (solIn 0 { rep := some 50 } []) 5 = true ∧
    (solArmed 2 0).stepAt ≠ some (solArmed 2 0).elapsed ∧
    solNext (solIn 0 { queued := some ⟨999000, none⟩ } []) 1 = some 5 ∧
    (solIn 0 { queued := some ⟨999000, none⟩ } []).solLoad 1 = 0 := by
  unfold bankIdle; decide +kernel

/-- Channel 5 on with a repeat pulse of REP_US, which a grid instant began. -/
def solHeld : State := solIn 2 { pulseEnd := some 1000000, rep := some 500, gridDur := 500, gridTb := some 1000000 } []

/-- A capture of a current in which sample 40 is the first past a kink of 64 mA. -/
def kinkCurrent : List (BitVec 16) := (List.range 256).map (fun k => if k < 48 then 1000 else 1064)

theorem test_solenoid_phases :
    (let t := after (exec (.solPeakEnd 5 3000) (solIn 1 {} [(F.SOL_OCL_OPEN_TH, 5, 2999)]))
     t.f F.SOL_STAT_PHASE 5 = 2) ∧
    (let t := after (exec (.solPeakEnd 5 2999) (solIn 1 {} [(F.SOL_OCL_OPEN_TH, 5, 2999)]))
     t.f F.SOL_STAT_PHASE 5 = 3 ∧ t.fb F.SOL_STAT_OPEN 5 = true) ∧
    (after (exec (.solPulseEnd 5 3000) (solIn 2 { pulseEnd := some 1000000 } []))).f F.SOL_STAT_PHASE 5 = 3 ∧
    (after (exec (.solPulseEnd 5 3000) solHeld)).f F.SOL_STAT_PHASE 5 = 2 ∧
    (let t := after (exec (.pullinDetected 5 40000) (solIn 1 { onAt := 960000 } [(F.SOL_MEAS_DIP_TH, 5, 1)]))
     t.f F.SOL_PULLIN_T 5 = 40000 ∧ t.fb F.SOL_PULLIN_VALID 5 = true) ∧
    (after (exec (.ipeakReached 5) (solIn 1 {} [(F.SOL_MEAS_DIP_TH, 5, 1)]))).fb F.SOL_STAT_NOPULL 5 = true ∧
    ((after (exec (.dropoutCapture 5) (solIn 3 { capAt := some 1000000 } []))).solX 5).capOn = some 1000000 ∧
    (let t := after (exec (.dropoutResult 5 kinkCurrent) (solIn 3 { capOn := some 872500 } [(F.SOL_BCFG_KINK_TH, 1, 8), (F.SOL_MEAS_DROP_DLY, 5, 2)]))
     t.f F.SOL_DROPOUT_T 5 = 2000 + 40 * 500 ∧ t.fb F.SOL_DROPOUT_VALID 5 = true ∧ t.rd R.SOL_CAP 1 255 = 1064) ∧
    (after (exec (.solDecayEnd 5) (solIn 3 {} []))).f F.SOL_STAT_PHASE 5 = 0 := by decide +kernel

theorem test_witness_solenoid_phases :
    ((solIn 1 {} []).f F.SOL_STAT_PHASE 5 = 1 ∧ (solIn 1 {} []).fb F.SOL_STAT_ON 5 = true ∧ ((solIn 1 {} []).solX 5).peakEnd ≤ up.elapsed ∧
      ((solIn 1 {} []).solX 5).reached = false ∧ ((solIn 1 {} []).solX 5).pulled = false ∧
      (solIn 1 {} [(F.SOL_MEAS_DIP_TH, 5, 1)]).f F.SOL_MEAS_DIP_TH 5 ≠ 0) ∧
    solGridDue (solIn 2 { pulseEnd := some 1000000 } []) 5 = false ∧ solAcross (solIn 2 { pulseEnd := some 1000000 } []) 5 = false ∧
    (solHeld.fb F.SOL_STAT_ON 5 = true ∧ solGridDue solHeld 5 = false ∧ solAcross solHeld 5 = true) ∧
    (solIn 3 {} []).f F.SOL_STAT_PHASE 5 = 3 ∧ 872500 + 127500 ≤ up.elapsed ∧
    (let v := fun k => ((kinkCurrent.getD k 0).toNat : Int)
     8 * (8 : Int) ≤ |v (32 + 16) - 2 * v (32 + 8) + v 32| ∧
       ∀ i < 32, ¬ 8 * (8 : Int) ≤ |v (i + 16) - 2 * v (i + 8) + v i|) := by decide +kernel

theorem test_solenoid_protection :
    (let t := after (exec (.solOvercurrentTrip 5) (solIn 1 {} []))
     t.fb F.SOL_STAT_TRIP 5 = true ∧ t.f F.SOL_STAT_PHASE 5 = 3 ∧ (t.solX 5).path = 1 ∧
      (after (exec (.solClearTrip 5) t)).fb F.SOL_STAT_TRIP 5 = true ∧
      (after (exec (.solClearTrip 5) { t with elapsed := 1000005 })).fb F.SOL_STAT_TRIP 5 = false) ∧
    (let t := after (exec (.solClampHot 5) (solIn 2 {} []))
     t.fb F.SOL_STAT_HOT 5 = true ∧ (after (exec (.solClampCool 5) t)).fb F.SOL_STAT_HOT 5 = false) ∧
    (let t := after (exec (.solChannelLost 6) (solIn 2 {} []))
     t.f F.SOL_BSTAT_DOWN_CAUSE 1 = 1 ∧ t.fb F.SOL_STAT_ON 5 = false ∧
      (after (exec (.solBankRestore 1) t)).fb F.SOL_BSTAT_REFUSED 1 = true) ∧
    (let t := after (exec (.solRailOvercurrent 1) (solIn 2 {} []))
     t.f F.SOL_BSTAT_DOWN_CAUSE 1 = 2 ∧ (after (exec (.solBankRestore 1) t)).fb F.SOL_BSTAT_DOWN 1 = false) ∧
    (let t := after (exec (.vsolUndervoltage 10499) (solIn 2 {} []))
     t.fb F.SOL_GSTAT_UNDERV = true ∧ t.fb F.SOL_STAT_ON 5 = false ∧
      (after (exec (.vsolRecovered 11501) t)).fb F.SOL_GSTAT_UNDERV = false ∧
      (after (exec (.vsolRecovered 11500) t)).fb F.SOL_GSTAT_UNDERV = true) ∧
    (after (exec (.vsolUndervoltage 10500) (solIn 2 {} []))).fb F.SOL_GSTAT_UNDERV = false := by decide +kernel

theorem test_solenoid_enable :
    (after (exec (.solEnable 5) (solIn 0 {} [(F.SOL_CTL_EN, 5, 0)]))).fb F.SOL_CTL_EN 5 = true ∧
    (let t := after (exec (.solDisable 5) (solIn 2 { armed := some ⟨2, 2000000, 0⟩ } []))
     t.fb F.SOL_CTL_EN 5 = false ∧ (t.solX 5).armed = none ∧ t.f F.SOL_STAT_PHASE 5 = 3) ∧
    (let t := after (exec (.solClassSWrite 0x21) (put (solIn 0 {} []) [(F.SYS_MODE_MODE, 0, 1)]))
     t.rd R.SOL_CLASS_S = 0x21 ∧ t.fb F.SOL_CTL_CLASS_S 5 = true ∧ t.fb F.SOL_CTL_ODEC 5 = true ∧ t.sto.keyDirty = true) ∧
    (after (exec (.solClassSWrite 0x21) (solIn 0 {} []))).fb F.SOL_GSTAT_XREFUSED = true := by decide +kernel

theorem test_witness_solenoid_protection :
    ((solIn 0 {} []).solLead 5 = 5 ∧ (solIn 1 {} []).solLow 5 = true ∧ (solIn 2 {} []).solLow 5 = false ∧ solIdle (solIn 2 {} []) 6 = true ∧ (solIn 2 {} []).fb F.SOL_STAT_ON 5 = true ∧ (solIn 2 {} []).fb F.SOL_STAT_HOT 5 = false ∧
      (solIn 2 {} []).fb F.SOL_STAT_ON 6 = false ∧ (solIn 2 {} []).fb F.SOL_STAT_LOST 6 = false ∧
      (solIn 2 {} []).f F.SOL_BSTAT_DOWN_CAUSE 1 = 0 ∧ (solIn 2 {} []).solRail 1 = true ∧ (solIn 2 {} []).fb F.SOL_GSTAT_UNDERV = false) ∧
    (let s := solIn 0 {} [(F.SOL_CTL_EN, 5, 0)]
     s.fb F.SOL_CTL_EN 5 = false ∧ s.f F.SOL_CTL_SRC 5 < 2 ∧ s.fb F.SOL_CTL_PAR 5 = false ∧ s.f F.SOL_CUR_IHOLD 5 = 1000 ∧
      s.f F.SOL_CUR_IPEAK 5 = 10000 ∧ 11 * 10000 ≤ 10 * s.f F.SOL_OCL_OC_LIM 5 ∧ s.f F.SOL_REPPH_REP_PH 5 < s.f F.SOL_REP_REP_US 5 ∧
      s.fb F.SOL_MEAS_DROP_EN 5 = false ∧ s.solClassS 5 = false ∧ (∀ m ∈ s.solMembers 5, s.fb F.SOL_STAT_LOST m = false) ∧
      s.fb F.SOL_BSTAT_DOWN 1 = false ∧ s.fb F.SYS_STAT_SS = false ∧ s.mode ≠ 6) ∧
    ((inMode 1).mode = 1 ∧ (∀ k < 12, (inMode 1).fb F.SOL_CTL_PAR (2 * k) = false) ∧ up.mode ≠ 1 ∧ bits (up.rd R.SOL_CLASS_S) 23 0 ≠ 0x21) := by
  decide +kernel

/-! ### Load switches -/

/-- Load switch 9 of group 1 enabled, with a period of 1000 µs on generator 0. -/
def lswIn (x : LswX) (l : List (Fld × Nat × Nat)) : State :=
  put { up with lsw := [(9, x)] } ([(F.LSW_CTL_EN, 9, 1), (F.LSW_GPER_PER_US, 0, 1000), (F.LSW_RETRY_RETRY_MAX, 9, 3)] ++ l)

/-- Switch 9 held over a reset. -/
def lswKept : State := regs (lswIn {} [(F.LSW_STAT_ON, 9, 1)]) [(R.SYS_HELD, 0, 0x200)]

theorem test_load_switch_commands :
    (after (exec (.lswCmdOff 9) lswKept)).fb F.LSW_STAT_REFUSED 9 = true ∧
    (after (exec (.lswCmdOn 8) (lswIn {} []))).fb F.LSW_STAT_REFUSED 8 = true ∧
    (after (exec (.lswCmdOff 9) (lswIn {} [(F.LSW_STAT_ON, 9, 1)]))).fb F.LSW_STAT_ON 9 = false ∧
    (let t := after (exec (.lswCmdOn 9) (lswIn {} [(F.LSW_CTL_LAMP, 9, 1)]))
     t.fb F.LSW_STAT_ON 9 = true ∧ t.fb F.LSW_STAT_LAMP_WIN 9 = true ∧
      (after (exec (.lampWindowEnd 9) { t with elapsed := 51000000 })).fb F.LSW_STAT_LAMP_WIN 9 = false) ∧
    (let t := after (exec (.lswCmdPwm 9) (lswIn {} []))
     t.f F.LSW_STAT_CMD 9 = 2 ∧ t.fb F.LSW_STAT_ON 9 = false) ∧
    ((after (exec (.lswPeriodStart 9) (lswIn {} [(F.LSW_STAT_CMD, 9, 2), (F.LSW_DUTY_V, 9, 0x8000)]))).lswX 9).offAt = some 1500000 ∧
    (after (exec (.lswPeriodStart 9) (lswIn {} [(F.LSW_STAT_CMD, 9, 2), (F.LSW_DUTY_V, 9, 130)]))).fb F.LSW_STAT_ON 9 = false ∧
    (after (exec (.lswPwmOffEdge 9) (lswIn { offAt := some 1000000 } [(F.LSW_STAT_ON, 9, 1)]))).fb F.LSW_STAT_ON 9 = false ∧
    (let t := after (exec (.lswEnable 9) (lswIn {} [(F.LSW_CTL_EN, 9, 0), (F.LSW_CTL_SRC, 9, 1)]))
     t.fb F.LSW_CTL_EN 9 = true ∧ t.f F.LSW_STAT_RETRY_LEFT 9 = 3 ∧ t.f F.LSW_STAT_CMD 9 = 2) ∧
    (after (exec (.lswDisable 9) (lswIn {} [(F.LSW_STAT_ON, 9, 1)]))).fb F.LSW_STAT_ON 9 = false := by decide +kernel

theorem test_witness_load_switch_commands :
    (lswKept.domOn 7 = true ∧ lswKept.lswHeld 9 = true) ∧
    ((lswIn {} []).lswHeld 9 = false ∧ (lswIn {} []).fb F.LSW_CTL_EN 8 = false ∧ (lswIn {} []).f F.LSW_CTL_SRC 9 = 0 ∧
      (lswIn {} []).fb F.LSW_CTL_EN 9 = true ∧ (lswIn {} []).mode ≠ 6 ∧ lswBlocked (lswIn {} []) 9 = false) ∧
    (let s := lswIn {} [(F.LSW_STAT_CMD, 9, 2)]
     s.f F.LSW_STAT_CMD 9 = 2 ∧ lswBlocked s 9 = false ∧ lswOnStart s 9 = true ∧ (s.lswX 9).startTb ≠ some s.tbNow) ∧
    (let s := lswIn {} [(F.LSW_CTL_EN, 9, 0), (F.LSW_CTL_LAMP, 9, 1), (F.LSW_LIM_ILIM, 9, 80)]
     s.fb F.LSW_CTL_EN 9 = false ∧ s.f F.LSW_CTL_SRC 9 < 2 ∧ s.f F.LSW_LIM_ILIM 9 = 80 ∧ s.fb F.LSW_STAT_LOST 9 = false ∧
      s.fb F.LSW_GRSTAT_DOWN 1 = false ∧ s.fb F.SYS_STAT_SS = false) := by decide +kernel

/-- Switch 9 on under ON. -/
def lswOn9 (x : LswX) (l : List (Fld × Nat × Nat)) : State := lswIn x ([(F.LSW_STAT_ON, 9, 1), (F.LSW_STAT_CMD, 9, 1)] ++ l)
/-- Switch 9 off under ON. -/
def lswOff9 (x : LswX) (l : List (Fld × Nat × Nat)) : State := lswIn x ([(F.LSW_STAT_CMD, 9, 1)] ++ l)

theorem test_load_switch_faults :
    (let t := after (exec (.lswCurrentLimitTrip 9) (lswOn9 {} [(F.LSW_STAT_RETRY_LEFT, 9, 1)]))
     t.fb F.LSW_STAT_TRIP 9 = true ∧ t.fb F.LSW_STAT_ON 9 = false ∧ t.fb F.LSW_STAT_PENDING 9 = true ∧ t.rd R.LSW_FCNT 9 = 1) ∧
    (after (exec (.lswCurrentLimitTrip 9) (lswOn9 {} []))).fb F.LSW_STAT_EXHAUSTED 9 = true ∧
    (after (exec (.lswCurrentLimitTrip 9) lswKept)).lswHeld 9 = false ∧
    (let t := after (exec (.thermalLatch 9 1700) (lswOn9 {} []))
     t.fb F.LSW_STAT_HOT 9 = true ∧ (after (exec (.thermalRelease 9 1499) t)).fb F.LSW_STAT_HOT 9 = false ∧
      (after (exec (.thermalRelease 9 1500) t)).fb F.LSW_STAT_HOT 9 = true) ∧
    (after (exec (.thermalLatch 9 1699) (lswOn9 {} []))).fb F.LSW_STAT_HOT 9 = false ∧
    (after (exec (.thermalRelease 9 1499) (lswOff9 { coolRun := true } [(F.LSW_STAT_HOT, 9, 1)]))).fb F.LSW_STAT_ON 9 = true ∧
    (let t := after (exec (.retryRestart 9) (lswOff9 {} [(F.LSW_STAT_PENDING, 9, 1), (F.LSW_STAT_RETRY_LEFT, 9, 1), (F.LSW_RETRY_RETRY_INT, 9, 1)]))
     t.f F.LSW_STAT_RETRY_LEFT 9 = 0 ∧ t.fb F.LSW_STAT_ON 9 = true ∧ t.fb F.LSW_STAT_RESTARTED 9 = true) ∧
    (after (exec (.retryReload 9) (lswOn9 { clean := some 0 } [(F.LSW_RETRY_OK_S, 9, 0)]))).f F.LSW_STAT_RETRY_LEFT 9 = 3 ∧
    (let t := after (exec (.lswClearFault 9) (lswOff9 {} [(F.LSW_STAT_TRIP, 9, 1), (F.LSW_STAT_EXHAUSTED, 9, 1)]))
     t.fb F.LSW_STAT_TRIP 9 = false ∧ t.fb F.LSW_STAT_ON 9 = true) ∧
    (after (exec (.lswClearFault 9) (lswOff9 { tripAt := some 1000000 } [(F.LSW_STAT_TRIP, 9, 1)]))).fb F.LSW_STAT_PENDING 9 = true ∧
    (after (exec (.openLoadTest 9 1001) (lswIn { openHi := 2, testAt := none } [(F.LSW_CTL_OL_EN, 9, 1), (F.LSW_LIM_OL_TH, 9, 10), (F.LSW_LIM_OL_DLY, 9, 1)]))).fb
      F.LSW_STAT_OPEN 9 = true ∧
    (after (exec (.lswNotConducting 9) (lswOn9 {} []))).fb F.LSW_STAT_LOST 9 = true := by decide +kernel

theorem test_load_switch_groups :
    (let t := after (exec (.lswConductingWhileOff 10) (lswOn9 {} []))
     t.f F.LSW_GRSTAT_DOWN_CAUSE 1 = 1 ∧ t.fb F.LSW_STAT_ON 9 = false ∧
      (after (exec (.groupRestore 1) t)).fb F.LSW_GRSTAT_REFUSED 1 = true) ∧
    (let t := after (exec (.groupOvercurrent 1) (lswOn9 {} []))
     t.f F.LSW_GRSTAT_DOWN_CAUSE 1 = 2 ∧ (after (exec (.groupRestore 1) t)).f F.LSW_STAT_CMD 9 = 0) ∧
    (after (exec (.groupOverload 1 2001) (lswOn9 {} []))).fb F.LSW_GRSTAT_GOVL 1 = true ∧
    (after (exec (.groupOverload 1 2000) (lswOn9 {} []))).fb F.LSW_GRSTAT_GOVL 1 = false ∧
    (let t := after (exec (.groupUndervoltage 1 7999) (lswOn9 {} []))
     t.fb F.LSW_STAT_ON 9 = false ∧ (after (exec (.groupUndervoltageEnd 1 8501) t)).fb F.LSW_STAT_ON 9 = true) := by decide +kernel

theorem test_witness_load_switch_faults :
    ((lswOn9 {} []).fb F.LSW_STAT_ON 9 = true ∧ (lswOn9 {} []).fb F.LSW_STAT_HOT 9 = false ∧ (lswOn9 {} []).lswHeld 9 = false ∧
      lswKept.lswHeld 9 = true ∧ lswFree (lswOff9 {} []) 9 ∧ (lswOff9 {} []).fb F.LSW_STAT_EXHAUSTED 9 = false ∧
      (lswOff9 {} []).fb F.LSW_STAT_TRIP 9 = false ∧ (lswOff9 {} []).f F.LSW_STAT_CMD 9 = 1) ∧
    ((lswOn9 {} []).fb F.LSW_STAT_ON 10 = false ∧ (lswOn9 {} []).fb F.LSW_STAT_LOST 10 = false ∧ (10 : Fin 32).val / 8 = 1 ∧
      (lswOn9 {} []).f F.LSW_GRSTAT_DOWN_CAUSE 1 = 0 ∧ (lswOn9 {} []).lswClosed 1 = true ∧ (lswOn9 {} []).fb F.LSW_GRSTAT_UNDERV 1 = false) := by
  unfold lswFree; decide +kernel

/-! ### Motor drives -/

/-- Axes 1 and 5 enabled, Hall feedback selected on them or not, in a state. -/
def mtrIn (fb st : Nat) (x : MtrX) (l : List (Fld × Nat × Nat)) : State :=
  put { up with mtr := [(1, x), (5, x)] } ([1, 5].flatMap (fun n => [(F.MTR_CTL_EN, n, 1), (F.MTR_CTL_FB, n, fb), (F.MTR_STAT_STATE, n, st),
    (F.MTR_PWM_PWM_HZ, n, 20000), (F.MTR_ST3_RETRIES, n, 1), (F.MTR_ST3_RWAIT_S, n, 0), (F.MTR_ST1_ALIGN_MS, n, 1), (F.MTR_SPD_MIN_SPD, n, 50),
    (F.MTR_ILIM_I_LIM, n, 500), (F.MTR_OCL_OC_LIM, n, 1000)]) ++ l)

/-- Axis 5 with the settings R384 asks for, disabled. -/
def mtrOffline : State :=
  put (regs (mtrIn 0 0 {} []) [(R.MTR_MOT2, 5, 1), (R.MTR_CBW, 5, 100)]) [(F.MTR_CTL_EN, 5, 0), (F.MTR_MOT0_RS, 5, 1), (F.MTR_MOT1_LD, 5, 1),
    (F.MTR_MOT1_LQ, 5, 1), (F.MTR_ST0_ALIGN_I, 5, 500), (F.MTR_ST0_OL_I, 5, 500), (F.MTR_SPD_LOCK_SPD, 5, 50)]

theorem test_witness_motor_enable :
    (mtrOffline.domOn 7 = true ∧ mtrOffline.hasAxis 5 = true ∧ mtrOffline.mtrHeld 5 = false ∧ mtrOffline.fb F.MTR_CTL_EN 5 = false) ∧
    (mtrOffline.f F.MTR_CTL_MODE 5 = 0 ∧ mtrOffline.f F.MTR_CTL_FB 5 = 0 ∧ mtrOffline.f F.MTR_CTL_STOPMODE 5 = 0 ∧
      mtrOffline.f F.MTR_CTL_SRC 5 = 0 ∧ mtrOffline.f F.MTR_PWM_PWM_HZ 5 = 20000 ∧ mtrOffline.f F.MTR_MOT0_RS 5 = 1) ∧
    (mtrOffline.f F.MTR_MOT1_LD 5 = 1 ∧ mtrOffline.f F.MTR_MOT1_LQ 5 = 1 ∧ mtrOffline.rd R.MTR_MOT2 5 = 1 ∧
      mtrOffline.f F.MTR_ILIM_I_LIM 5 = 500 ∧ mtrOffline.f F.MTR_OCL_OC_LIM 5 = 1000 ∧ 242 * 500 * 500 ≤ 100 * 1000 * 1000) ∧
    (mtrOffline.f F.MTR_ST0_ALIGN_I 5 = 500 ∧ mtrOffline.f F.MTR_ST0_OL_I 5 = 500 ∧ mtrOffline.f F.MTR_SPD_MIN_SPD 5 = 50 ∧
      mtrOffline.f F.MTR_SPD_LOCK_SPD 5 = 50 ∧ mtrOffline.nat R.MTR_CBW 5 = 100 ∧ mtrOffline.axis 5 ≠ 7 ∧
      mtrOffline.fb F.SYS_STAT_SS = false ∧ mtrOffline.mode ≠ 6 ∧ mtrOffline.mode ≠ 0 ∧
      mtrStalled mtrOffline 5 = false) := by decide +kernel

theorem test_motor_commands :
    ((after (exec (.mtrCmdWrite 5 0xFFFFFFFF) (mtrIn 0 0 {} []))).mtrX 5).cmd0 = -1 ∧
    (after (exec (.mtrCmdWrite 5 1) (mtrIn 0 0 {} [(F.MTR_CTL_SRC, 5, 1)]))).fb F.MTR_STAT_REFUSED 5 = true ∧
    (let t := after (exec (.mtrEnable 5) mtrOffline)
     t.fb F.MTR_CTL_EN 5 = true ∧ t.fb F.FAN_AXDEM_STOPPED 5 = true) ∧
    (let t := after (exec (.mtrDisable 5) (mtrIn 0 3 { gates := 2 } [(F.MTR_CTL_STOPMODE, 5, 1)]))
     t.axis 5 = 0 ∧ (t.mtrX 5).gates = 1) ∧
    (after (exec (.mtrClearTrip 5) (mtrIn 0 6 {} []))).axis 5 = 0 ∧
    (after (exec (.mtrClearTrip 5) (mtrIn 0 6 { tripAt := some 1000000 } []))).axis 5 = 6 ∧
    (after (exec (.mtrClearBlock 5) (mtrIn 0 5 {} []))).axis 5 = 0 ∧
    (after (exec (.mtrClearTach 5) (mtrIn 0 3 {} [(F.MTR_STAT_TACH_LOST, 5, 1)]))).fb F.MTR_STAT_TACH_LOST 5 = false ∧
    ((after (exec (.mtrClearHall 5) (mtrIn 2 3 { hallBad := [1] } []))).mtrX 5).hallBad = [] ∧
    (after (exec (.alignEnd 5) (mtrIn 0 1 {} []))).axis 5 = 2 := by decide +kernel

/-- An axis that stalls: RUN without speed since long. -/
def stalled : State := { mtrIn 0 3 { stallFrom := some 0, olAt := 0, unlockFrom := some 0 } [] with elapsed := 2 ^ 40 }

theorem test_motor_transitions :
    (after (exec (.stallAttempt 5) stalled)).axis 5 = 4 ∧
    (after (exec (.stallAttempt 5) (put stalled [(F.MTR_STAT_ATTEMPTS, 5, 1)]))).axis 5 = 5 ∧
    (after (exec (.retryWaitEnd 5) (mtrIn 0 4 { cmd0 := 100 } []))).axis 5 = 1 ∧
    (after (exec (.retryWaitEnd 5) (mtrIn 2 4 { cmd0 := -100 } []))).axis 5 = 3 ∧
    (after (exec (.retryWaitEnd 5) (mtrIn 0 4 {} []))).axis 5 = 0 ∧
    (after (exec (.attemptsReset 5) { mtrIn 0 3 {} [(F.MTR_STAT_ATTEMPTS, 5, 1)] with elapsed := 60000000000 })).f F.MTR_STAT_ATTEMPTS 5 = 0 ∧
    (after (exec (.tachLost 5) { mtrIn 1 3 { tachGone := some 0 } [] with elapsed := 200000000 })).fb F.MTR_STAT_TACH_LOST 5 = true ∧
    (after (exec (.hallLost 5) (mtrIn 2 3 { hallBad := [1, 1, 1] } []))).axis 5 = 0 ∧
    (after (exec (.hallLost 5) (mtrIn 2 3 { hallBad := [1, 1, 1], est := 50 } []))).axis 5 = 3 := by decide +kernel

theorem test_witness_motor_commands :
    ((mtrIn 0 0 {} []).f F.MTR_CTL_SRC 5 = 0 ∧ (mtrIn 0 0 {} []).mode ≠ 6 ∧ (mtrIn 0 0 {} []).mtrHeld 5 = false) ∧
    mtrStalled stalled 5 = true ∧
    (mayStart (mtrIn 0 4 { cmd0 := 100 } []) 5 ∧ (mtrIn 0 4 { cmd0 := 100 } []).hallOk 5 = false ∧
      (mtrIn 2 4 { cmd0 := -100 } []).hallOk 5 = true ∧ mayStart (mtrIn 2 4 { cmd0 := -100 } []) 5) ∧
    mtrCalls (mtrIn 0 4 {} []) 5 = false ∧ (mtrIn 0 6 {} []).axis 5 = 6 ∧ mtrStalled (mtrIn 0 6 {} []) 5 = false ∧
    mtrReverses (mtrIn 1 3 {} []) 5 = false ∧
    ((mtrIn 1 3 {} []).f F.MTR_CTL_FB 5 = 1 ∧ (mtrIn 1 3 {} []).fb F.MTR_STAT_TACH_LOST 5 = false ∧
      (mtrIn 2 3 {} []).f F.MTR_CTL_FB 5 = 2 ∧ (mtrIn 2 3 {} []).fb F.MTR_STAT_HALL_LOST 5 = false) := by
  unfold mayStart; decide +kernel

theorem test_motor_trips :
    (let t := after (exec (.phaseOvercurrentTrip 1 1000) (mtrIn 0 3 { gates := 2 } []))
     t.axis 1 = 6 ∧ (t.mtrX 1).gates = 0 ∧ t.f F.MTR_STAT_TRIP_CAUSE 1 = 1) ∧
    (after (exec (.phaseOvercurrentTrip 1 999) (mtrIn 0 3 { gates := 2 } []))).axis 1 = 3 ∧
    (after (exec (.desaturationTrip 5 99) (mtrIn 0 3 { gates := 2 } []))).f F.MTR_STAT_TRIP_CAUSE 5 = 2 ∧
    (after (exec (.filteredOvercurrentTrip 5 3073) (mtrIn 0 3 {} [(F.MTR_SDFS_SD_FS, 5, 2000)]))).f F.MTR_STAT_TRIP_CAUSE 5 = 3 ∧
    (after (exec (.phaseOpen 5 0) { mtrIn 0 3 { openFrom := [(1, 0)] } [] with elapsed := 100000000 })).f F.MTR_STAT_TRIP_CAUSE 5 = 4 ∧
    (after (exec (.phaseOpen 5 0) { mtrIn 0 3 { openFrom := [(1, 1)] } [] with elapsed := 100000000 })).axis 5 = 3 ∧
    (after (exec (.bridgeOvertemperature ⟨1, 1499⟩) (mtrIn 0 3 {} []))).fb F.MTR_STAT_HOT 1 = false ∧
    (after (exec (.bitstreamLost 5 0) (mtrIn 0 0 {} []))).f F.MTR_STAT_TRIP_CAUSE 5 = 5 ∧
    (after (exec (.mtrConductingWhileOff 1) (mtrIn 0 0 {} []))).axis 1 = 7 ∧
    (after (exec (.desatWhileOff 5) (mtrIn 0 0 {} []))).axis 5 = 7 ∧
    (let t := after (exec (.bridgeOvertemperature ⟨1, 1500⟩) (mtrIn 0 3 { gates := 2 } []))
     t.fb F.MTR_STAT_HOT 1 = true ∧ t.axis 1 = 0 ∧ (after (exec (.bridgeCooled ⟨1, 1299⟩) t)).fb F.MTR_STAT_HOT 1 = false) ∧
    (let t := after (exec (.vdrvOvervoltage 66001) (mtrIn 0 3 {} []))
     t.fb F.MTR_GSTAT_OVERV = true ∧ t.axis 1 = 0 ∧ t.axis 5 = 3 ∧
      (after (exec (.vdrvOvervoltageEnd 61999) t)).fb F.MTR_GSTAT_OVERV = false) ∧
    (let t := after (exec (.vdrvUndervoltage 19999) (mtrIn 0 2 {} []))
     t.fb F.MTR_GSTAT_UNDERV = true ∧ t.axis 1 = 0 ∧ (after (exec (.vdrvUndervoltageEnd 22001) t)).fb F.MTR_GSTAT_UNDERV = false) ∧
    (after (exec (.buslim 63001) up)).fb F.MTR_GSTAT_BUSLIM = true := by decide +kernel

theorem test_witness_motor_trips :
    ((mtrIn 0 3 { gates := 2 } []).axis 1 = 3 ∧ (mtrIn 0 3 { gates := 2 } []).hasAxis 1 = true ∧
      ((mtrIn 0 3 { gates := 2 } []).mtrX 5).gates ≠ 0 ∧ (mtrIn 0 3 {} []).f F.MTR_OCL_OC_LIM 1 = 1000) ∧
    ((1000 : Rat) < |(2 * ((3073 : BitVec 13).toNat : Rat) / 4096 - 1) * 2000| ∧ up.hasAxis 5 = true) ∧
    (∃ q ∈ ((mtrIn 0 3 { openFrom := [(1, 0)] } []).mtrX 5).openFrom, q.2 + 100000000 ≤ 100000000) ∧
    (((mtrIn 0 0 {} []).mtrX 1).gates = 0 ∧ ((mtrIn 0 0 {} []).mtrX 1).tracked = false ∧ (mtrIn 0 0 {} []).fb F.MTR_STAT_HOT 1 = false) ∧
    (up.fb F.MTR_GSTAT_OVERV = false ∧ up.fb F.MTR_GSTAT_UNDERV = false ∧ up.fb F.SYS_STAT_FIRE = false) := by decide +kernel

/-- What the motor unit measures with an estimate. -/
def measured (est : BitVec 32) (tracked : Bool) : MtrSample := ⟨est, 0, tracked, 0, 0x100000, 0x100000, 0x100000, 20, 20, 20, 0, 0, 1⟩

theorem test_motor_centres :
    (let t := after (exec (.mtrPeriodCentre 5 (measured 100 false)) (mtrIn 0 0 { cmd0 := 100 } [(F.MTR_SDFS_SD_FS, 5, 2000)]))
     t.axis 5 = 1 ∧ t.rd R.MTR_IRMS 5 = 20 ∧ t.rd R.MTR_SPEED 5 = 0 ∧ (t.mtrX 5).dir = 1) ∧
    (let t := after (exec (.mtrPeriodCentre 5 (measured 100 true)) (mtrIn 2 3 { cmd0 := 100, gates := 2 } []))
     t.axis 5 = 3 ∧ t.rd R.MTR_SPEED 5 = 100) := by decide +kernel

/-- R351: three quarters of ones on a full scale of 20 A are 10 A. -/
theorem test_phase_current : mtrPhase (mtrIn 0 0 {} [(F.MTR_SDFS_SD_FS, 5, 2000)]) 5 0x180000 = 10000 := by decide +kernel

theorem test_witness_motor_centres :
    ((mtrIn 0 0 { cmd0 := 100 } []).f F.MTR_PWM_PWM_HZ 5 ≠ 0 ∧ ((mtrIn 0 0 { cmd0 := 100 } []).mtrX 5).centreTb = none ∧ mtrCentre (mtrIn 0 0 { cmd0 := 100 } []) 5 = some 1000000 ∧
      (mtrIn 0 0 { cmd0 := 100 } []).f F.MTR_CTL_FB 5 ≠ 1 ∧ mayStart (mtrIn 0 0 { cmd0 := 100 } []) 5 ∧
      (mtrIn 0 0 { cmd0 := 100 } []).hallOk 5 = false) ∧
    (let s := mtrIn 2 3 { cmd0 := 100, gates := 2 } []
     s.axis 5 = 3 ∧ s.f F.MTR_CTL_MODE 5 = 0 ∧ s.hallOk 5 = true ∧ mtrCalls s 5 = true ∧ s.fb F.MTR_GSTAT_BUSLIM = false ∧ (s.mtrX 5).stallFrom = none ∧
     mtrLimit s 5 = 5000 ∧ s.f F.MTR_ST2_STALL_MS 5 ≠ 0) := by
  unfold mayStart; decide +kernel

/-! ### FAN unit -/

/-- Zone 4 of both tables: 0 at 1000 to 800 at 2000, for axis 5, on counter input 0, which stands at 1250; SMAX of axis 5
is 1000. -/
def fanIn (l : List (Fld × Nat × Nat)) : State :=
  put ((regs up [(R.FAN_ZCTL, 4, 0x09002021), (R.FANA_ZCTL, 4, 0x09002021), (R.FAN_AXSMAX, 5, 1000), (R.FAN_AXCFG, 5, 0),
    (R.DIO_CNT, 0, 1250), (R.FAN_AXDEM, 5, 0)]) |> (fun s => [(0, 1000), (1, 2000)].foldl (fun (s : State) p =>
      ((s.wr R.FAN_ZX (BitVec.ofNat 32 p.2) 4 p.1).wr R.FANA_ZX (BitVec.ofNat 32 p.2) 4 p.1).wr R.FAN_ZY (BitVec.ofNat 32 (800 * p.1)) 4 p.1) s))
    ([(F.FAN_GCTL_FAN_PER, 0, 1)] ++ l)

theorem test_fan :
    (let t := after (exec .fanEvaluation (fanIn []))
     t.rd R.FAN_ZDEM 4 = 0x100C8 ∧ bits (t.rd R.FAN_AXDEM 5) 9 0 = 200 ∧ (t.mtrX 5).zoneCmd = 200) ∧
    (let t := after (exec (.fanZoneEnable false 4) (fanIn [(F.FAN_ZCTL_EN, 4, 0)]))
     t.fb F.FAN_ZCTL_EN 4 = true) ∧
    (after (exec (.fanZoneEnable false 3) (fanIn []))).fb F.FAN_GSTAT_REFUSED = true ∧
    (after (exec (.fanZoneEnable true 4) (put (fanIn []) [(F.SYS_MODE_MODE, 0, 1), (F.FANA_ZCTL_EN, 4, 0)]))).fb F.FANA_ZCTL_EN 4 = true ∧
    (after (exec (.fanZoneEnable true 3) (fanIn []))).fb F.FAN_GSTAT_REFUSED = true := by decide +kernel

/-- Both axes of the mask have run fast enough since the start. -/
def airOk : State :=
  { put up [(F.FAN_AF_AF_MASK, 0, 0x22), (F.FAN_AF_AF_DLY, 0, 1)] with fan := { afGood := [(1, 0), (5, 0)] } }

theorem test_airflow : (after (exec .airflowOkAssert airOk)).fb F.FAN_AFSTAT_AIRFLOW_OK = true := by decide +kernel

theorem test_witness_fan :
    (up.domOn 7 = true ∧ (fanIn []).tbNow % ((fanIn []).f F.FAN_GCTL_FAN_PER * 1000000) = 0 ∧ (fanIn []).fan.evalTb ≠ some (fanIn []).tbNow) ∧
    maskBit ((fanIn []).rd R.FAN_ZCTL 4) 0 = true ∧
    bits ((fanIn []).rd R.FAN_ZCTL 4) 27 16 = 0x900 ∧ (measOf (fanIn []) 0x900).lost = false ∧ (measOf (fanIn []) 0x900).skipped = false ∧
    (measOf (fanIn []) 0x400).lost = true ∧ (measOf (put up [(F.PFE_CH_FLAG_FLAGS, 0, flClipped)]) 0).skipped = true ∧
    (fanIn []).fb F.FAN_ZCTL_EN 3 = false ∧ (inMode 1).mode = 1 ∧ up.mode ≠ 1 ∧
    up.fb F.FANA_ZCTL_EN 3 = false ∧ airOk.afMask = [1, 5] ∧ afFailing airOk = 0 ∧ airOk.fb F.FAN_AFSTAT_AIRFLOW_OK = false ∧
    afSince airOk = some 0 ∧ 0 + airOk.f F.FAN_AF_AF_DLY * 1000000 ≤ airOk.elapsed := by
  decide +kernel

theorem test_witness_fan_zones : zoneOk (fanIn []) false 4 ∧ ¬ zoneOk (fanIn []) false 3 := by
  have h : bits ((fanIn []).rd R.FAN_ZCTL 4) 7 4 = 2 := by decide +kernel
  have g : bits ((fanIn []).rd R.FAN_ZCTL 3) 7 4 < 2 := by decide +kernel
  refine ⟨⟨by decide +kernel, by decide +kernel, by decide +kernel, by decide +kernel, fun i hi => ?_⟩, fun k => ?_⟩
  · have : i = 0 := by
      simp only [fanTab, Bool.false_eq_true, if_false, h] at hi
      omega
    subst this
    decide +kernel
  · have := k.1
    simp only [fanTab, Bool.false_eq_true, if_false] at this
    omega

/-! ### Bus controller -/

/-- CAN channel `n` in NORMAL at 1 Mbit/s, its filter 7 passing identifier 0x123 into buffer 7. -/
def canIn (n : Nat) (x : CanX) (l : List (Fld × Nat × Nat)) : State :=
  ((put { up with can := [(n, x)] } ([(F.CAN_CTL_MODE, n, 1), (F.CAN_NBT_NBRP, n, 9), (F.CAN_NBT_NTSEG1, n, 14), (F.CAN_NBT_NTSEG2, n, 3), (F.CAN_NBT_NSJW, n, 3), (F.CAN_DBT_DSJW, n, 3),
    (F.CAN_DBT_DTSEG1, n, 13), (F.CAN_DBT_DTSEG2, n, 3), (F.CAN_ERRC_REC, n, 3)] ++ l)).wr R.CAN_RXF (0x123 * 2 ^ 18) n 7).wr
      R.CAN_RXM 0x3FFC0000 n 7 |> (put2 · [(F.CAN_RXBCFG_EN, n, 7, 1), (F.CAN_RXBCFG_EVT, n, 7, 2), (F.CAN_RXBCFG_ROD, n, 7, 1), (F.CAN_RXBCFG_DB, n, 7, 3)])

/-- NORMAL, integrated to the bus. -/
def canRun : CanX := { mode := 1, synced := true, busy := true }

/-- A classical base-format frame of two bytes. -/
def frame (id : Nat) : CanFrame := ⟨false, false, false, false, false, BitVec.ofNat 29 (id * 2 ^ 18), 2, [0x11, 0x22], 0⟩

/-- What the frame leaves: RXCNT, RXSTORED, RXOVR, RXFILT. -/
def rxCounts (s : State) (n : Nat) (f : CanFrame) : List Word :=
  [R.CAN_RXCNT, R.CAN_RXSTORED, R.CAN_RXOVR, R.CAN_RXFILT].map (fun d => (canFrame s n f).rd d n)
where
  canFrame (s : State) (n : Nat) (f : CanFrame) : State :=
    if h : n < 6 then after (exec (.canFrameReceived ⟨n, h⟩ f) s) else s

/-- Channel 4 with filter 7 into queue A, ring 0, which has `tally` slots free. -/
def canQ (q tally : Nat) : State :=
  regs (put2 (canIn 4 canRun []) [(F.CAN_RXBCFG_QSEL, 4, 7, q)]) [(R.CRG_BASE, 0, 0x8000), (R.CRG_CFG, 0, if tally = 0 then 0 else 1),
    (R.CRG_TALLY, 0, BitVec.ofNat 32 tally)]

theorem test_can_frames :
    rxCounts (canIn 2 canRun []) 2 (frame 0x124) = [1, 0, 0, 1] ∧ rxCounts (canIn 2 canRun []) 2 (frame 0x123) = [1, 1, 0, 0] ∧
    rxCounts (regs (canIn 2 canRun []) [(R.CAN_RXFULL_LO, 2, 0x80)]) 2 (frame 0x123) = [1, 0, 1, 0] ∧
    rxCounts (regs (canIn 2 canRun []) [(R.CAN_RXLOCK_LO, 2, 0x80)]) 2 (frame 0x123) = [1, 1, 0, 0] ∧
    rxCounts (canQ 1 16) 4 (frame 0x123) = [1, 1, 0, 0] ∧ rxCounts (canQ 1 1) 4 (frame 0x123) = [1, 0, 1, 0] ∧
    rxCounts (canQ 0 16) 4 (frame 0x123) = [1, 0, 0, 1] ∧
    (let t := after (exec (.canFrameReceived 2 (frame 0x123)) (canIn 2 canRun []))
     t.rxFull 2 7 = true ∧ t.rd R.CAN_RXB 2 (32 * 7) = 0x048C0000 ∧ t.rd R.CAN_RXB 2 (32 * 7 + 1) = 0x00020702 ∧
      t.rd R.CAN_RXB 2 (32 * 7 + 2) = 0x2211 ∧ t.rd R.CAN_RXB 2 (32 * 7 + 18) = 1000000 ∧ t.rd R.FRM_DOORBELL 1 = 8 ∧
      t.f F.CAN_ERRC_REC 2 = 2) ∧
    (after (exec (.canFrameReceived 4 (frame 0x123)) (canQ 1 0))).rd R.CRG_LOST 0 = 2 := by decide +kernel

theorem test_witness_can_frames :
    (canTakes (canIn 2 canRun []) 2 (frame 0x123) ∧ boardOn (canIn 2 canRun []) 2 = false ∧
      stranger (canIn 2 canRun []) 2 (canHdr (frame 0x123)) ∧ canFilter (canIn 2 canRun []) 2 (canHdr (frame 0x123)) = some 7 ∧
      canFilter (canIn 2 canRun []) 2 (canHdr (frame 0x124)) = none ∧ (canIn 2 canRun []).rxLocked 2 7 = false ∧
      (canIn 2 canRun []).rxFull 2 7 = false ∧ (regs (canIn 2 canRun []) [(R.CAN_RXLOCK_LO, 2, 0x80)]).rxLocked 2 7 = true) ∧
    (canTakes (canQ 1 16) 4 (frame 0x123) ∧ stranger (canQ 1 16) 4 (canHdr (frame 0x123)) ∧
      canFilter (canQ 1 16) 4 (canHdr (frame 0x123)) = some 7 ∧ (canQ 1 16).ringOn 0 = true ∧ ((canQ 1 16).ring 0).closing = false ∧
      (canQ 1 0).ringOn 0 = false) := by
  unfold canTakes stranger; decide +kernel

/-- Buffer 40 of channel 2 is locked and full, with a frame in its shadow. -/
def canLocked (sh : List (Nat × List Word)) : State :=
  regs (canIn 2 { canRun with shadows := sh } []) [(R.CAN_RXLOCK_HI, 2, 0x100), (R.CAN_RXFULL_HI, 2, 0x100)]

/-- R403: a read of word 0 in the step of the arrival comes first, so the frame waits and then goes to the shadow. -/
theorem test_read_at_arrival :
    (let t := after (exec (.canFrameReceived 2 (frame 0x123)) { canIn 2 canRun [] with pending := [.rxBufferLock 2 7] })
     t.held = [.canFrame 2 (frame 0x123)] ∧ t.rxFull 2 7 = false) ∧
    (let t := after (exec (.canFrameReceived 2 (frame 0x123)) (after (exec (.rxBufferLock 2 7) (canIn 2 canRun []))))
     t.rxLocked 2 7 = true ∧ t.rxFull 2 7 = false ∧ t.rd R.CAN_RXB 2 (32 * 7) = 0 ∧ (tabFind (t.canX 2).shadows 7).isSome = true) := by
  decide +kernel

theorem test_can_locks :
    (after (exec (.rxBufferLock 2 40) (canIn 2 canRun []))).rxLocked 2 40 = true ∧
    (let t := after (exec (.rxBufferRelease 2 40) (canLocked []))
     t.rxLocked 2 40 = false ∧ t.rxFull 2 40 = false) ∧
    (let t := after (exec (.rxReleaseWrite 2 true 0x100) (canLocked [(40, [5, 6])]))
     t.rxFull 2 40 = true ∧ t.rd R.CAN_RXB 2 (32 * 40) = 5 ∧ t.rd R.CAN_RXB 2 (32 * 40 + 1) = 0x86) := by decide +kernel

theorem test_witness_can_locks : up.domOn 6 = true ∧
    Instr.rxBufferLock 2 7 ∈ ({ canIn 2 canRun [] with pending := [.rxBufferLock 2 7] } : State).pending ∧
    (canLocked []).rxLocked 2 40 = true ∧ (canIn 2 canRun []).rxLocked 2 40 = false ∧
    tabFind ((canLocked [(40, [5, 6])]).canX 2).shadows 40 = some [5, 6] := by decide +kernel

/-- Channel 2 with transmit buffer 3 in a state, of identifier 0x123, and the channel behind its registers. -/
def txIn (st : Word) (x : CanX) : State :=
  [(0, (0x123 * 2 ^ 18 : Word)), (1, 2), (2, 0x00010000), (3, st)].foldl (fun s p => s.wr R.CAN_TXB p.2 2 (32 * 3 + p.1)) (canIn 2 x [])

/-- It is on the bus. -/
def txOn (st : Word) : State := txIn st { canRun with active := some 3, commitAt := 1000000 }

theorem test_can_transmit :
    ((after (exec (.canTxreq 2 8) (txIn 0 canRun))).txSt 2 3 = 1) ∧
    (after (exec (.canTxreq 2 8) (txIn 1 canRun))).fb F.CAN_STAT_REFUSED 2 = true ∧
    (after (exec (.canTxcancel 2 8) (txIn 1 canRun))).txSt 2 3 = 4 ∧
    (let t := after (exec (.canTxcancel 2 8) (txOn 2))
     t.txSt 2 3 = 2 ∧ t.txCancelPend 2 3 = true) ∧
    (let t := after (exec (.txStart 2) (txIn 1 { canRun with busy := false, reqAt := [(3, 1000000)] }))
     t.txSt 2 3 = 2 ∧ t.sent.map (·.dest) = [[0x123 * 2 ^ 18]]) ∧
    (after (exec (.txStart 2) (txIn 1 { canRun with busy := false }))).txSt 2 3 = 7 ∧
    (let t := after (exec (.transmitted 2 0) (txOn 0x12))
     t.txSt 2 3 = 3 ∧ maskBit (t.txW 2 3 3) 3 = true) ∧
    (let t := after (exec (.arbitrationLost 2) (txOn 2))
     t.txSt 2 3 = 6 ∧ t.txArb 2 3 = 1) ∧
    (let t := after (exec (.busError 2 .transmitter none) (txOn 0x12))
     t.txSt 2 3 = 5 ∧ t.txErr 2 3 = 1 ∧ t.f F.CAN_ERRC_TEC 2 = 8 ∧ t.f F.CAN_ERRC_REC 2 = 3) ∧
    (let t := after (exec (.busError 2 .receiverAfterFlag none) (canIn 2 canRun []))
     t.f F.CAN_ERRC_REC 2 = 11 ∧ t.f F.CAN_STAT_ESTATE 2 = 0) := by decide +kernel

theorem test_witness_can_transmit :
    (boardOn (txIn 0 canRun) 2 = false ∧ ((txIn 0 canRun).ttsX 2).cell = none ∧ (txIn 1 canRun).txSt 2 3 = 1 ∧
      ¬ txBad (txIn 0 canRun) 2 3 ∧ txBad (txIn 1 canRun) 2 3) ∧
    (canMayStart (txIn 1 { canRun with busy := false, reqAt := [(3, 1000000)] }) 2 = true ∧
      ¬ txOld (txIn 1 { canRun with busy := false, reqAt := [(3, 1000000)] }) 2 3 ∧
      txOld (txIn 1 { canRun with busy := false }) 2 3 ∧ (txIn 1 canRun).txTT 2 3 = false) ∧
    (((txOn 2).canX 2).active = some 3 ∧ ((txOn 2).canX 2).mode = 1 ∧ canListens (txOn 2) 2 = true ∧
      ((txIn 1 { mode := 2 }).canX 2).mode = 2) := by
  unfold txBad txOld; decide +kernel

theorem test_can_modes :
    (let t := after (exec (.canModeWrite 2 1) (canIn 2 {} [(F.CAN_CTL_MODE, 2, 0)]))
     t.f F.CAN_CTL_MODE 2 = 1 ∧ (t.canX 2).mode = 1) ∧
    (let t := after (exec (.canModeWrite 2 2) (canIn 2 canRun []))
     t.fb F.CAN_STAT_MODE_PEND 2 = true ∧ (t.canX 2).mode = 1) ∧
    (after (exec (.canModeWrite 2 0) (canIn 2 canRun [(F.CAN_STAT_ESTATE, 2, 2)]))).fb F.CAN_STAT_REFUSED 2 = true ∧
    (after (exec (.canModeWrite 2 1) (canIn 2 {} [(F.CAN_CTL_MODE, 2, 0), (F.CAN_NBT_NBRP, 2, 0)]))).fb F.CAN_STAT_REFUSED 2 = true ∧
    ((after (exec (.modeChangeEffect 2) (canIn 2 { canRun with busy := false } [(F.CAN_CTL_MODE, 2, 2), (F.CAN_STAT_MODE_PEND, 2, 1)]))).canX 2).mode = 2 ∧
    ((after (exec (.busIntegration 2) (canIn 2 { mode := 1 } []))).canX 2).synced = true ∧
    (after (exec (.canClrcnt 2) (regs (canIn 2 canRun []) [(R.CAN_RXCNT, 2, 9)]))).rd R.CAN_RXCNT 2 = 0 ∧
    (after (exec (.canRecover 2) (canIn 2 canRun [(F.CAN_STAT_ESTATE, 2, 2)]))).f F.CAN_STAT_ESTATE 2 = 3 ∧
    (after (exec (.canRecover 2) (canIn 2 canRun []))).fb F.CAN_STAT_REFUSED 2 = true ∧
    (let t := after (exec (.recoveryComplete 2) (canIn 2 canRun [(F.CAN_STAT_ESTATE, 2, 3)]))
     t.f F.CAN_STAT_ESTATE 2 = 0 ∧ t.f F.CAN_ERRC_REC 2 = 0) := by decide +kernel

theorem test_witness_can_modes :
    timingOk (canIn 2 {} []) 2 false ∧ ¬ timingOk (canIn 2 {} [(F.CAN_NBT_NBRP, 2, 0)]) 2 false ∧
    (canIn 2 canRun [(F.CAN_CTL_MODE, 2, 2), (F.CAN_STAT_MODE_PEND, 2, 1)]).fb F.CAN_STAT_MODE_PEND 2 = true ∧
    ((canIn 2 { mode := 1 } []).canX 2).busy = false ∧ ((canIn 2 {} []).canX 2).mode = 0 ∧
    (canIn 2 { canRun with busy := false } []).fb F.CAN_STAT_MODE_PEND 2 = false ∧ ((canIn 2 canRun []).canX 2).synced = true ∧
    (canIn 2 canRun [(F.CAN_STAT_ESTATE, 2, 2)]).f F.CAN_STAT_ESTATE 2 = 2 ∧ (canIn 2 canRun []).f F.CAN_STAT_ESTATE 2 = 0 := by
  unfold timingOk; decide +kernel

/-! ### Counting boards -/

/-- The board of channel 4 at 1 Mbit/s: two columns from 200 µs and 400 µs of 100 µs, a cycle of 1 ms, cell (0, 0) EXCLUSIVE for
buffer 3 and cell (0, 1) a TIMEMARK; identifiers 0x100 and 0x180. -/
def ttsIn (st : Nat) (x : TtsX) (c : CanX) (l : List (Fld × Nat × Nat)) : State :=
  let s := put { canIn 4 c [] with tts := [(4, x)] } ([(F.TTS_CTL_EN, 0, 1), (F.TTS_CTL_ROLE, 0, 1), (F.TTS_CTL_RANK, 0, 2), (F.TTS_STAT_STATE, 0, st),
    (F.TTS_CYC_CYC_LEN, 0, 10000), (F.TTS_CYC_NCYC_LOG, 0, 0), (F.TTS_CFG_NCOL, 0, 2), (F.TTS_CFG_TXEN, 0, 15), (F.TTS_CFG_REF_TO, 0, 0)] ++ l)
  let s := put2 s [(F.TTS_START_V, 0, 0, 2000), (F.TTS_LEN_V, 0, 0, 1000), (F.TTS_START_V, 0, 1, 4000), (F.TTS_LEN_V, 0, 1, 1000)]
  regs ((s.wr R.TTS_CELL 0xC043 0 0).wr R.CAN_TXB 0x100 4 (32 * 3 + 1)) [(R.TTS_REFID, 0, 0x100 * 2 ^ 18), (R.TTS_TMID, 0, 0x180 * 2 ^ 18)]

/-- The same disabled. -/
def ttsIdle : State := ttsIn 0 {} canRun [(F.TTS_CTL_EN, 0, 0)]

theorem test_boards :
    (let t := after (exec (.boardEnable 0) ttsIdle)
     t.fb F.TTS_CTL_EN 0 = true ∧ t.f F.TTS_STAT_STATE 0 = 1) ∧
    (after (exec (.boardEnable 0) (put ttsIdle [(F.TTS_CFG_NCOL, 0, 0)]))).fb F.TTS_STAT_REFUSED 0 = true ∧
    (after (exec (.boardDisable 0) (ttsIn 2 {} canRun []))).f F.TTS_STAT_STATE 0 = 0 ∧
    (let t := after (exec (.referenceMessage 0 1 0x85 300) (ttsIn 1 { seen := true } canRun []))
     t.f F.TTS_STAT_STATE 0 = 2 ∧ t.f F.TTS_STAT_CYCLE 0 = 5 ∧ t.f F.TTS_STAT_MRANK 0 = 1 ∧ t.rd R.TTS_REFMARK_LO 0 = 999700 ∧
      t.fb F.TTS_STAT_JUMP_SEEN 0 = true ∧ t.fb F.TTS_STAT_GAP_SEEN 0 = true) ∧
    (after (exec (.referenceMessage 0 2 0 300) (ttsIn 3 {} canRun []))).f F.TTS_STAT_STATE 0 = 3 ∧
    (after (exec (.referenceMessage 0 1 0 300) (ttsIn 3 {} canRun []))).f F.TTS_STAT_STATE 0 = 2 ∧
    (let t := after (exec (.watchExpiry 0) (ttsIn 2 {} canRun []))
     t.f F.TTS_STAT_STATE 0 = 1 ∧ t.txSt 4 30 = 1 ∧ t.txW 4 30 0 = 0x102 * 2 ^ 18) ∧
    (let t := after (exec (.referenceRequest 0) (ttsIn 3 { sched := some 0 } canRun []))
     t.txSt 4 30 = 1 ∧ (t.ttsX 4).sched = some 1000000) ∧
    (after (exec (.referenceRequest 0) (ttsIn 2 {} canRun [(F.TTS_CTL_PREEMPT, 0, 1), (F.TTS_STAT_MRANK, 0, 3)]))).txSt 4 30 = 1 := by
  decide +kernel

theorem test_witness_board_fit : boardFit ttsIdle 0 := by
  refine ⟨?_, ?_, ?_, ?_, ?_, ?_, ?_, ?_, ?_, ?_, fun _ => ⟨?_, ?_⟩⟩ <;> decide +kernel

theorem test_witness_board_unfit : ¬ boardFit (put ttsIdle [(F.TTS_CFG_NCOL, 0, 0)]) 0 := by
  intro h
  have : 1 ≤ (put ttsIdle [(F.TTS_CFG_NCOL, 0, 0)]).f F.TTS_CFG_NCOL 0 := h.2.2.2.2.1
  revert this
  decide +kernel

/-- The own reference is on the bus. -/
def ttsSends : State := ttsIn 1 { refDue := some 0, sched := some 7 } { canRun with active := some 30, startAt := 980000 } []

theorem test_reference_sent :
    (let t := after (exec (.transmitted 4 0) ttsSends)
     t.f F.TTS_STAT_STATE 0 = 3 ∧ t.f F.TTS_STAT_MRANK 0 = 2 ∧ (t.ttsX 4).sched = some 7) ∧
    ((after (exec (.arbitrationLost 4) ttsSends)).ttsX 4).refDue = some 0 := by decide +kernel

theorem test_witness_boards :
    (ttsIdle.domOn 6 = true ∧ ttsIdle.fb F.TTS_CTL_EN 0 = false) ∧
    (canListens (ttsIn 1 {} canRun []) 4 = true ∧ ((ttsIn 1 {} canRun []).canX 4).mode ≠ 3 ∧ ((ttsIn 1 {} canRun []).canX 4).active = none ∧
      stranger (ttsIn 1 {} canRun []) 4 (canHdr (boardFrame (0x100 * 2 ^ 18) 1 [5] 300))) ∧
    ((ttsIn 2 {} canRun []).txSt 4 30 = 0 ∧
      ((ttsIn 2 {} canRun []).ttsX 4).watchAt + 100 * (ttsIn 2 {} canRun []).f F.TTS_CYC_CYC_LEN 0 + 1000 * 0 ≤ up.elapsed) ∧
    ((ttsSends.canX 4).active = some 30 ∧ ttsSends.fb F.TTS_CTL_ROLE 0 = true ∧ (ttsSends.ttsX 4).refDue = some 0 ∧ (0 : Nat) < 64 ∧
      ttsSends.f F.CAN_ERRC_TEC 4 ≤ 256) := by
  unfold stranger; decide +kernel

/-- A cycle that began 200 µs ago, or 400 µs ago with column 0 gone, buffer 3 PENDING or not. -/
def ttsOpen (st begun : Nat) (tx : Word) : State :=
  ((ttsIn st { seen := true, begun := begun, markAt := 800000 - 200000 * begun } { canRun with busy := false } []).wr R.CAN_TXB tx 4
    (32 * 3 + 3)).wr64 R.TTS_REFMARK_LO R.TTS_REFMARK_HI 600000 0

/-- Column 0's window has ended. -/
def ttsPast (started : Bool) (tx : Word) : State :=
  (ttsIn 2 { win := some ⟨0, 1, 3, 0, 1000000, started⟩ } { canRun with busy := false } []).wr R.CAN_TXB tx 4 (32 * 3 + 3)

/-- The frame of cell 0 is on the bus. -/
def ttsCellOn : State := ttsIn 2 { cell := some 0 } { canRun with active := some 3 } []

theorem test_windows :
    (let t := after (exec (.ttsWindowStart 0) (ttsOpen 2 0 1))
     t.txSt 4 3 = 2 ∧ (t.ttsX 4).cell = some 0 ∧ (t.ttsX 4).begun = 1) ∧
    (let t := after (exec (.ttsWindowStart 0) (ttsOpen 3 1 0))
     t.txSt 4 31 = 2 ∧ t.txW 4 31 0 = 0x182 * 2 ^ 18 ∧ t.txW 4 31 4 = 600000) ∧
    (after (exec (.ttsWindowStart 0) (ttsOpen 1 0 1))).txSt 4 3 = 1 ∧
    (let t := after (exec (.ttsWindowEnd 0) (ttsPast false 1))
     outcome t 0 0 = 2 ∧ t.rd R.TTS_MISSED 0 = 1) ∧
    outcome (after (exec (.ttsWindowEnd 0) (ttsPast false 0))) 0 0 = 0 ∧
    outcome (after (exec (.transmitted 4 0) ttsCellOn)) 0 0 = 1 ∧
    outcome (after (exec (.busError 4 .transmitter none) ttsCellOn)) 0 0 = 3 := by decide +kernel

theorem test_witness_windows :
    ((ttsOpen 2 0 1).domOn 6 = true ∧ (ttsOpen 2 0 1).fb F.TTS_CTL_EN 0 = true ∧ ((ttsOpen 2 0 1).ttsX 4).seen = true ∧
      ((ttsOpen 2 0 1).ttsX 4).win = none ∧ 800000 + 100 * (ttsOpen 2 0 1).f F.TTS_START_V 0 0 ≤ (ttsOpen 2 0 1).elapsed ∧
      canMayStart (ttsOpen 2 0 1) 4 = true ∧ (∀ k < 32, ¬ txOld (ttsOpen 2 0 1) 4 k) ∧ (ttsOpen 2 0 1).txSt 4 30 ≠ 1 ∧
      ttsCell (ttsOpen 2 0 1) 4 0 0 = (1, 3) ∧ (ttsOpen 2 0 1).txSt 4 3 = 1 ∧ (ttsOpen 2 0 1).txTT 4 3 = true) ∧
    (ttsCell (ttsOpen 3 1 0) 4 0 1 = (3, 0) ∧ (ttsOpen 3 1 0).f F.TTS_STAT_STATE 0 = 3 ∧ (ttsOpen 3 1 0).txSt 4 31 ≠ 2) ∧
    ((ttsPast false 1).ttsX 4).win = some ⟨0, 1, 3, 0, 1000000, false⟩ ∧ (ttsPast false 1).txTT 4 3 = true ∧
    ((ttsCellOn.ttsX 4).cell = some 0 ∧ (ttsCellOn.canX 4).active = some 3 ∧ canListens ttsCellOn 4 = true) := by
  unfold txOld; decide +kernel

/-! ### The time base -/

/-- The PTP slave has heard one master, has a pair and knows the path delay; its rate is what `f_int` says. -/
def timIn (src : Nat) (p : PtpX) : State :=
  put { up with tim := { fint := 100, rate := 100, lastAt := some 0, ptp := p } } [(F.TIM_DISC_SRC, 0, src), (F.TIM_DISC_TC_S, 0, 10),
    (F.TIM_DISC_SLEW_MAX, 0, 100), (F.TIM_STEPTH_V, 0, 100), (F.TIM_DISC_STEP_EN, 0, 1), (F.NETH_CTL_EN, 0, 1), (F.TIM_SRCTO_V, 0, 1),
    (F.TIM_STAT_STATE, 0, 1)]

/-- A master that qualifies. -/
def clock : PtpMaster := ⟨77, [128, 6, 33, 0, 128, 77, 0, 77], 0, 1000000, some 0⟩

/-- A message of it, of time 1 ms and `ns`. -/
def ptp (seq ns : Nat) : PtpMsg := ⟨0, 0, 77, BitVec.ofNat 16 seq, 0, 0, BitVec.ofNat 32 (1000000 + ns), 0, 0⟩

theorem test_time_base :
    (after (exec .timNowLoRead (timIn 0 {}))).rd R.TIM_NOW_HI = 0 ∧
    (let t := after (exec (.timSrcWrite 2) (timIn 1 {}))
     t.f F.TIM_STAT_STATE = 1 ∧ t.tim.rate = 100) ∧
    (after (exec (.timSrcWrite 0) (timIn 1 {}))).f F.TIM_STAT_STATE = 0 ∧
    (after (exec .holdoverExpiry (timIn 1 {}))).f F.TIM_STAT_STATE = 3 ∧
    (after (step { up with tim := { rate := 1000000000 } })).tbNow = 1000010 ∧
    (after (step { up with tim := { rate := -1000000000 } })).tbNow = 1000000 := by decide +kernel

theorem test_ptp :
    (let t := after (exec (.ptpSync (ptp 1 1000) false) (timIn 1 { masters := [clock], delay := some 0 }))
     t.rd R.TIM_OFS = 1000 ∧ t.tim.rate = 200 + (1000 * (1 / 1000) / 400 : Rat) - 0 ∧ t.f F.TIM_STAT_STATE = 1) ∧
    (let t := after (exec (.ptpSync (ptp 1 200000) false) (timIn 1 { masters := [clock], delay := some 0 }))
     t.fb F.TIM_STAT_FAR = true ∧ t.tbNow = 1000000 ∧
      (let u := after (exec (.ptpSync (ptp 2 200000) false) (after (exec (.ptpSync (ptp 2 200000) false) t)))
       u.tbNow = 1200000 ∧ u.rd R.TIM_STEPS = 1 ∧ u.elapsed = 1000000)) ∧
    ((after (exec (.ptpSync (ptp 5 0) true) (timIn 1 { masters := [clock] }))).tim.ptp.wait = some (5, 77, 1000000, 0)) ∧
    ((after (exec (.ptpFollowUp (ptp 5 3)) (timIn 1 { masters := [clock], wait := some (5, 77, 1000000, 0) }))).tim.ptp.pair =
      some (1000003, 1000000)) ∧
    ((after (exec .ptpDelayReq (timIn 1 { masters := [clock], pair := some (0, 0) }))).tim.ptp.req = some (0, 1000000)) ∧
    (let t := after (exec (.ptpDelayResp (ptp 9 100)) (timIn 1 { masters := [clock], pair := some (1000, 1300), req := some (9, 1000000) }))
     t.tim.ptp.delay = some 200 ∧ t.rd R.TIM_PTPDLY = 200) ∧
    (let t := after (exec (.ptpSync { ptp 1 0 with interval := 5 } false) (timIn 1 { masters := [clock] }))
     t.tim.ptp.barred = [77] ∧ ptpBest t = none) ∧
    ((after (exec (.ptpAnnounce (ptp 1 0) ⟨128, 6, 33, 0, 128, 77, 0⟩) (timIn 1 { masters := [clock] }))).tim.ptp.masters.map (·.prevAt)) =
      [some 1000000] := by decide +kernel

theorem test_witness_ptp :
    ptpHears (timIn 1 { masters := [clock] }) (ptp 1 0) ∧ ptpBest (timIn 1 { masters := [clock] }) = some 77 ∧
    ¬ (-7 ≤ ({ ptp 1 0 with interval := 5 }).interval.toInt ∧ ({ ptp 1 0 with interval := 5 }).interval.toInt ≤ 4) ∧
    (⟨128, 6, 33, 0, 128, 77, 0⟩ : PtpData).steps.toNat < 255 ∧ (timIn 1 {}).f F.TIM_DISC_SRC ≠ 0 ∧
    (timIn 1 {}).f F.TIM_STAT_STATE ≠ 3 ∧ (timIn 1 {}).tim.quietAt + (timIn 1 {}).f F.TIM_SRCTO_V * 1000000 ≤ (timIn 1 {}).elapsed ∧
    (timIn 1 {}).domOn 0 = true := by
  unfold ptpHears; decide +kernel

/-- A SLAVE board whose channel is the source. -/
def ttsClock : State := put { ttsIn 2 { seen := true } canRun [] with tim := { lastAt := some 0 } } [(F.TIM_DISC_SRC, 0, 2), (F.TIM_STEPTH_V, 0, 100), (F.TTS_STAT_MRANK, 0, 1)]

theorem test_time_mark : (after (exec (.timeMark 0 1 500 0) (ttsClock.wr R.TTS_REFMARK_LO 400))).rd R.TIM_OFS = 100 := by
  decide +kernel

theorem test_witness_time_mark :
    ttsClock.domOn 6 = true ∧ ttsClock.fb F.TTS_CTL_EN 0 = true ∧ canListens ttsClock 4 = true ∧ (ttsClock.canX 4).mode ≠ 3 ∧
    (ttsClock.canX 4).active = none ∧
    (ttsClock.nat R.TTS_TMID 0 ^^^ ttsClock.nat R.TTS_REFID 0) &&& rankMask (ttsClock.rd R.TTS_REFID 0) ≠ 0 ∧
    ttsClock.f F.TTS_STAT_STATE 0 = 2 ∧ (ttsClock.ttsX 4).seen = true ∧ ttsClock.f F.TTS_STAT_MRANK 0 = 1 ∧ ttsClock.f F.TIM_DISC_SRC = 2 := by
  decide +kernel

/-! ### Columns -/

/-- Column 3 in a state on medium `m`, with its filter 2 and a receive book of 5 beads received, 5 freed and 2 returned. -/
def colIn (st m : Nat) (x : ColX) (l : List (Fld × Nat × Nat)) : State :=
  put { up with col := [(3, { x with book := true, rcvd := 5 })] } ([(F.COL_STATE_STATE, 3, st), (F.COL_STATE_FILTER, 3, 2),
    (F.COL_STATE_MEDIUM, 3, m), (F.COL_RXBK_FREED, 3, 5), (F.COL_RXBK_RETURNED, 3, 2), (F.COL_PROB_V, 0, 1), (F.COL_RECL_DRAIN_MS, 0, 1),
    (F.NETL_CRED_CRED_US, 0, 1)] ++ l)

theorem test_columns :
    (let t := after (exec (.colRetire 3) (colIn 2 0 {} []))
     t.f F.COL_STATE_STATE 3 = 4 ∧ t.f F.COL_STATE_RCAUSE 3 = 1 ∧ t.f F.COL_VFLAG_FLAGS 3 0 = flStale) ∧
    (after (exec (.colRetire 3) (colIn 4 0 {} []))).fb F.COL_GSTAT_REFUSED = true ∧
    (after (exec (.colClearHealth 3) (colIn 2 0 {} [(F.COL_HLTH_DUP, 3, 9)]))).rd R.COL_HLTH 3 = 0 ∧
    (after (exec (.colReturn 3 3) (colIn 2 0 {} []))).f F.COL_RXBK_RETURNED 3 = 5 ∧
    (after (exec (.colReturn 3 4) (colIn 2 0 {} []))).fb F.COL_GSTAT_REFUSED = true ∧
    (after (exec (.livenessExpiry 3) (colIn 2 0 { liveMs := 1 } []))).f F.COL_STATE_STATE 3 = 3 ∧
    (let t := after (exec (.probationExpiry 3) (colIn 1 0 {} []))
     t.rd R.COL_STATE 3 = 0 ∧ t.rd R.COL_NPROBFAIL = 1) ∧
    (after (exec (.columnFreed 3) (colIn 4 0 {} []))).rd R.COL_STATE 3 = 0 := by decide +kernel

/-- Column 3 on L0 owes credit; the mark of slot 0 is ahead or not. -/
def colOwes (ktx : Nat) : State :=
  { colIn 2 9 { freedAt := some 999000 } [] with sto := up.sto.putMark 0 ⟨0, ktx⟩ }

theorem test_credit_timer :
    (after (exec (.creditTimer 3) (colOwes 1))).f F.COL_RXBK_RETURNED 3 = 5 ∧
    ((after (exec (.creditTimer 3) (colOwes 0))).net.outQ.map (·.type)) = [0x21] := by decide +kernel

theorem test_witness_columns :
    (up.domOn 2 = true ∧ (colIn 2 0 {} []).f F.COL_STATE_STATE 3 = 2 ∧ (colIn 2 0 {} []).f F.COL_STATE_STATE 4 = 0 ∧
      ((colIn 2 0 {} []).colX 3).book = true) ∧
    (((colIn 2 0 { liveMs := 1 } []).colX 3).lastAt + ((colIn 2 0 { liveMs := 1 } []).colX 3).liveMs * 1000000 ≤ up.elapsed) ∧
    (((colIn 4 0 {} []).colX 3).rcvd % 65536 = (colIn 4 0 {} []).f F.COL_RXBK_FREED 3) ∧
    (((colOwes 1).colX 3).freedAt = some 999000 ∧ (colOwes 1).f F.COL_STATE_MEDIUM 3 = 9 ∧ (colOwes 1).net.outQ = [] ∧
      999000 + (colOwes 1).f F.NETL_CRED_CRED_US 0 * 1000 ≤ (colOwes 1).elapsed ∧
      (colOwes 1).rd64 R.KTX_LO R.KTX_HI 0 < ((colOwes 1).sto.mark 0).ktx) ∧
    ¬ (colOwes 0).rd64 R.KTX_LO R.KTX_HI 0 < ((colOwes 0).sto.mark 0).ktx := by decide +kernel

/-- Channel 2 with filter 7 for identifier 0x123, whose low byte is the partner's address: admission filter 2, one slot of
byte 1 with gain 3 and offset 10. -/
def colCan (c : Nat) (st : Nat) (x : ColX) (l : List (Fld × Nat × Nat)) : State :=
  let s := put { canIn 2 canRun [] with col := [(c, { x with chmask := 4, ash := 18, aw := 8 })] } ([(F.AF_CTL_EN, 2, 1), (F.AF_CTL_CHMASK, 2, 4),
    (F.AF_ID_ASH, 2, 18), (F.AF_ID_AW, 2, 8), (F.AF_ID_SEQOFF, 2, 0), (F.AF_LIVE_ADMIT_N, 2, 1), (F.COL_STATE_STATE, c, st),
    (F.COL_STATE_FILTER, c, 2), (F.COL_STATE_MEDIUM, c, 2)] ++ l)
  put2 ((s.wr R.AF_SOFS 10 2 0).wr R.COL_ADDR 0x23 c 0) [(F.AF_SLOT_W, 2, 0, 1), (F.AF_SLOT_OFF, 2, 0, 1), (F.AF_SGAIN_GAIN, 2, 0, 3)]

/-- Every Column is in use, Column 9 SILENT for longer than the reclaim time or not. -/
def colFull (old : Bool) : State :=
  let s := put { colCan 9 3 { silentAt := 0 } [(F.AF_ID_AW, 2, 11), (F.COL_RECL_COL_RECLAIM, 0, 0)] with elapsed := if old then 1000000 else 0 }
    [] |>.wr R.COL_ADDR 0x99 9 0
  { s with
    regs := s.regs.filter (·.1 < R.COL_STATE.addr 0) ++ (List.range 9).map (fun c => (R.COL_STATE.addr c, 2)) ++
      s.regs.filter (fun p => R.COL_STATE.addr 9 ≤ p.1 ∧ p.1 < R.COL_STATE.addr 10) ++
      (List.range 246).map (fun c => (R.COL_STATE.addr (10 + c), 2)) ++ s.regs.filter (R.COL_STATE.addr 256 ≤ ·.1) }

/-- The values frame 0x123 with bytes 0x11 and 0x22 gives: the state, RXSEQ and slot 0 of Column 3. -/
def partner (s : State) : List Nat :=
  let t := after (exec (.canFrameReceived 2 (frame 0x123)) s)
  [t.f F.COL_STATE_STATE 3, t.f F.COL_SEQ_RXSEQ 3, (t.rd R.COL_VAL 3 0).toNat, t.f F.COL_HLTH_DUP 3, t.f F.COL_HLTH_SEQGAP 3]

theorem test_can_partners :
    partner (colCan 3 2 { seqKnown := true } [(F.COL_SEQ_RXSEQ, 3, 0xF)]) = [2, 0x11, 112, 0, 1] ∧
    partner (colCan 3 2 { seqKnown := true } [(F.COL_SEQ_RXSEQ, 3, 0x11)]) = [2, 0x11, 0, 1, 0] ∧
    partner (colCan 3 1 { admitN := 2 } [(F.COL_STATE_PCOUNT, 3, 0)]) = [1, 0x11, 0, 0, 0] ∧
    partner (colCan 3 1 { admitN := 2 } [(F.COL_STATE_PCOUNT, 3, 1)]) = [2, 0x11, 112, 0, 0] ∧
    partner (colCan 3 3 { seqKnown := true } []) = [2, 0x11, 112, 0, 0x10] ∧ partner (colCan 3 4 {} []) = [4, 0, 0, 0, 0] := by
  decide +kernel

/-- R455: a frame of the step in which liveness expires comes first, so the expiry waits for it and does not stand. -/
theorem test_frame_before_expiry :
    let s := colCan 3 2 { seqKnown := true, liveMs := 1 } [(F.COL_LIVE_PERIOD_MS, 3, 1), (F.COL_LIVE_LIVE_K, 3, 1)]
    (after (exec (.livenessExpiry 3) { s with pending := [.canFrameReceived 2 (frame 0x123)] })).held = [.colExpiry coAdmitted 3] ∧
    (after (exec (.canFrameReceived 2 (frame 0x123)) { s with pending := [.colRetire 3] })).held = [.canFrame 2 (frame 0x123)] ∧
    (after (exec (.livenessExpiry 3) s)).f F.COL_STATE_STATE 3 = 3 ∧
    (after (exec (.livenessExpiry 3) (after (exec (.canFrameReceived 2 (frame 0x123)) s)))).f F.COL_STATE_STATE 3 = 2 := by
  decide +kernel

theorem test_can_newcomers :
    (let t := after (exec (.canFrameReceived 2 (frame 0x123)) (colCan 0 4 {} [(F.AF_ID_AW, 2, 11)] |>.wr R.COL_ADDR 0x99 0 0))
     t.f F.COL_STATE_STATE 1 = 2 ∧ t.f F.COL_STATE_FILTER 1 = 2 ∧ t.rd R.COL_ADDR 1 0 = 0x123 ∧ t.rd R.COL_VAL 1 0 = 112) ∧
    (let t := after (exec (.canFrameReceived 2 (frame 0x123)) (colFull true))
     t.f F.COL_STATE_STATE 9 = 4 ∧ t.f F.COL_STATE_RCAUSE 9 = 2 ∧ t.rd R.COL_NWAITED = 1) := by decide +kernel

theorem test_witness_can_partners :
    (canFilter (colCan 3 2 {} []) 2 (canHdr (frame 0x123)) = some 7 ∧ colOfCan (colCan 3 2 {} []) 2 (canHdr (frame 0x123)) = some 3 ∧
      canListens (colCan 3 2 {} []) 2 = true ∧ ((colCan 3 2 {} []).canX 2).active = none) ∧
    slotTakes (colCan 3 2 {} []) 2 0 [0x11, 0x22] ∧ ¬ slotTakes (colCan 3 2 {} []) 2 1 [0x11, 0x22] ∧
    slotValue (colCan 3 2 {} []) 2 0 [0x11, 0x22] = 112 ∧
    (colOfCan (colFull true) 2 (canHdr (frame 0x123)) = none ∧ afOfCan (colFull true) 2 (canHdr (frame 0x123)) = some 2 ∧
      (∀ c < 256, (colFull true).f F.COL_STATE_STATE c ≠ 0) ∧ (colFull true).f F.COL_STATE_STATE 9 = 3 ∧
      ((colFull true).colX 9).silentAt + (colFull true).f F.COL_RECL_COL_RECLAIM * 1000000000 < (colFull true).elapsed ∧
      (∀ b < 256, (colFull true).f F.COL_STATE_STATE b = 3 → b = 9)) := by
  unfold slotTakes; decide +kernel

/-! ### Tarbylink -/

/-- L0 and the host port up, key slot 0 VALID with every permission but those masked out, its mark at 1000, and Column 3 of
`peer` ADMITTED on L0, RXSEQ 0. -/
def linkIn (perm : Word) (x : ColX) (l : List (Fld × Nat × Nat)) : State :=
  regs (put { up with col := [(3, { x with seqKnown := true, book := true })],
                      net := { force := [(R.KPERM.addr 0, 0x7011F &&& perm)] }, sto := ({} : StoX).putMark 0 ⟨1000, 1000⟩ }
    ([(F.NETL_CTL_EN, 0, 1), (F.NETL_STAT_LINK, 0, 1), (F.NETL_IP4PFX_V, 0, 24), (F.NETH_CTL_EN, 0, 1), (F.NETH_STAT_LINK, 0, 1),
      (F.NETH_IP4PFX_V, 0, 24), (F.COL_STATE_STATE, 3, 2), (F.COL_STATE_MEDIUM, 3, 9), (F.COL_PORT_V, 3, 4660),
      (F.COL_LIVE_PERIOD_MS, 3, 10), (F.COL_LIVE_LIVE_K, 3, 3), (F.COL_RX_RX_LIMIT, 3, 16), (F.COL_TX_TX_LIMIT, 3, 16)] ++ l))
    [(R.COL_ADDR, 3, 0x0A000002), (R.NETL_IP4, 0, 0x0A000001)]

/-- The state with every permission. -/
def link : State := linkIn 0xFFFFFFFF {} []

/-- A frame of a type with its tag as slot 0's key has it. -/
def signed (s : State) (type : Nat) (f : TlFrame) : TlFrame :=
  { f with tag := ((hmac (keyBytes s (tlKey f)) (tlBytes type f.len.toNat f.keysel.toNat f.zero1.toNat f.replay.toNat f.seq.toNat
    f.credit.toNat f.zero2.toNat f.tstamp.toNat (natBytes f.payload))).take 16).map (BitVec.ofNat 8) }

theorem bytes_small (v n : Nat) : (∀ b ∈ beBytes v n, b < 256) ∧ (beBytes v n).length = n := by
  induction n with
  | zero => simp [beBytes]
  | succ n ih => simp only [beBytes, List.mem_cons, List.length_cons, ih]; grind

theorem rounds_length (l : List Nat) (v : ShaVars) :
    (l.foldl shaRound v).as.length = v.as.length + l.length ∧ (l.foldl shaRound v).es.length = v.es.length + l.length := by
  induction l generalizing v with
  | nil => exact ⟨rfl, rfl⟩
  | cons w l ih =>
    have h := ih (shaRound v w)
    simp only [shaRound, List.length_cons] at h
    rw [List.foldl_cons, List.length_cons]
    exact ⟨by rw [← shaRound] at h; omega, by rw [← shaRound] at h; omega⟩

theorem blocks_length (n : Nat) (h ws : List Nat) (h8 : h.length = 8) : (shaBlocks n h ws).length = 8 := by
  induction n generalizing h ws with
  | zero => exact h8
  | succ n ih =>
    refine ih _ _ ?_
    simp only [shaBlock, List.length_zipWith, List.length_append, List.length_take, rounds_length, List.length_drop, h8]
    omega

theorem init_length : shaInit.length = 8 := by decide +kernel

theorem hmac_small (k m : List Nat) : (∀ b ∈ hmac k m, b < 256) ∧ (hmac k m).length = 32 := by
  have h : ∀ m, (∀ b ∈ sha256 m, b < 256) ∧ (sha256 m).length = 32 := by
    intro m
    simp only [sha256, List.mem_flatMap, List.length_flatMap, bytes_small]
    refine ⟨fun b ⟨w, _, hb⟩ => (bytes_small w 4).1 b hb, ?_⟩
    simp [blocks_length _ _ _ init_length]
  exact h _

/-- A frame so tagged, with nothing else in its step, passes the checks of R482. -/
theorem heard_signed (s : State) (type : Nat) (f : TlFrame)
    (h : s.pending = [] ∧ s.held = [] ∧ (s.portUp (portCode f.port) = true ∧ portTakes s (portCode f.port) f.src) ∧
      (tlPortOk s f = true ∧ s.net.inQ = [] ∧ f.replay.toNat ≤ (s.sto.mark (tlKey f)).krxhw ∧
      s.rd64 R.KRXHW_LO R.KRXHW_HI (tlKey f) < f.replay.toNat) ∧ f.magic = 0x4C54 ∧ f.version = 1 ∧ f.len.toNat ≤ 1088 ∧
      f.len.toNat = f.payload.length ∧ f.keysel.toNat < 8 ∧ f.zero1 = 0 ∧ f.zero2 = 0) : heard s type (signed s type f) := by
  obtain ⟨h0, k0, ⟨h1, h2⟩, ⟨h3, h4, h5, h6⟩, a, b, c, d, e, g, i⟩ := h
  refine ⟨(test_nothing_ahead s h0 k0 (.credit f)).2.2.2.2.2, h1, h2, ⟨⟨a, b, c, d, e, g, i, ?_⟩, h3, ?_⟩, by simp [h4], h5, h6⟩
  · simp [signed, hmac_small]
  · have : ∀ l : List Nat, (∀ b ∈ l, b < 256) → natBytes (l.map (BitVec.ofNat 8)) = l := by
      intro l hl
      simp only [natBytes, List.map_map]
      conv_rhs => rw [← List.map_id l]
      exact List.map_congr_left fun b hb => by simp [Nat.mod_eq_of_lt (hl b hb)]
    simp only [tlTagOk, signed, beq_iff_eq]
    rw [this _ fun b hb => (hmac_small _ _).1 b (List.mem_of_mem_take hb)]
    rfl

/-- A CREDIT frame, good and with a wrong tag. -/
def creditFrame (replay : Nat) : TlFrame := signed link 0x21 (tl .l0 replay [])

theorem test_link_checks :
    (let t := after (exec (.credit (creditFrame 1)) link)
     t.rd64 R.KRXHW_LO R.KRXHW_HI 0 = 1 ∧ t.rd R.NETL_RXFRM 0 = 1 ∧ t.sys.hostAt = 1000000 ∧ t.f F.COL_SEQ_RXSEQ 3 = 1) ∧
    (let t := after (exec (.credit (tl .l0 1 [])) link)
     t.rd R.NETL_AUTHFAIL 0 = 1 ∧ t.f F.COL_HLTH_AUTHFAIL 3 = 1 ∧ t.rd64 R.KRXHW_LO R.KRXHW_HI 0 = 0) ∧
    (tlPass (tlPass link 0x21 1000000 (tl .l0 1 [])) 0x21 1000000 (tl .l0 1 [])).rd R.NETL_AUTHFAIL 0 = 1 ∧
    (after (exec (.credit { tl .l0 1 [] with src := { peer with vlan := some 5 } }) (put link [(F.NETL_CTL_VLANEN, 0, 1)]))).rd R.NETL_RXDROP 0 = 1 ∧
    (let t := after (exec (.replayMarkWritten 0 false) { link with net := { link.net with inQ := [⟨0x21, 999000, tl .l0 1001 []⟩] } })
     t.rd64 R.KRXHW_LO R.KRXHW_HI 0 = 1001 ∧ (t.sto.mark 0).krxhw = 66536 ∧ t.net.rxTb = 999000) := by decide +kernel

/-- A frame to Column 3 waits for the mark. -/
def linkWaits : State := { link with net := { link.net with outQ := [colFrame link 3 0x21 []] }, sto := {} }

theorem test_mark_releases :
    (let t := after (exec (.replayMarkWritten 0 true) linkWaits)
     t.sent.map (·.port) = [9] ∧ t.net.outQ = [] ∧ (t.sto.mark 0).ktx = 65536) := by decide +kernel

theorem test_witness_link_checks :
    (tlMessageOf (creditFrame 1) (.credit (creditFrame 1), 0x21) ∧ heard link 0x21 (creditFrame 1)) ∧
    (up.portUp 9 = false ∧ ¬ portTakes (put link [(F.NETL_CTL_VLANEN, 0, 1)]) 9 { peer with vlan := some 5 } ∧
      tlHeaderOk { tl .l0 1 [] with version := 2 } = false) ∧
    (heard { link with sto := ({} : StoX).putMark 0 ⟨1001, 1000⟩ } 0x21
        (signed { link with sto := ({} : StoX).putMark 0 ⟨1001, 1000⟩ } 0x21 (tl .l0 1001 [])) ∧
      (link.sto.mark 0).krxhw < (creditFrame 1001).replay.toNat) ∧
    (linkWaits.f F.COL_STATE_STATE 3 ≠ 0 ∧ linkWaits.f F.COL_STATE_KEYSEL 3 = 0 ∧ linkWaits.net.outQ = [colFrame linkWaits 3 0x21 []] ∧
      (linkWaits.sto.mark 0).ktx = linkWaits.rd64 R.KTX_LO R.KTX_HI 0) := by
  refine ⟨⟨?_, heard_signed _ _ _ ?_⟩, ?_, ⟨heard_signed _ _ _ ?_, ?_⟩, ?_⟩
  · unfold tlMessageOf; decide +kernel
  all_goals first | decide +kernel | (unfold portTakes; decide +kernel)

/-- A frame of Column 3 so tagged is handled. -/
theorem from_signed (s : State) (type : Nat) (f : TlFrame)
    (h : s.pending = [] ∧ s.held = [] ∧ (s.portUp (portCode f.port) = true ∧ portTakes s (portCode f.port) f.src) ∧
      (tlPortOk s f = true ∧ s.net.inQ = [] ∧ f.replay.toNat ≤ (s.sto.mark (tlKey f)).krxhw ∧
      s.rd64 R.KRXHW_LO R.KRXHW_HI (tlKey f) < f.replay.toNat) ∧ f.magic = 0x4C54 ∧ f.version = 1 ∧ f.len.toNat ≤ 1088 ∧
      f.len.toNat = f.payload.length ∧ f.keysel.toNat < 8 ∧ f.zero1 = 0 ∧ f.zero2 = 0)
    (h2 : s.mode ≠ 7 ∧ colOfTl s f = some 3 ∧ s.f F.COL_STATE_STATE 3 = 2 ∧ (s.colX 3).seqKnown = true ∧
      0 < (f.seq.toNat + 65536 - s.f F.COL_SEQ_RXSEQ 3) % 65536 ∧ (f.seq.toNat + 65536 - s.f F.COL_SEQ_RXSEQ 3) % 65536 < 32768) :
    fromColumn s type (signed s type f) 3 := ⟨heard_signed s type f h, h2⟩

/-- What a message of Column 3 does that has passed R482. -/
def told (s : State) (type : Nat) (payload : List (BitVec 8)) : State := tlMessage s type (tl .l0 1 payload)

/-- Ring 12, of L0, enabled at 0x8000. -/
def linkRing (perm : Word) (l : List (Fld × Nat × Nat)) : State :=
  regs (linkIn perm {} l) [(R.CRG_BASE, 12, 0x8000), (R.CRG_CFG, 12, 1), (R.CRG_TALLY, 12, 16)]

/-- Column 3 is FREE, and filter 5 takes the HELLO of `peer`. -/
def linkNew (size : Nat) : State :=
  regs (put (linkRing 0xFFFFFFFF []) [(F.COL_STATE_STATE, 3, 0), (F.AF_CTL_EN, 5, 1), (F.AF_CTL_MEDIUM, 5, 9), (F.AF_LIVE_ADMIT_N, 5, 1),
    (F.AF_LIM_RX_LIMIT, 5, size), (F.COL_STATE_STATE, 7, 2), (F.COL_STATE_MEDIUM, 7, 10)]) [(R.AF_MATCH, 5, 0x0A000002), (R.AF_MASK, 5, 0xFFFFFFFF)]

theorem test_link_messages :
    (let t := told link 0x40 [2, 1, 0, 0, 5, 0, 0, 0]
     t.rd R.COL_VAL 3 2 = 5 ∧ t.f F.COL_VFLAG_FLAGS 3 2 = 1) ∧
    (let t := told (linkRing 0xFFFFFFFF []) 0x20 (List.replicate 16 9)
     t.rd R.CRG_COUNT 12 = 2 ∧ (t.colX 3).rcvd = 2) ∧
    (let t := told (linkRing 0xFFFFFFFF [(F.COL_RX_RX_LIMIT, 3, 1)]) 0x20 (List.replicate 16 9)
     t.rd R.NETL_RXDROP 0 = 1 ∧ t.f F.COL_HLTH_CREDVIOL 3 = 1 ∧ t.rd R.CRG_COUNT 12 = 0) ∧
    (told (linkRing 0xFFFFFFFB []) 0x20 (List.replicate 16 9)).rd R.NETL_RXDROP 0 = 1 ∧
    (told link 0x03 []).f F.COL_STATE_STATE 3 = 4 ∧
    ((told link 0x50 [1, 2, 3, 4]).sent.map (fun e => (e.port, (e.data.drop 32).take 8))) = [(9, [1, 2, 3, 4, 2, 0, 0, 0])] ∧
    ((told link 0x01 []).sent.map (fun e => (e.data.drop 32).take 4)) = [[3, 0, 0, 0]] := by decide +kernel

theorem test_newcomers :
    (let t := told (linkNew 16) 0x01 []
     t.f F.COL_STATE_STATE 0 = 2 ∧ t.f F.COL_STATE_FILTER 0 = 5 ∧ t.f F.COL_STATE_MEDIUM 0 = 9 ∧ t.f F.COL_STATE_STATE 7 = 4 ∧
      t.f F.COL_STATE_RCAUSE 7 = 3) ∧
    (told (linkNew 17) 0x01 []).rd R.COL_NOSPACE = 1 := by decide +kernel

theorem test_witness_link_messages :
    (fromColumn link 0x21 (signed link 0x21 (tl .l0 1 [])) 3 ∧ fromColumn link 0x40 (signed link 0x40 (tl .l0 1 [2, 1, 0, 0, 5, 0, 0, 0])) 3 ∧
      fromColumn link 0x50 (signed link 0x50 (tl .l0 1 [1, 2, 3, 4])) 3) ∧
    (fromColumn (linkRing 0xFFFFFFFF []) 0x20 (signed (linkRing 0xFFFFFFFF []) 0x20 (tl .l0 1 (List.replicate 16 9))) 3 ∧
      tlMay (linkRing 0xFFFFFFFF []) (tl .l0 1 []) 2 = true ∧ (linkRing 0xFFFFFFFF []).ringOn 12 = true ∧
      ((linkRing 0xFFFFFFFF []).ring 12).closing = false ∧ tlMay (linkRing 0xFFFFFFFB []) (tl .l0 1 []) 2 = false) ∧
    (heard (linkNew 16) 0x01 (signed (linkNew 16) 0x01 (tl .l0 1 [])) ∧ colOfTl (linkNew 16) (tl .l0 1 []) = none ∧
      afOfTl (linkNew 16) (tl .l0 1 []) = some 5 ∧ (linkNew 16).f F.COL_STATE_STATE 0 = 0) ∧
    (tlMay link (tl .l0 1 []) 4 = true ∧ keyClear link 0) := by
  refine ⟨⟨from_signed _ _ _ ?_ ?_, from_signed _ _ _ ?_ ?_, from_signed _ _ _ ?_ ?_⟩, ⟨from_signed _ _ _ ?_ ?_, ?_⟩,
    ⟨heard_signed _ _ _ ?_, ?_⟩, ?_⟩
  all_goals first | decide +kernel | (unfold portTakes; decide +kernel) | (unfold keyClear; decide +kernel)

/-- Words of a payload. -/
def words (l : List Nat) : List (BitVec 8) := (l.flatMap fun w => leBytes w 4).map (BitVec.ofNat 8)

/-- The payload of the one frame sent, up to `n` bytes. -/
def answered (n : Nat) (t : State) : List Nat := ((t.sent.flatMap (·.data)).drop 32).take n

theorem test_link_accesses :
    answered 28 (told link 0x10 (words [7, 0x2000, 0x10000F00, 0x2001])) =
      [7, 0, 0, 0] ++ [0, 0, 0, 0, 0, 0, 0, 0] ++ [0, 0, 0, 0, 0, 0, 0, 0] ++ [0, 0, 0, 0, 1, 0, 0, 0] ∧
    (let t := told link 0x12 (words [7, 0x2000, 0x55, 0x2001, 1])
     cellsRead t.frame 0x2000 4 = 0x55 ∧ answered 12 t = [7, 0, 0, 0] ++ [0, 0, 0, 0] ++ [1, 0, 0, 0]) ∧
    answered 12 (told (linkIn 0xFFFFFFFE {} []) 0x10 (words [7, 0x2000])) = [7, 0, 0, 0] ++ [0, 0, 0, 0, 4, 0, 0, 0] := by
  decide +kernel

/-- Column 3 has a load of 24 bytes open. -/
def linkLoad : State := { link with sto := { link.sto with load := some ⟨3, 24⟩ } }

theorem test_link_loads :
    (let t := told link 0x30 (words [7, 24])
     t.sto.load = some ⟨3, 24⟩ ∧ answered 8 t = [7, 0, 0, 0] ++ [0, 0, 0, 0]) ∧
    answered 8 (told link 0x30 (words [7, 0x400001])) = [7, 0, 0, 0] ++ [3, 0, 0, 0] ∧
    answered 8 (told { link with sto := { link.sto with load := some ⟨4, 24⟩ } } 0x30 (words [7, 24])) = [7, 0, 0, 0] ++ [1, 0, 0, 0] ∧
    (let t := told linkLoad 0x31 (words [7, 0, 1, 2, 3, 4])
     answered 8 t = [7, 0, 0, 0] ++ [0, 0, 0, 0] ∧ cellsGet (t.sto.bank t.sto.targetB).cells 4 = 2) ∧
    answered 8 (told linkLoad 0x31 (words [7, 16, 1, 2, 3, 4])) = [7, 0, 0, 0] ++ [3, 0, 0, 0] ∧
    (let t := told linkLoad 0x32 (words [7, 0])
     answered 8 t = [7, 0, 0, 0] ++ [3, 0, 0, 0] ∧ t.sto.load = none) ∧
    answered 8 (told (linkIn 0xFFFFFFF7 {} []) 0x30 (words [7, 24])) = [7, 0, 0, 0] ++ [2, 0, 0, 0] := by decide +kernel

theorem test_witness_link_accesses :
    (fromColumn link 0x10 (signed link 0x10 (tl .l0 1 (words [7, 0x2000, 0x10000F00, 0x2001]))) 3 ∧
      fromColumn linkLoad 0x31 (signed linkLoad 0x31 (tl .l0 1 (words [7, 0, 1, 2, 3, 4]))) 3) ∧
    ([0, 1, 3].all (fun n => tlMay link (tl .l0 1 []) n) = true ∧ tlMay (linkIn 0xFFFFFFF4 {} []) (tl .l0 1 []) 0 = false ∧
      tlMay (linkIn 0xFFFFFFF4 {} []) (tl .l0 1 []) 3 = false) ∧
    (linkLoad.sto.load = some ⟨3, 24⟩ ∧ Memory.wf (linkLoad.sto.bank linkLoad.sto.targetB).cells = true) ∧
    (up.inRing 0x2000 4 = false ∧ tabFind up.beadErr 0x200 = none ∧
      tabFind ({ up with beadErr := [(0x200, .poisoned)] } : State).beadErr 0x200 = some .poisoned) := by
  refine ⟨⟨from_signed _ _ _ ?_ ?_, from_signed _ _ _ ?_ ?_⟩, ?_⟩
  all_goals first | decide +kernel | (unfold portTakes; decide +kernel)

theorem test_ports :
    ((after (exec (.arpRequest .l0 peer 0x0A000001) link)).sent.map (·.what)) = ["ARP_REPLY"] ∧
    (after (exec (.arpRequest .l0 peer 0x0A000002) link)).rd R.NETL_RXDROP 0 = 1 ∧
    ((after (exec (.neighbourSolicitation .l0 peer (BitVec.ofNat 128 (linkLocal link 9))) link)).sent.map (·.what)) = ["NEIGHBOUR_ADVERTISEMENT"] ∧
    ((after (exec (.echoRequest .l0 peer [1, 2]) link)).sent.map (·.data)) = [[1, 2]] ∧
    (after (exec (.netFrameDropped .l0 none) link)).rd R.NETL_RXDROP 0 = 1 ∧
    (after (exec (.linkChange .l0 false) link)).f F.NETL_STAT_LINK 0 = 0 ∧
    ((tabGet {} (after (exec .linkSpeedTry { put link [(F.NETH_STAT_LINK, 0, 0), (F.NETH_CTL_SPEED, 0, 0)] with elapsed := 2000000000 })).net.ports 8 : PortX).speed) ≠ 0 := by
  decide +kernel

/-- CR14 holds a record of one bead for Column 3, or a bead without the mark, two beads committed. -/
def linkSend (h : Nat) (l : List (Fld × Nat × Nat)) : State :=
  regs { linkIn 0xFFFFFFFF {} l with frame := cellsWrite [] 0x8000 4 h } [(R.CRG_BASE, 14, 0x8000), (R.CRG_CFG, 14, 1), (R.CRG_COUNT, 14, 2),
    (R.CRG_TALLY, 14, 14)]

theorem test_records :
    (let t := after (exec (.hostTxRecord false) (linkSend 0xD5000103 []))
     t.sent.map (·.port) = [9] ∧ t.rd R.CRG_COUNT 14 = 0 ∧ t.f F.COL_TXBK_SENT 3 = 2) ∧
    (after (exec (.hostTxRecord false) (linkSend 0xD5000103 [(F.COL_TX_TX_LIMIT, 3, 1)]))).rd R.CRG_COUNT 14 = 2 ∧
    (after (exec (.hostTxRecord false) (linkSend 0x55000103 []))).rd R.CRG_COUNT 14 = 1 := by decide +kernel

theorem test_witness_ports :
    (heard link 0x02 (signed link 0x02 (tl .l0 1 [])) ∧ tlLenOk 0x02 0 = false) ∧
    (link.portUp 9 = true ∧ portTakes link 9 peer ∧ portTakes link 9 { peer with v6 := true } ∧ link.mode ≠ 7 ∧
      link.netRd 9 R.NETH_IP4 R.NETL_IP4 = 0x0A000001) ∧
    (link.portOn 9 = true ∧ link.netF 9 F.NETH_STAT_LINK F.NETL_STAT_LINK = 1) ∧
    ((linkSend 0xD5000103 []).ringOn 14 = true ∧ ((linkSend 0xD5000103 []).ring 14).voids = [] ∧ ((linkSend 0xD5000103 []).ring 14).tags = [] ∧
      (linkSend 0xD5000103 []).beadErr = [] ∧ (linkSend 0xD5000103 []).rd R.CRG_COUNT 14 ≠ 0 ∧
      lane ((linkSend 0xD5000103 []).frameBead ((linkSend 0xD5000103 []).slotAddr 14 0)) 0 = 0xD5000103 ∧
      colTally (linkSend 0xD5000103 []) 3 = 16) := by
  refine ⟨⟨heard_signed _ _ _ ?_, ?_⟩, ?_, ?_⟩
  all_goals first | decide +kernel | (unfold portTakes; decide +kernel)

/-! ### Store and health -/

/-- Bank A valid with SEQ 5, the page of the first stored field in the working copy dirty for bank B. -/
def sto (f : StoX → StoX) : State :=
  { up with sto := f { bankA := bankOf [(0x5C0000, 9)] 5, work := [(0x5C0000, 8)], dirtyB := { pages := [1472] } } }

/-- A main commit of page 1472 to bank B runs. -/
def committing (load : Option LoadReq) : State :=
  sto fun x => { x with
    commit := some { key := false, bankB := true, start := 500000, content := [(0x5C0000, 8)], load := load, pages := [1472] } }

/-- A key commit runs. -/
def keying : State := sto fun x => { x with commit := some { key := true, bankB := false, start := 0, keys := [(0x60000800, 7)] } }

theorem test_store :
    (let t := after (exec .stoCommit (sto id))
     t.fb F.STO_STAT_BUSY = true ∧ t.sto.commit.map (fun c => (c.bankB, c.pages)) = some (true, [1472])) ∧
    (after (exec .stoCommit (committing none))).fb F.STO_STAT_REFUSED = true ∧
    (let t := after (exec (.commitEnd [1472]) (committing none))
     t.f F.STO_LAST_RESULT = 1 ∧ t.rd R.STO_LASTUS = 500 ∧ t.sto.bankB = bankOf [(0x5C0000, 8)] 6) ∧
    (let t := after (exec (.commitEnd [1472, 1472]) (committing none))
     t.f F.STO_LAST_RESULT = 4 ∧ t.sto.bankB = {} ∧ t.sto.dirtyB.has 3 = true) ∧
    (after (exec (.commitEnd []) keying)).sto.keyA = ⟨[(0x60000800, 7)], Trailer.of 1 (keyCrc [(0x60000800, 7)])⟩ ∧
    (after (exec .stoLogw { up with logQueue := List.replicate 64 ⟨1, 0, []⟩ })).rd R.STO_LOGLOST = 1 ∧
    (let t := after (exec .logRecordWritten { up with logQueue := [⟨3, 7, []⟩] })
     t.rd R.STO_LOGHEAD = up.rd R.STO_LOGHEAD + 1 ∧ tabFind t.sto.log (up.nat R.STO_LOGHEAD + 1) = some ⟨⟨3, 7, []⟩, logCrc (up.nat R.STO_LOGHEAD + 1) ⟨3, 7, []⟩⟩) ∧
    (let t := after (exec (.stoUdataAccess (some 0x01020304)) (put up [(F.STO_UADDR_V, 0, 258044)]))
     t.f F.STO_UADDR_V = 0 ∧ t.sto.work = [(0x5FEFFC, 4), (0x5FEFFD, 3), (0x5FEFFE, 2), (0x5FEFFF, 1)]) := by decide +kernel

theorem test_witness_store :
    (up.domOn 0 = true ∧ (sto id).sto.commit = none ∧ (sto id).sto.load = none ∧ (committing none).sto.commit ≠ none) ∧
    ((committing none).sto.commit = some { key := false, bankB := true, start := 500000, content := [(0x5C0000, 8)], pages := [1472] } ∧
      (committing none).sys.exiting = false ∧ (committing none).sys.exitRun = false ∧ writesHold [1472] [1472] ∧
      ¬ writesHold [1472] [1472, 1472] ∧ Memory.wf [((0x5C0000 : Nat), (8 : BitVec 8))] = true ∧
      (newestBank (committing none).sto).isSome = true) ∧
    (keying.sto.commit.map (·.key) = some true ∧ writesHold [] []) ∧
    (up.logQueue.length < 64 ∧ Memory.wf up.sto.work = true) := by unfold writesHold; decide +kernel

/-- The same commit answers the LOAD_COMMIT of Column 3. -/
def loadCommitting (activate : Bool) : State :=
  { link with sto := { (committing (some ⟨3, 7, activate⟩)).sto with marks := link.sto.marks } }

theorem test_load_commit :
    answered 8 (after (exec (.commitEnd []) (loadCommitting false))) = [7, 0, 0, 0, 0, 0, 0, 0] ∧
    answered 8 (after (exec (.commitEnd [1472, 1472]) (loadCommitting true))) = [7, 0, 0, 0, 4, 0, 0, 0] ∧
    answered 8 (after (exec (.commitEnd []) (put (loadCommitting true) [(F.SYS_MODE_MODE, 0, 5)]))) = [7, 0, 0, 0, 5, 0, 0, 0] := by
  decide +kernel

/-- The same while Rod 1 runs. -/
def loadRunning : State := put (loadCommitting true) [(F.FRM_RSTAT_STATE, 1, 1)]

theorem test_activation :
    (let t := after (exec (.commitEnd []) loadRunning)
     t.sto.activate = some ⟨⟨3, 7, true⟩, [1]⟩ ∧ t.fb F.FRM_RCTL_STOP 1 = true ∧ t.rodSt 1 = rodRunning ∧ t.sent = []) ∧
    (after (exec (.commitEnd []) (loadCommitting true))).sto.activate = none := by decide +kernel

theorem test_witness_activation :
    rodsLive loadRunning = [1] ∧ loadRunning.mode = 2 ∧ (loadRunning.rod 1).stopAt = none ∧ rodsLive (loadCommitting true) = [] ∧
    (loadCommitting true).fb F.SYS_MODE_PEND = false := by decide +kernel

theorem test_witness_load_commit :
    (loadCommitting true).sto.commit.map (·.load) = some (some ⟨3, 7, true⟩) ∧ (loadCommitting true).colSt 3 = 2 ∧
      keyClear (loadCommitting true) ((loadCommitting true).f F.COL_STATE_KEYSEL 3) := by unfold keyClear; decide +kernel

/-- A bead with a single error, and bead 4096 of section 1 with a double error; nothing else. -/
def scrub : State := { up with beadErr := [(3, .single), (4096, .double)], elapsed := 100000000000 }

/-- Temperatures, humidity and supplies. -/
def sensors (t : Int) (humid : Nat) : Sensors := ⟨[250, t, 250, 250, 250, 250, 250, 250, 250, 250, 250, 250], BitVec.ofNat 16 humid, 12000, 900⟩

/-- At a sensor grid instant, with the limits of 80 % and 90 %. -/
def sensing (l : List (Fld × Nat × Nat)) : State :=
  put { up with tbNow := 100000000 } ([(F.HLT_HUMLIM_HUM_WARN, 0, 800), (F.HLT_HUMLIM_HUM_CRIT, 0, 900)] ++ l)

theorem test_health :
    (let t := after (exec (.scrubPass [] 2) (put scrub [(F.HLT_SCRUB_SECT_TH, 0, 2)]))
     t.beadErr = [(4096, .poisoned)] ∧ t.rd R.HLT_CORR = 3 ∧ t.rd R.HLT_POISON = 1 ∧ (tabFind t.sto.secCopy 1).isSome = true ∧
      tabFind t.sto.secCopy 0 = none) ∧
    (after (exec (.sectionRemapDone 1) { up with sto := { up.sto with secCopy := [(1, (2, 0))] } })).sto.umap.sections = [(1, 2)] ∧
    (after (exec (.spareSelfTest [] true) up)).sto.umap.matrix = [4] ∧
    (after (exec .hltMapclr (inMode 1))).sto.mapClr = true ∧ (after (exec .hltMapclr up)).fb F.HLT_STAT_REFUSED = true ∧
    (let t := after (exec (.sensorRead (sensors 300 500)) (sensing []))
     t.rd R.HLT_TEMP 1 = 300 ∧ t.f F.HLT_TMAX_SENSOR = 1 ∧ t.mode = 2 ∧ t.fb F.HLT_STAT_WARN = false) ∧
    (after (exec (.sensorRead (sensors 1350 500)) (sensing []))).mode = 6 ∧
    (after (exec (.sensorRead (sensors 1349 500)) (sensing []))).mode = 2 ∧
    ((after (exec (.coreSupplyCritical 854) up)).mode, (after (exec (.coreSupplyCritical 855) up)).mode) = (6, 2) ∧
    (after (exec (.coreSupplyCleared 873) (put up [(F.HLT_STAT_SUPPLY, 0, 1), (F.HLT_STAT_CRIT, 0, 1), (F.SYS_STAT_CRIT, 0, 1)]))).fb F.SYS_STAT_CRIT = false := by
  decide +kernel

theorem test_witness_health :
    (up.domOn 2 = true ∧ up.domOn 3 = true ∧ (scrub.beadErr.map Prod.fst).Nodup ∧ scrub.ringOn 19 = false ∧
      scrub.hlt.scrubAt + scrub.f F.HLT_SCRUB_SCRUB_S * 1000000000 ≤ scrub.elapsed ∧ 0 < spareSections scrub) ∧
    (spareRods up ≠ [] ∧ up.sto.umap.matrix = [] ∧ up.hlt.testAt = none) ∧
    ((sensing []).tbNow % 100000000 = 0 ∧ (sensing []).hlt.readTb = none ∧ (sensors 300 500).temp.length = 12 ∧
      ((sensors 300 500).temp.all (fun t => decide (t.toInt < 1200))) = true) ∧
    (up.fb F.HLT_STAT_CRIT = false ∧ up.fb F.SYS_STAT_CRIT = false ∧ up.fb F.HLT_STAT_SUPPLY = false) := by decide +kernel

/-! ### Modes, domains and resets -/

/-- Mode, target of a pending change, and whether the command was refused. -/
def modeOf (t : State) : List Nat := [t.mode, if t.fb F.SYS_MODE_PEND then t.f F.SYS_MODE_TARGET else 0, t.f F.SYS_STAT_REFUSED]

/-- In Ready with load switch 4 and solenoid 3 on, the first held through Hold. -/
def switching : State :=
  put up [(F.SYS_RHT_LSW_V, 0, 0x10), (F.LSW_CTL_EN, 4, 1), (F.LSW_STAT_ON, 4, 1), (F.LSW_STAT_CMD, 4, 1), (F.SOL_CTL_EN, 3, 1),
    (F.SOL_STAT_ON, 3, 1), (F.SOL_STAT_PHASE, 3, 2), (F.FAN_HTO_HOST_TIMEOUT, 0, 1)]

/-- In Commission, the working copy valid in bank A or not. -/
def commissioning (valid dirty : Bool) : State :=
  { inMode 1 with sto := { bankA := if valid then bankOf [] 1 else {}, keyDirty := dirty } }

theorem test_mode_commands :
    modeOf (after (exec (.sysCmdBatch (.rod 2)) up)) = [3, 0, 0] ∧ modeOf (after (exec (.sysCmdReady (.rod 2)) (inMode 3))) = [2, 0, 0] ∧
    modeOf (after (exec (.sysCmdReady (.rod 2)) (inMode 6))) = [6, 0, 1] ∧ modeOf (after (exec (.sysCmdReady .host) (inMode 6))) = [2, 0, 0] ∧
    modeOf (after (exec (.sysCmdFlow .host) (put up [(F.SYS_STAT_CRIT, 0, 1)]))) = [2, 0, 1] ∧
    modeOf (after (exec (.sysCmdStore .host) (inMode 4))) = [4, 0, 1] ∧ modeOf (after (exec (.sysCmdStore .host) (inMode 5))) = [5, 0, 0] ∧
    (let t := after (exec (.sysCmdBatch .host) (up.setPd 4 0))
     modeOf t = [2, 3, 0] ∧ t.pd 4 = 1 ∧ modeOf (after (exec (.domainOn 4 ⟨[], [], []⟩) t)) = [3, 0, 0]) ∧
    modeOf (after (exec (.sysCmdDormant .host) up)) = [2, 0, 1] ∧
    modeOf (after (exec (.sysCmdDormant .host) (put up [(F.SYS_WAKE_PIN_EN, 0, 1)]))) = [2, 7, 0] := by decide +kernel

theorem test_hold :
    (let t := after (exec (.sysCmdHold (.rod 2)) switching)
     t.mode = 6 ∧ t.f F.SYS_MODE_HCAUSE = 4 ∧ t.fb F.LSW_STAT_ON 4 = true ∧ t.rd R.SYS_HELD = 0x10 ∧ t.fb F.SOL_STAT_ON 3 = false) ∧
    (after (exec (.sysCmdHold .host) (inMode 1))).fb F.SYS_STAT_REFUSED = true ∧
    (after (exec .hostLoss { put switching [(F.SYS_SAFECFG_HOSTLOSS, 0, 1)] with elapsed := 2000000000 })).f F.SYS_MODE_HCAUSE = 1 := by
  decide +kernel

/-- A host loss that waits behind the command in its step comes first. -/
theorem test_hold_comes_first :
    (let s := { put switching [(F.SYS_SAFECFG_HOSTLOSS, 0, 1)] with elapsed := 2000000000, pending := [.hostLoss] }
     modeOf (after (exec (.sysCmdBatch .host) s)) = [6, 0, 1] ∧ modeOf (after (exec (.sysCmdHold .host) s)) = [6, 0, 0]) := by
  decide +kernel

theorem test_commission_exit :
    (let t := after (exec (.sysCmdReady .host) (commissioning true true))
     t.mode = 1 ∧ t.sto.commit.map (·.key) = some true ∧ t.sys.exiting = true) ∧
    (let t := after (exec (.sysCmdReady .host) (commissioning true false))
     t.sto.commit = none ∧ (after (exec .commissionExit t)).mode = 2) ∧
    ((after (exec (.sysCmdReady .host) (commissioning false false))).sto.commit.map (·.key)) = some false ∧
    (after (exec (.sysCmdReady .host) { commissioning true false with sys := { up.sys with commission := true } })).fb F.SYS_STAT_REFUSED = true := by
  decide +kernel

theorem test_witness_modes :
    (up.domOn 0 = true ∧ (∀ n ∈ pdNeeds 3, up.domOn n = true) ∧ ¬ (∀ n ∈ pdNeeds 3, (up.setPd 4 0).domOn n = true) ∧
      up.fb F.SYS_MODE_PEND = false ∧ (put up [(F.SYS_MODE_PEND, 0, 1)]).fb F.SYS_MODE_PEND = true) ∧
    (dormantOk up = false ∧ dormantOk (put up [(F.SYS_WAKE_PIN_EN, 0, 1)]) = true) ∧
    (let s := { put switching [(F.SYS_SAFECFG_HOSTLOSS, 0, 1)] with elapsed := 2000000000 }
     hostLate s = true ∧ maskBit (s.rd R.SYS_SAFECFG) 28 = true ∧ hostComes s = false ∧ hostLossNow s = true ∧
       Instr.hostLoss ∈ ({ s with pending := [.hostLoss] } : State).pending ∧
       critsAhead { s with pending := [.hostLoss] } = { s with pending := [.hostLoss] }) ∧
    (up.sys.powered = true ∧ up.fb F.SYS_STAT_CRIT = false ∧ up.fb F.HLT_STAT_CRIT = false ∧ up.fb F.HLT_STAT_SUPPLY = false) ∧
    ((commissioning true false).sto.commit = none ∧ (commissioning true false).mode = 1 ∧ (commissioning true false).sys.commission = false ∧
      newestBank (commissioning true false).sto ≠ none ∧ newestBank (commissioning false false).sto = none) := by decide +kernel

theorem test_witness_commission_exit :
    (let s := { commissioning true false with sys := { up.sys with exiting := true, exitFailed := true } }
     s.sys.exiting = true ∧ s.sto.commit = none ∧ (after (exec .commissionExit s)).fb F.SYS_STAT_REFUSED = true ∧
      (after (exec .commissionExit s)).mode = 1) := by decide +kernel

/-- Dormant, only PD0 on. -/
def dormant (l : List (Fld × Nat × Nat)) : State :=
  put ([1, 2, 3, 4, 5, 6, 7].foldl (fun s n => s.setPd n 0) { inMode 7 with elapsed := 5000000 }) l

theorem test_domains :
    (let t := after (exec (.domainSwitch 0x72) (put up [(F.NETH_CTL_EN, 0, 0)]))
     t.pd 3 = 0 ∧ t.pd 1 = 2 ∧ t.fb F.NETH_CTL_EN = false) ∧
    (after (exec (.domainSwitch 0x78) (put up [(F.NETH_CTL_EN, 0, 0)]))).fb F.NETH_CTL_EN = true ∧
    (after (exec (.domainSwitch 0x72) (inMode 3))).fb F.SYS_STAT_REFUSED = true ∧
    (let s := { ((up.setPd 2 1).setPd 1 0) with sys := { up.sys with boot := true } }
     (after (exec (.domainOn 2 ⟨[], [], []⟩) s)).pd 1 = 1) ∧
    (let t := after (exec .dormantEntered (put up [(F.SYS_MODE_PEND, 0, 1), (F.SYS_MODE_TARGET, 0, 7)]))
     t.mode = 7 ∧ t.pd 2 = 0 ∧ t.pd 0 = 2) ∧
    (let t := after (exec .wakePin { dormant [(F.SYS_WAKE_PIN_EN, 0, 1)] with sys := { up.sys with wakeLow := some 4000000 } })
     t.f F.SYS_WAKE_CAUSE = 3 ∧ t.pd 2 = 1 ∧ t.mode = 7) ∧
    (after (exec .wakePin { dormant [(F.SYS_WAKE_PIN_EN, 0, 1)] with sys := { up.sys with wakeLow := some 4000001 } })).pd 2 = 0 ∧
    (after (exec .wakeTimer (dormant [(F.SYS_WAKE_TIMER_EN, 0, 1)]))).f F.SYS_WAKE_CAUSE = 4 ∧
    (after (exec .canWakePattern (dormant [(F.CAN_WAKE_WEN, 0, 1)]))).f F.SYS_WAKE_CAUSE = 2 ∧
    (after (exec .resumeComplete { inMode 7 with sys := { up.sys with resume := true } })).mode = 2 := by decide +kernel

/-- Dormant, with L0 up and the key slot of `link`. -/
def dormantLink : State :=
  [1, 2, 3, 4, 5, 6, 7].foldl (fun s n => s.setPd n 0) (linkIn 0xFFFFFFFF {} [(F.SYS_MODE_MODE, 0, 7), (F.COL_STATE_STATE, 3, 0)])

theorem test_witness_domains :
    ((∀ n ∈ [1, 3, 4, 5, 6], maskBit (up.rd R.SYS_PDCTL) n = decide (up.pd n ≠ 0)) ∧ pdRule up.mode 3 = 2 ∧ pdRule 3 3 = 1) ∧
    ((up.setPd 4 1).pd 4 = 1 ∧ (∀ k ∈ pdNeeds 3, k = 4 ∨ (up.setPd 4 1).domOn k = true)) ∧
    (up.sys.stopped = [] ∧ (dormant []).sys.resume = false ∧ (dormant []).pd 2 = 0 ∧
      (dormant []).rd64 R.SYS_WAKEAT_LO R.SYS_WAKEAT_HI ≤ (dormant []).tbNow) ∧
    (heard dormantLink 0x52 (signed dormantLink 0x52 (tl .l0 1 [])) ∧ tlMay dormantLink (tl .l0 1 []) 4 = true ∧
      colOfTl dormantLink (tl .l0 1 []) = none ∧ (tlMessage dormantLink 0x52 (tl .l0 1 [])).f F.SYS_WAKE_CAUSE = 1) ∧
    (∀ n, 1 ≤ n → n < 8 → (inMode 7).domOn n = true) ∧ newestBank (inMode 7).sto = none := by
  refine ⟨?_, ?_, ?_, ⟨heard_signed _ _ _ ?_, ?_⟩, ?_, ?_⟩
  case refine_6 => intro n h1 h2; interval_cases n <;> decide +kernel
  all_goals first | decide +kernel | (unfold portTakes; decide +kernel)

/-- Held and driven outputs, a valid bank with the safe configuration, and a running commit. -/
def busy : State :=
  { switching with
    sto := { bankA := bankOf [(0x400000, 1)] 1, work := [(0x400000, 2)],
             commit := some { key := false, bankB := true, start := 0 } },
    frame := [(5, 5)] }

/-- The cause of the last reset: kind, mode, early kick, commit, and the domains. -/
def resetOf (t : State) : List Nat := [t.f F.SYS_RCAUSE_KIND, t.f F.SYS_RCAUSE_MODE, t.f F.SYS_RCAUSE_WDT_EARLY, t.f F.SYS_RCAUSE_COMMIT] ++
  [2, 3, 7].map t.pd

/-- The watchdog armed at 0 with a window of 1 to 2 ms, now 2 ms on. -/
def watched (ns : Nat) : State :=
  put { up with elapsed := ns, sys := { up.sys with wdtArmed := true } } [(F.SYS_WDT_WDT_MIN, 0, 1), (F.SYS_WDT_WDT_MAX, 0, 2)]

/-- RESET_N low since 0. -/
def resetLow (ns : Nat) : State := { up with elapsed := ns, sys := { up.sys with resetLow := some 0 } }

theorem test_resets :
    (let t := after (exec (.sysCmdReset .host) busy)
     resetOf t = [4, 2, 0, 1, 1, 0, 2] ∧ t.mode = 0 ∧ t.frame = [] ∧ t.sto.work = [(0x400000, 1)] ∧ t.fb F.LSW_STAT_ON 4 = true ∧
      t.fb F.SOL_CTL_EN 3 = false ∧ t.tbNow = 1000000 ∧ t.f F.SYS_RCAUSE_COUNT = 1) ∧
    (after (exec (.sysCmdReset (.rod 1)) busy)).fb F.SYS_STAT_REFUSED = true ∧
    ((after (exec .watchdogKick (watched 1000000))).sys.wdtAt = 1000000) ∧
    (after (exec .watchdogKick (watched 999999))).rd R.SYS_RCAUSE = 0x00012013 := by decide +kernel

/-- Rod 1 runs a program of POLICY RESET. -/
def rodReset : State := { rodUp with programs := [(1, { prog with policy := 2, excEntry := 0 })] }

/-- R86: a fault of a program of POLICY RESET resets the block, and SYS_RCAUSE names its Rod. -/
theorem test_policy_reset :
    (let t := raise rodReset 1 1 1 0 0
     t.mode = 0 ∧ t.f F.SYS_RCAUSE_KIND = 5 ∧ t.f F.SYS_RCAUSE_ROD = 1) ∧
    (let t := after (exec (.rodFail 1) rodReset)
     t.mode = 0 ∧ t.f F.SYS_RCAUSE_KIND = 5 ∧ t.f F.SYS_RCAUSE_ROD = 1) := by decide +kernel

theorem test_witness_policy_reset :
    rodReset.sys.powered = true ∧ tabFind rodReset.programs 1 = some { prog with policy := 2, excEntry := 0 } ∧ rodReset.domOn 2 = true ∧
    (1 : Nat) ∉ rodReset.sto.umap.rods ∧ rodReset.migration = none ∧ rodReset.physOf 1 = 1 ∧ (∀ k < 16, k ≠ 1 → rodReset.physOf k ≠ 1) ∧
    freeRod rodReset 0 ∧ rodReset.rodSt 1 = rodRunning := by unfold freeRod; decide +kernel

theorem test_power :
    (let t := after (exec (.vlogLost 8900) { up with elapsed := 200000, sys := { up.sys with vlogLow := some 100000 } })
     t.sys.powered = false ∧ t.pd 0 = 0 ∧ tabFind t.sto.log 1 = some ⟨⟨2, 1000000, [8900, up.rd R.STO_LAST]⟩, logCrc 1 ⟨2, 1000000, [8900, up.rd R.STO_LAST]⟩⟩ ∧
      (let u := after (exec .powerOn t)
       u.mode = 0 ∧ u.pd 2 = 1 ∧ u.tbNow = 0 ∧ u.fb F.SYS_STAT_SS = true ∧ u.sto.log = t.sto.log)) ∧
    (after (exec .bootComplete { inMode 0 with sys := { up.sys with boot := true, toCommission := true } })).mode = 1 ∧
    (after (exec .bootComplete (put { inMode 0 with sys := { up.sys with boot := true } } [(F.SYS_STAT_CRIT, 0, 1)]))).mode = 6 ∧
    (after (exec .bootComplete { inMode 0 with sys := { up.sys with boot := true, critRec := true } })).mode = 6 := by
  decide +kernel

theorem test_witness_resets :
    (up.sys.inReset = false ∧ up.sys.powered = true ∧ (resetLow 10000).sys.resetLow = some 0 ∧ (resetLow 9999).elapsed < 0 + 10000) ∧
    ((watched 1000000).sys.wdtArmed = true ∧ (watched 0).f F.SYS_WDT_WDT_MIN = 1 ∧ (watched 0).f F.SYS_WDT_WDT_MAX = 2 ∧ up.sys.wdtArmed = false) ∧
    (up.sto.commit = none ∧ (up.logQueue.length : Nat) = 0 ∧ State.reset.sys.powered = false) ∧
    ((∀ n ∈ [1, 2, 3, 4, 5, 6, 7], (inMode 0).domOn n = true) ∧ (newestBank busy.sto).isSome = true ∧
      imageOk ([] : List Host.Cell) none = false) := by decide +kernel

/-! ### FIRE_PERMIT, SAFE_STOP_N, holds, inputs and registers -/

/-- Batch with every condition of FIRE_PERMIT but those changed by `l`: loop 2 named and asking, no airflow needed, 1 ms. -/
def firing (since : Option Nat) (l : List (Fld × Nat × Nat)) : State :=
  put { inMode 3 with sys := { up.sys with fireSince := since } } ([(F.SYS_SAFECFG_FIRE_AF, 0, 0), (F.SYS_SAFECFG_FIRE_DLY, 0, 1),
    (F.SYS_FIREMASK_LO_V, 0, 4), (F.LPE_STAT_FIRE_REQ, 2, 1), (F.SYS_FIRECTL_EN, 0, 1)] ++ l)

/-- FIRE_PERMIT is asserted. -/
def fired : State := firing none [(F.SYS_STAT_FIRE, 0, 1), (F.SOL_CLASS_S_V, 0, 8), (F.SOL_CTL_EN, 3, 1), (F.SOL_STAT_ON, 3, 1), (F.SOL_STAT_PHASE, 3, 2)]

theorem test_fire_permit :
    (after (exec .firePermitAssert (firing (some 0) []))).fb F.SYS_STAT_FIRE = true ∧
    (after (exec .firePermitAssert (firing (some 1) []))).fb F.SYS_STAT_FIRE = false ∧
    (after (exec .firePermitAssert (firing (some 0) [(F.LPE_STAT_FIRE_REQ, 2, 0)]))).fb F.SYS_STAT_FIRE = false ∧
    (after (exec (.firectlEnable true) (firing none [(F.SYS_FIRECTL_EN, 0, 0)]))).sys.fireSince = some 1000000 ∧
    (let t := after (exec (.firectlEnable false) fired)
     t.fb F.SYS_STAT_FIRE = false ∧ t.fb F.SYS_STAT_FIREDROP_SEEN = true ∧ t.fb F.SOL_STAT_ON 3 = false) ∧
    (after (exec (.firectlEnable true) (inMode 6))).fb F.SYS_STAT_REFUSED = true := by decide +kernel

/-- Stop channel A low for `ns`, or released with both high for that long. -/
def stopping (low : Bool) (ns : Nat) (l : List (Fld × Nat × Nat)) : State :=
  put { switching with elapsed := ns, sys := { up.sys with stopA := !low } } ([(F.SYS_SAFECFG_SS_FILT, 0, 5)] ++ l)

theorem test_safe_stop :
    (let t := after (exec (.safeStopAssert false) (stopping true 5000 []))
     t.fb F.SYS_STAT_SS = true ∧ t.sys.lowA = true ∧ t.mode = 2 ∧ t.fb F.LSW_STAT_ON 4 = false ∧ t.fb F.LSW_CTL_EN 4 = false ∧
      t.fb F.SOL_STAT_ON 3 = false ∧ t.rd R.SYS_HELD = 0) ∧
    (after (exec (.safeStopAssert false) (stopping true 4999 []))).fb F.SYS_STAT_SS = false ∧
    (after (exec .safeStopRelease (stopping false 50000000 [(F.SYS_STAT_SS, 0, 1)]))).fb F.SYS_STAT_SS = false ∧
    (after (exec .safeStopRelease (stopping false 49999999 [(F.SYS_STAT_SS, 0, 1)]))).fb F.SYS_STAT_SS = true ∧
    (after (exec .ssDiscrepancy { up with elapsed := 500000001, sys := { up.sys with discFrom := some 0 } })).fb F.SYS_STAT_SS_DISC = true ∧
    (after (exec .ssDiscrepancy { up with elapsed := 500000000, sys := { up.sys with discFrom := some 0 } })).fb F.SYS_STAT_SS_DISC = false ∧
    (after (exec .ssDiscClear (put up [(F.SYS_STAT_SS_DISC, 0, 1)]))).fb F.SYS_STAT_SS_DISC = false ∧
    (after (exec .ssDiscClear (stopping true 0 []))).fb F.SYS_STAT_REFUSED = true := by decide +kernel

theorem test_witness_fire :
    (fireAllowed (firing (some 0) []) ∧ (firing (some 0) []).f F.SYS_SAFECFG_FIRE_DLY = 1 ∧ ¬ fireAllowed up ∧ fired.fb F.SYS_STAT_FIRE = true) ∧
    (up.pd 0 = 2 ∧ (stopping true 5000 []).sys.lowA = false ∧ (stopping true 5000 []).sys.stopAAt = 0 ∧
      (put up [(F.SYS_STAT_SS, 0, 1)]).fb F.SYS_STAT_SS = true ∧ (stopping false 0 []).fb F.SYS_STAT_SS_DISC = false) ∧
    (fired.solClassS 3 = true ∧ fired.solOdd 3 = false) := by
  refine ⟨⟨⟨by decide +kernel, by decide +kernel, ⟨2, by decide +kernel⟩, fun n h => ?_, by decide +kernel, by decide +kernel, by decide +kernel⟩,
    by decide +kernel, fun h => absurd h.1 (by decide +kernel), by decide +kernel⟩, by decide +kernel, by decide +kernel⟩
  revert n
  decide +kernel

/-- Load switch 4 and axis 2 held since 0, HOLD_MAX and RUNON_MAX 1 s, in a mode. -/
def holding (m ns : Nat) : State :=
  put { switching with elapsed := ns } [(F.SYS_MODE_MODE, 0, m), (F.SYS_HELD_V, 0, 0x10), (F.SYS_HELDM_V, 0, 4), (F.SYS_RHT_TIME_HOLD_MAX, 0, 1),
    (F.SYS_RHT_TIME_RUNON_MAX, 0, 1), (F.MTR_CTL_EN, 2, 1), (F.MTR_CTL_STOPMODE, 2, 1)]

/-- Input 2 with its contact high since 0, not yet filtered: filter 10 µs, both edges counted, a rising one rings doorbell 5 of Rod 3. -/
def input (ns : Nat) (l : List (Fld × Nat × Nat)) : State :=
  put { up with elapsed := ns, sys := { up.sys with dio := [(2, ⟨true, 0, false⟩)] } } ([(F.DIO_CFG_FILT, 2, 1), (F.DIO_CFG_CEDGE, 2, 3),
    (F.DIO_CFG_DEDGE, 2, 1), (F.DIO_CFG_DB, 2, 5), (F.DIO_CFG_ROD, 2, 3)] ++ l)

theorem test_holds_and_inputs :
    (after (exec (.holdRelease 0xFF) (holding 2 0))).rd R.SYS_HELD = 0 ∧ (after (exec (.holdRelease 1) (holding 6 0))).fb F.SYS_STAT_REFUSED = true ∧
    (after (exec (.holdReleaseAxis 4) (holding 2 0))).rd R.SYS_HELDM = 0 ∧
    (let t := after (exec (.holdMaxExpiry 4) (holding 6 1000000000))
     t.rd R.SYS_HELD = 0 ∧ t.fb F.LSW_STAT_ON 4 = false) ∧
    (after (exec (.holdMaxExpiry 4) (holding 6 999999999))).fb F.LSW_STAT_ON 4 = true ∧
    (after (exec (.runonMaxExpiry 2) (holding 6 1000000000))).fb F.MTR_CTL_EN 2 = false ∧
    (let t := after (exec (.discreteInputEdge (.filtered 2)) (input 10000 []))
     t.rd R.DIO_CNT 2 = 1 ∧ t.rd R.FRM_DOORBELL 3 = 0x20 ∧ (t.dioX 2).state = true) ∧
    (after (exec (.discreteInputEdge (.filtered 2)) (input 9999 []))).rd R.DIO_CNT 2 = 0 ∧
    (after (exec (.discreteInputEdge (.filtered 2)) (input 10000 [(F.DIO_CFG_INV, 2, 1)]))).rd R.FRM_DOORBELL 3 = 0 ∧
    (after (exec (.discreteInputEdge (.contact (.input 2) false)) (input 10000 []))).dioX 2 = ⟨false, 10000, false⟩ ∧
    (after (exec (.discreteInputEdge (.contact .wakeN false)) up)).sys.wakeLow = some 1000000 ∧
    (after (exec (.countClear 4) (regs up [(R.DIO_CNT, 2, 9)]))).rd R.DIO_CNT 2 = 0 := by decide +kernel

theorem test_witness_holds :
    (up.domOn 7 = true ∧ maskBit ((holding 6 0).rd R.SYS_HELD) 4 = true ∧ maskBit ((holding 6 0).rd R.SYS_HELDM) 2 = true ∧
      (holding 6 0).f F.SYS_RHT_TIME_RUNON_MAX = 1 ∧ up.hasAxis 2 = true) ∧
    ((up.dioX 2).contact = false ∧ ((input 0 []).dioX 2).contact ≠ ((input 0 []).dioX 2).state ∧ up.sys.wakeLow = none ∧
      up.sys.resetLow = none ∧ up.sys.vlogLow = none ∧ up.sys.stopA = true ∧ State.reset.sys.stopA = false) := by decide +kernel

/-- Channels 2 and 3 a pair, its lead disabled. -/
def solPair : State := put up [(F.SOL_CTL_PAR, 2, 1)]

/-- R317: EN = 1 for the odd member of a pair is refused. -/
theorem test_odd_member :
    solOddEnable solPair R.SOL_CTL 3 1 = true ∧ solOddEnable up R.SOL_CTL 3 1 = false ∧
    (let t := after (exec (.registerWrite .host 0x40001180 1) solPair)
     t.fb F.SOL_STAT_REFUSED 3 = true ∧ t.fb F.SOL_CTL_EN 3 = false) ∧ regFind 0x40001180 = some (R.SOL_CTL, 3, 0) := by decide +kernel

/-- The commit, the log and a bead of the working copy: the write in front of an empty queue is the command it spells. -/
theorem test_witness_write_is_command :
    inFront (.registerWrite .host 0x10020000 1) up ∧ inFront .stoCommit up ∧ R.STO_CTL.addr = 0x10020000 ∧
    (after (exec (.registerWrite .host 0x10020000 1) up)).sto.commit.isSome = true ∧
    tabFind up.beadErr (workBead 4) = none :=
  ⟨(test_nothing_ahead up (by decide +kernel) (by decide +kernel) _).1, (test_nothing_ahead up (by decide +kernel) (by decide +kernel) _).1,
    by decide +kernel⟩

theorem test_register_writes :
    (let t := after (exec (.registerWrite (.rod 1) 0x10010070 0xFF84FF20) up)
     t.rd R.HLT_HUMLIM = 0x03840320 ∧ t.fb F.HLT_STAT_REFUSED = false) ∧
    (let t := after (exec (.registerWrite (.rod 1) 0x10010070 0x00320320) up)
     t.rd R.HLT_HUMLIM = 0x03520258 ∧ t.fb F.HLT_STAT_REFUSED = true) ∧
    (after (exec (.registerWrite .host 0x10030014 0x107) (regs up [(R.TIM_STAT, 0, 0x301)]))).rd R.TIM_STAT = 0x201 ∧
    (let t := after (exec (.registerWrite .host 0x60000820 0x101) (inMode 1))
     t.rd R.KPERM = 0x101 ∧ t.sto.keyDirty = true ∧ tabGet 0 t.sto.keyWork 0x60000820 = 0x101) ∧
    (after (exec (.registerWrite .host 0x60000820 0x101) up)).rd R.KPERM = 0 ∧
    (after (exec (.registerWrite .host 0x10010070 0x03840320) (dormant []))).rd R.HLT_HUMLIM = 0x03840320 ∧
    (after (exec (.registerWrite (.rod 3) 0x1100F018 0x20) up)).rd R.FRM_DOORBELL 3 = 0x20 ∧
    (after (exec (.registerWrite .host 0x50100018 5) (dormant []))).rd R.TTS_PROP = 0 := by decide +kernel

/-- R11: of a set by hardware and a clear by a write in one step, the set wins. -/
theorem test_set_wins_over_clear :
    (let s := put up [(F.TIM_STAT_STEP_SEEN, 0, 1)]
     (after (exec (.registerWrite .host 0x10030014 0x200) s)).fb F.TIM_STAT_STEP_SEEN = true ∧
      (after (exec (.registerWrite .host 0x10030014 0x200) (after (step s)))).fb F.TIM_STAT_STEP_SEEN = false) := by
  decide +kernel

theorem test_witness_register_writes :
    (regFind 0x10010070 = some (R.HLT_HUMLIM, 0, 0) ∧ regFind 0x10000034 ≠ none ∧ regFind 0x10FFFFFC = none ∧ curveAt 0x10010070 = none) ∧
    (regDead up R.HLT_HUMLIM 0x10010070 0 0 = false ∧ plainReg R.HLT_HUMLIM ∧ regRefuse up R.HLT_HUMLIM 0 0 0x3520258 0x03840320 = false ∧
      (∀ fd ∈ R.HLT_HUMLIM.fields, fieldMay up R.HLT_HUMLIM 0 0 0x3520258 0x03840320 fd) ∧
      ¬ (∀ fd ∈ R.HLT_HUMLIM.fields, fieldMay up R.HLT_HUMLIM 0 0 0x3520258 0x00320320 fd)) ∧
    (up.domOn (domainOf 0x10010070) = true ∧ (dormant []).domOn (domainOf 0x50100018) = false) ∧
    (regFind 0x60000820 = some (R.KPERM, 0, 0) ∧ plainReg R.KPERM ∧ keyField 0x60000820 = true ∧ storedOffset 0x60000820 = none ∧
      regFind 0x32040000 = none ∧ curveAt 0x32040000 ≠ none) := by
  unfold plainReg
  refine ⟨by decide +kernel, ⟨by decide +kernel, by decide +kernel, by decide +kernel, ?_, ?_⟩, by decide +kernel, by decide +kernel⟩
  · intro fd h
    simp only [R.HLT_HUMLIM, List.mem_cons, List.not_mem_nil, or_false] at h
    rcases h with rfl | rfl <;> exact .inr (by decide +kernel)
  · intro h
    have := h ⟨25, 16, .rw, .inRange 100 1000⟩ (by simp [R.HLT_HUMLIM])
    revert this
    unfold fieldMay
    decide +kernel

theorem test_witness_memories : up.memOk ∧ (match step up with | .next _ => true | _ => false) = true := by
  unfold State.memOk; decide +kernel

theorem test_reset : State.reset.rd R.SYS_SAFECFG = 0xF00533E8 ∧ State.reset.sys.powered = false ∧ State.reset.memOk := by
  unfold State.memOk; decide +kernel

end Sys2Proof.Tests
end

/-! What posting events leaves of the machine (R29, R54, R59, R283, R516, R517, R527). -/

namespace Sys2Proof.Machine

open Sys2Proof.Claims

/-- From `s` to `t` nothing but what posting events may change has changed. -/
def Posts (s t : State) : Prop := t.apart = s.apart ∧ RegsBut eventReg s t

namespace Posts

variable {s t u : State}

theorem refl (s : State) : Posts s s := ⟨rfl, RegsBut.refl s⟩

theorem trans (h : Posts s t) (h' : Posts t u) : Posts s u := ⟨h'.1.trans h.1, h.2.trans h'.2⟩

/-- An update that keeps the registers and what stands apart from events. -/
theorem of_regs (h : Posts s t) (ha : u.apart = t.apart) (hr : u.regs = t.regs) : Posts s u :=
  ⟨ha.trans h.1, h.2.of_regs hr⟩

theorem wr (h : Posts s t) {d : RegDesc} {v : Word} {i j : Nat} (hp : eventReg (d.addr i j)) : Posts s (t.wr d v i j) :=
  ⟨h.1, h.2.wr hp⟩

theorem setF (h : Posts s t) {fl : Fld} {v i j : Nat} (hp : eventReg (fl.reg.addr i j)) : Posts s (t.setF fl v i j) :=
  ⟨h.1, h.2.setF hp⟩

theorem setRing (h : Posts s t) (n : Nat) (x : RingX) : Posts s (t.setRing n x) := h.of_regs rfl rfl

theorem setTrc (h : Posts s t) (c : Nat) (x : TrcX) : Posts s (t.setTrc c x) := h.of_regs rfl rfl

theorem ite {c : Prop} [Decidable c] (ht : Posts s t) (hu : Posts s u) : Posts s (if c then t else u) := by
  split <;> assumption

theorem foldN {n : Nat} {f : State → Nat → State} (hf : ∀ t k, k < n → Posts t (f t k)) (s : State) :
    Posts s (foldN n f s) :=
  foldN_keeps (P := Posts s) n (fun t k hk h => h.trans (hf t k hk)) s (refl s)

/-! What events leave, field by field. -/

theorem mtr (h : Posts s t) : t.mtr = s.mtr := by simpa [State.apart] using congrArg State.mtr h.1
theorem mtrX (h : Posts s t) (n : Nat) : t.mtrX n = s.mtrX n := by simp only [State.mtrX, h.mtr]
theorem elapsed (h : Posts s t) : t.elapsed = s.elapsed := by simpa [State.apart] using congrArg State.elapsed h.1

end Posts

/-! ### The registers of events -/

/-- Where the registers that events change lie: in STO, in CRG and in TRC. -/
theorem eventReg_area {a : Nat} (h : eventReg a) :
    (0x10020000 ≤ a ∧ a < 0x10030000) ∨ (0x11010000 ≤ a ∧ a < 0x11010800) ∨ (0x21000000 ≤ a ∧ a < 0x22000000) := by
  rcases h with h | ⟨c, hc, rfl⟩ | rfl | rfl
  · exact .inr (.inl h)
  · right; right; simp only [RegDesc.addr, R.TRC_STAT]; omega
  · left; decide
  · left; decide

/-- A ring register: base and stride are those of block CRG. -/
theorem eventReg_ring {d : RegDesc} {n : Nat} (hn : n < 32) (lo : 0x11010000 ≤ d.base) (hi : d.base < 0x11010040)
    (h1 : d.s1 = 0x40) (h2 : d.s2 = 0) : eventReg (d.addr n) := by
  left
  simp only [RegDesc.addr, h1, h2]
  omega

theorem eventReg_trcStat {c : Nat} (hc : c < 8) : eventReg (R.TRC_STAT.addr c) := .inr (.inl ⟨c, hc, rfl⟩)

/-! ### Rings -/

variable {s t : State}

/-- A write to a register of a ring. -/
theorem Posts.wrRing (h : Posts s t) {d : RegDesc} {n : Nat} {v : Word} (hn : n < 32)
    (lo : 0x11010000 ≤ d.base := by decide) (hi : d.base < 0x11010040 := by decide) (h1 : d.s1 = 0x40 := by rfl)
    (h2 : d.s2 = 0 := by rfl) : Posts s (t.wr d v n) :=
  h.wr (eventReg_ring hn lo hi h1 h2)

theorem ringReserve_posts {n : Nat} (hn : n < 32) (s : State) (rod : Option Nat) (dest : Nat) :
    Posts s (ringReserve s n rod dest).2 :=
  Posts.setRing (((((Posts.refl s).wrRing hn).wrRing hn).wrRing hn).wrRing hn) _ _

theorem ringCommitLoop_posts {n : Nat} (hn : n < 32) (fuel : Nat) (s : State) : Posts s (ringCommitLoop fuel s n) := by
  induction fuel generalizing s with
  | zero => exact Posts.refl s
  | succ fuel ih =>
    unfold ringCommitLoop
    split
    · split
      · exact ((((Posts.refl s).setRing _ _).wrRing hn).wrRing hn).trans (ih _)
      · exact Posts.refl s
    · exact Posts.refl s

/-- What Frame SRAM holds is no part of what events leave. -/
theorem posts_frame (s : State) (m : List Host.Cell) (e : Tab BeadErr) : Posts s { s with frame := m, beadErr := e } :=
  ⟨rfl, RegsBut.refl s⟩

theorem putFrameBead_posts (s : State) (a : Nat) (b : Bead) : Posts s (s.putFrameBead a b) := by
  unfold State.putFrameBead
  exact posts_frame s _ _

theorem ringCommit_posts {n : Nat} (hn : n < 32) (s : State) : Posts s (ringCommit s n) := ringCommitLoop_posts hn _ s

theorem ringAdd_posts {n : Nat} (hn : n < 32) (s : State) (b : Bead) (tag : Option Nat) : Posts s (ringAdd s n b tag) := by
  have reserved := ringReserve_posts hn s none 0
  unfold ringAdd
  exact Posts.trans (Posts.setRing (Posts.setRing (reserved.trans (putFrameBead_posts _ _ _)) n _) n _) (ringCommit_posts hn _)

theorem ringPost_posts {n : Nat} (hn : n < 32) (s : State) (b : Bead) : Posts s (ringPost s n b) := by
  unfold ringPost
  split
  · exact Posts.refl s
  · split
    · exact ringAdd_posts hn s b none
    · exact (Posts.refl s).wrRing hn

/-! ### Trace triggers -/

theorem trcTrigger_posts (fuel : Nat) (s : State) {c : Nat} (hc : c < 8) (cause : Nat) : Posts s (trcTrigger fuel s c cause) := by
  induction fuel generalizing s c cause with
  | zero => exact Posts.refl s
  | succ fuel ih =>
    have stat := eventReg_trcStat hc
    unfold trcTrigger
    split
    · refine Posts.trans ?_ (Posts.foldN (fun t d hd => (ih t hd 4).ite (Posts.refl t)) _)
      exact Posts.setTrc (Posts.setF (Posts.setF (Posts.setF (Posts.refl s) stat) stat) stat) c _
    · exact ((Posts.refl s).setF stat).ite (Posts.refl s)

theorem trcEvent_posts (s : State) (ring src code : Nat) : Posts s (trcEvent s ring src code) := by
  unfold trcEvent
  split
  · exact Posts.refl s
  · exact Posts.foldN (fun t c hc => (trcTrigger_posts 8 t hc 3).ite (Posts.refl t)) s

/-! ### Events and records -/

theorem event_posts {n : Nat} (hn : n < 32) (s : State) (src code detail : Nat) (v : Word) :
    Posts s (event s n src code detail v) :=
  (ringPost_posts hn s _).trans (trcEvent_posts _ _ _ _)

theorem logRecord_posts (s : State) (kind : Nat) (payload : List Word) : Posts s (logRecord s kind payload) := by
  unfold logRecord
  split
  · exact (Posts.refl s).of_regs rfl rfl
  · exact ((Posts.refl s).wr (.inr (.inr (.inl rfl)))).setF (.inr (.inr (.inr rfl)))

theorem healthEvent_posts (s : State) (idx pool code detail : Nat) (v : Word) :
    Posts s (healthEvent s idx pool code detail v) :=
  (ringPost_posts (by decide) s _).trans (logRecord_posts _ _ _)

/-! ### Changes with what their events leave -/

section
variable {e : State → State} {p q : Nat → Prop} {u : State}

theorem noisy_refl (s : State) : noisy e p s s := ⟨rfl, RegsBut.refl s⟩

theorem noisy_trans (h : noisy e p s t) (h' : noisy e p t u) : noisy e p s u := ⟨h'.1.trans h.1, h.2.trans h'.2⟩

theorem noisy_mono (h : noisy e p s t) (pq : ∀ a, p a → q a) : noisy e q s t :=
  ⟨h.1, h.2.mono fun a => Or.imp_left (pq a)⟩

/-- Events beside what `e` takes out of a state; `e` looks at nothing that events change. -/
theorem noisy_of_posts (he : ∀ s : State, (e s).apart = (e s.apart).apart) (h : Posts s t) : noisy e p s t :=
  ⟨by rw [he t, he s, h.1], h.2.mono fun _ => Or.inr⟩

theorem noisy_foldl {α : Type} {f : State → α → State} (l : List α) (hf : ∀ t, ∀ a ∈ l, noisy e p t (f t a)) (s : State) :
    noisy e p s (l.foldl f s) := by
  induction l generalizing s with
  | nil => exact noisy_refl s
  | cons a l ih =>
    exact noisy_trans (hf s a List.mem_cons_self) (ih (fun t b hb => hf t b (List.mem_cons_of_mem a hb)) (f s a))

/-- A register outside the changed ones, and outside those of events, reads as before. -/
theorem noisy_rd (h : noisy e p s t) {d : RegDesc} {i j : Nat} (hp : ¬ p (d.addr i j)) (he : ¬ eventReg (d.addr i j)) :
    t.rd d i j = s.rd d i j :=
  h.2.rd (fun hq => hq.elim hp he)

end

end Sys2Proof.Machine

/-! What a drop of FIRE_PERMIT leaves: the solenoid drive switches class S channels off (R301, R304, R308, R541). -/

namespace Sys2Proof.Machine

open Sys2Proof.Claims

variable {s t u : State}

/-- The registers of block SOL. -/
def solBlock (a : Nat) : Prop := 0x40000000 ≤ a ∧ a < 0x41000000

/-- From `s` to `t` nothing but the solenoid drive has changed, and what its events leave. -/
def SolOnly (s t : State) : Prop := noisy noSol solBlock s t

namespace SolOnly

theorem refl (s : State) : SolOnly s s := noisy_refl s

theorem trans (h : SolOnly s t) (h' : SolOnly t u) : SolOnly s u := noisy_trans h h'

theorem wr (h : SolOnly s t) {d : RegDesc} {v : Word} {i j : Nat} (hp : solBlock (d.addr i j)) : SolOnly s (t.wr d v i j) :=
  ⟨h.1, h.2.wr (.inl hp)⟩

theorem setF (h : SolOnly s t) {fl : Fld} {v i j : Nat} (hp : solBlock (fl.reg.addr i j)) : SolOnly s (t.setF fl v i j) :=
  ⟨h.1, h.2.setF (.inl hp)⟩

theorem setSol (h : SolOnly s t) (n : Nat) (x : SolX) : SolOnly s (t.setSol n x) := ⟨h.1, h.2⟩

theorem ite {c : Prop} [Decidable c] (ht : SolOnly s t) (hu : SolOnly s u) : SolOnly s (if c then t else u) := by
  split <;> assumption

theorem foldl {α : Type} {f : State → α → State} (l : List α) (hf : ∀ t, ∀ a ∈ l, SolOnly t (f t a)) (s : State) :
    SolOnly s (l.foldl f s) := noisy_foldl l hf s

end SolOnly

/-- A register of a solenoid channel; a pair led by channel 23 would end in one more. -/
theorem solBlock_chan {d : RegDesc} {n : Nat} (hn : n ≤ 24) (lo : 0x40001000 ≤ d.base := by decide)
    (hi : d.base < 0x40002000 := by decide) (h1 : d.s1 = 0x80 := by rfl) (h2 : d.s2 = 0 := by rfl) :
    solBlock (d.addr n) := by
  simp only [solBlock, RegDesc.addr, h1, h2]
  omega

theorem mem_solMembers {n m : Nat} (hn : n < 24) (h : m ∈ s.solMembers n) : m ≤ 24 := by
  unfold State.solMembers at h
  split at h <;> simp at h <;> omega

theorem solEvent_solOnly (s : State) (n code detail : Nat) (v : Word) : SolOnly s (solEvent s n code detail v) :=
  noisy_of_posts (fun _ => rfl) (event_posts (by decide) s _ _ _ _)

theorem solShow_solOnly {n : Nat} (hn : n < 24) (s : State) (phase : Nat) : SolOnly s (solShow s n phase) :=
  SolOnly.foldl _ (fun t _ hm =>
    ((SolOnly.refl t).setF (solBlock_chan (mem_solMembers hn hm))).setF (solBlock_chan (mem_solMembers hn hm))) s

theorem solKeepMean_solOnly {n : Nat} (hn : n < 24) (s : State) : SolOnly s (solKeepMean s n) :=
  SolOnly.foldl _ (fun t _ hm => (SolOnly.refl t).wr (solBlock_chan (mem_solMembers hn hm))) s

theorem solDecay_solOnly (s : State) (n path : Nat) : SolOnly s (solDecay s n path) :=
  SolOnly.foldl _ (fun t _ _ => (SolOnly.refl t).setSol _ _) s

theorem solMeasured_solOnly (s : State) (n : Nat) : SolOnly s (solMeasured s n) :=
  SolOnly.ite (solEvent_solOnly _ _ _ _ _) (SolOnly.refl s)

theorem solNoPull_solOnly {n : Nat} (hn : n < 24) (s : State) : SolOnly s (solNoPull s n) :=
  SolOnly.ite (SolOnly.refl s)
    ((((SolOnly.refl s).setSol _ _).setF (solBlock_chan (by omega))).setF (solBlock_chan (by omega))
      |>.trans (solEvent_solOnly _ _ _ _ _))

theorem solDropBusy_solOnly {n : Nat} (hn : n < 24) (s : State) : SolOnly s (solDropBusy s n) :=
  ((SolOnly.refl s).setF (solBlock_chan (by omega))).trans (solMeasured_solOnly _ _)

theorem solPreempts_lt {n k : Nat} (hn : n < 24) (h : solPreempts s n = some k) : k < 24 := by
  have hk := List.mem_of_find?_eq_some h
  simp only [solBank, List.mem_cons, List.not_mem_nil, or_false] at hk
  omega

theorem solSequence_solOnly {n : Nat} (hn : n < 24) (s : State) : SolOnly s (solSequence s n) := by
  refine SolOnly.ite ((SolOnly.refl s).setSol _ _) ?_
  split
  · next k hk => exact (((SolOnly.refl s).setSol _ _).trans (solDropBusy_solOnly (solPreempts_lt hn hk) _)).setSol _ _
  · exact solDropBusy_solOnly hn s

/-- A switch-off of a lead channel stays in the solenoid drive. -/
theorem solOff_solOnly {n : Nat} (hn : n < 24) (s : State) (path : Nat) : SolOnly s (solOff s n path) := by
  have unpulled (u : State) : SolOnly u (if u.f F.SOL_STAT_PHASE n = 1 then solNoPull u n else u) :=
    (solNoPull_solOnly hn u).ite (SolOnly.refl u)
  have captured (u : State) : SolOnly u (if u.fb F.SOL_MEAS_DROP_EN n then solSequence u n else solMeasured u n) :=
    (solSequence_solOnly hn u).ite (solMeasured_solOnly u n)
  have unqueued : SolOnly s (s.setSol n { s.solX n with queued := none }) := (SolOnly.refl s).setSol _ _
  refine SolOnly.ite (SolOnly.trans ?_ (captured _)) unqueued
  exact ((((unqueued.trans (unpulled _)).trans (solKeepMean_solOnly hn _)).trans (solShow_solOnly hn _ 3)).setSol _ _).trans
    (solDecay_solOnly _ n path)

/-- The drop of FIRE_PERMIT switches nothing but solenoid channels. -/
theorem solFireDrop_solOnly (s : State) : SolOnly s (solFireDrop s) :=
  SolOnly.foldl _ (fun t _ hn => solOff_solOnly (List.mem_range.mp (List.mem_of_mem_filter (List.mem_of_mem_filter hn))) t 2) s

end Sys2Proof.Machine

/-! What a change of an axis's state leaves, with the airflow judgement and FIRE_PERMIT behind it (R363, R368, R381, R541). -/

namespace Sys2Proof.Machine

open Sys2Proof.Claims

variable {s t u : State} {p q : Nat → Prop} {n m : Nat}

/-! ### Fields after a write -/

theorem State.fb_setF_same (s : State) (fl : Fld) (v i j : Nat) (h : fl.lo ≤ fl.hi) (h' : fl.hi < 32) :
    (s.setF fl v i j).fb fl i j = (v % 2 ^ fl.width != 0) := by
  simp only [State.fb, State.f_setF_same s fl v i j h h']

theorem State.fb_setF_beside (s : State) {fl fl' : Fld} (v i j : Nat) (r : fl.reg = fl'.reg) (h : fl.lo ≤ fl.hi)
    (h' : fl'.hi < 32) (d : fl'.hi < fl.lo ∨ fl.hi < fl'.lo) : (s.setF fl v i j).fb fl' i j = s.fb fl' i j := by
  simp only [State.fb, State.f_setF_beside s v i j r h h' d]

theorem RegsBut.fb (h : RegsBut p s t) {fl : Fld} {i j : Nat} (hp : ¬ p (fl.reg.addr i j)) : t.fb fl i j = s.fb fl i j := by
  simp only [State.fb, h.f hp]

/-! ### What the motor unit does beside an axis -/

/-- What a fall of AIRFLOW_OK and a drop of FIRE_PERMIT may change of the registers. -/
def airReg (a : Nat) : Prop := a = R.FAN_AFSTAT.addr ∨ a = R.SYS_STAT.addr ∨ solBlock a

/-- The registers of the axes, and the word that tells which are held. -/
def axisSide (a : Nat) : Prop := (0x42000000 ≤ a ∧ a < 0x43000000) ∨ a = R.SYS_HELDM.addr

/-- From `s` to `t` the motor unit changes the registers that satisfy `p`, what its events leave, and the airflow judgement;
FIRE_PERMIT and the solenoids it switches off change only where it is given. -/
structure MtrSpan (p : Nat → Prop) (s t : State) : Prop where
  elapsed : t.elapsed = s.elapsed
  regs : RegsBut (fun a => p a ∨ airReg a ∨ eventReg a) s t
  calm : s.fb F.SYS_STAT_FIRE = false → noisy noMtr (fun a => p a ∨ a = R.FAN_AFSTAT.addr) s t

theorem axisSide_quiet {a : Nat} (h : axisSide a) : ¬ (airReg a ∨ eventReg a) := by
  rintro (h' | h')
  · simp only [axisSide, airReg, solBlock, RegDesc.addr, R.SYS_HELDM, R.FAN_AFSTAT, R.SYS_STAT] at h h'
    omega
  · have area := eventReg_area h'
    simp only [axisSide, RegDesc.addr, R.SYS_HELDM] at h
    omega

theorem sysStat_not_event : ¬ eventReg R.SYS_STAT.addr := fun h => by
  have area := eventReg_area h
  simp only [RegDesc.addr, R.SYS_STAT] at area
  omega

namespace MtrSpan

theorem refl (s : State) : MtrSpan p s s := ⟨rfl, RegsBut.refl s, fun _ => noisy_refl s⟩

theorem mono (h : MtrSpan p s t) (pq : ∀ a, p a → q a) : MtrSpan q s t :=
  ⟨h.elapsed, h.regs.mono fun a => Or.imp_left (pq a), fun hf => noisy_mono (h.calm hf) fun a => Or.imp_left (pq a)⟩

theorem trans (hp : ¬ p R.SYS_STAT.addr) (h : MtrSpan p s t) (h' : MtrSpan p t u) : MtrSpan p s u := by
  refine ⟨h'.elapsed.trans h.elapsed, h.regs.trans h'.regs, fun hf => ?_⟩
  have calm := h.calm hf
  have still : t.fb F.SYS_STAT_FIRE = false := by
    rw [calm.2.fb, hf]
    rintro ((h | h) | h)
    · exact hp h
    · exact absurd h (by decide)
    · exact sysStat_not_event h
  exact noisy_trans calm (h'.calm still)

theorem posts (h : MtrSpan p s t) (h' : Posts t u) : MtrSpan p s u :=
  ⟨h'.elapsed.trans h.elapsed, h.regs.trans (h'.2.mono fun _ ha => .inr (.inr ha)),
    fun hf => noisy_trans (h.calm hf) (noisy_of_posts (fun _ => rfl) h')⟩

theorem of_noisy (h : noisy noMtr p s t) : MtrSpan p s t :=
  ⟨by simpa [State.apart, noMtr] using congrArg State.elapsed h.1, h.2.mono fun _ => Or.imp_right Or.inr,
    fun _ => noisy_mono h fun _ => Or.inl⟩

theorem setMtr (h : MtrSpan p s t) (n : Nat) (x : MtrX) : MtrSpan p s (t.setMtr n x) := ⟨h.elapsed, h.regs, h.calm⟩

theorem wr (h : MtrSpan p s t) {d : RegDesc} {v : Word} {i j : Nat} (hp : p (d.addr i j)) : MtrSpan p s (t.wr d v i j) :=
  ⟨h.elapsed, h.regs.wr (.inl hp), fun hf => ⟨(h.calm hf).1, (h.calm hf).2.wr (.inl (.inl hp))⟩⟩

theorem setF (h : MtrSpan p s t) {fl : Fld} {v i j : Nat} (hp : p (fl.reg.addr i j)) : MtrSpan p s (t.setF fl v i j) :=
  ⟨h.elapsed, h.regs.setF (.inl hp), fun hf => ⟨(h.calm hf).1, (h.calm hf).2.setF (.inl (.inl hp))⟩⟩

/-- A register of the motor unit that is not among the changed ones reads as before. -/
theorem rd (h : MtrSpan p s t) {d : RegDesc} {i j : Nat} (hp : ¬ p (d.addr i j)) (ha : axisSide (d.addr i j)) :
    t.rd d i j = s.rd d i j :=
  h.regs.rd fun hq => hq.elim hp (axisSide_quiet ha)

end MtrSpan

/-! ### FIRE_PERMIT and AIRFLOW_OK -/

theorem SolOnly.mtr (h : SolOnly s t) : t.mtr = s.mtr := by
  simpa [State.apart, noSol] using congrArg State.mtr h.1

theorem SolOnly.elapsed (h : SolOnly s t) : t.elapsed = s.elapsed := by
  simpa [State.apart, noSol] using congrArg State.elapsed h.1

/-- FIRE_PERMIT that opens leaves the axes; it was given. -/
theorem fireOpen_axes (s : State) : (fireOpen s).mtr = s.mtr ∧ (fireOpen s).elapsed = s.elapsed ∧
    RegsBut (fun a => airReg a ∨ eventReg a) s (fireOpen s) := by
  let shown := (s.setF F.SYS_STAT_FIRE 0).setF F.SYS_STAT_FIREDROP_SEEN 1
  have regs : RegsBut (fun a => airReg a ∨ eventReg a) s shown :=
    ((RegsBut.refl s).setF (.inl (.inr (.inl rfl)))).setF (.inl (.inr (.inl rfl)))
  have posts := healthEvent_posts shown 0 0 0xD3 0 (sysStat shown)
  have posted := regs.trans (posts.2.mono fun _ => Or.inr)
  have drop := solFireDrop_solOnly (healthEvent shown 0 0 0xD3 0 (sysStat shown))
  unfold fireOpen
  dsimp only
  split
  · exact ⟨drop.mtr.trans posts.mtr, drop.elapsed.trans posts.elapsed,
      posted.trans (drop.2.mono fun a => Or.imp_left fun h => .inr (.inr h))⟩
  · exact ⟨posts.mtr, posts.elapsed, posted⟩

theorem fireUpdate_axes (s : State) : (fireUpdate s).mtr = s.mtr ∧ MtrSpan p s (fireUpdate s) := by
  let ended := { s with sys := { s.sys with fireSince := none } }
  obtain ⟨mtr, elapsed, regs⟩ := fireOpen_axes ended
  unfold fireUpdate
  split
  · split
    · exact ⟨rfl, MtrSpan.refl s⟩
    · exact ⟨rfl, rfl, RegsBut.refl s, fun _ => ⟨rfl, RegsBut.refl s⟩⟩
  · dsimp only
    split
    · next given => exact ⟨mtr, elapsed, regs.mono fun _ => Or.inr, fun hf => absurd (hf.symm.trans given) (by decide)⟩
    · exact ⟨rfl, rfl, RegsBut.refl s, fun _ => ⟨rfl, RegsBut.refl s⟩⟩

/-- A failed airflow condition leaves the axes. -/
theorem afFail_axes (hp : ¬ p R.SYS_STAT.addr) (s : State) (n : Nat) :
    (afFail s n).mtr = s.mtr ∧ MtrSpan p s (afFail s n) := by
  let judged := { s with fan := { s.fan with afGood := tabDrop s.fan.afGood n } }
  let fallen := judged.setF F.FAN_AFSTAT_AIRFLOW_OK 0
  have judging : MtrSpan p s judged := ⟨rfl, RegsBut.refl s, fun _ => ⟨rfl, RegsBut.refl s⟩⟩
  have falling : MtrSpan p s fallen :=
    ⟨rfl, judging.regs.setF (.inr (.inl (.inl rfl))), fun _ => ⟨rfl, (RegsBut.refl s).setF (.inl (.inr rfl))⟩⟩
  have posts : Posts fallen (fanEvent fallen 0xB2 0 (word (afFailing fallen))) := event_posts (by decide) _ _ _ _ _
  obtain ⟨mtr, span⟩ := fireUpdate_axes (p := p) (fanEvent fallen 0xB2 0 (word (afFailing fallen)))
  unfold afFail
  dsimp only
  split
  · exact ⟨mtr.trans posts.mtr, (falling.posts posts).trans hp span⟩
  · exact ⟨rfl, judging⟩

/-! ### An axis enters a state -/

/-- What stands behind axis `n` as it enters a state with gates `g`. -/
def axisLeft (s : State) (n g : Nat) : MtrX :=
  { s.mtrX n with gates := g, leftOff := if s.axis n = axOff then s.elapsed else (s.mtrX n).leftOff,
                  stallFrom := none, unlockFrom := none, tachBad := none, tachGone := none }

theorem mtrGo_axes (s : State) (hn : n < 8) (st g : Nat) :
    (mtrGo s n st g).mtr = tabPut s.mtr n (axisLeft s n g) ∧
      MtrSpan (· = R.MTR_STAT.addr n) s (mtrGo s n st g) ∧
      (mtrGo s n st g).rd R.MTR_STAT n = putBits (s.rd R.MTR_STAT n) 2 0 st := by
  let gone := (s.setF F.MTR_STAT_STATE st n).setMtr n (axisLeft s n g)
  have notSys : R.SYS_STAT.addr ≠ R.MTR_STAT.addr n := by simp only [RegDesc.addr, R.SYS_STAT, R.MTR_STAT]; omega
  have span : MtrSpan (· = R.MTR_STAT.addr n) s gone := ((MtrSpan.refl (p := (· = R.MTR_STAT.addr n)) s).setF rfl).setMtr _ _
  have stat : gone.rd R.MTR_STAT n = putBits (s.rd R.MTR_STAT n) 2 0 st := s.rd_setF_same F.MTR_STAT_STATE st n 0
  obtain ⟨mtr, fails⟩ := afFail_axes (p := fun _ => False) id gone n
  unfold mtrGo
  dsimp only
  split
  · refine ⟨mtr, span.trans notSys (fails.mono fun _ h => h.elim), (fails.rd id (.inl ?_)).trans stat⟩
    simp only [RegDesc.addr, R.MTR_STAT]; omega
  · exact ⟨rfl, span, stat⟩

end Sys2Proof.Machine

/-! Trips and losses of an axis (R36, R368, R369), and the end of its hold (R557). -/

namespace Sys2Proof.Machine

open Sys2Proof.Claims

variable {s t u : State} {p q : Nat → Prop} {n m : Nat}

/-! ### Registers of the axes -/

theorem heldm_side : axisSide R.SYS_HELDM.addr := .inr rfl

theorem mtrStat_side (hn : n < 8) : axisSide (R.MTR_STAT.addr n) := by
  left; simp only [RegDesc.addr, R.MTR_STAT]; omega

theorem mtrStat_mtrRegs (n : Nat) : mtrRegs n (R.MTR_STAT.addr n) := by
  simp only [mtrRegs, RegDesc.addr, R.MTR_STAT]; omega

theorem mtrStat_ne_heldm (n : Nat) : R.MTR_STAT.addr n ≠ R.SYS_HELDM.addr := by
  simp only [RegDesc.addr, R.MTR_STAT, R.SYS_HELDM]; omega

theorem mtrRegs_not_sysStat (n : Nat) : ¬ mtrRegs n R.SYS_STAT.addr := by
  simp only [mtrRegs, RegDesc.addr, R.SYS_STAT]; omega

/-- Events leave the registers of the axes. -/
theorem Posts.rd_axis (h : Posts s t) {d : RegDesc} {i j : Nat} (ha : axisSide (d.addr i j)) : t.rd d i j = s.rd d i j :=
  h.2.rd fun he => axisSide_quiet ha (.inr he)

/-- What a span of axis `n` and `p` leaves, as the statements say it. -/
theorem mtrOnly_of_span (others : ∀ m, m ≠ n → t.mtrX m = s.mtrX m) (span : MtrSpan (fun a => mtrRegs n a ∨ p a) s t) :
    mtrOnly n p s t :=
  ⟨others, fun hf => noisy_mono (span.calm hf) fun a h => by tauto⟩

theorem mtrEvent_posts (s : State) (n code detail : Nat) (v : Word) : Posts s (mtrEvent s n code detail v) :=
  event_posts (by decide) s _ _ _ _

/-! ### The end of a hold -/

theorem maskBit_setMask_false (s : State) (d : RegDesc) (hn : n < 32) : maskBit ((s.setMask d n false).rd d) n = false := by
  simp [State.setMask, maskBit, testBit_putBits, bit, hn]

theorem mtrHoldEnd_axes (s : State) (hn : n < 8) (cause : Nat) :
    (mtrHoldEnd s n cause).mtrHeld n = false ∧ (∀ m, m ≠ n → (mtrHoldEnd s n cause).mtrX m = s.mtrX m) ∧
      (∃ b, (mtrHoldEnd s n cause).mtrX n = { s.mtrX n with auto := b }) ∧
      MtrSpan (· = R.SYS_HELDM.addr) s (mtrHoldEnd s n cause) := by
  let freed := (s.setMask R.SYS_HELDM n false).setMtr n { s.mtrX n with auto := false }
  have posts : Posts freed (healthEvent freed 0 0 0xD2 cause (word (0x300 + n))) := healthEvent_posts _ _ _ _ _ _
  have span : MtrSpan (· = R.SYS_HELDM.addr) s freed := ((MtrSpan.refl (p := (· = R.SYS_HELDM.addr)) s).wr rfl).setMtr _ _
  unfold mtrHoldEnd
  split
  · refine ⟨?_, fun m h => (posts.mtrX m).trans (State.setMtr_mtrX_ne _ (Ne.symm h) _),
      ⟨false, (posts.mtrX n).trans (State.setMtr_mtrX _ n _)⟩, span.posts posts⟩
    exact (congrArg (maskBit · n) (posts.rd_axis heldm_side)).trans (maskBit_setMask_false s R.SYS_HELDM (by omega))
  · next free => exact ⟨by simpa using free, fun _ _ => rfl, ⟨_, rfl⟩, MtrSpan.refl s⟩

/-- Axis `n` has entered a state, which its events tell; then its hold ends. -/
theorem mtrHoldEnd_after (hn : n < 8) (others : ∀ m, m ≠ n → t.mtrX m = s.mtrX m)
    (span : MtrSpan (· = R.MTR_STAT.addr n) s t) (posts : Posts t u) (cause : Nat) :
    (mtrHoldEnd u n cause).mtrHeld n = false ∧ (∃ b, (mtrHoldEnd u n cause).mtrX n = { t.mtrX n with auto := b }) ∧
      (mtrHoldEnd u n cause).rd R.MTR_STAT n = t.rd R.MTR_STAT n ∧
      mtrOnly n (fun a => a = R.SYS_HELDM.addr) s (mtrHoldEnd u n cause) := by
  obtain ⟨free, rest, ⟨b, mine⟩, ends⟩ := mtrHoldEnd_axes u hn cause
  refine ⟨free, ⟨b, by rw [mine, posts.mtrX]⟩,
    (ends.rd (mtrStat_ne_heldm n) (mtrStat_side hn)).trans (posts.rd_axis (mtrStat_side hn)),
    mtrOnly_of_span (fun m h => ((rest m h).trans (posts.mtrX m)).trans (others m h)) ?_⟩
  refine ((span.posts posts).mono fun a h => .inl (h ▸ mtrStat_mtrRegs n)).trans ?_ (ends.mono fun a => Or.inr)
  exact fun h => h.elim (mtrRegs_not_sysStat n) (by decide)

/-! ### Trips -/

/-- The state of an axis shows in the low bits of its status word. -/
theorem axis_of_stat {w : Word} {st : Nat} (h : t.rd R.MTR_STAT n = putBits w 2 0 st) : t.axis n = st % 8 := by
  have low := bits_putBits_same w (hi := 2) (lo := 0) st (by decide) (by decide)
  simpa [State.axis, State.f, F.MTR_STAT_STATE, h] using low

/-- Axis `n` shows its trip: TRIP_SEEN, the cause, and the instant. -/
def tripShown (s : State) (n cause : Nat) : State :=
  let s := (s.setF F.MTR_STAT_TRIP_SEEN 1 n).setF F.MTR_STAT_TRIP_CAUSE cause n
  s.setMtr n { s.mtrX n with tripAt := some s.elapsed }

theorem mtrTrip_eq (on : s.axis n ≠ axLost) (cause : Nat) (cur : Word) :
    mtrTrip s n cause cur = mtrHoldEnd (mtrEvent (tripShown (mtrGo s n axTripped 0) n cause) n 0xA0 cause cur) n 3 :=
  if_neg on

theorem tripShown_mtrX (s : State) (n cause : Nat) :
    (tripShown s n cause).mtrX n = { s.mtrX n with tripAt := some s.elapsed } := by
  simp only [tripShown, State.setMtr_mtrX, State.setF_mtrX, State.setF_elapsed]

theorem tripShown_mtrX_ne (s : State) (cause : Nat) (h : m ≠ n) : (tripShown s n cause).mtrX m = s.mtrX m :=
  State.setMtr_mtrX_ne _ (Ne.symm h) _

theorem tripShown_stat (s : State) (n cause : Nat) : (tripShown s n cause).rd R.MTR_STAT n =
    putBits (putBits (s.rd R.MTR_STAT n) 25 25 1) 18 16 cause :=
  (State.rd_setF_same _ F.MTR_STAT_TRIP_CAUSE cause n 0).trans
    (congrArg (putBits · 18 16 cause) (s.rd_setF_same F.MTR_STAT_TRIP_SEEN 1 n 0))

theorem tripShown_span (h : MtrSpan (· = R.MTR_STAT.addr n) s t) (cause : Nat) :
    MtrSpan (· = R.MTR_STAT.addr n) s (tripShown t n cause) :=
  MtrSpan.setMtr (MtrSpan.setF (MtrSpan.setF h rfl) rfl) n _

/-- The status word of an axis that trips: its state, TRIP_SEEN and the cause. -/
theorem trip_stat {w : Word} {cause : Nat} (hc : cause < 8)
    (h : t.rd R.MTR_STAT n = putBits (putBits (putBits w 2 0 axTripped) 25 25 1) 18 16 cause) :
    t.axis n = 6 ∧ t.fb F.MTR_STAT_TRIP_SEEN n = true ∧ t.f F.MTR_STAT_TRIP_CAUSE n = cause := by
  simp [State.axis, State.fb, State.f, F.MTR_STAT_STATE, F.MTR_STAT_TRIP_SEEN, F.MTR_STAT_TRIP_CAUSE, h,
    bits_putBits_same, bits_putBits_ne, axTripped, Nat.mod_eq_of_lt hc]

theorem mtrGo_mtrX (s : State) (hn : n < 8) (st g : Nat) : (mtrGo s n st g).mtrX n = axisLeft s n g := by
  rw [State.mtrX, (mtrGo_axes s hn st g).1, tabGet_tabPut_same]

theorem mtrGo_mtrX_ne (s : State) (hn : n < 8) (st g : Nat) (h : m ≠ n) : (mtrGo s n st g).mtrX m = s.mtrX m := by
  rw [State.mtrX, (mtrGo_axes s hn st g).1, tabGet_tabPut_ne (Ne.symm h), ← State.mtrX]

theorem mtrTrip_trips (s : State) (hn : n < 8) (on : s.axis n ≠ axLost) {cause : Nat} (hc : cause < 8) (cur : Word) :
    axisIs (mtrTrip s n cause cur) n 6 0 ∧ (mtrTrip s n cause cur).fb F.MTR_STAT_TRIP_SEEN n = true ∧
      (mtrTrip s n cause cur).f F.MTR_STAT_TRIP_CAUSE n = cause ∧
      ((mtrTrip s n cause cur).mtrX n).tripAt = some s.elapsed ∧ (mtrTrip s n cause cur).mtrHeld n = false ∧
      mtrOnly n (fun a => a = R.SYS_HELDM.addr) s (mtrTrip s n cause cur) := by
  obtain ⟨-, span, stat⟩ := mtrGo_axes s hn axTripped 0
  have others (m : Nat) (h : m ≠ n) := (tripShown_mtrX_ne (mtrGo s n axTripped 0) cause h).trans (mtrGo_mtrX_ne s hn _ _ h)
  obtain ⟨free, ⟨b, mine⟩, word, only⟩ := mtrHoldEnd_after hn others (tripShown_span span cause)
    (mtrEvent_posts _ n 0xA0 cause cur) 3
  rw [tripShown_stat, stat] at word
  rw [tripShown_mtrX, mtrGo_mtrX s hn, span.elapsed] at mine
  obtain ⟨axis, seen, why⟩ := trip_stat hc word
  rw [mtrTrip_eq on]
  exact ⟨⟨axis, congrArg MtrX.gates mine⟩, seen, why, congrArg MtrX.tripAt mine, free, only⟩

/-! ### Losses -/

theorem mtrLose_loses (s : State) (hn : n < 8) :
    axisIs (mtrLose s n) n 7 0 ∧ (mtrLose s n).mtrHeld n = false ∧
      mtrOnly n (fun a => a = R.SYS_HELDM.addr) s (mtrLose s n) := by
  obtain ⟨-, span, stat⟩ := mtrGo_axes s hn axLost 0
  obtain ⟨free, ⟨b, mine⟩, word, only⟩ := mtrHoldEnd_after hn (fun m h => mtrGo_mtrX_ne s hn axLost 0 h) span
    ((ringPost_posts (n := 18) (by decide) _ (eventBead (mtrGo s n axLost 0) (0x300 + n) 0xA6 0 0)).trans
      (logRecord_posts _ _ _)) 3
  rw [stat] at word
  rw [mtrGo_mtrX s hn] at mine
  exact ⟨⟨axis_of_stat word, congrArg MtrX.gates mine⟩, free, only⟩

end Sys2Proof.Machine

/-! Hold-offs of the bridges: a hot bridge, and VDRV above or below its limits (R349, R363, R368, R369). -/

namespace Sys2Proof.Machine

open Sys2Proof.Claims

variable {s t u : State} {p q : Nat → Prop} {n m : Nat}

/-! ### A hold-off begins -/

/-- What a hold-off does to the state of axis `n`: a starting or running one goes OFF with gates off. -/
def heldOff (s t : State) (n : Nat) : Prop :=
  if s.axis n = 1 ∨ s.axis n = 2 ∨ s.axis n = 3 then axisIs t n 0 0 else t.axis n = s.axis n

/-- What axis `n` is and does is the same in `s` and `t`. -/
def axisSame (s t : State) (n : Nat) : Prop := t.mtrX n = s.mtrX n ∧ t.rd R.MTR_STAT n = s.rd R.MTR_STAT n

theorem axisSame.trans (h : axisSame s t n) (h' : axisSame t u n) : axisSame s u n :=
  ⟨h'.1.trans h.1, h'.2.trans h.2⟩

theorem axisSame.axis (h : axisSame s t n) : t.axis n = s.axis n := by simp only [State.axis, State.f, F.MTR_STAT_STATE, h.2]

theorem heldOff_same (h : heldOff s t n) (h' : axisSame t u n) : heldOff s u n := by
  simpa only [heldOff, axisIs, h'.axis, h'.1] using h

theorem heldOff_of_same (h : axisSame s t n) (h' : heldOff t u n) : heldOff s u n := by
  simpa only [heldOff, h.axis] using h'

theorem Posts.axisSame (h : Posts s t) (hn : n < 8) : axisSame s t n := ⟨h.mtrX n, h.rd_axis (mtrStat_side hn)⟩

theorem mtrStat_inj (h : R.MTR_STAT.addr m = R.MTR_STAT.addr n) : m = n := by
  simp only [RegDesc.addr, R.MTR_STAT] at h; omega

theorem mtrHeldOff_axes (s : State) (hn : n < 8) :
    heldOff s (mtrHeldOff s n) n ∧ (∀ m, m ≠ n → (mtrHeldOff s n).mtrX m = s.mtrX m) ∧
      MtrSpan (· = R.MTR_STAT.addr n) s (mtrHeldOff s n) := by
  unfold mtrHeldOff
  split
  · next run =>
    obtain ⟨-, span, stat⟩ := mtrGo_axes s hn axOff 0
    exact ⟨(if_pos run).mpr ⟨axis_of_stat stat, by rw [mtrGo_mtrX s hn]; rfl⟩, fun m => mtrGo_mtrX_ne s hn axOff 0, span⟩
  · next rest =>
    split
    · exact ⟨(if_neg rest).mpr rfl, fun m h => State.setMtr_mtrX_ne _ (Ne.symm h) _, (MtrSpan.refl s).setMtr _ _⟩
    · exact ⟨(if_neg rest).mpr rfl, fun _ _ => rfl, MtrSpan.refl s⟩

/-- A hold-off of axis `n` that its event tells. -/
theorem heldOffEvent_axes (s : State) (hn : n < 8) (kind : Nat) :
    heldOff s (holdOffEvent (mtrHeldOff s n) n kind true) n ∧
      (∀ m, m < 8 → m ≠ n → axisSame s (holdOffEvent (mtrHeldOff s n) n kind true) m) ∧
      (∀ m, m ≠ n → (holdOffEvent (mtrHeldOff s n) n kind true).mtrX m = s.mtrX m) ∧
      MtrSpan (· = R.MTR_STAT.addr n) s (holdOffEvent (mtrHeldOff s n) n kind true) := by
  obtain ⟨off, others, span⟩ := mtrHeldOff_axes s hn
  have posts : Posts (mtrHeldOff s n) (holdOffEvent (mtrHeldOff s n) n kind true) := mtrEvent_posts _ _ _ _ _
  refine ⟨heldOff_same off (posts.axisSame hn), fun m hm h => ⟨(posts.mtrX m).trans (others m h), ?_⟩,
    fun m h => (posts.mtrX m).trans (others m h), span.posts posts⟩
  exact (posts.rd_axis (mtrStat_side hm)).trans (span.rd (fun e => h (mtrStat_inj e)) (mtrStat_side hm))

/-- The status word of an axis below 8. -/
def axisStat (a : Nat) : Prop := ∃ m < 8, a = R.MTR_STAT.addr m

theorem axisStat_not_sysStat : ¬ axisStat R.SYS_STAT.addr := by
  rintro ⟨m, -, h⟩
  exact mtrRegs_not_sysStat m (h ▸ mtrStat_mtrRegs m)

/-- A supply fault holds off every bridge of the list. -/
theorem foldl_heldOff (l : List Nat) (kind : Nat) : ∀ s : State, l.Nodup → (∀ m ∈ l, m < 8) →
    let t := l.foldl (fun s n => holdOffEvent (mtrHeldOff s n) n kind true) s
    (∀ m ∈ l, heldOff s t m) ∧ (∀ m < 8, m ∉ l → axisSame s t m) ∧ (∀ m, m ∉ l → t.mtrX m = s.mtrX m) ∧
      MtrSpan axisStat s t := by
  induction l with
  | nil => exact fun s _ _ => ⟨by simp, fun _ _ _ => ⟨rfl, rfl⟩, fun _ _ => rfl, MtrSpan.refl s⟩
  | cons n l ih =>
    intro s distinct small
    obtain ⟨fresh, distinct⟩ := List.nodup_cons.mp distinct
    have hn := small n List.mem_cons_self
    obtain ⟨off, same, others, span⟩ := heldOffEvent_axes s hn kind
    obtain ⟨offs, sames, rest, spans⟩ :=
      ih (holdOffEvent (mtrHeldOff s n) n kind true) distinct fun m hm => small m (List.mem_cons_of_mem n hm)
    refine ⟨fun m hm => ?_, fun m hm h => ?_, fun m h => ?_, (span.mono ?_).trans axisStat_not_sysStat spans⟩
    · rcases List.mem_cons.mp hm with rfl | hm
      · exact heldOff_same off (sames m hn fresh)
      · exact heldOff_of_same (same m (small m (List.mem_cons_of_mem n hm)) (fun e => fresh (e ▸ hm))) (offs m hm)
    · obtain ⟨hne, hl⟩ := not_or.mp (List.mem_cons.not.mp h)
      exact (same m hm hne).trans (sames m hm hl)
    · obtain ⟨hne, hl⟩ := not_or.mp (List.mem_cons.not.mp h)
      exact (rest m hl).trans (others m hne)
    · exact fun a h => ⟨n, hn, h⟩

/-! ### A hold-off ends -/

/-- What stands behind axis `n` of `s` as a hold-off ends: enabled in OFF, it applies the stop action of `t`. -/
def stopResumed (s t : State) (n : Nat) : MtrX :=
  if s.axis n = 0 ∧ s.fb F.MTR_CTL_EN n = true then { s.mtrX n with gates := mtrStopGates t n } else s.mtrX n

theorem mtrOffGates_mtrX (s : State) (n : Nat) : (mtrOffGates s n).mtrX n = stopResumed s s n := by
  unfold mtrOffGates stopResumed
  split
  · next resumes => exact (State.setMtr_mtrX _ n _).trans (if_pos resumes).symm
  · next rests => exact (if_neg rests).symm

theorem mtrOffGates_mtrX_ne (s : State) (h : m ≠ n) : (mtrOffGates s n).mtrX m = s.mtrX m := by
  unfold mtrOffGates
  split
  · exact State.setMtr_mtrX_ne _ (Ne.symm h) _
  · rfl

theorem mtrOffGates_noisy (s : State) (n : Nat) : noisy noMtr p s (mtrOffGates s n) := by
  unfold mtrOffGates
  split
  · exact ⟨rfl, RegsBut.refl s⟩
  · exact noisy_refl s

/-- The registers that the stop action of axis `n` looks at. -/
def stopReg (n a : Nat) : Prop :=
  a = R.SYS_STAT.addr ∨ a = R.MTR_STAT.addr n ∨ a = R.MTR_CTL.addr n ∨ a = R.MTR_GSTAT.addr

theorem stopReg_not_event (hn : n < 8) {a : Nat} (h : stopReg n a) : ¬ eventReg a := by
  intro he
  have area := eventReg_area he
  simp only [stopReg, RegDesc.addr, R.SYS_STAT, R.MTR_STAT, R.MTR_CTL, R.MTR_GSTAT] at h
  omega

theorem mtrStopGates_congr (h : RegsBut p s t) (hp : ∀ a, stopReg n a → ¬ p a) : mtrStopGates t n = mtrStopGates s n := by
  have safe := h.fb (fl := F.SYS_STAT_SS) (i := 0) (j := 0) (hp _ (.inl rfl))
  have hot := h.fb (fl := F.MTR_STAT_HOT) (i := n) (j := 0) (hp _ (.inr (.inl rfl)))
  have high := h.fb (fl := F.MTR_GSTAT_OVERV) (i := 0) (j := 0) (hp _ (.inr (.inr (.inr rfl))))
  have low := h.fb (fl := F.MTR_GSTAT_UNDERV) (i := 0) (j := 0) (hp _ (.inr (.inr (.inr rfl))))
  have stop := h.f (fl := F.MTR_CTL_STOPMODE) (i := n) (j := 0) (hp _ (.inr (.inr (.inl rfl))))
  have off : mtrHoldOff t n = mtrHoldOff s n := by simp only [mtrHoldOff, safe, hot, high, low]
  simp only [mtrStopGates, off, stop]

theorem stopResumed_congr {s' t' : State} (axis : s'.axis n = s.axis n) (en : s'.fb F.MTR_CTL_EN n = s.fb F.MTR_CTL_EN n)
    (mtrX : s'.mtrX n = s.mtrX n) (gates : mtrStopGates t' n = mtrStopGates t n) :
    stopResumed s' t' n = stopResumed s t n := by
  simp only [stopResumed, axis, en, mtrX, gates]

/-- Events change nothing of what the end of a hold-off does. -/
theorem Posts.stopResumed (h : Posts s t) (hn : n < 8) : stopResumed t t n = stopResumed s s n :=
  stopResumed_congr (h.axisSame hn).axis (h.2.fb (stopReg_not_event hn (.inr (.inr (.inl rfl))))) (h.mtrX n)
    (mtrStopGates_congr h.2 fun _ => stopReg_not_event hn)

/-- Axes that are enabled in OFF apply their stop action, and nothing else changes but what events leave. -/
theorem resumeEvent_axes (s : State) (hn : n < 8) (kind : Nat) :
    (mtrOffGates (holdOffEvent s n kind false) n).mtrX n = stopResumed s s n ∧
      (∀ m, m ≠ n → (mtrOffGates (holdOffEvent s n kind false) n).mtrX m = s.mtrX m) ∧
      noisy noMtr noneElse s (mtrOffGates (holdOffEvent s n kind false) n) := by
  have posts : Posts s (holdOffEvent s n kind false) := mtrEvent_posts _ _ _ _ _
  exact ⟨(mtrOffGates_mtrX _ n).trans (posts.stopResumed hn),
    fun m h => (mtrOffGates_mtrX_ne _ h).trans (posts.mtrX m),
    noisy_trans (noisy_of_posts (fun _ => rfl) posts) (mtrOffGates_noisy _ n)⟩

theorem noisy_noneElse_regs {e : State → State} (h : noisy e noneElse s t) : RegsBut eventReg s t :=
  h.2.mono fun _ ha => ha.elim False.elim id

/-- The end of a supply fault, for every bridge of the list. -/
theorem foldl_resume (l : List Nat) (kind : Nat) : ∀ s : State, l.Nodup → (∀ m ∈ l, m < 8) →
    let t := l.foldl (fun s n => mtrOffGates (holdOffEvent s n kind false) n) s
    (∀ m ∈ l, t.mtrX m = stopResumed s s m) ∧ (∀ m, m ∉ l → t.mtrX m = s.mtrX m) ∧ noisy noMtr noneElse s t := by
  induction l with
  | nil => exact fun s _ _ => ⟨by simp, fun _ _ => rfl, noisy_refl s⟩
  | cons n l ih =>
    intro s distinct small
    obtain ⟨fresh, distinct⟩ := List.nodup_cons.mp distinct
    obtain ⟨mine, others, step⟩ := resumeEvent_axes s (small n List.mem_cons_self) kind
    obtain ⟨rest, still, steps⟩ :=
      ih (mtrOffGates (holdOffEvent s n kind false) n) distinct fun m hm => small m (List.mem_cons_of_mem n hm)
    refine ⟨fun m hm => ?_, fun m h => ?_, noisy_trans step steps⟩
    · rcases List.mem_cons.mp hm with rfl | hl
      · exact (still m fresh).trans mine
      · have regs := noisy_noneElse_regs step
        have hm := small m hm
        refine (rest m hl).trans (stopResumed_congr ?_ ?_ (others m fun e => fresh (e ▸ hl)) ?_)
        · exact regs.f (stopReg_not_event hm (.inr (.inl rfl)))
        · exact regs.fb (stopReg_not_event hm (.inr (.inr (.inl rfl))))
        · exact mtrStopGates_congr regs fun _ => stopReg_not_event hm
    · obtain ⟨hne, hl⟩ := not_or.mp (List.mem_cons.not.mp h)
      exact (still m hl).trans (others m hne)

/-! ### VDRV -/

/-- A measurement of VDRV shows in MTR_VDRV and BUSLIM, and changes no other flag. -/
theorem busVdrv_shows (s : State) (mv : BitVec 32) :
    (busVdrv s mv.toNat).rd R.MTR_VDRV = mv ∧
      (busVdrv s mv.toNat).fb F.MTR_GSTAT_BUSLIM =
        (if 63000 < mv.toNat then true else if mv.toNat < 62000 then false else s.fb F.MTR_GSTAT_BUSLIM) ∧
      ∀ fl : Fld, fl.reg = R.MTR_GSTAT → fl.hi < 2 → (busVdrv s mv.toNat).fb fl = s.fb fl := by
  let read := s.wr R.MTR_VDRV (word mv.toNat)
  have word : read.rd R.MTR_GSTAT = s.rd R.MTR_GSTAT := s.rd_wr_ne (by decide)
  have gstat (fl : Fld) (h : fl.reg = R.MTR_GSTAT) : read.fb fl = s.fb fl := by simp only [State.fb, State.f, h, word]
  have vdrv : read.rd R.MTR_VDRV = mv := (s.rd_wr_same _ _ 0 0).trans (by simp)
  have kept (v : Nat) : (read.setF F.MTR_GSTAT_BUSLIM v).rd R.MTR_VDRV = mv := (read.rd_setF_ne (by decide)).trans vdrv
  have beside (v : Nat) (fl : Fld) (h : fl.reg = R.MTR_GSTAT) (hi : fl.hi < 2) :
      (read.setF F.MTR_GSTAT_BUSLIM v).fb fl = s.fb fl :=
    (read.fb_setF_beside v 0 0 h.symm (by decide) (by omega) (.inl hi)).trans (gstat fl h)
  have lim (v : Nat) := read.fb_setF_same F.MTR_GSTAT_BUSLIM v 0 0 (by decide) (by decide)
  unfold busVdrv
  split
  · exact ⟨kept 1, lim 1, beside 1⟩
  · dsimp only
    split
    · exact ⟨kept 0, lim 0, beside 0⟩
    · exact ⟨vdrv, gstat _ rfl, fun fl h _ => gstat fl h⟩

/-- The registers of a measurement of VDRV. -/
def vdrvReg (a : Nat) : Prop := a = R.MTR_GSTAT.addr ∨ a = R.MTR_VDRV.addr

theorem busVdrv_quiet (s : State) (mv : Nat) : { busVdrv s mv with regs := s.regs, w1cSet := s.w1cSet } = s ∧
    RegsBut vdrvReg s (busVdrv s mv) := by
  have read : RegsBut vdrvReg s (s.wr R.MTR_VDRV (word mv)) := (RegsBut.refl s).wr (.inr rfl)
  unfold busVdrv
  split
  · exact ⟨rfl, read.setF (.inl rfl)⟩
  · dsimp only
    split
    · exact ⟨rfl, read.setF (.inl rfl)⟩
    · exact ⟨rfl, read⟩

end Sys2Proof.Machine

/-! The commands of trips, losses, bridge temperatures and VDRV (R349, R363, R368, R369). -/

namespace Sys2Proof.Machine

open Sys2Proof.Claims

variable {s t u : State} {p q : Nat → Prop} {n m : Nat}

/-! ### Commands that wait their turn -/

/-- A command in front of its step acts at once. -/
theorem goesTo_of_act {i : Instr} {c : Later} {P : State → Prop} (held : heldAs i = some c) (turn : exec i s = inTurn c s)
    (act : P (laterAct s c)) : goesTo i s P := by
  rintro ⟨none, first⟩
  refine ⟨laterAct s c, ?_, act⟩
  simp [turn, inTurn, first c held, none, heldRun]

/-! ### Trips -/

theorem ratAbs_eq (x : Rat) : ratAbs x = |x| := abs_eq_max_neg.symm

/-- The current that the guard filter gives (R351). -/
theorem guardCurrent_eq (s : State) (n ones : Nat) :
    guardCurrent s n ones = |(2 * (ones : Rat) / 4096 - 1) * (s.f F.MTR_SDFS_SD_FS n : Rat)| := by
  rw [guardCurrent, ratAbs_eq]
  push_cast
  rfl

/-- Each trip of R368, where it is detected, trips the axis with its own cause. -/
theorem tripCommand_trips (n : Fin 8) (on : s.domOn 7 = true) {c : Instr} {cause : Nat} {cur : BitVec 32} {ones : BitVec 13}
    {P : State → Prop} (trips : ∀ cur, cause < 8 → P (mtrTrip s n cause cur))
    (why : (c = .phaseOvercurrentTrip n cur ∧ cause = 1 ∧ (n.val < 4 ∧ s.hasAxis n = true) ∧
          s.f F.MTR_OCL_OC_LIM n ≤ cur.toNat) ∨
        (c = .desaturationTrip n cur ∧ cause = 2 ∧ 4 ≤ n.val) ∨
        (c = .filteredOvercurrentTrip n ones ∧ cause = 3 ∧ 4 ≤ n.val ∧ ones.toNat ≤ 4096 ∧
          (s.f F.MTR_OCL_OC_LIM n : Rat) < |(2 * (ones.toNat : Rat) / 4096 - 1) * (s.f F.MTR_SDFS_SD_FS n : Rat)|) ∨
        (c = .phaseOpen n cur ∧ cause = 4 ∧ s.axis n = 3 ∧ ∃ q ∈ (s.mtrX n).openFrom, q.2 + 100000000 ≤ s.elapsed) ∨
        (c = .bitstreamLost n cur ∧ cause = 5 ∧ 4 ≤ n.val ∧ s.fb F.MTR_CTL_EN n = true)) :
    goesTo c s P := by
  have ready : ¬ (!s.domOn 7) = true := by simp [on]
  rcases why with ⟨rfl, rfl, ⟨low, axis⟩, above⟩ | ⟨rfl, rfl, high⟩ | ⟨rfl, rfl, high, few, above⟩ | ⟨rfl, rfl, run, q, mem, long⟩ |
    ⟨rfl, rfl, high, en⟩
  · refine goesTo_of_act rfl rfl ?_
    rw [show laterAct s (.mtrTrip .overcurrent n cur.toNat) = mtrTrip s n 1 (word cur.toNat) from
      (if_neg ready).trans (if_pos ⟨low, axis, above⟩)]
    exact trips _ (by decide)
  · refine goesTo_of_act rfl rfl ?_
    rw [show laterAct s (.mtrTrip .desaturation n cur.toNat) = mtrTrip s n 2 (word cur.toNat) from
      (if_neg ready).trans (if_pos high)]
    exact trips _ (by decide)
  · refine goesTo_of_act rfl rfl ?_
    rw [← guardCurrent_eq, ← Nat.min_eq_left few] at above
    rw [show laterAct s (.mtrTrip .filtered n ones.toNat) = mtrTrip s n 3 _ from (if_neg ready).trans (if_pos ⟨high, above⟩)]
    exact trips _ (by decide)
  · refine goesTo_of_act rfl rfl ?_
    rw [show laterAct s (.mtrTrip .phaseOpen n cur.toNat) = mtrTrip s n 4 (word cur.toNat) from
      (if_neg ready).trans (if_pos ⟨run, List.any_eq_true.mpr ⟨q, mem, decide_eq_true long⟩⟩)]
    exact trips _ (by decide)
  · refine goesTo_of_act rfl rfl ?_
    rw [show laterAct s (.mtrTrip .bitstream n cur.toNat) = mtrTrip s n 5 (word cur.toNat) from
      (if_neg ready).trans (if_pos ⟨high, en⟩)]
    exact trips _ (by decide)

/-! ### Bridge temperatures -/

theorem mtrTemp_side (hn : n < 8) : axisSide (R.MTR_TEMP.addr n) := by
  left; simp only [RegDesc.addr, R.MTR_TEMP]; omega

theorem mtrTemp_mtrRegs (n : Nat) : mtrRegs n (R.MTR_TEMP.addr n) := by
  simp only [mtrRegs, RegDesc.addr, R.MTR_TEMP]; omega

theorem mtrTemp_ne_mtrStat (n m : Nat) : R.MTR_TEMP.addr n ≠ R.MTR_STAT.addr m := by
  simp only [RegDesc.addr, R.MTR_TEMP, R.MTR_STAT]; omega

/-- Axis `n` shows the temperature of its bridge, and HOT. -/
def tempShown (s : State) (n : Nat) (temp : Word) (hot : Nat) : State :=
  (s.wr R.MTR_TEMP temp n).setF F.MTR_STAT_HOT hot n

theorem tempShown_shows (s : State) (n : Nat) (temp : Word) (hot : Nat) :
    (tempShown s n temp hot).fb F.MTR_STAT_HOT n = (hot % 2 != 0) ∧ (tempShown s n temp hot).rd R.MTR_TEMP n = temp ∧
      (tempShown s n temp hot).axis n = s.axis n ∧
      RegsBut (fun a => a = R.MTR_TEMP.addr n ∨ a = R.MTR_STAT.addr n) s (tempShown s n temp hot) ∧
      MtrSpan (mtrRegs n) s (tempShown s n temp hot) := by
  let read := s.wr R.MTR_TEMP temp n
  refine ⟨read.fb_setF_same F.MTR_STAT_HOT hot n 0 (by decide) (by decide), ?_, ?_, ?_, ?_⟩
  · exact (read.rd_setF_ne (mtrTemp_ne_mtrStat n n).symm).trans (s.rd_wr_same _ _ n 0)
  · exact (read.f_setF_beside (fl := F.MTR_STAT_HOT) (fl' := F.MTR_STAT_STATE) hot n 0 rfl (by decide) (by decide)
      (.inl (by decide))).trans (s.f_wr_ne (mtrTemp_ne_mtrStat n n))
  · exact ((RegsBut.refl s).wr (.inl rfl)).setF (.inr rfl)
  · exact ((MtrSpan.refl s).wr (mtrTemp_mtrRegs n)).setF (mtrStat_mtrRegs n)

theorem hot_wr_temp (s : State) (n : Nat) (temp : Word) :
    (s.wr R.MTR_TEMP temp n).fb F.MTR_STAT_HOT n = s.fb F.MTR_STAT_HOT n :=
  congrArg (· != 0) (s.f_wr_ne (mtrTemp_ne_mtrStat n n))

theorem mtrHeldOff_hot (s : State) (hn : n < 8) : (mtrHeldOff s n).fb F.MTR_STAT_HOT n = s.fb F.MTR_STAT_HOT n := by
  unfold mtrHeldOff
  split
  · simp [State.fb, State.f, F.MTR_STAT_HOT, (mtrGo_axes s hn axOff 0).2.2, bits_putBits_ne]
  · split <;> rfl

/-- A bridge at 150 °C that was not HOT. -/
theorem bridgeHot_stops (s : State) (hn : n < 8) (temp : Word) :
    let t := holdOffEvent (mtrHeldOff (tempShown s n temp 1) n) n 3 true
    t.fb F.MTR_STAT_HOT n = true ∧ t.rd R.MTR_TEMP n = temp ∧ heldOff s t n ∧ mtrOnly n noneElse s t := by
  obtain ⟨hot, read, axis, -, shown⟩ := tempShown_shows s n temp 1
  obtain ⟨off, -, others, span⟩ := heldOffEvent_axes (tempShown s n temp 1) hn 3
  have posts : Posts (mtrHeldOff (tempShown s n temp 1) n) _ := mtrEvent_posts _ n 0xA7 (bit true * 128 + 3)
    ((mtrHeldOff (tempShown s n temp 1) n).rd R.MTR_VDRV)
  refine ⟨?_, (span.rd (mtrTemp_ne_mtrStat n n) (mtrTemp_side hn)).trans read, ?_, mtrOnly_of_span others ?_⟩
  · exact (posts.2.fb fun h => axisSide_quiet (mtrStat_side hn) (.inr h)).trans ((mtrHeldOff_hot _ hn).trans hot)
  · simpa only [heldOff, axis] using off
  · exact (shown.mono fun _ => Or.inl).trans (fun h => h.elim (mtrRegs_not_sysStat n) id)
      (span.mono fun a h => .inl (h ▸ mtrStat_mtrRegs n))

/-- A HOT bridge below 130 °C. -/
theorem bridgeCool_resumes (s : State) (hn : n < 8) (temp : Word) :
    let t := mtrOffGates (holdOffEvent (tempShown s n temp 0) n 3 false) n
    t.fb F.MTR_STAT_HOT n = false ∧ t.rd R.MTR_TEMP n = temp ∧ t.axis n = s.axis n ∧ t.mtrX n = stopResumed s t n ∧
      mtrOnly n noneElse s t := by
  obtain ⟨hot, read, axis, shownRegs, shown⟩ := tempShown_shows s n temp 0
  obtain ⟨mine, others, step⟩ := resumeEvent_axes (tempShown s n temp 0) hn 3
  have regs := noisy_noneElse_regs step
  have ctl : (tempShown s n temp 0).fb F.MTR_CTL_EN n = s.fb F.MTR_CTL_EN n := shownRegs.fb (by
    simp only [F.MTR_CTL_EN, RegDesc.addr, R.MTR_CTL, R.MTR_TEMP, R.MTR_STAT]; omega)
  refine ⟨(regs.fb (stopReg_not_event hn (.inr (.inl rfl)))).trans hot, ?_, ?_, ?_, mtrOnly_of_span others ?_⟩
  · exact (regs.rd fun h => axisSide_quiet (mtrTemp_side hn) (.inr h)).trans read
  · exact (regs.f (stopReg_not_event hn (.inr (.inl rfl)))).trans axis
  · exact mine.trans (stopResumed_congr axis ctl rfl
      (mtrStopGates_congr regs fun _ => stopReg_not_event hn).symm)
  · exact (shown.mono fun _ => Or.inl).trans (fun h => h.elim (mtrRegs_not_sysStat n) id)
      ((MtrSpan.of_noisy step).mono fun _ => False.elim)

/-! ### VDRV -/

theorem mem_bridges : m ∈ s.bridges ↔ m < 4 ∧ s.hasAxis m = true := by
  simp [State.bridges]

theorem bridges_nodup (s : State) : s.bridges.Nodup := List.nodup_range.filter _

theorem mem_bridges_lt (h : m ∈ s.bridges) : m < 8 := by
  have low := (mem_bridges.mp h).1
  omega

/-- VDRV and BUSLIM show a measurement of `mv` mV. -/
def vdrvShown (s t : State) (mv : BitVec 32) : Prop :=
  t.rd R.MTR_VDRV = mv ∧ t.fb F.MTR_GSTAT_BUSLIM =
    (if 63000 < mv.toNat then true else if mv.toNat < 62000 then false else s.fb F.MTR_GSTAT_BUSLIM)

/-- Every bridge is held off, and nothing changes but the axes, AIRFLOW_OK and what a measurement of VDRV writes. -/
def bridgesStopped (s t : State) : Prop :=
  (∀ m, m < 4 → s.hasAxis m = true → heldOff s t m) ∧ (∀ m, 4 ≤ m → t.mtrX m = s.mtrX m) ∧
    (∀ m, 4 ≤ m → m < 8 → t.rd R.MTR_STAT m = s.rd R.MTR_STAT m) ∧
    (s.fb F.SYS_STAT_FIRE = false → noisy noMtr (fun a => (∃ m, m < 8 ∧ mtrRegs m a) ∨ a = R.FAN_AFSTAT.addr ∨
      a = R.MTR_GSTAT.addr ∨ a = R.MTR_VDRV.addr) s t)

/-- No axis changes its state; the bridges enabled in OFF apply their stop action. -/
def bridgesResumed (s t : State) : Prop :=
  (∀ m, m < 8 → t.axis m = s.axis m) ∧
    (∀ m, t.mtrX m = if m < 4 ∧ s.hasAxis m = true then stopResumed s t m else s.mtrX m) ∧
    noisy noMtr vdrvReg s t

/-- VDRV is measured as its flag `fl` takes `v`. -/
def supplyShown (s : State) (fl : Fld) (v : Nat) (mv : BitVec 32) : State := busVdrv (s.setF fl v) mv.toNat

theorem supplyShown_quiet (s : State) {fl : Fld} (hfl : fl.reg = R.MTR_GSTAT) (v : Nat) (mv : BitVec 32) :
    (∀ m, (supplyShown s fl v mv).mtrX m = s.mtrX m) ∧ (supplyShown s fl v mv).bridges = s.bridges ∧
      noisy noMtr vdrvReg s (supplyShown s fl v mv) := by
  obtain ⟨same, regs⟩ := busVdrv_quiet (s.setF fl v) mv.toNat
  have flag : RegsBut vdrvReg s (s.setF fl v) := (RegsBut.refl s).setF (.inl (by rw [hfl]))
  have mtrX (m : Nat) := congrArg (State.mtrX · m) same
  have bridges := congrArg State.bridges same
  have apart := congrArg (fun u => (noMtr u).apart) same
  exact ⟨mtrX, bridges, apart, (flag.trans regs).mono fun _ => Or.inl⟩

theorem vdrvReg_not_stat {d : RegDesc} (hn : n < 8) (lo : 0x42000000 ≤ d.base := by decide) (hi : d.base < 0x42001000 := by decide)
    (h1 : d.s1 = 0x1000 := by rfl) (h2 : d.s2 = 0 := by rfl) : ¬ vdrvReg (d.addr n) := by
  simp only [vdrvReg, RegDesc.addr, h1, h2, R.MTR_GSTAT, R.MTR_VDRV]
  omega

theorem vdrvReg_side {a : Nat} (h : vdrvReg a) : axisSide a := by
  simp only [vdrvReg, axisSide, RegDesc.addr, R.MTR_GSTAT, R.MTR_VDRV] at *
  omega

theorem vdrvReg_not_sysStat : ¬ vdrvReg R.SYS_STAT.addr := by
  unfold vdrvReg
  decide

theorem vdrvReg_not_axisStat {a : Nat} (h : vdrvReg a) : ¬ axisStat a := by
  rintro ⟨m, hm, rfl⟩
  exact absurd h (vdrvReg_not_stat hm)

/-- A supply fault stops the starting and running bridges. -/
theorem supplyFault_stops (s : State) {fl : Fld} (hfl : fl.reg = R.MTR_GSTAT) (v kind : Nat) (mv : BitVec 32) :
    let u := supplyShown s fl v mv
    let t := u.bridges.foldl (fun s n => holdOffEvent (mtrHeldOff s n) n kind true) u
    (∀ a, vdrvReg a → tabFind t.regs a = tabFind u.regs a) ∧ bridgesStopped s t := by
  obtain ⟨mtrX, bridges, shown⟩ := supplyShown_quiet s hfl v mv
  obtain ⟨offs, same, others, span⟩ := foldl_heldOff (supplyShown s fl v mv).bridges kind (supplyShown s fl v mv)
    (bridges_nodup _) fun _ => mem_bridges_lt
  have still (m : Nat) (hm : m < 8) : axisSame s (supplyShown s fl v mv) m :=
    ⟨mtrX m, noisy_rd shown (vdrvReg_not_stat hm) fun h => axisSide_quiet (mtrStat_side hm) (.inr h)⟩
  have high {m : Nat} (hm : 4 ≤ m) : m ∉ (supplyShown s fl v mv).bridges := fun h => by
    have low := (mem_bridges.mp h).1
    omega
  refine ⟨fun a ha => span.regs a fun h => h.elim (vdrvReg_not_axisStat ha) (axisSide_quiet (vdrvReg_side ha)),
    fun m hm ax => ?_, fun m hm => ?_, fun m hm h8 => ?_, ?_⟩
  · exact heldOff_of_same (still m (by omega)) (offs m (bridges ▸ mem_bridges.mpr ⟨hm, ax⟩))
  · exact (others m (high hm)).trans (mtrX m)
  · exact ((still m h8).trans (same m h8 (high hm))).2
  · have spans : MtrSpan (fun a => vdrvReg a ∨ axisStat a) s _ := ((MtrSpan.of_noisy shown).mono fun _ => Or.inl).trans
      (fun h => h.elim vdrvReg_not_sysStat axisStat_not_sysStat) (span.mono fun _ => Or.inr)
    refine fun hf => noisy_mono (spans.calm hf) fun a h => ?_
    rcases h with (h | ⟨m, hm, rfl⟩) | h
    · exact .inr (.inr h)
    · exact .inl ⟨m, hm, mtrStat_mtrRegs m⟩
    · exact .inr (.inl h)

/-- The end of a supply fault stops nothing. -/
theorem supplyEnd_resumes (s : State) {fl : Fld} (hfl : fl.reg = R.MTR_GSTAT) (v kind : Nat) (mv : BitVec 32) :
    let u := supplyShown s fl v mv
    let t := u.bridges.foldl (fun s n => mtrOffGates (holdOffEvent s n kind false) n) u
    (∀ a, vdrvReg a → tabFind t.regs a = tabFind u.regs a) ∧ bridgesResumed s t := by
  obtain ⟨mtrX, bridges, shown⟩ := supplyShown_quiet s hfl v mv
  obtain ⟨resumed, others, step⟩ := foldl_resume (supplyShown s fl v mv).bridges kind (supplyShown s fl v mv)
    (bridges_nodup _) fun _ => mem_bridges_lt
  have regs := noisy_noneElse_regs step
  have axis (m : Nat) (hm : m < 8) : (supplyShown s fl v mv).axis m = s.axis m :=
    shown.2.f fun h => h.elim (vdrvReg_not_stat hm) fun h => axisSide_quiet (mtrStat_side hm) (.inr h)
  refine ⟨fun a ha => regs a fun h => axisSide_quiet (vdrvReg_side ha) (.inr h), fun m hm => ?_, fun m => ?_,
    noisy_trans shown (noisy_mono step fun _ => False.elim)⟩
  · exact (regs.f (stopReg_not_event hm (.inr (.inl rfl)))).trans (axis m hm)
  · split
    · next is =>
      have hm : m < 8 := by omega
      refine (resumed m (bridges ▸ mem_bridges.mpr is)).trans (stopResumed_congr (axis m hm) ?_ (mtrX m) ?_)
      · exact shown.2.fb fun h => h.elim (vdrvReg_not_stat hm) (stopReg_not_event hm (.inr (.inr (.inl rfl))))
      · exact (mtrStopGates_congr regs fun _ => stopReg_not_event hm).symm
    · next isNot => exact (others m fun h => isNot (mem_bridges.mp (bridges ▸ h))).trans (mtrX m)

/-- What the events behind a measurement leave of the flag and of the measurement. -/
theorem supplyShown_shows (mv : BitVec 32) {fl : Fld} (v : Nat) (hfl : fl.reg = R.MTR_GSTAT) (hi : fl.hi < 2)
    (lo : fl.lo = fl.hi) (h : ∀ a, vdrvReg a → tabFind t.regs a = tabFind (supplyShown s fl v mv).regs a) :
    t.fb fl = (v % 2 != 0) ∧ vdrvShown s t mv := by
  have gstat : t.rd R.MTR_GSTAT = (supplyShown s fl v mv).rd R.MTR_GSTAT := by simp only [State.rd, tabGet, h _ (.inl rfl)]
  have vdrv : t.rd R.MTR_VDRV = (supplyShown s fl v mv).rd R.MTR_VDRV := by simp only [State.rd, tabGet, h _ (.inr rfl)]
  have flags (fl' : Fld) (h' : fl'.reg = R.MTR_GSTAT) : t.fb fl' = (supplyShown s fl v mv).fb fl' := by
    simp only [State.fb, State.f, h', gstat]
  have beside : (s.setF fl v).fb F.MTR_GSTAT_BUSLIM = s.fb F.MTR_GSTAT_BUSLIM :=
    s.fb_setF_beside v 0 0 hfl lo.le (by decide) (.inr hi)
  obtain ⟨shown, lim, others⟩ := busVdrv_shows (s.setF fl v) mv
  refine ⟨?_, vdrv.trans shown, ?_⟩
  · rw [flags fl hfl, supplyShown, others fl hfl hi, s.fb_setF_same fl v 0 0 lo.le (by omega), Fld.width, lo]
    simp
  · rw [flags _ rfl, supplyShown, lim, beside]

/-- A supply fault shows in its flag and with VDRV, and stops the bridges. -/
theorem supplyFault_shows (s : State) (mv : BitVec 32) {fl : Fld} (kind : Nat) (hfl : fl.reg = R.MTR_GSTAT) (hi : fl.hi < 2)
    (lo : fl.lo = fl.hi) :
    let u := supplyShown s fl 1 mv
    let t := u.bridges.foldl (fun s n => holdOffEvent (mtrHeldOff s n) n kind true) u
    t.fb fl = true ∧ vdrvShown s t mv ∧ bridgesStopped s t := by
  obtain ⟨regs, stopped⟩ := supplyFault_stops s hfl 1 kind mv
  obtain ⟨flag, shown⟩ := supplyShown_shows mv 1 hfl hi lo regs
  exact ⟨flag, shown, stopped⟩

/-- The end of a supply fault shows in its flag and with VDRV, and stops nothing. -/
theorem supplyEnd_shows (s : State) (mv : BitVec 32) {fl : Fld} (kind : Nat) (hfl : fl.reg = R.MTR_GSTAT) (hi : fl.hi < 2)
    (lo : fl.lo = fl.hi) :
    let u := supplyShown s fl 0 mv
    let t := u.bridges.foldl (fun s n => mtrOffGates (holdOffEvent s n kind false) n) u
    t.fb fl = false ∧ vdrvShown s t mv ∧ bridgesResumed s t := by
  obtain ⟨regs, resumed⟩ := supplyEnd_resumes s hfl 0 kind mv
  obtain ⟨flag, shown⟩ := supplyShown_shows mv 0 hfl hi lo regs
  exact ⟨flag, shown, resumed⟩

/-- A measurement of VDRV alone. -/
theorem buslim_shows (s : State) (mv : BitVec 32) :
    vdrvShown s (busVdrv s mv.toNat) mv ∧ quiet noRegs vdrvReg s (busVdrv s mv.toNat) := by
  obtain ⟨shown, lim, -⟩ := busVdrv_shows s mv
  obtain ⟨same, regs⟩ := busVdrv_quiet s mv.toNat
  have apart := congrArg (fun u => { noRegs u with w1cSet := [] }) same
  exact ⟨⟨shown, lim⟩, apart, regs⟩

theorem hasVdrv_iff (on : s.domOn 7 = true) : s.hasVdrv = true ↔ ∃ m, m < 4 ∧ s.hasAxis m = true := by
  simp only [State.hasVdrv, on, Bool.true_and, Bool.not_eq_true', List.isEmpty_eq_false_iff_exists_mem, mem_bridges]

/-- A chip without bridges ignores what VDRV does. -/
theorem vdrv_ignored (off : ¬ s.hasVdrv = true) (mv : BitVec 32) {c : Instr}
    (hc : c ∈ [Instr.vdrvOvervoltage mv, .vdrvOvervoltageEnd mv, .vdrvUndervoltage mv, .vdrvUndervoltageEnd mv, .buslim mv]) :
    exec c s = .next s := by
  simp only [List.mem_cons, List.not_mem_nil, or_false] at hc
  rcases hc with rfl | rfl | rfl | rfl | rfl
  · exact congrArg Host.Outcome.next (if_neg fun h => off h.1)
  · exact congrArg Host.Outcome.next (if_neg fun h => off h.1)
  · exact congrArg Host.Outcome.next (if_neg fun h => off h.1)
  · exact congrArg Host.Outcome.next (if_neg fun h => off h.1)
  · exact congrArg Host.Outcome.next (if_neg off)

/-- Settles O34: a trip or loss through `mtrTrip_trips` and `mtrLose_loses`, a hot bridge through the one step of a hold-off
and of its end, the supply faults by induction over the bridges. -/
theorem motorTripsAndSupply : Obligations.MotorTripsAndSupply := by
  unfold Obligations.MotorTripsAndSupply
  intro n s on
  have hn := n.isLt
  refine ⟨fun c cause cur ones st why => ?_, fun st gates => ⟨fun low rotor => ?_, fun high => ?_⟩, fun temp cool => ?_,
    fun temp warm => ?_, fun temp low hot above => ?_, fun temp low hot below => ?_, fun none mv c hc => ?_, fun some mv => ?_⟩
  · exact tripCommand_trips n on (fun cur hc => mtrTrip_trips s hn st hc cur) why
  · exact ⟨mtrLose s n, congrArg Host.Outcome.next (if_pos ⟨on, low.1, low.2, st, gates, by simpa using rotor⟩), mtrLose_loses s hn⟩
  · exact ⟨mtrLose s n, congrArg Host.Outcome.next (if_pos ⟨on, high, st, gates⟩), mtrLose_loses s hn⟩
  · exact congrArg Host.Outcome.next (if_neg fun ⟨_, _, _, above⟩ => absurd above (not_le.mpr cool))
  · exact congrArg Host.Outcome.next (if_neg fun ⟨_, _, _, below⟩ => absurd below (not_lt.mpr warm))
  · refine ⟨holdOffEvent (mtrHeldOff (tempShown s n temp 1) n) n 3 true, ?_, bridgeHot_stops s hn temp⟩
    exact congrArg Host.Outcome.next ((if_pos ⟨on, low.1, low.2, above⟩).trans (if_neg (by simp [hot_wr_temp, hot])))
  · refine ⟨mtrOffGates (holdOffEvent (tempShown s n temp 0) n 3 false) n, ?_, bridgeCool_resumes s hn temp⟩
    exact congrArg Host.Outcome.next ((if_pos ⟨on, low.1, low.2, below⟩).trans (if_pos ((hot_wr_temp s n temp).trans hot)))
  · refine vdrv_ignored (fun fed => ?_) mv hc
    obtain ⟨m, hm, is⟩ := (hasVdrv_iff on).mp fed
    exact absurd is (by simp [none m hm])
  · have fed := (hasVdrv_iff on).mpr some
    refine ⟨fun above flag => ?_, fun below flag => ?_, fun below flag => ?_, fun above flag => ?_, ?_⟩
    · exact ⟨_, congrArg Host.Outcome.next (if_pos ⟨fed, above, by simp [flag]⟩),
        supplyFault_shows s mv 2 (fl := F.MTR_GSTAT_OVERV) rfl (by decide) rfl⟩
    · exact ⟨_, congrArg Host.Outcome.next (if_pos ⟨fed, below, by simp [flag]⟩),
        supplyFault_shows s mv 1 (fl := F.MTR_GSTAT_UNDERV) rfl (by decide) rfl⟩
    · exact ⟨_, congrArg Host.Outcome.next (if_pos ⟨fed, below, flag⟩),
        supplyEnd_shows s mv 2 (fl := F.MTR_GSTAT_OVERV) rfl (by decide) rfl⟩
    · exact ⟨_, congrArg Host.Outcome.next (if_pos ⟨fed, above, flag⟩),
        supplyEnd_shows s mv 1 (fl := F.MTR_GSTAT_UNDERV) rfl (by decide) rfl⟩
    · exact ⟨_, congrArg Host.Outcome.next (if_pos fed), buslim_shows s mv⟩

end Sys2Proof.Machine

/-! A START with a doorbell note that no doorbell can hold (R12, R66). -/

namespace Sys2Proof.Machine

/-- A halted Rod 0 that a program names, in a powered Frame domain, with a note that bit 16 of its doorbells was written in
this step; a doorbell has bits 0 to 15 (R66), and no command of the model writes such a note. -/
def bellBeyond : State :=
  { regs := [(R.SYS_PDSTAT.base, word 0x22)], programs := [(0, ⟨0, 0, 0, 0, 0, 0, 0, 0⟩)],
    rods := [(0, { bellWr := some (0, 0x10000) })] }

theorem bellBeyond_starts : bellBeyond.domOn 2 = true ∧ tabFind bellBeyond.programs 0 = some ⟨0, 0, 0, 0, 0, 0, 0, 0⟩ ∧
    bellBeyond.rodSt 0 = rodHalted ∧ bellsWritten bellBeyond 0 = 0x10000 := by
  decide

/-- START leaves the doorbell clear: bit 16 of the note falls outside its field. -/
theorem bellBeyond_rodStart :
    ∃ t, exec (.rodStart 0) bellBeyond = .next t ∧ t.f F.FRM_DOORBELL_V 0 = 0 := ⟨_, rfl, by decide⟩

/-- Refutes O16: in `bellBeyond` the doorbells written in this step would be 0x10000, which the 16-bit doorbell that START
leaves cannot hold. The statement lacks a bound on the note of the bits written. -/
theorem not_rodsStartStopAndTakeTemplates : ¬ Obligations.RodsStartStopAndTakeTemplates := by
  unfold Obligations.RodsStartStopAndTakeTemplates
  intro h
  obtain ⟨on, named, halted, noted⟩ := bellBeyond_starts
  obtain ⟨t, runs, clear⟩ := bellBeyond_rodStart
  obtain ⟨start, -⟩ := h.1 0 bellBeyond on
  obtain ⟨u, runs', -, -, -, -, -, -, -, bells, -⟩ := start _ named (.inl halted)
  obtain rfl : t = u := Host.Outcome.next.inj (runs.symm.trans runs')
  have beyond : t.f F.FRM_DOORBELL_V 0 = 0x10000 := bells.trans noted
  omega

end Sys2Proof.Machine

/-! HOLD with a stopped Rod whose number no Rod can have (R12, R550). -/

namespace Sys2Proof.Machine

open Sys2Proof.Claims

/-- Ready with PD0 and PD7 on; load switch 0 is on and its reset-hold entry holds it; and of the Rods that a DORMANT stopped
one carries a number beyond 15, which a program names and whose doorbell would lie where LSW_STAT of switch 0 lies. -/
def strayStop : State :=
  { regs := [(R.SYS_MODE.base, word modeReady), (R.SYS_PDSTAT.base, 0x8002), (R.SYS_RHT_LSW.base, 1), (R.LSW_STAT.base, 1)],
    programs := [(0x300000, ⟨0, 0, 0, 0, 0, 0, 0, 0⟩)], sys := { stopped := [0x300000] } }

theorem strayStop_ready : strayStop.domOn 0 = true ∧ strayStop.domOn 7 = true ∧ strayStop.mode = modeReady ∧
    cmdAhead strayStop = strayStop := by
  decide

theorem strayStop_on : (maskBit (strayStop.rd R.SYS_RHT_LSW) 0 && !strayStop.fb F.SYS_STAT_SS) = true ∧
    strayStop.fb F.LSW_STAT_ON 0 = true := by
  decide

/-- HOLD restarts the Rods that a DORMANT stopped, and START clears the doorbell of each, wherever its number puts it. -/
theorem strayStop_hold : ∃ t, exec (.sysCmdHold .host) strayStop = .next t ∧ t.fb F.LSW_STAT_ON 0 = false :=
  ⟨_, rfl, by decide +kernel⟩

/-- Refutes O53: in `strayStop` HOLD clears the doorbell of the stopped Rod "0x300000", and that address is load switch 0's
LSW_STAT, so its hold entry does not keep it ON. The statement lacks a bound on the Rods that a DORMANT stopped. -/
theorem not_modesChangeByCommand : ¬ Obligations.ModesChangeByCommand := by
  unfold Obligations.ModesChangeByCommand
  intro h
  obtain ⟨power, drives, ready, calm⟩ := strayStop_ready
  obtain ⟨entry, on⟩ := strayStop_on
  obtain ⟨t, runs, off⟩ := strayStop_hold
  obtain ⟨-, -, calmly⟩ := h.1 .host strayStop power
  obtain ⟨-, -, -, -, -, hold, -⟩ := calmly calm
  obtain ⟨u, runs', -, -, -, -, -, -, -, -, outputs⟩ := hold (by rw [ready]; decide) (by rw [ready]; decide)
  obtain rfl : t = u := Host.Outcome.next.inj (runs.symm.trans runs')
  obtain ⟨-, switches, -⟩ := outputs drives
  have kept := switches 0 (by omega)
  rw [switchHeld, if_pos entry] at kept
  obtain ⟨-, same, -⟩ := kept
  simp [off, on] at same

end Sys2Proof.Machine

/-! IN and OUT (R94, R96, R112, R113). -/

namespace Sys2Proof.Machine

open Sys2Proof.Claims

/-! ### An instruction's result and an exception's entry -/

/-- An instruction that writes one general register and goes on in sequence. -/
theorem gResult_done (s : State) (r : Nat) (d : BitVec 5) (v : Word) :
    gResult s (rodDone (setG s r d v) r) r d v false false := by
  have rest : { rodDone (setG s r d v) r with rods := s.rods, regs := s.regs, w1cSet := s.w1cSet } = s := by
    unfold setG; split <;> rfl
  have regs : RegsBut (rodRegs r) s (rodDone (setG s r d v) r) := by
    intro a ha
    rw [rodDone, rodGoto_regs, setG_regs]
    exact tabFind_tabPut_ne fun e => ha (.inl e.symm)
  have rstat : (rodDone (setG s r d v) r).rd R.FRM_RSTAT r = s.rd R.FRM_RSTAT r := by
    rw [rodDone, rodGoto, State.rd_wr_ne _ (by simp [RegDesc.addr, R.FRM_RSTAT, R.FRM_PC])]
    simp only [State.rd, State.setRod_regs, setG_regs]
  refine ⟨fun n => ?_, ?_, ?_, ?_, ?_, rest, fun q hq => ?_, regs⟩
  · rw [gReg_rodDone, gReg_setG]
  · rw [rodDone_rod, setG_rod]
  · rw [rodDone_rod, setG_pc]
  · rw [rodDone, rodGoto, State.rd_wr_same, setG_pc]
  · simp [rstat]
  · rw [rodDone_rod_ne _ hq, setG_rod_ne _ _ _ hq]

/-- An exception of a Rod that has a handler and is not in it enters the handler (R85, R128, R131). -/
theorem raise_entersHandler {s : State} {r : Nat} {p : Program} (h : handled s r p) (cls code : Nat) (epc eaddr : Word) :
    entersHandler s (raise s r cls code epc eaddr) r p cls code epc eaddr := by
  obtain ⟨named, entry, outside⟩ := h
  have enters : raise s r cls code epc eaddr =
      (((s.wr R.FRM_EPC epc r).wr R.FRM_EADDR eaddr r).wr R.FRM_ECAUSE (word (cls * 2 ^ 12 + code)) r).setRod r
        { s.rod r with pc := p.excEntry, inHandler := true } := by
    have goes : (!(s.rod r).inHandler) = true ∧ p.excEntry ≠ 0 := ⟨by rw [outside]; rfl, entry⟩
    simp only [raise, State.wr_programs, named, if_pos goes]
    simp [outside, bit]
  rw [enters]
  refine ⟨?_, ?_, ?_, State.setRod_rod .., rfl, fun q hq => State.setRod_rod_ne _ (Ne.symm hq) _, ?_⟩
  · rw [State.setRod_rd, State.rd_wr_ne _ (by simp [RegDesc.addr, R.FRM_ECAUSE, R.FRM_EPC]),
      State.rd_wr_ne _ (by simp [RegDesc.addr, R.FRM_EADDR, R.FRM_EPC]), State.rd_wr_same]
  · rw [State.setRod_rd, State.rd_wr_same]
  · rw [State.setRod_rd, State.rd_wr_ne _ (by simp [RegDesc.addr, R.FRM_ECAUSE, R.FRM_EADDR]), State.rd_wr_same]
  · exact (((RegsBut.refl s).wr (.inl rfl)).wr (.inr (.inr rfl))).wr (.inr (.inl rfl))

/-! ### The address (R44, R112, R113) -/

section

variable {r : Fin 16} {s : State} {f : IoForm}

theorem ioData_eq : ioData s r f = (gReg s r f.a + f.off.setWidth 32).toNat := rfl

theorem ioAddr_eq : ioAddr s r f = ownReg r (gReg s r f.a + f.off.setWidth 32).toNat := by
  simp only [ioAddr, ownWindow, ownReg, ioData_eq, Nat.mul_comm r.val]

theorem ioFault_none {a : Nat} (whole : a % 4 = 0) (low : 0x10000000 ≤ a) (high : a < 0x70000000) : ioFault a = none := by
  simp [ioFault, whole, low, high]

theorem ioFault_misalign {a : Nat} (odd : a % 4 ≠ 0) : ioFault a = some 0x04 := by simp [ioFault, odd]

theorem ioFault_access {a : Nat} (whole : a % 4 = 0) (out : a < 0x10000000 ∨ 0x70000000 ≤ a) : ioFault a = some 0x05 := by
  simp [ioFault, whole, out]

/-- Where no OUT is outstanding, nothing must complete before a read of a register (R75). -/
theorem postedSplit_none {hit : Posted → Bool} {ps : List Posted} (h : ∀ p ∈ ps, hit p = false) :
    (postedSplit hit ps).1 = [] := by
  induction ps with
  | nil => rfl
  | cons p ps ih =>
    have later := ih fun q hq => h q (List.mem_cons_of_mem _ hq)
    simp [postedSplit, later, h p List.mem_cons_self]

theorem drainOuts_of_none {a : Nat} (h : ∀ k v, Posted.out k v ∉ (s.rod r).posted) : drainOuts s r a = s := by
  have none : ∀ p ∈ (s.rod r).posted, (mustPrecede p (.out a 0) && p != .commit) = false := by
    intro p hp
    cases p with
    | out k v => exact absurd hp (h k v)
    | _ => rfl
  rw [drainOuts, drain, postedSplit_none none, List.isEmpty_nil, if_pos rfl]

/-! ### The instructions -/

theorem execIn_body (run : ready s r) (whole : f.off.toNat % 4 = 0) (ok : ioFault (ioData s r f) = none) :
    exec (.ioIn r f) s = .next (rodDone (setG (readAddr (ioAddr s r f) (drainOuts s r (ioAddr s r f))).2 r f.d
      (readAddr (ioAddr s r f) (drainOuts s r (ioAddr s r f))).1) r) := by
  obtain ⟨runs, pc, bead⟩ := run
  show execIn r f s = _
  simp only [execIn, whole, bne_self_eq_false, rodExec_body runs pc bead, ok]

theorem execOut_body (run : ready s r) (whole : f.off.toNat % 4 = 0) (ok : ioFault (ioData s r f) = none) :
    exec (.ioOut r f) s = .next (rodDone (post s r (.out (ioAddr s r f) (gReg s r f.d))) r) := by
  obtain ⟨runs, pc, bead⟩ := run
  show execOut r f s = _
  simp only [execOut, whole, bne_self_eq_false, rodExec_body runs pc bead, ok]

/-- IN and OUT at an address that their check refuses. -/
theorem exec_io_raise (run : ready s r) (whole : f.off.toNat % 4 = 0) {code : Nat} (bad : ioFault (ioData s r f) = some code) :
    ∀ i ∈ [Instr.ioIn r f, .ioOut r f], exec i s = .next (raise s r 0x9 code (s.rod r).pc (word (ioData s r f))) := by
  obtain ⟨runs, pc, bead⟩ := run
  have input : execIn r f s = .next (raise s r 0x9 code (s.rod r).pc (word (ioData s r f))) := by
    simp only [execIn, whole, bne_self_eq_false, rodExec_body runs pc bead, bad]
  have output : execOut r f s = .next (raise s r 0x9 code (s.rod r).pc (word (ioData s r f))) := by
    simp only [execOut, whole, bne_self_eq_false, rodExec_body runs pc bead, bad]
  simp only [List.mem_cons, List.not_mem_nil, or_false]
  rintro i (rfl | rfl)
  · exact input
  · exact output

/-- OUT adds its access to the outstanding ones (R96). -/
theorem post_done (x : Posted) :
    (rodDone (post s r x) r).rod r = { s.rod r with posted := (s.rod r).posted ++ [x], pc := (s.rod r).pc + 4 } ∧
      (rodDone (post s r x) r).rd R.FRM_PC r = (s.rod r).pc ∧
      onlyRod s (rodDone (post s r x) r) r (fun k => k = R.FRM_PC.addr r) := by
  refine ⟨by simp [post], by simp [rodDone, rodGoto, post], rfl, fun q hq => ?_, ?_⟩
  · rw [rodDone_rod_ne _ hq, post, State.setRod_rod_ne _ (Ne.symm hq)]
  · exact RegsBut.wr (RegsBut.of_regs (RegsBut.refl s) rfl) rfl

/-! ### What a read gives (R3, R18, R89, R113) -/

variable {b : Nat} {d : RegDesc} {i j : Nat}

theorem readAddr_curve {c w : Nat} (on : s.domOn 2 = true) (h : curveAt b = some (c, w)) :
    readAddr b s = (curveWord s c w, s) := by
  simp [readAddr, h, on]

theorem readAddr_nowhere (h : regFind b = none) (hc : curveAt b = none) : readAddr b s = (0, s) := by
  simp [readAddr, h, hc]

theorem readAddr_dead (h : regFind b = some (d, i, j)) (hc : curveAt b = none) (dead : regDead s d b i j = true) :
    readAddr b s = (0, s) := by
  simp [readAddr, h, hc, dead]

/-- A register outside `actsOnRead` gives what it shows, and its read does nothing. -/
theorem regRead_quiet (h : d.id ∉ actsOnRead) : regRead s d i j = (regPeek s d i j, s) := by
  unfold regRead
  split <;> simp_all [actsOnRead]

theorem readAddr_shows (h : regFind b = some (d, i, j)) (hc : curveAt b = none) (live : regDead s d b i j = false)
    (quiet : d.id ∉ actsOnRead) : readAddr b s = (regBits s d i (regPeek s d i j), s) := by
  simp [readAddr, h, hc, live, regRead_quiet quiet]

/-- The own window of Rod `r` at a register's offset is that register of Rod `r` (R44, R87). -/
theorem regFind_own (r : Fin 16) : ∀ d ∈ heldFrm, regFind (ownReg r (d.addr 0 + 0xE000)) = some (d, r.val, 0) ∧
    curveAt (ownReg r (d.addr 0 + 0xE000)) = none := by
  revert r
  decide

theorem ownReg_own (r : Fin 16) : ∀ d ∈ heldFrm, ownReg r (d.addr 0 + 0xE000) = d.addr r := by
  revert r
  decide

/-- They show what they hold wherever the Frame domain is on. -/
theorem heldFrm_live (r : Fin 16) (on : s.domOn 2 = true) : ∀ d ∈ heldFrm, regDead s d (d.addr r) r 0 = false ∧
    d.id ∉ actsOnRead ∧ regBits s d r (regPeek s d r 0) = s.rd d r := by
  have place : ∀ d ∈ heldFrm, domainOf (d.addr r) = 2 ∧ ¬ 0x31000000 ≤ d.addr r ∧ ¬ 0x42000000 ≤ d.addr r := by
    revert r
    decide
  intro d hd
  obtain ⟨dom, low, low'⟩ := place d hd
  simp only [regDead, regAbsent, dom, on, decide_eq_false low, decide_eq_false low']
  simp only [heldFrm, List.mem_cons, List.not_mem_nil, or_false] at hd
  obtain rfl | rfl | rfl | rfl | rfl | rfl := hd <;>
    simp [regHidden, solHidden, canHidden, actsOnRead, regBits, regPeek, frmPeek, R.FRM_RCTL, R.FRM_PC, R.FRM_EPC,
      R.FRM_ECAUSE, R.FRM_EADDR, R.FRM_DOORBELL]

theorem heldFrm_shows (r : Fin 16) (on : s.domOn 2 = true) :
    ∀ d ∈ heldFrm, readAddr (ownReg r (d.addr 0 + 0xE000)) s = (s.rd d r, s) := by
  intro d hd
  obtain ⟨found, plain⟩ := regFind_own r d hd
  obtain ⟨live, quiet, shown⟩ := heldFrm_live r on d hd
  rw [ownReg_own r d hd] at found plain ⊢
  rw [readAddr_shows found plain live quiet, shown]

end

/-- Settles O11: the Rod passes its fetch and `ioFault` decides; what is left is `readAddr` and one result in gd for IN, and
one more outstanding access for OUT. -/
theorem registerInAndOut : Obligations.RegisterInAndOut := by
  unfold Obligations.RegisterInAndOut
  intro r s run f whole a b
  have on : s.domOn 2 = true := by
    obtain ⟨runs, -⟩ := run
    simp only [State.canRun, Bool.and_eq_true] at runs
    exact runs.1.1
  have addr : ioAddr s r f = b := ioAddr_eq
  have own : word (ioData s r f) = a := (BitVec.ofNat_toNat 32 a).trans (BitVec.setWidth_eq a)
  refine ⟨fun aligned low high => ⟨fun none => ?_, ?_⟩, fun p hp i hi => ⟨fun odd => ?_, fun aligned out => ?_⟩⟩
  · have ok : ioFault (ioData s r f) = .none := ioFault_none aligned low high
    have gives : ∀ v u, readAddr b s = (v, u) → runsTo (.ioIn r f) s fun t => gResult u t r f.d v false false := by
      intro v u h
      refine ⟨_, execIn_body run whole ok, ?_⟩
      rw [drainOuts_of_none none, addr, h]
      exact gResult_done u r f.d v
    refine ⟨?_, fun h hc => gives _ _ (readAddr_nowhere h hc), fun d i j h hc => ⟨fun dead => ?_, fun live quiet => ?_⟩,
      fun c w h => gives _ _ (readAddr_curve on h), fun d hd h => ?_⟩
    · obtain ⟨t, runs, result⟩ := gives _ _ rfl
      exact ⟨t, runs, _, _, rfl, result⟩
    · exact gives _ _ (readAddr_dead h hc dead)
    · exact gives _ _ (readAddr_shows h hc live quiet)
    · exact gives _ _ (by rw [show b = ownReg r a.toNat from rfl, h]; exact heldFrm_shows r on d hd)
  · refine ⟨_, execOut_body run whole (ioFault_none aligned low high), ?_⟩
    rw [addr]
    exact post_done _
  · refine ⟨_, exec_io_raise run whole (ioFault_misalign odd) i hi, ?_⟩
    rw [own]
    exact raise_entersHandler hp ..
  · refine ⟨_, exec_io_raise run whole (ioFault_access aligned out) i hi, ?_⟩
    rw [own]
    exact raise_entersHandler hp ..

end Sys2Proof.Machine

/-! What the units of the other domains leave of the SYS unit: the mode, the domains and the flags of its sequences (R39, R532
to R538, R544). -/

namespace Sys2Proof.Machine

open Sys2Proof.Claims

variable {s t u : State}

/-! ### What stays -/

/-- What stands behind the SYS registers, without the time of FIRE_PERMIT and what an entry to Hold clears, and the programs. -/
def State.sysSide (s : State) : SysX × Tab Program × List Host.Cell × Nat :=
  ({ s.sys with fireSince := none, stopped := [], ramps := [], pdSince := [] }, s.programs, s.template, s.elapsed)

/-- From `s` to `t` the mode, the domains, SYS_STAT.CRIT, the programs and what stands behind SYS have stayed. -/
structure Still (s t : State) : Prop where
  side : t.sysSide = s.sysSide
  modeWord : t.rd R.SYS_MODE = s.rd R.SYS_MODE
  domains : t.rd R.SYS_PDSTAT = s.rd R.SYS_PDSTAT
  crit : t.fb F.SYS_STAT_CRIT = s.fb F.SYS_STAT_CRIT

namespace Still

theorem refl (s : State) : Still s s := ⟨rfl, rfl, rfl, rfl⟩

theorem trans (h : Still s t) (h' : Still t u) : Still s u :=
  ⟨h'.side.trans h.side, h'.modeWord.trans h.modeWord, h'.domains.trans h.domains, h'.crit.trans h.crit⟩

/-- A change of registers beyond those of SYS. -/
theorem low (h : Still s t) (hx : u.sysSide = t.sysSide)
    (hr : ∀ a, a < 0x10010000 → tabFind u.regs a = tabFind t.regs a) : Still s u := by
  have reads (d : RegDesc) (hd : d.addr < 0x10010000) : u.rd d = t.rd d := by simp only [State.rd, tabGet, hr _ hd]
  refine h.trans ⟨hx, reads _ (by decide), reads _ (by decide), ?_⟩
  simp only [State.fb, State.f, reads F.SYS_STAT_CRIT.reg (by decide)]

/-- A change beside the registers. -/
theorem beside (h : Still s t) (hx : u.sysSide = t.sysSide) (hr : u.regs = t.regs) : Still s u :=
  h.low hx fun _ _ => by rw [hr]

theorem of_regsBut {p : Nat → Prop} (h : RegsBut p s t) (hx : t.sysSide = s.sysSide) (hp : ∀ a, p a → 0x10010000 ≤ a) :
    Still s t :=
  (refl s).low hx fun a ha => h a fun pa => absurd (hp a pa) (by omega)

theorem wr (h : Still s t) {d : RegDesc} {v : Word} {i j : Nat} (hd : 0x10010000 ≤ d.base := by decide) :
    Still s (t.wr d v i j) :=
  h.low rfl fun a ha => tabFind_tabPut_ne (by simp only [RegDesc.addr]; omega)

theorem setF (h : Still s t) {fl : Fld} {v i j : Nat} (hd : 0x10010000 ≤ fl.reg.base := by decide) :
    Still s (t.setF fl v i j) :=
  (h.wr (v := putBits (t.rd fl.reg i j) fl.hi fl.lo v) (i := i) (j := j) hd).beside rfl rfl

/-- SYS_HELD and SYS_HELDM. -/
theorem held (h : Still s t) {d : RegDesc} {v : Word} (hd : d.addr = R.SYS_HELD.addr ∨ d.addr = R.SYS_HELDM.addr) :
    Still s (t.wr d v) := by
  have others {d' : RegDesc} (h' : d'.addr ≠ R.SYS_HELD.addr ∧ d'.addr ≠ R.SYS_HELDM.addr) : d.addr ≠ d'.addr := by
    rcases hd with e | e <;> rw [e]
    · exact h'.1.symm
    · exact h'.2.symm
  refine h.trans ⟨rfl, State.rd_wr_ne _ (others (by decide)), State.rd_wr_ne _ (others (by decide)), ?_⟩
  simp only [State.fb, State.f, State.rd_wr_ne t (d := F.SYS_STAT_CRIT.reg) (others (by decide))]

theorem ite {c : Prop} [Decidable c] (ht : Still s t) (hu : Still s u) : Still s (if c then t else u) := by
  split <;> assumption

theorem foldl {α : Type} {f : State → α → State} (l : List α) (hf : ∀ t, ∀ a ∈ l, Still t (f t a)) (s : State) :
    Still s (l.foldl f s) := by
  induction l generalizing s with
  | nil => exact refl s
  | cons a l ih =>
    exact (hf s a List.mem_cons_self).trans (ih (fun t b hb => hf t b (List.mem_cons_of_mem a hb)) (f s a))

theorem foldN {n : Nat} {f : State → Nat → State} (hf : ∀ t k, k < n → Still t (f t k)) (s : State) :
    Still s (foldN n f s) :=
  foldN_keeps (P := Still s) n (fun t k hk h => h.trans (hf t k hk)) s (refl s)

theorem posts (h : Still s t) (h' : Posts t u) : Still s u := by
  refine h.trans (of_regsBut h'.2 ?_ fun a ha => ?_)
  · have side := congrArg State.sysSide h'.1
    simpa only [State.sysSide, State.apart] using side
  · have area := eventReg_area ha
    omega

theorem solOnly (h : Still s t) (h' : SolOnly t u) : Still s u := by
  refine h.trans (of_regsBut h'.2 ?_ fun a ha => ?_)
  · have side := congrArg State.sysSide h'.1
    simpa only [State.sysSide, State.apart, noSol] using side
  · rcases ha with ha | ha
    · simp only [solBlock] at ha; omega
    · have area := eventReg_area ha
      omega

theorem mode (h : Still s t) : t.mode = s.mode := by simp only [State.mode, State.f, F.SYS_MODE_MODE, h.modeWord]

theorem pd (h : Still s t) (n : Nat) : t.pd n = s.pd n := by simp only [State.pd, h.domains]

theorem domOn (h : Still s t) (n : Nat) : t.domOn n = s.domOn n := by simp only [State.domOn, h.domains]

end Still

/-! ### FIRE_PERMIT and the airflow judgement (R381, R541) -/

theorem fireOpen_still (s : State) : Still s (fireOpen s) := by
  let shown := (s.setF F.SYS_STAT_FIRE 0).setF F.SYS_STAT_FIREDROP_SEEN 1
  have show_still : Still s shown := by
    refine ⟨rfl, ?_, ?_, ?_⟩
    · exact (State.rd_wr_ne _ (by decide)).trans (State.rd_wr_ne _ (by decide))
    · exact (State.rd_wr_ne _ (by decide)).trans (State.rd_wr_ne _ (by decide))
    · exact (State.fb_setF_beside (s.setF F.SYS_STAT_FIRE 0) (fl := F.SYS_STAT_FIREDROP_SEEN) (fl' := F.SYS_STAT_CRIT)
        1 0 0 rfl (by decide) (by decide) (by decide)).trans (State.fb_setF_beside s (fl := F.SYS_STAT_FIRE) 0 0 0 rfl
        (by decide) (by decide) (by decide))
  have posted := show_still.posts (healthEvent_posts shown 0 0 0xD3 0 (sysStat shown))
  unfold fireOpen
  dsimp only
  split
  · exact posted.solOnly (solFireDrop_solOnly _)
  · exact posted

theorem fireUpdate_still (s : State) : Still s (fireUpdate s) := by
  have ended : Still s { s with sys := { s.sys with fireSince := none } } := (Still.refl s).beside rfl rfl
  unfold fireUpdate
  split
  · exact (Still.refl s).ite ((Still.refl s).beside rfl rfl)
  · exact (ended.trans (fireOpen_still _)).ite ended

theorem afFail_still (s : State) (n : Nat) : Still s (afFail s n) := by
  have judged : Still s { s with fan := { s.fan with afGood := tabDrop s.fan.afGood n } } := (Still.refl s).beside rfl rfl
  unfold afFail
  exact ((judged.setF.posts (event_posts (by decide) _ _ _ _ _)).trans (fireUpdate_still _)).ite judged

/-! ### Axes (R363, R369, R557) -/

theorem mtrGo_still (s : State) (n st gates : Nat) : Still s (mtrGo s n st gates) := by
  unfold mtrGo
  dsimp only
  have gone (x : MtrX) : Still s ((s.setF F.MTR_STAT_STATE st n).setMtr n x) := (Still.refl s).setF.beside rfl rfl
  exact ((gone _).trans (afFail_still _ _)).ite (gone _)

theorem mtrHoldEnd_still (s : State) (n cause : Nat) : Still s (mtrHoldEnd s n cause) := by
  have freed : Still s ((s.setMask R.SYS_HELDM n false).setMtr n { s.mtrX n with auto := false }) :=
    ((Still.refl s).held (.inr rfl)).beside rfl rfl
  exact (freed.posts (healthEvent_posts _ _ _ _ _ _)).ite (Still.refl s)

theorem mtrLose_still (s : State) (n : Nat) : Still s (mtrLose s n) :=
  ((mtrGo_still s n axLost 0).posts ((ringPost_posts (by decide) _ _).trans (logRecord_posts _ _ _))).trans
    (mtrHoldEnd_still _ _ _)

theorem mtrDisable_still (s : State) (n gates : Nat) : Still s (mtrDisable s n gates) := by
  have off : Still s (s.setF F.MTR_CTL_EN 0 n) := (Still.refl s).setF
  exact (off.trans (mtrGo_still _ _ _ _)).ite (off.beside rfl rfl)

/-! ### Load switches (R325, R332, R336, R557) -/

theorem lswOff_still (s : State) (n : Nat) : Still s (lswOff s n) := by
  have off (x : LswX) : Still s ((s.setLsw n x).setF F.LSW_STAT_ON 0 n) :=
    ((Still.refl s).beside rfl rfl : Still s (s.setLsw n x)).setF
  exact off _

theorem lswDisable_still (s : State) (n : Nat) : Still s (lswDisable s n) := (lswOff_still s n).setF.setF

theorem lswHoldEnd_still (s : State) (n cause : Nat) : Still s (lswHoldEnd s n cause) :=
  (((Still.refl s).held (.inl rfl)).posts (healthEvent_posts _ _ _ _ _ _)).ite (Still.refl s)

theorem lswLose_still (s : State) (n detail : Nat) : Still s (lswLose s n detail) :=
  ((lswOff_still s n).setF.posts ((ringPost_posts (by decide) _ _).trans (logRecord_posts _ _ _))).trans
    (lswHoldEnd_still _ _ _)

theorem lswGroupDown_still (s : State) (k cause : Nat) : Still s (lswGroupDown s k cause) := by
  have down : Still s ((s.setF F.LSW_GRSTAT_DOWN 1 k).setF F.LSW_GRSTAT_DOWN_CAUSE cause k) := (Still.refl s).setF.setF
  unfold lswGroupDown
  exact (Still.refl s).ite ((down.trans (Still.foldN (fun t j _ => lswOff_still t (8 * k + j)) _)).posts
    (event_posts (by decide) _ _ _ _ _))

/-! ### Solenoids (R308, R309, R312) -/

theorem solOff_still (s : State) {n : Nat} (hn : n < 24) (path : Nat) : Still s (solOff s n path) :=
  (Still.refl s).solOnly (solOff_solOnly hn s path)

theorem solBank_lt {b n : Nat} (hb : b < 6) (h : n ∈ solBank b) : n < 24 := by
  simp only [solBank, List.mem_cons, List.not_mem_nil, or_false] at h
  omega

theorem solBankDown_still (s : State) {b : Nat} (hb : b < 6) (cause : Nat) : Still s (solBankDown s b cause) := by
  have down : Still s ((s.setF F.SOL_BSTAT_DOWN 1 b).setF F.SOL_BSTAT_DOWN_CAUSE cause b) := (Still.refl s).setF.setF
  exact (Still.refl s).ite ((down.trans (Still.foldl _ (fun t n hn =>
    solOff_still t (solBank_lt hb (List.mem_of_mem_filter hn)) _) _)).posts (event_posts (by decide) _ _ _ _ _))

theorem solLose_still (s : State) {n : Nat} (hn : n < 24) : Still s (solLose s n) :=
  ((Still.refl s).setF.posts ((ringPost_posts (by decide) _ _).trans (logRecord_posts _ _ _))).trans
    (solBankDown_still _ (by omega) _)

theorem solClassSet_still (s : State) (v : Word) : Still s (solClassSet s v) :=
  (Still.refl s).wr.trans (Still.foldN (fun t _ _ => ((Still.refl t).setF.setF).ite (Still.refl t).setF) _)

end Sys2Proof.Machine

/-! Domains that reach ON start their units, and an entry to Hold stops loops and outputs: neither changes the mode, a domain
or a sequence (R18, R312, R336, R369, R378, R538). -/

namespace Sys2Proof.Machine

open Sys2Proof.Claims

variable {s t u : State}

/-! ### Registers lost and loaded (R18, R512, R570) -/

theorem Still.dropped (h : Still s t) {lo hi : Nat} (hx : u.sysSide = t.sysSide) (hr : u.regs = tabDropRange t.regs lo hi)
    (hl : 0x10010000 ≤ lo := by decide) : Still s u :=
  h.low hx fun a ha => by rw [hr, tabFind_tabDropRange, if_neg (by omega)]

theorem keyLoad_still (s : State) {lo hi : Nat} (hl : 0x10010000 ≤ lo) : Still s (keyLoad s lo hi) := by
  have dropped : Still s { s with regs := s.regs.filter fun p =>
      !((decide (lo ≤ p.1) && decide (p.1 ≤ hi)) && keyField p.1) } := by
    refine (Still.refl s).low rfl fun a ha => ?_
    rw [tabFind_filter_keys s.regs fun a => !((decide (lo ≤ a) && decide (a ≤ hi)) && keyField a), if_pos]
    simp [show ¬ lo ≤ a by omega]
  refine dropped.trans (Still.foldl _ (fun t p hp => ?_) _)
  have inside := List.of_mem_filter hp
  simp only [Bool.and_eq_true, decide_eq_true_eq] at inside
  exact (Still.refl t).low rfl fun a ha => tabFind_tabPut_ne (by omega)

theorem storedLoad_still (s : State) {lo hi : Nat} (hl : 0x10010000 ≤ lo) : Still s (storedLoad s lo hi) := by
  refine Still.foldl _ (fun t a ha => ?_) s
  have inside := List.of_mem_filter ha
  simp only [Bool.and_eq_true, decide_eq_true_eq] at inside
  split
  · exact (Still.refl t).low rfl fun b hb => tabFind_tabPut_ne (by omega)
  · exact Still.refl t

/-! ### Units that start -/

theorem lpePowerOn_still (s : State) : Still s (lpePowerOn s) := by
  have lost : Still s { s with regs := tabDropRange s.regs 0x20000000 0x21FFFFFF, lpe := [], trc := [] } :=
    (Still.refl s).dropped rfl rfl
  exact lost.trans (Still.foldN (fun t _ _ => (Still.refl t).wr) _)

theorem dfePowerOn_still (s : State) : Still s (dfePowerOn s) :=
  (storedLoad_still s (by decide)).trans (Still.foldN (fun t _ _ =>
    Still.foldl _ (fun u _ _ => (Still.refl u).wr.wr) t) _)

theorem canReset_still (s : State) : Still s (canReset s) := by
  have lost : Still s { s with regs := tabDropRange s.regs 0x50000000 0x50FFFFFF, can := [], tts := [] } :=
    (Still.refl s).dropped rfl rfl
  exact lost.ite lost.wr

theorem solPowerOn_still (s : State) (classS : Word) (failed : List Nat) : Still s (solPowerOn s classS failed) := by
  have lost : Still s { s with regs := tabDropRange s.regs 0x40000000 0x40FFFFFF, sol := [] } :=
    (Still.refl s).dropped rfl rfl
  refine (lost.trans (solClassSet_still _ classS)).setF.trans (Still.foldl _ (fun t n _ => ?_) _)
  split
  · next hn => exact solLose_still t hn
  · exact Still.refl t

theorem lswPowerOn_still (s : State) (failed : List Nat) : Still s (lswPowerOn s failed) := by
  have lost : Still s { s with regs := tabDropRange s.regs 0x41000000 0x41FFFFFF, lsw := [] } :=
    (Still.refl s).dropped rfl rfl
  have one (u : State) (n : Nat) (x : LswX) : Still u (u.setLsw n x) := (Still.refl u).beside rfl rfl
  have off (u : State) : Still u (foldN 32 (fun s n => s.setLsw n { offSince := s.elapsed }) u) :=
    Still.foldN (fun t n _ => one t n _) u
  have under (u : State) : Still u (foldN 4 (fun s k => s.setF F.LSW_GRSTAT_UNDERV 1 k) u) :=
    Still.foldN (fun t k _ => (Still.refl t).setF) u
  have tested (u : State) : Still u (failed.foldl (fun s n => if n < 32 then lswGroupDown (lswLose s n 1) (n / 8) 1 else s) u) :=
    Still.foldl _ (fun t n _ => ((lswLose_still t n 1).trans (lswGroupDown_still _ _ _)).ite (Still.refl t)) u
  exact ((lost.trans (off _)).trans (under _)).trans (tested _)

theorem mtrPowerOn_still (s : State) (failed : List Nat) : Still s (mtrPowerOn s failed) := by
  have lost : Still s { s with regs := tabDropRange s.regs 0x42000000 0x42FFFFFF, mtr := [] } :=
    (Still.refl s).dropped rfl rfl
  exact (lost.ite lost.setF).trans (Still.foldl _ (fun t n _ => (mtrLose_still t n).ite (Still.refl t)) _)

theorem fanAutoCheck_still (s : State) : Still s (fanAutoCheck s) :=
  Still.foldN (fun t _ _ => ((Still.refl t).setF.setF).ite (Still.refl t)) s

theorem fanPowerOn_still (s : State) : Still s (fanPowerOn s) := by
  have lost : Still s { s with regs := tabDropRange s.regs 0x43000000 0x43FFFFFF, fan := {} } :=
    (Still.refl s).dropped rfl rfl
  exact (lost.trans (storedLoad_still _ (by decide))).trans (fanAutoCheck_still _)

/-- Domain `n` shows ON, its ramp over. -/
def pdShown (s : State) (n : Nat) : State :=
  (s.setPd n 2).setSys { s.sys with ramps := tabDrop s.sys.ramps n, pdSince := tabPut s.sys.pdSince n s.elapsed }

/-- A domain that reaches ON starts its units, and the mode, the other domains and the sequences stay. -/
theorem pdOn_still (s : State) (n : Nat) (t : OutputTest) : Still (pdShown s n) (pdOn s n t) := by
  have ports (u : State) (x : NetX) : Still u { u with net := x } := (Still.refl u).beside rfl rfl
  have board (u : State) : Still u (keyLoad u 0x60000000 0x600007FF) := keyLoad_still u (by decide)
  have links (u : State) : Still u (keyLoad u 0x61000100 0x610001FF) := keyLoad_still u (by decide)
  have network (u : State) : Still u (keyLoad (keyLoad { u with net := { u.net with
      ports := tabPut u.net.ports 8 { speed := 1, since := u.elapsed } } } 0x60000000 0x600007FF) 0x61000100 0x610001FF) :=
    ((ports u _).trans (board _)).trans (links _)
  have aged (u : State) (l : List Nat) : Still u (agesFrom u l) := (Still.refl u).beside rfl rfl
  have curved (u : State) : Still u (curvesLoad u) := (Still.refl u).beside rfl rfl
  have sensed (u : State) (l : List Nat) : Still u (agesFrom (dfePowerOn u) l) :=
    (dfePowerOn_still u).trans (aged _ l)
  have driven (u : State) (l : List Nat) (failed : OutputTest) : Still u (fanPowerOn (mtrPowerOn (lswPowerOn
      (solPowerOn (agesFrom u l) (classSKept (agesFrom u l)) (failed.sol.map Fin.val)) (failed.lsw.map Fin.val))
      (failed.mtr.map Fin.val))) :=
    (((aged u l).trans (solPowerOn_still _ _ _)).trans (lswPowerOn_still _ _)).trans
      ((mtrPowerOn_still _ _).trans (fanPowerOn_still _))
  unfold pdOn
  dsimp only
  split
  · exact network _
  · exact curved _
  · exact lpePowerOn_still _
  · exact aged _ _
  · exact (sensed _ _).ite (Still.refl _)
  · exact canReset_still _
  · exact driven _ _ t
  · exact Still.refl _

/-! ### Loops and outputs in Hold (R236, R538) -/

/-- In Hold a loop's output reaches nothing but a reference (R538). -/
theorem loopApply_still (hold : s.mode = modeHold) (n j dst : Nat) (v : Int) : Still s (loopApply s n j dst v).2 := by
  have kept (u : State) (x : LpeX) : Still u (u.setLpe n x) := (Still.refl u).beside rfl rfl
  have told (u : State) : Still u (lpeEvent u n 0x67 j (word dst)) := (Still.refl u).posts (event_posts (by decide) _ _ _ _ _)
  have shown (u : State) (h : Still s u) : Still s ((u.wr R.LPE_UAPP (wordI v) n j).setLpe n
      { u.lpeX n with unmapped := (u.lpeX n).unmapped.filter (fun k => k != j) }) := h.wr.trans (kept _ _)
  unfold loopApply
  by_cases power : 0x100 ≤ dst ∧ dst < 0x400
  · rw [if_pos ⟨power.1, power.2, hold⟩]
    exact Still.refl s
  · rw [if_neg fun h => power ⟨h.1, h.2.1⟩]
    by_cases none : dst < 0x100
    · rw [if_pos none]
      exact shown s (Still.refl s)
    · rw [if_neg none, if_neg (by omega), if_neg (by omega), if_neg (by omega)]
      by_cases ref : dst < 0x500
      · rw [if_pos ref]
        exact shown _ (Still.refl s).wr
      · rw [if_neg ref]
        exact shown s (Still.refl s)

theorem loopApplyAll_still (hold : s.mode = modeHold) (n : Nat) (c : LoopCfg) (us : List Int) :
    Still s (loopApplyAll s n c us) := by
  have each (l : List (Int × Nat)) (acc : List Bool × State) (h : Still s acc.2) : Still s (l.foldl (fun acc p =>
      ((acc.1 ++ [(loopApply acc.2 n p.2 (c.dst.getD p.2 0) p.1).1]), (loopApply acc.2 n p.2 (c.dst.getD p.2 0) p.1).2)) acc).2 := by
    induction l generalizing acc with
    | nil => exact h
    | cons p l ih => exact ih _ (h.trans (loopApply_still (h.mode.trans hold) n _ _ _))
  exact (each _ _ ((Still.refl s).beside rfl rfl)).setF

theorem loopGo_still (s : State) (n st cause : Nat) (idx : Word) : Still s (loopGo s n st cause idx) :=
  (Still.refl s).setF.setF.setF.posts (event_posts (by decide) _ _ _ _ _)

theorem loopSafe_still (hold : s.mode = modeHold) (n cause : Nat) : Still s (loopSafe s n cause) := by
  have gone : Still s ((loopGo s n lpSafe cause 0xFFFFFFFF).setF F.LPE_STAT_FIRE_REQ 0 n) := (loopGo_still s n _ _ _).setF
  exact (Still.refl s).ite ((gone.trans (loopApplyAll_still (gone.mode.trans hold) _ _ _)).trans (fireUpdate_still _))

theorem loopAllSafe_still (hold : s.mode = modeHold) : Still s (loopAllSafe s) :=
  foldN_keeps (P := Still s) 64 (fun _ n _ h => h.trans (loopSafe_still (h.mode.trans hold) n 6)) s (Still.refl s)

theorem solAllOff_still (s : State) : Still s (solAllOff s) := by
  refine Still.foldN (fun t n hn => ?_) s
  have stopped : Still t (solStop t n (solSafePath t n)) :=
    ((Still.refl t).beside rfl rfl : Still t (t.setSol n { t.solX n with armed := none, rep := none })).trans
      (solOff_still _ hn _)
  have off : Still t (if t.solOdd n then t else solStop t n (solSafePath t n)) := (Still.refl t).ite stopped
  exact off.setF

theorem lswRht_still (s : State) (allOff : Bool) : Still s (lswRht s allOff) := by
  refine Still.foldN (fun t n _ => ?_) s
  have held (x : LswX) : Still t ((t.setLsw n x).setMask R.SYS_HELD n true) :=
    ((Still.refl t).beside rfl rfl : Still t (t.setLsw n x)).held (.inl rfl)
  have freed : Still t (t.setMask R.SYS_HELD n false) := (Still.refl t).held (.inl rfl)
  exact ((Still.refl t).ite (held _)).ite (freed.trans (lswDisable_still _ n))

theorem mtrRht_still (s : State) (vlogLost reset : Bool) : Still s (mtrRht s vlogLost reset) := by
  refine Still.foldN (fun t n _ => ?_) s
  have held : Still t (t.setMask R.SYS_HELDM n true) := (Still.refl t).held (.inr rfl)
  have freed : Still t (t.setMask R.SYS_HELDM n false) := (Still.refl t).held (.inr rfl)
  have off (g : Nat) := freed.trans (mtrDisable_still _ n g)
  have free (u : State) (x : MtrX) (h : Still t u) : Still t (u.setMtr n x) := h.beside rfl rfl
  dsimp only
  split
  · split
    · exact (Still.refl t).ite (free _ _ held)
    · exact free _ _ (Still.refl t)
  · exact (free _ _ (off _)).ite (off _)

end Sys2Proof.Machine

/-! Power domains and mode changes: what SYS_PDSTAT, SYS_PDCTL and SYS_MODE show after them (R39, R533, R534, R541, R544). -/

namespace Sys2Proof.Machine

open Sys2Proof.Claims

variable {s t u : State} {n k : Nat}

/-! ### The domains in SYS_PDSTAT -/

theorem domOn_iff : s.domOn n = true ↔ s.pd n = 2 := by simp [State.domOn, State.pd]

theorem pd_of_rd (h : t.rd R.SYS_PDSTAT = s.rd R.SYS_PDSTAT) (n : Nat) : t.pd n = s.pd n := by simp only [State.pd, h]

/-- The domains once one of them has changed. -/
theorem setPd_pd (s : State) (hn : n < 8) (hk : k < 8) {v : Nat} (hv : v < 4) :
    (s.setPd n v).pd k = if k = n then v else s.pd k := by
  simp only [State.pd, State.setPd, State.rd_wr_same]
  by_cases e : k = n
  · subst e
    rw [if_pos rfl, bits_putBits_same _ _ (by omega) (by omega)]
    have width : 2 * k + 1 + 1 - 2 * k = 2 := by omega
    rw [width]
    omega
  · rw [if_neg e, bits_putBits_ne _ _ (by omega) (by omega) (by omega)]

theorem pdShown_pd (s : State) (hn : n < 8) (hk : k < 8) : (pdShown s n).pd k = if k = n then 2 else s.pd k :=
  setPd_pd s hn hk (by decide)

/-- SYS_PDCTL asks for domain `n`, where it has a bit for it. -/
def rampAsked (s : State) (n : Nat) : State := if pdHasBit n then s.setMask R.SYS_PDCTL n true else s

theorem pdRamp_eq (s : State) (n : Nat) : pdRamp s n = if (rampAsked s n).pd n = 0 then
    ((rampAsked s n).setPd n 1).setSys { (rampAsked s n).sys with
      ramps := tabPut (rampAsked s n).sys.ramps n (rampAsked s n).elapsed } else rampAsked s n := rfl

theorem rampAsked_else (s : State) (n : Nat) : { rampAsked s n with regs := s.regs } = s := by
  unfold rampAsked; split <;> rfl

theorem rampAsked_regs (s : State) (n : Nat) :
    RegsBut (fun a => pdHasBit n = true ∧ a = R.SYS_PDCTL.addr) s (rampAsked s n) := by
  unfold rampAsked
  split
  · next has => exact (RegsBut.refl s).wr ⟨has, rfl⟩
  · exact RegsBut.refl s

theorem rampAsked_pd (s : State) (n k : Nat) : (rampAsked s n).pd k = s.pd k :=
  pd_of_rd ((rampAsked_regs s n).rd fun h => absurd h.2 (by decide)) k

theorem pdRamp_regs (s : State) (n : Nat) :
    RegsBut (fun a => a = R.SYS_PDSTAT.addr ∨ (pdHasBit n = true ∧ a = R.SYS_PDCTL.addr)) s (pdRamp s n) := by
  have asked := (rampAsked_regs s n).mono
    (q := fun a => a = R.SYS_PDSTAT.addr ∨ (pdHasBit n = true ∧ a = R.SYS_PDCTL.addr)) fun _ => Or.inr
  rw [pdRamp_eq]
  split
  · exact asked.wr (.inl rfl)
  · exact asked

/-- Beside the registers a ramp changes nothing but what stands behind SYS. -/
theorem pdRamp_else (s : State) (n : Nat) : { pdRamp s n with regs := s.regs, sys := s.sys } = s := by
  have asked := congrArg (fun u : State => { u with sys := s.sys }) (rampAsked_else s n)
  rw [pdRamp_eq]
  split <;> exact asked

theorem pdRamp_side (s : State) (n : Nat) : (pdRamp s n).sysSide = s.sysSide := by
  have asked := congrArg State.sysSide (rampAsked_else s n)
  rw [pdRamp_eq]
  split <;> exact asked

/-- A ramp starts in domain `n` where it is OFF, and in no other. -/
theorem pdRamp_pd (s : State) (hn : n < 8) (hk : k < 8) :
    (pdRamp s n).pd k = if k = n ∧ s.pd n = 0 then 1 else s.pd k := by
  rw [pdRamp_eq, rampAsked_pd]
  by_cases off : s.pd n = 0
  · rw [if_pos off]
    refine (setPd_pd _ hn hk (by decide)).trans ?_
    simp only [rampAsked_pd, off, and_true]
  · rw [if_neg off, rampAsked_pd, if_neg fun h => off h.2]

theorem foldl_pdRamp_pd (l : List Nat) (hl : ∀ n ∈ l, n < 8) (hk : k < 8) :
    ∀ s : State, (l.foldl pdRamp s).pd k = if k ∈ l ∧ s.pd k = 0 then 1 else s.pd k := by
  induction l with
  | nil => simp
  | cons n l ih =>
    intro s
    rw [List.foldl_cons, ih (fun m hm => hl m (List.mem_cons_of_mem n hm)), pdRamp_pd s (hl n List.mem_cons_self) hk]
    by_cases e : k = n
    · subst e
      by_cases off : s.pd k = 0 <;> simp [off]
    · simp [e]

theorem foldl_pdRamp_regs (l : List Nat) (s : State) :
    RegsBut (fun a => a = R.SYS_PDSTAT.addr ∨ a = R.SYS_PDCTL.addr) s (l.foldl pdRamp s) := by
  induction l generalizing s with
  | nil => exact RegsBut.refl s
  | cons n l ih => exact ((pdRamp_regs s n).mono fun _ => Or.imp_right And.right).trans (ih _)

/-! ### FIRE_PERMIT with SYS_FIRECTL clear (R541) -/

/-- What FIRE_PERMIT changes as it opens: the solenoid drive, SYS_STAT and what stands behind SYS. -/
def noFire (s : State) : State := { s with regs := [], sol := [], sys := {} }

theorem fireOpen_noisy (s : State) : noisy noFire (fun a => a = R.SYS_STAT.addr ∨ solBlock a) s (fireOpen s) := by
  let shown := (s.setF F.SYS_STAT_FIRE 0).setF F.SYS_STAT_FIREDROP_SEEN 1
  have show_noisy : noisy noFire (fun a => a = R.SYS_STAT.addr ∨ solBlock a) s shown :=
    ⟨rfl, ((RegsBut.refl s).setF (.inl (.inl rfl))).setF (.inl (.inl rfl))⟩
  have posted := noisy_trans show_noisy (noisy_of_posts (fun _ => rfl) (healthEvent_posts shown 0 0 0xD3 0 (sysStat shown)))
  have drop (u : State) : noisy noFire (fun a => a = R.SYS_STAT.addr ∨ solBlock a) u (solFireDrop u) := by
    obtain ⟨same, regs⟩ := solFireDrop_solOnly u
    refine ⟨?_, regs.mono fun _ => Or.imp_left Or.inr⟩
    have fires := congrArg (fun v : State => { v with sys := {} }) same
    simpa only [State.apart, noFire, noSol] using fires
  unfold fireOpen
  dsimp only
  split
  · exact noisy_trans posted (drop _)
  · exact posted

theorem fireUpdate_noisy (s : State) : noisy noFire (fun a => a = R.SYS_STAT.addr ∨ solBlock a) s (fireUpdate s) := by
  have timed (x : SysX) : noisy noFire (fun a => a = R.SYS_STAT.addr ∨ solBlock a) s { s with sys := x } :=
    ⟨rfl, RegsBut.refl s⟩
  unfold fireUpdate
  split
  · split
    · exact noisy_refl s
    · exact timed _
  · dsimp only
    split
    · exact noisy_trans (timed _) (fireOpen_noisy _)
    · exact timed _

/-- A FIRE_PERMIT that is open stays so, and nothing changes but the time of its conditions. -/
theorem fireUpdate_calm (h : s.fb F.SYS_STAT_FIRE = false) : ∃ x, fireUpdate s = { s with sys := { s.sys with fireSince := x } } := by
  unfold fireUpdate
  split
  · split
    · exact ⟨s.sys.fireSince, rfl⟩
    · exact ⟨_, rfl⟩
  · exact ⟨none, if_neg fun given => absurd (h.symm.trans given) (by decide)⟩

theorem fireOpen_opens (s : State) : (fireOpen s).fb F.SYS_STAT_FIRE = false := by
  let shown := (s.setF F.SYS_STAT_FIRE 0).setF F.SYS_STAT_FIREDROP_SEEN 1
  have shut : shown.fb F.SYS_STAT_FIRE = false :=
    (State.fb_setF_beside (s.setF F.SYS_STAT_FIRE 0) (fl := F.SYS_STAT_FIREDROP_SEEN) (fl' := F.SYS_STAT_FIRE) 1 0 0 rfl
      (by decide) (by decide) (by decide)).trans (State.fb_setF_same s F.SYS_STAT_FIRE 0 0 0 (by decide) (by decide))
  have posted : (healthEvent shown 0 0 0xD3 0 (sysStat shown)).fb F.SYS_STAT_FIRE = false :=
    ((healthEvent_posts shown 0 0 0xD3 0 (sysStat shown)).2.fb sysStat_not_event).trans shut
  have drop := (solFireDrop_solOnly (healthEvent shown 0 0 0xD3 0 (sysStat shown))).2.fb (fl := F.SYS_STAT_FIRE) (i := 0) (j := 0)
    (fun h => h.elim (by simp [solBlock, F.SYS_STAT_FIRE, R.SYS_STAT, RegDesc.addr]) sysStat_not_event)
  unfold fireOpen
  dsimp only
  split
  · exact drop.trans posted
  · exact posted

theorem fireUpdate_opens (h : s.fb F.SYS_FIRECTL_EN = false) : (fireUpdate s).fb F.SYS_STAT_FIRE = false := by
  have missing : fireCond s = false := by simp [fireCond, h]
  unfold fireUpdate
  rw [missing]
  dsimp only
  split
  · next h => exact absurd h (by decide)
  · split
    · exact fireOpen_opens _
    · next shut => exact Bool.eq_false_iff.mpr shut

/-! ### Mode changes -/

/-- What a mode change leaves: the new mode in SYS_MODE, SYS_FIRECTL clear, FIRE_PERMIT open; the domains and what stands
behind SYS stay. -/
theorem modeTo_enters (s : State) {m : Nat} (hm : m < 8) : modeEntered (modeTo s m 0) m ∧
    (modeTo s m 0).rd R.SYS_PDSTAT = s.rd R.SYS_PDSTAT ∧ (modeTo s m 0).sysSide = s.sysSide ∧
    (modeTo s m 0).fb F.SYS_STAT_CRIT = s.fb F.SYS_STAT_CRIT ∧ (modeTo s m 0).sto = s.sto := by
  let set := setMode s m 0
  have told : Posts set (modeEvent set s.mode) := healthEvent_posts _ _ _ _ _ _
  have toldStill : Still set (modeEvent set s.mode) := (Still.refl set).posts told
  have still : Still set (modeTo s m 0) := toldStill.trans (fireUpdate_still _)
  have fired := fireUpdate_noisy (modeEvent set s.mode)
  have word : set.rd R.SYS_MODE = BitVec.ofNat 32 m :=
    (State.rd_wr_ne _ (by decide)).trans (State.rd_wr_same ..)
  have ctl : (modeEvent set s.mode).rd R.SYS_FIRECTL = 0 :=
    (told.2.rd fun h => by have area := eventReg_area h; simp only [RegDesc.addr, R.SYS_FIRECTL] at area; omega).trans
      (State.rd_wr_same ..)
  have shown : (modeTo s m 0).rd R.SYS_MODE = BitVec.ofNat 32 m := still.modeWord.trans word
  refine ⟨⟨?_, shown, ?_, ?_⟩, ?_, ?_, ?_, ?_⟩
  · simp only [State.mode, State.f, F.SYS_MODE_MODE, shown]
    simp [bits]
    omega
  · refine (noisy_rd fired ?_ fun h => ?_).trans ctl
    · simp [solBlock, RegDesc.addr, R.SYS_FIRECTL, R.SYS_STAT]
    · have area := eventReg_area h
      simp only [RegDesc.addr, R.SYS_FIRECTL] at area
      omega
  · have shut : (modeEvent set s.mode).fb F.SYS_FIRECTL_EN = false := by
      show (bits ((modeEvent set s.mode).rd R.SYS_FIRECTL) 0 0 != 0) = false
      rw [ctl]
      decide
    exact fireUpdate_opens shut
  · exact still.domains.trans ((State.rd_wr_ne _ (by decide)).trans (State.rd_wr_ne _ (by decide)))
  · exact still.side
  · have stat : set.rd R.SYS_STAT = s.rd R.SYS_STAT := (State.rd_wr_ne _ (by decide)).trans (State.rd_wr_ne _ (by decide))
    refine still.crit.trans ?_
    simp only [State.fb, State.f, F.SYS_STAT_CRIT, stat]
  · have fired_sto : (fireUpdate (modeEvent set s.mode)).sto = (modeEvent set s.mode).sto := by
      simpa only [State.apart, noFire] using congrArg State.sto fired.1
    have told_sto : (modeEvent set s.mode).sto = set.sto := by simpa only [State.apart] using congrArg State.sto told.1
    exact fired_sto.trans told_sto

end Sys2Proof.Machine

/-! DOMAIN_ON and DORMANT_ENTERED (R534, R544, R545, R548, R550). -/

namespace Sys2Proof.Machine

open Sys2Proof.Claims

variable {s t u : State} {n k : Nat}

/-! ### A domain reaches ON -/

theorem pdShown_regs (s : State) (n : Nat) : RegsBut (· = R.SYS_PDSTAT.addr) s (pdShown s n) :=
  (RegsBut.refl s).wr rfl

/-- After a domain reached ON: the domains, the mode and the flags of the sequences. -/
theorem pdOn_shows (s : State) (hn : n < 8) (test : OutputTest) :
    (∀ k, k < 8 → (pdOn s n test).pd k = if k = n then 2 else s.pd k) ∧
      (pdOn s n test).rd R.SYS_MODE = s.rd R.SYS_MODE ∧ (pdOn s n test).sysSide = s.sysSide := by
  have still := pdOn_still s n test
  refine ⟨fun k hk => (still.pd k).trans (pdShown_pd s hn hk), ?_, still.side⟩
  exact still.modeWord.trans ((pdShown_regs s n).rd (by decide))

theorem flags_of_side (h : t.sysSide = s.sysSide) :
    t.sys.boot = s.sys.boot ∧ t.sys.resume = s.sys.resume ∧ t.sys.exiting = s.sys.exiting ∧ t.sys.hostAt = s.sys.hostAt ∧
      t.sys.wdtArmed = s.sys.wdtArmed ∧ t.sys.critRec = s.sys.critRec ∧ t.programs = s.programs ∧ t.template = s.template ∧
      t.elapsed = s.elapsed := by
  obtain ⟨sys, rest⟩ := Prod.mk.inj h
  obtain ⟨programs, rest⟩ := Prod.mk.inj rest
  obtain ⟨template, elapsed⟩ := Prod.mk.inj rest
  exact ⟨(congrArg SysX.boot sys :), (congrArg SysX.resume sys :), (congrArg SysX.exiting sys :), (congrArg SysX.hostAt sys :),
    (congrArg SysX.wdtArmed sys :), (congrArg SysX.critRec sys :), programs, template, elapsed⟩

/-- SYS_MODE tells the mode, whether a change pends, and its target. -/
theorem modeFields_of_rd (h : t.rd R.SYS_MODE = s.rd R.SYS_MODE) :
    t.mode = s.mode ∧ t.fb F.SYS_MODE_PEND = s.fb F.SYS_MODE_PEND ∧ t.f F.SYS_MODE_TARGET = s.f F.SYS_MODE_TARGET := by
  simp only [State.mode, State.fb, State.f, F.SYS_MODE_MODE, F.SYS_MODE_PEND, F.SYS_MODE_TARGET, h, and_self]

theorem pdNeeds_lt {m : Nat} (h : k ∈ pdNeeds m) : k < 8 := by
  have listed := List.mem_of_mem_filter h
  simp only [List.mem_cons, List.not_mem_nil, or_false] at listed
  omega

theorem target_lt (s : State) : s.f F.SYS_MODE_TARGET < 8 := Nat.mod_lt _ (by decide)

section
variable (n : Fin 8) (test : OutputTest) (hr : s.pd n = 1)
include hr

theorem domainOn_runs : exec (.domainOn n test) s = .next (
    if (pdOn s n test).sys.boot ∨ (pdOn s n test).sys.resume then pdAdvance (pdOn s n test) n
    else if (pdOn s n test).fb F.SYS_MODE_PEND ∧ !(pdOn s n test).sys.exiting ∧
        (pdOn s n test).f F.SYS_MODE_TARGET ≠ modeDormant ∧
        (pdNeeds ((pdOn s n test).f F.SYS_MODE_TARGET)).all (fun k => (pdOn s n test).domOn k) then
      modeTo (pdOn s n test) ((pdOn s n test).f F.SYS_MODE_TARGET) 0
    else pdOn s n test) :=
  congrArg Host.Outcome.next (if_neg fun h => h hr)

/-- The pending change takes effect with the last domain it needs. -/
theorem domainOn_enters (walk : ¬ (s.sys.boot = true ∨ s.sys.resume = true)) (pend : s.fb F.SYS_MODE_PEND = true)
    (exit : s.sys.exiting = false) (target : s.f F.SYS_MODE_TARGET ≠ 7)
    (needs : ∀ k ∈ pdNeeds (s.f F.SYS_MODE_TARGET), k = n.val ∨ s.domOn k = true) :
    runsTo (.domainOn n test) s fun t => t.domOn n = true ∧ modeEntered t (s.f F.SYS_MODE_TARGET) := by
  obtain ⟨pds, word, side⟩ := pdOn_shows s n.isLt test
  obtain ⟨boot, resume, exiting, -⟩ := flags_of_side side
  obtain ⟨-, pends, goal⟩ := modeFields_of_rd word
  have all : (pdNeeds (s.f F.SYS_MODE_TARGET)).all (fun k => (pdOn s n test).domOn k) = true := by
    refine List.all_eq_true.mpr fun k hk => ?_
    rw [domOn_iff, pds k (pdNeeds_lt hk)]
    split
    · rfl
    · next other => exact domOn_iff.mp ((needs k hk).resolve_left other)
  refine ⟨_, (domainOn_runs n test hr).trans (congrArg Host.Outcome.next ((if_neg ?_).trans (if_pos ?_))), ?_⟩
  · rwa [boot, resume]
  · rw [pends, exiting, goal]
    exact ⟨pend, by rw [exit]; rfl, target, all⟩
  · rw [goal]
    obtain ⟨entered, domains, -⟩ := modeTo_enters (pdOn s n test) (target_lt s)
    refine ⟨?_, entered⟩
    rw [domOn_iff, pd_of_rd domains, pds _ n.isLt, if_pos rfl]

theorem domainOn_waits (walk : ¬ (s.sys.boot = true ∨ s.sys.resume = true))
    (wait : s.fb F.SYS_MODE_PEND = false ∨
      ¬ ∀ k ∈ pdNeeds (s.f F.SYS_MODE_TARGET), k = n.val ∨ s.domOn k = true) :
    runsTo (.domainOn n test) s fun t => t.mode = s.mode ∧ ∀ k, k < 8 → t.pd k = if k = n.val then 2 else s.pd k := by
  obtain ⟨pds, word, side⟩ := pdOn_shows s n.isLt test
  obtain ⟨boot, resume, -⟩ := flags_of_side side
  obtain ⟨mode, pends, goal⟩ := modeFields_of_rd word
  refine ⟨_, (domainOn_runs n test hr).trans (congrArg Host.Outcome.next ((if_neg ?_).trans (if_neg ?_))), mode, pds⟩
  · rwa [boot, resume]
  · rw [pends, goal]
    rintro ⟨pend, -, -, all⟩
    refine wait.elim (fun no => absurd (no.symm.trans pend) (by decide)) fun missing => missing fun k hk => ?_
    have up := domOn_iff.mp (List.all_eq_true.mp all k hk)
    rw [pds k (pdNeeds_lt hk)] at up
    by_cases e : k = n.val
    · exact .inl e
    · exact .inr (domOn_iff.mpr ((if_neg e).symm.trans up))

end

/-! ### The order of a boot and a resume (R545, R550) -/

/-- The groups in which a boot or a resume switches domains on: those that must be on, and those that follow. -/
def pdGroups : List (List Nat × List Nat) := [([2], [1, 3, 6]), ([1, 2, 3, 6], [4, 5]), ([1, 2, 3, 4, 5, 6], [7])]

theorem all_on {l : List Nat} (h : ∀ k ∈ l, u.domOn k = true) : l.all (fun k => u.domOn k) = true := List.all_eq_true.mpr h

theorem any_off {l : List Nat} (hne : l ≠ []) (h : ∀ k ∈ l, u.pd k = 0) : l.any (fun k => u.pd k == 0) = true := by
  obtain ⟨k, hk⟩ := List.exists_mem_of_ne_nil l hne
  exact List.any_eq_true.mpr ⟨k, hk, by rw [h k hk]; rfl⟩

theorem none_off {l : List Nat} (h : ∀ k ∈ l, u.domOn k = true) : l.any (fun k => u.pd k == 0) = false := by
  refine List.any_eq_false.mpr fun k hk => ?_
  rw [domOn_iff.mp (h k hk)]
  decide

/-- With a group on and the next one off, that one starts to ramp. -/
theorem pdAdvance_group (u : State) (n : Nat) : ∀ p ∈ pdGroups, (∀ k ∈ p.1, u.domOn k = true) → (∀ k ∈ p.2, u.pd k = 0) →
    pdAdvance u n = p.2.foldl pdRamp u := by
  intro p hp on off
  simp only [pdGroups, List.mem_cons, List.not_mem_nil, or_false] at hp
  have sub (l : List Nat) (h : ∀ k ∈ l, k ∈ p.1) : ∀ k ∈ l, u.domOn k = true := fun k hk => on k (h k hk)
  unfold pdAdvance
  dsimp only
  obtain rfl | rfl | rfl := hp
  · exact if_pos (by rw [all_on on, any_off (by decide) off]; rfl)
  · have first := none_off (l := [1, 3, 6]) (sub _ (by decide))
    exact (if_neg (by simp [first])).trans (if_pos (by rw [all_on on, any_off (by decide) off]; rfl))
  · have first := none_off (l := [1, 3, 6]) (sub _ (by decide))
    have second := none_off (l := [4, 5]) (sub _ (by decide))
    exact ((if_neg (by simp [first])).trans (if_neg (by simp [second]))).trans
      (if_pos (by rw [all_on on, any_off (by decide) off]; rfl))

theorem domainOn_advances (n : Fin 8) (test : OutputTest) (hr : s.pd n = 1)
    (walk : s.sys.boot = true ∨ s.sys.resume = true) : ∀ p ∈ pdGroups, n.val ∈ p.1 →
    (∀ k ∈ p.1, k = n.val ∨ s.domOn k = true) → (∀ k ∈ p.2, s.pd k = 0) →
    runsTo (.domainOn n test) s fun t => t.domOn n = true ∧ t.mode = s.mode ∧ ∀ k ∈ p.2, t.pd k = 1 := by
  intro p hp mine on off
  have small : ∀ p ∈ pdGroups, (∀ k ∈ p.1, k < 8) ∧ (∀ k ∈ p.2, k < 8) ∧ ∀ k ∈ p.2, k ∉ p.1 := by decide
  obtain ⟨small1, small2, apart⟩ := small p hp
  obtain ⟨pds, word, side⟩ := pdOn_shows s n.isLt test
  obtain ⟨boot, resume, -⟩ := flags_of_side side
  have on' : ∀ k ∈ p.1, (pdOn s n test).domOn k = true := by
    intro k hk
    rw [domOn_iff, pds k (small1 k hk)]
    split
    · rfl
    · next other => exact domOn_iff.mp ((on k hk).resolve_left other)
  have off' : ∀ k ∈ p.2, (pdOn s n test).pd k = 0 := by
    intro k hk
    rw [pds k (small2 k hk), if_neg fun e => apart k hk (by rw [e]; exact mine)]
    exact off k hk
  have advance := pdAdvance_group (pdOn s n test) n p hp on' off'
  refine ⟨_, (domainOn_runs n test hr).trans (congrArg Host.Outcome.next ((if_pos ?_).trans advance)), ?_, ?_, fun k hk => ?_⟩
  · rwa [boot, resume]
  · rw [domOn_iff, foldl_pdRamp_pd p.2 small2 n.isLt, if_neg fun h => apart _ h.1 mine]
    exact domOn_iff.mp (on' _ mine)
  · exact (modeFields_of_rd (((foldl_pdRamp_regs p.2 _).rd (by decide)).trans word)).1
  · rw [foldl_pdRamp_pd p.2 small2 (small2 k hk), if_pos ⟨hk, off' k hk⟩]

end Sys2Proof.Machine

/-! Domains that go off: DOMAIN_SWITCH and DORMANT_ENTERED (R39, R40, R544, R548). -/

namespace Sys2Proof.Machine

open Sys2Proof.Claims

variable {s t u : State} {n k : Nat} {v : Word}

/-! ### What a domain loses (R18, R40) -/

/-- The registers beyond those of SYS, and SYS_STAT. -/
def beyondSys (a : Nat) : Prop := a = R.SYS_STAT.addr ∨ 0x10010000 ≤ a

theorem regsBut_dropped {p : Nat → Prop} {lo hi : Nat} (h : RegsBut p s t) (hr : u.regs = tabDropRange t.regs lo hi)
    (hp : ∀ a, lo ≤ a → a ≤ hi → p a) : RegsBut p s u := by
  intro a ha
  rw [hr, tabFind_tabDropRange, if_neg fun inside => ha (hp a inside.1 inside.2)]
  exact h a ha

theorem fireUpdate_beyondSys (s : State) : RegsBut beyondSys s (fireUpdate s) := by
  refine (fireUpdate_noisy s).2.mono ?_
  rintro a ((rfl | h) | h)
  · exact .inl rfl
  · simp only [solBlock] at h
    exact .inr (by omega)
  · have area := eventReg_area h
    exact .inr (by omega)

/-- The PD3 loop engine and trace without their registers, before FIRE_PERMIT follows. -/
def lpeLost (s : State) : State := { s with regs := tabDropRange s.regs 0x20000000 0x21FFFFFF, lpe := [], trc := [] }

theorem lpePowerOff_eq (s : State) : lpePowerOff s = fireUpdate (lpeLost s) := rfl

theorem dropped_beyondSys {lo hi : Nat} (h : RegsBut beyondSys s t) (hr : u.regs = tabDropRange t.regs lo hi)
    (hl : 0x10010000 ≤ lo := by decide) : RegsBut beyondSys s u :=
  regsBut_dropped h hr fun _ low _ => .inr (hl.trans low)

theorem canReset_beyondSys (s : State) : RegsBut beyondSys s (canReset s) := by
  have lost : RegsBut beyondSys s { s with regs := tabDropRange s.regs 0x50000000 0x50FFFFFF, can := [], tts := [] } :=
    dropped_beyondSys (RegsBut.refl s) rfl
  unfold canReset
  dsimp only
  split
  · exact lost
  · exact lost.wr (.inr (by decide))

theorem pdDrop_beyondSys (s : State) (n : Nat) : RegsBut beyondSys s (pdDrop s n) := by
  have twice {lo hi lo' hi' : Nat} {t : State} (hr : t.regs = tabDropRange (tabDropRange s.regs lo hi) lo' hi')
      (hl : 0x10010000 ≤ lo) (hl' : 0x10010000 ≤ lo') : RegsBut beyondSys s t :=
    dropped_beyondSys (dropped_beyondSys (u := { s with regs := tabDropRange s.regs lo hi }) (RegsBut.refl s) rfl hl) hr hl'
  unfold pdDrop
  split
  · exact twice rfl (by decide) (by decide)
  · exact dropped_beyondSys (lo := 0x51000000) (hi := 0x51FFFFFF) (t := { s with
      regs := tabDropRange (tabDropRange s.regs 0x11000000 0x1101FFFF) 0x32000000 0x32FFFFFF })
      (twice rfl (by decide) (by decide)) rfl
  · rw [lpePowerOff_eq]
    exact RegsBut.trans (dropped_beyondSys (t := s) (RegsBut.refl s) rfl) (fireUpdate_beyondSys _)
  · exact dropped_beyondSys (RegsBut.refl s) rfl
  · exact dropped_beyondSys (RegsBut.refl s) rfl
  · exact canReset_beyondSys s
  · exact dropped_beyondSys (RegsBut.refl s) rfl
  · exact RegsBut.refl s

theorem fireUpdate_sto (s : State) : (fireUpdate s).sto = s.sto := by
  simpa only [State.apart, noFire] using congrArg State.sto (fireUpdate_noisy s).1

theorem fireUpdate_rods (s : State) : (fireUpdate s).rods = s.rods := by
  simpa only [State.apart, noFire] using congrArg State.rods (fireUpdate_noisy s).1

theorem canReset_else (s : State) : { canReset s with regs := s.regs, can := s.can, tts := s.tts } = s := by
  unfold canReset
  dsimp only
  split <;> rfl

/-- No domain's contents are the banks of the store. -/
theorem pdDrop_banks (s : State) (n : Nat) :
    (pdDrop s n).sto.bankA = s.sto.bankA ∧ (pdDrop s n).sto.bankB = s.sto.bankB := by
  have can : (canReset s).sto = s.sto := (congrArg State.sto (canReset_else s) :)
  have loops : (lpePowerOff s).sto = s.sto := fireUpdate_sto (lpeLost s)
  unfold pdDrop
  split
  · exact ⟨rfl, rfl⟩
  · exact ⟨rfl, rfl⟩
  · rw [loops]; exact ⟨rfl, rfl⟩
  · exact ⟨rfl, rfl⟩
  · exact ⟨rfl, rfl⟩
  · rw [can]; exact ⟨rfl, rfl⟩
  · exact ⟨rfl, rfl⟩
  · exact ⟨rfl, rfl⟩

/-! ### A domain goes off -/

/-- SYS_PDSTAT and SYS_PDCTL show domain `n` off. -/
def offShown (s : State) (n : Nat) : State :=
  if pdHasBit n then (s.setPd n 0).setMask R.SYS_PDCTL n false else s.setPd n 0

theorem pdOff_eq (s : State) (n : Nat) : pdOff s n = if s.pd n = 0 then s else
    (offShown (pdDrop s n) n).setSys { (offShown (pdDrop s n) n).sys with
      ramps := tabDrop (offShown (pdDrop s n) n).sys.ramps n } := rfl

theorem offShown_else (s : State) (n : Nat) : { offShown s n with regs := s.regs } = s := by
  unfold offShown; split <;> rfl

theorem offShown_regs (s : State) (n : Nat) :
    RegsBut (fun a => a = R.SYS_PDSTAT.addr ∨ a = R.SYS_PDCTL.addr) s (offShown s n) := by
  have off : RegsBut (fun a => a = R.SYS_PDSTAT.addr ∨ a = R.SYS_PDCTL.addr) s (s.setPd n 0) :=
    (RegsBut.refl s).wr (.inl rfl)
  unfold offShown
  split
  · exact off.wr (.inr rfl)
  · exact off

theorem offShown_pd (s : State) (hn : n < 8) (hk : k < 8) : (offShown s n).pd k = if k = n then 0 else s.pd k := by
  have same : (offShown s n).pd k = (s.setPd n 0).pd k := by
    unfold offShown
    split
    · exact pd_of_rd (State.rd_wr_ne _ (by decide)) k
    · rfl
  exact same.trans (setPd_pd s hn hk (by decide))

theorem pdDrop_pd (s : State) (n k : Nat) : (pdDrop s n).pd k = s.pd k :=
  pd_of_rd ((pdDrop_beyondSys s n).rd fun h => h.elim (by decide) (by decide)) k

theorem pdOff_pd (s : State) (hn : n < 8) (hk : k < 8) : (pdOff s n).pd k = if k = n then 0 else s.pd k := by
  rw [pdOff_eq]
  split
  · next off =>
    by_cases e : k = n
    · rw [if_pos e, e, off]
    · rw [if_neg e]
  · exact (offShown_pd _ hn hk).trans (by rw [pdDrop_pd])

theorem pdOff_banks (s : State) (n : Nat) :
    (pdOff s n).sto.bankA = s.sto.bankA ∧ (pdOff s n).sto.bankB = s.sto.bankB := by
  have shown := congrArg State.sto (offShown_else (pdDrop s n) n)
  rw [pdOff_eq]
  split
  · exact ⟨rfl, rfl⟩
  · exact ⟨(congrArg StoX.bankA shown).trans (pdDrop_banks s n).1, (congrArg StoX.bankB shown).trans (pdDrop_banks s n).2⟩

theorem foldl_pdOff (l : List Nat) (hl : ∀ n ∈ l, n < 8) : ∀ s : State,
    (∀ k, k < 8 → (l.foldl pdOff s).pd k = if k ∈ l then 0 else s.pd k) ∧
      (l.foldl pdOff s).sto.bankA = s.sto.bankA ∧ (l.foldl pdOff s).sto.bankB = s.sto.bankB := by
  induction l with
  | nil => exact fun s => ⟨by simp, rfl, rfl⟩
  | cons n l ih =>
    intro s
    obtain ⟨pds, bankA, bankB⟩ := ih (fun m hm => hl m (List.mem_cons_of_mem n hm)) (pdOff s n)
    refine ⟨fun k hk => ?_, bankA.trans (pdOff_banks s n).1, bankB.trans (pdOff_banks s n).2⟩
    rw [List.foldl_cons, pds k hk, pdOff_pd s (hl n List.mem_cons_self) hk]
    by_cases e : k = n
    · simp [e]
    · simp [e]

/-! ### DORMANT_ENTERED -/

theorem dormantEntered_enters (ready : s.mode = 2) (pend : s.fb F.SYS_MODE_PEND = true) (target : s.f F.SYS_MODE_TARGET = 7)
    (stopped : ∀ r ∈ s.sys.stopped, s.rodSt r = rodHalted ∨ s.rodSt r = rodFaulted ∨ s.rodSt r = rodShed) :
    runsTo .dormantEntered s fun t => modeEntered t 7 ∧ (∀ n, 1 ≤ n → n < 8 → t.pd n = 0) ∧ t.pd 0 = s.pd 0 ∧
      t.sys.wdtArmed = false ∧ t.sto.bankA = s.sto.bankA ∧ t.sto.bankB = s.sto.bankB := by
  have all : rodsStopped s s.sys.stopped = true := by
    refine List.all_eq_true.mpr fun r hr => ?_
    simpa only [Bool.or_eq_true, beq_iff_eq, or_assoc] using stopped r hr
  obtain ⟨pds, bankA, bankB⟩ := foldl_pdOff [7, 5, 4, 3, 6, 2, 1] (by decide) s
  let off := [7, 5, 4, 3, 6, 2, 1].foldl pdOff s
  obtain ⟨entered, domains, side, -, sto⟩ :=
    modeTo_enters (off.setSys { off.sys with stopped := [], wdtArmed := false }) (m := 7) (by decide)
  obtain ⟨-, -, -, -, armed, -⟩ := flags_of_side side
  refine ⟨_, congrArg Host.Outcome.next (if_pos ⟨ready, pend, target, all⟩), entered, fun n low high => ?_, ?_, armed, ?_, ?_⟩
  · exact (pd_of_rd domains n).trans ((pds n high).trans (if_pos (by simp only [List.mem_cons, List.not_mem_nil]; omega)))
  · exact (pd_of_rd domains 0).trans ((pds 0 (by decide)).trans (if_neg (by decide)))
  · exact (congrArg StoX.bankA sto).trans bankA
  · exact (congrArg StoX.bankB sto).trans bankB

end Sys2Proof.Machine

/-! DOMAIN_SWITCH (R39, R544). -/

namespace Sys2Proof.Machine

open Sys2Proof.Claims

variable {s t u : State} {n k : Nat} {v : Word}

/-! ### The write of SYS_PDCTL -/

/-- The domains that SYS_PDCTL switches. -/
def switched : List Nat := [1, 3, 4, 5, 6]

/-- One bit of a write of SYS_PDCTL. -/
def pdStep (v : Word) (s : State) (n : Nat) : State :=
  let was := maskBit (s.rd R.SYS_PDCTL) n
  if maskBit v n && !was then pdRamp s n else if !maskBit v n && was then pdOff s n else s

theorem pdctlWrite_eq (s : State) (v : Word) : pdctlWrite s v = switched.foldl (pdStep v) s := rfl

/-- SYS_PDCTL has nothing of its own to check or to lay down: its write is refused by R544, or switches domains. -/
theorem writeReg_pdctl (on : s.domOn 0 = true) (v : Word) :
    writeReg .host R.SYS_PDCTL 0 0 v s = if pdctlRefuse s v then sysRefused s else pdctlWrite s v := by
  have live : regDead s R.SYS_PDCTL R.SYS_PDCTL.addr 0 0 = false := by
    have dom : domainOf 0x10000014 = 0 := by decide
    simp [regDead, dom, on, regAbsent, regHidden, solHidden, canHidden, R.SYS_PDCTL, RegDesc.addr]
  have fields : R.SYS_PDCTL.fields.any (fieldBad s R.SYS_PDCTL 0 0 (regOld s R.SYS_PDCTL 0 0) v) = false := by
    simp [R.SYS_PDCTL, fieldBad, chkOk]
  have refuse : regRefuse s R.SYS_PDCTL 0 0 (regOld s R.SYS_PDCTL 0 0) v = pdctlRefuse s v := by
    simp [regRefuse, R.SYS_PDCTL]
  have written : regWrite s .host R.SYS_PDCTL R.SYS_PDCTL.addr 0 0 v =
      if pdctlRefuse s v then sysRefused s else pdctlWrite s v := by
    unfold regWrite
    simp only [fields, refuse, Bool.false_or]
    rfl
  unfold writeReg
  rw [← written]
  simp only [live, solOddEnable]
  rfl

/-- What R544 asks of a switch of the domains. -/
def maySwitch (s : State) (v : Word) : Prop :=
  ∀ n ∈ switched, maskBit v n ≠ maskBit (s.rd R.SYS_PDCTL) n → pdRule s.mode n = 2 ∧
    (maskBit v n = false → s.fb F.SYS_MODE_PEND = true → pdRule (s.f F.SYS_MODE_TARGET) n ≠ 1)

theorem pdctlRefuse_iff (s : State) (v : Word) : pdctlRefuse s v = true ↔ ¬ maySwitch s v := by
  simp only [pdctlRefuse, maySwitch, switched, List.any_eq_true, not_forall, Bool.and_eq_true, bne_iff_ne, Bool.or_eq_true,
    Bool.not_eq_true', beq_iff_eq, ne_eq, not_and_or, exists_prop, not_not]
  constructor
  · rintro ⟨n, hn, differs, bad⟩
    refine ⟨n, hn, differs, bad.imp_right fun ⟨⟨low, pend⟩, needs⟩ => ⟨low, pend, needs⟩⟩
  · rintro ⟨n, hn, differs, bad⟩
    exact ⟨n, hn, differs, bad.imp_right fun ⟨low, pend, needs⟩ => ⟨⟨low, pend⟩, needs⟩⟩

theorem sysRefused_refuses (s : State) : sysRefuses s (sysRefused s) :=
  ⟨State.fb_setF_same s F.SYS_STAT_REFUSED 1 0 0 (by decide) (by decide), rfl, (RegsBut.refl s).setF rfl⟩

/-! ### What a switch leaves -/

/-- A switch of domains leaves the Rods and the store, SYS but for its domains and SYS_STAT, and, where FIRE_PERMIT does
not open, Frame SRAM; and what PD1 lost stays lost. -/
structure Switches (s t : State) : Prop where
  rods : t.rods = s.rods
  sto : t.sto = s.sto
  calm : s.fb F.SYS_STAT_FIRE = false → t.frame = s.frame ∧ t.fb F.SYS_STAT_FIRE = false
  regs : RegsBut (fun a => a = R.SYS_PDSTAT.addr ∨ a = R.SYS_PDCTL.addr ∨ beyondSys a) s t
  lost : ∀ a, 0x60000000 ≤ a → a < 0x60000800 → tabFind s.regs a = none → tabFind t.regs a = none

namespace Switches

theorem refl (s : State) : Switches s s := ⟨rfl, rfl, fun h => ⟨rfl, h⟩, RegsBut.refl s, fun _ _ _ h => h⟩

theorem trans (h : Switches s t) (h' : Switches t u) : Switches s u :=
  ⟨h'.rods.trans h.rods, h'.sto.trans h.sto,
    fun shut => ⟨(h'.calm (h.calm shut).2).1.trans (h.calm shut).1, (h'.calm (h.calm shut).2).2⟩, h.regs.trans h'.regs,
    fun a low high none => h'.lost a low high (h.lost a low high none)⟩

/-- A change of the domains' own words alone. -/
theorem of_words (he : { t with regs := s.regs, sys := s.sys } = s)
    (hr : RegsBut (fun a => a = R.SYS_PDSTAT.addr ∨ a = R.SYS_PDCTL.addr) s t) : Switches s t := by
  refine ⟨(congrArg State.rods he :), (congrArg State.sto he :), fun shut => ⟨(congrArg State.frame he :), ?_⟩,
    hr.mono fun _ => Or.imp_right Or.inl, fun a low _ none => (hr a ?_).trans none⟩
  · exact (hr.fb (by decide)).trans shut
  · rintro (rfl | rfl)
    · exact absurd low (by decide)
    · exact absurd low (by decide)

/-- A unit that loses its registers, of SYS none. -/
theorem of_drop (lo hi : Nat) (hrods : t.rods = s.rods) (hsto : t.sto = s.sto) (hframe : t.frame = s.frame)
    (hr : t.regs = tabDropRange s.regs lo hi) (hl : 0x10010000 ≤ lo := by decide) : Switches s t := by
  have regs : RegsBut beyondSys s t := dropped_beyondSys (RegsBut.refl s) hr hl
  have statKept : tabFind t.regs R.SYS_STAT.addr = tabFind s.regs R.SYS_STAT.addr := by
    rw [hr, tabFind_tabDropRange, if_neg fun h => absurd (hl.trans h.1) (by decide)]
  refine ⟨hrods, hsto, fun shut => ⟨hframe, ?_⟩, regs.mono fun _ => fun h => .inr (.inr h), fun a _ _ none => ?_⟩
  · rw [← shut]
    simp only [State.fb, State.f, State.rd, tabGet, F.SYS_STAT_FIRE, statKept]
  · rw [hr, tabFind_tabDropRange, none, ite_self]

/-- A register of a unit, outside SYS and the port of PD1. -/
theorem wr (h : Switches s t) {d : RegDesc} (w : Word) (hd : 0x10010000 ≤ d.addr) (hp : d.addr < 0x60000000) :
    Switches s (t.wr d w) := by
  have stat : (t.wr d w).rd R.SYS_STAT = t.rd R.SYS_STAT := State.rd_wr_ne _ fun e => by
    rw [e] at hd; exact absurd hd (by decide)
  refine ⟨h.rods, h.sto, fun shut => ⟨(h.calm shut).1, ?_⟩, h.regs.wr (.inr (.inr (.inr hd))), fun a low high none => ?_⟩
  · rw [← (h.calm shut).2]
    simp only [State.fb, State.f, F.SYS_STAT_FIRE, stat]
  · exact (tabFind_tabPut_ne (by omega)).trans (h.lost a low high none)

end Switches

theorem fireUpdate_switches (s : State) : Switches s (fireUpdate s) := by
  refine ⟨fireUpdate_rods s, fireUpdate_sto s, fun shut => ?_,
    (fireUpdate_beyondSys s).mono fun _ h => .inr (.inr h), fun a low high none => ?_⟩
  · obtain ⟨x, same⟩ := fireUpdate_calm shut
    rw [same]
    exact ⟨rfl, shut⟩
  · refine ((fireUpdate_noisy s).2 a ?_).trans none
    rintro ((rfl | h) | h)
    · exact absurd low (by decide)
    · simp only [solBlock] at h; omega
    · have area := eventReg_area h
      omega

theorem canReset_switches (s : State) : Switches s (canReset s) := by
  have lost : Switches s { s with regs := tabDropRange s.regs 0x50000000 0x50FFFFFF, can := [], tts := [] } :=
    Switches.of_drop 0x50000000 0x50FFFFFF rfl rfl rfl rfl
  unfold canReset
  dsimp only
  split
  · exact lost
  · exact lost.wr _ (by decide) (by decide)

theorem pdDrop_switches (s : State) (hn : n ∈ switched) : Switches s (pdDrop s n) := by
  simp only [switched, List.mem_cons, List.not_mem_nil, or_false] at hn
  obtain rfl | rfl | rfl | rfl | rfl := hn
  · exact (Switches.of_drop (s := s) (t := { s with regs := tabDropRange s.regs 0x60000000 0x600007FF })
      0x60000000 0x600007FF rfl rfl rfl rfl).trans
      (Switches.of_drop 0x61000100 0x610001FF rfl rfl rfl rfl)
  · exact (Switches.of_drop (s := s) (t := lpeLost s) 0x20000000 0x21FFFFFF rfl rfl rfl rfl).trans (fireUpdate_switches _)
  · exact Switches.of_drop 0x30000000 0x30FFFFFF rfl rfl rfl rfl
  · exact Switches.of_drop 0x31000000 0x31FFFFFF rfl rfl rfl rfl
  · exact canReset_switches s

theorem pdOff_switches (s : State) (hn : n ∈ switched) : Switches s (pdOff s n) := by
  rw [pdOff_eq]
  split
  · exact Switches.refl s
  · exact (pdDrop_switches s hn).trans (Switches.of_words (congrArg (fun u : State => { u with sys := (pdDrop s n).sys })
      (offShown_else (pdDrop s n) n)) (offShown_regs _ n))

theorem pdRamp_switches (s : State) (n : Nat) : Switches s (pdRamp s n) :=
  Switches.of_words (pdRamp_else s n) ((pdRamp_regs s n).mono fun _ => Or.imp_right And.right)

/-! ### The bits and the domains -/

theorem setMask_bit (s : State) (d : RegDesc) (b : Bool) (hk : k < 32) :
    maskBit ((s.setMask d n b).rd d) k = if k = n then b else maskBit (s.rd d) k := by
  rw [State.setMask, State.rd_wr_same, maskBit, testBit_putBits _ _ (le_refl n), decide_eq_true hk, Bool.true_and]
  by_cases e : k = n
  · subst e
    cases b <;> simp [bit]
  · rw [if_neg fun h => e (le_antisymm h.2 h.1), if_neg e, maskBit]

theorem hasBit_of_switched (hn : n ∈ switched) : pdHasBit n = true := by
  simpa [switched, pdHasBit] using hn

theorem pdRamp_bit (s : State) (hn : n ∈ switched) (hk : k < 32) :
    maskBit ((pdRamp s n).rd R.SYS_PDCTL) k = if k = n then true else maskBit (s.rd R.SYS_PDCTL) k := by
  have asked : rampAsked s n = s.setMask R.SYS_PDCTL n true := if_pos (hasBit_of_switched hn)
  have shown : (pdRamp s n).rd R.SYS_PDCTL = (rampAsked s n).rd R.SYS_PDCTL := by
    rw [pdRamp_eq]
    split
    · exact State.rd_wr_ne _ (by decide)
    · rfl
  rw [shown, asked]
  exact setMask_bit s _ true hk

theorem pdOff_bit (s : State) (on : s.pd n ≠ 0) (hn : n ∈ switched) (hk : k < 32) :
    maskBit ((pdOff s n).rd R.SYS_PDCTL) k = if k = n then false else maskBit (s.rd R.SYS_PDCTL) k := by
  have shown : offShown (pdDrop s n) n = ((pdDrop s n).setPd n 0).setMask R.SYS_PDCTL n false :=
    if_pos (hasBit_of_switched hn)
  have kept : ((pdDrop s n).setPd n 0).rd R.SYS_PDCTL = s.rd R.SYS_PDCTL :=
    (State.rd_wr_ne _ (by decide)).trans ((pdDrop_beyondSys s n).rd fun h => h.elim (by decide) (by decide))
  rw [pdOff_eq, if_neg on, shown]
  refine (setMask_bit ((pdDrop s n).setPd n 0) R.SYS_PDCTL false hk).trans ?_
  rw [kept]

/-! ### One domain, and all -/

/-- What a write of `v` makes of domain `n`. -/
def pdAfter (s : State) (v : Word) (n : Nat) : Nat := if maskBit v n then (if s.pd n = 0 then 1 else s.pd n) else 0

theorem pdStep_switches (s : State) (v : Word) (hn : n ∈ switched) : Switches s (pdStep v s n) := by
  unfold pdStep
  dsimp only
  split
  · exact pdRamp_switches s n
  · split
    · exact pdOff_switches s hn
    · exact Switches.refl s

/-- One bit of a write of SYS_PDCTL that agrees with its domain: the bit follows, and the domain with it. -/
theorem pdStep_shows (s : State) (v : Word) (hn : n ∈ switched) (agree : maskBit (s.rd R.SYS_PDCTL) n = decide (s.pd n ≠ 0))
    (hk : k < 8) :
    maskBit ((pdStep v s n).rd R.SYS_PDCTL) k = (if k = n then maskBit v n else maskBit (s.rd R.SYS_PDCTL) k) ∧
      (pdStep v s n).pd k = if k = n then pdAfter s v n else s.pd k := by
  have small : n < 8 := by
    simp only [switched, List.mem_cons, List.not_mem_nil, or_false] at hn
    omega
  have word : k < 32 := by omega
  unfold pdStep pdAfter
  dsimp only
  cases want : maskBit v n <;> by_cases off : s.pd n = 0 <;> simp only [agree, off, ne_eq, not_true, not_false_eq_true]
  · by_cases e : k = n
    · subst e; simpa [off] using agree
    · simp [e]
  · have both := And.intro (pdOff_bit s off hn word) (pdOff_pd s small hk)
    simpa using both
  · have pd := pdRamp_pd s small hk
    simp only [off, and_true] at pd
    have both := And.intro (pdRamp_bit s hn word) pd
    simpa using both
  · by_cases e : k = n
    · subst e; simpa [off] using agree
    · simp [e]

/-- A write of SYS_PDCTL, domain by domain. -/
theorem foldl_pdStep (v : Word) (l : List Nat) (distinct : l.Nodup) (hl : ∀ n ∈ l, n ∈ switched) : ∀ s : State,
    (∀ n ∈ l, maskBit (s.rd R.SYS_PDCTL) n = decide (s.pd n ≠ 0)) →
    Switches s (l.foldl (pdStep v) s) ∧ ∀ k, k < 8 →
      maskBit ((l.foldl (pdStep v) s).rd R.SYS_PDCTL) k = (if k ∈ l then maskBit v k else maskBit (s.rd R.SYS_PDCTL) k) ∧
      (l.foldl (pdStep v) s).pd k = if k ∈ l then pdAfter s v k else s.pd k := by
  induction l with
  | nil => exact fun s _ => ⟨Switches.refl s, fun k _ => by simp⟩
  | cons n l ih =>
    intro s agree
    obtain ⟨fresh, distinct⟩ := List.nodup_cons.mp distinct
    have hn := hl n List.mem_cons_self
    have step {k : Nat} (hk : k < 8) := pdStep_shows s v hn (agree n List.mem_cons_self) hk
    have small {m : Nat} (hm : m ∈ switched) : m < 8 := by
      simp only [switched, List.mem_cons, List.not_mem_nil, or_false] at hm
      omega
    have agree' : ∀ m ∈ l, maskBit ((pdStep v s n).rd R.SYS_PDCTL) m = decide ((pdStep v s n).pd m ≠ 0) := by
      intro m hm
      have ne : m ≠ n := fun e => fresh (e ▸ hm)
      obtain ⟨bit, pd⟩ := step (small (hl m (List.mem_cons_of_mem n hm)))
      rw [bit, pd, if_neg ne, if_neg ne]
      exact agree m (List.mem_cons_of_mem n hm)
    obtain ⟨switches, after⟩ := ih distinct (fun m hm => hl m (List.mem_cons_of_mem n hm)) (pdStep v s n) agree'
    refine ⟨(pdStep_switches s v hn).trans switches, fun k hk => ?_⟩
    obtain ⟨bit, pd⟩ := after k hk
    obtain ⟨bit0, pd0⟩ := step hk
    rw [List.foldl_cons, bit, pd, pdAfter, bit0, pd0]
    by_cases e : k = n
    · subst e
      simp [fresh]
    · simp [e, pdAfter]

/-! ### DOMAIN_SWITCH -/

theorem domainSwitch_refuses (on : s.domOn 0 = true) (bad : ¬ maySwitch s v) : runsTo (.domainSwitch v) s (sysRefuses s) := by
  refine ⟨_, congrArg Host.Outcome.next ((writeReg_pdctl on v).trans (if_pos ((pdctlRefuse_iff s v).mpr bad))), ?_⟩
  exact sysRefused_refuses s

/-- PD1 off at the first bit: its registers are gone. -/
theorem pdStep_lost (hv : maskBit v 1 = false) (agree : maskBit (s.rd R.SYS_PDCTL) 1 = decide (s.pd 1 ≠ 0)) (on : s.pd 1 ≠ 0) :
    ∀ a, 0x60000000 ≤ a → a < 0x60000800 → tabFind (pdStep v s 1).regs a = none := by
  intro a low high
  have off : pdStep v s 1 = pdOff s 1 := by
    unfold pdStep
    simp [hv, agree, on]
  have gone : tabFind (pdDrop s 1).regs a = none := by
    show tabFind (tabDropRange (tabDropRange s.regs 0x60000000 0x600007FF) 0x61000100 0x610001FF) a = none
    rw [tabFind_tabDropRange, if_neg (by omega), tabFind_tabDropRange, if_pos (by omega)]
  rw [off, pdOff_eq, if_neg on]
  refine (offShown_regs (pdDrop s 1) 1 a ?_).trans gone
  rintro (rfl | rfl)
  · exact absurd low (by decide)
  · exact absurd low (by decide)

theorem domainSwitch_switches (on : s.domOn 0 = true) (may : maySwitch s v)
    (agree : ∀ n ∈ switched, maskBit (s.rd R.SYS_PDCTL) n = decide (s.pd n ≠ 0)) :
    runsTo (.domainSwitch v) s fun t => (∀ n ∈ switched, maskBit (t.rd R.SYS_PDCTL) n = maskBit v n ∧
        t.pd n = if maskBit v n then (if s.pd n = 0 then 1 else s.pd n) else 0) ∧
      t.pd 0 = s.pd 0 ∧ t.pd 2 = s.pd 2 ∧ t.pd 7 = s.pd 7 ∧ t.mode = s.mode ∧ t.rods = s.rods ∧ t.sto = s.sto ∧
      (s.fb F.SYS_STAT_FIRE = false → t.frame = s.frame) ∧
      (s.pd 1 ≠ 0 → maskBit v 1 = false → ∀ a, 0x60000000 ≤ a → a < 0x60000800 → tabFind t.regs a = none) := by
  have granted : pdctlRefuse s v = false := Bool.eq_false_iff.mpr fun h => (pdctlRefuse_iff s v).mp h may
  obtain ⟨switches, after⟩ := foldl_pdStep v switched (by decide) (fun _ h => h) s agree
  have rest := (foldl_pdStep v [3, 4, 5, 6] (by decide) (by decide) (pdStep v s 1) fun n hn => by
    have mem : ∀ n ∈ [3, 4, 5, 6], n ∈ switched ∧ n ≠ 1 ∧ n < 8 := by decide
    obtain ⟨hn, ne, small⟩ := mem n hn
    obtain ⟨bit, pd⟩ := pdStep_shows s v (n := 1) (by decide) (agree 1 (by decide)) small
    rw [bit, pd, if_neg ne, if_neg ne]
    exact agree n hn).1
  have runs : exec (.domainSwitch v) s = .next (switched.foldl (pdStep v) s) :=
    congrArg Host.Outcome.next (((writeReg_pdctl on v).trans (if_neg (by simp [granted]))).trans (pdctlWrite_eq s v))
  have unswitched (k : Nat) (hk : k < 8) (h : k ∉ switched) := (after k hk).2.trans (if_neg h)
  refine ⟨_, runs, fun n hn => ?_, unswitched 0 (by decide) (by decide), unswitched 2 (by decide) (by decide),
    unswitched 7 (by decide) (by decide), ?_, switches.rods, switches.sto, fun shut => (switches.calm shut).1,
    fun up off a low high => rest.lost a low high (pdStep_lost off (agree 1 (by decide)) up a low high)⟩
  · have mem : ∀ n ∈ switched, n < 8 := by decide
    obtain ⟨bit, pd⟩ := after n (mem n hn)
    exact ⟨bit.trans (if_pos hn), pd.trans (if_pos hn)⟩
  · exact switches.regs.f fun h => h.elim (by decide) fun h => h.elim (by decide) fun h => h.elim (by decide) (by decide)

end Sys2Proof.Machine

/-! The wake sources of Dormant (R419, R485, R549). -/

namespace Sys2Proof.Machine

open Sys2Proof.Claims

variable {s t u : State} {p : Nat → Prop}

/-- The registers that a wake changes. -/
def wakeReg (a : Nat) : Prop := a = R.SYS_WAKE.addr ∨ a = R.SYS_MODE.addr ∨ a = R.SYS_PDSTAT.addr

/-- A state without what a wake and the frame that brings it may change beside registers. -/
def noWake (s : State) : State := noSys { s with net := { s.net with rxTb := 0 } }

/-- The controller has been woken: the cause shows, the resume has begun with PD2, and the change to Ready pends. -/
structure Woken (s : State) (cause : Nat) (p : Nat → Prop) (t : State) : Prop where
  cause : t.f F.SYS_WAKE_CAUSE = cause
  resume : t.sys.resume = true
  ramps : t.pd 2 = 1
  dormant : t.mode = 7
  pend : t.fb F.SYS_MODE_PEND = true
  target : t.f F.SYS_MODE_TARGET = 2
  rest : quiet noWake (fun a => a = R.SYS_WAKE.addr ∨ a = R.SYS_MODE.addr ∨ a = R.SYS_PDSTAT.addr ∨ p a) s t

/-! ### The wake itself -/

/-- The wake before its ramp: the cause shows and the change to Ready pends. -/
def wakePending (s : State) (cause : Nat) : State :=
  modePend ((s.setF F.SYS_WAKE_CAUSE cause).setSys { s.sys with resume := true }) modeReady

theorem wake_eq (dormant : s.mode = 7) (asleep : s.sys.resume = false) (cause : Nat) :
    wake s cause = pdRamp (wakePending s cause) 2 := by
  have stays : (s.mode != modeDormant) = false := by rw [dormant]; rfl
  simp only [wake, stays, asleep]
  rfl

/-- A state without its registers and what stands behind SYS. -/
def bare (s : State) : State := { noSys s with w1cSet := [] }

theorem bare_setF (s : State) (fl : Fld) (v : Nat) : bare (s.setF fl v) = bare s := rfl

theorem bare_setSys (s : State) (x : SysX) : bare (s.setSys x) = bare s := rfl

theorem bare_pdRamp (s : State) (n : Nat) : bare (pdRamp s n) = bare s := (congrArg bare (pdRamp_else s n) :)

theorem bare_wakePending (s : State) (cause : Nat) : bare (wakePending s cause) = bare s := by
  rw [wakePending, modePend, bare_setF, bare_setF, bare_setSys, bare_setF]

theorem wakePending_regs (s : State) (cause : Nat) :
    RegsBut (fun a => a = R.SYS_WAKE.addr ∨ a = R.SYS_MODE.addr) s (wakePending s cause) := by
  have caused : RegsBut (fun a => a = R.SYS_WAKE.addr ∨ a = R.SYS_MODE.addr) s
      ((s.setF F.SYS_WAKE_CAUSE cause).setSys { s.sys with resume := true }) :=
    ((RegsBut.refl s).setF (.inl rfl)).of_regs rfl
  have pends := caused.setF (fl := F.SYS_MODE_PEND) (v := 1) (.inr rfl)
  exact pends.setF (.inr rfl)

theorem modePend_shows (s : State) (m : Nat) : (modePend s m).mode = s.mode ∧ (modePend s m).fb F.SYS_MODE_PEND = true ∧
    (modePend s m).f F.SYS_MODE_TARGET = m % 8 := by
  have mode1 : (s.setF F.SYS_MODE_PEND 1).mode = s.mode :=
    State.f_setF_beside s (fl := F.SYS_MODE_PEND) (fl' := F.SYS_MODE_MODE) 1 0 0 rfl (by decide) (by decide) (by decide)
  have pend1 : (s.setF F.SYS_MODE_PEND 1).fb F.SYS_MODE_PEND = true :=
    State.fb_setF_same s F.SYS_MODE_PEND 1 0 0 (by decide) (by decide)
  have beside {fl : Fld} (hr : F.SYS_MODE_TARGET.reg = fl.reg) (hh : fl.hi < 32) (d : fl.hi < F.SYS_MODE_TARGET.lo ∨ F.SYS_MODE_TARGET.hi < fl.lo) :
      (modePend s m).f fl = (s.setF F.SYS_MODE_PEND 1).f fl :=
    State.f_setF_beside (s.setF F.SYS_MODE_PEND 1) (fl := F.SYS_MODE_TARGET) (fl' := fl) m 0 0 hr (by decide) hh d
  refine ⟨(beside (fl := F.SYS_MODE_MODE) rfl (by decide) (by decide)).trans mode1, ?_, ?_⟩
  · rw [← pend1]
    simp only [State.fb, beside (fl := F.SYS_MODE_PEND) rfl (by decide) (by decide)]
  · exact State.f_setF_same (s.setF F.SYS_MODE_PEND 1) F.SYS_MODE_TARGET m 0 0 (by decide) (by decide)

theorem wakePending_cause (s : State) {cause : Nat} (hc : cause < 8) : (wakePending s cause).f F.SYS_WAKE_CAUSE = cause := by
  have caused : (s.setF F.SYS_WAKE_CAUSE cause).f F.SYS_WAKE_CAUSE = cause :=
    (State.f_setF_same s F.SYS_WAKE_CAUSE cause 0 0 (by decide) (by decide)).trans (Nat.mod_eq_of_lt hc)
  have kept : (wakePending s cause).rd R.SYS_WAKE = (s.setF F.SYS_WAKE_CAUSE cause).rd R.SYS_WAKE :=
    (State.rd_setF_ne _ (fl := F.SYS_MODE_TARGET) (by decide)).trans (State.rd_setF_ne _ (fl := F.SYS_MODE_PEND) (by decide))
  exact (congrArg (bits · 18 16) kept).trans caused

theorem wakePending_pd (s : State) (cause n : Nat) : (wakePending s cause).pd n = s.pd n := by
  exact pd_of_rd ((wakePending_regs s cause).rd (by decide)) n

theorem wake_regs (dormant : s.mode = 7) (asleep : s.sys.resume = false) (cause : Nat) : RegsBut wakeReg s (wake s cause) := by
  rw [wake_eq dormant asleep]
  refine ((wakePending_regs s cause).mono fun _ => Or.imp_right Or.inl).trans ((pdRamp_regs _ 2).mono fun a h => ?_)
  exact h.elim (fun e => .inr (.inr e)) fun h => absurd h.1 (by decide)

theorem bare_wake (dormant : s.mode = 7) (asleep : s.sys.resume = false) (cause : Nat) : bare (wake s cause) = bare s := by
  rw [wake_eq dormant asleep, bare_pdRamp, bare_wakePending]

theorem noWake_of_bare (h : bare t = bare s) : { noWake t with w1cSet := [] } = { noWake s with w1cSet := [] } :=
  (congrArg (fun u : State => { u with net := { u.net with rxTb := 0 } }) h :)

/-- A wake from `u`, which differs from `s` in what brought the cause alone. -/
theorem wake_wakes (near : quiet noWake p s u) (dormant : u.mode = 7) (asleep : u.sys.resume = false) (off : u.pd 2 = 0)
    {cause : Nat} (hc : cause < 8) : Woken s cause p (wake u cause) ∧ (wake u cause).sys.hostAt = u.sys.hostAt := by
  have eq := wake_eq dormant asleep cause
  obtain ⟨mode, pend, target⟩ := modePend_shows ((u.setF F.SYS_WAKE_CAUSE cause).setSys { u.sys with resume := true }) modeReady
  have ramp := pdRamp_regs (wakePending u cause) 2
  have side := pdRamp_side (wakePending u cause) 2
  obtain ⟨-, resume, -, host, -⟩ := flags_of_side side
  have word : (pdRamp (wakePending u cause) 2).rd R.SYS_MODE = (wakePending u cause).rd R.SYS_MODE := ramp.rd (by decide)
  have wakeWord : (pdRamp (wakePending u cause) 2).rd R.SYS_WAKE = (wakePending u cause).rd R.SYS_WAKE := ramp.rd (by decide)
  obtain ⟨modes, pends, targets⟩ := modeFields_of_rd word
  have dormant' : (u.setF F.SYS_WAKE_CAUSE cause).mode = u.mode := State.f_setF_ne u (fl := F.SYS_MODE_MODE) (by decide)
  rw [eq]
  refine ⟨⟨?_, resume, ?_, modes.trans (mode.trans (dormant'.trans dormant)), pends.trans pend, targets.trans target, ?_, ?_⟩, host⟩
  · exact (congrArg (bits · 18 16) wakeWord).trans (wakePending_cause u hc)
  · rw [pdRamp_pd _ (by decide) (by decide), if_pos ⟨rfl, (wakePending_pd u cause 2).trans off⟩]
  · rw [← eq]
    exact (noWake_of_bare (bare_wake dormant asleep cause)).trans near.1
  · rw [← eq]
    refine (near.2.mono fun _ h => .inr (.inr (.inr h))).trans ((wake_regs dormant asleep cause).mono fun _ h => ?_)
    exact h.imp_right (Or.imp_right Or.inl)

end Sys2Proof.Machine

/-! A WAKE frame on L0, and each wake source (R482, R485, R549). -/

namespace Sys2Proof.Machine

open Sys2Proof.Claims

variable {s t u : State} {p : Nat → Prop}

/-! ### A WAKE on L0 that is heard -/

/-- The state in which a frame that R482 passes on L0 is handled: counted, its replay mark in force, the host timer restarted. -/
def wakeHeard (s : State) (f : TlFrame) : State :=
  let s := (s.addR R.NETL_RXFRM 1).wr64 R.KRXHW_LO R.KRXHW_HI f.replay.toNat (tlKey f)
  let s := { s with net := { s.net with rxTb := s.tbNow } }
  s.setSys { s.sys with hostAt := s.elapsed }

theorem wakeHeard_regs (s : State) (f : TlFrame) : RegsBut (rxRegs 9 (tlKey f)) s (wakeHeard s f) :=
  (((RegsBut.refl s).wr (d := R.NETL_RXFRM) (v := s.rd R.NETL_RXFRM + word 1) (.inl rfl)).wr (d := R.KRXHW_LO)
    (v := word f.replay.toNat) (i := tlKey f) (.inr (.inl rfl))).wr (d := R.KRXHW_HI) (v := word (f.replay.toNat / 2 ^ 32))
    (i := tlKey f) (.inr (.inr rfl))

/-- What a wake and its frame leave, of a state. -/
def unwoken (s : State) : State := { noWake s with w1cSet := [] }

theorem unwoken_wr (s : State) (d : RegDesc) (v : Word) (i : Nat) : unwoken (s.wr d v i) = unwoken s := rfl

theorem unwoken_heard (s : State) (tb : Nat) (x : SysX) :
    unwoken (State.setSys { s with net := { s.net with rxTb := tb } } x) = unwoken s := rfl

theorem wakeHeard_quiet (s : State) (f : TlFrame) : quiet noWake (rxRegs 9 (tlKey f)) s (wakeHeard s f) := by
  refine ⟨?_, wakeHeard_regs s f⟩
  show unwoken (wakeHeard s f) = unwoken s
  rw [wakeHeard, unwoken_heard, State.wr64, unwoken_wr, unwoken_wr, State.addR, unwoken_wr]

theorem rxRegs_l0 (k a : Nat) : rxRegs 9 k a ↔ a = 0x61000030 ∨ a = 0x60000824 + 0x40 * k ∨ a = 0x60000828 + 0x40 * k := by
  simp [rxRegs, RegDesc.addr, R.NETL_RXFRM, R.KRXHW_LO, R.KRXHW_HI]

theorem tlKey_lt (f : TlFrame) : tlKey f < 8 := Nat.mod_lt _ (by decide)

theorem wakeHeard_rd (s : State) (f : TlFrame) {d : RegDesc} (hd : d.addr < 0x60000000) : (wakeHeard s f).rd d = s.rd d := by
  refine (wakeHeard_regs s f).rd fun h => ?_
  rw [rxRegs_l0] at h
  omega

theorem wakeHeard_mode (s : State) (f : TlFrame) : (wakeHeard s f).mode = s.mode :=
  congrArg (bits · 2 0) (wakeHeard_rd s f (d := R.SYS_MODE) (by decide))

/-! A frame's key, its Column and what it may do, in a state with the same keys, mode and Columns. -/

theorem commKey_congr (hm : t.mode = s.mode) (hf : t.net.force = s.net.force) (k : Nat) : commKey t k = commKey s k := by
  simp only [commKey, hm, hf]

theorem keyPerm_congr (hm : t.mode = s.mode) (hf : t.net.force = s.net.force) (k : Nat) : keyPerm t k = keyPerm s k := by
  rw [keyPerm, keyPerm, commKey_congr hm hf, hf]

theorem keyBytes_congr (hm : t.mode = s.mode) (hf : t.net.force = s.net.force) (k : Nat) : keyBytes t k = keyBytes s k := by
  rw [keyBytes, keyBytes, commKey_congr hm hf, hf]

theorem tlAuthentic_congr (hm : t.mode = s.mode) (hf : t.net.force = s.net.force) (type : Nat) (f : TlFrame) :
    tlAuthentic t type f = tlAuthentic s type f := by
  simp only [tlAuthentic, tlPortOk, tlTagOk, keyPerm_congr hm hf, keyBytes_congr hm hf]

theorem colOfTl_congr (state : ∀ n, t.rd R.COL_STATE n = s.rd R.COL_STATE n) (port : ∀ n, t.rd R.COL_PORT n = s.rd R.COL_PORT n)
    (addr : ∀ n i, i < 4 → t.rd R.COL_ADDR n i = s.rd R.COL_ADDR n i) (f : TlFrame) : colOfTl t f = colOfTl s f := by
  have words (n : Nat) : (List.range 4).all (fun i => t.rd R.COL_ADDR n i == word (f.src.ip.toNat / 2 ^ (32 * i))) =
      (List.range 4).all (fun i => s.rd R.COL_ADDR n i == word (f.src.ip.toNat / 2 ^ (32 * i))) := by
    simp only [show List.range 4 = [0, 1, 2, 3] from rfl, List.all_cons, List.all_nil, addr n 0 (by decide),
      addr n 1 (by decide), addr n 2 (by decide), addr n 3 (by decide)]
  simp only [colOfTl, State.colSt, State.fb, State.f, F.COL_STATE_STATE, F.COL_STATE_MEDIUM, F.COL_STATE_KEYSEL,
    F.COL_STATE_IPV6, F.COL_PORT_V, state, port, words, addr _ 0 (by decide)]

theorem wakeHeard_col (s : State) (f : TlFrame) : colOfTl (wakeHeard s f) f = colOfTl s f := by
  have other {d : RegDesc} {n i : Nat} (h : (d.addr n i) % 0x40 < 0x24) : (wakeHeard s f).rd d n i = s.rd d n i := by
    refine (wakeHeard_regs s f).rd fun h' => ?_
    rw [rxRegs_l0] at h'
    omega
  refine colOfTl_congr (fun n => other ?_) (fun n => other ?_) (fun n i hi => other ?_) f
  · simp only [RegDesc.addr, R.COL_STATE]; omega
  · simp only [RegDesc.addr, R.COL_PORT]; omega
  · simp only [RegDesc.addr, R.COL_ADDR]; omega

/-- The frame counted (R476). -/
def wakeCounted (s : State) : State := s.addR R.NETL_RXFRM 1

theorem wakeCounted_mode (s : State) : (wakeCounted s).mode = s.mode :=
  congrArg (bits · 2 0) (State.rd_wr_ne s (d := R.SYS_MODE) (by decide))

theorem wakeCounted_mark (s : State) (f : TlFrame) : (wakeCounted s).rd64 R.KRXHW_LO R.KRXHW_HI (tlKey f) =
    s.rd64 R.KRXHW_LO R.KRXHW_HI (tlKey f) := by
  have key := tlKey_lt f
  have lo : (wakeCounted s).rd R.KRXHW_LO (tlKey f) = s.rd R.KRXHW_LO (tlKey f) :=
    State.rd_wr_ne s (by simp only [RegDesc.addr, R.NETL_RXFRM, R.KRXHW_LO]; omega)
  have hi : (wakeCounted s).rd R.KRXHW_HI (tlKey f) = s.rd R.KRXHW_HI (tlKey f) :=
    State.rd_wr_ne s (by simp only [RegDesc.addr, R.NETL_RXFRM, R.KRXHW_HI]; omega)
  simp only [State.rd64, State.nat, lo, hi]

/-- What R485 does with a WAKE of no Column on L0 that its key permits. -/
theorem tlMessage_wake {f : TlFrame} (port : f.port = .l0) (empty : f.payload = [])
    (may : tlMay u f 4 = true) (none : colOfTl u f = none) : tlMessage u 0x52 f = wake u 1 := by
  have fits : tlLenOk 0x52 f.payload.length = true := by rw [empty]; rfl
  have taken : tlMessage u 0x52 f = tlWake u f := by
    unfold tlMessage
    rw [if_neg fun h => h.2.elim (fun h => h port) fun h => h.2 rfl, fits]
    rfl
  rw [taken]
  simp [tlWake, may, none, port]

/-- R482 passes the frame: its mark is new and no earlier frame of its key waits. -/
theorem tlPass_wake {f : TlFrame} (fresh : s.rd64 R.KRXHW_LO R.KRXHW_HI (tlKey f) < f.replay.toNat) :
    tlPass (wakeCounted s) 0x52 (wakeCounted s).tbNow f = tlMessage (wakeHeard s f) 0x52 f := by
  have new : ¬ f.replay.toNat ≤ (wakeCounted s).rd64 R.KRXHW_LO R.KRXHW_HI (tlKey f) := by
    rw [wakeCounted_mark]
    exact not_le.mpr fresh
  exact if_neg new

/-- A port takes a frame of its VLAN and of an address family it has (R475). -/
theorem netTakes_of (p : Nat) (src : NetSrc) (h : portTakes s p src) : netTakes s p src = true := by
  obtain ⟨vlan, family⟩ := h
  simp only [netTakes, Bool.and_eq_true, Bool.or_eq_true, beq_iff_eq, bne_iff_ne]
  exact ⟨vlan, family⟩

/-- The header and the tag of the frame are right, in every state with the same keys and mode. -/
theorem tlAuthentic_counted {type : Nat} {f : TlFrame} (good : tlGood s type f) : tlAuthentic (wakeCounted s) type f = true := by
  obtain ⟨⟨magic, version, short, len, key, zero1, zero2, tagged⟩, portOk, tag⟩ := good
  have header : tlHeaderOk f = true := by simp [tlHeaderOk, magic, version, ← len, short, key, zero1, zero2, tagged]
  rw [tlAuthentic_congr (wakeCounted_mode s) rfl, tlAuthentic, header, portOk, tag]
  rfl

/-- A frame on L0 that R482 passes is handled at once. -/
theorem tlFrame_passes {f : TlFrame} (port : f.port = .l0) (hears : heard s 0x52 f) :
    tlFrame s 0x52 f = tlPass (wakeCounted s) 0x52 (wakeCounted s).tbNow f := by
  obtain ⟨ahead, up, takes, good, clear, marked, fresh⟩ := hears
  rw [port] at up takes
  have arrives : netArrive s 9 f.src = (true, wakeCounted s) := by
    simp only [netArrive, netTakes_of 9 f.src takes]
    rfl
  have waits : ((wakeCounted s).net.inQ.any (fun q => tlKey q.frame == tlKey f) || (krxWaits (wakeCounted s) f &&
      decide ((wakeCounted s).rd64 R.KRXHW_LO R.KRXHW_HI (tlKey f) < f.replay.toNat))) = false := by
    have alone : (wakeCounted s).net.inQ.any (fun q => tlKey q.frame == tlKey f) = false :=
      List.any_eq_false.mpr fun q hq => by simpa using clear q hq
    have stored : krxWaits (wakeCounted s) f = false := decide_eq_false (not_lt.mpr marked)
    rw [alone, stored]
    rfl
  have up' : s.portUp 9 = true := up
  unfold tlFrame
  rw [port]
  show netFrame s 9 f.src _ = _
  unfold netFrame
  rw [show critsAhead s = s from ahead]
  simp only [up', arrives, tlAuthentic_counted good, waits]
  rfl

/-- A WAKE frame that is heard in Dormant on L0 under a key that permits it wakes with cause 1. -/
theorem wake_frame {f : TlFrame} (front : inFront (.wake f) s) (port : f.port = .l0)
    (empty : f.payload = []) (hears : heard s 0x52 f) (may : tlMay s f 4 = true) (none : colOfTl s f = none) :
    exec (.wake f) s = .next (wake (wakeHeard s f) 1) := by
  obtain ⟨unheld, turn⟩ := front
  have ⟨_, _, _, _, _, _, fresh⟩ := hears
  have runs : exec (.wake f) s = .next (tlFrame s 0x52 f) := by
    show inTurn (.tlFrame 0x52 f) s = _
    simp only [inTurn, turn _ rfl, unheld]
    rfl
  have may' : tlMay (wakeHeard s f) f 4 = true := by
    rw [tlMay, keyPerm_congr (wakeHeard_mode s f) rfl]
    exact may
  rw [runs, tlFrame_passes port hears, tlPass_wake fresh, tlMessage_wake port empty may'
    ((wakeHeard_col s f).trans none)]

/-! ### The sources -/

theorem wakePin_wakes (dormant : s.mode = 7) (asleep : s.sys.resume = false) (off : s.pd 2 = 0) {t0 : Nat}
    (low : s.sys.wakeLow = some t0) (en : s.fb F.SYS_WAKE_PIN_EN = true) :
    (t0 + 1000000 ≤ s.elapsed → runsTo .wakePin s (Woken s 3 noneElse)) ∧
      (s.elapsed < t0 + 1000000 → exec .wakePin s = .next s) := by
  have runs : exec .wakePin s = .next (if s.fb F.SYS_WAKE_PIN_EN ∧ t0 + 1000000 ≤ s.elapsed then wake s 3 else s) := by
    show execWakePin s = _
    simp only [execWakePin, low]
  refine ⟨fun long => ⟨_, runs.trans (congrArg Host.Outcome.next (if_pos ⟨en, long⟩)), ?_⟩,
    fun short => runs.trans (congrArg Host.Outcome.next (if_neg fun h => by omega))⟩
  exact (wake_wakes ⟨rfl, RegsBut.refl s⟩ dormant asleep off (by decide)).1

theorem wakeTimer_wakes (dormant : s.mode = 7) (asleep : s.sys.resume = false) (off : s.pd 2 = 0)
    (en : s.fb F.SYS_WAKE_TIMER_EN = true) (due : s.rd64 R.SYS_WAKEAT_LO R.SYS_WAKEAT_HI ≤ s.tbNow) :
    runsTo .wakeTimer s (Woken s 4 noneElse) :=
  ⟨_, congrArg Host.Outcome.next (if_pos ⟨en, due⟩), (wake_wakes ⟨rfl, RegsBut.refl s⟩ dormant asleep off (by decide)).1⟩

theorem canWakePattern_wakes (dormant : s.mode = 7) (asleep : s.sys.resume = false) (off : s.pd 2 = 0)
    (en : s.fb F.CAN_WAKE_WEN = true) : runsTo .canWakePattern s fun t =>
      Woken s 2 (fun a => a = R.CAN_WAKE.addr) t ∧ t.fb F.CAN_WAKE_WOK = true := by
  have seen : quiet noWake (fun a => a = R.CAN_WAKE.addr) s (s.setF F.CAN_WAKE_WOK 1) :=
    ⟨rfl, (RegsBut.refl s).setF rfl⟩
  have dormant' : (s.setF F.CAN_WAKE_WOK 1).mode = 7 :=
    (State.f_setF_ne s (fl := F.SYS_MODE_MODE) (by decide)).trans dormant
  have off' : (s.setF F.CAN_WAKE_WOK 1).pd 2 = 0 := (pd_of_rd (State.rd_setF_ne s (by decide)) 2).trans off
  refine ⟨_, congrArg Host.Outcome.next (if_pos ⟨dormant, en⟩), (wake_wakes seen dormant' asleep off' (by decide)).1, ?_⟩
  refine ((wake_regs dormant' asleep 2).fb ?_).trans (State.fb_setF_same s F.CAN_WAKE_WOK 1 0 0 (by decide) (by decide))
  simp only [wakeReg]
  decide

theorem wakeFrame_wakes (dormant : s.mode = 7) (asleep : s.sys.resume = false) (off : s.pd 2 = 0) {f : TlFrame}
    (port : f.port = .l0) (empty : f.payload = []) (hears : heard s 0x52 f) (may : tlMay s f 4 = true)
    (none : colOfTl s f = none) : goesTo (.wake f) s fun t =>
      Woken s 1 (rxRegs 9 (tlKey f)) t ∧ t.sys.hostAt = s.elapsed := by
  intro front
  have dormant' : (wakeHeard s f).mode = 7 := (wakeHeard_mode s f).trans dormant
  have off' : (wakeHeard s f).pd 2 = 0 := (pd_of_rd (wakeHeard_rd s f (by decide)) 2).trans off
  obtain ⟨woken, host⟩ := wake_wakes (wakeHeard_quiet s f) dormant' asleep off' (cause := 1) (by decide)
  exact ⟨_, wake_frame front port empty hears may none, woken, host⟩

end Sys2Proof.Machine

/-! RESUME_COMPLETE: the image comes into force, the programs start, and Ready or Hold is entered (R83, R535, R536, R550). -/

namespace Sys2Proof.Machine

open Sys2Proof.Claims

variable {s t u : State}

/-! ### Rods that start and stop (R66, R85, R88) -/

theorem setRod_still (s : State) (r : Nat) (x : RodX) : Still s (s.setRod r x) := (Still.refl s).beside rfl rfl

theorem setRodSt_still (s : State) (r st : Nat) : Still s (s.setRodSt r st) := (setRod_still s r _).setF

theorem startProgram_still (s : State) (r : Nat) : Still s (startProgram s r) := by
  have belled (x : RodX) (e : Tab BeadErr) (v : Nat) : Still s (State.setF { s.setRod r x with beadErr := e } F.FRM_DOORBELL_V v r) :=
    ((setRod_still s r x).beside rfl rfl : Still s { s.setRod r x with beadErr := e }).setF
  unfold startProgram
  split
  · exact Still.refl s
  · exact (belled _ _ _).setF.setF.trans (setRodSt_still _ _ _)

theorem stopClear_still (s : State) (r : Nat) : Still s (stopClear s r) :=
  (setRod_still s r _).ite (setRod_still s r _).setF

theorem rodDone_still (s : State) (r : Nat) : Still s (rodDone s r) := (setRod_still s r _).wr

theorem setG_still (s : State) (r : Nat) (d : BitVec 5) (v : Word) : Still s (setG s r d v) :=
  (Still.refl s).ite (setRod_still s r _)

theorem pushFinish_still (s : State) (n : Nat) : Still s (pushFinish s n) := by
  refine Still.foldN (fun t r _ => ?_) s
  split
  · exact (((setRod_still t r _).trans (setG_still _ _ _ _)).trans (rodDone_still _ _)).ite (Still.refl t)
  · exact Still.refl t

theorem voidReservations_still (s : State) (r : Nat) : Still s (voidReservations s r) := by
  refine (setRod_still s r _).trans (Still.foldN (fun t n hn => ?_) _)
  have voided (x : RingX) : Still t (t.setRing n x) := (Still.refl t).beside rfl rfl
  exact (((voided _).posts (ringCommit_posts hn _)).trans (pushFinish_still _ n)).ite (Still.refl t)

theorem rodHaltNow_still (s : State) (r : Nat) : Still s (rodHaltNow s r) :=
  ((voidReservations_still s r).trans (stopClear_still _ r)).trans (setRodSt_still _ _ _)

theorem rodsRestart_still (s : State) : Still s (rodsRestart s) := by
  have cleared : Still s (s.setSys { s.sys with stopped := [] }) := (Still.refl s).beside rfl rfl
  exact cleared.trans (Still.foldl _ (fun t r _ =>
    (Still.refl t).ite ((rodHaltNow_still t r).trans (startProgram_still _ r))) _)

/-! ### Hold is entered -/

/-- From `s` to `t` the mode and what stands behind SYS have stayed; a domain may have begun to ramp. -/
structure Goes (s t : State) : Prop where
  side : t.sysSide = s.sysSide
  mode : t.mode = s.mode

theorem Goes.trans (h : Goes s t) (h' : Goes t u) : Goes s u := ⟨h'.side.trans h.side, h'.mode.trans h.mode⟩

theorem Still.goes (h : Still s t) : Goes s t := ⟨h.side, h.mode⟩

theorem pdRamp_goes (s : State) (n : Nat) : Goes s (pdRamp s n) :=
  ⟨pdRamp_side s n, (modeFields_of_rd ((foldl_pdRamp_regs [n] s).rd (by decide))).1⟩

theorem foldl_pdRamp_goes (l : List Nat) (s : State) : Goes s (l.foldl pdRamp s) := by
  induction l generalizing s with
  | nil => exact ⟨rfl, rfl⟩
  | cons n l ih => exact (pdRamp_goes s n).trans (ih _)

theorem holdOutputs_still (hold : s.mode = modeHold) : Still s (holdOutputs s) := by
  have cut : Still s (s.wr R.SYS_FIRECTL 0) := by
    refine ⟨rfl, State.rd_wr_ne s (by decide), State.rd_wr_ne s (by decide), ?_⟩
    have stat : (s.wr R.SYS_FIRECTL 0).rd R.SYS_STAT = s.rd R.SYS_STAT := State.rd_wr_ne s (by decide)
    simp only [State.fb, State.f, F.SYS_STAT_CRIT, stat]
  have fired := cut.trans (fireUpdate_still _)
  have safe := (fired.trans (loopAllSafe_still (fired.mode.trans hold))).ite (c := (fireUpdate (s.wr R.SYS_FIRECTL 0)).domOn 3 = true) fired
  exact (((safe.trans (solAllOff_still _)).trans (lswRht_still _ _)).trans (mtrRht_still _ _ _)).ite safe

theorem enterHold_holds (other : s.mode ≠ modeHold) (cause : Nat) :
    (enterHold s cause).mode = 6 ∧ (enterHold s cause).sysSide = s.sysSide := by
  let set := setMode s modeHold cause
  have hold : set.mode = modeHold := by
    have word : set.rd R.SYS_MODE = BitVec.ofNat 32 (modeHold + cause * 2 ^ 24) :=
      (State.rd_wr_ne _ (by decide)).trans (State.rd_wr_same ..)
    simp only [State.mode, State.f, F.SYS_MODE_MODE, word]
    simp [bits, modeHold]
    omega
  have enters : enterHold s cause = modeEvent (rodsRestart ((pdNeeds modeHold).foldl pdRamp (holdOutputs set))) s.mode :=
    if_neg other
  have outputs : Goes set (holdOutputs set) := (holdOutputs_still hold).goes
  have restarts (u : State) : Goes u (modeEvent (rodsRestart u) s.mode) :=
    ((rodsRestart_still u).posts (healthEvent_posts _ _ _ _ _ _)).goes
  have all := (outputs.trans (foldl_pdRamp_goes (pdNeeds modeHold) _)).trans (restarts _)
  rw [enters]
  exact ⟨all.mode.trans hold, all.side⟩

/-! ### Ready is entered from Boot, Commission or Dormant -/

/-- The host timer restarts and the watchdog is armed (R535, R554). -/
def timersUp (s : State) : State :=
  s.setSys { s.sys with hostAt := s.elapsed, wdtArmed := s.fb F.SYS_SAFECFG_WDT_EN, wdtAt := s.elapsed, critRec := false }

theorem timersUp_shows (s : State) : (timersUp s).mode = s.mode ∧ (timersUp s).sys.resume = s.sys.resume ∧
    (timersUp s).sys.hostAt = s.elapsed ∧ (timersUp s).programs = s.programs ∧ (timersUp s).template = s.template :=
  ⟨rfl, rfl, rfl, rfl, rfl⟩

theorem enterReady_eq (s : State) : enterReady s = if (s.fb F.SYS_STAT_CRIT || s.sys.critRec) = true then
    enterHold (timersUp (modeTo s modeReady 0)) 2 else timersUp (modeTo s modeReady 0) := rfl

/-- Ready, or Hold under a critical fault in force or recorded; the host timer restarts. -/
theorem enterReady_enters (s : State) :
    (enterReady s).mode = (if s.fb F.SYS_STAT_CRIT = true ∨ s.sys.critRec = true then 6 else 2) ∧
      (enterReady s).sys.resume = s.sys.resume ∧ (enterReady s).sys.hostAt = s.elapsed ∧
      (enterReady s).programs = s.programs ∧ (enterReady s).template = s.template := by
  obtain ⟨⟨ready, -⟩, -, side, -⟩ := modeTo_enters s (m := modeReady) (by decide)
  obtain ⟨-, resume, -, -, -, -, programs, template, elapsed⟩ := flags_of_side side
  obtain ⟨mode', resume', host', programs', template'⟩ := timersUp_shows (modeTo s modeReady 0)
  rw [enterReady_eq]
  simp only [Bool.or_eq_true]
  split
  · have other : (timersUp (modeTo s modeReady 0)).mode ≠ modeHold := by rw [mode', ready]; decide
    obtain ⟨mode, held⟩ := enterHold_holds other 2
    obtain ⟨-, resumeH, -, hostH, -, -, programsH, templateH, -⟩ := flags_of_side held
    exact ⟨mode, resumeH.trans (resume'.trans resume), hostH.trans (host'.trans elapsed),
      programsH.trans (programs'.trans programs), templateH.trans (template'.trans template)⟩
  · exact ⟨mode'.trans ready, resume'.trans resume, host'.trans elapsed, programs'.trans programs, template'.trans template⟩

/-! ### The image of the boot bank -/

/-- `s` once an image has put programs and a template into force. -/
def imaged (s : State) (frame : List Host.Cell) (errs : Tab BeadErr) (programs : Tab Program) (template : List Host.Cell) :
    State :=
  { s with frame := frame, beadErr := errs, programs := programs, template := template }

theorem imageLoad_still (s : State) (m : List Host.Cell) : ∃ frame errs template,
    Still (imaged s frame errs ((imagePrograms m).foldl (fun u p => tabPut u p.1 p.2) []) template) (imageLoad s m) := by
  refine ⟨_, _, _, Still.foldN (fun t r _ => ?_) _⟩
  split
  · exact (Still.refl t).setF.setF
  · exact (Still.refl t).setF.setF

theorem ringEnable_still (s : State) (n : Nat) : Still s (ringEnable s n) := by
  have books (v : Word) : Still s ((((((((s.wr R.CRG_HEAD 0 n).wr R.CRG_TAIL 0 n).wr R.CRG_COUNT 0 n).wr R.CRG_RESERVED 0 n).wr
      R.CRG_PRODUCED 0 n).wr R.CRG_CONSUMED 0 n).wr R.CRG_LOST 0 n).wr R.CRG_VOID v n) :=
    (Still.refl s).wr.wr.wr.wr.wr.wr.wr.wr
  have paid (u : State) (x : NetX) : Still u { u with net := x } := (Still.refl u).beside rfl rfl
  have ring (u : State) (x : RingX) : Still u (u.setRing n x) := (Still.refl u).beside rfl rfl
  exact ((books 0).trans (paid _ _)).wr.setF.trans (ring _ _)

theorem ringFromImage_still (s : State) (m : List Host.Cell) (n : Nat) : Still s (ringFromImage s m n) := by
  have placed (base cfg : Nat) : Still s ((s.wr R.CRG_BASE (word base) n).setF F.CRG_CFG_SIZE cfg n) := (Still.refl s).wr.setF
  unfold ringFromImage
  exact ((placed _ _).trans (ringEnable_still _ n)).ite (placed _ _).wr

theorem ringsFromImage_still (s : State) (m : List Host.Cell) : Still s (ringsFromImage s m) :=
  Still.foldN (fun t n _ => ringFromImage_still t m n) s

/-- What a boot or a resume puts into force of the newest valid bank: its programs where its image passes R83, and nothing
where there is no bank. -/
theorem bootImage_still (s : State) : ∃ frame errs programs template,
    Still (imaged s frame errs programs template) (bootImage s).2 ∧
      (∀ k, newestBank s.sto = some k → imageOk (k.cells.filter fun c => decide (c.1 < 0x400000)) none = true →
        programs = (imagePrograms (k.cells.filter fun c => decide (c.1 < 0x400000))).foldl (fun u p => tabPut u p.1 p.2) []) ∧
      (newestBank s.sto = none → programs = [] ∧ template = []) := by
  have refused : Still (imaged s s.frame s.beadErr [] []) { s with programs := [], template := [] } := Still.refl _
  unfold bootImage
  cases bank : newestBank s.sto with
  | none => exact ⟨_, _, _, _, refused, fun k h => absurd h (by simp), fun _ => ⟨rfl, rfl⟩⟩
  | some b =>
    dsimp only
    split
    · obtain ⟨frame, errs, template, loaded⟩ := imageLoad_still s (b.cells.filter fun c => decide (c.1 < 0x400000))
      refine ⟨frame, errs, _, template, loaded.trans (ringsFromImage_still _ _), fun k h _ => ?_, fun h => absurd h (by simp)⟩
      rw [Option.some.inj h]
    · next bad =>
      refine ⟨_, _, _, _, refused, fun k h ok => ?_, fun h => absurd h (by simp)⟩
      rw [← Option.some.inj h] at ok
      exact absurd ok bad

/-! ### RESUME_COMPLETE -/

theorem startPrograms_still (s : State) : Still s (startPrograms s) :=
  Still.foldN (fun t r _ => (startProgram_still t r).ite (Still.refl t)) s

/-- The Rods SHED before stay so, the programs start, and the boot bank is reported (R523, R527). -/
theorem resumed_still (s : State) (refused : Bool) : Still s (bootBankEvent (startPrograms
    (foldN 16 (fun s r => if maskBit (s.rd R.HLT_SHED) r then s.setRodSt r rodShed else s) s)) refused true) := by
  have shed : Still s (foldN 16 (fun s r => if maskBit (s.rd R.HLT_SHED) r then s.setRodSt r rodShed else s) s) :=
    Still.foldN (fun t r _ => (setRodSt_still t r rodShed).ite (Still.refl t)) s
  exact (shed.trans (startPrograms_still _)).posts (healthEvent_posts _ _ _ _ _ _)

theorem resumeComplete_enters (resume : s.sys.resume = true) (on : ∀ n, 1 ≤ n → n < 8 → s.domOn n = true) :
    runsTo .resumeComplete s fun t =>
      t.mode = (if s.fb F.SYS_STAT_CRIT = true ∨ s.sys.critRec = true then 6 else 2) ∧ t.sys.resume = false ∧
      t.sys.hostAt = s.elapsed ∧
      (∀ k, newestBank s.sto = some k → imageOk (k.cells.filter fun c => decide (c.1 < 0x400000)) none = true →
        t.programs = (imagePrograms (k.cells.filter fun c => decide (c.1 < 0x400000))).foldl (fun u p => tabPut u p.1 p.2) []) ∧
      (newestBank s.sto = none → t.programs = [] ∧ t.template = []) := by
  have all : [1, 2, 3, 4, 5, 6, 7].all (fun n => s.domOn n) = true := by
    refine List.all_eq_true.mpr fun n hn => on n ?_ ?_ <;>
      · simp only [List.mem_cons, List.not_mem_nil, or_false] at hn; omega
  obtain ⟨frame, errs, programs, template, image, put, cleared⟩ := bootImage_still s
  let up := bootBankEvent (startPrograms (foldN 16 (fun s r =>
    if maskBit (s.rd R.HLT_SHED) r then s.setRodSt r rodShed else s) (bootImage s).2)) (bootImage s).1 true
  have still : Still (imaged s frame errs programs template) up := image.trans (resumed_still _ _)
  obtain ⟨-, -, -, -, -, recorded, programs', template', elapsed⟩ := flags_of_side still.side
  have runs : exec .resumeComplete s = .next (enterReady (up.setSys { up.sys with resume := false })) :=
    congrArg Host.Outcome.next (if_pos ⟨resume, all⟩)
  obtain ⟨mode, ended, host, programs'', template''⟩ := enterReady_enters (up.setSys { up.sys with resume := false })
  refine ⟨_, runs, ?_, ended, host.trans elapsed, fun k bank ok => ?_, fun none => ?_⟩
  · have crit : (up.setSys { up.sys with resume := false }).fb F.SYS_STAT_CRIT = s.fb F.SYS_STAT_CRIT := still.crit
    have noted : (up.setSys { up.sys with resume := false }).sys.critRec = s.sys.critRec := recorded
    exact mode.trans (if_congr (by rw [crit, noted]) rfl rfl)
  · exact (programs''.trans programs').trans (put k bank ok)
  · obtain ⟨noPrograms, noTemplate⟩ := cleared none
    exact ⟨(programs''.trans programs').trans noPrograms, (template''.trans template').trans noTemplate⟩

end Sys2Proof.Machine

/-! DOMAIN_SWITCH, DOMAIN_ON, DORMANT_ENTERED, the wake sources and RESUME_COMPLETE together. -/

namespace Sys2Proof.Machine

open Sys2Proof.Claims

/-- What a wake shows, as the statement lists it. -/
theorem Woken.shows {s t : State} {cause : Nat} {p : Nat → Prop} (h : Woken s cause p t) :
    t.f F.SYS_WAKE_CAUSE = cause ∧ t.sys.resume = true ∧ t.pd 2 = 1 ∧ t.mode = 7 ∧ t.fb F.SYS_MODE_PEND = true ∧
      t.f F.SYS_MODE_TARGET = 2 ∧ quiet noWake (fun a => a = R.SYS_WAKE.addr ∨ a = R.SYS_MODE.addr ∨
        a = R.SYS_PDSTAT.addr ∨ p a) s t :=
  ⟨h.cause, h.resume, h.ramps, h.dormant, h.pend, h.target, h.rest⟩

/-- Settles O54, clause by clause: SYS_PDCTL bit by bit; the units of a domain that reaches ON, which leave SYS as it is
(`Still`); the domains that go off before Dormant; one lemma per wake source; and the end of the resume by `enterReady`. -/
theorem domainsDormantAndWaking : Obligations.DomainsDormantAndWaking := by
  unfold Obligations.DomainsDormantAndWaking
  refine ⟨fun v s on => ⟨domainSwitch_refuses on, domainSwitch_switches on⟩, fun n test s ramps => ⟨?_, ?_, ?_⟩,
    fun s ready pend target stopped => dormantEntered_enters ready pend target stopped, ?_,
    fun s resume on => resumeComplete_enters resume on⟩
  · exact fun walk pend exit target needs => domainOn_enters n test ramps walk pend exit target needs
  · exact fun walk wait => domainOn_waits n test ramps walk wait
  · exact fun p hp walk mine on off => domainOn_advances n test ramps walk p hp mine on off
  · intro s woken dormant asleep off
    refine ⟨fun t0 low en => ?_, fun en due => ?_, fun f port empty hears may none front => ?_, fun en => ?_⟩
    · obtain ⟨wakes, waits⟩ := wakePin_wakes dormant asleep off low en
      refine ⟨fun long => ?_, waits⟩
      obtain ⟨t, runs, shown⟩ := wakes long
      exact ⟨t, runs, shown.shows⟩
    · obtain ⟨t, runs, shown⟩ := wakeTimer_wakes dormant asleep off en due
      exact ⟨t, runs, shown.shows⟩
    · obtain ⟨t, runs, shown, host⟩ := wakeFrame_wakes dormant asleep off port empty hears may none front
      exact ⟨t, runs, shown.shows, host⟩
    · obtain ⟨t, runs, shown, seen⟩ := canWakePattern_wakes dormant asleep off en
      exact ⟨t, runs, shown.shows, seen⟩

end Sys2Proof.Machine

/-! The memories of the machine stay in canonical form in every step (R45, R500 to R504): for each function that a step
can call, in the model's order, a lemma `State.memOk.f` that it keeps `State.memOk`, and for a command `NextOk.execF`. -/

namespace Sys2Proof.Machine

variable {s t : State}

/-- The memories of a state: Frame SRAM, the template, the Rods and the store. -/
abbrev State.mems (s : State) :
    List Host.Cell × List Host.Cell × Tab RodX × List Host.Cell × List Host.Cell × List Host.Cell :=
  (s.frame, s.template, s.rods, s.sto.work, s.sto.bankA.cells, s.sto.bankB.cells)

theorem State.memOk.of_mems (h : s.memOk) (e : t.mems = s.mems) : t.memOk := by
  simp only [State.mems, Prod.mk.injEq] at e
  obtain ⟨e1, e2, e3, e4, e5, e6⟩ := e
  simpa only [State.memOk, e1, e2, e3, e4, e5, e6] using h

theorem State.memOk.ite {c : Prop} [Decidable c] (hs : s.memOk) (ht : t.memOk) : (if c then s else t).memOk := by
  split <;> assumption

theorem State.memOk.ite_snd {α : Type} {c : Prop} [Decidable c] {p q : α × State} (hp : p.2.memOk) (hq : q.2.memOk) :
    (if c then p else q).2.memOk := by split <;> assumption

theorem State.memOk.ite_snd2 {α β : Type} {c : Prop} [Decidable c] {p q : α × β × State} (hp : p.2.2.memOk)
    (hq : q.2.2.memOk) : (if c then p else q).2.2.memOk := by split <;> assumption

theorem State.memOk.ite_snd3 {α β γ : Type} {c : Prop} [Decidable c] {p q : α × β × γ × State}
    (hp : p.2.2.2.memOk) (hq : q.2.2.2.memOk) : (if c then p else q).2.2.2.memOk := by split <;> assumption

theorem State.memOk.foldl {α : Type} {f : State → α → State} {l : List α} (h : s.memOk)
    (hf : ∀ t a, t.memOk → (f t a).memOk) : (l.foldl f s).memOk := by
  induction l generalizing s with
  | nil => exact h
  | cons a l ih => exact ih (hf s a h)

theorem State.memOk.foldl_snd {α β : Type} {f : β × State → α → β × State} {l : List α} {p : β × State}
    (h : p.2.memOk) (hf : ∀ q a, q.2.memOk → (f q a).2.memOk) : (l.foldl f p).2.memOk := by
  induction l generalizing p with
  | nil => exact h
  | cons a l ih => exact ih (hf p a h)

theorem State.memOk.foldN {n : Nat} {f : State → Nat → State} (h : s.memOk)
    (hf : ∀ t k, t.memOk → (f t k).memOk) : (Machine.foldN n f s).memOk :=
  foldN_keeps (P := State.memOk) n (fun t k _ h => hf t k h) s h

/-- The memories of the store are in canonical form. -/
def StoX.memOk (x : StoX) : Prop :=
  Memory.wf x.work = true ∧ Memory.wf x.bankA.cells = true ∧ Memory.wf x.bankB.cells = true

/-- The bytes of the store. -/
def StoX.bytes (x : StoX) : List Host.Cell × List Host.Cell × List Host.Cell := (x.work, x.bankA.cells, x.bankB.cells)

theorem State.memOk.frameWf (h : s.memOk) : Memory.wf s.frame = true := h.1

theorem State.memOk.templateWf (h : s.memOk) : Memory.wf s.template = true := h.2.1

theorem State.memOk.stoOk (h : s.memOk) : s.sto.memOk := h.2.2.2

theorem mem_of_tabFind {α : Type} {l : Tab α} {k : Nat} {v : α} (e : tabFind l k = some v) : (k, v) ∈ l := by
  induction l with
  | nil => simp [tabFind] at e
  | cons p l ih =>
    simp only [tabFind] at e
    split at e
    · next hk => cases e; subst hk; exact List.mem_cons_self
    · exact List.mem_cons_of_mem _ (ih e)

theorem mem_tabPut {α : Type} {l : Tab α} {k : Nat} {v : α} {p : Nat × α} (e : p ∈ tabPut l k v) :
    p = (k, v) ∨ p ∈ l := by
  induction l with
  | nil => simpa [tabPut] using e
  | cons q l ih =>
    simp only [tabPut] at e
    split at e
    · exact (List.mem_cons.mp e).imp_right (List.mem_cons_of_mem _)
    · split at e
      · exact List.mem_cons.mp e
      · rcases List.mem_cons.mp e with rfl | e
        · exact .inr List.mem_cons_self
        · exact (ih e).imp_right (List.mem_cons_of_mem _)

theorem State.memOk.scratchWf (h : s.memOk) (r : Nat) : Memory.wf (s.rod r).scratch = true := by
  unfold State.rod tabGet
  cases e : tabFind s.rods r with
  | none => rfl
  | some x => exact h.2.2.1 _ (mem_of_tabFind e)

theorem State.memOk.setRodWith {r : Nat} {x : RodX} (h : s.memOk) (hx : Memory.wf x.scratch = true) :
    (s.setRod r x).memOk :=
  ⟨h.1, h.2.1, fun _ hp => (mem_tabPut hp).elim (fun e => e ▸ hx) (h.2.2.1 _), h.2.2.2⟩

theorem State.memOk.setRod {r : Nat} {x : RodX} (h : s.memOk) (e : x.scratch = (s.rod r).scratch) :
    (s.setRod r x).memOk := h.setRodWith (e ▸ h.scratchWf r)

theorem State.memOk.setStoWith {x : StoX} (h : s.memOk) (hx : x.memOk) : (s.setSto x).memOk :=
  ⟨h.1, h.2.1, h.2.2.1, hx⟩

theorem StoX.memOk.of_bytes {x y : StoX} (h : x.memOk) (e : y.bytes = x.bytes) : y.memOk := by
  simp only [StoX.bytes, Prod.mk.injEq] at e
  obtain ⟨e1, e2, e3⟩ := e
  simpa only [StoX.memOk, e1, e2, e3] using h

theorem StoX.memOk.setDirty {x : StoX} {b : Bool} {d : Dirty} (h : x.memOk) : (x.setDirty b d).memOk := by
  cases b <;> exact h

theorem State.memOk.setSto {x : StoX} (h : s.memOk) (e : x.bytes = s.sto.bytes) : (s.setSto x).memOk :=
  h.setStoWith (h.stoOk.of_bytes e)

theorem StoX.memOk.bank {x : StoX} (h : x.memOk) (b : Bool) : Memory.wf (x.bank b).cells = true := by
  cases b
  · exact h.2.1
  · exact h.2.2

theorem StoX.memOk.setBank {x : StoX} {b : Bool} {k : Bank} (h : x.memOk) (hk : Memory.wf k.cells = true) :
    (x.setBank b k).memOk := by
  cases b
  · exact ⟨h.1, hk, h.2.2⟩
  · exact ⟨h.1, h.2.1, hk⟩

theorem State.memOk.foldN_snd {β : Type} {n : Nat} {f : β × State → Nat → β × State} {p : β × State}
    (h : p.2.memOk) (hf : ∀ q k, q.2.memOk → (f q k).2.memOk) : (Machine.foldN n f p).2.memOk :=
  foldN_keeps (P := fun q => State.memOk q.2) n (fun q k _ h => hf q k h) p h

/-- The next state that a command answers has its memories in canonical form. -/
def NextOk : Host.Outcome State Fault Refusal → Prop
  | .next t => t.memOk
  | _ => True

theorem NextOk.next (h : t.memOk) : NextOk (.next t) := h

theorem State.memOk.orNext {o : Host.Outcome State Fault Refusal} (h : s.memOk) (ho : NextOk o) :
    (s.orNext o).memOk := by
  cases o with
  | next t => exact ho
  | fault _ => exact h
  | refused _ => exact h

theorem State.memOk.of_snd {α : Type} {p : α × State} {a : α} (e : p = (a, s)) (h : p.2.memOk) : s.memOk := by
  subst e; exact h

theorem State.memOk.of_snd2 {α β : Type} {p : α × β × State} {a : α} {b : β} (e : p = (a, b, s))
    (h : p.2.2.memOk) : s.memOk := by
  subst e; exact h

/-! ### The functions of Machine/Ops.lean -/

theorem State.memOk.wr {d : RegDesc} {v : Word} {i j : Nat} (h : s.memOk) : (s.wr d v i j).memOk :=
  .of_mems h (by rfl)

theorem State.memOk.setF {fl : Fld} {v i j : Nat} (h : s.memOk) : (s.setF fl v i j).memOk := by
  unfold Machine.State.setF
  exact .of_mems (.wr h) (by with_reducible rfl)

theorem State.memOk.setFi {fl : Fld} {v : Int} {i j : Nat} (h : s.memOk) : (s.setFi fl v i j).memOk :=
  .setF h

theorem State.memOk.setB {fl : Fld} {b : Bool} {i j : Nat} (h : s.memOk) : (s.setB fl b i j).memOk :=
  .setF h

theorem State.memOk.addR {d : RegDesc} {n i j : Nat} (h : s.memOk) : (s.addR d n i j).memOk :=
  .wr h

theorem State.memOk.subR {d : RegDesc} {n i j : Nat} (h : s.memOk) : (s.subR d n i j).memOk :=
  .wr h

theorem State.memOk.setMask {d : RegDesc} {n : Nat} {b : Bool} {i j : Nat} (h : s.memOk) :
    (s.setMask d n b i j).memOk :=
  .wr h

theorem State.memOk.wr64 {lo hi : RegDesc} {v i j : Nat} (h : s.memOk) : (s.wr64 lo hi v i j).memOk :=
  .wr (.wr h)

theorem State.memOk.takeFresh (h : s.memOk) : s.takeFresh.2.memOk :=
  .of_mems h (by rfl)

theorem State.memOk.setRing {n : Nat} {x : RingX} (h : s.memOk) : (s.setRing n x).memOk :=
  .of_mems h (by rfl)

theorem State.memOk.putFrameBead {a : Nat} {b : Bead} (h : s.memOk) : (s.putFrameBead a b).memOk :=
  ⟨Memory.wf_cellsWrite h.frameWf _ _ _, h.2⟩

theorem State.memOk.ringReserve {n : Nat} {rod : Option Nat} {dest : Nat} (h : s.memOk) :
    (ringReserve s n rod dest).2.memOk :=
  .setRing (.addR (.addR (.subR (.wr h))))

theorem State.memOk.ringCommitLoop {fuel n : Nat} (h : s.memOk) : (ringCommitLoop fuel s n).memOk := by
  induction fuel generalizing s with
  | zero => exact h
  | succ fuel ih =>
    unfold Machine.ringCommitLoop
    split
    · exact .ite (ih (.addR (.subR (.setRing h)))) h
    · exact h

theorem State.memOk.ringCommit {n : Nat} (h : s.memOk) : (ringCommit s n).memOk :=
  .ringCommitLoop h

theorem State.memOk.ringMark {n slot : Nat} {isVoid : Bool} (h : s.memOk) : (ringMark s n slot isVoid).memOk :=
  .setRing h

theorem State.memOk.ringAdd {n : Nat} {b : Bead} {tag : Option Nat} (h : s.memOk) : (ringAdd s n b tag).memOk :=
  .ringCommit (.ringMark (.setRing (.putFrameBead (.ringReserve h))))

theorem State.memOk.ringAddAll {n : Nat} {bs : List Bead} {tag : Option Nat} (h : s.memOk) :
    (ringAddAll s n bs tag).memOk :=
  .foldl h fun _ _ h => .ringAdd h

theorem State.memOk.ringPost {n : Nat} {b : Bead} (h : s.memOk) : (ringPost s n b).memOk :=
  .ite h (.ite (.ringAdd h) (.addR h))

theorem State.memOk.setTrc {c : Nat} {x : TrcX} (h : s.memOk) : (s.setTrc c x).memOk :=
  .of_mems h (by rfl)

theorem State.memOk.trcTrigger {fuel c cause : Nat} (h : s.memOk) : (trcTrigger fuel s c cause).memOk := by
  induction fuel generalizing s c cause with
  | zero => exact h
  | succ fuel ih =>
    unfold Machine.trcTrigger
    exact .ite (.foldN (.setTrc (.setB (.setF (.setF h)))) fun _ _ h => .ite (ih h) h) (.ite (.setF h) h)

theorem State.memOk.trcEvent {ring src code : Nat} (h : s.memOk) : (trcEvent s ring src code).memOk :=
  .ite h (.foldN h fun _ _ h => .ite (.trcTrigger h) h)

theorem State.memOk.event {n src code detail : Nat} {value : Word} (h : s.memOk) :
    (event s n src code detail value).memOk :=
  .trcEvent (.ringPost h)

theorem State.memOk.logRecord {kind : Nat} {payload : List Word} (h : s.memOk) : (logRecord s kind payload).memOk :=
  .ite (.of_mems h (by rfl)) (.setF (.addR h))

theorem State.memOk.healthEvent {idx pool code detail : Nat} {value : Word} (h : s.memOk) :
    (healthEvent s idx pool code detail value).memOk :=
  .logRecord (.ringPost h)

theorem State.memOk.poisonEvent {k detail : Nat} (h : s.memOk) : (poisonEvent s k detail).memOk :=
  .healthEvent h

theorem State.memOk.sectionFail {sec singles : Nat} (h : s.memOk) : (sectionFail s sec singles).memOk :=
  .ite h (.of_mems h (by rfl))

theorem State.memOk.poisonBead {k : Nat} (h : s.memOk) : (poisonBead s k).memOk :=
  .addR (.of_mems h (by rfl))

theorem State.memOk.beadCheck {k : Nat} (h : s.memOk) : (beadCheck s k).2.memOk := by
  unfold Machine.beadCheck
  split
  · exact h
  · exact .addR (.of_mems h (by rfl))
  · exact .ite (.sectionFail (.poisonEvent (.poisonBead h))) (.poisonEvent (.poisonBead h))
  · exact .poisonEvent h

theorem State.memOk.ringRemove {fuel n : Nat} {tags : List Nat} (h : s.memOk) :
    (ringRemove fuel s n tags).2.2.memOk := by
  induction fuel generalizing s tags with
  | zero => exact h
  | succ fuel ih =>
    have taken {v : Word} {x : RingX} : ((((s.wr R.CRG_HEAD v n).subR R.CRG_COUNT 1 n).addR R.CRG_TALLY 1 n).addR
        R.CRG_CONSUMED 1 n |>.setRing n x).memOk := .setRing (.addR (.addR (.subR (.wr h))))
    unfold Machine.ringRemove
    dsimp only
    split
    · exact h
    · split
      · exact ih (.addR taken)
      · split
        · next e => exact .setF (.of_snd e (.beadCheck taken))
        · next e => exact .of_snd e (.beadCheck taken)

theorem State.memOk.ringPop {n : Nat} (h : s.memOk) : (ringPop s n).2.2.memOk :=
  .ringRemove h

theorem State.memOk.ringSkip {fuel n : Nat} (h : s.memOk) : (ringSkip fuel s n).memOk := by
  induction fuel generalizing s with
  | zero => exact h
  | succ fuel ih => exact .ite (ih (.ringRemove h)) h

theorem State.memOk.ringDisableEffect {n : Nat} (h : s.memOk) : (ringDisableEffect s n).2.memOk :=
  .setRing (.setF (.wr (.wr (.wr (.addR h)))))

theorem State.memOk.ringEnable {n : Nat} (h : s.memOk) : (ringEnable s n).memOk := by
  have zeroed : ((((((((s.wr R.CRG_HEAD 0 n).wr R.CRG_TAIL 0 n).wr R.CRG_COUNT 0 n).wr R.CRG_RESERVED 0 n).wr
    R.CRG_PRODUCED 0 n).wr
    R.CRG_CONSUMED 0 n).wr R.CRG_LOST 0 n).wr R.CRG_VOID 0 n).memOk := .wr (.wr (.wr (.wr (.wr (.wr (.wr (.wr h)))))))
  have forgotten {t : State} {x : NetX} (h : t.memOk) : ({ t with net := x } : State).memOk := h.of_mems (by rfl)
  exact .setRing (.setF (.wr (forgotten zeroed)))

theorem State.memOk.ringBell {r mask : Nat} (h : s.memOk) : (ringBell s r mask).memOk :=
  .ite (.setF h) h

/-! ### The functions of Machine/Measure.lean -/

theorem State.memOk.agesFrom {l : List Nat} (h : s.memOk) : (agesFrom s l).memOk :=
  .of_mems h (by rfl)

theorem State.memOk.published {c : Nat} (h : s.memOk) : (published s c).memOk :=
  .of_mems h (by rfl)

/-! ### The functions of Machine/RegOps.lean -/

theorem State.memOk.putReg {d : RegDesc} {v : Word} {i j : Nat} (h : s.memOk) : (putReg s d v i j).memOk :=
  .wr h

theorem State.memOk.freeReading (h : s.memOk) : (freeReading s).2.memOk :=
  .takeFresh h

/-! ### The functions of Machine/StoreOps.lean -/

theorem State.memOk.setMap {u : UnitMap} (h : s.memOk) : (s.setMap u).memOk :=
  .setSto h (by rfl)

theorem State.memOk.workWrite {off : Nat} {v : Word} (h : s.memOk) : (workWrite s off v).memOk :=
  .ite h (.setStoWith h ⟨Memory.wf_cellsWrite h.stoOk.1 _ _ _, h.stoOk.2⟩)

theorem State.memOk.storedLoad {lo hi : Nat} (h : s.memOk) : (storedLoad s lo hi).memOk := by
  refine .foldl h fun t a h => ?_
  split
  · exact .of_mems h (by rfl)
  · exact h

theorem State.memOk.curvesLoad (h : s.memOk) : (curvesLoad s).memOk :=
  .of_mems h (by rfl)

theorem State.memOk.storeField {a : Nat} {v : Word} (h : s.memOk) : (storeField s a v).memOk := by
  unfold Machine.storeField
  split
  · exact .of_mems (.workWrite h) (by with_reducible rfl)
  · exact .ite (.setSto h (by rfl)) h

theorem State.memOk.recordWrite {n : Nat} {t : List Word} (h : s.memOk) : (recordWrite s n t).memOk :=
  .foldl (.workWrite (.workWrite (.workWrite (.workWrite h)))) fun _ _ h => .workWrite h

theorem State.memOk.loadAbort (h : s.memOk) : (loadAbort s).memOk := by
  unfold Machine.loadAbort
  split
  · exact h
  · exact .setF (.setStoWith h (.of_bytes (.setDirty h.stoOk) (by rfl)))

theorem StoX.memOk.newestBank {x : StoX} {k : Bank} (h : x.memOk) (e : newestBank x = some k) : Memory.wf k.cells =
    true := by
  obtain ⟨-, ha, hb⟩ := h
  unfold Machine.newestBank at e
  split at e
  · cases e; exact hb
  · split at e
    · cases e; exact ha
    · cases e

/-! ### The functions of Machine/Col.lean -/

theorem State.memOk.setCol {n : Nat} {x : ColX} (h : s.memOk) : (s.setCol n x).memOk :=
  .of_mems h (by rfl)

theorem State.memOk.colEvent {n code detail : Nat} {value : Word} (h : s.memOk) :
    (colEvent s n code detail value).memOk :=
  .event h

theorem State.memOk.colBump {fl : Fld} {n k : Nat} (h : s.memOk) : (colBump s fl n k).memOk :=
  .setF h

theorem State.memOk.colStale {n : Nat} (h : s.memOk) : (colStale s n).memOk :=
  .foldN h fun _ _ h => .setF h

theorem State.memOk.colLeave {n : Nat} (h : s.memOk) : (colLeave s n).memOk := by
  unfold Machine.colLeave
  dsimp only
  split
  · exact .ite (.loadAbort (.colStale h)) (.colStale h)
  · exact .colStale h

theorem State.memOk.colRetire {n cause : Nat} (h : s.memOk) : (colRetire s n cause).memOk :=
  .ite (.colEvent (.setCol (.setF (.setF (.colLeave h))))) h

theorem State.memOk.colClear {n : Nat} (h : s.memOk) : (colClear s n).memOk :=
  .of_mems h (by rfl)

theorem State.memOk.colCredViol {n : Nat} (h : s.memOk) : (colCredViol s n).memOk :=
  .ite (.colEvent (.colBump h)) (.colBump h)

theorem State.memOk.colReceived {n k : Nat} (h : s.memOk) : (colReceived s n k).memOk :=
  .setCol h

theorem State.memOk.colFreed {n : Nat} (h : s.memOk) : (colFreed s n).memOk :=
  .ite h (.setCol (.setF h))

theorem State.memOk.colReturned {n : Nat} (h : s.memOk) : (colReturned s n).memOk :=
  .setCol (.setF h)

theorem State.memOk.colCredit {n c : Nat} (h : s.memOk) : (colCredit s n c).memOk :=
  .ite (.setF h) (.colCredViol h)

theorem State.memOk.colExpire {n : Nat} (h : s.memOk) : (colExpire s n).memOk :=
  .ite (.setCol (.setF (.colLeave h))) (.ite (.addR (.colClear h)) (.ite (.colClear h) h))

theorem State.memOk.colSeqStep {n seq w : Nat} (h : s.memOk) : (colSeqStep s n seq w).2.memOk :=
  .ite_snd (.setCol (.setF h)) (.ite_snd (.setCol (.colBump h)) (.setF (.colBump h)))

theorem State.memOk.colAlive {n : Nat} (h : s.memOk) : (colAlive s n).memOk :=
  .setCol h

theorem State.memOk.colAdmit {n : Nat} (h : s.memOk) : (colAdmit s n).memOk :=
  .colEvent (.setF h)

theorem State.memOk.colValid {n medium : Nat} (h : s.memOk) : (colValid s n medium).memOk :=
  .ite (.ite (.colAdmit (.setF (.setF (.colAlive h)))) (.setF (.setF (.colAlive h))))
    (.ite (.colEvent (.setF (.setF (.colAlive h)))) (.setF (.colAlive h)))

theorem State.memOk.colNoRoom {f : Nat} (h : s.memOk) : (colNoRoom s f).memOk := by
  unfold Machine.colNoRoom
  dsimp only
  split
  · exact .colRetire (.addR h)
  · exact .ite (.event (.setF (.addR h))) (.setF (.addR h))

theorem State.memOk.colTake {n f medium : Nat} {x : ColX} (h : s.memOk) : (colTake s n f medium x).memOk :=
  .colAlive (.colStale (.setCol (.setF (.setF (.setF (.setF (.setF (.setF (.setF (.setF (.colClear h)))))))))))

theorem State.memOk.colPublish {n k flags : Nat} {v : Int} (h : s.memOk) : (colPublish s n k flags v).memOk :=
  .published (.setF (.wr h))

theorem State.memOk.colExtract {n k : Nat} {d : List Nat} (h : s.memOk) : (colExtract s n k d).memOk :=
  .ite h (.ite h (.ite h (.colPublish h)))

theorem State.memOk.colTofs {n : Nat} {ts : Int} {tb : Nat} (h : s.memOk) : (colTofs s n ts tb).memOk :=
  .wr h

theorem State.memOk.colCanUse {n : Nat} {d : List Nat} {tb : Nat} (h : s.memOk) : (colCanUse s n d tb).memOk :=
  .ite (.colTofs (.ite (.foldN h fun _ _ h => .colExtract h) h)) (.ite (.foldN h fun _ _ h => .colExtract h) h)

theorem State.memOk.colCanSeq {n : Nat} {d : List Nat} (h : s.memOk) : (colCanSeq s n d).2.memOk :=
  .ite_snd h (.colSeqStep h)

theorem State.memOk.colCanFrame {ch hdr : Nat} {d : List Nat} {tb : Nat} (h : s.memOk) :
    (colCanFrame s ch hdr d tb).2.memOk := by
  unfold Machine.colCanFrame
  split
  · refine .ite_snd h ?_
    split
    · next e => exact .colCanUse (.colValid (.of_snd e (.colCanSeq h)))
    · next e => exact .of_snd e (.colCanSeq h)
  · split
    · exact h
    · split
      · exact .colNoRoom h
      · exact .colCanUse (.ite (.colAdmit (.colCanSeq (.wr (.colTake h)))) (.colCanSeq (.wr (.colTake h))))

theorem State.memOk.colExpiry {st n : Nat} (h : s.memOk) : (colExpiry s st n).memOk :=
  .ite (.ite (.colEvent (.colExpire h)) (.ite (.event (.colExpire h)) (.event (.colExpire h)))) h

theorem State.memOk.colCmdWrite {n : Nat} {v : Word} (h : s.memOk) : (colCmdWrite s n v).memOk := by
  unfold Machine.colCmdWrite
  split
  · exact .colRetire h
  · exact .wr h
  · exact .setCol (.setF h)
  · exact h

theorem State.memOk.colReset (h : s.memOk) : (colReset s).memOk :=
  .of_mems h (by rfl)

/-! ### The functions of Machine/Tim.lean -/

theorem State.memOk.setTim {x : TimX} (h : s.memOk) : (s.setTim x).memOk :=
  .of_mems h (by rfl)

theorem State.memOk.timTick (h : s.memOk) : (timTick s).memOk :=
  .of_mems h (by rfl)

theorem NextOk.idleStep (h : s.memOk) : NextOk (idleStep s) := by
  unfold Machine.idleStep
  split
  · exact .next (.of_mems h (by rfl))
  · split
    · trivial
    · exact .next (.timTick h)

theorem State.memOk.shownInt {x : Rat} (h : s.memOk) : (shownInt s x).2.memOk :=
  .ite_snd h (.takeFresh h)

theorem State.memOk.showRat {d : RegDesc} {x : Rat} (h : s.memOk) : (showRat s d x).memOk :=
  .wr (.shownInt h)

theorem State.memOk.timRate {rate fint : Rat} (h : s.memOk) : (timRate s rate fint).memOk :=
  .showRat (.showRat (.setTim h))

theorem State.memOk.timAccepted {o : Rat} (h : s.memOk) : (timAccepted s o).memOk :=
  .setF (.setTim h)

theorem State.memOk.timStep {n : Nat} (h : s.memOk) : (timStep s n).memOk :=
  .wr64 (.setF (.addR (.of_mems h (by rfl))))

theorem State.memOk.timDt (h : s.memOk) : (timDt s).2.memOk := by
  unfold Machine.timDt
  split
  · exact h
  · exact .takeFresh h

theorem State.memOk.timSample {o : Rat} (h : s.memOk) : (timSample s o).memOk :=
  .ite (.timAccepted (.timRate (.setF (.setTim (.timDt (.wr (.shownInt h)))))))
    (.ite (.setF (.setTim (.setF (.setF (.wr (.shownInt h))))))
    (.ite (.timAccepted (.timRate (.setF (.setTim (.timStep (.setTim (.setF (.setF (.wr (.shownInt h))))))))))
    (.timAccepted (.timRate (.setTim (.setF (.setF (.wr (.shownInt h)))))))))

theorem State.memOk.timSrcWrite (h : s.memOk) : (timSrcWrite s).memOk :=
  .timRate (.setF (.setF (.setTim h)))

theorem State.memOk.timNowLo (h : s.memOk) : (timNowLo s).2.memOk :=
  .wr h

theorem State.memOk.setPtp {p : PtpX} (h : s.memOk) : (s.setPtp p).memOk :=
  .setTim h

theorem State.memOk.ptpPair {t1 t2 : Rat} (h : s.memOk) : (ptpPair s t1 t2).memOk := by
  unfold Machine.ptpPair
  dsimp only
  split
  · exact .timSample (.setPtp h)
  · exact .setPtp h

theorem NextOk.execPtpSync {m : PtpMsg} {twoStep : Bool} (h : s.memOk) : NextOk (execPtpSync m twoStep s) :=
  .next (.ite (.ite (.setPtp h) h) (.ite (.ite (.setPtp (.ite (.setPtp h) h)) (.ptpPair (.ite (.setPtp h) h)))
    (.ite (.setPtp h) h)))

theorem NextOk.execPtpFollowUp {m : PtpMsg} (h : s.memOk) : NextOk (execPtpFollowUp m s) := by
  unfold Machine.execPtpFollowUp
  refine .next ?_
  split
  · exact .ite (.ptpPair h) h
  · exact h

theorem NextOk.execPtpDelayResp {m : PtpMsg} (h : s.memOk) : NextOk (execPtpDelayResp m s) := by
  unfold Machine.execPtpDelayResp
  refine .next ?_
  split
  · exact .ite (.showRat (.setPtp h)) h
  · exact h

/-! ### The functions of Machine/CanBase.lean -/

theorem State.memOk.setCan {n : Nat} {x : CanX} (h : s.memOk) : (s.setCan n x).memOk :=
  .of_mems h (by rfl)

theorem State.memOk.canRefused {n : Nat} (h : s.memOk) : (canRefused s n).memOk :=
  .setF h

theorem State.memOk.canEvent {n buf code detail : Nat} {value : Word} (h : s.memOk) :
    (canEvent s n buf code detail value).memOk :=
  .ite (.ringAdd h) (.ite (.addR (.setF (.addR h))) (.setF (.addR h)))

theorem State.memOk.setTxW {n k w : Nat} {v : Word} (h : s.memOk) : (s.setTxW n k w v).memOk :=
  .wr h

theorem State.memOk.setTxF {n k hi lo v : Nat} (h : s.memOk) : (s.setTxF n k hi lo v).memOk :=
  .setTxW h

theorem State.memOk.setTxSt {n k st : Nat} (h : s.memOk) : (s.setTxSt n k st).memOk :=
  .setTxF h

theorem State.memOk.txEnd {n k st code detail : Nat} (h : s.memOk) : (txEnd s n k st code detail).memOk :=
  .canEvent (.setTxF (.setTxSt h))

theorem State.memOk.txStaleAll {n : Nat} (h : s.memOk) : (txStaleAll s n).memOk :=
  .foldN h fun _ _ h => .ite (.canEvent (.setTxSt h)) h

theorem State.memOk.setRxFull {n k : Nat} {b : Bool} (h : s.memOk) : (s.setRxFull n k b).memOk :=
  .ite (.setMask h) (.setMask h)

theorem State.memOk.setRxLock {n k : Nat} {b : Bool} (h : s.memOk) : (s.setRxLock n k b).memOk :=
  .ite (.setMask h) (.setMask h)

theorem State.memOk.rxFill {n k : Nat} {ws : List Word} (h : s.memOk) : (rxFill s n k ws).memOk :=
  .setRxFull (.foldl h fun _ _ h => .wr h)

theorem State.memOk.rxPlace {n k : Nat} {ws : List Word} (h : s.memOk) : (rxPlace s n k ws).memOk :=
  .ite (.ringBell (.ite (.canEvent (.rxFill h)) (.rxFill h))) (.ite (.canEvent (.rxFill h)) (.rxFill h))

theorem State.memOk.rxRelease {n k : Nat} (h : s.memOk) : (rxRelease s n k).memOk := by
  unfold Machine.rxRelease
  dsimp only
  split
  · exact .rxPlace (.setCan (.setRxLock (.setRxFull h)))
  · exact .setRxLock (.setRxFull h)

theorem State.memOk.rxRead {n k w : Nat} (h : s.memOk) : (rxRead s n k w).2.memOk :=
  .ite_snd (.setRxLock h) (.ite_snd (.rxRelease h) h)

theorem State.memOk.rxStore {n k : Nat} {ws : List Word} (h : s.memOk) : (rxStore s n k ws).memOk :=
  .ite (.ite (.ite (.addR (.ite (.setCan h) h)) (.canEvent (.setF (.addR (.ite (.setCan h) h)))))
    (.addR (.ite (.setCan h) h)))
    (.rxPlace (.ite (.ite (.addR (.ite (.setCan h) h)) (.canEvent (.setF (.addR (.ite (.setCan h) h)))))
    (.addR (.ite (.setCan h) h))))

theorem State.memOk.rxDiscard {n q beads : Nat} (h : s.memOk) : (rxDiscard s n q beads).memOk :=
  .ite (.ite (.addR (.addR (.addR h))) (.addR (.addR h)))
    (.canEvent (.setF (.ite (.addR (.addR (.addR h))) (.addR (.addR h)))))

theorem State.memOk.rxQueue {n q : Nat} {f : CanFrame} {k tb : Nat} (h : s.memOk) : (rxQueue s n q f k tb).memOk := by
  unfold Machine.rxQueue
  refine .ite ?_ (.rxDiscard h)
  refine .addR ?_
  refine .ringAddAll ?_
  split
  · exact .colReceived (.ite (.colCanFrame h) (.colCredViol (.colCanFrame h)))
  · exact .colCanFrame h

theorem State.memOk.rxFrame {n : Nat} {f : CanFrame} {tb : Nat} (h : s.memOk) : (rxFrame s n f tb).memOk := by
  unfold Machine.rxFrame
  dsimp only
  split
  · exact .addR (.addR h)
  · exact .ite (.ite (.rxQueue (.addR h)) (.addR (.addR h))) (.rxStore (.ite (.colCanFrame (.addR h)) (.addR h)))

/-! ### The functions of Machine/Tts.lean -/

theorem State.memOk.setTts {n : Nat} {x : TtsX} (h : s.memOk) : (s.setTts n x).memOk :=
  .of_mems h (by rfl)

theorem State.memOk.ttsOut {n y w v : Nat} (h : s.memOk) : (ttsOut s n y w v).memOk :=
  .wr h

theorem State.memOk.ttsTo {n st : Nat} (h : s.memOk) : (ttsTo s n st).memOk :=
  .ite h (.canEvent (.setF h))

theorem State.memOk.ttsMasterIs {n r : Nat} (h : s.memOk) : (ttsMasterIs s n r).memOk :=
  .ite h (.canEvent (.setF (.setF (.setTts h))))

theorem State.memOk.txRequestNow {n k : Nat} (h : s.memOk) : (txRequestNow s n k).memOk :=
  .setCan (.setTxW h)

theorem State.memOk.ttsWithdraw {n k : Nat} (h : s.memOk) : (ttsWithdraw s n k).memOk :=
  .ite (.txEnd h) h

theorem State.memOk.ttsRequest {n c at_ : Nat} (h : s.memOk) : (ttsRequest s n c at_).memOk :=
  .txRequestNow (.setTts (.setTxW (.setTxW (.setTxW h))))

theorem State.memOk.ttsMarkRequest {n : Nat} (h : s.memOk) : (ttsMarkRequest s n).memOk :=
  .txRequestNow (.setTxW (.setTxW (.setTxW (.setTxW h))))

theorem State.memOk.ttsCycleStart {n c ago : Nat} (h : s.memOk) : (ttsCycleStart s n c ago).memOk :=
  .setTts (.setF (.wr64 h))

theorem State.memOk.ttsRefSent {n ago : Nat} (h : s.memOk) : (ttsRefSent s n ago).memOk :=
  .ttsMasterIs (.ttsTo (.setTts (.ttsCycleStart h)))

theorem State.memOk.ttsReference {n r byte0 ago : Nat} (h : s.memOk) : (ttsReference s n r byte0 ago).memOk :=
  .ite h (.ite h (.ttsMasterIs
    (.ttsTo (.setTts (.ite
    (.ttsWithdraw (.ite (.canEvent (.setF (.ttsCycleStart (.ite (.setF h) h)))) (.ttsCycleStart (.ite (.setF h) h))))
    (.ite (.canEvent (.setF (.ttsCycleStart (.ite (.setF h) h)))) (.ttsCycleStart (.ite (.setF h) h))))))))

theorem State.memOk.ttsTimeMark {n r t : Nat} (h : s.memOk) : (ttsTimeMark s n r t).memOk :=
  .ite (.timSample h) h

theorem State.memOk.ttsFrame {n hdr : Nat} {d : List Nat} {len ago : Nat} (h : s.memOk) :
    (ttsFrame s n hdr d len ago).memOk := by
  unfold Machine.ttsFrame
  dsimp only
  split
  · exact h
  · split
    · split
      · exact .ttsReference h
      · exact .ttsReference (.takeFresh h)
    · exact .ite (.ttsTimeMark h) h

theorem State.memOk.txBegin {n k : Nat} (h : s.memOk) : (txBegin s n k).memOk := by
  unfold Machine.txBegin
  dsimp only
  split
  · exact .ite (.setTts (.ite (.of_mems (.setCan (.setTxSt h)) (by with_reducible rfl)) (.setCan (.setTxSt h))))
      (.ite (.of_mems (.setCan (.setTxSt h)) (by with_reducible rfl)) (.setCan (.setTxSt h)))
  · exact .ite (.of_mems (.setCan (.setTxSt h)) (by with_reducible rfl)) (.setCan (.setTxSt h))

theorem State.memOk.canStart {n : Nat} (h : s.memOk) : (canStart s n).memOk := by
  unfold Machine.canStart
  dsimp only
  split
  · split
    · exact .txBegin (.txStaleAll h)
    · exact .txStaleAll h
  · exact h

theorem State.memOk.ttsCellEnd {n v : Nat} (h : s.memOk) : (ttsCellEnd s n v).memOk := by
  unfold Machine.ttsCellEnd
  dsimp only
  split
  · exact .ttsOut (.setTts h)
  · exact h

theorem State.memOk.ttsCellLost {n : Nat} (h : s.memOk) : (ttsCellLost s n).memOk := by
  unfold Machine.ttsCellLost
  split
  · exact .ttsCellEnd (.takeFresh h)
  · exact h

theorem State.memOk.ttsMissed {n y w k : Nat} (h : s.memOk) : (ttsMissed s n y w k).memOk :=
  .ite (.addR (.ttsOut h)) (.canEvent (.setF (.addR (.ttsOut h))))

theorem State.memOk.ttsCtlWrite {n : Nat} {was : Bool} (h : s.memOk) : (ttsCtlWrite s n was).memOk :=
  .ite (.ttsTo (.setTts h)) (.ite (.ttsTo (.setTts (.ite (.ttsWithdraw (.ttsWithdraw h)) h))) h)

theorem State.memOk.ttsBusOff {n : Nat} (h : s.memOk) : (ttsBusOff s n).memOk :=
  .ite (.ttsTo (.setTts (.ite (.ttsWithdraw h) h))) h

/-! ### The functions of Machine/Can.lean -/

theorem State.memOk.canCounters {n tec rcv : Nat} (h : s.memOk) : (canCounters s n tec rcv).memOk :=
  .ite (.setF (.setF h))
    (.ite (.ttsBusOff (.setF (.canEvent (.setF (.setF (.setF h)))))) (.canEvent (.setF (.setF (.setF h)))))

theorem State.memOk.recDown {n : Nat} (h : s.memOk) : (recDown s n).memOk :=
  .ite h (.ite (.canCounters h) (.canCounters (.takeFresh h)))

theorem State.memOk.canReceive {n : Nat} {f : CanFrame} (h : s.memOk) : (canReceive s n f).memOk :=
  .ite (.ttsFrame (.ite (.recDown (.rxFrame (.setCan h))) (.rxFrame (.setCan h)))) h

theorem State.memOk.tdcMeasured {n k : Nat} {tdcv : Byte} (h : s.memOk) : (tdcMeasured s n k tdcv).memOk :=
  .ite (.setF h) h

theorem NextOk.execTransmitted {n : Fin 6} {tdcv : Byte} (h : s.memOk) : NextOk (execTransmitted n tdcv s) := by
  unfold Machine.execTransmitted
  refine .next ?_
  dsimp only
  split
  · exact .ite h (.ite (.ttsRefSent
      (.ttsCellEnd (.canCounters (.setCan (.txEnd (.tdcMeasured (.setTxF (.ite (.rxFrame h) h))))))))
    (.ttsCellEnd (.canCounters (.setCan (.txEnd (.tdcMeasured (.setTxF (.ite (.rxFrame h) h))))))))
  · exact h

theorem NextOk.execArbitrationLost {n : Fin 6} (h : s.memOk) : NextOk (execArbitrationLost n s) := by
  unfold Machine.execArbitrationLost
  refine .next ?_
  dsimp only
  split
  · exact .ite h (.ttsCellLost (.ite (.txEnd (.setTxF (.setCan h))) (.setTxSt (.setTxF (.setCan h)))))
  · exact h

theorem State.memOk.txError {n k : Nat} (h : s.memOk) : (txError s n k).memOk :=
  .ttsCellEnd (.ite (.txEnd (.setTxF h)) (.ite (.txEnd (.setTxF h)) (.setTxSt (.setTxF h))))

theorem NextOk.execBusError {n : Fin 6} {e : CanError} {tdcv : Option Byte} (h : s.memOk) :
    NextOk (execBusError n e tdcv s) := by
  unfold Machine.execBusError
  refine .next ?_
  refine .ite h ?_
  refine .ite ?_ ?_
  · split
    · refine .txError ?_
      split
      · exact .tdcMeasured (.setCan h)
      · exact .setCan h
    · exact .setCan h
  · refine .canCounters ?_
    split
    · refine .txError ?_
      split
      · exact .tdcMeasured (.setCan h)
      · exact .setCan h
    · exact .setCan h

theorem NextOk.execRecoveryComplete {n : Fin 6} (h : s.memOk) : NextOk (execRecoveryComplete n s) :=
  .next (.ite (.txStaleAll (.ite (.setTts (.canEvent (.canCounters h))) (.canEvent (.canCounters h)))) h)

theorem State.memOk.canModeNow {n m : Nat} (h : s.memOk) : (canModeNow s n m).memOk :=
  .setCan (.setF h)

theorem NextOk.execWatchExpiry {c : Fin 2} (h : s.memOk) : NextOk (execWatchExpiry c s) :=
  .next (.ite (.ite (.ttsRequest (.ttsTo h)) (.ttsTo h)) h)

theorem NextOk.execReferenceRequest {c : Fin 2} (h : s.memOk) : NextOk (execReferenceRequest c s) := by
  unfold Machine.execReferenceRequest
  refine .next ?_
  refine .ite h ?_
  refine .ite ?_ (.ite (.ttsRequest (.setTts h)) h)
  split
  · exact .ite (.ttsRequest h) h
  · exact h

theorem NextOk.execTtsWindowStart {c : Fin 2} (h : s.memOk) : NextOk (execTtsWindowStart c s) :=
  .next (.ite (.ite (.ite (.ttsMarkRequest (.setTts h)) (.setTts h))
    (.canStart (.ite (.ttsMarkRequest (.setTts h)) (.setTts h)))) h)

theorem NextOk.execTtsWindowEnd {c : Fin 2} (h : s.memOk) : NextOk (execTtsWindowEnd c s) := by
  unfold Machine.execTtsWindowEnd
  refine .next ?_
  dsimp only
  split
  · exact .ite (.ite (.setTts h) (.ite (.ite (.ttsWithdraw (.ttsMissed (.setTts h))) (.ttsMissed (.setTts h)))
      (.ttsOut (.setTts h)))) h
  · exact h

theorem State.memOk.canBusBusy {n : Nat} (h : s.memOk) : (canBusBusy s n).2.memOk :=
  .ite_snd h (.ite_snd (.takeFresh h) h)

theorem State.memOk.canCtlWrite {n : Nat} {v : Word} (h : s.memOk) : (canCtlWrite s n v).memOk :=
  .ite (.setF (.ite (.wr (.wr (.wr (.wr h)))) h))
    (.ite (.setF (.canBusBusy (.ite (.wr (.wr (.wr (.wr h)))) h)))
    (.canModeNow (.canBusBusy (.ite (.wr (.wr (.wr (.wr h)))) h))))

theorem State.memOk.txReqWrite {n : Nat} {v : Word} (h : s.memOk) : (txReqWrite s n v).memOk :=
  .foldN h fun _ _ h => .ite (.ite (.canRefused h) (.txRequestNow h)) h

theorem State.memOk.txCancelWrite {n : Nat} {v : Word} (h : s.memOk) : (txCancelWrite s n v).memOk :=
  .foldN h fun _ _ h => .ite h (.ite (.txEnd h) (.ite (.ite (.ttsCellLost (.txEnd (.setCan h))) (.setTxF h)) h))

theorem State.memOk.rxRelWrite {n hi : Nat} {v : Word} (h : s.memOk) : (rxRelWrite s n hi v).memOk :=
  .ite h (.foldN h fun _ _ h => .ite (.rxRelease h) h)

theorem State.memOk.canRecoverWrite {n : Nat} {v : Word} (h : s.memOk) : (canRecoverWrite s n v).memOk :=
  .ite h (.ite (.setF h) (.canRefused h))

theorem State.memOk.canReset (h : s.memOk) : (canReset s).memOk :=
  .ite (.of_mems h (by rfl)) (.wr (.of_mems h (by rfl)))

/-! ### Operands -/

theorem State.memOk.setG {r : Nat} {n : BitVec 5} {v : Word} (h : s.memOk) : (setG s r n v).memOk :=
  .ite h (.setRod h (by with_reducible rfl))

theorem State.memOk.setW {r : Nat} {n : BitVec 5} {v : Bead} (h : s.memOk) : (setW s r n v).memOk :=
  .setRod h (by with_reducible rfl)

theorem State.memOk.setPair {r : Nat} {n : BitVec 5} {v : Nat} (h : s.memOk) : (setPair s r n v).memOk :=
  .setG (.setG h)

/-! ### The functions of Machine/Rods.lean -/

theorem State.memOk.setRodSt {r st : Nat} (h : s.memOk) : (s.setRodSt r st).memOk :=
  .setF (.setRodWith h (by split <;> exact h.scratchWf r))

theorem State.memOk.setHold {r : Nat} {h1 : RodHold} (h : s.memOk) : (setHold s r h1).memOk :=
  .setRod h (by with_reducible rfl)

theorem State.memOk.rodGoto {r : Nat} {next : Word} (h : s.memOk) : (rodGoto s r next).memOk :=
  .wr (.setRod h (by with_reducible rfl))

theorem State.memOk.rodDone {r : Nat} (h : s.memOk) : (rodDone s r).memOk :=
  .rodGoto h

theorem State.memOk.pushFinish {n : Nat} (h : s.memOk) : (pushFinish s n).memOk := by
  refine .foldN h fun t r h => ?_
  split
  · exact .ite (.rodDone (.setG (.setHold h))) h
  · exact h

theorem State.memOk.voidReservations {r : Nat} (h : s.memOk) : (voidReservations s r).memOk :=
  .foldN (.setHold h) fun _ _ h => .ite (.pushFinish (.ringCommit (.setRing h))) h

theorem State.memOk.bellWrite {r mask : Nat} (h : s.memOk) : (bellWrite s r mask).memOk :=
  .ite (.setRodWith (.ringBell h) (h.scratchWf r)) h

theorem State.memOk.startProgram {r : Nat} (h : s.memOk) : (startProgram s r).memOk := by
  unfold Machine.startProgram
  split
  · exact h
  · exact .setRodSt (.setF (.setF (.setF (.of_mems (.setRodWith h rfl) (by with_reducible rfl)))))

theorem State.memOk.stopClear {r : Nat} (h : s.memOk) : (stopClear s r).memOk :=
  .ite (.setRod h (by with_reducible rfl)) (.setF (.setRod h (by with_reducible rfl)))

theorem State.memOk.rodHaltNow {r : Nat} (h : s.memOk) : (rodHaltNow s r).memOk :=
  .setRodSt (.stopClear (.voidReservations h))

theorem State.memOk.paceMeasure {r : Nat} (h : s.memOk) : (paceMeasure s r).memOk := by
  have shown {v : Nat} {x : RodX}
    (e : x.scratch = (((Machine.freeReading s).2.setF F.FRM_PACE_RATE v r).rod r).scratch) :
      (((Machine.freeReading s).2.setF F.FRM_PACE_RATE v r).setRod r x).memOk := .setRod (.setF (.freeReading h)) e
  exact .ite h (shown rfl)

theorem State.memOk.mapRod {r p : Nat} (h : s.memOk) : (mapRod s r p).memOk :=
  .wr h

theorem State.memOk.bindRod {r p : Nat} (h : s.memOk) : (bindRod s r p).memOk :=
  .mapRod (.setRod (.paceMeasure h) (by with_reducible rfl))

theorem State.memOk.poolsUpdate (h : s.memOk) : (poolsUpdate s).memOk :=
  .of_mems (.foldl (.setB (.setF (.setF (.setF (.setF (.setF h)))))) fun _ _ h => .healthEvent h) (by rfl)

theorem State.memOk.retireRod {p : Nat} (h : s.memOk) : (retireRod s p).memOk :=
  .ite h (.setMap h)

theorem State.memOk.shedRod {r : Nat} (h : s.memOk) : (shedRod s r).memOk :=
  .healthEvent (.setMask
    (.bindRod (.setRodSt
    (.stopClear (.setRod (.voidReservations (.ite (.of_mems h (by with_reducible rfl)) h))
    (by with_reducible rfl))))))

theorem State.memOk.takeRod {r : Nat} (h : s.memOk) : (takeRod s r).2.memOk := by
  unfold Machine.takeRod
  split
  · exact h
  · split
    · exact h
    · exact .ite_snd (.shedRod h) (.shedRod h)

/-! ### The functions of Machine/Dfe.lean -/

theorem State.memOk.setDfe {n : Nat} {x : DfeX} (h : s.memOk) : (s.setDfe n x).memOk :=
  .of_mems h (by rfl)

theorem State.memOk.dfeEvent {n code detail : Nat} (h : s.memOk) : (dfeEvent s n code detail).memOk :=
  .event h

theorem State.memOk.planSubmit {n : Nat} {p : TonePlan} (h : s.memOk) : (planSubmit s n p).memOk :=
  .setDfe (.ite (.setF h) h)

theorem State.memOk.dfeShow {n : Nat} {l : List Nat} (h : s.memOk) : (dfeShow s n l).memOk :=
  .setF (.setF (.setB (.setF (.setB h))))

theorem State.memOk.dfeSetFaults {n : Nat} {l : List Nat} (h : s.memOk) : (dfeSetFaults s n l).2.memOk :=
  .dfeShow (.setDfe h)

theorem State.memOk.dfeEvents {n : Nat} {l : List (Nat × Nat)} (h : s.memOk) : (dfeEvents s n l).memOk :=
  .foldl h fun _ _ h => .dfeEvent h

theorem State.memOk.dfeFaults {n : Nat} {l : List Nat} (h : s.memOk) : (dfeFaults s n l).memOk :=
  .dfeEvents (.dfeSetFaults h)

theorem State.memOk.dfeEnable {n : Nat} (h : s.memOk) : (dfeEnable s n).memOk :=
  .ite (.dfeFaults (.dfeShow (.published (.published (.setF (.wr (.wr (.setDfe (.ite (.setF h) h)))))))))
    (.dfeShow (.published (.published (.setF (.wr (.wr (.setDfe (.ite (.setF h) h))))))))

theorem State.memOk.dfeDisable {n : Nat} (h : s.memOk) : (dfeDisable s n).memOk :=
  .setDfe h

theorem State.memOk.dfeTemp {n : Nat} (h : s.memOk) : (dfeTemp s n).2.2.2.memOk := by
  unfold Machine.dfeTemp
  dsimp only
  split
  · exact .setF h
  · split
    · exact .setF (.setDfe h)
    · split
      · exact .setF h
      · exact .takeFresh (.setF h)

theorem State.memOk.dfePut {n c : Nat} {m rho : Rat} {nodens : Bool} (h : s.memOk) :
    (dfePut s n c m rho nodens).2.memOk :=
  .ite_snd (.dfeShow (.setB h))
    (.dfeShow (.ite (.setB
    (.published (.wr (.ite (.ite_snd (.setB h) (.freeReading (.setB h)))
    (.published (.wr (.ite_snd (.setB h) (.freeReading (.setB h)))))))))
    (.ite (.ite_snd (.setB h) (.freeReading (.setB h)))
    (.published (.wr (.ite_snd (.setB h) (.freeReading (.setB h))))))))

theorem State.memOk.dfePublish {n : Nat} (h : s.memOk) : (dfePublish s n).memOk := by
  unfold Machine.dfePublish
  dsimp only
  split
  · exact .dfeEvents (.dfeSetFaults (.setDfe (.dfeSetFaults (.dfeTemp h))))
  · exact .dfeEvents (.dfePut (.takeFresh (.dfeSetFaults (.setDfe (.dfeSetFaults (.dfeTemp h))))))

theorem State.memOk.planTakeEffect {n : Nat} (h : s.memOk) : (planTakeEffect s n).memOk := by
  unfold Machine.planTakeEffect
  split
  · exact h
  · exact .dfeShow (.setF (.setF (.setDfe (.foldN (.setF (.setF (.setF h))) fun _ _ h => .wr h))))

theorem State.memOk.dfeGo {n : Nat} (h : s.memOk) : (dfeGo s n).memOk :=
  .ite (.dfeEvent (.setF h)) (.ite (.planTakeEffect (.planSubmit h)) (.planSubmit h))

theorem State.memOk.dfeJudge {n : Nat} {d : DfeFrame} (h : s.memOk) : (dfeJudge s n d).memOk :=
  .dfeFaults (.wr (.setDfe (.ite (.setF (.ite (.setF h) h)) (.ite (.setF h) h))))

theorem State.memOk.retireDpath {p : Nat} (h : s.memOk) : (retireDpath s p).memOk :=
  .setMap h

theorem State.memOk.dfeSwap {n : Nat} (h : s.memOk) : (dfeSwap s n).memOk :=
  .poolsUpdate (.healthEvent (.setDfe (.of_mems (.retireDpath h) (by with_reducible rfl))))

theorem State.memOk.dfeCheckDone {n : Nat} {iq : List (List IQ)} {disagrees : Bool} (h : s.memOk) :
    (dfeCheckDone s n iq disagrees).memOk :=
  .ite (.of_mems h (by rfl)) (.ite (.poolsUpdate (.healthEvent (.retireDpath (.of_mems h (by rfl)))))
    (.ite (.setDfe (.of_mems h (by rfl))) (.setDfe (.of_mems h (by rfl)))))

theorem State.memOk.dfeCheckStep {n : Nat} {d : DfeFrame} (h : s.memOk) : (dfeCheckStep s n d).memOk := by
  unfold Machine.dfeCheckStep
  split
  · exact h
  · exact .ite h (.ite (.of_mems h (by rfl))
      (.ite (.of_mems h (by rfl)) (.ite (.of_mems h (by rfl)) (.dfeCheckDone h))))

theorem State.memOk.dfeSettleStep {n : Nat} (h : s.memOk) : (dfeSettleStep s n).memOk :=
  .ite h (.ite (.ite (.dfePublish (.dfeFaults (.setF h))) (.dfeEvent (.dfePublish (.dfeFaults (.setF h))))) (.setF h))

theorem State.memOk.dfeDropFrame {n : Nat} (h : s.memOk) : (dfeDropFrame s n).memOk :=
  .dfeSettleStep (.setDfe h)

theorem State.memOk.dfeTakeFrame {n : Nat} {d : DfeFrame} (h : s.memOk) : (dfeTakeFrame s n d).memOk :=
  .dfeCheckStep (.dfeSettleStep (.foldN (.setDfe (.dfeJudge h)) fun _ _ h => .ite (.wr (.wr h)) (.wr (.wr h))))

theorem State.memOk.dfeStop {n : Nat} (h : s.memOk) : (dfeStop s n).memOk :=
  .setF (.setF (.setF (.setF
    (.setF (.ite (.of_mems (.setF (.setF (.setDfe h))) (by with_reducible rfl)) (.setF (.setF (.setDfe h))))))))

theorem State.memOk.dfeBoundary {n : Nat} {d : DfeFrame} (h : s.memOk) : (dfeBoundary s n d).memOk :=
  .ite (.dfeStop h) (.planTakeEffect
    (.ite (.ite (.setDfe h) (.ite (.dfeDropFrame (.setDfe h)) (.dfeTakeFrame (.setDfe h))))
    (.ite (.dfeSwap (.ite (.setDfe h) (.ite (.dfeDropFrame (.setDfe h)) (.dfeTakeFrame (.setDfe h)))))
    (.setDfe (.ite (.setDfe h) (.ite (.dfeDropFrame (.setDfe h)) (.dfeTakeFrame (.setDfe h))))))))

theorem NextOk.execDfePathFail {n : Fin 8} (h : s.memOk) : NextOk (execDfePathFail n s) :=
  .next (.ite h (.ite (.setDfe (.dfeSwap h))
    (.ite (.dfeFaults (.poolsUpdate (.healthEvent (.of_mems (.retireDpath h) (by with_reducible rfl)))))
    (.poolsUpdate (.healthEvent (.of_mems (.retireDpath h) (by with_reducible rfl)))))))

/-! ### The functions of Machine/Sol.lean -/

theorem State.memOk.setSol {n : Nat} {x : SolX} (h : s.memOk) : (s.setSol n x).memOk :=
  .of_mems h (by rfl)

theorem State.memOk.solEvent {n code detail : Nat} {value : Word} (h : s.memOk) :
    (solEvent s n code detail value).memOk :=
  .event h

theorem State.memOk.solShow {n phase : Nat} (h : s.memOk) : (solShow s n phase).memOk :=
  .foldl h fun _ _ h => .setB (.setF h)

theorem State.memOk.solKeepMean {n : Nat} (h : s.memOk) : (solKeepMean s n).memOk :=
  .foldl h fun _ _ h => .wr h

theorem State.memOk.solMeasured {n : Nat} (h : s.memOk) : (solMeasured s n).memOk :=
  .ite (.solEvent h) h

theorem State.memOk.solNoPull {n : Nat} (h : s.memOk) : (solNoPull s n).memOk :=
  .ite h (.solEvent (.setF (.setF (.setSol h))))

theorem State.memOk.solDropBusy {n : Nat} (h : s.memOk) : (solDropBusy s n).memOk :=
  .solMeasured (.setF h)

theorem State.memOk.solSequence {n : Nat} (h : s.memOk) : (solSequence s n).memOk := by
  unfold Machine.solSequence
  split
  · exact .setSol h
  · split
    · exact .setSol (.solDropBusy (.setSol h))
    · exact .solDropBusy h

theorem State.memOk.solDecay {n path : Nat} (h : s.memOk) : (solDecay s n path).memOk :=
  .foldl h fun _ _ h => .setSol h

theorem State.memOk.solOff {n path : Nat} (h : s.memOk) : (solOff s n path).memOk :=
  .ite (.ite (.solSequence
    (.solDecay (.setSol (.solShow (.solKeepMean (.ite (.solNoPull (.setSol h)) (.setSol h)))))))
    (.solMeasured (.solDecay (.setSol (.solShow (.solKeepMean (.ite (.solNoPull (.setSol h)) (.setSol h))))))))
    (.setSol h)

theorem State.memOk.solAbort {n : Nat} (h : s.memOk) : (solAbort s n).memOk :=
  .ite (.solMeasured (.setF (.setSol h))) h

theorem State.memOk.solPeakStart {n : Nat} {dur : Option Nat} (h : s.memOk) : (solPeakStart s n dur).memOk := by
  unfold Machine.solPeakStart
  refine .addR (.solShow (.setSol (.foldl h ?_)))
  · exact fun _ _ h => .solAbort h

theorem State.memOk.solRequest {n : Nat} {dur : Option Nat} (h : s.memOk) : (solRequest s n dur).2.memOk :=
  .ite_snd (.solPeakStart h) (.ite_snd (.setSol h) (.solEvent (.setF h)))

theorem State.memOk.solBegin {n : Nat} {dur : Option Nat} (h : s.memOk) : (solBegin s n dur).2.memOk :=
  .ite_snd (.setSol h) (.solRequest h)

theorem State.memOk.solReplace {n : Nat} {dur : Option Nat} (h : s.memOk) : (solReplace s n dur).memOk :=
  .ite (.setSol (.solBegin h)) (.solBegin h)

theorem State.memOk.solGridPulse {n : Nat} (h : s.memOk) : (solGridPulse s n).memOk :=
  .ite (.setSol h) (.ite (.setF (.setSol h)) (.solBegin (.setSol h)))

theorem State.memOk.solAct {n op dur : Nat} (h : s.memOk) : (solAct s n op dur).memOk := by
  unfold Machine.solAct
  split
  · exact .solOff (.setSol h)
  · exact .ite (.setF h) (.solReplace h)
  · exact .ite (.setF h) (.solReplace h)
  · exact .ite (.setF (.setSol h)) (.ite (.solGridPulse (.setSol h)) (.solOff (.setSol h)))
  · exact h

theorem State.memOk.solLate {n op late : Nat} (h : s.memOk) : (solLate s n op late).memOk :=
  .solEvent (.setF h)

theorem State.memOk.solCmdWrite {n : Nat} {v : Word} (h : s.memOk) : (solCmdWrite s n v).memOk :=
  .ite h (.ite (.setSol (.ite (.setF h) h))
    (.solAct (.ite (.solLate (.setSol (.ite (.setF h) h))) (.setSol (.ite (.setF h) h)))))

theorem State.memOk.solStop {n path : Nat} (h : s.memOk) : (solStop s n path).memOk :=
  .solOff (.setSol h)

theorem State.memOk.solCtlWrite {n : Nat} {v : Word} (h : s.memOk) : (solCtlWrite s n v).memOk :=
  .ite (.setSol (.putReg h)) (.ite (.solStop (.putReg h)) (.putReg h))

theorem State.memOk.solClassSet {v : Word} (h : s.memOk) : (solClassSet s v).memOk :=
  .foldN (.wr h) fun _ _ h => .ite (.setF (.setB h)) (.setB h)

theorem State.memOk.solClrWrite {n : Nat} {v : Word} (h : s.memOk) : (solClrWrite s n v).memOk :=
  .ite (.foldl h fun _ _ h => .setF h) h

theorem State.memOk.solRestoreWrite {b : Nat} {v : Word} (h : s.memOk) : (solRestoreWrite s b v).memOk :=
  .ite (.ite (.setF h) (.setF (.setF h))) h

theorem State.memOk.solLoopWrite {n : Nat} {v : Int} (h : s.memOk) : (solLoopWrite s n v).2.memOk :=
  .ite_snd h (.setSol h)

theorem State.memOk.solOffAll {l : List Nat} {p : State → Nat → Nat} (h : s.memOk) : (solOffAll s l p).memOk :=
  .foldl h fun _ _ h => .solOff h

theorem State.memOk.solAllOff (h : s.memOk) : (solAllOff s).memOk :=
  .foldN h fun _ _ h => .setF (.ite h (.solStop h))

theorem State.memOk.solFireDrop (h : s.memOk) : (solFireDrop s).memOk :=
  .solOffAll h

theorem State.memOk.solClassWrite {v : Word} (h : s.memOk) : (solClassWrite s v).memOk :=
  .ite (.solClassSet h) (.solFireDrop (.solClassSet h))

theorem State.memOk.solBankDown {b cause : Nat} (h : s.memOk) : (solBankDown s b cause).memOk :=
  .ite h (.solEvent (.solOffAll (.setF (.setF h))))

theorem State.memOk.solLose {n : Nat} (h : s.memOk) : (solLose s n).memOk :=
  .solBankDown (.logRecord (.ringPost (.setF h)))

theorem State.memOk.solPowerOn {classS : Word} {failed : List Nat} (h : s.memOk) :
    (solPowerOn s classS failed).memOk :=
  .foldl (.setF (.solClassSet (.of_mems h (by rfl)))) fun _ _ h => .ite (.solLose h) h

theorem State.memOk.solReset (h : s.memOk) : (solReset s).memOk :=
  .foldl (.foldl (.setF (.solClassSet (.of_mems h (by rfl)))) fun _ _ h => .setF (.setF h)) fun _ _ h => .ite
    (.setSol (.setF (.setF (.setF h)))) (.setF (.setF h))

theorem State.memOk.solStartNow {n : Nat} (h : s.memOk) : (solStartNow s n).memOk := by
  unfold Machine.solStartNow
  dsimp only
  split
  · exact .ite (.solAct (.ite (.solLate (.setSol h)) (.setSol h))) h
  · exact h

theorem NextOk.execDeferredPeakStart {n : Fin 24} (h : s.memOk) : NextOk (execDeferredPeakStart n s) := by
  unfold Machine.execDeferredPeakStart
  refine .next ?_
  split
  · exact .ite (.setSol h) (.ite (.solEvent (.wr (.setSol (.solPeakStart h)))) h)
  · exact h

theorem State.memOk.solGridNow {n : Nat} (h : s.memOk) : (solGridNow s n).memOk :=
  .ite (.solGridPulse h) h

theorem State.memOk.solPeakOver {n high : Nat} (h : s.memOk) : (solPeakOver s n high).memOk :=
  .ite (.solOff (.solEvent (.setF (.solNoPull h)))) (.setF (.solNoPull h))

theorem NextOk.execSolPulseEnd {n : Fin 24} {high : BitVec 16} (h : s.memOk) : NextOk (execSolPulseEnd n high s) := by
  unfold Machine.execSolPulseEnd
  refine .next ?_
  dsimp only
  split
  · exact .ite (.solOff (.ite (.solPeakOver (.ite (.solGridPulse h) h)) (.ite (.solGridPulse h) h)))
      (.ite (.solGridPulse h) h)
  · exact .ite (.solGridPulse h) h

theorem NextOk.execSolPeakEnd {n : Fin 24} {high : BitVec 16} (h : s.memOk) : NextOk (execSolPeakEnd n high s) :=
  .next (.ite (.ite (.setSol (.solShow (.solKeepMean (.solPeakOver h)))) (.solPeakOver h)) h)

theorem NextOk.execDropoutCapture {n : Fin 24} (h : s.memOk) : NextOk (execDropoutCapture n s) := by
  unfold Machine.execDropoutCapture
  refine .next ?_
  dsimp only
  split
  · exact .ite (.setF (.setF (.setSol h))) h
  · exact h

theorem NextOk.execDropoutResult {n : Fin 24} {samples : List (BitVec 16)} (h : s.memOk) :
    NextOk (execDropoutResult n samples s) := by
  unfold Machine.execDropoutResult
  refine .next ?_
  dsimp only
  split
  · refine .ite ?_ h
    refine .solMeasured ?_
    split
    · refine .setF (.setF (.setF (.foldN (.setSol h) ?_)))
      · exact fun _ _ h => .wr h
    · refine .solEvent (.setF (.setF (.setF (.foldN (.setSol h) ?_))))
      · exact fun _ _ h => .wr h
  · exact h

theorem NextOk.execSolOvercurrentTrip {n : Fin 24} (h : s.memOk) : NextOk (execSolOvercurrentTrip n s) :=
  .next (.ite (.solEvent (.solOff (.setSol (.foldl h fun _ _ h => .setF h)))) h)

theorem NextOk.execSolClampHot {n : Fin 24} (h : s.memOk) : NextOk (execSolClampHot n s) :=
  .next (.ite (.ite (.solDecay (.solOff (.solEvent (.setF h)))) (.solOff (.solEvent (.setF h)))) h)

theorem NextOk.execVsolUndervoltage {mv : BitVec 16} (h : s.memOk) : NextOk (execVsolUndervoltage mv s) :=
  .next (.ite (.solOffAll (.event (.setF (.setF h)))) h)

/-! ### The functions of Machine/Lsw.lean -/

theorem State.memOk.setLsw {n : Nat} {x : LswX} (h : s.memOk) : (s.setLsw n x).memOk :=
  .of_mems h (by rfl)

theorem State.memOk.lswEvent {n code detail : Nat} {value : Word} (h : s.memOk) :
    (lswEvent s n code detail value).memOk :=
  .event h

theorem State.memOk.lswOff {n : Nat} (h : s.memOk) : (lswOff s n).memOk :=
  .setF (.setLsw h)

theorem State.memOk.lswOn {n : Nat} (h : s.memOk) : (lswOn s n).memOk :=
  .setF (.ite (.setF (.setLsw h)) (.setLsw h))

theorem State.memOk.lswResume {n : Nat} (h : s.memOk) : (lswResume s n).memOk :=
  .ite (.lswOn (.setLsw (.setLsw h))) (.setLsw h)

theorem State.memOk.lswHoldEnd {n cause : Nat} (h : s.memOk) : (lswHoldEnd s n cause).memOk :=
  .ite (.healthEvent (.setMask h)) h

theorem State.memOk.lswDisable {n : Nat} (h : s.memOk) : (lswDisable s n).memOk :=
  .setF (.setF (.lswOff h))

theorem State.memOk.lswFault {n kind : Nat} (h : s.memOk) : (lswFault s n kind).memOk :=
  .ite (.lswHoldEnd (.lswDisable (.setLsw (.addR (.lswOff h)))))
    (.ite (.ite (.setLsw (.addR (.lswOff h))) (.lswEvent (.setF (.setLsw (.addR (.lswOff h))))))
    (.setF (.setLsw (.addR (.lswOff h)))))

theorem State.memOk.lswCmdWrite {n : Nat} {v : Word} (h : s.memOk) : (lswCmdWrite s n v).memOk := by
  unfold Machine.lswCmdWrite
  split
  · exact h
  · exact .lswOff (.setF h)
  · exact .lswResume (.setF h)

theorem State.memOk.lswCtlWrite {n : Nat} {v : Word} (h : s.memOk) : (lswCtlWrite s n v).memOk :=
  .ite (.setLsw (.setF (.setF (.putReg h)))) (.ite (.lswDisable (.putReg h)) (.putReg h))

theorem State.memOk.lswClrWrite {n : Nat} {v : Word} (h : s.memOk) : (lswClrWrite s n v).memOk :=
  .ite h (.ite (.ite (.lswEvent (.setF (.setF (.setF (.setF h))))) (.setF (.setF (.setF (.setF h)))))
    (.ite (.lswResume (.setLsw (.setF (.setF (.setF (.setF h)))))) (.setLsw (.setF (.setF (.setF (.setF h)))))))

theorem State.memOk.lswRestoreWrite {k : Nat} {v : Word} (h : s.memOk) : (lswRestoreWrite s k v).memOk :=
  .ite h (.ite (.setF h) (.ite h (.foldN (.setF (.setF h)) fun _ _ h => .setF h)))

theorem State.memOk.lswLoopWrite {n : Nat} {v : Int} (h : s.memOk) : (lswLoopWrite s n v).2.memOk :=
  .ite_snd h (.ite_snd h (.setLsw h))

theorem State.memOk.lswPeriod {n : Nat} (h : s.memOk) : (lswPeriod s n).memOk :=
  .ite (.lswOff (.setLsw h)) (.setLsw (.ite (.setLsw (.setLsw h)) (.lswOn (.setLsw h))))

theorem NextOk.execLswPwmOffEdge {n : Fin 32} (h : s.memOk) : NextOk (execLswPwmOffEdge n s) := by
  unfold Machine.execLswPwmOffEdge
  refine .next ?_
  split
  · exact .ite (.lswOff h) h
  · exact h

theorem NextOk.execLswCurrentLimitTrip {n : Fin 32} (h : s.memOk) : NextOk (execLswCurrentLimitTrip n s) :=
  .next (.ite (.lswFault (.setLsw (.setF (.lswEvent h)))) h)

theorem NextOk.execThermalLatch {n : Fin 32} {temp : BitVec 16} (h : s.memOk) : NextOk (execThermalLatch n temp s) :=
  .next (.ite (.lswFault (.lswEvent (.setF (.setF h)))) h)

theorem NextOk.execThermalRelease {n : Fin 32} {temp : BitVec 16} (h : s.memOk) :
    NextOk (execThermalRelease n temp s) :=
  .next (.ite (.ite (.lswResume (.setLsw (.lswEvent (.setF h))))
    (.ite (.lswOn (.setLsw (.lswEvent (.setF h)))) (.setLsw (.lswEvent (.setF h))))) h)

theorem NextOk.execRetryRestart {n : Fin 32} (h : s.memOk) : NextOk (execRetryRestart n s) :=
  .next (.ite (.lswResume (.setLsw (.lswEvent (.setF (.setF (.setF (.setF h))))))) h)

theorem NextOk.execRetryReload {n : Fin 32} (h : s.memOk) : NextOk (execRetryReload n s) := by
  unfold Machine.execRetryReload
  refine .next ?_
  split
  · exact .ite (.setLsw (.setF h)) h
  · exact h

theorem NextOk.execOpenLoadTest {n : Fin 32} {mv : BitVec 32} (h : s.memOk) : NextOk (execOpenLoadTest n mv s) :=
  .next (.ite (.ite (.lswEvent (.setF (.setF (.setLsw h)))) (.ite (.lswEvent (.setF (.setLsw h))) (.setLsw h))) h)

theorem State.memOk.lswGroupDown {k cause : Nat} (h : s.memOk) : (lswGroupDown s k cause).memOk :=
  .ite h (.lswEvent (.foldN (.setF (.setF h)) fun _ _ h => .lswOff h))

theorem State.memOk.lswLose {n detail : Nat} (h : s.memOk) : (lswLose s n detail).memOk :=
  .lswHoldEnd (.logRecord (.ringPost (.setF (.lswOff h))))

theorem NextOk.execGroupOverload {k : Fin 4} {mean : BitVec 16} (h : s.memOk) : NextOk (execGroupOverload k mean s) :=
  .next (.ite (.ite (.ite (.setF (.setB (.setF h))) (.lswEvent (.setF (.setB (.setF h))))) (.setB (.setF h))) h)

theorem NextOk.execGroupUndervoltage {k : Fin 4} {mv : BitVec 16} (h : s.memOk) :
    NextOk (execGroupUndervoltage k mv s) :=
  .next (.ite (.foldN (.lswEvent (.setF (.setF h))) fun _ _ h => .lswOff h) h)

theorem NextOk.execGroupUndervoltageEnd {k : Fin 4} {mv : BitVec 16} (h : s.memOk) :
    NextOk (execGroupUndervoltageEnd k mv s) :=
  .next (.ite (.foldN (.lswEvent (.setF h)) fun _ _ h => .lswResume h) h)

theorem State.memOk.lswSafeStop (h : s.memOk) : (lswSafeStop s).memOk :=
  .foldN h fun _ _ h => .lswHoldEnd (.lswDisable h)

theorem State.memOk.lswRht {allOff : Bool} (h : s.memOk) : (lswRht s allOff).memOk :=
  .foldN h fun _ _ h => .ite (.ite h (.setMask (.setLsw h))) (.lswDisable (.setMask h))

theorem State.memOk.lswReset (h : s.memOk) : (lswReset s).memOk := by
  unfold Machine.lswReset
  refine .of_mems (.foldN (.foldN (.foldl h ?_) ?_) ?_) (by with_reducible rfl)
  · exact fun _ _ h => .setF (.setF (.setLsw (.of_mems h (by with_reducible rfl))))
  · exact fun _ _ h => .ite h (.of_mems h (by with_reducible rfl))
  · exact fun _ _ h => .ite h
      (.ite (.setF (.setF (.setF (.of_mems h (by with_reducible rfl))))) (.setF (.of_mems h (by with_reducible rfl))))

theorem State.memOk.lswPowerOn {failed : List Nat} (h : s.memOk) : (lswPowerOn s failed).memOk :=
  .foldl (.foldN (.foldN (.of_mems h (by rfl)) fun _ _ h => .setLsw h) fun _ _ h => .setF h) fun _ _ h => .ite
    (.lswGroupDown (.lswLose h)) h

theorem State.memOk.lswRelease {n : Nat} (h : s.memOk) : (lswRelease s n).memOk :=
  .ite (.lswOn (.lswHoldEnd h)) (.lswHoldEnd h)

theorem State.memOk.lswHoldExpire {n : Nat} (h : s.memOk) : (lswHoldExpire s n).memOk :=
  .lswHoldEnd (.lswDisable h)

/-! ### The functions of Machine/Fire.lean -/

theorem State.memOk.fireOpen (h : s.memOk) : (fireOpen s).memOk :=
  .ite (.solFireDrop (.healthEvent (.setF (.setF h)))) (.healthEvent (.setF (.setF h)))

theorem State.memOk.fireUpdate (h : s.memOk) : (fireUpdate s).memOk :=
  .ite (.ite h (.of_mems h (by rfl))) (.ite (.fireOpen (.of_mems h (by rfl))) (.of_mems h (by rfl)))

theorem NextOk.execFirePermitAssert (h : s.memOk) : NextOk (execFirePermitAssert s) := by
  unfold Machine.execFirePermitAssert
  refine .next ?_
  split
  · exact .ite (.healthEvent (.setF h)) h
  · exact h

/-! ### The functions of Machine/Mtr.lean -/

theorem State.memOk.setMtr {n : Nat} {x : MtrX} (h : s.memOk) : (s.setMtr n x).memOk :=
  .of_mems h (by rfl)

theorem State.memOk.mtrEvent {n code detail : Nat} {value : Word} (h : s.memOk) :
    (mtrEvent s n code detail value).memOk :=
  .event h

theorem State.memOk.fanEvent {code detail : Nat} {value : Word} (h : s.memOk) :
    (fanEvent s code detail value).memOk :=
  .event h

theorem State.memOk.afFail {n : Nat} (h : s.memOk) : (afFail s n).memOk :=
  .ite (.fireUpdate (.fanEvent (.setF (.of_mems h (by rfl))))) (.of_mems h (by rfl))

theorem State.memOk.afHold {n : Nat} (h : s.memOk) : (afHold s n).memOk :=
  .ite h (.of_mems h (by rfl))

theorem State.memOk.afJudge {n : Nat} (h : s.memOk) : (afJudge s n).memOk :=
  .ite (.afHold h) (.afFail h)

theorem NextOk.execAirflowOkAssert (h : s.memOk) : NextOk (execAirflowOkAssert s) := by
  unfold Machine.execAirflowOkAssert
  refine .next ?_
  split
  · exact .ite (.fireUpdate (.fanEvent (.setF h))) h
  · exact h

theorem State.memOk.mtrGo {n st gates : Nat} (h : s.memOk) : (mtrGo s n st gates).memOk :=
  .ite (.afFail (.setMtr (.setF h))) (.setMtr (.setF h))

theorem State.memOk.mtrStop {n : Nat} (h : s.memOk) : (mtrStop s n).memOk :=
  .mtrGo h

theorem State.memOk.mtrRun {n how : Nat} {integral : Int} (h : s.memOk) : (mtrRun s n how integral).memOk :=
  .mtrEvent (.setMtr (.mtrGo h))

theorem State.memOk.mtrStart {n : Nat} (h : s.memOk) : (mtrStart s n).memOk :=
  .ite (.mtrRun (.setMtr h)) (.setMtr (.mtrGo (.setMtr h)))

theorem State.memOk.mtrHoldEnd {n cause : Nat} (h : s.memOk) : (mtrHoldEnd s n cause).memOk :=
  .ite (.healthEvent (.setMtr (.setMask h))) h

theorem State.memOk.mtrTrip {n cause : Nat} {cur : Word} (h : s.memOk) : (mtrTrip s n cause cur).memOk :=
  .ite h (.mtrHoldEnd (.mtrEvent (.setMtr (.setF (.setF (.mtrGo h))))))

theorem State.memOk.mtrLose {n : Nat} (h : s.memOk) : (mtrLose s n).memOk :=
  .mtrHoldEnd (.logRecord (.ringPost (.mtrGo h)))

theorem State.memOk.mtrHeldOff {n : Nat} (h : s.memOk) : (mtrHeldOff s n).memOk :=
  .ite (.mtrGo h) (.ite (.setMtr h) h)

theorem State.memOk.mtrOffGates {n : Nat} (h : s.memOk) : (mtrOffGates s n).memOk :=
  .ite (.setMtr h) h

theorem State.memOk.mtrObserve {n : Nat} {d : MtrSample} (h : s.memOk) : (mtrObserve s n d).memOk :=
  .setB (.setMtr h)

theorem State.memOk.mtrSpeedIn {n : Nat} {d : MtrSample} (h : s.memOk) : (mtrSpeedIn s n d).memOk :=
  .ite (.wr (.setMtr h)) (.setMtr h)

theorem State.memOk.mtrAccount {n : Nat} {d : MtrSample} (h : s.memOk) : (mtrAccount s n d).memOk :=
  .ite h (.ite (.mtrEvent (.setB (.wr (.setMtr h)))) (.wr (.setMtr h)))

theorem State.memOk.mtrLoops {n : Nat} (h : s.memOk) : (mtrLoops s n).memOk :=
  .ite (.setMtr h) (.ite h (.ite (.setMtr h) (.ite (.setMtr h) (.setMtr h))))

theorem State.memOk.mtrAttempt {n : Nat} (h : s.memOk) : (mtrAttempt s n).memOk :=
  .ite (.ite (.setMtr (.mtrGo (.mtrEvent (.setF (.setF h)))))
    (.mtrHoldEnd (.mtrEvent (.mtrGo (.mtrEvent (.setF (.setF h))))))) h

theorem State.memOk.mtrDecide {n : Nat} (h : s.memOk) : (mtrDecide s n).memOk :=
  .ite (.ite (.mtrStart (.mtrAttempt h)) (.mtrAttempt h))
    (.ite (.ite (.mtrStop (.mtrAttempt h))
    (.ite (.mtrRun (.mtrAttempt h)) (.ite (.mtrStop (.mtrAttempt h)) (.mtrAttempt h)))) (.mtrAttempt h))

theorem State.memOk.mtrPublish {n : Nat} {d : MtrSample} (h : s.memOk) : (mtrPublish s n d).memOk :=
  .published (.published (.wr (.wr (.wr (.wr (.wr (.setMtr h)))))))

theorem State.memOk.mtrStallWatch {n : Nat} {d : MtrSample} (h : s.memOk) : (mtrStallWatch s n d).memOk :=
  .setMtr (.setB h)

theorem State.memOk.mtrCentreNow {n : Nat} {d : MtrSample} (h : s.memOk) : (mtrCentreNow s n d).memOk := by
  unfold Machine.mtrCentreNow
  split
  · exact .ite (.afJudge
      (.mtrPublish (.mtrLoops (.mtrDecide (.mtrStallWatch (.mtrAccount (.mtrSpeedIn (.mtrObserve (.setMtr h))))))))) h
  · exact h

theorem NextOk.execRetryWaitEnd {n : Fin 8} (h : s.memOk) : NextOk (execRetryWaitEnd n s) :=
  .next (.ite (.ite (.mtrStart h) (.mtrStop h)) h)

theorem NextOk.execTachLost {n : Fin 8} (h : s.memOk) : NextOk (execTachLost n s) :=
  .next (.ite (.mtrEvent (.setMtr (.setF h))) h)

theorem NextOk.execHallLost {n : Fin 8} (h : s.memOk) : NextOk (execHallLost n s) :=
  .next (.ite (.ite (.mtrEvent (.setF h)) (.mtrEvent (.ite (.mtrStop (.setF h)) (.setF h)))) h)

theorem State.memOk.mtrTripNow {k : TripKind} {n v : Nat} (h : s.memOk) : (mtrTripNow s k n v).memOk := by
  unfold Machine.mtrTripNow
  split
  · exact h
  · split
    · exact .ite (.mtrTrip h) h
    · exact .ite (.mtrTrip h) h
    · exact .ite (.mtrTrip h) h
    · exact .ite (.mtrTrip h) h
    · exact .ite (.mtrTrip h) h

theorem State.memOk.holdOffEvent {n kind : Nat} {set : Bool} (h : s.memOk) : (holdOffEvent s n kind set).memOk :=
  .mtrEvent h

theorem NextOk.execBridgeOvertemperature {m : BridgeTemp} (h : s.memOk) : NextOk (execBridgeOvertemperature m s) :=
  .next (.ite (.ite (.wr h) (.holdOffEvent (.mtrHeldOff (.setF (.wr h))))) h)

theorem NextOk.execBridgeCooled {m : BridgeTemp} (h : s.memOk) : NextOk (execBridgeCooled m s) :=
  .next (.ite (.ite (.mtrOffGates (.holdOffEvent (.setF (.wr h)))) (.wr h)) h)

theorem State.memOk.busVdrv {mv : Nat} (h : s.memOk) : (busVdrv s mv).memOk :=
  .ite (.setF (.wr h)) (.ite (.setF (.wr h)) (.wr h))

theorem NextOk.execVdrvOvervoltage {mv : BitVec 32} (h : s.memOk) : NextOk (execVdrvOvervoltage mv s) :=
  .next (.ite (.foldl (.busVdrv (.setF h)) fun _ _ h => .holdOffEvent (.mtrHeldOff h)) h)

theorem NextOk.execVdrvOvervoltageEnd {mv : BitVec 32} (h : s.memOk) : NextOk (execVdrvOvervoltageEnd mv s) :=
  .next (.ite (.foldl (.busVdrv (.setF h)) fun _ _ h => .mtrOffGates (.holdOffEvent h)) h)

theorem NextOk.execVdrvUndervoltage {mv : BitVec 32} (h : s.memOk) : NextOk (execVdrvUndervoltage mv s) :=
  .next (.ite (.foldl (.busVdrv (.setF h)) fun _ _ h => .holdOffEvent (.mtrHeldOff h)) h)

theorem NextOk.execVdrvUndervoltageEnd {mv : BitVec 32} (h : s.memOk) : NextOk (execVdrvUndervoltageEnd mv s) :=
  .next (.ite (.foldl (.busVdrv (.setF h)) fun _ _ h => .mtrOffGates (.holdOffEvent h)) h)

theorem State.memOk.mtrCtlWrite {n : Nat} {v : Word} (h : s.memOk) : (mtrCtlWrite s n v).memOk :=
  .ite (.mtrOffGates (.ite (.setMtr (.setMtr (.setF (.setF (.setF (.putReg (.ite (.mtrAttempt h) h)))))))
    (.setMtr (.setF (.setF (.setF (.putReg (.ite (.mtrAttempt h) h))))))))
    (.ite (.ite (.mtrStop (.putReg (.ite (.mtrAttempt h) h))) (.putReg (.ite (.mtrAttempt h) h)))
    (.ite (.mtrOffGates (.putReg (.ite (.mtrAttempt h) h))) (.putReg (.ite (.mtrAttempt h) h))))

theorem State.memOk.mtrClrWrite {n : Nat} {v : Word} (h : s.memOk) : (mtrClrWrite s n v).memOk :=
  .ite (.setMtr (.setF (.ite
    (.setMtr (.setF (.ite
    (.mtrStop (.ite (.setF (.ite (.mtrStop (.mtrAttempt h)) (.mtrAttempt h)))
    (.ite (.mtrStop (.mtrAttempt h)) (.mtrAttempt h))))
    (.ite (.setF (.ite (.mtrStop (.mtrAttempt h)) (.mtrAttempt h)))
    (.ite (.mtrStop (.mtrAttempt h)) (.mtrAttempt h))))))
    (.ite (.mtrStop (.ite (.setF (.ite (.mtrStop (.mtrAttempt h)) (.mtrAttempt h)))
    (.ite (.mtrStop (.mtrAttempt h)) (.mtrAttempt h))))
    (.ite (.setF (.ite (.mtrStop (.mtrAttempt h)) (.mtrAttempt h)))
    (.ite (.mtrStop (.mtrAttempt h)) (.mtrAttempt h)))))))
    (.ite (.setMtr (.setF
    (.ite (.mtrStop (.ite (.setF (.ite (.mtrStop (.mtrAttempt h)) (.mtrAttempt h)))
    (.ite (.mtrStop (.mtrAttempt h)) (.mtrAttempt h))))
    (.ite (.setF (.ite (.mtrStop (.mtrAttempt h)) (.mtrAttempt h)))
    (.ite (.mtrStop (.mtrAttempt h)) (.mtrAttempt h))))))
    (.ite (.mtrStop (.ite (.setF (.ite (.mtrStop (.mtrAttempt h)) (.mtrAttempt h)))
    (.ite (.mtrStop (.mtrAttempt h)) (.mtrAttempt h))))
    (.ite (.setF (.ite (.mtrStop (.mtrAttempt h)) (.mtrAttempt h)))
    (.ite (.mtrStop (.mtrAttempt h)) (.mtrAttempt h)))))

theorem State.memOk.mtrLoopWrite {n : Nat} {v : Int} (h : s.memOk) : (mtrLoopWrite s n v).2.memOk :=
  .ite_snd h (.setMtr h)

theorem State.memOk.mtrDisable {n gates : Nat} (h : s.memOk) : (mtrDisable s n gates).memOk :=
  .ite (.mtrGo (.setF h)) (.setMtr (.setF h))

theorem State.memOk.mtrSafeStop (h : s.memOk) : (mtrSafeStop s).memOk :=
  .foldN h fun _ _ h => .mtrHoldEnd (.mtrDisable h)

theorem State.memOk.mtrRht {vlogLost reset : Bool} (h : s.memOk) : (mtrRht s vlogLost reset).memOk :=
  .foldN h fun _ _ h => .ite (.ite (.ite h (.setMtr (.setMask h))) (.setMtr h))
    (.ite (.setMtr (.mtrDisable (.setMask h))) (.mtrDisable (.setMask h)))

theorem State.memOk.mtrReset (h : s.memOk) : (mtrReset s).memOk :=
  .foldN h fun _ _ h => .ite h (.setMtr (.setF (.setF (.of_mems (.afFail h) (by with_reducible rfl)))))

theorem State.memOk.mtrPowerOn {failed : List Nat} (h : s.memOk) : (mtrPowerOn s failed).memOk :=
  .foldl (.ite (.of_mems h (by rfl)) (.setF (.of_mems h (by rfl)))) fun _ _ h => .ite (.mtrLose h) h

theorem State.memOk.mtrHoldExpire {n : Nat} (h : s.memOk) : (mtrHoldExpire s n).memOk :=
  .mtrHoldEnd (.mtrDisable h)

/-! ### The functions of Machine/Fan.lean -/

theorem State.memOk.fanZones {t : FanTab} (h : s.memOk) : (fanZones s t).memOk :=
  .foldN h fun _ _ h => .wr h

theorem State.memOk.fanAxis {t : FanTab} {n : Nat} (h : s.memOk) : (fanAxis s t n).2.memOk :=
  .wr h

theorem State.memOk.fanMode (h : s.memOk) : (fanMode s).memOk :=
  .ite (.fanEvent (.foldN (.wr h) fun _ _ h => .setMtr h))
    (.ite (.fanEvent (.foldN (.wr h) fun _ _ h => .setMtr h)) (.foldN (.wr h) fun _ _ h => .setMtr h))

theorem State.memOk.fanEvaluate (h : s.memOk) : (fanEvaluate s).memOk :=
  .ite (.foldN (.fanMode (.fanZones (.fanZones (.of_mems h (by rfl))))) fun _ _ h => .ite (.fanAxis (.fanAxis h))
    (.setMtr (.fanAxis (.fanAxis h)))) h

theorem State.memOk.fanAfWrite {v : Word} (h : s.memOk) : (fanAfWrite s v).memOk :=
  .ite (.fireUpdate (.fanEvent (.setF (.putReg h)))) (.putReg h)

theorem State.memOk.fanAutoCheck (h : s.memOk) : (fanAutoCheck s).memOk :=
  .foldN h fun _ _ h => .ite (.setF (.setF h)) h

theorem State.memOk.fanReset (h : s.memOk) : (fanReset s).memOk := by
  unfold Machine.fanReset
  extract_lets keep s1 s2
  have dropped : s1.memOk := .of_mems h (by rfl)
  have kept : s2.memOk := .foldl dropped fun _ _ h => .of_mems h (by with_reducible rfl)
  exact .of_mems (.storedLoad kept) (by with_reducible rfl)

theorem State.memOk.fanPowerOn (h : s.memOk) : (fanPowerOn s).memOk :=
  .fanAutoCheck (.storedLoad (.of_mems h (by rfl)))

theorem State.memOk.fanTableLoad (h : s.memOk) : (fanTableLoad s).memOk :=
  .fanAutoCheck (.storedLoad h)

/-! ### The functions of Machine/Trace.lean -/

theorem State.memOk.trcStore {c : Nat} {v : Int} {info tb gapNs : Nat} (h : s.memOk) :
    (trcStore s c v info tb gapNs).memOk :=
  .setTrc (.ite (.wr64 (.setF (.setF (.wr (.wr h))))) (.setF (.setF (.wr (.wr h)))))

theorem State.memOk.trcLevel {c : Nat} {v : Int} (h : s.memOk) : (trcLevel s c v).memOk := by
  unfold Machine.trcLevel
  split
  · exact .ite (.trcTrigger h) h
  · exact h

theorem State.memOk.trcRecord {c : Nat} {v : Int} {info tb gapNs : Nat} (h : s.memOk) :
    (trcRecord s c v info tb gapNs).memOk :=
  .ite h (.ite (.ite (.setF (.setTrc (.trcStore h))) (.setTrc (.trcStore h))) (.trcStore h))

theorem State.memOk.tracePeriod {c : Nat} (h : s.memOk) : (tracePeriod s c).memOk := by
  unfold Machine.tracePeriod
  split
  · exact h
  · exact .ite h (.trcRecord (.setTrc (.foldN h fun _ _ h => .ite (.trcLevel h) h)))

theorem State.memOk.trcArm {c : Nat} (h : s.memOk) : (trcArm s c).memOk :=
  .setTrc (.wr (.setF (.wr h)))

theorem State.memOk.trcStop {c : Nat} (h : s.memOk) : (trcStop s c).memOk :=
  .ite (.setF h) h

theorem State.memOk.trcCtlWrite {c : Nat} {v : Word} (h : s.memOk) : (trcCtlWrite s c v).memOk :=
  .ite (.trcArm h) (.ite (.trcTrigger h) (.ite (.trcStop h) h))

/-! ### The functions of Machine/LpeBase.lean -/

theorem State.memOk.setLpe {n : Nat} {x : LpeX} (h : s.memOk) : (s.setLpe n x).memOk :=
  .of_mems h (by rfl)

theorem State.memOk.lpeEvent {n code detail : Nat} {value : Word} (h : s.memOk) :
    (lpeEvent s n code detail value).memOk :=
  .event h

theorem State.memOk.loopApply {n j dst : Nat} {v : Int} (h : s.memOk) : (loopApply s n j dst v).2.memOk :=
  .ite_snd h (.ite (.setLpe
    (.wr (.ite_snd h (.ite_snd (.solLoopWrite h)
    (.ite_snd (.lswLoopWrite h) (.ite_snd (.mtrLoopWrite h) (.ite_snd (.wr h) h)))))))
    (.ite (.ite_snd h (.ite_snd (.solLoopWrite h)
    (.ite_snd (.lswLoopWrite h) (.ite_snd (.mtrLoopWrite h) (.ite_snd (.wr h) h)))))
    (.lpeEvent (.setLpe
    (.ite_snd h (.ite_snd (.solLoopWrite h)
    (.ite_snd (.lswLoopWrite h) (.ite_snd (.mtrLoopWrite h) (.ite_snd (.wr h) h)))))))))

theorem State.memOk.loopApplyEach {n : Nat} {c : LoopCfg} {us : List Int} (h : s.memOk) :
    (loopApplyEach s n c us).2.memOk :=
  .setB (.foldl_snd (.setLpe h) fun _ _ h => .loopApply h)

theorem State.memOk.loopApplyAll {n : Nat} {c : LoopCfg} {us : List Int} (h : s.memOk) :
    (loopApplyAll s n c us).memOk :=
  .loopApplyEach h

theorem State.memOk.loopGo {n st cause : Nat} {idx : Word} (h : s.memOk) : (loopGo s n st cause idx).memOk :=
  .lpeEvent (.setF (.setF (.setF h)))

theorem State.memOk.loopSafe {n cause : Nat} (h : s.memOk) : (loopSafe s n cause).memOk :=
  .ite h (.fireUpdate (.loopApplyAll (.setF (.loopGo h))))

theorem State.memOk.jobsEnd {n : Nat} (h : s.memOk) : (jobsEnd s n).memOk :=
  .setLpe h

theorem State.memOk.loopOffCmd {n : Nat} (h : s.memOk) : (loopOffCmd s n).memOk :=
  .fireUpdate (.setLpe (.jobsEnd (.setF (.setF (.loopGo h)))))

theorem State.memOk.loopAllSafe (h : s.memOk) : (loopAllSafe s).memOk :=
  .foldN h fun _ _ h => .loopSafe h

theorem State.memOk.linePut {n : Nat} {l : List Word} (h : s.memOk) : (linePut s n l).memOk :=
  .foldl h fun _ _ h => .wr h

theorem State.memOk.lineFill {n : Nat} {v : Int} (h : s.memOk) : (lineFill s n v).memOk :=
  .linePut h

theorem State.memOk.lineInit {n : Nat} (h : s.memOk) : (lineInit s n).memOk :=
  .ite (.setLpe (.wr h)) (.ite (.lineFill (.setLpe (.wr h))) (.setLpe (.wr h)))

theorem State.memOk.phaseInit {n : Nat} (h : s.memOk) : (phaseInit s n).memOk := by
  unfold Machine.phaseInit
  dsimp only
  split
  · exact .ite (.setLpe (.setB h)) (.setLpe (.setB h))
  · exact .setLpe (.setB h)
  · exact .setLpe (.setB h)

theorem State.memOk.poolNote {e : Nat} {old : Word} (h : s.memOk) : (poolNote s e old).memOk :=
  .of_mems h (by rfl)

theorem State.memOk.loopLeaveOff {n : Nat} (h : s.memOk) : (loopLeaveOff s n).memOk :=
  .loopGo (.phaseInit (.lineInit (.setLpe (.wr (.wr h)))))

theorem State.memOk.loopToManual {n : Nat} (h : s.memOk) : (loopToManual s n).memOk :=
  .loopGo (.setLpe (.foldN h fun _ _ h => .wr h))

theorem State.memOk.loopShed {n : Nat} (h : s.memOk) : (loopShed s n).memOk :=
  .jobsEnd (.setF (.loopSafe h))

theorem State.memOk.loopShedAll (h : s.memOk) : (loopShedAll s).memOk :=
  .foldl h fun _ _ h => .ite (.loopShed h) h

/-! ### The functions of Machine/Lpe.lean -/

theorem State.memOk.jobTrace {n : Nat} {j : LoopJob} {r : LoopRes} (h : s.memOk) : (jobTrace s n j r).memOk :=
  .foldN (.foldN h fun _ _ h => .ite (.trcLevel h) h) fun _ _ h => .ite h (.ite (.setTrc h) (.trcRecord (.setTrc h)))

theorem State.memOk.jobClose {n : Nat} {j : LoopJob} (h : s.memOk) : (jobClose s n j).memOk := by
  unfold Machine.jobClose
  split
  · exact .jobTrace h
  · exact h

theorem State.memOk.loopBump {n : Nat} {us : List Int} (h : s.memOk) : (loopBump s n us).memOk :=
  .foldl (.setLpe h) fun _ _ h => .ite (.wr (.ite_snd h (.freeReading h)))
    (.lpeEvent (.setF (.wr (.ite_snd h (.freeReading h)))))

theorem State.memOk.loopMiss {n : Nat} (h : s.memOk) : (loopMiss s n).memOk :=
  .ite (.lpeEvent (.setF (.addR h))) (.setF (.addR h))

theorem State.memOk.loopOutputAct {n : Nat} {j : LoopJob} (h : s.memOk) : (loopOutputAct s n j).memOk := by
  have limited {r : List Bool × State} {l : List Bool} (h : r.2.memOk) : (loopLimited r n l).memOk := .setLpe
    (.setB h)
  unfold Machine.loopOutputAct
  refine .ite (limited (.loopApplyEach h)) (.ite (limited (.loopApplyEach h)) (.ite ?_ h))
  split
  · exact .ite (limited (.loopApplyEach (.ite (.loopBump h) h))) h
  · exact .loopMiss h

theorem State.memOk.loopOutput {n : Nat} {j : LoopJob} (h : s.memOk) : (loopOutput s n j).2.memOk :=
  .jobClose (.ite h (.loopOutputAct h))

theorem State.memOk.loopOutputs {n : Nat} (h : s.memOk) : (loopOutputs s n).memOk := by
  unfold Machine.loopOutputs
  dsimp only
  split
  · exact .ite (.setLpe (.loopOutput (.foldl (.setLpe h) fun _ _ h => .ite (.loopOutput h) h)))
      (.foldl (.setLpe h) fun _ _ h => .ite (.loopOutput h) h)
  · exact .foldl (.setLpe h) fun _ _ h => .ite (.loopOutput h) h

theorem State.memOk.loopOutputNow {n : Nat} (h : s.memOk) : (loopOutputNow s n).memOk :=
  .ite (.loopOutputs h) h

theorem State.memOk.lineStep {n : Nat} (h : s.memOk) : (lineStep s n).2.memOk :=
  .ite_snd (.setF (.setF (.ite (.lineInit h) h)))
    (.ite (.ite (.lineFill (.setB (.setB (.setLpe (.ite (.wr (.ite (.lineInit h) h)) (.ite (.lineInit h) h))))))
    (.setB (.setB (.setLpe (.ite (.wr (.ite (.lineInit h) h)) (.ite (.lineInit h) h))))))
    (.linePut (.ite (.lineFill (.setB (.setB (.setLpe (.ite (.wr (.ite (.lineInit h) h)) (.ite (.lineInit h) h))))))
    (.setB (.setB (.setLpe (.ite (.wr (.ite (.lineInit h) h)) (.ite (.lineInit h) h))))))))

theorem State.memOk.phaseMark {n : Nat} (h : s.memOk) : (phaseMark s n).2.memOk :=
  .setB (.setLpe h)

theorem State.memOk.phaseStep {n : Nat} (h : s.memOk) : (phaseStep s n).2.memOk := by
  unfold Machine.phaseStep
  dsimp only
  split
  · exact .ite_snd (.setLpe (.ite (.phaseInit (.ite (.phaseInit h) h)) (.ite (.phaseInit h) h)))
      (.ite (.phaseInit (.ite (.phaseInit h) h)) (.ite (.phaseInit h) h))
  · exact .phaseMark (.ite (.phaseInit h) h)
  · exact .ite (.phaseInit h) h

theorem State.memOk.classify {n i : Nat} {m : Meas} (h : s.memOk) : (classify s n i m).2.memOk :=
  .ite_snd h (.ite_snd (.setLpe h) (.ite_snd (.setLpe h) (.setLpe h)))

theorem State.memOk.freezeStep {n i : Nat} {y yp : Int} (h : s.memOk) : (freezeStep s n i y yp).memOk :=
  .ite (.ite (.setLpe h) (.lpeEvent (.setLpe (.setLpe h)))) (.setLpe (.setLpe h))

theorem State.memOk.latchAll {n : Nat} {ms : List Meas} (h : s.memOk) : (latchAll s n ms).2.memOk :=
  .foldl_snd h fun _ _ h => .wr (.classify h)

theorem State.memOk.sampleGo {n : Nat} {lost frozen : Option Nat} {clean : Bool} (h : s.memOk) :
    (sampleGo s n lost frozen clean).memOk := by
  unfold Machine.sampleGo
  split
  · exact .setLpe (.loopGo h)
  · exact .setLpe (.loopGo h)
  · exact .ite (.loopGo (.setLpe h)) (.setLpe h)
  · exact h

theorem State.memOk.autoEntry {n : Nat} (h : s.memOk) : (autoEntry s n).memOk :=
  .ite (.setLpe (.loopGo h)) h

theorem State.memOk.freezeAll {n : Nat} {req used : List Bool} {y : List Int} {yp : List Lim} {again : Bool}
    (h : s.memOk) : (freezeAll s n req used y yp again).memOk :=
  .ite (.setLpe (.foldN h fun _ _ h => .ite (.freezeStep (.ite (.setLpe h) h)) h))
    (.foldN h fun _ _ h => .ite (.freezeStep (.ite (.setLpe h) h)) h)

theorem State.memOk.loopRelease {n : Nat} (h : s.memOk) : (loopRelease s n).memOk :=
  .setLpe (.autoEntry (.sampleGo
    (.setB (.setB (.setB
    (.setLpe (.ite (.latchAll (.phaseStep (.lineStep h))) (.freezeAll (.latchAll (.phaseStep (.lineStep h)))))))))))

theorem State.memOk.loopOverrun {n : Nat} (h : s.memOk) : (loopOverrun s n).memOk :=
  .autoEntry (.ite (.lpeEvent (.setF (.addR h))) (.setF (.addR h)))

theorem State.memOk.loopExpire {n : Nat} (h : s.memOk) : (loopExpire s n).memOk :=
  .ite (.loopSafe h) h

theorem State.memOk.loopSampleNow {n : Nat} (h : s.memOk) : (loopSampleNow s n).memOk := by
  unfold Machine.loopSampleNow
  refine .ite ?_ h
  refine .ite (.autoEntry (.setLpe (.loopExpire (.loopOutputs h)))) ?_
  split
  · exact .ite (.loopRelease (.setLpe (.loopExpire (.loopOutputs h))))
      (.loopOverrun (.setLpe (.loopExpire (.loopOutputs h))))
  · exact .loopRelease (.setLpe (.loopExpire (.loopOutputs h)))

theorem State.memOk.jobFreeze {n : Nat} {j : LoopJob} (h : s.memOk) : (jobFreeze s n j).2.memOk :=
  .ite_snd h (.setB (.freezeAll h))

theorem State.memOk.jobStart {n u : Nat} (h : s.memOk) : (jobStart s n u).memOk := by
  unfold Machine.jobStart
  split
  · split
    · exact .setLpe h
    · exact .setLpe (.jobFreeze h)
  · exact h

theorem State.memOk.jobDispatchNow {n : Nat} (h : s.memOk) : (jobDispatchNow s n).memOk := by
  unfold Machine.jobDispatchNow
  split
  · exact .ite (.jobStart h) h
  · exact h

theorem State.memOk.qZero {n : Nat} (h : s.memOk) : (qZero s n).memOk :=
  .lpeEvent (.setLpe h)

theorem State.memOk.poolPut {e : Nat} {v : Word} (h : s.memOk) : (poolPut s e v).memOk :=
  .wr (.poolNote h)

theorem State.memOk.poolWritten {e : Nat} {old : Word} (h : s.memOk) : (poolWritten s e old).memOk := by
  unfold Machine.poolWritten
  exact .of_mems (.poolNote h) (by with_reducible rfl)

theorem State.memOk.rcEnd {n : Nat} {j : LoopJob} {r : LoopRes} (h : s.memOk) : (rcEnd s n j r).memOk := by
  unfold Machine.rcEnd
  split
  · exact h
  · extract_lets was s1 s2 s3 s4 s5 x s6
    have told : s1.memOk := .ite (.lpeEvent h) (.ite (.lpeEvent h) h)
    have zeroed : s2.memOk := .ite (.qZero told) told
    have shown : s3.memOk := .setB (.setB (.setB zeroed))
    have seen : s4.memOk := .ite shown (.setF shown)
    have kept : s6.memOk := .setLpe (.wr (.wr (.setF seen)))
    split
    · exact .ite kept (.poolPut kept)
    · exact kept

theorem State.memOk.jobEnd {n : Nat} {j : LoopJob} {r : LoopRes} (h : s.memOk) : (jobEnd s n j r).memOk :=
  .jobClose (.setLpe (.rcEnd
    (.ite (.lpeEvent (.ite
    (.setF (.ite (.foldl (.foldl h fun _ _ h => .wr h) fun _ _ h => .wr h)
    (.foldl (.foldl (.foldl h fun _ _ h => .wr h) fun _ _ h => .wr h) fun _ _ h => .wr h)))
    (.ite (.foldl (.foldl h fun _ _ h => .wr h) fun _ _ h => .wr h)
    (.foldl (.foldl (.foldl h fun _ _ h => .wr h) fun _ _ h => .wr h) fun _ _ h => .wr h))))
    (.ite (.setF (.ite (.foldl (.foldl h fun _ _ h => .wr h) fun _ _ h => .wr h)
    (.foldl (.foldl (.foldl h fun _ _ h => .wr h) fun _ _ h => .wr h) fun _ _ h => .wr h)))
    (.ite (.foldl (.foldl h fun _ _ h => .wr h) fun _ _ h => .wr h)
    (.foldl (.foldl (.foldl h fun _ _ h => .wr h) fun _ _ h => .wr h) fun _ _ h => .wr h))))))

theorem NextOk.execJobEnd {n : Fin 64} (h : s.memOk) : NextOk (execJobEnd n s) := by
  unfold Machine.execJobEnd
  refine .next ?_
  split
  · split
    · exact .ite (.jobEnd h) h
    · exact h
  · exact h

theorem NextOk.execQHoldExpiry {n : Fin 64} (h : s.memOk) : NextOk (execQHoldExpiry n s) := by
  unfold Machine.execQHoldExpiry
  refine .next ?_
  split
  · split
    · exact .ite (.qZero h) h
    · exact h
  · exact h

theorem State.memOk.observeMaxNow {n : Nat} (h : s.memOk) : (observeMaxNow s n).memOk :=
  .ite (.loopExpire h) h

theorem State.memOk.matrixUnitFailNow {u : Nat} (h : s.memOk) : (matrixUnitFailNow s u).memOk := by
  unfold Machine.matrixUnitFailNow
  refine .ite h (.ite (.poolsUpdate (.healthEvent (.foldN (.setMap h) ?_)))
    (.loopShedAll (.poolsUpdate (.healthEvent (.foldN (.setMap h) ?_)))))
  · intro _ _ h
    split
    · exact .ite (.setLpe h) h
    · exact h
  · intro _ _ h
    split
    · exact .ite (.setLpe h) h
    · exact h

theorem NextOk.execSnapComplete {n : Fin 64} (h : s.memOk) : NextOk (execSnapComplete n s) := by
  unfold Machine.execSnapComplete
  refine .next ?_
  split
  · exact .ite (.lpeEvent (.setF (.setF (.recordWrite (.setLpe h))))) h
  · exact h

theorem NextOk.execTableLoadDone {n : Fin 64} (h : s.memOk) : NextOk (execTableLoadDone n s) :=
  .next (.ite (.foldl (.setB (.setLpe h)) fun _ _ h => .poolPut h) h)

theorem State.memOk.loopCmd {n cmd : Nat} (h : s.memOk) : (loopCmd s n cmd).memOk := by
  unfold Machine.loopCmd
  split
  · exact .ite h (.loopOffCmd h)
  · exact .ite (.loopLeaveOff h) (.ite h (.loopToManual (.loopExpire h)))
  · exact .ite (.setF h) h
  · exact .loopSafe h
  · exact h

theorem State.memOk.lpeCtlWrite {n : Nat} {v : Word} (h : s.memOk) : (lpeCtlWrite s n v).memOk :=
  .loopCmd (.fireUpdate (.ite (.setF (.ite (.setF h) h)) (.ite (.setF h) h)))

theorem State.memOk.lpeRefused {n addr : Nat} (h : s.memOk) : (lpeRefused s n addr).memOk :=
  .lpeEvent (.setF h)

theorem State.memOk.lpeManWrite {n j : Nat} (h : s.memOk) : (lpeManWrite s n j).memOk :=
  .ite (.setB (.loopApply h)) h

theorem State.memOk.phaseChanged {n : Nat} (h : s.memOk) : (phaseChanged s n).memOk :=
  .setLpe h

theorem State.memOk.lpeWrite {d : RegDesc} {n j : Nat} {v old : Word} (h : s.memOk) :
    (lpeWrite s d n j v old).memOk := by
  unfold Machine.lpeWrite
  split
  · exact .lpeCtlWrite h
  · exact .ite h (.setLpe h)
  · exact .lpeManWrite h
  · exact .ite (.setLpe h) h
  · exact .ite (.setLpe h) h
  · exact .ite (.setLpe h) h
  · exact .ite (.setLpe h) h
  · exact .ite (.phaseChanged h) h
  · exact .ite (.phaseChanged h) h
  · exact .ite (.phaseChanged h) h
  · exact .ite (.phaseChanged h) h
  · exact .ite (.phaseChanged h) h
  · exact .ite (.setLpe (.setF h)) h
  · exact h

theorem State.memOk.lpePowerOff (h : s.memOk) : (lpePowerOff s).memOk :=
  .fireUpdate (.of_mems h (by rfl))

theorem State.memOk.lpePowerOn (h : s.memOk) : (lpePowerOn s).memOk :=
  .foldN (.of_mems h (by rfl)) fun _ _ h => .wr h

/-! ### The functions of Machine/Image.lean -/

/-- Addresses counted from a base at or below all of them keep the canonical form. -/
theorem Memory.wf_map_sub {l : List Host.Cell} {k : Nat} (h : Memory.wf l = true) (hk : ∀ c ∈ l, k ≤ c.1) :
    Memory.wf (l.map fun c => (c.1 - k, c.2)) = true := by
  induction l with
  | nil => rfl
  | cons c l ih =>
    obtain ⟨hb, ha, hl⟩ := Memory.wf_cons.mp h
    refine Memory.wf_cons.mpr ⟨hb, fun d hd => ?_, ih hl fun d hd => hk d (List.mem_cons_of_mem _ hd)⟩
    rw [List.head?_map, Option.mem_def, Option.map_eq_some_iff] at hd
    obtain ⟨e, he, rfl⟩ := hd
    have := ha e he
    have := hk c List.mem_cons_self
    simp only
    omega

theorem State.memOk.imageLoad {m : List Host.Cell} (h : s.memOk) (hm : Memory.wf m = true) : (imageLoad s m).memOk :=
    by
  refine .foldN ⟨Memory.wf_cellsCopy h.frameWf _ _ _ _, ?_, h.2.2⟩ fun t r h => ?_
  · refine Memory.wf_map_sub (Memory.wf_filter hm _).1 fun c hc => ?_
    simp only [List.mem_filter, Bool.and_eq_true, decide_eq_true_eq] at hc
    exact hc.2.1
  · split <;> exact .setF (.setF h)

theorem State.memOk.ringFromImage {m : List Host.Cell} {n : Nat} (h : s.memOk) : (ringFromImage s m n).memOk :=
  .ite (.ringEnable (.setF (.wr h))) (.wr (.setF (.wr h)))

theorem State.memOk.ringsFromImage {m : List Host.Cell} (h : s.memOk) : (ringsFromImage s m).memOk :=
  .foldN h fun _ _ h => .ringFromImage h

theorem State.memOk.startPrograms (h : s.memOk) : (startPrograms s).memOk :=
  .foldN h fun _ _ h => .ite (.startProgram h) h

theorem State.memOk.bindRods (h : s.memOk) : (bindRods s).memOk := by
  unfold Machine.bindRods
  refine .poolsUpdate (.foldl (.foldN (.foldN (.wr h) ?_) ?_) ?_)
  · exact fun _ _ h => .wr h
  · intro _ _ h
    split
    · exact .shedRod h
    · exact h
  · exact fun _ _ h => .bindRod h

theorem State.memOk.rodsAssign (h : s.memOk) : (rodsAssign s).memOk :=
  .poolsUpdate (.foldl (.foldN h fun _ _ h => .wr h) fun _ _ h => .mapRod h)

/-! ### The functions of Machine/Sto.lean -/

theorem State.memOk.logWriteOne (h : s.memOk) : (logWriteOne s).memOk := by
  unfold Machine.logWriteOne
  split
  · exact h
  · exact .wr (.of_mems h (by rfl))

theorem State.memOk.logFlush (h : s.memOk) : (logFlush s).memOk :=
  .foldN h fun _ _ h => .logWriteOne h

theorem State.memOk.stoOpen {b : Bool} (h : s.memOk) : (stoOpen s b).memOk :=
  .ite h (.setF (.setStoWith h (.setBank h.stoOk (h.stoOk.bank b))))

theorem State.memOk.commitStart {load : Option LoadReq} (h : s.memOk) : (commitStart s load).memOk :=
  .setSto (.setF (.stoOpen h)) (by rfl)

theorem State.memOk.commitStartKey (h : s.memOk) : (commitStartKey s).memOk :=
  .setF (.setStoWith h (by dsimp only; split <;> exact h.stoOk))

theorem State.memOk.commitRecord {c : Commit} {result pages seq : Nat} (h : s.memOk) :
    (commitRecord s c result pages seq).memOk :=
  .healthEvent (.ite (.setF (.wr (.wr h))) (.setF (.setF (.wr (.wr h)))))

theorem Memory.wf_foldl {α : Type} {f : List Host.Cell → α → List Host.Cell} {l : List α} {m : List Host.Cell}
    (h : Memory.wf m = true) (hf : ∀ m a, Memory.wf m = true → Memory.wf (f m a) = true) : Memory.wf (l.foldl f m) =
      true := by
  induction l generalizing m with
  | nil => exact h
  | cons a l ih => exact ih (hf m a h)

theorem wf_commitCells {old content newest : List Host.Cell} {written : List Nat} (h : Memory.wf old = true) :
    Memory.wf (commitCells old content newest written) = true :=
  Memory.wf_foldl (Memory.wf_filter h _).1 fun _ _ h => Memory.wf_cellsPut h _ _

theorem State.memOk.commitLand {c : Commit} {pages : List Nat} (h : s.memOk) : (commitLand s c pages).memOk := by
  unfold Machine.commitLand
  extract_lets x newest seq cells k d x1 o x2
  have landed : x1.memOk := .setDirty (h.stoOk.setBank (wf_commitCells (h.stoOk.bank c.bankB)))
  have others : x2.memOk := by
    unfold x2
    split
    · exact landed.setDirty
    · exact landed
  exact .setF (.setStoWith h (.of_bytes others (by rfl)))

theorem State.memOk.commitFinish {fails : List Nat} (h : s.memOk) : (commitFinish s fails).2.memOk := by
  unfold Machine.commitFinish
  split
  · exact h
  · refine .ite_snd (.ite_snd (.commitRecord (.setStoWith h ?_)) (.commitRecord (.setStoWith h ?_))) (.ite_snd
      (.commitRecord (.commitLand h)) (.commitRecord (.setStoWith h (.of_bytes (.setDirty h.stoOk) (by rfl)))))
    · split <;> exact h.stoOk
    · split <;> exact h.stoOk

theorem State.memOk.commitAbandon {result : Nat} (h : s.memOk) : (commitAbandon s result).2.memOk := by
  unfold Machine.commitAbandon
  split
  · exact h
  · exact .commitRecord (.setStoWith (.takeFresh h) (.of_bytes (.setDirty (State.memOk.takeFresh h).stoOk) (by rfl)))

theorem wf_noBankCells : Memory.wf noBankCells = true := by
  refine Memory.wf_foldl rfl fun m d h => ?_
  split
  · exact h
  · refine Memory.wf_foldl h fun m a h => ?_
    split
    · exact Memory.wf_cellsWrite h _ _ _
    · exact h

theorem State.memOk.stoReload {powerOn : Bool} (h : s.memOk) : (stoReload s powerOn).memOk := by
  have closed := h.loadAbort
  refine .setStoWith (closed.of_mems (t := { Machine.loadAbort s with beadErr := _, hlt := _ }) (by rfl)) ?_
  have work : Memory.wf (match Machine.newestBank (Machine.loadAbort s).sto with
      | some b => b.cells.filter (fun c => decide (0x400000 ≤ c.1))
      | none => noBankCells) = true := by
    split
    · next e => exact (Memory.wf_filter (closed.stoOk.newestBank e) _).1
    · exact wf_noBankCells
  split
  · exact StoX.memOk.setDirty ⟨work, closed.stoOk.2⟩
  · exact ⟨work, closed.stoOk.2⟩

theorem State.memOk.bootBankEvent {refused resume : Bool} (h : s.memOk) : (bootBankEvent s refused resume).memOk :=
  .healthEvent h

theorem State.memOk.bootImage (h : s.memOk) : (bootImage s).2.memOk := by
  have refused : ({ s with programs := [], template := [] } : State).memOk := ⟨h.1, rfl, h.2.2⟩
  unfold Machine.bootImage
  split
  · next e =>
    have image := (Memory.wf_filter (h.stoOk.newestBank e) fun c => decide (c.1 < 0x400000)).1
    exact .ite_snd (.ringsFromImage (h.imageLoad image)) refused
  · exact refused

theorem State.memOk.stoCtlWrite {v : Word} (h : s.memOk) : (stoCtlWrite s v).memOk :=
  .ite (.commitStart h) (.ite (.logRecord h) h)

theorem State.memOk.udataNext (h : s.memOk) : (udataNext s).memOk :=
  .setF h

theorem State.memOk.workRead {off : Nat} (h : s.memOk) : (workRead s off).2.memOk := by
  unfold Machine.workRead
  dsimp only
  split
  · exact h
  · exact .addR h
  · exact .freeReading (.poisonEvent (.poisonBead h))
  · exact .freeReading (.poisonEvent h)

theorem State.memOk.udataRead (h : s.memOk) : (udataRead s).2.memOk :=
  .udataNext (.workRead h)

theorem State.memOk.udataWrite {v : Word} (h : s.memOk) : (udataWrite s v).memOk :=
  .udataNext (.workWrite h)

/-! ### The functions of Machine/Modes.lean -/

theorem State.memOk.setSys {x : SysX} (h : s.memOk) : (s.setSys x).memOk :=
  .of_mems h (by rfl)

theorem State.memOk.keyLoad {lo hi : Nat} (h : s.memOk) : (keyLoad s lo hi).memOk :=
  .foldl (.of_mems h (by rfl)) fun _ _ h => .of_mems h (by rfl)

theorem State.memOk.keysInForce (h : s.memOk) : (keysInForce s).memOk :=
  .of_mems h (by rfl)

theorem State.memOk.marksLoad (h : s.memOk) : (marksLoad s).memOk :=
  .foldN h fun _ _ h => .wr64 (.wr64 h)

theorem State.memOk.setPd {n v : Nat} (h : s.memOk) : (s.setPd n v).memOk :=
  .wr h

theorem State.memOk.pdDrop {n : Nat} (h : s.memOk) : (pdDrop s n).memOk := by
  unfold Machine.pdDrop
  split
  · exact .of_mems h (by rfl)
  · exact ⟨rfl, rfl, fun _ hp => absurd hp List.not_mem_nil, (h.colReset (s := _)).stoOk⟩
  · exact .lpePowerOff h
  · exact .of_mems h (by rfl)
  · exact .of_mems h (by rfl)
  · exact .canReset h
  · exact .of_mems h (by rfl)
  · exact h

theorem State.memOk.pdOff {n : Nat} (h : s.memOk) : (pdOff s n).memOk :=
  .ite h (.setSys (.ite (.setMask (.setPd (.pdDrop h))) (.setPd (.pdDrop h))))

theorem State.memOk.pdRamp {n : Nat} (h : s.memOk) : (pdRamp s n).memOk :=
  .ite (.setSys (.setPd (.ite (.setMask h) h))) (.ite (.setMask h) h)

theorem State.memOk.dfePowerOn (h : s.memOk) : (dfePowerOn s).memOk :=
  .foldN (.storedLoad h) fun _ _ h => .foldl h fun _ _ h => .wr (.wr h)

theorem State.memOk.pdOn {n : Nat} {t : OutputTest} (h : s.memOk) : (pdOn s n t).memOk := by
  unfold Machine.pdOn
  split
  · exact .keyLoad (.keyLoad (.of_mems (.setSys (.setPd h)) (by with_reducible rfl)))
  · exact .curvesLoad (.setSys (.setPd h))
  · exact .lpePowerOn (.setSys (.setPd h))
  · exact .agesFrom (.setSys (.setPd h))
  · exact .ite (.agesFrom (.dfePowerOn (.setSys (.setPd h)))) (.setSys (.setPd h))
  · exact .canReset (.setSys (.setPd h))
  · exact .fanPowerOn (.mtrPowerOn (.lswPowerOn (.solPowerOn (.agesFrom (.setSys (.setPd h))))))
  · exact .setSys (.setPd h)

theorem State.memOk.setMode {m cause : Nat} (h : s.memOk) : (setMode s m cause).memOk :=
  .wr (.wr h)

theorem State.memOk.modeEvent {old : Nat} (h : s.memOk) : (modeEvent s old).memOk :=
  .healthEvent h

theorem State.memOk.modeTo {m cause : Nat} (h : s.memOk) : (modeTo s m cause).memOk :=
  .fireUpdate (.modeEvent (.setMode h))

theorem State.memOk.sysRefused (h : s.memOk) : (sysRefused s).memOk :=
  .setF h

theorem State.memOk.modePend {m : Nat} (h : s.memOk) : (modePend s m).memOk :=
  .setF (.setF h)

theorem State.memOk.modeUnpend (h : s.memOk) : (modeUnpend s).memOk :=
  .setF (.setF h)

theorem State.memOk.modeChange {m : Nat} (h : s.memOk) : (modeChange s m).memOk := by
  unfold Machine.modeChange
  refine .ite (.modeTo h) (.foldl (.modePend h) ?_)
  · exact fun _ _ h => .pdRamp h

theorem State.memOk.holdOutputs (h : s.memOk) : (holdOutputs s).memOk :=
  .ite (.mtrRht (.lswRht (.solAllOff (.ite (.loopAllSafe (.fireUpdate (.wr h))) (.fireUpdate (.wr h))))))
    (.ite (.loopAllSafe (.fireUpdate (.wr h))) (.fireUpdate (.wr h)))

theorem State.memOk.rodsRestart (h : s.memOk) : (rodsRestart s).memOk :=
  .foldl (.setSys h) fun _ _ h => .ite h (.startProgram (.rodHaltNow h))

theorem State.memOk.enterHold {cause : Nat} (h : s.memOk) : (enterHold s cause).memOk := by
  unfold Machine.enterHold
  refine .ite (.setF h) (.modeEvent (.rodsRestart (.foldl (.holdOutputs (.setMode h)) ?_)))
  · exact fun _ _ h => .pdRamp h

theorem State.memOk.enterReady (h : s.memOk) : (enterReady s).memOk :=
  .ite (.enterHold (.setSys (.modeTo h))) (.setSys (.modeTo h))

theorem State.memOk.wake {cause : Nat} (h : s.memOk) : (wake s cause).memOk :=
  .ite h (.ite (.ite (.setF h) h) (.pdRamp (.modePend (.setSys (.setF h)))))

theorem State.memOk.critChange {on : Bool} (h : s.memOk) : (critChange s on).memOk :=
  .fireUpdate (.ite (.setB h)
    (.ite (.enterHold (.setB h)) (.ite (.holdOutputs (.setB h)) (.wake (.setSys (.setB h))))))

theorem State.memOk.setDio {n : Nat} {x : DioX} (h : s.memOk) : (s.setDio n x).memOk :=
  .setSys h

/-! ### The functions of Machine/Pfe.lean -/

theorem State.memOk.setPfe {n : Nat} {x : PfeX} (h : s.memOk) : (s.setPfe n x).memOk :=
  .of_mems h (by rfl)

theorem State.memOk.pfeShow {n : Nat} {fault clipped ranged : Bool} {kind : Nat} (h : s.memOk) :
    (pfeShow s n fault clipped ranged kind).memOk :=
  .setF (.setF (.setB (.setB (.setB h))))

theorem State.memOk.pfeEvent {n code detail : Nat} (h : s.memOk) : (pfeEvent s n code detail).memOk :=
  .event h

theorem State.memOk.pfeSetFaults {n : Nat} {l : List Nat} (h : s.memOk) : (pfeSetFaults s n l).2.memOk :=
  .pfeShow (.setPfe h)

theorem State.memOk.pfeEvents {n : Nat} {l : List (Nat × Nat)} (h : s.memOk) : (pfeEvents s n l).memOk :=
  .foldl h fun _ _ h => .pfeEvent h

theorem State.memOk.pfeFaults {n : Nat} {l : List Nat} (h : s.memOk) : (pfeFaults s n l).memOk :=
  .pfeEvents (.pfeSetFaults h)

theorem State.memOk.pfeEnable {n : Nat} (h : s.memOk) : (pfeEnable s n).memOk :=
  .ite (.pfeFaults (.pfeShow (.published (.setF (.setF (.setF (.wr (.ite (.setF (.setPfe h)) (.setPfe h)))))))))
    (.pfeShow (.published (.setF (.setF (.setF (.wr (.ite (.setF (.setPfe h)) (.setPfe h))))))))

theorem State.memOk.pfeDisable {n : Nat} (h : s.memOk) : (pfeDisable s n).memOk :=
  .setPfe h

theorem State.memOk.pfeRangeWrite {n : Nat} {v : Word} (h : s.memOk) : (pfeRangeWrite s n v).memOk :=
  .ite (.setPfe (.wr h)) (.wr h)

theorem State.memOk.pfeColdJunction {n : Nat} (h : s.memOk) : (pfeColdJunction s n).2.2.2.memOk := by
  unfold Machine.pfeColdJunction
  dsimp only
  split
  · exact .setF (.setPfe h)
  · split
    · exact .setF h
    · exact .takeFresh (.setF h)

theorem State.memOk.pfeJudge {n : Nat} {raw : Int} {vcm : Rat} {d : PfeSample} (h : s.memOk) :
    (pfeJudge s n raw vcm d).2.memOk :=
  .setPfe (.ite (.setF h) h)

theorem State.memOk.retirePpath {p : Nat} (h : s.memOk) : (retirePpath s p).memOk :=
  .setMap h

theorem State.memOk.pfeSwap {n p : Nat} (h : s.memOk) : (pfeSwap s n p).memOk :=
  .poolsUpdate (.healthEvent (.setPfe (.of_mems (.retirePpath h) (by with_reducible rfl))))

theorem State.memOk.pfeCheckDone {p n : Nat} {runs : List ModRun} {disagrees : Bool} (h : s.memOk) :
    (pfeCheckDone s p n runs disagrees).memOk := by
  unfold Machine.pfeCheckDone
  dsimp only
  split
  · exact .of_mems h (by rfl)
  · split
    · exact .ite (.poolsUpdate (.healthEvent (.retirePpath (.of_mems h (by rfl)))))
        (.ite (.setPfe (.of_mems h (by rfl))) (.setPfe (.of_mems h (by rfl))))
    · exact .ite (.setPfe (.of_mems h (by rfl))) (.setPfe (.of_mems h (by rfl)))

theorem State.memOk.pfeCheckStep {n : Nat} {spare : List (BitVec 24 × Nat)} {volt : Rat} {range : Nat}
    {moved flagged : Bool} (h : s.memOk) : (pfeCheckStep s n spare volt range moved flagged).memOk := by
  unfold Machine.pfeCheckStep
  split
  · exact h
  · exact .ite (.of_mems h (by rfl)) (.ite (.of_mems h (by rfl)) (.ite (.of_mems h (by rfl)) (.pfeCheckDone h)))

theorem State.memOk.pfeRangeStep {n : Nat} {clippedNow : Bool} {volt : Rat} (h : s.memOk) :
    (pfeRangeStep s n clippedNow volt).2.memOk :=
  .ite (.setF (.ite (.setF (.setPfe h)) (.setPfe h))) (.ite (.setF (.setPfe h)) (.setPfe h))

theorem State.memOk.pfeUnpublished {n : Nat} {d : PfeSample} (h : s.memOk) : (pfeUnpublished s n d).memOk := by
  unfold Machine.pfeUnpublished
  dsimp only
  split
  · exact .ite (.pfeEvent (.pfeRangeStep h)) (.pfeRangeStep h)
  · exact .of_mems (.ite (.pfeEvent (.pfeRangeStep h)) (.pfeRangeStep h)) (by with_reducible rfl)

theorem State.memOk.pfeMeasure {n : Nat} {d : PfeSample} (h : s.memOk) : (pfeMeasure s n d).memOk := by
  unfold Machine.pfeMeasure
  extract_lets x mode curve range volt clipped clippedNow open'
  split
  next k s1 e1 =>
  have fresh : s1.memOk := .of_snd e1 (.ite_snd (.takeFresh h) h)
  extract_lets raw vcm s2
  have shown : s2.memOk := .setF (.wr (.wr fresh))
  split
  next moved s3 e3 =>
  have stepped : s3.memOk := .of_snd e3 (.pfeRangeStep shown)
  extract_lets ranged
  split
  next l s4 e4 =>
  have judged : s4.memOk := .of_snd e4 (.pfeJudge stepped)
  split
  next ev1 s5 e5 =>
  have faulted : s5.memOk := .of_snd e5 (.pfeSetFaults judged)
  split
  next tcj l' lost s6 e6 =>
  have compensated : s6.memOk := by
    split at e6
    · exact .of_snd (p := (Machine.pfeColdJunction s5 n).2.2) (congrArg (fun p => p.2.2) e6)
        (.pfeColdJunction faulted)
    · cases e6
      exact faulted
  split
  next ev2 s7 e7 =>
  have faulted' : s7.memOk := .of_snd e7 (.pfeSetFaults compensated)
  split
  next v span _ =>
  extract_lets wasClipped wasSpan s8 s9 s10 s11 s12
  have published : s9.memOk := .ite (.published (.wr (.pfeShow faulted'))) (.pfeShow faulted')
  have flagged : s10.memOk := .setB published
  exact .pfeCheckStep (.pfeEvents (.ite (.setF flagged) flagged))

theorem State.memOk.pfeConvert {n : Nat} {d : PfeSample} (h : s.memOk) : (pfeConvert s n d).memOk := by
  unfold Machine.pfeConvert
  refine .ite (.pfeUnpublished (.setPfe h)) ?_
  refine .ite ?_ ?_
  · refine .pfeUnpublished ?_
    split
    · exact .ite (.pfeSwap (.setPfe h)) (.setPfe (.setPfe h))
    · exact .setPfe h
  · refine .pfeMeasure ?_
    refine .setPfe ?_
    split
    · exact .ite (.pfeSwap (.setPfe h)) (.setPfe (.setPfe h))
    · exact .setPfe h

theorem State.memOk.pfeStop {n : Nat} (h : s.memOk) : (pfeStop s n).memOk :=
  .pfeShow (.setF (.setF (.setF (.setPfe (.of_mems h (by rfl))))))

theorem State.memOk.pfeStartCheck {p : Nat} (h : s.memOk) : (pfeStartCheck s p).memOk := by
  unfold Machine.pfeStartCheck
  split
  · exact .ite (.of_mems h (by rfl)) h
  · exact h

theorem State.memOk.pfePathFail {n : Nat} (h : s.memOk) : (pfePathFail s n).memOk := by
  unfold Machine.pfePathFail
  split
  · exact h
  · split
    · exact .setPfe (.pfeShow (.pfeSwap h))
    · exact .ite (.pfeFaults (.poolsUpdate (.healthEvent (.of_mems (.retirePpath h) (by with_reducible rfl)))))
        (.poolsUpdate (.healthEvent (.of_mems (.retirePpath h) (by with_reducible rfl))))

theorem NextOk.execPfeConversion {n : Fin 48} {d : PfeSample} (h : s.memOk) : NextOk (execPfeConversion n d s) :=
  .next (.ite (.ite (.pfeStop h) (.pfeConvert h)) h)

/-! ### The functions of Machine/Reset.lean -/

theorem State.memOk.pathsAssign (h : s.memOk) : (pathsAssign s).memOk :=
  .rodsAssign (.of_mems h (by rfl))

theorem State.memOk.bootStart (h : s.memOk) : (bootStart s).memOk :=
  .pdRamp (.setSys (.logRecord
    (.pathsAssign (.marksLoad
    (.keysInForce (.ite (.solClassSet (.keyLoad (.keyLoad (.keyLoad (.storedLoad h)))))
    (.keyLoad (.keyLoad (.keyLoad (.storedLoad h))))))))))

theorem State.memOk.powerOnState (h : s.memOk) : (powerOnState s).memOk :=
  .stoReload (.wr ⟨rfl, rfl, fun _ hp => absurd hp List.not_mem_nil, rfl, h.stoOk.2⟩)

theorem State.memOk.sysReset {kind rod : Nat} {early : Bool} (h : s.memOk) : (sysReset s kind rod early).memOk := by
  unfold Machine.sysReset
  refine .ite h ?_
  extract_lets m count s1 s2 s3 s4 s5 s6 s7 s8
  have boot : s3.memOk := .fireUpdate (.setMode (.commitAbandon (.wr h)))
  have told : s4.memOk := .ite boot (.modeEvent boot)
  have gated : s5.memOk := .ite (.mtrRht (.lswRht (.solAllOff told))) (.pdOff told)
  have off : s6.memOk := .foldl gated fun _ _ h => .pdOff h
  have loaded : s7.memOk := .stoReload off
  have reset : s8.memOk := .ite (.fanReset (.mtrReset (.lswReset (.solReset loaded)))) loaded
  exact .ite (.setSys reset) (.bootStart (.setSys reset))

theorem State.memOk.rodFatalReset {r : Nat} (h : s.memOk) : (rodFatalReset s r).memOk :=
  .sysReset h

theorem NextOk.execExternalReset (h : s.memOk) : NextOk (execExternalReset s) := by
  unfold Machine.execExternalReset
  refine .next ?_
  split
  · exact .ite (.sysReset (.setSys h)) h
  · exact h

theorem NextOk.execWatchdogExpiry (h : s.memOk) : NextOk (execWatchdogExpiry s) :=
  .next (.ite (.sysReset h) h)

theorem State.memOk.resetsAhead (h : s.memOk) : (resetsAhead s).memOk := by
  unfold Machine.resetsAhead
  refine .foldl h ?_
  · intro _ _ h
    split
    · exact .orNext h (.execExternalReset h)
    · exact .orNext h (.execWatchdogExpiry h)
    · exact h

/-! ### The functions of Machine/Frame.lean -/

theorem State.memOk.rodFaultNow {r : Nat} (h : s.memOk) : (rodFaultNow s r).memOk :=
  .setRodSt (.stopClear h)

theorem State.memOk.programFault {r : Nat} (h : s.memOk) : (programFault s r).memOk := by
  unfold Machine.programFault
  extract_lets s1 pol s2
  have told : s2.memOk := .healthEvent (.voidReservations h)
  split
  · exact .rodFaultNow told
  · exact .ite (.startProgram (.setRod told (by with_reducible rfl))) (.ite (.rodFatalReset told) (.rodFaultNow told))

theorem State.memOk.raise {r cls code : Nat} {epc eaddr : Word} (h : s.memOk) :
    (raise s r cls code epc eaddr).memOk := by
  unfold Machine.raise
  dsimp only
  split
  · exact .ite (.setRod (.wr (.wr (.wr h))) (by rfl)) (.programFault (.wr (.wr (.wr h))))
  · exact .programFault (.wr (.wr (.wr h)))

theorem State.memOk.rodExec {r cls : Nat} {illegal : Bool} {body : State → State} (h : s.memOk)
    (hb : ∀ {t : State}, t.memOk → (body t).memOk) : (rodExec s r cls illegal body).memOk := by
  unfold Machine.rodExec
  refine .ite h ?_
  refine .ite (.raise h) ?_
  split
  · next e => exact .raise (.of_snd e (.beadCheck h))
  · next e => exact .ite (.raise (.of_snd e (.beadCheck h))) (hb (.of_snd e (.beadCheck h)))

/-! ### The functions of Machine/FrameRegs.lean -/

theorem State.memOk.rctlAction {r : Nat} {v : Word} (h : s.memOk) : (rctlAction s r v).memOk :=
  .ite (.ite (.setF (.startProgram (.setRod h (by with_reducible rfl)))) h)
    (.ite (.ite (.setF (.setRod h (by with_reducible rfl))) (.ite (.setF h) h)) h)

theorem State.memOk.rodsStop (h : s.memOk) : (rodsStop s).2.memOk :=
  .foldl h fun _ _ h => .rctlAction h

theorem State.memOk.crgCfgAction {n : Nat} {v : Word} (h : s.memOk) : (crgCfgAction s n v).2.memOk :=
  .ite_snd (.ite (.ite (.wr (.setF h)) (.setF h)) (.ringEnable (.ite (.wr (.setF h)) (.setF h))))
    (.ite_snd (.ite_snd (.ringDisableEffect (.setRing (.ite (.wr (.setF h)) (.setF h))))
    (.setRing (.ite (.wr (.setF h)) (.setF h)))) (.ite (.wr (.setF h)) (.setF h)))

/-! ### The functions of Machine/NetBase.lean -/

theorem State.memOk.netSetF {p : Nat} {h1 l : Fld} {v : Nat} (h : s.memOk) : (s.netSetF p h1 l v).memOk :=
  .ite (.setF h) (.setF h)

theorem State.memOk.netAdd {p : Nat} {h1 l : RegDesc} {n : Nat} (h : s.memOk) : (s.netAdd p h1 l n).memOk :=
  .ite (.addR h) (.addR h)

theorem State.memOk.netDrop {p : Nat} (h : s.memOk) : (netDrop s p).memOk :=
  .netAdd h

theorem State.memOk.netSendNow {f : OutFrame} (h : s.memOk) : (netSendNow s f).memOk := by
  have numbered : (s.wr64 R.KTX_LO R.KTX_HI (s.rd64 R.KTX_LO R.KTX_HI f.key + 1) f.key).memOk := .wr64 h
  unfold Machine.netSendNow
  refine .ite h ?_
  split
  · exact .ite (.of_mems (.colReturned (.setF numbered)) (by with_reducible rfl)) (.colReturned (.setF numbered))
  · exact .ite (.of_mems (.of_mems numbered (by with_reducible rfl)) (by with_reducible rfl))
      (.of_mems numbered (by with_reducible rfl))

theorem State.memOk.netSend {f : OutFrame} (h : s.memOk) : (netSend s f).memOk :=
  .ite (.of_mems h (by rfl)) (.netSendNow h)

theorem State.memOk.netPump {fuel k : Nat} (h : s.memOk) : (netPump fuel s k).memOk := by
  induction fuel generalizing s with
  | zero => exact h
  | succ fuel ih =>
    unfold Machine.netPump
    split
    · exact .ite h (ih (.netSendNow (.of_mems h (by rfl))))
    · exact h

theorem State.memOk.colSend {n type : Nat} {payload : List Nat} (h : s.memOk) : (colSend s n type payload).memOk :=
  .netSend h

theorem State.memOk.colCreditDue {n : Nat} (h : s.memOk) : (colCreditDue s n).memOk :=
  .ite (.colSend h) h

theorem State.memOk.creditReturn {tags : List Nat} (h : s.memOk) : (creditReturn s tags).memOk :=
  .ite h (.foldl (.foldl h fun _ _ h => .colFreed h) fun _ _ h => .colCreditDue h)

/-! ### The functions of Machine/Activate.lean -/

theorem State.memOk.loadRsp {c reqId status : Nat} (h : s.memOk) : (loadRsp s c reqId status).memOk :=
  .colSend h

theorem State.memOk.loadAnswer {r : LoadReq} {status : Nat} (h : s.memOk) : (loadAnswer s r status).memOk :=
  .ite (.loadRsp h) h

theorem State.memOk.activateDue (h : s.memOk) : (activateDue s).memOk := by
  unfold Machine.activateDue
  split
  · exact h
  · refine .ite h (.loadAnswer (.startPrograms (.bootImage (.foldN (.setSto h (by rfl)) ?_))))
    exact fun _ _ h => .creditReturn (.ringDisableEffect h)

theorem State.memOk.loadActivate {r : LoadReq} (h : s.memOk) : (loadActivate s r).memOk :=
  .activateDue (.setSto (.rodsStop h) (by rfl))

/-! ### The functions of Machine/Flags.lean -/

theorem State.memOk.orOvf {r : Nat} {o : Bool} (h : s.memOk) : (orOvf s r o).memOk :=
  .ite (.setF h) h

theorem State.memOk.orSat {r : Nat} {o : Bool} (h : s.memOk) : (orSat s r o).memOk :=
  .ite (.setF h) h

/-! ### The functions of Machine/Dio.lean -/

theorem State.memOk.stopTrack (h : s.memOk) : (stopTrack s).memOk :=
  .setSys h

theorem State.memOk.stopAssert (h : s.memOk) : (stopAssert s).memOk :=
  .fireUpdate (.healthEvent (.ite (.mtrSafeStop (.lswSafeStop (.solAllOff (.setF (.setF h))))) (.setF (.setF h))))

theorem NextOk.execSafeStopAssert {b : Bool} (h : s.memOk) : NextOk (execSafeStopAssert b s) :=
  .next (.ite (.ite (.stopTrack (.setSys (.resetsAhead h))) (.stopAssert (.stopTrack (.setSys (.resetsAhead h)))))
    (.resetsAhead h))

theorem NextOk.execSafeStopRelease (h : s.memOk) : NextOk (execSafeStopRelease s) :=
  .next (.ite (.fireUpdate (.healthEvent (.setF (.resetsAhead h)))) (.resetsAhead h))

theorem State.memOk.stopsAhead (h : s.memOk) : (stopsAhead s).memOk := by
  unfold Machine.stopsAhead
  refine .foldl (.resetsAhead h) ?_
  · intro _ _ h
    split
    · exact .orNext h (.execSafeStopAssert h)
    · exact .orNext h (.execSafeStopRelease h)
    · exact h

theorem NextOk.execSsDiscrepancy (h : s.memOk) : NextOk (execSsDiscrepancy s) := by
  unfold Machine.execSsDiscrepancy
  refine .next ?_
  split
  · exact .ite (.setF h) h
  · exact h

theorem State.memOk.ssdiscWrite {v : Word} (h : s.memOk) : (ssdiscWrite s v).memOk :=
  .ite (.setF h) h

theorem State.memOk.stopContact {b high : Bool} (h : s.memOk) : (stopContact s b high).memOk :=
  .stopTrack (.setSys h)

theorem State.memOk.resetRelease (h : s.memOk) : (resetRelease s).memOk :=
  .ite (.bootStart (.setSys h)) (.setSys h)

theorem State.memOk.contactEdge {p : Pin} {high : Bool} (h : s.memOk) : (contactEdge s p high).memOk := by
  unfold Machine.contactEdge
  split
  · exact .ite h (.setDio h)
  · exact .stopContact h
  · exact .stopContact h
  · exact .setSys h
  · exact .setSys h
  · exact .ite (.resetRelease h) (.setSys h)

theorem State.memOk.dioCount {n : Nat} {v : Word} (h : s.memOk) : (dioCount s n v).memOk :=
  .published (.wr h)

theorem State.memOk.dioEdge {n : Nat} (h : s.memOk) : (dioEdge s n).memOk :=
  .ite (.ringBell (.ite (.dioCount h) h)) (.ite (.dioCount h) h)

theorem NextOk.execDiscreteInputEdge {e : DioEdge} (h : s.memOk) : NextOk (execDiscreteInputEdge e s) := by
  unfold Machine.execDiscreteInputEdge
  refine .next ?_
  split
  · exact .contactEdge h
  · exact .ite (.dioEdge (.setDio h)) h

theorem State.memOk.cntclrWrite {v : Word} (h : s.memOk) : (cntclrWrite s v).memOk :=
  .foldN h fun _ _ h => .ite (.dioCount h) h

theorem State.memOk.dioCfgWrite {n : Nat} {old : Word} (h : s.memOk) : (dioCfgWrite s n old).memOk :=
  .ite h (.dioEdge h)

/-! ### The functions of Machine/Hlt.lean -/

theorem State.memOk.setHlt {x : HltX} (h : s.memOk) : (s.setHlt x).memOk :=
  .of_mems h (by rfl)

theorem State.memOk.hltShow (h : s.memOk) : (hltShow s).memOk :=
  .ite (.setB (.setB h)) (.critChange (.setB (.setB (.setB h))))

theorem State.memOk.tempEvent {on : Bool} {level : Nat} (h : s.memOk) : (tempEvent s on level).memOk :=
  .healthEvent (.ite (.setF h) h)

theorem State.memOk.humidEvent {on : Bool} {level : Nat} (h : s.memOk) : (humidEvent s on level).memOk :=
  .healthEvent (.ite (.setF h) h)

theorem State.memOk.tempJudge (h : s.memOk) : (tempJudge s).memOk :=
  .ite (.ite h (.tempEvent (.setHlt h))) (.tempEvent (.setHlt (.ite h (.tempEvent (.setHlt h)))))

theorem State.memOk.humidJudge (h : s.memOk) : (humidJudge s).memOk :=
  .ite (.ite (.setHlt h) (.humidEvent (.setHlt (.setHlt h))))
    (.humidEvent (.setHlt (.ite (.setHlt h) (.humidEvent (.setHlt (.setHlt h))))))

theorem NextOk.execSensorRead {v : Sensors} (h : s.memOk) : NextOk (execSensorRead v s) :=
  .next (.ite (.hltShow
    (.humidJudge (.tempJudge
    (.wr (.wr (.wr (.setF (.setFi (.foldN (.setHlt (.stopsAhead h)) fun _ _ h => .wr h))))))))) (.stopsAhead h))

theorem NextOk.execCoreSupplyCritical {mv : BitVec 16} (h : s.memOk) : NextOk (execCoreSupplyCritical mv s) :=
  .next (.ite (.hltShow (.healthEvent (.setF (.setF (.stopsAhead h))))) (.stopsAhead h))

theorem NextOk.execCoreSupplyCleared {mv : BitVec 16} (h : s.memOk) : NextOk (execCoreSupplyCleared mv s) :=
  .next (.ite (.hltShow (.healthEvent (.setF h))) h)

theorem State.memOk.scrubBead {p : (Tab Nat × List Nat) × State} {q : Nat × BeadErr} (h : p.2.memOk) :
    (scrubBead p q).2.memOk := by
  obtain ⟨⟨one, two⟩, s⟩ := p
  have report {t : State} {l : List Nat} (h : t.memOk) :
      (if t.hlt.found.contains q.1 then t else Machine.poisonEvent (t.setHlt { t.hlt with found := l }) q.1 1).memOk :=
    .ite h (.poisonEvent (.setHlt h))
  refine .ite_snd h ?_
  split
  · exact .addR (.of_mems h (by rfl))
  · exact report (.poisonBead h)
  · exact report h

theorem NextOk.execScrubPass {ups : List Upset} {others : BitVec 16} (h : s.memOk) :
    NextOk (execScrubPass ups others s) := by
  unfold Machine.execScrubPass
  refine .next (.ite ?_ h)
  extract_lets before s1 was
  split
  next one two s2 e =>
  have scrubbed : s2.memOk := .of_snd e (.foldl_snd (.of_mems h (by rfl)) fun _ _ h => .scrubBead h)
  extract_lets s3 s4 s5
  have failed : s5.memOk := .foldN (.setF (.setF (.addR scrubbed))) fun _ _ h => .ite (.sectionFail h) h
  exact .of_mems failed (by rfl)

theorem NextOk.execSectionRemapDone {sec : Fin 128} (h : s.memOk) : NextOk (execSectionRemapDone sec s) := by
  unfold Machine.execSectionRemapDone
  refine .next ?_
  split
  · exact .poolsUpdate (.healthEvent (.setMap (.setSto h (by rfl))))
  · exact h

theorem NextOk.execSpareSelfTest {rods : List (Fin 18)} {matrix : Bool} (h : s.memOk) :
    NextOk (execSpareSelfTest rods matrix s) :=
  .next (.ite (.poolsUpdate
    (.ite (.healthEvent
    (.setMap (.ite (.foldl (.setHlt h) fun _ _ h => .ite (.healthEvent (.retireRod h)) h) (.setHlt h))))
    (.ite (.foldl (.setHlt h) fun _ _ h => .ite (.healthEvent (.retireRod h)) h) (.setHlt h)))) h)

theorem State.memOk.mapclrWrite {v : Word} (h : s.memOk) : (mapclrWrite s v).memOk :=
  .ite (.setSto h (by rfl)) h

/-! ### The functions of Machine/Sys.lean -/

theorem State.memOk.exitNext (h : s.memOk) : (exitNext s).memOk :=
  .ite h (.ite (.commitStartKey (.setSys h)) (.ite (.commitStart (.loadAbort (.setSys h))) h))

theorem State.memOk.exitAfter {ok : Bool} (h : s.memOk) : (exitAfter s ok).memOk :=
  .ite (.exitNext (.setSys h)) (.exitNext h)

theorem State.memOk.exitStart (h : s.memOk) : (exitStart s).memOk :=
  .exitNext (.setSys (.modePend h))

theorem State.memOk.keysTakeEffect (h : s.memOk) : (keysTakeEffect s).memOk :=
  .foldN (.keysInForce (.setSto h (by rfl))) fun _ _ h => .ite (.colRetire h) h

theorem NextOk.execCommissionExit (h : s.memOk) : NextOk (execCommissionExit s) :=
  .next (.ite h (.ite (.sysRefused (.modeUnpend (.setSys h)))
    (.ite h (.enterReady (.startPrograms (.bindRods (.bootImage (.fanAutoCheck (.keysTakeEffect (.setSys h))))))))))

theorem State.memOk.dormantStart (h : s.memOk) : (dormantStart s).memOk :=
  .modePend (.setSys (.rodsStop h))

theorem NextOk.execDormantEntered (h : s.memOk) : NextOk (execDormantEntered s) :=
  .next (.ite (.modeTo (.setSys (.foldl h fun _ _ h => .pdOff h))) h)

theorem NextOk.execWakePin (h : s.memOk) : NextOk (execWakePin s) := by
  unfold Machine.execWakePin
  refine .next ?_
  split
  · exact .ite (.wake h) h
  · exact h

theorem NextOk.execResumeComplete (h : s.memOk) : NextOk (execResumeComplete s) :=
  .next (.ite (.enterReady
    (.setSys (.bootBankEvent (.startPrograms (.foldN (.bootImage h) fun _ _ h => .ite (.setRodSt h) h))))) h)

theorem State.memOk.pdctlWrite {v : Word} (h : s.memOk) : (pdctlWrite s v).memOk := by
  unfold Machine.pdctlWrite
  refine .foldl h ?_
  · exact fun _ _ h => .ite (.pdRamp h) (.ite (.pdOff h) h)

theorem State.memOk.pdAdvance {n : Nat} (h : s.memOk) : (pdAdvance s n).memOk := by
  unfold Machine.pdAdvance
  refine .ite (.foldl h ?_) (.ite (.foldl h ?_) (.ite (.pdRamp h) (.ite (.fanTableLoad h) h)))
  · exact fun _ _ h => .pdRamp h
  · exact fun _ _ h => .pdRamp h

theorem NextOk.execDomainOn {n : Fin 8} {t : OutputTest} (h : s.memOk) : NextOk (execDomainOn n t s) :=
  .next (.ite h (.ite (.pdAdvance (.pdOn h)) (.ite (.modeTo (.pdOn h)) (.pdOn h))))

theorem NextOk.execBootComplete (h : s.memOk) : NextOk (execBootComplete s) :=
  .next (.ite (.ite (.bootBankEvent (.setSys (.bindRods (.modeTo (.setSys h)))))
    (.enterReady (.startPrograms (.bootBankEvent (.bindRods (.bootImage (.setSys h))))))) h)

theorem NextOk.execPowerOn (h : s.memOk) : NextOk (execPowerOn s) :=
  .next (.ite h (.bootStart (.powerOnState h)))

theorem NextOk.execVlogLost {mv : BitVec 16} (h : s.memOk) : NextOk (execVlogLost mv s) := by
  have boot {u : State} {q : List LogRec} (h : u.memOk) :
      (Machine.fireUpdate (Machine.setMode (Machine.logWriteOne { Machine.logFlush u with logQueue := q }) modeBoot
        0)).memOk :=
    .fireUpdate (.setMode (.logWriteOne (.of_mems h.logFlush (by rfl))))
  have off {u : State} (h : u.memOk) : (if u.domOn 7 then Machine.mtrRht (Machine.lswRht (Machine.solAllOff u) true)
    true true
      else u).memOk := .ite (.mtrRht (.lswRht (.solAllOff h))) h
  have down {u : State} {x : SysX} (h : u.memOk) : ({ u.setPd 0 0 with logQueue := [], sys := x } : State).memOk :=
    .of_mems (.setPd h) (by with_reducible rfl)
  unfold Machine.execVlogLost
  refine .next ?_
  split
  · refine .ite ?_ h
    exact down (.foldl (off (boot h.commitAbandon)) fun _ _ h => .pdOff h)
  · exact h

theorem State.memOk.wdtKick {v : Word} (h : s.memOk) : (wdtKick s v).memOk :=
  .ite h (.ite (.sysReset h) (.setSys h))

theorem State.memOk.hrelWrite {v : Word} (h : s.memOk) : (hrelWrite s v).memOk :=
  .foldN h fun _ _ h => .ite (.lswRelease h) h

theorem State.memOk.hrelmWrite {v : Word} (h : s.memOk) : (hrelmWrite s v).memOk :=
  .foldN h fun _ _ h => .ite (.mtrHoldEnd h) h

theorem State.memOk.critsAhead (h : s.memOk) : (critsAhead s).memOk := by
  unfold Machine.critsAhead
  refine .foldl (.stopsAhead h) ?_
  · intro _ _ h
    split
    · exact .orNext h (.execCoreSupplyCritical h)
    · exact .orNext h (.execSensorRead h)
    · exact h

theorem NextOk.execHostLoss (h : s.memOk) : NextOk (execHostLoss s) :=
  .next (.ite (.enterHold (.critsAhead h)) (.critsAhead h))

theorem State.memOk.cmdAhead (h : s.memOk) : (cmdAhead s).memOk :=
  .ite (.orNext h (.execHostLoss h)) (.critsAhead h)

theorem State.memOk.sysCmd {who : Writer} {op : Nat} (h : s.memOk) : (sysCmd s who op).memOk :=
  .ite (.cmdAhead h) (.ite (.sysRefused (.cmdAhead h))
    (.ite (.ite (.sysReset (.cmdAhead h)) (.sysRefused (.cmdAhead h)))
    (.ite (.sysRefused (.cmdAhead h))
    (.ite (.cmdAhead h)
    (.ite (.ite (.enterHold (.cmdAhead h)) (.sysRefused (.cmdAhead h)))
    (.ite (.ite (.dormantStart (.cmdAhead h)) (.sysRefused (.cmdAhead h)))
    (.ite (.ite (.ite (.exitStart (.cmdAhead h)) (.sysRefused (.cmdAhead h)))
    (.ite (.modeChange (.cmdAhead h)) (.ite (.modeChange (.cmdAhead h)) (.sysRefused (.cmdAhead h)))))
    (.ite (.modeChange (.cmdAhead h)) (.sysRefused (.cmdAhead h))))))))))

/-! ### The functions of Machine/RegAccess.lean -/

theorem State.memOk.measured {hi : Nat} {raw : Word} (h : s.memOk) : (measured s hi raw).2.memOk :=
  .freeReading h

theorem State.memOk.measuredOn {n hi : Nat} {raw : Word} (h : s.memOk) : (measuredOn s n hi raw).2.memOk :=
  .ite_snd h (.measured h)

theorem State.memOk.bridgeTemp {n : Nat} (h : s.memOk) : (bridgeTemp s n).2.memOk :=
  .measuredOn h

theorem State.memOk.paceRead {r : Nat} (h : s.memOk) : (paceRead s r).2.memOk :=
  .paceMeasure h

theorem State.memOk.regRead {d : RegDesc} {i j : Nat} (h : s.memOk) : (regRead s d i j).2.memOk := by
  unfold Machine.regRead
  split
  · exact .timNowLo h
  · exact .udataRead h
  · exact .ite_snd h (.rxRead h)
  · exact .paceRead h
  · exact .measuredOn h
  · exact .measuredOn h
  · exact .measuredOn h
  · exact .measuredOn h
  · exact .measuredOn h
  · exact .measuredOn h
  · exact .ite_snd (.bridgeTemp h) h
  · exact h

theorem State.memOk.readAddr {a : Nat} (h : s.memOk) : (readAddr a s).2.memOk := by
  unfold Machine.readAddr
  split
  · exact .ite_snd h h
  · split
    · exact .ite_snd h (.regRead h)
    · exact h

theorem State.memOk.regRefused {d : RegDesc} {a i : Nat} (h : s.memOk) : (regRefused s d a i).memOk := by
  have set {fl : Fld} {v i : Nat} : (s.setF fl v i).memOk := .setF h
  unfold Machine.regRefused
  refine .ite (.sysRefused h)
    (.ite set (.ite set (.ite set (.ite set (.ite set (.ite set (.ite (.lpeRefused h) (.ite ?_
    (.ite set (.ite set (.ite set
      (.ite set (.ite set (.ite set (.ite set (.ite set (.ite set (.ite set (.ite set (.ite set
    (.ite (.canRefused h) (.ite set (.ite set (.ite set set))))))))))))))))))))))))
  split
  · exact .lpeRefused h
  · exact h

theorem State.memOk.regRefusedWith {d : RegDesc} {a i : Nat} {v : Word} (h : s.memOk) :
    (regRefusedWith s d a i v).memOk :=
  .ite (.dfeEvent (.regRefused h)) (.regRefused h)

theorem State.memOk.regPut {d : RegDesc} {i j : Nat} {v : Word} (h : s.memOk) : (regPut s d i j v).memOk := by
  unfold Machine.regPut
  split
  · exact h
  · exact h
  · exact h
  · exact .bellWrite h
  · exact .pfeRangeWrite h
  · exact .solCtlWrite h
  · exact .solClassWrite h
  · exact .lswCtlWrite h
  · exact .mtrCtlWrite h
  · exact .fanAfWrite h
  · exact .udataWrite h
  · exact .putReg h

theorem State.memOk.regAct {who : Writer} {d : RegDesc} {i j : Nat} {old v : Word} (h : s.memOk) :
    (regAct s who d i j old v).memOk := by
  unfold Machine.regAct
  split
  · exact .rctlAction h
  · exact .creditReturn (.crgCfgAction h)
  · exact .ite (.dfeEnable h) (.ite (.dfeDisable h) h)
  · exact .ite (.dfeGo h) h
  · exact .ite (.pfeEnable h) (.ite (.pfeDisable h) h)
  · exact .ite (.loopAllSafe h) h
  · exact .trcCtlWrite h
  · exact .solCmdWrite h
  · exact .solRestoreWrite h
  · exact .solClrWrite h
  · exact .lswCmdWrite h
  · exact .lswClrWrite h
  · exact .lswRestoreWrite h
  · exact .setMtr h
  · exact .mtrClrWrite h
  · exact .canCtlWrite h
  · exact .txReqWrite h
  · exact .txCancelWrite h
  · exact .rxRelWrite h
  · exact .rxRelWrite h
  · exact .canRecoverWrite h
  · exact .ttsCtlWrite h
  · exact .timSrcWrite h
  · exact .colCmdWrite h
  · exact .ite (.of_mems h (by with_reducible rfl)) h
  · exact .mapclrWrite h
  · exact .stoCtlWrite h
  · exact .sysCmd h
  · exact .pdctlWrite h
  · exact .fireUpdate h
  · exact .fireUpdate h
  · exact .fireUpdate h
  · exact .fireUpdate h
  · exact .wdtKick h
  · exact .hrelWrite h
  · exact .hrelmWrite h
  · exact .ssdiscWrite h
  · exact .cntclrWrite h
  · exact .dioCfgWrite h
  · exact .poolWritten h
  · exact .ite (.lpeWrite h) h

theorem State.memOk.regStore {d : RegDesc} {i j : Nat} {v : Word} (h : s.memOk) : (regStore s d i j v).memOk :=
  .storeField h

theorem State.memOk.regWrite {who : Writer} {d : RegDesc} {a i j : Nat} {v : Word} (h : s.memOk) :
    (regWrite s who d a i j v).memOk :=
  .ite (.regRefusedWith h) (.regAct (.regStore (.regPut h)))

theorem State.memOk.curveWrite {c w : Nat} {v : Word} (h : s.memOk) : (curveWrite s c w v).memOk :=
  .ite h (.ite (.setF h) (.storeField (.of_mems h (by rfl))))

theorem State.memOk.writeReg {who : Writer} {d : RegDesc} {i j : Nat} {v : Word} (h : s.memOk) :
    (writeReg who d i j v s).memOk :=
  .ite (.regRefusedWith h) (.ite h (.regWrite h))

theorem State.memOk.writeAddr {who : Writer} {a : Nat} {v : Word} (h : s.memOk) : (writeAddr who a v s).memOk := by
  unfold Machine.writeAddr
  split
  · exact .ite (.curveWrite h) h
  · split
    · exact .writeReg h
    · exact h

theorem State.memOk.writeFields {who : Writer} {d : RegDesc} {l : List (Fld × Nat)} {i j : Nat} (h : s.memOk) :
    (writeFields s who d l i j).memOk :=
  .writeReg h

/-! ### The functions of Machine/CoxisOps.lean -/

theorem State.memOk.memWrite {r a size v : Nat} (h : s.memOk) : (memWrite s r a size v).memOk :=
  .ite (.setRodWith h (Memory.wf_cellsWrite (h.scratchWf r) _ _ _)) ⟨Memory.wf_cellsWrite h.frameWf _ _ _, h.2⟩

theorem State.memOk.storePerform {r a size v : Nat} (h : s.memOk) : (storePerform s r a size v).memOk := by
  have dropped {t : State} {k : Nat} (h : t.memOk) : ({ t with beadErr := tabDrop t.beadErr k } : State).memOk :=
    .of_mems h (by with_reducible rfl)
  unfold Machine.storePerform
  refine .ite ?_ ?_
  · refine dropped (.memWrite ?_)
    split
    · exact .beadCheck h
    · exact .beadCheck h
    · exact h
  · split
    · next e => exact .of_snd e (.beadCheck h)
    · next e => exact .memWrite (.of_snd e (.beadCheck h))

theorem State.memOk.performPosted {r : Nat} {a2 : Posted} (h : s.memOk) : (performPosted s r a2).memOk := by
  unfold Machine.performPosted
  split
  · exact .storePerform h
  · exact .ite (.setRod (.writeAddr h) (by with_reducible rfl))
      (.ite (.setRod (.writeAddr h) (by with_reducible rfl)) (.writeAddr h))
  · exact h
  · exact h

theorem State.memOk.postedComplete {r k : Nat} (h : s.memOk) : (postedComplete s r k).memOk := by
  unfold Machine.postedComplete
  dsimp only
  split
  · exact h
  · exact .performPosted (.setRod h (by with_reducible rfl))

theorem State.memOk.drain {r : Nat} {hit : Posted → Bool} (h : s.memOk) : (drain s r hit).memOk := by
  unfold Machine.drain
  refine .ite h (.foldl (.setRod h (by with_reducible rfl)) ?_)
  · exact fun _ _ h => .performPosted h

theorem State.memOk.drainStores {r a n : Nat} (h : s.memOk) : (drainStores s r a n).memOk :=
  .drain h

theorem State.memOk.drainOuts {r a : Nat} (h : s.memOk) : (drainOuts s r a).memOk :=
  .drain h

theorem State.memOk.drainAll {r : Nat} (h : s.memOk) : (drainAll s r).memOk :=
  .drain h

theorem State.memOk.post {r : Nat} {p : Posted} (h : s.memOk) : (post s r p).memOk :=
  .setRod h (by with_reducible rfl)

theorem State.memOk.loadOp {r size : Nat} {f : MemForm} {put : State → Nat → State} (h : s.memOk)
    (hb : ∀ {t : State} {b1 : Nat}, t.memOk → (put t b1).memOk) : (loadOp s r size f put).memOk := by
  unfold Machine.loadOp
  dsimp only
  split
  · exact .raise h
  · split
    · next e => exact .raise (.of_snd e (.beadCheck (.drainStores h)))
    · next e => exact .rodDone (hb (.of_snd e (.beadCheck (.drainStores h))))

theorem State.memOk.storeOp {r size : Nat} {f : MemForm} {v : Nat} (h : s.memOk) : (storeOp s r size f v).memOk := by
  unfold Machine.storeOp
  dsimp only
  split
  · exact .raise h
  · exact .ite (.raise (.ite_snd h (.beadCheck h)))
      (.ite (.rodDone (.storePerform (.ite_snd h (.beadCheck h)))) (.rodDone (.post (.ite_snd h (.beadCheck h)))))

theorem State.memOk.atomOp {r : Nat} {f : RegForm} {op : Word → Word → Word → Word × Bool} (h : s.memOk) :
    (atomOp s r f op).memOk := by
  have stored {t : State} {a v : Nat} (h : t.memOk) : ({ t with frame := cellsWrite t.frame a 4 v } : State).memOk :=
    ⟨Memory.wf_cellsWrite h.frameWf _ _ _, h.2⟩
  unfold Machine.atomOp
  refine .rodExec h fun h => ?_
  dsimp only
  split
  · exact .raise h
  · split
    · next e => exact .raise (.of_snd e (.beadCheck (.drainStores h)))
    · next e => exact .rodDone (.orOvf (.setG (stored (.of_snd e (.beadCheck (.drainStores h))))))

theorem State.memOk.waitReturn {r : Nat} {ws : WaitSet} {w : Wakes} {imm : Bool} (h : s.memOk) :
    (waitReturn s r ws w imm).memOk :=
  .rodDone (.setRodSt (.setHold (.setW (.setF h))))

theorem State.memOk.wakeHold (h : s.memOk) : (wakeHold s).memOk := by
  unfold Machine.wakeHold
  split
  · exact h
  · split
    · exact .ite h (.of_mems h (by rfl))
    · exact h

theorem State.memOk.settle (h : s.memOk) : (settle s).memOk :=
  .activateDue (.wakeHold h)

theorem State.memOk.reachSafePoint {r : Nat} (h : s.memOk) : (reachSafePoint s r).memOk :=
  .setRod h (by with_reducible rfl)

theorem State.memOk.pushNow {r d n wide : Nat} {inStep : Bool} (h : s.memOk) : (pushNow s r d n wide inStep).memOk :=
  .ite (.rodDone (.setG (.setHold (.wakeHold h))))
    (.ite (.rodDone (.setG (.setHold (.wakeHold h))))
    (.ite (.pushFinish (.ringCommit (.ringMark (.setHold (.setRing (.putFrameBead (.ringReserve (.wakeHold h))))))))
    (.setHold (.setRing (.putFrameBead (.ringReserve (.wakeHold h)))))))

theorem State.memOk.ringOwnerFault {r n : Nat} (h : s.memOk) : (ringOwnerFault s r n).memOk :=
  .raise (.setF h)

theorem State.memOk.popOp {r : Nat} {f : RegForm} (h : s.memOk) : (popOp s r f).memOk := by
  unfold Machine.popOp
  refine .rodExec h ?_
  · intro _ h
    refine .ite (.ringOwnerFault (.wakeHold h)) ?_
    refine .ite (.rodDone (.setG (.wakeHold h))) ?_
    split
    · next e => exact .rodDone (.setG (.creditReturn (.of_snd2 e (.ringPop (.wakeHold h)))))
    · next e => exact .rodDone (.setG (.setW (.creditReturn (.of_snd2 e (.ringPop (.wakeHold h))))))
    · next e => exact .raise (.creditReturn (.of_snd2 e (.ringPop (.wakeHold h))))

/-! ### The functions of Machine/Coxis.lean -/

theorem State.memOk.oprOp {r : Nat} {f : RegForm} {illegal : Bool} {op : Word → Word → Word × Bool} (h : s.memOk) :
    (oprOp r f illegal op s).memOk := by
  unfold Machine.oprOp
  exact .rodExec h (fun h => .rodDone (.orOvf (.setG h)))

theorem State.memOk.fixOp {r : Nat} {f : RegForm} {illegal : Bool} {op : State → Word × Bool} (h : s.memOk) :
    (fixOp r f illegal op s).memOk := by
  unfold Machine.fixOp
  exact .rodExec h (fun h => .rodDone (.orSat (.setG h)))

theorem State.memOk.brOp {r code : Nat} {f : BrForm} (h : s.memOk) : (brOp r code f s).memOk := by
  unfold Machine.brOp
  exact .rodExec h (fun h => .ite (.ite (.rodGoto h) (.raise h)) (.rodDone h))

theorem NextOk.execWGet {r : Fin 16} {f : RegForm} (h : s.memOk) : NextOk (execWGet r f s) :=
  .next (.rodExec h (fun h => .rodDone (.setG h)))

theorem NextOk.execWPut {r : Fin 16} {f : RegForm} (h : s.memOk) : NextOk (execWPut r f s) :=
  .next (.rodExec h (fun h => .rodDone (.setW h)))

theorem NextOk.execWMov {r : Fin 16} {f : RegForm} (h : s.memOk) : NextOk (execWMov r f s) :=
  .next (.rodExec h (fun h => .rodDone (.setW h)))

theorem NextOk.execWZero {r : Fin 16} {f : RegForm} (h : s.memOk) : NextOk (execWZero r f s) :=
  .next (.rodExec h (fun h => .rodDone (.setW h)))

theorem NextOk.execAddi {r : Fin 16} {f : ImmForm} (h : s.memOk) : NextOk (execAddi r f s) :=
  .next (.rodExec h (fun h => .rodDone (.orOvf (.setG h))))

theorem NextOk.execLui {r : Fin 16} {f : ImmForm} (h : s.memOk) : NextOk (execLui r f s) :=
  .next (.rodExec h (fun h => .rodDone (.setG h)))

theorem NextOk.execMacq {r : Fin 16} {f : RegForm} (h : s.memOk) : NextOk (execMacq r f s) :=
  .next (.rodExec h (fun h => .rodDone (.orSat (.setW h))))

theorem NextOk.execJmp {r : Fin 16} {f : ImmForm} (h : s.memOk) : NextOk (execJmp r f s) :=
  .next (.rodExec h (fun h => .ite (.rodGoto h) (.raise h)))

theorem NextOk.execCall {r : Fin 16} {a : BitVec 5} {imm : BitVec 18} (h : s.memOk) : NextOk (execCall r a imm s) :=
  .next (.rodExec h (fun h => .ite (.setG (.rodGoto h)) (.raise h)))

theorem NextOk.execRet {r : Fin 16} {f : RegForm} (h : s.memOk) : NextOk (execRet r f s) :=
  .next (.rodExec h (fun h => .ite (.rodGoto h) (.raise h)))

theorem NextOk.execEret {r : Fin 16} {f : RegForm} (h : s.memOk) : NextOk (execEret r f s) :=
  .next (.rodExec h (fun h => .ite (.setRod (.rodGoto h) (by with_reducible rfl)) (.raise h)))

theorem NextOk.execLd8 {r : Fin 16} {f : MemForm} (h : s.memOk) : NextOk (execLd8 r f s) :=
  .next (.rodExec h (fun h => .loadOp h (fun h => .setG h)))

theorem NextOk.execLd16 {r : Fin 16} {f : MemForm} (h : s.memOk) : NextOk (execLd16 r f s) :=
  .next (.rodExec h (fun h => .loadOp h (fun h => .setG h)))

theorem NextOk.execLd32 {r : Fin 16} {f : MemForm} (h : s.memOk) : NextOk (execLd32 r f s) :=
  .next (.rodExec h (fun h => .loadOp h (fun h => .setG h)))

theorem NextOk.execLd128 {r : Fin 16} {f : MemForm} (h : s.memOk) : NextOk (execLd128 r f s) :=
  .next (.rodExec h (fun h => .loadOp h (fun h => .setW h)))

theorem NextOk.execIn {r : Fin 16} {f : IoForm} (h : s.memOk) : NextOk (execIn r f s) := by
  unfold Machine.execIn
  refine .next ?_
  refine .rodExec h ?_
  · intro _ h
    split
    · exact .raise h
    · exact .rodDone (.setG (.readAddr (.drainOuts h)))

theorem NextOk.execOut {r : Fin 16} {f : IoForm} (h : s.memOk) : NextOk (execOut r f s) := by
  unfold Machine.execOut
  refine .next ?_
  refine .rodExec h ?_
  · intro _ h
    split
    · exact .raise h
    · exact .rodDone (.post h)

theorem NextOk.execPostedAccessComplete {r : Fin 16} {k : Nat} (h : s.memOk) :
    NextOk (execPostedAccessComplete r k s) := by
  unfold Machine.execPostedAccessComplete
  refine .next ?_
  dsimp only
  refine .ite ?_ h
  split
  · exact .ite (.setRodSt (.postedComplete h)) (.postedComplete h)
  · exact .postedComplete h

theorem NextOk.execPush {r : Fin 16} {f : RegForm} {inStep : Bool} (h : s.memOk) : NextOk (execPush r f inStep s) :=
  .next (.rodExec h (fun h => .ite (.ringOwnerFault h) (.pushNow h)))

theorem NextOk.execPushR {r : Fin 16} {f : RegForm} (h : s.memOk) : NextOk (execPushR r f s) :=
  .next (.rodExec h (fun h => .ite (.ringOwnerFault h) (.ite (.pushNow h) (.setHold h))))

theorem NextOk.execPushRRelease {r : Fin 16} (h : s.memOk) : NextOk (execPushRRelease r s) := by
  unfold Machine.execPushRRelease
  refine .next ?_
  split
  · exact .ite (.pushNow h) h
  · exact h

theorem NextOk.execSlotCommit {n : Fin 32} {slot : Nat} (h : s.memOk) : NextOk (execSlotCommit n slot s) :=
  .next (.ite (.pushFinish (.ringCommit (.ringMark h))) h)

theorem NextOk.execWait {r : Fin 16} {f : WaitForm} (h : s.memOk) : NextOk (execWait r f s) := by
  unfold Machine.execWait
  refine .next ?_
  dsimp only
  refine .rodExec h ?_
  · intro _ h
    refine .ite (.raise h) ?_
    split
    · exact .raise h
    · exact .ite (.waitReturn h) (.reachSafePoint (.setRodSt (.setHold h)))

theorem NextOk.execWaitReturn {r : Fin 16} (h : s.memOk) : NextOk (execWaitReturn r s) := by
  unfold Machine.execWaitReturn
  refine .next ?_
  split
  · exact .ite (.wakeHold h) (.ite (.waitReturn h) h)
  · exact h

theorem NextOk.execFence {r : Fin 16} {f : ImmForm} (h : s.memOk) : NextOk (execFence r f s) :=
  .next (.rodExec h (fun h => .ite (.ite (.reachSafePoint (.setRodSt (.setHold h))) (.setHold h)) (.rodDone h)))

theorem NextOk.execFenceComplete {r : Fin 16} (h : s.memOk) : NextOk (execFenceComplete r s) := by
  unfold Machine.execFenceComplete
  refine .next ?_
  split
  · exact .ite h (.rodDone (.setRodSt (.setHold h)))
  · exact h

theorem NextOk.execTime {r : Fin 16} {f : ImmForm} (h : s.memOk) : NextOk (execTime r f s) :=
  .next (.rodExec h (fun h => .rodDone (.setPair (.drainOuts h))))

theorem NextOk.execRodStopForced {r : Fin 16} (h : s.memOk) : NextOk (execRodStopForced r s) := by
  unfold Machine.execRodStopForced
  refine .next ?_
  split
  · exact .ite (.rodHaltNow h) h
  · exact h

theorem NextOk.execTemplateCopyDone {r : Fin 16} (h : s.memOk) : NextOk (execTemplateCopyDone r s) := by
  have copied {t : State} {a n b : Nat} {l : Tab BeadErr} (h : t.memOk) :
      ({ t with frame := cellsCopy t.frame t.template a n b, beadErr := l } : State).memOk :=
    ⟨Memory.wf_cellsCopy h.frameWf _ _ _ _, h.2⟩
  unfold Machine.execTemplateCopyDone
  refine .next ?_
  split
  · exact .ite (.setRodSt (copied (.drain h))) h
  · exact h

theorem NextOk.execRodMarked {m : RodMark} (h : s.memOk) : NextOk (execRodMarked m s) :=
  .next (.ite (.ite (.reachSafePoint (.setRod h (by with_reducible rfl))) (.setRod h (by with_reducible rfl))) h)

theorem NextOk.execMigrationStart {r : Fin 16} (h : s.memOk) : NextOk (execMigrationStart r s) := by
  unfold Machine.execMigrationStart
  refine .next ?_
  refine .ite ?_ h
  split
  · next e => exact .of_mems (.of_snd e (.takeRod (.drainAll h))) (by with_reducible rfl)
  · next e => exact .poolsUpdate (.retireRod (.of_snd e (.takeRod (.drainAll h))))

theorem NextOk.execMigrationEnd (h : s.memOk) : NextOk (execMigrationEnd s) := by
  unfold Machine.execMigrationEnd
  refine .next ?_
  split
  · next m _ =>
    have ended {u : State} {x : RodX} {o : Option Nat} (hu : u.memOk) (hx : x.scratch = (u.rod m.rod).scratch) :
        (Machine.poolsUpdate { u.setRod m.rod x with migration := none, migEnd := o }).memOk :=
      .poolsUpdate (.of_mems (.setRod hu hx) (by with_reducible rfl))
    have bound : (healthEvent (Machine.retireRod (Machine.bindRod s m.rod m.phys) (s.physOf m.rod)) m.rod 1 0xF0
      m.phys
      (word (s.physOf m.rod))).memOk := .healthEvent (.retireRod (.bindRod h))
    dsimp only
    split
    · exact .ite (.waitReturn (ended bound rfl)) (ended bound rfl)
    · exact ended bound rfl
  · exact h

theorem NextOk.execRodFail {p : Fin 18} (h : s.memOk) : NextOk (execRodFail p s) := by
  have placed {u : State} {r : Nat} (h : u.memOk) :
      ((Machine.poolsUpdate u).setRod r { (Machine.poolsUpdate u).rod r with marked := false }).memOk := .setRod
        (.poolsUpdate h) (by with_reducible rfl)
  unfold Machine.execRodFail
  refine .next (.ite h ?_)
  extract_lets owner s1 s2
  have retired : s2.memOk := .retireRod (.ite (.of_mems h (by rfl)) h)
  clear_value owner s2
  split
  · exact .poolsUpdate (.healthEvent retired)
  · next r =>
    extract_lets ran s3 s4 s5
    have shown : s4.memOk := .ite (.wr (.wr (.wr retired))) retired
    have left : s5.memOk := .healthEvent (.voidReservations shown)
    have taken : (Machine.takeRod s5 r).2.memOk := .takeRod left
    split
    next np s6 e =>
    have taken : s6.memOk := .of_snd e taken
    split
    · exact .ite (.healthEvent (.poolsUpdate taken)) (.poolsUpdate taken)
    · exact .ite (.programFault (placed (.bindRod taken))) (placed (.bindRod taken))

/-! ### The functions of Machine/Link.lean -/

theorem State.memOk.netArrive {p : Nat} {src : NetSrc} (h : s.memOk) : (netArrive s p src).2.memOk :=
  .netAdd h

theorem State.memOk.netFrame {p : Nat} {src : NetSrc} {body : State → State} (h : s.memOk)
    (hb : ∀ {t : State}, t.memOk → (body t).memOk) : (netFrame s p src body).memOk := by
  unfold Machine.netFrame
  refine .ite (.critsAhead h) ?_
  split
  · next e => exact hb (.of_snd e (.netArrive (.critsAhead h)))
  · next e => exact .netDrop (.of_snd e (.netArrive (.critsAhead h)))

theorem State.memOk.tlAuthFail {f : TlFrame} (h : s.memOk) : (tlAuthFail s f).memOk := by
  unfold Machine.tlAuthFail
  dsimp only
  split
  · exact .ite (.colEvent (.colBump (.netAdd h))) (.colBump (.netAdd h))
  · exact .netAdd h

theorem State.memOk.tlTofs {n : Nat} {f : TlFrame} (h : s.memOk) : (tlTofs s n f).memOk :=
  .ite h (.colTofs h)

theorem State.memOk.tlColumn {n : Nat} {f : TlFrame} (h : s.memOk) : (tlColumn s n f).2.memOk := by
  unfold Machine.tlColumn
  refine .ite_snd h ?_
  dsimp only
  split
  · next e => exact .of_snd e (.colSeqStep (.setCol h))
  · next e =>
      exact .ite (.colCredit (.tlTofs (.colValid (.of_snd e (.colSeqStep (.setCol h))))))
        (.tlTofs (.colValid (.of_snd e (.colSeqStep (.setCol h)))))

theorem State.memOk.tlForColumn {f : TlFrame} {body : State → Nat → State} (h : s.memOk)
    (hb : ∀ {t n}, t.memOk → (body t n).memOk) : (tlForColumn s f body).memOk := by
  unfold Machine.tlForColumn
  split
  · exact h
  · split
    · next e => exact .ite (hb (.of_snd e (.tlColumn h))) (.of_snd e (.tlColumn h))
    · next e => exact .of_snd e (.tlColumn h)

theorem State.memOk.helloAck {n : Nat} (h : s.memOk) : (helloAck s n).memOk :=
  .colSend h

theorem State.memOk.tlTake {n k : Nat} {f : TlFrame} (h : s.memOk) : (tlTake s n k f).memOk :=
  .foldN (.setF (.setF (.setB (.setF (.colTake h))))) fun _ _ h => .wr h

theorem State.memOk.tlNewcomer {f : TlFrame} (h : s.memOk) : (tlNewcomer s f).memOk := by
  unfold Machine.tlNewcomer
  split
  · exact h
  · split
    · exact .colNoRoom h
    · exact .ite (.addR h) (.ite (.helloAck (.colCredit (.colAdmit (.tlTofs (.tlTake h))))) (.tlTofs (.tlTake h)))

theorem State.memOk.tlHello {f : TlFrame} (h : s.memOk) : (tlHello s f).memOk := by
  unfold Machine.tlHello
  refine .ite h ?_
  extract_lets own s1
  have others : s1.memOk := .foldN h fun _ _ h => .ite (.colRetire h) h
  clear_value own s1
  split
  · split
    · next e => exact .ite (.helloAck (.of_snd e others.tlColumn)) (.of_snd e others.tlColumn)
    · next e => exact .of_snd e others.tlColumn
  · exact .tlNewcomer others

theorem State.memOk.tlBye {f : TlFrame} (h : s.memOk) : (tlBye s f).memOk := by
  unfold Machine.tlBye
  split
  · exact h
  · split
    · next e => exact .colRetire (.of_snd e (.tlColumn h))
    · next e => exact .of_snd e (.tlColumn h)

theorem State.memOk.hostRead {a : Nat} (h : s.memOk) : (hostRead s a).2.2.memOk := by
  unfold Machine.hostRead
  refine .ite_snd2 h ?_
  refine .ite_snd2 ?_ (.ite_snd2 (.readAddr h) h)
  refine .ite_snd2 h ?_
  split
  · next e => exact .of_snd e (.beadCheck h)
  · next e => exact .of_snd e (.beadCheck h)

theorem State.memOk.hostWrite {a : Nat} {v : Word} (h : s.memOk) : (hostWrite s a v).2.memOk := by
  unfold Machine.hostWrite
  refine .ite_snd h (.ite_snd (.ite_snd h ?_) (.ite_snd (.writeAddr h) h))
  split
  · next e => exact .of_snd e (.beadCheck h)
  · next e =>
      exact ⟨Memory.wf_cellsWrite (State.memOk.of_snd e (.beadCheck h)).frameWf _ _ _,
        (State.memOk.of_snd e (.beadCheck h)).2⟩

theorem State.memOk.tlRegRead {f : TlFrame} (h : s.memOk) : (tlRegRead s f).memOk := by
  unfold Machine.tlRegRead
  refine .tlForColumn h (fun h => .colSend (.ite_snd (.foldN_snd h ?_) h))
  · exact fun _ _ h => .hostRead h

theorem State.memOk.tlRegWrite {f : TlFrame} (h : s.memOk) : (tlRegWrite s f).memOk := by
  unfold Machine.tlRegWrite
  refine .tlForColumn h (fun h => .colSend (.ite_snd (.foldN_snd h ?_) h))
  · exact fun _ _ h => .ite_snd h (.hostWrite h)

theorem State.memOk.tlRingData {f : TlFrame} (h : s.memOk) : (tlRingData s f).memOk := by
  unfold Machine.tlRingData
  exact .tlForColumn (.ite h (.netDrop h))
    (fun h => .ite h (.ite (.netDrop (.colCredViol h)) (.ite (.addR h) (.colReceived (.ringAddAll h)))))

theorem State.memOk.tlValues {f : TlFrame} (h : s.memOk) : (tlValues s f).memOk := by
  unfold Machine.tlValues
  refine .tlForColumn h (fun h => .foldN h ?_)
  · exact fun _ _ h => .ite (.colPublish h) h

theorem State.memOk.tlLoad {f : TlFrame} {body : State → Nat → Nat → List Nat → State} (h : s.memOk)
    (hb : ∀ {t : State} {b1 : Nat} {b2 : Nat} {b3 : List Nat}, t.memOk → (body t b1 b2 b3).memOk) :
  (tlLoad s f body).memOk := by
  unfold Machine.tlLoad
  exact .tlForColumn h (fun h => .ite (hb h) (.loadRsp h))

theorem State.memOk.tlLoadBegin {f : TlFrame} (h : s.memOk) : (tlLoadBegin s f).memOk := by
  unfold Machine.tlLoadBegin
  exact .tlLoad h (fun h => .ite (.loadRsp h)
    (.ite (.loadRsp (.loadAbort h)) (.loadRsp (.setF (.setSto (.loadAbort h) (by rfl))))))

theorem State.memOk.tlLoadData {f : TlFrame} (h : s.memOk) : (tlLoadData s f).memOk := by
  refine .tlLoad h fun {t c id d} h => ?_
  split
  · exact .loadRsp h
  · exact .ite (.loadRsp h) (.ite (.loadRsp (.loadAbort h)) (.ite (.netDrop h) (.loadRsp (.setStoWith (.stoOpen h)
      (.setBank (State.memOk.stoOpen h).stoOk
        (Memory.wf_cellsWriteBytes ((State.memOk.stoOpen h).stoOk.bank _) _ _))))))

theorem State.memOk.tlLoadCommit {f : TlFrame} (h : s.memOk) : (tlLoadCommit s f).memOk := by
  unfold Machine.tlLoadCommit
  refine .tlLoad h ?_
  · intro _ _ _ _ h
    split
    · exact .loadRsp h
    · exact .ite (.loadRsp h) (.ite (.commitStart (.setF (.setSto h (by rfl)))) (.loadRsp (.loadAbort h)))

theorem State.memOk.loadEnd {r : LoadReq} {ok : Bool} (h : s.memOk) : (loadEnd s r ok).memOk :=
  .ite (.loadAnswer h) (.ite (.loadAnswer h) (.ite (.loadActivate h) (.loadAnswer h)))

theorem NextOk.execCommitEnd {fails : List Nat} (h : s.memOk) : NextOk (execCommitEnd fails s) := by
  unfold Machine.execCommitEnd
  refine .next ?_
  split
  · next e => exact .of_snd e (.commitFinish h)
  · next e =>
      refine .exitAfter ?_
      split
      · exact .loadEnd (.of_snd e (.commitFinish h))
      · exact (.of_snd e (.commitFinish h))

theorem State.memOk.tlStatus {f : TlFrame} (h : s.memOk) : (tlStatus s f).memOk := by
  unfold Machine.tlStatus
  extract_lets p d answer ok s1
  have answered {t : State} {col : Option Nat} (h : t.memOk) : (answer t col).memOk := .netSend h
  have counted : s1.memOk := .ite h (.netDrop h)
  split
  · refine .ite (.ite (answered counted) counted) ?_
    split
    · next e => exact .ite (answered (.of_snd e counted.tlColumn)) (.of_snd e counted.tlColumn)
    · next e => exact .of_snd e counted.tlColumn
  · exact .ite (answered counted) counted

theorem State.memOk.tlWake {f : TlFrame} (h : s.memOk) : (tlWake s f).memOk := by
  unfold Machine.tlWake
  dsimp only
  split
  · refine .wake ?_
    split
    · exact .tlColumn (.ite h (.netDrop h))
    · exact .ite h (.netDrop h)
  · split
    · exact .tlColumn (.ite h (.netDrop h))
    · exact .ite h (.netDrop h)

theorem State.memOk.tlMessage {type : Nat} {f : TlFrame} (h : s.memOk) : (tlMessage s type f).memOk := by
  unfold Machine.tlMessage
  refine .ite h ?_
  refine .ite (.netDrop h) ?_
  split
  · exact .tlHello h
  · exact .tlBye h
  · exact .tlRegRead h
  · exact .tlRegWrite h
  · exact .tlRingData h
  · exact .tlForColumn h (fun h => h)
  · exact .tlLoadBegin h
  · exact .tlLoadData h
  · exact .tlLoadCommit h
  · exact .tlValues h
  · exact .tlStatus h
  · exact .tlWake h
  · exact h

theorem State.memOk.tlPass {type tb : Nat} {f : TlFrame} (h : s.memOk) : (tlPass s type tb f).memOk :=
  .ite (.tlAuthFail h) (.tlMessage (.setSys (.of_mems (.wr64 h) (by with_reducible rfl))))

theorem State.memOk.tlFrame {type : Nat} {f : TlFrame} (h : s.memOk) : (tlFrame s type f).memOk := by
  unfold Machine.tlFrame
  exact .netFrame h (fun h => .ite (.tlAuthFail h) (.ite (.of_mems h (by with_reducible rfl)) (.tlPass h)))

theorem State.memOk.tlPump {fuel k : Nat} (h : s.memOk) : (tlPump fuel s k).memOk := by
  induction fuel generalizing s with
  | zero => exact h
  | succ fuel ih =>
    unfold Machine.tlPump
    split
    · exact .ite h (ih (.tlPass (.of_mems h (by rfl))))
    · exact h

theorem State.memOk.netForeign {p : Nat} (h : s.memOk) : (netForeign s p).memOk :=
  .ite (.netDrop (.netAdd h)) h

theorem NextOk.execReplayMarkWritten {k : Fin 8} {tx : Bool} (h : s.memOk) : NextOk (execReplayMarkWritten k tx s) :=
    by
  unfold Machine.execReplayMarkWritten
  refine .next ?_
  refine .ite (.ite (.netPump (.setSto h (by rfl))) h) ?_
  split
  · exact .ite (.tlPump (.setSto h (by rfl))) h
  · exact h

theorem State.memOk.ringTake {k n : Nat} {acc : List Bead} {bad : Bool} (h : s.memOk) :
    (ringTake k s n acc bad).2.2.memOk := by
  induction k generalizing s acc bad with
  | zero => exact h
  | succ k ih =>
    have popped := h.ringPop (n := n)
    unfold Machine.ringTake
    split
    all_goals
      next e =>
        rw [e] at popped
        first
        | exact ih (.creditReturn popped)
        | exact .creditReturn popped

theorem State.memOk.txDiscard {r p k : Nat} (h : s.memOk) : (txDiscard s r p k).memOk :=
  .netAdd (.of_mems (.ringTake h) (by with_reducible rfl))

theorem State.memOk.txRecord {r : Nat} (h : s.memOk) : (txRecord s r).memOk := by
  unfold Machine.txRecord
  dsimp only
  split
  · exact .ringSkip h
  · exact .ite (.of_mems (.ringTake (.ringSkip h)) (by with_reducible rfl))
      (.ite (.txDiscard (.ringSkip h))
    (.ite (.txDiscard (.ringSkip h))
    (.ite (.ringSkip h) (.ite (.netAdd (.ringTake (.ringSkip h))) (.colSend (.setF (.ringTake (.ringSkip h))))))))

theorem NextOk.execCreditTimer {n : Fin 256} (h : s.memOk) : NextOk (execCreditTimer n s) := by
  unfold Machine.execCreditTimer
  refine .next ?_
  dsimp only
  split
  · exact .ite (.colSend h) h
  · exact h

theorem State.memOk.netReply {p : Nat} {src : NetSrc} {what : String} {data : List Nat} (h : s.memOk) :
    (netReply s p src what data).memOk :=
  .of_mems h (by rfl)

theorem NextOk.execArpRequest {port : NetPort} {src : NetSrc} {target : BitVec 32} (h : s.memOk) :
    NextOk (execArpRequest port src target s) :=
  .next (.netFrame h (fun h => .ite (.netReply h) (.netDrop h)))

theorem NextOk.execNeighbourSolicitation {port : NetPort} {src : NetSrc} {target : BitVec 128} (h : s.memOk) :
    NextOk (execNeighbourSolicitation port src target s) :=
  .next (.netFrame h (fun h => .ite (.netReply h) (.netDrop h)))

theorem NextOk.execEchoRequest {port : NetPort} {src : NetSrc} {data : List (BitVec 8)} (h : s.memOk) :
    NextOk (execEchoRequest port src data s) :=
  .next (.netFrame h (fun h => .ite (.netReply h) (.netDrop h)))

theorem NextOk.execLinkChange {port : NetPort} {up : Bool} (h : s.memOk) : NextOk (execLinkChange port up s) :=
  .next (.ite h (.ite (.of_mems (.netSetF (.netSetF (.netSetF h))) (by with_reducible rfl))
    (.netSetF (.netSetF (.netSetF h)))))

/-! ### The functions of Machine/Writes.lean -/

theorem NextOk.execRingDisableEffect {n : Fin 32} (h : s.memOk) : NextOk (execRingDisableEffect n s) :=
  .next (.ite (.creditReturn (.ringDisableEffect h)) h)

theorem NextOk.execFanZoneEnable {auto : Bool} {z : Fin 32} (h : s.memOk) : NextOk (execFanZoneEnable auto z s) :=
  .next (.ite (.writeFields h) (.writeFields h))

theorem NextOk.execStoUdataAccess {w : Option (BitVec 32)} (h : s.memOk) : NextOk (execStoUdataAccess w s) := by
  unfold Machine.execStoUdataAccess
  refine .next ?_
  split
  · exact .writeReg h
  · exact .ite (.udataRead h) h

/-! ### The functions of Machine/Instants.lean -/

theorem State.memOk.laterAct {c : Later} (h : s.memOk) : (laterAct s c).memOk := by
  cases c with
  | write who a v => exact .writeAddr h
  | loopCmd n cmd => exact .writeFields h
  | allSafe => exact .writeFields h
  | unitFail u => exact .matrixUnitFailNow h
  | observeMax n => exact .observeMaxNow h
  | loopOutput n => exact .loopOutputNow h
  | loopSample n => exact .loopSampleNow h
  | loopDispatch n => exact .jobDispatchNow h
  | traceSample c => exact .tracePeriod h
  | fanEvaluation => exact .fanEvaluate h
  | mtrTrip k n v => exact .mtrTripNow h
  | mtrStall n => exact .ite (.mtrAttempt h) h
  | mtrClear n bit => exact .writeFields h
  | mtrEnable n on => exact .writeFields h
  | mtrCmd n v => exact .writeReg h
  | mtrCentre n d => exact .mtrCentreNow h
  | solCmd n op now => exact .writeFields h
  | solStart n => exact .solStartNow h
  | solGrid n => exact .solGridNow h
  | colCmd n op count => exact .writeFields h
  | colExpiry st n => exact .colExpiry h
  | canFrame n f => exact .canReceive h
  | tlFrame type f => exact .tlFrame h
  | netForeign port => exact .netForeign h

theorem State.memOk.heldRun {fuel : Nat} {p : Later → Bool} (h : s.memOk) : (heldRun fuel p s).memOk := by
  induction fuel generalizing s with
  | zero => exact h
  | succ fuel ih =>
    unfold Machine.heldRun
    split
    · exact ih (.laterAct (.of_mems h (by rfl)))
    · exact h

theorem State.memOk.settleHeld (h : s.memOk) : (settleHeld s).memOk :=
  .heldRun h

theorem NextOk.inTurn {c : Later} (h : s.memOk) : NextOk (inTurn c s) :=
  .next (.ite (.of_mems h (by rfl)) (.laterAct (.heldRun h)))

/-! ### Every command, and the step -/

/-- A command keeps the memories of the state in canonical form. -/
theorem nextOk_exec (i : Instr) (h : s.memOk) : NextOk (exec i s) := by
  cases i with
  | registerWrite => exact .inTurn h
  | add => exact .next (.oprOp h)
  | sub => exact .next (.oprOp h)
  | and => exact .next (.oprOp h)
  | or => exact .next (.oprOp h)
  | xor => exact .next (.oprOp h)
  | andn => exact .next (.oprOp h)
  | sll => exact .next (.oprOp h)
  | srl => exact .next (.oprOp h)
  | sra => exact .next (.oprOp h)
  | slli => exact .next (.oprOp h)
  | srli => exact .next (.oprOp h)
  | srai => exact .next (.oprOp h)
  | slt => exact .next (.oprOp h)
  | sltu => exact .next (.oprOp h)
  | min => exact .next (.oprOp h)
  | max => exact .next (.oprOp h)
  | minu => exact .next (.oprOp h)
  | maxu => exact .next (.oprOp h)
  | sext8 => exact .next (.oprOp h)
  | sext16 => exact .next (.oprOp h)
  | mul => exact .next (.oprOp h)
  | mulh => exact .next (.oprOp h)
  | mulhu => exact .next (.oprOp h)
  | div => exact .next (.oprOp h)
  | divu => exact .next (.oprOp h)
  | rem => exact .next (.oprOp h)
  | remu => exact .next (.oprOp h)
  | wGet => exact .execWGet h
  | wPut => exact .execWPut h
  | wMov => exact .execWMov h
  | wZero => exact .execWZero h
  | addi => exact .execAddi h
  | lui => exact .execLui h
  | mulq => exact .next (.fixOp h)
  | mulqR => exact .next (.fixOp h)
  | macq => exact .execMacq h
  | clamp => exact .next (.fixOp h)
  | clampN => exact .next (.fixOp h)
  | clampA => exact .next (.fixOp h)
  | beq => exact .next (.brOp h)
  | bne => exact .next (.brOp h)
  | blt => exact .next (.brOp h)
  | bge => exact .next (.brOp h)
  | bltu => exact .next (.brOp h)
  | bgeu => exact .next (.brOp h)
  | bany => exact .next (.brOp h)
  | bnone => exact .next (.brOp h)
  | jmp => exact .execJmp h
  | call => exact .execCall h
  | ret => exact .execRet h
  | eret => exact .execEret h
  | ld8 => exact .execLd8 h
  | ld16 => exact .execLd16 h
  | ld32 => exact .execLd32 h
  | ld128 => exact .execLd128 h
  | st8 => exact .next (.rodExec h (fun h => .storeOp h))
  | st16 => exact .next (.rodExec h (fun h => .storeOp h))
  | st32 => exact .next (.rodExec h (fun h => .storeOp h))
  | st128 => exact .next (.rodExec h (fun h => .storeOp h))
  | ioIn => exact .execIn h
  | ioOut => exact .execOut h
  | postedAccessComplete => exact .execPostedAccessComplete h
  | push => exact .execPush h
  | pushR => exact .execPushR h
  | pushRRelease => exact .execPushRRelease h
  | pop => exact .next (.popOp h)
  | popA => exact .next (.popOp h)
  | slotCommit => exact .execSlotCommit h
  | wait => exact .execWait h
  | waitReturn => exact .execWaitReturn h
  | fence => exact .execFence h
  | fenceComplete => exact .execFenceComplete h
  | atSwap => exact .next (.atomOp h)
  | atAdd => exact .next (.atomOp h)
  | atAnd => exact .next (.atomOp h)
  | atOr => exact .next (.atomOp h)
  | atXor => exact .next (.atomOp h)
  | atMin => exact .next (.atomOp h)
  | atMax => exact .next (.atomOp h)
  | atMinu => exact .next (.atomOp h)
  | atMaxu => exact .next (.atomOp h)
  | atCas => exact .next (.atomOp h)
  | time => exact .execTime h
  | trap => exact .next (.rodExec h (fun h => .raise h))
  | rodStart => exact .next (.writeFields h)
  | rodStop => exact .next (.writeFields h)
  | rodHalt => exact .next (.ite (.rodHaltNow h) h)
  | rodStopForced => exact .execRodStopForced h
  | templateCopyDone => exact .execTemplateCopyDone h
  | doorbell => exact .next (.writeFields h)
  | rodMarked => exact .execRodMarked h
  | migrationStart => exact .execMigrationStart h
  | migrationEnd => exact .execMigrationEnd (s := s) h
  | rodFail => exact .execRodFail h
  | ringEnable => exact .next (.writeFields h)
  | ringDisable => exact .next (.writeFields h)
  | ringDisableEffect => exact .execRingDisableEffect h
  | dfeGo => exact .next (.writeFields h)
  | dfeEnable => exact .next (.writeFields h)
  | dfeDisable => exact .next (.writeFields h)
  | dfeFrameBoundary => exact .next (.ite (.dfeBoundary h) h)
  | dfeOutputInstant => exact .next (.ite (.ite (.dfePublish h) h) h)
  | tempHoldExpiry => exact .next (.ite (.dfeFaults h) h)
  | dfeCrossCheck => exact .next (.ite (.of_mems h (by with_reducible rfl)) h)
  | dfePathFail => exact .execDfePathFail h
  | pfeEnable => exact .next (.writeFields h)
  | pfeDisable => exact .next (.writeFields h)
  | pfeRangeWrite => exact .next (.writeReg h)
  | pfeConversion => exact .execPfeConversion h
  | cjHoldExpiry => exact .next (.ite (.pfeFaults h) h)
  | pfeCrossCheck => exact .next (.pfeStartCheck h)
  | pfePathFail => exact .next (.pfePathFail h)
  | curveSlotWrite => exact .next (.ite (.curveWrite h) h)
  | loopCmdOff => exact .next (.writeFields h)
  | loopCmdManual => exact .inTurn h
  | loopCmdAuto => exact .next (.writeFields h)
  | loopCmdSafe => exact .inTurn h
  | loopFire => exact .next (.writeFields h)
  | loopFireClr => exact .next (.writeFields h)
  | allSafe => exact .inTurn h
  | coeffWrite => exact .next (.writeReg h)
  | loopRwlWrite => exact .next (.writeAddr h)
  | dlPoolWrite => exact .next (.writeReg h)
  | lpeManWrite => exact .next (.writeReg h)
  | lpeRefWrite => exact .next (.writeReg h)
  | loopSampleInstant => exact .inTurn h
  | jobDispatch => exact .inTurn h
  | jobEnd => exact .execJobEnd h
  | qHoldExpiry => exact .execQHoldExpiry h
  | loopOutputInstant => exact .inTurn h
  | observeMaxExpiry => exact .inTurn h
  | matrixUnitFail => exact .inTurn h
  | rcSnap => exact .next (.writeFields h)
  | snapComplete => exact .execSnapComplete h
  | tableLoadDone => exact .execTableLoadDone h
  | rcPoolWrite => exact .next (.writeReg h)
  | traceArm => exact .next (.writeFields h)
  | traceTrig => exact .next (.writeFields h)
  | traceStop => exact .next (.writeFields h)
  | tracePeriodSample => exact .inTurn h
  | solCmdOff => exact .inTurn h
  | solCmdOn => exact .inTurn h
  | solCmdPulse => exact .inTurn h
  | solCmdRepeat => exact .inTurn h
  | solStartInstant => exact .inTurn h
  | deferredPeakStart => exact .execDeferredPeakStart h
  | solRepeatGrid => exact .inTurn h
  | solPulseEnd => exact .execSolPulseEnd h
  | solPeakEnd => exact .execSolPeakEnd h
  | pullinDetected => exact .next (.ite (.setF (.setF (.setSol h))) h)
  | dropoutCapture => exact .execDropoutCapture h
  | dropoutResult => exact .execDropoutResult h
  | solOvercurrentTrip => exact .execSolOvercurrentTrip h
  | solClampHot => exact .execSolClampHot h
  | solClampCool => exact .next (.ite (.setF h) h)
  | solChannelLost => exact .next (.ite (.solLose h) h)
  | solRailOvercurrent => exact .next (.ite (.solBankDown h) h)
  | vsolUndervoltage => exact .execVsolUndervoltage h
  | vsolRecovered => exact .next (.ite (.event (.setF h)) h)
  | solClearTrip => exact .next (.writeFields h)
  | solBankRestore => exact .next (.writeFields h)
  | solEnable => exact .next (.writeFields h)
  | solDisable => exact .next (.writeFields h)
  | solClassSWrite => exact .next (.writeFields h)
  | lswCmdOff => exact .next (.writeFields h)
  | lswCmdOn => exact .next (.writeFields h)
  | lswCmdPwm => exact .next (.writeFields h)
  | lswPeriodStart => exact .next (.ite (.lswPeriod h) h)
  | lswPwmOffEdge => exact .execLswPwmOffEdge h
  | lswCurrentLimitTrip => exact .execLswCurrentLimitTrip h
  | lampWindowEnd => exact .next (.ite (.setF h) h)
  | thermalLatch => exact .execThermalLatch h
  | thermalRelease => exact .execThermalRelease h
  | retryRestart => exact .execRetryRestart h
  | retryReload => exact .execRetryReload h
  | lswClearFault => exact .next (.writeFields h)
  | openLoadTest => exact .execOpenLoadTest h
  | lswConductingWhileOff => exact .next (.ite (.lswGroupDown (.lswLose h)) h)
  | lswNotConducting => exact .next (.ite (.lswLose h) h)
  | groupOvercurrent => exact .next (.ite (.lswGroupDown h) h)
  | groupOverload => exact .execGroupOverload h
  | groupUndervoltage => exact .execGroupUndervoltage h
  | groupUndervoltageEnd => exact .execGroupUndervoltageEnd h
  | groupRestore => exact .next (.writeFields h)
  | lswEnable => exact .next (.writeFields h)
  | lswDisable => exact .next (.writeFields h)
  | mtrPeriodCentre => exact .inTurn h
  | mtrCmdWrite => exact .inTurn h
  | mtrEnable => exact .inTurn h
  | mtrDisable => exact .inTurn h
  | alignEnd => exact .next (.ite (.setMtr (.mtrGo h)) h)
  | stallAttempt => exact .inTurn h
  | retryWaitEnd => exact .execRetryWaitEnd h
  | attemptsReset => exact .next (.ite (.setF h) h)
  | mtrClearTrip => exact .inTurn h
  | mtrClearBlock => exact .inTurn h
  | mtrClearTach => exact .inTurn h
  | mtrClearHall => exact .inTurn h
  | phaseOvercurrentTrip => exact .inTurn h
  | desaturationTrip => exact .inTurn h
  | filteredOvercurrentTrip => exact .inTurn h
  | bitstreamLost => exact .inTurn h
  | phaseOpen => exact .inTurn h
  | bridgeOvertemperature => exact .execBridgeOvertemperature h
  | bridgeCooled => exact .execBridgeCooled h
  | vdrvOvervoltage => exact .execVdrvOvervoltage h
  | vdrvOvervoltageEnd => exact .execVdrvOvervoltageEnd h
  | vdrvUndervoltage => exact .execVdrvUndervoltage h
  | vdrvUndervoltageEnd => exact .execVdrvUndervoltageEnd h
  | buslim => exact .next (.ite (.busVdrv h) h)
  | mtrConductingWhileOff => exact .next (.ite (.mtrLose h) h)
  | desatWhileOff => exact .next (.ite (.mtrLose h) h)
  | tachLost => exact .execTachLost h
  | hallLost => exact .execHallLost h
  | airflowOkAssert => exact .execAirflowOkAssert h
  | fanEvaluation => exact .inTurn h
  | fanZoneEnable => exact .execFanZoneEnable h
  | canFrameReceived => exact .inTurn h
  | rxBufferLock => exact .next (.ite h (.rxRead h))
  | rxBufferRelease => exact .next (.ite h (.rxRead h))
  | rxReleaseWrite => exact .next (.writeReg h)
  | canTxreq => exact .next (.writeReg h)
  | canTxcancel => exact .next (.writeReg h)
  | txStart => exact .next (.canStart h)
  | transmitted => exact .execTransmitted h
  | arbitrationLost => exact .execArbitrationLost h
  | busError => exact .execBusError h
  | canRecover => exact .next (.writeFields h)
  | recoveryComplete => exact .execRecoveryComplete h
  | canModeWrite => exact .next (.writeFields h)
  | modeChangeEffect => exact .next (.ite (.canModeNow h) h)
  | canClrcnt => exact .next (.writeFields h)
  | canWakePattern => exact .next (.ite (.wake (.setF h)) h)
  | boardEnable => exact .next (.writeFields h)
  | boardDisable => exact .next (.writeFields h)
  | referenceMessage => exact .next (.canReceive h)
  | timeMark => exact .next (.canReceive h)
  | watchExpiry => exact .execWatchExpiry h
  | referenceRequest => exact .execReferenceRequest h
  | ttsWindowStart => exact .execTtsWindowStart h
  | ttsWindowEnd => exact .execTtsWindowEnd h
  | timNowLoRead => exact .next (.ite (.timNowLo h) h)
  | timSrcWrite => exact .next (.writeFields h)
  | ptpSync => exact .execPtpSync h
  | ptpFollowUp => exact .execPtpFollowUp h
  | ptpAnnounce => exact .next (.ite (.setPtp h) h)
  | ptpDelayReq => exact .next (.ite (.of_mems (.setPtp h) (by with_reducible rfl)) h)
  | ptpDelayResp => exact .execPtpDelayResp h
  | holdoverExpiry => exact .next (.ite (.timRate (.setF h)) h)
  | colRetire => exact .inTurn h
  | colClearHealth => exact .inTurn h
  | colReturn => exact .inTurn h
  | livenessExpiry => exact .inTurn h
  | probationExpiry => exact .inTurn h
  | columnFreed => exact .inTurn h
  | creditTimer => exact .execCreditTimer h
  | hello => exact .inTurn h
  | bye => exact .inTurn h
  | regRead => exact .inTurn h
  | regWrite => exact .inTurn h
  | ringData => exact .inTurn h
  | credit => exact .inTurn h
  | values => exact .inTurn h
  | loadBegin => exact .inTurn h
  | loadData => exact .inTurn h
  | loadCommit => exact .inTurn h
  | statusQ => exact .inTurn h
  | wake => exact .inTurn h
  | hostTxRecord => exact .next (.ite h (.txRecord h))
  | replayMarkWritten => exact .execReplayMarkWritten h
  | arpRequest => exact .execArpRequest h
  | neighbourSolicitation => exact .execNeighbourSolicitation h
  | echoRequest => exact .execEchoRequest h
  | linkChange => exact .execLinkChange h
  | linkSpeedTry => exact .next (.ite (.of_mems h (by with_reducible rfl)) h)
  | stoCommit => exact .next (.writeFields h)
  | commitEnd => exact .execCommitEnd h
  | stoLogw => exact .next (.writeFields h)
  | logRecordWritten => exact .next (.logWriteOne h)
  | stoUdataAccess => exact .execStoUdataAccess h
  | vlogLost => exact .execVlogLost h
  | scrubPass => exact .execScrubPass h
  | sectionRemapDone => exact .execSectionRemapDone h
  | spareSelfTest => exact .execSpareSelfTest h
  | hltMapclr => exact .next (.writeFields h)
  | sensorRead => exact .execSensorRead h
  | coreSupplyCritical => exact .execCoreSupplyCritical h
  | coreSupplyCleared => exact .execCoreSupplyCleared h
  | sysCmdReady => exact .next (.writeFields h)
  | sysCmdBatch => exact .next (.writeFields h)
  | sysCmdFlow => exact .next (.writeFields h)
  | sysCmdStore => exact .next (.writeFields h)
  | sysCmdDormant => exact .next (.writeFields h)
  | sysCmdHold => exact .next (.writeFields h)
  | sysCmdReset => exact .next (.writeFields h)
  | commissionExit => exact .execCommissionExit h
  | domainSwitch => exact .next (.writeReg h)
  | domainOn => exact .execDomainOn h
  | hostLoss => exact .execHostLoss h
  | firePermitAssert => exact .execFirePermitAssert h
  | firectlEnable => exact .next (.writeFields h)
  | safeStopAssert => exact .execSafeStopAssert h
  | safeStopRelease => exact .execSafeStopRelease h
  | ssDiscrepancy => exact .execSsDiscrepancy h
  | ssDiscClear => exact .next (.writeFields h)
  | powerOn => exact .execPowerOn h
  | externalReset => exact .execExternalReset h
  | resetNRelease => exact .next (.resetRelease h)
  | watchdogKick => exact .next (.writeFields h)
  | watchdogExpiry => exact .execWatchdogExpiry h
  | dormantEntered => exact .execDormantEntered h
  | wakePin => exact .execWakePin h
  | wakeTimer => exact .next (.ite (.wake h) h)
  | resumeComplete => exact .execResumeComplete h
  | holdRelease => exact .next (.writeReg h)
  | holdReleaseAxis => exact .next (.writeFields h)
  | holdMaxExpiry => exact .next (.ite (.lswHoldExpire h) h)
  | runonMaxExpiry => exact .next (.ite (.mtrHoldExpire h) h)
  | discreteInputEdge => exact .execDiscreteInputEdge h
  | countClear => exact .next (.writeFields h)
  | ipeakReached => exact .next (.ite (.solNoPull (.setSol h)) h)
  | solDecayEnd => exact .next (.ite (.setSol (.solShow h)) h)
  | vlogHoldOff => exact .next (.ite (.setSys h) h)
  | vlogHoldOffEnd => exact .next (.setSys h)
  | busIntegration => exact .next (.ite (.setCan h) h)
  | netFrameDropped => exact .inTurn h
  | bootComplete => exact .execBootComplete h
  | cjSensorRead => exact .next (.ite (.wr h) h)

/-- A step keeps the memories of the state in canonical form. -/
theorem nextOk_step (h : s.memOk) : NextOk (step s) := by
  unfold step
  split
  · exact .idleStep (.settle (.settleHeld h))
  · exact nextOk_exec _ (.of_mems h (by rfl))

/-- Settles O60: each function of the model that a step calls keeps the canonical form, and so does the step. -/
theorem memoriesStayCanonical : Obligations.MemoriesStayCanonical := by
  unfold Obligations.MemoriesStayCanonical
  intro s t h e
  have next := nextOk_step h
  rwa [e] at next

end Sys2Proof.Machine


/-! What changes Rod `r` and the registers that satisfy `p` alone. -/

namespace Sys2Proof.Claims

open Sys2Proof.Machine

variable {s t : State} {r : Nat} {p : Nat → Prop}

theorem onlyRod.refl (s : State) : onlyRod s s r p := ⟨rfl, fun _ _ => rfl, RegsBut.refl s⟩

theorem onlyRod.setRod (h : onlyRod s t r p) {x : RodX} : onlyRod s (t.setRod r x) r p := by
  obtain ⟨rest, others, regs⟩ := h
  exact ⟨rest, fun q hq => (State.setRod_rod_ne t (Ne.symm hq) _).trans (others q hq), regs.of_regs rfl⟩

theorem onlyRod.wr (h : onlyRod s t r p) {d : RegDesc} {v : Word} {i j : Nat} (hp : p (d.addr i j)) :
    onlyRod s (t.wr d v i j) r p := by
  obtain ⟨rest, others, regs⟩ := h
  exact ⟨rest, others, regs.wr hp⟩

theorem onlyRod.setF (h : onlyRod s t r p) {fl : Fld} {v i j : Nat} (hp : p (fl.reg.addr i j)) :
    onlyRod s (t.setF fl v i j) r p := by
  obtain ⟨rest, others, regs⟩ := h
  exact ⟨rest, others, regs.setF hp⟩

theorem onlyRod.setRodSt (h : onlyRod s t r p) {st : Nat} (hp : p (R.FRM_RSTAT.addr r)) :
    onlyRod s (t.setRodSt r st) r p := h.setRod.setF hp

theorem onlyRod.rodGoto (h : onlyRod s t r p) {next : Word} (hp : p (R.FRM_PC.addr r)) :
    onlyRod s (Machine.rodGoto t r next) r p := h.setRod.wr hp

theorem onlyRod.rodDone (h : onlyRod s t r p) (hp : p (R.FRM_PC.addr r)) : onlyRod s (Machine.rodDone t r) r p :=
  h.rodGoto hp

theorem onlyRod.setG (h : onlyRod s t r p) {d : BitVec 5} {v : Word} : onlyRod s (Machine.setG t r d v) r p := by
  unfold Machine.setG
  split
  · exact h
  · exact h.setRod

end Sys2Proof.Claims

/-! FENCE and TIME (R74, R76, R112, R122, R123, R126). -/

namespace Sys2Proof.Machine

open Sys2Proof.Claims

/-! ### A Rod's state and what it is held in -/

section

variable {s : State} {r : Nat}

@[simp] theorem setHold_rod (s : State) (r : Nat) (h : RodHold) : (setHold s r h).rod r = { s.rod r with hold := h } :=
  State.setRod_rod ..

@[simp] theorem setRodSt_rod_running (s : State) (r : Nat) :
    (s.setRodSt r rodRunning).rod r = { s.rod r with runFrom := runsSince s r } := by
  simp [State.setRodSt, runsSince]

theorem setRodSt_rod (s : State) {r st : Nat} (h : st ≠ rodRunning) :
    (s.setRodSt r st).rod r = { s.rod r with ran := s.rodRan r, runFrom := none } := by
  simp [State.setRodSt, h]

theorem setRodSt_rodSt (s : State) (r : Nat) {st : Nat} (h : st < 8) : (s.setRodSt r st).rodSt r = st := by
  rw [State.setRodSt, State.rodSt, State.f_setF_same _ _ _ _ _ (by decide) (by decide)]
  exact Nat.mod_eq_of_lt h

/-- A Rod that is held at a safe point (R67, R69). -/
theorem rests_of_safePoint (s : State) (r : Nat) (h : RodHold) :
    let t := reachSafePoint ((setHold s r h).setRodSt r rodWaiting) r
    t.rod r = rests s r h ∧ t.rodSt r = rodWaiting ∧ onlyRod s t r (fun a => a = R.FRM_RSTAT.addr r) := by
  have ran : (setHold s r h).rodRan r = s.rodRan r := by
    simp only [State.rodRan, setHold_rod]
    rfl
  refine ⟨?_, setRodSt_rodSt (setHold s r h) r (by decide), (onlyRod.refl (p := (· = R.FRM_RSTAT.addr r)) s).setRod.setRodSt rfl |>.setRod⟩
  rw [reachSafePoint, State.setRod_rod, setRodSt_rod _ (by decide), setHold_rod, ran]
  rfl

/-- An instruction that changes nothing else goes on at `next`. -/
theorem jumps_rodGoto (s : State) (r : Nat) (next : Word) : jumps s (rodGoto s r next) r next :=
  ⟨rodGoto_rod .., State.rd_wr_same .., (onlyRod.refl s).rodGoto rfl⟩

end

/-! ### The accesses a FENCE waits on -/

section

variable {s : State} {r : Nat}

/-- The class of an outstanding access is one of those of R73 and no other. -/
theorem ofClass_iff (p : Posted) (c : Nat) : ofClass p c ↔ c = postedClass p := by
  cases p with
  | store => rfl
  | commit => rfl
  | logw => rfl
  | out a v =>
    have timed : (List.range 24).any (fun n => a == R.SOL_CMD.addr n) = true ↔ ∃ n < 24, a = R.SOL_CMD.addr n := by
      simp [List.any_eq_true]
    simp only [ofClass, postedClass, ioClass, timed]
    split
    · next sto => simp [sto]
    · next sto =>
      split
      · next tim => simp [sto, tim]
      · next tim =>
        split
        · next sol => simp [sto, tim, sol]
        · next sol => simp [sto, tim, sol]

/-- A FENCE waits where an access of a class in its mask is outstanding (R122). -/
theorem outstanding_iff (s : State) (r mask : Nat) : outstanding s r mask = true ↔ fenced s r mask := by
  simp [outstanding, fenced, ofClass_iff]

end

/-! ### FENCE and TIME -/

section

variable {s : State} {r : Fin 16} {f : ImmForm}

theorem execFence_body (run : ready s r) (hd : f.d = 0) (ha : f.a = 0) (hi : f.imm.toNat < 32) :
    exec (.fence r f) s = .next (if outstanding s r f.imm.toNat then
      let t := setHold s r (.fence f.imm.toNat)
      if t.atSafePoint r then reachSafePoint (t.setRodSt r rodWaiting) r else t
    else rodDone s r) := by
  obtain ⟨runs, pc, bead⟩ := run
  show execFence r f s = _
  have legal : (f.d != 0 || f.a != 0 || decide (f.imm.toNat ≥ 32)) = false := by simp [hd, ha, hi]
  simp only [execFence, legal, rodExec_body runs pc bead]

theorem atSafePoint_fence (s : State) (r m : Nat) :
    (setHold s r (.fence m)).atSafePoint r = true ↔ fenced s r (m &&& 24) := by
  rw [← outstanding_iff]
  simp [State.atSafePoint, outstanding]

/-- A held FENCE. -/
theorem fence_holds (run : ready s r) (hd : f.d = 0) (ha : f.a = 0) (hi : f.imm.toNat < 32)
    (waits : fenced s r f.imm.toNat) : runsTo (.fence r f) s fun t =>
      (fenced s r (f.imm.toNat &&& 24) → t.rodSt r = rodWaiting ∧ t.rod r = rests s r (.fence f.imm.toNat)) ∧
        (¬ fenced s r (f.imm.toNat &&& 24) →
          t.rodSt r = s.rodSt r ∧ t.rod r = { s.rod r with hold := .fence f.imm.toNat }) ∧
        onlyRod s t r (fun a => a = R.FRM_RSTAT.addr r) := by
  refine ⟨_, execFence_body run hd ha hi, ?_⟩
  rw [if_pos ((outstanding_iff ..).mpr waits)]
  by_cases safe : fenced s r (f.imm.toNat &&& 24)
  · obtain ⟨rod, st, only⟩ := rests_of_safePoint s r (.fence f.imm.toNat)
    simp only [(atSafePoint_fence ..).mpr safe, if_true]
    exact ⟨fun _ => ⟨st, rod⟩, fun no => absurd safe no, only⟩
  · simp only [if_neg (mt (atSafePoint_fence ..).mp safe)]
    exact ⟨fun yes => absurd yes safe, fun _ => ⟨rfl, setHold_rod ..⟩, (onlyRod.refl s).setRod⟩

/-- The end of a FENCE: the Rod runs again, in sequence. -/
theorem fence_resumes (s : State) (r : Nat) :
    let t := rodDone ((setHold s r .none).setRodSt r rodRunning) r
    t.rod r = { s.rod r with pc := (s.rod r).pc + 4, hold := .none, runFrom := runsSince s r } ∧ t.rodSt r = rodRunning ∧
      t.rd R.FRM_PC r = (s.rod r).pc ∧ onlyRod s t r (rodRegs r) := by
  have apart : R.FRM_RSTAT.addr r ≠ R.FRM_PC.addr r := by simp [RegDesc.addr, R.FRM_RSTAT, R.FRM_PC]
  refine ⟨?_, ?_, ?_, (onlyRod.refl s).setRod.setRodSt (.inr rfl) |>.rodDone (.inl rfl)⟩
  · rw [rodDone_rod, setRodSt_rod_running, setHold_rod]
    simp only [runsSince, setHold_rod]
    rfl
  · exact (State.f_wr_ne _ apart.symm).trans (setRodSt_rodSt _ r (by decide))
  · rw [rodDone, rodGoto, State.rd_wr_same, setRodSt_rod_running, setHold_rod]

theorem unmoved_iff (s : State) (r : Nat) : s.migration.any (fun m => m.rod == r) = false ↔ unmoved s r := by
  cases h : s.migration <;> simp [unmoved, h]

theorem execFenceComplete_held {m : Nat} (held : (s.rod r).hold = .fence m) (still : unmoved s r) :
    exec (.fenceComplete r) s =
      .next (if outstanding s r m then s else rodDone ((setHold s r .none).setRodSt r rodRunning) r) := by
  show execFenceComplete r s = _
  simp only [execFenceComplete, held, (unmoved_iff s r).mpr still, Bool.or_false]

/-- The pair at an even register that is not g0 (R93). -/
theorem gReg_setPair (s : State) (r : Nat) {d : BitVec 5} (hd : d ≠ 0) (even : d.toNat % 2 = 0) (v : Nat) (n : BitVec 5) :
    gReg (setPair s r d v) r n =
      if n = d then word v else if n = d + 1 then word (v / 2 ^ 32) else gReg s r n := by
  have next : d + 1 ≠ 0 := by bv_omega
  have other : d ≠ d + 1 := by bv_omega
  rw [setPair, gReg_setG, gReg_setG]
  by_cases low : n = d
  · subst low
    rw [if_neg fun h => other h.1, if_pos ⟨rfl, hd⟩, if_pos rfl]
  · by_cases high : n = d + 1
    · rw [if_pos ⟨high, next⟩, if_neg low, if_pos high]
    · rw [if_neg fun h => high h.1, if_neg fun h => low h.1, if_neg low, if_neg high]

theorem setPair_rod (s : State) (r : Nat) (d : BitVec 5) (v : Nat) :
    (setPair s r d v).rod r = { s.rod r with g := ((setPair s r d v).rod r).g } := by
  rw [setPair, setG_rod, setG_rod]

/-- The words of a pair (R93). -/
theorem pair_words (v : Nat) : word (v % 2 ^ 64) = (BitVec.ofNat 64 v).extractLsb' 0 32 ∧
    word (v % 2 ^ 64 / 2 ^ 32) = (BitVec.ofNat 64 v).extractLsb' 32 32 := by
  constructor <;> apply BitVec.eq_of_toNat_eq <;> simp [word, Nat.shiftRight_eq_div_pow]

theorem execTime_body (run : ready s r) (hd : f.d ≠ 0) (even : f.d.toNat % 2 = 0) (hi : f.imm = 0)
    (none : ∀ a v, Posted.out a v ∉ (s.rod r).posted) : exec (.time r f) s =
      .next (rodDone (setPair s r f.d ((s.tbNow + (gReg s r f.a).toNat) % 2 ^ 64)) r) := by
  obtain ⟨runs, pc, bead⟩ := run
  show execTime r f s = _
  have legal : (badPair f.d || f.imm != 0) = false := by simpa [badPair, even, hi] using hd
  simp only [execTime, legal, rodExec_body runs pc bead, drainOuts_of_none none]

end

/-- Settles O15: the classes of R73 decide whether FENCE waits, and what it leaves at a safe point is what WAIT leaves
there; for TIME the two words of the pair are those of the sum modulo 2^64. -/
theorem fencesAndTime : Obligations.FencesAndTime := by
  unfold Obligations.FencesAndTime
  intro r s
  refine ⟨fun run f hd ha hi => ⟨fun no => ⟨_, execFence_body run hd ha hi, ?_⟩, fence_holds run hd ha hi⟩,
    fun m held still => ⟨fun no => ⟨_, execFenceComplete_held held still, ?_⟩, fun yes => ?_⟩,
    fun run f hd even hi none => ⟨_, execTime_body run hd even hi none, ?_, ?_, ?_, ?_⟩⟩
  · rw [if_neg (mt (outstanding_iff ..).mp no)]
    exact jumps_rodGoto ..
  · rw [if_neg (mt (outstanding_iff ..).mp no)]
    exact fence_resumes s r
  · rw [execFenceComplete_held held still, if_pos ((outstanding_iff ..).mpr yes)]
  · intro n
    obtain ⟨low, high⟩ := pair_words (s.tbNow + (gReg s r f.a).toNat)
    rw [gReg_rodDone, gReg_setPair s r hd even, low, high]
  · rw [rodDone_rod, setPair_rod]
  · rw [rodDone, rodGoto, State.rd_wr_same, setPair_rod]
  · exact ((onlyRod.refl s).setG.setG).rodDone rfl

end Sys2Proof.Machine


/-! Disabling a transmit ring while beads of a discarded record are still to come (R62, R477). -/

namespace Sys2Proof.Machine

open Sys2Proof.Claims

/-- The Frame domain is on; ring 14 is enabled and empty, and three beads of a record that it discarded are still to come. -/
def owedRing : State :=
  { regs := [(R.SYS_PDSTAT.base, 0x22), (R.CRG_CFG.addr 14, 1)], net := { txOwed := [(14, 3)] } }

theorem owedRing_enabled : owedRing.domOn 2 = true ∧ (owedRing.ring 14).tags = [] ∧
    owedRing.fb F.CRG_CFG_EN 14 = true ∧ owedRing.rd R.CRG_RESERVED 14 = 0 := by
  decide

/-- RING_DISABLE leaves the three beads owed: only an enable forgets them. -/
theorem owedRing_disable : ∃ t, exec (.ringDisable 14) owedRing = .next t ∧ t.net.txOwed = [(14, 3)] :=
  ⟨_, rfl, by decide +kernel⟩

/-- Refutes O13: in `owedRing` a disable does not forget the beads still to come; the model does so at the next enable,
which the statement says changes nothing but the ring. -/
theorem not_ringEnableAndDisable : ¬ Obligations.RingEnableAndDisable := by
  unfold Obligations.RingEnableAndDisable
  intro h
  obtain ⟨power, untagged, enabled, free⟩ := owedRing_enabled
  obtain ⟨t, runs, owed⟩ := owedRing_disable
  obtain ⟨-, -, drops, -⟩ := h 14 owedRing power untagged
  obtain ⟨u, runs', -, -, -, -, net, -⟩ := drops enabled free
  obtain rfl : t = u := Host.Outcome.next.inj (runs.symm.trans runs')
  rw [net] at owed
  exact absurd owed (by decide)

end Sys2Proof.Machine


/-! An exception while a Rod holds a slot of the health ring (R54, R63, R86, R527). -/

namespace Sys2Proof.Machine

open Sys2Proof.Claims

/-- The Frame domain is on. Ring 19, into which no Rod may produce (R63), has a free slot at its tail 0, an unwritten
reservation of slot 5 at its head, and behind that one of slot 0 by Rod 0. -/
def healthSlotHeld : State :=
  { regs := [(R.SYS_PDSTAT.base, 0x22), (R.CRG_CFG.addr 19, 1), (R.CRG_TALLY.addr 19, 1)],
    rings := [(19, { resv := [⟨5, false, false, none, 0⟩, ⟨0, false, false, some 0, 0⟩] })] }

/-- The fault voids the Rod's reservation, and its health event then takes slot 0 and marks every reservation of it as a
bead. -/
theorem healthSlotHeld_raise :
    ∃ v ∈ ((raise healthSlotHeld 0 0xF 0x0F 0 0).ring 19).resv, v.rod = some 0 ∧ v.isVoid = false :=
  ⟨⟨0, true, false, some 0, 0⟩, by decide +kernel⟩

/-- Refutes O8: in `healthSlotHeld` a slot that the faulting Rod had reserved is no void after its exception. The statement
lacks that a Rod holds reservations on the rings Rods produce into alone. -/
theorem not_trapsAndFetchFaults : ¬ Obligations.TrapsAndFetchFaults := by
  unfold Obligations.TrapsAndFetchFaults
  rintro ⟨-, -, faults⟩
  obtain ⟨v, held, mine, bead⟩ := healthSlotHeld_raise
  obtain ⟨-, -, -, -, voids, -⟩ := faults 0 healthSlotHeld 0xF 0x0F 0 0 (by decide) (fun _ named => nomatch named)
  obtain ⟨-, void⟩ := voids 19 (by decide) v held mine
  rw [bead] at void
  cases void

end Sys2Proof.Machine


/-! Writes of the registers of SYS, HLT and DIO that hold commands alone (R9, R18). -/

namespace Sys2Proof.Machine

open Sys2Proof.Claims

variable {s t u : State}

/-- The command registers of SYS, HLT and DIO: no field of theirs keeps what is written. -/
def commandRegs : List RegDesc := [R.SYS_CMD, R.SYS_WDTKICK, R.SYS_HREL, R.SYS_HRELM, R.DIO_CNTCLR, R.HLT_MAPCLR]

/-- A register with its contents laid down again. -/
def laidAgain (s : State) (d : RegDesc) : State := s.wr d (s.rd d)

theorem laidAgain_regs (s : State) (d : RegDesc) : RegsBut (· = d.addr) s (laidAgain s d) := (RegsBut.refl s).wr rfl

theorem commandRegs_forall {P : RegDesc → Prop} (cmd : P R.SYS_CMD) (kick : P R.SYS_WDTKICK) (hrel : P R.SYS_HREL)
    (hrelm : P R.SYS_HRELM) (cntclr : P R.DIO_CNTCLR) (mapclr : P R.HLT_MAPCLR) : ∀ d ∈ commandRegs, P d := by
  simp only [commandRegs, List.forall_mem_cons]
  exact ⟨cmd, kick, hrel, hrelm, cntclr, mapclr, fun _ h => absurd h List.not_mem_nil⟩

/-- No field of a command register stands in the way of a write. -/
theorem command_fields (s : State) (old v : Word) :
    ∀ d ∈ commandRegs, d.fields.any (fieldBad s d 0 0 old v) = false := by
  apply commandRegs_forall <;>
    simp [fieldBad, R.SYS_CMD, R.SYS_WDTKICK, R.SYS_HREL, R.SYS_HRELM, R.DIO_CNTCLR, R.HLT_MAPCLR]

theorem command_live (on : s.domOn 0 = true) : ∀ d ∈ commandRegs, regDead s d d.addr 0 0 = false := by
  have dom : ∀ d ∈ commandRegs, domainOf d.addr = 0 := by decide
  have present : ∀ d ∈ commandRegs, regAbsent s d d.addr 0 = false ∧ regHidden s d 0 0 = false := by
    apply commandRegs_forall <;>
      simp [regAbsent, regHidden, solHidden, canHidden, RegDesc.addr, R.SYS_CMD, R.SYS_WDTKICK, R.SYS_HREL, R.SYS_HRELM,
        R.DIO_CNTCLR, R.HLT_MAPCLR]
  intro d hd
  simp only [regDead, dom d hd, on, present d hd, Bool.not_true, Bool.or_false]

/-- The store keeps nothing of a command register. -/
theorem command_unstored (t : State) (v : Word) : ∀ d ∈ commandRegs, regStore t d 0 0 v = t := by
  have outside : ∀ d ∈ commandRegs, storedOffset d.addr = none ∧ keyField d.addr = false := by decide
  intro d hd
  obtain ⟨off, key⟩ := outside d hd
  simp only [regStore, storeField, off, key, Bool.false_eq_true, if_false]

/-- A write of a command register is refused, or does what its unit says. -/
theorem writeReg_command (on : s.domOn 0 = true) (who : Writer) (v : Word) : ∀ d ∈ commandRegs,
    writeReg who d 0 0 v s =
      if regRefuse s d 0 0 (s.rd d) (regBits s d 0 v) then regRefused s d d.addr 0
      else regAct (laidAgain s d) who d 0 0 (s.rd d) (regBits s d 0 v) := by
  have shape : ∀ d ∈ commandRegs, solOddEnable s d 0 v = false ∧ (d.id == .CAN_TXB) = false ∧ regOld s d 0 0 = s.rd d ∧
      (d.id == .DFE_CH_CTL) = false ∧ ∀ v, regPut s d 0 0 v = laidAgain s d := by
    apply commandRegs_forall <;> exact ⟨rfl, rfl, rfl, rfl, fun _ => rfl⟩
  intro d hd
  obtain ⟨even, body, old, plain, put⟩ := shape d hd
  have refused (v : Word) : regRefusedWith s d d.addr 0 v = regRefused s d d.addr 0 := by
    simp only [regRefusedWith, plain, Bool.false_and, Bool.false_eq_true, if_false]
  have laid (v : Word) : regStore (regPut s d 0 0 v) d 0 0 v = laidAgain s d := by
    rw [put]; exact command_unstored _ v d hd
  unfold writeReg regWrite
  simp only [command_live on d hd, command_fields s _ _ d hd, even, body, old, refused, laid, Bool.false_or, Bool.false_and,
    Bool.or_self, Bool.false_eq_true, if_false]

end Sys2Proof.Machine

/-! Load switch holds that end: by release and by their time limit (R338, R557). -/

namespace Sys2Proof.Machine

open Sys2Proof.Claims

variable {s t u : State} {n m : Nat}

/-! ### What stands for one load switch -/

/-- The conditions of load switch `m`, its command and its state are those of `s`. -/
structure SwSame (s t : State) (m : Nat) : Prop where
  behind : t.lswX m = s.lswX m
  ctl : t.rd R.LSW_CTL m = s.rd R.LSW_CTL m
  stat : t.rd R.LSW_STAT m = s.rd R.LSW_STAT m
  group : t.rd R.LSW_GRSTAT (m / 8) = s.rd R.LSW_GRSTAT (m / 8)
  domains : t.rd R.SYS_PDSTAT = s.rd R.SYS_PDSTAT
  sys : t.rd R.SYS_STAT = s.rd R.SYS_STAT
  held : t.lswHeld m = s.lswHeld m

namespace SwSame

theorem refl (s : State) (m : Nat) : SwSame s s m := ⟨rfl, rfl, rfl, rfl, rfl, rfl, rfl⟩

theorem trans (h : SwSame s t m) (h' : SwSame t u m) : SwSame s u m :=
  ⟨h'.behind.trans h.behind, h'.ctl.trans h.ctl, h'.stat.trans h.stat, h'.group.trans h.group,
    h'.domains.trans h.domains, h'.sys.trans h.sys, h'.held.trans h.held⟩

theorem on (h : SwSame s t m) : t.fb F.LSW_STAT_ON m = s.fb F.LSW_STAT_ON m := by
  simp only [State.fb, State.f, F.LSW_STAT_ON, h.stat]

theorem cmd (h : SwSame s t m) : t.f F.LSW_STAT_CMD m = s.f F.LSW_STAT_CMD m := by
  simp only [State.f, F.LSW_STAT_CMD, h.stat]

theorem blocked (h : SwSame s t m) : lswBlocked t m = lswBlocked s m := by
  simp only [lswBlocked, State.lswClosed, State.domOn, State.fb, State.f, F.LSW_CTL_EN, F.LSW_STAT_TRIP, F.LSW_STAT_HOT,
    F.LSW_STAT_EXHAUSTED, F.LSW_STAT_PENDING, F.LSW_STAT_LOST, F.LSW_GRSTAT_UNDERV, F.LSW_GRSTAT_DOWN, F.SYS_STAT_SS,
    h.behind, h.ctl, h.stat, h.group, h.domains, h.sys, h.held]

/-- A change of registers other than these. -/
theorem of_regsBut {p : Nat → Prop} (h : RegsBut p s t) (behind : t.lsw = s.lsw) (held : t.lswHeld m = s.lswHeld m)
    (ctl : ¬ p (R.LSW_CTL.addr m)) (stat : ¬ p (R.LSW_STAT.addr m)) (group : ¬ p (R.LSW_GRSTAT.addr (m / 8)))
    (domains : ¬ p R.SYS_PDSTAT.addr) (sys : ¬ p R.SYS_STAT.addr) : SwSame s t m :=
  ⟨by simp only [State.lswX, behind], h.rd ctl, h.rd stat, h.rd group, h.rd domains, h.rd sys, held⟩

end SwSame

/-! ### The end of a hold -/

theorem lswHeld_setMask (s : State) (b : Bool) (hm : m < 32) :
    (s.setMask R.SYS_HELD n b).lswHeld m = if m = n then b else s.lswHeld m :=
  setMask_bit s R.SYS_HELD b hm

theorem held_not_event : ¬ eventReg R.SYS_HELD.addr := fun h => by
  have area := eventReg_area h
  simp only [RegDesc.addr, R.SYS_HELD] at area
  omega

theorem Posts.lsw (h : Posts s t) : t.lsw = s.lsw := by simpa [State.apart] using congrArg State.lsw h.1

theorem Posts.lswHeld (h : Posts s t) (m : Nat) : t.lswHeld m = s.lswHeld m :=
  congrArg (maskBit · m) (h.2.rd held_not_event)

/-- The hold of a load switch ends: its bit of SYS_HELD clears, and what its event leaves. -/
theorem lswHoldEnd_ends (s : State) (hn : n < 32) (cause : Nat) :
    (∀ m, m < 32 → (lswHoldEnd s n cause).lswHeld m = (s.lswHeld m && m != n)) ∧
      (lswHoldEnd s n cause).lsw = s.lsw ∧ noisy noRegs (· = R.SYS_HELD.addr) s (lswHoldEnd s n cause) := by
  have posts := healthEvent_posts (s.setMask R.SYS_HELD n false) 0 0 0xD2 cause (word (0x200 + n))
  have cleared : noisy noRegs (· = R.SYS_HELD.addr) s (s.setMask R.SYS_HELD n false) := ⟨rfl, (RegsBut.refl s).wr (.inl rfl)⟩
  unfold lswHoldEnd
  split
  · refine ⟨fun m hm => ?_, posts.lsw, noisy_trans cleared (noisy_of_posts (fun _ => rfl) posts)⟩
    rw [posts.lswHeld, lswHeld_setMask s false hm]
    by_cases e : m = n <;> simp [e]
  · next free =>
    refine ⟨fun m _ => ?_, rfl, noisy_refl s⟩
    by_cases e : m = n
    · subst e; simp [free]
    · simp [e]

/-- A switch whose own hold does not end. -/
theorem lswHoldEnd_same (s : State) (hn : n < 32) (cause : Nat) (hm : m < 32) (h : m ≠ n) :
    SwSame s (lswHoldEnd s n cause) m := by
  obtain ⟨held, behind, noisy⟩ := lswHoldEnd_ends s hn cause
  have side {d : RegDesc} {i : Nat} (low : 0x41000000 ≤ d.addr i ∧ d.addr i < 0x42000000) :
      ¬ (d.addr i = R.SYS_HELD.addr ∨ eventReg (d.addr i)) := by
    rintro (e | e)
    · simp only [RegDesc.addr, R.SYS_HELD] at e low; omega
    · have area := eventReg_area e; omega
  refine SwSame.of_regsBut noisy.2 behind ((held m hm).trans (by simp [h])) (side ?_) (side ?_) (side ?_) ?_ ?_
  · simp only [RegDesc.addr, R.LSW_CTL]; omega
  · simp only [RegDesc.addr, R.LSW_STAT]; omega
  · simp only [RegDesc.addr, R.LSW_GRSTAT]; omega
  · rintro (e | e)
    · exact absurd e (by decide)
    · have area := eventReg_area e; simp only [RegDesc.addr, R.SYS_PDSTAT] at area; omega
  · exact fun e => e.elim (fun e => absurd e (by decide)) sysStat_not_event

end Sys2Proof.Machine

/-! A write of SYS_HREL: load switches released one after another (R557). -/

namespace Sys2Proof.Machine

open Sys2Proof.Claims

variable {s t u : State} {n m : Nat}

/-! ### A switch that goes on -/

/-- A switch-on changes what stands behind its own channel and its status register. -/
theorem lswOn_else (s : State) (n : Nat) : (∀ m, m ≠ n → (lswOn s n).lswX m = s.lswX m) ∧
    RegsBut (· = R.LSW_STAT.addr n) s (lswOn s n) ∧ (lswOn s n).fb F.LSW_STAT_ON n = true := by
  let x := { s.lswX n with lampDue := false,
                           lampEnd := if (s.lswX n).lampDue && s.fb F.LSW_CTL_LAMP n then s.elapsed + 50000000 else (s.lswX n).lampEnd,
                           testAt := none, openHi := 0, openLo := 0 }
  let lit := if (s.lswX n).lampDue && s.fb F.LSW_CTL_LAMP n then (s.setLsw n x).setF F.LSW_STAT_LAMP_WIN 1 n else s.setLsw n x
  have lit_lsw : lit.lsw = tabPut s.lsw n x := by
    simp only [lit]; split <;> rfl
  have lit_regs : RegsBut (· = R.LSW_STAT.addr n) s lit := by
    simp only [lit]; split
    · exact RegsBut.setF (fl := F.LSW_STAT_LAMP_WIN) ((RegsBut.refl s).of_regs rfl) rfl
    · exact (RegsBut.refl s).of_regs rfl
  have eq : lswOn s n = lit.setF F.LSW_STAT_ON 1 n := rfl
  refine ⟨fun m h => ?_, ?_, ?_⟩
  · rw [eq, State.lswX, State.setF_lsw, lit_lsw, tabGet_tabPut_ne (Ne.symm h)]; rfl
  · rw [eq]; exact lit_regs.setF rfl
  · rw [eq, State.fb_setF_same lit F.LSW_STAT_ON 1 n 0 (by decide) (by decide)]; rfl

theorem lswStat_ne_held (n : Nat) : R.LSW_STAT.addr n ≠ R.SYS_HELD.addr := by
  simp only [RegDesc.addr, R.LSW_STAT, R.SYS_HELD]; omega

theorem lswOn_held (s : State) (n m : Nat) : (lswOn s n).lswHeld m = s.lswHeld m :=
  congrArg (maskBit · m) ((lswOn_else s n).2.1.rd fun e => lswStat_ne_held n e.symm)

theorem lswOn_same (s : State) (hn : n < 32) (h : m ≠ n) : SwSame s (lswOn s n) m := by
  obtain ⟨behind, regs, -⟩ := lswOn_else s n
  refine ⟨behind m h, regs.rd ?_, regs.rd ?_, regs.rd ?_, regs.rd ?_, regs.rd ?_, lswOn_held s n m⟩ <;>
    simp only [RegDesc.addr, R.LSW_STAT, R.LSW_CTL, R.LSW_GRSTAT, R.SYS_PDSTAT, R.SYS_STAT] <;> omega

/-! ### One switch released -/

/-- A release of a load switch (R557): the other switches stay, and its own goes on where its command in force is an ON that
nothing blocks any more. -/
theorem lswRelease_frees (s : State) (hn : n < 32) :
    (∀ m, m < 32 → (lswRelease s n).lswHeld m = (s.lswHeld m && m != n)) ∧
      (∀ m, m < 32 → m ≠ n → SwSame s (lswRelease s n) m) ∧
      ((s.f F.LSW_STAT_CMD n = 1 → s.fb F.LSW_STAT_ON n = true) →
        noisy noRegs (· = R.SYS_HELD.addr) s (lswRelease s n) ∧ lswRelease s n = lswHoldEnd s n 1) ∧
      (s.lswHeld n = true → s.f F.LSW_STAT_CMD n = 1 → lswBlocked (lswRelease s n) n = false →
        (lswRelease s n).fb F.LSW_STAT_ON n = true) := by
  obtain ⟨held, -, noisy⟩ := lswHoldEnd_ends s hn 1
  have stat : (lswHoldEnd s n 1).rd R.LSW_STAT n = s.rd R.LSW_STAT n := noisy_rd noisy
    (lswStat_ne_held n) fun e => by have area := eventReg_area e; simp only [RegDesc.addr, R.LSW_STAT] at area; omega
  have cmd : (lswHoldEnd s n 1).f F.LSW_STAT_CMD n = s.f F.LSW_STAT_CMD n := by simp only [State.f, F.LSW_STAT_CMD, stat]
  have on : (lswHoldEnd s n 1).fb F.LSW_STAT_ON n = s.fb F.LSW_STAT_ON n := by
    simp only [State.fb, State.f, F.LSW_STAT_ON, stat]
  have same (m : Nat) (hm : m < 32) (h : m ≠ n) := lswHoldEnd_same s hn 1 hm h
  unfold lswRelease
  simp only [cmd, on]
  by_cases goes : s.lswHeld n = true ∧ s.f F.LSW_STAT_CMD n = 1 ∧ (!lswBlocked (lswHoldEnd s n 1) n) = true ∧
      (!s.fb F.LSW_STAT_ON n) = true
  · rw [if_pos goes]
    obtain ⟨-, one, -, off⟩ := goes
    exact ⟨fun m hm => (lswOn_held _ n m).trans (held m hm), fun m hm h => (same m hm h).trans (lswOn_same _ hn h),
      fun h => absurd (h one) (by simpa using off), fun _ _ _ => (lswOn_else _ n).2.2⟩
  · rw [if_neg goes]
    refine ⟨held, same, fun _ => ⟨noisy, rfl⟩, fun isHeld one free => ?_⟩
    rw [on]
    by_contra off
    exact goes ⟨isHeld, one, by simp [free], by simpa using off⟩

/-! ### All the switches a write names -/

/-- The first `k` bits of a write of SYS_HREL. -/
def releasedTo (v : Word) (k : Nat) (s : State) : State := foldN k (fun s n => if maskBit v n then lswRelease s n else s) s

theorem releasedTo_succ (v : Word) (k : Nat) (s : State) : releasedTo v (k + 1) s =
    if maskBit v k then lswRelease (releasedTo v k s) k else releasedTo v k s := by
  simp only [releasedTo, foldN, List.range_succ, List.foldl_append, List.foldl_cons, List.foldl_nil]

/-- What the first `k` bits of a write of SYS_HREL do. -/
theorem releasedTo_frees (v : Word) (s : State) (k : Nat) (hk : k ≤ 32) :
    (∀ m, m < 32 → (releasedTo v k s).lswHeld m = (s.lswHeld m && !(decide (m < k) && maskBit v m))) ∧
      (∀ m, m < 32 → k ≤ m → SwSame s (releasedTo v k s) m) ∧
      ((∀ m, m < 32 → s.f F.LSW_STAT_CMD m = 1 → s.fb F.LSW_STAT_ON m = true) →
        noisy noRegs (· = R.SYS_HELD.addr) s (releasedTo v k s)) ∧
      (∀ m, m < k → s.lswHeld m = true → maskBit v m = true → s.f F.LSW_STAT_CMD m = 1 →
        lswBlocked (releasedTo v k s) m = false → (releasedTo v k s).fb F.LSW_STAT_ON m = true) := by
  induction k with
  | zero => exact ⟨fun m _ => by simp [releasedTo, foldN], fun m _ _ => SwSame.refl s m, fun _ => noisy_refl s,
      fun m h => absurd h (Nat.not_lt_zero m)⟩
  | succ k ih =>
    obtain ⟨held, same, calm, on⟩ := ih (by omega)
    rw [releasedTo_succ]
    by_cases named : maskBit v k = true
    · obtain ⟨held', same', calm', on'⟩ := lswRelease_frees (releasedTo v k s) (n := k) (by omega)
      have mine := same k (by omega) (le_refl k)
      rw [if_pos named]
      refine ⟨fun m hm => ?_, fun m hm h => (same m hm (by omega)).trans (same' m hm (by omega)), fun h => ?_,
        fun m hm isHeld isNamed one free => ?_⟩
      · rw [held' m hm, held m hm]
        by_cases e : m = k
        · subst e; simp [named]
        · have lt : decide (m < k + 1) = decide (m < k) := decide_eq_decide.mpr (by omega)
          rw [lt]; simp [e]
      · exact noisy_trans (calm h) (calm' fun one => mine.on.trans (h k (by omega) (mine.cmd.symm.trans one))).1
      · rcases Nat.lt_succ_iff_lt_or_eq.mp hm with lt | rfl
        · have kept := same' m (by omega) (by omega)
          exact kept.on.trans (on m lt isHeld isNamed one (kept.blocked.symm.trans free))
        · exact on' (mine.held.trans isHeld) (mine.cmd.trans one) free
    · rw [if_neg named]
      refine ⟨fun m hm => ?_, fun m hm h => same m hm (by omega), calm, fun m hm isHeld isNamed one free => ?_⟩
      · rw [held m hm]
        by_cases e : m = k
        · subst e; simp [named]
        · have lt : decide (m < k + 1) = decide (m < k) := decide_eq_decide.mpr (by omega)
          rw [lt]
      · rcases Nat.lt_succ_iff_lt_or_eq.mp hm with lt | rfl
        · exact on m lt isHeld isNamed one free
        · exact absurd isNamed named

/-! ### The command -/

/-- A write of SYS_HREL in a mode that allows it. -/
theorem holdRelease_runs (on : s.domOn 0 = true) (v : Word) : exec (.holdRelease v) s = .next
    (if hrelRefuse s v then sysRefused s else releasedTo v 32 (laidAgain s R.SYS_HREL)) := by
  have listed : R.SYS_HREL ∈ commandRegs := by simp [commandRegs]
  have refuse : regRefuse s R.SYS_HREL 0 0 (s.rd R.SYS_HREL) v = hrelRefuse s v := by simp [regRefuse, R.SYS_HREL]
  have written := writeReg_command on .host v R.SYS_HREL listed
  refine congrArg Host.Outcome.next (written.trans ?_)
  rw [show regBits s R.SYS_HREL 0 v = v from rfl, refuse]
  rfl

/-- What a write of SYS_HREL lays down touches no load switch. -/
theorem laidAgain_hrel (s : State) (hm : m < 32) : SwSame s (laidAgain s R.SYS_HREL) m := by
  refine SwSame.of_regsBut (laidAgain_regs s R.SYS_HREL) rfl
    (congrArg (maskBit · m) ((laidAgain_regs s R.SYS_HREL).rd (by decide))) ?_ ?_ ?_ (by decide) (by decide) <;>
    simp only [RegDesc.addr, R.LSW_STAT, R.LSW_CTL, R.LSW_GRSTAT, R.SYS_HREL] <;> omega

theorem operating_iff : s.operating = true ↔ 2 ≤ s.mode ∧ s.mode ≤ 5 := by
  rw [State.operating, Bool.and_eq_true]
  exact and_congr decide_eq_true_iff decide_eq_true_iff

theorem holdRelease_frees (on : s.domOn 0 = true) (running : 2 ≤ s.mode ∧ s.mode ≤ 5) (v : BitVec 32) :
    runsTo (.holdRelease v) s fun t =>
      (∀ n, n < 32 → maskBit (t.rd R.SYS_HELD) n = (maskBit (s.rd R.SYS_HELD) n && !v.getLsbD n)) ∧
        ((∀ n, n < 32 → s.f F.LSW_STAT_CMD n = 1 → s.fb F.LSW_STAT_ON n = true) →
          noisy noRegs (fun a => a = R.SYS_HELD.addr ∨ a = R.SYS_HREL.addr) s t) ∧
        (∀ n, n < 32 → maskBit (s.rd R.SYS_HELD) n = true → v.getLsbD n = true → s.f F.LSW_STAT_CMD n = 1 →
          lswBlocked t n = false → t.fb F.LSW_STAT_ON n = true) := by
  have may : hrelRefuse s v = false := by simp [hrelRefuse, operating_iff.mpr running]
  have laid {m : Nat} (hm : m < 32) := laidAgain_hrel s hm
  obtain ⟨held, -, calm, goesOn⟩ := releasedTo_frees v (laidAgain s R.SYS_HREL) 32 (le_refl 32)
  refine ⟨_, (holdRelease_runs on v).trans (by rw [if_neg (by simp [may])]), fun n hn => ?_, fun h => ?_,
    fun n hn isHeld named one free => ?_⟩
  · have word := held n hn
    rw [(laid hn).held, decide_eq_true hn, Bool.true_and] at word
    exact word
  · have start : noisy noRegs (fun a => a = R.SYS_HELD.addr ∨ a = R.SYS_HREL.addr) s (laidAgain s R.SYS_HREL) :=
      ⟨rfl, (laidAgain_regs s R.SYS_HREL).mono fun _ e => .inl (.inr e)⟩
    exact noisy_trans start (noisy_mono (calm fun m hm one => (laid hm).on.trans (h m hm ((laid hm).cmd.symm.trans one)))
      fun _ => Or.inl)
  · exact goesOn n hn ((laid hn).held.trans isHeld) named ((laid hn).cmd.trans one) free

theorem holdRelease_refuses (on : s.domOn 0 = true) (idle : ¬ (2 ≤ s.mode ∧ s.mode ≤ 5)) {v : BitVec 32} (named : v ≠ 0) :
    runsTo (.holdRelease v) s (sysRefuses s) := by
  have refused : hrelRefuse s v = true := by
    rw [hrelRefuse, Bool.eq_false_iff.mpr fun h => idle (operating_iff.mp h), Bool.not_false, Bool.and_true, bne_iff_ne]
    exact named
  exact ⟨_, (holdRelease_runs on v).trans (by rw [if_pos refused]), sysRefused_refuses s⟩

/-! ### HOLD_MAX -/

theorem lswCtl_ne_stat (n : Nat) : R.LSW_CTL.addr n ≠ R.LSW_STAT.addr n := by
  simp only [RegDesc.addr, R.LSW_CTL, R.LSW_STAT]; omega

/-- A switch is off and disabled, and its command OFF. -/
theorem lswDisable_shows (s : State) (n : Nat) :
    (lswDisable s n).fb F.LSW_CTL_EN n = false ∧ (lswDisable s n).fb F.LSW_STAT_ON n = false ∧
      (lswDisable s n).f F.LSW_STAT_CMD n = 0 := by
  let dark := (lswOff s n).setF F.LSW_CTL_EN 0 n
  have eq : lswDisable s n = dark.setF F.LSW_STAT_CMD 0 n := rfl
  have off : (lswOff s n).fb F.LSW_STAT_ON n = false :=
    State.fb_setF_same _ F.LSW_STAT_ON 0 n 0 (by decide) (by decide)
  rw [eq]
  refine ⟨?_, ?_, State.f_setF_same dark F.LSW_STAT_CMD 0 n 0 (by decide) (by decide)⟩
  · have kept : (dark.setF F.LSW_STAT_CMD 0 n).fb F.LSW_CTL_EN n = dark.fb F.LSW_CTL_EN n := by
      simp only [State.fb, State.f_setF_ne dark (fl := F.LSW_CTL_EN) (fl' := F.LSW_STAT_CMD) (lswCtl_ne_stat n).symm]
    exact kept.trans (State.fb_setF_same (lswOff s n) F.LSW_CTL_EN 0 n 0 (by decide) (by decide))
  · have kept : dark.fb F.LSW_STAT_ON n = (lswOff s n).fb F.LSW_STAT_ON n := by
      simp only [dark, State.fb, State.f_setF_ne (lswOff s n) (fl := F.LSW_STAT_ON) (fl' := F.LSW_CTL_EN) (lswCtl_ne_stat n)]
    exact (State.fb_setF_beside dark (fl := F.LSW_STAT_CMD) (fl' := F.LSW_STAT_ON) 0 n 0 rfl (by decide) (by decide)
      (by decide)).trans (kept.trans off)

/-- A state without what stands behind the load switches. -/
def noLsw (s : State) : State := { s with regs := [], lsw := [] }

theorem noLsw_setF (s : State) (fl : Fld) (v i : Nat) : (noLsw (s.setF fl v i)).apart = (noLsw s).apart := rfl

theorem noLsw_setLsw (s : State) (n : Nat) (x : LswX) : (noLsw (s.setLsw n x)).apart = (noLsw s).apart := rfl

theorem lswDisable_else (s : State) (n : Nat) : (noLsw (lswDisable s n)).apart = (noLsw s).apart ∧
    (∀ m, m ≠ n → (lswDisable s n).lswX m = s.lswX m) ∧
    RegsBut (fun a => a = R.LSW_CTL.addr n ∨ a = R.LSW_STAT.addr n) s (lswDisable s n) := by
  have off : RegsBut (fun a => a = R.LSW_CTL.addr n ∨ a = R.LSW_STAT.addr n) s (lswOff s n) :=
    RegsBut.setF (fl := F.LSW_STAT_ON) ((RegsBut.refl s).of_regs rfl) (.inr rfl)
  have rest : (noLsw (lswDisable s n)).apart = (noLsw s).apart := by
    simp only [lswDisable, lswOff, noLsw_setF, noLsw_setLsw]
  exact ⟨rest, fun m h => tabGet_tabPut_ne (Ne.symm h),
    RegsBut.setF (fl := F.LSW_STAT_CMD) (RegsBut.setF (fl := F.LSW_CTL_EN) off (.inl rfl)) (.inr rfl)⟩

/-- HOLD_MAX has run out: the switch is off and disabled, its command OFF, and its hold has ended. -/
theorem lswHoldExpire_ends (s : State) (hn : n < 32) :
    maskBit ((lswHoldExpire s n).rd R.SYS_HELD) n = false ∧ (lswHoldExpire s n).fb F.LSW_CTL_EN n = false ∧
      (lswHoldExpire s n).fb F.LSW_STAT_ON n = false ∧ (lswHoldExpire s n).f F.LSW_STAT_CMD n = 0 ∧
      (∀ m, m ≠ n → (lswHoldExpire s n).lswX m = s.lswX m) ∧
      noisy noLsw (fun a => a = R.SYS_HELD.addr ∨ a = R.LSW_CTL.addr n ∨ a = R.LSW_STAT.addr n) s (lswHoldExpire s n) := by
  obtain ⟨held, behind, ended⟩ := lswHoldEnd_ends (lswDisable s n) hn 2
  obtain ⟨en, dark, cmd⟩ := lswDisable_shows s n
  obtain ⟨rest, others, regs⟩ := lswDisable_else s n
  have kept {d : RegDesc} (low : 0x41000000 ≤ d.addr n ∧ d.addr n < 0x42000000) :
      (lswHoldExpire s n).rd d n = (lswDisable s n).rd d n := noisy_rd ended
    (by simp only [RegDesc.addr, R.SYS_HELD] at low ⊢; omega) fun e => by have area := eventReg_area e; omega
  have ctl := kept (d := R.LSW_CTL) (by simp only [RegDesc.addr, R.LSW_CTL]; omega)
  have stat := kept (d := R.LSW_STAT) (by simp only [RegDesc.addr, R.LSW_STAT]; omega)
  simp only [State.fb, State.f, F.LSW_CTL_EN, F.LSW_STAT_ON, F.LSW_STAT_CMD] at en dark cmd
  refine ⟨(held n hn).trans (by simp), ?_, ?_, ?_, fun m h => ?_, ?_, ?_⟩
  · simpa only [State.fb, State.f, F.LSW_CTL_EN, ctl] using en
  · simpa only [State.fb, State.f, F.LSW_STAT_ON, stat] using dark
  · simpa only [State.f, F.LSW_STAT_CMD, stat] using cmd
  · rw [← others m h, State.lswX, State.lswX, show (lswHoldExpire s n).lsw = _ from behind]
  · have after : (noLsw (lswHoldExpire s n)).apart = (noLsw (lswDisable s n)).apart :=
      congrArg (fun u : State => { u with lsw := [] }) ended.1
    exact after.trans rest
  · exact (regs.mono fun _ h => .inl (.inr h)).trans (ended.2.mono fun _ => Or.imp_left Or.inl)

theorem holdMaxExpiry_ends (n : Fin 32) (on : s.domOn 7 = true) (held : maskBit (s.rd R.SYS_HELD) n = true)
    (due : (s.lswX n).holdAt + s.f F.SYS_RHT_TIME_HOLD_MAX * 1000000000 ≤ s.elapsed) :
    exec (.holdMaxExpiry n) s = .next (lswHoldExpire s n) :=
  congrArg Host.Outcome.next (if_pos ⟨on, held, due⟩)

theorem holdMaxExpiry_waits (n : Fin 32)
    (early : ¬ (s.lswX n).holdAt + s.f F.SYS_RHT_TIME_HOLD_MAX * 1000000000 ≤ s.elapsed) :
    exec (.holdMaxExpiry n) s = .next s :=
  congrArg Host.Outcome.next (if_neg fun h => early h.2.2)

end Sys2Proof.Machine

/-! RUN-ON holds of the axes that end: by release and by their time limit (R371, R557). -/

namespace Sys2Proof.Machine

open Sys2Proof.Claims

variable {s t u : State} {p : Nat → Prop} {n m : Nat}

/-! ### The end of a hold -/

theorem heldm_not_event : ¬ eventReg R.SYS_HELDM.addr := fun h => axisSide_quiet heldm_side (.inr h)

theorem Posts.mtrHeld (h : Posts s t) (m : Nat) : t.mtrHeld m = s.mtrHeld m :=
  congrArg (maskBit · m) (h.2.rd heldm_not_event)

/-- A state without what stands behind the axes. -/
def noAxes (s : State) : State := { s with regs := [], mtr := [] }

/-- The hold of an axis ends: its bit of SYS_HELDM clears, and what its event leaves. -/
theorem mtrHoldEnd_ends (s : State) (hn : n < 8) (cause : Nat) :
    (∀ m, m < 8 → (mtrHoldEnd s n cause).mtrHeld m = (s.mtrHeld m && m != n)) ∧
      noisy noAxes (· = R.SYS_HELDM.addr) s (mtrHoldEnd s n cause) := by
  let freed := (s.setMask R.SYS_HELDM n false).setMtr n { s.mtrX n with auto := false }
  have posts : Posts freed (healthEvent freed 0 0 0xD2 cause (word (0x300 + n))) := healthEvent_posts _ _ _ _ _ _
  have cleared : noisy noAxes (· = R.SYS_HELDM.addr) s freed := ⟨rfl, RegsBut.wr (RegsBut.refl s) (.inl rfl)⟩
  unfold mtrHoldEnd
  split
  · refine ⟨fun m hm => (posts.mtrHeld m).trans ?_, noisy_trans cleared (noisy_of_posts (fun _ => rfl) posts)⟩
    have bit := setMask_bit s R.SYS_HELDM (n := n) false (k := m) (by omega)
    refine (bit : freed.mtrHeld m = _).trans ?_
    by_cases e : m = n <;> simp [e, State.mtrHeld]
  · next free =>
    refine ⟨fun m _ => ?_, noisy_refl s⟩
    by_cases e : m = n
    · subst e; simp [free]
    · simp [e]

/-! ### A write of SYS_HRELM -/

/-- The first `k` bits of a write of SYS_HRELM. -/
def axesFreedTo (v : Word) (k : Nat) (s : State) : State := foldN k (fun s n => if maskBit v n then mtrHoldEnd s n 1 else s) s

theorem axesFreedTo_succ (v : Word) (k : Nat) (s : State) : axesFreedTo v (k + 1) s =
    if maskBit v k then mtrHoldEnd (axesFreedTo v k s) k 1 else axesFreedTo v k s := by
  simp only [axesFreedTo, foldN, List.range_succ, List.foldl_append, List.foldl_cons, List.foldl_nil]

/-- What the first `k` bits of a write of SYS_HRELM do. -/
theorem axesFreedTo_frees (v : Word) (s : State) (k : Nat) (hk : k ≤ 8) :
    (∀ m, m < 8 → (axesFreedTo v k s).mtrHeld m = (s.mtrHeld m && !(decide (m < k) && maskBit v m))) ∧
      noisy noAxes (· = R.SYS_HELDM.addr) s (axesFreedTo v k s) := by
  induction k with
  | zero => exact ⟨fun m _ => by simp [axesFreedTo, foldN], noisy_refl s⟩
  | succ k ih =>
    obtain ⟨held, calm⟩ := ih (by omega)
    rw [axesFreedTo_succ]
    have later {m : Nat} (e : m ≠ k) : decide (m < k + 1) = decide (m < k) := decide_eq_decide.mpr (by omega)
    by_cases named : maskBit v k = true
    · obtain ⟨held', calm'⟩ := mtrHoldEnd_ends (axesFreedTo v k s) (n := k) (by omega) 1
      rw [if_pos named]
      refine ⟨fun m hm => ?_, noisy_trans calm calm'⟩
      rw [held' m hm, held m hm]
      by_cases e : m = k
      · subst e; simp [named]
      · rw [later e]; simp [e]
    · rw [if_neg named]
      refine ⟨fun m hm => ?_, calm⟩
      rw [held m hm]
      by_cases e : m = k
      · subst e; simp [named]
      · rw [later e]

theorem noMtr_of_noAxes (h : (noAxes t).apart = (noAxes s).apart) : (noMtr t).apart = (noMtr s).apart :=
  congrArg (fun u : State => { u with fan := {}, pubs := [], ageBase := [], sys := { u.sys with fireSince := none } }) h

/-- The bits of a write of SYS_HRELM that name an axis of the variant. -/
def axisMask (s : State) (v : BitVec 8) : Word := regBits s R.SYS_HRELM 0 (putBits 0 7 0 v.toNat)

theorem maskBit_putBits_low (w : Word) {hi v n : Nat} (hn : n ≤ hi) (h : hi < 32) :
    maskBit (putBits w hi 0 v) n = v.testBit n := by
  rw [maskBit, testBit_putBits _ _ (Nat.zero_le hi)]
  simp [hn, show n < 32 by omega]

theorem axisMask_bit (s : State) (v : BitVec 8) (hn : n < 8) :
    maskBit (axisMask s v) n = (s.hasAxis n && v.getLsbD n) := by
  have low : maskBit (putBits 0 7 0 v.toNat) n = v.getLsbD n := maskBit_putBits_low 0 (by omega) (by decide)
  have mask : axisMask s v = if s.variant == .G then putBits (putBits 0 7 0 v.toNat) 3 0 0 else putBits 0 7 0 v.toNat := rfl
  rw [mask, State.hasAxis]
  by_cases g : (s.variant == .G) = true
  · rw [if_pos g]
    by_cases four : n ≤ 3
    · rw [maskBit_putBits_low _ four (by decide)]
      have g' : s.variant = .G := by simpa using g
      simp [g', show ¬ 4 ≤ n by omega]
    · have above : maskBit (putBits (putBits 0 7 0 v.toNat) 3 0 0) n = maskBit (putBits 0 7 0 v.toNat) n := by
        rw [maskBit, testBit_putBits _ _ (Nat.zero_le 3)]
        simp [four, maskBit, show n < 32 by omega]
      rw [above, low]
      simp [hn, show 4 ≤ n by omega]
  · rw [if_neg g, low]
    simp [bne, g, hn]

/-- A write of SYS_HRELM in a mode that allows it. -/
theorem holdReleaseAxis_runs (on : s.domOn 0 = true) (v : BitVec 8) : exec (.holdReleaseAxis v) s = .next
    (if hrelRefuse s (word (bits (axisMask s v) 7 0)) then sysRefused s
      else axesFreedTo (axisMask s v) 8 (laidAgain s R.SYS_HRELM)) := by
  have listed : R.SYS_HRELM ∈ commandRegs := by simp [commandRegs]
  have refuse (w : Word) : regRefuse s R.SYS_HRELM 0 0 (s.rd R.SYS_HRELM) w = hrelRefuse s (word (bits w 7 0)) := by
    simp [regRefuse, R.SYS_HRELM]
  have written := writeReg_command on .host (putBits 0 7 0 v.toNat) R.SYS_HRELM listed
  refine congrArg Host.Outcome.next (Eq.trans ?_ (written.trans ?_))
  · rfl
  · rw [refuse]
    rfl

/-- A write that names an axis of the variant is not zero there. -/
theorem axisMask_names {v : BitVec 8} : word (bits (axisMask s v) 7 0) ≠ 0 ↔ ∃ n, n < 8 ∧ s.hasAxis n = true ∧ v.getLsbD n = true := by
  have small : bits (axisMask s v) 7 0 < 2 ^ 32 := (bits_lt _ 7 0).trans (by decide)
  have bitOf (n : Nat) : (bits (axisMask s v) 7 0).testBit n = (decide (n < 8) && maskBit (axisMask s v) n) := by
    rw [testBit_bits]; simp [maskBit, Nat.lt_succ_iff]
  have zero : word (bits (axisMask s v) 7 0) = 0 ↔ bits (axisMask s v) 7 0 = 0 := by
    constructor
    · intro h
      have nat : bits (axisMask s v) 7 0 % 2 ^ 32 = 0 := by simpa [word] using congrArg BitVec.toNat h
      rwa [Nat.mod_eq_of_lt small] at nat
    · intro h; rw [h]; rfl
  rw [ne_eq, zero]
  constructor
  · intro h
    obtain ⟨n, hn⟩ := Nat.exists_testBit_of_ne_zero h
    rw [bitOf, Bool.and_eq_true, decide_eq_true_iff] at hn
    rw [axisMask_bit s v hn.1, Bool.and_eq_true] at hn
    exact ⟨n, hn⟩
  · rintro ⟨n, hn, has, named⟩ h
    have set := bitOf n
    rw [h, axisMask_bit s v hn, has, named] at set
    simp [hn] at set

theorem holdReleaseAxis_frees (on : s.domOn 0 = true) (running : 2 ≤ s.mode ∧ s.mode ≤ 5) (v : BitVec 8) :
    runsTo (.holdReleaseAxis v) s fun t =>
      (∀ n, n < 8 → s.hasAxis n = true → maskBit (t.rd R.SYS_HELDM) n = (maskBit (s.rd R.SYS_HELDM) n && !v.getLsbD n)) ∧
        noisy noMtr (fun a => a = R.SYS_HELDM.addr ∨ a = R.SYS_HRELM.addr) s t := by
  have may (w : Word) : hrelRefuse s w = false := by simp [hrelRefuse, operating_iff.mpr running]
  obtain ⟨held, calm⟩ := axesFreedTo_frees (axisMask s v) (laidAgain s R.SYS_HRELM) 8 (le_refl 8)
  have regs := laidAgain_regs s R.SYS_HRELM
  refine ⟨_, (holdReleaseAxis_runs on v).trans (by rw [if_neg (by simp [may])]), fun n hn has => ?_,
    ?_, (regs.mono fun _ e => .inl (.inr e)).trans (calm.2.mono fun _ => Or.imp_left Or.inl)⟩
  · have word := held n hn
    rw [axisMask_bit s v hn, has, decide_eq_true hn, Bool.true_and, Bool.true_and] at word
    refine word.trans (congrArg (· && !v.getLsbD n) (congrArg (maskBit · n) (regs.rd (by decide))))
  · exact noMtr_of_noAxes calm.1

theorem holdReleaseAxis_refuses (on : s.domOn 0 = true) (idle : ¬ (2 ≤ s.mode ∧ s.mode ≤ 5)) {v : BitVec 8}
    (named : ∃ n, n < 8 ∧ s.hasAxis n = true ∧ v.getLsbD n = true) : runsTo (.holdReleaseAxis v) s (sysRefuses s) := by
  have refused : hrelRefuse s (word (bits (axisMask s v) 7 0)) = true := by
    rw [hrelRefuse, Bool.eq_false_iff.mpr fun h => idle (operating_iff.mp h), Bool.not_false, Bool.and_true, bne_iff_ne]
    exact axisMask_names.mpr named
  exact ⟨_, (holdReleaseAxis_runs on v).trans (by rw [if_pos refused]), sysRefused_refuses s⟩

/-! ### RUNON_MAX -/

/-- A state without the axes, the airflow judgement and what stands behind SYS. -/
def noDrives (s : State) : State := { s with regs := [], mtr := [], fan := {}, sys := {} }

/-- Where FIRE_PERMIT is not given, a failed airflow condition shows in FAN_AFSTAT alone. -/
theorem afFail_calm (calm : s.fb F.SYS_STAT_FIRE = false) (n : Nat) :
    noisy noDrives (· = R.FAN_AFSTAT.addr) s (afFail s n) := by
  let judged := { s with fan := { s.fan with afGood := tabDrop s.fan.afGood n } }
  let fallen := judged.setF F.FAN_AFSTAT_AIRFLOW_OK 0
  have posts : Posts fallen (fanEvent fallen 0xB2 0 (word (afFailing fallen))) := event_posts (by decide) _ _ _ _ _
  have shown : noisy noDrives (· = R.FAN_AFSTAT.addr) s fallen :=
    ⟨rfl, RegsBut.setF (fl := F.FAN_AFSTAT_AIRFLOW_OK) ((RegsBut.refl s).of_regs rfl) (.inl rfl)⟩
  have told := noisy_trans shown (noisy_of_posts (e := noDrives) (fun _ => rfl) posts)
  have still : (fanEvent fallen 0xB2 0 (word (afFailing fallen))).fb F.SYS_STAT_FIRE = false := by
    rw [told.2.fb fun h => h.elim (fun e => absurd e (by decide)) sysStat_not_event, calm]
  obtain ⟨x, updated⟩ := fireUpdate_calm still
  unfold afFail
  dsimp only
  split
  · rw [updated]
    exact ⟨told.1, told.2⟩
  · exact ⟨rfl, (RegsBut.refl s).of_regs rfl⟩

/-- An axis that enters a state while FIRE_PERMIT is not given. -/
theorem mtrGo_calm (calm : s.fb F.SYS_STAT_FIRE = false) (n st g : Nat) :
    noisy noDrives (fun a => a = R.MTR_STAT.addr n ∨ a = R.FAN_AFSTAT.addr) s (mtrGo s n st g) := by
  let gone := (s.setF F.MTR_STAT_STATE st n).setMtr n (axisLeft s n g)
  have notSys : R.MTR_STAT.addr n ≠ R.SYS_STAT.addr := by simp only [RegDesc.addr, R.SYS_STAT, R.MTR_STAT]; omega
  have shown : noisy noDrives (fun a => a = R.MTR_STAT.addr n ∨ a = R.FAN_AFSTAT.addr) s gone :=
    ⟨rfl, RegsBut.setF (fl := F.MTR_STAT_STATE) (RegsBut.refl s) (.inl (.inl rfl))⟩
  have still : gone.fb F.SYS_STAT_FIRE = false := by
    rw [← calm]
    simp only [State.fb]
    exact congrArg (· != 0) (State.f_setF_ne s (fl := F.SYS_STAT_FIRE) (fl' := F.MTR_STAT_STATE) notSys)
  have fails := noisy_mono (afFail_calm still n) (q := fun a => a = R.MTR_STAT.addr n ∨ a = R.FAN_AFSTAT.addr) fun _ => Or.inr
  unfold mtrGo
  dsimp only
  split
  · exact noisy_trans shown fails
  · exact shown

theorem mtrCtl_side (hn : n < 8) : axisSide (R.MTR_CTL.addr n) := by
  left; simp only [RegDesc.addr, R.MTR_CTL]; omega

theorem mtrCtl_ne_stat (n m : Nat) : R.MTR_CTL.addr n ≠ R.MTR_STAT.addr m := by
  simp only [RegDesc.addr, R.MTR_CTL, R.MTR_STAT]; omega

/-- An axis is disabled: OFF from OFF to RETRY_WAIT, with the gates given. -/
theorem mtrDisable_shows (s : State) (hn : n < 8) (g : Nat) :
    (mtrDisable s n g).fb F.MTR_CTL_EN n = false ∧
      (s.axis n ≤ 4 → (mtrDisable s n g).axis n = 0 ∧ ((mtrDisable s n g).mtrX n).gates = g) ∧
      (∀ m, m ≠ n → (mtrDisable s n g).mtrX m = s.mtrX m) ∧
      (s.fb F.SYS_STAT_FIRE = false → noisy noDrives (fun a =>
        a = R.MTR_CTL.addr n ∨ a = R.MTR_STAT.addr n ∨ a = R.FAN_AFSTAT.addr) s (mtrDisable s n g)) := by
  let off := s.setF F.MTR_CTL_EN 0 n
  have en : off.fb F.MTR_CTL_EN n = false := State.fb_setF_same s F.MTR_CTL_EN 0 n 0 (by decide) (by decide)
  have axis : off.axis n = s.axis n :=
    State.f_setF_ne s (fl := F.MTR_STAT_STATE) (fl' := F.MTR_CTL_EN) (mtrCtl_ne_stat n n)
  have cleared : noisy noDrives (fun a => a = R.MTR_CTL.addr n ∨ a = R.MTR_STAT.addr n ∨ a = R.FAN_AFSTAT.addr) s off :=
    ⟨rfl, RegsBut.setF (fl := F.MTR_CTL_EN) (RegsBut.refl s) (.inl (.inl rfl))⟩
  have notSys : R.MTR_CTL.addr n ≠ R.SYS_STAT.addr := by simp only [RegDesc.addr, R.SYS_STAT, R.MTR_CTL]; omega
  have fire : off.fb F.SYS_STAT_FIRE = s.fb F.SYS_STAT_FIRE :=
    congrArg (· != 0) (State.f_setF_ne s (fl := F.SYS_STAT_FIRE) (fl' := F.MTR_CTL_EN) notSys)
  unfold mtrDisable
  dsimp only
  by_cases low : off.axis n ≤ axWait
  · obtain ⟨-, span, stat⟩ := mtrGo_axes off hn axOff g
    rw [if_pos low]
    refine ⟨?_, fun _ => ⟨axis_of_stat stat, congrArg MtrX.gates (mtrGo_mtrX off hn axOff g)⟩,
      fun m h => mtrGo_mtrX_ne off hn axOff g h, fun calm => ?_⟩
    · have ctl := span.rd (d := R.MTR_CTL) (mtrCtl_ne_stat n n) (mtrCtl_side hn)
      exact (congrArg (fun w => bits w 0 0 != 0) ctl).trans en
    · exact noisy_trans cleared (noisy_mono (mtrGo_calm (fire.trans calm) n axOff g) fun _ => Or.inr)
  · rw [if_neg low]
    exact ⟨en, fun h => absurd (axis.trans_le h) low, fun m h => State.setMtr_mtrX_ne _ (Ne.symm h) _,
      fun _ => ⟨cleared.1, cleared.2⟩⟩

theorem noDrives_of_noAxes (h : (noAxes t).apart = (noAxes s).apart) : (noDrives t).apart = (noDrives s).apart :=
  congrArg (fun u : State => { u with fan := {}, sys := {} }) h

/-- RUNON_MAX has run out: the axis is disabled, and its hold has ended. -/
theorem mtrHoldExpire_ends (s : State) (hn : n < 8) :
    maskBit ((mtrHoldExpire s n).rd R.SYS_HELDM) n = false ∧ (mtrHoldExpire s n).fb F.MTR_CTL_EN n = false ∧
      (s.axis n ≤ 4 → (mtrHoldExpire s n).axis n = 0 ∧ ((mtrHoldExpire s n).mtrX n).gates = mtrStopGates s n) ∧
      (∀ m, m ≠ n → (mtrHoldExpire s n).mtrX m = s.mtrX m) ∧
      (s.fb F.SYS_STAT_FIRE = false → noisy noDrives (fun a => a = R.SYS_HELDM.addr ∨ a = R.MTR_CTL.addr n ∨
        a = R.MTR_STAT.addr n ∨ a = R.FAN_AFSTAT.addr) s (mtrHoldExpire s n)) := by
  obtain ⟨en, off, others, calm⟩ := mtrDisable_shows s hn (mtrStopGates s n)
  obtain ⟨free, rest, ⟨b, mine⟩, span⟩ := mtrHoldEnd_axes (mtrDisable s n (mtrStopGates s n)) hn 2
  obtain ⟨-, ended⟩ := mtrHoldEnd_ends (mtrDisable s n (mtrStopGates s n)) hn 2
  have ctl : (mtrHoldExpire s n).rd R.MTR_CTL n = (mtrDisable s n (mtrStopGates s n)).rd R.MTR_CTL n :=
    span.rd (by simp only [RegDesc.addr, R.MTR_CTL, R.SYS_HELDM]; omega) (mtrCtl_side hn)
  have stat : (mtrHoldExpire s n).rd R.MTR_STAT n = (mtrDisable s n (mtrStopGates s n)).rd R.MTR_STAT n :=
    span.rd (mtrStat_ne_heldm n) (mtrStat_side hn)
  refine ⟨free, ?_, fun low => ⟨?_, ?_⟩, fun m h => (rest m h).trans (others m h), fun quiet => ?_⟩
  · rw [← en]
    simp only [State.fb, State.f, F.MTR_CTL_EN, ctl]
  · rw [← (off low).1]
    simp only [State.axis, State.f, F.MTR_STAT_STATE, stat]
  · exact (congrArg MtrX.gates mine).trans (off low).2
  · exact noisy_trans (noisy_mono (calm quiet) fun _ => Or.inr)
      ⟨noDrives_of_noAxes ended.1, ended.2.mono fun _ => Or.imp_left Or.inl⟩

theorem runonMaxExpiry_ends (n : Fin 8) (on : s.domOn 7 = true) (held : maskBit (s.rd R.SYS_HELDM) n = true)
    (limited : s.f F.SYS_RHT_TIME_RUNON_MAX ≠ 0)
    (due : (s.mtrX n).holdAt + s.f F.SYS_RHT_TIME_RUNON_MAX * 1000000000 ≤ s.elapsed) :
    exec (.runonMaxExpiry n) s = .next (mtrHoldExpire s n) :=
  congrArg Host.Outcome.next (if_pos ⟨on, held, limited, due⟩)

theorem runonMaxExpiry_waits (n : Fin 8) (early : ¬ (s.f F.SYS_RHT_TIME_RUNON_MAX ≠ 0 ∧
    (s.mtrX n).holdAt + s.f F.SYS_RHT_TIME_RUNON_MAX * 1000000000 ≤ s.elapsed)) : exec (.runonMaxExpiry n) s = .next s :=
  congrArg Host.Outcome.next (if_neg fun h => early h.2.2)

end Sys2Proof.Machine

/-! Contacts, filtered inputs, their counts and doorbells (R66, R542, R549, R551, R558), and VLOG below 9.0 V (R591). -/

namespace Sys2Proof.Machine

open Sys2Proof.Claims

variable {s t u : State} {n m : Nat}

/-! ### Counts -/

theorem dioCnt_ne {i k : Nat} (h : i ≠ k) : R.DIO_CNT.addr i ≠ R.DIO_CNT.addr k := by
  simp only [RegDesc.addr, R.DIO_CNT]; omega

/-- A state without its registers and what it publishes. -/
def noCounts (s : State) : State := { s with regs := [], ageBase := [], pubs := [] }

/-- The count of an input is set. -/
theorem dioCount_sets (s : State) (n : Nat) (v : Word) :
    (∀ k, (dioCount s n v).rd R.DIO_CNT k = if k = n then v else s.rd R.DIO_CNT k) ∧
      (∀ k, (dioCount s n v).ageFrom (0x900 + k) = if k = n then s.elapsed else s.ageFrom (0x900 + k)) ∧
      noCounts (dioCount s n v) = noCounts s ∧ RegsBut (· = R.DIO_CNT.addr n) s (dioCount s n v) := by
  refine ⟨fun k => ?_, fun k => ?_, rfl, RegsBut.wr (RegsBut.refl s) rfl⟩
  · show (s.wr R.DIO_CNT v n).rd R.DIO_CNT k = _
    by_cases e : k = n
    · subst e; rw [if_pos rfl, State.rd_wr_same]
    · rw [if_neg e, State.rd_wr_ne s (dioCnt_ne (Ne.symm e))]
  · show tabGet 0 (tabPut s.ageBase (0x900 + n) s.elapsed) (0x900 + k) = _
    by_cases e : k = n
    · subst e; rw [if_pos rfl, tabGet_tabPut_same]
    · rw [if_neg e, tabGet_tabPut_ne (by omega)]; rfl

/-- The first `k` bits of a write of DIO_CNTCLR. -/
def countsClearedTo (v : Word) (k : Nat) (s : State) : State := foldN k (fun s n => if maskBit v n then dioCount s n 0 else s) s

theorem countsClearedTo_succ (v : Word) (k : Nat) (s : State) : countsClearedTo v (k + 1) s =
    if maskBit v k then dioCount (countsClearedTo v k s) k 0 else countsClearedTo v k s := by
  simp only [countsClearedTo, foldN, List.range_succ, List.foldl_append, List.foldl_cons, List.foldl_nil]

/-- What the first `k` bits of a write of DIO_CNTCLR do. -/
theorem countsClearedTo_clears (v : Word) (s : State) (k : Nat) (hk : k ≤ 4) :
    (∀ m, (countsClearedTo v k s).rd R.DIO_CNT m = if m < k ∧ maskBit v m = true then 0 else s.rd R.DIO_CNT m) ∧
      (∀ m, m < k → maskBit v m = true → (countsClearedTo v k s).ageFrom (0x900 + m) = s.elapsed) ∧
      noCounts (countsClearedTo v k s) = noCounts s ∧
      RegsBut (fun a => ∃ n, n < 4 ∧ a = R.DIO_CNT.addr n) s (countsClearedTo v k s) := by
  induction k with
  | zero => exact ⟨fun m => by simp [countsClearedTo, foldN], fun m h => absurd h (Nat.not_lt_zero m), rfl, RegsBut.refl s⟩
  | succ k ih =>
    obtain ⟨counts, ages, rest, regs⟩ := ih (by omega)
    obtain ⟨counts', ages', rest', regs'⟩ := dioCount_sets (countsClearedTo v k s) k 0
    have elapsed : (countsClearedTo v k s).elapsed = s.elapsed := by simpa [noCounts] using congrArg State.elapsed rest
    have later {m : Nat} (e : m ≠ k) : m < k + 1 ↔ m < k := by omega
    rw [countsClearedTo_succ]
    by_cases named : maskBit v k = true
    · rw [if_pos named]
      refine ⟨fun m => ?_, fun m hm isNamed => ?_, rest'.trans rest,
        regs.trans (regs'.mono fun _ e => ⟨k, by omega, e⟩)⟩
      · rw [counts', counts]
        by_cases e : m = k
        · subst e; simp [named]
        · simp only [if_neg e, later e]
      · rw [ages', elapsed]
        by_cases e : m = k
        · exact if_pos e
        · rw [if_neg e]; exact ages m ((later e).mp hm) isNamed
    · rw [if_neg named]
      refine ⟨fun m => ?_, fun m hm isNamed => ?_, rest, regs⟩
      · rw [counts]
        by_cases e : m = k
        · subst e; simp [named]
        · simp only [later e]
      · exact ages m ((later fun e => named (e ▸ isNamed)).mp hm) isNamed

/-- A write of DIO_CNTCLR. -/
theorem countClear_runs (on : s.domOn 0 = true) (v : BitVec 4) : exec (.countClear v) s = .next
    (countsClearedTo (putBits 0 3 0 v.toNat) 4 (laidAgain s R.DIO_CNTCLR)) := by
  have listed : R.DIO_CNTCLR ∈ commandRegs := by simp [commandRegs]
  have refuse (w : Word) : regRefuse s R.DIO_CNTCLR 0 0 (s.rd R.DIO_CNTCLR) w = false := by simp [regRefuse, R.DIO_CNTCLR]
  have written := writeReg_command on .host (putBits 0 3 0 v.toNat) R.DIO_CNTCLR listed
  refine congrArg Host.Outcome.next (Eq.trans ?_ (written.trans ?_))
  · rfl
  · rw [refuse]
    rfl

theorem countClear_clears (on : s.domOn 0 = true) (v : BitVec 4) : runsTo (.countClear v) s fun t =>
    (∀ n, n < 4 → t.rd R.DIO_CNT n = if v.getLsbD n then 0 else s.rd R.DIO_CNT n) ∧
      (∀ n, n < 4 → v.getLsbD n = true → t.ageFrom (0x900 + n) = s.elapsed) ∧
      quiet noCounts (fun a => a = R.DIO_CNTCLR.addr ∨ ∃ n, n < 4 ∧ a = R.DIO_CNT.addr n) s t := by
  obtain ⟨counts, ages, rest, regs⟩ := countsClearedTo_clears (putBits 0 3 0 v.toNat) (laidAgain s R.DIO_CNTCLR) 4 (le_refl 4)
  have named (n : Nat) (hn : n < 4) : maskBit (putBits 0 3 0 v.toNat) n = v.getLsbD n :=
    maskBit_putBits_low 0 (by omega) (by decide)
  refine ⟨_, countClear_runs on v, fun n hn => ?_, fun n hn isNamed => ages n hn ((named n hn).trans isNamed),
    congrArg (fun u : State => { u with w1cSet := [] }) rest,
    ((laidAgain_regs s R.DIO_CNTCLR).mono fun _ => Or.inl).trans (regs.mono fun _ => Or.inr)⟩
  have kept : (laidAgain s R.DIO_CNTCLR).rd R.DIO_CNT n = s.rd R.DIO_CNT n :=
    (laidAgain_regs s R.DIO_CNTCLR).rd (by simp only [RegDesc.addr, R.DIO_CNT, R.DIO_CNTCLR]; omega)
  rw [counts, named n hn, kept]
  simp only [hn, true_and]

/-! ### Contacts -/

/-- Only what stands behind SYS changes. -/
theorem onlySys (s : State) (x : SysX) : quiet noSys noneElse s (s.setSys x) := ⟨rfl, RegsBut.refl s⟩

theorem inputContact_runs (n : Fin 16) (high : Bool) : exec (.discreteInputEdge (.contact (.input n) high)) s = .next
    (if (s.dioX n).contact = high then s else s.setDio n { s.dioX n with contact := high, since := s.elapsed }) := rfl

theorem setDio_dioX (s : State) (n : Nat) (x : DioX) : (s.setDio n x).dioX n = x := tabGet_tabPut_same _ _ _ _

theorem setDio_dioX_ne (s : State) (x : DioX) (h : m ≠ n) : (s.setDio n x).dioX m = s.dioX m := tabGet_tabPut_ne (Ne.symm h)

theorem lowSince_none (s : State) (high : Bool) : lowSince s none high = if high then none else some s.elapsed := by
  cases high <;> rfl

/-- A stop channel's contact takes a level: the instant counts from here, and high, it no longer counts as low. -/
theorem stopContact_shows (s : State) (b high : Bool) : quiet noSys noneElse s (stopContact s b high) ∧
    (b = false → s.sys.stopA ≠ high → (stopContact s b high).sys.stopA = high ∧ (stopContact s b high).sys.stopAAt = s.elapsed ∧
      (high = true → (stopContact s b high).sys.lowA = false) ∧ (stopContact s b high).sys.stopB = s.sys.stopB ∧
      (stopContact s b high).sys.lowB = s.sys.lowB) ∧
    (b = true → s.sys.stopB ≠ high → (stopContact s b high).sys.stopB = high ∧ (stopContact s b high).sys.stopBAt = s.elapsed ∧
      (high = true → (stopContact s b high).sys.lowB = false) ∧ (stopContact s b high).sys.stopA = s.sys.stopA ∧
      (stopContact s b high).sys.lowA = s.sys.lowA) := by
  refine ⟨onlySys s _, ?_, ?_⟩
  · rintro rfl differs
    cases high <;> simp_all [stopContact, stopTrack, State.setSys]
  · rintro rfl differs
    cases high <;> simp_all [stopContact, stopTrack, State.setSys]

/-! ### A filtered input -/

/-- The edge a filtered input shows: 1 rising, 2 falling, after INV. -/
def inputEdge (s : State) (n : Nat) (level : Bool) : Nat := if level != s.fb F.DIO_CFG_INV n then 1 else 2

/-- The edge counts, where CEDGE selects it on inputs 0 to 3. -/
def edgeCounted (s : State) (n e : Nat) : State :=
  if n < 4 ∧ s.f F.DIO_CFG_CEDGE n &&& e ≠ 0 then dioCount s n (s.rd R.DIO_CNT n + 1) else s

/-- The edge rings its doorbell, where DEDGE selects it. -/
def edgeRung (s : State) (n e : Nat) : State :=
  if s.f F.DIO_CFG_DEDGE n &&& e ≠ 0 then ringBell s (s.f F.DIO_CFG_ROD n) (2 ^ s.f F.DIO_CFG_DB n) else s

theorem dioEdge_eq (s : State) (n : Nat) (x : DioX) : dioEdge (s.setDio n x) n =
    edgeRung (edgeCounted (s.setDio n x) n (inputEdge s n x.state)) n (inputEdge s n x.state) := by
  have level : dioState (s.setDio n x) n = (x.state != s.fb F.DIO_CFG_INV n) := by
    rw [dioState, setDio_dioX]; rfl
  unfold dioEdge
  rw [level]
  rfl

theorem edgeCounted_shows (s : State) (n e : Nat) :
    (n < 4 → (edgeCounted s n e).rd R.DIO_CNT n = if s.f F.DIO_CFG_CEDGE n &&& e ≠ 0 then s.rd R.DIO_CNT n + 1 else s.rd R.DIO_CNT n) ∧
      (n < 4 → (edgeCounted s n e).ageFrom (0x900 + n) =
        if s.f F.DIO_CFG_CEDGE n &&& e ≠ 0 then s.elapsed else s.ageFrom (0x900 + n)) ∧
      noCounts (edgeCounted s n e) = noCounts s ∧
      RegsBut (fun a => n < 4 ∧ a = R.DIO_CNT.addr n) s (edgeCounted s n e) := by
  obtain ⟨counts, ages, rest, regs⟩ := dioCount_sets s n (s.rd R.DIO_CNT n + 1)
  unfold edgeCounted
  by_cases sel : s.f F.DIO_CFG_CEDGE n &&& e ≠ 0
  · by_cases few : n < 4
    · rw [if_pos ⟨few, sel⟩]
      exact ⟨fun _ => by rw [counts, if_pos rfl, if_pos sel], fun _ => by rw [ages, if_pos rfl, if_pos sel], rest,
        regs.mono fun _ e => ⟨few, e⟩⟩
    · rw [if_neg fun h => few h.1]
      exact ⟨fun h => absurd h few, fun h => absurd h few, rfl, RegsBut.refl s⟩
  · rw [if_neg fun h => sel h.2]
    exact ⟨fun _ => (if_neg sel).symm, fun _ => (if_neg sel).symm, rfl, RegsBut.refl s⟩

/-- One doorbell bit is set, in a powered Frame domain. -/
theorem ringBell_bit (s : State) (r : Nat) {d b : Nat} (hd : d < 16) (hb : b < 16) :
    maskBit ((ringBell s r (2 ^ d)).rd R.FRM_DOORBELL r) b =
      (maskBit (s.rd R.FRM_DOORBELL r) b || (s.domOn 2 && decide (b = d))) := by
  unfold ringBell
  by_cases on : s.domOn 2 = true
  · rw [if_pos on, show R.FRM_DOORBELL = F.FRM_DOORBELL_V.reg from rfl, State.rd_setF_same, maskBit,
      testBit_putBits _ _ (by decide), on]
    have field : (s.f F.FRM_DOORBELL_V r ||| 2 ^ d % 2 ^ 16).testBit b =
        ((s.rd R.FRM_DOORBELL r).toNat.testBit b || decide (b = d)) := by
      rw [Nat.testBit_or, Nat.mod_eq_of_lt (Nat.pow_lt_pow_right (by decide) hd), Nat.testBit_two_pow, State.f, testBit_bits]
      simp [F.FRM_DOORBELL_V, hb, eq_comm]
    simp only [F.FRM_DOORBELL_V, Nat.zero_le, Nat.sub_zero, true_and, show b ≤ 15 by omega, if_true, Bool.true_and, maskBit]
    rw [decide_eq_true (show b < 32 by omega), Bool.true_and]
    exact field
  · rw [if_neg on, Bool.eq_false_iff.mpr on, Bool.false_and, Bool.or_false]

theorem edgeRung_shows (s : State) (n e : Nat) :
    (∀ b, b < 16 → maskBit ((edgeRung s n e).rd R.FRM_DOORBELL (s.f F.DIO_CFG_ROD n)) b =
      (maskBit (s.rd R.FRM_DOORBELL (s.f F.DIO_CFG_ROD n)) b ||
        (decide (s.domOn 2 = true ∧ s.f F.DIO_CFG_DEDGE n &&& e ≠ 0) && decide (b = s.f F.DIO_CFG_DB n)))) ∧
      { noRegs (edgeRung s n e) with w1cSet := [] } = { noRegs s with w1cSet := [] } ∧
      RegsBut (· = R.FRM_DOORBELL.addr (s.f F.DIO_CFG_ROD n)) s (edgeRung s n e) := by
  have db : s.f F.DIO_CFG_DB n < 16 := bits_lt (s.rd R.DIO_CFG n) 19 16
  unfold edgeRung
  by_cases sel : s.f F.DIO_CFG_DEDGE n &&& e ≠ 0
  · rw [if_pos sel]
    refine ⟨fun b hb => ?_, ?_, ?_⟩
    · rw [ringBell_bit s _ db hb]
      by_cases on : s.domOn 2 = true <;> simp [on, sel]
    · unfold ringBell; split <;> rfl
    · unfold ringBell; split
      · exact (RegsBut.refl s).setF rfl
      · exact RegsBut.refl s
  · rw [if_neg sel]
    exact ⟨fun b _ => by simp [sel], rfl, RegsBut.refl s⟩

/-- A filtered input whose contact has differed from its state for its filter time (R558). -/
theorem inputFiltered_runs (n : Fin 16) (alive : s.pd 0 = 2) (differs : (s.dioX n).contact ≠ (s.dioX n).state)
    (held : (s.dioX n).since + s.f F.DIO_CFG_FILT n * 10000 ≤ s.elapsed) :
    exec (.discreteInputEdge (.filtered n)) s =
      .next (dioEdge (s.setDio n { s.dioX n with state := (s.dioX n).contact }) n) :=
  congrArg Host.Outcome.next (if_pos ⟨by simp [State.alive, alive], differs, held⟩)

theorem inputFiltered_waits (n : Fin 16) (early : ¬ ((s.dioX n).contact ≠ (s.dioX n).state ∧
    (s.dioX n).since + s.f F.DIO_CFG_FILT n * 10000 ≤ s.elapsed)) : exec (.discreteInputEdge (.filtered n)) s = .next s :=
  congrArg Host.Outcome.next (if_neg fun h => early h.2)

theorem bell_side (r : Nat) : 0x11001018 ≤ R.FRM_DOORBELL.addr r := by
  simp only [RegDesc.addr, R.FRM_DOORBELL]; omega

/-- What the edge of a filtered input counts, rings and leaves. -/
theorem dioEdge_shows (s : State) (n : Nat) (x : DioX) (hn : n < 16) :
    let t := dioEdge (s.setDio n x) n
    let e := inputEdge s n x.state
    let rod := s.f F.DIO_CFG_ROD n
    (n < 4 → t.rd R.DIO_CNT n = if s.f F.DIO_CFG_CEDGE n &&& e ≠ 0 then s.rd R.DIO_CNT n + 1 else s.rd R.DIO_CNT n) ∧
      (n < 4 → t.ageFrom (0x900 + n) = if s.f F.DIO_CFG_CEDGE n &&& e ≠ 0 then s.elapsed else s.ageFrom (0x900 + n)) ∧
      (∀ b, b < 16 → maskBit (t.rd R.FRM_DOORBELL rod) b = (maskBit (s.rd R.FRM_DOORBELL rod) b ||
        (decide (s.domOn 2 = true ∧ s.f F.DIO_CFG_DEDGE n &&& e ≠ 0) && decide (b = s.f F.DIO_CFG_DB n)))) ∧
      t.sys = { s.sys with dio := tabPut s.sys.dio n x } ∧
      quiet (fun u => { u with regs := [], sys := {}, ageBase := [], pubs := [] })
        (fun a => (n < 4 ∧ a = R.DIO_CNT.addr n) ∨ a = R.FRM_DOORBELL.addr rod) s t := by
  intro t e rod
  have eq : t = edgeRung (edgeCounted (s.setDio n x) n e) n e := dioEdge_eq s n x
  obtain ⟨counts, ages, rest, regs⟩ := edgeCounted_shows (s.setDio n x) n e
  obtain ⟨bells, rest', regs'⟩ := edgeRung_shows (edgeCounted (s.setDio n x) n e) n e
  have cntLow (i : Nat) (hi : n < 4 ∧ R.DIO_CFG.addr n = R.DIO_CNT.addr n) : False := by
    simp only [RegDesc.addr, R.DIO_CFG, R.DIO_CNT] at hi; omega
  have cfg : (edgeCounted (s.setDio n x) n e).rd R.DIO_CFG n = s.rd R.DIO_CFG n := regs.rd (cntLow n)
  have fields (fl : Fld) (h : fl.reg = R.DIO_CFG) : (edgeCounted (s.setDio n x) n e).f fl n = s.f fl n := by
    simp only [State.f, h, cfg]
  have rodAt := fields F.DIO_CFG_ROD rfl
  have bell : (edgeCounted (s.setDio n x) n e).rd R.FRM_DOORBELL rod = s.rd R.FRM_DOORBELL rod := regs.rd fun h => by
    have low := bell_side rod
    simp only [RegDesc.addr, R.DIO_CNT] at h low
    omega
  have domain : (edgeCounted (s.setDio n x) n e).domOn 2 = s.domOn 2 := by
    have pd : (edgeCounted (s.setDio n x) n e).rd R.SYS_PDSTAT = s.rd R.SYS_PDSTAT := regs.rd fun h => by
      simp only [RegDesc.addr, R.DIO_CNT, R.SYS_PDSTAT] at h; omega
    simp only [State.domOn, pd]
  rw [rodAt] at bells regs'
  rw [bell, domain, fields F.DIO_CFG_DEDGE rfl, fields F.DIO_CFG_DB rfl] at bells
  have age : t.ageBase = (edgeCounted (s.setDio n x) n e).ageBase := by
    rw [eq]; simpa [noRegs] using congrArg State.ageBase rest'
  have behind : t.sys = (s.setDio n x).sys := by
    have last := congrArg State.sys rest'
    have first := congrArg State.sys rest
    rw [eq]
    exact last.trans first
  refine ⟨fun few => ?_, fun few => ?_, eq ▸ bells, behind, ?_, ?_⟩
  · rw [eq]
    exact (regs'.rd fun h => by
      have low := bell_side rod
      simp only [RegDesc.addr, R.DIO_CNT, R.FRM_DOORBELL, rod] at h low; omega).trans (counts few)
  · rw [State.ageFrom, age]
    exact ages few
  · have first := congrArg (fun u : State => { u with sys := {}, w1cSet := [] }) rest
    have last := congrArg (fun u : State => { u with sys := {}, ageBase := [], pubs := [] }) rest'
    rw [eq]
    exact last.trans first
  · rw [eq]
    exact (regs.mono (q := fun a => (n < 4 ∧ a = R.DIO_CNT.addr n) ∨ a = R.FRM_DOORBELL.addr rod) fun _ => Or.inl).trans
      (regs'.mono fun _ => Or.inr)

/-! ### VLOG below 9.0 V -/

theorem vlogLow_off {t : State} {k : Nat} (low : t.sys.vlogLow = some k) :
    attnOn t = false ∧ ∀ n, solOut t n = false ∧ lswOut t n = false ∧ gatesOut t n = 0 := by
  refine ⟨by simp [attnOn, low], fun n => ⟨?_, ?_, ?_⟩⟩
  · simp [solOut, State.solHighOn, low]
  · simp [lswOut, State.lswGroupOn, low]
  · simp [gatesOut, low]

end Sys2Proof.Machine

/-! Holds, inputs and VLOG together. -/

namespace Sys2Proof.Machine

open Sys2Proof.Claims

/-- Settles O57: each hold is released or expires on its own (SYS_HREL switch by switch, SYS_HRELM axis by axis), and the
inputs' counts and doorbells follow the edge their configuration selects. -/
theorem holdsEndAndInputsCount : Obligations.HoldsEndAndInputsCount := by
  unfold Obligations.HoldsEndAndInputsCount
  intro s running only calm
  refine ⟨fun on => ⟨fun v run => holdRelease_frees on run v, fun v idle named => holdRelease_refuses on idle named,
    fun v run => holdReleaseAxis_frees on run v, fun v idle named => holdReleaseAxis_refuses on idle named,
    fun v => countClear_clears on v⟩, ?_, ?_, ?_, ?_, ?_, fun powered up => ?_, ⟨_, rfl, rfl, onlySys s _⟩⟩
  · intro n on held due
    exact ⟨fun h => ⟨_, holdMaxExpiry_ends n on held h, lswHoldExpire_ends s n.isLt⟩, fun h => holdMaxExpiry_waits n h⟩
  · intro n on held k due
    exact ⟨fun h => ⟨_, runonMaxExpiry_ends n on held h.1 h.2, mtrHoldExpire_ends s n.isLt⟩, fun h => runonMaxExpiry_waits n h⟩
  · intro n high d
    refine ⟨fun same => (inputContact_runs n high).trans (by rw [if_pos same]), fun differs => ?_⟩
    exact ⟨_, (inputContact_runs n high).trans (by rw [if_neg differs]), setDio_dioX s n _,
      fun m h => setDio_dioX_ne s _ h, rfl, onlySys s _⟩
  · intro high edge
    refine ⟨fun differs => ?_, fun differs => ?_, ⟨_, rfl, rfl, onlySys s _⟩, fun none => ?_, fun low none => ?_⟩
    · obtain ⟨quiet, stopA, -⟩ := stopContact_shows s false high
      obtain ⟨level, since, low, other, otherLow⟩ := stopA rfl differs
      exact ⟨_, rfl, level, since, low, other, otherLow, quiet⟩
    · obtain ⟨quiet, -, stopB⟩ := stopContact_shows s true high
      obtain ⟨level, since, low, other, otherLow⟩ := stopB rfl differs
      exact ⟨_, rfl, level, since, low, other, otherLow, quiet⟩
    · refine ⟨_, rfl, ?_, onlySys s _⟩
      show ({ s.sys with wakeLow := lowSince s s.sys.wakeLow high } : SysX) = _
      rw [none, lowSince_none]
    · subst low
      refine ⟨_, rfl, ?_, onlySys s _⟩
      show ({ s.sys with resetLow := lowSince s s.sys.resetLow false } : SysX) = _
      rw [none, lowSince_none]
      rfl
  · intro n alive d due edge counts rings rod
    refine ⟨fun h => ?_, fun h => inputFiltered_waits n h⟩
    obtain ⟨count, age, bell, sys, rest⟩ := dioEdge_shows s n { s.dioX n with state := (s.dioX n).contact } n.isLt
    have input (m : Nat) : (dioEdge (s.setDio n { s.dioX n with state := (s.dioX n).contact }) n).dioX m =
        (s.setDio n { s.dioX n with state := (s.dioX n).contact }).dioX m :=
      congrArg (fun x : SysX => tabGet ({} : DioX) x.dio m) sys
    refine ⟨_, inputFiltered_runs n alive h.1 h.2, (input n).trans (setDio_dioX s n _),
      fun m hm => (input m).trans (setDio_dioX_ne s _ hm), fun sel => ?_, fun unsel few => ?_, bell, ?_, rest⟩
    · exact ⟨(count sel.1).trans (if_pos sel.2), (age sel.1).trans (if_pos sel.2)⟩
    · exact ⟨(count few).trans (if_neg fun e => unsel ⟨few, e⟩), (age few).trans (if_neg fun e => unsel ⟨few, e⟩)⟩
    · rw [sys]
  · exact ⟨_, congrArg Host.Outcome.next (if_pos ⟨powered, by simp [up]⟩), ⟨rfl, onlySys s _⟩, vlogLow_off rfl⟩

end Sys2Proof.Machine


/-! Loads and stores (R44 to R47, R96, R97, R100, R110, R111). -/

namespace Sys2Proof.Machine

open Sys2Proof.Claims

variable {s t : State} {r : Nat}

/-! ### Bytes and numbers -/

/-- `n` bytes from `a` on, each as `get` gives it, as a number: its first byte least significant. -/
theorem cellsRead_succ_end (m : List Host.Cell) (a n : Nat) :
    cellsRead m a (n + 1) = cellsRead m a n + (cellsGet m (a + n)).toNat * 256 ^ n := by
  induction n generalizing a with
  | zero => simp [cellsRead]
  | succ n ih =>
    have next : a + 1 + n = a + (n + 1) := by omega
    rw [cellsRead, ih (a + 1), next, cellsRead, Nat.pow_succ]
    ring

theorem inScratch_iff (a : Nat) : inScratch a = true ↔ 0x800000 ≤ a ∧ a < 0x804000 := by simp [inScratch]

theorem byteAt_scratch {a : Nat} (h : inScratch a = true) : byteAt s r a = cellsGet (s.rod r).scratch (a - 0x800000) :=
  if_pos ((inScratch_iff a).mp h)

theorem byteAt_frame {a : Nat} (h : inScratch a = false) : byteAt s r a = cellsGet s.frame a :=
  if_neg fun h' => by simp [(inScratch_iff a).mpr h'] at h

/-- An access that ends where it began: `n` bytes all in scratch, or none of them. -/
def oneMemory (a n : Nat) : Prop := ∀ k < n, inScratch (a + k) = inScratch a

theorem oneMemory_of_aligned {a n : Nat} (size : n ∈ [1, 2, 4, 16]) (aligned : a % n = 0) : oneMemory a n := by
  intro k hk
  simp only [List.mem_cons, List.not_mem_nil, or_false] at size
  have low : (0x800000 ≤ a + k ↔ 0x800000 ≤ a) ∧ (a + k < 0x804000 ↔ a < 0x804000) := by
    rcases size with rfl | rfl | rfl | rfl <;> omega
  simp only [inScratch, decide_eq_decide.mpr low.1, decide_eq_decide.mpr low.2]

/-- What a load reads is the number its bytes make. -/
theorem memRead_bytes {a n : Nat} (one : oneMemory a n) : memRead s r a n = bytesAt s r a n := by
  induction n with
  | zero => simp [memRead, cellsRead, bytesAt]
  | succ n ih =>
    have here := one n (Nat.lt_succ_self n)
    rw [bytesAt, ← ih fun k hk => one k (Nat.lt_succ_of_lt hk)]
    unfold memRead
    by_cases scratch : inScratch a = true
    · have low := ((inScratch_iff a).mp scratch).1
      have off : a - 0x800000 + n = a + n - 0x800000 := by omega
      rw [if_pos scratch, if_pos scratch, byteAt_scratch (here.trans scratch), cellsRead_succ_end, off]
    · rw [if_neg scratch, if_neg scratch, byteAt_frame (here.trans (Bool.eq_false_iff.mpr scratch)), cellsRead_succ_end]

/-! ### The way into an access -/

section

variable {a n : Nat}

theorem memFault_none (reach : reachable s r a n) : memFault a n (memAllowed s a n) = none := by
  obtain ⟨aligned, place, -, -⟩ := reach
  have allowed : memAllowed s a n = true := by
    rcases place with scratch | ⟨frame, free⟩
    · simp [memAllowed, (inScratch_iff a).mpr scratch]
    · simp [memAllowed, inFrame, frame, free]
  simp [memFault, aligned, allowed]

theorem beadCheck_sound (sound : tabFind s.beadErr (beadOf r a) = none) : beadCheck s (beadOf r a) = (false, s) := by
  simp [beadCheck, sound]

/-- No store to these bytes is outstanding, so nothing must complete first. -/
theorem drainStores_of_none (free : ∀ b m d, Posted.store b m d ∈ (s.rod r).posted → a + n ≤ b ∨ b + m ≤ a) :
    drainStores s r a n = s := by
  have none : ∀ p ∈ (s.rod r).posted, (match p with
      | .store b m _ => overlaps a n b m
      | _ => false) = false := by
    intro p hp
    cases p with
    | store b m d =>
      have apart := free b m d hp
      simp only [overlaps, Bool.and_eq_false_iff, decide_eq_false_iff_not]
      omega
    | _ => rfl
  rw [drainStores, drain]
  exact if_pos (List.isEmpty_iff.mpr (postedSplit_none none))

/-- A load whose address nothing keeps from its bytes. -/
theorem loadOp_reads {f : MemForm} {put : State → Nat → State} (size : n ∈ [1, 2, 4, 16]) (reach : reachable s r (memAt s r f) n) :
    loadOp s r n f put = rodDone (put s (bytesAt s r (memAt s r f) n)) r := by
  have fault := memFault_none reach
  have one := oneMemory_of_aligned size reach.1
  obtain ⟨-, -, sound, free⟩ := reach
  simp only [loadOp, show memAddr s r f = memAt s r f from rfl, fault, drainStores_of_none free, beadCheck_sound sound,
    memRead_bytes one]

end

/-! ### Loads -/

/-- An instruction that writes one wide register and goes on in sequence. -/
theorem wResult_done (s : State) (r : Nat) {d : BitVec 5} (hd : d.toNat < 8) (v : Bead) :
    wResult s (rodDone (setW s r d v) r) r d v false := by
  have rod : (setW s r d v).rod r = { s.rod r with w := tabPut (s.rod r).w (d.toNat % 8) v } := State.setRod_rod ..
  refine ⟨fun n hn => ?_, ?_, ?_, ?_, ?_, ((onlyRod.refl s).setRod).rodDone (.inl rfl)⟩
  · rw [wReg_rodDone, wReg_setW, Nat.mod_eq_of_lt hd, Nat.mod_eq_of_lt hn]
    exact if_congr ⟨fun e => (BitVec.eq_of_toNat_eq e).symm, fun e => by rw [e]⟩ rfl rfl
  · rw [rodDone_rod, rod]
  · rw [rodDone_rod, rod]
  · rw [rodDone, rodGoto, State.rd_wr_same, rod]
  · rw [rodDone, rodGoto, State.rd_wr_ne _ (by simp [RegDesc.addr, R.FRM_RSTAT, R.FRM_PC])]
    simp [State.rd, setW]

section

variable {r : Fin 16} {f : MemForm}

theorem load_reads (run : ready s r) : ∀ c ∈ loadTable r, reachable s r (memAt s r f) c.2 →
    exec (c.1 f) s = .next (rodDone (setG s r f.d (word (bytesAt s r (memAt s r f) c.2))) r) := by
  obtain ⟨runs, pc, bead⟩ := run
  simp only [loadTable, List.forall_mem_cons]
  refine ⟨fun reach => ?_, fun reach => ?_, fun reach => ?_, fun _ h => absurd h List.not_mem_nil⟩
  · show execLd8 r f s = _
    rw [execLd8, rodExec_body runs pc bead, loadOp_reads (by decide) reach]
  · show execLd16 r f s = _
    rw [execLd16, rodExec_body runs pc bead, loadOp_reads (by decide) reach]
  · show execLd32 r f s = _
    rw [execLd32, rodExec_body runs pc bead, loadOp_reads (by decide) reach]

theorem badWide_false {d : BitVec 5} (h : d.toNat < 8) : badWide d = false := by simp [badWide, h]

theorem loadWide_reads (run : ready s r) (wide : f.d.toNat < 8) (reach : reachable s r (memAt s r f) 16) :
    exec (.ld128 r f) s = .next (rodDone (setW s r f.d (BitVec.ofNat 128 (bytesAt s r (memAt s r f) 16))) r) := by
  obtain ⟨runs, pc, bead⟩ := run
  show execLd128 r f s = _
  rw [execLd128, badWide_false wide, rodExec_body runs pc bead, loadOp_reads (by decide) reach]

end

/-! ### Stores -/

section

variable {a n : Nat}

/-- A store to a sound bead: its bytes, and no stored error of a bead it leaves. -/
theorem storePerform_writes (sound : tabFind s.beadErr (beadOf r a) = none) (v : Nat) :
    ∃ e, storePerform s r a n v = { memWrite s r a n v with beadErr := e } ∧
      ∀ k, tabFind e k = tabFind s.beadErr k := by
  have errs : (memWrite s r a n v).beadErr = s.beadErr := by unfold memWrite; split <;> rfl
  unfold storePerform
  by_cases whole : n = 16
  · rw [if_pos whole]
    simp only [sound, errs]
    refine ⟨_, rfl, fun k => ?_⟩
    rw [tabFind_tabDrop]
    split
    · next e => rw [e, sound]
    · rfl
  · rw [if_neg whole]
    simp only [beadCheck_sound sound]
    exact ⟨(memWrite s r a n v).beadErr, rfl, fun k => by rw [errs]⟩

/-- What `storeOp` does where nothing keeps its address from its bytes. -/
theorem storeOp_stores {f : MemForm} {v : Nat} (reach : reachable s r (memAt s r f) n) :
    storeOp s r n f v =
      if inScratch (memAt s r f) then rodDone (storePerform s r (memAt s r f) n v) r
      else rodDone (post s r (.store (memAt s r f) n (BitVec.ofNat 128 (v % 2 ^ (8 * n))))) r := by
  have fault := memFault_none reach
  obtain ⟨-, -, sound, -⟩ := reach
  have kept : (if n = 16 then (false, s) else beadCheck s (beadOf r (memAt s r f))) = (false, s) := by
    rw [beadCheck_sound sound, ite_self]
  simp only [storeOp, show memAddr s r f = memAt s r f from rfl, fault, kept, Bool.false_eq_true, if_false]

/-- The bytes a store to scratch leaves. -/
theorem scratchWrite_bytes (canon : Memory.wf (s.rod r).scratch = true) (one : oneMemory a n) (scratch : inScratch a = true) (v : Nat) :
    (∀ k < n, byteAt (memWrite s r a n v) r (a + k) = BitVec.ofNat 8 (v / 256 ^ k)) ∧
      ∀ b, b < a ∨ a + n ≤ b → byteAt (memWrite s r a n v) r b = byteAt s r b := by
  have low := ((inScratch_iff a).mp scratch).1
  have written : memWrite s r a n v = s.setRod r { s.rod r with scratch := cellsWrite (s.rod r).scratch (a - 0x800000) n v } :=
    if_pos scratch
  have bytes : ((memWrite s r a n v).rod r).scratch = cellsWrite (s.rod r).scratch (a - 0x800000) n v := by
    rw [written, State.setRod_rod]
  refine ⟨fun k hk => ?_, fun b hb => ?_⟩
  · have off : a + k - 0x800000 = a - 0x800000 + k := by omega
    rw [byteAt_scratch ((one k hk).trans scratch), bytes, off, cellsGet_cellsWrite_inside canon _ _ _ _ hk]
  · by_cases there : inScratch b = true
    · have high := ((inScratch_iff b).mp there).1
      rw [byteAt_scratch there, byteAt_scratch there, bytes, cellsGet_cellsWrite_outside canon _ _ _ _ (by omega)]
    · rw [byteAt_frame (Bool.eq_false_iff.mpr there), byteAt_frame (Bool.eq_false_iff.mpr there), written, State.setRod_frame]

/-- A byte does not change as an instruction completes. -/
theorem byteAt_rodDone (s : State) (r b : Nat) : byteAt (rodDone s r) r b = byteAt s r b := by
  simp only [byteAt, rodDone_rod]
  rfl

end

end Sys2Proof.Machine

/-! Stores as the commands give them, and their completion (R44, R47, R96, R97, R110). -/

namespace Sys2Proof.Machine

open Sys2Proof.Claims

variable {s t : State} {r : Fin 16} {f : MemForm}

/-! ### ST.8 to ST.128 -/

/-- The size of a store of the table, and its data, of which it stores the low bytes. -/
theorem storeTable_shape : ∀ c ∈ storeTable s r, c.2.1 ∈ [1, 2, 4, 16] ∧ ∀ f, c.2.2.1 f < 2 ^ (8 * c.2.1) := by
  simp only [storeTable, List.forall_mem_cons]
  refine ⟨⟨by decide, fun f => Nat.mod_lt _ (by decide)⟩, ⟨by decide, fun f => Nat.mod_lt _ (by decide)⟩,
    ⟨by decide, fun f => (gReg s r f.d).isLt⟩, ⟨by decide, fun f => (wReg s r f.d).isLt⟩, fun _ h => absurd h List.not_mem_nil⟩

/-- A number and its low bytes store the same. -/
theorem cellsWrite_mod (m : List Host.Cell) (a n v : Nat) : cellsWrite m a n (v % 2 ^ (8 * n)) = cellsWrite m a n v := by
  induction n generalizing m a v with
  | zero => rfl
  | succ n ih =>
    have low : BitVec.ofNat 8 (v % 2 ^ (8 * (n + 1))) = BitVec.ofNat 8 v := by
      apply BitVec.eq_of_toNat_eq
      simp only [BitVec.toNat_ofNat]
      exact Nat.mod_mod_of_dvd v (Nat.pow_dvd_pow 2 (by omega))
    have high : v % 2 ^ (8 * (n + 1)) / 256 = v / 256 % 2 ^ (8 * n) := by
      rw [Nat.mul_succ, Nat.pow_add, Nat.mul_comm (2 ^ (8 * n)), Nat.mod_mul_right_div_self]
    simp only [cellsWrite, low, high, ih]

theorem storePerform_mod (s : State) (r a n v : Nat) : storePerform s r a n (v % 2 ^ (8 * n)) = storePerform s r a n v := by
  simp only [storePerform, memWrite, cellsWrite_mod]

/-- A store of the table where nothing keeps its address from its bytes: to scratch at once, else posted. -/
theorem store_stores (run : ready s r) : ∀ c ∈ storeTable s r, c.2.2.2 f → reachable s r (memAt s r f) c.2.1 →
    exec (c.1 f) s = .next (if inScratch (memAt s r f) then rodDone (storePerform s r (memAt s r f) c.2.1 (c.2.2.1 f)) r
      else rodDone (post s r (.store (memAt s r f) c.2.1 (BitVec.ofNat 128 (c.2.2.1 f)))) r) := by
  obtain ⟨runs, pc, bead⟩ := run
  have whole (v : BitVec 32) : v.toNat % 2 ^ (8 * 4) = v.toNat := Nat.mod_eq_of_lt v.isLt
  have wide (v : BitVec 128) : v.toNat % 2 ^ (8 * 16) = v.toNat := Nat.mod_eq_of_lt v.isLt
  simp only [storeTable, List.forall_mem_cons]
  refine ⟨fun _ reach => ?_, fun _ reach => ?_, fun _ reach => ?_, fun wideReg reach => ?_, fun _ h => absurd h List.not_mem_nil⟩
  · show execSt8 r f s = _
    rw [execSt8, rodExec_body runs pc bead, storeOp_stores reach, ← storePerform_mod]
  · show execSt16 r f s = _
    rw [execSt16, rodExec_body runs pc bead, storeOp_stores reach, ← storePerform_mod]
  · show execSt32 r f s = _
    rw [execSt32, rodExec_body runs pc bead, storeOp_stores reach, whole]
  · show execSt128 r f s = _
    rw [execSt128, badWide_false wideReg, rodExec_body runs pc bead, storeOp_stores reach, wide]

/-- A store to scratch, done. -/
theorem scratchStore_done (canon : s.memOk) {a n v : Nat} (size : n ∈ [1, 2, 4, 16]) (reach : reachable s r a n)
    (scratch : inScratch a = true) :
    let t := rodDone (storePerform s r a n v) r
    (∀ k < n, byteAt t r (a + k) = BitVec.ofNat 8 (v / 256 ^ k)) ∧
      (∀ b, b < a ∨ a + n ≤ b → byteAt t r b = byteAt s r b) ∧
      t.rod r = { s.rod r with scratch := (t.rod r).scratch, pc := (s.rod r).pc + 4 } ∧
      { t with rods := s.rods, regs := s.regs, w1cSet := s.w1cSet, beadErr := s.beadErr } = s ∧
      (∀ q, q ≠ r.val → t.rod q = s.rod q) ∧ (∀ k, tabFind t.beadErr k = tabFind s.beadErr k) ∧
      t.rd R.FRM_PC r = (s.rod r).pc ∧ RegsBut (fun a => a = R.FRM_PC.addr r) s t := by
  intro t
  obtain ⟨aligned, -, sound, -⟩ := reach
  obtain ⟨e, stored, errs⟩ := storePerform_writes sound v (n := n)
  obtain ⟨inside, outside⟩ := scratchWrite_bytes (canon.scratchWf r) (oneMemory_of_aligned size aligned) scratch v
  have written : memWrite s r a n v = s.setRod r { s.rod r with scratch := cellsWrite (s.rod r).scratch (a - 0x800000) n v } :=
    if_pos scratch
  have byte (b : Nat) : byteAt t r b = byteAt (memWrite s r a n v) r b := by
    simp only [t, byteAt_rodDone, stored]; rfl
  have rod : (storePerform s r a n v).rod r = { s.rod r with scratch := cellsWrite (s.rod r).scratch (a - 0x800000) n v } := by
    rw [stored, written]; exact State.setRod_rod ..
  have eq : storePerform s r a n v =
      { s.setRod r { s.rod r with scratch := cellsWrite (s.rod r).scratch (a - 0x800000) n v } with beadErr := e } := by
    rw [stored, written]
  refine ⟨fun k hk => (byte _).trans (inside k hk), fun b hb => (byte b).trans (outside b hb), ?_, ?_, fun q hq => ?_, ?_, ?_, ?_⟩
  · rw [rodDone_rod, rod]
  · simp only [t, eq]; rfl
  · rw [rodDone_rod_ne _ hq, eq]; exact State.setRod_rod_ne s (Ne.symm hq) _
  · simp only [t, eq]
    exact errs
  · show (rodDone (storePerform s r a n v) r).rd R.FRM_PC r = _
    rw [rodDone, rodGoto, State.rd_wr_same, rod]
  · have regs : RegsBut (fun a => a = R.FRM_PC.addr r) s (storePerform s r a n v) :=
      (RegsBut.refl s).of_regs (by rw [eq]; rfl)
    exact RegsBut.wr (regs.of_regs rfl) rfl

/-- A store to Frame SRAM, posted. -/
theorem frameStore_posted (s : State) (r : Fin 16) (p : Posted) :
    let t := rodDone (post s r p) r
    t.rod r = { s.rod r with posted := (s.rod r).posted ++ [p], pc := (s.rod r).pc + 4 } ∧
      t.rd R.FRM_PC r = (s.rod r).pc ∧ onlyRod s t r (fun a => a = R.FRM_PC.addr r) := by
  have rod : (post s r p).rod r = { s.rod r with posted := (s.rod r).posted ++ [p] } := State.setRod_rod ..
  refine ⟨?_, ?_, (onlyRod.refl s).setRod.rodDone rfl⟩
  · rw [rodDone_rod, rod]
  · rw [rodDone, rodGoto, State.rd_wr_same, rod]

/-! ### The completion of a store -/

/-- A store that no earlier overlapping one precedes may complete. -/
theorem postedReady_store {k a n : Nat} {d : Bead} (at_k : (s.rod r).posted[k]? = some (.store a n d))
    (first : ∀ j < k, ∀ b m e, (s.rod r).posted[j]? = some (.store b m e) → a + n ≤ b ∨ b + m ≤ a) :
    postedReady s r k = true := by
  simp only [postedReady, at_k, Bool.not_eq_true', List.any_eq_false]
  intro q hq
  obtain ⟨j, hj⟩ := List.mem_iff_getElem?.mp hq
  rw [List.getElem?_take] at hj
  split at hj
  · next lt =>
    cases q with
    | store b m e =>
      have apart := first j lt b m e hj
      simp only [mustPrecede, overlaps, Bool.and_eq_true, decide_eq_true_eq, not_and, not_lt]
      omega
    | _ => simp [mustPrecede]
  · exact absurd hj (by simp)

theorem postedAccessComplete_store {k a n : Nat} {d : Bead} (at_k : (s.rod r).posted[k]? = some (.store a n d))
    (first : ∀ j < k, ∀ b m e, (s.rod r).posted[j]? = some (.store b m e) → a + n ≤ b ∨ b + m ≤ a) :
    exec (.postedAccessComplete r k) s =
      .next (storePerform (s.setRod r { s.rod r with posted := (s.rod r).posted.eraseIdx k }) r a n d.toNat) := by
  show execPostedAccessComplete r k s = _
  have complete : postedComplete s r k =
      storePerform (s.setRod r { s.rod r with posted := (s.rod r).posted.eraseIdx k }) r a n d.toNat := by
    simp only [postedComplete, at_k, performPosted]
  simp only [execPostedAccessComplete, postedReady_store at_k first, at_k, complete, Option.any_some, postedClass, if_true]
  split <;> simp

/-- A store into Frame SRAM as it completes. -/
theorem frameStore_completes (canon : s.memOk) {a n : Nat} {d : Bead} {l : List Posted} (inside : a + n ≤ 0x800000) (some_n : 0 < n)
    (sound : tabFind s.beadErr (a / 16) = none) :
    let t := storePerform (s.setRod r { s.rod r with posted := l }) r a n d.toNat
    (∀ j < n, cellsGet t.frame (a + j) = BitVec.ofNat 8 (d.toNat / 256 ^ j)) ∧
      (∀ b, b < a ∨ a + n ≤ b → cellsGet t.frame b = cellsGet s.frame b) ∧
      t.rod r = { s.rod r with posted := l } ∧ (∀ q, q ≠ r.val → t.rod q = s.rod q) ∧
      (∀ j, tabFind t.beadErr j = tabFind s.beadErr j) ∧
      { t with rods := s.rods, frame := s.frame, beadErr := s.beadErr } = s := by
  have low : inScratch a = false := by simp [inScratch, show ¬ 0x800000 ≤ a by omega]
  have bead : beadOf r a = a / 16 := by simp [beadOf, low]
  obtain ⟨e, stored, errs⟩ := storePerform_writes (s := s.setRod r { s.rod r with posted := l }) (r := r) (a := a) (n := n)
    (by rw [bead]; exact sound) d.toNat
  have written : memWrite (s.setRod r { s.rod r with posted := l }) r a n d.toNat =
      { s.setRod r { s.rod r with posted := l } with frame := cellsWrite s.frame a n d.toNat } := by
    simp [memWrite, low]
  rw [written] at stored
  intro t
  rw [show t = _ from stored]
  exact ⟨fun j hj => cellsGet_cellsWrite_inside canon.frameWf _ _ _ _ hj,
    fun b hb => cellsGet_cellsWrite_outside canon.frameWf _ _ _ _ hb, State.setRod_rod .., fun q hq => State.setRod_rod_ne s (Ne.symm hq) _,
    errs, rfl⟩

/-- Settles O9: a load reads the bytes its address names, in scratch or in Frame SRAM; a store writes them, at once or as
its posted access completes. -/
theorem loadsAndStoresMoveTheirBytes : Obligations.LoadsAndStoresMoveTheirBytes := by
  unfold Obligations.LoadsAndStoresMoveTheirBytes
  refine ⟨fun r s run => ⟨fun c hc f reach => ⟨_, load_reads run c hc reach, gResult_done s r f.d _⟩,
    fun f wide reach => ⟨_, loadWide_reads run wide reach, wResult_done s r wide _⟩⟩,
    fun r s canon => ⟨fun run c hc f wide reach => ⟨fun scratch => ?_, fun low => ?_⟩,
      fun k a n d at_k inside size first sound => ⟨_, postedAccessComplete_store at_k first, frameStore_completes canon inside ?_ sound⟩⟩⟩
  · obtain ⟨size, -⟩ := storeTable_shape c hc
    have there : inScratch (memAt s r f) = true := by
      obtain ⟨-, place, -⟩ := reach
      exact (inScratch_iff _).mpr (place.resolve_right fun h => by omega)
    exact ⟨_, (store_stores run c hc wide reach).trans (by rw [if_pos there]), scratchStore_done canon size reach there⟩
  · have there : inScratch (memAt s r f) = false := by simp [inScratch, show ¬ 0x800000 ≤ memAt s r f by omega]
    exact ⟨_, (store_stores run c hc wide reach).trans (by rw [if_neg (by simp [there])]), frameStore_posted s r _⟩
  · simp only [List.mem_cons, List.not_mem_nil, or_false] at size
    omega

end Sys2Proof.Machine

/-! A failed Rod of a program of POLICY RESET (R72, R86, R530). -/

namespace Sys2Proof.Machine

open Sys2Proof.Claims

/-- With VLOG present and the Frame domain on, logical Rod 1 runs a program of POLICY RESET on physical Rod 1; no other is
bound. -/
def resettingRod : State :=
  { regs := [(R.SYS_PDSTAT.base, 0x22), (R.FRM_RSTAT.addr 1, 1), (R.HLT_RODMAP.addr 0, 0xFFFF01FF),
      (R.HLT_RODMAP.addr 1, 0xFFFFFFFF), (R.HLT_RODMAP.addr 2, 0xFFFFFFFF), (R.HLT_RODMAP.addr 3, 0xFFFFFFFF)],
    sys := { powered := true }, programs := [(1, { entry := 0x100, excEntry := 0, dataBase := 0x4000, dataSize := 0, tplStart := 0, policy := 2, restartMax := 0, priority := 0 })] }

theorem resettingRod_bound : resettingRod.domOn 2 = true ∧ resettingRod.logQueue.length < 32 ∧
    (1 : Nat) ∉ resettingRod.sto.umap.rods ∧ resettingRod.migration = none ∧ resettingRod.physOf 1 = 1 ∧
    ∀ k < 16, k ≠ 1 → resettingRod.physOf k ≠ 1 := by
  decide +kernel

theorem resettingRod_freeRod : freeRod resettingRod 0 := by
  refine ⟨by decide, ⟨by decide, ?_⟩, by simp⟩
  decide +kernel

/-- The reset that POLICY RESET asks for binds the healthy physical Rods anew, in ascending order: logical Rod 1 comes to
physical Rod 2, not to the spare it took. -/
theorem resettingRod_rodFail : ∃ t, exec (.rodFail 1) resettingRod = .next t ∧ t.physOf 1 = 2 :=
  ⟨_, rfl, by decide +kernel⟩

/-- Refutes O17: the statement has the failed Rod's logical Rod bound to the lowest spare whatever the POLICY of its program.
In `resettingRod` the fault resets the block, and its boot binds all healthy physical Rods anew (R530, R545). -/
theorem not_migrationsAndRodFailures : ¬ Obligations.MigrationsAndRodFailures := by
  unfold Obligations.MigrationsAndRodFailures
  intro h
  obtain ⟨on, log, healthy, still, bound, others⟩ := resettingRod_bound
  obtain ⟨-, -, fails⟩ := h resettingRod on log
  obtain ⟨t, run, -, spare, -⟩ := fails 1 1 0 healthy still (by decide) bound others resettingRod_freeRod
  obtain ⟨u, run', phys⟩ := resettingRod_rodFail
  cases run.symm.trans run'
  exact absurd (spare.symm.trans phys) (by decide)

end Sys2Proof.Machine


/-! What a bead leaves of the machine outside its ring (R54, R55), and what a CAN event leaves (R418). -/

namespace Sys2Proof.Machine

open Sys2Proof.Claims

section
variable {s t u : State} {p q : Nat → Prop}

/-! ### One ring's registers -/

/-- A register of block CRG. -/
def RegDesc.inCrg (d : RegDesc) : Bool :=
  decide (0x11010000 ≤ d.base) && decide (d.base < 0x11010040) && d.s1 == 0x40 && d.s2 == 0

theorem ringRegs_addr {d : RegDesc} (h : d.inCrg = true) (n : Nat) : ringRegs n (d.addr n) := by
  simp only [RegDesc.inCrg, Bool.and_eq_true, decide_eq_true_eq, beq_iff_eq] at h
  simp only [ringRegs, RegDesc.addr]
  obtain ⟨⟨⟨lo, hi⟩, h1⟩, h2⟩ := h
  rw [h1, h2]
  omega

theorem ringRegs_event {n a : Nat} (hn : n < 32) (h : ringRegs n a) : eventReg a := by
  simp only [ringRegs] at h
  exact .inl (by omega)

/-- Nothing but ring `n`, its registers and Frame SRAM has changed. -/
def RingOnly (n : Nat) (s t : State) : Prop :=
  { t with regs := [], w1cSet := [], rings := [], frame := [], beadErr := [] } =
      { s with regs := [], w1cSet := [], rings := [], frame := [], beadErr := [] } ∧
    (∀ m, m ≠ n → t.ring m = s.ring m) ∧ RegsBut (ringRegs n) s t

namespace RingOnly
variable {n : Nat}

theorem refl (s : State) : RingOnly n s s := ⟨rfl, fun _ _ => rfl, RegsBut.refl s⟩

theorem trans (h : RingOnly n s t) (h' : RingOnly n t u) : RingOnly n s u :=
  ⟨h'.1.trans h.1, fun m hm => (h'.2.1 m hm).trans (h.2.1 m hm), h.2.2.trans h'.2.2⟩

theorem wr (h : RingOnly n s t) {d : RegDesc} (hd : d.inCrg = true) {v : Word} : RingOnly n s (t.wr d v n) :=
  ⟨h.1, h.2.1, h.2.2.wr (ringRegs_addr hd n)⟩

theorem setRing (h : RingOnly n s t) (x : RingX) : RingOnly n s (t.setRing n x) :=
  ⟨h.1, fun m hm => (t.setRing_ring_ne hm.symm x).trans (h.2.1 m hm), h.2.2.of_regs rfl⟩

theorem putFrameBead (h : RingOnly n s t) (a : Nat) (b : Bead) : RingOnly n s (t.putFrameBead a b) :=
  ⟨h.1, h.2.1, h.2.2.of_regs rfl⟩

/-- A register of no ring or of another one. -/
theorem rd (h : RingOnly n s t) {d : RegDesc} {i j : Nat} (hd : ¬ ringRegs n (d.addr i j)) : t.rd d i j = s.rd d i j :=
  h.2.2.rd hd

theorem posts (hn : n < 32) (h : RingOnly n s t) : Posts s t :=
  ⟨by simpa [State.apart] using congrArg State.apart h.1, h.2.2.mono fun _ => ringRegs_event hn⟩

end RingOnly

theorem ringCommitLoop_only (fuel n : Nat) (s : State) : RingOnly n s (ringCommitLoop fuel s n) := by
  induction fuel generalizing s with
  | zero => exact RingOnly.refl s
  | succ fuel ih =>
    unfold ringCommitLoop
    split
    · split
      · exact ((((RingOnly.refl s).setRing _).wr rfl).wr rfl).trans (ih _)
      · exact RingOnly.refl s
    · exact RingOnly.refl s

/-- Committing moves beads between RESERVED and COUNT; every other register stays. -/
theorem ringCommitLoop_rd (fuel n : Nat) (s : State) {d : RegDesc} {i j : Nat}
    (hr : R.CRG_RESERVED.addr n ≠ d.addr i j) (hc : R.CRG_COUNT.addr n ≠ d.addr i j) :
    (ringCommitLoop fuel s n).rd d i j = s.rd d i j := by
  induction fuel generalizing s with
  | zero => rfl
  | succ fuel ih =>
    unfold ringCommitLoop
    split
    · split
      · rw [ih, State.addR, State.rd_wr_ne _ hc, State.subR, State.rd_wr_ne _ hr]
        rfl
      · rfl
    · rfl

theorem ringReserve_only (s : State) (n : Nat) (rod : Option Nat) (dest : Nat) :
    RingOnly n s (ringReserve s n rod dest).2 :=
  RingOnly.setRing (((((RingOnly.refl s).wr rfl).wr rfl).wr rfl).wr rfl) _

theorem ringAdd_only (s : State) (n : Nat) (b : Bead) (tag : Option Nat) : RingOnly n s (ringAdd s n b tag) := by
  unfold ringAdd
  exact RingOnly.trans (RingOnly.setRing (RingOnly.setRing ((ringReserve_only s n none 0).putFrameBead _ _) _) _)
    (ringCommitLoop_only _ _ _)

theorem putFrameBead_rd (s : State) (a : Nat) (b : Bead) (d : RegDesc) (i j : Nat) :
    (s.putFrameBead a b).rd d i j = s.rd d i j := rfl

theorem ringMark_rd (s : State) (n slot : Nat) (isVoid : Bool) (d : RegDesc) (i j : Nat) :
    (ringMark s n slot isVoid).rd d i j = s.rd d i j := rfl

/-- A reservation takes a slot of the tally and counts as produced. -/
theorem ringReserve_books (s : State) (n : Nat) (rod : Option Nat) (dest : Nat) :
    (ringReserve s n rod dest).2.rd R.CRG_TALLY n = s.rd R.CRG_TALLY n - 1 ∧
      (ringReserve s n rod dest).2.rd R.CRG_PRODUCED n = s.rd R.CRG_PRODUCED n + 1 := by
  have tally : ∀ d ∈ [R.CRG_TAIL, R.CRG_RESERVED, R.CRG_PRODUCED], d.addr n ≠ R.CRG_TALLY.addr n := by
    simp [RegDesc.addr, R.CRG_TAIL, R.CRG_RESERVED, R.CRG_PRODUCED, R.CRG_TALLY]
  have produced : ∀ d ∈ [R.CRG_TAIL, R.CRG_RESERVED, R.CRG_TALLY], d.addr n ≠ R.CRG_PRODUCED.addr n := by
    simp [RegDesc.addr, R.CRG_TAIL, R.CRG_RESERVED, R.CRG_PRODUCED, R.CRG_TALLY]
  simp only [ringReserve, State.setRing_rd, State.addR, State.subR, State.rd_wr_same]
  constructor
  · rw [State.rd_wr_ne _ (tally _ (by simp)), State.rd_wr_ne _ (tally _ (by simp)), State.rd_wr_same,
      State.rd_wr_ne _ (tally _ (by simp))]
    rfl
  · rw [State.rd_wr_ne _ (produced _ (by simp)), State.rd_wr_ne _ (produced _ (by simp)),
      State.rd_wr_ne _ (produced _ (by simp))]
    rfl

/-- A bead added takes a slot of the tally and counts as produced. -/
theorem ringAdd_books (s : State) (n : Nat) (b : Bead) (tag : Option Nat) :
    (ringAdd s n b tag).rd R.CRG_TALLY n = s.rd R.CRG_TALLY n - 1 ∧
      (ringAdd s n b tag).rd R.CRG_PRODUCED n = s.rd R.CRG_PRODUCED n + 1 := by
  have tally : ∀ d ∈ [R.CRG_RESERVED, R.CRG_COUNT], d.addr n ≠ R.CRG_TALLY.addr n := by
    simp [RegDesc.addr, R.CRG_RESERVED, R.CRG_COUNT, R.CRG_TALLY]
  have produced : ∀ d ∈ [R.CRG_RESERVED, R.CRG_COUNT], d.addr n ≠ R.CRG_PRODUCED.addr n := by
    simp [RegDesc.addr, R.CRG_RESERVED, R.CRG_COUNT, R.CRG_PRODUCED]
  have reserved := ringReserve_books s n none 0
  unfold ringAdd ringCommit
  simp only [ringCommitLoop_rd _ _ _ (tally _ (by simp)) (tally _ (by simp)), ringMark_rd, State.setRing_rd,
    ringCommitLoop_rd _ _ _ (produced _ (by simp)) (produced _ (by simp)), putFrameBead_rd]
  exact reserved

theorem ringAddAll_only (s : State) (n : Nat) (bs : List Bead) (tag : Option Nat) : RingOnly n s (ringAddAll s n bs tag) := by
  unfold ringAddAll
  induction bs generalizing s with
  | nil => exact RingOnly.refl s
  | cons b bs ih => exact (ringAdd_only s n b tag).trans (ih _)

theorem ringAddAll_books (s : State) (n : Nat) (bs : List Bead) (tag : Option Nat) :
    (ringAddAll s n bs tag).rd R.CRG_TALLY n = s.rd R.CRG_TALLY n - word bs.length ∧
      (ringAddAll s n bs tag).rd R.CRG_PRODUCED n = s.rd R.CRG_PRODUCED n + word bs.length := by
  unfold ringAddAll
  induction bs generalizing s with
  | nil => simp [word]
  | cons b bs ih =>
    obtain ⟨tally, produced⟩ := ih (ringAdd s n b tag)
    obtain ⟨tally', produced'⟩ := ringAdd_books s n b tag
    have len : word (b :: bs).length = 1 + word bs.length := by
      rw [word, List.length_cons, Nat.add_comm, BitVec.ofNat_add]
      rfl
    rw [List.foldl_cons, tally, produced, tally', produced', len]
    constructor
    · rw [BitVec.sub_sub]
    · rw [BitVec.add_assoc]

end

end Sys2Proof.Machine

/-! Receiving a CAN frame: filters, buffers, queues and error counters (R396 to R406, R414). -/

namespace Sys2Proof.Machine

open Sys2Proof.Claims

section
variable {s t u : State} {p q : Nat → Prop} {n : Nat}

/-- Nothing has changed but the registers that satisfy `p` and, with rings and records, what stands beside them. -/
def OnlyRegs (p : Nat → Prop) (s t : State) : Prop := t.apart = s.apart ∧ RegsBut p s t

namespace OnlyRegs

theorem refl (s : State) : OnlyRegs p s s := ⟨rfl, RegsBut.refl s⟩

theorem trans (h : OnlyRegs p s t) (h' : OnlyRegs p t u) : OnlyRegs p s u := ⟨h'.1.trans h.1, h.2.trans h'.2⟩

theorem mono (h : OnlyRegs p s t) (pq : ∀ a, p a → q a) : OnlyRegs q s t := ⟨h.1, h.2.mono pq⟩

theorem wr (h : OnlyRegs p s t) {d : RegDesc} {v : Word} {i j : Nat} (hp : p (d.addr i j)) : OnlyRegs p s (t.wr d v i j) :=
  ⟨h.1, h.2.wr hp⟩

theorem setF (h : OnlyRegs p s t) {fl : Fld} {v i j : Nat} (hp : p (fl.reg.addr i j)) : OnlyRegs p s (t.setF fl v i j) :=
  ⟨h.1, h.2.setF hp⟩

theorem ring {m : Nat} (h : OnlyRegs p s t) (h' : RingOnly m t u) (hp : ∀ a, ringRegs m a → p a) (hm : m < 32) :
    OnlyRegs p s u :=
  h.trans ⟨(h'.posts hm).1, h'.2.2.mono hp⟩

theorem rd (h : OnlyRegs p s t) {d : RegDesc} {i j : Nat} (hp : ¬ p (d.addr i j)) : t.rd d i j = s.rd d i j := h.2.rd hp

theorem f (h : OnlyRegs p s t) {fl : Fld} {i j : Nat} (hp : ¬ p (fl.reg.addr i j)) : t.f fl i j = s.f fl i j := h.2.f hp

theorem domOn (h : OnlyRegs p s t) (m : Nat) (hp : ¬ p R.SYS_PDSTAT.addr) : t.domOn m = s.domOn m := by
  simp only [State.domOn, h.rd hp]

theorem can (h : OnlyRegs p s t) : t.can = s.can := by simpa [State.apart] using congrArg State.can h.1
theorem tts (h : OnlyRegs p s t) : t.tts = s.tts := by simpa [State.apart] using congrArg State.tts h.1
theorem tbNow (h : OnlyRegs p s t) : t.tbNow = s.tbNow := by simpa [State.apart] using congrArg State.tbNow h.1
theorem canX (h : OnlyRegs p s t) (m : Nat) : t.canX m = s.canX m := by simp only [State.canX, h.can]

end OnlyRegs

/-! ### Events of a channel -/

/-- The registers that an event of channel `n` may change: its lost count, its status, and the books of its event ring. -/
def canEventReg (n a : Nat) : Prop := a = R.CAN_EVLOST.addr n ∨ a = R.CAN_STAT.addr n ∨ ringRegs (4 + n) a

theorem canEvent_only (hn : n < 6) (s : State) (buf code detail : Nat) (v : Word) :
    OnlyRegs (canEventReg n) s (canEvent s n buf code detail v) := by
  have lost : OnlyRegs (canEventReg n) s ((s.addR R.CAN_EVLOST 1 n).setF F.CAN_STAT_EVLOST_SEEN 1 n) :=
    ((OnlyRegs.refl s).wr (.inl rfl)).setF (.inr (.inl rfl))
  unfold canEvent
  simp only
  split
  · exact (OnlyRegs.refl s).ring (ringAdd_only _ _ _ _) (fun _ h => .inr (.inr h)) (by omega)
  · split
    · exact lost.wr (.inr (.inr (ringRegs_addr rfl _)))
    · exact lost

/-- The register of a channel's status is none of a ring. -/
theorem ringRegs_not_can {m a : Nat} (h : ringRegs m a) (hm : m < 32) : a < 0x50000000 := by
  simp only [ringRegs] at h
  omega

/-- An event may set EVLOST_SEEN; the other bits of the status stay. -/
theorem canEvent_stat (hn : n < 6) (s : State) (buf code detail : Nat) (v : Word) {fl : Fld} (hf : fl.reg = R.CAN_STAT)
    (h : fl.hi < 6 ∨ 6 < fl.lo) (h' : fl.hi < 32) : (canEvent s n buf code detail v).f fl n = s.f fl n := by
  have outside : ∀ d : RegDesc, d.addr n < 0x50000000 ∨ d = R.CAN_EVLOST → d.addr n ≠ fl.reg.addr n := by
    rintro d (hd | rfl) <;> rw [hf]
    · simp only [RegDesc.addr, R.CAN_STAT] at hd ⊢; omega
    · simp only [RegDesc.addr, R.CAN_STAT, R.CAN_EVLOST]; omega
  have lost : ((s.addR R.CAN_EVLOST 1 n).setF F.CAN_STAT_EVLOST_SEEN 1 n).f fl n = s.f fl n := by
    rw [State.f_setF_beside (fl := F.CAN_STAT_EVLOST_SEEN) _ 1 n 0 hf.symm (by decide) h' h,
      State.addR, State.f_wr_ne _ (outside _ (.inr rfl))]
  unfold canEvent
  simp only
  split
  · exact (ringAdd_only _ _ _ _).2.2.f fun h => by
      have := ringRegs_not_can h (by omega)
      rw [hf] at this
      simp only [RegDesc.addr, R.CAN_STAT] at this
      omega
  · split
    · rw [State.addR, State.f_wr_ne, lost]
      rw [hf]
      simp only [RegDesc.addr, R.CAN_STAT, R.CRG_LOST]
      omega
    · exact lost

/-- The sticky bits of a channel's status that a lost frame sets. -/
def seenBits : List Fld := [F.CAN_STAT_OVR_SEEN, F.CAN_STAT_QLOST_SEEN]

theorem seenBits_stat {fl : Fld} (h : fl ∈ seenBits) : fl.reg = R.CAN_STAT ∧ 1 < fl.lo ∧ fl.hi < 6 := by
  simp only [seenBits, List.mem_cons, List.not_mem_nil, or_false] at h
  rcases h with rfl | rfl <;> exact ⟨rfl, by decide⟩

theorem canEvent_seen (hn : n < 6) (s : State) (buf code detail : Nat) (v : Word) {fl : Fld} (h : fl ∈ seenBits) :
    (canEvent s n buf code detail v).fb fl n = s.fb fl n := by
  obtain ⟨reg, -, hi⟩ := seenBits_stat h
  simp only [State.fb, canEvent_stat hn s buf code detail v reg (.inl hi) (by omega)]

/-! ### Error counters -/

/-- The registers that a change of the error counters may change. -/
def countersReg (n a : Nat) : Prop := a = R.CAN_ERRC.addr n ∨ canEventReg n a

theorem canEventReg_not_errc (hn : n < 6) : ¬ canEventReg n (R.CAN_ERRC.addr n) := by
  rintro (h | h | h)
  · simp [RegDesc.addr, R.CAN_EVLOST, R.CAN_ERRC] at h
  · simp [RegDesc.addr, R.CAN_STAT, R.CAN_ERRC] at h
  · have := ringRegs_not_can h (by omega)
    simp only [RegDesc.addr, R.CAN_ERRC] at this
    omega

/-- Counters that take the channel to no bus-off. -/
theorem canCounters_active (hn : n < 6) (s : State) {tec rcv : Nat} (ht : tec ≤ 255) (hr : rcv ≤ 255) :
    OnlyRegs (countersReg n) s (canCounters s n tec rcv) ∧ (canCounters s n tec rcv).f F.CAN_ERRC_REC n = rcv ∧
      ∀ fl ∈ seenBits, (canCounters s n tec rcv).fb fl n = s.fb fl n := by
  have base : OnlyRegs (countersReg n) s ((s.setF F.CAN_ERRC_TEC tec n).setF F.CAN_ERRC_REC rcv n) :=
    ((OnlyRegs.refl s).setF (.inl rfl)).setF (.inl rfl)
  have rec' : ((s.setF F.CAN_ERRC_TEC tec n).setF F.CAN_ERRC_REC rcv n).f F.CAN_ERRC_REC n = rcv := by
    rw [State.f_setF_same _ _ _ _ _ (by decide) (by decide)]
    exact Nat.mod_eq_of_lt (by simp only [Fld.width, F.CAN_ERRC_REC]; omega)
  have seen : ∀ fl ∈ seenBits, ((s.setF F.CAN_ERRC_TEC tec n).setF F.CAN_ERRC_REC rcv n).fb fl n = s.fb fl n := by
    intro fl h
    have other : ∀ fl' ∈ [F.CAN_ERRC_TEC, F.CAN_ERRC_REC], fl'.reg.addr n ≠ fl.reg.addr n := by
      rw [(seenBits_stat h).1]
      simp [RegDesc.addr, F.CAN_ERRC_TEC, F.CAN_ERRC_REC, R.CAN_ERRC, R.CAN_STAT]
    rw [State.fb, State.f_setF_ne _ (other F.CAN_ERRC_REC (by simp)), State.f_setF_ne _ (other F.CAN_ERRC_TEC (by simp)),
      State.fb]
  unfold canCounters
  simp only [Nat.min_eq_right (show tec ≤ 511 by omega), Nat.min_eq_right (show rcv ≤ 511 by omega)]
  generalize (s.setF F.CAN_ERRC_TEC tec n).setF F.CAN_ERRC_REC rcv n = u at base rec' seen
  rw [if_neg (show ¬ 255 < tec by omega)]
  generalize hst : (if 127 < tec ∨ 127 < rcv then 1 else 0) = st
  have noBusOff : st ≠ 2 := by rw [← hst]; split <;> decide
  split
  · exact ⟨base, rec', seen⟩
  · have event := canEvent_only hn (u.setF F.CAN_STAT_ESTATE st n) 0xFF 0xC6 st (word (tec + rcv * 65536))
    refine ⟨(base.setF (.inr (.inr (.inl rfl)))).trans (event.mono fun a => .inr), ?_, fun fl h => ?_⟩
    · rw [event.f (canEventReg_not_errc hn), State.f_setF_ne _ (by simp [RegDesc.addr, F.CAN_ERRC_REC, F.CAN_STAT_ESTATE, R.CAN_ERRC, R.CAN_STAT]), rec']
    · obtain ⟨reg, lo, hi⟩ := seenBits_stat h
      rw [canEvent_seen hn _ _ _ _ _ h, State.fb_setF_beside (fl := F.CAN_STAT_ESTATE) _ _ _ _ reg.symm (by decide) (by omega)
        (.inr lo), seen fl h]

/-- A frame received without error takes REC down by one, or from above 127 to between 119 and 127. -/
theorem recDown_counts (hn : n < 6) (s : State) : ∃ k, OnlyRegs (countersReg n) { s with fresh := k } (recDown s n) ∧
    (s.f F.CAN_ERRC_REC n ≤ 127 → (recDown s n).f F.CAN_ERRC_REC n = s.f F.CAN_ERRC_REC n - 1) ∧
    (127 < s.f F.CAN_ERRC_REC n → 119 ≤ (recDown s n).f F.CAN_ERRC_REC n ∧ (recDown s n).f F.CAN_ERRC_REC n ≤ 127) ∧
    ∀ fl ∈ seenBits, (recDown s n).fb fl n = s.fb fl n := by
  have tec : min 255 (s.f F.CAN_ERRC_TEC n) ≤ 255 := Nat.min_le_left ..
  unfold recDown
  simp only
  split
  · next zero => exact ⟨s.fresh, OnlyRegs.refl s, fun _ => by rw [zero], fun h => by omega, fun _ _ => rfl⟩
  · split
    · next low =>
      obtain ⟨regs, down, seen⟩ := canCounters_active hn s tec (show s.f F.CAN_ERRC_REC n - 1 ≤ 255 by omega)
      exact ⟨s.fresh, regs, fun _ => down, fun h => by omega, seen⟩
    · next high =>
      have nine := Nat.mod_lt (Config.freeNat s.fresh) (show 0 < 9 by decide)
      obtain ⟨regs, down, seen⟩ := canCounters_active hn { s with fresh := s.fresh + 1 } tec
        (show 119 + Config.freeNat s.fresh % 9 ≤ 255 by omega)
      refine ⟨s.fresh + 1, regs, fun h => absurd h high, fun _ => ?_, seen⟩
      simp only [State.takeFresh]
      rw [down]
      omega

end
end Sys2Proof.Machine

/-! A received frame's filter, buffer and queue (R397 to R406). -/

namespace Sys2Proof.Machine

open Sys2Proof.Claims

section
variable {s t u : State} {n k : Nat}

/-! ### Filters -/

theorem canAccepts_id (s : State) (n k hdr : Nat) (h : s.f F.CAN_RXBCFG_FMODE n k = 0) : canAccepts s n k hdr = true ↔
    ∀ i < 31, (s.rd R.CAN_RXM n k).getLsbD i = true → hdr.testBit i = (s.rd R.CAN_RXF n k).getLsbD i := by
  rw [canAccepts, if_pos h, beq_iff_eq, ← Nat.zero_mod (2 ^ 31)]
  constructor
  · intro zero i hi mask
    have := congrArg (Nat.testBit · i) zero
    simp only [Nat.testBit_mod_two_pow, hi, decide_true, Bool.true_and, Nat.testBit_and, Nat.testBit_xor, Nat.zero_mod,
      Nat.zero_testBit, State.nat] at this
    simp only [BitVec.getLsbD] at mask ⊢
    simpa [mask] using this
  · intro agree
    apply Nat.eq_of_testBit_eq
    intro i
    simp only [Nat.testBit_mod_two_pow, Nat.zero_mod, Nat.zero_testBit, Nat.testBit_and, Nat.testBit_xor, State.nat]
    by_cases hi : i < 31
    · have := agree i hi
      simp only [BitVec.getLsbD] at this
      cases mask : (s.rd R.CAN_RXM n k).toNat.testBit i with
      | false => simp
      | true => simp [this mask]
    · simp [hi]

/-- The filters that a frame is offered. -/
theorem mem_canFilterOrder (hn : n < 6) : k ∈ canFilterOrder s n ↔ k < if 4 ≤ n then 32 else 64 := by
  by_cases h : 4 ≤ n
  · have : canQueued n = true := by simp [canQueued]; omega
    simp [canFilterOrder, this, h]
  · have : canQueued n = false := by simp [canQueued]; omega
    simp only [canFilterOrder, this, h, if_false, Bool.false_eq_true, List.mem_append, List.mem_filter, List.mem_range]
    cases s.fb F.CAN_RXBCFG_HP n k <;> simp

/-- In the order of R398 an earlier filter comes before a later one. -/
theorem canFilterOrder_pairwise (hn : n < 6) : (canFilterOrder s n).Pairwise (filterBefore s n) := by
  by_cases h : 4 ≤ n
  · have : canQueued n = true := by simp [canQueued]; omega
    simp only [canFilterOrder, this, if_true]
    exact List.pairwise_lt_range.imp fun lt => by simpa [filterBefore, h] using lt
  · have : canQueued n = false := by simp [canQueued]; omega
    simp only [canFilterOrder, this, if_false, Bool.false_eq_true]
    refine List.pairwise_append.mpr ⟨?_, ?_, ?_⟩
    · refine (List.pairwise_lt_range.sublist List.filter_sublist).imp_of_mem fun ha hb lt => ?_
      have ha := (List.mem_filter.mp ha).2
      have hb := (List.mem_filter.mp hb).2
      simp [filterBefore, h, ha, hb, lt]
    · refine (List.pairwise_lt_range.sublist List.filter_sublist).imp_of_mem fun ha hb lt => ?_
      have ha := (List.mem_filter.mp ha).2
      have hb := (List.mem_filter.mp hb).2
      simp only [Bool.not_eq_true'] at ha hb
      simp [filterBefore, h, ha, hb, lt]
    · intro a ha b hb
      have ha := (List.mem_filter.mp ha).2
      have hb := (List.mem_filter.mp hb).2
      simp only [Bool.not_eq_true'] at ha hb
      simp [filterBefore, h, ha, hb]

/-- The filter that decides is the first in the order that is enabled and accepts. -/
theorem canFilter_first (hn : n < 6) {hdr : Nat} (h : canFilter s n hdr = some k) :
    k < (if 4 ≤ n then 32 else 64) ∧ s.fb F.CAN_RXBCFG_EN n k = true ∧ canAccepts s n k hdr = true ∧
      ∀ j, j < (if 4 ≤ n then 32 else 64) → s.fb F.CAN_RXBCFG_EN n j = true → canAccepts s n j hdr = true →
        j = k ∨ filterBefore s n k j := by
  obtain ⟨takes, before, after, order, passed⟩ := List.find?_eq_some_iff_append.mp h
  rw [Bool.and_eq_true] at takes
  refine ⟨(mem_canFilterOrder (s := s) hn).mp (by rw [order]; simp), takes.1, takes.2, fun j hj en acc => ?_⟩
  have mem := (mem_canFilterOrder (s := s) hn).mpr hj
  have sorted := canFilterOrder_pairwise (s := s) hn
  rw [order] at mem sorted
  rcases List.mem_append.mp mem with hm | hm
  · have := passed j hm
    simp [en, acc] at this
  · rcases List.mem_cons.mp hm with rfl | hm
    · exact .inl rfl
    · exact .inr ((List.pairwise_cons.mp (List.pairwise_append.mp sorted).2.1).1 j hm)

theorem canFilter_congr (hf : ∀ k, t.rd R.CAN_RXF n k = s.rd R.CAN_RXF n k) (hm : ∀ k, t.rd R.CAN_RXM n k = s.rd R.CAN_RXM n k)
    (hc : ∀ k, t.rd R.CAN_RXBCFG n k = s.rd R.CAN_RXBCFG n k) (hdr : Nat) : canFilter t n hdr = canFilter s n hdr := by
  simp only [canFilter, canFilterOrder, canAccepts, State.fb, State.f, State.nat, F.CAN_RXBCFG_EN, F.CAN_RXBCFG_HP,
    F.CAN_RXBCFG_FMODE, hf, hm, hc]
  rfl

/-- A stranger's frame touches no Column. -/
theorem colCanFrame_stranger {hdr : Nat} (h : stranger s n hdr) (d : List Nat) (tb : Nat) :
    colCanFrame s n hdr d tb = (none, s) := by
  simp only [colCanFrame, h.1, h.2]

theorem stranger_congr (col : t.col = s.col) (regs : RegsBut (fun a => a < 0x51000000) s t) {hdr : Nat}
    (h : stranger s n hdr) : stranger t n hdr := by
  have far {d : RegDesc} {i j : Nat} (hd : 0x51000000 ≤ d.base) : t.rd d i j = s.rd d i j :=
    regs.rd fun lt => by simp only [RegDesc.addr] at lt; omega
  have colX (m : Nat) : t.colX m = s.colX m := by simp only [State.colX, col]
  constructor
  · refine Eq.trans ?_ h.1
    simp only [colOfCan, State.colSt, State.f, State.nat, F.COL_STATE_STATE, F.COL_STATE_MEDIUM, colX,
      far (show 0x51000000 ≤ R.COL_STATE.base by decide), far (show 0x51000000 ≤ R.COL_ADDR.base by decide)]
    rfl
  · refine Eq.trans ?_ h.2
    simp only [afOfCan, State.fb, State.f, State.nat, F.AF_CTL_EN, F.AF_CTL_MEDIUM, F.AF_CTL_CHMASK,
      far (show 0x51000000 ≤ R.AF_CTL.base by decide), far (show 0x51000000 ≤ R.AF_MATCH.base by decide),
      far (show 0x51000000 ≤ R.AF_MASK.base by decide)]

/-! ### Receive buffers -/

/-- The registers that hold receive buffers and their FULL bits. -/
def rxBufReg (n a : Nat) : Prop :=
  (0x50002000 + 0x10000 * n ≤ a ∧ a < 0x50004000 + 0x10000 * n) ∨ a = R.CAN_RXFULL_LO.addr n ∨ a = R.CAN_RXFULL_HI.addr n

theorem fillWords_rd (n b : Nat) (ws : List Word) (i w : Nat) (s : State) :
    ((ws.zipIdx i).foldl (fun s p => s.wr R.CAN_RXB p.1 n (b + p.2)) s).rd R.CAN_RXB n (b + w) =
      if i ≤ w ∧ w < i + ws.length then ws.getD (w - i) 0 else s.rd R.CAN_RXB n (b + w) := by
  induction ws generalizing i s with
  | nil => rw [if_neg (by simp only [List.length_nil]; omega)]; rfl
  | cons x ws ih =>
    rw [List.zipIdx_cons, List.foldl_cons, ih, List.length_cons]
    rcases Nat.lt_trichotomy w i with lt | rfl | gt
    · rw [if_neg (by omega), if_neg (by omega), State.rd_wr_ne _ (by simp only [RegDesc.addr, R.CAN_RXB]; omega)]
    · rw [if_neg (by omega), if_pos (by omega), State.rd_wr_same, Nat.sub_self]
      rfl
    · rw [State.rd_wr_ne _ (by simp only [RegDesc.addr, R.CAN_RXB]; omega), show w - i = (w - (i + 1)) + 1 by omega,
        List.getD_cons_succ]
      exact if_congr (by omega) rfl rfl

theorem fillWords_only (n b : Nat) (ws : List Word) (i : Nat) (s : State) (hb : b + i + ws.length ≤ 2048) :
    OnlyRegs (rxBufReg n) s ((ws.zipIdx i).foldl (fun s p => s.wr R.CAN_RXB p.1 n (b + p.2)) s) := by
  induction ws generalizing i s with
  | nil => exact OnlyRegs.refl s
  | cons x ws ih =>
    rw [List.length_cons] at hb
    refine ((OnlyRegs.refl s).wr ?_).trans (ih (i + 1) _ (by omega))
    simp only [rxBufReg, RegDesc.addr, R.CAN_RXB]
    omega

theorem setRxFull_only (s : State) (n k : Nat) (b : Bool) : OnlyRegs (rxBufReg n) s (s.setRxFull n k b) := by
  unfold State.setRxFull
  split
  · exact (OnlyRegs.refl s).wr (.inr (.inl rfl))
  · exact (OnlyRegs.refl s).wr (.inr (.inr rfl))

theorem setRxFull_same (s : State) (n : Nat) (hk : k < 64) (b : Bool) : (s.setRxFull n k b).rxFull n k = b := by
  unfold State.setRxFull State.rxFull
  split <;> rw [State.setMask, State.rd_wr_same, maskBit, testBit_putBits _ _ (Nat.le_refl _)] <;>
    cases b <;> simp [bit] <;> omega

theorem setRxFull_words (s : State) (b : Bool) (w : Nat) :
    (s.setRxFull n k b).rd R.CAN_RXB n w = s.rd R.CAN_RXB n w := by
  unfold State.setRxFull State.setMask
  split <;> rw [State.rd_wr_ne] <;> simp only [RegDesc.addr, R.CAN_RXB, R.CAN_RXFULL_LO, R.CAN_RXFULL_HI] <;> omega

theorem rxFill_fills (s : State) (hk : k < 64) {ws : List Word} (hw : ws.length = 20) :
    OnlyRegs (rxBufReg n) s (rxFill s n k ws) ∧ rxHolds (rxFill s n k ws) n k ws ∧ (rxFill s n k ws).rxFull n k = true := by
  have all : ws.take 20 = ws := List.take_of_length_le (by omega)
  unfold rxFill
  rw [all]
  refine ⟨(fillWords_only n (32 * k) ws 0 s (by omega)).trans (setRxFull_only _ _ _ _), fun w hw' => ?_, setRxFull_same _ _ hk _⟩
  rw [setRxFull_words, fillWords_rd, if_pos (by omega), Nat.sub_zero]

end
end Sys2Proof.Machine

/-! A received frame is placed and counted (R396, R401 to R406). -/

namespace Sys2Proof.Machine

open Sys2Proof.Claims

section
variable {s t u : State} {n k : Nat}

/-! ### Where the registers lie -/

/-- An event of a channel reaches its lost count, its status and its ring. -/
theorem canEventReg_at {a : Nat} (h : canEventReg n a) : a = 0x50000030 + 0x10000 * n ∨ a = 0x50000004 + 0x10000 * n ∨
    (0x11010100 + 0x40 * n ≤ a ∧ a < 0x11010140 + 0x40 * n) := by
  rcases h with rfl | rfl | h
  · left; simp only [RegDesc.addr, R.CAN_EVLOST]; omega
  · right; left; simp only [RegDesc.addr, R.CAN_STAT]; omega
  · right; right; simp only [ringRegs] at h; omega

theorem rxBufReg_at {a : Nat} (h : rxBufReg n a) : 0x50000050 + 0x10000 * n ≤ a ∧ a < 0x50004000 + 0x10000 * n ∧
    (a < 0x50000058 + 0x10000 * n ∨ 0x50002000 + 0x10000 * n ≤ a) := by
  rcases h with h | rfl | rfl
  · omega
  · simp only [RegDesc.addr, R.CAN_RXFULL_LO]; omega
  · simp only [RegDesc.addr, R.CAN_RXFULL_HI]; omega

/-- A doorbell of a Rod. -/
def bellReg (a : Nat) : Prop := ∃ r < 16, a = R.FRM_DOORBELL.addr r

theorem bellReg_at {a : Nat} (h : bellReg a) : 0x11001018 ≤ a ∧ a < 0x11002018 := by
  obtain ⟨r, hr, rfl⟩ := h
  simp only [RegDesc.addr, R.FRM_DOORBELL]
  omega

/-! ### Doorbells -/

theorem ringBell_only (s : State) {r : Nat} (hr : r < 16) (mask : Nat) : OnlyRegs bellReg s (ringBell s r mask) := by
  unfold ringBell
  split
  · exact (OnlyRegs.refl s).setF ⟨r, hr, rfl⟩
  · exact OnlyRegs.refl s

theorem ringBell_rings (on : s.domOn 2 = true) (r : Nat) {db : Nat} (hd : db < 16) :
    ((ringBell s r (2 ^ db)).rd R.FRM_DOORBELL r).getLsbD db = true := by
  rw [ringBell, if_pos on]
  have := State.rd_setF_same s F.FRM_DOORBELL_V (s.f F.FRM_DOORBELL_V r ||| (2 ^ db % 2 ^ 16)) r 0
  rw [show F.FRM_DOORBELL_V.reg = R.FRM_DOORBELL from rfl] at this
  rw [this, BitVec.getLsbD, testBit_putBits _ _ (by decide)]
  simp only [F.FRM_DOORBELL_V, Nat.zero_le, true_and, Nat.sub_zero, Nat.testBit_or, Nat.testBit_mod_two_pow, hd,
    Nat.testBit_two_pow_self, decide_true, Bool.and_true, Bool.or_true]
  simp only [show db < 32 by omega, show db ≤ 15 by omega, decide_true, if_true, Bool.true_and]

/-- The doorbell that a frame sets is one of 16 Rods', and one of its 16 bits. -/
theorem rxBell_lt (s : State) (n k : Nat) : s.f F.CAN_RXBCFG_ROD n k < 16 ∧ s.f F.CAN_RXBCFG_DB n k < 16 :=
  ⟨Nat.mod_lt _ (by decide), Nat.mod_lt _ (by decide)⟩

/-! ### A buffer -/

/-- What a frame that becomes readable posts and rings (R404). -/
def rxNotify (s : State) (n k : Nat) (ws : List Word) (evt rod db : Nat) : State :=
  let s := if evt % 2 = 1 then canEvent s n k 0xC0 (bits (ws.getD 1 0) 7 7) (ws.getD 0 0) else s
  if 2 ≤ evt then ringBell s rod (2 ^ db) else s

theorem rxNotify_only (hn : n < 6) (s : State) (k : Nat) (ws : List Word) (evt : Nat) {rod : Nat} (hr : rod < 16) (db : Nat) :
    OnlyRegs (fun a => canEventReg n a ∨ bellReg a) s (rxNotify s n k ws evt rod db) ∧
      ∀ fl ∈ seenBits, (rxNotify s n k ws evt rod db).fb fl n = s.fb fl n := by
  have event : OnlyRegs (canEventReg n) s (if evt % 2 = 1 then canEvent s n k 0xC0 (bits (ws.getD 1 0) 7 7) (ws.getD 0 0) else s) ∧
      ∀ fl ∈ seenBits, (if evt % 2 = 1 then canEvent s n k 0xC0 (bits (ws.getD 1 0) 7 7) (ws.getD 0 0) else s).fb fl n = s.fb fl n := by
    split
    · exact ⟨canEvent_only hn .., fun fl h => canEvent_seen hn _ _ _ _ _ h⟩
    · exact ⟨OnlyRegs.refl s, fun _ _ => rfl⟩
  obtain ⟨regs, seen⟩ := event
  unfold rxNotify
  simp only
  split
  · have bell := ringBell_only (if evt % 2 = 1 then canEvent s n k 0xC0 (bits (ws.getD 1 0) 7 7) (ws.getD 0 0) else s) hr (2 ^ db)
    refine ⟨(regs.mono fun _ => .inl).trans (bell.mono fun _ => .inr), fun fl h => (bell.2.fb fun hq => ?_).trans (seen fl h)⟩
    have := bellReg_at hq
    rw [(seenBits_stat h).1] at this
    simp only [RegDesc.addr, R.CAN_STAT] at this
    omega
  · exact ⟨regs.mono fun _ => .inl, seen⟩

theorem rxNotify_rings (hn : n < 6) (on : s.domOn 2 = true) (k : Nat) (ws : List Word) {evt : Nat} (h : 2 ≤ evt) (rod : Nat)
    {db : Nat} (hd : db < 16) : ((rxNotify s n k ws evt rod db).rd R.FRM_DOORBELL rod).getLsbD db = true := by
  unfold rxNotify
  simp only [if_pos h]
  refine ringBell_rings ?_ rod hd
  split
  · refine ((canEvent_only hn ..).domOn 2 fun hq => ?_).trans on
    have := canEventReg_at hq
    simp only [RegDesc.addr, R.SYS_PDSTAT] at this
    omega
  · exact on

/-- A frame becomes readable: its words, FULL, the doorbell, and what its event leaves. -/
theorem rxPlace_places (hn : n < 6) (s : State) (hk : k < 64) {ws : List Word} (hw : ws.length = 20) :
    OnlyRegs (fun a => rxBufReg n a ∨ canEventReg n a ∨ bellReg a) s (rxPlace s n k ws) ∧
      rxHolds (rxPlace s n k ws) n k ws ∧ (rxPlace s n k ws).rxFull n k = true ∧
      (2 ≤ s.f F.CAN_RXBCFG_EVT n k → s.domOn 2 = true →
        ((rxPlace s n k ws).rd R.FRM_DOORBELL (s.f F.CAN_RXBCFG_ROD n k)).getLsbD (s.f F.CAN_RXBCFG_DB n k) = true) ∧
      ∀ fl ∈ seenBits, (rxPlace s n k ws).fb fl n = s.fb fl n := by
  obtain ⟨filled, holds, full⟩ := rxFill_fills (n := n) s hk hw
  have outside {a : Nat} (h : a < 0x50000050 + 0x10000 * n ∨ (0x50000058 + 0x10000 * n ≤ a ∧ a < 0x50002000 + 0x10000 * n)) :
      ¬ rxBufReg n a := fun hq => by
    have := rxBufReg_at hq
    omega
  have config {fl : Fld} (h : fl.reg = R.CAN_RXBCFG) : (rxFill s n k ws).f fl n k = s.f fl n k :=
    filled.f (outside (by rw [h]; simp only [RegDesc.addr, R.CAN_RXBCFG]; omega))
  have on : (rxFill s n k ws).domOn 2 = s.domOn 2 :=
    filled.domOn 2 (outside (by simp only [RegDesc.addr, R.SYS_PDSTAT]; omega))
  have status : ∀ fl ∈ seenBits, (rxFill s n k ws).fb fl n = s.fb fl n := fun fl h => filled.2.fb (outside (by
    rw [(seenBits_stat h).1]; simp only [RegDesc.addr, R.CAN_STAT]; omega))
  obtain ⟨hr, hd⟩ := rxBell_lt s n k
  obtain ⟨notified, seen⟩ := rxNotify_only hn (rxFill s n k ws) k ws (s.f F.CAN_RXBCFG_EVT n k) hr (s.f F.CAN_RXBCFG_DB n k)
  have event {fl : Fld} (h : fl.reg = R.CAN_RXBCFG) (code detail : Nat) (v : Word) :
      (canEvent (rxFill s n k ws) n k code detail v).f fl n k = s.f fl n k :=
    ((canEvent_only hn ..).f fun hq => by
      have := canEventReg_at hq
      rw [h] at this
      simp only [RegDesc.addr, R.CAN_RXBCFG] at this
      omega).trans (config h)
  have place : rxPlace s n k ws = rxNotify (rxFill s n k ws) n k ws (s.f F.CAN_RXBCFG_EVT n k) (s.f F.CAN_RXBCFG_ROD n k)
      (s.f F.CAN_RXBCFG_DB n k) := by
    unfold rxPlace rxNotify
    simp only [config (fl := F.CAN_RXBCFG_EVT) rfl]
    by_cases odd : s.f F.CAN_RXBCFG_EVT n k % 2 = 1
    · simp only [if_pos odd, event (fl := F.CAN_RXBCFG_ROD) rfl, event (fl := F.CAN_RXBCFG_DB) rfl]
    · simp only [if_neg odd, config (fl := F.CAN_RXBCFG_ROD) rfl, config (fl := F.CAN_RXBCFG_DB) rfl]
  have kept {d : RegDesc} {j : Nat} (h : 0x50000034 + 0x10000 * n ≤ d.addr n j) :
      (rxPlace s n k ws).rd d n j = (rxFill s n k ws).rd d n j := by
    rw [place]
    refine notified.rd fun hq => ?_
    rcases hq with hq | hq
    · have := canEventReg_at hq
      omega
    · have := bellReg_at hq
      omega
  refine ⟨?_, fun w hw' => ?_, ?_, fun evt dom => ?_, fun fl h => ?_⟩
  · rw [place]
    exact (filled.mono fun _ => .inl).trans (notified.mono fun _ => .inr)
  · rw [kept (by simp only [RegDesc.addr, R.CAN_RXB]; omega)]
    exact holds w hw'
  · rw [← full]
    simp only [State.rxFull, kept (show 0x50000034 + 0x10000 * n ≤ R.CAN_RXFULL_LO.addr n by simp only [RegDesc.addr, R.CAN_RXFULL_LO]; omega),
      kept (show 0x50000034 + 0x10000 * n ≤ R.CAN_RXFULL_HI.addr n by simp only [RegDesc.addr, R.CAN_RXFULL_HI]; omega)]
  · rw [place]
    exact rxNotify_rings hn (on.trans dom) k ws evt _ hd
  · rw [place]
    exact (seen fl h).trans (status fl h)

/-! ### What a frame counts in -/

/-- The registers of a count: RXSTORED or RXOVR, with the event of the first loss. -/
def rxCountReg (n a : Nat) : Prop := a = R.CAN_RXSTORED.addr n ∨ a = R.CAN_RXOVR.addr n ∨ canEventReg n a

theorem rxCountReg_at {a : Nat} (h : rxCountReg n a) : a = 0x50000024 + 0x10000 * n ∨ a = 0x50000028 + 0x10000 * n ∨
    a = 0x50000030 + 0x10000 * n ∨ a = 0x50000004 + 0x10000 * n ∨ (0x11010100 + 0x40 * n ≤ a ∧ a < 0x11010140 + 0x40 * n) := by
  rcases h with rfl | rfl | h
  · left; simp only [RegDesc.addr, R.CAN_RXSTORED]; omega
  · right; left; simp only [RegDesc.addr, R.CAN_RXOVR]; omega
  · exact .inr (.inr (canEventReg_at h))

/-- A frame counts as stored, or as one that took another's place. -/
def rxCount (s : State) (n k : Nat) (lost : Bool) : State :=
  if lost then
    let s := s.addR R.CAN_RXOVR 1 n
    if s.fb F.CAN_STAT_OVR_SEEN n then s
    else canEvent (s.setF F.CAN_STAT_OVR_SEEN 1 n) n k 0xC8 0 (s.rd R.CAN_RXOVR n)
  else s.addR R.CAN_RXSTORED 1 n

theorem rxStore_eq (s : State) (n k : Nat) (ws : List Word) : rxStore s n k ws =
    if s.rxLocked n k then
      rxCount (s.setCan n { s.canX n with shadows := tabPut (s.canX n).shadows k ws }) n k (tabFind (s.canX n).shadows k).isSome
    else rxPlace (rxCount s n k (s.rxFull n k)) n k ws := by
  unfold rxStore rxCount
  cases s.rxLocked n k <;> rfl

/-- The counters of received frames. -/
def counted (s t : State) (n : Nat) (stored ovr filt : Word) : Prop :=
  t.rd R.CAN_RXSTORED n = s.rd R.CAN_RXSTORED n + stored ∧ t.rd R.CAN_RXOVR n = s.rd R.CAN_RXOVR n + ovr ∧
    t.rd R.CAN_RXFILT n = s.rd R.CAN_RXFILT n + filt

theorem counters_kept {p : Nat → Prop} (h : RegsBut p t u) (hp : ∀ a, 0x50000020 + 0x10000 * n ≤ a → a < 0x50000030 + 0x10000 * n → ¬ p a)
    {a b c : Word} (hc : counted s t n a b c) : counted s u n a b c := by
  obtain ⟨stored, ovr, filt⟩ := hc
  refine ⟨(h.rd (hp _ ?_ ?_)).trans stored, (h.rd (hp _ ?_ ?_)).trans ovr, (h.rd (hp _ ?_ ?_)).trans filt⟩ <;>
    simp only [RegDesc.addr, R.CAN_RXSTORED, R.CAN_RXOVR, R.CAN_RXFILT] <;> omega

theorem counters_event {a : Nat} (h : canEventReg n a) (lo : 0x50000020 + 0x10000 * n ≤ a) (hi : a < 0x50000030 + 0x10000 * n) : False := by
  have := canEventReg_at h
  omega

theorem counted_stored (s : State) (n : Nat) : counted s (s.addR R.CAN_RXSTORED 1 n) n 1 0 0 := by
  refine ⟨State.rd_wr_same .., ?_, ?_⟩ <;> rw [State.addR, State.rd_wr_ne _ (by simp [RegDesc.addr, R.CAN_RXSTORED, R.CAN_RXOVR, R.CAN_RXFILT])] <;> simp

theorem counted_ovr (s : State) (n : Nat) : counted s (s.addR R.CAN_RXOVR 1 n) n 0 1 0 := by
  refine ⟨?_, State.rd_wr_same .., ?_⟩ <;> rw [State.addR, State.rd_wr_ne _ (by simp [RegDesc.addr, R.CAN_RXSTORED, R.CAN_RXOVR, R.CAN_RXFILT])] <;> simp

theorem counted_filt (s : State) (n : Nat) : counted s (s.addR R.CAN_RXFILT 1 n) n 0 0 1 := by
  refine ⟨?_, ?_, State.rd_wr_same ..⟩ <;> rw [State.addR, State.rd_wr_ne _ (by simp [RegDesc.addr, R.CAN_RXSTORED, R.CAN_RXOVR, R.CAN_RXFILT])] <;> simp

/-- The first loss sets its bit and posts its event. -/
theorem firstLoss (hn : n < 6) (s : State) {fl : Fld} (h : fl ∈ seenBits) (buf code detail : Nat) (v : Word) :
    OnlyRegs (canEventReg n) s (if s.fb fl n then s else canEvent (s.setF fl 1 n) n buf code detail v) ∧
      (if s.fb fl n then s else canEvent (s.setF fl 1 n) n buf code detail v).fb fl n = true := by
  obtain ⟨reg, lo, hi⟩ := seenBits_stat h
  split
  · next seen => exact ⟨OnlyRegs.refl s, seen⟩
  · refine ⟨((OnlyRegs.refl s).setF (.inr (.inl (by rw [reg])))).trans (canEvent_only hn ..), ?_⟩
    rw [canEvent_seen hn _ _ _ _ _ h]
    simp only [seenBits, List.mem_cons, List.not_mem_nil, or_false] at h
    rcases h with rfl | rfl <;> rw [State.fb_setF_same _ _ _ _ _ (by decide) (by decide)] <;> decide

theorem rxCount_counts (hn : n < 6) (s : State) (k : Nat) (lost : Bool) :
    OnlyRegs (rxCountReg n) s (rxCount s n k lost) ∧
      (lost = false → counted s (rxCount s n k lost) n 1 0 0) ∧
      (lost = true → counted s (rxCount s n k lost) n 0 1 0 ∧ (rxCount s n k lost).fb F.CAN_STAT_OVR_SEEN n = true) := by
  cases lost with
  | false =>
    exact ⟨(OnlyRegs.refl s).wr (.inl rfl), fun _ => counted_stored s n, fun h => absurd h (by decide)⟩
  | true =>
    obtain ⟨regs, seen⟩ := firstLoss hn (s.addR R.CAN_RXOVR 1 n) (fl := F.CAN_STAT_OVR_SEEN) (by simp [seenBits]) k 0xC8 0
      ((s.addR R.CAN_RXOVR 1 n).rd R.CAN_RXOVR n)
    refine ⟨((OnlyRegs.refl s).wr (.inr (.inl rfl))).trans (regs.mono fun _ h => .inr (.inr h)), fun h => absurd h (by decide),
      fun _ => ⟨counters_kept regs.2 (fun a lo hi h => counters_event h lo hi) (counted_ovr s n), seen⟩⟩

end
end Sys2Proof.Machine

/-! What reception does to a channel (R396, R401, R405, R406, R414). -/

namespace Sys2Proof.Machine

open Sys2Proof.Claims

section
variable {s t u : State} {n k : Nat}

/-! ### The frame of reception -/

/-- The registers that a received frame may change, apart from its count and the error counters. -/
def rxReg (n a : Nat) : Prop := (0x50000024 + 0x10000 * n ≤ a ∧ a < 0x50000040 + 0x10000 * n) ∨ canEventReg n a ∨
  rxBufReg n a ∨ bellReg a ∨ ∃ r < 4, ringRegs r a

theorem rxReg_at {a : Nat} (hn : n < 6) (h : rxReg n a) : (canRegs n a ∧ a ≠ R.CAN_ERRC.addr n) ∨ bellReg a ∨ eventReg a := by
  rcases h with h | h | h | h | ⟨r, hr, h⟩
  · left; simp only [canRegs, RegDesc.addr, R.CAN_ERRC]; omega
  · rcases canEventReg_at h with h | h | h
    · left; simp only [canRegs, RegDesc.addr, R.CAN_ERRC]; omega
    · left; simp only [canRegs, RegDesc.addr, R.CAN_ERRC]; omega
    · right; right; left; omega
  · have := rxBufReg_at h
    left; simp only [canRegs, RegDesc.addr, R.CAN_ERRC]; omega
  · exact .inr (.inl h)
  · exact .inr (.inr (ringRegs_event (by omega) h))

/-- What a received frame leaves as it was. -/
structure Receives (p : Nat → Prop) (n : Nat) (s t : State) : Prop where
  apart : (noCan t).apart = (noCan s).apart
  regs : RegsBut p s t
  tts : t.tts = s.tts
  others : ∀ m, m ≠ n → t.canX m = s.canX m
  busy : (t.canX n).busy = (s.canX n).busy

theorem noCan_apart (s : State) : (noCan s).apart = (noCan s.apart).apart := rfl

namespace Receives
variable {p q : Nat → Prop}

theorem of_regs (h : OnlyRegs p s t) : Receives p n s t :=
  ⟨by rw [noCan_apart t, noCan_apart s, h.1], h.2, h.tts, fun m _ => h.canX m, by rw [h.canX]⟩

theorem trans (h : Receives p n s t) (h' : Receives p n t u) : Receives p n s u :=
  ⟨h'.apart.trans h.apart, h.regs.trans h'.regs, h'.tts.trans h.tts, fun m hm => (h'.others m hm).trans (h.others m hm),
    h'.busy.trans h.busy⟩

theorem mono (h : Receives p n s t) (pq : ∀ a, p a → q a) : Receives q n s t := ⟨h.apart, h.regs.mono pq, h.tts, h.others, h.busy⟩

theorem setCan (s : State) (n : Nat) (x : CanX) (hx : x.busy = (s.canX n).busy) : Receives p n s (s.setCan n x) :=
  ⟨rfl, RegsBut.refl s, rfl, fun m hm => s.setCan_canX_ne hm.symm x, by rw [State.setCan_canX, hx]⟩

end Receives

/-! ### A buffer channel -/

/-- Buffer `k` of `s` takes a frame's words, or its shadow does. -/
def storedAt (s t : State) (n k : Nat) (ws : List Word) : Prop :=
  (s.rxLocked n k = false → s.rxFull n k = false → counted s t n 1 0 0) ∧
  (s.rxLocked n k = false → s.rxFull n k = true → counted s t n 0 1 0 ∧ t.fb F.CAN_STAT_OVR_SEEN n = true) ∧
  (s.rxLocked n k = false → rxHolds t n k ws ∧ t.rxFull n k = true ∧
    (2 ≤ s.f F.CAN_RXBCFG_EVT n k → s.domOn 2 = true →
      (t.rd R.FRM_DOORBELL (s.f F.CAN_RXBCFG_ROD n k)).getLsbD (s.f F.CAN_RXBCFG_DB n k) = true)) ∧
  (s.rxLocked n k = true → tabFind (t.canX n).shadows k = some ws ∧
    (∀ w < 20, t.rd R.CAN_RXB n (32 * k + w) = s.rd R.CAN_RXB n (32 * k + w)) ∧
    (tabFind (s.canX n).shadows k = none → counted s t n 1 0 0) ∧
    (tabFind (s.canX n).shadows k ≠ none → counted s t n 0 1 0 ∧ t.fb F.CAN_STAT_OVR_SEEN n = true))

theorem rxCountReg_rx {a : Nat} (h : rxCountReg n a) : rxReg n a := by
  rcases h with rfl | rfl | h
  · left; simp only [RegDesc.addr, R.CAN_RXSTORED]; omega
  · left; simp only [RegDesc.addr, R.CAN_RXOVR]; omega
  · exact .inr (.inl h)

theorem rxStore_locked (hn : n < 6) (locked : s.rxLocked n k = true) (ws : List Word) :
    Receives (rxReg n) n s (rxStore s n k ws) ∧ storedAt s (rxStore s n k ws) n k ws := by
  rw [rxStore_eq, if_pos locked]
  obtain ⟨regs, first, lost⟩ := rxCount_counts hn (s.setCan n { s.canX n with shadows := tabPut (s.canX n).shadows k ws }) k
    (tabFind (s.canX n).shadows k).isSome
  have free (h : s.rxLocked n k = false) : False := by simp [locked] at h
  refine ⟨(Receives.setCan s n _ (by rfl)).trans (.of_regs (regs.mono fun a => rxCountReg_rx)),
    fun h => (free h).elim, fun h => (free h).elim, fun h => (free h).elim, fun _ => ⟨?_, fun w hw => ?_, fun h => ?_, fun h => ?_⟩⟩
  · rw [regs.canX, State.setCan_canX, tabFind_tabPut_same]
  · refine regs.rd fun hq => ?_
    have := rxCountReg_at hq
    simp only [RegDesc.addr, R.CAN_RXB] at this
    omega
  · exact first (by rw [h]; rfl)
  · exact lost (Option.isSome_iff_ne_none.mpr h)

theorem rxStore_unlocked (hn : n < 6) (hk : k < 64) (unlocked : s.rxLocked n k = false) {ws : List Word} (hw : ws.length = 20) :
    Receives (rxReg n) n s (rxStore s n k ws) ∧ storedAt s (rxStore s n k ws) n k ws := by
  rw [rxStore_eq, if_neg (by simp [unlocked])]
  obtain ⟨regs, first, lost⟩ := rxCount_counts hn s k (s.rxFull n k)
  have outside {a : Nat} (h : a < 0x11010000 ∨ (0x50000034 + 0x10000 * n ≤ a)) : ¬ rxCountReg n a := fun hq => by
    have := rxCountReg_at hq
    omega
  have config {fl : Fld} (h : fl.reg = R.CAN_RXBCFG) : (rxCount s n k (s.rxFull n k)).f fl n k = s.f fl n k :=
    regs.f (outside (by rw [h]; simp only [RegDesc.addr, R.CAN_RXBCFG]; omega))
  have on : (rxCount s n k (s.rxFull n k)).domOn 2 = s.domOn 2 := regs.domOn 2 (outside (.inl (by decide)))
  obtain ⟨placed, holds, full, rings, seen⟩ := rxPlace_places hn (rxCount s n k (s.rxFull n k)) hk hw
  rw [config (fl := F.CAN_RXBCFG_EVT) rfl, config (fl := F.CAN_RXBCFG_ROD) rfl, config (fl := F.CAN_RXBCFG_DB) rfl, on] at rings
  have counters : ∀ a, 0x50000020 + 0x10000 * n ≤ a → a < 0x50000030 + 0x10000 * n →
      ¬ (rxBufReg n a ∨ canEventReg n a ∨ bellReg a) := by
    rintro a lo hi (h | h | h)
    · have := rxBufReg_at h
      omega
    · exact counters_event h lo hi
    · have := bellReg_at h
      omega
  refine ⟨(Receives.of_regs (regs.mono fun a => rxCountReg_rx)).trans (.of_regs (placed.mono ?_)), fun _ free => ?_,
    fun _ taken => ?_, fun _ => ⟨holds, full, rings⟩, fun h => by simp [unlocked] at h⟩
  · rintro a (h | h | h)
    · exact .inr (.inr (.inl h))
    · exact .inr (.inl h)
    · exact .inr (.inr (.inr (.inl h)))
  · exact counters_kept placed.2 counters (first free)
  · obtain ⟨counts, ovr⟩ := lost taken
    exact ⟨counters_kept placed.2 counters counts, (seen F.CAN_STAT_OVR_SEEN (by simp [seenBits])).trans ovr⟩

theorem rxStore_stores (hn : n < 6) (s : State) (hk : k < 64) {ws : List Word} (hw : ws.length = 20) :
    Receives (rxReg n) n s (rxStore s n k ws) ∧ storedAt s (rxStore s n k ws) n k ws := by
  cases locked : s.rxLocked n k with
  | true => exact rxStore_locked hn locked ws
  | false => exact rxStore_unlocked hn hk locked hw

end
end Sys2Proof.Machine

/-! Queued channels and the settlement of CAN reception (R396 to R406, R414). -/

namespace Sys2Proof.Machine

open Sys2Proof.Claims

section
variable {s t u : State} {n k : Nat}

/-! ### A queued channel -/

/-- The queue of filter `k` takes a frame of `beads` beads, or the frame is lost. -/
def queuedAt (s t : State) (n k beads : Nat) : Prop :=
  let q := s.f F.CAN_RXBCFG_QSEL n k
  let r := 2 * (n - 4) + (q - 1)
  (q = 0 ∨ q = 3 → counted s t n 0 0 1) ∧
    (q = 1 ∨ q = 2 →
      (s.ringOn r = true → (s.ring r).closing = false → beads ≤ s.nat R.CRG_TALLY r →
        counted s t n 1 0 0 ∧ t.rd R.CRG_TALLY r = s.rd R.CRG_TALLY r - word beads ∧
          t.rd R.CRG_PRODUCED r = s.rd R.CRG_PRODUCED r + word beads) ∧
      (s.ringOn r = false ∨ (s.ring r).closing = true ∨ s.nat R.CRG_TALLY r < beads →
        counted s t n 0 1 0 ∧ t.rd (qlostReg (q - 1)) n = s.rd (qlostReg (q - 1)) n + 1 ∧
          t.fb F.CAN_STAT_QLOST_SEEN n = true ∧
          (s.domOn 2 = true → s.ringOn r = false → t.rd R.CRG_LOST r = s.rd R.CRG_LOST r + word beads)))

/-- The beads of a frame of a queue (R405). -/
def queueBeads (f : CanFrame) (k tb : Nat) : List Bead :=
  let ws := payloadWords (canPayload f) 16
  ofLanes (word (canHdr f)) (word (canInfo f k)) (word tb) (word (tb / 2 ^ 32)) ::
    (List.range ((1 + (canLen f + 15) / 16) - 1)).map (fun i =>
      ofLanes (ws.getD (4 * i) 0) (ws.getD (4 * i + 1) 0) (ws.getD (4 * i + 2) 0) (ws.getD (4 * i + 3) 0))

theorem queueBeads_length (f : CanFrame) (k tb : Nat) : (queueBeads f k tb).length = 1 + (canLen f + 15) / 16 := by
  simp [queueBeads, Nat.add_comm]

theorem rxQueue_of_room {q : Nat} {f : CanFrame} {tb : Nat} (known : stranger s n (canHdr f))
    (room : s.ringOn (2 * (n - 4) + q) = true ∧ (s.ring (2 * (n - 4) + q)).closing = false ∧
      1 + (canLen f + 15) / 16 ≤ s.nat R.CRG_TALLY (2 * (n - 4) + q)) :
    rxQueue s n q f k tb = (ringAddAll s (2 * (n - 4) + q) (queueBeads f k tb) none).addR R.CAN_RXSTORED 1 n := by
  obtain ⟨on, opened, fits⟩ := room
  simp only [rxQueue, on, opened, fits, decide_true, Bool.not_false, Bool.and_self, if_true,
    colCanFrame_stranger known, Option.filter_none]
  rfl

theorem rxQueue_of_none {q : Nat} {f : CanFrame} {tb : Nat}
    (full : s.ringOn (2 * (n - 4) + q) = false ∨ (s.ring (2 * (n - 4) + q)).closing = true ∨
      s.nat R.CRG_TALLY (2 * (n - 4) + q) < 1 + (canLen f + 15) / 16) :
    rxQueue s n q f k tb = rxDiscard s n q (1 + (canLen f + 15) / 16) := by
  unfold rxQueue
  simp only
  rw [if_neg]
  simp only [Bool.and_eq_true, decide_eq_true_eq, Bool.not_eq_true']
  rintro ⟨⟨on, opened⟩, fits⟩
  rcases full with h | h | h
  · simp [on] at h
  · simp [opened] at h
  · omega

theorem rxQueue_takes {q : Nat} (hr : 2 * (n - 4) + q < 4) {f : CanFrame} {tb : Nat} (known : stranger s n (canHdr f))
    (room : s.ringOn (2 * (n - 4) + q) = true ∧ (s.ring (2 * (n - 4) + q)).closing = false ∧
      1 + (canLen f + 15) / 16 ≤ s.nat R.CRG_TALLY (2 * (n - 4) + q)) :
    Receives (rxReg n) n s (rxQueue s n q f k tb) ∧ counted s (rxQueue s n q f k tb) n 1 0 0 ∧
      (rxQueue s n q f k tb).rd R.CRG_TALLY (2 * (n - 4) + q) =
        s.rd R.CRG_TALLY (2 * (n - 4) + q) - word (1 + (canLen f + 15) / 16) ∧
      (rxQueue s n q f k tb).rd R.CRG_PRODUCED (2 * (n - 4) + q) =
        s.rd R.CRG_PRODUCED (2 * (n - 4) + q) + word (1 + (canLen f + 15) / 16) := by
  rw [rxQueue_of_room known room]
  have only := ringAddAll_only s (2 * (n - 4) + q) (queueBeads f k tb) none
  obtain ⟨tally, produced⟩ := ringAddAll_books s (2 * (n - 4) + q) (queueBeads f k tb) none
  rw [queueBeads_length] at tally produced
  have ring : OnlyRegs (rxReg n) s (ringAddAll s (2 * (n - 4) + q) (queueBeads f k tb) none) :=
    (OnlyRegs.refl s).ring only (fun a h => .inr (.inr (.inr (.inr ⟨_, hr, h⟩)))) (by omega)
  have outside {d : RegDesc} (h : 0x50000000 ≤ d.base) : (ringAddAll s (2 * (n - 4) + q) (queueBeads f k tb) none).rd d n = s.rd d n :=
    only.rd fun hq => by
      simp only [ringRegs, RegDesc.addr] at hq
      omega
  obtain ⟨stored, ovr, filt⟩ := counted_stored (ringAddAll s (2 * (n - 4) + q) (queueBeads f k tb) none) n
  refine ⟨.of_regs (ring.wr (.inl (by simp only [RegDesc.addr, R.CAN_RXSTORED]; omega))), ⟨?_, ?_, ?_⟩, ?_, ?_⟩
  · rw [stored, outside (by decide)]
  · rw [ovr, outside (by decide)]
  · rw [filt, outside (by decide)]
  · rw [State.addR, State.rd_wr_ne _ (by simp only [RegDesc.addr, R.CAN_RXSTORED, R.CRG_TALLY]; omega), tally]
  · rw [State.addR, State.rd_wr_ne _ (by simp only [RegDesc.addr, R.CAN_RXSTORED, R.CRG_PRODUCED]; omega), produced]

theorem qlostReg_addr (q n : Nat) : qlostReg q = R.CAN_QLOST_A ∧ (qlostReg q).addr n = 0x50000034 + 0x10000 * n ∨
    qlostReg q = R.CAN_QLOST_B ∧ (qlostReg q).addr n = 0x50000038 + 0x10000 * n := by
  unfold qlostReg
  split
  · exact .inl ⟨rfl, by simp only [RegDesc.addr, R.CAN_QLOST_A]; omega⟩
  · exact .inr ⟨rfl, by simp only [RegDesc.addr, R.CAN_QLOST_B]; omega⟩

/-- What a frame that its queue cannot take counts in. -/
def queueLost (s : State) (n q beads : Nat) : State :=
  let r := 2 * (n - 4) + q
  let s := (s.addR R.CAN_RXOVR 1 n).addR (qlostReg q) 1 n
  if s.domOn 2 && (!s.ringOn r || (s.ring r).closing) then s.addR R.CRG_LOST beads r else s

theorem queueLost_counts (hn : n < 6) {q : Nat} (hr : 2 * (n - 4) + q < 4) (s : State) (beads : Nat) :
    OnlyRegs (rxReg n) s (queueLost s n q beads) ∧ counted s (queueLost s n q beads) n 0 1 0 ∧
      (queueLost s n q beads).rd (qlostReg q) n = s.rd (qlostReg q) n + 1 ∧
      (s.domOn 2 = true → s.ringOn (2 * (n - 4) + q) = false →
        (queueLost s n q beads).rd R.CRG_LOST (2 * (n - 4) + q) = s.rd R.CRG_LOST (2 * (n - 4) + q) + word beads) := by
  have at' := qlostReg_addr q n
  have qlost : 0x50000034 + 0x10000 * n ≤ (qlostReg q).addr n ∧ (qlostReg q).addr n < 0x5000003C + 0x10000 * n := by omega
  have base : OnlyRegs (rxReg n) s ((s.addR R.CAN_RXOVR 1 n).addR (qlostReg q) 1 n) :=
    ((OnlyRegs.refl s).wr (.inl (by simp only [RegDesc.addr, R.CAN_RXOVR]; omega))).wr (.inl (by omega))
  have counts : counted s ((s.addR R.CAN_RXOVR 1 n).addR (qlostReg q) 1 n) n 0 1 0 :=
    counters_kept (p := (· = (qlostReg q).addr n)) ((RegsBut.refl _).wr rfl) (fun a lo hi e => by omega) (counted_ovr s n)
  have lost : ((s.addR R.CAN_RXOVR 1 n).addR (qlostReg q) 1 n).rd (qlostReg q) n = s.rd (qlostReg q) n + 1 := by
    rw [State.addR, State.rd_wr_same, State.addR, State.rd_wr_ne]
    · rfl
    · simp only [RegDesc.addr, R.CAN_RXOVR] at qlost ⊢
      omega
  have before {d : RegDesc} {j : Nat} (h : d.addr j < 0x50000000) :
      ((s.addR R.CAN_RXOVR 1 n).addR (qlostReg q) 1 n).rd d j = s.rd d j := by
    rw [State.addR, State.rd_wr_ne _ (by omega), State.addR, State.rd_wr_ne]
    simp only [RegDesc.addr, R.CAN_RXOVR] at h ⊢
    omega
  have on : ((s.addR R.CAN_RXOVR 1 n).addR (qlostReg q) 1 n).domOn 2 = s.domOn 2 := by
    simp only [State.domOn, before (show R.SYS_PDSTAT.addr < 0x50000000 by decide)]
  have low : R.CRG_CFG.addr (2 * (n - 4) + q) < 0x50000000 ∧ R.CRG_LOST.addr (2 * (n - 4) + q) < 0x50000000 := by
    simp only [RegDesc.addr, R.CRG_CFG, R.CRG_LOST]
    omega
  have ringOn : ((s.addR R.CAN_RXOVR 1 n).addR (qlostReg q) 1 n).ringOn (2 * (n - 4) + q) = s.ringOn (2 * (n - 4) + q) := by
    simp only [State.ringOn, State.fb, State.f, F.CRG_CFG_EN, on, before low.1]
  unfold queueLost
  simp only [ringOn, on]
  split
  · have apart {a : Nat} (h : 0x50000000 ≤ a) : ¬ a = R.CRG_LOST.addr (2 * (n - 4) + q) := by omega
    refine ⟨base.wr (.inr (.inr (.inr (.inr ⟨_, hr, ringRegs_addr rfl _⟩)))), ?_, ?_, fun _ _ => ?_⟩
    · exact counters_kept (p := (· = R.CRG_LOST.addr (2 * (n - 4) + q))) ((RegsBut.refl _).wr rfl)
        (fun a lo hi => apart (by omega)) counts
    · rw [State.addR, State.rd_wr_ne _ (by omega), lost]
    · rw [State.addR, State.rd_wr_same, before low.2]
  · next h => exact ⟨base, counts, lost, fun on' off => by simp [on', off] at h⟩

theorem rxDiscard_counts (hn : n < 6) {q : Nat} (hr : 2 * (n - 4) + q < 4) (s : State) (beads : Nat) :
    Receives (rxReg n) n s (rxDiscard s n q beads) ∧ counted s (rxDiscard s n q beads) n 0 1 0 ∧
      (rxDiscard s n q beads).rd (qlostReg q) n = s.rd (qlostReg q) n + 1 ∧
      (rxDiscard s n q beads).fb F.CAN_STAT_QLOST_SEEN n = true ∧
      (s.domOn 2 = true → s.ringOn (2 * (n - 4) + q) = false →
        (rxDiscard s n q beads).rd R.CRG_LOST (2 * (n - 4) + q) = s.rd R.CRG_LOST (2 * (n - 4) + q) + word beads) := by
  obtain ⟨regs, counts, qlost, lost⟩ := queueLost_counts hn hr s beads
  obtain ⟨event, seen⟩ := firstLoss hn (queueLost s n q beads) (fl := F.CAN_STAT_QLOST_SEEN) (by simp [seenBits]) 0xFF 0xC9 q
    ((queueLost s n q beads).rd (qlostReg q) n)
  have discard : rxDiscard s n q beads = if (queueLost s n q beads).fb F.CAN_STAT_QLOST_SEEN n then queueLost s n q beads
      else canEvent ((queueLost s n q beads).setF F.CAN_STAT_QLOST_SEEN 1 n) n 0xFF 0xC9 q ((queueLost s n q beads).rd (qlostReg q) n) :=
    rfl
  rw [← discard] at event seen
  refine ⟨.of_regs (regs.trans (event.mono fun a h => .inr (.inl h))),
    counters_kept event.2 (fun a lo hi h => counters_event h lo hi) counts, ?_, seen, fun on off => ?_⟩
  · rw [event.rd fun h => ?_, qlost]
    have := canEventReg_at h
    have := qlostReg_addr q n
    omega
  · rw [event.rd fun h => ?_, lost on off]
    have := canEventReg_at h
    simp only [RegDesc.addr, R.CRG_LOST] at this
    omega

/-- The frame of a queued channel whose filter decided. -/
def rxQueued (s : State) (n : Nat) (f : CanFrame) (k tb : Nat) : State :=
  let q := s.f F.CAN_RXBCFG_QSEL n k
  if q = 1 ∨ q = 2 then rxQueue s n (q - 1) f k tb else s.addR R.CAN_RXFILT 1 n

theorem rxQueued_queues (hn : n < 6) (f : CanFrame) (tb : Nat) (known : stranger s n (canHdr f)) :
    Receives (rxReg n) n s (rxQueued s n f k tb) ∧ queuedAt s (rxQueued s n f k tb) n k (1 + (canLen f + 15) / 16) := by
  have filtered : Receives (rxReg n) n s (s.addR R.CAN_RXFILT 1 n) :=
    .of_regs ((OnlyRegs.refl s).wr (.inl (by simp only [RegDesc.addr, R.CAN_RXFILT]; omega)))
  unfold rxQueued queuedAt
  simp only
  by_cases hq : s.f F.CAN_RXBCFG_QSEL n k = 1 ∨ s.f F.CAN_RXBCFG_QSEL n k = 2
  · have hr : 2 * (n - 4) + (s.f F.CAN_RXBCFG_QSEL n k - 1) < 4 := by omega
    rw [if_pos hq]
    generalize s.f F.CAN_RXBCFG_QSEL n k = q at hq hr
    by_cases room : s.ringOn (2 * (n - 4) + (q - 1)) = true ∧ (s.ring (2 * (n - 4) + (q - 1))).closing = false ∧
        1 + (canLen f + 15) / 16 ≤ s.nat R.CRG_TALLY (2 * (n - 4) + (q - 1))
    · obtain ⟨keeps, counts, tally, produced⟩ := rxQueue_takes (k := k) (tb := tb) hr known room
      obtain ⟨on, opened, fits⟩ := room
      exact ⟨keeps, fun h => by omega, fun _ => ⟨fun _ _ _ => ⟨counts, tally, produced⟩, fun h => by
        simp only [on, opened, Bool.true_eq_false, Bool.false_eq_true, false_or] at h
        omega⟩⟩
    · have full : s.ringOn (2 * (n - 4) + (q - 1)) = false ∨ (s.ring (2 * (n - 4) + (q - 1))).closing = true ∨
          s.nat R.CRG_TALLY (2 * (n - 4) + (q - 1)) < 1 + (canLen f + 15) / 16 := by
        rcases Bool.eq_false_or_eq_true (s.ringOn (2 * (n - 4) + (q - 1))) with on | off
        · rcases Bool.eq_false_or_eq_true (s.ring (2 * (n - 4) + (q - 1))).closing with cl | op
          · exact .inr (.inl cl)
          · exact .inr (.inr (Nat.lt_of_not_le fun fits => room ⟨on, op, fits⟩))
        · exact .inl off
      rw [rxQueue_of_none full]
      obtain ⟨keeps, counts, qlost, seen, lost⟩ := rxDiscard_counts hn hr s (1 + (canLen f + 15) / 16)
      exact ⟨keeps, fun h => by omega, fun _ => ⟨fun on opened fits => (room ⟨on, opened, fits⟩).elim,
        fun _ => ⟨counts, qlost, seen, lost⟩⟩⟩
  · rw [if_neg hq]
    exact ⟨filtered, fun _ => counted_filt s n, fun h => (hq h).elim⟩

end
end Sys2Proof.Machine

/-! The settlement of CAN reception. -/

namespace Sys2Proof.Machine

open Sys2Proof.Claims

section
variable {s t u : State} {n k : Nat}

/-! ### From the counted frame to the channel -/

/-- Buffers, queues and filters look at no register that counting a frame changes. -/
theorem rxCnt_ne (hn : n < 6) {a : Nat} (h : a < 0x50000000 ∨ (0x50000024 + 0x10000 * n ≤ a ∧ a < 0x50010000 + 0x10000 * n)) :
    ¬ a = R.CAN_RXCNT.addr n := by
  simp only [RegDesc.addr, R.CAN_RXCNT]
  omega

theorem counted_before (hn : n < 6) (h : RegsBut (· = R.CAN_RXCNT.addr n) s u) {a b c : Word} (hc : counted u t n a b c) :
    counted s t n a b c := by
  have same {d : RegDesc} (lo : 0x50000024 ≤ d.base) (hi : d.base < 0x50010000) (h1 : d.s1 = 0x10000) (h2 : d.s2 = 0) :
      u.rd d n = s.rd d n := h.rd (rxCnt_ne hn (.inr (by simp only [RegDesc.addr, h1, h2]; omega)))
  obtain ⟨stored, ovr, filt⟩ := hc
  exact ⟨stored.trans (by rw [same] <;> decide), ovr.trans (by rw [same] <;> decide), filt.trans (by rw [same] <;> decide)⟩

theorem storedAt_before (hn : n < 6) (hk : k < 64) (h : RegsBut (· = R.CAN_RXCNT.addr n) s u) (hc : (u.canX n).shadows = (s.canX n).shadows)
    {ws : List Word} (hs : storedAt u t n k ws) : storedAt s t n k ws := by
  have lockLo : u.rd R.CAN_RXLOCK_LO n = s.rd R.CAN_RXLOCK_LO n := h.rd (rxCnt_ne hn (.inr (by simp only [RegDesc.addr, R.CAN_RXLOCK_LO]; omega)))
  have lockHi : u.rd R.CAN_RXLOCK_HI n = s.rd R.CAN_RXLOCK_HI n := h.rd (rxCnt_ne hn (.inr (by simp only [RegDesc.addr, R.CAN_RXLOCK_HI]; omega)))
  have fullLo : u.rd R.CAN_RXFULL_LO n = s.rd R.CAN_RXFULL_LO n := h.rd (rxCnt_ne hn (.inr (by simp only [RegDesc.addr, R.CAN_RXFULL_LO]; omega)))
  have fullHi : u.rd R.CAN_RXFULL_HI n = s.rd R.CAN_RXFULL_HI n := h.rd (rxCnt_ne hn (.inr (by simp only [RegDesc.addr, R.CAN_RXFULL_HI]; omega)))
  have cfg : u.rd R.CAN_RXBCFG n k = s.rd R.CAN_RXBCFG n k := h.rd (rxCnt_ne hn (.inr (by simp only [RegDesc.addr, R.CAN_RXBCFG]; omega)))
  have words : ∀ w < 20, u.rd R.CAN_RXB n (32 * k + w) = s.rd R.CAN_RXB n (32 * k + w) := fun w hw =>
    h.rd (rxCnt_ne hn (.inr (by simp only [RegDesc.addr, R.CAN_RXB]; omega)))
  have on : u.domOn 2 = s.domOn 2 := by
    simp only [State.domOn, h.rd (rxCnt_ne hn (.inl (show R.SYS_PDSTAT.addr < 0x50000000 by decide)))]
  have locked : u.rxLocked n k = s.rxLocked n k := by simp only [State.rxLocked, lockLo, lockHi]
  have full : u.rxFull n k = s.rxFull n k := by simp only [State.rxFull, fullLo, fullHi]
  have config {fl : Fld} (e : fl.reg = R.CAN_RXBCFG) : u.f fl n k = s.f fl n k := by simp only [State.f, e, cfg]
  have back {a b c : Word} (hc : counted u t n a b c) : counted s t n a b c := counted_before hn h hc
  unfold storedAt at hs
  rw [locked, full, config (fl := F.CAN_RXBCFG_EVT) rfl, config (fl := F.CAN_RXBCFG_ROD) rfl, config (fl := F.CAN_RXBCFG_DB) rfl,
    on, hc] at hs
  obtain ⟨first, over', holds, shadow⟩ := hs
  refine ⟨fun a b => back (first a b), fun a b => (over' a b).imp_left back, holds, fun a => ?_⟩
  obtain ⟨put, same, none, some⟩ := shadow a
  exact ⟨put, fun w hw => (same w hw).trans (words w hw), fun b => back (none b), fun b => (some b).imp_left back⟩

theorem queuedAt_before (hn : n < 6) (hk : k < 64) (h : RegsBut (· = R.CAN_RXCNT.addr n) s u) (hr : u.rings = s.rings)
    {beads : Nat} (hs : queuedAt u t n k beads) : queuedAt s t n k beads := by
  have cfg : u.f F.CAN_RXBCFG_QSEL n k = s.f F.CAN_RXBCFG_QSEL n k :=
    h.f (rxCnt_ne hn (.inr (by simp only [F.CAN_RXBCFG_QSEL, RegDesc.addr, R.CAN_RXBCFG]; omega)))
  have on : u.domOn 2 = s.domOn 2 := by
    simp only [State.domOn, h.rd (rxCnt_ne hn (.inl (show R.SYS_PDSTAT.addr < 0x50000000 by decide)))]
  have lt : s.f F.CAN_RXBCFG_QSEL n k < 4 := Nat.mod_lt _ (by decide)
  unfold queuedAt at hs ⊢
  rw [cfg, on] at hs
  simp only at hs ⊢
  generalize hq : s.f F.CAN_RXBCFG_QSEL n k = q at hs lt ⊢
  have books {d : RegDesc} (hd : d.inCrg = true) : u.rd d (2 * (n - 4) + (q - 1)) = s.rd d (2 * (n - 4) + (q - 1)) := by
    have := ringRegs_addr hd (2 * (n - 4) + (q - 1))
    simp only [ringRegs] at this
    exact h.rd (rxCnt_ne hn (.inl (by omega)))
  have ringOn : u.ringOn (2 * (n - 4) + (q - 1)) = s.ringOn (2 * (n - 4) + (q - 1)) := by
    simp only [State.ringOn, State.fb, State.f, on, F.CRG_CFG_EN, books (show R.CRG_CFG.inCrg = true from rfl)]
  have ring : u.ring (2 * (n - 4) + (q - 1)) = s.ring (2 * (n - 4) + (q - 1)) := by simp only [State.ring, hr]
  have qlost : u.rd (qlostReg (q - 1)) n = s.rd (qlostReg (q - 1)) n := by
    have := qlostReg_addr (q - 1) n
    exact h.rd (rxCnt_ne hn (.inr (by omega)))
  have back {a b c : Word} (hc : counted u t n a b c) : counted s t n a b c := counted_before hn h hc
  rw [ringOn, ring, qlost, books (show R.CRG_TALLY.inCrg = true from rfl), books (show R.CRG_PRODUCED.inCrg = true from rfl),
    books (show R.CRG_LOST.inCrg = true from rfl), State.nat, books (show R.CRG_TALLY.inCrg = true from rfl)] at hs
  obtain ⟨filtered, queue⟩ := hs
  refine ⟨fun a => back (filtered a), fun a => ?_⟩
  obtain ⟨room, full⟩ := queue a
  exact ⟨fun b c d => (room b c d).imp_left back, fun b => (full b).imp_left back⟩

/-- A frame is counted, then filtered and placed. -/
theorem rxFrame_receives (hn : n < 6) (f : CanFrame) (tb : Nat) (known : stranger s n (canHdr f)) :
    Receives (fun a => a = R.CAN_RXCNT.addr n ∨ rxReg n a) n s (rxFrame s n f tb) ∧
      (rxFrame s n f tb).rd R.CAN_RXCNT n = s.rd R.CAN_RXCNT n + 1 ∧
      (canFilter s n (canHdr f) = none → counted s (rxFrame s n f tb) n 0 0 1) ∧
      ∀ k, canFilter s n (canHdr f) = some k →
        (n < 4 → storedAt s (rxFrame s n f tb) n k ([word (canHdr f), word (canInfo f k)] ++ payloadWords (canPayload f) 16 ++
          [word tb, word (tb / 2 ^ 32)])) ∧
        (4 ≤ n → queuedAt s (rxFrame s n f tb) n k (1 + (canLen f + 15) / 16)) := by
  have cnt : OnlyRegs (· = R.CAN_RXCNT.addr n) s (s.addR R.CAN_RXCNT 1 n) := (OnlyRegs.refl s).wr rfl
  have count : (s.addR R.CAN_RXCNT 1 n).rd R.CAN_RXCNT n = s.rd R.CAN_RXCNT n + 1 := State.rd_wr_same ..
  have filter : canFilter (s.addR R.CAN_RXCNT 1 n) n (canHdr f) = canFilter s n (canHdr f) := by
    refine canFilter_congr (fun k => cnt.rd ?_) (fun k => cnt.rd ?_) (fun k => cnt.rd ?_) _ <;>
      simp only [RegDesc.addr, R.CAN_RXCNT, R.CAN_RXF, R.CAN_RXM, R.CAN_RXBCFG] <;> omega
  have known' : stranger (s.addR R.CAN_RXCNT 1 n) n (canHdr f) := stranger_congr (s := s) (t := s.addR R.CAN_RXCNT 1 n) rfl
    (cnt.2.mono fun a e => by subst e; simp only [RegDesc.addr, R.CAN_RXCNT]; omega) known
  have kept {t : State} (h : Receives (rxReg n) n (s.addR R.CAN_RXCNT 1 n) t) :
      Receives (fun a => a = R.CAN_RXCNT.addr n ∨ rxReg n a) n s t ∧ t.rd R.CAN_RXCNT n = s.rd R.CAN_RXCNT n + 1 :=
    ⟨((Receives.of_regs cnt).mono fun _ => .inl).trans (h.mono fun _ => .inr), (h.regs.rd fun hq => by
      rcases hq with hq | hq | hq | hq | ⟨r, hr, hq⟩
      · simp only [RegDesc.addr, R.CAN_RXCNT] at hq; omega
      · have := canEventReg_at hq; simp only [RegDesc.addr, R.CAN_RXCNT] at this; omega
      · have := rxBufReg_at hq; simp only [RegDesc.addr, R.CAN_RXCNT] at this; omega
      · have := bellReg_at hq; simp only [RegDesc.addr, R.CAN_RXCNT] at this; omega
      · simp only [ringRegs, RegDesc.addr, R.CAN_RXCNT] at hq; omega).trans count⟩
  generalize hu : s.addR R.CAN_RXCNT 1 n = u at *
  unfold rxFrame
  simp only [hu, filter]
  cases hf : canFilter s n (canHdr f) with
  | none =>
    obtain ⟨keeps, cnt'⟩ := kept (t := u.addR R.CAN_RXFILT 1 n)
      (.of_regs ((OnlyRegs.refl u).wr (.inl (by simp only [RegDesc.addr, R.CAN_RXFILT]; omega))))
    exact ⟨keeps, cnt', fun _ => counted_before hn cnt.2 (counted_filt u n), fun k h => by cases h⟩
  | some k =>
    have hk : k < 64 := by
      have := (canFilter_first hn hf).1
      split at this <;> omega
    simp only
    by_cases h4 : 4 ≤ n
    · have queued : canQueued n = true := by simp [canQueued]; omega
      obtain ⟨keeps, took⟩ := rxQueued_queues (k := k) hn f tb known'
      obtain ⟨keeps, cnt'⟩ := kept keeps
      rw [if_pos queued]
      refine ⟨keeps, cnt', nofun, fun k' e => ?_⟩
      cases e
      exact ⟨fun h => by omega, fun _ => queuedAt_before hn hk cnt.2 (by rw [← hu]; rfl) took⟩
    · have queued : canQueued n = false := by simp [canQueued]; omega
      obtain ⟨keeps, took⟩ := rxStore_stores (k := k) hn u hk (ws := [word (canHdr f), word (canInfo f k)] ++
        payloadWords (canPayload f) 16 ++ [word tb, word (tb / 2 ^ 32)]) (by simp [payloadWords])
      obtain ⟨keeps, cnt'⟩ := kept keeps
      simp only [queued, Bool.false_eq_true, if_false, colCanFrame_stranger known', ite_self]
      refine ⟨keeps, cnt', nofun, fun k' e => ?_⟩
      cases e
      exact ⟨fun _ => storedAt_before hn hk cnt.2 (by rw [cnt.canX]) took, fun h => by omega⟩

end
end Sys2Proof.Machine

/-! The settlement of CAN reception. -/

namespace Sys2Proof.Machine

open Sys2Proof.Claims

section
variable {s t u : State} {n k : Nat}

/-! ### After the frame, the error counters -/

theorem countersReg_at {a : Nat} (h : countersReg n a) : (0x50000000 + 0x10000 * n ≤ a ∧ a < 0x50000018 + 0x10000 * n) ∨
    a = 0x50000030 + 0x10000 * n ∨ (0x11010100 + 0x40 * n ≤ a ∧ a < 0x11010140 + 0x40 * n) := by
  rcases h with rfl | h
  · left; simp only [RegDesc.addr, R.CAN_ERRC]; omega
  · rcases canEventReg_at h with h | h | h <;> omega

/-- What follows a frame on a channel's error counters touches neither its counters, its buffers nor its queues. -/
structure Settles (n : Nat) (t u : State) : Prop where
  regs : RegsBut (countersReg n) t u
  can : u.can = t.can
  seen : ∀ fl ∈ seenBits, u.fb fl n = t.fb fl n

theorem counted_after (h : Settles n t u) {a b c : Word} (hc : counted s t n a b c) : counted s u n a b c :=
  counters_kept h.regs (fun a lo hi hq => by have := countersReg_at hq; omega) hc

theorem storedAt_after (h : Settles n t u) {ws : List Word} (hs : storedAt s t n k ws) : storedAt s u n k ws := by
  have apart {a : Nat} (ha : 0x50000034 + 0x10000 * n ≤ a ∨ a < 0x11010000) : ¬ countersReg n a := fun hq => by
    have := countersReg_at hq
    omega
  have words (w : Nat) : u.rd R.CAN_RXB n (32 * k + w) = t.rd R.CAN_RXB n (32 * k + w) :=
    h.regs.rd (apart (.inl (by simp only [RegDesc.addr, R.CAN_RXB]; omega)))
  have lo : u.rd R.CAN_RXFULL_LO n = t.rd R.CAN_RXFULL_LO n := h.regs.rd (apart (.inl (by simp only [RegDesc.addr, R.CAN_RXFULL_LO]; omega)))
  have hi : u.rd R.CAN_RXFULL_HI n = t.rd R.CAN_RXFULL_HI n := h.regs.rd (apart (.inl (by simp only [RegDesc.addr, R.CAN_RXFULL_HI]; omega)))
  have full : u.rxFull n k = t.rxFull n k := by simp only [State.rxFull, lo, hi]
  have bell {r : Nat} (hr : r < 16) : u.rd R.FRM_DOORBELL r = t.rd R.FRM_DOORBELL r :=
    h.regs.rd (apart (.inr (by simp only [RegDesc.addr, R.FRM_DOORBELL]; omega)))
  have ovr := h.seen F.CAN_STAT_OVR_SEEN (by simp [seenBits])
  have canX : u.canX n = t.canX n := by simp only [State.canX, h.can]
  obtain ⟨first, taken, holds, shadow⟩ := hs
  refine ⟨fun a b => counted_after h (first a b), fun a b => ?_, fun a => ?_, fun a => ?_⟩
  · exact ⟨counted_after h (taken a b).1, ovr.trans (taken a b).2⟩
  · obtain ⟨ws', full', rings⟩ := holds a
    exact ⟨fun w hw => (words w).trans (ws' w hw), full.trans full', fun e on => by
      rw [bell (rxBell_lt s n k).1]
      exact rings e on⟩
  · obtain ⟨put, same, none, some⟩ := shadow a
    exact ⟨by rw [canX]; exact put, fun w hw => (words w).trans (same w hw), fun b => counted_after h (none b),
      fun b => ⟨counted_after h (some b).1, ovr.trans (some b).2⟩⟩

theorem queuedAt_after (h : Settles n t u) (h4 : 4 ≤ n) (hn : n < 6) {beads : Nat} (hs : queuedAt s t n k beads) :
    queuedAt s u n k beads := by
  have lt : s.f F.CAN_RXBCFG_QSEL n k < 4 := Nat.mod_lt _ (by decide)
  unfold queuedAt at hs ⊢
  simp only at hs ⊢
  generalize s.f F.CAN_RXBCFG_QSEL n k = q at hs lt ⊢
  obtain ⟨filtered, queue⟩ := hs
  refine ⟨fun a => counted_after h (filtered a), fun a => ?_⟩
  have books {d : RegDesc} (hd : d.inCrg = true) : u.rd d (2 * (n - 4) + (q - 1)) = t.rd d (2 * (n - 4) + (q - 1)) := by
    have := ringRegs_addr hd (2 * (n - 4) + (q - 1))
    simp only [ringRegs] at this
    refine h.regs.rd fun hq => ?_
    have := countersReg_at hq
    omega
  have qlost : u.rd (qlostReg (q - 1)) n = t.rd (qlostReg (q - 1)) n := h.regs.rd fun hq => by
    have := countersReg_at hq
    have := qlostReg_addr (q - 1) n
    omega
  obtain ⟨room, full⟩ := queue a
  refine ⟨fun b c d => ?_, fun b => ?_⟩
  · obtain ⟨counts, tally, produced⟩ := room b c d
    exact ⟨counted_after h counts, (books rfl).trans tally, (books rfl).trans produced⟩
  · obtain ⟨counts, ql, seen, lost⟩ := full b
    exact ⟨counted_after h counts, qlost.trans ql, (h.seen F.CAN_STAT_QLOST_SEEN (by simp [seenBits])).trans seen,
      fun on off => (books rfl).trans (lost on off)⟩

/-! ### The channel -/

/-- In NORMAL a received frame takes REC down. -/
def rxSettle (s : State) (n mode : Nat) : State := if mode = 1 then recDown s n else s

theorem rxSettle_settles (hn : n < 6) (s : State) (mode : Nat) : Settles n s (rxSettle s n mode) ∧
    Receives (countersReg n) n s (rxSettle s n mode) ∧
    (mode ≠ 1 → (rxSettle s n mode).f F.CAN_ERRC_REC n = s.f F.CAN_ERRC_REC n) ∧
    (mode = 1 → s.f F.CAN_ERRC_REC n ≤ 127 → (rxSettle s n mode).f F.CAN_ERRC_REC n = s.f F.CAN_ERRC_REC n - 1) ∧
    (mode = 1 → 127 < s.f F.CAN_ERRC_REC n →
      119 ≤ (rxSettle s n mode).f F.CAN_ERRC_REC n ∧ (rxSettle s n mode).f F.CAN_ERRC_REC n ≤ 127) := by
  unfold rxSettle
  split
  · next normal =>
    obtain ⟨k, regs, low, high, seen⟩ := recDown_counts hn s
    have fresh : Receives (countersReg n) n s { s with fresh := k } := ⟨rfl, RegsBut.refl s, rfl, fun _ _ => rfl, rfl⟩
    exact ⟨⟨regs.2, regs.can, seen⟩, fresh.trans (.of_regs regs), fun h => (h normal).elim, fun _ => low, fun _ => high⟩
  · next other =>
    exact ⟨⟨RegsBut.refl s, rfl, fun _ _ => rfl⟩, .of_regs (OnlyRegs.refl s), fun _ => rfl, fun h => (other h).elim,
      fun h => (other h).elim⟩

theorem ttsFrame_off (h : boardOn s n = false) (hdr : Nat) (d : List Nat) (len ago : Nat) : ttsFrame s n hdr d len ago = s := by
  simp [ttsFrame, h]

/-- A board is on or off by registers that a frame does not change. -/
theorem boardOn_congr {p : Nat → Prop} (hn : n < 6) (h : RegsBut p s t) (hp : ∀ a, p a → canRegs n a ∨ bellReg a ∨ eventReg a) :
    boardOn t n = boardOn s n := by
  have outside {a : Nat} (ha : 0x50060000 ≤ a ∨ a < 0x10020000) : ¬ p a := fun hq => by
    rcases hp a hq with h | h | h
    · simp only [canRegs] at h; omega
    · have := bellReg_at h; omega
    · have := eventReg_area h; omega
  have pd : t.rd R.SYS_PDSTAT = s.rd R.SYS_PDSTAT := h.rd (outside (.inr (by decide)))
  have ctl : t.rd R.TTS_CTL (n - 4) = s.rd R.TTS_CTL (n - 4) :=
    h.rd (outside (.inl (by simp only [RegDesc.addr, R.TTS_CTL]; omega)))
  simp only [boardOn, State.domOn, State.fb, State.f, F.TTS_CTL_EN, pd, ctl]

theorem countersReg_area {a : Nat} (hn : n < 6) (h : countersReg n a) : canRegs n a ∨ bellReg a ∨ eventReg a := by
  rcases countersReg_at h with h | h | h
  · left; simp only [canRegs]; omega
  · left; simp only [canRegs]; omega
  · right; right; left; omega

theorem rxCntReg_area {a : Nat} (hn : n < 6) (h : a = R.CAN_RXCNT.addr n ∨ rxReg n a) : canRegs n a ∨ bellReg a ∨ eventReg a := by
  rcases h with rfl | h
  · left; simp only [canRegs, RegDesc.addr, R.CAN_RXCNT]; omega
  · exact (rxReg_at hn h).imp_left And.left

/-- A frame that the channel takes, with no board to look at it. -/
theorem canReceive_takes (hn : n < 6) {f : CanFrame} (takes : canTakes s n f) (off : boardOn s n = false)
    (known : stranger s n (canHdr f)) : canReceive s n f =
      rxSettle (rxFrame (s.setCan n { s.canX n with busy := false }) n f (s.tbNow - f.ago)) n (s.canX n).mode := by
  obtain ⟨listens, send, idle, valid⟩ := takes
  have ok : (!f.fdf || (!f.rtr && s.fb F.CAN_CTL_FDE n)) = true := by
    cases fdf : f.fdf with
    | false => rfl
    | true => simp [valid fdf]
  have known' : stranger (s.setCan n { s.canX n with busy := false }) n (canHdr f) :=
    stranger_congr (s := s) rfl (RegsBut.refl s) known
  obtain ⟨keeps, -⟩ := rxFrame_receives hn f (s.tbNow - f.ago) known'
  obtain ⟨-, settles, -⟩ := rxSettle_settles hn (rxFrame (s.setCan n { s.canX n with busy := false }) n f (s.tbNow - f.ago)) (s.canX n).mode
  have board := (boardOn_congr hn settles.regs fun a => countersReg_area hn).trans
    (boardOn_congr hn keeps.regs fun a => rxCntReg_area hn)
  exact (if_pos ⟨listens, send, idle, ok⟩).trans (ttsFrame_off (board.trans off) _ _ _ _)

/-- What the statement says of the state after a received frame. -/
def receivedAt (s t : State) (n : Nat) (f : CanFrame) : Prop :=
  let was := s.f F.CAN_ERRC_REC n
  let now := t.f F.CAN_ERRC_REC n
  t.rd R.CAN_RXCNT n = s.rd R.CAN_RXCNT n + 1 ∧ (t.canX n).busy = false ∧
    (canFilter s n (canHdr f) = none → counted s t n 0 0 1) ∧
    (∀ k, canFilter s n (canHdr f) = some k → (n < 4 → storedAt s t n k (rxWords s f k)) ∧
      (4 ≤ n → queuedAt s t n k (1 + (canLen f + 15) / 16))) ∧
    ((s.canX n).mode ≠ 1 → now = was) ∧
    ((s.canX n).mode = 1 → was ≤ 127 → now = was - 1) ∧
    ((s.canX n).mode = 1 → 127 < was → 119 ≤ now ∧ now ≤ 127) ∧
    canOnly (fun a => ∃ r < 16, a = R.FRM_DOORBELL.addr r) n s t

theorem canReceive_channel (hn : n < 6) {f : CanFrame} (takes : canTakes s n f) (off : boardOn s n = false)
    (known : stranger s n (canHdr f)) : receivedAt s (canReceive s n f) n f := by
  rw [canReceive_takes hn takes off known]
  generalize hu : s.setCan n { s.canX n with busy := false } = u
  have busy : (u.canX n).busy = false := by rw [← hu, State.setCan_canX]
  have shadows : (u.canX n).shadows = (s.canX n).shadows := by rw [← hu, State.setCan_canX]
  have regs : RegsBut (· = R.CAN_RXCNT.addr n) s u := by rw [← hu]; exact RegsBut.refl s
  have filter : canFilter u n (canHdr f) = canFilter s n (canHdr f) := by rw [← hu]; exact canFilter_congr (fun _ => rfl) (fun _ => rfl) (fun _ => rfl) _
  have known' : stranger u n (canHdr f) := by rw [← hu]; exact stranger_congr (s := s) rfl (RegsBut.refl s) known
  obtain ⟨keeps, cnt, filtered, placed⟩ := rxFrame_receives hn f (s.tbNow - f.ago) known'
  rw [filter] at filtered placed
  generalize hA : rxFrame u n f (s.tbNow - f.ago) = A at *
  obtain ⟨after, settles, same, low, high⟩ := rxSettle_settles hn A (s.canX n).mode
  have was : A.f F.CAN_ERRC_REC n = s.f F.CAN_ERRC_REC n := by
    refine (keeps.regs.f ?_).trans (by rw [← hu]; rfl)
    rintro (h | h)
    · simp [RegDesc.addr, F.CAN_ERRC_REC, R.CAN_ERRC, R.CAN_RXCNT] at h
    · rcases rxReg_at hn h with h | h | h
      · exact h.2 rfl
      · have := bellReg_at h
        simp only [F.CAN_ERRC_REC, RegDesc.addr, R.CAN_ERRC] at this
        omega
      · have := eventReg_area h
        simp only [F.CAN_ERRC_REC, RegDesc.addr, R.CAN_ERRC] at this
        omega
  rw [was] at same low high
  refine ⟨?_, ?_, fun none => counted_after after (counted_before hn regs (filtered none)), fun k h => ⟨fun h4 => ?_, fun h4 => ?_⟩,
    same, low, high, ?_, ?_, ?_, ?_⟩
  · refine (after.regs.rd fun h => ?_).trans (cnt.trans (by rw [← hu]; rfl))
    have := countersReg_at h
    simp only [RegDesc.addr, R.CAN_RXCNT] at this
    omega
  · rw [settles.busy, keeps.busy, busy]
  · have hk := (canFilter_first hn h).1
    rw [if_neg (by omega)] at hk
    exact storedAt_after after (storedAt_before hn hk regs shadows ((placed k h).1 h4))
  · have hk := (canFilter_first hn h).1
    rw [if_pos h4] at hk
    exact queuedAt_after after h4 hn (queuedAt_before hn (by omega) regs (by rw [← hu]; rfl) ((placed k h).2 h4))
  · intro m hm
    rw [settles.others m hm, keeps.others m hm, ← hu]
    exact s.setCan_canX_ne hm.symm _
  · intro m
    simp only [State.ttsX, settles.tts, keeps.tts, ← hu]
    rfl
  · rw [settles.apart, keeps.apart, ← hu]
    rfl
  · have all : RegsBut (fun a => canRegs n a ∨ bellReg a ∨ eventReg a) u (rxSettle A n (s.canX n).mode) :=
      RegsBut.trans (keeps.regs.mono fun a => rxCntReg_area hn) (settles.regs.mono fun a => countersReg_area hn)
    rw [← hu] at all
    exact RegsBut.mono all fun a h => or_assoc.mpr h

end

/-- Settles O37: a frame passes the count, the first accepting filter, the buffer or queue and the error counters; each leaves
the registers of the others. -/
theorem canFramesAreFilteredAndStored : Obligations.CanFramesAreFilteredAndStored := by
  unfold Obligations.CanFramesAreFilteredAndStored
  intro n f s takes off known
  have hn := n.isLt
  refine ⟨fun k => canAccepts_id s n k _, fun k => canFilter_first hn, fun front => ⟨canReceive s n f, ?_, ?_⟩⟩
  · obtain ⟨held, waits⟩ := front
    show inTurn (.canFrame n f) s = _
    simp only [inTurn, waits (.canFrame n f) rfl, held, List.length_nil, heldRun]
    rfl
  · exact canReceive_channel hn takes off known

end Sys2Proof.Machine


/-! Beads pushed and popped: a ring's books, its slots and its Rods (R53, R54, R57, R58, R114 to R116). -/

namespace Sys2Proof.Machine

open Sys2Proof.Claims

section
variable {s t u : State} {r n : Nat}

/-! ### The books of a ring -/

/-- Two registers of block CRG, not the same. -/
def RegDesc.besideCrg (d d' : RegDesc) : Bool := d.inCrg && d'.inCrg && d.base != d'.base

theorem addr_ne_of_beside {d d' : RegDesc} (h : d'.besideCrg d = true) (n : Nat) : d'.addr n ≠ d.addr n := by
  simp only [RegDesc.besideCrg, RegDesc.inCrg, Bool.and_eq_true, decide_eq_true_eq, beq_iff_eq, bne_iff_ne] at h
  obtain ⟨⟨⟨⟨⟨lo', hi'⟩, s1'⟩, s2'⟩, ⟨⟨lo, hi⟩, s1⟩, s2⟩, ne⟩ := h
  simp only [RegDesc.addr, s1', s2', s1, s2]
  omega

theorem rd_wr_beside {d d' : RegDesc} (h : d'.besideCrg d = true) (s : State) (v : Word) (n : Nat) :
    (s.wr d' v n).rd d n = s.rd d n := State.rd_wr_ne s (addr_ne_of_beside h n)

/-- The bead that a removal takes is gone from the ring's books. -/
def headTaken (s : State) (n : Nat) : State :=
  let slot := s.nat R.CRG_HEAD n
  let x := s.ring n
  let s := s.wr R.CRG_HEAD (word ((slot + 1) % s.ringSize n)) n
  let s := ((s.subR R.CRG_COUNT 1 n).addR R.CRG_TALLY 1 n).addR R.CRG_CONSUMED 1 n
  s.setRing n { x with tags := tabDrop x.tags slot, voids := x.voids.filter (fun v => v != slot) }

theorem headTaken_books (s : State) (n : Nat) : books (headTaken s n) n =
    [s.rd R.CRG_TAIL n, s.rd R.CRG_TALLY n + 1, s.rd R.CRG_RESERVED n, s.rd R.CRG_COUNT n - 1,
      nextSlot s n (s.rd R.CRG_HEAD n), s.rd R.CRG_PRODUCED n, s.rd R.CRG_CONSUMED n + 1] := by
  simp (disch := decide) only [books, headTaken, State.setRing_rd, State.addR, State.subR, State.rd_wr_same, rd_wr_beside,
    nextSlot, State.nat]
  rfl

end
end Sys2Proof.Machine

/-! Beads pushed (R53, R54, R114). -/

namespace Sys2Proof.Machine

open Sys2Proof.Claims

section
variable {s t u v : State} {r n : Nat}

/-! ### What a bead instruction leaves -/

/-- A state with the Rods, the rings, the registers and Frame SRAM of another. -/
def withRings (s t : State) : State :=
  { t with rods := s.rods, regs := s.regs, w1cSet := s.w1cSet, rings := s.rings, frame := s.frame, beadErr := s.beadErr }

/-- Nothing has changed but Rod `r`, ring `n` with its books, and Frame SRAM. -/
structure RodRing (r n : Nat) (s t : State) : Prop where
  rest : withRings s t = s
  rods : ∀ q, q ≠ r → t.rod q = s.rod q
  rings : ∀ m, m ≠ n → t.ring m = s.ring m
  regs : RegsBut (fun k => k = R.FRM_PC.addr r ∨ ringRegs n k) s t

namespace RodRing

theorem refl (s : State) : RodRing r n s s := ⟨rfl, fun _ _ => rfl, fun _ _ => rfl, RegsBut.refl s⟩

theorem trans (h : RodRing r n s t) (h' : RodRing r n t u) : RodRing r n s u where
  rest := (congrArg (withRings s) h'.rest).trans h.rest
  rods q hq := (h'.rods q hq).trans (h.rods q hq)
  rings m hm := (h'.rings m hm).trans (h.rings m hm)
  regs := h.regs.trans h'.regs

theorem wr (h : RodRing r n s t) {d : RegDesc} (hd : d.inCrg = true) {v : Word} : RodRing r n s (t.wr d v n) :=
  ⟨h.rest, h.rods, h.rings, h.regs.wr (.inr (ringRegs_addr hd n))⟩

theorem setRing (h : RodRing r n s t) {x : RingX} : RodRing r n s (t.setRing n x) :=
  ⟨h.rest, h.rods, fun m hm => (t.setRing_ring_ne hm.symm x).trans (h.rings m hm), h.regs.of_regs rfl⟩

theorem setRod (h : RodRing r n s t) {x : RodX} : RodRing r n s (t.setRod r x) :=
  ⟨h.rest, fun q hq => (t.setRod_rod_ne hq.symm x).trans (h.rods q hq), h.rings, h.regs.of_regs rfl⟩

theorem setG (h : RodRing r n s t) {d : BitVec 5} {v : Word} : RodRing r n s (Machine.setG t r d v) := by
  unfold Machine.setG
  split
  · exact h
  · exact h.setRod

theorem rodDone (h : RodRing r n s t) : RodRing r n s (Machine.rodDone t r) := by
  have := h.setRod (x := { t.rod r with pc := (t.rod r).pc + 4 })
  exact ⟨this.rest, this.rods, this.rings, this.regs.wr (.inl rfl)⟩

theorem putFrameBead (h : RodRing r n s t) {a : Nat} {b : Bead} : RodRing r n s (t.putFrameBead a b) := by
  unfold State.putFrameBead
  exact ⟨h.rest, h.rods, h.rings, h.regs.of_regs rfl⟩

end RodRing

/-- The migration apart, a state in which wake conditions are held is as it was. -/
theorem wakeHold_eq (s : State) : ∃ m, wakeHold s = { s with migration := m } := by
  unfold wakeHold
  split
  · exact ⟨s.migration, rfl⟩
  · split
    · split
      · exact ⟨s.migration, rfl⟩
      · exact ⟨_, rfl⟩
    · exact ⟨s.migration, rfl⟩

/-- An instruction on ring `n`, which touches the bead at `a` alone. -/
theorem onlyRing_of (h : RodRing r n (wakeHold s) t) {a : Nat}
    (bytes : ∀ k, k < a ∨ a + 16 ≤ k → cellsGet t.frame k = cellsGet s.frame k)
    (errs : ∀ k, k ≠ a / 16 → tabFind t.beadErr k = tabFind s.beadErr k) : onlyRing s t r n a := by
  obtain ⟨m, hm⟩ := wakeHold_eq s
  obtain ⟨rest, rods, rings, regs⟩ := h
  rw [hm] at rest rods rings regs
  exact ⟨by rw [hm]; exact rest, rods, rings, regs, bytes, errs⟩

/-- An instruction that leaves the ring as it is. -/
theorem onlyRod_fin (s : State) (r : Nat) (h : RodHold) (d : BitVec 5) (st : Word) :
    onlyRod s (rodDone (setG (setHold s r h) r d st) r) r (fun a => a = R.FRM_PC.addr r) :=
  ((((onlyRod.refl s).setRod).setG).rodDone rfl)

/-- The end of a bead instruction: its status in a general register, and the pc advances. -/
theorem status_fin (s : State) (r : Nat) (d : BitVec 5) (st : Word) :
    status s (rodDone (setG (setHold s r .none) r d st) r) r d st := by
  have rod : (setHold s r .none).rod r = { s.rod r with hold := .none } := State.setRod_rod ..
  refine ⟨fun m => ?_, ?_, ?_⟩
  · rw [gReg_rodDone, gReg_setG]
    simp only [gReg, rod]
  · rw [rodDone_rod, setG_rod, rod]
  · rw [rodDone, rodGoto, State.rd_wr_same, setG_rod, rod]

/-! ### A reserved slot -/

/-- The slot at the tail is reserved, and a bead written there. -/
def slotFilled (s : State) (r d n : Nat) (b : Bead) : State :=
  let slot := s.nat R.CRG_TAIL n
  let s := (ringReserve s n (some r) d).2
  let s := s.putFrameBead (s.slotAddr n slot) b
  s.setRing n { s.ring n with tags := tabDrop (s.ring n).tags slot }

/-- A PUSH has reserved the slot at the tail and written its bead there. -/
def pushReserved (s : State) (r d n : Nat) (b : Bead) : State :=
  setHold (slotFilled s r d n b) r (.pushing d n (s.nat R.CRG_TAIL n))

/-- The slot of ring `n` is written: what can commit commits, and the PUSH of each Rod whose slot has committed ends. -/
def slotWritten (s : State) (n slot : Nat) : State := pushFinish (ringCommit (ringMark s n slot false) n) n

theorem putFrameBead_rings (s : State) (a : Nat) (b : Bead) : (s.putFrameBead a b).rings = s.rings := rfl

theorem putFrameBead_rods (s : State) (a : Nat) (b : Bead) : (s.putFrameBead a b).rods = s.rods := rfl

theorem ringReserve_ring (s : State) (n : Nat) (rod : Option Nat) (d : Nat) : (ringReserve s n rod d).2.ring n =
    { s.ring n with resv := (s.ring n).resv ++ [⟨s.nat R.CRG_TAIL n, false, false, rod, d⟩] } :=
  State.setRing_ring ..

theorem ringReserve_rods (s : State) (n : Nat) (rod : Option Nat) (d : Nat) : (ringReserve s n rod d).2.rods = s.rods := rfl

theorem slotFilled_rods (s : State) (r d n : Nat) (b : Bead) : (slotFilled s r d n b).rods = s.rods := by
  simp only [slotFilled, State.setRing_rods, putFrameBead_rods, ringReserve_rods]

theorem pushReserved_ring (free : (s.ring n).resv = []) (d : Nat) (b : Bead) :
    ∃ tags, (pushReserved s r d n b).ring n =
      { s.ring n with resv := [⟨s.nat R.CRG_TAIL n, false, false, some r, d⟩], tags := tags } := by
  have filled (a : Nat) : ((ringReserve s n (some r) d).2.putFrameBead a b).ring n = (ringReserve s n (some r) d).2.ring n := by
    simp only [State.ring, putFrameBead_rings]
  refine ⟨tabDrop (s.ring n).tags (s.nat R.CRG_TAIL n), ?_⟩
  rw [pushReserved, setHold, State.setRod_ring, slotFilled]
  simp only [State.setRing_ring, filled, ringReserve_ring, free, List.nil_append]

theorem pushReserved_rod (s : State) (r d n : Nat) (b : Bead) :
    (pushReserved s r d n b).rod r = { s.rod r with hold := .pushing d n (s.nat R.CRG_TAIL n) } := by
  rw [pushReserved, setHold, State.setRod_rod]
  simp only [State.rod, slotFilled_rods]

theorem pushReserved_only (s : State) (r d n : Nat) (b : Bead) : RodRing r n s (pushReserved s r d n b) := by
  have reserved : RodRing r n s (ringReserve s n (some r) d).2 :=
    RodRing.setRing (((((RodRing.refl s).wr rfl).wr rfl).wr rfl).wr rfl)
  exact RodRing.setRod (RodRing.setRing reserved.putFrameBead)

theorem pushReserved_books (s : State) (r d n : Nat) (b : Bead) : books (pushReserved s r d n b) n =
    [nextSlot s n (s.rd R.CRG_TAIL n), s.rd R.CRG_TALLY n - 1, s.rd R.CRG_RESERVED n + 1, s.rd R.CRG_COUNT n,
      s.rd R.CRG_HEAD n, s.rd R.CRG_PRODUCED n + 1, s.rd R.CRG_CONSUMED n] := by
  simp (disch := decide) only [books, pushReserved, slotFilled, setHold, ringReserve, State.setRod_rd, State.setRing_rd,
    putFrameBead_rd, State.addR, State.subR, State.rd_wr_same, rd_wr_beside, nextSlot, State.nat]
  rfl

theorem ringReserve_slotAddr (s : State) (n : Nat) (rod : Option Nat) (d k : Nat) :
    (ringReserve s n rod d).2.slotAddr n k = s.slotAddr n k := by
  simp (disch := decide) only [State.slotAddr, ringReserve, State.nat, State.setRing_rd, State.addR, State.subR, rd_wr_beside]

theorem pushReserved_frame (s : State) (r d n : Nat) (b : Bead) :
    (pushReserved s r d n b).frame = cellsWrite s.frame (s.slotAddr n (s.nat R.CRG_TAIL n)) 16 b.toNat ∧
      (pushReserved s r d n b).beadErr = tabDrop s.beadErr (s.slotAddr n (s.nat R.CRG_TAIL n) / 16) := by
  simp only [pushReserved, setHold, slotFilled, State.setRod_frame, State.setRod_beadErr, State.setRing_frame,
    State.setRing_beadErr, State.putFrameBead, ringReserve_slotAddr]
  exact ⟨rfl, rfl⟩

/-! ### Its commit -/

theorem ringCommit_single {x : Resv} (one : (s.ring n).resv = [x]) (written : x.written = true) (full : x.isVoid = false) :
    ringCommit s n = ((s.setRing n { s.ring n with resv := [] }).subR R.CRG_RESERVED 1 n).addR R.CRG_COUNT 1 n := by
  simp [ringCommit, one, ringCommitLoop, written, full, State.subR, State.addR]

theorem foldN_one {σ : Type} {f : σ → Nat → σ} {N k : Nat} {c e : σ} (hk : k < N) (hit : f c k = e)
    (before : ∀ j, j ≠ k → f c j = c) (after : ∀ j, j ≠ k → f e j = e) : foldN N f c = e := by
  have upto : ∀ m, m ≤ N → foldN m f c = if k < m then e else c := by
    intro m
    induction m with
    | zero => intro _; rfl
    | succ m ih =>
      intro hm
      have step : foldN (m + 1) f c = f (foldN m f c) m := by simp [foldN, List.range_succ]
      rw [step, ih (by omega)]
      rcases Nat.lt_trichotomy k m with lt | rfl | gt
      · rw [if_pos lt, if_pos (by omega), after m (by omega)]
      · rw [if_neg (Nat.lt_irrefl _), if_pos (by omega), hit]
      · rw [if_neg (by omega), if_neg (by omega), before m (by omega)]
  rw [upto N (Nat.le_refl _), if_pos hk]

/-- A Rod that pushes to no slot of ring `n` goes on as it is. -/
theorem pushFinish_step {q : Nat} (h : ∀ d k, (s.rod q).hold ≠ .pushing d n k) :
    (match (s.rod q).hold with
      | .pushing d n' slot =>
        if n' = n && !(s.ring n).resv.any (fun v => v.slot == slot) then
          rodDone (setG (setHold s q .none) q (BitVec.ofNat 5 d) 0) q
        else s
      | _ => s) = s := by
  split
  · next d n' slot held =>
    rw [if_neg]
    simp only [Bool.and_eq_true, decide_eq_true_eq, not_and]
    rintro rfl
    exact absurd held (h d slot)
  · rfl

/-- The PUSH of Rod `r` alone ends. -/
theorem pushFinish_one (hr : r < 16) {d k : Nat} (mine : (s.rod r).hold = .pushing d n k) (free : (s.ring n).resv = [])
    (others : ∀ q, q ≠ r → ∀ d k, (s.rod q).hold ≠ .pushing d n k) :
    pushFinish s n = rodDone (setG (setHold s r .none) r (BitVec.ofNat 5 d) 0) r := by
  have left : RodRing r n s (rodDone (setG (setHold s r .none) r (BitVec.ofNat 5 d) 0) r) :=
    ((((RodRing.refl s).setRod).setG).rodDone)
  refine foldN_one hr ?_ (fun q hq => pushFinish_step (others q hq)) (fun q hq => pushFinish_step ?_)
  · simp [mine, free]
  · rw [left.rods q hq]
    exact others q hq

/-- The one written slot of ring `n` has committed. -/
def slotCommitted (s : State) (n slot : Nat) : State :=
  let s := ringMark s n slot false
  ((s.setRing n { s.ring n with resv := [] }).subR R.CRG_RESERVED 1 n).addR R.CRG_COUNT 1 n

theorem slotCommitted_ring (s : State) (n slot : Nat) :
    ((slotCommitted s n slot).ring n).resv = [] := congrArg RingX.resv (State.setRing_ring ..)

theorem slotCommitted_rods (s : State) (n slot : Nat) : (slotCommitted s n slot).rods = s.rods := rfl

theorem slotCommitted_frame (s : State) (n slot : Nat) : (slotCommitted s n slot).frame = s.frame ∧
    (slotCommitted s n slot).beadErr = s.beadErr := ⟨rfl, rfl⟩

theorem slotCommitted_only (s : State) (r n slot : Nat) : RodRing r n s (slotCommitted s n slot) :=
  (((RodRing.refl s).setRing.setRing).wr rfl).wr rfl

theorem slotCommitted_books (s : State) (n slot : Nat) : books (slotCommitted s n slot) n =
    [s.rd R.CRG_TAIL n, s.rd R.CRG_TALLY n, s.rd R.CRG_RESERVED n - 1, s.rd R.CRG_COUNT n + 1, s.rd R.CRG_HEAD n,
      s.rd R.CRG_PRODUCED n, s.rd R.CRG_CONSUMED n] := by
  simp (disch := decide) only [books, slotCommitted, State.setRing_rd, ringMark_rd, State.addR, State.subR, State.rd_wr_same,
    rd_wr_beside]
  rfl

/-- The slot of the one PUSH on a ring is written: it commits, and the PUSH ends. -/
theorem slotWritten_pushed (hr : r < 16) (free : (s.ring n).resv = []) (others : ∀ q d k, (s.rod q).hold ≠ .pushing d n k)
    (d : Nat) (b : Bead) : slotWritten (pushReserved s r d n b) n (s.nat R.CRG_TAIL n) =
      rodDone (setG (setHold (slotCommitted (pushReserved s r d n b) n (s.nat R.CRG_TAIL n)) r .none) r (BitVec.ofNat 5 d) 0) r := by
  obtain ⟨tags, ring⟩ := pushReserved_ring (r := r) free d b
  have rod := pushReserved_rod s r d n b
  have only := pushReserved_only s r d n b
  generalize pushReserved s r d n b = p at ring rod only ⊢
  have marked : ((ringMark p n (s.nat R.CRG_TAIL n) false).ring n).resv = [⟨s.nat R.CRG_TAIL n, true, false, some r, d⟩] := by
    simp [ringMark, ring]
  have committed : ringCommit (ringMark p n (s.nat R.CRG_TAIL n) false) n = slotCommitted p n (s.nat R.CRG_TAIL n) :=
    ringCommit_single marked rfl rfl
  have kept (q : Nat) : (slotCommitted p n (s.nat R.CRG_TAIL n)).rod q = p.rod q := by simp only [State.rod, slotCommitted_rods]
  rw [slotWritten, committed]
  refine pushFinish_one hr (k := s.nat R.CRG_TAIL n) ?_ (slotCommitted_ring ..) fun q hq d' k' => ?_
  · rw [kept, rod]
  · rw [kept, only.rods q hq]
    exact others q d' k'

/-- The end of an instruction leaves the books of the rings. -/
theorem books_fin (hr : r < 16) (s : State) (h : RodHold) (d : BitVec 5) (st : Word) :
    books (rodDone (setG (setHold s r h) r d st) r) n = books s n := by
  have kept {k : RegDesc} (hk : k.inCrg = true) : (rodDone (setG (setHold s r h) r d st) r).rd k n = s.rd k n := by
    have := ringRegs_addr hk n
    rw [rodDone, rodGoto, State.rd_wr_ne]
    · simp only [State.rd, State.setRod_regs, setG_regs, setHold]
    · simp only [ringRegs] at this
      simp only [RegDesc.addr, R.FRM_PC] at this ⊢
      omega
  simp (disch := decide) only [books, kept]

theorem fin_frame (s : State) (r : Nat) (h : RodHold) (d : BitVec 5) (st : Word) :
    (rodDone (setG (setHold s r h) r d st) r).frame = s.frame ∧ (rodDone (setG (setHold s r h) r d st) r).beadErr = s.beadErr ∧
      (rodDone (setG (setHold s r h) r d st) r).rings = s.rings := by
  have : (setG (setHold s r h) r d st).frame = s.frame ∧ (setG (setHold s r h) r d st).beadErr = s.beadErr ∧
      (setG (setHold s r h) r d st).rings = s.rings := by
    unfold setG
    split <;> exact ⟨rfl, rfl, rfl⟩
  exact this

/-- A Rod's status does not depend on what it was held in. -/
theorem status_of_held {h : RodHold} {d : BitVec 5} {st : Word} (rod : u.rod r = { s.rod r with hold := h })
    (done : status u t r d st) : status s t r d st := by
  obtain ⟨g, goes, pc⟩ := done
  refine ⟨fun m => ?_, ?_, ?_⟩
  · rw [g m]
    simp only [gReg, rod]
  · rw [goes, rod]
  · rw [pc, rod]

/-- A bead has been pushed to an open ring in one step. -/
theorem slotWritten_added (hr : r < 16) (canon : Memory.wf s.frame = true) (free : (s.ring n).resv = [])
    (others : ∀ q d k, (s.rod q).hold ≠ .pushing d n k) (d : BitVec 5) (b : Bead) {t : State}
    (ht : t = slotWritten (pushReserved s r d.toNat n b) n (s.nat R.CRG_TAIL n)) :
    status s t r d 0 ∧ RodRing r n s t ∧ (t.ring n).resv = [] ∧
      books t n = [nextSlot s n (s.rd R.CRG_TAIL n), s.rd R.CRG_TALLY n - 1, s.rd R.CRG_RESERVED n, s.rd R.CRG_COUNT n + 1,
        s.rd R.CRG_HEAD n, s.rd R.CRG_PRODUCED n + 1, s.rd R.CRG_CONSUMED n] ∧
      (∀ k < 16, cellsGet t.frame (s.slotAddr n (s.nat R.CRG_TAIL n) + k) = BitVec.ofNat 8 (b.toNat / 256 ^ k)) ∧
      (∀ k, k < s.slotAddr n (s.nat R.CRG_TAIL n) ∨ s.slotAddr n (s.nat R.CRG_TAIL n) + 16 ≤ k →
        cellsGet t.frame k = cellsGet s.frame k) ∧
      ∀ k, k ≠ s.slotAddr n (s.nat R.CRG_TAIL n) / 16 → tabFind t.beadErr k = tabFind s.beadErr k := by
  rw [slotWritten_pushed hr free others, BitVec.ofNat_toNat, BitVec.setWidth_eq] at ht
  have reserved := pushReserved_only s r d.toNat n b
  have rod := pushReserved_rod s r d.toNat n b
  have reservedBooks := pushReserved_books s r d.toNat n b
  obtain ⟨frame, errs⟩ := pushReserved_frame s r d.toNat n b
  generalize pushReserved s r d.toNat n b = p at ht reserved rod reservedBooks frame errs
  have committed := slotCommitted_only p r n (s.nat R.CRG_TAIL n)
  have committedBooks := slotCommitted_books p n (s.nat R.CRG_TAIL n)
  obtain ⟨frame', errs'⟩ := slotCommitted_frame p n (s.nat R.CRG_TAIL n)
  have ring := slotCommitted_ring p n (s.nat R.CRG_TAIL n)
  have rod' : (slotCommitted p n (s.nat R.CRG_TAIL n)).rod r = p.rod r := by simp only [State.rod, slotCommitted_rods]
  generalize slotCommitted p n (s.nat R.CRG_TAIL n) = c at ht committed committedBooks frame' errs' ring rod'
  obtain ⟨finFrame, finErrs, finRings⟩ := fin_frame c r .none d 0
  rw [← ht] at finFrame finErrs finRings
  simp only [books, List.cons.injEq, and_true] at reservedBooks committedBooks
  obtain ⟨tail, tally, resv, count, head, produced, consumed⟩ := reservedBooks
  obtain ⟨tail', tally', resv', count', head', produced', consumed'⟩ := committedBooks
  rw [finFrame, finErrs, frame', errs', frame, errs]
  refine ⟨?_, ?_, ?_, ?_, fun k hk => cellsGet_cellsWrite_inside canon _ _ _ _ hk,
    fun k hk => cellsGet_cellsWrite_outside canon _ _ _ _ hk, fun k hk => by rw [tabFind_tabDrop, if_neg hk]⟩
  · rw [ht]
    exact status_of_held (rod'.trans rod) (status_fin c r d 0)
  · rw [ht]
    exact (reserved.trans committed).trans (((RodRing.refl c).setRod.setG).rodDone)
  · rw [State.ring, finRings]
    exact ring
  · rw [ht, books_fin hr, books, tail', tally', resv', count', head', produced', consumed', tail, tally, resv, count, head,
      produced, consumed, BitVec.add_sub_cancel]

end
end Sys2Proof.Machine

/-! PUSH, PUSH.R and the commit of a slot (R53, R54, R77, R114, R116). -/

namespace Sys2Proof.Machine

open Sys2Proof.Claims

section
variable {s t u : State} {n : Nat} {r : Fin 16} {f : RegForm}

/-! ### The instructions -/

theorem execPush_body (run : ready s r) (wide : f.b.toNat < 8) (aux : f.aux = 0) (own : rodsProduce f.a.toNat = true) (inStep : Bool) :
    exec (.push r f inStep) s = .next (pushNow s r f.d.toNat f.a.toNat f.b.toNat inStep) := by
  obtain ⟨runs, pc, bead⟩ := run
  show execPush r f inStep s = _
  have legal : (f.aux != 0 || badWide f.b) = false := by simp [aux, badWide_false wide]
  simp only [execPush, legal, rodExec_body runs pc bead, own, Bool.not_true, Bool.false_eq_true, if_false]

theorem execPushR_body (run : ready s r) (wide : f.b.toNat < 8) (aux : f.aux = 0) (own : rodsProduce f.a.toNat = true) :
    exec (.pushR r f) s = .next (if (s.rod r).posted.isEmpty then pushNow s r f.d.toNat f.a.toNat f.b.toNat true
      else setHold s r (.pushR f.d.toNat f.a.toNat f.b.toNat)) := by
  obtain ⟨runs, pc, bead⟩ := run
  show execPushR r f s = _
  have legal : (f.aux != 0 || badWide f.b) = false := by simp [aux, badWide_false wide]
  simp only [execPushR, legal, rodExec_body runs pc bead, own, Bool.not_true, Bool.false_eq_true, if_false]

/-- The three instructions push at once where the Rod has no access outstanding. -/
theorem push_at_once (run : ready s r) (wide : f.b.toNat < 8) (aux : f.aux = 0) (own : rodsProduce f.a.toNat = true)
    (calm : (s.rod r).posted = []) : ∀ i ∈ [Instr.push r f true, .push r f false, .pushR r f],
      ∃ inStep, exec i s = .next (pushNow s r f.d.toNat f.a.toNat f.b.toNat inStep) := by
  intro i hi
  simp only [List.mem_cons, List.not_mem_nil, or_false] at hi
  rcases hi with rfl | rfl | rfl
  · exact ⟨true, execPush_body run wide aux own true⟩
  · exact ⟨false, execPush_body run wide aux own false⟩
  · exact ⟨true, by rw [execPushR_body run wide aux own, calm]; rfl⟩

/-! ### The push -/

theorem wakeHold_rod (s : State) (q : Nat) : (wakeHold s).rod q = s.rod q := by
  obtain ⟨m, hm⟩ := wakeHold_eq s
  rw [hm]
  rfl

theorem wakeHold_rd (s : State) (d : RegDesc) (i j : Nat) : (wakeHold s).rd d i j = s.rd d i j := by
  obtain ⟨m, hm⟩ := wakeHold_eq s
  rw [hm]
  rfl

theorem wakeHold_ring (s : State) (m : Nat) : (wakeHold s).ring m = s.ring m := by
  obtain ⟨m, hm⟩ := wakeHold_eq s
  rw [hm]
  rfl

theorem wakeHold_frame (s : State) : (wakeHold s).frame = s.frame ∧ (wakeHold s).beadErr = s.beadErr := by
  obtain ⟨m, hm⟩ := wakeHold_eq s
  rw [hm]
  exact ⟨rfl, rfl⟩

theorem wakeHold_ringOn (s : State) (n : Nat) : (wakeHold s).ringOn n = s.ringOn n := by
  simp only [State.ringOn, State.domOn, State.fb, State.f, wakeHold_rd]

theorem pushNow_full (on : s.ringOn n = true) (opened : (s.ring n).closing = false) (full : s.rd R.CRG_TALLY n = 0) (d : BitVec 5)
    (w : Nat) (inStep : Bool) :
    pushNow s r d.toNat n w inStep = rodDone (setG (setHold (wakeHold s) r .none) r d 1) r := by
  have zero : (wakeHold s).nat R.CRG_TALLY n = 0 := by rw [State.nat, wakeHold_rd, full]; rfl
  simp only [pushNow, wakeHold_ringOn, on, wakeHold_ring, opened, zero, Bool.not_true, Bool.or_self, Bool.false_eq_true,
    if_false, if_true, BitVec.ofNat_toNat, BitVec.setWidth_eq]

theorem pushNow_closed (shut : s.ringOn n = false ∨ (s.ring n).closing = true) (d : BitVec 5) (w : Nat) (inStep : Bool) :
    pushNow s r d.toNat n w inStep = rodDone (setG (setHold (wakeHold s) r .none) r d 2) r := by
  have h : (!s.ringOn n || (s.ring n).closing) = true := by
    rcases shut with h | h <;> simp [h]
  simp only [pushNow, wakeHold_ringOn, wakeHold_ring, h, if_true, BitVec.ofNat_toNat, BitVec.setWidth_eq]

theorem pushNow_open (room : openRing s n) (d w : BitVec 5) (inStep : Bool) : pushNow s r d.toNat n w.toNat inStep =
    if inStep then slotWritten (pushReserved (wakeHold s) r d.toNat n (wReg s r w)) n ((wakeHold s).nat R.CRG_TAIL n)
    else pushReserved (wakeHold s) r d.toNat n (wReg s r w) := by
  obtain ⟨on, opened, tally, -, -⟩ := room
  have some' : (wakeHold s).nat R.CRG_TALLY n ≠ 0 := by
    rw [State.nat, wakeHold_rd]
    exact fun h => tally (BitVec.eq_of_toNat_eq h)
  have bead : wReg (wakeHold s) r w = wReg s r w := by simp only [wReg, wakeHold_rod]
  unfold pushNow
  simp only [wakeHold_ringOn, on, wakeHold_ring, opened, Bool.not_true, Bool.or_self, Bool.false_eq_true, if_false, if_neg some',
    BitVec.ofNat_toNat, BitVec.setWidth_eq, bead]
  rfl

/-- A push that leaves its ring as it is gives a status alone. -/
theorem push_refused (s : State) (r : Nat) (d : BitVec 5) (st : Word) :
    status s (rodDone (setG (setHold (wakeHold s) r .none) r d st) r) r d st ∧
      onlyRod (wakeHold s) (rodDone (setG (setHold (wakeHold s) r .none) r d st) r) r (fun a => a = R.FRM_PC.addr r) :=
  ⟨status_of_held (h := (s.rod r).hold) (wakeHold_rod s r) (status_fin (wakeHold s) r d st), onlyRod_fin (wakeHold s) r .none d st⟩

/-- A push to an open ring adds its bead. -/
theorem push_added (canon : Memory.wf s.frame = true) (room : openRing s n) (d : BitVec 5) (b : Bead) {t : State}
    (ht : t = slotWritten (pushReserved (wakeHold s) r d.toNat n b) n ((wakeHold s).nat R.CRG_TAIL n)) :
    status s t r d 0 ∧ added s t r n b := by
  obtain ⟨-, -, -, free, others⟩ := room
  have slot (k : Nat) : (wakeHold s).slotAddr n k = s.slotAddr n k := by simp only [State.slotAddr, State.nat, wakeHold_rd]
  have tail : (wakeHold s).nat R.CRG_TAIL n = s.nat R.CRG_TAIL n := by simp only [State.nat, wakeHold_rd]
  have next (k : Word) : nextSlot (wakeHold s) n k = nextSlot s n k := by
    simp only [nextSlot, State.ringSize, State.f, wakeHold_rd]
  obtain ⟨frame, errs⟩ := wakeHold_frame s
  obtain ⟨done, only, resv, bks, bytes, outside, bad⟩ := slotWritten_added r.isLt (by rw [frame]; exact canon)
    (by rw [wakeHold_ring]; exact free) (fun q => by rw [wakeHold_rod]; exact others q) d b ht
  simp only [tail, slot, next, wakeHold_rd, frame, errs] at bks bytes outside bad
  exact ⟨status_of_held (h := (s.rod r).hold) (wakeHold_rod s r) done, bks, bytes, resv, onlyRing_of only outside bad⟩

theorem slotWritten_reserved (free : (s.ring n).resv = []) (k : Fin 32) (hk : k.val = n) (r d : Nat) (b : Bead) :
    exec (.slotCommit k (s.nat R.CRG_TAIL n)) (pushReserved s r d n b) =
      .next (slotWritten (pushReserved s r d n b) n (s.nat R.CRG_TAIL n)) := by
  subst hk
  obtain ⟨tags, ring⟩ := pushReserved_ring (r := r) free d b
  show execSlotCommit k _ _ = _
  simp [execSlotCommit, ring, slotWritten]

/-! ### A slot behind an earlier one -/

theorem ringCommit_waits {x : Resv} (first : (s.ring n).resv.head? = some x) (open' : x.written = false) : ringCommit s n = s := by
  cases hl : (s.ring n).resv with
  | nil => simp [hl] at first
  | cons y ys =>
    obtain rfl : y = x := by simpa [hl] using first
    simp [ringCommit, hl, ringCommitLoop, open']

theorem pushFinish_waits (h : ∀ q d k, (s.rod q).hold = .pushing d n k → ∃ x ∈ (s.ring n).resv, x.slot = k) : pushFinish s n = s := by
  refine foldN_keeps (P := (· = s)) 16 (fun v q _ e => ?_) s rfl
  subst e
  split
  · next d n' slot held =>
    rw [if_neg]
    simp only [Bool.and_eq_true, decide_eq_true_eq, Bool.not_eq_true', not_and, Bool.not_eq_false, List.any_eq_true, beq_iff_eq]
    rintro rfl
    exact h q d slot held
  · rfl

theorem slotCommit_waits (n : Fin 32) (k : Nat) {v : Resv} (first : (s.ring n).resv.head? = some v) (open' : v.written = false)
    (other : v.slot ≠ k) (mine : ∃ x ∈ (s.ring n).resv, x.slot = k ∧ x.written = false)
    (pushing : ∀ q d j, (s.rod q).hold = .pushing d n j → ∃ x ∈ (s.ring n).resv, x.slot = j) :
    exec (.slotCommit n k) s = .next (ringMark s n k false) := by
  have here : (s.ring n).resv.any (fun v => v.slot == k && !v.written) = true := by
    simpa [List.any_eq_true] using mine
  have marked : ((ringMark s n k false).ring n).resv = (s.ring n).resv.map (fun x =>
      if x.slot = k then { x with written := true, isVoid := false } else x) := congrArg RingX.resv (State.setRing_ring ..)
  have waits : ringCommit (ringMark s n k false) n = ringMark s n k false :=
    ringCommit_waits (x := v) (by rw [marked, List.head?_map, first, Option.map_some, if_neg other]) open'
  show execSlotCommit n k s = _
  rw [execSlotCommit, if_pos here, waits, pushFinish_waits fun q d j held => ?_]
  obtain ⟨x, hx, slot⟩ := pushing q d j held
  rw [marked]
  refine ⟨_, List.mem_map_of_mem hx, ?_⟩
  split
  · exact slot
  · exact slot

end
end Sys2Proof.Machine

/-! POP and POP.A (R57, R58, R114, R115). -/

namespace Sys2Proof.Machine

open Sys2Proof.Claims

section
variable {s t u : State} {n : Nat} {r : Fin 16} {f : RegForm}

/-! ### The instructions -/

/-- What POP does once its form and its ring are legal. -/
def popNow (s : State) (r : Nat) (d b : BitVec 5) (n : Nat) : State :=
  if !s.ringOn n then rodDone (setG s r d 2) r
  else
    match ringPop s n with
    | (.empty, tags, s) => rodDone (setG (creditReturn s tags) r d 1) r
    | (.bead v, tags, s) => rodDone (setG (setW (creditReturn s tags) r b v) r d 0) r
    | (.poison, tags, s') =>
      let t := creditReturn s' tags
      raise t r 0xA 0x06 (s.rod r).pc (putBits (t.rd R.FRM_EADDR r) 4 0 n)

theorem exec_pop (run : ready s r) (wide : f.b.toNat < 8) (aux : f.aux = 0) (own : rodsConsume f.a.toNat = true) :
    ∀ i ∈ [Instr.pop r f, .popA r f], exec i s = .next (popNow (wakeHold s) r f.d f.b f.a.toNat) := by
  obtain ⟨runs, pc, bead⟩ := run
  have legal : (f.aux != 0 || badWide f.b) = false := by simp [aux, badWide_false wide]
  have pops : popOp s r f = popNow (wakeHold s) r f.d f.b f.a.toNat := by
    unfold popOp
    simp only [legal, rodExec_body runs pc bead, own, Bool.not_true, Bool.false_eq_true, if_false]
    rfl
  intro i hi
  simp only [List.mem_cons, List.not_mem_nil, or_false] at hi
  rcases hi with rfl | rfl
  · exact congrArg Host.Outcome.next pops
  · exact congrArg Host.Outcome.next pops

theorem creditReturn_none (s : State) : creditReturn s [] = s := rfl

/-! ### The head of a ring -/

theorem ringRemove_none (fuel : Nat) (tags : List Nat) (none : s.nat R.CRG_COUNT n = 0) :
    ringRemove (fuel + 1) s n tags = (.empty, tags, s) := by
  rw [ringRemove, if_pos none]

theorem ringRemove_void (fuel : Nat) (tags : List Nat) (some' : s.nat R.CRG_COUNT n ≠ 0)
    (void : (s.ring n).voids.contains (s.nat R.CRG_HEAD n) = true) (free : tabFind (s.ring n).tags (s.nat R.CRG_HEAD n) = none) :
    ringRemove (fuel + 1) s n tags = ringRemove fuel ((headTaken s n).addR R.CRG_VOID 1 n) n tags := by
  rw [ringRemove, if_neg some']
  simp only [void, free, if_true]
  rfl

theorem ringRemove_bead (fuel : Nat) (tags : List Nat) (some' : s.nat R.CRG_COUNT n ≠ 0)
    (full : (s.ring n).voids.contains (s.nat R.CRG_HEAD n) = false) (free : tabFind (s.ring n).tags (s.nat R.CRG_HEAD n) = none)
    (sound : tabFind s.beadErr (s.slotAddr n (s.nat R.CRG_HEAD n) / 16) = none) :
    ringRemove (fuel + 1) s n tags = (.bead (s.frameBead (s.slotAddr n (s.nat R.CRG_HEAD n))), tags, headTaken s n) := by
  have check : beadCheck (headTaken s n) (s.slotAddr n (s.nat R.CRG_HEAD n) / 16) = (false, headTaken s n) := by
    have : tabFind (headTaken s n).beadErr (s.slotAddr n (s.nat R.CRG_HEAD n) / 16) = none := sound
    rw [beadCheck, this]
  rw [ringRemove, if_neg some']
  simp only [full, free, Bool.false_eq_true, if_false]
  exact congrArg (fun x : Bool × State => match x with
    | (true, s) => (Popped.poison, tags, s.setF F.CRG_STAT_POISON 1 n)
    | (false, t) => (Popped.bead (s.frameBead (s.slotAddr n (s.nat R.CRG_HEAD n))), tags, t)) check

theorem ringRemove_poison (fuel : Nat) (tags : List Nat) (some' : s.nat R.CRG_COUNT n ≠ 0)
    (full : (s.ring n).voids.contains (s.nat R.CRG_HEAD n) = false) (free : tabFind (s.ring n).tags (s.nat R.CRG_HEAD n) = none)
    (bad : tabFind s.beadErr (s.slotAddr n (s.nat R.CRG_HEAD n) / 16) = some .poisoned) :
    ringRemove (fuel + 1) s n tags = (.poison, tags,
      (poisonEvent (headTaken s n) (s.slotAddr n (s.nat R.CRG_HEAD n) / 16) 2).setF F.CRG_STAT_POISON 1 n) := by
  have check : beadCheck (headTaken s n) (s.slotAddr n (s.nat R.CRG_HEAD n) / 16) =
      (true, poisonEvent (headTaken s n) (s.slotAddr n (s.nat R.CRG_HEAD n) / 16) 2) := by
    have : tabFind (headTaken s n).beadErr (s.slotAddr n (s.nat R.CRG_HEAD n) / 16) = some .poisoned := bad
    rw [beadCheck, this]
  rw [ringRemove, if_neg some']
  simp only [full, free, Bool.false_eq_true, if_false]
  exact congrArg (fun x : Bool × State => match x with
    | (true, s) => (Popped.poison, tags, s.setF F.CRG_STAT_POISON 1 n)
    | (false, t) => (Popped.bead (s.frameBead (s.slotAddr n (s.nat R.CRG_HEAD n))), tags, t)) check

theorem headTaken_only (s : State) (r n : Nat) : RodRing r n s (headTaken s n) :=
  RodRing.setRing (((((RodRing.refl s).wr rfl).wr rfl).wr rfl).wr rfl)

theorem headTaken_kept (s : State) (n : Nat) : (headTaken s n).rods = s.rods ∧ (headTaken s n).frame = s.frame ∧
    (headTaken s n).beadErr = s.beadErr := ⟨rfl, rfl, rfl⟩

theorem headTaken_ring (s : State) (n : Nat) : (headTaken s n).ring n = { s.ring n with
    tags := tabDrop (s.ring n).tags (s.nat R.CRG_HEAD n),
    voids := (s.ring n).voids.filter (fun v => v != s.nat R.CRG_HEAD n) } := State.setRing_ring ..

/-! ### A void head -/

/-- The void bead at the head is skipped. -/
def voidSkipped (s : State) (n : Nat) : State := (headTaken s n).addR R.CRG_VOID 1 n

theorem voidSkipped_books (s : State) (n : Nat) : books (voidSkipped s n) n =
    [s.rd R.CRG_TAIL n, s.rd R.CRG_TALLY n + 1, s.rd R.CRG_RESERVED n, s.rd R.CRG_COUNT n - 1,
      nextSlot s n (s.rd R.CRG_HEAD n), s.rd R.CRG_PRODUCED n, s.rd R.CRG_CONSUMED n + 1] := by
  rw [← headTaken_books]
  simp (disch := decide) only [books, voidSkipped, State.addR, rd_wr_beside]

theorem voidSkipped_void (s : State) (n : Nat) : (voidSkipped s n).rd R.CRG_VOID n = s.rd R.CRG_VOID n + 1 := by
  have : (headTaken s n).rd R.CRG_VOID n = s.rd R.CRG_VOID n := by
    simp (disch := decide) only [headTaken, State.setRing_rd, State.addR, State.subR, rd_wr_beside]
  rw [voidSkipped, State.addR, State.rd_wr_same, this]
  rfl

theorem voidSkipped_size (s : State) (n : Nat) : (voidSkipped s n).ringSize n = s.ringSize n ∧
    ∀ k, (voidSkipped s n).slotAddr n k = s.slotAddr n k := by
  have cfg : (voidSkipped s n).rd R.CRG_CFG n = s.rd R.CRG_CFG n ∧ (voidSkipped s n).rd R.CRG_BASE n = s.rd R.CRG_BASE n := by
    simp (disch := decide) only [voidSkipped, headTaken, State.setRing_rd, State.addR, State.subR, rd_wr_beside, and_self]
  exact ⟨by simp only [State.ringSize, State.f, F.CRG_CFG_SIZE, cfg.1], fun k => by simp only [State.slotAddr, State.nat, cfg.2]⟩

end
end Sys2Proof.Machine

/-! What a pop leaves (R57, R58, R114, R115). -/

namespace Sys2Proof.Machine

open Sys2Proof.Claims

section
variable {s t u : State} {n : Nat} {r : Fin 16} {f : RegForm}

/-- A bead taken from a ring, with `k` beads gone from its books. -/
def taken (s t : State) (n : Nat) (k head : Word) : Prop :=
  books t n = [s.rd R.CRG_TAIL n, s.rd R.CRG_TALLY n + k, s.rd R.CRG_RESERVED n, s.rd R.CRG_COUNT n - k, head,
    s.rd R.CRG_PRODUCED n, s.rd R.CRG_CONSUMED n + k]

/-! ### The end of a pop -/

/-- The state in which a pop ends: the bead in a wide register, the status in a general one. -/
def popEnds (s : State) (r : Nat) (d : BitVec 5) (st : Word) : State := rodDone (setG s r d st) r

theorem popEnds_status (idle : (s.rod r).hold = .none) {w : Tab Bead} (rod : u.rod r = { s.rod r with w := w }) (d : BitVec 5) (st : Word) :
    status s (popEnds u r d st) r d st := by
  refine ⟨fun m => ?_, ?_, ?_⟩
  · rw [popEnds, gReg_rodDone, gReg_setG]
    simp only [gReg, rod]
  · rw [popEnds, rodDone_rod, setG_rod, rod, ← idle]
  · rw [popEnds, rodDone, rodGoto, State.rd_wr_same, setG_rod, rod]

theorem popEnds_wReg (s : State) (r : Nat) (d : BitVec 5) (st : Word) (m : BitVec 5) :
    wReg (popEnds s r d st) r m = wReg s r m := by
  rw [popEnds, wReg_rodDone, wReg, setG_rod, wReg]

theorem popEnds_only (r n : Nat) (s : State) (d : BitVec 5) (st : Word) : RodRing r n s (popEnds s r d st) :=
  ((RodRing.refl s).setG).rodDone

theorem popEnds_kept (s : State) (r : Nat) (d : BitVec 5) (st : Word) :
    (popEnds s r d st).frame = s.frame ∧ (popEnds s r d st).beadErr = s.beadErr := by
  have : (setG s r d st).frame = s.frame ∧ (setG s r d st).beadErr = s.beadErr := by
    unfold setG
    split <;> exact ⟨rfl, rfl⟩
  exact this

/-- A register of a ring as the pop ends. -/
theorem popEnds_rd (r : Fin 16) (s : State) (d : BitVec 5) (st : Word) {k : RegDesc} (hk : k.inCrg = true) :
    (popEnds s r d st).rd k n = s.rd k n := by
  have := ringRegs_addr hk n
  rw [popEnds, rodDone, rodGoto, State.rd_wr_ne]
  · simp only [State.rd, State.setRod_regs, setG_regs]
  · simp only [ringRegs] at this
    simp only [RegDesc.addr, R.FRM_PC] at this ⊢
    omega

theorem popEnds_books (s : State) (r : Fin 16) (n : Nat) (d : BitVec 5) (st : Word) :
    books (popEnds s r d st) n = books s n := by
  simp (disch := decide) only [books, popEnds_rd r]

/-- What stands in a ring's books stays as a wide register is written. -/
theorem setW_books (s : State) (r n : Nat) (b : BitVec 5) (v : Bead) : books (setW s r b v) n = books s n := by
  simp only [books, setW, State.setRod_rd]

theorem setW_only (r n : Nat) (s : State) (b : BitVec 5) (v : Bead) : RodRing r n s (setW s r b v) := (RodRing.refl s).setRod

theorem setW_kept (s : State) (r : Nat) (b : BitVec 5) (v : Bead) :
    (setW s r b v).frame = s.frame ∧ (setW s r b v).beadErr = s.beadErr := ⟨rfl, rfl⟩

/-- Taking beads of ring `n` off its books, with no other change: Rods and memory stand. -/
structure Takes (n : Nat) (s t : State) : Prop where
  only : ∀ r, RodRing r n s t
  rods : t.rods = s.rods
  frame : t.frame = s.frame
  beadErr : t.beadErr = s.beadErr

theorem headTaken_takes (s : State) (n : Nat) : Takes n s (headTaken s n) :=
  ⟨fun r => headTaken_only s r n, rfl, rfl, rfl⟩

theorem Takes.trans (h : Takes n s t) (h' : Takes n t u) : Takes n s u :=
  ⟨fun r => (h.only r).trans (h'.only r), h'.rods.trans h.rods, h'.frame.trans h.frame, h'.beadErr.trans h.beadErr⟩

theorem voidCounted_takes (s : State) (n : Nat) : Takes n s (s.addR R.CRG_VOID 1 n) :=
  ⟨fun _ => (RodRing.refl s).wr rfl, rfl, rfl, rfl⟩

theorem voidSkipped_takes (s : State) (n : Nat) : Takes n s (voidSkipped s n) :=
  (headTaken_takes s n).trans (voidCounted_takes (headTaken s n) n)

/-- A pop that took beads and gives none. -/
theorem popEnds_empty (h : Takes n (wakeHold s) u) (idle : (s.rod r).hold = .none) (d : BitVec 5) (a : Nat) :
    status s (popEnds u r d 1) r d 1 ∧ (∀ m, wReg (popEnds u r d 1) r m = wReg s r m) ∧
      onlyRing s (popEnds u r d 1) r n a ∧ (popEnds u r d 1).frame = s.frame := by
  have rod : u.rod r = s.rod r := by rw [State.rod, h.rods, ← State.rod, wakeHold_rod]
  obtain ⟨frame, errs⟩ := wakeHold_frame s
  obtain ⟨frame', errs'⟩ := popEnds_kept u r d 1
  have frame'' : (popEnds u r d 1).frame = s.frame := frame'.trans (h.frame.trans frame)
  have errs'' : (popEnds u r d 1).beadErr = s.beadErr := errs'.trans (h.beadErr.trans errs)
  refine ⟨popEnds_status idle (w := (s.rod r).w) rod d 1, fun m => ?_, onlyRing_of ((h.only r).trans (popEnds_only r n u d 1))
    (fun k _ => by rw [frame'']) (fun k _ => by rw [errs'']), frame''⟩
  rw [popEnds_wReg, wReg, rod, wReg]

/-- A pop that gives a bead. -/
theorem popEnds_bead (h : Takes n (wakeHold s) u) (idle : (s.rod r).hold = .none) (d : BitVec 5) {b : BitVec 5} (hb : b.toNat < 8)
    (v : Bead) (a : Nat) :
    status s (popEnds (setW u r b v) r d 0) r d 0 ∧
      (∀ m, m.toNat < 8 → wReg (popEnds (setW u r b v) r d 0) r m = if m = b then v else wReg s r m) ∧
      onlyRing s (popEnds (setW u r b v) r d 0) r n a ∧ (popEnds (setW u r b v) r d 0).frame = s.frame := by
  have rod : u.rod r = s.rod r := by rw [State.rod, h.rods, ← State.rod, wakeHold_rod]
  have rod' : (setW u r b v).rod r = { s.rod r with w := tabPut (s.rod r).w (b.toNat % 8) v } := by
    rw [setW, State.setRod_rod, rod]
  obtain ⟨frame, errs⟩ := wakeHold_frame s
  have only := (h.only r).trans (setW_only r n u b v)
  have same (m : BitVec 5) : wReg u r m = wReg s r m := by rw [wReg, rod, wReg]
  have wide (m : BitVec 5) : wReg (setW u r b v) r m = if b.toNat % 8 = m.toNat % 8 then v else wReg s r m := by
    rw [wReg_setW, same]
  obtain ⟨frame', errs'⟩ := setW_kept u r b v
  generalize setW u r b v = w at rod' only wide frame' errs' ⊢
  obtain ⟨frame'', errs''⟩ := popEnds_kept w r d 0
  rw [frame', h.frame, frame] at frame''
  rw [errs', h.beadErr, errs] at errs''
  refine ⟨popEnds_status idle rod' d 0, fun m hm => ?_, onlyRing_of (only.trans (popEnds_only r n w d 0))
    (fun k _ => by rw [frame'']) (fun k _ => by rw [errs'']), frame''⟩
  rw [popEnds_wReg, wide, Nat.mod_eq_of_lt hb, Nat.mod_eq_of_lt hm]
  exact if_congr ⟨fun e => (BitVec.eq_of_toNat_eq e).symm, fun e => by rw [e]⟩ rfl rfl

/-! ### The cases of POP -/

theorem popNow_off (off : u.ringOn n = false) (d b : BitVec 5) : popNow u r d b n = popEnds u r d 2 := by
  simp only [popNow, off, Bool.not_false, if_true]
  rfl

theorem popNow_none (on : u.ringOn n = true) (none : u.nat R.CRG_COUNT n = 0) (d b : BitVec 5) :
    popNow u r d b n = popEnds u r d 1 := by
  simp only [popNow, on, Bool.not_true, Bool.false_eq_true, if_false, ringPop, ringRemove_none _ _ none, creditReturn_none]
  rfl

theorem popNow_bead (on : u.ringOn n = true) (some' : u.nat R.CRG_COUNT n ≠ 0)
    (full : (u.ring n).voids.contains (u.nat R.CRG_HEAD n) = false) (free : tabFind (u.ring n).tags (u.nat R.CRG_HEAD n) = none)
    (sound : tabFind u.beadErr (u.slotAddr n (u.nat R.CRG_HEAD n) / 16) = none) (d b : BitVec 5) :
    popNow u r d b n = popEnds (setW (headTaken u n) r b (u.frameBead (u.slotAddr n (u.nat R.CRG_HEAD n)))) r d 0 := by
  simp only [popNow, on, Bool.not_true, Bool.false_eq_true, if_false, ringPop, ringRemove_bead _ _ some' full free sound,
    creditReturn_none]
  rfl

/-- A void head, and what is behind it. -/
theorem popNow_void (on : u.ringOn n = true) (some' : u.nat R.CRG_COUNT n ≠ 0)
    (void : (u.ring n).voids.contains (u.nat R.CRG_HEAD n) = true) (free : (u.ring n).tags = []) (d b : BitVec 5) :
    popNow u r d b n = match ringRemove (u.nat R.CRG_COUNT n) (voidSkipped u n) n [] with
      | (.empty, tags, s) => popEnds (creditReturn s tags) r d 1
      | (.bead v, tags, s) => popEnds (setW (creditReturn s tags) r b v) r d 0
      | (.poison, tags, s') =>
        raise (creditReturn s' tags) r 0xA 0x06 (u.rod r).pc (putBits ((creditReturn s' tags).rd R.FRM_EADDR r) 4 0 n) := by
  have untagged : tabFind (u.ring n).tags (u.nat R.CRG_HEAD n) = none := by rw [free]; rfl
  simp only [popNow, on, Bool.not_true, Bool.false_eq_true, if_false, ringPop, ringRemove_void _ _ some' void untagged]
  rfl

theorem popNow_void_last (on : u.ringOn n = true) (one : u.nat R.CRG_COUNT n = 1)
    (void : (u.ring n).voids.contains (u.nat R.CRG_HEAD n) = true) (free : (u.ring n).tags = []) (d b : BitVec 5) :
    popNow u r d b n = popEnds (voidSkipped u n) r d 1 := by
  have bks := voidSkipped_books u n
  simp only [books, List.cons.injEq] at bks
  have none : (voidSkipped u n).nat R.CRG_COUNT n = 0 := by
    rw [State.nat, bks.2.2.2.1, show u.rd R.CRG_COUNT n = 1 from BitVec.eq_of_toNat_eq one]
    rfl
  rw [popNow_void on (by omega) void free, one, ringRemove_none _ _ none]
  rfl

/-- The slot behind the head. -/
theorem voidSkipped_head (s : State) (n : Nat) : (voidSkipped s n).nat R.CRG_HEAD n = (nextSlot s n (s.rd R.CRG_HEAD n)).toNat := by
  have bks := voidSkipped_books s n
  simp only [books, List.cons.injEq] at bks
  rw [State.nat, bks.2.2.2.2.1]

theorem popNow_void_next (on : u.ringOn n = true) (two : 2 ≤ u.nat R.CRG_COUNT n)
    (void : (u.ring n).voids.contains (u.nat R.CRG_HEAD n) = true) (free : (u.ring n).tags = [])
    (full : (u.ring n).voids.contains (nextSlot u n (u.rd R.CRG_HEAD n)).toNat = false)
    (sound : tabFind u.beadErr (u.slotAddr n (nextSlot u n (u.rd R.CRG_HEAD n)).toNat / 16) = none) (d b : BitVec 5) :
    popNow u r d b n = popEnds (setW (headTaken (voidSkipped u n) n) r b
      (u.frameBead (u.slotAddr n (nextSlot u n (u.rd R.CRG_HEAD n)).toNat))) r d 0 := by
  have bks := voidSkipped_books u n
  simp only [books, List.cons.injEq] at bks
  have some' : (voidSkipped u n).nat R.CRG_COUNT n ≠ 0 := by
    rw [State.nat, bks.2.2.2.1, BitVec.toNat_sub]
    have lt := (u.rd R.CRG_COUNT n).isLt
    simp only [State.nat] at two
    have : BitVec.toNat (1 : Word) = 1 := rfl
    omega
  have ring : (voidSkipped u n).ring n = (headTaken u n).ring n := rfl
  obtain ⟨-, slot⟩ := voidSkipped_size u n
  have full' : ((voidSkipped u n).ring n).voids.contains ((voidSkipped u n).nat R.CRG_HEAD n) = false := by
    rw [voidSkipped_head, ring, headTaken_ring]
    rw [Bool.eq_false_iff, ne_eq, List.contains_iff_mem] at full ⊢
    exact fun h => full (List.mem_filter.mp h).1
  have free' : tabFind ((voidSkipped u n).ring n).tags ((voidSkipped u n).nat R.CRG_HEAD n) = none := by
    rw [ring, headTaken_ring, tabFind_tabDrop, free]
    split <;> rfl
  obtain ⟨k, hk⟩ : ∃ k, u.nat R.CRG_COUNT n = k + 1 := ⟨u.nat R.CRG_COUNT n - 1, by omega⟩
  rw [popNow_void on (by omega) void free, hk, ringRemove_bead _ _ some' full' free'
    (by rw [slot, voidSkipped_head]; exact sound), slot, voidSkipped_head]
  rfl

end
end Sys2Proof.Machine

/-! A poisoned head (R50, R115), and the settlement of PUSH and POP. -/

namespace Sys2Proof.Machine

open Sys2Proof.Claims

section
variable {s t u : State} {n : Nat} {r : Fin 16} {f : RegForm}

/-! ### A poisoned head -/

/-- The registers that a health event may change: the books of the health ring, the log's lost count and status. -/
def healthReg (a : Nat) : Prop := ringRegs 19 a ∨ a = R.STO_LOGLOST.addr ∨ a = R.STO_STAT.addr

theorem healthEvent_regs (s : State) (idx pool code detail : Nat) (v : Word) :
    RegsBut healthReg s (healthEvent s idx pool code detail v) := by
  have posted (b : Bead) : RegsBut healthReg s (ringPost s 19 b) := by
    unfold ringPost
    split
    · exact RegsBut.refl s
    · split
      · exact (ringAdd_only s 19 b none).2.2.mono fun a => .inl
      · exact (RegsBut.refl s).wr (.inl (ringRegs_addr rfl 19))
  have logged (t : State) (payload : List Word) : RegsBut healthReg t (logRecord t 1 payload) := by
    unfold logRecord
    split
    · exact (RegsBut.refl t).of_regs rfl
    · exact ((RegsBut.refl t).wr (.inr (.inl rfl))).setF (.inr (.inr rfl))
  exact (posted _).trans (logged _ _)

theorem poisonEvent_regs (s : State) (k detail : Nat) : RegsBut healthReg s (poisonEvent s k detail) := by
  unfold poisonEvent
  exact healthEvent_regs _ _ _ _ _ _

theorem poisonEvent_posts (s : State) (k detail : Nat) : Posts s (poisonEvent s k detail) := by
  unfold poisonEvent
  exact healthEvent_posts ..

/-- The low five bits of a word replaced. -/
theorem putBits_ring (w : Word) (hn : n < 32) : putBits w 4 0 n = (w &&& 0xFFFFFFE0) ||| word n := by
  have mask : ∀ i < 32, (0xFFFFFFE0#32).getLsbD i = decide (5 ≤ i) := by decide
  refine BitVec.eq_of_getLsbD_eq fun i hi => ?_
  rw [BitVec.getLsbD_or, BitVec.getLsbD_and, show (0xFFFFFFE0 : Word).getLsbD i = decide (5 ≤ i) from mask i hi, BitVec.getLsbD, testBit_putBits _ _ (by decide), word, BitVec.getLsbD_ofNat]
  by_cases low : i ≤ 4
  · simp [low, hi, show ¬ 5 ≤ i by omega]
  · have zero : n.testBit i = false := Nat.testBit_lt_two_pow (Nat.lt_of_lt_of_le hn (Nat.pow_le_pow_right (show 0 < 2 by decide) (show 5 ≤ i by omega)))
    simp [low, hi, show 5 ≤ i by omega, zero, BitVec.getLsbD]

/-- The state in which a poisoned bead has been taken off ring `n`. -/
def poisonTaken (s : State) (n : Nat) : State :=
  (poisonEvent (headTaken s n) (s.slotAddr n (s.nat R.CRG_HEAD n) / 16) 2).setF F.CRG_STAT_POISON 1 n

theorem popNow_poison (on : u.ringOn n = true) (some' : u.nat R.CRG_COUNT n ≠ 0)
    (full : (u.ring n).voids.contains (u.nat R.CRG_HEAD n) = false) (free : tabFind (u.ring n).tags (u.nat R.CRG_HEAD n) = none)
    (bad : tabFind u.beadErr (u.slotAddr n (u.nat R.CRG_HEAD n) / 16) = some .poisoned) (d b : BitVec 5) :
    popNow u r d b n = raise (poisonTaken u n) r 0xA 0x06 (u.rod r).pc (putBits ((poisonTaken u n).rd R.FRM_EADDR r) 4 0 n) := by
  simp only [popNow, on, Bool.not_true, Bool.false_eq_true, if_false, ringPop, ringRemove_poison _ _ some' full free bad,
    creditReturn_none]
  rfl

theorem poisonTaken_rod (s : State) (n : Nat) : (poisonTaken s n).rods = s.rods ∧ (poisonTaken s n).programs = s.programs := by
  have posts := (poisonEvent_posts (headTaken s n) (s.slotAddr n (s.nat R.CRG_HEAD n) / 16) 2).1
  refine ⟨?_, ?_⟩
  · have := congrArg State.rods posts
    simp only [State.apart] at this
    rw [poisonTaken, State.setF_rods, this]
    rfl
  · have := congrArg State.programs posts
    simp only [State.apart] at this
    rw [poisonTaken, State.setF_programs, this]
    rfl

/-- A ring register other than its status, of a ring that is not the health ring. -/
theorem poisonTaken_rd (hn : n < 32) (health : n ≠ 19) (s : State) {k : RegDesc} (hk : R.CRG_STAT.besideCrg k = true) :
    (poisonTaken s n).rd k n = (headTaken s n).rd k n := by
  have crg : k.inCrg = true := by
    simp only [RegDesc.besideCrg, Bool.and_eq_true] at hk
    exact hk.1.2
  have at' := ringRegs_addr crg n
  have outside : ¬ healthReg (k.addr n) := by
    simp only [ringRegs] at at'
    rintro (h | h | h)
    · simp only [ringRegs] at h
      omega
    · simp only [RegDesc.addr, R.STO_LOGLOST] at h at'
      omega
    · simp only [RegDesc.addr, R.STO_STAT] at h at'
      omega
  rw [poisonTaken, State.rd_setF_ne _ (fl := F.CRG_STAT_POISON) (addr_ne_of_beside hk n)]
  exact RegsBut.rd (poisonEvent_regs _ _ _) outside

end
end Sys2Proof.Machine

/-! The settlement of PUSH and POP. -/

namespace Sys2Proof.Machine

open Sys2Proof.Claims

section
variable {s t : State} {n : Nat} {r : Fin 16} {f : RegForm}

theorem idle_of_ready (run : ready s r) : (s.rod r).hold = .none := by
  have runs := run.1
  simp only [State.canRun, Bool.and_eq_true, beq_iff_eq] at runs
  exact runs.2

theorem rodsProduce_lt (h : rodsProduce n = true) : n < 32 := by
  simp only [rodsProduce, Bool.or_eq_true, Bool.and_eq_true, beq_iff_eq, decide_eq_true_eq] at h
  omega

theorem rodsConsume_lt (h : rodsConsume n = true) : n < 32 := by
  simp only [rodsConsume, Bool.and_eq_true, decide_eq_true_eq] at h
  exact h.1.1

/-- The handler of POISON (R115): the bead is gone, the ring in FRM_EADDR. -/
theorem pop_poison (hn : n < 32) (health : n ≠ 19) {p : Program} (hp : handled s r p) (on : s.ringOn n = true)
    (some' : s.rd R.CRG_COUNT n ≠ 0) (full : (s.ring n).voids.contains (s.nat R.CRG_HEAD n) = false)
    (free : tabFind (s.ring n).tags (s.nat R.CRG_HEAD n) = none)
    (bad : tabFind s.beadErr (s.slotAddr n (s.nat R.CRG_HEAD n) / 16) = some .poisoned) (d b : BitVec 5)
    (ht : t = popNow (wakeHold s) r d b n) :
    t.fb F.CRG_STAT_POISON n = true ∧ t.rd R.CRG_CONSUMED n = s.rd R.CRG_CONSUMED n + 1 ∧
      t.rd R.CRG_COUNT n = s.rd R.CRG_COUNT n - 1 ∧ t.rd R.CRG_HEAD n = nextSlot s n (s.rd R.CRG_HEAD n) ∧
      t.rod r = { s.rod r with pc := p.excEntry, inHandler := true } ∧ t.rd R.FRM_EPC r = (s.rod r).pc ∧
      t.rd R.FRM_ECAUSE r = 0xA006 ∧ t.rd R.FRM_EADDR r = (s.rd R.FRM_EADDR r &&& 0xFFFFFFE0) ||| word n := by
  obtain ⟨m, hm⟩ := wakeHold_eq s
  rw [hm] at ht
  have at' : popNow { s with migration := m } r d b n = raise (poisonTaken { s with migration := m } n) r 0xA 0x06 (s.rod r).pc
      (putBits ((poisonTaken { s with migration := m } n).rd R.FRM_EADDR r) 4 0 n) :=
    popNow_poison (u := { s with migration := m }) on (fun h => some' (BitVec.eq_of_toNat_eq h)) full free bad d b
  rw [at'] at ht
  obtain ⟨rods, programs⟩ := poisonTaken_rod { s with migration := m } n
  have eaddr : (poisonTaken { s with migration := m } n).rd R.FRM_EADDR r = s.rd R.FRM_EADDR r := by
    have hr := r.isLt
    rw [poisonTaken, State.rd_setF_ne _ (fl := F.CRG_STAT_POISON)
      (by simp only [RegDesc.addr, F.CRG_STAT_POISON, R.CRG_STAT, R.FRM_EADDR]; omega), RegsBut.rd (poisonEvent_regs _ _ _)]
    · refine ((headTaken_only { s with migration := m } r n).regs.rd ?_).trans rfl
      simp only [ringRegs, RegDesc.addr, R.FRM_EADDR, R.FRM_PC]
      omega
    · simp only [healthReg, ringRegs, RegDesc.addr, R.FRM_EADDR, R.STO_LOGLOST, R.STO_STAT]
      omega
  have bks := headTaken_books { s with migration := m } n
  simp only [books, List.cons.injEq] at bks
  obtain ⟨-, -, -, count, head, -, consumed, -⟩ := bks
  have ring {k : RegDesc} (hk : R.CRG_STAT.besideCrg k = true) := poisonTaken_rd hn health { s with migration := m } hk
  have flag : (poisonTaken { s with migration := m } n).fb F.CRG_STAT_POISON n = true := by
    rw [poisonTaken, State.fb_setF_same _ _ _ _ _ (by decide) (by decide)]
    decide
  rw [eaddr, putBits_ring _ hn] at ht
  generalize poisonTaken { s with migration := m } n = x at *
  have rod : x.rod r = s.rod r := by rw [State.rod, rods]; rfl
  have hp' : handled x r p := by
    obtain ⟨named, entry, outside⟩ := hp
    exact ⟨by rw [programs]; exact named, entry, by rw [rod]; exact outside⟩
  obtain ⟨epc, cause, addr, enters, -, -, regs⟩ := raise_entersHandler hp' 0xA 0x06 (s.rod r).pc ((s.rd R.FRM_EADDR r &&& 0xFFFFFFE0) ||| word n)
  rw [← ht] at epc cause addr enters regs
  have kept {k : RegDesc} (hk : k.inCrg = true) : ¬ (k.addr n = R.FRM_EPC.addr r ∨ k.addr n = R.FRM_ECAUSE.addr r ∨
      k.addr n = R.FRM_EADDR.addr r) := by
    have := ringRegs_addr hk n
    have hr := r.isLt
    simp only [ringRegs] at this
    simp only [RegDesc.addr, R.FRM_EPC, R.FRM_ECAUSE, R.FRM_EADDR] at this ⊢
    omega
  refine ⟨?_, ?_, ?_, ?_, by rw [enters, rod], epc, cause, addr⟩
  · rw [regs.fb (kept (by decide)), flag]
  · rw [regs.rd (kept (by decide)), ring (by decide), consumed]
    rfl
  · rw [regs.rd (kept (by decide)), ring (by decide), count]
    rfl
  · rw [regs.rd (kept (by decide)), ring (by decide), head]
    rfl

/-- A pop of the bead at the head. -/
theorem pop_bead (idle : (s.rod r).hold = .none) (on : s.ringOn n = true) (some' : s.rd R.CRG_COUNT n ≠ 0)
    (free : tabFind (s.ring n).tags (s.nat R.CRG_HEAD n) = none)
    (full : (s.ring n).voids.contains (s.nat R.CRG_HEAD n) = false)
    (sound : tabFind s.beadErr (s.slotAddr n (s.nat R.CRG_HEAD n) / 16) = none) (d : BitVec 5) {b : BitVec 5} (hb : b.toNat < 8)
    (ht : t = popNow (wakeHold s) r d b n) :
    status s t r d 0 ∧
      (∀ m, m.toNat < 8 → wReg t r m = if m = b then s.frameBead (s.slotAddr n (s.nat R.CRG_HEAD n)) else wReg s r m) ∧
      taken s t n 1 (nextSlot s n (s.rd R.CRG_HEAD n)) ∧
      onlyRing s t r n (s.slotAddr n (s.nat R.CRG_HEAD n)) ∧ t.frame = s.frame := by
  have ends := popEnds_bead (r := r) (headTaken_takes (wakeHold s) n) idle d hb
    (s.frameBead (s.slotAddr n (s.nat R.CRG_HEAD n))) (s.slotAddr n (s.nat R.CRG_HEAD n))
  have bks := (popEnds_books (setW (headTaken (wakeHold s) n) r b (s.frameBead (s.slotAddr n (s.nat R.CRG_HEAD n)))) r n d 0).trans
    ((setW_books ..).trans (headTaken_books (wakeHold s) n))
  have now : t = popEnds (setW (headTaken (wakeHold s) n) r b (s.frameBead (s.slotAddr n (s.nat R.CRG_HEAD n)))) r d 0 := by
    rw [ht]
    obtain ⟨m, hm⟩ := wakeHold_eq s
    rw [hm]
    exact popNow_bead (u := { s with migration := m }) on (fun h => some' (BitVec.eq_of_toNat_eq h)) full free sound d b
  rw [← now] at ends bks
  obtain ⟨done, wide, only, frame⟩ := ends
  refine ⟨done, wide, ?_, only, frame⟩
  obtain ⟨m, hm⟩ := wakeHold_eq s
  rw [hm] at bks
  exact bks

/-- A pop of a ring whose only bead is void. -/
theorem pop_void_last (idle : (s.rod r).hold = .none) (on : s.ringOn n = true)
    (void : (s.ring n).voids.contains (s.nat R.CRG_HEAD n) = true) (free : (s.ring n).tags = []) (one : s.rd R.CRG_COUNT n = 1)
    (d b : BitVec 5) (a : Nat) (ht : t = popNow (wakeHold s) r d b n) :
    status s t r d 1 ∧ (∀ m, wReg t r m = wReg s r m) ∧ taken s t n 1 (nextSlot s n (s.rd R.CRG_HEAD n)) ∧
      t.rd R.CRG_VOID n = s.rd R.CRG_VOID n + 1 ∧ onlyRing s t r n a ∧ t.frame = s.frame := by
  have ends := popEnds_empty (r := r) (voidSkipped_takes (wakeHold s) n) idle d a
  have bks := (popEnds_books (voidSkipped (wakeHold s) n) r n d 1).trans (voidSkipped_books (wakeHold s) n)
  have voids := (popEnds_rd (n := n) r (voidSkipped (wakeHold s) n) d 1 (k := R.CRG_VOID) rfl).trans (voidSkipped_void (wakeHold s) n)
  have now : t = popEnds (voidSkipped (wakeHold s) n) r d 1 := by
    rw [ht]
    obtain ⟨m, hm⟩ := wakeHold_eq s
    rw [hm]
    exact popNow_void_last (u := { s with migration := m }) on (congrArg BitVec.toNat one) void free d b
  rw [← now] at ends bks voids
  obtain ⟨done, wide, only, frame⟩ := ends
  rw [wakeHold_rd] at voids
  obtain ⟨m, hm⟩ := wakeHold_eq s
  rw [hm] at bks
  exact ⟨done, wide, bks, voids, only, frame⟩

/-- A pop of the bead behind a void one. -/
theorem pop_void_next (idle : (s.rod r).hold = .none) (on : s.ringOn n = true)
    (void : (s.ring n).voids.contains (s.nat R.CRG_HEAD n) = true) (free : (s.ring n).tags = []) (two : 2 ≤ s.nat R.CRG_COUNT n)
    (full : (s.ring n).voids.contains (nextSlot s n (s.rd R.CRG_HEAD n)).toNat = false)
    (sound : tabFind s.beadErr (s.slotAddr n (nextSlot s n (s.rd R.CRG_HEAD n)).toNat / 16) = none) (d : BitVec 5) {b : BitVec 5}
    (hb : b.toNat < 8) (ht : t = popNow (wakeHold s) r d b n) :
    status s t r d 0 ∧
      (∀ m, m.toNat < 8 → wReg t r m =
        if m = b then s.frameBead (s.slotAddr n (nextSlot s n (s.rd R.CRG_HEAD n)).toNat) else wReg s r m) ∧
      taken s t n 2 (nextSlot s n (nextSlot s n (s.rd R.CRG_HEAD n))) ∧ t.rd R.CRG_VOID n = s.rd R.CRG_VOID n + 1 ∧
      onlyRing s t r n (s.slotAddr n (nextSlot s n (s.rd R.CRG_HEAD n)).toNat) ∧ t.frame = s.frame := by
  obtain ⟨m, hm⟩ := wakeHold_eq s
  have now : t = popEnds (setW (headTaken (voidSkipped (wakeHold s) n) n) r b
      (s.frameBead (s.slotAddr n (nextSlot s n (s.rd R.CRG_HEAD n)).toNat))) r d 0 := by
    rw [ht, hm]
    exact popNow_void_next (u := { s with migration := m }) on two void free full sound d b
  have ends := popEnds_bead (r := r) ((voidSkipped_takes (wakeHold s) n).trans (headTaken_takes _ n)) idle d hb
    (s.frameBead (s.slotAddr n (nextSlot s n (s.rd R.CRG_HEAD n)).toNat)) (s.slotAddr n (nextSlot s n (s.rd R.CRG_HEAD n)).toNat)
  have second := (popEnds_books (setW (headTaken (voidSkipped (wakeHold s) n) n) r b
    (s.frameBead (s.slotAddr n (nextSlot s n (s.rd R.CRG_HEAD n)).toNat))) r n d 0).trans
      ((setW_books ..).trans (headTaken_books (voidSkipped (wakeHold s) n) n))
  have first := voidSkipped_books (wakeHold s) n
  have kept : (headTaken (voidSkipped (wakeHold s) n) n).rd R.CRG_VOID n = (voidSkipped (wakeHold s) n).rd R.CRG_VOID n := by
    simp (disch := decide) only [headTaken, State.setRing_rd, State.addR, State.subR, rd_wr_beside]
  have voids := (popEnds_rd (n := n) r (setW (headTaken (voidSkipped (wakeHold s) n) n) r b
    (s.frameBead (s.slotAddr n (nextSlot s n (s.rd R.CRG_HEAD n)).toNat))) d 0 (k := R.CRG_VOID) rfl).trans
      (kept.trans (voidSkipped_void (wakeHold s) n))
  have next (k : Word) : nextSlot (voidSkipped (wakeHold s) n) n k = nextSlot s n k := by
    rw [nextSlot, (voidSkipped_size (wakeHold s) n).1]
    simp only [nextSlot, State.ringSize, State.f, wakeHold_rd]
  have next' (k : Word) : nextSlot (wakeHold s) n k = nextSlot s n k := by
    simp only [nextSlot, State.ringSize, State.f, wakeHold_rd]
  rw [← now] at ends second voids
  obtain ⟨done, wide, only, frame⟩ := ends
  rw [wakeHold_rd] at voids
  simp only [books, List.cons.injEq, and_true] at first second
  obtain ⟨tail, tally, resv, count, head, produced, consumed⟩ := first
  obtain ⟨tail', tally', resv', count', head', produced', consumed'⟩ := second
  refine ⟨done, wide, ?_, voids, only, frame⟩
  rw [taken, books, tail', tally', resv', count', head', produced', consumed', tail, tally, resv, count, head, produced, consumed,
    next, next', BitVec.add_assoc, BitVec.add_assoc, BitVec.sub_sub]
  simp only [wakeHold_rd]
  rfl

end

/-- Settles O12: the books of a ring after a reservation, a commit and a removal give those after each instruction; a Rod that
pushes elsewhere is untouched. -/
theorem pushesAndPopsMoveBeads : Obligations.PushesAndPopsMoveBeads := by
  unfold Obligations.PushesAndPopsMoveBeads
  refine ⟨fun r s f canon wide aux own => ⟨fun run => ⟨fun room => ⟨?_, fun calm => ?_, fun hn => ?_⟩, fun i hi calm =>
      ⟨fun on opened full => ?_, fun shut => ?_⟩, fun busy => ?_⟩, fun held calm room => ?_⟩,
    fun n k v s first open' other mine pushing => ⟨_, slotCommit_waits n k first open' other mine pushing, ?_, ?_, ?_, rfl⟩,
    fun r s f run wide aux own i hi => ⟨fun on some' free full sound => ?_, fun on void free => ⟨fun one => ?_, fun two full sound => ?_⟩,
      fun p hp on health some' full free bad => ?_, fun on none => ?_, fun off => ?_⟩⟩
  · exact ⟨_, execPush_body run wide aux own true, push_added canon room f.d (wReg s r f.b) (by rw [pushNow_open room]; rfl)⟩
  · exact ⟨_, execPushR_body run wide aux own, push_added canon room f.d (wReg s r f.b) (by
      rw [calm, List.isEmpty_nil, if_pos rfl, pushNow_open room]; rfl)⟩
  · refine ⟨_, execPush_body run wide aux own false, ?_⟩
    rw [pushNow_open room]
    have tail : (wakeHold s).nat R.CRG_TAIL f.a.toNat = s.nat R.CRG_TAIL f.a.toNat := by simp only [State.nat, wakeHold_rd]
    have commits := slotWritten_reserved (s := wakeHold s) (n := f.a.toNat) (by rw [wakeHold_ring]; exact room.2.2.2.1)
      (Fin.ofNat 32 f.a.toNat) (Nat.mod_eq_of_lt hn) r f.d.toNat (wReg s r f.b)
    rw [tail] at commits
    exact ⟨_, commits, push_added canon room f.d (wReg s r f.b) (by rw [tail])⟩
  · obtain ⟨inStep, go⟩ := push_at_once run wide aux own calm i hi
    exact ⟨_, go, by rw [pushNow_full on opened full]; exact push_refused s r f.d 1⟩
  · obtain ⟨inStep, go⟩ := push_at_once run wide aux own calm i hi
    exact ⟨_, go, by rw [pushNow_closed shut]; exact push_refused s r f.d 2⟩
  · refine ⟨_, execPushR_body run wide aux own, ?_⟩
    rw [if_neg (by simpa using busy)]
    exact ⟨State.setRod_rod .., (onlyRod.refl s).setRod⟩
  · refine ⟨pushNow s r f.d.toNat f.a.toNat f.b.toNat true, ?_,
      push_added canon room f.d (wReg s r f.b) (by rw [pushNow_open room]; rfl)⟩
    show execPushRRelease r s = _
    simp [execPushRRelease, held, calm]
  · exact congrArg RingX.resv (State.setRing_ring ..)
  · have marked : (ringMark s n k false).ring n = _ := State.setRing_ring ..
    rw [marked]
  · exact fun m hm => State.setRing_ring_ne _ (Ne.symm hm) _
  · obtain ⟨done, gives, bks, only, frame⟩ := pop_bead (idle_of_ready run) on some' free full sound f.d wide rfl
    exact ⟨_, exec_pop run wide aux own i hi, done, gives, bks, only, frame⟩
  · obtain ⟨done, gives, bks, voids, only, frame⟩ := pop_void_last (idle_of_ready run) on void free one f.d f.b _ rfl
    exact ⟨_, exec_pop run wide aux own i hi, done, gives, bks, voids, only, frame⟩
  · obtain ⟨done, gives, bks, voids, only, frame⟩ := pop_void_next (idle_of_ready run) on void free two full sound f.d wide rfl
    exact ⟨_, exec_pop run wide aux own i hi, done, gives, bks, voids, only, frame⟩
  · exact ⟨_, exec_pop run wide aux own i hi, pop_poison (rodsConsume_lt own) health hp on some' full free bad f.d f.b rfl⟩
  · refine ⟨_, exec_pop run wide aux own i hi, ?_⟩
    have rod := wakeHold_rod s r
    rw [popNow_none (by rw [wakeHold_ringOn]; exact on) (by rw [State.nat, wakeHold_rd, none]; rfl)]
    exact ⟨popEnds_status (idle_of_ready run) (w := (s.rod r).w) rod f.d 1,
      fun m => by rw [popEnds_wReg, wReg, rod, wReg], ((onlyRod.refl _).setG).rodDone rfl⟩
  · refine ⟨_, exec_pop run wide aux own i hi, ?_⟩
    have rod := wakeHold_rod s r
    rw [popNow_off (by rw [wakeHold_ringOn]; exact off)]
    exact ⟨popEnds_status (idle_of_ready run) (w := (s.rod r).w) rod f.d 2,
      fun m => by rw [popEnds_wReg, wReg, rod, wReg], ((onlyRod.refl _).setG).rodDone rfl⟩

end Sys2Proof.Machine


/-! What the units of the other domains leave of the health monitor: its registers, what stands behind them, and SYS_STAT.CRIT
(R526, R530, R536, R538). -/

namespace Sys2Proof.Machine

open Sys2Proof.Claims

section
variable {s t u : State}

/-- From `s` to `t` the health monitor and SYS_STAT.CRIT have stayed. -/
structure Judged (s t : State) : Prop where
  own : t.hlt = s.hlt
  regs : RegsBut (fun a => ¬ hltRegs a) s t
  crit : t.fb F.SYS_STAT_CRIT = s.fb F.SYS_STAT_CRIT

namespace Judged

theorem refl (s : State) : Judged s s := ⟨rfl, RegsBut.refl s, rfl⟩

theorem trans (h : Judged s t) (h' : Judged t u) : Judged s u :=
  ⟨h'.own.trans h.own, h.regs.trans h'.regs, h'.crit.trans h.crit⟩

theorem beside (h : Judged s t) (hx : u.hlt = t.hlt) (hr : u.regs = t.regs) : Judged s u := by
  refine h.trans ⟨hx, (RegsBut.refl t).of_regs hr, ?_⟩
  simp only [State.fb, State.f, State.rd, hr]

/-- A change of registers that are neither the monitor's nor SYS_STAT. -/
theorem of_regsBut {p : Nat → Prop} (hx : t.hlt = s.hlt) (h : RegsBut p s t) (hp : ∀ a, p a → ¬ hltRegs a ∧ a ≠ R.SYS_STAT.addr) :
    Judged s t :=
  ⟨hx, h.mono fun a ha => (hp a ha).1, h.fb fun ha => (hp _ ha).2 rfl⟩

theorem wr (h : Judged s t) {d : RegDesc} {v : Word} {i j : Nat} (hd : 0x10020000 ≤ d.base := by decide) : Judged s (t.wr d v i j) := by
  refine h.trans (of_regsBut rfl ((RegsBut.refl t).wr (p := (· = d.addr i j)) rfl) fun a ha => ?_)
  simp only [hltRegs, ha, RegDesc.addr, R.SYS_STAT]
  omega

theorem setF (h : Judged s t) {fl : Fld} {v i j : Nat} (hd : 0x10020000 ≤ fl.reg.base := by decide) : Judged s (t.setF fl v i j) :=
  (h.wr (d := fl.reg) (v := putBits (t.rd fl.reg i j) fl.hi fl.lo v) (i := i) (j := j) hd).beside rfl rfl

/-- A register of SYS other than SYS_STAT. -/
theorem low (h : Judged s t) {d : RegDesc} {v : Word} (lo : d.addr < 0x10010000 := by decide) (ne : d.addr ≠ R.SYS_STAT.addr := by decide) :
    Judged s (t.wr d v) := by
  refine h.trans (of_regsBut rfl ((RegsBut.refl t).wr (p := (· = d.addr)) rfl) fun a ha => ?_)
  simp only [hltRegs, ha]
  omega

/-- A field of a register of SYS other than SYS_STAT. -/
theorem lowF (h : Judged s t) {fl : Fld} {v : Nat} (lo : fl.reg.addr < 0x10010000 := by decide)
    (ne : fl.reg.addr ≠ R.SYS_STAT.addr := by decide) : Judged s (t.setF fl v) := by
  refine h.trans (of_regsBut rfl ((RegsBut.refl t).setF (p := (· = fl.reg.addr)) rfl) fun a ha => ?_)
  simp only [hltRegs, ha]
  omega

/-- A bit of SYS_STAT other than CRIT. -/
theorem stat (h : Judged s t) {fl : Fld} {v : Nat} (reg : fl.reg = R.SYS_STAT) (wf : fl.lo ≤ fl.hi)
    (ne : F.SYS_STAT_CRIT.hi < fl.lo ∨ fl.hi < F.SYS_STAT_CRIT.lo) : Judged s (t.setF fl v) := by
  refine h.trans ⟨rfl, (RegsBut.refl t).setF ?_, State.fb_setF_beside t v 0 0 reg wf (by decide) ne⟩
  rw [reg]
  simp only [hltRegs, RegDesc.addr, R.SYS_STAT]
  omega

theorem ite {c : Prop} [Decidable c] (ht : Judged s t) (hu : Judged s u) : Judged s (if c then t else u) := by
  split <;> assumption

theorem foldl {α : Type} {f : State → α → State} (l : List α) (hf : ∀ t, ∀ a ∈ l, Judged t (f t a)) (s : State) :
    Judged s (l.foldl f s) := by
  induction l generalizing s with
  | nil => exact refl s
  | cons a l ih =>
    exact (hf s a List.mem_cons_self).trans (ih (fun t b hb => hf t b (List.mem_cons_of_mem a hb)) (f s a))

theorem foldN {n : Nat} {f : State → Nat → State} (hf : ∀ t k, k < n → Judged t (f t k)) (s : State) :
    Judged s (foldN n f s) :=
  foldN_keeps (P := Judged s) n (fun t k hk h => h.trans (hf t k hk)) s (refl s)

theorem posts (h : Judged s t) (h' : Posts t u) : Judged s u := by
  refine h.trans (of_regsBut (by simpa only [State.apart] using congrArg State.hlt h'.1) h'.2 fun a ha => ?_)
  have area := eventReg_area ha
  simp only [hltRegs, RegDesc.addr, R.SYS_STAT]
  omega

theorem solOnly (h : Judged s t) (h' : SolOnly t u) : Judged s u := by
  refine h.trans (of_regsBut (by simpa only [State.apart, noSol] using congrArg State.hlt h'.1) h'.2 fun a ha => ?_)
  simp only [hltRegs, RegDesc.addr, R.SYS_STAT]
  rcases ha with ha | ha
  · simp only [solBlock] at ha; omega
  · have area := eventReg_area ha
    omega

end Judged

/-! ### FIRE_PERMIT and axes -/

theorem fireOpen_judged (s : State) : Judged s (fireOpen s) := by
  have shown : Judged s ((s.setF F.SYS_STAT_FIRE 0).setF F.SYS_STAT_FIREDROP_SEEN 1) :=
    ((Judged.refl s).stat rfl (by decide) (by decide)).stat rfl (by decide) (by decide)
  have posted := shown.posts (healthEvent_posts _ 0 0 0xD3 0 (sysStat ((s.setF F.SYS_STAT_FIRE 0).setF F.SYS_STAT_FIREDROP_SEEN 1)))
  unfold fireOpen
  dsimp only
  split
  · exact posted.solOnly (solFireDrop_solOnly _)
  · exact posted

theorem fireUpdate_judged (s : State) : Judged s (fireUpdate s) := by
  have timed (x : SysX) : Judged s { s with sys := x } := (Judged.refl s).beside rfl rfl
  unfold fireUpdate
  split
  · exact (Judged.refl s).ite (timed _)
  · exact ((timed _).trans (fireOpen_judged _)).ite (timed _)

theorem afFail_judged (s : State) (n : Nat) : Judged s (afFail s n) := by
  have judged : Judged s { s with fan := { s.fan with afGood := tabDrop s.fan.afGood n } } := (Judged.refl s).beside rfl rfl
  unfold afFail
  exact ((judged.setF.posts (event_posts (by decide) _ _ _ _ _)).trans (fireUpdate_judged _)).ite judged

theorem mtrGo_judged (s : State) (n st gates : Nat) : Judged s (mtrGo s n st gates) := by
  unfold mtrGo
  dsimp only
  have gone (x : MtrX) : Judged s ((s.setF F.MTR_STAT_STATE st n).setMtr n x) := (Judged.refl s).setF.beside rfl rfl
  exact ((gone _).trans (afFail_judged _ _)).ite (gone _)

theorem mtrDisable_judged (s : State) (n gates : Nat) : Judged s (mtrDisable s n gates) := by
  have off : Judged s (s.setF F.MTR_CTL_EN 0 n) := (Judged.refl s).setF
  exact (off.trans (mtrGo_judged _ _ _ _)).ite (off.beside rfl rfl)

theorem mtrRht_judged (s : State) (vlogLost reset : Bool) : Judged s (mtrRht s vlogLost reset) := by
  refine Judged.foldN (fun t n _ => ?_) s
  have held : Judged t (t.setMask R.SYS_HELDM n true) := (Judged.refl t).low
  have freed : Judged t (t.setMask R.SYS_HELDM n false) := (Judged.refl t).low
  have off (g : Nat) := freed.trans (mtrDisable_judged _ n g)
  have free (u : State) (x : MtrX) (h : Judged t u) : Judged t (u.setMtr n x) := h.beside rfl rfl
  dsimp only
  split
  · split
    · exact (Judged.refl t).ite (free _ _ held)
    · exact free _ _ (Judged.refl t)
  · exact (free _ _ (off _)).ite (off _)

/-! ### Load switches and solenoids -/

theorem lswOff_judged (s : State) (n : Nat) : Judged s (lswOff s n) := by
  have off (x : LswX) : Judged s ((s.setLsw n x).setF F.LSW_STAT_ON 0 n) :=
    ((Judged.refl s).beside rfl rfl : Judged s (s.setLsw n x)).setF
  exact off _

theorem lswRht_judged (s : State) (allOff : Bool) : Judged s (lswRht s allOff) := by
  refine Judged.foldN (fun t n _ => ?_) s
  have held (x : LswX) : Judged t ((t.setLsw n x).setMask R.SYS_HELD n true) :=
    ((Judged.refl t).beside rfl rfl : Judged t (t.setLsw n x)).low
  have freed : Judged t (t.setMask R.SYS_HELD n false) := (Judged.refl t).low
  exact ((Judged.refl t).ite (held _)).ite (freed.trans (lswOff_judged _ n).setF.setF)

theorem solAllOff_judged (s : State) : Judged s (solAllOff s) := by
  refine Judged.foldN (fun t n hn => ?_) s
  have stopped : Judged t (solStop t n (solSafePath t n)) :=
    ((Judged.refl t).beside rfl rfl : Judged t (t.setSol n { t.solX n with armed := none, rep := none })).solOnly
      (solOff_solOnly hn _ _)
  have off : Judged t (if t.solOdd n then t else solStop t n (solSafePath t n)) := (Judged.refl t).ite stopped
  exact off.setF

/-! ### Loops -/

theorem loopApply_judged (s : State) (n j dst : Nat) (v : Int) : Judged s (loopApply s n j dst v).2 := by
  have sol (m : Nat) : Judged s (solLoopWrite s m v).2 := by
    unfold solLoopWrite
    split
    · exact Judged.refl s
    · exact (Judged.refl s).beside rfl rfl
  have lsw (m : Nat) : Judged s (lswLoopWrite s m v).2 := by
    unfold lswLoopWrite
    split
    · exact Judged.refl s
    · split
      · exact Judged.refl s
      · exact (Judged.refl s).beside rfl rfl
  have mtr (m : Nat) : Judged s (mtrLoopWrite s m v).2 := by
    unfold mtrLoopWrite
    split
    · exact Judged.refl s
    · exact (Judged.refl s).beside rfl rfl
  have shown (ok : Bool) (u : State) (h : Judged s u) : Judged s (if ok then (u.wr R.LPE_UAPP (wordI v) n j).setLpe n
      { u.lpeX n with unmapped := (u.lpeX n).unmapped.filter (fun k => k != j) }
      else if (u.lpeX n).unmapped.contains j then u
      else lpeEvent (u.setLpe n { u.lpeX n with unmapped := j :: (u.lpeX n).unmapped }) n 0x67 j (word dst)) := by
    have noted (x : LpeX) : Judged s (u.setLpe n x) := h.beside rfl rfl
    have applied (x : LpeX) : Judged s ((u.wr R.LPE_UAPP (wordI v) n j).setLpe n x) := h.wr.beside rfl rfl
    exact (applied _).ite (h.ite ((noted _).posts (event_posts (by decide) _ _ _ _ _)))
  have written : Judged s (if dst < 0x100 then (true, s)
      else if dst < 0x200 then solLoopWrite s (dst - 0x100) v
      else if dst < 0x300 then lswLoopWrite s (dst - 0x200) v
      else if dst < 0x400 then mtrLoopWrite s (dst - 0x300) v
      else if dst < 0x500 then (true, s.wr R.LPE_REF (wordI v) ((dst - 0x400) / 4) ((dst - 0x400) % 4))
      else (true, s)).2 := by
    split
    · exact Judged.refl s
    · split
      · exact sol _
      · split
        · exact lsw _
        · split
          · exact mtr _
          · split
            · exact (Judged.refl s).wr
            · exact Judged.refl s
  unfold loopApply
  split
  · exact Judged.refl s
  · exact shown _ _ written

theorem loopApplyAll_judged (s : State) (n : Nat) (c : LoopCfg) (us : List Int) : Judged s (loopApplyAll s n c us) := by
  have each (l : List (Int × Nat)) (acc : List Bool × State) (h : Judged s acc.2) : Judged s (l.foldl (fun acc p =>
      ((acc.1 ++ [(loopApply acc.2 n p.2 (c.dst.getD p.2 0) p.1).1]), (loopApply acc.2 n p.2 (c.dst.getD p.2 0) p.1).2)) acc).2 := by
    induction l generalizing acc with
    | nil => exact h
    | cons p l ih => exact ih _ (h.trans (loopApply_judged _ _ _ _ _))
  exact (each _ _ ((Judged.refl s).beside rfl rfl)).setF

theorem loopSafe_judged (s : State) (n cause : Nat) : Judged s (loopSafe s n cause) := by
  have gone : Judged s ((loopGo s n lpSafe cause 0xFFFFFFFF).setF F.LPE_STAT_FIRE_REQ 0 n) :=
    ((Judged.refl s).setF.setF.setF.posts (event_posts (by decide) _ _ _ _ _)).setF
  exact (Judged.refl s).ite ((gone.trans (loopApplyAll_judged _ _ _ _)).trans (fireUpdate_judged _))

theorem holdOutputs_judged (s : State) : Judged s (holdOutputs s) := by
  have fired : Judged s (fireUpdate (s.wr R.SYS_FIRECTL 0)) := (Judged.refl s).low.trans (fireUpdate_judged _)
  have loops (u : State) : Judged u (loopAllSafe u) := Judged.foldN (fun t n _ => loopSafe_judged t n 6) u
  have safe := (fired.trans (loops _)).ite (c := (fireUpdate (s.wr R.SYS_FIRECTL 0)).domOn 3 = true) fired
  exact (((safe.trans (solAllOff_judged _)).trans (lswRht_judged _ _)).trans (mtrRht_judged _ _ _)).ite safe

/-! ### Rods that start again -/

theorem setRod_judged (s : State) (r : Nat) (x : RodX) : Judged s (s.setRod r x) := (Judged.refl s).beside rfl rfl

theorem setRodSt_judged (s : State) (r st : Nat) : Judged s (s.setRodSt r st) := (setRod_judged s r _).setF

theorem startProgram_judged (s : State) (r : Nat) : Judged s (startProgram s r) := by
  have belled (x : RodX) (e : Tab BeadErr) (v : Nat) : Judged s (State.setF { s.setRod r x with beadErr := e } F.FRM_DOORBELL_V v r) :=
    ((setRod_judged s r x).beside rfl rfl : Judged s { s.setRod r x with beadErr := e }).setF
  unfold startProgram
  split
  · exact Judged.refl s
  · exact (belled _ _ _).setF.setF.trans (setRodSt_judged _ _ _)

theorem stopClear_judged (s : State) (r : Nat) : Judged s (stopClear s r) :=
  (setRod_judged s r _).ite (setRod_judged s r _).setF

theorem pushFinish_judged (s : State) (n : Nat) : Judged s (pushFinish s n) := by
  refine Judged.foldN (fun t r _ => ?_) s
  have done (u : State) : Judged u (rodDone u r) := (setRod_judged u r _).wr
  have put (u : State) (d : BitVec 5) (v : Word) : Judged u (setG u r d v) := (Judged.refl u).ite (setRod_judged u r _)
  split
  · exact (((setRod_judged t r _).trans (put _ _ _)).trans (done _)).ite (Judged.refl t)
  · exact Judged.refl t

theorem voidReservations_judged (s : State) (r : Nat) : Judged s (voidReservations s r) := by
  refine (setRod_judged s r _).trans (Judged.foldN (fun t n hn => ?_) _)
  have voided (x : RingX) : Judged t (t.setRing n x) := (Judged.refl t).beside rfl rfl
  exact (((voided _).posts (ringCommit_posts hn _)).trans (pushFinish_judged _ n)).ite (Judged.refl t)

theorem rodHaltNow_judged (s : State) (r : Nat) : Judged s (rodHaltNow s r) :=
  ((voidReservations_judged s r).trans (stopClear_judged _ r)).trans (setRodSt_judged _ _ _)

theorem rodsRestart_judged (s : State) : Judged s (rodsRestart s) := by
  have cleared : Judged s (s.setSys { s.sys with stopped := [] }) := (Judged.refl s).beside rfl rfl
  exact cleared.trans (Judged.foldl _ (fun t r _ =>
    (Judged.refl t).ite ((rodHaltNow_judged t r).trans (startProgram_judged _ r))) _)

/-! ### Hold and waking -/

theorem pdRamp_judged (s : State) (n : Nat) : Judged s (pdRamp s n) := by
  refine .of_regsBut (by simpa using congrArg State.hlt (pdRamp_else s n)) (pdRamp_regs s n) fun a ha => ?_
  rcases ha with rfl | ⟨-, rfl⟩ <;> simp [hltRegs, RegDesc.addr, R.SYS_PDSTAT, R.SYS_PDCTL, R.SYS_STAT]

theorem enterHold_judged (s : State) (cause : Nat) : Judged s (enterHold s cause) := by
  have joined (v : Nat) : Judged s (s.setF F.SYS_MODE_HCAUSE v) := (Judged.refl s).lowF
  have set : Judged s (setMode s modeHold cause) := (Judged.refl s).low.low
  unfold enterHold
  split
  · exact joined _
  · exact (((set.trans (holdOutputs_judged _)).trans (Judged.foldl _ (fun t n _ => pdRamp_judged t n) _)).trans
      (rodsRestart_judged _)).posts (healthEvent_posts _ _ _ _ _ _)

theorem bare_hlt (s : State) : (bare s).hlt = s.hlt := rfl

theorem wakePending_judged (s : State) (cause : Nat) : Judged s (wakePending s cause) := by
  have own : (wakePending s cause).hlt = s.hlt := by
    rw [← bare_hlt (wakePending s cause), bare_wakePending, bare_hlt]
  refine .of_regsBut own (wakePending_regs s cause) fun a ha => ?_
  rcases ha with rfl | rfl <;> simp [hltRegs, RegDesc.addr, R.SYS_WAKE, R.SYS_MODE, R.SYS_STAT]

theorem wake_judged (s : State) (cause : Nat) : Judged s (wake s cause) := by
  have caused : Judged s (s.setF F.SYS_WAKE_CAUSE cause) := (Judged.refl s).lowF
  by_cases dormant : s.mode = 7
  · cases asleep : s.sys.resume with
    | false =>
      rw [wake_eq dormant asleep]
      exact (wakePending_judged s cause).trans (pdRamp_judged _ 2)
    | true =>
      have stays : (s.mode != modeDormant) = false := by rw [dormant]; rfl
      simp only [wake, stays, asleep, Bool.false_eq_true, if_false, if_true]
      exact caused.ite (Judged.refl s)
  · have moves : (s.mode != modeDormant) = true := bne_iff_ne.mpr dormant
    simp only [wake, moves, if_true]
    exact Judged.refl s

end
end Sys2Proof.Machine

/-! A critical fault that arises or clears (R526, R531, R536). -/

namespace Sys2Proof.Machine

open Sys2Proof.Claims

section
variable {s t u : State}

theorem setB_eq (s : State) (fl : Fld) (b : Bool) (i j : Nat) : s.setB fl b i j = s.setF fl (bit b) i j := rfl

theorem State.fb_setB_same (s : State) (fl : Fld) (b : Bool) (i j : Nat) (h : fl.lo ≤ fl.hi) (h' : fl.hi < 32) :
    (s.setB fl b i j).fb fl i j = b := by
  rw [setB_eq, State.fb_setF_same s fl _ i j h h']
  have wide : 1 < 2 ^ fl.width := Nat.one_lt_two_pow (by simp only [Fld.width]; omega)
  cases b
  · simp [bit]
  · rw [show bit true = 1 from rfl, Nat.mod_eq_of_lt wide]
    rfl

/-- What a critical fault that arises does in each mode (R536). -/
def critActs (s : State) : State :=
  if s.operating || s.mode == modeHold then enterHold s 2
  else if s.mode = modeCommission then holdOutputs s
  else wake (s.setSys { s.sys with critRec := true }) 5

/-- A critical fault that arises where none was in force. -/
theorem critChange_arises (h : s.fb F.SYS_STAT_CRIT = false) :
    critChange s true = fireUpdate (critActs (s.setB F.SYS_STAT_CRIT true)) := by
  simp only [critChange, h]
  rfl

theorem critChange_clears (s : State) : critChange s false = fireUpdate (s.setB F.SYS_STAT_CRIT false) := by
  simp only [critChange, Bool.not_false, Bool.or_true, if_true]

theorem critActs_judged (s : State) : Judged s (critActs s) := by
  have noted : Judged s (s.setSys { s.sys with critRec := true }) := (Judged.refl s).beside rfl rfl
  exact (enterHold_judged s 2).ite ((holdOutputs_judged s).ite (noted.trans (wake_judged _ 5)))

/-- What SYS_STAT.CRIT does not touch: the mode, and what stands behind the monitor and SYS. -/
theorem critShown_mode (s : State) (b : Bool) : (s.setB F.SYS_STAT_CRIT b).mode = s.mode :=
  State.f_setF_ne s (by decide)

theorem pdRamp_critRec (s : State) (n : Nat) : (pdRamp s n).sys.critRec = s.sys.critRec :=
  congrArg (fun p : SysX × Tab Program × List Host.Cell × Nat => p.1.critRec) (pdRamp_side s n)

theorem wake_critRec (s : State) (cause : Nat) : (wake s cause).sys.critRec = s.sys.critRec := by
  unfold wake
  split
  · rfl
  · split
    · split <;> rfl
    · exact pdRamp_critRec _ 2

theorem critActs_operating (h : s.operating = true) : (critActs s).mode = 6 := by
  have other : s.mode ≠ modeHold := by
    intro hold
    rw [State.operating, hold] at h
    exact absurd h (by decide)
  simp only [critActs, h, Bool.true_or, if_true]
  exact (enterHold_holds other 2).1

theorem critActs_recorded (h : s.mode = 0 ∨ s.mode = 7) : (critActs s).sys.critRec = true := by
  have acts : critActs s = wake (s.setSys { s.sys with critRec := true }) 5 := by
    rcases h with h | h <;> simp [critActs, State.operating, h, modeReady, modeStore, modeHold, modeCommission]
  rw [acts, wake_critRec]
  rfl

theorem fireUpdate_critRec (s : State) : (fireUpdate s).sys.critRec = s.sys.critRec :=
  congrArg (fun p : SysX × Tab Program × List Host.Cell × Nat => p.1.critRec) (fireUpdate_still s).side

/-- A critical fault is in force and acts as the mode of `s` asks. -/
structure Critical (s t : State) : Prop where
  shown : t.fb F.SYS_STAT_CRIT = true
  held : s.operating = true → t.mode = 6
  recorded : s.mode = 0 ∨ s.mode = 7 → t.sys.critRec = true

/-- A critical fault arises: SYS_STAT shows it, and the monitor's own stays. -/
theorem critChange_critical (calm : s.fb F.SYS_STAT_CRIT = false) :
    Critical s (critChange s true) ∧ (critChange s true).hlt = s.hlt ∧
      RegsBut (fun a => ¬ hltRegs a) s (critChange s true) := by
  rw [critChange_arises calm]
  have mode := critShown_mode s true
  have acted := (critActs_judged (s.setB F.SYS_STAT_CRIT true)).trans (fireUpdate_judged _)
  have shows : RegsBut (fun a => ¬ hltRegs a) s (s.setB F.SYS_STAT_CRIT true) :=
    (RegsBut.refl s).setF (by simp only [hltRegs, RegDesc.addr, F.SYS_STAT_CRIT, R.SYS_STAT]; omega)
  refine ⟨⟨?_, fun run => ?_, fun off => ?_⟩, acted.own, shows.trans acted.regs⟩
  · exact acted.crit.trans (State.fb_setB_same s _ true 0 0 (by decide) (by decide))
  · have run' : (s.setB F.SYS_STAT_CRIT true).operating = true := by rw [State.operating, mode]; exact run
    exact (fireUpdate_still _).mode.trans (critActs_operating run')
  · have off' : (s.setB F.SYS_STAT_CRIT true).mode = 0 ∨ (s.setB F.SYS_STAT_CRIT true).mode = 7 := by rw [mode]; exact off
    exact (fireUpdate_critRec _).trans (critActs_recorded off')

/-! ### HLT_STAT -/

/-- HLT_STAT with the conditions in force, CRIT apart. -/
def warnShown (s : State) : State :=
  (s.setB F.HLT_STAT_WARN (s.hlt.tempWarn || s.hlt.wet)).setB F.HLT_STAT_HUMID (s.hlt.wet || s.hlt.flooded)

/-- A critical condition is in force. -/
def critNow (s : State) : Bool := s.hlt.tempCrit || s.hlt.flooded || s.fb F.HLT_STAT_SUPPLY

theorem hltShow_eq (s : State) : hltShow s = if critNow s = (warnShown s).fb F.HLT_STAT_CRIT then warnShown s
    else critChange ((warnShown s).setB F.HLT_STAT_CRIT (critNow s)) (critNow s) := by
  unfold hltShow critNow warnShown
  rfl

theorem State.fb_setB_beside (s : State) {fl fl' : Fld} (b : Bool) (r : fl.reg = fl'.reg) (h : fl.lo ≤ fl.hi) (h' : fl'.hi < 32)
    (d : fl'.hi < fl.lo ∨ fl.hi < fl'.lo) : (s.setB fl b).fb fl' = s.fb fl' :=
  State.fb_setF_beside s (bit b) 0 0 r h h' d

/-- The flags of HLT_STAT beside those that `warnShown` sets. -/
theorem warnShown_beside (s : State) (fl : Fld) (reg : fl.reg = R.HLT_STAT) (hi : fl.hi < 32)
    (nw : fl.hi < F.HLT_STAT_WARN.lo ∨ F.HLT_STAT_WARN.hi < fl.lo) (nh : fl.hi < F.HLT_STAT_HUMID.lo ∨ F.HLT_STAT_HUMID.hi < fl.lo) :
    (warnShown s).fb fl = s.fb fl :=
  (State.fb_setB_beside _ _ reg.symm (by decide) hi nh).trans (State.fb_setB_beside s _ reg.symm (by decide) hi nw)

theorem warnShown_warn (s : State) : (warnShown s).fb F.HLT_STAT_WARN = (s.hlt.tempWarn || s.hlt.wet) := by
  unfold warnShown
  rw [State.fb_setB_beside _ (fl := F.HLT_STAT_HUMID) (fl' := F.HLT_STAT_WARN) _ rfl (by decide) (by decide) (by decide)]
  exact State.fb_setB_same s F.HLT_STAT_WARN _ 0 0 (by decide) (by decide)

theorem warnShown_humid (s : State) : (warnShown s).fb F.HLT_STAT_HUMID = (s.hlt.wet || s.hlt.flooded) := by
  unfold warnShown
  exact State.fb_setB_same _ F.HLT_STAT_HUMID _ 0 0 (by decide) (by decide)

end
end Sys2Proof.Machine

namespace Sys2Proof.Machine

open Sys2Proof.Claims

section
variable {s t u : State}

theorem hltStat_outside : ¬ (fun a => ¬ hltRegs a) (R.HLT_STAT.addr) := by simp [hltRegs, RegDesc.addr, R.HLT_STAT]

theorem hltStat_own : hltRegs R.HLT_STAT.addr := by simp [hltRegs, RegDesc.addr, R.HLT_STAT]

theorem warnShown_regs (s : State) : RegsBut (· = R.HLT_STAT.addr) s (warnShown s) :=
  ((RegsBut.refl s).setF (p := (· = R.HLT_STAT.addr)) (fl := F.HLT_STAT_WARN) rfl).setF rfl

/-- A field of one register set, where events may stand beside it. -/
theorem noisy_setF {e : State → State} {p : Nat → Prop} {fl : Fld} {v : Nat} (he : (e (t.setF fl v)).apart = (e t).apart)
    (h : noisy e p s t) (hp : p fl.reg.addr) : noisy e p s (t.setF fl v) :=
  ⟨he.trans h.1, h.2.setF (.inl hp)⟩

theorem quiet_setF {e : State → State} {p : Nat → Prop} {fl : Fld} {v : Nat}
    (he : { e (t.setF fl v) with w1cSet := [] } = { e t with w1cSet := [] }) (h : quiet e p s t) (hp : p fl.reg.addr) :
    quiet e p s (t.setF fl v) :=
  ⟨he.trans h.1, h.2.setF hp⟩

theorem warnShown_quiet {p : Nat → Prop} (h : quiet noHealth p s t) (hp : p R.HLT_STAT.addr) : quiet noHealth p s (warnShown t) :=
  quiet_setF rfl (quiet_setF rfl h hp) hp

theorem warnShown_hlt (s : State) : (warnShown s).hlt = s.hlt := rfl

theorem warnShown_noisy {p : Nat → Prop} (h : noisy noSys p s t) (hp : p R.HLT_STAT.addr) : noisy noSys p s (warnShown t) :=
  noisy_setF rfl (noisy_setF rfl h hp) hp


theorem warnShown_mode (s : State) : (warnShown s).mode = s.mode := (warnShown_regs s).f (by decide)

theorem warnShown_stat (s : State) (fl : Fld) (h : fl.reg = R.SYS_STAT) : (warnShown s).fb fl = s.fb fl :=
  (warnShown_regs s).fb (by rw [h]; decide)

theorem Critical.of_mode (h : Critical t u) (same : t.mode = s.mode) : Critical s u :=
  ⟨h.shown, fun run => h.held (by rw [State.operating, same]; exact run), fun off => h.recorded (by rw [same]; exact off)⟩

/-- No critical condition, and none that was shown. -/
theorem hltShow_calm (none : critNow s = false) (calm : s.fb F.HLT_STAT_CRIT = false) : hltShow s = warnShown s := by
  rw [hltShow_eq, warnShown_beside s F.HLT_STAT_CRIT rfl (by decide) (by decide) (by decide), none, calm]
  rfl

/-- A critical condition that was not shown. -/
structure Alarmed (s t : State) : Prop where
  acts : Critical s t
  own : t.hlt = s.hlt
  regs : RegsBut (fun a => a = R.HLT_STAT.addr ∨ ¬ hltRegs a) s t
  flag : t.fb F.HLT_STAT_CRIT = true
  flags : ∀ fl : Fld, fl.reg = R.HLT_STAT → fl.hi < 32 → (fl.hi < F.HLT_STAT_CRIT.lo ∨ F.HLT_STAT_CRIT.hi < fl.lo) →
    t.fb fl = (warnShown s).fb fl

theorem hltShow_alarmed (arises : critNow s = true) (calm : s.fb F.HLT_STAT_CRIT = false) (quietly : s.fb F.SYS_STAT_CRIT = false) :
    Alarmed s (hltShow s) := by
  have was : (warnShown s).fb F.HLT_STAT_CRIT = false :=
    (warnShown_beside s F.HLT_STAT_CRIT rfl (by decide) (by decide) (by decide)).trans calm
  have shows : hltShow s = critChange ((warnShown s).setB F.HLT_STAT_CRIT true) true := by
    rw [hltShow_eq, was, arises]
    rfl
  have regs : RegsBut (· = R.HLT_STAT.addr) s ((warnShown s).setB F.HLT_STAT_CRIT true) := (warnShown_regs s).setF rfl
  have mode : ((warnShown s).setB F.HLT_STAT_CRIT true).mode = s.mode := regs.f (by decide)
  have off : ((warnShown s).setB F.HLT_STAT_CRIT true).fb F.SYS_STAT_CRIT = false := (regs.fb (by decide)).trans quietly
  obtain ⟨acts, own, rest⟩ := critChange_critical off
  have flag (fl : Fld) (h : fl.reg = R.HLT_STAT) := rest.fb (fl := fl) (i := 0) (j := 0) (by rw [h]; exact hltStat_outside)
  rw [shows]
  refine ⟨acts.of_mode mode, own, (regs.mono fun _ => .inl).trans (rest.mono fun _ => .inr), ?_, fun fl reg hi beside => ?_⟩
  · exact (flag _ rfl).trans (State.fb_setB_same _ _ _ 0 0 (by decide) (by decide))
  · exact (flag fl reg).trans (State.fb_setB_beside _ _ reg.symm (by decide) hi beside)

/-! ### The core supply (R526) -/

theorem Posts.hlt (h : Posts s t) : t.hlt = s.hlt := by simpa only [State.apart] using congrArg State.hlt h.1

/-- The core supply is out of tolerance, shown and reported. -/
def supplyOut (s : State) (mv : BitVec 16) : State :=
  healthEvent ((s.setF F.HLT_STAT_SUPPLY 1).setF F.HLT_STAT_SUPPLY_SEEN 1) 0 0 0xFB 2 (mv.setWidth 32)

theorem supplyOut_regs (s : State) (mv : BitVec 16) : RegsBut (fun a => a = R.HLT_STAT.addr ∨ eventReg a) s (supplyOut s mv) :=
  (((RegsBut.refl s).setF (.inl rfl)).setF (.inl rfl)).trans ((healthEvent_posts _ _ _ _ _ _).2.mono fun _ => .inr)

theorem hltStat_not_event : ¬ eventReg R.HLT_STAT.addr := fun h => by
  have area := eventReg_area h
  simp only [RegDesc.addr, R.HLT_STAT] at area
  omega

/-- A register of SYS is none that events change. -/
theorem sys_not_event {a : Nat} (h : a < 0x10020000) : ¬ eventReg a := fun e => by
  have area := eventReg_area e
  omega

theorem supplyOut_flag (s : State) (mv : BitVec 16) (fl : Fld) (reg : fl.reg = R.HLT_STAT) :
    (supplyOut s mv).fb fl = ((s.setF F.HLT_STAT_SUPPLY 1).setF F.HLT_STAT_SUPPLY_SEEN 1).fb fl :=
  (healthEvent_posts _ _ _ _ _ _).2.fb (by rw [reg]; exact hltStat_not_event)

/-- The core supply leaves its tolerance: a critical fault (R526, R531). -/
theorem coreSupply_critical (due : s.sys.powered = true) (ahead : stopsAhead s = s) (good : s.fb F.HLT_STAT_SUPPLY = false)
    {mv : BitVec 16} (out : mv.toNat < 855 ∨ 945 < mv.toNat) (calm : s.fb F.HLT_STAT_CRIT = false)
    (quietly : s.fb F.SYS_STAT_CRIT = false) : runsTo (.coreSupplyCritical mv) s fun t =>
      t.fb F.HLT_STAT_SUPPLY = true ∧ t.fb F.HLT_STAT_SUPPLY_SEEN = true ∧ t.fb F.HLT_STAT_CRIT = true ∧ Critical s t := by
  have runs : exec (.coreSupplyCritical mv) s = .next (hltShow (supplyOut s mv)) := by
    show execCoreSupplyCritical mv s = _
    simp only [execCoreSupplyCritical, ahead, due, good, out]
    rfl
  have regs := supplyOut_regs s mv
  have reads (fl : Fld) (reg : fl.reg = R.HLT_STAT) (hi : fl.hi < 32)
      (other : fl.hi < F.HLT_STAT_SUPPLY_SEEN.lo ∨ F.HLT_STAT_SUPPLY_SEEN.hi < fl.lo) :
      (supplyOut s mv).fb fl = (s.setF F.HLT_STAT_SUPPLY 1).fb fl :=
    (supplyOut_flag s mv fl reg).trans (State.fb_setF_beside _ 1 0 0 reg.symm (by decide) hi other)
  have supply : (supplyOut s mv).fb F.HLT_STAT_SUPPLY = true :=
    (reads _ rfl (by decide) (by decide)).trans (State.fb_setF_same s F.HLT_STAT_SUPPLY 1 0 0 (by decide) (by decide))
  have seen : (supplyOut s mv).fb F.HLT_STAT_SUPPLY_SEEN = true :=
    (supplyOut_flag s mv _ rfl).trans (State.fb_setF_same _ F.HLT_STAT_SUPPLY_SEEN 1 0 0 (by decide) (by decide))
  have crit : (supplyOut s mv).fb F.HLT_STAT_CRIT = false :=
    ((reads _ rfl (by decide) (by decide)).trans
      (State.fb_setF_beside s (fl := F.HLT_STAT_SUPPLY) (fl' := F.HLT_STAT_CRIT) 1 0 0 rfl (by decide) (by decide) (by decide))).trans calm
  have arises : critNow (supplyOut s mv) = true := by rw [critNow, supply, Bool.or_true]
  have alarm := hltShow_alarmed arises crit ((regs.fb fun h => h.elim (by decide) sysStat_not_event).trans quietly)
  have flag (fl : Fld) (reg : fl.reg = R.HLT_STAT) (hi : fl.hi < 32)
      (nc : fl.hi < F.HLT_STAT_CRIT.lo ∨ F.HLT_STAT_CRIT.hi < fl.lo)
      (nw : fl.hi < F.HLT_STAT_WARN.lo ∨ F.HLT_STAT_WARN.hi < fl.lo)
      (nh : fl.hi < F.HLT_STAT_HUMID.lo ∨ F.HLT_STAT_HUMID.hi < fl.lo) :
      (hltShow (supplyOut s mv)).fb fl = (supplyOut s mv).fb fl :=
    (alarm.flags fl reg hi nc).trans (warnShown_beside _ fl reg hi nw nh)
  have mode : (supplyOut s mv).mode = s.mode := regs.f fun h => h.elim (by decide) (sys_not_event (by decide))
  exact ⟨_, runs, (flag _ rfl (by decide) (by decide) (by decide) (by decide)).trans supply,
    (flag _ rfl (by decide) (by decide) (by decide) (by decide)).trans seen, alarm.flag, alarm.acts.of_mode mode⟩

/-- The core supply is back in its tolerance, shown and reported. -/
def supplyBack (s : State) (mv : BitVec 16) : State := healthEvent (s.setF F.HLT_STAT_SUPPLY 0) 0 0 0xFB 0 (mv.setWidth 32)

/-- HLT_STAT and SYS_STAT with the critical fault gone. -/
def critCleared (s : State) : State := ((warnShown s).setF F.HLT_STAT_CRIT 0).setF F.SYS_STAT_CRIT 0

theorem critCleared_regs (s : State) : RegsBut (fun a => a = R.HLT_STAT.addr ∨ a = R.SYS_STAT.addr) s (critCleared s) :=
  (((warnShown_regs s).mono fun _ => .inl).setF (fl := F.HLT_STAT_CRIT) (.inl rfl)).setF (.inr rfl)

theorem critCleared_sys (s : State) (fl : Fld) (reg : fl.reg = R.SYS_STAT) (hi : fl.hi < 32)
    (other : fl.hi < F.SYS_STAT_CRIT.lo ∨ F.SYS_STAT_CRIT.hi < fl.lo) : (critCleared s).fb fl = s.fb fl := by
  have beside : (critCleared s).fb fl = ((warnShown s).setF F.HLT_STAT_CRIT 0).fb fl :=
    State.fb_setF_beside ((warnShown s).setF F.HLT_STAT_CRIT 0) 0 0 0 reg.symm (by decide) hi other
  refine beside.trans (RegsBut.fb (p := (· = R.HLT_STAT.addr)) ((warnShown_regs s).setF (fl := F.HLT_STAT_CRIT) rfl) ?_)
  rw [reg]
  decide

theorem critCleared_hlt (s : State) (fl : Fld) (reg : fl.reg = R.HLT_STAT) :
    (critCleared s).fb fl = ((warnShown s).setF F.HLT_STAT_CRIT 0).fb fl :=
  RegsBut.fb (p := (· = R.SYS_STAT.addr)) ((RegsBut.refl _).setF (fl := F.SYS_STAT_CRIT) rfl) (by rw [reg]; decide)

/-- The critical fault ends as the conditions in force have gone. -/
theorem hltShow_clears (gone : critNow s = false) (was : s.fb F.HLT_STAT_CRIT = true) :
    hltShow s = fireUpdate (critCleared s) := by
  rw [hltShow_eq, warnShown_beside s F.HLT_STAT_CRIT rfl (by decide) (by decide) (by decide), gone, was, critChange_clears]
  rfl

/-- Without SYS_STAT.FIRE the monitor, its registers and SYS_STAT alone change, and what stands behind SYS. -/
theorem hltShow_clears_noisy (gone : critNow s = false) (was : s.fb F.HLT_STAT_CRIT = true) (open' : s.fb F.SYS_STAT_FIRE = false) :
    noisy (noSys) (fun a => hltRegs a ∨ a = R.SYS_STAT.addr) s (hltShow s) := by
  rw [hltShow_clears gone was]
  have stays : (critCleared s).fb F.SYS_STAT_FIRE = false := (critCleared_sys s _ rfl (by decide) (by decide)).trans open'
  obtain ⟨x, calm⟩ := fireUpdate_calm stays
  have shown : noisy noSys (fun a => hltRegs a ∨ a = R.SYS_STAT.addr) s (critCleared s) :=
    noisy_setF rfl (noisy_setF rfl (warnShown_noisy (noisy_refl s) (.inl hltStat_own)) (.inl hltStat_own)) (.inr rfl)
  rw [calm]
  exact noisy_trans shown ⟨rfl, RegsBut.refl _⟩

theorem hltShow_same (same : critNow s = s.fb F.HLT_STAT_CRIT) : hltShow s = warnShown s := by
  rw [hltShow_eq, warnShown_beside s F.HLT_STAT_CRIT rfl (by decide) (by decide) (by decide), if_pos same]

/-- The core supply is in tolerance again (R526, R536). -/
theorem coreSupply_cleared (due : s.sys.powered = true) (out : s.fb F.HLT_STAT_SUPPLY = true) (was : s.fb F.HLT_STAT_CRIT = true)
    {mv : BitVec 16} (lo : 873 ≤ mv.toNat) (hi : mv.toNat ≤ 927) : runsTo (.coreSupplyCleared mv) s fun t =>
      t.fb F.HLT_STAT_SUPPLY = false ∧ t.fb F.HLT_STAT_CRIT = (s.hlt.tempCrit || s.hlt.flooded) ∧
        (s.hlt.tempCrit = false → s.hlt.flooded = false → t.fb F.SYS_STAT_CRIT = false) ∧
        (s.fb F.SYS_STAT_FIRE = false →
          noisy (noSys) (fun a => hltRegs a ∨ a = R.SYS_STAT.addr) s t) := by
  have runs : exec (.coreSupplyCleared mv) s = .next (hltShow (supplyBack s mv)) := by
    show execCoreSupplyCleared mv s = _
    simp only [execCoreSupplyCleared, due, out, lo, hi]
    rfl
  have told : Posts (s.setF F.HLT_STAT_SUPPLY 0) (supplyBack s mv) := healthEvent_posts _ _ _ _ _ _
  have flag (fl : Fld) (reg : fl.reg = R.HLT_STAT) : (supplyBack s mv).fb fl = (s.setF F.HLT_STAT_SUPPLY 0).fb fl :=
    told.2.fb (by rw [reg]; exact hltStat_not_event)
  have good : (supplyBack s mv).fb F.HLT_STAT_SUPPLY = false :=
    (flag _ rfl).trans (State.fb_setF_same s F.HLT_STAT_SUPPLY 0 0 0 (by decide) (by decide))
  have still : (supplyBack s mv).fb F.HLT_STAT_CRIT = true := (flag _ rfl).trans
    ((State.fb_setF_beside s (fl := F.HLT_STAT_SUPPLY) (fl' := F.HLT_STAT_CRIT) 0 0 0 rfl (by decide) (by decide) (by decide)).trans was)
  have own : (supplyBack s mv).hlt = s.hlt := told.hlt
  have now : critNow (supplyBack s mv) = (s.hlt.tempCrit || s.hlt.flooded) := by rw [critNow, good, own, Bool.or_false]
  have back : noisy (noSys) (fun a => hltRegs a ∨ a = R.SYS_STAT.addr) s (supplyBack s mv) :=
    noisy_trans (noisy_setF (fl := F.HLT_STAT_SUPPLY) (v := 0) rfl (noisy_refl s) (.inl hltStat_own)) (noisy_of_posts (fun _ => rfl) told)
  have fire : (supplyBack s mv).fb F.SYS_STAT_FIRE = s.fb F.SYS_STAT_FIRE :=
    (told.2.fb sysStat_not_event).trans
      (((RegsBut.refl s).setF (p := (· = R.HLT_STAT.addr)) (fl := F.HLT_STAT_SUPPLY) rfl).fb (by decide))
  refine ⟨_, runs, ?_⟩
  by_cases gone : (s.hlt.tempCrit || s.hlt.flooded) = false
  · have none : critNow (supplyBack s mv) = false := now.trans gone
    have fired (fl : Fld) (reg : fl.reg = R.HLT_STAT) :
        (hltShow (supplyBack s mv)).fb fl = ((warnShown (supplyBack s mv)).setF F.HLT_STAT_CRIT 0).fb fl := by
      rw [hltShow_clears none still]
      exact ((fireUpdate_judged _).regs.fb (by rw [reg]; exact hltStat_outside)).trans (critCleared_hlt _ fl reg)
    have supply : ((warnShown (supplyBack s mv)).setF F.HLT_STAT_CRIT 0).fb F.HLT_STAT_SUPPLY = false :=
      (State.fb_setF_beside _ (fl := F.HLT_STAT_CRIT) (fl' := F.HLT_STAT_SUPPLY) 0 0 0 rfl (by decide) (by decide) (by decide)).trans
        ((warnShown_beside _ F.HLT_STAT_SUPPLY rfl (by decide) (by decide) (by decide)).trans good)
    have crit : ((warnShown (supplyBack s mv)).setF F.HLT_STAT_CRIT 0).fb F.HLT_STAT_CRIT = false :=
      State.fb_setF_same _ F.HLT_STAT_CRIT 0 0 0 (by decide) (by decide)
    have cleared : (critCleared (supplyBack s mv)).fb F.SYS_STAT_CRIT = false :=
      State.fb_setF_same _ F.SYS_STAT_CRIT 0 0 0 (by decide) (by decide)
    refine ⟨(fired _ rfl).trans supply, ((fired _ rfl).trans crit).trans gone.symm, fun _ _ => ?_,
      fun shut => noisy_trans back (hltShow_clears_noisy none still (fire.trans shut))⟩
    rw [hltShow_clears none still]
    exact (fireUpdate_judged _).crit.trans cleared
  · have lasts : (s.hlt.tempCrit || s.hlt.flooded) = true := Bool.eq_true_of_not_eq_false gone
    rw [hltShow_same (now.trans (lasts.trans still.symm))]
    refine ⟨(warnShown_beside _ F.HLT_STAT_SUPPLY rfl (by decide) (by decide) (by decide)).trans good,
      ((warnShown_beside _ F.HLT_STAT_CRIT rfl (by decide) (by decide) (by decide)).trans still).trans lasts.symm,
      fun cool dry => absurd lasts (by simp [cool, dry]), fun _ => warnShown_noisy back (.inl hltStat_own)⟩

end
end Sys2Proof.Machine

/-! Sensor reads: what is shown, and what is judged (R526). -/

namespace Sys2Proof.Machine

open Sys2Proof.Claims

/-! ### The hottest reading -/

/-- Reading `i` as a number. -/
def reading (l : List (BitVec 16)) (i : Nat) : Int := (l.getD i 0).toInt

/-- `m` is the hottest reading with its sensor, the lowest of equals. -/
structure Hottest (l : List (BitVec 16)) (m : Int × Nat) : Prop where
  inside : m.2 < l.length
  of : reading l m.2 = m.1
  most : ∀ i < l.length, reading l i ≤ m.1
  first : ∀ i < m.2, reading l i < m.1

theorem hottest_single (v : BitVec 16) : hottest [v] = (v.toInt, 0) := rfl

theorem hottest_snoc {l : List (BitVec 16)} (h : l ≠ []) (v : BitVec 16) :
    hottest (l ++ [v]) = if (hottest l).1 < v.toInt then (v.toInt, l.length) else hottest l := by
  obtain ⟨w, l, rfl⟩ := List.exists_cons_of_ne_nil h
  simp only [hottest, List.cons_append, List.zipIdx_cons, List.zipIdx_append, List.foldl_append, List.zipIdx_nil, List.foldl_cons,
    List.foldl_nil, List.length_cons, Nat.zero_add, Nat.add_comm 1]

theorem reading_append_left {l : List (BitVec 16)} {i : Nat} (h : i < l.length) (v : BitVec 16) :
    reading (l ++ [v]) i = reading l i := by
  simp only [reading, List.getD_append _ _ _ _ h]

theorem reading_append_last (l : List (BitVec 16)) (v : BitVec 16) : reading (l ++ [v]) l.length = v.toInt := by
  simp [reading]

theorem hottest_hottest (l : List (BitVec 16)) : l ≠ [] → Hottest l (hottest l) := by
  induction l using List.reverseRecOn with
  | nil => exact fun h => absurd rfl h
  | append_singleton l v ih =>
    intro _
    by_cases empty : l = []
    · subst empty
      exact ⟨Nat.zero_lt_one, rfl, fun i hi => by simp at hi; subst hi; exact le_refl _, fun i hi => absurd hi (Nat.not_lt_zero i)⟩
    · obtain ⟨inside, of, most, first⟩ := ih empty
      have below {b : Int} (i : Nat) (hi : i < (l ++ [v]).length) (old : ∀ i < l.length, reading l i ≤ b) (new : v.toInt ≤ b) :
          reading (l ++ [v]) i ≤ b := by
        rcases Nat.lt_or_ge i l.length with h | h
        · rw [reading_append_left h]; exact old i h
        · have last : i = l.length := by simp only [List.length_append, List.length_singleton] at hi; omega
          rw [last, reading_append_last]; exact new
      rw [hottest_snoc empty]
      split
      · next hotter =>
        refine ⟨by simp, reading_append_last l v, fun i hi => below i hi (fun i h => ?_) (le_refl _), fun i hi => ?_⟩
        · exact (most i h).trans hotter.le
        · rw [reading_append_left hi]; exact lt_of_le_of_lt (most i hi) hotter
      · next cooler =>
        refine ⟨by simp; omega, ?_, fun i hi => below i hi most (Int.not_lt.mp cooler), fun i hi => ?_⟩
        · rw [reading_append_left inside]; exact of
        · rw [reading_append_left (hi.trans inside)]; exact first i hi

/-! ### What a read shows -/

section
variable {s t u : State}

/-- The temperatures as they are shown. -/
def tempsShown (f : Nat → Word) (n : Nat) (s : State) : State := foldN n (fun s i => s.wr R.HLT_TEMP (f i) i) s

theorem temp_addr_ne {i j : Nat} (h : i ≠ j) : R.HLT_TEMP.addr i ≠ R.HLT_TEMP.addr j := by
  simp only [RegDesc.addr, R.HLT_TEMP]
  omega

theorem tempsShown_spec (f : Nat → Word) (n : Nat) (s : State) :
    (∀ i, (tempsShown f n s).rd R.HLT_TEMP i = if i < n then f i else s.rd R.HLT_TEMP i) ∧
      { tempsShown f n s with regs := s.regs } = s ∧ RegsBut (fun a => ∃ i < n, a = R.HLT_TEMP.addr i) s (tempsShown f n s) := by
  induction n with
  | zero => exact ⟨fun _ => rfl, rfl, RegsBut.refl s⟩
  | succ n ih =>
    obtain ⟨temps, rest, regs⟩ := ih
    have step : tempsShown f (n + 1) s = (tempsShown f n s).wr R.HLT_TEMP (f n) n := by
      simp only [tempsShown, foldN, List.range_succ, List.foldl_append, List.foldl_cons, List.foldl_nil]
    rw [step]
    refine ⟨fun i => ?_, rest, (regs.mono fun a ⟨i, hi, e⟩ => ⟨i, by omega, e⟩).wr ⟨n, by omega, rfl⟩⟩
    by_cases e : i = n
    · subst e
      rw [State.rd_wr_same, if_pos (by omega)]
    · rw [State.rd_wr_ne _ (temp_addr_ne (Ne.symm e)), temps]
      have same : i < n ↔ i < n + 1 := by omega
      simp only [same]

/-- The hottest reading and its sensor as they are shown. -/
def maxShown (m : Int × Nat) (s : State) : State := (s.setFi F.HLT_TMAX_T m.1).setF F.HLT_TMAX_SENSOR m.2

/-- The readings but the temperatures as they are shown. -/
def airShown (v : Sensors) (s : State) : State :=
  ((s.wr R.HLT_HUMID (v.humid.setWidth 32)).wr R.HLT_VLOG (v.vlog.setWidth 32)).wr R.HLT_VCORE (v.vcore.setWidth 32)

/-- A sensor read as it is shown, not yet judged. -/
def readShown (v : Sensors) (s : State) : State :=
  airShown v (maxShown (hottest v.temp)
    (tempsShown (fun i => (v.temp.getD i 0).signExtend 32) 12 (s.setHlt { s.hlt with readTb := some s.tbNow })))

theorem sensorRead_runs (due : s.sys.powered = true) (ahead : stopsAhead s = s) (grid : s.tbNow % 100000000 = 0)
    (fresh : s.hlt.readTb ≠ some s.tbNow) {v : Sensors} (twelve : v.temp.length = 12) :
    exec (.sensorRead v) s = .next (hltShow (humidJudge (tempJudge (readShown v s)))) := by
  have all : v.temp.take 12 = v.temp := List.take_of_length_le twelve.le
  have hits : (s.tbHits fun t => t % 100000000 == 0) = true := by simp [State.tbHits, grid]
  have front : s.sys.powered = true ∧ (s.tbHits fun t => t % 100000000 == 0) = true ∧ s.hlt.readTb ≠ some s.tbNow := ⟨due, hits, fresh⟩
  show execSensorRead v s = _
  unfold execSensorRead
  rw [ahead, all]
  exact congrArg Host.Outcome.next (if_pos front)

/-- What SENSOR_READ shows of its readings. -/
structure Shown (v : Sensors) (tb : Nat) (t : State) : Prop where
  temps : ∀ i < 12, t.rd R.HLT_TEMP i = (v.temp.getD i 0).signExtend 32
  humid : t.rd R.HLT_HUMID = v.humid.setWidth 32
  vlog : t.rd R.HLT_VLOG = v.vlog.setWidth 32
  vcore : t.rd R.HLT_VCORE = v.vcore.setWidth 32
  read : t.hlt.readTb = some tb
  max : Hottest v.temp (t.fi F.HLT_TMAX_T, t.f F.HLT_TMAX_SENSOR)

/-- What is shown stands where only HLT_STAT of the monitor's registers changes. -/
theorem Shown.keep {v : Sensors} {tb : Nat} (h : Shown v tb s) (regs : RegsBut (fun a => a = R.HLT_STAT.addr ∨ ¬ hltRegs a) s t)
    (read : t.hlt.readTb = s.hlt.readTb) : Shown v tb t := by
  have stays (d : RegDesc) (i : Nat) (lo : 0x10010004 ≤ d.addr i) (hi : d.addr i < 0x10020000) : t.rd d i = s.rd d i :=
    regs.rd fun a => a.elim (by simp only [R.HLT_STAT, RegDesc.addr] at lo ⊢; omega) fun out => out ⟨by omega, hi⟩
  have max : t.rd R.HLT_TMAX = s.rd R.HLT_TMAX := stays _ 0 (by decide) (by decide)
  refine ⟨fun i hi => (stays _ i ?_ ?_).trans (h.temps i hi), (stays _ 0 (by decide) (by decide)).trans h.humid,
    (stays _ 0 (by decide) (by decide)).trans h.vlog, (stays _ 0 (by decide) (by decide)).trans h.vcore, read.trans h.read, ?_⟩
  · simp only [RegDesc.addr, R.HLT_TEMP]; omega
  · simp only [RegDesc.addr, R.HLT_TEMP]; omega
  · have keep := h.max
    simp only [State.fi, State.f, F.HLT_TMAX_T, F.HLT_TMAX_SENSOR, max] at keep ⊢
    exact keep

theorem sext_toField {x : Int} {w : Nat} (lo : -2 ^ w ≤ x) (hi : x < 2 ^ w) : sext (toField x (w + 1)) (w + 1) = x := by
  have double : (2 : Int) ^ (w + 1) = 2 * 2 ^ w := by ring
  have cast : ((2 ^ (w + 1) : Nat) : Int) = 2 * 2 ^ w := by push_cast; ring
  have half : ((2 ^ w : Nat) : Int) = 2 ^ w := by push_cast; rfl
  have nonneg : 0 ≤ x % (2 * 2 ^ w) := Int.emod_nonneg _ (by positivity)
  have below : x % (2 * 2 ^ w) < 2 * 2 ^ w := Int.emod_lt_of_pos _ (by positivity)
  have field : ((toField x (w + 1) : Nat) : Int) = x % (2 * 2 ^ w) := by
    rw [toField, cast, Int.toNat_of_nonneg nonneg]
  have small : toField x (w + 1) < 2 ^ (w + 1) := by omega
  rw [sext, Nat.mod_eq_of_lt small, Nat.add_sub_cancel]
  rcases lt_or_ge x 0 with neg | pos
  · have value : x % (2 * 2 ^ w) = x + 2 * 2 ^ w := by
      rw [← Int.add_emod_right, Int.emod_eq_of_lt (by omega) (by omega)]
    rw [if_neg (by omega)]
    omega
  · have value : x % (2 * 2 ^ w) = x := Int.emod_eq_of_lt pos (by omega)
    rw [if_pos (by omega)]
    omega

theorem reading_bounds (l : List (BitVec 16)) (i : Nat) : -2 ^ 15 ≤ reading l i ∧ reading l i < 2 ^ 15 :=
  ⟨BitVec.le_toInt _, BitVec.toInt_lt⟩

/-- The monitor's registers but HLT_STAT and HLT_HUMLIM, where a read shows. -/
def readRegs (a : Nat) : Prop := hltRegs a ∧ a ≠ R.HLT_STAT.addr ∧ a ≠ R.HLT_HUMLIM.addr

theorem airShown_regs (v : Sensors) (s : State) :
    RegsBut (fun a => a = R.HLT_HUMID.addr ∨ a = R.HLT_VLOG.addr ∨ a = R.HLT_VCORE.addr) s (airShown v s) :=
  (((RegsBut.refl s).wr (.inl rfl)).wr (.inr (.inl rfl))).wr (.inr (.inr rfl))

theorem airShown_shows (v : Sensors) (s : State) : (airShown v s).rd R.HLT_HUMID = v.humid.setWidth 32 ∧
    (airShown v s).rd R.HLT_VLOG = v.vlog.setWidth 32 ∧ (airShown v s).rd R.HLT_VCORE = v.vcore.setWidth 32 := by
  unfold airShown
  refine ⟨?_, ?_, State.rd_wr_same ..⟩
  · rw [State.rd_wr_ne _ (by decide), State.rd_wr_ne _ (by decide), State.rd_wr_same]
  · rw [State.rd_wr_ne _ (by decide), State.rd_wr_same]

theorem maxShown_regs (m : Int × Nat) (s : State) : RegsBut (· = R.HLT_TMAX.addr) s (maxShown m s) :=
  ((RegsBut.refl s).setF (p := (· = R.HLT_TMAX.addr)) (fl := F.HLT_TMAX_T) rfl).setF rfl

theorem maxShown_shows {m : Int × Nat} (lo : -2 ^ 15 ≤ m.1) (hi : m.1 < 2 ^ 15) (sensor : m.2 < 16) (s : State) :
    (maxShown m s).fi F.HLT_TMAX_T = m.1 ∧ (maxShown m s).f F.HLT_TMAX_SENSOR = m.2 := by
  have word : (maxShown m s).f F.HLT_TMAX_T = toField m.1 16 % 2 ^ 16 := by
    unfold maxShown
    exact (State.f_setF_beside _ (fl := F.HLT_TMAX_SENSOR) (fl' := F.HLT_TMAX_T) _ 0 0 rfl (by decide) (by decide) (by decide)).trans
      (State.f_setF_same s F.HLT_TMAX_T _ 0 0 (by decide) (by decide))
  have again : sext (toField m.1 16 % 2 ^ 16) 16 = sext (toField m.1 16) 16 := by simp only [sext, Nat.mod_mod]
  refine ⟨?_, ?_⟩
  · rw [State.fi, word]
    exact again.trans (sext_toField lo hi)
  · unfold maxShown
    exact (State.f_setF_same _ F.HLT_TMAX_SENSOR m.2 0 0 (by decide) (by decide)).trans (Nat.mod_eq_of_lt sensor)

theorem temp_own {i : Nat} (h : i < 12) : readRegs (R.HLT_TEMP.addr i) := by
  simp only [readRegs, hltRegs, RegDesc.addr, R.HLT_TEMP, R.HLT_STAT, R.HLT_HUMLIM]
  omega

theorem temp_beside {i : Nat} (h : i < 12) {d : RegDesc} (hd : R.HLT_TMAX.base ≤ d.addr) : R.HLT_TEMP.addr i ≠ d.addr := by
  simp only [RegDesc.addr, R.HLT_TEMP, R.HLT_TMAX] at hd ⊢
  omega

theorem readReg_own : readRegs R.HLT_TMAX.addr ∧ readRegs R.HLT_HUMID.addr ∧ readRegs R.HLT_VLOG.addr ∧ readRegs R.HLT_VCORE.addr := by
  unfold readRegs hltRegs
  decide

theorem quiet_trans {e : State → State} {p : Nat → Prop} (h : quiet e p s t) (h' : quiet e p t u) : quiet e p s u :=
  ⟨h'.1.trans h.1, h.2.trans h'.2⟩

theorem airShown_quiet (v : Sensors) (s : State) : quiet noHealth readRegs s (airShown v s) ∧ (airShown v s).hlt = s.hlt := by
  obtain ⟨-, hum, log, core⟩ := readReg_own
  refine ⟨⟨rfl, (airShown_regs v s).mono fun a h => ?_⟩, rfl⟩
  rcases h with rfl | rfl | rfl
  · exact hum
  · exact log
  · exact core

theorem maxShown_quiet (m : Int × Nat) (s : State) : quiet noHealth readRegs s (maxShown m s) ∧ (maxShown m s).hlt = s.hlt :=
  ⟨⟨rfl, (maxShown_regs m s).mono fun _ e => e ▸ readReg_own.1⟩, rfl⟩

theorem tempsShown_quiet (f : Nat → Word) (s : State) :
    quiet noHealth readRegs s (tempsShown f 12 s) ∧ (tempsShown f 12 s).hlt = s.hlt := by
  obtain ⟨-, rest, regs⟩ := tempsShown_spec f 12 s
  exact ⟨⟨congrArg (fun u : State => { noHealth u with w1cSet := [] }) rest, regs.mono fun a ⟨i, hi, e⟩ => e ▸ temp_own hi⟩,
    (congrArg State.hlt rest :)⟩

theorem read_quiet (s : State) (x : HltX) : quiet noHealth readRegs s (s.setHlt x) := ⟨rfl, RegsBut.refl s⟩

theorem readShown_quiet (v : Sensors) (s : State) :
    quiet noHealth readRegs s (readShown v s) ∧ (readShown v s).hlt = { s.hlt with readTb := some s.tbNow } := by
  obtain ⟨air, air'⟩ := airShown_quiet v (maxShown (hottest v.temp)
    (tempsShown (fun i => (v.temp.getD i 0).signExtend 32) 12 (s.setHlt { s.hlt with readTb := some s.tbNow })))
  obtain ⟨max, max'⟩ := maxShown_quiet (hottest v.temp)
    (tempsShown (fun i => (v.temp.getD i 0).signExtend 32) 12 (s.setHlt { s.hlt with readTb := some s.tbNow }))
  obtain ⟨warm, warm'⟩ := tempsShown_quiet (fun i => (v.temp.getD i 0).signExtend 32) (s.setHlt { s.hlt with readTb := some s.tbNow })
  exact ⟨quiet_trans (quiet_trans (quiet_trans (read_quiet s _) warm) max) air, (air'.trans max').trans warm'⟩

theorem readShown_shown (v : Sensors) (s : State) (twelve : v.temp.length = 12) : Shown v s.tbNow (readShown v s) := by
  have hot := hottest_hottest v.temp (List.ne_nil_of_length_pos (by omega))
  have sensor : (hottest v.temp).2 < 12 := twelve ▸ hot.inside
  have read := (readShown_quiet v s).2
  unfold readShown at read ⊢
  obtain ⟨temps, -, -⟩ := tempsShown_spec (fun i => (v.temp.getD i 0).signExtend 32) 12 (s.setHlt { s.hlt with readTb := some s.tbNow })
  generalize tempsShown (fun i => (v.temp.getD i 0).signExtend 32) 12 (s.setHlt { s.hlt with readTb := some s.tbNow }) = warm at *
  have max := maxShown_regs (hottest v.temp) warm
  obtain ⟨most, least⟩ := maxShown_shows (hot.of ▸ (reading_bounds v.temp (hottest v.temp).2).1)
    (hot.of ▸ (reading_bounds v.temp (hottest v.temp).2).2) (show (hottest v.temp).2 < 16 by omega) warm
  generalize maxShown (hottest v.temp) warm = shown at *
  have air := airShown_regs v shown
  obtain ⟨humid, vlog, vcore⟩ := airShown_shows v shown
  have kept : (airShown v shown).rd R.HLT_TMAX = shown.rd R.HLT_TMAX := air.rd (by decide)
  refine ⟨fun i hi => ?_, humid, vlog, vcore, congrArg HltX.readTb read, ?_⟩
  · have beside : (airShown v shown).rd R.HLT_TEMP i = shown.rd R.HLT_TEMP i :=
      air.rd fun h => by
        rcases h with h | h | h
        · exact temp_beside hi (by decide) h
        · exact temp_beside hi (by decide) h
        · exact temp_beside hi (by decide) h
    exact ((beside.trans (max.rd (temp_beside hi (by decide)))).trans (temps i)).trans (if_pos hi)
  · have t : (airShown v shown).fi F.HLT_TMAX_T = (hottest v.temp).1 := by
      rw [← most]
      simp only [State.fi, State.f, F.HLT_TMAX_T, kept]
    have n : (airShown v shown).f F.HLT_TMAX_SENSOR = (hottest v.temp).2 := by
      rw [← least]
      simp only [State.f, F.HLT_TMAX_SENSOR, kept]
    rw [t, n]
    exact hot

end
end Sys2Proof.Machine

namespace Sys2Proof.Machine

open Sys2Proof.Claims

section
variable {s t u : State}

/-! ### The judgement -/

/-- The judgement of a condition: HLT_STAT changes beside CRIT, and an event may be posted. -/
structure Noted (s t : State) : Prop where
  regs : RegsBut (fun a => a = R.HLT_STAT.addr ∨ eventReg a) s t
  crit : t.fb F.HLT_STAT_CRIT = s.fb F.HLT_STAT_CRIT

namespace Noted

theorem refl (s : State) : Noted s s := ⟨RegsBut.refl s, rfl⟩

theorem trans (h : Noted s t) (h' : Noted t u) : Noted s u := ⟨h.regs.trans h'.regs, h'.crit.trans h.crit⟩

theorem setHlt (s : State) (x : HltX) : Noted s (s.setHlt x) := ⟨(RegsBut.refl s).of_regs rfl, rfl⟩

theorem flag (s : State) (fl : Fld) (reg : fl.reg = R.HLT_STAT) (wf : fl.lo ≤ fl.hi)
    (other : F.HLT_STAT_CRIT.hi < fl.lo ∨ fl.hi < F.HLT_STAT_CRIT.lo) : Noted s (s.setF fl 1) :=
  ⟨(RegsBut.refl s).setF (.inl (by rw [reg])), State.fb_setF_beside s 1 0 0 reg wf (by decide) other⟩

theorem told (s : State) (idx pool code detail : Nat) (v : Word) : Noted s (healthEvent s idx pool code detail v) :=
  have posts := healthEvent_posts s idx pool code detail v
  ⟨posts.2.mono fun _ => .inr, posts.2.fb hltStat_not_event⟩

end Noted

theorem tempEvent_noted (s : State) (on : Bool) (level : Nat) : Noted s (tempEvent s on level) ∧ (tempEvent s on level).hlt = s.hlt := by
  unfold tempEvent
  split
  · exact ⟨(Noted.flag s F.HLT_STAT_TEMP_SEEN rfl (by decide) (by decide)).trans (Noted.told _ _ _ _ _ _),
      (healthEvent_posts _ _ _ _ _ _).hlt⟩
  · exact ⟨Noted.told _ _ _ _ _ _, (healthEvent_posts _ _ _ _ _ _).hlt⟩

theorem humidEvent_noted (s : State) (on : Bool) (level : Nat) : Noted s (humidEvent s on level) ∧ (humidEvent s on level).hlt = s.hlt := by
  unfold humidEvent
  split
  · exact ⟨(Noted.flag s F.HLT_STAT_HUMID_SEEN rfl (by decide) (by decide)).trans (Noted.told _ _ _ _ _ _),
      (healthEvent_posts _ _ _ _ _ _).hlt⟩
  · exact ⟨Noted.told _ _ _ _ _ _, (healthEvent_posts _ _ _ _ _ _).hlt⟩

/-- One condition judged: `x` shows it, with an event where it has changed. -/
theorem condition_noted {w was : Bool} {f : State → State} (x : HltX) (hf : ∀ t, Noted t (f t) ∧ (f t).hlt = t.hlt)
    (same : w = was → x = s.hlt) :
    Noted s (if w = was then s else f (s.setHlt x)) ∧ (if w = was then s else f (s.setHlt x)).hlt = x := by
  split
  · next e => exact ⟨Noted.refl s, (same e).symm⟩
  · exact ⟨(Noted.setHlt s x).trans (hf _).1, (hf _).2⟩

/-- Below every limit the temperature is judged as it was. -/
theorem tempJudge_cool (cool : s.fi F.HLT_TMAX_T < 1200) (warn : s.hlt.tempWarn = false) (crit : s.hlt.tempCrit = false) :
    tempJudge s = s := by
  have below : s.fi F.HLT_TMAX_T < 1250 := by omega
  simp [tempJudge, warn, crit, Int.not_le.mpr below, cool, below, Int.not_le.mpr (show s.fi F.HLT_TMAX_T < 1350 by omega)]

/-- At 135.0 degrees both temperature conditions are in force. -/
theorem tempJudge_hot (hot : 1350 ≤ s.fi F.HLT_TMAX_T) :
    Noted s (tempJudge s) ∧ (tempJudge s).hlt = { s.hlt with tempWarn := true, tempCrit := true } := by
  have warns : 1250 ≤ s.fi F.HLT_TMAX_T := by omega
  have first := condition_noted (s := s) (w := true) (was := s.hlt.tempWarn) { s.hlt with tempWarn := true }
    (fun t => tempEvent_noted t true 1) (fun e => by rw [e])
  have judged : tempJudge s = (let t := if true = s.hlt.tempWarn then s else tempEvent (s.setHlt { s.hlt with tempWarn := true }) true 1
      if true = t.hlt.tempCrit then t else tempEvent (t.setHlt { t.hlt with tempCrit := true }) true 2) := by
    simp only [tempJudge, warns, hot, if_true]
  rw [judged]
  dsimp only
  generalize (if true = s.hlt.tempWarn then s else tempEvent (s.setHlt { s.hlt with tempWarn := true }) true 1) = t at first ⊢
  have second := condition_noted (s := t) (w := true) (was := t.hlt.tempCrit) { t.hlt with tempCrit := true }
    (fun t => tempEvent_noted t true 2) (fun e => by rw [e])
  exact ⟨first.1.trans second.1, by rw [second.2, first.2]⟩

/-- What the humidity's judgement leaves of the temperatures' and of the read. -/
theorem humidJudge_noted (s : State) : Noted s (humidJudge s) ∧ (humidJudge s).hlt.tempWarn = s.hlt.tempWarn ∧
    (humidJudge s).hlt.tempCrit = s.hlt.tempCrit ∧ (humidJudge s).hlt.readTb = s.hlt.readTb := by
  unfold humidJudge
  extract_lets h warn x nw no nc s0 w c y s1
  have counted : Noted s s0 := Noted.setHlt s _
  have first : Noted s0 s1 ∧ s1.hlt = { s0.hlt with wet := w } :=
    condition_noted (s := s0) (w := w) (was := x.wet) { s0.hlt with wet := w } (fun t => humidEvent_noted t w 1) (fun e => by rw [e]; rfl)
  have second := condition_noted (s := s1) (w := c) (was := x.flooded) { s1.hlt with flooded := c } (fun t => humidEvent_noted t c 2)
    (fun e => by rw [e, first.2]; rfl)
  refine ⟨(counted.trans first.1).trans second.1, ?_, ?_, ?_⟩ <;> rw [second.2, first.2] <;> rfl

/-- Below both limits no humidity counts, and none is in force. -/
theorem humidJudge_dry (warn : s.nat R.HLT_HUMID < s.f F.HLT_HUMLIM_HUM_WARN) (crit : s.nat R.HLT_HUMID < s.f F.HLT_HUMLIM_HUM_CRIT)
    (wet : s.hlt.wet = false) (flooded : s.hlt.flooded = false) :
    ∃ n, humidJudge s = s.setHlt { s.hlt with humWarn := 0, humOk := n, humCrit := 0 } := by
  refine ⟨min (if s.nat R.HLT_HUMID + 50 < s.f F.HLT_HUMLIM_HUM_WARN then s.hlt.humOk + 1 else 0) 101, ?_⟩
  simp [humidJudge, Nat.not_le.mpr warn, Nat.not_le.mpr crit, wet, flooded]

/-! ### SENSOR_READ -/

theorem nat_humid {v : Sensors} (h : s.rd R.HLT_HUMID = v.humid.setWidth 32) : s.nat R.HLT_HUMID = v.humid.toNat := by
  rw [State.nat, h, BitVec.toNat_setWidth, Nat.mod_eq_of_lt (by omega)]

theorem Noted.outside (h : Noted s t) : RegsBut (fun a => a = R.HLT_STAT.addr ∨ ¬ hltRegs a) s t :=
  h.regs.mono fun _ => Or.imp_right fun e own => sys_not_event own.2 e

theorem setHlt_quiet {p : Nat → Prop} (s : State) (x : HltX) : quiet noHealth p s (s.setHlt x) := ⟨rfl, RegsBut.refl s⟩

/-- With no condition in force HLT_STAT shows none. -/
theorem hltShow_idle (idle : s.hlt.tempWarn = false ∧ s.hlt.tempCrit = false ∧ s.hlt.wet = false ∧ s.hlt.flooded = false)
    (supply : s.fb F.HLT_STAT_SUPPLY = false) (calm : s.fb F.HLT_STAT_CRIT = false) :
    (hltShow s).fb F.HLT_STAT_WARN = false ∧ (hltShow s).fb F.HLT_STAT_HUMID = false ∧ (hltShow s).fb F.HLT_STAT_CRIT = false ∧
      (hltShow s).hlt = s.hlt ∧ quiet noHealth (· = R.HLT_STAT.addr) s (hltShow s) := by
  obtain ⟨tw, tc, wet, flooded⟩ := idle
  have none : critNow s = false := by rw [critNow, tc, flooded, supply]; rfl
  rw [hltShow_calm none calm, warnShown_warn, warnShown_humid, tw, wet, flooded]
  exact ⟨rfl, rfl, (warnShown_beside s _ rfl (by decide) (by decide) (by decide)).trans calm, warnShown_hlt s,
    warnShown_quiet ⟨rfl, RegsBut.refl s⟩ rfl⟩

/-- A read below every limit (R526). -/
theorem sensorRead_calm (due : s.sys.powered = true) (ahead : stopsAhead s = s) (grid : s.tbNow % 100000000 = 0)
    (fresh : s.hlt.readTb ≠ some s.tbNow) {v : Sensors} (twelve : v.temp.length = 12) (cool : ∀ i < 12, reading v.temp i < 1200)
    (warn : v.humid.toNat < s.f F.HLT_HUMLIM_HUM_WARN) (crit : v.humid.toNat < s.f F.HLT_HUMLIM_HUM_CRIT)
    (tw : s.hlt.tempWarn = false) (tc : s.hlt.tempCrit = false) (wet : s.hlt.wet = false) (flooded : s.hlt.flooded = false)
    (supply : s.fb F.HLT_STAT_SUPPLY = false) (calm : s.fb F.HLT_STAT_CRIT = false) : runsTo (.sensorRead v) s fun t =>
      Shown v s.tbNow t ∧ t.fb F.HLT_STAT_WARN = false ∧ t.fb F.HLT_STAT_HUMID = false ∧ t.fb F.HLT_STAT_CRIT = false ∧
        t.hlt.humWarn = 0 ∧ t.hlt.humCrit = 0 ∧ quiet noHealth hltRegs s t := by
  refine ⟨_, sensorRead_runs due ahead grid fresh twelve, ?_⟩
  obtain ⟨reads, own⟩ := readShown_quiet v s
  have shown := readShown_shown v s twelve
  generalize readShown v s = r at reads own shown ⊢
  have limit (fl : Fld) (reg : fl.reg = R.HLT_HUMLIM) : r.f fl = s.f fl := reads.2.f (by rw [reg]; exact fun h => h.2.2 rfl)
  have cold : r.fi F.HLT_TMAX_T < 1200 := lt_of_eq_of_lt shown.max.of.symm (cool _ (twelve ▸ shown.max.inside))
  have humid := nat_humid shown.humid
  obtain ⟨n, dry⟩ := humidJudge_dry (s := r) (by rw [humid, limit _ rfl]; exact warn)
    (by rw [humid, limit _ rfl]; exact crit) (by rw [own]; exact wet) (by rw [own]; exact flooded)
  rw [tempJudge_cool cold (by rw [own]; exact tw) (by rw [own]; exact tc), dry]
  have fields : r.hlt.tempWarn = false ∧ r.hlt.tempCrit = false ∧ r.hlt.wet = false ∧ r.hlt.flooded = false := by
    rw [own]; exact ⟨tw, tc, wet, flooded⟩
  have whole : quiet noHealth hltRegs s r := ⟨reads.1, reads.2.mono fun _ h => h.1⟩
  have flags (fl : Fld) (reg : fl.reg = R.HLT_STAT) : r.fb fl = s.fb fl := reads.2.fb (by rw [reg]; exact fun h => h.2.1 rfl)
  obtain ⟨j, counted⟩ : ∃ j, j = r.setHlt { r.hlt with humWarn := 0, humOk := n, humCrit := 0 } := ⟨_, rfl⟩
  have judged : quiet noHealth hltRegs r j := by rw [counted]; exact setHlt_quiet r _
  have stays : RegsBut (fun _ => False) r j := by rw [counted]; exact (RegsBut.refl r).of_regs rfl
  have health : j.hlt = { r.hlt with humWarn := 0, humOk := n, humCrit := 0 } := by rw [counted]; rfl
  rw [← counted]
  obtain ⟨warnOff, humidOff, critOff, same, rest⟩ := hltShow_idle (s := j) (by rw [health]; exact fields)
    (((stays.fb id).trans (flags _ rfl)).trans supply) (((stays.fb id).trans (flags _ rfl)).trans calm)
  have own' := same.trans health
  refine ⟨(shown.keep (stays.mono fun _ => False.elim) (by rw [health])).keep (rest.2.mono fun _ => .inl)
    (congrArg HltX.readTb same), warnOff, humidOff, critOff, congrArg HltX.humWarn own', congrArg HltX.humCrit own', ?_⟩
  exact quiet_trans (quiet_trans whole judged) ⟨rest.1, rest.2.mono fun _ e => e ▸ hltStat_own⟩

/-- A read at 135.0 degrees or more: the critical fault is in force (R526, R531). -/
theorem sensorRead_hot (due : s.sys.powered = true) (ahead : stopsAhead s = s) (grid : s.tbNow % 100000000 = 0)
    (fresh : s.hlt.readTb ≠ some s.tbNow) {v : Sensors} (twelve : v.temp.length = 12) {i : Nat} (hi : i < 12)
    (hot : 1350 ≤ reading v.temp i) (calm : s.fb F.HLT_STAT_CRIT = false) (quietly : s.fb F.SYS_STAT_CRIT = false) :
    runsTo (.sensorRead v) s fun t => Shown v s.tbNow t ∧ t.hlt.tempWarn = true ∧ t.hlt.tempCrit = true ∧
      t.fb F.HLT_STAT_WARN = true ∧ t.fb F.HLT_STAT_CRIT = true ∧ Critical s t := by
  refine ⟨_, sensorRead_runs due ahead grid fresh twelve, ?_⟩
  obtain ⟨reads, own⟩ := readShown_quiet v s
  have shown := readShown_shown v s twelve
  generalize readShown v s = r at reads own shown ⊢
  have fevered : 1350 ≤ r.fi F.HLT_TMAX_T := hot.trans (shown.max.most i (twelve ▸ hi))
  obtain ⟨temp, temp'⟩ := tempJudge_hot fevered
  obtain ⟨damp, tw, tc, rt⟩ := humidJudge_noted (tempJudge r)
  have noted := temp.trans damp
  have warns : (humidJudge (tempJudge r)).hlt.tempWarn = true := by rw [tw, temp']
  have crits : (humidJudge (tempJudge r)).hlt.tempCrit = true := by rw [tc, temp']
  have read : (humidJudge (tempJudge r)).hlt.readTb = r.hlt.readTb := by rw [rt, temp']
  generalize humidJudge (tempJudge r) = j at noted warns crits read ⊢
  have still : j.fb F.HLT_STAT_CRIT = false :=
    (noted.crit.trans (reads.2.fb fun h => h.2.1 rfl)).trans calm
  have out (fl : Fld) (reg : fl.reg = R.SYS_STAT ∨ fl.reg = R.SYS_MODE) : ¬ hltRegs fl.reg.addr ∧ fl.reg.addr < 0x10020000 := by
    rcases reg with e | e <;> rw [e] <;> simp [hltRegs, RegDesc.addr, R.SYS_STAT, R.SYS_MODE]
  have sys (fl : Fld) (reg : fl.reg = R.SYS_STAT ∨ fl.reg = R.SYS_MODE) : j.f fl = s.f fl :=
    (noted.regs.f fun h => h.elim (fun e => (out fl reg).1 (e ▸ hltStat_own)) (sys_not_event (out fl reg).2)).trans
      (reads.2.f fun h => (out fl reg).1 h.1)
  have calmly : j.fb F.SYS_STAT_CRIT = false := by
    simp only [State.fb, sys F.SYS_STAT_CRIT (.inl rfl)]
    exact quietly
  have alarm := hltShow_alarmed (s := j) (by rw [critNow, crits]; rfl) still calmly
  refine ⟨(shown.keep noted.outside read).keep alarm.regs (congrArg HltX.readTb alarm.own), ?_, ?_, ?_, alarm.flag,
    alarm.acts.of_mode (sys F.SYS_MODE_MODE (.inr rfl))⟩
  · rw [alarm.own, warns]
  · rw [alarm.own, crits]
  · rw [alarm.flags F.HLT_STAT_WARN rfl (by decide) (by decide), warnShown_warn, warns]
    rfl

end
end Sys2Proof.Machine

/-! A pass of the scrubber (R519, R520). -/

namespace Sys2Proof.Machine

open Sys2Proof.Claims

section
variable {s t u : State}

/-- A state without what the monitor and the spares change. -/
def noSpares (s : State) : State := { s with regs := [], sto := {}, hlt := {} }

/-- The registers that count the scrubber's finds. -/
def scrubReg (a : Nat) : Prop := a = R.HLT_CORR.addr ∨ a = R.HLT_POISON.addr

/-- What the reading of a bead in error leaves. -/
structure Scrub (s t : State) : Prop where
  rest : noisy noSpares scrubReg s t
  sto : t.sto = s.sto
  ring : t.ringOn 19 = s.ringOn 19

theorem Scrub.refl (s : State) : Scrub s s := ⟨noisy_refl s, rfl, rfl⟩

theorem Scrub.trans (h : Scrub s t) (h' : Scrub t u) : Scrub s u :=
  ⟨noisy_trans h.rest h'.rest, h'.sto.trans h.sto, h'.ring.trans h.ring⟩

theorem Posts.sto (h : Posts s t) : t.sto = s.sto := by simpa only [State.apart] using congrArg State.sto h.1

/-! ### Reports with the health ring off -/

/-- The registers of a health event where CR19 takes no bead. -/
def unheardReg (a : Nat) : Prop := a = R.CRG_LOST.addr 19 ∨ a = R.STO_LOGLOST.addr ∨ a = R.STO_STAT.addr

theorem healthEvent_unheard (off : s.ringOn 19 = false) (idx pool code detail : Nat) (v : Word) :
    RegsBut unheardReg s (healthEvent s idx pool code detail v) ∧ (healthEvent s idx pool code detail v).beadErr = s.beadErr := by
  have posted (b : Bead) : RegsBut unheardReg s (ringPost s 19 b) ∧ (ringPost s 19 b).beadErr = s.beadErr := by
    unfold ringPost
    split
    · exact ⟨RegsBut.refl s, rfl⟩
    · split
      · next on => simp only [off, Bool.false_and, Bool.false_eq_true] at on
      · exact ⟨(RegsBut.refl s).wr (.inl rfl), rfl⟩
  have logged (t : State) (payload : List Word) :
      RegsBut unheardReg t (logRecord t 1 payload) ∧ (logRecord t 1 payload).beadErr = t.beadErr := by
    unfold logRecord
    split
    · exact ⟨(RegsBut.refl t).of_regs rfl, rfl⟩
    · exact ⟨((RegsBut.refl t).wr (.inr (.inl rfl))).setF (.inr (.inr rfl)), rfl⟩
  exact ⟨(posted _).1.trans (logged _ _).1, (logged _ _).2.trans (posted _).2⟩

theorem ringOn_of_regs {p : Nat → Prop} (h : RegsBut p s t) (pd : ¬ p R.SYS_PDSTAT.addr) (cfg : ¬ p (R.CRG_CFG.addr 19)) :
    t.ringOn 19 = s.ringOn 19 := by
  have domain : t.domOn 2 = s.domOn 2 := by simp only [State.domOn, h.rd pd]
  have enabled : t.fb F.CRG_CFG_EN 19 = s.fb F.CRG_CFG_EN 19 := h.fb cfg
  simp only [State.ringOn, domain, enabled]

/-- The scrubber reports bead `k` once. -/
def scrubReport (s : State) (k : Nat) : State :=
  if s.hlt.found.contains k then s else poisonEvent (s.setHlt { s.hlt with found := k :: s.hlt.found }) k 1

theorem scrubReport_reports (off : s.ringOn 19 = false) (k : Nat) : Scrub s (scrubReport s k) ∧
    RegsBut unheardReg s (scrubReport s k) ∧ (scrubReport s k).beadErr = s.beadErr := by
  unfold scrubReport
  split
  · exact ⟨Scrub.refl s, RegsBut.refl s, rfl⟩
  · have noted : noisy noSpares scrubReg s (s.setHlt { s.hlt with found := k :: s.hlt.found }) := ⟨rfl, RegsBut.refl s⟩
    have off' : (s.setHlt { s.hlt with found := k :: s.hlt.found }).ringOn 19 = false := off
    have told := poisonEvent_posts (s.setHlt { s.hlt with found := k :: s.hlt.found }) k 1
    have regs : RegsBut unheardReg s (poisonEvent (s.setHlt { s.hlt with found := k :: s.hlt.found }) k 1) :=
      ((RegsBut.refl s).of_regs rfl).trans (healthEvent_unheard off' _ _ _ _ _).1
    exact ⟨⟨noisy_trans noted (noisy_of_posts (fun _ => rfl) told), told.sto,
      ringOn_of_regs regs (by unfold unheardReg; decide) (by unfold unheardReg; decide)⟩, regs,
      (healthEvent_unheard off' _ _ _ _ _).2⟩

/-! ### One bead -/

/-- How many beads of the table are in error `e`. -/
def errCount (l : Tab BeadErr) (e : BeadErr) : Nat := (l.filter fun q => q.2 == e).length

/-- How many beads of section `sec` are in error `e`. -/
def secCount (l : Tab BeadErr) (sec : Nat) (e : BeadErr) : Nat :=
  (l.filter fun q => q.2 == e && q.1 < 524288 && q.1 / 4096 == sec).length

/-- The scrubber has read the beads of `l`. -/
structure Scrubbed (l : Tab BeadErr) (p p' : (Tab Nat × List Nat) × State) : Prop where
  state : Scrub p.2 p'.2
  errs : ∀ k, tabFind p'.2.beadErr k = match tabFind l k with
    | some .single => none
    | some _ => some .poisoned
    | none => tabFind p.2.beadErr k
  corr : p'.2.rd R.HLT_CORR = p.2.rd R.HLT_CORR + word (errCount l .single)
  poison : p'.2.rd R.HLT_POISON = p.2.rd R.HLT_POISON + word (errCount l .double)
  one : ∀ sec, tabGet 0 p'.1.1 sec = tabGet 0 p.1.1 sec + secCount l sec .single
  two : ∀ sec, p'.1.2.contains sec = (p.1.2.contains sec || decide (0 < secCount l sec .double))

theorem tabFind_one {α : Type} (k k' : Nat) (v : α) : tabFind [(k, v)] k' = if k = k' then some v else none := rfl

theorem secCount_one (k sec : Nat) (e e' : BeadErr) :
    secCount [(k, e)] sec e' = if e = e' ∧ k < 524288 ∧ k / 4096 = sec then 1 else 0 := by
  simp only [secCount, List.filter_cons, List.filter_nil, Bool.and_eq_true, beq_iff_eq, decide_eq_true_eq, and_assoc]
  split <;> rfl

theorem errCount_one (k : Nat) (e e' : BeadErr) : errCount [(k, e)] e' = if e = e' then 1 else 0 := by
  simp only [errCount, List.filter_cons, List.filter_nil, beq_iff_eq]
  split <;> rfl

theorem unheard_counts {d : RegDesc} (h : RegsBut unheardReg s t) (hd : d = R.HLT_CORR ∨ d = R.HLT_POISON) : t.rd d = s.rd d := by
  rcases hd with rfl | rfl
  · exact h.rd (by unfold unheardReg; decide)
  · exact h.rd (by unfold unheardReg; decide)

theorem scrubBead_single (p : Tab Nat × List Nat) {k : Nat} (h : tabFind s.beadErr k = some .single) :
    scrubBead (p, s) (k, .single) =
      ((if k < 524288 then tabPut p.1 (k / 4096) (tabGet 0 p.1 (k / 4096) + 1) else p.1, p.2),
        { s with beadErr := tabDrop s.beadErr k }.addR R.HLT_CORR 1) := by
  simp [scrubBead, h]

theorem scrubBead_double (p : Tab Nat × List Nat) {k : Nat} (h : tabFind s.beadErr k = some .double) :
    scrubBead (p, s) (k, .double) =
      ((p.1, if k < 524288 then (k / 4096) :: p.2 else p.2), scrubReport (poisonBead s k) k) := by
  simp [scrubBead, h, scrubReport]

theorem scrubBead_poisoned (p : Tab Nat × List Nat) {k : Nat} (h : tabFind s.beadErr k = some .poisoned) :
    scrubBead (p, s) (k, .poisoned) = (p, scrubReport s k) := by
  simp [scrubBead, h, scrubReport]

/-- A find is counted in HLT_CORR or HLT_POISON. -/
theorem scrub_counts (s : State) (e : Tab BeadErr) (x : HltX) {d : RegDesc} (hd : d = R.HLT_CORR ∨ d = R.HLT_POISON) :
    Scrub s ({ s with beadErr := e, hlt := x }.addR d 1) := by
  have regs : RegsBut scrubReg s ({ s with beadErr := e, hlt := x }.addR d 1) := by
    refine (RegsBut.refl s).wr ?_
    rcases hd with rfl | rfl
    · exact .inl rfl
    · exact .inr rfl
  exact ⟨⟨rfl, regs.mono fun _ => .inl⟩, rfl, ringOn_of_regs regs (by unfold scrubReg; decide) (by unfold scrubReg; decide)⟩

theorem scrubbed_one (p : Tab Nat × List Nat) (q : Nat × BeadErr) (h : tabFind s.beadErr q.1 = some q.2)
    (quietly : s.ringOn 19 = true → q.2 = .single) : Scrubbed [q] (p, s) (scrubBead (p, s) q) := by
  obtain ⟨k, e⟩ := q
  have muted (ne : e ≠ .single) : s.ringOn 19 = false := by
    by_contra on
    exact ne (quietly (Bool.eq_true_of_not_eq_false on))
  cases e with
  | single =>
    rw [scrubBead_single p h]
    refine ⟨scrub_counts s _ s.hlt (.inl rfl), fun k' => ?_, ?_, ?_, fun sec => ?_, fun sec => ?_⟩
    · rw [tabFind_one]
      show tabFind (tabDrop s.beadErr k) k' = _
      rw [tabFind_tabDrop]
      by_cases same : k = k' <;> simp [same, eq_comm]
    · exact State.rd_wr_same ..
    · rw [errCount_one]
      exact (State.rd_wr_ne { s with beadErr := tabDrop s.beadErr k } (by decide)).trans (BitVec.add_zero _).symm
    · rw [secCount_one]
      by_cases low : k < 524288
      · rw [if_pos low, tabGet_tabPut]
        by_cases same : k / 4096 = sec <;> simp [same, low]
      · simp [low]
    · simp [secCount_one]
  | double =>
    rw [scrubBead_double p h]
    have off := muted nofun
    have poisoned : Scrub s (poisonBead s k) := scrub_counts s _ _ (.inr rfl)
    obtain ⟨reported, regs, errs⟩ := scrubReport_reports (poisoned.ring.trans off) k
    refine ⟨poisoned.trans reported, fun k' => ?_, ?_, ?_, fun sec => ?_, fun sec => ?_⟩
    · rw [tabFind_one]
      show tabFind (scrubReport (poisonBead s k) k).beadErr k' = _
      rw [errs]
      show tabFind (tabPut s.beadErr k .poisoned) k' = _
      rw [tabFind_tabPut]
      by_cases same : k = k' <;> simp [same]
    · rw [errCount_one]
      exact ((unheard_counts regs (.inl rfl)).trans (State.rd_wr_ne _ (by decide))).trans (BitVec.add_zero (s.rd R.HLT_CORR)).symm
    · exact (unheard_counts regs (.inr rfl)).trans (State.rd_wr_same ..)
    · simp [secCount_one]
    · rw [secCount_one]
      by_cases low : k < 524288
      · by_cases same : k / 4096 = sec
        · simp [same, low]
        · simp [same, low, Ne.symm same]
      · simp [low]
  | poisoned =>
    rw [scrubBead_poisoned p h]
    obtain ⟨reported, regs, errs⟩ := scrubReport_reports (muted nofun) k
    refine ⟨reported, fun k' => ?_, ?_, ?_, fun sec => ?_, fun sec => ?_⟩
    · rw [tabFind_one]
      show tabFind (scrubReport s k).beadErr k' = _
      rw [errs]
      by_cases same : k = k'
      · subst same; simp [h]
      · simp [same]
    · exact (unheard_counts regs (.inl rfl)).trans (by simp [errCount_one, word])
    · exact (unheard_counts regs (.inr rfl)).trans (by simp [errCount_one, word])
    · simp [secCount_one]
    · simp [secCount_one]

/-! ### The beads in a row -/

theorem errCount_cons (q : Nat × BeadErr) (l : Tab BeadErr) (e : BeadErr) : errCount (q :: l) e = errCount [q] e + errCount l e := by
  simp only [errCount, List.filter_cons, List.filter_nil]
  split <;> simp [Nat.add_comm]

theorem secCount_cons (q : Nat × BeadErr) (l : Tab BeadErr) (sec : Nat) (e : BeadErr) :
    secCount (q :: l) sec e = secCount [q] sec e + secCount l sec e := by
  simp only [secCount, List.filter_cons, List.filter_nil]
  split <;> simp [Nat.add_comm]

theorem tabFind_none {α : Type} {l : Tab α} {k : Nat} (h : k ∉ l.map Prod.fst) : tabFind l k = none := by
  induction l with
  | nil => rfl
  | cons q l ih =>
    obtain ⟨k', v⟩ := q
    simp only [List.map_cons, List.mem_cons, not_or] at h
    rw [tabFind, if_neg (Ne.symm h.1), ih h.2]

theorem tabFind_of_mem {α : Type} {l : Tab α} (once : (l.map Prod.fst).Nodup) {q : Nat × α} (h : q ∈ l) : tabFind l q.1 = some q.2 := by
  induction l with
  | nil => exact absurd h List.not_mem_nil
  | cons w l ih =>
    obtain ⟨k, v⟩ := w
    rw [List.map_cons, List.nodup_cons] at once
    rw [tabFind]
    rcases List.mem_cons.mp h with rfl | later
    · exact if_pos rfl
    · have apart : k ≠ q.1 := fun e => once.1 (List.mem_map.mpr ⟨q, later, e.symm⟩)
      rw [if_neg apart, ih once.2 later]

theorem Scrubbed.cons {q : Nat × BeadErr} {l : Tab BeadErr} {p p' p'' : (Tab Nat × List Nat) × State} (first : Scrubbed [q] p p')
    (others : Scrubbed l p' p'') (once : q.1 ∉ l.map Prod.fst) : Scrubbed (q :: l) p p'' := by
  obtain ⟨k, e⟩ := q
  refine ⟨first.state.trans others.state, fun k' => ?_, ?_, ?_, fun sec => ?_, fun sec => ?_⟩
  · rw [others.errs, tabFind]
    by_cases same : k = k'
    · subst same
      rw [tabFind_none once, if_pos rfl]
      simpa [tabFind_one] using first.errs k
    · have kept : tabFind p'.2.beadErr k' = tabFind p.2.beadErr k' := by
        rw [first.errs, tabFind_one, if_neg same]
      rw [if_neg same, kept]
  · rw [others.corr, first.corr, errCount_cons (k, e) l]
    simp only [word, BitVec.ofNat_add, BitVec.add_assoc]
  · rw [others.poison, first.poison, errCount_cons (k, e) l]
    simp only [word, BitVec.ofNat_add, BitVec.add_assoc]
  · rw [others.one, first.one, secCount_cons (k, e) l, Nat.add_assoc]
  · rw [others.two, first.two, secCount_cons (k, e) l, Bool.or_assoc, ← Bool.decide_or]
    congr 2
    simp only [eq_iff_iff]
    omega

theorem scrubbed_foldl (l : Tab BeadErr) (p : Tab Nat × List Nat) (s : State) (once : (l.map Prod.fst).Nodup)
    (held : ∀ q ∈ l, tabFind s.beadErr q.1 = some q.2) (quietly : s.ringOn 19 = true → ∀ q ∈ l, q.2 = .single) :
    Scrubbed l (p, s) (l.foldl scrubBead (p, s)) := by
  induction l generalizing p s with
  | nil => exact ⟨Scrub.refl s, fun _ => rfl, by simp [errCount, word], by simp [errCount, word], fun _ => rfl, fun _ => by simp [secCount]⟩
  | cons q l ih =>
    rw [List.map_cons, List.nodup_cons] at once
    have first := scrubbed_one p q (held q List.mem_cons_self) fun on => quietly on q List.mem_cons_self
    rw [List.foldl_cons]
    generalize scrubBead (p, s) q = p' at first ⊢
    obtain ⟨p', s'⟩ := p'
    refine first.cons (ih p' s' once.2 (fun w hw => ?_) fun on w hw => ?_) once.1
    · have apart : q.1 ≠ w.1 := fun e => once.1 (e ▸ List.mem_map_of_mem hw)
      have kept := first.errs w.1
      rw [show tabFind [q] w.1 = none from if_neg apart] at kept
      exact kept.trans (held w (List.mem_cons_of_mem q hw))
    · exact quietly (first.state.ring ▸ on) w (List.mem_cons_of_mem q hw)

end
end Sys2Proof.Machine

namespace Sys2Proof.Machine

open Sys2Proof.Claims

section
variable {s t u : State}

/-! ### Sections that fail -/

/-- Section `sec` is failed at the end of a pass. -/
def failStep (one : Tab Nat) (two : List Nat) (s : State) (sec : Nat) : State :=
  if s.f F.HLT_SCRUB_SECT_TH ≤ tabGet 0 one sec ∨ two.contains sec then sectionFail s sec (tabGet 0 one sec) else s

theorem sectionFail_sto (s : State) (sec n : Nat) : ∃ x, sectionFail s sec n = { s with sto := x } := by
  unfold sectionFail
  split
  · exact ⟨s.sto, rfl⟩
  · exact ⟨_, rfl⟩

theorem failStep_sto (one : Tab Nat) (two : List Nat) (s : State) (sec : Nat) : ∃ x, failStep one two s sec = { s with sto := x } := by
  unfold failStep
  split
  · exact sectionFail_sto ..
  · exact ⟨s.sto, rfl⟩

/-- The sections that fail leave everything but the store's own. -/
theorem failAll_sto (one : Tab Nat) (two : List Nat) (s : State) : ∃ x, foldN 128 (failStep one two) s = { s with sto := x } := by
  refine foldN_keeps (P := fun t => ∃ x, t = { s with sto := x }) 128 (fun t sec _ ⟨x, e⟩ => ?_) s ⟨s.sto, rfl⟩
  subst e
  obtain ⟨y, e⟩ := failStep_sto one two { s with sto := x } sec
  exact ⟨y, e⟩

/-- A section fails by its singles or by a double error. -/
def sectBad (one : Tab Nat) (two : List Nat) (th sec : Nat) : Prop := th ≤ tabGet 0 one sec ∨ two.contains sec = true

theorem failStep_good {one : Tab Nat} {two : List Nat} {sec : Nat} (good : ¬ sectBad one two (s.f F.HLT_SCRUB_SECT_TH) sec) :
    failStep one two s sec = s := if_neg good

/-- Where no section fails, nothing is copied. -/
theorem failAll_none {one : Tab Nat} {two : List Nat} (good : ∀ sec < 128, ¬ sectBad one two (s.f F.HLT_SCRUB_SECT_TH) sec) :
    foldN 128 (failStep one two) s = s :=
  foldN_keeps (P := fun t => t = s) 128 (fun _ k hk e => by rw [e]; exact failStep_good (good k hk)) s rfl

/-- One failed section starts its copy to the next spare. -/
theorem failAll_one {one : Tab Nat} {two : List Nat} {sec : Nat} (hs : sec < 128) (bad : sectBad one two (s.f F.HLT_SCRUB_SECT_TH) sec)
    (only : ∀ m, m ≠ sec → ¬ sectBad one two (s.f F.HLT_SCRUB_SECT_TH) m) (left : 0 < spareSections s)
    (idle : tabFind s.sto.secCopy sec = none) :
    tabFind (foldN 128 (failStep one two) s).sto.secCopy sec = some (8 - spareSections s, tabGet 0 one sec) := by
  have fails : failStep one two s sec =
      { s with sto := { s.sto with secCopy := tabPut s.sto.secCopy sec (8 - spareSections s, tabGet 0 one sec) } } := by
    refine (if_pos bad).trans ?_
    rw [sectionFail, if_neg]
    simp [idle, Nat.ne_of_gt left]
  have others : ∀ m, m ≠ sec → failStep one two { s with sto := { s.sto with
      secCopy := tabPut s.sto.secCopy sec (8 - spareSections s, tabGet 0 one sec) } } m =
        { s with sto := { s.sto with secCopy := tabPut s.sto.secCopy sec (8 - spareSections s, tabGet 0 one sec) } } :=
    fun m hm => failStep_good (only m hm)
  rw [foldN_one hs fails (fun m hm => failStep_good (only m hm)) others]
  exact tabFind_tabPut_same ..

/-! ### The pass -/

/-- What the pass shows of its counts before it judges the sections. -/
def passShown (others : Nat) (was : Word) (s : State) : State :=
  let s := s.addR R.HLT_CORR others
  (s.setF F.HLT_SCRUBST_PASSES (s.f F.HLT_SCRUBST_PASSES + 1)).setF F.HLT_SCRUBST_CORR (min 65535 (s.rd R.HLT_CORR - was).toNat)

theorem passShown_shows (others : Nat) (was : Word) (s : State) :
    (passShown others was s).rd R.HLT_CORR = s.rd R.HLT_CORR + word others ∧
      (passShown others was s).f F.HLT_SCRUBST_PASSES = (s.f F.HLT_SCRUBST_PASSES + 1) % 65536 ∧
      RegsBut (fun a => a = R.HLT_CORR.addr ∨ a = R.HLT_SCRUBST.addr) s (passShown others was s) := by
  have passes : (s.addR R.HLT_CORR others).f F.HLT_SCRUBST_PASSES = s.f F.HLT_SCRUBST_PASSES := State.f_wr_ne s (by decide)
  have corr : (s.addR R.HLT_CORR others).rd R.HLT_CORR = s.rd R.HLT_CORR + word others := State.rd_wr_same ..
  have regs : RegsBut (fun a => a = R.HLT_CORR.addr ∨ a = R.HLT_SCRUBST.addr) s (s.addR R.HLT_CORR others) := (RegsBut.refl s).wr (.inl rfl)
  unfold passShown
  dsimp only
  generalize s.addR R.HLT_CORR others = t at passes corr regs ⊢
  rw [passes]
  refine ⟨((State.rd_setF_ne _ (by decide)).trans (State.rd_setF_ne _ (by decide))).trans corr, ?_, (regs.setF (.inr rfl)).setF (.inr rfl)⟩
  rw [State.f_setF_beside _ (fl := F.HLT_SCRUBST_CORR) (fl' := F.HLT_SCRUBST_PASSES) _ 0 0 rfl (by decide) (by decide) (by decide)]
  exact State.f_setF_same t F.HLT_SCRUBST_PASSES _ 0 0 (by decide) (by decide)

theorem noSpares_setF (s : State) (fl : Fld) (v : Nat) : (noSpares (s.setF fl v)).apart = (noSpares s).apart := rfl

theorem passShown_noisy (others : Nat) (was : Word) (s : State) : noisy noSpares hltRegs s (passShown others was s) := by
  have own : ∀ a, a = R.HLT_CORR.addr ∨ a = R.HLT_SCRUBST.addr → hltRegs a := by
    rintro a (rfl | rfl) <;> simp [hltRegs, RegDesc.addr, R.HLT_CORR, R.HLT_SCRUBST]
  have added : noisy noSpares hltRegs s (s.addR R.HLT_CORR others) := ⟨rfl, (RegsBut.refl s).wr (.inl (own _ (.inl rfl)))⟩
  unfold passShown
  exact noisy_setF (noSpares_setF ..) (noisy_setF (noSpares_setF ..) added (own _ (.inr rfl))) (own _ (.inr rfl))

theorem passShown_sto (others : Nat) (was : Word) (s : State) : (passShown others was s).sto = s.sto := rfl

theorem passShown_errs (others : Nat) (was : Word) (s : State) : (passShown others was s).beadErr = s.beadErr := rfl

/-- The pass over the beads in error, and the sections that fail by it. -/
def scrubResult (others : Nat) (s : State) : State :=
  let p := s.beadErr.foldl scrubBead (([], []), s)
  let t := foldN 128 (failStep p.1.1 p.1.2) (passShown others (s.rd R.HLT_CORR) p.2)
  { t with hlt := { t.hlt with scrubAt := t.elapsed } }

theorem scrubPass_runs (others : BitVec 16) (on : s.domOn 2 = true)
    (due : s.hlt.scrubAt + s.f F.HLT_SCRUB_SCRUB_S * 1000000000 ≤ s.elapsed) :
    exec (.scrubPass [] others) s = .next (scrubResult others.toNat s) := by
  show execScrubPass [] others s = _
  unfold execScrubPass
  refine congrArg Host.Outcome.next ((if_pos ⟨on, due⟩).trans ?_)
  unfold scrubResult passShown failStep
  rfl

end
end Sys2Proof.Machine

namespace Sys2Proof.Machine

open Sys2Proof.Claims

section
variable {s t u : State}

/-- The counts of the pass as the claims write them. -/
theorem secCount_bad {l : Tab BeadErr} {one : Tab Nat} {two : List Nat} {th sec : Nat} (h1 : tabGet 0 one sec = secCount l sec .single)
    (h2 : two.contains sec = decide (0 < secCount l sec .double)) :
    sectBad one two th sec ↔ th ≤ secCount l sec .single ∨ 0 < secCount l sec .double := by
  rw [sectBad, h1, h2, decide_eq_true_iff]

theorem secCount_high {l : Tab BeadErr} {sec : Nat} (h : 128 ≤ sec) (e : BeadErr) : secCount l sec e = 0 := by
  simp only [secCount, List.length_eq_zero_iff, List.filter_eq_nil_iff, Bool.and_eq_true, decide_eq_true_eq, beq_iff_eq]
  intro q _ ⟨⟨_, low⟩, e⟩
  omega

theorem noSpares_elapsed {p : Nat → Prop} (h : noisy noSpares p s t) : t.elapsed = s.elapsed := by
  simpa only [State.apart, noSpares] using congrArg State.elapsed h.1

/-- A pass of the scrubber that met no upset (R519, R520). -/
theorem scrubPass_scrubs (others : BitVec 16) (on : s.domOn 2 = true)
    (due : s.hlt.scrubAt + s.f F.HLT_SCRUB_SCRUB_S * 1000000000 ≤ s.elapsed) (once : (s.beadErr.map Prod.fst).Nodup)
    (quietly : s.ringOn 19 = true → ∀ q ∈ s.beadErr, q.2 = .single) :
    runsTo (.scrubPass [] others) s fun t =>
      (∀ k, tabFind t.beadErr k = match tabFind s.beadErr k with
        | some .double => some .poisoned
        | some .poisoned => some .poisoned
        | _ => none) ∧
        t.rd R.HLT_CORR = s.rd R.HLT_CORR + word (errCount s.beadErr .single + others.toNat) ∧
        t.rd R.HLT_POISON = s.rd R.HLT_POISON + word (errCount s.beadErr .double) ∧ t.hlt.scrubAt = s.elapsed ∧
        t.f F.HLT_SCRUBST_PASSES = (s.f F.HLT_SCRUBST_PASSES + 1) % 65536 ∧
        (∀ sec, sec < 128 → s.f F.HLT_SCRUB_SECT_TH ≤ secCount s.beadErr sec .single ∨ 0 < secCount s.beadErr sec .double →
          (∀ m, m < 128 → m ≠ sec → ¬ (s.f F.HLT_SCRUB_SECT_TH ≤ secCount s.beadErr m .single ∨ 0 < secCount s.beadErr m .double)) →
          0 < spareSections s → tabFind s.sto.secCopy sec = none →
          tabFind t.sto.secCopy sec = some (8 - spareSections s, secCount s.beadErr sec .single)) ∧
        ((∀ sec, sec < 128 →
          ¬ (s.f F.HLT_SCRUB_SECT_TH ≤ secCount s.beadErr sec .single ∨ 0 < secCount s.beadErr sec .double)) → t.sto = s.sto) ∧
        noisy noSpares hltRegs s t := by
  refine ⟨_, scrubPass_runs others on due, ?_⟩
  have pass := scrubbed_foldl s.beadErr ([], []) s once (fun q hq => tabFind_of_mem once hq) quietly
  unfold scrubResult
  dsimp only
  generalize s.beadErr.foldl scrubBead (([], []), s) = p at pass ⊢
  obtain ⟨⟨one, two⟩, r⟩ := p
  obtain ⟨⟨rest, sto, -⟩, errs, corr, poison, ones, twos⟩ := pass
  dsimp only at rest sto errs corr poison ones twos ⊢
  have singles (sec : Nat) : tabGet 0 one sec = secCount s.beadErr sec .single := (ones sec).trans (Nat.zero_add _)
  have doubles (sec : Nat) : two.contains sec = decide (0 < secCount s.beadErr sec .double) := (twos sec).trans (Bool.false_or _)
  obtain ⟨corr', passes, shownRegs⟩ := passShown_shows others.toNat (s.rd R.HLT_CORR) r
  have shown := noisy_trans (noisy_mono rest (q := hltRegs) fun a h => by
    rcases h with rfl | rfl <;> simp [hltRegs, RegDesc.addr, R.HLT_CORR, R.HLT_POISON]) (passShown_noisy others.toNat (s.rd R.HLT_CORR) r)
  have stored : (passShown others.toNat (s.rd R.HLT_CORR) r).sto = s.sto := (passShown_sto ..).trans sto
  have errs' := congrArg (fun e => tabFind e) (passShown_errs others.toNat (s.rd R.HLT_CORR) r)
  have poison' : (passShown others.toNat (s.rd R.HLT_CORR) r).rd R.HLT_POISON = r.rd R.HLT_POISON := shownRegs.rd (by decide)
  have kept (fl : Fld) (h : fl.reg = R.HLT_SCRUB ∨ fl.reg = R.HLT_SCRUBST) : r.f fl = s.f fl :=
    rest.2.f (by rcases h with h | h <;> rw [h] <;> unfold scrubReg <;> exact fun e => e.elim (by decide) (sys_not_event (by decide)))
  have th : (passShown others.toNat (s.rd R.HLT_CORR) r).f F.HLT_SCRUB_SECT_TH = s.f F.HLT_SCRUB_SECT_TH :=
    (shownRegs.f (by decide)).trans (kept _ (.inl rfl))
  rw [kept _ (.inr rfl)] at passes
  generalize passShown others.toNat (s.rd R.HLT_CORR) r = w at corr' passes shown stored errs' poison' th ⊢
  have judged (sec : Nat) : sectBad one two (w.f F.HLT_SCRUB_SECT_TH) sec ↔
      s.f F.HLT_SCRUB_SECT_TH ≤ secCount s.beadErr sec .single ∨ 0 < secCount s.beadErr sec .double := by
    rw [th, secCount_bad (singles sec) (doubles sec)]
  have elapsed : w.elapsed = s.elapsed := noSpares_elapsed shown
  have spares : spareSections w = spareSections s := by simp only [spareSections, stored]
  have copies (sec : Nat) (hs : sec < 128) (bad : s.f F.HLT_SCRUB_SECT_TH ≤ secCount s.beadErr sec .single ∨ 0 < secCount s.beadErr sec .double)
      (only : ∀ m, m < 128 → m ≠ sec →
        ¬ (s.f F.HLT_SCRUB_SECT_TH ≤ secCount s.beadErr m .single ∨ 0 < secCount s.beadErr m .double))
      (left : 0 < spareSections s) (idle : tabFind s.sto.secCopy sec = none) :
      tabFind (foldN 128 (failStep one two) w).sto.secCopy sec = some (8 - spareSections s, secCount s.beadErr sec .single) := by
    have alone (m : Nat) (hm : m ≠ sec) : ¬ sectBad one two (w.f F.HLT_SCRUB_SECT_TH) m := by
      rw [judged]
      rcases Nat.lt_or_ge m 128 with low | high
      · exact only m low hm
      · have limit := only (if sec = 0 then 1 else 0) (by split <;> omega) (by split <;> omega)
        rw [secCount_high high, secCount_high high]
        omega
    rw [failAll_one hs ((judged sec).mpr bad) alone (spares ▸ left) (by rw [stored]; exact idle), spares, singles]
  obtain ⟨x, failed⟩ := failAll_sto one two w
  have none (good : ∀ sec, sec < 128 →
      ¬ (s.f F.HLT_SCRUB_SECT_TH ≤ secCount s.beadErr sec .single ∨ 0 < secCount s.beadErr sec .double)) :
      (foldN 128 (failStep one two) w).sto = s.sto := by
    rw [failAll_none fun sec hs => fun bad => good sec hs ((judged sec).mp bad)]
    exact stored
  generalize foldN 128 (failStep one two) w = z at copies failed none ⊢
  subst failed
  refine ⟨fun k => ?_, ?_, poison'.trans poison, elapsed, passes, copies, none, noisy_trans shown ⟨rfl, (RegsBut.refl w).of_regs rfl⟩⟩
  · refine ((congrFun errs' k).trans (errs k)).trans ?_
    rcases tabFind s.beadErr k with _ | e
    · rfl
    · cases e <;> rfl
  · refine corr'.trans ?_
    rw [corr]
    simp only [word, BitVec.ofNat_add, BitVec.add_assoc]

/-! ### Spares (R513, R520, R521, R525) -/

/-- What is behind the store's own that an update of the pools leaves. -/
structure Pooled (s t : State) : Prop where
  rest : noisy noStore hltRegs s t
  umap : t.sto.umap = s.sto.umap
  copies : t.sto.secCopy = s.sto.secCopy
  hlt : t.hlt = s.hlt

namespace Pooled

theorem refl (s : State) : Pooled s s := ⟨noisy_refl s, rfl, rfl, rfl⟩

theorem trans (h : Pooled s t) (h' : Pooled t u) : Pooled s u :=
  ⟨noisy_trans h.rest h'.rest, h'.umap.trans h.umap, h'.copies.trans h.copies, h'.hlt.trans h.hlt⟩

theorem setF (h : Pooled s t) {fl : Fld} {v : Nat} (own : hltRegs fl.reg.addr) : Pooled s (t.setF fl v) :=
  ⟨noisy_setF rfl h.rest own, h.umap, h.copies, h.hlt⟩

theorem told (h : Pooled s t) (idx pool code detail : Nat) (v : Word) : Pooled s (healthEvent t idx pool code detail v) := by
  have posts := healthEvent_posts t idx pool code detail v
  exact ⟨noisy_trans h.rest (noisy_of_posts (fun _ => rfl) posts), by rw [posts.sto]; exact h.umap, by rw [posts.sto]; exact h.copies,
    posts.hlt.trans h.hlt⟩

theorem exhausted (h : Pooled s t) (x : List Nat) : Pooled s { t with sto := { t.sto with exhausted := x } } :=
  ⟨noisy_trans h.rest ⟨rfl, RegsBut.refl t⟩, h.umap, h.copies, h.hlt⟩

theorem foldl {α : Type} {f : State → α → State} (l : List α) (h : Pooled s t) (hf : ∀ u a, Pooled s u → Pooled s (f u a)) :
    Pooled s (l.foldl f t) := by
  induction l generalizing t with
  | nil => exact h
  | cons a l ih => exact ih (hf t a h)

end Pooled

theorem pools_own : hltRegs R.HLT_POOLS.addr := by simp [hltRegs, RegDesc.addr, R.HLT_POOLS]

theorem poolsUpdate_pooled (s : State) : Pooled s (poolsUpdate s) := by
  unfold poolsUpdate
  extract_lets
  exact (Pooled.foldl _ ((((((Pooled.refl s).setF pools_own).setF pools_own).setF pools_own).setF pools_own).setF pools_own |>.setF hltStat_own)
    fun u a h => h.told ..).exhausted _

end
end Sys2Proof.Machine

namespace Sys2Proof.Machine

open Sys2Proof.Claims

section
variable {s t u : State}

/-- The copy of a section has ended: it goes to its spare for good (R521). -/
theorem sectionRemapDone_maps {sec : Fin 128} {spare singles : Nat} (copied : tabFind s.sto.secCopy sec.val = some (spare, singles)) :
    runsTo (.sectionRemapDone sec) s fun t =>
      t.sto.umap = { s.sto.umap with sections := (sec.val, spare) :: s.sto.umap.sections } ∧
        t.sto.secCopy = tabDrop s.sto.secCopy sec.val ∧ noisy noStore hltRegs s t := by
  let mapped := (s.setSto { s.sto with secCopy := tabDrop s.sto.secCopy sec.val }).setMap
    { s.sto.umap with sections := (sec.val, spare) :: s.sto.umap.sections }
  have runs : exec (.sectionRemapDone sec) s = .next (poolsUpdate (healthEvent mapped sec.val 5 0xF7 spare (word singles))) := by
    show execSectionRemapDone sec s = _
    simp only [execSectionRemapDone, copied]
    rfl
  have pooled := ((Pooled.refl mapped).told sec.val 5 0xF7 spare (word singles)).trans (poolsUpdate_pooled _)
  have started : noisy noStore hltRegs s mapped := ⟨rfl, RegsBut.refl s⟩
  exact ⟨_, runs, pooled.umap, pooled.copies, noisy_trans started pooled.rest⟩

theorem noSpares_of_noStore {p : Nat → Prop} (h : noisy noStore p s t) : noisy noSpares p s t :=
  ⟨congrArg (fun u : State => { u with hlt := {} }) h.1, h.2⟩

theorem testAt_noted (s : State) (x : HltX) : noisy noSpares hltRegs s (s.setHlt x) := ⟨rfl, RegsBut.refl s⟩

theorem setMap_noted (s : State) (u : UnitMap) : noisy noSpares hltRegs s (s.setMap u) := ⟨rfl, RegsBut.refl s⟩

theorem setMap_umap (s : State) (u : UnitMap) : (s.setMap u).sto.umap = u := rfl

theorem setMap_hlt (s : State) (u : UnitMap) : (s.setMap u).hlt = s.hlt := rfl

theorem spareRods_healthy {p : Nat} (h : p ∈ spareRods s) : s.sto.umap.rods.contains p = false := by
  simp only [spareRods, List.mem_filter, Bool.and_eq_true, Bool.not_eq_true'] at h
  exact h.2.1.1

theorem testDue (h : ∀ t, s.hlt.testAt = some t → t + 1000000000 ≤ s.elapsed) :
    (s.hlt.testAt.all fun t => decide (t + 1000000000 ≤ s.elapsed)) = true := by
  simp only [Option.all_eq_true, decide_eq_true_eq]
  exact h

/-- A unit of the spares fails its test: it enters the unit map, and the event and the pools follow. -/
theorem spareRetired (at' : HltX) (m : UnitMap) (idx pool code detail : Nat) (v : Word) :
    (poolsUpdate (healthEvent ((s.setHlt at').setMap m) idx pool code detail v)).sto.umap = m ∧
      (poolsUpdate (healthEvent ((s.setHlt at').setMap m) idx pool code detail v)).hlt = at' ∧
      noisy noSpares hltRegs s (poolsUpdate (healthEvent ((s.setHlt at').setMap m) idx pool code detail v)) := by
  have mapped := noisy_trans (testAt_noted s at') (setMap_noted (s.setHlt at') m)
  have umap := setMap_umap (s.setHlt at') m
  have health : ((s.setHlt at').setMap m).hlt = at' := setMap_hlt (s.setHlt at') m
  generalize (s.setHlt at').setMap m = t at mapped umap health ⊢
  have pooled := ((Pooled.refl t).told idx pool code detail v).trans (poolsUpdate_pooled _)
  exact ⟨pooled.umap.trans umap, pooled.hlt.trans health, noisy_trans mapped (noSpares_of_noStore pooled.rest)⟩

/-- A spare Rod that fails its self-test is retired (R520, R524). -/
theorem spareSelfTest_rod (powered : s.sys.powered = true) (due : ∀ t, s.hlt.testAt = some t → t + 1000000000 ≤ s.elapsed)
    (on : s.domOn 2 = true) {p : Fin 18} (spare : p.val ∈ spareRods s) : runsTo (.spareSelfTest [p] false) s fun t =>
      t.sto.umap = { s.sto.umap with rods := s.sto.umap.rods ++ [p.val] } ∧ t.hlt = { s.hlt with testAt := some s.elapsed } ∧
        noisy noSpares hltRegs s t := by
  let tested := s.setHlt { s.hlt with testAt := some s.elapsed }
  let m : UnitMap := { s.sto.umap with rods := s.sto.umap.rods ++ [p.val] }
  have on' : tested.domOn 2 = true := on
  have found : (spareRods tested).contains p.val = true := List.contains_iff_mem.mpr spare
  have retired : retireRod tested p.val = tested.setMap m := if_neg (Bool.eq_false_iff.mp (spareRods_healthy spare))
  have one : [p].foldl (fun s p => if (spareRods s).contains p.val then
      healthEvent (retireRod s p.val) p.val 1 0xFE 1 (word (spareRods (retireRod s p.val)).length) else s) tested =
        healthEvent (tested.setMap m) p.val 1 0xFE 1 (word (spareRods (tested.setMap m)).length) :=
    (if_pos found).trans (by rw [retired])
  have runs : exec (.spareSelfTest [p] false) s =
      .next (poolsUpdate (healthEvent (tested.setMap m) p.val 1 0xFE 1 (word (spareRods (tested.setMap m)).length))) := by
    rw [← one]
    refine congrArg Host.Outcome.next ((if_pos ⟨powered, testDue due⟩).trans (congrArg poolsUpdate ?_))
    simp only [Bool.and_false, Bool.false_and, Bool.false_eq_true, if_false]
    exact if_pos on'
  exact ⟨_, runs, spareRetired _ _ _ _ _ _ _⟩

/-- The fifth healthy matrix unit that fails its self-test is retired (R520). -/
theorem spareSelfTest_matrix (powered : s.sys.powered = true) (due : ∀ t, s.hlt.testAt = some t → t + 1000000000 ≤ s.elapsed)
    (on : s.domOn 3 = true) (whole : s.sto.umap.matrix = []) : runsTo (.spareSelfTest [] true) s fun t =>
      t.sto.umap = { s.sto.umap with matrix := [4] } ∧ t.hlt = { s.hlt with testAt := some s.elapsed } ∧ noisy noSpares hltRegs s t := by
  let tested := s.setHlt { s.hlt with testAt := some s.elapsed }
  have healthy : matrixHealthy tested = [0, 1, 2, 3, 4] := by
    show (List.range 5).filter (fun u => !s.sto.umap.matrix.contains u) = _
    rw [whole]
    rfl
  have on' : tested.domOn 3 = true := on
  have map : { tested.sto.umap with matrix := tested.sto.umap.matrix ++ (matrixHealthy tested).drop 4 } =
      { s.sto.umap with matrix := [4] } := by
    rw [healthy]
    show { s.sto.umap with matrix := s.sto.umap.matrix ++ [4] } = _
    rw [whole]
    rfl
  have runs : exec (.spareSelfTest [] true) s =
      .next (poolsUpdate (healthEvent (tested.setMap { s.sto.umap with matrix := [4] }) 4 2 0xFE 2 0)) := by
    refine congrArg Host.Outcome.next ((if_pos ⟨powered, testDue due⟩).trans (congrArg poolsUpdate ?_))
    have none : (if tested.domOn 2 then ([] : List (Fin 18)).foldl (fun s p => if (spareRods s).contains p.val then
        healthEvent (retireRod s p.val) p.val 1 0xFE 1 (word (spareRods (retireRod s p.val)).length) else s) tested else tested) = tested :=
      ite_self tested
    refine (congrArg (fun t : State => if t.domOn 3 && true && (matrixHealthy t).length == 5 then
      healthEvent (t.setMap { t.sto.umap with matrix := t.sto.umap.matrix ++ (matrixHealthy t).drop 4 })
        ((matrixHealthy t).getD 4 4) 2 0xFE 2 0 else t) none).trans ?_
    dsimp only
    rw [map, healthy, on']
    rfl
  exact ⟨_, runs, spareRetired _ _ _ _ _ _ _⟩

/-! ### HLT_MAPCLR (R514) -/

/-- A write of HLT_MAPCLR.CLR. -/
theorem hltMapclr_runs (on : s.domOn 0 = true) : exec .hltMapclr s = .next (if s.mode = 1
    then (laidAgain s R.HLT_MAPCLR).setSto { s.sto with mapClr := true } else s.setF F.HLT_STAT_REFUSED 1) := by
  have listed : R.HLT_MAPCLR ∈ commandRegs := by simp [commandRegs]
  have refuse : regRefuse s R.HLT_MAPCLR 0 0 (s.rd R.HLT_MAPCLR) (putBits 0 0 0 1) = (s.mode != modeCommission) := by
    have clear : maskBit (putBits 0 0 0 1) 0 = true := by decide
    show (maskBit (putBits 0 0 0 1) 0 && s.mode != modeCommission) = _
    rw [clear, Bool.true_and]
  have written := writeReg_command on .host (putBits 0 0 0 1) R.HLT_MAPCLR listed
  refine congrArg Host.Outcome.next (Eq.trans ?_ (written.trans ?_))
  · rfl
  · rw [show regBits s R.HLT_MAPCLR 0 (putBits 0 0 0 1) = putBits 0 0 0 1 from rfl, refuse]
    by_cases com : s.mode = 1
    · rw [if_pos com, com]
      rfl
    · rw [if_neg com, if_pos (by simp [modeCommission, com])]
      rfl

theorem hltMapclr_marks (on : s.domOn 0 = true) (com : s.mode = 1) : runsTo .hltMapclr s fun t =>
    t.sto = { s.sto with mapClr := true } ∧ quiet noStore (fun a => a = R.HLT_MAPCLR.addr) s t := by
  refine ⟨_, (hltMapclr_runs on).trans (congrArg Host.Outcome.next (if_pos com)), rfl, rfl, ?_⟩
  exact (laidAgain_regs s R.HLT_MAPCLR).of_regs rfl

theorem hltMapclr_refused (on : s.domOn 0 = true) (other : s.mode ≠ 1) : runsTo .hltMapclr s fun t =>
    t.fb F.HLT_STAT_REFUSED = true ∧ quiet noRegs (fun a => a = R.HLT_STAT.addr) s t :=
  ⟨_, (hltMapclr_runs on).trans (congrArg Host.Outcome.next (if_neg other)),
    State.fb_setF_same s F.HLT_STAT_REFUSED 1 0 0 (by decide) (by decide), rfl,
    (RegsBut.refl s).setF (p := (· = R.HLT_STAT.addr)) (fl := F.HLT_STAT_REFUSED) rfl⟩

end

/-! ### The claims together -/

theorem Critical.claimed {s t : State} (flag : t.fb F.HLT_STAT_CRIT = true) (h : Critical s t) :
    t.fb F.HLT_STAT_CRIT = true ∧ t.fb F.SYS_STAT_CRIT = true ∧ (s.operating = true → t.mode = 6) ∧
      (s.mode = 0 ∨ s.mode = 7 → t.sys.critRec = true) := ⟨flag, h.shown, h.held, h.recorded⟩

/-- What SENSOR_READ shows, as the claims write it. -/
theorem Shown.claimed {v : Sensors} {s t : State} (twelve : v.temp.length = 12) (h : Shown v s.tbNow t) :
    (∀ i, i < 12 → t.rd R.HLT_TEMP i = (v.temp.getD i 0).signExtend 32) ∧ t.rd R.HLT_HUMID = v.humid.setWidth 32 ∧
      t.rd R.HLT_VLOG = v.vlog.setWidth 32 ∧ t.rd R.HLT_VCORE = v.vcore.setWidth 32 ∧ t.hlt.readTb = some s.tbNow ∧
      (∀ i, i < 12 → (v.temp.getD i 0).toInt ≤ t.fi F.HLT_TMAX_T) ∧
      (v.temp.getD (t.f F.HLT_TMAX_SENSOR) 0).toInt = t.fi F.HLT_TMAX_T ∧
      (∀ i, i < t.f F.HLT_TMAX_SENSOR → (v.temp.getD i 0).toInt < t.fi F.HLT_TMAX_T) :=
  ⟨h.temps, h.humid, h.vlog, h.vcore, h.read, fun i hi => h.max.most i (twelve ▸ hi), h.max.of, h.max.first⟩

/-- Settles O52: each event of the health monitor from what its parts do. The scrubber by induction on the beads in error, where with CR19
on no event can write over a bead still to come; critical faults through `critChange`, whose every way leaves the monitor
as it is. -/
theorem healthMonitorActs : Obligations.HealthMonitorActs := by
  intro s
  refine ⟨fun others on due once quietly => scrubPass_scrubs others on due once quietly,
    fun sec spare singles copied => sectionRemapDone_maps copied,
    fun powered due => ⟨fun p on spare => spareSelfTest_rod powered due on spare, fun on whole => spareSelfTest_matrix powered due on whole⟩,
    fun on com => hltMapclr_marks on com, fun on other => hltMapclr_refused on other,
    fun v powered ahead grid fresh twelve => ⟨?_, ?_⟩, ?_, ?_⟩
  · intro cool warn crit tw tc wet flooded supply ⟨calm, _⟩
    obtain ⟨t, runs, shown, rest⟩ := sensorRead_calm powered ahead grid fresh twelve cool warn crit tw tc wet flooded supply calm
    exact ⟨t, runs, shown.claimed twelve, rest⟩
  · intro ⟨i, hi, hot⟩ _ ⟨calm, quietly⟩
    obtain ⟨t, runs, shown, tw, tc, warns, flag, acts⟩ := sensorRead_hot powered ahead grid fresh twelve hi hot calm quietly
    exact ⟨t, runs, shown.claimed twelve, tw, tc, warns, acts.claimed flag⟩
  · intro mv powered ahead good out ⟨calm, quietly⟩
    obtain ⟨t, runs, supply, seen, flag, acts⟩ := coreSupply_critical powered ahead good out calm quietly
    exact ⟨t, runs, supply, seen, acts.claimed flag⟩
  · exact fun mv powered out was lo hi => coreSupply_cleared powered out was lo hi

end Sys2Proof.Machine


/-! Frames of a Column that are handled at once: what the port, the key slot and the Column's books take of them (R461 to R463,
R468, R470, R471, R482). -/

namespace Sys2Proof.Machine

open Sys2Proof.Claims

section
variable {s t u : State} {f : TlFrame} {c : Nat}

/-! ### A frame that is heard -/

/-- The frame counted at its port (R470). -/
def tlCounted (s : State) (f : TlFrame) : State := s.netAdd (portCode f.port) R.NETH_RXFRM R.NETL_RXFRM 1

/-- The state in which a frame that R482 passes is handled. -/
def tlHeard (s : State) (f : TlFrame) : State :=
  let s := (tlCounted s f).wr64 R.KRXHW_LO R.KRXHW_HI f.replay.toNat (tlKey f)
  let s := { s with net := { s.net with rxTb := s.tbNow } }
  s.setSys { s.sys with hostAt := s.elapsed }

theorem tlCounted_eq (s : State) (f : TlFrame) : ∃ d i, tlCounted s f = s.addR d 1 i ∧
    d.addr i = (if portCode f.port = 8 then R.NETH_RXFRM.addr else R.NETL_RXFRM.addr (portCode f.port - 9)) ∧
    0x60000000 ≤ d.addr i ∧ d.addr i % 0x40 = 0x30 ∧ (d.addr i < 0x60000800 ∨ 0x61000000 ≤ d.addr i) := by
  unfold tlCounted State.netAdd
  cases f.port with
  | host => exact ⟨R.NETH_RXFRM, 0, rfl, rfl, by decide⟩
  | l0 => exact ⟨R.NETL_RXFRM, 0, rfl, rfl, by decide⟩
  | l1 => exact ⟨R.NETL_RXFRM, 1, rfl, rfl, by decide⟩

theorem tlCounted_regs (s : State) (f : TlFrame) : RegsBut (fun a => 0x60000000 ≤ a ∧ a % 0x40 = 0x30 ∧ (a < 0x60000800 ∨ 0x61000000 ≤ a) ∧
    rxRegs (portCode f.port) (tlKey f) a) s (tlCounted s f) := by
  obtain ⟨d, i, e, addr, lo, mod, area⟩ := tlCounted_eq s f
  rw [e]
  exact (RegsBut.refl s).wr ⟨lo, mod, area, .inl addr⟩

/-- A state without its registers, its ports and what stands behind SYS. -/
def noLink (s : State) : State := { s with regs := [], net := {}, sys := {} }

theorem tlCounted_bare (s : State) (f : TlFrame) : tlCounted s f = { s with regs := (tlCounted s f).regs } := by
  obtain ⟨d, i, e, -⟩ := tlCounted_eq s f
  rw [e]
  rfl

theorem tlHeard_regs (s : State) (f : TlFrame) : RegsBut (fun a => 0x60000000 ≤ a ∧ rxRegs (portCode f.port) (tlKey f) a) s (tlHeard s f) := by
  have counted := (tlCounted_regs s f).mono (q := fun a => 0x60000000 ≤ a ∧ rxRegs (portCode f.port) (tlKey f) a) fun a h => ⟨h.1, h.2.2.2⟩
  refine ((counted.wr (d := R.KRXHW_LO) (i := tlKey f) ⟨?_, .inr (.inl rfl)⟩).wr (d := R.KRXHW_HI) (i := tlKey f) ⟨?_, .inr (.inr rfl)⟩)
  · simp only [RegDesc.addr, R.KRXHW_LO]; omega
  · simp only [RegDesc.addr, R.KRXHW_HI]; omega

theorem tlHeard_rd (s : State) (f : TlFrame) {d : RegDesc} {i j : Nat} (h : d.addr i j < 0x60000000) :
    (tlHeard s f).rd d i j = s.rd d i j := (tlHeard_regs s f).rd fun h' => by omega

theorem noLink_wr (s : State) (d : RegDesc) (v : Word) (i : Nat) : noLink (s.wr d v i) = noLink s := rfl

theorem noLink_heard (s : State) (tb : Nat) (x : SysX) :
    noLink (State.setSys { s with net := { s.net with rxTb := tb } } x) = noLink s := rfl

theorem tlHeard_noLink (s : State) (f : TlFrame) : noLink (tlHeard s f) = noLink s := by
  rw [tlHeard, noLink_heard, State.wr64, noLink_wr, noLink_wr]
  exact (congrArg noLink (tlCounted_bare s f) :)

theorem tlHeard_net (s : State) (f : TlFrame) : (tlHeard s f).net = { s.net with rxTb := s.tbNow } := by
  have bare := tlCounted_bare s f
  have net : (tlCounted s f).net = s.net := (congrArg State.net bare :)
  have tb : (tlCounted s f).tbNow = s.tbNow := (congrArg State.tbNow bare :)
  show { (tlCounted s f).net with rxTb := (tlCounted s f).tbNow } = _
  rw [net, tb]

theorem tlHeard_sys (s : State) (f : TlFrame) : (tlHeard s f).sys = { s.sys with hostAt := s.elapsed } := by
  have bare := tlCounted_bare s f
  have sys : (tlCounted s f).sys = s.sys := (congrArg State.sys bare :)
  have elapsed : (tlCounted s f).elapsed = s.elapsed := (congrArg State.elapsed bare :)
  show { (tlCounted s f).sys with hostAt := (tlCounted s f).elapsed } = _
  rw [sys, elapsed]

theorem tlHeard_mark (s : State) (f : TlFrame) : (tlHeard s f).rd64 R.KRXHW_LO R.KRXHW_HI (tlKey f) = f.replay.toNat := by
  have lo : (tlHeard s f).rd R.KRXHW_LO (tlKey f) = word f.replay.toNat := by
    refine (State.rd_wr_ne _ ?_).trans (State.rd_wr_same (tlCounted s f) R.KRXHW_LO _ (tlKey f) 0)
    simp only [RegDesc.addr, R.KRXHW_LO, R.KRXHW_HI]
    omega
  have hi : (tlHeard s f).rd R.KRXHW_HI (tlKey f) = word (f.replay.toNat / 2 ^ 32) :=
    State.rd_wr_same ((tlCounted s f).wr R.KRXHW_LO (word f.replay.toNat) (tlKey f)) R.KRXHW_HI _ (tlKey f) 0
  have big := f.replay.isLt
  simp only [State.rd64, State.nat, lo, hi, word, BitVec.toNat_ofNat]
  omega

theorem tlCounted_mode (s : State) (f : TlFrame) : (tlCounted s f).mode = s.mode :=
  congrArg (bits · 2 0) ((tlCounted_regs s f).rd (d := R.SYS_MODE) fun h => absurd h.1 (by decide))

theorem tlCounted_mark (s : State) (f : TlFrame) :
    (tlCounted s f).rd64 R.KRXHW_LO R.KRXHW_HI (tlKey f) = s.rd64 R.KRXHW_LO R.KRXHW_HI (tlKey f) := by
  have key := tlKey_lt f
  have lo : (tlCounted s f).rd R.KRXHW_LO (tlKey f) = s.rd R.KRXHW_LO (tlKey f) :=
    (tlCounted_regs s f).rd fun h => by simp only [RegDesc.addr, R.KRXHW_LO] at h; omega
  have hi : (tlCounted s f).rd R.KRXHW_HI (tlKey f) = s.rd R.KRXHW_HI (tlKey f) :=
    (tlCounted_regs s f).rd fun h => by simp only [RegDesc.addr, R.KRXHW_HI] at h; omega
  simp only [State.rd64, State.nat, lo, hi]

theorem tlHeaderOk_of {type : Nat} (good : tlGood s type f) : tlHeaderOk f = true := by
  obtain ⟨⟨magic, version, short, len, key, zero1, zero2, tagged⟩, -, -⟩ := good
  simp [tlHeaderOk, magic, version, ← len, short, key, zero1, zero2, tagged]

/-- A frame that is heard is handled at once. -/
theorem tlFrame_hears {type : Nat} (hears : heard s type f) : tlFrame s type f = tlMessage (tlHeard s f) type f := by
  obtain ⟨ahead, up, takes, good, clear, marked, fresh⟩ := hears
  have bare := tlCounted_bare s f
  have net : (tlCounted s f).net = s.net := (congrArg State.net bare :)
  have arrives : netArrive s (portCode f.port) f.src = (true, tlCounted s f) := by
    simp only [netArrive, netTakes_of (portCode f.port) f.src takes]
    rfl
  have authentic : tlAuthentic (tlCounted s f) type f = true := by
    rw [tlAuthentic_congr (tlCounted_mode s f) (congrArg NetX.force net), tlAuthentic, tlHeaderOk_of good, good.2.1, good.2.2]
    rfl
  have waits : ((tlCounted s f).net.inQ.any (fun q => tlKey q.frame == tlKey f) || (krxWaits (tlCounted s f) f &&
      decide ((tlCounted s f).rd64 R.KRXHW_LO R.KRXHW_HI (tlKey f) < f.replay.toNat))) = false := by
    have alone : (tlCounted s f).net.inQ.any (fun q => tlKey q.frame == tlKey f) = false := by
      rw [net]
      exact List.any_eq_false.mpr fun q hq => by simpa using clear q hq
    have sto : (tlCounted s f).sto = s.sto := (congrArg State.sto bare :)
    have stored : krxWaits (tlCounted s f) f = false := by
      rw [krxWaits, sto]
      exact decide_eq_false (not_lt.mpr marked)
    rw [alone, stored]
    rfl
  have new : ¬ f.replay.toNat ≤ (tlCounted s f).rd64 R.KRXHW_LO R.KRXHW_HI (tlKey f) := by
    rw [tlCounted_mark]
    exact not_le.mpr fresh
  have passes : tlPass (tlCounted s f) type (tlCounted s f).tbNow f = tlMessage (tlHeard s f) type f := if_neg new
  unfold tlFrame netFrame
  rw [show critsAhead s = s from ahead]
  simp only [up, arrives, authentic, waits]
  exact passes

/-- A message whose turn it is. -/
theorem inTurn_front {i : Instr} {type : Nat} (front : inFront i s) (as : heldAs i = some (.tlFrame type f)) :
    inTurn (.tlFrame type f) s = .next (tlFrame s type f) := by
  obtain ⟨unheld, turn⟩ := front
  simp only [inTurn, turn _ as, unheld]
  rfl

end
end Sys2Proof.Machine

namespace Sys2Proof.Machine

open Sys2Proof.Claims

section
variable {s t u : State} {f : TlFrame} {c : Nat} {p : Nat → Prop}

/-! ### A Column's registers -/

/-- A register of the Columns' own block. -/
def RegDesc.inCol (d : RegDesc) : Bool := decide (0x51000000 ≤ d.base ∧ d.base < 0x51000040) && d.s1 == 0x40 && d.s2 == 0

/-- Two of them, not the same. -/
def RegDesc.besideCol (d d' : RegDesc) : Bool := d.inCol && d'.inCol && d.base != d'.base

/-- The registers of Column `c`. -/
def colRegs (c a : Nat) : Prop := 0x51000000 + 0x40 * c ≤ a ∧ a < 0x51000000 + 0x40 * c + 0x40

theorem inCol_iff {d : RegDesc} : d.inCol = true ↔ (0x51000000 ≤ d.base ∧ d.base < 0x51000040) ∧ d.s1 = 0x40 ∧ d.s2 = 0 := by
  simp only [RegDesc.inCol, Bool.and_eq_true, decide_eq_true_eq, beq_iff_eq, and_assoc]

theorem colRegs_addr {d : RegDesc} (h : d.inCol = true) (c : Nat) : colRegs c (d.addr c) := by
  obtain ⟨⟨lo, hi⟩, s1, s2⟩ := inCol_iff.mp h
  simp only [colRegs, RegDesc.addr, s1, s2]
  omega

theorem addr_besideCol {d d' : RegDesc} (h : d'.besideCol d = true) (c : Nat) : d'.addr c ≠ d.addr c := by
  simp only [RegDesc.besideCol, Bool.and_eq_true, inCol_iff, bne_iff_ne] at h
  obtain ⟨⟨⟨_, s1, s2⟩, _, s1', s2'⟩, ne⟩ := h
  simp only [RegDesc.addr, s1, s2, s1', s2']
  omega

theorem f_setF_besideCol {fl fl' : Fld} (h : fl'.reg.besideCol fl.reg = true) (s : State) (v c : Nat) :
    (s.setF fl v c).f fl' c = s.f fl' c := State.f_setF_ne s (addr_besideCol h c).symm

theorem rd_setF_besideCol {fl : Fld} {d : RegDesc} (h : d.besideCol fl.reg = true) (s : State) (v c : Nat) :
    (s.setF fl v c).rd d c = s.rd d c := State.rd_setF_ne s (addr_besideCol h c).symm

/-- Two fields of the Columns' own block that share no bit. -/
def Fld.aside (fl fl' : Fld) : Bool := fl'.reg.besideCol fl.reg ||
  decide (fl.reg = fl'.reg ∧ fl.lo ≤ fl.hi ∧ fl'.hi < 32 ∧ (fl'.hi < fl.lo ∨ fl.hi < fl'.lo))

theorem f_setF_aside {fl fl' : Fld} (h : fl.aside fl' = true) (s : State) (v c : Nat) : (s.setF fl v c).f fl' c = s.f fl' c := by
  simp only [Fld.aside, Bool.or_eq_true, decide_eq_true_eq] at h
  rcases h with h | ⟨reg, wf, hi, d⟩
  · exact f_setF_besideCol h s v c
  · exact State.f_setF_beside s v c 0 reg wf hi d

/-- No register of the Columns is one that events change. -/
theorem col_not_event {d : RegDesc} (h : d.inCol = true) {c : Nat} (hc : c < 256) : ¬ eventReg (d.addr c) := fun e => by
  have block := colRegs_addr h c
  have area := eventReg_area e
  simp only [colRegs] at block
  omega

/-! ### What a frame does in its Column -/

/-- A state without its registers and the Columns' own. -/
def noCol (s : State) : State := { s with regs := [], col := [] }

/-- From `s` to `t` Column `c` alone has changed, with what its events leave. -/
structure InColumn (c : Nat) (s t : State) : Prop where
  rest : noisy noCol (colRegs c) s t
  others : ∀ b, b ≠ c → t.colX b = s.colX b

namespace InColumn

theorem refl (s : State) : InColumn c s s := ⟨noisy_refl s, fun _ _ => rfl⟩

theorem trans (h : InColumn c s t) (h' : InColumn c t u) : InColumn c s u :=
  ⟨noisy_trans h.rest h'.rest, fun b hb => (h'.others b hb).trans (h.others b hb)⟩

theorem wr (s : State) {d : RegDesc} (v : Word) (h : d.inCol = true) : InColumn c s (s.wr d v c) :=
  ⟨⟨rfl, (RegsBut.refl s).wr (.inl (colRegs_addr h c))⟩, fun _ _ => rfl⟩

theorem setF (s : State) {fl : Fld} (v : Nat) (h : fl.reg.inCol = true) : InColumn c s (s.setF fl v c) :=
  ⟨⟨rfl, (RegsBut.refl s).setF (.inl (colRegs_addr h c))⟩, fun _ _ => rfl⟩

theorem setCol (s : State) (x : ColX) : InColumn c s (s.setCol c x) :=
  ⟨⟨rfl, (RegsBut.refl s).of_regs rfl⟩, fun _ hb => tabGet_tabPut_ne (Ne.symm hb)⟩

theorem told (s : State) (code detail : Nat) (v : Word) : InColumn c s (colEvent s c code detail v) := by
  have posts : Posts s (colEvent s c code detail v) := event_posts (by decide) _ _ _ _ _
  refine ⟨noisy_of_posts (fun _ => rfl) posts, fun b _ => ?_⟩
  have col : (colEvent s c code detail v).col = s.col := by simpa only [State.apart] using congrArg State.col posts.1
  simp only [State.colX, col]

theorem net (h : InColumn c s t) : t.net = s.net := by simpa only [State.apart, noCol] using congrArg State.net h.rest.1
theorem sys (h : InColumn c s t) : t.sys = s.sys := by simpa only [State.apart, noCol] using congrArg State.sys h.rest.1
theorem sto (h : InColumn c s t) : t.sto = s.sto := by simpa only [State.apart, noCol] using congrArg State.sto h.rest.1
theorem elapsed (h : InColumn c s t) : t.elapsed = s.elapsed := by simpa only [State.apart, noCol] using congrArg State.elapsed h.rest.1

/-- A register outside the Column, and outside those of events, reads as before. -/
theorem rd (h : InColumn c s t) {d : RegDesc} {i j : Nat} (hc : ¬ colRegs c (d.addr i j)) (he : ¬ eventReg (d.addr i j)) :
    t.rd d i j = s.rd d i j := noisy_rd h.rest hc he

end InColumn

theorem setCol_colX (s : State) (n : Nat) (x : ColX) : (s.setCol n x).colX n = x := tabGet_tabPut_same _ _ _ _

/-- The partner's address is taken over. -/
def colFrom (s : State) (c : Nat) (f : TlFrame) : State :=
  s.setCol c { s.colX c with mac := f.src.mac.toNat, vlan := f.src.vlan.map BitVec.toNat }

/-- How far a sequence number is ahead. -/
def seqAhead (s : State) (c : Nat) (f : TlFrame) : Nat := (f.seq.toNat + 65536 - s.f F.COL_SEQ_RXSEQ c) % 65536

/-- A frame ahead in sequence is taken into the Column's sequence, its liveness and its time offset. -/
def colFollows (s : State) (c : Nat) (f : TlFrame) : State :=
  let s := ((colBump s F.COL_HLTH_SEQGAP c (seqAhead s c f - 1)).setF F.COL_SEQ_RXSEQ f.seq.toNat c)
  tlTofs ((colAlive s c).setF F.COL_STATE_MEDIUM (portCode f.port) c) c f

theorem rxseq_small (s : State) (c : Nat) : s.f F.COL_SEQ_RXSEQ c < 65536 := bits_lt ..

theorem colSeqStep_ahead (known : (s.colX c).seqKnown = true) (lo : 0 < seqAhead s c f) (hi : seqAhead s c f < 32768) :
    colSeqStep s c f.seq.toNat 16 = (true, (colBump s F.COL_HLTH_SEQGAP c (seqAhead s c f - 1)).setF F.COL_SEQ_RXSEQ f.seq.toNat c) := by
  have d : (f.seq.toNat + 2 ^ 16 - s.f F.COL_SEQ_RXSEQ c % 2 ^ 16) % 2 ^ 16 = seqAhead s c f := by
    rw [Nat.mod_eq_of_lt (show s.f F.COL_SEQ_RXSEQ c < 2 ^ 16 from rxseq_small s c)]
    rfl
  have off : ¬ (seqAhead s c f = 0 ∨ 2 ^ (16 - 1) ≤ seqAhead s c f) := by omega
  simp only [colSeqStep, known, d, off, Bool.not_true, Bool.false_eq_true, if_false]

/-! ### The Column's fields step by step -/

theorem putBits_bits (w : Word) {hi lo : Nat} (h : lo ≤ hi) (h' : hi < 32) : putBits w hi lo (bits w hi lo) = w := by
  refine BitVec.eq_of_toNat_eq (Nat.eq_of_testBit_eq fun k => ?_)
  rw [testBit_putBits _ _ h, testBit_bits]
  by_cases inside : lo ≤ k ∧ k ≤ hi
  · have place : lo + (k - lo) = k := by omega
    have wide : k < 32 ∧ k - lo < hi + 1 - lo := by omega
    simp [inside, place, wide]
  · rw [if_neg inside]
    by_cases low : k < 32
    · simp [low]
    · have none : w.toNat.testBit k = false := Nat.testBit_lt_two_pow (lt_of_lt_of_le w.isLt (Nat.pow_le_pow_right (by omega) (by omega)))
      simp [none]

/-- A field that is set to what it holds leaves its register. -/
theorem rd_setF_held (s : State) {fl : Fld} {v c : Nat} (h : fl.lo ≤ fl.hi) (h' : fl.hi < 32) (held : s.f fl c = v) :
    (s.setF fl v c).rd fl.reg c = s.rd fl.reg c := by
  rw [State.rd_setF_same, ← held]
  exact putBits_bits _ h h'

theorem setF_colX (s : State) (fl : Fld) (v i j n : Nat) : (s.setF fl v i j).colX n = s.colX n := rfl

theorem tlTofs_eq (s : State) (c : Nat) (f : TlFrame) : tlTofs s c f = if f.tstamp = 0 then s else
    s.wr R.COL_TOFS (wordI (clamp (-(2 ^ 31 - 1)) (2 ^ 31 - 1) (f.tstamp.toInt - s.net.rxTb))) c := rfl

/-- What the sequence check and liveness leave of a Column's fields. -/
structure Follows (s : State) (c : Nat) (f : TlFrame) (k : Nat) (t : State) : Prop where
  step : InColumn c s t
  state : t.rd R.COL_STATE c = s.rd R.COL_STATE c
  rxseq : t.f F.COL_SEQ_RXSEQ c = f.seq.toNat
  txseq : t.f F.COL_SEQ_TXSEQ c = s.f F.COL_SEQ_TXSEQ c
  seqgap : t.f F.COL_HLTH_SEQGAP c = min 255 (s.f F.COL_HLTH_SEQGAP c + k)
  credviol : t.f F.COL_HLTH_CREDVIOL c = s.f F.COL_HLTH_CREDVIOL c
  rxbk : t.rd R.COL_RXBK c = s.rd R.COL_RXBK c
  txbk : t.rd R.COL_TXBK c = s.rd R.COL_TXBK c

theorem colAhead_follows (s : State) (c : Nat) (f : TlFrame) (k : Nat) :
    Follows s c f k ((colBump s F.COL_HLTH_SEQGAP c k).setF F.COL_SEQ_RXSEQ f.seq.toNat c) := by
  have small := f.seq.isLt
  have bumped : (colBump s F.COL_HLTH_SEQGAP c k).f F.COL_HLTH_SEQGAP c = min 255 (s.f F.COL_HLTH_SEQGAP c + k) :=
    (State.f_setF_same s F.COL_HLTH_SEQGAP _ c 0 (by decide) (by decide)).trans
      (Nat.mod_eq_of_lt (lt_of_le_of_lt (Nat.min_le_left _ _) (by decide)))
  have bump : InColumn c s (colBump s F.COL_HLTH_SEQGAP c k) := InColumn.setF s _ (by decide)
  refine ⟨bump.trans (InColumn.setF _ _ (by decide)), ?_, ?_, ?_, ?_, ?_, ?_, ?_⟩
  · exact (rd_setF_besideCol (by decide) _ _ _).trans (rd_setF_besideCol (by decide) _ _ _)
  · exact (State.f_setF_same _ F.COL_SEQ_RXSEQ _ c 0 (by decide) (by decide)).trans (Nat.mod_eq_of_lt small)
  · exact (f_setF_aside (by decide) _ _ _).trans (f_setF_aside (by decide) _ _ _)
  · exact (f_setF_aside (by decide) _ _ _).trans bumped
  · exact (f_setF_aside (by decide) _ _ _).trans (f_setF_aside (by decide) _ _ _)
  · exact (rd_setF_besideCol (by decide) _ _ _).trans (rd_setF_besideCol (by decide) _ _ _)
  · exact (rd_setF_besideCol (by decide) _ _ _).trans (rd_setF_besideCol (by decide) _ _ _)

/-- A change of the Column beside those fields. -/
theorem Follows.keep {k : Nat} (h : Follows s c f k t) (step : InColumn c t u) (state : u.rd R.COL_STATE c = t.rd R.COL_STATE c)
    (seq : u.rd R.COL_SEQ c = t.rd R.COL_SEQ c) (hlth : u.rd R.COL_HLTH c = t.rd R.COL_HLTH c) (rxbk : u.rd R.COL_RXBK c = t.rd R.COL_RXBK c)
    (txbk : u.rd R.COL_TXBK c = t.rd R.COL_TXBK c) : Follows s c f k u := by
  have fields (fl : Fld) (same : u.rd fl.reg c = t.rd fl.reg c) : u.f fl c = t.f fl c := by simp only [State.f, same]
  exact ⟨h.step.trans step, state.trans h.state, (fields _ seq).trans h.rxseq, (fields _ seq).trans h.txseq,
    (fields _ hlth).trans h.seqgap, (fields _ hlth).trans h.credviol, rxbk.trans h.rxbk, txbk.trans h.txbk⟩

theorem colAlive_step (s : State) (c : Nat) : InColumn c s (colAlive s c) := InColumn.setCol s _

theorem colFollows_follows (s : State) (c : Nat) (f : TlFrame) (medium : s.f F.COL_STATE_MEDIUM c = portCode f.port) :
    Follows s c f (seqAhead s c f - 1) (colFollows s c f) := by
  have first := colAhead_follows s c f (seqAhead s c f - 1)
  unfold colFollows
  dsimp only
  generalize (colBump s F.COL_HLTH_SEQGAP c (seqAhead s c f - 1)).setF F.COL_SEQ_RXSEQ f.seq.toNat c = t at first ⊢
  have alive := first.keep (colAlive_step t c) rfl rfl rfl rfl rfl
  have here : (colAlive t c).f F.COL_STATE_MEDIUM c = portCode f.port := by
    rw [← medium]
    simp only [State.f]
    exact congrArg (bits · 7 4) alive.state
  generalize colAlive t c = w at alive here ⊢
  have held := rd_setF_held w (fl := F.COL_STATE_MEDIUM) (by decide) (by decide) here
  have placed := alive.keep (InColumn.setF w (portCode f.port) (fl := F.COL_STATE_MEDIUM) (by decide)) held
    (rd_setF_besideCol (by decide) _ _ _) (rd_setF_besideCol (by decide) _ _ _) (rd_setF_besideCol (by decide) _ _ _)
    (rd_setF_besideCol (by decide) _ _ _)
  generalize w.setF F.COL_STATE_MEDIUM (portCode f.port) c = z at placed ⊢
  rw [tlTofs_eq]
  split
  · exact placed
  · have ne (d : RegDesc) (h : d.besideCol R.COL_TOFS = true) (v : Word) : (z.wr R.COL_TOFS v c).rd d c = z.rd d c :=
      State.rd_wr_ne z (addr_besideCol h c).symm
    exact placed.keep (InColumn.wr z _ (by decide)) (ne _ (by decide) _) (ne _ (by decide) _) (ne _ (by decide) _)
      (ne _ (by decide) _) (ne _ (by decide) _)

end
end Sys2Proof.Machine

namespace Sys2Proof.Machine

open Sys2Proof.Claims

section
variable {s t u : State} {f : TlFrame} {c : Nat} {p : Nat → Prop}

/-! ### The credit of a frame (R468) -/

theorem told_rd (s : State) (n code detail : Nat) (v : Word) {d : RegDesc} (h : d.inCol = true) {c : Nat} (hc : c < 256) :
    (colEvent s n code detail v).rd d c = s.rd d c :=
  (event_posts (by decide) s _ _ _ _ : Posts s (colEvent s n code detail v)).2.rd (col_not_event h hc)

theorem told_colX (s : State) (n code detail : Nat) (v : Word) (b : Nat) : (colEvent s n code detail v).colX b = s.colX b := by
  have posts : Posts s (colEvent s n code detail v) := event_posts (by decide) _ _ _ _ _
  have col : (colEvent s n code detail v).col = s.col := by simpa only [State.apart] using congrArg State.col posts.1
  simp only [State.colX, col]

/-- What an incoming CREDIT field changes of a Column. -/
structure Credited (s : State) (c credit : Nat) (t : State) : Prop where
  step : InColumn c s t
  own : t.colX c = s.colX c
  beside : ∀ d : RegDesc, d.besideCol R.COL_TXBK = true → d.besideCol R.COL_HLTH = true → t.rd d c = s.rd d c
  seqgap : t.f F.COL_HLTH_SEQGAP c = s.f F.COL_HLTH_SEQGAP c
  sent : t.f F.COL_TXBK_SENT c = s.f F.COL_TXBK_SENT c
  within : (credit + 65536 - s.f F.COL_TXBK_CRED c) % 65536 ≤ (s.f F.COL_TXBK_SENT c + 65536 - s.f F.COL_TXBK_CRED c) % 65536 →
    t.f F.COL_TXBK_CRED c = credit ∧ t.f F.COL_HLTH_CREDVIOL c = s.f F.COL_HLTH_CREDVIOL c
  beyond : (s.f F.COL_TXBK_SENT c + 65536 - s.f F.COL_TXBK_CRED c) % 65536 < (credit + 65536 - s.f F.COL_TXBK_CRED c) % 65536 →
    t.f F.COL_TXBK_CRED c = s.f F.COL_TXBK_CRED c ∧ t.f F.COL_HLTH_CREDVIOL c = min 255 (s.f F.COL_HLTH_CREDVIOL c + 1)

theorem colCredViol_step (s : State) (c : Nat) : InColumn c s (colCredViol s c) := by
  have bump : InColumn c s (colBump s F.COL_HLTH_CREDVIOL c 1) := InColumn.setF s _ (by decide)
  unfold colCredViol
  dsimp only
  split
  · exact bump.trans (InColumn.told _ _ _ _)
  · exact bump

theorem colCredViol_rd (s : State) {d : RegDesc} (h : d.inCol = true) {c : Nat} (hc : c < 256) :
    (colCredViol s c).rd d c = (colBump s F.COL_HLTH_CREDVIOL c 1).rd d c := by
  unfold colCredViol
  dsimp only
  split
  · exact told_rd _ _ _ _ _ h hc
  · rfl

theorem colCredViol_f (s : State) {fl : Fld} (h : fl.reg.inCol = true) {c : Nat} (hc : c < 256) :
    (colCredViol s c).f fl c = (colBump s F.COL_HLTH_CREDVIOL c 1).f fl c := by
  simp only [State.f, colCredViol_rd s h hc]

theorem colCredViol_colX (s : State) (c b : Nat) : (colCredViol s c).colX b = s.colX b := by
  unfold colCredViol
  dsimp only
  split
  · exact told_colX _ _ _ _ _ _
  · rfl

theorem colCredit_credited (s : State) {c : Nat} (hc : c < 256) {credit : Nat} (small : credit < 65536) :
    Credited s c credit (colCredit s c credit) := by
  unfold colCredit
  dsimp only
  split
  next fits =>
    refine ⟨InColumn.setF s _ (by decide), rfl, fun d h _ => rd_setF_besideCol h _ _ _, f_setF_aside (by decide) _ _ _,
      f_setF_aside (by decide) _ _ _, fun _ => ⟨?_, f_setF_aside (by decide) _ _ _⟩, fun h => absurd fits (Nat.not_le.mpr h)⟩
    exact (State.f_setF_same s F.COL_TXBK_CRED credit c 0 (by decide) (by decide)).trans (Nat.mod_eq_of_lt small)
  next exceeds =>
    have bumped : (colBump s F.COL_HLTH_CREDVIOL c 1).f F.COL_HLTH_CREDVIOL c = min 255 (s.f F.COL_HLTH_CREDVIOL c + 1) :=
      (State.f_setF_same s F.COL_HLTH_CREDVIOL _ c 0 (by decide) (by decide)).trans
        (Nat.mod_eq_of_lt (lt_of_le_of_lt (Nat.min_le_left _ _) (by decide)))
    have field (fl : Fld) (h : fl.reg.inCol = true) (a : F.COL_HLTH_CREDVIOL.aside fl = true) :
        (colCredViol s c).f fl c = s.f fl c := (colCredViol_f s h hc).trans (f_setF_aside a _ _ _)
    refine ⟨colCredViol_step s c, colCredViol_colX s c c, fun d _ h => ?_, field _ (by decide) (by decide),
      field _ (by decide) (by decide), fun h => absurd h exceeds,
      fun _ => ⟨field _ (by decide) (by decide), (colCredViol_f s (by decide) hc).trans bumped⟩⟩
    have inCol : d.inCol = true := by
      simp only [RegDesc.besideCol, Bool.and_eq_true] at h
      exact h.1.1
    exact (colCredViol_rd s inCol hc).trans (rd_setF_besideCol h _ _ _)

/-! ### A frame that is taken -/

/-- The state in which a frame of Column `c` has been taken. -/
def tlTaken (s : State) (c : Nat) (f : TlFrame) : State :=
  colCredit (colFollows (colFrom (tlHeard s f) c f) c f) c f.credit.toNat

/-- What brings a frame to its Column. -/
structure Comes (s : State) (c : Nat) (f : TlFrame) : Prop where
  lt : c < 256
  medium : s.f F.COL_STATE_MEDIUM c = portCode f.port
  key : s.f F.COL_STATE_KEYSEL c = tlKey f
  admitted : s.f F.COL_STATE_STATE c = 2
  known : (s.colX c).seqKnown = true
  ahead : 0 < seqAhead s c f
  near : seqAhead s c f < 32768

theorem colOfTl_some (h : colOfTl s f = some c) : c < 256 ∧ s.f F.COL_STATE_MEDIUM c = portCode f.port ∧
    s.f F.COL_STATE_KEYSEL c = tlKey f := by
  have mem := List.mem_range.mp (List.mem_of_find?_eq_some h)
  have fits := List.find?_some h
  simp only [Bool.and_eq_true, beq_iff_eq] at fits
  obtain ⟨⟨⟨⟨⟨-, medium⟩, key⟩, -⟩, -⟩, -⟩ := fits
  exact ⟨mem, medium, key⟩

theorem fromColumn_comes {type : Nat} (h : fromColumn s type f c) : Comes s c f := by
  obtain ⟨-, -, col, admitted, known, ahead, near⟩ := h
  obtain ⟨lt, medium, key⟩ := colOfTl_some col
  exact ⟨lt, medium, key, admitted, known, ahead, near⟩

theorem inCol_low {d : RegDesc} (h : d.inCol = true) {c : Nat} (hc : c < 256) : d.addr c < 0x60000000 := by
  have block := colRegs_addr h c
  simp only [colRegs] at block
  omega

theorem tlHeard_colX (s : State) (f : TlFrame) (n : Nat) : (tlHeard s f).colX n = s.colX n := by
  have col : (tlHeard s f).col = s.col := (congrArg State.col (tlHeard_noLink s f) :)
  simp only [State.colX, col]

theorem colFrom_rd (s : State) {d : RegDesc} (h : d.inCol = true) {c : Nat} (hc : c < 256) :
    (colFrom (tlHeard s f) c f).rd d c = s.rd d c := tlHeard_rd s f (inCol_low h hc)

theorem colFrom_f (s : State) {fl : Fld} (h : fl.reg.inCol = true) {c : Nat} (hc : c < 256) :
    (colFrom (tlHeard s f) c f).f fl c = s.f fl c := by
  simp only [State.f, colFrom_rd s h hc]

theorem colFrom_colX (s : State) (c : Nat) (f : TlFrame) : (colFrom (tlHeard s f) c f).colX c =
    { s.colX c with mac := f.src.mac.toNat, vlan := f.src.vlan.map BitVec.toNat } := by
  rw [colFrom, setCol_colX, tlHeard_colX]

theorem colFrom_seqAhead (s : State) {c : Nat} (hc : c < 256) : seqAhead (colFrom (tlHeard s f) c f) c f = seqAhead s c f := by
  rw [seqAhead, colFrom_f s (by decide) hc]
  rfl

theorem colValid_admitted {s : State} {n m : Nat} (h : ((colAlive s n).setF F.COL_STATE_MEDIUM m n).colSt n = 2) :
    colValid s n m = (colAlive s n).setF F.COL_STATE_MEDIUM m n := by
  unfold colValid
  dsimp only
  rw [h]
  rfl

theorem colSt_of_rd (h : t.rd R.COL_STATE c = s.rd R.COL_STATE c) : t.colSt c = s.colSt c := congrArg (bits · 2 0) h

theorem tlTofs_colSt (s : State) (c : Nat) (f : TlFrame) : (tlTofs s c f).colSt c = s.colSt c := by
  rw [tlTofs_eq]
  split
  · rfl
  · exact colSt_of_rd (State.rd_wr_ne s (by simp only [RegDesc.addr, R.COL_TOFS, R.COL_STATE]; omega))

theorem tlColumn_taken (h : Comes s c f) : tlColumn (tlHeard s f) c f = (true, tlTaken s c f) := by
  have hc := h.lt
  have st : (tlHeard s f).colSt c = 2 := (colFrom_f (f := f) s (fl := F.COL_STATE_STATE) (by decide) hc).trans h.admitted
  have medium := (colFrom_f (f := f) s (fl := F.COL_STATE_MEDIUM) (by decide) hc).trans h.medium
  have known : ((colFrom (tlHeard s f) c f).colX c).seqKnown = true := by rw [colFrom_colX]; exact h.known
  have step := colSeqStep_ahead known (by rw [colFrom_seqAhead s hc]; exact h.ahead) (by rw [colFrom_seqAhead s hc]; exact h.near)
  have follows := colFollows_follows (colFrom (tlHeard s f) c f) c f medium
  have live : (colFollows (colFrom (tlHeard s f) c f) c f).colSt c = 2 := (colSt_of_rd follows.state).trans st
  have placed := colValid_admitted ((tlTofs_colSt _ c f).symm.trans live)
  have stays : (2 : Nat) ≠ coRetired := by decide
  unfold tlColumn
  rw [st, if_neg stays]
  show (match colSeqStep (colFrom (tlHeard s f) c f) c f.seq.toNat 16 with
    | (false, s) => (false, s)
    | (true, s) =>
      let s := tlTofs (colValid s c (portCode f.port)) c f
      (true, if s.colSt c = coAdmitted then colCredit s c f.credit.toNat else s)) = _
  rw [step]
  dsimp only
  rw [placed]
  exact congrArg (Prod.mk true) (if_pos live)

end
end Sys2Proof.Machine

namespace Sys2Proof.Machine

open Sys2Proof.Claims

section
variable {s t u : State} {f : TlFrame} {c : Nat} {p : Nat → Prop}

/-! ### What a taken frame leaves (R461 to R463, R468, R471) -/

theorem tlTofs_colX (s : State) (c : Nat) (f : TlFrame) (n : Nat) : (tlTofs s c f).colX n = s.colX n := by
  rw [tlTofs_eq]
  split <;> rfl

theorem colAlive_colX (s : State) (c : Nat) : (colAlive s c).colX c = { s.colX c with
    lastAt := s.elapsed, validAt := s.elapsed, liveMs := s.f F.COL_LIVE_PERIOD_MS c * s.f F.COL_LIVE_LIVE_K c } := setCol_colX _ _ _

theorem colFollows_colX (s : State) (c : Nat) (f : TlFrame) : (colFollows s c f).colX c = { s.colX c with
    lastAt := s.elapsed, validAt := s.elapsed, liveMs := s.f F.COL_LIVE_PERIOD_MS c * s.f F.COL_LIVE_LIVE_K c } := by
  have period (t : State) (fl : Fld) (v : Nat) (h : fl.aside F.COL_LIVE_PERIOD_MS = true) :
      (t.setF fl v c).f F.COL_LIVE_PERIOD_MS c = t.f F.COL_LIVE_PERIOD_MS c := f_setF_aside h _ _ _
  have beats (t : State) (fl : Fld) (v : Nat) (h : fl.aside F.COL_LIVE_LIVE_K = true) :
      (t.setF fl v c).f F.COL_LIVE_LIVE_K c = t.f F.COL_LIVE_LIVE_K c := f_setF_aside h _ _ _
  unfold colFollows
  dsimp only
  rw [tlTofs_colX, setF_colX, colAlive_colX, period _ F.COL_SEQ_RXSEQ _ (by decide), beats _ F.COL_SEQ_RXSEQ _ (by decide), colBump,
    period _ F.COL_HLTH_SEQGAP _ (by decide), beats _ F.COL_HLTH_SEQGAP _ (by decide), setF_colX, setF_colX]
  rfl

/-- The time offset as a frame with a TSTAMP gives it (R463). -/
def tofsOf (f : TlFrame) (tb : Nat) : Word := wordI (clamp (-(2 ^ 31 - 1)) (2 ^ 31 - 1) (f.tstamp.toInt - tb))

theorem tofsOf_eq (f : TlFrame) (tb : Nat) :
    tofsOf f tb = wordI (max (-(2 ^ 31 - 1)) (min (2 ^ 31 - 1) (f.tstamp.toInt - tb))) := by
  rw [tofsOf, clamp, Int.min_comm]

theorem tlTofs_rd (s : State) (c : Nat) (f : TlFrame) : (tlTofs s c f).rd R.COL_TOFS c =
    if f.tstamp = 0 then s.rd R.COL_TOFS c else tofsOf f s.net.rxTb := by
  rw [tlTofs_eq]
  split
  · rfl
  · exact State.rd_wr_same _ _ _ _ _

theorem rd_setF_tofs (s : State) (c : Nat) {fl : Fld} (v : Nat) (h : R.COL_TOFS.besideCol fl.reg = true) :
    (s.setF fl v c).rd R.COL_TOFS c = s.rd R.COL_TOFS c := rd_setF_besideCol h _ _ _

theorem colAlive_rd (s : State) (c : Nat) (d : RegDesc) (i j : Nat) : (colAlive s c).rd d i j = s.rd d i j := rfl

theorem colFollows_tofs (s : State) (c : Nat) (f : TlFrame) : (colFollows s c f).rd R.COL_TOFS c =
    if f.tstamp = 0 then s.rd R.COL_TOFS c else tofsOf f s.net.rxTb := by
  unfold colFollows
  dsimp only
  rw [tlTofs_rd, rd_setF_tofs _ _ _ (by decide), colAlive_rd, rd_setF_tofs _ _ _ (by decide), colBump, rd_setF_tofs _ _ _ (by decide)]
  rfl

theorem tlHeard_noisy (s : State) (f : TlFrame) (q : Nat → Prop) :
    noisy (fun v => { v with regs := [], col := [], net := {}, sys := {} }) (fun a => rxRegs (portCode f.port) (tlKey f) a ∨ q a)
      s (tlHeard s f) := by
  refine ⟨?_, (tlHeard_regs s f).mono fun a h => .inl (.inl h.2)⟩
  exact (congrArg (fun v : State => State.apart { v with col := [] }) (tlHeard_noLink s f) :)

theorem inColumn_noisy (h : InColumn c s t) (q : Nat → Prop) :
    noisy (fun v => { v with regs := [], col := [], net := {}, sys := {} }) (fun a => q a ∨ colRegs c a) s t :=
  ⟨(congrArg (fun v : State => { v with net := {}, sys := {} }) h.rest.1 :), h.rest.2.mono fun _ => Or.imp_left Or.inr⟩

theorem high_not_event {a : Nat} (lo : 0x22000000 ≤ a) : ¬ eventReg a := fun h => by
  have area := eventReg_area h
  omega

theorem InColumn.rd_high (h : InColumn c s t) (hc : c < 256) {d : RegDesc} {i j : Nat} (lo : 0x60000000 ≤ d.addr i j) :
    t.rd d i j = s.rd d i j :=
  h.rd (fun h => by simp only [colRegs] at h; omega) (high_not_event (by omega))

theorem colTaken_step (s : State) (f : TlFrame) (h : Comes s c f) : InColumn c (tlHeard s f) (tlTaken s c f) := by
  have medium := (colFrom_f (f := f) s (fl := F.COL_STATE_MEDIUM) (by decide) h.lt).trans h.medium
  have from_ : InColumn c (tlHeard s f) (colFrom (tlHeard s f) c f) := InColumn.setCol _ _
  exact (from_.trans (colFollows_follows _ c f medium).step).trans (colCredit_credited _ h.lt f.credit.isLt).step

theorem tlTaken_took (h : Comes s c f) : took s (tlTaken s c f) c f := by
  have hc := h.lt
  have medium := (colFrom_f (f := f) s (fl := F.COL_STATE_MEDIUM) (by decide) hc).trans h.medium
  have follows := colFollows_follows (colFrom (tlHeard s f) c f) c f medium
  have credited := colCredit_credited (colFollows (colFrom (tlHeard s f) c f) c f) hc f.credit.isLt
  have step := colTaken_step s f h
  have was {fl : Fld} (h : fl.reg.inCol = true) := colFrom_f (f := f) s h hc
  have wasRd {d : RegDesc} (h : d.inCol = true) := colFrom_rd (f := f) s h hc
  have ahead := colFrom_seqAhead (f := f) s hc
  have field {fl : Fld} {x y : State} (same : x.rd fl.reg c = y.rd fl.reg c) : x.f fl c = y.f fl c := by simp only [State.f, same]
  have cred := (field (fl := F.COL_TXBK_CRED) follows.txbk).trans (was (by decide))
  have sent := (field (fl := F.COL_TXBK_SENT) follows.txbk).trans (was (by decide))
  have viol := follows.credviol.trans (was (by decide))
  have elapsed : (colFrom (tlHeard s f) c f).elapsed = s.elapsed := (congrArg State.elapsed (tlHeard_noLink s f) :)
  refine ⟨?_, ?_, ?_, ?_, ?_, ?_, ?_, ?_, ?_, ?_, ?_, ?_, ?_, ?_, ?_⟩
  · have lo : (tlTaken s c f).rd R.KRXHW_LO (tlKey f) = (tlHeard s f).rd R.KRXHW_LO (tlKey f) :=
      step.rd_high hc (by simp only [RegDesc.addr, R.KRXHW_LO]; omega)
    have hi : (tlTaken s c f).rd R.KRXHW_HI (tlKey f) = (tlHeard s f).rd R.KRXHW_HI (tlKey f) :=
      step.rd_high hc (by simp only [RegDesc.addr, R.KRXHW_HI]; omega)
    rw [← tlHeard_mark s f]
    simp only [State.rd64, State.nat, lo, hi]
  · exact step.sys.trans (tlHeard_sys s f)
  · exact step.net.trans (tlHeard_net s f)
  · rw [tlTaken, credited.own, colFollows_colX, colFrom_colX, elapsed, was (by decide), was (by decide)]
  · exact fun b hb => (step.others b hb).trans (tlHeard_colX s f b)
  · exact (credited.beside _ (by decide) (by decide)).trans (follows.state.trans (wasRd (by decide)))
  · exact (field (fl := F.COL_SEQ_RXSEQ) (credited.beside _ (by decide) (by decide))).trans follows.rxseq
  · refine credited.seqgap.trans (follows.seqgap.trans ?_)
    rw [ahead, was (by decide)]
    rfl
  · exact (field (fl := F.COL_SEQ_TXSEQ) (credited.beside _ (by decide) (by decide))).trans (follows.txseq.trans (was (by decide)))
  · exact (credited.beside _ (by decide) (by decide)).trans (follows.rxbk.trans (wasRd (by decide)))
  · exact credited.sent.trans sent
  · intro fits
    have both := credited.within (by rw [cred, sent]; exact fits)
    rwa [viol] at both
  · intro exceeds
    have both := credited.beyond (by rw [cred, sent]; exact exceeds)
    rwa [cred, viol] at both
  · have tofs := (credited.beside R.COL_TOFS (by decide) (by decide)).trans (colFollows_tofs _ c f)
    have rx : (colFrom (tlHeard s f) c f).net.rxTb = s.tbNow := congrArg NetX.rxTb (tlHeard_net s f)
    rw [wasRd (by decide), rx] at tofs
    rw [tlTaken, tofs, tofsOf_eq]
    split <;> rfl
  · exact noisy_trans (tlHeard_noisy s f _) (inColumn_noisy step _)

end
end Sys2Proof.Machine

namespace Sys2Proof.Machine

open Sys2Proof.Claims

section
variable {s t u : State} {f : TlFrame} {c : Nat} {p : Nat → Prop}

/-! ### A frame of a Column reaches what its type does (R473, R475) -/

theorem tlHeard_beside (s : State) (f : TlFrame) : RegsBut (fun a => 0x24 ≤ a % 0x40 ∧ 0x60000000 ≤ a) s (tlHeard s f) := by
  have counted := (tlCounted_regs s f).mono (q := fun a => 0x24 ≤ a % 0x40 ∧ 0x60000000 ≤ a) fun a h => ⟨by omega, h.1⟩
  refine (counted.wr (d := R.KRXHW_LO) (i := tlKey f) ?_).wr (d := R.KRXHW_HI) (i := tlKey f) ?_
  · simp only [RegDesc.addr, R.KRXHW_LO]; omega
  · simp only [RegDesc.addr, R.KRXHW_HI]; omega

theorem colOfTl_heard (s : State) (f : TlFrame) : colOfTl (tlHeard s f) f = colOfTl s f := by
  have kept {d : RegDesc} {n i : Nat} (h : d.addr n i % 0x40 < 0x24) : (tlHeard s f).rd d n i = s.rd d n i :=
    (tlHeard_beside s f).rd fun h' => by omega
  refine colOfTl_congr (fun n => kept ?_) (fun n => kept ?_) (fun n i hi => kept ?_) f
  · simp only [RegDesc.addr, R.COL_STATE]; omega
  · simp only [RegDesc.addr, R.COL_PORT]; omega
  · simp only [RegDesc.addr, R.COL_ADDR]; omega

theorem tlHeard_mode (s : State) (f : TlFrame) : (tlHeard s f).mode = s.mode :=
  congrArg (bits · 2 0) (tlHeard_rd s f (d := R.SYS_MODE) (by decide))

theorem tlMay_heard (s : State) (f : TlFrame) (b : Nat) : tlMay (tlHeard s f) f b = tlMay s f b := by
  have force : (tlHeard s f).net.force = s.net.force := by rw [tlHeard_net]
  rw [tlMay, tlMay, keyPerm_congr (tlHeard_mode s f) force]

theorem tlTaken_colSt (h : Comes s c f) : (tlTaken s c f).colSt c = 2 := by
  obtain ⟨-, -, -, -, -, state, -⟩ := tlTaken_took h
  exact (colSt_of_rd state).trans h.admitted

theorem tlForColumn_taken {type : Nat} (h : fromColumn s type f c) (body : State → Nat → State) :
    tlForColumn (tlHeard s f) f body = body (tlTaken s c f) c := by
  have comes := fromColumn_comes h
  obtain ⟨-, -, col, -⟩ := h
  unfold tlForColumn
  rw [colOfTl_heard, col]
  dsimp only
  rw [tlColumn_taken comes]
  exact if_pos (tlTaken_colSt comes)

/-- A frame of a Column is handled in the state in which it is heard. -/
theorem tlFrame_column {type : Nat} (h : fromColumn s type f c) : tlFrame s type f = tlMessage (tlHeard s f) type f ∧
    ((tlHeard s f).mode = modeDormant → False) :=
  ⟨tlFrame_hears h.1, fun dormant => h.2.1 ((tlHeard_mode s f).symm.trans dormant)⟩

theorem tlMessage_regRead (awake : t.mode = modeDormant → False) (fits : tlLenOk 0x10 f.payload.length = true) :
    tlMessage t 0x10 f = tlRegRead t f := by
  rw [tlMessage, if_neg fun h => awake h.1, fits]
  rfl

theorem tlMessage_regWrite (awake : t.mode = modeDormant → False) (fits : tlLenOk 0x12 f.payload.length = true) :
    tlMessage t 0x12 f = tlRegWrite t f := by
  rw [tlMessage, if_neg fun h => awake h.1, fits]
  rfl

theorem tlMessage_loadBegin (awake : t.mode = modeDormant → False) (fits : tlLenOk 0x30 f.payload.length = true) :
    tlMessage t 0x30 f = tlLoadBegin t f := by
  rw [tlMessage, if_neg fun h => awake h.1, fits]
  rfl

theorem tlMessage_loadData (awake : t.mode = modeDormant → False) (fits : tlLenOk 0x31 f.payload.length = true) :
    tlMessage t 0x31 f = tlLoadData t f := by
  rw [tlMessage, if_neg fun h => awake h.1, fits]
  rfl

theorem tlMessage_loadCommit (awake : t.mode = modeDormant → False) (fits : tlLenOk 0x32 f.payload.length = true) :
    tlMessage t 0x32 f = tlLoadCommit t f := by
  rw [tlMessage, if_neg fun h => awake h.1, fits]
  rfl

/-! ### A frame to a Column that leaves at once (R467, R471, R472, R481) -/

/-- The replay number and TXSEQ of a frame to Column `n`. -/
def colNumbered (s : State) (n : Nat) : State :=
  let key := s.f F.COL_STATE_KEYSEL n
  let s := s.wr64 R.KTX_LO R.KTX_HI (s.rd64 R.KTX_LO R.KTX_HI key + 1) key
  s.setF F.COL_SEQ_TXSEQ (s.f F.COL_SEQ_TXSEQ n + 1) n

/-- The registers of a frame's books. -/
def sendReg (a : Nat) : Prop := (0x51000000 ≤ a ∧ a < 0x51004000 ∧ 0x20 ≤ a % 0x40) ∨
  (0x60000000 ≤ a ∧ a < 0x60000C00 ∧ 0x2C ≤ a % 0x40)

theorem wr64_regs {lo hi : RegDesc} {v k : Nat} (hl : p (lo.addr k)) (hh : p (hi.addr k)) : RegsBut p s (s.wr64 lo hi v k) :=
  ((RegsBut.refl s).wr hl).wr hh

/-- A state without its registers and the Columns. -/
def noBooks (s : State) : State := { noCol s with w1cSet := [] }

theorem noBooks_wr (s : State) (d : RegDesc) (v : Word) (i j : Nat) : noBooks (s.wr d v i j) = noBooks s := rfl

theorem noBooks_setF (s : State) (fl : Fld) (v i j : Nat) : noBooks (s.setF fl v i j) = noBooks s := rfl

theorem noBooks_setCol (s : State) (n : Nat) (x : ColX) : noBooks (s.setCol n x) = noBooks s := rfl

theorem colNumbered_regs (s : State) {n : Nat} (hn : n < 256) : RegsBut sendReg s (colNumbered s n) := by
  have key : s.f F.COL_STATE_KEYSEL n < 8 := bits_lt ..
  unfold colNumbered
  dsimp only
  generalize s.f F.COL_STATE_KEYSEL n = k at key ⊢
  have lo : sendReg (R.KTX_LO.addr k) := .inr (by simp only [RegDesc.addr, R.KTX_LO]; omega)
  have hi : sendReg (R.KTX_HI.addr k) := .inr (by simp only [RegDesc.addr, R.KTX_HI]; omega)
  exact (wr64_regs lo hi).setF (.inl (by simp only [RegDesc.addr, F.COL_SEQ_TXSEQ, R.COL_SEQ]; omega))

theorem colReturned_regs (s : State) {n : Nat} (hn : n < 256) : RegsBut sendReg s (colReturned s n) := by
  have returned : RegsBut sendReg s (s.setF F.COL_RXBK_RETURNED (s.f F.COL_RXBK_FREED n) n) :=
    (RegsBut.refl s).setF (.inl (by simp only [RegDesc.addr, F.COL_RXBK_RETURNED, R.COL_RXBK]; omega))
  exact returned.of_regs rfl

theorem colNumbered_else (s : State) (n : Nat) : noBooks (colNumbered s n) = noBooks s := by
  rw [colNumbered, noBooks_setF, State.wr64, noBooks_wr, noBooks_wr]

theorem colReturned_else (s : State) (n : Nat) : noBooks (colReturned s n) = noBooks s := by
  rw [colReturned, noBooks_setCol, noBooks_setF]

/-- What leaves for Column `n` under the books `b`, in a state `t` with the keys: a message, and its tag (R472). -/
def colDatagram (b t : State) (n type key port replay : Nat) (payload : List Nat) : Sent :=
  let m := tlBytes type payload.length key 0 replay (b.f F.COL_SEQ_TXSEQ n) (b.f F.COL_RXBK_FREED n) 0 t.tbNow payload
  ⟨port, "TARBYLINK", colDest b n, m ++ (hmac (keyBytes t key) m).take 16⟩

/-- A frame leaves. -/
def sends (s : State) (x : Sent) : State := { s with sent := s.sent ++ [x] }

theorem colSend_now (s : State) (n type : Nat) (payload : List Nat) (stands : s.colSt n ≠ 0)
    (clear : keyClear s (s.f F.COL_STATE_KEYSEL n)) : colSend s n type payload =
      if (colReturned (colNumbered s n) n).portUp (s.f F.COL_STATE_MEDIUM n) then
        sends (colReturned (colNumbered s n) n) (colDatagram (colNumbered s n) (colReturned (colNumbered s n) n) n type
          (s.f F.COL_STATE_KEYSEL n) (s.f F.COL_STATE_MEDIUM n) (s.rd64 R.KTX_LO R.KTX_HI (s.f F.COL_STATE_KEYSEL n) + 1) payload)
      else colReturned (colNumbered s n) n := by
  obtain ⟨none, below⟩ := clear
  have waits : (ktxWaits s (s.f F.COL_STATE_KEYSEL n) || s.net.outQ.any fun g => g.key == s.f F.COL_STATE_KEYSEL n) = false := by
    have goes : ktxWaits s (s.f F.COL_STATE_KEYSEL n) = false := decide_eq_false (Nat.not_le.mpr below)
    rw [goes, Bool.false_or]
    exact List.any_eq_false.mpr fun g hg => by simpa using none g hg
  have gone : netGone s (colFrame s n type payload) = false := beq_eq_false_iff_ne.mpr stands
  have now : colSend s n type payload = netSendNow s (colFrame s n type payload) := by
    show (if (ktxWaits s (s.f F.COL_STATE_KEYSEL n) || s.net.outQ.any fun g => g.key == s.f F.COL_STATE_KEYSEL n) = true then _
      else _) = _
    rw [waits]
    rfl
  rw [now, netSendNow, gone]
  rfl

/-! ### The books in the words of the statements -/

theorem portUp_congr (hd : t.rd R.SYS_PDSTAT = s.rd R.SYS_PDSTAT)
    (hh : t.rd R.NETH_CTL = s.rd R.NETH_CTL) (hl : ∀ k, t.rd R.NETL_CTL k = s.rd R.NETL_CTL k)
    (sh : t.rd R.NETH_STAT = s.rd R.NETH_STAT) (sl : ∀ k, t.rd R.NETL_STAT k = s.rd R.NETL_STAT k) (q : Nat) :
    t.portUp q = s.portUp q := by
  simp only [State.portUp, State.portOn, State.domOn, State.netF, State.f, F.NETH_CTL_EN, F.NETL_CTL_EN, F.NETH_STAT_LINK,
    F.NETL_STAT_LINK, hd, hh, hl, sh, sl]

end
end Sys2Proof.Machine

namespace Sys2Proof.Machine

open Sys2Proof.Claims

section
variable {s t u : State} {f : TlFrame} {c n : Nat} {p : Nat → Prop}

/-! ### What a frame to a Column leaves -/

theorem rd64_wr64 (s : State) {lo hi : RegDesc} (v k : Nat) (ne : hi.addr k ≠ lo.addr k) (small : v < 2 ^ 64) :
    (s.wr64 lo hi v k).rd64 lo hi k = v := by
  have low : (s.wr64 lo hi v k).rd lo k = word v := (State.rd_wr_ne _ ne).trans (State.rd_wr_same s lo _ k 0)
  have high : (s.wr64 lo hi v k).rd hi k = word (v / 2 ^ 32) := State.rd_wr_same _ _ _ _ _
  simp only [State.rd64, State.nat, low, high, word, BitVec.toNat_ofNat]
  omega

theorem rd64_congr {lo hi : RegDesc} {k : Nat} (low : t.rd lo k = s.rd lo k) (high : t.rd hi k = s.rd hi k) :
    t.rd64 lo hi k = s.rd64 lo hi k := by
  simp only [State.rd64, State.nat, low, high]

theorem not_sendReg_low {d : RegDesc} {i j : Nat} (h : d.addr i j < 0x51000000) : ¬ sendReg (d.addr i j) := fun h' => by
  simp only [sendReg] at h'
  omega

theorem not_sendReg_mod {d : RegDesc} {i j : Nat} (h : d.addr i j % 0x40 < 0x20) : ¬ sendReg (d.addr i j) := fun h' => by
  simp only [sendReg] at h'
  omega

theorem colNumbered_colX (s : State) (n b : Nat) : (colNumbered s n).colX b = s.colX b := by
  unfold colNumbered
  dsimp only
  generalize s.f F.COL_STATE_KEYSEL n = k
  generalize s.rd64 R.KTX_LO R.KTX_HI k + 1 = v
  rfl

theorem colDest_congr (own : t.colX n = s.colX n) (state : t.rd R.COL_STATE n = s.rd R.COL_STATE n)
    (port : t.rd R.COL_PORT n = s.rd R.COL_PORT n) (addr : ∀ i < 4, t.rd R.COL_ADDR n i = s.rd R.COL_ADDR n i) :
    colDest t n = colDest s n := by
  have field {fl : Fld} (same : t.rd fl.reg n = s.rd fl.reg n) : t.f fl n = s.f fl n := by simp only [State.f, same]
  have v6 : t.f F.COL_STATE_IPV6 n = s.f F.COL_STATE_IPV6 n := field state
  have udp : t.f F.COL_PORT_V n = s.f F.COL_PORT_V n := field port
  have long : t.fb F.COL_STATE_IPV6 n = s.fb F.COL_STATE_IPV6 n := by simp only [State.fb, v6]
  simp only [colDest, own, State.nat, long, v6, udp, addr 0 (by decide), addr 1 (by decide), addr 2 (by decide), addr 3 (by decide)]

theorem col_ktx {d : RegDesc} (h : d.inCol = true) (hn : n < 256) (k : Nat) : R.KTX_LO.addr k ≠ d.addr n ∧ R.KTX_HI.addr k ≠ d.addr n := by
  have low := inCol_low h hn
  simp only [RegDesc.addr, R.KTX_LO, R.KTX_HI] at low ⊢
  omega

theorem wr64_ktx_f (s : State) (v k : Nat) {fl : Fld} (h : fl.reg.inCol = true) (hn : n < 256) :
    (s.wr64 R.KTX_LO R.KTX_HI v k).f fl n = s.f fl n := by
  have kept : (s.wr64 R.KTX_LO R.KTX_HI v k).rd fl.reg n = s.rd fl.reg n :=
    (State.rd_wr_ne _ (col_ktx h hn k).2).trans (State.rd_wr_ne _ (col_ktx h hn k).1)
  simp only [State.f, kept]

theorem colNumbered_seq (s : State) (hn : n < 256) : (colNumbered s n).f F.COL_SEQ_TXSEQ n = (s.f F.COL_SEQ_TXSEQ n + 1) % 65536 := by
  unfold colNumbered
  dsimp only
  rw [State.f_setF_same _ _ _ _ _ (by decide) (by decide), wr64_ktx_f _ _ _ (by decide) hn]
  rfl

theorem colNumbered_f (s : State) (hn : n < 256) {fl : Fld} (h : fl.reg.inCol = true) (a : F.COL_SEQ_TXSEQ.aside fl = true) :
    (colNumbered s n).f fl n = s.f fl n := by
  unfold colNumbered
  dsimp only
  rw [f_setF_aside a, wr64_ktx_f _ _ _ h hn]

theorem setF_col_rd64 (s : State) {fl : Fld} (v k : Nat) (h : fl.reg.inCol = true) (hn : n < 256) :
    (s.setF fl v n).rd64 R.KTX_LO R.KTX_HI k = s.rd64 R.KTX_LO R.KTX_HI k :=
  rd64_congr (State.rd_setF_ne s (col_ktx h hn k).1.symm) (State.rd_setF_ne s (col_ktx h hn k).2.symm)

theorem colNumbered_replay (s : State) (hn : n < 256) (small : s.rd64 R.KTX_LO R.KTX_HI (s.f F.COL_STATE_KEYSEL n) + 1 < 2 ^ 64) :
    (colNumbered s n).rd64 R.KTX_LO R.KTX_HI (s.f F.COL_STATE_KEYSEL n) = s.rd64 R.KTX_LO R.KTX_HI (s.f F.COL_STATE_KEYSEL n) + 1 := by
  unfold colNumbered
  dsimp only
  rw [setF_col_rd64 _ _ _ (by decide) hn]
  exact rd64_wr64 _ _ _ (by simp only [RegDesc.addr, R.KTX_LO, R.KTX_HI]; omega) small

/-- From `s` to `t` only what a frame to a Column needs has changed. -/
structure Sending (s t : State) : Prop where
  rest : noBooks t = noBooks s
  regs : RegsBut sendReg s t

namespace Sending

theorem mode (h : Sending s t) : t.mode = s.mode := h.regs.f (not_sendReg_low (by decide))
theorem net (h : Sending s t) : t.net = s.net := (congrArg State.net h.rest :)
theorem sent (h : Sending s t) : t.sent = s.sent := (congrArg State.sent h.rest :)
theorem tbNow (h : Sending s t) : t.tbNow = s.tbNow := (congrArg State.tbNow h.rest :)
theorem sto (h : Sending s t) : t.sto = s.sto := (congrArg State.sto h.rest :)

theorem portUp (h : Sending s t) (q : Nat) : t.portUp q = s.portUp q := by
  have kept {d : RegDesc} {k : Nat} (hd : d.addr k % 0x40 < 0x20) : t.rd d k = s.rd d k := h.regs.rd (not_sendReg_mod hd)
  refine portUp_congr (h.regs.rd (not_sendReg_low (by decide))) (kept (by decide)) (fun k => kept ?_) (kept (by decide)) (fun k => kept ?_) q
  · simp only [RegDesc.addr, R.NETL_CTL]; omega
  · simp only [RegDesc.addr, R.NETL_STAT]; omega

theorem keyBytes (h : Sending s t) (k : Nat) : keyBytes t k = keyBytes s k := keyBytes_congr h.mode (congrArg NetX.force h.net) k

theorem colDest (h : Sending s t) (own : t.colX n = s.colX n) : colDest t n = colDest s n := by
  have kept {d : RegDesc} {i j : Nat} (hd : d.addr i j % 0x40 < 0x20) : t.rd d i j = s.rd d i j := h.regs.rd (not_sendReg_mod hd)
  refine colDest_congr own (kept ?_) (kept ?_) fun i hi => kept ?_
  · simp only [RegDesc.addr, R.COL_STATE]; omega
  · simp only [RegDesc.addr, R.COL_PORT]; omega
  · simp only [RegDesc.addr, R.COL_ADDR]; omega

theorem colNumbered (s : State) (hn : n < 256) : Sending s (colNumbered s n) := ⟨colNumbered_else s n, colNumbered_regs s hn⟩

theorem colReturned (s : State) (hn : n < 256) : Sending s (colReturned s n) := ⟨colReturned_else s n, colReturned_regs s hn⟩

theorem trans (h : Sending s t) (h' : Sending t u) : Sending s u := ⟨h'.rest.trans h.rest, h.regs.trans h'.regs⟩

end Sending

theorem colReturned_returned (s : State) (n : Nat) : (colReturned s n).f F.COL_RXBK_RETURNED n = s.f F.COL_RXBK_FREED n := by
  have small : s.f F.COL_RXBK_FREED n < 65536 := bits_lt ..
  exact (State.f_setF_same s F.COL_RXBK_RETURNED _ n 0 (by decide) (by decide)).trans (Nat.mod_eq_of_lt small)

theorem colReturned_f (s : State) {fl : Fld} (h : F.COL_RXBK_RETURNED.aside fl = true) : (colReturned s n).f fl n = s.f fl n :=
  f_setF_aside h s _ n

theorem colReturned_freedAt (s : State) (n : Nat) : ((colReturned s n).colX n).freedAt = none := by
  rw [colReturned, setCol_colX]

theorem colReturned_replay (s : State) (hn : n < 256) (k : Nat) :
    (colReturned s n).rd64 R.KTX_LO R.KTX_HI k = s.rd64 R.KTX_LO R.KTX_HI k :=
  setF_col_rd64 (n := n) s _ k (fl := F.COL_RXBK_RETURNED) (by decide) hn

theorem sends_f (s : State) (x : Sent) (fl : Fld) (i j : Nat) : (sends s x).f fl i j = s.f fl i j := rfl

theorem sends_rd64 (s : State) (x : Sent) (lo hi : RegDesc) (i j : Nat) : (sends s x).rd64 lo hi i j = s.rd64 lo hi i j := rfl

theorem sends_colX (s : State) (x : Sent) (n : Nat) : (sends s x).colX n = s.colX n := rfl

theorem sends_sto (s : State) (x : Sent) : (sends s x).sto = s.sto := rfl

theorem sends_sent (s : State) (x : Sent) : (sends s x).sent = s.sent ++ [x] := rfl

theorem sends_regs (h : RegsBut p s t) (x : Sent) : RegsBut p s (sends t x) := h.of_regs rfl

/-- A frame to Column `n` leaves its books, on a port that is up and on one that is not. -/
theorem colSend_books {P : State → Prop} (stands : s.colSt n ≠ 0) (clear : keyClear s (s.f F.COL_STATE_KEYSEL n)) (type : Nat)
    (payload : List Nat) (books : P (colReturned (colNumbered s n) n)) (out : ∀ t x, P t → P (sends t x)) :
    P (colSend s n type payload) := by
  rw [colSend_now s n type payload stands clear]
  split
  · exact out _ _ books
  · exact books

theorem colDatagram_eq (s : State) (hn : n < 256) (type key port replay : Nat) (payload : List Nat) :
    colDatagram (colNumbered s n) (colReturned (colNumbered s n) n) n type key port replay payload =
      ⟨port, "TARBYLINK", colDest s n,
        (leBytes 0x4C54 2 ++ [1, type] ++ leBytes payload.length 2 ++ [key, 0] ++ leBytes replay 8 ++
            leBytes ((s.f F.COL_SEQ_TXSEQ n + 1) % 65536) 2 ++ leBytes (s.f F.COL_RXBK_FREED n) 2 ++ leBytes 0 4 ++
            leBytes s.tbNow 8 ++ payload) ++
          (hmac (keyBytes s key) (leBytes 0x4C54 2 ++ [1, type] ++ leBytes payload.length 2 ++ [key, 0] ++ leBytes replay 8 ++
            leBytes ((s.f F.COL_SEQ_TXSEQ n + 1) % 65536) 2 ++ leBytes (s.f F.COL_RXBK_FREED n) 2 ++ leBytes 0 4 ++
            leBytes s.tbNow 8 ++ payload)).take 16⟩ := by
  have numbered := Sending.colNumbered s hn
  have both := numbered.trans (Sending.colReturned (colNumbered s n) hn)
  unfold colDatagram
  rw [colNumbered_seq s hn, colNumbered_f s hn (by decide) (by decide), both.tbNow, both.keyBytes,
    numbered.colDest (colNumbered_colX s n n)]
  simp only [tlBytes]

theorem colSend_sent (hn : n < 256) (stands : s.colSt n ≠ 0) (clear : keyClear s (s.f F.COL_STATE_KEYSEL n)) (type : Nat)
    (payload : List Nat) : colSent s (colSend s n type payload) n type payload := by
  have both := (Sending.colNumbered s hn).trans (Sending.colReturned (colNumbered s n) hn)
  have now := colSend_now s n type payload stands clear
  rw [colDatagram_eq s hn, both.portUp] at now
  have replay (k : Nat) : (colSend s n type payload).rd64 R.KTX_LO R.KTX_HI k = (colNumbered s n).rd64 R.KTX_LO R.KTX_HI k :=
    colSend_books (P := fun t => t.rd64 R.KTX_LO R.KTX_HI k = (colNumbered s n).rd64 R.KTX_LO R.KTX_HI k) stands clear type payload
      (colReturned_replay (colNumbered s n) hn k) fun t x h => (sends_rd64 t x _ _ _ _).trans h
  have field (fl : Fld) : (colSend s n type payload).f fl n = (colReturned (colNumbered s n) n).f fl n :=
    colSend_books (P := fun t => t.f fl n = (colReturned (colNumbered s n) n).f fl n) stands clear type payload rfl
      fun t x h => (sends_f t x fl n 0).trans h
  refine ⟨fun small => (replay _).trans (colNumbered_replay s hn small), ?_, ?_, ?_, fun up => ?_, fun down => ?_⟩
  · rw [field, colReturned_f _ (by decide), colNumbered_seq s hn]
  · rw [field, colReturned_returned, colNumbered_f s hn (by decide) (by decide)]
  · exact colSend_books (P := fun t => (t.colX n).freedAt = none) stands clear type payload (colReturned_freedAt _ n)
      fun t x h => (congrArg ColX.freedAt (sends_colX t x n)).trans h
  · rw [now, if_pos up, sends_sent, both.sent]
  · rw [now, if_neg (by rw [down]; decide)]
    exact both.sent

theorem colSend_sending (hn : n < 256) (stands : s.colSt n ≠ 0) (clear : keyClear s (s.f F.COL_STATE_KEYSEL n)) (type : Nat)
    (payload : List Nat) : (colSend s n type payload).sto = s.sto ∧ RegsBut sendReg s (colSend s n type payload) := by
  have both := (Sending.colNumbered s hn).trans (Sending.colReturned (colNumbered s n) hn)
  exact colSend_books (P := fun t => t.sto = s.sto ∧ RegsBut sendReg s t) stands clear type payload ⟨both.sto, both.regs⟩
    fun t x h => ⟨(sends_sto t x).trans h.1, sends_regs h.2 x⟩

end
end Sys2Proof.Machine

/-! Reads of the host leave the links: the key slots, the Columns and their marks (R474). -/

namespace Sys2Proof.Machine

open Sys2Proof.Claims

section
variable {s t u : State} {p : Nat → Prop} {i j n k : Nat}

/-- From `s` to `t` the links, and all registers from the Columns' on, have stayed. -/
structure Reading (s t : State) : Prop where
  net : t.net = s.net
  marks : t.sto.marks = s.sto.marks
  regs : RegsBut (· < 0x51000000) s t

namespace Reading

theorem refl (s : State) : Reading s s := ⟨rfl, rfl, RegsBut.refl s⟩

theorem trans (h : Reading s t) (h' : Reading t u) : Reading s u :=
  ⟨h'.net.trans h.net, h'.marks.trans h.marks, h.regs.trans h'.regs⟩

theorem wr (s : State) {d : RegDesc} (v : Word) (h : d.addr i j < 0x51000000) : Reading s (s.wr d v i j) :=
  ⟨rfl, rfl, (RegsBut.refl s).wr h⟩

theorem setF (s : State) {fl : Fld} (v : Nat) (h : fl.reg.addr i j < 0x51000000) : Reading s (s.setF fl v i j) :=
  ⟨rfl, rfl, (RegsBut.refl s).setF h⟩

theorem onlyRegs (h : OnlyRegs p s t) (low : ∀ a, p a → a < 0x51000000) : Reading s t :=
  ⟨by simpa only [State.apart] using congrArg State.net h.1, by simpa only [State.apart] using congrArg (fun v => v.sto.marks) h.1,
    h.2.mono low⟩

theorem posts (h : Posts s t) : Reading s t := onlyRegs h fun a ha => by have area := eventReg_area ha; omega

theorem ite {c : Prop} [Decidable c] (ht : Reading s t) (hu : Reading s u) : Reading s (if c then t else u) := by
  split <;> assumption

end Reading

/-! ### Beads -/

theorem poisonBead_reading (s : State) (k : Nat) : Reading s (poisonBead s k) := by
  have found (x : Tab BeadErr) (y : HltX) : Reading s { s with beadErr := x, hlt := y } := ⟨rfl, rfl, (RegsBut.refl s).of_regs rfl⟩
  exact (found _ _).trans (Reading.wr _ _ (by decide))

theorem poisonEvent_reading (s : State) (k detail : Nat) : Reading s (poisonEvent s k detail) := .posts (poisonEvent_posts s k detail)

theorem sectionFail_reading (s : State) (sec singles : Nat) : Reading s (sectionFail s sec singles) := by
  unfold sectionFail
  exact (Reading.refl s).ite ⟨rfl, rfl, (RegsBut.refl s).of_regs rfl⟩

theorem beadCheck_reading (s : State) (k : Nat) : Reading s (beadCheck s k).2 := by
  have dropped (x : Tab BeadErr) : Reading s { s with beadErr := x } := ⟨rfl, rfl, (RegsBut.refl s).of_regs rfl⟩
  unfold beadCheck
  split
  · exact Reading.refl s
  · exact (dropped _).trans (Reading.wr _ _ (by decide))
  · have poisoned := (poisonBead_reading s k).trans (poisonEvent_reading _ k 2)
    exact (poisoned.trans (sectionFail_reading _ _ _)).ite poisoned
  · exact poisonEvent_reading s k 2

/-! ### Registers whose reading does something (R71, R400, R428, R528) -/

theorem freeReading_reading (s : State) : Reading s (freeReading s).2 := ⟨rfl, rfl, RegsBut.refl s⟩

theorem workRead_reading (s : State) (off : Nat) : Reading s (workRead s off).2 := by
  unfold workRead
  dsimp only
  split
  · exact Reading.refl s
  · exact Reading.wr s _ (by decide)
  · exact ((poisonBead_reading s _).trans (poisonEvent_reading _ _ 2)).trans (freeReading_reading _)
  · exact (poisonEvent_reading s _ 2).trans (freeReading_reading _)

theorem udataRead_reading (s : State) : Reading s (udataRead s).2 :=
  (workRead_reading s _).trans (Reading.setF _ _ (by decide))

theorem setRod_reading (s : State) (r : Nat) (x : RodX) : Reading s (s.setRod r x) := ⟨rfl, rfl, (RegsBut.refl s).of_regs rfl⟩

theorem paceMeasure_reading (s : State) {r : Nat} (hr : r < 16) : Reading s (paceMeasure s r) := by
  unfold paceMeasure
  dsimp only
  split
  · exact Reading.refl s
  · refine ((freeReading_reading s).trans (Reading.setF _ _ ?_)).trans (setRod_reading _ _ _)
    simp only [RegDesc.addr, F.FRM_PACE_RATE, R.FRM_PACE]
    omega

theorem measuredOn_reading (s : State) (n hi : Nat) (raw : Word) : Reading s (measuredOn s n hi raw).2 := by
  unfold measuredOn
  split
  · exact Reading.refl s
  · exact freeReading_reading s

theorem rxBufReg_low (hn : n < 6) (a : Nat) (h : rxBufReg n a) : a < 0x51000000 := by
  have place := rxBufReg_at h
  omega

theorem setRxLock_reading (s : State) (hn : n < 6) (k : Nat) (b : Bool) : Reading s (s.setRxLock n k b) := by
  unfold State.setRxLock
  split
  · exact Reading.wr s _ (by simp only [RegDesc.addr, R.CAN_RXLOCK_LO]; omega)
  · exact Reading.wr s _ (by simp only [RegDesc.addr, R.CAN_RXLOCK_HI]; omega)

theorem rxFill_reading (s : State) (hn : n < 6) (hk : k < 64) (ws : List Word) : Reading s (rxFill s n k ws) := by
  have words := fillWords_only n (32 * k) (ws.take 20) 0 s (by rw [List.length_take]; omega)
  exact .onlyRegs (words.trans (setRxFull_only _ n k true)) (rxBufReg_low hn)

theorem rxPlace_reading (s : State) (hn : n < 6) (hk : k < 64) (ws : List Word) : Reading s (rxPlace s n k ws) := by
  have event (t : State) (v : Nat) (w : Word) : Reading t (canEvent t n k 0xC0 v w) := .onlyRegs (canEvent_only hn ..) fun a h => by
    have place := canEventReg_at h
    omega
  have bell (t : State) (r m : Nat) (hr : r < 16) : Reading t (ringBell t r m) := .onlyRegs (ringBell_only t hr m) fun a h => by
    have place := bellReg_at h
    omega
  have told (t : State) (v : Nat) (w : Word) (q : Prop) [Decidable q] (h : Reading s t) : Reading s (if q then canEvent t n k 0xC0 v w else t) :=
    (h.trans (event t v w)).ite h
  unfold rxPlace
  dsimp only
  have filled := told _ (bits (ws.getD 1 0) 7 7) (ws.getD 0 0) ((rxFill s n k ws).f F.CAN_RXBCFG_EVT n k % 2 = 1) (rxFill_reading s hn hk ws)
  exact (filled.trans (bell _ _ _ (rxBell_lt _ n k).1)).ite filled

theorem rxRelease_reading (s : State) (hn : n < 6) (hk : k < 64) : Reading s (rxRelease s n k) := by
  have freed : Reading s ((s.setRxFull n k false).setRxLock n k false) :=
    (Reading.onlyRegs (setRxFull_only s n k false) (rxBufReg_low hn)).trans (setRxLock_reading _ hn k false)
  have moved (t : State) (x : CanX) : Reading t (t.setCan n x) := ⟨rfl, rfl, (RegsBut.refl t).of_regs rfl⟩
  unfold rxRelease
  dsimp only
  split
  · exact (freed.trans (moved _ _)).trans (rxPlace_reading _ hn hk _)
  · exact freed

theorem rxRead_reading (s : State) (hn : n < 6) (hk : k < 64) (w : Nat) : Reading s (rxRead s n k w).2 := by
  unfold rxRead
  dsimp only
  split
  · exact setRxLock_reading s hn k true
  · split
    · exact rxRelease_reading s hn hk
    · exact Reading.refl s

/-! ### Instances -/

/-- The instances of the registers whose reading changes their own. -/
def readBounds (d : RegDesc) : Bool :=
  match d.id with
  | .CAN_RXB => decide (d.n1 ≤ 6 ∧ d.n2 ≤ 2048)
  | .FRM_PACE => decide (d.n1 ≤ 16)
  | _ => true

theorem all_ite {α : Type} {c : Prop} [Decidable c] {l m : List α} {q : α → Bool} (hl : l.all q = true) (hm : m.all q = true) :
    (if c then l else m).all q = true := by
  split <;> assumption

theorem regsAt_bounds (a : Nat) : (regsAt a).all readBounds = true := by
  unfold regsAt
  iterate 20 refine all_ite rfl ?_
  rfl

theorem instanceAt_lt {d : RegDesc} {a : Nat} (h : d.instanceAt a = some (i, j)) : i < d.n1 ∧ j < d.n2 := by
  unfold RegDesc.instanceAt at h
  split at h
  · cases h
  · obtain ⟨⟨hi, hj, -⟩, eq⟩ := Option.ite_none_right_eq_some.mp h
    obtain ⟨rfl, rfl⟩ := Prod.mk.inj (Option.some.inj eq)
    exact ⟨hi, hj⟩

theorem regFind_bounds {a : Nat} {d : RegDesc} (h : regFind a = some (d, i, j)) : readBounds d = true ∧ i < d.n1 ∧ j < d.n2 := by
  obtain ⟨e, mem, here⟩ := List.exists_of_findSome?_eq_some h
  obtain ⟨⟨x, y⟩, inst, eq⟩ := Option.map_eq_some_iff.mp here
  simp only [Prod.mk.injEq] at eq
  obtain ⟨rfl, rfl, rfl⟩ := eq
  exact ⟨List.all_eq_true.mp (regsAt_bounds a) _ mem, instanceAt_lt inst⟩

theorem regRead_reading (s : State) {d : RegDesc} (bounds : readBounds d = true) (hi : i < d.n1) (hj : j < d.n2) :
    Reading s (regRead s d i j).2 := by
  have shown (n hi : Nat) (raw : Word) := measuredOn_reading s n hi raw
  unfold regRead
  split
  · exact Reading.wr s _ (by decide)
  · exact udataRead_reading s
  next is =>
    simp only [readBounds, is, decide_eq_true_eq] at bounds
    split
    · exact Reading.refl s
    · exact rxRead_reading s (by omega) (by omega) _
  next is =>
    simp only [readBounds, is, decide_eq_true_eq] at bounds
    exact paceMeasure_reading s (by omega)
  · exact shown _ _ _
  · exact shown _ _ _
  · exact shown _ _ _
  · exact shown _ _ _
  · exact shown _ _ _
  · exact shown _ _ _
  · split
    · exact shown _ _ _
    · exact Reading.refl s
  · exact Reading.refl s

theorem readAddr_reading (a : Nat) (s : State) : Reading s (readAddr a s).2 := by
  unfold readAddr
  split
  · split <;> exact Reading.refl s
  · split
    next d i j found =>
      obtain ⟨bounds, hi, hj⟩ := regFind_bounds found
      split
      · exact Reading.refl s
      · exact regRead_reading s bounds hi hj
    · exact Reading.refl s

theorem hostRead_reading (s : State) (a : Nat) : Reading s (hostRead s a).2.2 := by
  have checked := beadCheck_reading s (a / 16)
  unfold hostRead
  split
  · exact Reading.refl s
  · split
    · split
      · exact Reading.refl s
      · split
        · next e => rw [e] at checked; exact checked
        · next e => rw [e] at checked; exact checked
    · split
      · exact readAddr_reading a s
      · exact Reading.refl s

theorem readEach_reading (l : List Nat) (s : State) : Reading s (readEach l s).2 := by
  induction l generalizing s with
  | nil => exact Reading.refl s
  | cons a l ih => exact (hostRead_reading s a).trans (ih _)

end
end Sys2Proof.Machine

/-! REG_READ and REG_WRITE of a Column (R473 to R475). -/

namespace Sys2Proof.Machine

open Sys2Proof.Claims

section
variable {s t u : State} {f : TlFrame} {c : Nat}

/-! ### The entries in order -/

theorem foldl_readEach (g : Nat → Nat) (l : List Nat) (out : List Nat) (u : State) :
    l.foldl (fun acc i => (acc.1 ++ leBytes (hostRead acc.2 (g i)).1 4 ++ leBytes (hostRead acc.2 (g i)).2.1 4,
      (hostRead acc.2 (g i)).2.2)) (out, u) = (out ++ (readEach (l.map g) u).1, (readEach (l.map g) u).2) := by
  induction l generalizing out u with
  | nil => simp [readEach]
  | cons i l ih => rw [List.foldl_cons, ih, List.map_cons, readEach]; simp only [List.append_assoc]

theorem writeEach_gone (stands : u.colSt c = 0) (ps : List (Nat × Word)) : writeEach c ps u = ([], u) := by
  cases ps with
  | nil => rfl
  | cons p ps => rw [writeEach, if_pos stands]

theorem foldl_writeEach (c : Nat) (g : Nat → Nat × Word) (l : List Nat) (out : List Nat) (u : State) :
    l.foldl (fun acc i => if acc.2.colSt c = coFree then acc
      else (acc.1 ++ leBytes (hostWrite acc.2 (g i).1 (g i).2).1 4, (hostWrite acc.2 (g i).1 (g i).2).2)) (out, u) =
        (out ++ (writeEach c (l.map g) u).1, (writeEach c (l.map g) u).2) := by
  induction l generalizing out u with
  | nil => simp [writeEach]
  | cons i l ih =>
    rw [List.foldl_cons, List.map_cons, writeEach]
    dsimp only
    by_cases gone : u.colSt c = 0
    · rw [if_pos (show u.colSt c = coFree from gone), if_pos gone, ih, writeEach_gone gone]
    · rw [if_neg (show ¬ u.colSt c = coFree from gone), if_neg gone, ih]
      simp only [List.append_assoc]

theorem flatMap_refused (l : List Nat) (b : List Nat) {α : Type} (g : Nat → α) :
    (List.replicate l.length b).flatten = (l.map g).flatMap fun _ => b := by
  induction l with
  | nil => rfl
  | cons i l ih => simp only [List.length_cons, List.replicate_succ, List.flatten_cons, List.map_cons, List.flatMap_cons, ih]

theorem tlMay_taken {type : Nat} (h : fromColumn s type f c) (b : Nat) : tlMay (tlTaken s c f) f b = tlMay s f b := by
  have comes := fromColumn_comes h
  have step := colTaken_step s f comes
  have mode : (tlTaken s c f).mode = (tlHeard s f).mode := congrArg (bits · 2 0)
    (step.rd (d := R.SYS_MODE) (i := 0) (j := 0) (fun h => by simp only [colRegs, RegDesc.addr, R.SYS_MODE] at h; omega)
      fun h => by have area := eventReg_area h; simp only [RegDesc.addr, R.SYS_MODE] at area; omega)
  rw [← tlMay_heard s f, tlMay, tlMay, keyPerm_congr mode (congrArg NetX.force step.net)]

/-- The answers of a REG_READ, and the state after its reads. -/
def readAnswers (s : State) (f : TlFrame) (u : State) : List Nat × State :=
  if tlMay s f 0 then readEach (readAddrs (natBytes f.payload)) u
  else ((readAddrs (natBytes f.payload)).flatMap fun _ => [0, 0, 0, 0, 4, 0, 0, 0], u)

theorem tlRegRead_taken (h : fromColumn s 0x10 f c) : tlRegRead (tlHeard s f) f =
    colSend (readAnswers s f (tlTaken s c f)).2 c 0x11
      ((natBytes f.payload).take 4 ++ (readAnswers s f (tlTaken s c f)).1) := by
  unfold tlRegRead
  dsimp only
  rw [tlForColumn_taken h, tlMay_taken h, readAnswers]
  cases tlMay s f 0 with
  | true =>
    have all := foldl_readEach (fun i => payWord (natBytes f.payload) (i + 1)) (List.range ((natBytes f.payload).length / 4 - 1)) []
      (tlTaken s c f)
    rw [List.nil_append] at all
    exact congrArg (fun v : List Nat × State => colSend v.2 c 0x11 ((natBytes f.payload).take 4 ++ v.1)) all
  | false =>
    have all := flatMap_refused (List.range ((natBytes f.payload).length / 4 - 1)) [0, 0, 0, 0, 4, 0, 0, 0]
      fun i => payWord (natBytes f.payload) (i + 1)
    rw [List.length_range] at all
    exact congrArg (fun v : List Nat => colSend (tlTaken s c f) c 0x11 ((natBytes f.payload).take 4 ++ v)) all

/-- The answers of a REG_WRITE, and the state after its writes. -/
def writeAnswers (s : State) (f : TlFrame) (c : Nat) (u : State) : List Nat × State :=
  if tlMay s f 1 then writeEach c (writePairs (natBytes f.payload)) u
  else ((writePairs (natBytes f.payload)).flatMap fun _ => [4, 0, 0, 0], u)

theorem tlRegWrite_taken (h : fromColumn s 0x12 f c) : tlRegWrite (tlHeard s f) f =
    colSend (writeAnswers s f c (tlTaken s c f)).2 c 0x13
      ((natBytes f.payload).take 4 ++ (writeAnswers s f c (tlTaken s c f)).1) := by
  unfold tlRegWrite
  dsimp only
  rw [tlForColumn_taken h, tlMay_taken h, writeAnswers]
  cases tlMay s f 1 with
  | true =>
    have all := foldl_writeEach c (fun i => (payWord (natBytes f.payload) (2 * i + 1), word (payWord (natBytes f.payload) (2 * i + 2))))
      (List.range (((natBytes f.payload).length - 4) / 8)) [] (tlTaken s c f)
    rw [List.nil_append] at all
    exact congrArg (fun v : List Nat × State => colSend v.2 c 0x13 ((natBytes f.payload).take 4 ++ v.1)) all
  | false =>
    have all := flatMap_refused (List.range (((natBytes f.payload).length - 4) / 8)) [4, 0, 0, 0]
      fun i => (payWord (natBytes f.payload) (2 * i + 1), word (payWord (natBytes f.payload) (2 * i + 2)))
    rw [List.length_range] at all
    exact congrArg (fun v : List Nat => colSend (tlTaken s c f) c 0x13 ((natBytes f.payload).take 4 ++ v)) all

/-! ### The answer goes at once -/

theorem Reading.col_rd (h : Reading s t) {d : RegDesc} (hd : d.inCol = true) (c : Nat) : t.rd d c = s.rd d c :=
  h.regs.rd fun low => by
    have block := colRegs_addr hd c
    simp only [colRegs] at block
    omega

theorem keyClear_congr {k : Nat} (clear : keyClear s k) (out : t.net.outQ = s.net.outQ) (marks : t.sto.marks = s.sto.marks)
    (lo : t.rd R.KTX_LO k = s.rd R.KTX_LO k) (hi : t.rd R.KTX_HI k = s.rd R.KTX_HI k) : keyClear t k := by
  obtain ⟨none, below⟩ := clear
  refine ⟨by rw [out]; exact none, ?_⟩
  have mark : t.sto.mark k = s.sto.mark k := by simp only [StoX.mark, marks]
  rw [rd64_congr lo hi, mark]
  exact below

/-- In the state a frame was taken, an answer to its Column leaves at once. -/
structure Answers (u : State) (c : Nat) : Prop where
  lt : c < 256
  stands : u.colSt c ≠ 0
  clear : keyClear u (u.f F.COL_STATE_KEYSEL c)

theorem Answers.sends (h : Answers u c) (type : Nat) (payload : List Nat) : colSent u (colSend u c type payload) c type payload :=
  colSend_sent h.lt h.stands h.clear type payload

theorem ktx_not_rx {p k a : Nat} (small : k < 8) (h : a = 0x6000082C + 0x40 * k ∨ a = 0x60000830 + 0x40 * k) : ¬ rxRegs p k a := fun hq => by
  simp only [rxRegs, RegDesc.addr, R.NETH_RXFRM, R.NETL_RXFRM, R.KRXHW_LO, R.KRXHW_HI] at hq
  split at hq <;> omega

theorem tlTaken_answers {type : Nat} (h : fromColumn s type f c) (clear : keyClear s (tlKey f)) : Answers (tlTaken s c f) c := by
  have comes := fromColumn_comes h
  obtain ⟨-, -, net, -, -, state, -⟩ := tlTaken_took comes
  have step := colTaken_step s f comes
  have key : (tlTaken s c f).f F.COL_STATE_KEYSEL c = tlKey f := by
    rw [← comes.key]
    exact congrArg (bits · 14 12) state
  have heardRd {d : RegDesc} {k : Nat} (hd : 0x60000000 ≤ d.addr k) (ne : ¬ (0x60000000 ≤ d.addr k ∧ rxRegs (portCode f.port) (tlKey f) (d.addr k))) :
      (tlTaken s c f).rd d k = s.rd d k := (step.rd_high comes.lt hd).trans ((tlHeard_regs s f).rd ne)
  have ktx {d : RegDesc} (hd : d.addr (tlKey f) = 0x6000082C + 0x40 * tlKey f ∨ d.addr (tlKey f) = 0x60000830 + 0x40 * tlKey f) :
      (tlTaken s c f).rd d (tlKey f) = s.rd d (tlKey f) := by
    exact heardRd (by omega) fun hq => ktx_not_rx (tlKey_lt f) hd hq.2
  refine ⟨comes.lt, by rw [tlTaken_colSt comes]; decide, ?_⟩
  rw [key]
  have sto : (tlHeard s f).sto = s.sto := (congrArg State.sto (tlHeard_noLink s f) :)
  refine keyClear_congr clear (by rw [net]) (by rw [step.sto, sto]) (ktx ?_) (ktx ?_)
  · left; simp only [RegDesc.addr, R.KTX_LO]; omega
  · right; simp only [RegDesc.addr, R.KTX_HI]; omega

theorem Reading.answers (h : Reading s t) (ans : Answers s c) : Answers t c := by
  have state := h.col_rd (d := R.COL_STATE) (by decide) c
  have key : t.f F.COL_STATE_KEYSEL c = s.f F.COL_STATE_KEYSEL c := congrArg (bits · 14 12) state
  have high {d : RegDesc} {k : Nat} (hd : 0x51000000 ≤ d.addr k) : t.rd d k = s.rd d k := h.regs.rd (Nat.not_lt.mpr hd)
  refine ⟨ans.lt, by rw [colSt_of_rd state]; exact ans.stands, ?_⟩
  rw [key]
  refine keyClear_congr ans.clear (by rw [h.net]) h.marks (high ?_) (high ?_)
  · simp only [RegDesc.addr, R.KTX_LO]; omega
  · simp only [RegDesc.addr, R.KTX_HI]; omega

/-! ### REG_READ and REG_WRITE -/

/-- A frame of a Column whose turn it is. -/
theorem goesTo_column {m : Instr} {type : Nat} (h : fromColumn s type f c) (as : heldAs m = some (.tlFrame type f))
    (runs : exec m s = inTurn (.tlFrame type f) s) {P : State → Prop} (done : P (tlMessage (tlHeard s f) type f)) : goesTo m s P := by
  intro front
  refine ⟨_, runs.trans ((inTurn_front front as).trans (congrArg _ (tlFrame_column h).1)), done⟩

theorem regRead_answers (h : fromColumn s 0x10 f c) (clear : keyClear s (tlKey f)) (lo : 8 ≤ f.payload.length)
    (hi : f.payload.length ≤ 516) (whole : f.payload.length % 4 = 0) : goesTo (.regRead f) s fun t => ∃ u, took s u c f ∧
      (tlMay s f 0 = true → ∃ v, v = readEach (readAddrs (natBytes f.payload)) u ∧
        colSent v.2 t c 0x11 ((natBytes f.payload).take 4 ++ v.1)) ∧
      (tlMay s f 0 = false → colSent u t c 0x11 ((natBytes f.payload).take 4 ++
        (readAddrs (natBytes f.payload)).flatMap fun _ => [0, 0, 0, 0, 4, 0, 0, 0])) := by
  refine goesTo_column h rfl rfl ⟨tlTaken s c f, tlTaken_took (fromColumn_comes h), ?_⟩
  have fits : tlLenOk 0x10 f.payload.length = true := by simp [tlLenOk, lo, hi, whole]
  have answers := tlTaken_answers h clear
  rw [tlMessage_regRead (tlFrame_column h).2 fits, tlRegRead_taken h, readAnswers]
  refine ⟨fun may => ⟨_, rfl, ?_⟩, fun no => ?_⟩
  · rw [if_pos may]
    exact ((readEach_reading _ _).answers answers).sends _ _
  · rw [if_neg (by rw [no]; decide)]
    exact answers.sends _ _

theorem regWrite_answers (h : fromColumn s 0x12 f c) (clear : keyClear s (tlKey f)) (lo : 12 ≤ f.payload.length)
    (hi : f.payload.length ≤ 516) (whole : f.payload.length % 8 = 4) : goesTo (.regWrite f) s fun t => ∃ u, took s u c f ∧
      (tlMay s f 1 = true → ∃ v, v = writeEach c (writePairs (natBytes f.payload)) u ∧
        (v.2.colSt c ≠ 0 → keyClear v.2 (v.2.f F.COL_STATE_KEYSEL c) → colSent v.2 t c 0x13 ((natBytes f.payload).take 4 ++ v.1))) ∧
      (tlMay s f 1 = false → colSent u t c 0x13 ((natBytes f.payload).take 4 ++
        (writePairs (natBytes f.payload)).flatMap fun _ => [4, 0, 0, 0])) := by
  refine goesTo_column h rfl rfl ⟨tlTaken s c f, tlTaken_took (fromColumn_comes h), ?_⟩
  have fits : tlLenOk 0x12 f.payload.length = true := by simp [tlLenOk, lo, hi, whole]
  have answers := tlTaken_answers h clear
  rw [tlMessage_regWrite (tlFrame_column h).2 fits, tlRegWrite_taken h, writeAnswers]
  refine ⟨fun may => ⟨_, rfl, fun stands clear => ?_⟩, fun no => ?_⟩
  · rw [if_pos may]
    exact colSend_sent answers.lt stands clear _ _
  · rw [if_neg (by rw [no]; decide)]
    exact answers.sends _ _

end
end Sys2Proof.Machine

/-! LOAD_BEGIN, LOAD_DATA and LOAD_COMMIT of a Column (R478, R501 to R504), and the entries of the host's reads and writes (R474). -/

namespace Sys2Proof.Machine

open Sys2Proof.Claims

section
variable {s t u v : State} {f : TlFrame} {c : Nat}

/-! ### What a change of the store leaves of the links -/

/-- From `s` to `t` only the store has changed, beside its marks. -/
structure StoOnly (s t : State) : Prop where
  rest : { t with regs := [], w1cSet := [], sto := {} } = { s with regs := [], w1cSet := [], sto := {} }
  marks : t.sto.marks = s.sto.marks
  regs : RegsBut (· = R.STO_STAT.addr) s t

namespace StoOnly

theorem refl (s : State) : StoOnly s s := ⟨rfl, rfl, RegsBut.refl s⟩

theorem trans (h : StoOnly s t) (h' : StoOnly t u) : StoOnly s u :=
  ⟨h'.rest.trans h.rest, h'.marks.trans h.marks, h.regs.trans h'.regs⟩

theorem setSto (s : State) {x : StoX} (h : x.marks = s.sto.marks) : StoOnly s (s.setSto x) := ⟨rfl, h, (RegsBut.refl s).of_regs rfl⟩

theorem setF (s : State) {fl : Fld} (v : Nat) (h : fl.reg = R.STO_STAT) : StoOnly s (s.setF fl v) :=
  ⟨rfl, rfl, (RegsBut.refl s).setF (by rw [h])⟩

theorem net (h : StoOnly s t) : t.net = s.net := (congrArg State.net h.rest :)
theorem sent (h : StoOnly s t) : t.sent = s.sent := (congrArg State.sent h.rest :)
theorem tbNow (h : StoOnly s t) : t.tbNow = s.tbNow := (congrArg State.tbNow h.rest :)
theorem elapsed (h : StoOnly s t) : t.elapsed = s.elapsed := (congrArg State.elapsed h.rest :)
theorem colX (h : StoOnly s t) (n : Nat) : t.colX n = s.colX n := by
  have col : t.col = s.col := (congrArg State.col h.rest :)
  simp only [State.colX, col]

theorem rd (h : StoOnly s t) {d : RegDesc} {i j : Nat} (ne : d.addr i j ≠ R.STO_STAT.addr) : t.rd d i j = s.rd d i j := h.regs.rd ne

theorem field (h : StoOnly s t) {fl : Fld} {i j : Nat} (ne : fl.reg.addr i j ≠ R.STO_STAT.addr) : t.f fl i j = s.f fl i j := h.regs.f ne

theorem high (h : StoOnly s t) {d : RegDesc} {i j : Nat} (hd : 0x51000000 ≤ d.addr i j) : t.rd d i j = s.rd d i j :=
  h.rd fun e => absurd hd (by rw [e]; decide)

theorem reading (h : StoOnly s t) : Reading s t := ⟨h.net, h.marks, h.regs.mono fun a ha => by
  simp only [ha, RegDesc.addr, R.STO_STAT]
  omega⟩

theorem portUp (h : StoOnly s t) (q : Nat) : t.portUp q = s.portUp q := by
  refine portUp_congr (h.rd (by decide)) (h.high (by decide)) (fun k => h.high ?_) (h.high (by decide)) (fun k => h.high ?_) q
  · simp only [RegDesc.addr, R.NETL_CTL]; omega
  · simp only [RegDesc.addr, R.NETL_STAT]; omega

theorem keyBytes (h : StoOnly s t) (k : Nat) : keyBytes t k = keyBytes s k :=
  keyBytes_congr (h.field (fl := F.SYS_MODE_MODE) (by decide)) (congrArg NetX.force h.net) k

theorem colDest (h : StoOnly s t) (n : Nat) : colDest t n = colDest s n := by
  refine colDest_congr (h.colX n) (h.high ?_) (h.high ?_) fun i _ => h.high ?_
  · simp only [RegDesc.addr, R.COL_STATE]; omega
  · simp only [RegDesc.addr, R.COL_PORT]; omega
  · simp only [RegDesc.addr, R.COL_ADDR]; omega

/-- A frame that leaves after a change of the store leaves as it would have before. -/
theorem colSent (h : StoOnly s t) {n type : Nat} {payload : List Nat} (sent : colSent t u n type payload) : colSent s u n type payload := by
  have field {fl : Fld} (low : 0x51000000 ≤ fl.reg.addr n) : t.f fl n = s.f fl n := by simp only [State.f, h.high low]
  have key : t.f F.COL_STATE_KEYSEL n = s.f F.COL_STATE_KEYSEL n := field (by simp only [RegDesc.addr, F.COL_STATE_KEYSEL, R.COL_STATE]; omega)
  have medium : t.f F.COL_STATE_MEDIUM n = s.f F.COL_STATE_MEDIUM n := field (by simp only [RegDesc.addr, F.COL_STATE_MEDIUM, R.COL_STATE]; omega)
  have seq : t.f F.COL_SEQ_TXSEQ n = s.f F.COL_SEQ_TXSEQ n := field (by simp only [RegDesc.addr, F.COL_SEQ_TXSEQ, R.COL_SEQ]; omega)
  have freed : t.f F.COL_RXBK_FREED n = s.f F.COL_RXBK_FREED n := field (by simp only [RegDesc.addr, F.COL_RXBK_FREED, R.COL_RXBK]; omega)
  have replay (k : Nat) : t.rd64 R.KTX_LO R.KTX_HI k = s.rd64 R.KTX_LO R.KTX_HI k :=
    rd64_congr (h.high (by simp only [RegDesc.addr, R.KTX_LO]; omega)) (h.high (by simp only [RegDesc.addr, R.KTX_HI]; omega))
  simpa only [Claims.colSent, key, medium, seq, freed, replay, h.portUp, h.sent, h.tbNow, h.keyBytes, h.colDest] using sent

end StoOnly

theorem tlTaken_sto (h : Comes s c f) : (tlTaken s c f).sto = s.sto ∧ (tlTaken s c f).elapsed = s.elapsed := by
  have step := colTaken_step s f h
  have sto : (tlHeard s f).sto = s.sto := (congrArg State.sto (tlHeard_noLink s f) :)
  have elapsed : (tlHeard s f).elapsed = s.elapsed := (congrArg State.elapsed (tlHeard_noLink s f) :)
  exact ⟨step.sto.trans sto, step.elapsed.trans elapsed⟩

/-- The answer to a load message after a change of the store. -/
theorem loadRsp_replies (ans : Answers u c) (h : StoOnly u v) (id st : Nat) :
    loadReplied u (loadRsp v c id st) c id st ∧ (loadRsp v c id st).sto = v.sto ∧
      ∀ fl, fl.reg = R.STO_STAT → (loadRsp v c id st).fb fl = v.fb fl := by
  have after := h.reading.answers ans
  obtain ⟨sto, regs⟩ := colSend_sending after.lt after.stands after.clear 0x33 (leBytes id 4 ++ leBytes st 4)
  refine ⟨h.colSent (after.sends 0x33 _), sto, fun fl hfl => ?_⟩
  have kept : (loadRsp v c id st).rd fl.reg = v.rd fl.reg := by
    rw [hfl]
    exact regs.rd (not_sendReg_low (by decide))
  simp only [State.fb, State.f, kept]

/-! ### A load message reaches what it does -/

theorem tlLoad_taken {type : Nat} (h : fromColumn s type f c) (body : State → Nat → Nat → List Nat → State) :
    tlLoad (tlHeard s f) f body = if tlMay s f 3 then body (tlTaken s c f) c (payWord (natBytes f.payload) 0) (natBytes f.payload)
      else loadRsp (tlTaken s c f) c (payWord (natBytes f.payload) 0) 2 := by
  unfold tlLoad
  dsimp only
  rw [tlForColumn_taken h, tlMay_taken h]

/-! ### The target bank -/

theorem cellsGet_cellsWriteBytes {m : List Host.Cell} (wf : Memory.wf m = true) (a : Nat) (bs : List Byte) (k : Nat) :
    cellsGet (cellsWriteBytes m a bs) k = if a ≤ k ∧ k < a + bs.length then bs.getD (k - a) 0 else cellsGet m k := by
  induction bs generalizing m a with
  | nil => rw [if_neg (by simp only [List.length_nil]; omega)]; rfl
  | cons b bs ih =>
    rw [cellsWriteBytes, ih (Memory.wf_cellsPut wf _ _), cellsGet_cellsPut wf, List.length_cons]
    rcases Nat.lt_trichotomy k a with lt | rfl | gt
    · rw [if_neg (by omega), if_neg (by omega), if_neg (by omega)]
    · rw [if_neg (by omega), if_pos rfl, if_pos (by omega), Nat.sub_self]
      rfl
    · rw [if_neg (by omega : ¬ a = k), show k - a = (k - (a + 1)) + 1 by omega, List.getD_cons_succ]
      exact if_congr (by omega) rfl rfl

theorem setBank_bank (x : StoX) (b : Bool) (k : Bank) : (x.setBank b k).bank b = k := by
  cases b <;> rfl

theorem setBank_other (x : StoX) (b : Bool) (k : Bank) : (x.setBank b k).bank (!b) = x.bank (!b) := by
  cases b <;> rfl

theorem setBank_marks (x : StoX) (b : Bool) (k : Bank) : (x.setBank b k).marks = x.marks := by
  cases b <;> rfl

theorem setBank_load (x : StoX) (b : Bool) (k : Bank) : (x.setBank b k).load = x.load := by
  cases b <;> rfl

theorem setF_sto (s : State) (fl : Fld) (v i j : Nat) : (s.setF fl v i j).sto = s.sto := rfl

theorem setSto_sto (s : State) (x : StoX) : (s.setSto x).sto = x := rfl

theorem stoOpen_only (s : State) (b : Bool) : StoOnly s (stoOpen s b) := by
  unfold stoOpen
  split
  · exact StoOnly.refl s
  · exact (StoOnly.setSto s (setBank_marks _ _ _)).trans (StoOnly.setF _ _ rfl)

theorem stoOpen_opens (s : State) (b : Bool) : (stoOpen s b).fb F.STO_STAT_OPEN = true := by
  unfold stoOpen
  split
  next opened => exact opened
  · exact State.fb_setF_same _ F.STO_STAT_OPEN 1 0 0 (by decide) (by decide)

theorem stoOpen_load (s : State) (b : Bool) : (stoOpen s b).sto.load = s.sto.load := by
  unfold stoOpen
  split
  · rfl
  · exact setBank_load _ _ _

theorem stoOpen_cells (s : State) (b : Bool) : ((stoOpen s b).sto.bank b).cells = (s.sto.bank b).cells := by
  unfold stoOpen
  split
  · rfl
  · rw [setF_sto, setSto_sto, setBank_bank]

theorem stoOpen_other (s : State) (b : Bool) : (stoOpen s b).sto.bank (!b) = s.sto.bank (!b) := by
  unfold stoOpen
  split
  · rfl
  · exact setBank_other s.sto b _

theorem setDirty_marks (x : StoX) (b : Bool) (d : Dirty) : (x.setDirty b d).marks = x.marks ∧ (x.setDirty b d).commit = x.commit := by
  cases b <;> exact ⟨rfl, rfl⟩

theorem unload_marks (x : StoX) : ({ x with load := none } : StoX).marks = x.marks ∧ ({ x with load := none } : StoX).commit = x.commit :=
  ⟨rfl, rfl⟩

/-- The store after an open load has ended. -/
def unloaded (x : StoX) : StoX := { x.setDirty x.targetB { x.dirtyT with image := true } with load := none }

theorem unloaded_marks (x : StoX) : (unloaded x).marks = x.marks ∧ (unloaded x).commit = x.commit := by
  obtain ⟨marks, commit⟩ := setDirty_marks x x.targetB { x.dirtyT with image := true }
  obtain ⟨marks', commit'⟩ := unload_marks (x.setDirty x.targetB { x.dirtyT with image := true })
  exact ⟨marks'.trans marks, commit'.trans commit⟩

theorem loadAbort_eq (s : State) : loadAbort s =
    if s.sto.load = none then s else (s.setSto (unloaded s.sto)).setF F.STO_STAT_LOADOPEN 0 := by
  unfold loadAbort
  cases s.sto.load <;> rfl

theorem loadAbort_only (s : State) : StoOnly s (loadAbort s) := by
  rw [loadAbort_eq]
  split
  · exact StoOnly.refl s
  · exact (StoOnly.setSto s (unloaded_marks s.sto).1).trans (StoOnly.setF _ _ rfl)

theorem loadAbort_load (s : State) : (loadAbort s).sto.load = none ∧ (loadAbort s).sto.commit = s.sto.commit := by
  rw [loadAbort_eq]
  split
  next none => exact ⟨none, rfl⟩
  · rw [setF_sto, setSto_sto]
    exact ⟨rfl, (unloaded_marks s.sto).2⟩

theorem loadAbort_shows {l : LoadX} (h : s.sto.load = some l) : (loadAbort s).fb F.STO_STAT_LOADOPEN = false := by
  rw [loadAbort_eq, if_neg (by rw [h]; nofun)]
  exact State.fb_setF_same _ F.STO_STAT_LOADOPEN 0 0 0 (by decide) (by decide)

end
end Sys2Proof.Machine

namespace Sys2Proof.Machine

open Sys2Proof.Claims

section
variable {s t u v : State} {f : TlFrame} {c : Nat}

/-! ### The host's accesses (R474, R475) -/

/-- A word of Frame SRAM outside enabled rings. -/
def hostFrame (u : State) (a : Nat) : Prop := a % 4 = 0 ∧ a < 0x800000 ∧ u.inRing a 4 = false

/-- A word of register space outside the Rods' own window. -/
def hostRegs (a : Nat) : Prop := a % 4 = 0 ∧ 0x10000000 ≤ a ∧ a < 0x70000000 ∧ ¬ (0x1100F000 ≤ a ∧ a < 0x1100F100)

theorem hostRegSpace_iff (a : Nat) : hostRegSpace a = true ↔ 0x10000000 ≤ a ∧ a < 0x70000000 ∧ ¬ (0x1100F000 ≤ a ∧ a < 0x1100F100) := by
  simp only [hostRegSpace, Bool.and_eq_true, decide_eq_true_eq, Bool.not_eq_true', Bool.and_eq_false_iff, decide_eq_false_iff_not]
  omega

theorem hostAccess_nowhere {a : Nat} (frame : ¬ hostFrame u a) (regs : ¬ hostRegs a) :
    hostRead u a = (0, 1, u) ∧ ∀ v, hostWrite u a v = (1, u) := by
  by_cases whole : a % 4 = 0
  · by_cases low : a < 0x800000
    · have ring : u.inRing a 4 = true := Bool.not_eq_false _ ▸ fun h => frame ⟨whole, low, h⟩
      simp [hostRead, hostWrite, whole, low, ring]
    · have none : hostRegSpace a = false := Bool.eq_false_iff.mpr fun h => regs ⟨whole, (hostRegSpace_iff a).mp h⟩
      simp [hostRead, hostWrite, whole, low, none]
  · simp [hostRead, hostWrite, whole]

theorem hostAccess_regs {a : Nat} (h : hostRegs a) : hostRead u a = ((readAddr a u).1.toNat, 0, (readAddr a u).2) ∧
    ∀ v, hostWrite u a v = (0, writeAddr .host a v u) := by
  obtain ⟨whole, space⟩ := h
  have high : ¬ a < 0x800000 := by omega
  have regs := (hostRegSpace_iff a).mpr space
  simp [hostRead, hostWrite, whole, high, regs]

theorem hostAccess_frame {a : Nat} (h : hostFrame u a) (sound : tabFind u.beadErr (a / 16) = none) :
    hostRead u a = (cellsRead u.frame a 4, 0, u) ∧ ∀ v, hostWrite u a v = (0, { u with frame := cellsWrite u.frame a 4 v.toNat }) := by
  obtain ⟨whole, low, ring⟩ := h
  have checked : beadCheck u (a / 16) = (false, u) := by rw [beadCheck, sound]
  simp [hostRead, hostWrite, whole, low, ring, checked]

theorem hostAccess_poisoned {a : Nat} (h : hostFrame u a) (bad : tabFind u.beadErr (a / 16) = some .poisoned) :
    (hostRead u a).1 = 0 ∧ (hostRead u a).2.1 = 2 ∧ ∀ v, (hostWrite u a v).1 = 2 := by
  obtain ⟨whole, low, ring⟩ := h
  have checked : beadCheck u (a / 16) = (true, poisonEvent u (a / 16) 2) := by rw [beadCheck, bad]
  simp [hostRead, hostWrite, whole, low, ring, checked]

/-! ### Load messages that are refused (R478) -/

theorem load_refused (m : Instr × Nat) (hm : m ∈ [(Instr.loadBegin f, 0x30), (.loadData f, 0x31), (.loadCommit f, 0x32)])
    (h : fromColumn s m.2 f c) (fits : tlLenOk m.2 f.payload.length = true) (no : tlMay s f 3 = false) (clear : keyClear s (tlKey f)) :
    goesTo m.1 s fun t => ∃ u, took s u c f ∧ loadReplied u t c (payWord (natBytes f.payload) 0) 2 ∧ t.sto = s.sto := by
  have replied {type : Nat} (h : fromColumn s type f c) :
      ∃ u, took s u c f ∧ loadReplied u (loadRsp (tlTaken s c f) c (payWord (natBytes f.payload) 0) 2) c (payWord (natBytes f.payload) 0) 2 ∧
        (loadRsp (tlTaken s c f) c (payWord (natBytes f.payload) 0) 2).sto = s.sto := by
    have comes := fromColumn_comes h
    obtain ⟨reply, sto, -⟩ := loadRsp_replies (tlTaken_answers h clear) (StoOnly.refl _) (payWord (natBytes f.payload) 0) 2
    exact ⟨_, tlTaken_took comes, reply, sto.trans (tlTaken_sto comes).1⟩
  have refused {type : Nat} (h : fromColumn s type f c) (body : State → Nat → Nat → List Nat → State) :
      tlLoad (tlHeard s f) f body = loadRsp (tlTaken s c f) c (payWord (natBytes f.payload) 0) 2 := by
    rw [tlLoad_taken h, no]
    rfl
  simp only [List.mem_cons, List.not_mem_nil, or_false] at hm
  rcases hm with rfl | rfl | rfl
  · refine goesTo_column h rfl rfl ?_
    rw [tlMessage_loadBegin (tlFrame_column h).2 fits, tlLoadBegin, refused h]
    exact replied h
  · refine goesTo_column h rfl rfl ?_
    rw [tlMessage_loadData (tlFrame_column h).2 fits, tlLoadData, refused h]
    exact replied h
  · refine goesTo_column h rfl rfl ?_
    rw [tlMessage_loadCommit (tlFrame_column h).2 fits, tlLoadCommit, refused h]
    exact replied h

end
end Sys2Proof.Machine

namespace Sys2Proof.Machine

open Sys2Proof.Claims

section
variable {s t u v : State} {f : TlFrame} {c : Nat}

/-! ### LOAD_DATA and LOAD_COMMIT without a load of the Column's own (R478) -/

theorem isSome_eq {α : Type} {o : Option α} (h : o ≠ none) : o.isSome = true := Option.isSome_iff_ne_none.mpr h

/-- Another Column's load is open, or a commit runs, or there is no load. -/
def loadBarred (x : StoX) (c : Nat) : Prop := x.commit ≠ none ∨ ∀ l, x.load = some l → l.col ≠ c

/-- The status that such a message is answered. -/
def barredStatus (x : StoX) : Nat := if x.commit = none ∧ x.load = none then 6 else 1

theorem barred_none {x : StoX} (h : x.load = none) : barredStatus x = if x.commit.isSome then 1 else 6 := by
  unfold barredStatus
  cases x.commit <;> simp [h]

theorem barred_some {x : StoX} {l : LoadX} (h : x.load = some l) (barred : loadBarred x c) :
    (l.col ≠ c ∨ x.commit.isSome = true) ∧ barredStatus x = 1 := by
  have status : ¬ (x.commit = none ∧ x.load = none) := by
    rw [h]
    exact fun none => nomatch none.2
  exact ⟨barred.elim (fun busy => .inr (isSome_eq busy)) fun other => .inl (other l h), if_neg status⟩

theorem loadData_barred (h : fromColumn s 0x31 f c) (may : tlMay s f 3 = true) (barred : loadBarred s.sto c) :
    tlLoadData (tlHeard s f) f = loadRsp (tlTaken s c f) c (payWord (natBytes f.payload) 0) (barredStatus s.sto) := by
  have sto := (tlTaken_sto (fromColumn_comes h)).1
  rw [tlLoadData, tlLoad_taken h, if_pos may]
  dsimp only
  rw [sto]
  cases load : s.sto.load with
  | none => rw [barred_none load]
  | some l =>
    obtain ⟨bars, status⟩ := barred_some load barred
    dsimp only
    rw [status, if_pos bars]

theorem loadCommit_barred (h : fromColumn s 0x32 f c) (may : tlMay s f 3 = true) (barred : loadBarred s.sto c) :
    tlLoadCommit (tlHeard s f) f = loadRsp (tlTaken s c f) c (payWord (natBytes f.payload) 0) (barredStatus s.sto) := by
  have sto := (tlTaken_sto (fromColumn_comes h)).1
  rw [tlLoadCommit, tlLoad_taken h, if_pos may]
  dsimp only
  rw [sto]
  cases load : s.sto.load with
  | none => rw [barred_none load]
  | some l =>
    obtain ⟨bars, status⟩ := barred_some load barred
    dsimp only
    rw [status, if_pos bars]

theorem load_barred (m : Instr × Nat) (hm : m ∈ [(Instr.loadData f, 0x31), (.loadCommit f, 0x32)]) (h : fromColumn s m.2 f c)
    (fits : tlLenOk m.2 f.payload.length = true) (may : tlMay s f 3 = true) (clear : keyClear s (tlKey f)) (barred : loadBarred s.sto c) :
    goesTo m.1 s fun t => ∃ u, took s u c f ∧ t.sto = s.sto ∧
      loadReplied u t c (payWord (natBytes f.payload) 0) (barredStatus s.sto) := by
  have replied {type : Nat} (h : fromColumn s type f c) (st : Nat) :
      ∃ u, took s u c f ∧ (loadRsp (tlTaken s c f) c (payWord (natBytes f.payload) 0) st).sto = s.sto ∧
        loadReplied u (loadRsp (tlTaken s c f) c (payWord (natBytes f.payload) 0) st) c (payWord (natBytes f.payload) 0) st := by
    have comes := fromColumn_comes h
    obtain ⟨reply, sto, -⟩ := loadRsp_replies (tlTaken_answers h clear) (StoOnly.refl _) (payWord (natBytes f.payload) 0) st
    exact ⟨_, tlTaken_took comes, sto.trans (tlTaken_sto comes).1, reply⟩
  simp only [List.mem_cons, List.not_mem_nil, or_false] at hm
  rcases hm with rfl | rfl
  · refine goesTo_column h rfl rfl ?_
    rw [tlMessage_loadData (tlFrame_column h).2 fits, loadData_barred h may barred]
    exact replied h _
  · refine goesTo_column h rfl rfl ?_
    rw [tlMessage_loadCommit (tlFrame_column h).2 fits, loadCommit_barred h may barred]
    exact replied h _

/-! ### LOAD_BEGIN (R478, R502) -/

/-- A load of Column `c` open. -/
def loadOpened (s : State) (c size : Nat) : State :=
  (s.setSto { s.sto with load := some ⟨c, size⟩ }).setF F.STO_STAT_LOADOPEN 1

theorem loadOpened_only (s : State) (c size : Nat) : StoOnly s (loadOpened s c size) :=
  (StoOnly.setSto s (x := { s.sto with load := some ⟨c, size⟩ }) rfl).trans (StoOnly.setF _ _ rfl)

theorem loadOpened_load (s : State) (c size : Nat) : (loadOpened s c size).sto.load = some ⟨c, size⟩ := rfl

theorem loadOpened_shows (s : State) (c size : Nat) : (loadOpened s c size).fb F.STO_STAT_LOADOPEN = true :=
  State.fb_setF_same _ F.STO_STAT_LOADOPEN 1 0 0 (by decide) (by decide)

/-- What LOAD_BEGIN does in the state in which it is taken. -/
def loadBegun (u : State) (c id size : Nat) : State :=
  if (u.sto.load.map fun l => l.col != c).getD false || u.sto.commit.isSome then loadRsp u c id 1
  else if 0x400000 < size then loadRsp (loadAbort u) c id 3
  else loadRsp (loadOpened (loadAbort u) c size) c id 0

theorem loadBusy_iff (x : StoX) (c : Nat) : ((x.load.map fun l => l.col != c).getD false || x.commit.isSome) = true ↔
    (∃ l, x.load = some l ∧ l.col ≠ c) ∨ x.commit ≠ none := by
  cases x.load <;> cases x.commit <;> simp

theorem loadBegin_taken (h : fromColumn s 0x30 f c) (may : tlMay s f 3 = true) : tlLoadBegin (tlHeard s f) f =
    loadBegun (tlTaken s c f) c (payWord (natBytes f.payload) 0) (payWord (natBytes f.payload) 1) := by
  rw [tlLoadBegin, tlLoad_taken h, if_pos may]
  rfl

theorem loadBegin_begins (h : fromColumn s 0x30 f c) (may : tlMay s f 3 = true) (clear : keyClear s (tlKey f)) (len : f.payload.length = 8) :
    let id := payWord (natBytes f.payload) 0
    let size := payWord (natBytes f.payload) 1
    let busy := (∃ l, s.sto.load = some l ∧ l.col ≠ c) ∨ s.sto.commit ≠ none
    goesTo (.loadBegin f) s fun t => ∃ u, took s u c f ∧
      (busy → loadReplied u t c id 1 ∧ t.sto = s.sto) ∧
      (¬ busy → 0x400000 < size → loadReplied u t c id 3 ∧ t.sto.load = none) ∧
      (¬ busy → size ≤ 0x400000 → loadReplied u t c id 0 ∧ t.sto.load = some ⟨c, size⟩ ∧ t.fb F.STO_STAT_LOADOPEN = true) := by
  intro id size busy
  have comes := fromColumn_comes h
  have sto := (tlTaken_sto comes).1
  have ans := tlTaken_answers h clear
  have fits : tlLenOk 0x30 f.payload.length = true := by simp [tlLenOk, len]
  refine goesTo_column h rfl rfl ⟨tlTaken s c f, tlTaken_took comes, ?_⟩
  rw [tlMessage_loadBegin (tlFrame_column h).2 fits, loadBegin_taken h may, loadBegun, sto]
  refine ⟨fun is => ?_, fun free exceeds => ?_, fun free within => ?_⟩
  · rw [if_pos ((loadBusy_iff s.sto c).mpr is)]
    obtain ⟨reply, kept, -⟩ := loadRsp_replies ans (StoOnly.refl _) id 1
    exact ⟨reply, kept.trans sto⟩
  · rw [if_neg fun is => free ((loadBusy_iff s.sto c).mp is), if_pos exceeds]
    obtain ⟨reply, kept, -⟩ := loadRsp_replies ans (loadAbort_only _) id 3
    exact ⟨reply, (congrArg StoX.load kept).trans (loadAbort_load _).1⟩
  · rw [if_neg fun is => free ((loadBusy_iff s.sto c).mp is), if_neg (Nat.not_lt.mpr within)]
    obtain ⟨reply, kept, shown⟩ := loadRsp_replies ans ((loadAbort_only _).trans (loadOpened_only _ c size)) id 0
    exact ⟨reply, (congrArg StoX.load kept).trans (loadOpened_load _ c size), (shown _ rfl).trans (loadOpened_shows _ c size)⟩

/-! ### LOAD_DATA of the open load (R478, R502) -/

/-- Bytes in the target bank. -/
def bankWritten (s : State) (b : Bool) (off : Nat) (bytes : List Byte) : State :=
  s.setSto (s.sto.setBank b { s.sto.bank b with cells := cellsWriteBytes (s.sto.bank b).cells off bytes })

theorem bankWritten_only (s : State) (b : Bool) (off : Nat) (bytes : List Byte) : StoOnly s (bankWritten s b off bytes) :=
  StoOnly.setSto s (setBank_marks _ _ _)

theorem bankWritten_load (s : State) (b : Bool) (off : Nat) (bytes : List Byte) : (bankWritten s b off bytes).sto.load = s.sto.load :=
  setBank_load _ _ _

theorem bankWritten_cells (s : State) (b : Bool) (off : Nat) (bytes : List Byte) :
    ((bankWritten s b off bytes).sto.bank b).cells = cellsWriteBytes (s.sto.bank b).cells off bytes := by
  rw [bankWritten, setSto_sto, setBank_bank]

theorem bankWritten_other (s : State) (b : Bool) (off : Nat) (bytes : List Byte) :
    (bankWritten s b off bytes).sto.bank (!b) = s.sto.bank (!b) := setBank_other _ _ _

theorem payload_bytes (l : List Byte) : ((natBytes l).drop 8).map (BitVec.ofNat 8) = l.drop 8 := by
  rw [natBytes, ← List.map_drop, List.map_map]
  refine (List.map_congr_left fun b _ => ?_).trans (List.map_id _)
  exact BitVec.ofNat_toNat ..

/-- What LOAD_DATA does in the state in which it is taken. -/
def loadFilled (u : State) (f : TlFrame) (c id off : Nat) (l : LoadX) : State :=
  if l.size < off + (f.payload.length - 8) then loadRsp (loadAbort u) c id 3
  else if (f.payload.length - 8) % 16 ≠ 0 ∧ off + (f.payload.length - 8) ≠ l.size then netDrop u (portCode f.port)
  else loadRsp (bankWritten (stoOpen u u.sto.targetB) u.sto.targetB off (f.payload.drop 8)) c id 0

theorem loadData_taken (h : fromColumn s 0x31 f c) (may : tlMay s f 3 = true) {l : LoadX} (load : s.sto.load = some l)
    (own : l.col = c) (idle : s.sto.commit = none) : tlLoadData (tlHeard s f) f =
      loadFilled (tlTaken s c f) f c (payWord (natBytes f.payload) 0) (payWord (natBytes f.payload) 1) l := by
  have sto := (tlTaken_sto (fromColumn_comes h)).1
  have free : ¬ (l.col ≠ c ∨ s.sto.commit.isSome = true) := by simp [own, idle]
  have len : ((natBytes f.payload).drop 8).length = f.payload.length - 8 := by simp [natBytes]
  rw [tlLoadData, tlLoad_taken h, if_pos may]
  dsimp only
  rw [sto, load]
  dsimp only
  rw [if_neg free, payload_bytes, len, ← sto]
  rfl

theorem loadData_fills (h : fromColumn s 0x31 f c) (may : tlMay s f 3 = true) (clear : keyClear s (tlKey f)) (lo : 24 ≤ f.payload.length)
    (hi : f.payload.length ≤ 1032) {l : LoadX} (load : s.sto.load = some l) (own : l.col = c) (idle : s.sto.commit = none) :
    let id := payWord (natBytes f.payload) 0
    let off := payWord (natBytes f.payload) 1
    let len := f.payload.length
    goesTo (.loadData f) s fun t => ∃ u, took s u c f ∧
      (l.size < off + (len - 8) → loadReplied u t c id 3 ∧ t.sto.load = none) ∧
      (off + (len - 8) ≤ l.size → (len - 8) % 16 = 0 ∨ off + (len - 8) = l.size →
        Memory.wf (s.sto.bank s.sto.targetB).cells = true →
        loadReplied u t c id 0 ∧ t.sto.load = some l ∧ t.fb F.STO_STAT_OPEN = true ∧
          (∀ a, cellsGet (t.sto.bank s.sto.targetB).cells a =
            if off ≤ a ∧ a < off + (len - 8) then (f.payload.drop 8).getD (a - off) 0
            else cellsGet (s.sto.bank s.sto.targetB).cells a) ∧
          t.sto.bank (!s.sto.targetB) = s.sto.bank (!s.sto.targetB)) := by
  intro id off len
  have comes := fromColumn_comes h
  have sto := (tlTaken_sto comes).1
  have ans := tlTaken_answers h clear
  have fits : tlLenOk 0x31 f.payload.length = true := by simp [tlLenOk, lo, hi]
  refine goesTo_column h rfl rfl ⟨tlTaken s c f, tlTaken_took comes, ?_⟩
  rw [tlMessage_loadData (tlFrame_column h).2 fits, loadData_taken h may load own idle, loadFilled, sto]
  refine ⟨fun exceeds => ?_, fun within ends wf => ?_⟩
  · rw [if_pos exceeds]
    obtain ⟨reply, kept, -⟩ := loadRsp_replies ans (loadAbort_only _) id 3
    exact ⟨reply, (congrArg StoX.load kept).trans (loadAbort_load _).1⟩
  · rw [if_neg (Nat.not_lt.mpr within), if_neg fun h => ends.elim h.1 h.2]
    generalize s.sto.targetB = b at wf ⊢
    obtain ⟨reply, kept, shown⟩ := loadRsp_replies ans
      ((stoOpen_only (tlTaken s c f) b).trans (bankWritten_only _ b off (f.payload.drop 8))) id 0
    refine ⟨reply, ?_, (shown _ rfl).trans (stoOpen_opens _ b), fun a => ?_, ?_⟩
    · rw [kept, bankWritten_load, stoOpen_load, sto, load]
    · rw [kept, bankWritten_cells, stoOpen_cells, sto, cellsGet_cellsWriteBytes wf, List.length_drop]
    · rw [kept, bankWritten_other, stoOpen_other, sto]

end
end Sys2Proof.Machine

namespace Sys2Proof.Machine

open Sys2Proof.Claims

section
variable {s t u v : State} {f : TlFrame} {c : Nat}

/-! ### LOAD_COMMIT of the open load (R478, R504) -/

/-- The open load closed. -/
def loadClosed (s : State) : State := (s.setSto { s.sto with load := none }).setF F.STO_STAT_LOADOPEN 0

theorem loadClosed_only (s : State) : StoOnly s (loadClosed s) :=
  (StoOnly.setSto s (x := { s.sto with load := none }) rfl).trans (StoOnly.setF _ _ rfl)

theorem loadClosed_sto (s : State) : (loadClosed s).sto = { s.sto with load := none } := rfl

theorem unload_target (x : StoX) : ({ x with load := none } : StoX).targetB = x.targetB := rfl

theorem loadClosed_shows (s : State) : (loadClosed s).fb F.STO_STAT_LOADOPEN = false :=
  State.fb_setF_same _ F.STO_STAT_LOADOPEN 0 0 0 (by decide) (by decide)

theorem stoOpen_fb (s : State) (b : Bool) {fl : Fld} (r : F.STO_STAT_OPEN.reg = fl.reg) (h : fl.hi < 32)
    (d : fl.hi < F.STO_STAT_OPEN.lo ∨ F.STO_STAT_OPEN.hi < fl.lo) : (stoOpen s b).fb fl = s.fb fl := by
  unfold stoOpen
  split
  · rfl
  · exact State.fb_setF_beside _ 1 0 0 r (by decide) h d

/-- A commit set up, in a state whose target is opened. -/
def commitSet (s : State) (b : Bool) (load : Option LoadReq) : State :=
  (s.setF F.STO_STAT_BUSY 1).setSto { s.sto with
    commit := some { key := false, bankB := b, start := s.elapsed, content := s.sto.work, load := load,
                     pages := (if b then s.sto.dirtyB else s.sto.dirtyA).list.filter fun p => decide (1024 ≤ p) || load.isNone } }

theorem commitStart_eq (s : State) (load : Option LoadReq) :
    commitStart s load = commitSet (stoOpen s s.sto.targetB) s.sto.targetB load := rfl

theorem commitSet_only (s : State) (b : Bool) (load : Option LoadReq) : StoOnly s (commitSet s b load) :=
  (StoOnly.setF (fl := F.STO_STAT_BUSY) s 1 rfl).trans (StoOnly.setSto _ rfl)

theorem commitSet_commit (s : State) (b : Bool) (load : Option LoadReq) : ∃ x, (commitSet s b load).sto.commit = some x ∧
    x.key = false ∧ x.bankB = b ∧ x.start = s.elapsed ∧ x.load = load := ⟨_, rfl, rfl, rfl, rfl, rfl⟩

theorem commitSet_load (s : State) (b : Bool) (load : Option LoadReq) : (commitSet s b load).sto.load = s.sto.load := rfl

theorem commitSet_busy (s : State) (b : Bool) (load : Option LoadReq) : (commitSet s b load).fb F.STO_STAT_BUSY = true :=
  State.fb_setF_same s F.STO_STAT_BUSY 1 0 0 (by decide) (by decide)

theorem commitSet_loadOpen (s : State) (b : Bool) (load : Option LoadReq) :
    (commitSet s b load).fb F.STO_STAT_LOADOPEN = s.fb F.STO_STAT_LOADOPEN :=
  State.fb_setF_beside s (fl := F.STO_STAT_BUSY) (fl' := F.STO_STAT_LOADOPEN) 1 0 0 rfl (by decide) (by decide) (by decide)

/-- What LOAD_COMMIT does in the state in which it is taken. -/
def loadCommitted (u : State) (c id : Nat) (act : Bool) (l : LoadX) : State :=
  if imageOk ((u.sto.bank u.sto.targetB).cells.filter fun x => decide (x.1 < 0x400000)) (some l.size) then
    commitStart (loadClosed u) (some ⟨c, id, act⟩)
  else loadRsp (loadAbort u) c id 3

theorem loadCommit_taken (h : fromColumn s 0x32 f c) (may : tlMay s f 3 = true) {l : LoadX} (load : s.sto.load = some l)
    (own : l.col = c) (idle : s.sto.commit = none) : tlLoadCommit (tlHeard s f) f =
      loadCommitted (tlTaken s c f) c (payWord (natBytes f.payload) 0) (payWord (natBytes f.payload) 1 % 2 == 1) l := by
  have sto := (tlTaken_sto (fromColumn_comes h)).1
  have free : ¬ (l.col ≠ c ∨ s.sto.commit.isSome = true) := by simp [own, idle]
  rw [tlLoadCommit, tlLoad_taken h, if_pos may, loadCommitted, loadClosed]
  dsimp only
  rw [sto, load]
  exact if_neg free

theorem loadCommit_commits (h : fromColumn s 0x32 f c) (may : tlMay s f 3 = true) (clear : keyClear s (tlKey f))
    (len : f.payload.length = 8) {l : LoadX} (load : s.sto.load = some l) (own : l.col = c) (idle : s.sto.commit = none) :
    let id := payWord (natBytes f.payload) 0
    let image := (s.sto.bank s.sto.targetB).cells.filter fun x => decide (x.1 < 0x400000)
    goesTo (.loadCommit f) s fun t => ∃ u, took s u c f ∧ t.sto.load = none ∧ t.fb F.STO_STAT_LOADOPEN = false ∧
      (imageOk image (some l.size) = true → t.fb F.STO_STAT_BUSY = true ∧ t.sent = u.sent ∧
        ∃ x, t.sto.commit = some x ∧ x.key = false ∧ x.bankB = s.sto.targetB ∧ x.start = s.elapsed ∧
          x.load = some ⟨c, id, payWord (natBytes f.payload) 1 % 2 == 1⟩) ∧
      (imageOk image (some l.size) = false → loadReplied u t c id 3 ∧ t.sto.commit = s.sto.commit) := by
  intro id image
  have comes := fromColumn_comes h
  obtain ⟨sto, elapsed⟩ := tlTaken_sto comes
  have ans := tlTaken_answers h clear
  have fits : tlLenOk 0x32 f.payload.length = true := by simp [tlLenOk, len]
  refine goesTo_column h rfl rfl ⟨tlTaken s c f, tlTaken_took comes, ?_⟩
  rw [tlMessage_loadCommit (tlFrame_column h).2 fits, loadCommit_taken h may load own idle, loadCommitted, sto]
  cases ok : imageOk image (some l.size) with
  | true =>
    rw [if_pos rfl, commitStart_eq, loadClosed_sto, unload_target, sto]
    have opened := (loadClosed_only (tlTaken s c f)).trans (stoOpen_only _ s.sto.targetB)
    have all := opened.trans (commitSet_only _ s.sto.targetB (some ⟨c, id, payWord (natBytes f.payload) 1 % 2 == 1⟩))
    obtain ⟨x, commit, key, bank, start, req⟩ := commitSet_commit (stoOpen (loadClosed (tlTaken s c f)) s.sto.targetB) s.sto.targetB
      (some ⟨c, id, payWord (natBytes f.payload) 1 % 2 == 1⟩)
    refine ⟨?_, ?_, fun _ => ⟨commitSet_busy _ _ _, all.sent, x, commit, key, bank, start.trans (opened.elapsed.trans elapsed), req⟩, nofun⟩
    · rw [commitSet_load, stoOpen_load, loadClosed_sto]
    · rw [commitSet_loadOpen, stoOpen_fb _ _ (fl := F.STO_STAT_LOADOPEN) rfl (by decide) (by decide), loadClosed_shows]
  | false =>
    rw [if_neg Bool.false_ne_true]
    obtain ⟨reply, kept, shown⟩ := loadRsp_replies ans (loadAbort_only _) id 3
    obtain ⟨closed, commit⟩ := loadAbort_load (tlTaken s c f)
    refine ⟨(congrArg StoX.load kept).trans closed, (shown _ rfl).trans (loadAbort_shows (l := l) (by rw [sto, load])), nofun, fun _ => ⟨reply, ?_⟩⟩
    rw [kept, commit, sto]

end

/-- Settles O49: a frame of a Column that is heard is taken into its books, its host accesses run in order on what is taken, and each
answer leaves at once under the books of its Column; a load message changes the store alone beside. -/
theorem linkAccessesAndLoads : Obligations.LinkAccessesAndLoads := by
  refine ⟨fun u a => ⟨fun frame regs => hostAccess_nowhere frame regs, fun regs => hostAccess_regs regs,
    fun frame sound => hostAccess_frame frame sound, fun frame bad => hostAccess_poisoned frame bad⟩, ?_⟩
  intro f s c clear d len id
  exact ⟨fun h lo hi whole => regRead_answers h clear lo hi whole, fun h lo hi whole => regWrite_answers h clear lo hi whole,
    fun m hm h fits no => load_refused m hm h fits no clear,
    fun m hm h fits may barred => load_barred m hm h fits may clear barred,
    fun may h eight => loadBegin_begins h may clear eight,
    fun may h lo hi l load own idle => loadData_fills h may clear lo hi load own idle,
    fun may h eight l load own idle => loadCommit_commits h may clear eight load own idle⟩

end Sys2Proof.Machine

/-! What events, the outputs and FIRE_PERMIT leave of a reset and of a boot (R538, R541, R545, R552). -/

namespace Sys2Proof.Machine

open Sys2Proof.Claims

set_option Elab.async false

variable {s t u : State}

/-! ### What stays -/

/-- What stands behind SYS, but for the time of FIRE_PERMIT, the programs, the store, the times, the monitor and the queue. -/
def State.lateSide (s : State) : SysX × Tab Program × StoX × Nat × Nat × HltX × List Instr :=
  ({ s.sys with fireSince := none }, s.programs, s.sto, s.tbNow, s.elapsed, s.hlt, s.pending)

/-- The registers that events, Rods and units beyond the Frame domain may change; of a ring's, its books alone. -/
def lateReg (a : Nat) : Prop :=
  a = R.SYS_STAT.addr ∨ a = R.SYS_HELD.addr ∨ a = R.SYS_HELDM.addr ∨ a = R.STO_LOGLOST.addr ∨ a = R.STO_STAT.addr ∨
    (0x11001000 ≤ a ∧ a < 0x11010000) ∨ (0x11010000 ≤ a ∧ a < 0x11010800 ∧ 8 ≤ a % 0x40) ∨ 0x20000000 ≤ a

/-- A flag of SYS_STAT other than FIRE and FIREDROP_SEEN. -/
def lateFlag (fl : Fld) : Prop := fl.reg = R.SYS_STAT ∧ fl.hi < 32 ∧ (fl.hi < 3 ∨ 3 < fl.lo) ∧ (fl.hi < 18 ∨ 18 < fl.lo)

/-- From `s` to `t` only such registers have changed, and FIRE_PERMIT has at most opened. -/
structure Late (s t : State) : Prop where
  side : t.lateSide = s.lateSide
  regs : RegsBut lateReg s t
  flags : ∀ fl, lateFlag fl → t.fb fl = s.fb fl
  shut : s.fb F.SYS_STAT_FIRE = false → t.fb F.SYS_STAT_FIRE = false

namespace Late

theorem refl (s : State) : Late s s := ⟨rfl, RegsBut.refl s, fun _ _ => rfl, id⟩

theorem trans (h : Late s t) (h' : Late t u) : Late s u :=
  ⟨h'.side.trans h.side, h.regs.trans h'.regs, fun fl hf => (h'.flags fl hf).trans (h.flags fl hf), fun x => h'.shut (h.shut x)⟩

/-- A change that leaves SYS_STAT. -/
theorem plain (side : t.lateSide = s.lateSide) (regs : RegsBut lateReg s t) (stat : t.rd R.SYS_STAT = s.rd R.SYS_STAT) : Late s t := by
  have flag (fl : Fld) (h : fl.reg = R.SYS_STAT) : t.fb fl = s.fb fl := by simp only [State.fb, State.f, h, stat]
  exact ⟨side, regs, fun fl hf => flag fl hf.1, fun h => (flag _ rfl).trans h⟩

/-- A change beside the registers. -/
theorem beside (h : Late s t) (hx : u.lateSide = t.lateSide) (hr : u.regs = t.regs) : Late s u :=
  h.trans (plain hx ((RegsBut.refl t).of_regs hr) (by simp only [State.rd, hr]))

theorem at' (h : Late s t) {d : RegDesc} {v : Word} {i j : Nat} (hp : lateReg (d.addr i j)) (ne : d.addr i j ≠ R.SYS_STAT.addr) :
    Late s (t.wr d v i j) :=
  h.trans (plain rfl ((RegsBut.refl t).wr hp) (State.rd_wr_ne t ne))

/-- A register of a unit beyond the Frame domain. -/
theorem wr (h : Late s t) {d : RegDesc} {v : Word} {i j : Nat} (hd : 0x20000000 ≤ d.base := by decide) : Late s (t.wr d v i j) := by
  refine h.at' ?_ ?_
  · simp only [lateReg, RegDesc.addr]; omega
  · simp only [RegDesc.addr, R.SYS_STAT]; omega

theorem fieldAt (h : Late s t) {fl : Fld} {v i j : Nat} (hp : lateReg (fl.reg.addr i j)) (ne : fl.reg.addr i j ≠ R.SYS_STAT.addr) :
    Late s (t.setF fl v i j) :=
  (h.at' (v := putBits (t.rd fl.reg i j) fl.hi fl.lo v) (i := i) (j := j) hp ne).beside rfl rfl

theorem setF (h : Late s t) {fl : Fld} {v i j : Nat} (hd : 0x20000000 ≤ fl.reg.base := by decide) : Late s (t.setF fl v i j) :=
  (h.wr (v := putBits (t.rd fl.reg i j) fl.hi fl.lo v) (i := i) (j := j) hd).beside rfl rfl

/-- SYS_HELD and SYS_HELDM. -/
theorem held (h : Late s t) {d : RegDesc} {v : Word} (hd : d.addr = R.SYS_HELD.addr ∨ d.addr = R.SYS_HELDM.addr) :
    Late s (t.wr d v) :=
  h.at' (.inr (hd.elim .inl fun e => .inr (.inl e))) (hd.elim (fun e => by rw [e]; decide) fun e => by rw [e]; decide)

/-- A book of a ring. -/
theorem book (h : Late s t) {d : RegDesc} {n : Nat} {v : Word} (hn : n < 32) (lo : 0x11010008 ≤ d.base := by decide)
    (hi : d.base < 0x11010040 := by decide) (h1 : d.s1 = 0x40 := by rfl) (h2 : d.s2 = 0 := by rfl) : Late s (t.wr d v n) := by
  refine h.at' ?_ ?_
  · simp only [lateReg, RegDesc.addr, h1, h2, R.SYS_STAT, R.SYS_HELD, R.SYS_HELDM, R.STO_LOGLOST, R.STO_STAT]; omega
  · simp only [RegDesc.addr, h1, h2, R.SYS_STAT]; omega

/-- A register of a Rod. -/
theorem rodReg (h : Late s t) {d : RegDesc} {r : Nat} {v : Word} (hr : r < 16) (lo : 0x11001000 ≤ d.base := by decide)
    (hi : d.base < 0x11001100 := by decide) (h1 : d.s1 = 0x100 := by rfl) (h2 : d.s2 = 0 := by rfl) : Late s (t.wr d v r) := by
  refine h.at' ?_ ?_
  · simp only [lateReg, RegDesc.addr, h1, h2, R.SYS_STAT, R.SYS_HELD, R.SYS_HELDM, R.STO_LOGLOST, R.STO_STAT]; omega
  · simp only [RegDesc.addr, h1, h2, R.SYS_STAT]; omega

theorem ite {c : Prop} [Decidable c] (ht : Late s t) (hu : Late s u) : Late s (if c then t else u) := by
  split <;> assumption

theorem foldl {α : Type} {f : State → α → State} (l : List α) (hf : ∀ t, ∀ a ∈ l, Late t (f t a)) (s : State) :
    Late s (l.foldl f s) := by
  induction l generalizing s with
  | nil => exact refl s
  | cons a l ih =>
    exact (hf s a List.mem_cons_self).trans (ih (fun t b hb => hf t b (List.mem_cons_of_mem a hb)) (f s a))

theorem foldN {n : Nat} {f : State → Nat → State} (hf : ∀ t k, k < n → Late t (f t k)) (s : State) : Late s (foldN n f s) :=
  foldN_keeps (P := Late s) n (fun t k hk h => h.trans (hf t k hk)) s (refl s)

/-- A register that is none of these. -/
theorem rd (h : Late s t) {d : RegDesc} {i j : Nat} (hp : ¬ lateReg (d.addr i j)) : t.rd d i j = s.rd d i j := h.regs.rd hp

theorem sys (h : Late s t) : { t.sys with fireSince := none } = { s.sys with fireSince := none } := congrArg Prod.fst h.side
theorem programs (h : Late s t) : t.programs = s.programs := congrArg (·.2.1) h.side
theorem sto (h : Late s t) : t.sto = s.sto := congrArg (·.2.2.1) h.side
theorem tbNow (h : Late s t) : t.tbNow = s.tbNow := congrArg (·.2.2.2.1) h.side
theorem elapsed (h : Late s t) : t.elapsed = s.elapsed := congrArg (·.2.2.2.2.1) h.side
theorem hlt (h : Late s t) : t.hlt = s.hlt := congrArg (·.2.2.2.2.2.1) h.side
theorem pending (h : Late s t) : t.pending = s.pending := congrArg (·.2.2.2.2.2.2) h.side

end Late

/-! ### Events -/

theorem ringReserve_late {n : Nat} (hn : n < 32) (s : State) (rod : Option Nat) (dest : Nat) : Late s (ringReserve s n rod dest).2 :=
  have ring (u : State) (x : RingX) : Late u (u.setRing n x) := (Late.refl u).beside rfl rfl
  ((((Late.refl s).book hn).book hn).book hn).book hn |>.trans (ring _ _)

theorem ringCommitLoop_late {n : Nat} (hn : n < 32) (fuel : Nat) (s : State) : Late s (ringCommitLoop fuel s n) := by
  induction fuel generalizing s with
  | zero => exact Late.refl s
  | succ fuel ih =>
    have marked (x : RingX) : Late s (s.setRing n x) := (Late.refl s).beside rfl rfl
    unfold ringCommitLoop
    split
    · split
      · exact (((marked _).book hn).book hn).trans (ih _)
      · exact Late.refl s
    · exact Late.refl s

theorem putFrameBead_late (s : State) (a : Nat) (b : Bead) : Late s (s.putFrameBead a b) := (Late.refl s).beside rfl rfl

theorem ringCommit_late {n : Nat} (hn : n < 32) (s : State) : Late s (ringCommit s n) := ringCommitLoop_late hn _ s

theorem ringAdd_late {n : Nat} (hn : n < 32) (s : State) (b : Bead) (tag : Option Nat) : Late s (ringAdd s n b tag) := by
  have ring (u : State) (x : RingX) : Late u (u.setRing n x) := (Late.refl u).beside rfl rfl
  have placed (a : Nat) := (ringReserve_late hn s none 0).trans (putFrameBead_late _ a b)
  unfold ringAdd
  exact (((placed _).trans (ring _ _)).trans (ring _ _)).trans (ringCommit_late hn _)

theorem ringPost_late {n : Nat} (hn : n < 32) (s : State) (b : Bead) : Late s (ringPost s n b) :=
  (Late.refl s).ite ((ringAdd_late hn s b none).ite ((Late.refl s).book hn))

theorem trcTrigger_late (fuel : Nat) (s : State) (c cause : Nat) : Late s (trcTrigger fuel s c cause) := by
  induction fuel generalizing s c cause with
  | zero => exact Late.refl s
  | succ fuel ih =>
    have armed (u : State) (x : TrcX) : Late u (u.setTrc c x) := (Late.refl u).beside rfl rfl
    unfold trcTrigger
    split
    · exact ((Late.refl s).setF.setF.setF.trans (armed _ _)).trans (Late.foldN (fun t d _ => (ih t d 4).ite (Late.refl t)) _)
    · exact (Late.refl s).setF.ite (Late.refl s)

theorem trcEvent_late (s : State) (ring src code : Nat) : Late s (trcEvent s ring src code) := by
  unfold trcEvent
  split
  · exact Late.refl s
  · exact Late.foldN (fun t c _ => (trcTrigger_late 8 t c 3).ite (Late.refl t)) s

theorem event_late {n : Nat} (hn : n < 32) (s : State) (src code detail : Nat) (v : Word) : Late s (event s n src code detail v) :=
  (ringPost_late hn s _).trans (trcEvent_late _ _ _ _)

theorem logRecord_late (s : State) (kind : Nat) (payload : List Word) : Late s (logRecord s kind payload) := by
  have queued (l : List LogRec) : Late s { s with logQueue := l } := (Late.refl s).beside rfl rfl
  have lost : Late s (s.addR R.STO_LOGLOST 1) := (Late.refl s).at' (.inr (.inr (.inr (.inl rfl)))) (by decide)
  have noted : Late s ((s.addR R.STO_LOGLOST 1).setF F.STO_STAT_LOGLOST_SEEN 1) :=
    lost.fieldAt (.inr (.inr (.inr (.inr (.inl rfl))))) (by decide)
  exact (queued _).ite noted

theorem healthEvent_late (s : State) (idx pool code detail : Nat) (v : Word) : Late s (healthEvent s idx pool code detail v) :=
  (ringPost_late (by decide) s _).trans (logRecord_late _ _ _)

theorem modeEvent_late (s : State) (old : Nat) : Late s (modeEvent s old) := healthEvent_late _ _ _ _ _ _

end Sys2Proof.Machine

/-! What the outputs and loops leave as they end (R236, R538, R541, R542). -/

namespace Sys2Proof.Machine

open Sys2Proof.Claims

set_option Elab.async false

variable {s t u : State}

/-! ### Solenoids and FIRE_PERMIT -/

theorem Late.setSol (h : Late s t) (n : Nat) (x : SolX) : Late s (t.setSol n x) := h.beside rfl rfl
theorem Late.setLsw (h : Late s t) (n : Nat) (x : LswX) : Late s (t.setLsw n x) := h.beside rfl rfl
theorem Late.setMtr (h : Late s t) (n : Nat) (x : MtrX) : Late s (t.setMtr n x) := h.beside rfl rfl
theorem Late.setLpe (h : Late s t) (n : Nat) (x : LpeX) : Late s (t.setLpe n x) := h.beside rfl rfl

theorem solEvent_late (s : State) (n code detail : Nat) (v : Word) : Late s (solEvent s n code detail v) :=
  event_late (by decide) _ _ _ _ _

theorem solShow_late (s : State) (n phase : Nat) : Late s (solShow s n phase) :=
  Late.foldl _ (fun t _ _ => (Late.refl t).setF.setF) s

theorem solKeepMean_late (s : State) (n : Nat) : Late s (solKeepMean s n) := Late.foldl _ (fun t _ _ => (Late.refl t).wr) s

theorem solDecay_late (s : State) (n path : Nat) : Late s (solDecay s n path) :=
  Late.foldl _ (fun t _ _ => (Late.refl t).setSol _ _) s

theorem solMeasured_late (s : State) (n : Nat) : Late s (solMeasured s n) := (solEvent_late _ _ _ _ _).ite (Late.refl s)

theorem solNoPull_late (s : State) (n : Nat) : Late s (solNoPull s n) :=
  (Late.refl s).ite ((((Late.refl s).setSol _ _).setF.setF).trans (solEvent_late _ _ _ _ _))

theorem solDropBusy_late (s : State) (n : Nat) : Late s (solDropBusy s n) := (Late.refl s).setF.trans (solMeasured_late _ _)

theorem solSequence_late (s : State) (n : Nat) : Late s (solSequence s n) := by
  refine ((Late.refl s).setSol _ _).ite ?_
  split
  · next k _ => exact (((Late.refl s).setSol _ _).trans (solDropBusy_late _ k)).setSol _ _
  · exact solDropBusy_late s n

theorem solOff_late (s : State) (n path : Nat) : Late s (solOff s n path) := by
  have unpulled (u : State) : Late u (if u.f F.SOL_STAT_PHASE n = 1 then solNoPull u n else u) := (solNoPull_late u n).ite (Late.refl u)
  have captured (u : State) : Late u (if u.fb F.SOL_MEAS_DROP_EN n then solSequence u n else solMeasured u n) :=
    (solSequence_late u n).ite (solMeasured_late u n)
  have unqueued : Late s (s.setSol n { s.solX n with queued := none }) := (Late.refl s).setSol _ _
  refine Late.ite (Late.trans ?_ (captured _)) unqueued
  exact ((((unqueued.trans (unpulled _)).trans (solKeepMean_late _ n)).trans (solShow_late _ n 3)).setSol _ _).trans
    (solDecay_late _ n path)

theorem solFireDrop_late (s : State) : Late s (solFireDrop s) := Late.foldl _ (fun t n _ => solOff_late t n 2) s

/-- SYS_STAT shows FIRE_PERMIT open. -/
def fireShut (s : State) : State := (s.setF F.SYS_STAT_FIRE 0).setF F.SYS_STAT_FIREDROP_SEEN 1

theorem fireShut_late (s : State) : Late s (fireShut s) := by
  have regs : RegsBut lateReg s (fireShut s) :=
    ((RegsBut.refl s).setF (fl := F.SYS_STAT_FIRE) (.inl rfl)).setF (fl := F.SYS_STAT_FIREDROP_SEEN) (.inl rfl)
  have shut : (fireShut s).fb F.SYS_STAT_FIRE = false :=
    (State.fb_setF_beside (s.setF F.SYS_STAT_FIRE 0) (fl := F.SYS_STAT_FIREDROP_SEEN) (fl' := F.SYS_STAT_FIRE) 1 0 0 rfl
      (by decide) (by decide) (by decide)).trans (State.fb_setF_same s F.SYS_STAT_FIRE 0 0 0 (by decide) (by decide))
  refine ⟨rfl, regs, fun fl ⟨reg, hi, fire, drop⟩ => ?_, fun _ => shut⟩
  exact (State.fb_setF_beside (s.setF F.SYS_STAT_FIRE 0) (fl := F.SYS_STAT_FIREDROP_SEEN) (fl' := fl) 1 0 0 reg.symm (by decide) hi drop).trans
    (State.fb_setF_beside s (fl := F.SYS_STAT_FIRE) (fl' := fl) 0 0 0 reg.symm (by decide) hi fire)

theorem fireOpen_late (s : State) : Late s (fireOpen s) := by
  have told := (fireShut_late s).trans (healthEvent_late (fireShut s) 0 0 0xD3 0 (sysStat (fireShut s)))
  exact (told.trans (solFireDrop_late _)).ite told

theorem fireUpdate_late (s : State) : Late s (fireUpdate s) := by
  have timed (x : Option Nat) : Late s { s with sys := { s.sys with fireSince := x } } := (Late.refl s).beside rfl rfl
  unfold fireUpdate
  split
  · exact (Late.refl s).ite (timed _)
  · exact ((timed none).trans (fireOpen_late _)).ite (timed none)

theorem solStop_late (s : State) (n path : Nat) : Late s (solStop s n path) := ((Late.refl s).setSol _ _).trans (solOff_late _ _ _)

theorem solAllOff_late (s : State) : Late s (solAllOff s) :=
  Late.foldN (fun t n _ => ((Late.refl t).ite (solStop_late t n _)).setF) s

/-! ### Axes -/

theorem afFail_late (s : State) (n : Nat) : Late s (afFail s n) := by
  have judged : Late s { s with fan := { s.fan with afGood := tabDrop s.fan.afGood n } } := (Late.refl s).beside rfl rfl
  have told (u : State) : Late u (fanEvent (u.setF F.FAN_AFSTAT_AIRFLOW_OK 0) 0xB2 0 (word (afFailing (u.setF F.FAN_AFSTAT_AIRFLOW_OK 0)))) :=
    (Late.refl u).setF.trans (event_late (by decide) _ _ _ _ _)
  exact ((judged.trans (told _)).trans (fireUpdate_late _)).ite judged

theorem mtrGo_late (s : State) (n st gates : Nat) : Late s (mtrGo s n st gates) := by
  have gone (v : Nat) (x : MtrX) : Late s ((s.setF F.MTR_STAT_STATE v n).setMtr n x) := (Late.refl s).setF.setMtr _ _
  exact ((gone _ _).trans (afFail_late _ _)).ite (gone _ _)

theorem mtrHoldEnd_late (s : State) (n cause : Nat) : Late s (mtrHoldEnd s n cause) :=
  ((((Late.refl s).held (.inr rfl)).setMtr _ _).trans (healthEvent_late _ _ _ _ _ _)).ite (Late.refl s)

theorem mtrDisable_late (s : State) (n gates : Nat) : Late s (mtrDisable s n gates) :=
  ((Late.refl s).setF.trans (mtrGo_late _ _ _ _)).ite ((Late.refl s).setF.setMtr _ _)

theorem mtrSafeStop_late (s : State) : Late s (mtrSafeStop s) :=
  Late.foldN (fun t n _ => (mtrDisable_late t n 0).trans (mtrHoldEnd_late _ n 4)) s

theorem mtrRht_late (s : State) (vlogLost reset : Bool) : Late s (mtrRht s vlogLost reset) := by
  refine Late.foldN (fun t n _ => ?_) s
  have held : Late t (t.setMask R.SYS_HELDM n true) := (Late.refl t).held (.inr rfl)
  have freed : Late t (t.setMask R.SYS_HELDM n false) := (Late.refl t).held (.inr rfl)
  have off (g : Nat) := freed.trans (mtrDisable_late _ n g)
  dsimp only
  split
  · exact ((Late.refl t).ite (held.setMtr _ _)).ite ((Late.refl t).setMtr _ _)
  · exact ((off _).setMtr _ _).ite (off _)

/-! ### Load switches -/

theorem lswOff_late (s : State) (n : Nat) : Late s (lswOff s n) := ((Late.refl s).setLsw n _).setF

theorem lswDisable_late (s : State) (n : Nat) : Late s (lswDisable s n) := (lswOff_late s n).setF.setF

theorem lswHoldEnd_late (s : State) (n cause : Nat) : Late s (lswHoldEnd s n cause) :=
  (((Late.refl s).held (.inl rfl)).trans (healthEvent_late _ _ _ _ _ _)).ite (Late.refl s)

theorem lswSafeStop_late (s : State) : Late s (lswSafeStop s) :=
  Late.foldN (fun t n _ => (lswDisable_late t n).trans (lswHoldEnd_late _ n 4)) s

theorem lswRht_late (s : State) (allOff : Bool) : Late s (lswRht s allOff) := by
  refine Late.foldN (fun t n _ => ?_) s
  have held (x : LswX) : Late t ((t.setLsw n x).setMask R.SYS_HELD n true) := ((Late.refl t).setLsw n x).held (.inl rfl)
  have freed : Late t (t.setMask R.SYS_HELD n false) := (Late.refl t).held (.inl rfl)
  exact ((Late.refl t).ite (held _)).ite (freed.trans (lswDisable_late _ n))

/-! ### Loops -/

theorem loopApply_late (s : State) (n j dst : Nat) (v : Int) : Late s (loopApply s n j dst v).2 := by
  have sol (m : Nat) : Late s (solLoopWrite s m v).2 := by
    unfold solLoopWrite
    split
    · exact Late.refl s
    · exact (Late.refl s).setSol _ _
  have lsw (m : Nat) : Late s (lswLoopWrite s m v).2 := by
    unfold lswLoopWrite
    split
    · exact Late.refl s
    · split
      · exact Late.refl s
      · exact (Late.refl s).setLsw _ _
  have mtr (m : Nat) : Late s (mtrLoopWrite s m v).2 := by
    unfold mtrLoopWrite
    split
    · exact Late.refl s
    · exact (Late.refl s).setMtr _ _
  have shown (ok : Bool) (u : State) (h : Late s u) : Late s (if ok then (u.wr R.LPE_UAPP (wordI v) n j).setLpe n
      { u.lpeX n with unmapped := (u.lpeX n).unmapped.filter (fun k => k != j) }
      else if (u.lpeX n).unmapped.contains j then u
      else lpeEvent (u.setLpe n { u.lpeX n with unmapped := j :: (u.lpeX n).unmapped }) n 0x67 j (word dst)) :=
    (h.wr.setLpe _ _).ite (h.ite ((h.setLpe _ _).trans (event_late (by decide) _ _ _ _ _)))
  have written : Late s (if dst < 0x100 then (true, s)
      else if dst < 0x200 then solLoopWrite s (dst - 0x100) v
      else if dst < 0x300 then lswLoopWrite s (dst - 0x200) v
      else if dst < 0x400 then mtrLoopWrite s (dst - 0x300) v
      else if dst < 0x500 then (true, s.wr R.LPE_REF (wordI v) ((dst - 0x400) / 4) ((dst - 0x400) % 4))
      else (true, s)).2 := by
    split
    · exact Late.refl s
    · split
      · exact sol _
      · split
        · exact lsw _
        · split
          · exact mtr _
          · split
            · exact (Late.refl s).wr
            · exact Late.refl s
  unfold loopApply
  split
  · exact Late.refl s
  · exact shown _ _ written

theorem loopApplyAll_late (s : State) (n : Nat) (c : LoopCfg) (us : List Int) : Late s (loopApplyAll s n c us) := by
  have each (l : List (Int × Nat)) (acc : List Bool × State) (h : Late s acc.2) : Late s (l.foldl (fun acc p =>
      ((acc.1 ++ [(loopApply acc.2 n p.2 (c.dst.getD p.2 0) p.1).1]), (loopApply acc.2 n p.2 (c.dst.getD p.2 0) p.1).2)) acc).2 := by
    induction l generalizing acc with
    | nil => exact h
    | cons p l ih => exact ih _ (h.trans (loopApply_late _ _ _ _ _))
  exact (each _ _ ((Late.refl s).beside rfl rfl)).setF

theorem loopSafe_late (s : State) (n cause : Nat) : Late s (loopSafe s n cause) := by
  have gone : Late s ((loopGo s n lpSafe cause 0xFFFFFFFF).setF F.LPE_STAT_FIRE_REQ 0 n) :=
    ((Late.refl s).setF.setF.setF.trans (event_late (by decide) _ _ _ _ _)).setF
  exact (Late.refl s).ite ((gone.trans (loopApplyAll_late _ _ _ _)).trans (fireUpdate_late _))

theorem loopAllSafe_late (s : State) : Late s (loopAllSafe s) := Late.foldN (fun t n _ => loopSafe_late t n 6) s

end Sys2Proof.Machine

/-! What a reset switches off: domains, outputs and what stands behind them (R18, R538, R552). -/

namespace Sys2Proof.Machine

open Sys2Proof.Claims

set_option Elab.async false

variable {s t u : State} {n k : Nat}

/-! ### Domains that go off -/

/-- The store without what is lost with the Frame domain. -/
def StoX.lasting (x : StoX) : StoX := { x with secCopy := [], activate := none }

/-- What a reset keeps behind the registers of the store and of SYS, and the times. -/
def State.lasting (s : State) : SysX × StoX × Nat × Nat :=
  ({ s.sys with fireSince := none, ramps := [] }, s.sto.lasting, s.tbNow, s.elapsed)

/-- The registers that domains and outputs change as they go off. -/
def outReg (a : Nat) : Prop :=
  a = R.SYS_PDSTAT.addr ∨ a = R.SYS_PDCTL.addr ∨ lateReg a ∨ 0x11000000 ≤ a

/-- From `s` to `t` domains and outputs have gone off. -/
structure Falls (s t : State) : Prop where
  side : t.lasting = s.lasting
  regs : RegsBut outReg s t
  flags : ∀ fl, lateFlag fl → t.fb fl = s.fb fl
  shut : s.fb F.SYS_STAT_FIRE = false → t.fb F.SYS_STAT_FIRE = false

namespace Falls

theorem refl (s : State) : Falls s s := ⟨rfl, RegsBut.refl s, fun _ _ => rfl, id⟩

theorem trans (h : Falls s t) (h' : Falls t u) : Falls s u :=
  ⟨h'.side.trans h.side, h.regs.trans h'.regs, fun fl hf => (h'.flags fl hf).trans (h.flags fl hf), fun x => h'.shut (h.shut x)⟩

theorem plain (side : t.lasting = s.lasting) (regs : RegsBut outReg s t) (stat : t.rd R.SYS_STAT = s.rd R.SYS_STAT) : Falls s t := by
  have flag (fl : Fld) (h : fl.reg = R.SYS_STAT) : t.fb fl = s.fb fl := by simp only [State.fb, State.f, h, stat]
  exact ⟨side, regs, fun fl hf => flag fl hf.1, fun h => (flag _ rfl).trans h⟩

theorem of_late (h : Late s t) : Falls s t := by
  refine ⟨?_, h.regs.mono fun _ ha => .inr (.inr (.inl ha)), h.flags, h.shut⟩
  have sys := congrArg (fun x : SysX => { x with ramps := [] }) h.sys
  simp only [State.lasting, h.sto, h.tbNow, h.elapsed]
  exact congrArg (fun x : SysX => (x, s.sto.lasting, s.tbNow, s.elapsed)) sys

/-- A change beyond SYS, HLT and STO. -/
theorem far (hx : t.lasting = s.lasting) (hr : ∀ a, a < 0x11000000 → tabFind t.regs a = tabFind s.regs a) : Falls s t :=
  plain hx (fun a ha => hr a (by by_contra low; exact ha (.inr (.inr (.inr (by omega))))))
    (by simp only [State.rd, tabGet, hr _ (show R.SYS_STAT.addr < 0x11000000 by decide)])

theorem dropped {lo hi : Nat} (hx : t.lasting = s.lasting) (hr : t.regs = tabDropRange s.regs lo hi)
    (hl : 0x11000000 ≤ lo := by decide) : Falls s t :=
  far hx fun a ha => by rw [hr, tabFind_tabDropRange, if_neg (by omega)]

theorem rd (h : Falls s t) {d : RegDesc} {i j : Nat} (hp : ¬ outReg (d.addr i j)) : t.rd d i j = s.rd d i j := h.regs.rd hp

theorem sys (h : Falls s t) : { t.sys with fireSince := none, ramps := [] } = { s.sys with fireSince := none, ramps := [] } :=
  congrArg Prod.fst h.side
theorem sto (h : Falls s t) : t.sto.lasting = s.sto.lasting := congrArg (·.2.1) h.side
theorem tbNow (h : Falls s t) : t.tbNow = s.tbNow := congrArg (·.2.2.1) h.side
theorem elapsed (h : Falls s t) : t.elapsed = s.elapsed := congrArg (·.2.2.2) h.side

end Falls

theorem canReset_falls (s : State) : Falls s (canReset s) := by
  have lost : Falls s { s with regs := tabDropRange s.regs 0x50000000 0x50FFFFFF, can := [], tts := [] } := Falls.dropped rfl rfl
  have woken (u : State) (v : Word) : Falls u (u.wr R.CAN_WAKE v) :=
    Falls.far rfl fun a ha => tabFind_tabPut_ne (by simp only [RegDesc.addr, R.CAN_WAKE]; omega)
  unfold canReset
  dsimp only
  split
  · exact lost
  · exact lost.trans (woken _ _)

/-- What the Frame domain holds. -/
def State.beads (s : State) : List Host.Cell × Tab RodX × Tab RingX × Tab Program := (s.frame, s.rods, s.rings, s.programs)

theorem frameLost_falls (s : State) : Falls s (pdDrop s 2) := by
  refine Falls.far rfl fun a ha => ?_
  show tabFind (tabDropRange (tabDropRange (tabDropRange s.regs 0x11000000 0x1101FFFF) 0x32000000 0x32FFFFFF) 0x51000000 0x51FFFFFF) a = _
  rw [tabFind_tabDropRange, if_neg (by omega), tabFind_tabDropRange, if_neg (by omega), tabFind_tabDropRange, if_neg (by omega)]

theorem pdDrop_falls (s : State) (n : Nat) : Falls s (pdDrop s n) := by
  have net : Falls s (pdDrop s 1) := by
    refine Falls.far rfl fun a ha => ?_
    show tabFind (tabDropRange (tabDropRange s.regs 0x60000000 0x600007FF) 0x61000100 0x610001FF) a = _
    rw [tabFind_tabDropRange, if_neg (by omega), tabFind_tabDropRange, if_neg (by omega)]
  have loops : Falls s (lpeLost s) := Falls.dropped rfl rfl
  have frame := frameLost_falls s
  unfold pdDrop at net frame ⊢
  split
  · exact net
  · exact frame
  · exact loops.trans (.of_late (fireUpdate_late _))
  · exact Falls.dropped rfl rfl
  · exact Falls.dropped rfl rfl
  · exact canReset_falls s
  · exact Falls.dropped rfl rfl
  · exact Falls.refl s

theorem setPd_falls (s : State) (n v : Nat) : Falls s (s.setPd n v) :=
  Falls.plain rfl ((RegsBut.refl s).wr (.inl rfl)) (State.rd_wr_ne s (by decide))

theorem pdctl_falls (s : State) (n : Nat) (b : Bool) : Falls s (s.setMask R.SYS_PDCTL n b) :=
  Falls.plain rfl ((RegsBut.refl s).wr (.inr (.inl rfl))) (State.rd_wr_ne s (by decide))

theorem offShown_falls (s : State) (n : Nat) : Falls s (offShown s n) := by
  unfold offShown
  split
  · exact (setPd_falls s n 0).trans (pdctl_falls _ n false)
  · exact setPd_falls s n 0

theorem pdOff_falls (s : State) (n : Nat) : Falls s (pdOff s n) := by
  have noRamp (u : State) (l : Tab Nat) : Falls u (u.setSys { u.sys with ramps := l }) :=
    Falls.plain rfl ((RegsBut.refl u).of_regs rfl) rfl
  rw [pdOff_eq]
  split
  · exact Falls.refl s
  · exact ((pdDrop_falls s n).trans (offShown_falls _ n)).trans (noRamp _ _)

theorem foldl_pdOff_falls (l : List Nat) (s : State) : Falls s (l.foldl pdOff s) := by
  induction l generalizing s with
  | nil => exact Falls.refl s
  | cons n l ih => exact (pdOff_falls s n).trans (ih _)

/-! ### The Frame domain's contents -/

/-- With the Frame domain off, its contents stay as they are and it stays off. -/
def Sealed (s t : State) : Prop := s.pd 2 = 0 → t.pd 2 = 0 ∧ t.beads = s.beads

namespace Sealed

theorem refl (s : State) : Sealed s s := fun h => ⟨h, rfl⟩

theorem trans (h : Sealed s t) (h' : Sealed t u) : Sealed s u := fun off =>
  ⟨(h' (h off).1).1, (h' (h off).1).2.trans (h off).2⟩

/-- A change that leaves SYS_PDSTAT and the contents. -/
theorem plain (pdstat : t.rd R.SYS_PDSTAT = s.rd R.SYS_PDSTAT) (same : t.beads = s.beads) : Sealed s t :=
  fun off => ⟨(pd_of_rd pdstat 2).trans off, same⟩

theorem wr (h : Sealed s t) {d : RegDesc} {v : Word} {i j : Nat} (hd : d.addr i j ≠ R.SYS_PDSTAT.addr) : Sealed s (t.wr d v i j) :=
  h.trans (plain (State.rd_wr_ne t hd) rfl)

theorem setF (h : Sealed s t) {fl : Fld} {v i j : Nat} (hd : fl.reg.addr i j ≠ R.SYS_PDSTAT.addr) : Sealed s (t.setF fl v i j) :=
  h.trans (plain (State.rd_wr_ne t hd) rfl)

/-- A change beside the registers. -/
theorem beside (h : Sealed s t) (hr : u.regs = t.regs) (same : u.beads = t.beads) : Sealed s u :=
  h.trans (plain (by simp only [State.rd, hr]) same)

theorem ite {c : Prop} [Decidable c] (ht : Sealed s t) (hu : Sealed s u) : Sealed s (if c then t else u) := by
  split <;> assumption

theorem foldN {n : Nat} {f : State → Nat → State} (hf : ∀ t k, k < n → Sealed t (f t k)) (s : State) : Sealed s (foldN n f s) :=
  foldN_keeps (P := Sealed s) n (fun t k hk h => h.trans (hf t k hk)) s (refl s)

end Sealed

theorem ringPost_sealed (s : State) (n : Nat) (b : Bead) : Sealed s (ringPost s n b) := fun off => by
  have dark : s.domOn 2 = false := by
    show (s.pd 2 == 2) = false
    rw [off]; rfl
  simp only [ringPost, dark, Bool.not_false, if_true]
  exact ⟨off, trivial⟩

theorem trcTrigger_sealed (fuel : Nat) (s : State) (c cause : Nat) : Sealed s (trcTrigger fuel s c cause) := by
  induction fuel generalizing s c cause with
  | zero => exact Sealed.refl s
  | succ fuel ih =>
    have stat (fl : Fld) (h : fl.reg = R.TRC_STAT) (u : State) (v : Nat) : Sealed u (u.setF fl v c) :=
      (Sealed.refl u).setF (by rw [h]; simp only [RegDesc.addr, R.TRC_STAT, R.SYS_PDSTAT]; omega)
    have armed (u : State) (x : TrcX) : Sealed u (u.setTrc c x) := (Sealed.refl u).beside rfl rfl
    unfold trcTrigger
    split
    · exact ((((stat F.TRC_STAT_STATE rfl s _).trans (stat F.TRC_STAT_CAUSE rfl _ _)).trans (stat F.TRC_STAT_PRE_SHORT rfl _ _)).trans
        (armed _ _)).trans (Sealed.foldN (fun t d _ => (ih t d 4).ite (Sealed.refl t)) _)
    · exact (stat F.TRC_STAT_CAUSE rfl s _).ite (Sealed.refl s)

theorem event_sealed (s : State) (n src code detail : Nat) (v : Word) : Sealed s (event s n src code detail v) := by
  have traced (u : State) : Sealed u (trcEvent u n src code) := by
    unfold trcEvent
    split
    · exact Sealed.refl u
    · exact Sealed.foldN (fun t c _ => (trcTrigger_sealed 8 t c 3).ite (Sealed.refl t)) u
  exact (ringPost_sealed s n _).trans (traced _)

theorem logRecord_sealed (s : State) (kind : Nat) (payload : List Word) : Sealed s (logRecord s kind payload) := by
  have queued (l : List LogRec) : Sealed s { s with logQueue := l } := (Sealed.refl s).beside rfl rfl
  have lost : Sealed s (s.addR R.STO_LOGLOST 1) := (Sealed.refl s).wr (by decide)
  exact (queued _).ite (lost.setF (by decide))

theorem healthEvent_sealed (s : State) (idx pool code detail : Nat) (v : Word) : Sealed s (healthEvent s idx pool code detail v) :=
  (ringPost_sealed s 19 _).trans (logRecord_sealed _ _ _)

end Sys2Proof.Machine

/-! The outputs as a reset leaves them (R302, R338, R369, R552). -/

namespace Sys2Proof.Machine

open Sys2Proof.Claims

set_option Elab.async false

variable {s t u : State} {p q : Nat → Prop} {n k : Nat}

/-- From `s` to `t` a unit of PD7 has started anew: with FIRE_PERMIT open its registers `p` alone have changed, and what the
Frame domain holds, if off, stays. -/
structure Resets (p : Nat → Prop) (s t : State) : Prop where
  late : Late s t
  regs : s.fb F.SYS_STAT_FIRE = false → RegsBut p s t
  beads : s.fb F.SYS_STAT_FIRE = false → s.pd 2 = 0 → t.beads = s.beads

theorem pdstat_not_late : ¬ lateReg R.SYS_PDSTAT.addr := by
  simp [lateReg, RegDesc.addr, R.SYS_PDSTAT, R.SYS_STAT, R.SYS_HELD, R.SYS_HELDM, R.STO_LOGLOST, R.STO_STAT]

theorem Late.pd (h : Late s t) (k : Nat) : t.pd k = s.pd k := pd_of_rd (h.rd pdstat_not_late) k

namespace Resets

theorem refl (s : State) : Resets p s s := ⟨Late.refl s, fun _ => RegsBut.refl s, fun _ _ => rfl⟩

theorem trans (h : Resets p s t) (h' : Resets p t u) : Resets p s u :=
  ⟨h.late.trans h'.late, fun x => (h.regs x).trans (h'.regs (h.late.shut x)),
    fun x off => (h'.beads (h.late.shut x) ((h.late.pd 2).trans off)).trans (h.beads x off)⟩

theorem mono (h : Resets p s t) (pq : ∀ a, p a → q a) : Resets q s t := ⟨h.late, fun x => (h.regs x).mono pq, h.beads⟩

theorem wr (h : Resets p s t) {d : RegDesc} {v : Word} {i j : Nat} (hp : p (d.addr i j)) (hd : 0x20000000 ≤ d.base := by decide) :
    Resets p s (t.wr d v i j) :=
  h.trans ⟨(Late.refl t).wr hd, fun _ => (RegsBut.refl t).wr hp, fun _ _ => rfl⟩

theorem setF (h : Resets p s t) {fl : Fld} {v i j : Nat} (hp : p (fl.reg.addr i j)) (hd : 0x20000000 ≤ fl.reg.base := by decide) :
    Resets p s (t.setF fl v i j) :=
  h.trans ⟨(Late.refl t).setF hd, fun _ => (RegsBut.refl t).setF hp, fun _ _ => rfl⟩

theorem beside (h : Resets p s t) (hr : u.regs = t.regs) (hx : u.lateSide = t.lateSide) (same : u.beads = t.beads) : Resets p s u :=
  h.trans ⟨(Late.refl t).beside hx hr, fun _ => (RegsBut.refl t).of_regs hr, fun _ _ => same⟩

theorem dropped (h : Resets p s t) {lo hi : Nat} (hr : u.regs = tabDropRange t.regs lo hi) (hx : u.lateSide = t.lateSide)
    (same : u.beads = t.beads) (hp : ∀ a, lo ≤ a → a ≤ hi → p a) (hl : 0x20000000 ≤ lo) : Resets p s u := by
  have drop {p : Nat → Prop} (hp : ∀ a, lo ≤ a → a ≤ hi → p a) : RegsBut p t u := regsBut_dropped (RegsBut.refl t) hr hp
  refine h.trans ⟨Late.plain hx (drop fun a low _ => ?_) ?_, fun _ => drop hp, fun _ _ => same⟩
  · simp only [lateReg]; omega
  · exact (drop (p := fun a => 0x20000000 ≤ a) fun a low _ => hl.trans low).rd (by decide)

theorem ite {c : Prop} [Decidable c] (ht : Resets p s t) (hu : Resets p s u) : Resets p s (if c then t else u) := by
  split <;> assumption

theorem foldl {α : Type} {f : State → α → State} (l : List α) (hf : ∀ t, ∀ a ∈ l, Resets p t (f t a)) (s : State) :
    Resets p s (l.foldl f s) := by
  induction l generalizing s with
  | nil => exact refl s
  | cons a l ih =>
    exact (hf s a List.mem_cons_self).trans (ih (fun t b hb => hf t b (List.mem_cons_of_mem a hb)) (f s a))

theorem foldN {n : Nat} {f : State → Nat → State} (hf : ∀ t k, k < n → Resets p t (f t k)) (s : State) : Resets p s (foldN n f s) :=
  foldN_keeps (P := Resets p s) n (fun t k hk h => h.trans (hf t k hk)) s (refl s)

end Resets

/-! ### Solenoids -/

theorem solCtl_block (hn : n < 24) : solBlock (R.SOL_CTL.addr n) := solBlock_chan (by omega)

theorem solClassSet_resets (s : State) (v : Word) : Resets solBlock s (solClassSet s v) := by
  have cls : Resets solBlock s (s.wr R.SOL_CLASS_S (word (v.toNat % 2 ^ 24))) :=
    (Resets.refl s).wr (by simp [solBlock, RegDesc.addr, R.SOL_CLASS_S])
  refine cls.trans (Resets.foldN (fun t n hn => ?_) _)
  have one (b : Bool) : Resets solBlock t (t.setB F.SOL_CTL_CLASS_S b n) := (Resets.refl t).setF (fl := F.SOL_CTL_CLASS_S) (solCtl_block hn)
  exact ((one _).setF (fl := F.SOL_CTL_ODEC) (solCtl_block hn)).ite (one _)

theorem solReset_resets (s : State) : Resets solBlock s (solReset s) := by
  have lost : Resets solBlock s { s with regs := tabDropRange s.regs 0x40000000 0x40FFFFFF, sol := [] } :=
    (Resets.refl s).dropped rfl rfl rfl (fun a low high => ⟨low, by omega⟩) (by decide)
  have shown (u : State) (v : Nat) : Resets solBlock u (u.setF F.SOL_GSTAT_UNDERV v) :=
    (Resets.refl u).setF (by simp [solBlock, RegDesc.addr, F.SOL_GSTAT_UNDERV, R.SOL_GSTAT])
  have banks (l : List Nat) (hl : ∀ b ∈ l, b < 6) (u : State) : Resets solBlock u (l.foldl (fun s b =>
      (s.setF F.SOL_BSTAT_DOWN 1 b).setF F.SOL_BSTAT_DOWN_CAUSE 1 b) u) := by
    refine Resets.foldl l (fun t b hb => ?_) u
    have bank : solBlock (R.SOL_BSTAT.addr b) := by
      have small := hl b hb
      simp only [solBlock, RegDesc.addr, R.SOL_BSTAT]; omega
    exact ((Resets.refl t).setF (fl := F.SOL_BSTAT_DOWN) bank).setF (fl := F.SOL_BSTAT_DOWN_CAUSE) bank
  have chans (l : List (Nat × Nat × Nat × Nat × Nat)) (hl : ∀ x ∈ l, x.1 < 24) (u : State) : Resets solBlock u
      (l.foldl (fun s (n, lost, hot, phase, path) =>
        let s := (s.setF F.SOL_STAT_LOST lost n).setF F.SOL_STAT_HOT hot n
        if phase = 3 then (s.setF F.SOL_STAT_PHASE 3 n).setSol n { path := path } else s) u) := by
    refine Resets.foldl l (fun t x hx => ?_) u
    have stat : solBlock (R.SOL_STAT.addr x.1) := solBlock_chan (by have small := hl x hx; omega)
    have kept := ((Resets.refl t).setF (fl := F.SOL_STAT_LOST) (v := x.2.1) stat).setF (fl := F.SOL_STAT_HOT) (v := x.2.2.1) stat
    have free (u : State) (y : SolX) : Resets solBlock u (u.setSol x.1 y) := (Resets.refl u).beside rfl rfl rfl
    dsimp only
    split
    · exact (kept.setF (fl := F.SOL_STAT_PHASE) stat).trans (free _ _)
    · exact kept
  exact (((lost.trans (solClassSet_resets _ _)).trans (shown _ _)).trans
    (banks _ (fun b hb => List.mem_range.mp (List.mem_of_mem_filter hb)) _)).trans (chans _ (fun x hx => by
      obtain ⟨n, hn, rfl⟩ := List.mem_map.mp hx
      exact List.mem_range.mp hn) _)

/-! ### Axes and fans -/

/-- The registers of the axes and fans, SYS_HELDM, and what their events leave. -/
def axisArea (a : Nat) : Prop := (0x42000000 ≤ a ∧ a < 0x44000000) ∨ a = R.SYS_HELDM.addr ∨ eventReg a

theorem fireUpdate_resets (s : State) : Resets p s (fireUpdate s) := by
  refine ⟨fireUpdate_late s, fun shut => ?_, fun shut _ => ?_⟩ <;> obtain ⟨x, e⟩ := fireUpdate_calm shut <;> rw [e]
  · exact RegsBut.refl s
  · rfl

theorem event_resets {c : Nat} (hc : c < 32) (s : State) (src code detail : Nat) (v : Word) :
    Resets axisArea s (event s c src code detail v) :=
  ⟨event_late hc _ _ _ _ _, fun _ => (event_posts hc _ _ _ _ _).2.mono fun _ h => .inr (.inr h),
    fun _ off => (event_sealed s c src code detail v off).2⟩

theorem mtr_area {d : RegDesc} (hn : n < 8) (lo : 0x42000000 ≤ d.base := by decide) (hi : d.base < 0x42008000 := by decide)
    (h1 : d.s1 = 0x1000 := by rfl) (h2 : d.s2 = 0 := by rfl) : axisArea (d.addr n) := by
  left; simp only [RegDesc.addr, h1, h2]; omega

theorem afFail_resets (s : State) (n : Nat) : Resets axisArea s (afFail s n) := by
  have judged : Resets axisArea s { s with fan := { s.fan with afGood := tabDrop s.fan.afGood n } } := (Resets.refl s).beside rfl rfl rfl
  have told (u : State) : Resets axisArea u (fanEvent (u.setF F.FAN_AFSTAT_AIRFLOW_OK 0) 0xB2 0
      (word (afFailing (u.setF F.FAN_AFSTAT_AIRFLOW_OK 0)))) :=
    ((Resets.refl u).setF (fl := F.FAN_AFSTAT_AIRFLOW_OK) (.inl (by decide))).trans (event_resets (by decide) _ _ _ _ _)
  exact ((judged.trans (told _)).trans (fireUpdate_resets _)).ite judged

theorem mtrGo_resets (s : State) (hn : n < 8) (st gates : Nat) : Resets axisArea s (mtrGo s n st gates) := by
  have gone (v : Nat) (x : MtrX) : Resets axisArea s ((s.setF F.MTR_STAT_STATE v n).setMtr n x) :=
    ((Resets.refl s).setF (fl := F.MTR_STAT_STATE) (mtr_area hn)).beside rfl rfl rfl
  exact ((gone _ _).trans (afFail_resets _ _)).ite (gone _ _)

theorem mtrDisable_resets (s : State) (hn : n < 8) (gates : Nat) : Resets axisArea s (mtrDisable s n gates) := by
  have off : Resets axisArea s (s.setF F.MTR_CTL_EN 0 n) := (Resets.refl s).setF (fl := F.MTR_CTL_EN) (mtr_area hn)
  exact (off.trans (mtrGo_resets _ hn _ _)).ite (off.beside rfl rfl rfl)

theorem mtrRht_resets (s : State) (vlogLost reset : Bool) : Resets axisArea s (mtrRht s vlogLost reset) := by
  refine Resets.foldN (fun t n hn => ?_) s
  have marked (b : Bool) : Resets axisArea t (t.setMask R.SYS_HELDM n b) :=
    ⟨(Late.refl t).held (.inr rfl), fun _ => (RegsBut.refl t).wr (.inr (.inl rfl)), fun _ _ => rfl⟩
  have off (g : Nat) := (marked false).trans (mtrDisable_resets _ hn g)
  have free (u : State) (x : MtrX) : Resets axisArea u (u.setMtr n x) := (Resets.refl u).beside rfl rfl rfl
  dsimp only
  split
  · exact ((Resets.refl t).ite ((marked true).trans (free _ _))).ite (free _ _)
  · have braked (u : State) (c : Prop) [Decidable c] (x : MtrX) : Resets axisArea u (if c then u.setMtr n x else u) :=
      (free u x).ite (Resets.refl u)
    exact (off _).trans (braked _ _ _)

theorem mtrReset_resets (s : State) : Resets axisArea s (mtrReset s) := by
  refine Resets.foldN (fun t n hn => (Resets.refl t).ite ?_) s
  have lost (u : State) : Resets axisArea u { u with
      regs := tabDropRange u.regs (R.MTR_CTL.addr n) (R.MTR_CTL.addr n + 0xFFF), mtr := tabDrop u.mtr n } := by
    refine (Resets.refl u).dropped rfl rfl rfl (fun a low high => .inl ?_) ?_ <;>
      simp only [RegDesc.addr, R.MTR_CTL] at * <;> omega
  have shown (u : State) (v w : Nat) : Resets axisArea u ((u.setF F.MTR_STAT_STATE v n).setF F.MTR_STAT_HOT w n) :=
    ((Resets.refl u).setF (fl := F.MTR_STAT_STATE) (mtr_area hn)).setF (fl := F.MTR_STAT_HOT) (mtr_area hn)
  have free (u : State) (x : MtrX) : Resets axisArea u (u.setMtr n x) := (Resets.refl u).beside rfl rfl rfl
  exact (((afFail_resets t n).trans (lost _)).trans (shown _ _ _)).trans (free _ _)

/-- A register put at its address. -/
theorem put_resets (s : State) {a : Nat} (v : Word) (hp : p a) (ha : 0x20000000 ≤ a) : Resets p s { s with regs := tabPut s.regs a v } := by
  have put {q : Nat → Prop} (hq : q a) : RegsBut q s { s with regs := tabPut s.regs a v } := fun b hb =>
    tabFind_tabPut_ne fun e => hb (e ▸ hq)
  refine ⟨Late.plain rfl (put ?_) ?_, fun _ => put hp, fun _ _ => rfl⟩
  · simp only [lateReg]; omega
  · exact (put (q := fun a => 0x20000000 ≤ a) ha).rd (by decide)

theorem storedLoad_resets (s : State) {lo hi : Nat} (hp : ∀ a, lo ≤ a → a ≤ hi → p a) (hl : 0x20000000 ≤ lo) :
    Resets p s (storedLoad s lo hi) := by
  refine Resets.foldl _ (fun t a ha => ?_) s
  have inside := List.of_mem_filter ha
  simp only [Bool.and_eq_true, decide_eq_true_eq] at inside
  split
  · exact put_resets t _ (hp a inside.1 inside.2) (hl.trans inside.1)
  · exact Resets.refl t

theorem fanReset_resets (s : State) : Resets axisArea s (fanReset s) := by
  have fan {a : Nat} (low : 0x43000000 ≤ a) (high : a ≤ 0x43FFFFFF) : axisArea a := .inl (by omega)
  have lost : Resets axisArea s { s with regs := tabDropRange s.regs 0x43000000 0x43FFFFFF } :=
    (Resets.refl s).dropped rfl rfl rfl (fun a => fan) (by decide)
  have kept (l : List (Nat × Word)) (hl : ∀ x ∈ l, 0x43000000 ≤ x.1 ∧ x.1 ≤ 0x43FFFFFF) (u : State) :
      Resets axisArea u (l.foldl (fun s p => { s with regs := tabPut s.regs p.1 p.2 }) u) :=
    Resets.foldl l (fun t x hx => put_resets t x.2 (fan (hl x hx).1 (hl x hx).2) (by have low := (hl x hx).1; omega)) u
  have loaded (u : State) : Resets axisArea u (storedLoad u 0x4300000C 0x4300000C) :=
    storedLoad_resets u (fun a low high => fan (by omega) (by omega)) (by decide)
  have forgotten (u : State) (x : FanX) : Resets axisArea u { u with fan := x } := (Resets.refl u).beside rfl rfl rfl
  refine ((lost.trans (kept _ (fun x hx => ?_) _)).trans (loaded _)).trans (forgotten _ _)
  have inside := List.of_mem_filter hx
  simp only [Bool.or_eq_true, Bool.and_eq_true, decide_eq_true_eq] at inside
  omega

end Sys2Proof.Machine

/-! Axes and load switches as their units start anew (R538, R552). -/

namespace Sys2Proof.Machine

open Sys2Proof.Claims

set_option Elab.async false

variable {s t u : State} {n k : Nat}

/-! ### Load switches -/

/-- One step of a fold gives what the others leave. -/
theorem foldN_reaches {σ : Type} {N : Nat} {f : σ → Nat → σ} {I Q : σ → Prop} {n : Nat} (hn : n < N)
    (keeps : ∀ t k, k < N → I t → I (f t k)) (sets : ∀ t, I t → Q (f t n)) (holds : ∀ t k, k < N → I t → Q t → Q (f t k))
    {s : σ} (hs : I s) : Q (foldN N f s) := by
  have walk (l : List Nat) (hl : ∀ k ∈ l, k < N) (t : σ) (ht : I t) (h : n ∈ l ∨ Q t) : Q (l.foldl f t) := by
    induction l generalizing t with
    | nil => exact h.resolve_left List.not_mem_nil
    | cons k l ih =>
      have hk := hl k List.mem_cons_self
      refine ih (fun j hj => hl j (List.mem_cons_of_mem k hj)) _ (keeps t k hk ht) ?_
      rcases h with h | h
      · rcases List.mem_cons.mp h with rfl | h
        · exact .inr (sets t ht)
        · exact .inl h
      · exact .inr (holds t k hk ht h)
  exact walk _ (fun k hk => List.mem_range.mp hk) s hs (.inl (List.mem_range.mpr hn))

/-- What decides whether switch `n` is held, and its state, as in `s`. -/
def heldLike (s : State) (n : Nat) (t : State) : Prop :=
  t.rd R.SYS_RHT_LSW = s.rd R.SYS_RHT_LSW ∧ t.fb F.SYS_STAT_SS = s.fb F.SYS_STAT_SS ∧ t.rd R.LSW_STAT n = s.rd R.LSW_STAT n

theorem heldLike_of_regs {p : Nat → Prop} (h : RegsBut p t u) (like : heldLike s n t) (rht : ¬ p R.SYS_RHT_LSW.addr) (stat : ¬ p R.SYS_STAT.addr)
    (lsw : ¬ p (R.LSW_STAT.addr n)) : heldLike s n u := by
  obtain ⟨table, stop, on⟩ := like
  exact ⟨(h.rd rht).trans table, (h.fb (fl := F.SYS_STAT_SS) stat).trans stop, (h.rd lsw).trans on⟩

/-- One switch of the R338 table at a reset. -/
def lswRhtStep (s : State) (n : Nat) : State :=
  if maskBit (s.rd R.SYS_RHT_LSW) n && !false && !s.fb F.SYS_STAT_SS then
    if s.lswHeld n then s
    else (s.setLsw n { s.lswX n with holdAt := s.elapsed, heldOff := lswBlocked s n }).setMask R.SYS_HELD n true
  else lswDisable (s.setMask R.SYS_HELD n false) n

/-- A switch other than `n`, or `n` itself where it is held. -/
theorem lswRhtStep_keeps (hn : n < 32) (hold : maskBit (s.rd R.SYS_RHT_LSW) n = true) (go : s.fb F.SYS_STAT_SS = false)
    (like : heldLike s n t) (k : Nat) (hk : k < 32) : heldLike s n (lswRhtStep t k) ∧
      (maskBit (t.rd R.SYS_HELD) n = true → maskBit ((lswRhtStep t k).rd R.SYS_HELD) n = true) ∧
      (k = n → maskBit ((lswRhtStep t k).rd R.SYS_HELD) n = true) := by
  obtain ⟨table, stop, on⟩ := like
  have marked (x : LswX) (b : Bool) : heldLike s n ((t.setLsw k x).setMask R.SYS_HELD k b) :=
    heldLike_of_regs (p := (· = R.SYS_HELD.addr)) ((RegsBut.of_regs (RegsBut.refl t) rfl).wr rfl) ⟨table, stop, on⟩ (by decide) (by decide)
      (by simp only [RegDesc.addr, R.LSW_STAT, R.SYS_HELD]; omega)
  have shown (x : LswX) (b : Bool) : maskBit (((t.setLsw k x).setMask R.SYS_HELD k b).rd R.SYS_HELD) n =
      if n = k then b else maskBit (t.rd R.SYS_HELD) n := setMask_bit (t.setLsw k x) R.SYS_HELD b hn
  unfold lswRhtStep
  split
  · split
    · next held =>
      refine ⟨⟨table, stop, on⟩, id, fun e => ?_⟩
      rw [← e]; exact held
    · refine ⟨marked _ true, fun h => ?_, fun e => ?_⟩
      · rw [shown]; split
        · rfl
        · exact h
      · rw [shown, if_pos e.symm]
  · next free =>
    have other : n ≠ k := by
      rintro rfl
      rw [table, stop, hold, go] at free
      exact free rfl
    obtain ⟨-, -, regs⟩ := lswDisable_else (t.setMask R.SYS_HELD k false) k
    have cleared : heldLike s n (t.setMask R.SYS_HELD k false) :=
      heldLike_of_regs (p := (· = R.SYS_HELD.addr)) ((RegsBut.refl t).wr rfl) ⟨table, stop, on⟩ (by decide) (by decide)
        (by simp only [RegDesc.addr, R.LSW_STAT, R.SYS_HELD]; omega)
    refine ⟨heldLike_of_regs regs cleared ?_ ?_ ?_, fun h => ?_, fun e => absurd e.symm other⟩
    · simp only [RegDesc.addr, R.SYS_RHT_LSW, R.LSW_CTL, R.LSW_STAT]; omega
    · simp only [RegDesc.addr, R.SYS_STAT, R.LSW_CTL, R.LSW_STAT]; omega
    · simp only [RegDesc.addr, R.LSW_CTL, R.LSW_STAT]; omega
    · have same : (lswDisable (t.setMask R.SYS_HELD k false) k).rd R.SYS_HELD = (t.setMask R.SYS_HELD k false).rd R.SYS_HELD :=
        regs.rd (by simp only [RegDesc.addr, R.SYS_HELD, R.LSW_CTL, R.LSW_STAT]; omega)
      rw [same, setMask_bit t R.SYS_HELD false hn, if_neg other]
      exact h

/-- A load switch that the table holds is held, its state as it was (R338). -/
theorem lswRht_holds (hn : n < 32) (hold : maskBit (s.rd R.SYS_RHT_LSW) n = true) (go : s.fb F.SYS_STAT_SS = false) :
    maskBit ((lswRht s false).rd R.SYS_HELD) n = true ∧ (lswRht s false).rd R.LSW_STAT n = s.rd R.LSW_STAT n := by
  have eq : lswRht s false = foldN 32 lswRhtStep s := rfl
  have start : heldLike s n s := ⟨rfl, rfl, rfl⟩
  have keeps (t : State) (k : Nat) (hk : k < 32) (like : heldLike s n t) := lswRhtStep_keeps hn hold go like k hk
  rw [eq]
  refine ⟨?_, (foldN_keeps (P := heldLike s n) 32 (fun t k hk like => (keeps t k hk like).1) s start).2.2⟩
  exact foldN_reaches (I := heldLike s n) (Q := fun t => maskBit (t.rd R.SYS_HELD) n = true) hn
    (fun t k hk like => (keeps t k hk like).1) (fun t like => (keeps t n hn like).2.2 rfl)
    (fun t k hk like => (keeps t k hk like).2.1) start

/-- The registers of the load switches without the states of those that `s` holds. -/
def swFree (s : State) (a : Nat) : Prop :=
  (0x41000000 ≤ a ∧ a < 0x42000000) ∧ ∀ m < 32, s.lswHeld m = true → a ≠ R.LSW_STAT.addr m

theorem swFree_low {a : Nat} (lo : 0x41000000 ≤ a) (hi : a < 0x41001000) : swFree s a :=
  ⟨⟨lo, by omega⟩, fun m hm _ => by simp only [RegDesc.addr, R.LSW_STAT]; omega⟩

/-- The registers of a switch that is not held. -/
theorem swFree_own {a : Nat} (hn : n < 32) (free : s.lswHeld n = false) (lo : 0x41001000 + 0x40 * n ≤ a) (hi : a < 0x41001040 + 0x40 * n) :
    swFree s a := by
  refine ⟨⟨by omega, by omega⟩, fun m hm held e => ?_⟩
  have same : m = n := by simp only [RegDesc.addr, R.LSW_STAT] at e; omega
  rw [same, free] at held
  cases held

theorem lswReset_resets (s : State) : Resets (swFree s) s (lswReset s) := by
  have anew (t : State) {n : Nat} (hn : n < 32) (free : s.lswHeld n = false) (lost hot : Nat) (x : LswX) : Resets (swFree s) t
      (((State.setLsw { t with regs := tabDropRange t.regs (R.LSW_CTL.addr n) (R.LSW_CTL.addr n + 0x3F), lsw := tabDrop t.lsw n } n
        x).setF F.LSW_STAT_LOST lost n).setF F.LSW_STAT_HOT hot n) := by
    have gone : Resets (swFree s) t { t with
        regs := tabDropRange t.regs (R.LSW_CTL.addr n) (R.LSW_CTL.addr n + 0x3F), lsw := tabDrop t.lsw n } := by
      refine (Resets.refl t).dropped rfl rfl rfl (fun a low high => swFree_own hn free ?_ ?_) ?_ <;>
        simp only [RegDesc.addr, R.LSW_CTL] at * <;> omega
    have put (u : State) : Resets (swFree s) u (u.setLsw n x) := (Resets.refl u).beside rfl rfl rfl
    have stat : swFree s (R.LSW_STAT.addr n) := by
      refine swFree_own hn free ?_ ?_ <;> simp only [RegDesc.addr, R.LSW_STAT] <;> omega
    exact ((gone.trans (put _)).setF (fl := F.LSW_STAT_LOST) stat).setF (fl := F.LSW_STAT_HOT) stat
  have groups (t : State) {k : Nat} (hk : k < 8) : Resets (swFree s) t { t with
      regs := tabDropRange t.regs (R.LSW_GPER.addr k) (R.LSW_GPER.addr k + 0xF) } := by
    refine (Resets.refl t).dropped rfl rfl rfl (fun a low high => swFree_low ?_ ?_) ?_ <;>
      simp only [RegDesc.addr, R.LSW_GPER] at * <;> omega
  have rails (t : State) {k : Nat} (hk : k < 4) : Resets (swFree s) t { t with
      regs := tabDropRange t.regs (R.LSW_GRCTL.addr k) (R.LSW_GRCTL.addr k + 0x1F) } := by
    refine (Resets.refl t).dropped rfl rfl rfl (fun a low high => swFree_low ?_ ?_) ?_ <;>
      simp only [RegDesc.addr, R.LSW_GRCTL] at * <;> omega
  have rail {k : Nat} (hk : k < 4) : swFree s (R.LSW_GRSTAT.addr k) := by
    refine swFree_low ?_ ?_ <;> simp only [RegDesc.addr, R.LSW_GRSTAT] <;> omega
  have unit (t : State) : Resets (swFree s) t { t with regs := tabDropRange t.regs 0x41000000 0x410000FF } :=
    (Resets.refl t).dropped rfl rfl rfl (fun a low high => swFree_low low (by omega)) (by decide)
  refine Resets.trans (Resets.trans (Resets.trans (Resets.foldl _ (fun t n hn => ?_) s) (Resets.foldN (fun t k hk => ?_) _))
    (Resets.foldN (fun t k hk => ?_) _)) (unit _)
  · have free := List.of_mem_filter hn
    exact anew t (List.mem_range.mp (List.mem_of_mem_filter hn)) (by simpa using free) _ _ _
  · exact (Resets.refl t).ite (groups t hk)
  · have shown := (rails t hk).setF (fl := F.LSW_GRSTAT_UNDERV) (v := t.f F.LSW_GRSTAT_UNDERV k) (rail hk)
    exact (Resets.refl t).ite (((shown.setF (fl := F.LSW_GRSTAT_DOWN) (rail hk)).setF (fl := F.LSW_GRSTAT_DOWN_CAUSE) (rail hk)).ite shown)

end Sys2Proof.Machine

/-! Boot from its third step (R511, R533, R545, R553). -/

namespace Sys2Proof.Machine

open Sys2Proof.Claims

set_option Elab.async false

variable {s t u : State} {n k : Nat}

/-! ### The stored settings -/

/-- The settings of SYS that the store and the key area hold: SAFECFG, FIREMASK and the held-through-reset tables. -/
def setReg (a : Nat) : Prop := (0x1000001C ≤ a ∧ a ≤ 0x10000024) ∨ (0x10000040 ≤ a ∧ a ≤ 0x10000048)

theorem base_le_of_holds {d : RegDesc} {a : Nat} (h : d.holds a = true) : d.base ≤ a := by
  obtain ⟨i, -, hi⟩ := List.any_eq_true.mp h
  simp only [Bool.and_eq_true, decide_eq_true_eq] at hi
  omega

/-- The key area holds three words of SYS. -/
theorem keyField_sys {a : Nat} (h : keyField a = true) (lo : 0x10000000 ≤ a) : setReg a ∨ (0x10010000 ≤ a ∧ ¬ (0x41000000 ≤ a ∧ a < 0x42000000)) := by
  have far {d : RegDesc} (hd : 0x60000000 ≤ d.base) (h : d.holds a = true) : 0x60000000 ≤ a := hd.trans (base_le_of_holds h)
  simp only [keyField, Bool.or_eq_true, beq_iff_eq, List.any_eq_true, List.mem_cons, List.not_mem_nil, or_false] at h
  rcases h with ((((((rfl | rfl) | rfl) | rfl) | rfl) | h) | h) | ⟨d, hd, h⟩
  · right; simp [R.SOL_CLASS_S]
  · right; simp [R.TIM_PTPLAT]
  · left; simp [setReg, R.SYS_RHT_LSW]
  · left; simp [setReg, R.SYS_RHT_MTR]
  · left; simp [setReg, R.SYS_RHT_TIME]
  · have high := far (by decide) h; right; omega
  · have high := far (by decide) h; right; omega
  · have high := far (by rcases hd with rfl | rfl | rfl | rfl | rfl | rfl | rfl | rfl | rfl | rfl | rfl | rfl <;> decide) h
    right; omega

theorem base_le_of_addrs {d : RegDesc} {a : Nat} (h : a ∈ d.addrs) : d.base ≤ a := by
  obtain ⟨i, -, hi⟩ := List.mem_flatMap.mp h
  obtain ⟨j, -, rfl⟩ := List.mem_map.mp hi
  simp only [RegDesc.addr]; omega

/-- The store holds three words of SYS. -/
theorem storedAddrs_sys {a : Nat} (h : a ∈ storedAddrs 0x10000000 0x1000FFFF) : setReg a := by
  obtain ⟨listed, inside⟩ := List.mem_filter.mp h
  obtain ⟨d, hd, ha⟩ := List.mem_flatMap.mp listed
  have low := base_le_of_addrs ha
  simp only [Bool.and_eq_true, decide_eq_true_eq] at inside
  simp only [storedRegs, List.mem_cons, List.not_mem_nil, or_false] at hd
  have far (hb : 0x20000000 ≤ d.base) : setReg a := by omega
  have one (e : d.addrs = [d.base]) (h : setReg d.base) : setReg a := by
    rw [e, List.mem_singleton] at ha
    rwa [ha]
  rcases hd with rfl | rfl | rfl | rfl | rfl | rfl | rfl | rfl | rfl | rfl | rfl | rfl
  · exact far (by decide)
  · exact far (by decide)
  · exact far (by decide)
  · exact far (by decide)
  · exact far (by decide)
  · exact far (by decide)
  · exact far (by decide)
  · exact far (by decide)
  · exact far (by decide)
  · exact one rfl (by simp [setReg, R.SYS_SAFECFG])
  · exact one rfl (by simp [setReg, R.SYS_FIREMASK_LO])
  · exact one rfl (by simp [setReg, R.SYS_FIREMASK_HI])

/-! ### What boot changes -/

/-- The registers that boot sets before any domain is on. -/
def bootReg (a : Nat) : Prop := setReg a ∨ (0x10010000 ≤ a ∧ ¬ (0x41000000 ≤ a ∧ a < 0x42000000))

/-- From `s` to `t` boot has gone on; what stands behind SYS stays. -/
structure Boots (s t : State) : Prop where
  side : (t.sys, { t.sto with exhausted := [] }, t.tbNow, t.elapsed, t.pending, t.hlt) =
    (s.sys, { s.sto with exhausted := [] }, s.tbNow, s.elapsed, s.pending, s.hlt)
  regs : RegsBut bootReg s t
  beads : Sealed s t
  enable : ∀ n < 24, t.fb F.SOL_CTL_EN n = s.fb F.SOL_CTL_EN n

namespace Boots

theorem refl (s : State) : Boots s s := ⟨rfl, RegsBut.refl s, Sealed.refl s, fun _ _ => rfl⟩

theorem trans (h : Boots s t) (h' : Boots t u) : Boots s u :=
  ⟨h'.side.trans h.side, h.regs.trans h'.regs, h.beads.trans h'.beads, fun n hn => (h'.enable n hn).trans (h.enable n hn)⟩

/-- A change of registers that are no solenoid's. -/
theorem plain (side : (t.sys, { t.sto with exhausted := [] }, t.tbNow, t.elapsed, t.pending, t.hlt) =
      (s.sys, { s.sto with exhausted := [] }, s.tbNow, s.elapsed, s.pending, s.hlt))
    (regs : RegsBut (fun a => bootReg a ∧ ¬ (0x40001000 ≤ a ∧ a < 0x40002000)) s t) (beads : Sealed s t) : Boots s t := by
  refine ⟨side, regs.mono fun _ => And.left, beads, fun n hn => regs.fb fun h => h.2 ?_⟩
  simp only [RegDesc.addr, F.SOL_CTL_EN, R.SOL_CTL]; omega

theorem beside (h : Boots s t) (hr : u.regs = t.regs) (same : u.beads = t.beads)
    (side : (u.sys, { u.sto with exhausted := [] }, u.tbNow, u.elapsed, u.pending, u.hlt) =
      (t.sys, { t.sto with exhausted := [] }, t.tbNow, t.elapsed, t.pending, t.hlt)) : Boots s u :=
  h.trans (plain side ((RegsBut.refl t).of_regs hr) ((Sealed.refl t).beside hr same))

/-- A register beyond SYS, none of the outputs'. -/
theorem wr (h : Boots s t) {d : RegDesc} {v : Word} {i j : Nat} (lo : 0x10010000 ≤ d.addr i j)
    (out : d.addr i j < 0x40000000 ∨ 0x42000000 ≤ d.addr i j) : Boots s (t.wr d v i j) :=
  h.trans (plain rfl ((RegsBut.refl t).wr ⟨.inr ⟨lo, by omega⟩, by omega⟩)
    ((Sealed.refl t).wr (by simp only [RegDesc.addr, R.SYS_PDSTAT] at lo ⊢; omega)))

theorem setF (h : Boots s t) {fl : Fld} {v i j : Nat} (lo : 0x10010000 ≤ fl.reg.addr i j)
    (out : fl.reg.addr i j < 0x40000000 ∨ 0x42000000 ≤ fl.reg.addr i j) : Boots s (t.setF fl v i j) :=
  (h.wr (v := putBits (t.rd fl.reg i j) fl.hi fl.lo v) lo out).beside rfl rfl rfl

theorem foldl {α : Type} {f : State → α → State} (l : List α) (hf : ∀ t, ∀ a ∈ l, Boots t (f t a)) (s : State) :
    Boots s (l.foldl f s) := by
  induction l generalizing s with
  | nil => exact refl s
  | cons a l ih =>
    exact (hf s a List.mem_cons_self).trans (ih (fun t b hb => hf t b (List.mem_cons_of_mem a hb)) (f s a))

theorem foldN {n : Nat} {f : State → Nat → State} (hf : ∀ t k, k < n → Boots t (f t k)) (s : State) : Boots s (foldN n f s) :=
  foldN_keeps (P := Boots s) n (fun t k hk h => h.trans (hf t k hk)) s (refl s)

end Boots

theorem logRecord_boots (s : State) (kind : Nat) (payload : List Word) : Boots s (logRecord s kind payload) := by
  have queued (l : List LogRec) : Boots s { s with logQueue := l } := (Boots.refl s).beside rfl rfl rfl
  have lost : Boots s (s.addR R.STO_LOGLOST 1) := (Boots.refl s).wr (by decide) (by decide)
  have noted : Boots s ((s.addR R.STO_LOGLOST 1).setF F.STO_STAT_LOGLOST_SEEN 1) := lost.setF (by decide) (by decide)
  unfold logRecord
  split
  · exact queued _
  · exact noted

theorem healthEvent_boots (s : State) (idx pool code detail : Nat) (v : Word) : Boots s (healthEvent s idx pool code detail v) := by
  have late := healthEvent_late s idx pool code detail v
  have posts := healthEvent_posts s idx pool code detail v
  have side : (healthEvent s idx pool code detail v).sys = s.sys := by
    simpa only [State.apart] using congrArg State.sys posts.1
  refine .plain ?_ (posts.2.mono fun a ha => ?_) (healthEvent_sealed _ _ _ _ _ _)
  · rw [side, late.sto, late.tbNow, late.elapsed, late.pending, late.hlt]
  · have area := eventReg_area ha
    exact ⟨.inr (by omega), by omega⟩

/-- Settings put at their addresses. -/
theorem put_boots (s : State) {a : Nat} (v : Word) (hp : setReg a ∨ (0x10010000 ≤ a ∧ (a < 0x40001000 ∨ 0x42000000 ≤ a))) :
    Boots s { s with regs := tabPut s.regs a v } := by
  have put : RegsBut (· = a) s { s with regs := tabPut s.regs a v } := fun b hb => tabFind_tabPut_ne (Ne.symm hb)
  have apart : a ≠ R.SYS_PDSTAT.addr := by simp only [setReg, RegDesc.addr, R.SYS_PDSTAT] at *; omega
  refine .plain rfl (put.mono ?_) (Sealed.plain (put.rd apart.symm) rfl)
  rintro b rfl
  rcases hp with h | h
  · exact ⟨.inl h, by simp only [setReg] at h; omega⟩
  · exact ⟨.inr (by omega), by omega⟩

theorem storedLoad_boots (s : State) : Boots s (storedLoad s 0x10000000 0x1000FFFF) := by
  refine Boots.foldl _ (fun t a ha => ?_) s
  split
  · exact put_boots t _ (.inl (storedAddrs_sys ha))
  · exact Boots.refl t

theorem keyLoad_boots (s : State) {lo hi : Nat} (low : 0x10000000 ≤ lo) (out : hi < 0x40000000 ∨ 0x42000000 ≤ lo) : Boots s (keyLoad s lo hi) := by
  have own {a : Nat} (h1 : lo ≤ a) (h2 : a ≤ hi) (key : keyField a = true) :
      setReg a ∨ (0x10010000 ≤ a ∧ (a < 0x40001000 ∨ 0x42000000 ≤ a)) :=
    (keyField_sys key (low.trans h1)).imp_right fun h => ⟨h.1, by omega⟩
  have dropped : Boots s { s with regs := s.regs.filter fun p => !((decide (lo ≤ p.1) && decide (p.1 ≤ hi)) && keyField p.1) } := by
    have regs : RegsBut (fun a => lo ≤ a ∧ a ≤ hi ∧ keyField a = true) s { s with regs := s.regs.filter fun p =>
        !((decide (lo ≤ p.1) && decide (p.1 ≤ hi)) && keyField p.1) } := by
      intro a ha
      show tabFind (s.regs.filter _) a = _
      rw [tabFind_filter_keys s.regs fun a => !((decide (lo ≤ a) && decide (a ≤ hi)) && keyField a), if_pos]
      by_contra clear
      simp only [Bool.not_eq_true', Bool.not_eq_false, Bool.and_eq_true, decide_eq_true_eq] at clear
      exact ha ⟨clear.1.1, clear.1.2, clear.2⟩
    refine .plain rfl (regs.mono fun a ⟨h1, h2, key⟩ => ?_) (Sealed.plain (regs.rd fun ⟨h1, h2, key⟩ => ?_) rfl)
    · rcases own h1 h2 key with h | h
      · exact ⟨.inl h, by simp only [setReg] at h; omega⟩
      · exact ⟨.inr (by omega), by omega⟩
    · exact absurd key (by decide)
  refine dropped.trans (Boots.foldl _ (fun t p hp => ?_) _)
  have inside := List.of_mem_filter hp
  simp only [Bool.and_eq_true, decide_eq_true_eq] at inside
  exact put_boots t p.2 (own inside.1.1.1 inside.1.1.2 inside.1.2)

/-- The class of a channel changes nothing of its enable. -/
theorem solClassSet_boots (s : State) (v : Word) : Boots s (solClassSet s v) := by
  have resets := solClassSet_resets s v
  have cls : Boots s (s.wr R.SOL_CLASS_S (word (v.toNat % 2 ^ 24))) := by
    refine .plain rfl ((RegsBut.refl s).wr ?_) ((Sealed.refl s).wr (by decide))
    simp [bootReg, RegDesc.addr, R.SOL_CLASS_S]
  have field (t : State) {n : Nat} (fl : Fld) (v : Nat) (hn : n < 24) (reg : fl.reg = R.SOL_CTL) (lo : 0 < fl.lo) (wf : fl.lo ≤ fl.hi) :
      Boots t (t.setF fl v n) := by
    have addr : fl.reg.addr n = 0x40001000 + 0x80 * n := by rw [reg]; simp only [RegDesc.addr, R.SOL_CTL]; omega
    refine ⟨rfl, (RegsBut.refl t).setF ?_, (Sealed.refl t).setF ?_, fun m _ => ?_⟩
    · rw [addr]; exact .inr (by omega)
    · rw [addr]; simp only [RegDesc.addr, R.SYS_PDSTAT]; omega
    · by_cases e : m = n
      · subst e
        exact State.fb_setF_beside t (fl := fl) (fl' := F.SOL_CTL_EN) v m 0 reg wf (by decide) (.inl lo)
      · have ne : fl.reg.addr n ≠ F.SOL_CTL_EN.reg.addr m := by
          rw [addr]; simp only [RegDesc.addr, F.SOL_CTL_EN, R.SOL_CTL]; omega
        simp only [State.fb, State.f_setF_ne t ne]
  refine cls.trans (Boots.foldN (fun t n hn => ?_) _)
  have one (b : Bool) : Boots t (t.setB F.SOL_CTL_CLASS_S b n) := field t F.SOL_CTL_CLASS_S _ hn rfl (by decide) (by decide)
  dsimp only
  split
  · exact (one _).trans (field _ F.SOL_CTL_ODEC _ hn rfl (by decide) (by decide))
  · exact one _

theorem hltReg_boots (h : Boots s t) {d : RegDesc} {v : Word} {i : Nat} (hi : i < 4) (lo : 0x10010000 ≤ d.base := by decide)
    (hi' : d.base < 0x10020000 := by decide) (h1 : d.s1 ≤ 4 := by decide) (h2 : d.s2 = 0 := by rfl) : Boots s (t.wr d v i) := by
  have step : d.s1 * i ≤ 4 * 3 := Nat.mul_le_mul h1 (by omega)
  exact h.wr (by simp only [RegDesc.addr, h2]; omega) (by simp only [RegDesc.addr, h2]; left; omega)

theorem poolsUpdate_boots (s : State) : Boots s (poolsUpdate s) := by
  have shown {t : State} (h : Boots s t) (fl : Fld) (v : Nat) (lo : 0x10010000 ≤ fl.reg.addr := by decide)
      (hi : fl.reg.addr < 0x40000000 := by decide) : Boots s (t.setF fl v) := h.setF lo (.inl hi)
  have told (l : List Nat) (t : State) : Boots t (l.foldl (fun s p => healthEvent s 0 p 0xF9 p 0) t) :=
    Boots.foldl l (fun u p _ => healthEvent_boots u 0 p 0xF9 p 0) t
  have noted (t : State) (l : List Nat) : Boots t { t with sto := { t.sto with exhausted := l } } :=
    (Boots.refl t).beside rfl rfl rfl
  unfold poolsUpdate
  extract_lets
  exact ((shown (shown (shown (shown (shown (shown (Boots.refl s) F.HLT_POOLS_RODS _) F.HLT_POOLS_MATRIX _) F.HLT_POOLS_PPATHS _)
    F.HLT_POOLS_DPATH _) F.HLT_POOLS_SECTIONS _) F.HLT_STAT_EXHAUSTED _).trans (told _ _)).trans (noted _ _)

theorem rodsAssign_boots (s : State) : Boots s (rodsAssign s) := by
  have cleared : Boots s (foldN 4 (fun s m => s.wr R.HLT_RODMAP 0xFFFFFFFF m) s) :=
    Boots.foldN (fun t m hm => hltReg_boots (Boots.refl t) hm) s
  have mapped (l : List (Nat × Nat)) (hl : ∀ b ∈ l, b.1 < 16) (t : State) : Boots t (l.foldl (fun s b => mapRod s b.1 b.2) t) :=
    Boots.foldl l (fun u b hb => hltReg_boots (Boots.refl u) (by have small := hl b hb; omega)) t
  refine (cleared.trans (mapped _ (fun b hb => ?_) _)).trans (poolsUpdate_boots _)
  exact List.mem_range.mp (List.of_mem_zip hb).1

theorem marksLoad_boots (s : State) : Boots s (marksLoad s) := by
  refine Boots.foldN (fun t k hk => ?_) s
  have word {u : State} (h : Boots t u) (d : RegDesc) (v : Word) (lo : 0x60000000 ≤ d.base := by decide) : Boots t (u.wr d v k) :=
    h.wr (by simp only [RegDesc.addr]; omega) (.inr (by simp only [RegDesc.addr]; omega))
  exact word (word (word (word (Boots.refl t) R.KRXHW_LO _) R.KRXHW_HI _) R.KTX_LO _) R.KTX_HI _

/-- The settings of the store and the key area give their registers (R511). -/
def bootSettings (s : State) : State :=
  keyLoad (keyLoad (keyLoad (storedLoad s 0x10000000 0x1000FFFF) 0x10000000 0x1FFFFFFF) 0x60000800 0x60000FFF) 0x61000000 0x610000FF

/-- Class S comes into force where PD7 is on. -/
def bootClassed (s : State) : State := if s.domOn 7 then solClassSet s (classSKept s) else s

/-- The KIND 4 record. -/
def bootLogged (s : State) : State := logRecord s 4 [s.rd R.SYS_RCAUSE]

/-- Boot before PD2 is switched on. -/
def bootLoaded (s : State) : State := bootLogged (pathsAssign (marksLoad (keysInForce (bootClassed (bootSettings s)))))

theorem bootSettings_boots (s : State) : Boots s (bootSettings s) :=
  (((storedLoad_boots s).trans (keyLoad_boots _ (lo := 0x10000000) (hi := 0x1FFFFFFF) (by decide) (by decide))).trans
    (keyLoad_boots _ (lo := 0x60000800) (hi := 0x60000FFF) (by decide) (by decide))).trans
    (keyLoad_boots _ (lo := 0x61000000) (hi := 0x610000FF) (by decide) (by decide))

theorem bootClassed_boots (s : State) : Boots s (bootClassed s) := by
  unfold bootClassed
  split
  · exact solClassSet_boots s _
  · exact Boots.refl s

theorem pathsAssign_boots (s : State) : Boots s (pathsAssign s) := by
  have paths (u : State) (x y : SparesX) : Boots u { u with pfeSpare := x, dfeSpare := y } := (Boots.refl u).beside rfl rfl rfl
  exact (paths s _ _).trans (rodsAssign_boots _)

theorem keysInForce_boots (s : State) : Boots s (keysInForce s) := by
  have linked (x : NetX) : Boots s { s with net := x } := (Boots.refl s).beside rfl rfl rfl
  exact linked _

theorem bootLogged_boots (s : State) : Boots s (bootLogged s) := logRecord_boots _ _ _

theorem bootLoaded_boots (s : State) : Boots s (bootLoaded s) := by
  have set := (bootSettings_boots s).trans (bootClassed_boots _)
  have keyed := (set.trans (keysInForce_boots _)).trans (marksLoad_boots _)
  exact (keyed.trans (pathsAssign_boots _)).trans (bootLogged_boots _)

/-- Commission follows boot: COMMISSION is closed, or a bank is missing (R553). -/
def toCommissionOf (s : State) : Bool := s.sys.commission || (newestBank s.sto).isNone || s.sto.newestKey.isNone

/-- Commission is decided (R553). -/
def bootDecided (s : State) : State := s.setSys { s.sys with boot := true, toCommission := toCommissionOf s }

theorem bootStart_eq (s : State) : bootStart s = pdRamp (bootDecided (bootLoaded s)) 2 := by
  have none (x : Bool) (b : Option Bank) (k : Option KeyBank) : (x || !(b.isSome && k.isSome)) = (x || b.isNone || k.isNone) := by
    cases b <;> cases k <;> simp
  have decided (u : State) : u.setSys { u.sys with boot := true, toCommission :=
      u.sys.commission || !((newestBank u.sto).isSome && u.sto.newestKey.isSome) } = bootDecided u := by
    rw [none]; rfl
  rw [← decided]
  unfold bootStart bootLoaded bootLogged bootClassed bootSettings
  rfl

end Sys2Proof.Machine

/-! What a reset does in its order (R507, R551, R552). -/

namespace Sys2Proof.Machine

open Sys2Proof.Claims

set_option Elab.async false

variable {s t u : State} {n k : Nat}

/-! ### Its stages -/

/-- SYS_RCAUSE as a reset writes it (R556). -/
def causeWord (s : State) (kind rod : Nat) (early : Bool) : Nat :=
  min 65535 (s.f F.SYS_RCAUSE_COUNT + 1) * 65536 + s.mode * 4096 + rod * 256 + bit early * 16 + bit s.sto.commit.isSome * 8 + kind

/-- Boot is entered with FIRE_PERMIT open. -/
def toBoot (s : State) : State := fireUpdate (setMode s modeBoot 0)

/-- The change of mode is reported. -/
def bootTold (s : State) (old : Nat) : State := if old = modeBoot then s else modeEvent s old

/-- PD7's outputs end but for those held through the reset, or PD7 goes off. -/
def outputsDown (s : State) : State := if s.domOn 7 then mtrRht (lswRht (solAllOff s) false) false true else pdOff s 7

/-- PD1 to PD6 go off. -/
def domainsDown (s : State) : State := [1, 2, 3, 4, 5, 6].foldl pdOff s

/-- The units of PD7 start anew. -/
def unitsAnew (s : State) : State := if s.domOn 7 then fanReset (mtrReset (lswReset (solReset s))) else s

/-- The sequences of SYS are over. -/
def sequencesOver (s : State) : State :=
  s.setSys { s.sys with wdtArmed := false, boot := false, resume := false, ramps := [], stopped := [],
                        pdSince := tabPut s.sys.pdSince 7 s.elapsed,
                        exiting := false, exitRun := false, exitMain := false, exitFailed := false }

/-- A reset with what it writes first, up to the store. -/
def resetFalls (s : State) (kind rod : Nat) (early : Bool) : State :=
  domainsDown (outputsDown (bootTold (toBoot (commitAbandon (s.wr R.SYS_RCAUSE (word (causeWord s kind rod early))) 2).2) s.mode))

/-- A reset before boot starts. -/
def resetOver (s : State) (kind rod : Nat) (early : Bool) : State :=
  sequencesOver (unitsAnew (stoReload (resetFalls s kind rod early) false))

theorem sysReset_eq (powered : s.sys.powered = true) (kind rod : Nat) (early : Bool) : sysReset s kind rod early =
    if (resetOver s kind rod early).sys.inReset then resetOver s kind rod early else bootStart (resetOver s kind rod early) := by
  have on : ¬ (!s.sys.powered) = true := by rw [powered]; decide
  unfold sysReset
  rw [if_neg on]
  unfold resetOver resetFalls causeWord bootTold outputsDown domainsDown unitsAnew sequencesOver toBoot
  rfl

/-! ### The commit that is abandoned (R507) -/

/-- A running commit is abandoned: the banks stay, and nothing of SYS. -/
structure Abandons (s t : State) : Prop where
  commit : t.sto.commit = none
  banks : (t.sto.bankA, t.sto.bankB, t.sto.keyA, t.sto.keyB) = (s.sto.bankA, s.sto.bankB, s.sto.keyA, s.sto.keyB)
  sys : t.sys = s.sys
  times : (t.tbNow, t.elapsed) = (s.tbNow, s.elapsed)
  regs : RegsBut (fun a => (0x10020000 ≤ a ∧ a < 0x10030000) ∨ eventReg a) s t

theorem Posts.sys (h : Posts s t) : t.sys = s.sys := by simpa only [State.apart] using congrArg State.sys h.1
theorem Posts.tbNow (h : Posts s t) : t.tbNow = s.tbNow := by simpa only [State.apart] using congrArg State.tbNow h.1

theorem setDirty_banks (x : StoX) (b : Bool) (d : Dirty) : (x.setDirty b d).bankA = x.bankA ∧ (x.setDirty b d).bankB = x.bankB ∧
    (x.setDirty b d).keyA = x.keyA ∧ (x.setDirty b d).keyB = x.keyB ∧ (x.setDirty b d).commit = x.commit := by
  unfold StoX.setDirty
  split <;> exact ⟨rfl, rfl, rfl, rfl, rfl⟩

/-- The end of a commit as STO_LAST and STO_STAT show it (R507). -/
def commitShown (s : State) (c : Commit) (result pages : Nat) : State :=
  let s := s.wr R.STO_LAST (word (result + bit c.key * 16 + pages * 65536))
  let s := s.wr R.STO_LASTUS (word ((s.elapsed - c.start) / 1000))
  let s := s.setF F.STO_STAT_BUSY 0
  if result = 1 then s else s.setF F.STO_STAT_FAIL_SEEN 1

theorem commitShown_shows (s : State) (c : Commit) (result pages : Nat) :
    (commitShown s c result pages).sto = s.sto ∧ (commitShown s c result pages).sys = s.sys ∧
      (commitShown s c result pages).tbNow = s.tbNow ∧ (commitShown s c result pages).elapsed = s.elapsed ∧
      RegsBut (fun a => 0x10020000 ≤ a ∧ a < 0x10030000) s (commitShown s c result pages) := by
  have busy : RegsBut (fun a => 0x10020000 ≤ a ∧ a < 0x10030000) s (((s.wr R.STO_LAST (word (result + bit c.key * 16 + pages * 65536))).wr
      R.STO_LASTUS (word ((s.elapsed - c.start) / 1000))).setF F.STO_STAT_BUSY 0) :=
    (((RegsBut.refl s).wr (by simp [RegDesc.addr, R.STO_LAST])).wr (by simp [RegDesc.addr, R.STO_LASTUS])).setF
      (fl := F.STO_STAT_BUSY) (by simp [RegDesc.addr, F.STO_STAT_BUSY, R.STO_STAT])
  unfold commitShown
  dsimp only
  split
  · exact ⟨by simp, by simp, by simp, by simp, busy⟩
  · exact ⟨by simp, by simp, by simp, by simp, busy.setF (fl := F.STO_STAT_FAIL_SEEN) (by simp [RegDesc.addr, F.STO_STAT_FAIL_SEEN, R.STO_STAT])⟩

theorem commitRecord_eq (s : State) (c : Commit) (result pages seq : Nat) :
    commitRecord s c result pages seq = healthEvent (commitShown s c result pages) 0 0 0xFC result (word seq) := rfl

theorem commitRecord_posts (s : State) (c : Commit) (result pages seq : Nat) : ∃ u, Posts u (commitRecord s c result pages seq) ∧
    u.sto = s.sto ∧ u.sys = s.sys ∧ (u.tbNow, u.elapsed) = (s.tbNow, s.elapsed) ∧ RegsBut (fun a => 0x10020000 ≤ a ∧ a < 0x10030000) s u := by
  obtain ⟨sto, sys, tb, el, regs⟩ := commitShown_shows s c result pages
  have posts := healthEvent_posts (commitShown s c result pages) 0 0 0xFC result (word seq)
  rw [← commitRecord_eq] at posts
  exact ⟨commitShown s c result pages, posts, sto, sys, congrArg₂ Prod.mk tb el, regs⟩

theorem commitAbandon_abandons (s : State) (result : Nat) : Abandons s (commitAbandon s result).2 := by
  unfold commitAbandon
  split
  · next none => exact ⟨none, rfl, rfl, rfl, RegsBut.refl s⟩
  · next c some =>
    dsimp only
    generalize Config.freeNat s.takeFresh.1 % (c.pages.length + 1) = pages
    have aside (x : StoX) (hx : (x.bankA, x.bankB, x.keyA, x.keyB) = (s.sto.bankA, s.sto.bankB, s.sto.keyA, s.sto.keyB))
        (none : x.commit = none) (seq : Nat) : Abandons s (commitRecord (s.takeFresh.2.setSto x) c result pages seq) := by
      obtain ⟨u, posts, sto, sys, times, regs⟩ := commitRecord_posts (s.takeFresh.2.setSto x) c result pages seq
      have fresh : RegsBut (fun a => 0x10020000 ≤ a ∧ a < 0x10030000) s u := regs
      refine ⟨?_, ?_, posts.sys.trans sys, ?_, (fresh.mono fun _ => .inl).trans (posts.2.mono fun _ => .inr)⟩
      · rw [posts.sto, sto]; exact none
      · rw [posts.sto, sto]; exact hx
      · rw [posts.tbNow, posts.elapsed]; exact times
    obtain ⟨bankA, bankB, keyA, keyB, -⟩ := setDirty_banks s.sto s.sto.targetB { all := true }
    refine aside _ ?_ rfl _
    show (((s.sto.setDirty s.sto.targetB { all := true }).bankA, _, _, _) : Bank × Bank × KeyBank × KeyBank) = _
    rw [bankA]
    exact congrArg₂ Prod.mk rfl (congrArg₂ Prod.mk bankB (congrArg₂ Prod.mk keyA keyB))

/-! ### The working copy (R507, R508) -/

/-- An open load is closed: the rest of the store's own stays. -/
theorem loadAbort_closes (s : State) : (loadAbort s).sto.load = none ∧ (loadAbort s).sto.commit = s.sto.commit ∧
    ((loadAbort s).sto.bankA, (loadAbort s).sto.bankB, (loadAbort s).sto.keyA, (loadAbort s).sto.keyB) =
      (s.sto.bankA, s.sto.bankB, s.sto.keyA, s.sto.keyB) ∧
    (loadAbort s).sys = s.sys ∧ (loadAbort s).beads = s.beads ∧ (loadAbort s).tbNow = s.tbNow ∧ (loadAbort s).elapsed = s.elapsed ∧
    RegsBut (· = R.STO_STAT.addr) s (loadAbort s) := by
  unfold loadAbort
  split
  · next none => exact ⟨none, rfl, rfl, rfl, rfl, rfl, rfl, RegsBut.refl s⟩
  · obtain ⟨bankA, bankB, keyA, keyB, commit⟩ := setDirty_banks s.sto s.sto.targetB { s.sto.dirtyT with image := true }
    exact ⟨rfl, commit, congrArg₂ Prod.mk bankA (congrArg₂ Prod.mk bankB (congrArg₂ Prod.mk keyA keyB)), rfl, rfl, rfl, rfl,
      RegsBut.setF (fl := F.STO_STAT_LOADOPEN) ((RegsBut.refl s).of_regs rfl) rfl⟩

/-- The newest bank depends on the banks alone. -/
theorem newestBank_congr {x y : StoX} (a : x.bankA = y.bankA) (b : x.bankB = y.bankB) : newestBank x = newestBank y := by
  unfold newestBank newestB StoX.validA
  rw [a, b]

theorem newestKey_congr {x y : StoX} (a : x.keyA = y.keyA) (b : x.keyB = y.keyB) : x.newestKey = y.newestKey := by
  unfold StoX.newestKey StoX.knewestB StoX.kvalidA StoX.kvalidB
  rw [a, b]

/-- The store after a reload. -/
structure Reloads (s t : State) : Prop where
  load : t.sto.load = none
  commit : t.sto.commit = s.sto.commit
  banks : (t.sto.bankA, t.sto.bankB, t.sto.keyA, t.sto.keyB) = (s.sto.bankA, s.sto.bankB, s.sto.keyA, s.sto.keyB)
  work : ∀ b, newestBank s.sto = some b → t.sto.work = b.cells.filter fun c => decide (0x400000 ≤ c.1)
  sys : t.sys = s.sys
  beads : t.beads = s.beads
  times : (t.tbNow, t.elapsed) = (s.tbNow, s.elapsed)
  regs : RegsBut (· = R.STO_STAT.addr) s t

theorem stoReload_reloads (s : State) : Reloads s (stoReload s false) := by
  obtain ⟨load, commit, banks, sys, beads, tb, el, regs⟩ := loadAbort_closes s
  have work (b : Bank) (h : newestBank s.sto = some b) : newestBank (loadAbort s).sto = some b := by
    simp only [Prod.mk.injEq] at banks
    rw [newestBank_congr banks.1 banks.2.1]; exact h
  refine ⟨load, commit, banks, fun b hb => ?_, sys, beads, congrArg₂ Prod.mk tb el, regs⟩
  have bank := work b hb
  unfold stoReload
  dsimp only [State.setSto]
  rw [if_neg (by decide), bank]

/-! ### Outputs and domains as they go -/

theorem bootTold_late (s : State) (old : Nat) : Late s (bootTold s old) := (Late.refl s).ite (modeEvent_late s old)

theorem outputsDown_falls (s : State) : Falls s (outputsDown s) := by
  unfold outputsDown
  split
  · exact .of_late (((solAllOff_late s).trans (lswRht_late _ _)).trans (mtrRht_late _ _ _))
  · exact pdOff_falls s 7

theorem domainsDown_falls (s : State) : Falls s (domainsDown s) := foldl_pdOff_falls _ s

theorem unitsAnew_late (s : State) : Late s (unitsAnew s) :=
  ((((solReset_resets s).late.trans (lswReset_resets _).late).trans (mtrReset_resets _).late).trans (fanReset_resets _).late).ite
    (Late.refl s)

/-- Boot is entered: its words, and what stays. -/
theorem toBoot_enters (s : State) : (toBoot s).rd R.SYS_MODE = 0 ∧ (toBoot s).rd R.SYS_FIRECTL = 0 ∧
    (toBoot s).fb F.SYS_STAT_FIRE = false ∧ Late (setMode s modeBoot 0) (toBoot s) := by
  have late := fireUpdate_late (setMode s modeBoot 0)
  have mode : (setMode s modeBoot 0).rd R.SYS_MODE = 0 := (State.rd_wr_ne _ (by decide)).trans (State.rd_wr_same ..)
  have ctl : (setMode s modeBoot 0).rd R.SYS_FIRECTL = 0 := State.rd_wr_same ..
  have shut : (setMode s modeBoot 0).fb F.SYS_FIRECTL_EN = false := by
    show (bits ((setMode s modeBoot 0).rd R.SYS_FIRECTL) 0 0 != 0) = false
    rw [ctl]; decide
  refine ⟨(late.rd ?_).trans mode, (late.rd ?_).trans ctl, fireUpdate_opens shut, late⟩ <;>
    simp [lateReg, RegDesc.addr, R.SYS_MODE, R.SYS_FIRECTL, R.SYS_STAT, R.SYS_HELD, R.SYS_HELDM, R.STO_LOGLOST, R.STO_STAT]

end Sys2Proof.Machine

/-! A reset enters Boot and its domains go off (R507, R551, R552). -/

namespace Sys2Proof.Machine

open Sys2Proof.Claims

set_option Elab.async false

variable {s t u : State} {n k : Nat}

/-! ### From the cause to Boot -/

/-- A reset has entered Boot, its domains and outputs still as they were. -/
def resetBoot (s : State) (kind rod : Nat) (early : Bool) : State :=
  bootTold (toBoot (commitAbandon (s.wr R.SYS_RCAUSE (word (causeWord s kind rod early))) 2).2) s.mode

/-- What holds when a reset has entered Boot. -/
structure InBoot (s m : State) (cause : Word) : Prop where
  cause : m.rd R.SYS_RCAUSE = cause
  mode : m.rd R.SYS_MODE = 0
  ctl : m.rd R.SYS_FIRECTL = 0
  shut : m.fb F.SYS_STAT_FIRE = false
  domains : m.rd R.SYS_PDSTAT = s.rd R.SYS_PDSTAT
  sys : { m.sys with fireSince := none } = { s.sys with fireSince := none }
  times : (m.tbNow, m.elapsed) = (s.tbNow, s.elapsed)
  commit : m.sto.commit = none
  banks : (m.sto.bankA, m.sto.bankB, m.sto.keyA, m.sto.keyB) = (s.sto.bankA, s.sto.bankB, s.sto.keyA, s.sto.keyB)
  stop : m.fb F.SYS_STAT_SS = s.fb F.SYS_STAT_SS
  table : m.rd R.SYS_RHT_LSW = s.rd R.SYS_RHT_LSW
  switches : ∀ n < 32, m.rd R.LSW_STAT n = s.rd R.LSW_STAT n

theorem not_late_low {a : Nat} (h : a < 0x10020000) (stat : a ≠ R.SYS_STAT.addr := by decide) (held : a ≠ R.SYS_HELD.addr := by decide)
    (heldm : a ≠ R.SYS_HELDM.addr := by decide) : ¬ lateReg a := by
  simp only [lateReg, RegDesc.addr, R.SYS_STAT, R.SYS_HELD, R.SYS_HELDM, R.STO_LOGLOST, R.STO_STAT] at *
  omega

theorem lsw_stat_addr (n : Nat) : R.LSW_STAT.addr n = 0x41001018 + 0x40 * n := by simp only [RegDesc.addr, R.LSW_STAT]; omega

/-- The entry to Boot leaves the load switches. -/
theorem toBoot_switches (s : State) (old : Nat) (hn : n < 32) : (bootTold (toBoot s) old).rd R.LSW_STAT n = s.rd R.LSW_STAT n := by
  have addr := lsw_stat_addr n
  have far : ¬ eventReg (R.LSW_STAT.addr n) := fun h => by have area := eventReg_area h; omega
  have set : (setMode s modeBoot 0).rd R.LSW_STAT n = s.rd R.LSW_STAT n :=
    (State.rd_wr_ne _ (by rw [addr]; simp only [RegDesc.addr, R.SYS_FIRECTL]; omega)).trans
      (State.rd_wr_ne _ (by rw [addr]; simp only [RegDesc.addr, R.SYS_MODE]; omega))
  have fired : (toBoot s).rd R.LSW_STAT n = (setMode s modeBoot 0).rd R.LSW_STAT n := by
    refine noisy_rd (fireUpdate_noisy (setMode s modeBoot 0)) ?_ far
    rw [addr]; simp only [RegDesc.addr, R.SYS_STAT, solBlock]; omega
  have told : (bootTold (toBoot s) old).rd R.LSW_STAT n = (toBoot s).rd R.LSW_STAT n := by
    unfold bootTold
    split
    · rfl
    · exact (healthEvent_posts _ _ _ _ _ _).2.rd far
  exact told.trans (fired.trans set)

theorem resetBoot_inBoot (s : State) (kind rod : Nat) (early : Bool) :
    InBoot s (resetBoot s kind rod early) (word (causeWord s kind rod early)) := by
  let noted := s.wr R.SYS_RCAUSE (word (causeWord s kind rod early))
  let left := (commitAbandon noted 2).2
  have abandon : Abandons noted left := commitAbandon_abandons noted 2
  obtain ⟨mode, ctl, shut, fired⟩ := toBoot_enters left
  have told : Late (toBoot left) (resetBoot s kind rod early) := bootTold_late (toBoot left) s.mode
  have late := fired.trans told
  have aside {a : Nat} (h : a < 0x10020000) : ¬ ((0x10020000 ≤ a ∧ a < 0x10030000) ∨ eventReg a) := by
    rintro (h' | h')
    · omega
    · exact sys_not_event h h'
  have low (d : RegDesc) (h : d.addr < 0x10020000) (m : R.SYS_MODE.addr ≠ d.addr := by decide) (f : R.SYS_FIRECTL.addr ≠ d.addr := by decide)
      (rc : R.SYS_RCAUSE.addr ≠ d.addr := by decide) : (setMode left modeBoot 0).rd d = s.rd d :=
    ((State.rd_wr_ne _ f).trans (State.rd_wr_ne _ m)).trans ((abandon.regs.rd (aside h)).trans (State.rd_wr_ne s rc))
  have stat := low R.SYS_STAT (by decide)
  have flag : (setMode left modeBoot 0).fb F.SYS_STAT_SS = s.fb F.SYS_STAT_SS := by
    simp only [State.fb, State.f, F.SYS_STAT_SS, stat]
  exact {
    cause := (late.rd (not_late_low (by decide))).trans (((State.rd_wr_ne _ (by decide)).trans (State.rd_wr_ne _ (by decide))).trans
      ((abandon.regs.rd (aside (by decide))).trans (State.rd_wr_same ..)))
    mode := (told.rd (not_late_low (by decide))).trans mode
    ctl := (told.rd (not_late_low (by decide))).trans ctl
    shut := told.shut shut
    domains := (late.rd (not_late_low (by decide))).trans (low R.SYS_PDSTAT (by decide))
    sys := late.sys.trans (congrArg (fun x : SysX => { x with fireSince := none }) abandon.sys)
    times := (congrArg₂ Prod.mk late.tbNow late.elapsed).trans abandon.times
    commit := (congrArg StoX.commit late.sto).trans abandon.commit
    banks := (congrArg (fun x : StoX => (x.bankA, x.bankB, x.keyA, x.keyB)) late.sto).trans abandon.banks
    stop := (late.flags F.SYS_STAT_SS ⟨rfl, by decide, by decide, by decide⟩).trans flag
    table := (late.rd (not_late_low (by decide))).trans (low R.SYS_RHT_LSW (by decide))
    switches := fun n hn => by
      have addr := lsw_stat_addr n
      refine (toBoot_switches left s.mode hn).trans ((abandon.regs.rd ?_).trans (State.rd_wr_ne s ?_))
      · rintro (h | h)
        · omega
        · have area := eventReg_area h; omega
      · rw [addr]; simp only [RegDesc.addr, R.SYS_RCAUSE]; omega }

/-! ### Domains and the Frame domain -/

theorem outputsDown_pd (s : State) (hk : k < 8) : (outputsDown s).pd k = if k = 7 then (if s.domOn 7 then 2 else 0) else s.pd k := by
  unfold outputsDown
  by_cases on : s.domOn 7 = true
  · rw [if_pos on, ((((solAllOff_late s).trans (lswRht_late _ false)).trans (mtrRht_late _ false true)).pd k), if_pos on]
    split
    · next e => rw [e]; exact domOn_iff.mp on
    · rfl
  · rw [if_neg on, pdOff_pd s (by decide) hk, if_neg on]

theorem domainsDown_pd (s : State) (hk : k < 8) : (domainsDown s).pd k = if k ∈ [1, 2, 3, 4, 5, 6] then 0 else s.pd k :=
  (foldl_pdOff [1, 2, 3, 4, 5, 6] (by decide) s).1 k hk

/-- PD2 on goes off with all it holds. -/
theorem pdOff_empties (on : s.pd 2 = 2) : (pdOff s 2).beads = ([], [], [], []) := by
  rw [pdOff_eq, if_neg (by rw [on]; decide)]
  have shown := congrArg State.beads (offShown_else (pdDrop s 2) 2)
  exact shown

/-- The loop engine goes off with FIRE_PERMIT open. -/
theorem lpePowerOff_calm (shut : s.fb F.SYS_STAT_FIRE = false) :
    ∃ x, lpePowerOff s = { lpeLost s with sys := { s.sys with fireSince := x } } := by
  have same : (lpeLost s).rd R.SYS_STAT = s.rd R.SYS_STAT := by
    simp only [State.rd, tabGet, lpeLost, tabFind_tabDropRange]
    rw [if_neg (by decide)]
  have lost : (lpeLost s).fb F.SYS_STAT_FIRE = false := by
    show (bits ((lpeLost s).rd R.SYS_STAT) 3 3 != 0) = false
    rw [same]; exact shut
  exact fireUpdate_calm lost

theorem pdOff_sealed (shut : s.fb F.SYS_STAT_FIRE = false) (hn : n < 8) (ne : n ≠ 2) : Sealed s (pdOff s n) := fun off => by
  refine ⟨by rw [pdOff_pd s hn (by decide), if_neg (Ne.symm ne)]; exact off, ?_⟩
  have dropped : (pdDrop s n).beads = s.beads := by
    have loops : (lpePowerOff s).beads = s.beads := by
      obtain ⟨x, e⟩ := lpePowerOff_calm shut
      rw [e]; rfl
    have can : (canReset s).beads = s.beads := (congrArg State.beads (canReset_else s) :)
    unfold pdDrop
    split
    · rfl
    · exact absurd rfl ne
    · exact loops
    · rfl
    · rfl
    · exact can
    · rfl
    · rfl
  rw [pdOff_eq]
  split
  · rfl
  · exact ((congrArg State.beads (offShown_else (pdDrop s n) n) :) : (offShown (pdDrop s n) n).beads = _).trans dropped

theorem domainsDown_empties (shut : s.fb F.SYS_STAT_FIRE = false) (on : s.pd 2 = 2) : (domainsDown s).beads = ([], [], [], []) := by
  have first : (pdOff s 1).pd 2 = 2 := by rw [pdOff_pd s (by decide) (by decide), if_neg (by decide)]; exact on
  have off : (pdOff (pdOff s 1) 2).pd 2 = 0 := by rw [pdOff_pd _ (by decide) (by decide), if_pos rfl]
  have shut2 := (pdOff_falls _ 2).shut ((pdOff_falls s 1).shut shut)
  have shut3 := (pdOff_falls _ 3).shut shut2
  have shut4 := (pdOff_falls _ 4).shut shut3
  have shut5 := (pdOff_falls _ 5).shut shut4
  have rest := ((pdOff_sealed shut2 (by decide) (by decide : (3 : Nat) ≠ 2)).trans (pdOff_sealed shut3 (by decide) (by decide : (4 : Nat) ≠ 2))).trans
    ((pdOff_sealed shut4 (by decide) (by decide : (5 : Nat) ≠ 2)).trans (pdOff_sealed shut5 (by decide) (by decide : (6 : Nat) ≠ 2)))
  exact (rest off).2.trans (pdOff_empties first)

end Sys2Proof.Machine

/-! What a reset holds of PD7: held load switches stay, solenoids are disabled (R538, R552). -/

namespace Sys2Proof.Machine

open Sys2Proof.Claims

set_option Elab.async false

variable {s t u : State} {n k : Nat}

/-! ### Outputs held through the reset (R338, R552) -/

/-- Load switch `n` is held, its state as in `s`. -/
def heldOut (s : State) (n : Nat) (t : State) : Prop := t.lswHeld n = true ∧ t.rd R.LSW_STAT n = s.rd R.LSW_STAT n

/-- A register of a held switch. -/
def heldReg (a : Nat) : Prop := a = R.SYS_HELD.addr ∨ (0x41000000 ≤ a ∧ a < 0x42000000)

theorem heldOut_of_regs {p : Nat → Prop} (h : heldOut s n t) (regs : RegsBut p t u) (held : ¬ p R.SYS_HELD.addr)
    (stat : ¬ p (R.LSW_STAT.addr n)) : heldOut s n u :=
  ⟨(congrArg (maskBit · n) (regs.rd held)).trans h.1, (regs.rd stat).trans h.2⟩

theorem heldOut_of_far {p : Nat → Prop} (h : heldOut s n t) (hn : n < 32) (regs : RegsBut p t u) (far : ∀ a, heldReg a → ¬ p a) :
    heldOut s n u := by
  have addr := lsw_stat_addr n
  exact heldOut_of_regs h regs (far _ (.inl rfl)) (far _ (.inr (by omega)))

/-- The solenoids' registers, and those of their events. -/
def solReg (a : Nat) : Prop := solBlock a ∨ eventReg a

theorem solAllOff_regs (s : State) : RegsBut solReg s (solAllOff s) := by
  refine foldN_keeps (P := RegsBut solReg s) 24 (fun t n hn h => h.trans ?_) s (RegsBut.refl s)
  have stopped : RegsBut solReg t (solStop t n (solSafePath t n)) :=
    RegsBut.trans ((RegsBut.refl t).of_regs rfl) (solOff_solOnly hn (t.setSol n { t.solX n with armed := none, rep := none }) _).2
  have off : RegsBut solReg t (if t.solOdd n then t else solStop t n (solSafePath t n)) := by
    split
    · exact RegsBut.refl t
    · exact stopped
  exact off.setF (fl := F.SOL_CTL_EN) (.inl (solCtl_block hn))

/-- The registers that PD1 to PD6 lose. -/
def domainReg (a : Nat) : Prop :=
  a = R.SYS_PDSTAT.addr ∨ a = R.SYS_PDCTL.addr ∨ (0x11000000 ≤ a ∧ ¬ (0x40000000 ≤ a ∧ a < 0x44000000))

theorem pdOff_regs (shut : s.fb F.SYS_STAT_FIRE = false) (hn : n ∈ [1, 2, 3, 4, 5, 6]) : RegsBut domainReg s (pdOff s n) := by
  have drop {t u : State} {lo hi : Nat} (h : RegsBut domainReg s t) (hr : u.regs = tabDropRange t.regs lo hi) (hl : 0x11000000 ≤ lo)
      (out : hi < 0x40000000 ∨ 0x44000000 ≤ lo) : RegsBut domainReg s u :=
    regsBut_dropped h hr fun a low high => .inr (.inr (by omega))
  have dropped : RegsBut domainReg s (pdDrop s n) := by
    simp only [List.mem_cons, List.not_mem_nil, or_false] at hn
    rcases hn with rfl | rfl | rfl | rfl | rfl | rfl
    · exact drop (t := { s with regs := tabDropRange s.regs 0x60000000 0x600007FF })
        (drop (RegsBut.refl s) rfl (by decide) (by decide)) rfl (by decide : 0x11000000 ≤ 0x61000100) (by decide : _ ∨ 0x44000000 ≤ 0x61000100)
    · exact drop (t := { s with regs := tabDropRange (tabDropRange s.regs 0x11000000 0x1101FFFF) 0x32000000 0x32FFFFFF })
        (drop (t := { s with regs := tabDropRange s.regs 0x11000000 0x1101FFFF }) (drop (RegsBut.refl s) rfl (by decide) (by decide))
          rfl (by decide) (by decide)) rfl (by decide : 0x11000000 ≤ 0x51000000) (by decide : _ ∨ 0x44000000 ≤ 0x51000000)
    · obtain ⟨x, e⟩ := lpePowerOff_calm shut
      have lost : RegsBut domainReg s (lpeLost s) := drop (RegsBut.refl s) rfl (by decide) (by decide)
      have regs : (lpePowerOff s).regs = (lpeLost s).regs := (congrArg State.regs e :)
      exact lost.of_regs regs
    · exact drop (RegsBut.refl s) rfl (by decide : 0x11000000 ≤ 0x30000000) (by decide : 0x30FFFFFF < 0x40000000 ∨ _)
    · exact drop (RegsBut.refl s) rfl (by decide : 0x11000000 ≤ 0x31000000) (by decide : 0x31FFFFFF < 0x40000000 ∨ _)
    · have lost : RegsBut domainReg s { s with regs := tabDropRange s.regs 0x50000000 0x50FFFFFF, can := [], tts := [] } :=
        drop (RegsBut.refl s) rfl (by decide) (by decide)
      show RegsBut domainReg s (canReset s)
      unfold canReset
      dsimp only
      split
      · exact lost
      · exact lost.wr (.inr (.inr (by decide)))
  rw [pdOff_eq]
  split
  · exact RegsBut.refl s
  · exact (dropped.trans ((offShown_regs (pdDrop s n) n).mono fun a h => h.elim .inl fun h => .inr (.inl h))).of_regs rfl

theorem domainsDown_regs (shut : s.fb F.SYS_STAT_FIRE = false) : RegsBut domainReg s (domainsDown s) := by
  have walk (l : List Nat) (hl : ∀ n ∈ l, n ∈ [1, 2, 3, 4, 5, 6]) : ∀ t : State, t.fb F.SYS_STAT_FIRE = false →
      RegsBut domainReg t (l.foldl pdOff t) := by
    induction l with
    | nil => exact fun t _ => RegsBut.refl t
    | cons n l ih =>
      exact fun t open' => (pdOff_regs open' (hl n List.mem_cons_self)).trans
        (ih (fun m hm => hl m (List.mem_cons_of_mem n hm)) _ ((pdOff_falls t n).shut open'))
  exact walk _ (fun _ h => h) s shut

theorem axisArea_far {a : Nat} (h : heldReg a) : ¬ axisArea a := by
  simp only [heldReg, RegDesc.addr, R.SYS_HELD] at h
  rintro (h' | h' | h')
  · omega
  · simp only [RegDesc.addr, R.SYS_HELDM] at h'; omega
  · have area := eventReg_area h'; omega

/-- A switch that the table holds goes through the outputs' end held, as it was. -/
theorem outputsDown_holds (on : s.domOn 7 = true) (shut : s.fb F.SYS_STAT_FIRE = false) (hn : n < 32)
    (hold : maskBit (s.rd R.SYS_RHT_LSW) n = true) (go : s.fb F.SYS_STAT_SS = false) : heldOut s n (outputsDown s) := by
  have addr := lsw_stat_addr n
  have off := solAllOff_late s
  have table : (solAllOff s).rd R.SYS_RHT_LSW = s.rd R.SYS_RHT_LSW := off.rd (not_late_low (by decide))
  have stop : (solAllOff s).fb F.SYS_STAT_SS = s.fb F.SYS_STAT_SS := off.flags _ ⟨rfl, by decide, by decide, by decide⟩
  obtain ⟨held, same⟩ := lswRht_holds (s := solAllOff s) hn (by rw [table]; exact hold) (by rw [stop]; exact go)
  have before : (solAllOff s).rd R.LSW_STAT n = s.rd R.LSW_STAT n := (solAllOff_regs s).rd (by
    rintro (h | h)
    · simp only [solBlock] at h; omega
    · have area := eventReg_area h; omega)
  have down : outputsDown s = mtrRht (lswRht (solAllOff s) false) false true := if_pos on
  rw [down]
  exact heldOut_of_far ⟨held, same.trans before⟩ hn ((mtrRht_resets _ false true).regs ((off.trans (lswRht_late _ _)).shut shut))
    fun a => axisArea_far

theorem domainsDown_holds (shut : t.fb F.SYS_STAT_FIRE = false) (hn : n < 32) (h : heldOut s n t) : heldOut s n (domainsDown t) := by
  refine heldOut_of_far h hn (domainsDown_regs shut) fun a ha hd => ?_
  simp only [heldReg, RegDesc.addr, R.SYS_HELD] at ha
  rcases hd with hd | hd | hd
  · simp only [RegDesc.addr, R.SYS_PDSTAT] at hd; omega
  · simp only [RegDesc.addr, R.SYS_PDCTL] at hd; omega
  · omega

theorem unitsAnew_holds (shut : t.fb F.SYS_STAT_FIRE = false) (hn : n < 32) (h : heldOut s n t) : heldOut s n (unitsAnew t) := by
  have addr := lsw_stat_addr n
  unfold unitsAnew
  split
  · have sol := solReset_resets t
    have lsw := lswReset_resets (solReset t)
    have mtr := mtrReset_resets (lswReset (solReset t))
    have shut1 := sol.late.shut shut
    have shut2 := lsw.late.shut shut1
    have first := heldOut_of_far h hn (sol.regs shut) fun a ha hb => by
      simp only [heldReg, RegDesc.addr, R.SYS_HELD] at ha
      simp only [solBlock] at hb
      omega
    have second : heldOut s n (lswReset (solReset t)) := heldOut_of_regs first (lsw.regs shut1)
      (fun e => by have low := e.1.1; simp only [RegDesc.addr, R.SYS_HELD] at low; omega) (fun e => e.2 n hn first.1 rfl)
    have third := heldOut_of_far second hn (mtr.regs shut2) fun a => axisArea_far
    exact heldOut_of_far third hn ((fanReset_resets _).regs (mtr.late.shut shut2)) fun a => axisArea_far
  · exact h

/-- The solenoids' enables are clear. -/
def disabled (t : State) : Prop := ∀ n < 24, t.fb F.SOL_CTL_EN n = false

theorem disabled_of_regs {p : Nat → Prop} (h : disabled t) (regs : RegsBut p t u) (far : ∀ a, p a → a < 0x40001000 ∨ 0x40002000 ≤ a ∨
    a % 0x80 ≠ 0) : disabled u := fun n hn => by
  refine (regs.fb fun hp => ?_).trans (h n hn)
  have apart := far _ hp
  simp only [RegDesc.addr, F.SOL_CTL_EN, R.SOL_CTL] at apart
  omega

theorem disabled_setF (h : disabled t) {fl : Fld} {v i : Nat} (apart : fl.reg.addr i < 0x40001000 ∨ fl.reg.addr i % 0x80 ≠ 0) :
    disabled (t.setF fl v i) :=
  disabled_of_regs (p := (· = fl.reg.addr i)) h ((RegsBut.refl t).setF rfl) fun a ha => by rw [ha]; omega

theorem disabled_foldl {α : Type} {f : State → α → State} (l : List α) (hf : ∀ t a, disabled t → disabled (f t a)) :
    ∀ t, disabled t → disabled (l.foldl f t) := by
  induction l with
  | nil => exact fun _ h => h
  | cons a l ih => exact fun t h => ih _ (hf t a h)

/-- After a reset of the solenoid drive no channel is enabled. -/
theorem solReset_disables (s : State) : disabled (solReset s) := by
  have lost : disabled { s with regs := tabDropRange s.regs 0x40000000 0x40FFFFFF, sol := [] } := fun n hn => by
    simp only [State.fb, State.f, State.rd, tabGet, tabFind_tabDropRange]
    rw [if_pos (by simp only [RegDesc.addr, F.SOL_CTL_EN, R.SOL_CTL]; omega)]
    decide
  have classed (u : State) (v : Word) (h : disabled u) : disabled (solClassSet u v) := fun n hn =>
    ((solClassSet_boots u v).enable n hn).trans (h n hn)
  have shown (u : State) (v : Nat) (h : disabled u) : disabled (u.setF F.SOL_GSTAT_UNDERV v) := disabled_setF h (.inl (by decide))
  have bank (u : State) (fl : Fld) (v b : Nat) (reg : fl.reg = R.SOL_BSTAT) (h : disabled u) : disabled (u.setF fl v b) :=
    disabled_setF h (.inr (by rw [reg]; simp only [RegDesc.addr, R.SOL_BSTAT]; omega))
  have chan (u : State) (fl : Fld) (v n : Nat) (reg : fl.reg = R.SOL_STAT) (h : disabled u) : disabled (u.setF fl v n) :=
    disabled_setF h (.inr (by rw [reg]; simp only [RegDesc.addr, R.SOL_STAT]; omega))
  refine disabled_foldl _ (fun t x h => ?_) _ (disabled_foldl _ (fun t b h => ?_) _ (shown _ _ (classed _ _ lost)))
  · have kept := chan _ F.SOL_STAT_HOT x.2.2.1 x.1 rfl (chan t F.SOL_STAT_LOST x.2.1 x.1 rfl h)
    dsimp only
    split
    · exact chan _ F.SOL_STAT_PHASE 3 x.1 rfl kept
    · exact kept
  · exact bank _ F.SOL_BSTAT_DOWN_CAUSE 1 b rfl (bank t F.SOL_BSTAT_DOWN 1 b rfl h)

theorem unitsAnew_disables (on : s.domOn 7 = true) (shut : s.fb F.SYS_STAT_FIRE = false) : disabled (unitsAnew s) := by
  have anew : unitsAnew s = fanReset (mtrReset (lswReset (solReset s))) := if_pos on
  have sol := solReset_resets s
  have lsw := lswReset_resets (solReset s)
  have mtr := mtrReset_resets (lswReset (solReset s))
  have shut1 := sol.late.shut shut
  have shut2 := lsw.late.shut shut1
  have axes {a : Nat} (h : axisArea a) : a < 0x40001000 ∨ 0x40002000 ≤ a ∨ a % 0x80 ≠ 0 := by
    rcases h with h | h | h
    · omega
    · simp only [RegDesc.addr, R.SYS_HELDM] at h; omega
    · have area := eventReg_area h; omega
  rw [anew]
  have first := disabled_of_regs (solReset_disables s) (lsw.regs shut1) fun a h => .inr (.inl (by have low := h.1.1; omega))
  have second := disabled_of_regs first (mtr.regs shut2) fun a => axes
  exact disabled_of_regs second ((fanReset_resets _).regs (mtr.late.shut shut2)) fun a => axes

end Sys2Proof.Machine

/-! Every reset records its cause and passes through Boot (R551 to R553). -/

namespace Sys2Proof.Machine

open Sys2Proof.Claims

set_option Elab.async false

variable {s t u : State} {n k : Nat}

/-! ### Boot starts -/

/-- Boot has started in `t` from `q`. -/
structure Booted (q t : State) : Prop where
  regs : RegsBut (fun a => bootReg a ∨ a = R.SYS_PDSTAT.addr) q t
  pds : ∀ k < 8, t.pd k = if k = 2 ∧ q.pd 2 = 0 then 1 else q.pd k
  sys : { t.sys with ramps := [] } = { q.sys with boot := true, toCommission := toCommissionOf q, ramps := [] }
  sto : { t.sto with exhausted := [] } = { q.sto with exhausted := [] }
  times : (t.tbNow, t.elapsed, t.pending) = (q.tbNow, q.elapsed, q.pending)
  beads : q.pd 2 = 0 → t.beads = q.beads
  enable : ∀ n < 24, t.fb F.SOL_CTL_EN n = q.fb F.SOL_CTL_EN n

theorem toCommissionOf_congr (sys : t.sys = s.sys) (sto : { t.sto with exhausted := [] } = { s.sto with exhausted := [] }) :
    toCommissionOf t = toCommissionOf s := by
  have bankA : t.sto.bankA = s.sto.bankA := (congrArg StoX.bankA sto :)
  have bankB : t.sto.bankB = s.sto.bankB := (congrArg StoX.bankB sto :)
  have keyA : t.sto.keyA = s.sto.keyA := (congrArg StoX.keyA sto :)
  have keyB : t.sto.keyB = s.sto.keyB := (congrArg StoX.keyB sto :)
  simp only [toCommissionOf, sys, newestBank_congr bankA bankB, newestKey_congr keyA keyB]

theorem ramp_side (s : State) : (pdRamp s 2).sto = s.sto ∧ (pdRamp s 2).beads = s.beads ∧
    ((pdRamp s 2).tbNow, (pdRamp s 2).elapsed, (pdRamp s 2).pending) = (s.tbNow, s.elapsed, s.pending) ∧
    { (pdRamp s 2).sys with ramps := [] } = { s.sys with ramps := [] } ∧ RegsBut (· = R.SYS_PDSTAT.addr) s (pdRamp s 2) := by
  have else' := pdRamp_else s 2
  refine ⟨(congrArg State.sto else' :), (congrArg State.beads else' :),
    (congrArg (fun u : State => (u.tbNow, u.elapsed, u.pending)) else' :), ?_, (pdRamp_regs s 2).mono fun a h => ?_⟩
  · rw [pdRamp_eq]
    split <;> rfl
  · rcases h with h | ⟨has, -⟩
    · exact h
    · exact absurd has (by decide)

/-- Commission is decided: what stands elsewhere stays. -/
theorem bootDecided_rest (s : State) : (bootDecided s).sto = s.sto ∧ (bootDecided s).beads = s.beads ∧
    ((bootDecided s).tbNow, (bootDecided s).elapsed, (bootDecided s).pending) = (s.tbNow, s.elapsed, s.pending) ∧
    (bootDecided s).regs = s.regs ∧
    (bootDecided s).sys = { s.sys with boot := true, toCommission := toCommissionOf s } := ⟨rfl, rfl, rfl, rfl, rfl⟩

/-- Boot goes on from what it has loaded. -/
theorem booted_of_loaded {q l : State} (boots : Boots q l) : Booted q (pdRamp (bootDecided l) 2) := by
  obtain ⟨sto, beads, times, sys, regs⟩ := ramp_side (bootDecided l)
  obtain ⟨sto', beads', times', regs', sys'⟩ := bootDecided_rest l
  generalize bootDecided l = d at *
  have pdstat : l.rd R.SYS_PDSTAT = q.rd R.SYS_PDSTAT :=
    boots.regs.rd (by simp [bootReg, setReg, RegDesc.addr, R.SYS_PDSTAT])
  have domains (k : Nat) : d.pd k = q.pd k := pd_of_rd (by rw [← pdstat]; simp only [State.rd, regs']) k
  have loadedSys : l.sys = q.sys := congrArg (·.1) boots.side
  have loadedSto : { l.sto with exhausted := [] } = { q.sto with exhausted := [] } := congrArg (·.2.1) boots.side
  have loadedTimes : (l.tbNow, l.elapsed, l.pending) = (q.tbNow, q.elapsed, q.pending) :=
    congrArg (fun x : SysX × StoX × Nat × Nat × List Instr × HltX => (x.2.2.1, x.2.2.2.1, x.2.2.2.2.1)) boots.side
  have decided : d.sys = { q.sys with boot := true, toCommission := toCommissionOf q } := by
    rw [sys', toCommissionOf_congr loadedSys loadedSto, loadedSys]
  exact {
    regs := ((boots.regs.mono fun _ => .inl).of_regs regs').trans (regs.mono fun _ => .inr)
    pds := fun k hk => by
      rw [pdRamp_pd _ (by decide) hk, domains, domains]
    sys := sys.trans (congrArg (fun x : SysX => { x with ramps := [] }) decided)
    sto := (congrArg (fun x : StoX => { x with exhausted := [] }) (sto.trans sto')).trans loadedSto
    times := times.trans (times'.trans loadedTimes)
    beads := fun off => beads.trans (beads'.trans (boots.beads off).2)
    enable := fun n hn => (regs.fb (by simp only [RegDesc.addr, F.SOL_CTL_EN, R.SOL_CTL, R.SYS_PDSTAT]; omega)).trans
      ((by simp only [State.fb, State.f, State.rd, regs'] : d.fb F.SOL_CTL_EN n = l.fb F.SOL_CTL_EN n).trans (boots.enable n hn)) }

theorem bootStart_booted (q : State) : Booted q (bootStart q) := by
  rw [bootStart_eq]
  exact booted_of_loaded (bootLoaded_boots q)

/-! ### Before boot starts -/

/-- A reset has done all but start boot. -/
structure Over (s q : State) (cause : Word) : Prop where
  cause : q.rd R.SYS_RCAUSE = cause
  mode : q.rd R.SYS_MODE = 0
  ctl : q.rd R.SYS_FIRECTL = 0
  shut : q.fb F.SYS_STAT_FIRE = false
  low : ∀ n ∈ [1, 2, 3, 4, 5, 6], q.pd n = 0
  seven : q.pd 7 = if s.domOn 7 then 2 else 0
  zero : q.pd 0 = s.pd 0
  frame : s.domOn 2 = true → q.beads = ([], [], [], [])
  sols : s.domOn 7 = true → disabled q
  switches : s.domOn 7 = true → ∀ n < 32, maskBit (s.rd R.SYS_RHT_LSW) n = true → s.fb F.SYS_STAT_SS = false → heldOut s n q
  commit : q.sto.commit = none
  load : q.sto.load = none
  banks : (q.sto.bankA, q.sto.bankB, q.sto.keyA, q.sto.keyB) = (s.sto.bankA, s.sto.bankB, s.sto.keyA, s.sto.keyB)
  work : ∀ b, newestBank s.sto = some b → q.sto.work = b.cells.filter fun c => decide (0x400000 ≤ c.1)
  times : (q.tbNow, q.elapsed) = (s.tbNow, s.elapsed)
  ended : q.sys.wdtArmed = false ∧ q.sys.resume = false ∧ q.sys.boot = false
  contacts : q.sys.inReset = s.sys.inReset ∧ q.sys.commission = s.sys.commission

theorem not_out_low {a : Nat} (h : a < 0x10020000) (stat : a ≠ R.SYS_STAT.addr := by decide) (held : a ≠ R.SYS_HELD.addr := by decide)
    (heldm : a ≠ R.SYS_HELDM.addr := by decide) (pd : a ≠ R.SYS_PDSTAT.addr := by decide) (ctl : a ≠ R.SYS_PDCTL.addr := by decide) :
    ¬ outReg a := by
  rintro (h' | h' | h' | h')
  · exact pd h'
  · exact ctl h'
  · exact not_late_low h stat held heldm h'
  · omega

theorem heldOut_congr (h : heldOut t n u) (same : t.rd R.LSW_STAT n = s.rd R.LSW_STAT n) : heldOut s n u := ⟨h.1, h.2.trans same⟩

theorem resetOver_over (s : State) (kind rod : Nat) (early : Bool) :
    Over s (resetOver s kind rod early) (word (causeWord s kind rod early)) := by
  have start := resetBoot_inBoot s kind rod early
  have whole : resetOver s kind rod early =
    sequencesOver (unitsAnew (stoReload (domainsDown (outputsDown (resetBoot s kind rod early))) false)) := rfl
  rw [whole]
  generalize resetBoot s kind rod early = m at start ⊢
  generalize word (causeWord s kind rod early) = cause at start ⊢
  have out := outputsDown_falls m
  have down := domainsDown_falls (outputsDown m)
  have falls := out.trans down
  have reload := stoReload_reloads (domainsDown (outputsDown m))
  have anew := unitsAnew_late (stoReload (domainsDown (outputsDown m)) false)
  have shutO := out.shut start.shut
  have shutD := down.shut shutO
  have shutL : (stoReload (domainsDown (outputsDown m)) false).fb F.SYS_STAT_FIRE = false := (reload.regs.fb (by decide)).trans shutD
  have reloadPd (k : Nat) := pd_of_rd (reload.regs.rd (d := R.SYS_PDSTAT) (by decide)) k
  have pds (k : Nat) (hk : k < 8) : (unitsAnew (stoReload (domainsDown (outputsDown m)) false)).pd k =
      if k ∈ [1, 2, 3, 4, 5, 6] then 0 else if k = 7 then (if s.domOn 7 then 2 else 0) else s.pd k := by
    have on : m.domOn 7 = s.domOn 7 := by simp only [State.domOn, start.domains]
    rw [anew.pd, reloadPd, domainsDown_pd _ hk, outputsDown_pd _ hk, on, pd_of_rd start.domains]
  have rd (d : RegDesc) (h : d.addr < 0x10020000) (h1 : ¬ outReg d.addr) (h2 : ¬ lateReg d.addr) (h3 : d.addr ≠ R.STO_STAT.addr) :
      (unitsAnew (stoReload (domainsDown (outputsDown m)) false)).rd d = m.rd d :=
    (anew.rd h2).trans ((reload.regs.rd h3).trans (falls.rd h1))
  have on7 (on : s.domOn 7 = true) : m.domOn 7 = true := by
    rw [← on]; simp only [State.domOn, start.domains]
  have lasts : { (unitsAnew (stoReload (domainsDown (outputsDown m)) false)).sys with fireSince := none, ramps := [] } =
      { s.sys with fireSince := none, ramps := [] } :=
    (congrArg (fun x : SysX => { x with ramps := [] }) anew.sys).trans ((congrArg (fun x : SysX => { x with fireSince := none, ramps := [] })
      reload.sys).trans (falls.sys.trans (congrArg (fun x : SysX => { x with ramps := [] }) start.sys)))
  have bank {α : Type} (g : StoX → α) (hg : ∀ x : StoX, g x.lasting = g x) : g (domainsDown (outputsDown m)).sto = g m.sto := by
    rw [← hg, falls.sto, hg]
  have banks : ((domainsDown (outputsDown m)).sto.bankA, (domainsDown (outputsDown m)).sto.bankB,
      (domainsDown (outputsDown m)).sto.keyA, (domainsDown (outputsDown m)).sto.keyB) =
      (s.sto.bankA, s.sto.bankB, s.sto.keyA, s.sto.keyB) :=
    (bank (fun x => (x.bankA, x.bankB, x.keyA, x.keyB)) fun _ => rfl).trans start.banks
  have stoU : (unitsAnew (stoReload (domainsDown (outputsDown m)) false)).sto = (stoReload (domainsDown (outputsDown m)) false).sto := anew.sto
  exact {
    cause := (rd R.SYS_RCAUSE (by decide) (not_out_low (by decide)) (not_late_low (by decide)) (by decide)).trans start.cause
    mode := (rd R.SYS_MODE (by decide) (not_out_low (by decide)) (not_late_low (by decide)) (by decide)).trans start.mode
    ctl := (rd R.SYS_FIRECTL (by decide) (not_out_low (by decide)) (not_late_low (by decide)) (by decide)).trans start.ctl
    shut := anew.shut shutL
    low := fun n hn => (pds n (by simp only [List.mem_cons, List.not_mem_nil, or_false] at hn; omega)).trans (if_pos hn)
    seven := pds 7 (by decide)
    zero := pds 0 (by decide)
    frame := fun on => by
      have two : (outputsDown m).pd 2 = 2 := by
        rw [outputsDown_pd m (by decide), if_neg (by decide), pd_of_rd start.domains]
        exact domOn_iff.mp on
      have off : (stoReload (domainsDown (outputsDown m)) false).pd 2 = 0 := by
        rw [reloadPd, domainsDown_pd _ (by decide), if_pos (by decide)]
      have units : (unitsAnew (stoReload (domainsDown (outputsDown m)) false)).beads =
          (stoReload (domainsDown (outputsDown m)) false).beads := by
        have sol := solReset_resets (stoReload (domainsDown (outputsDown m)) false)
        have lsw := sol.mono (q := fun _ => True) (fun _ _ => trivial) |>.trans ((lswReset_resets _).mono fun _ _ => trivial)
        have mtr := lsw.trans ((mtrReset_resets _).mono fun _ _ => trivial)
        have all := mtr.trans ((fanReset_resets _).mono fun _ _ => trivial)
        unfold unitsAnew
        split
        · exact all.beads shutL off
        · rfl
      exact units.trans (reload.beads.trans (domainsDown_empties shutO two))
    sols := fun on => unitsAnew_disables (by
      have seven := pds 7 (by decide)
      rw [anew.pd, if_neg (by decide), if_pos rfl, if_pos on] at seven
      exact domOn_iff.mpr seven) shutL
    switches := fun on n hn hold go => by
      have first := outputsDown_holds (on7 on) start.shut hn (by rw [start.table]; exact hold) (by rw [start.stop]; exact go)
      have second := domainsDown_holds shutO hn (heldOut_congr first (start.switches n hn))
      have third := heldOut_of_far second hn reload.regs fun a ha e => by
        simp only [heldReg, RegDesc.addr, R.SYS_HELD] at ha
        simp only [RegDesc.addr, R.STO_STAT] at e
        omega
      exact unitsAnew_holds shutL hn third
    commit := (congrArg StoX.commit stoU).trans (reload.commit.trans ((bank StoX.commit fun _ => rfl).trans start.commit))
    load := (congrArg StoX.load stoU).trans reload.load
    banks := (congrArg (fun x : StoX => (x.bankA, x.bankB, x.keyA, x.keyB)) stoU).trans (reload.banks.trans banks)
    work := fun b hb => (congrArg StoX.work stoU).trans (reload.work b (by
      simp only [Prod.mk.injEq] at banks
      rw [newestBank_congr banks.1 banks.2.1]; exact hb))
    times := (congrArg₂ Prod.mk anew.tbNow anew.elapsed).trans (reload.times.trans
      ((congrArg₂ Prod.mk falls.tbNow falls.elapsed).trans start.times))
    ended := ⟨rfl, rfl, rfl⟩
    contacts := ⟨(congrArg SysX.inReset lasts :), (congrArg SysX.commission lasts :)⟩ }

end Sys2Proof.Machine

/-! A reset as the claims tell it (R551 to R553, R556). -/

namespace Sys2Proof.Machine

open Sys2Proof.Claims

set_option Elab.async false

variable {s t u v : State} {n k : Nat}

/-! ### The reset as the claims tell it -/

/-- The fields of SYS_RCAUSE after a reset (R556). -/
theorem causeWord_fields (s : State) {kind rod : Nat} (hk : kind < 8) (hr : rod < 16) (early : Bool)
    (word' : t.rd R.SYS_RCAUSE = word (causeWord s kind rod early)) :
    t.f F.SYS_RCAUSE_KIND = kind ∧ t.f F.SYS_RCAUSE_MODE = s.mode ∧ t.f F.SYS_RCAUSE_ROD = rod ∧
      t.fb F.SYS_RCAUSE_WDT_EARLY = early ∧ t.fb F.SYS_RCAUSE_COMMIT = s.sto.commit.isSome ∧
      t.f F.SYS_RCAUSE_COUNT = min 65535 (s.f F.SYS_RCAUSE_COUNT + 1) := by
  have mode : s.mode < 8 := Nat.mod_lt _ (by decide)
  have count : min 65535 (s.f F.SYS_RCAUSE_COUNT + 1) ≤ 65535 := Nat.min_le_left _ _
  have e : bit early ≤ 1 := by cases early <;> decide
  have c : bit s.sto.commit.isSome ≤ 1 := by cases s.sto.commit.isSome <;> decide
  have flag (b : Bool) : (bit b != 0) = b := by cases b <;> rfl
  simp only [causeWord] at word'
  generalize min 65535 (s.f F.SYS_RCAUSE_COUNT + 1) = count' at *
  have val : (t.rd R.SYS_RCAUSE).toNat = count' * 65536 + s.mode * 4096 + rod * 256 + bit early * 16 + bit s.sto.commit.isSome * 8 + kind := by
    rw [word', word, BitVec.toNat_ofNat]
    omega
  have fields (hi lo : Nat) : bits (t.rd R.SYS_RCAUSE) hi lo =
      ((count' * 65536 + s.mode * 4096 + rod * 256 + bit early * 16 + bit s.sto.commit.isSome * 8 + kind) / 2 ^ lo) % 2 ^ (hi + 1 - lo) := by
    rw [bits, val, Nat.shiftRight_eq_div_pow]
  refine ⟨?_, ?_, ?_, ?_, ?_, ?_⟩
  · exact (fields 2 0).trans (by omega)
  · exact (fields 14 12).trans (by omega)
  · exact (fields 11 8).trans (by omega)
  · refine Eq.trans ?_ (flag early)
    exact congrArg (· != 0) ((fields 4 4).trans (by omega))
  · refine Eq.trans ?_ (flag s.sto.commit.isSome)
    exact congrArg (· != 0) ((fields 3 3).trans (by omega))
  · exact (fields 31 16).trans (by omega)

/-- A held switch as the claims tell it. -/
theorem heldOut_shows (h : heldOut s n t) : maskBit (t.rd R.SYS_HELD) n = true ∧ t.fb F.LSW_STAT_ON n = s.fb F.LSW_STAT_ON n := by
  refine ⟨h.1, ?_⟩
  simp only [State.fb, State.f, F.LSW_STAT_ON, h.2]

/-- What a state shows once a reset is over, boot started or not. -/
structure Done (s t : State) (cause : Word) : Prop where
  cause : t.rd R.SYS_RCAUSE = cause
  mode : t.rd R.SYS_MODE = 0
  ctl : t.rd R.SYS_FIRECTL = 0
  shut : t.fb F.SYS_STAT_FIRE = false
  low : ∀ n ∈ [1, 3, 4, 5, 6], t.pd n = 0
  seven : t.pd 7 = if s.domOn 7 then 2 else 0
  zero : t.pd 0 = s.pd 0
  frame : s.domOn 2 = true → t.beads = ([], [], [], [])
  sols : s.domOn 7 = true → disabled t
  switches : s.domOn 7 = true → ∀ n < 32, maskBit (s.rd R.SYS_RHT_LSW) n = true → s.fb F.SYS_STAT_SS = false → heldOut s n t
  store : t.sto.commit = none ∧ t.sto.load = none
  banks : (t.sto.bankA, t.sto.bankB, t.sto.keyA, t.sto.keyB) = (s.sto.bankA, s.sto.bankB, s.sto.keyA, s.sto.keyB)
  work : ∀ b, newestBank s.sto = some b → t.sto.work = b.cells.filter fun c => decide (0x400000 ≤ c.1)
  times : (t.tbNow, t.elapsed) = (s.tbNow, s.elapsed)
  ended : t.sys.wdtArmed = false ∧ t.sys.resume = false
  boot : t.sys.boot = !s.sys.inReset
  two : t.pd 2 = bit (!s.sys.inReset)
  commission : s.sys.inReset = false → t.sys.toCommission = toCommissionOf s

/-- RESET_N is low: boot waits. -/
theorem Over.waits {cause : Word} (h : Over s t cause) (low : s.sys.inReset = true) : Done s t cause :=
  { h with
    low := fun n hn => h.low n (by simp only [List.mem_cons, List.not_mem_nil, or_false] at hn ⊢; omega)
    store := ⟨h.commit, h.load⟩
    ended := ⟨h.ended.1, h.ended.2.1⟩
    boot := by rw [h.ended.2.2, low]; rfl
    two := by rw [h.low 2 (by decide), low]; rfl
    commission := fun no => absurd (low.symm.trans no) (by decide) }

theorem boot_low {a : Nat} (h : a < 0x10010000) (set : ¬ setReg a := by simp [setReg, RegDesc.addr, R.SYS_RCAUSE, R.SYS_MODE, R.SYS_FIRECTL, R.SYS_STAT])
    (pd : a ≠ R.SYS_PDSTAT.addr := by decide) : ¬ (bootReg a ∨ a = R.SYS_PDSTAT.addr) := by
  rintro ((h' | h') | h')
  · exact set h'
  · omega
  · exact pd h'

/-- Boot starts. -/
theorem Over.goes {q : State} {cause : Word} (h : Over s q cause) (high : s.sys.inReset = false) : Done s (bootStart q) cause := by
  have booted := bootStart_booted q
  have off := h.low 2 (by decide)
  have sto {α : Type} (g : StoX → α) (hg : ∀ x : StoX, g { x with exhausted := [] } = g x) : g (bootStart q).sto = g q.sto := by
    rw [← hg, booted.sto, hg]
  have sys {α : Type} (g : SysX → α) (hg : ∀ x : SysX, g { x with ramps := [] } = g x) : g (bootStart q).sys =
      g { q.sys with boot := true, toCommission := toCommissionOf q, ramps := [] } := by
    rw [← hg, booted.sys]
  generalize bootStart q = t at *
  have other (k : Nat) (hk : k < 8) (ne : k ≠ 2) : t.pd k = q.pd k := (booted.pds k hk).trans (if_neg fun e => ne e.1)
  have beads := booted.beads off
  have time : (t.tbNow, t.elapsed) = (q.tbNow, q.elapsed) := congrArg (fun x : Nat × Nat × List Instr => (x.1, x.2.1)) booted.times
  exact {
    cause := (booted.regs.rd (boot_low (by decide))).trans h.cause
    mode := (booted.regs.rd (boot_low (by decide))).trans h.mode
    ctl := (booted.regs.rd (boot_low (by decide))).trans h.ctl
    shut := (booted.regs.fb (fl := F.SYS_STAT_FIRE) (boot_low (a := R.SYS_STAT.addr) (by decide))).trans h.shut
    low := fun n hn => (other n (by simp only [List.mem_cons, List.not_mem_nil, or_false] at hn; omega) (by
      simp only [List.mem_cons, List.not_mem_nil, or_false] at hn; omega)).trans (h.low n (by
      simp only [List.mem_cons, List.not_mem_nil, or_false] at hn ⊢; omega))
    seven := (other 7 (by decide) (by decide)).trans h.seven
    zero := (other 0 (by decide) (by decide)).trans h.zero
    frame := fun on => beads.trans (h.frame on)
    sols := fun on n hn => (booted.enable n hn).trans (h.sols on n hn)
    switches := fun on n hn hold go => heldOut_of_far (h.switches on n hn hold go) hn booted.regs fun a ha hb => by
      simp only [heldReg, RegDesc.addr, R.SYS_HELD] at ha
      simp only [bootReg, setReg, RegDesc.addr, R.SYS_PDSTAT] at hb
      omega
    store := ⟨(sto StoX.commit fun _ => rfl).trans h.commit, (sto StoX.load fun _ => rfl).trans h.load⟩
    banks := (sto (fun x => (x.bankA, x.bankB, x.keyA, x.keyB)) fun _ => rfl).trans h.banks
    work := fun b hb => (sto StoX.work fun _ => rfl).trans (h.work b hb)
    times := time.trans h.times
    ended := ⟨(sys SysX.wdtArmed fun _ => rfl).trans h.ended.1, (sys SysX.resume fun _ => rfl).trans h.ended.2.1⟩
    boot := by rw [high]; exact sys SysX.boot fun _ => rfl
    two := by rw [high, booted.pds 2 (by decide), if_pos ⟨rfl, off⟩]; rfl
    commission := fun _ => (sys SysX.toCommission fun _ => rfl).trans (by
      have banks := h.banks
      simp only [Prod.mk.injEq] at banks
      show toCommissionOf q = toCommissionOf s
      simp only [toCommissionOf, h.contacts.2, newestBank_congr banks.1 banks.2.1, newestKey_congr banks.2.2.1 banks.2.2.2]) }

theorem sysReset_completes (powered : s.sys.powered = true) (kind rod : Nat) (early : Bool) :
    Done s (sysReset s kind rod early) (word (causeWord s kind rod early)) := by
  have late := resetOver_over s kind rod early
  rw [sysReset_eq powered]
  rw [late.contacts.1]
  cases reset : s.sys.inReset with
  | true => exact late.waits reset
  | false => exact late.goes reset

/-- What a reset's claims compare: the state before it. -/
structure Alike (s v : State) : Prop where
  mode : v.mode = s.mode
  count : v.f F.SYS_RCAUSE_COUNT = s.f F.SYS_RCAUSE_COUNT
  domains : v.rd R.SYS_PDSTAT = s.rd R.SYS_PDSTAT
  table : v.rd R.SYS_RHT_LSW = s.rd R.SYS_RHT_LSW
  stop : v.fb F.SYS_STAT_SS = s.fb F.SYS_STAT_SS
  switches : ∀ n < 32, v.fb F.LSW_STAT_ON n = s.fb F.LSW_STAT_ON n
  commit : v.sto.commit = s.sto.commit
  banks : (v.sto.bankA, v.sto.bankB, v.sto.keyA, v.sto.keyB) = (s.sto.bankA, s.sto.bankB, s.sto.keyA, s.sto.keyB)
  times : (v.tbNow, v.elapsed) = (s.tbNow, s.elapsed)
  inReset : v.sys.inReset = s.sys.inReset
  commission : v.sys.commission = s.sys.commission
  powered : v.sys.powered = s.sys.powered

theorem Alike.refl (s : State) : Alike s s := ⟨rfl, rfl, rfl, rfl, rfl, fun _ _ => rfl, rfl, rfl, rfl, rfl, rfl, rfl⟩

/-- A reset of a state like `s`, as the claims tell it of `s`. -/
theorem sysReset_done (like : Alike s v) (powered : s.sys.powered = true) {kind rod : Nat} (hk : kind < 8) (hr : rod < 16) (early : Bool) :
    resetDone s (sysReset v kind rod early) kind early rod := by
  have done := sysReset_completes (like.powered.trans powered) kind rod early
  generalize sysReset v kind rod early = t at done ⊢
  obtain ⟨kind', mode, rod', early', commit, count⟩ := causeWord_fields v hk hr early done.cause
  have on (k : Nat) : v.domOn k = s.domOn k := by simp only [State.domOn, like.domains]
  have frame (h : s.domOn 2 = true) := done.frame ((on 2).trans h)
  have seven (h : s.domOn 7 = true) := (on 7).trans h
  have banks := done.banks.trans like.banks
  have times := done.times.trans like.times
  have old := like.banks
  simp only [Prod.mk.injEq] at banks times old
  simp only [State.beads, Prod.mk.injEq] at frame
  have entered : t.mode = 0 := by
    show bits (t.rd R.SYS_MODE) 2 0 = 0
    rw [done.mode]; rfl
  refine ⟨kind', mode.trans like.mode, rod', early', commit.trans (by rw [like.commit]), count.trans (by rw [like.count]),
    ⟨entered, done.mode, done.ctl, done.shut⟩, done.low, ?_, done.zero.trans (pd_of_rd like.domains 0), frame, fun h => ⟨done.sols (seven h), ?_⟩,
    done.store.1, done.store.2, banks.1, banks.2.1, banks.2.2.1, banks.2.2.2, fun b hb => done.work b ?_, times.1, times.2, done.ended.1,
    done.ended.2, ?_, ?_, fun no => ?_⟩
  · rw [done.seven, on]
  · intro n hn hold go
    obtain ⟨held, same⟩ := heldOut_shows (done.switches (seven h) n hn (by rw [like.table]; exact hold) (by rw [like.stop]; exact go))
    exact ⟨held, same.trans (like.switches n hn)⟩
  · rw [newestBank_congr old.1 old.2.1]; exact hb
  · rw [done.boot, like.inReset]
  · rw [done.two, like.inReset]
  · rw [done.commission (like.inReset.trans no)]
    simp only [toCommissionOf, like.commission, newestBank_congr old.1 old.2.1, newestKey_congr old.2.2.1 old.2.2.2]

end Sys2Proof.Machine

/-! RESET_N, the watchdog and its kicks (R551, R552, R554). -/

namespace Sys2Proof.Machine

open Sys2Proof.Claims

set_option Elab.async false

variable {s t u v : State} {n k : Nat}

theorem sysReset_ends (powered : s.sys.powered = true) (kind rod : Nat) (early : Bool) :
    (sysReset s kind rod early).sys.inReset = s.sys.inReset := by
  have late := resetOver_over s kind rod early
  rw [sysReset_eq powered]
  split
  · exact late.contacts.1
  · have booted := bootStart_booted (resetOver s kind rod early)
    exact (congrArg SysX.inReset booted.sys : _).trans late.contacts.1

/-! ### RESET_N -/

theorem externalReset_resets {t0 : Nat} (powered : s.sys.powered = true) (low : s.sys.resetLow = some t0) (run : s.sys.inReset = false)
    (long : t0 + 10000 ≤ s.elapsed) : runsTo .externalReset s fun t => t.sys.inReset = true ∧
      resetDone { s with sys := { s.sys with inReset := true } } t 2 false := by
  have runs : exec .externalReset s = .next (sysReset (s.setSys { s.sys with inReset := true }) 2 0 false) := by
    show execExternalReset s = _
    unfold execExternalReset
    rw [low]
    exact congrArg Host.Outcome.next (if_pos ⟨powered, by rw [run]; rfl, long⟩)
  exact ⟨_, runs, sysReset_ends (s := s.setSys { s.sys with inReset := true }) powered 2 0 false,
    sysReset_done (s := s.setSys { s.sys with inReset := true }) (Alike.refl _) powered (by decide) (by decide) false⟩

theorem externalReset_waits {t0 : Nat} (low : s.sys.resetLow = some t0) (short : s.elapsed < t0 + 10000) :
    exec .externalReset s = .next s := by
  show execExternalReset s = _
  unfold execExternalReset
  rw [low]
  exact congrArg Host.Outcome.next (if_neg fun h => absurd h.2.2 (by omega))

theorem resetNRelease_boots (low : s.sys.inReset = true) : runsTo .resetNRelease s fun t => t.sys.inReset = false ∧
    t.sys.resetLow = none ∧ t.sys.boot = true ∧ (s.pd 2 = 0 → t.pd 2 = 1) ∧ t.mode = s.mode := by
  let high := s.setSys { s.sys with resetLow := none, inReset := false }
  have runs : exec .resetNRelease s = .next (bootStart high) := congrArg Host.Outcome.next (if_pos low)
  have booted := bootStart_booted high
  refine ⟨_, runs, (congrArg SysX.inReset booted.sys :), (congrArg SysX.resetLow booted.sys :), (congrArg SysX.boot booted.sys :),
    fun off => (booted.pds 2 (by decide)).trans (if_pos ⟨rfl, off⟩), ?_⟩
  have word : (bootStart high).rd R.SYS_MODE = s.rd R.SYS_MODE := booted.regs.rd (boot_low (by decide))
  exact (modeFields_of_rd word).1

theorem resetNRelease_ends (run : s.sys.inReset = false) :
    runsTo .resetNRelease s fun t => t = { s with sys := { s.sys with resetLow := none } } := by
  have runs : exec .resetNRelease s = .next (s.setSys { s.sys with resetLow := none, inReset := false }) :=
    congrArg Host.Outcome.next (if_neg (by rw [run]; decide))
  refine ⟨_, runs, ?_⟩
  rw [← run]
  rfl

/-! ### The watchdog -/

theorem watchdogExpiry_resets (powered : s.sys.powered = true) (armed : s.sys.wdtArmed = true)
    (due : s.sys.wdtAt + s.f F.SYS_WDT_WDT_MAX * 1000000 ≤ s.elapsed) : runsTo .watchdogExpiry s fun t => resetDone s t 3 false :=
  ⟨_, congrArg Host.Outcome.next (if_pos ⟨armed, due⟩), sysReset_done (Alike.refl s) powered (by decide) (by decide) false⟩

theorem watchdogExpiry_waits (early : s.elapsed < s.sys.wdtAt + s.f F.SYS_WDT_WDT_MAX * 1000000) : exec .watchdogExpiry s = .next s :=
  congrArg Host.Outcome.next (if_neg fun h => absurd h.2 (by omega))

/-- A command register written leaves what a reset's claims compare. -/
theorem laidAgain_alike (s : State) (d : RegDesc) (hd : d ∈ [R.SYS_CMD, R.SYS_WDTKICK]) : Alike s (laidAgain s d) := by
  have regs := laidAgain_regs s d
  have ne : ∀ d ∈ [R.SYS_CMD, R.SYS_WDTKICK], ∀ e ∈ [R.SYS_MODE, R.SYS_RCAUSE, R.SYS_PDSTAT, R.SYS_RHT_LSW, R.SYS_STAT], ¬ e.addr = d.addr := by
    decide
  have low : d.addr < 0x10010000 := by
    simp only [List.mem_cons, List.not_mem_nil, or_false] at hd
    rcases hd with rfl | rfl <;> decide
  have rd (e : RegDesc) (he : e ∈ [R.SYS_MODE, R.SYS_RCAUSE, R.SYS_PDSTAT, R.SYS_RHT_LSW, R.SYS_STAT]) : (laidAgain s d).rd e = s.rd e :=
    regs.rd (ne d hd e he)
  refine ⟨?_, ?_, rd R.SYS_PDSTAT (by simp), rd R.SYS_RHT_LSW (by simp), ?_, fun n _ => regs.fb ?_, rfl, rfl, rfl, rfl, rfl, rfl⟩
  · exact (modeFields_of_rd (rd R.SYS_MODE (by simp))).1
  · simp only [State.f, F.SYS_RCAUSE_COUNT, rd R.SYS_RCAUSE (by simp)]
  · simp only [State.fb, State.f, F.SYS_STAT_SS, rd R.SYS_STAT (by simp)]
  · have addr := lsw_stat_addr n
    simp only [F.LSW_STAT_ON, addr]
    omega

/-- A write of SYS_WDTKICK.KICK. -/
theorem watchdogKick_runs (on : s.domOn 0 = true) : exec .watchdogKick s = .next (wdtKick (laidAgain s R.SYS_WDTKICK) 1) := by
  have listed : R.SYS_WDTKICK ∈ commandRegs := by simp [commandRegs]
  have written := writeReg_command on .host (putBits 0 0 0 1) R.SYS_WDTKICK listed
  refine congrArg Host.Outcome.next (Eq.trans ?_ (written.trans ?_))
  · rfl
  · have value : regBits s R.SYS_WDTKICK 0 (putBits 0 0 0 1) = 1 := by
      show putBits 0 0 0 1 = 1
      decide
    rw [value]
    exact if_neg (show ¬ false = true from Bool.false_ne_true)

theorem laid_wdt (s : State) (fl : Fld) (reg : fl.reg = R.SYS_WDT) : (laidAgain s R.SYS_WDTKICK).f fl = s.f fl :=
  (laidAgain_regs s R.SYS_WDTKICK).f (by rw [reg]; decide)

theorem watchdogKick_restarts (on : s.domOn 0 = true) (armed : s.sys.wdtArmed = true)
    (late : s.sys.wdtAt + s.f F.SYS_WDT_WDT_MIN * 1000000 ≤ s.elapsed) : runsTo .watchdogKick s fun t =>
      t.sys = { s.sys with wdtAt := s.elapsed } ∧ quiet noSys (fun a => a = R.SYS_WDTKICK.addr) s t := by
  have kicked : wdtKick (laidAgain s R.SYS_WDTKICK) 1 = (laidAgain s R.SYS_WDTKICK).setSys { s.sys with wdtAt := s.elapsed } := by
    unfold wdtKick
    rw [laid_wdt s F.SYS_WDT_WDT_MIN rfl, if_neg (by
      show ¬ (!maskBit 1 0 || !s.sys.wdtArmed) = true
      rw [armed]; decide)]
    exact if_neg (Nat.not_lt.mpr late)
  refine ⟨_, (watchdogKick_runs on).trans (congrArg Host.Outcome.next kicked), rfl, rfl, ?_⟩
  exact (laidAgain_regs s R.SYS_WDTKICK).of_regs rfl

theorem watchdogKick_resets (on : s.domOn 0 = true) (powered : s.sys.powered = true) (armed : s.sys.wdtArmed = true)
    (early : s.elapsed < s.sys.wdtAt + s.f F.SYS_WDT_WDT_MIN * 1000000) : runsTo .watchdogKick s fun t => resetDone s t 3 true := by
  have kicked : wdtKick (laidAgain s R.SYS_WDTKICK) 1 = sysReset (laidAgain s R.SYS_WDTKICK) 3 0 true := by
    unfold wdtKick
    rw [laid_wdt s F.SYS_WDT_WDT_MIN rfl, if_neg (by
      show ¬ (!maskBit 1 0 || !s.sys.wdtArmed) = true
      rw [armed]; decide)]
    exact if_pos early
  exact ⟨_, (watchdogKick_runs on).trans (congrArg Host.Outcome.next kicked),
    sysReset_done (laidAgain_alike s R.SYS_WDTKICK (by simp)) powered (by decide) (by decide) true⟩

theorem watchdogKick_ignored (on : s.domOn 0 = true) (idle : s.sys.wdtArmed = false) : runsTo .watchdogKick s fun t =>
    quiet noRegs (fun a => a = R.SYS_WDTKICK.addr) s t := by
  have kicked : wdtKick (laidAgain s R.SYS_WDTKICK) 1 = laidAgain s R.SYS_WDTKICK := by
    unfold wdtKick
    refine if_pos ?_
    show (!maskBit 1 0 || !s.sys.wdtArmed) = true
    rw [idle]; decide
  exact ⟨_, (watchdogKick_runs on).trans (congrArg Host.Outcome.next kicked), rfl, laidAgain_regs s R.SYS_WDTKICK⟩

end Sys2Proof.Machine

/-! What the order of a step looks at stays through outputs, Rods and modes (R537). -/

namespace Sys2Proof.Machine

open Sys2Proof.Claims

set_option Elab.async false

variable {s t u v : State} {n k : Nat}

/-! ### What the order of a step looks at -/

/-- What tells whether a reset, a stop or a critical fault of this step still has to act. -/
def State.orderSide (s : State) : Bool × Bool × Bool × Bool × Bool × Bool × Bool × Option Nat × Bool × Nat :=
  (s.sys.inReset, s.sys.wdtArmed, s.sys.lowA, s.sys.lowB, s.sys.stopA, s.sys.stopB, s.fb F.SYS_STAT_SS, s.hlt.readTb,
    s.fb F.HLT_STAT_SUPPLY, s.tbNow)

/-- The flags of the sequences that the order looks at. -/
def SysX.orderFlags (x : SysX) : Bool × Bool × Bool × Bool × Bool × Bool := (x.inReset, x.wdtArmed, x.lowA, x.lowB, x.stopA, x.stopB)

theorem orderSide_of (sys : t.sys.orderFlags = s.sys.orderFlags) (read : t.hlt.readTb = s.hlt.readTb) (tb : t.tbNow = s.tbNow)
    (stop : t.fb F.SYS_STAT_SS = s.fb F.SYS_STAT_SS) (supply : t.fb F.HLT_STAT_SUPPLY = s.fb F.HLT_STAT_SUPPLY) :
    t.orderSide = s.orderSide := by
  simp only [SysX.orderFlags, Prod.mk.injEq] at sys
  obtain ⟨reset, armed, lowA, lowB, stopA, stopB⟩ := sys
  simp only [State.orderSide, reset, armed, lowA, lowB, stopA, stopB, read, tb, stop, supply]

theorem Late.order (h : Late s t) : t.orderSide = s.orderSide := by
  refine orderSide_of (congrArg SysX.orderFlags h.sys :) (congrArg HltX.readTb h.hlt) h.tbNow (h.flags _ ⟨rfl, by decide, by decide, by decide⟩) ?_
  have stat : t.rd R.HLT_STAT = s.rd R.HLT_STAT := h.rd (not_late_low (by decide))
  simp only [State.fb, State.f, F.HLT_STAT_SUPPLY, stat]

/-- A change of registers other than SYS_STAT and HLT_STAT. -/
theorem orderSide_regs {p : Nat → Prop} (regs : RegsBut p s t) (stat : ¬ p R.SYS_STAT.addr) (health : ¬ p R.HLT_STAT.addr)
    (sys : t.sys.orderFlags = s.sys.orderFlags) (read : t.hlt.readTb = s.hlt.readTb) (tb : t.tbNow = s.tbNow) : t.orderSide = s.orderSide :=
  orderSide_of sys read tb (regs.fb stat) (regs.fb health)

theorem pdRamp_order (s : State) (n : Nat) : (pdRamp s n).orderSide = s.orderSide := by
  have rest := pdRamp_else s n
  refine orderSide_regs (pdRamp_regs s n) ?_ ?_ ?_ (congrArg (fun u : State => u.hlt.readTb) rest :) (congrArg State.tbNow rest :)
  · rintro (h | h)
    · exact absurd h (by decide)
    · exact absurd h.2 (by decide)
  · rintro (h | h)
    · exact absurd h (by decide)
    · exact absurd h.2 (by decide)
  · exact (congrArg (fun x : SysX × Tab Program × List Host.Cell × Nat => x.1.orderFlags) (pdRamp_side s n) :)

theorem foldl_order {α : Type} {f : State → α → State} (l : List α) (hf : ∀ t a, (f t a).orderSide = t.orderSide) :
    ∀ s : State, (l.foldl f s).orderSide = s.orderSide := by
  induction l with
  | nil => exact fun _ => rfl
  | cons a l ih => exact fun s => (ih _).trans (hf s a)

/-! ### Rods -/

/-- A field of a Rod's register. -/
theorem rodField_order (s : State) (fl : Fld) (v r : Nat) (lo : 0x11001000 ≤ fl.reg.base) : (s.setF fl v r).orderSide = s.orderSide := by
  refine orderSide_regs (p := fun a => 0x11001000 ≤ a) ((RegsBut.refl s).setF ?_) (by decide) (by decide) rfl rfl rfl
  simp only [RegDesc.addr]; omega

theorem setRod_order (s : State) (r : Nat) (x : RodX) : (s.setRod r x).orderSide = s.orderSide := rfl

theorem setRodSt_order (s : State) (r st : Nat) : (s.setRodSt r st).orderSide = s.orderSide :=
  (rodField_order (s.setRod r _) F.FRM_RSTAT_STATE st r (by decide)).trans (setRod_order s r _)

theorem setRod_late (s : State) (r : Nat) (x : RodX) : Late s (s.setRod r x) := (Late.refl s).beside rfl rfl

theorem pushFinish_late (s : State) (n : Nat) : Late s (pushFinish s n) := by
  refine Late.foldN (fun t r hr => ?_) s
  have done (u : State) : Late u (rodDone u r) := (setRod_late u r _).rodReg hr
  have put (u : State) (d : BitVec 5) (v : Word) : Late u (setG u r d v) := (Late.refl u).ite (setRod_late u r _)
  split
  · exact (((setRod_late t r _).trans (put _ _ _)).trans (done _)).ite (Late.refl t)
  · exact Late.refl t

theorem voidReservations_late (s : State) (r : Nat) : Late s (voidReservations s r) := by
  refine (setRod_late s r _).trans (Late.foldN (fun t n hn => ?_) _)
  have voided (x : RingX) : Late t (t.setRing n x) := (Late.refl t).beside rfl rfl
  exact (((voided _).trans (ringCommit_late hn _)).trans (pushFinish_late _ n)).ite (Late.refl t)

theorem stopClear_order (s : State) (r : Nat) : (stopClear s r).orderSide = s.orderSide := by
  have noted (x : RodX) : (s.setRod r x).orderSide = s.orderSide := setRod_order s r x
  unfold stopClear
  dsimp only
  split
  · exact noted _
  · exact (rodField_order _ F.FRM_RCTL_STOP 0 r (by decide)).trans (noted _)

theorem startProgram_order (s : State) (r : Nat) : (startProgram s r).orderSide = s.orderSide := by
  have belled (x : RodX) (e : Tab BeadErr) (v : Nat) :
      (State.setF { s.setRod r x with beadErr := e } F.FRM_DOORBELL_V v r).orderSide = s.orderSide :=
    rodField_order { s.setRod r x with beadErr := e } F.FRM_DOORBELL_V v r (by decide)
  have flags (u : State) : ((u.setF F.FRM_RSTAT_SAT 0 r).setF F.FRM_RSTAT_OVF 0 r).orderSide = u.orderSide :=
    (rodField_order _ F.FRM_RSTAT_OVF 0 r (by decide)).trans (rodField_order u F.FRM_RSTAT_SAT 0 r (by decide))
  unfold startProgram
  split
  · rfl
  · exact ((setRodSt_order _ r rodStarting).trans (flags _)).trans (belled _ _ _)

theorem rodHaltNow_order (s : State) (r : Nat) : (rodHaltNow s r).orderSide = s.orderSide :=
  ((setRodSt_order _ r rodHalted).trans (stopClear_order _ r)).trans (voidReservations_late s r).order

theorem rodsRestart_order (s : State) : (rodsRestart s).orderSide = s.orderSide := by
  have one (t : State) (r : Nat) : (if t.rodSt r = rodShed then t else startProgram (rodHaltNow t r) r).orderSide = t.orderSide := by
    split
    · rfl
    · exact (startProgram_order _ r).trans (rodHaltNow_order t r)
  have cleared : (s.setSys { s.sys with stopped := [] }).orderSide = s.orderSide := rfl
  exact (foldl_order s.sys.stopped one _).trans cleared

/-! ### Hold, waking and critical faults -/

theorem firectl_order (s : State) : (s.wr R.SYS_FIRECTL 0).orderSide = s.orderSide :=
  orderSide_regs (p := (· = R.SYS_FIRECTL.addr)) ((RegsBut.refl s).wr rfl) (by decide) (by decide) rfl rfl rfl

theorem setMode_order (s : State) (m cause : Nat) : (setMode s m cause).orderSide = s.orderSide :=
  (firectl_order _).trans
    (orderSide_regs (p := (· = R.SYS_MODE.addr)) ((RegsBut.refl s).wr rfl) (by decide) (by decide) rfl rfl rfl)

theorem modeField_order (s : State) (fl : Fld) (v : Nat) (reg : fl.reg = R.SYS_MODE ∨ fl.reg = R.SYS_WAKE) :
    (s.setF fl v).orderSide = s.orderSide := by
  refine orderSide_regs (p := (· = fl.reg.addr)) ((RegsBut.refl s).setF rfl) ?_ ?_ rfl rfl rfl <;>
    rcases reg with e | e <;> rw [e] <;> decide

theorem outputsHold_late (s : State) : Late s (let s := fireUpdate s
    let s := if s.domOn 3 then loopAllSafe s else s
    if s.domOn 7 then mtrRht (lswRht (solAllOff s) false) false false else s) := by
  have fired := fireUpdate_late s
  have safe := (fired.trans (loopAllSafe_late _)).ite (c := (fireUpdate s).domOn 3 = true) fired
  exact (((safe.trans (solAllOff_late _)).trans (lswRht_late _ _)).trans (mtrRht_late _ _ _)).ite safe

theorem holdOutputs_late (s : State) : Late (s.wr R.SYS_FIRECTL 0) (holdOutputs s) := outputsHold_late _

theorem enterHold_order (s : State) (cause : Nat) : (enterHold s cause).orderSide = s.orderSide := by
  unfold enterHold
  split
  · exact modeField_order s F.SYS_MODE_HCAUSE _ (.inl rfl)
  · refine (modeEvent_late _ _).order.trans ((rodsRestart_order _).trans ((foldl_order _ pdRamp_order _).trans ?_))
    exact (holdOutputs_late _).order.trans ((firectl_order _).trans (setMode_order s modeHold cause))

theorem wake_order (s : State) (cause : Nat) : (wake s cause).orderSide = s.orderSide := by
  have caused : (s.setF F.SYS_WAKE_CAUSE cause).orderSide = s.orderSide := modeField_order s F.SYS_WAKE_CAUSE cause (.inr rfl)
  have pending (u : State) : (modePend (u.setSys { u.sys with resume := true }) modeReady).orderSide = u.orderSide :=
    (modeField_order _ F.SYS_MODE_TARGET modeReady (.inl rfl)).trans
      (modeField_order (u.setSys { u.sys with resume := true }) F.SYS_MODE_PEND 1 (.inl rfl))
  unfold wake
  split
  · rfl
  · split
    · split
      · exact caused
      · rfl
    · exact (pdRamp_order _ 2).trans ((pending _).trans caused)

theorem critActs_order (s : State) : (critActs s).orderSide = s.orderSide := by
  unfold critActs
  split
  · exact enterHold_order s 2
  · split
    · exact (holdOutputs_late s).order.trans (firectl_order s)
    · exact wake_order (s.setSys { s.sys with critRec := true }) 5

theorem critFlag_order (s : State) (b : Bool) : (s.setB F.SYS_STAT_CRIT b).orderSide = s.orderSide := by
  have regs : RegsBut (· = R.SYS_STAT.addr) s (s.setB F.SYS_STAT_CRIT b) := (RegsBut.refl s).setF (fl := F.SYS_STAT_CRIT) rfl
  exact orderSide_of rfl rfl rfl (State.fb_setF_beside s (fl := F.SYS_STAT_CRIT) (fl' := F.SYS_STAT_SS) _ 0 0 rfl (by decide)
    (by decide) (by decide)) (regs.fb (by decide))

theorem critChange_order (s : State) (on : Bool) : (critChange s on).orderSide = s.orderSide := by
  have acts (u : State) (c : Bool) : (if c then u else critActs u).orderSide = u.orderSide := by
    split
    · rfl
    · exact critActs_order u
  refine (fireUpdate_late _).order.trans ((acts (s.setB F.SYS_STAT_CRIT on) (s.fb F.SYS_STAT_CRIT || !on)).trans (critFlag_order s on))

/-- A flag of HLT_STAT other than SUPPLY. -/
theorem hltFlag_order (s : State) (fl : Fld) (v : Nat) (reg : fl.reg = R.HLT_STAT) (wf : fl.lo ≤ fl.hi)
    (d : F.HLT_STAT_SUPPLY.hi < fl.lo ∨ fl.hi < F.HLT_STAT_SUPPLY.lo) : (s.setF fl v).orderSide = s.orderSide := by
  have regs : RegsBut (· = R.HLT_STAT.addr) s (s.setF fl v) := (RegsBut.refl s).setF (by rw [reg])
  exact orderSide_of rfl rfl rfl (regs.fb (by decide))
    (State.fb_setF_beside s (fl := fl) (fl' := F.HLT_STAT_SUPPLY) v 0 0 reg wf (by decide) d)

theorem hltShow_order (s : State) : (hltShow s).orderSide = s.orderSide := by
  have warned : (warnShown s).orderSide = s.orderSide :=
    (hltFlag_order _ F.HLT_STAT_HUMID _ rfl (by decide) (by decide)).trans (hltFlag_order s F.HLT_STAT_WARN _ rfl (by decide) (by decide))
  rw [hltShow_eq]
  split
  · exact warned
  · exact (critChange_order _ _).trans ((hltFlag_order _ F.HLT_STAT_CRIT _ rfl (by decide) (by decide)).trans warned)

end Sys2Proof.Machine

/-! What R537 puts before a command of SYS acts at most once: the rank, and the resets (R537, R551, R554). -/

namespace Sys2Proof.Machine

open Sys2Proof.Claims

set_option Elab.async false

variable {s t u v : State} {n k : Nat}

/-! ### A rank that every act of the order raises -/

/-- What resets have done. -/
def State.resetRank (s : State) : Nat := bit s.sys.inReset + bit (!s.sys.wdtArmed)

/-- What SAFE_STOP_N has done. -/
def State.stopRank (s : State) : Nat :=
  bit s.sys.lowA + bit s.sys.lowB + bit (s.sys.stopA && s.sys.stopB && !s.fb F.SYS_STAT_SS)

/-- What critical faults have done. -/
def State.critRank (s : State) : Nat := bit (s.fb F.HLT_STAT_SUPPLY) + bit (decide (s.hlt.readTb = some s.tbNow))

/-- Resets before stops before critical faults. -/
def State.orderRank (s : State) : Nat := 12 * s.resetRank + (3 * s.stopRank + s.critRank)

/-- A host loss comes last: it ends the modes it acts in. -/
def State.stepRank (s : State) : Nat := 2 * s.orderRank + bit (!s.operating)

theorem bit_le (b : Bool) : bit b ≤ 1 := by cases b <;> decide

theorem orderRank_of (h : t.orderSide = s.orderSide) : t.orderRank = s.orderRank := by
  simp only [State.orderSide, Prod.mk.injEq] at h
  obtain ⟨reset, armed, lowA, lowB, stopA, stopB, stop, read, supply, tb⟩ := h
  simp only [State.orderRank, State.resetRank, State.stopRank, State.critRank, reset, armed, lowA, lowB, stopA, stopB, stop, read, supply, tb]

theorem stepRank_of_order (h : s.orderRank < t.orderRank) : s.stepRank < t.stepRank := by
  have le := bit_le (!s.operating)
  simp only [State.stepRank]
  omega

theorem stopRank_le (s : State) : s.stopRank ≤ 3 := by
  have a := bit_le s.sys.lowA
  have b := bit_le s.sys.lowB
  have c := bit_le (s.sys.stopA && s.sys.stopB && !s.fb F.SYS_STAT_SS)
  simp only [State.stopRank]
  omega

theorem critRank_le (s : State) : s.critRank ≤ 2 := by
  have d := bit_le (s.fb F.HLT_STAT_SUPPLY)
  have e := bit_le (decide (s.hlt.readTb = some s.tbNow))
  simp only [State.critRank]
  omega

/-- A reset raises it, whatever else it does. -/
theorem stepRank_of_reset (h : s.resetRank < t.resetRank) : s.stepRank < t.stepRank := by
  have stop := stopRank_le s
  have crit := critRank_le s
  refine stepRank_of_order ?_
  simp only [State.orderRank]
  omega

/-- A stop raises it where no reset is taken back. -/
theorem stepRank_of_stop (same : t.resetRank = s.resetRank) (h : s.stopRank < t.stopRank) : s.stepRank < t.stepRank := by
  have crit := critRank_le s
  refine stepRank_of_order ?_
  simp only [State.orderRank, same]
  omega

/-! ### Steps that act at most once -/

/-- A step that acts at most once, by what SYS_CMD does not change. -/
structure Orderly (f : State → State) : Prop where
  climbs : ∀ s, f s = s ∨ s.stepRank < (f s).stepRank
  stays : ∀ s, f s = s → f (laidAgain s R.SYS_CMD) = laidAgain s R.SYS_CMD

namespace Orderly

theorem id : Orderly fun s => s := ⟨fun _ => .inl rfl, fun _ _ => rfl⟩

theorem act {f g : State → State} {c : State → Prop} (acts : ∀ s, c s → f s = g s) (waits : ∀ s, ¬ c s → f s = s)
    (rises : ∀ s, c s → s.stepRank < (g s).stepRank) (laid : ∀ s, c (laidAgain s R.SYS_CMD) → c s) : Orderly f := by
  refine ⟨fun s => ?_, fun s same => waits _ fun h => ?_⟩
  · by_cases h : c s
    · exact .inr (acts s h ▸ rises s h)
    · exact .inl (waits s h)
  · have up := rises s (laid s h)
    rw [← acts s (laid s h), same] at up
    exact absurd up (Nat.lt_irrefl _)

theorem rank_le {f : State → State} (hf : Orderly f) (s : State) : s.stepRank ≤ (f s).stepRank := by
  rcases hf.climbs s with h | h
  · exact (congrArg State.stepRank h).ge
  · exact h.le

theorem comp {f g : State → State} (hf : Orderly f) (hg : Orderly g) : Orderly fun s => g (f s) := by
  refine ⟨fun s => ?_, fun s same => ?_⟩
  · rcases hf.climbs s with h | h
    · show g (f s) = s ∨ s.stepRank < (g (f s)).stepRank
      rw [h]
      exact hg.climbs s
    · exact .inr (h.trans_le (hg.rank_le _))
  · have first : f s = s := by
      rcases hf.climbs s with h | h
      · exact h
      · have up := h.trans_le (hg.rank_le _)
        rw [same] at up
        exact absurd up (Nat.lt_irrefl _)
    have second : g s = s := by
      have same' : g (f s) = s := same
      rwa [first] at same'
    show g (f (laidAgain s R.SYS_CMD)) = _
    rw [hf.stays s first, hg.stays s second]

theorem foldl {α : Type} {f : State → α → State} (hf : ∀ a, Orderly (f · a)) (l : List α) : Orderly fun s => l.foldl f s := by
  induction l with
  | nil => exact id
  | cons a l ih => exact comp (hf a) ih

theorem queue {f : State → Instr → State} (hf : ∀ a, Orderly (f · a)) : Orderly fun s => s.pending.foldl f s :=
  ⟨fun s => (foldl hf s.pending).climbs s, fun s => (foldl hf s.pending).stays s⟩

theorem of_at {f : State → State} (h : ∀ s, ∃ g, Orderly g ∧ f s = g s ∧ f (laidAgain s R.SYS_CMD) = g (laidAgain s R.SYS_CMD)) :
    Orderly f := by
  refine ⟨fun s => ?_, fun s same => ?_⟩
  · obtain ⟨g, hg, here, -⟩ := h s
    rw [here]
    exact hg.climbs s
  · obtain ⟨g, hg, here, there⟩ := h s
    rw [there]
    exact hg.stays s (here ▸ same)

end Orderly

/-! ### Resets -/

theorem laid_f (s : State) (fl : Fld) (i j : Nat) (ne : fl.reg.addr i j ≠ R.SYS_CMD.addr := by decide) :
    (laidAgain s R.SYS_CMD).f fl i j = s.f fl i j := (laidAgain_regs s R.SYS_CMD).f ne

theorem laid_fb (s : State) (fl : Fld) (i j : Nat) (ne : fl.reg.addr i j ≠ R.SYS_CMD.addr := by decide) :
    (laidAgain s R.SYS_CMD).fb fl i j = s.fb fl i j := (laidAgain_regs s R.SYS_CMD).fb ne

theorem laid_rd (s : State) (d : RegDesc) (i j : Nat) (ne : d.addr i j ≠ R.SYS_CMD.addr := by decide) :
    (laidAgain s R.SYS_CMD).rd d i j = s.rd d i j := (laidAgain_regs s R.SYS_CMD).rd ne

theorem reset_ranks (powered : s.sys.powered = true) (kind rod : Nat) (early : Bool) :
    (sysReset s kind rod early).resetRank = bit s.sys.inReset + 1 := by
  rw [State.resetRank, sysReset_ends powered, (sysReset_completes powered kind rod early).ended.1]
  rfl

/-- RESET_N resets in this step. -/
def resetNow (s : State) : Prop := ∃ t0, s.sys.resetLow = some t0 ∧ s.sys.powered = true ∧ s.sys.inReset = false ∧ t0 + 10000 ≤ s.elapsed

theorem externalReset_orderly : Orderly fun s => s.orNext (execExternalReset s) := by
  refine .act (c := resetNow) (g := fun s => sysReset (s.setSys { s.sys with inReset := true }) 2 0 false) ?_ ?_ ?_ (fun s h => h)
  · rintro s ⟨t0, low, powered, run, long⟩
    show s.orNext (execExternalReset s) = _
    unfold execExternalReset
    rw [low]
    exact if_pos ⟨powered, by rw [run]; rfl, long⟩
  · intro s no
    show s.orNext (execExternalReset s) = s
    unfold execExternalReset
    cases low : s.sys.resetLow with
    | none => rfl
    | some t0 => exact if_neg fun h => no ⟨t0, low, h.1, by simpa using h.2.1, h.2.2⟩
  · rintro s ⟨t0, -, powered, run, -⟩
    refine stepRank_of_reset ?_
    have after := reset_ranks (s := s.setSys { s.sys with inReset := true }) powered 2 0 false
    have le := bit_le (!s.sys.wdtArmed)
    rw [after, State.resetRank, run]
    have one : bit (s.setSys { s.sys with inReset := true }).sys.inReset = 1 := rfl
    have zero : bit false = 0 := rfl
    omega

/-- The watchdog resets in this step. -/
def watchdogNow (s : State) : Prop :=
  s.sys.powered = true ∧ s.sys.wdtArmed = true ∧ s.sys.wdtAt + s.f F.SYS_WDT_WDT_MAX * 1000000 ≤ s.elapsed

theorem watchdogExpiry_orderly : Orderly fun s => s.orNext (execWatchdogExpiry s) := by
  refine .act (c := watchdogNow) (g := fun s => sysReset s 3 0 false) ?_ ?_ ?_ ?_
  · exact fun s h => if_pos h.2
  · intro s no
    show (if s.sys.wdtArmed = true ∧ s.sys.wdtAt + s.f F.SYS_WDT_WDT_MAX * 1000000 ≤ s.elapsed then sysReset s 3 0 false else s) = s
    split
    · next h =>
      have off : (!s.sys.powered) = true := by
        cases p : s.sys.powered
        · rfl
        · exact absurd ⟨p, h⟩ no
      exact if_pos off
    · rfl
  · rintro s ⟨powered, armed, -⟩
    refine stepRank_of_reset ?_
    have after := reset_ranks powered 3 0 false
    have zero : bit (!true) = 0 := rfl
    rw [after, State.resetRank, armed]
    omega
  · rintro s ⟨powered, armed, due⟩
    exact ⟨powered, armed, (laid_f s F.SYS_WDT_WDT_MAX 0 0) ▸ due⟩

theorem resetsAhead_orderly : Orderly resetsAhead := by
  refine Orderly.queue fun c => .of_at fun s => ?_
  split
  · exact ⟨_, externalReset_orderly, rfl, rfl⟩
  · exact ⟨_, watchdogExpiry_orderly, rfl, rfl⟩
  · exact ⟨_, .id, rfl, rfl⟩

end Sys2Proof.Machine

/-! SAFE_STOP_N in the order of a step (R537, R542). -/

namespace Sys2Proof.Machine

open Sys2Proof.Claims

set_option Elab.async false

variable {s t u v : State} {n k : Nat}

/-! ### SAFE_STOP_N -/

theorem resetRank_of_flags (h : t.sys.orderFlags = s.sys.orderFlags) : t.resetRank = s.resetRank := by
  simp only [SysX.orderFlags, Prod.mk.injEq] at h
  obtain ⟨reset, armed, -⟩ := h
  simp only [State.resetRank, reset, armed]

theorem stopRank_of_flags (h : t.sys.orderFlags = s.sys.orderFlags) (stop : t.fb F.SYS_STAT_SS = s.fb F.SYS_STAT_SS) :
    t.stopRank = s.stopRank := by
  simp only [SysX.orderFlags, Prod.mk.injEq] at h
  obtain ⟨-, -, lowA, lowB, stopA, stopB⟩ := h
  simp only [State.stopRank, lowA, lowB, stopA, stopB, stop]

/-- What a stop does to the outputs, with its event. -/
theorem stopOutputs_late (s : State) (d : Nat) : Late s (fireUpdate (healthEvent s 0 0 0xD1 d (dioIn s))) :=
  (healthEvent_late s _ _ _ _ _).trans (fireUpdate_late _)

theorem stopAssert_late (s : State) : Late ((s.setF F.SYS_STAT_SS 1).setF F.SYS_STAT_SS_SEEN 1) (stopAssert s) := by
  have stopped (u : State) : Late u (if u.domOn 7 then mtrSafeStop (lswSafeStop (solAllOff u)) else u) :=
    (((solAllOff_late u).trans (lswSafeStop_late _)).trans (mtrSafeStop_late _)).ite (Late.refl u)
  exact (stopped _).trans (stopOutputs_late _ 1)

/-- The input of one channel of SAFE_STOP_N. -/
def SysX.channel (x : SysX) (b : Bool) : Bool := if b then x.stopB else x.stopA

/-- One channel of SAFE_STOP_N counts as low. -/
def SysX.lowered (x : SysX) (b : Bool) : SysX := if b then { x with lowB := true } else { x with lowA := true }

/-- A channel of SAFE_STOP_N is found low in this step. -/
def stopNow (b : Bool) (s : State) : Prop :=
  s.pd 0 = 2 ∧ s.sys.channel b = false ∧ (if b then s.sys.lowB else s.sys.lowA) = false ∧
    (if b then s.sys.stopBAt else s.sys.stopAAt) + s.f F.SYS_SAFECFG_SS_FILT * 1000 ≤ s.elapsed

/-- What it then does. -/
def stopFound (b : Bool) (s : State) : State :=
  if (stopTrack (s.setSys (s.sys.lowered b))).fb F.SYS_STAT_SS then stopTrack (s.setSys (s.sys.lowered b))
  else stopAssert (stopTrack (s.setSys (s.sys.lowered b)))

theorem stopFound_flags (b : Bool) (s : State) : (stopFound b s).sys.orderFlags = (s.sys.lowered b).orderFlags := by
  unfold stopFound
  split
  · rfl
  · exact (congrArg SysX.orderFlags (stopAssert_late (stopTrack (s.setSys (s.sys.lowered b)))).sys :)

theorem lowered_ranks {b : Bool} (channel : s.sys.channel b = false) (low : (if b then s.sys.lowB else s.sys.lowA) = false)
    (flags : t.sys.orderFlags = (s.sys.lowered b).orderFlags) : t.resetRank = s.resetRank ∧ s.stopRank < t.stopRank := by
  simp only [SysX.orderFlags, Prod.mk.injEq] at flags
  obtain ⟨reset, armed, lowA, lowB, stopA, stopB⟩ := flags
  cases b with
  | false =>
    have high : s.sys.stopA = false := channel
    have up : s.sys.lowA = false := low
    have reset : t.sys.inReset = s.sys.inReset := reset
    have armed : t.sys.wdtArmed = s.sys.wdtArmed := armed
    have lowA : t.sys.lowA = true := lowA
    have lowB : t.sys.lowB = s.sys.lowB := lowB
    have stopA : t.sys.stopA = s.sys.stopA := stopA
    refine ⟨by simp only [State.resetRank, reset, armed], ?_⟩
    simp only [State.stopRank, lowA, lowB, stopA, high, up, Bool.false_and]
    show bit false + _ + _ < bit true + _ + _
    simp [bit]
  | true =>
    have high : s.sys.stopB = false := channel
    have up : s.sys.lowB = false := low
    have reset : t.sys.inReset = s.sys.inReset := reset
    have armed : t.sys.wdtArmed = s.sys.wdtArmed := armed
    have lowA : t.sys.lowA = s.sys.lowA := lowA
    have lowB : t.sys.lowB = true := lowB
    have stopB : t.sys.stopB = s.sys.stopB := stopB
    refine ⟨by simp only [State.resetRank, reset, armed], ?_⟩
    simp only [State.stopRank, lowA, lowB, stopB, high, up, Bool.false_and, Bool.and_false]
    show _ + bit false + _ < _ + bit true + _
    simp [bit]

theorem safeStopAssert_orderly (b : Bool) : Orderly fun s => s.orNext (execSafeStopAssert b s) := by
  have front (x : State) : x.alive = true ↔ x.pd 0 = 2 := by simp [State.alive]
  let f (x : State) : State :=
    if x.alive ∧ !(x.sys.channel b) ∧ !(if b then x.sys.lowB else x.sys.lowA) ∧
        (if b then x.sys.stopBAt else x.sys.stopAAt) + x.f F.SYS_SAFECFG_SS_FILT * 1000 ≤ x.elapsed then stopFound b x else x
  have found : Orderly f := by
    refine .act (c := stopNow b) (g := stopFound b) (fun x h => if_pos ?_) (fun x h => if_neg fun q => h ?_) (fun x h => ?_) fun x h => ?_
    · exact ⟨(front x).mpr h.1, by rw [h.2.1]; rfl, by rw [h.2.2.1]; rfl, h.2.2.2⟩
    · exact ⟨(front x).mp q.1, by simpa using q.2.1, by simpa using q.2.2.1, q.2.2.2⟩
    · obtain ⟨-, channel, low, -⟩ := h
      obtain ⟨same, up⟩ := lowered_ranks channel low (stopFound_flags b x)
      exact stepRank_of_stop same up
    · obtain ⟨on, channel, low, long⟩ := h
      exact ⟨(pd_of_rd (laid_rd x R.SYS_PDSTAT 0 0) 0) ▸ on, channel, low, (laid_f x F.SYS_SAFECFG_SS_FILT 0 0) ▸ long⟩
  exact resetsAhead_orderly.comp found

/-- SAFE_STOP_N is released in this step. -/
def releaseNow (s : State) : Prop :=
  s.pd 0 = 2 ∧ s.fb F.SYS_STAT_SS = true ∧ s.fb F.SYS_STAT_SS_DISC = false ∧ s.sys.stopA = true ∧ s.sys.stopB = true ∧
    max s.sys.stopAAt s.sys.stopBAt + 50000000 ≤ s.elapsed

/-- What it then does. -/
def stopReleased (s : State) : State :=
  fireUpdate (healthEvent (s.setF F.SYS_STAT_SS 0) 0 0 0xD1 0 (dioIn (s.setF F.SYS_STAT_SS 0)))

theorem safeStopRelease_orderly : Orderly fun s => s.orNext (execSafeStopRelease s) := by
  let f (x : State) : State :=
    if x.alive ∧ x.fb F.SYS_STAT_SS ∧ !x.fb F.SYS_STAT_SS_DISC ∧ x.sys.stopA ∧ x.sys.stopB
        ∧ max x.sys.stopAAt x.sys.stopBAt + 50000000 ≤ x.elapsed then stopReleased x else x
  have front (x : State) : x.alive = true ↔ x.pd 0 = 2 := by simp [State.alive]
  have released : Orderly f := by
    refine .act (c := releaseNow) (g := stopReleased) (fun x h => if_pos ?_) (fun x h => if_neg fun q => h ?_) (fun x h => ?_) fun x h => ?_
    · obtain ⟨on, stop, disc, rest⟩ := h
      exact ⟨(front x).mpr on, stop, by rw [disc]; rfl, rest⟩
    · exact ⟨(front x).mp q.1, q.2.1, by simpa using q.2.2.1, q.2.2.2⟩
    · obtain ⟨-, stop, -, stopA, stopB, -⟩ := h
      have late := stopOutputs_late (x.setF F.SYS_STAT_SS 0) 0
      have flags : (stopReleased x).sys.orderFlags = x.sys.orderFlags := (congrArg SysX.orderFlags late.sys :)
      have gone : (stopReleased x).fb F.SYS_STAT_SS = false :=
        (late.flags F.SYS_STAT_SS ⟨rfl, by decide, by decide, by decide⟩).trans
          (State.fb_setF_same x F.SYS_STAT_SS 0 0 0 (by decide) (by decide))
      refine stepRank_of_stop (resetRank_of_flags flags) ?_
      simp only [SysX.orderFlags, Prod.mk.injEq] at flags
      obtain ⟨-, -, lowA', lowB', stopA', stopB'⟩ := flags
      simp only [State.stopRank, lowA', lowB', stopA', stopB', stopA, stopB, stop, gone]
      simp [bit]
    · obtain ⟨on, stop, disc, rest⟩ := h
      exact ⟨(pd_of_rd (laid_rd x R.SYS_PDSTAT 0 0) 0) ▸ on, (laid_fb x F.SYS_STAT_SS 0 0) ▸ stop,
        (laid_fb x F.SYS_STAT_SS_DISC 0 0) ▸ disc, rest⟩
  exact resetsAhead_orderly.comp released

theorem stopsAhead_orderly : Orderly stopsAhead := by
  refine resetsAhead_orderly.comp (.queue fun c => .of_at fun s => ?_)
  split
  · exact ⟨_, safeStopAssert_orderly _, rfl, rfl⟩
  · exact ⟨_, safeStopRelease_orderly, rfl, rfl⟩
  · exact ⟨_, .id, rfl, rfl⟩

end Sys2Proof.Machine

/-! Critical faults and host loss in the order of a step, and SYS_CMD RESET behind them (R526, R535, R537, R551). -/

namespace Sys2Proof.Machine

open Sys2Proof.Claims

set_option Elab.async false

variable {s t u v : State} {n k : Nat}

/-! ### Critical faults -/

theorem setHlt_order (s : State) {x : HltX} (read : x.readTb = s.hlt.readTb) : (s.setHlt x).orderSide = s.orderSide :=
  orderSide_of rfl read rfl rfl rfl

theorem tempEvent_order (s : State) (on : Bool) (level : Nat) : (tempEvent s on level).orderSide = s.orderSide := by
  unfold tempEvent
  split
  · exact (healthEvent_late _ _ _ _ _ _).order.trans (hltFlag_order s F.HLT_STAT_TEMP_SEEN 1 rfl (by decide) (by decide))
  · exact (healthEvent_late _ _ _ _ _ _).order

theorem humidEvent_order (s : State) (on : Bool) (level : Nat) : (humidEvent s on level).orderSide = s.orderSide := by
  unfold humidEvent
  split
  · exact (healthEvent_late _ _ _ _ _ _).order.trans (hltFlag_order s F.HLT_STAT_HUMID_SEEN 1 rfl (by decide) (by decide))
  · exact (healthEvent_late _ _ _ _ _ _).order

/-- One condition judged. -/
theorem condition_order {w was : Bool} {x : HltX} {f : State → State} (read : x.readTb = s.hlt.readTb)
    (hf : ∀ t, (f t).orderSide = t.orderSide) : (if w = was then s else f (s.setHlt x)).orderSide = s.orderSide := by
  split
  · rfl
  · exact (hf _).trans (setHlt_order s read)

theorem tempJudge_order (s : State) : (tempJudge s).orderSide = s.orderSide := by
  unfold tempJudge
  extract_lets t w c y s1
  have first : s1.orderSide = s.orderSide :=
    condition_order (s := s) (w := w) (was := s.hlt.tempWarn) (x := { s.hlt with tempWarn := w }) rfl fun t => tempEvent_order t w 1
  exact (condition_order (s := s1) (w := c) (was := s1.hlt.tempCrit) (x := { s1.hlt with tempCrit := c }) rfl
    fun t => tempEvent_order t c 2).trans first

theorem humidJudge_order (s : State) : (humidJudge s).orderSide = s.orderSide := by
  unfold humidJudge
  extract_lets h warn x nw no nc s0 w c y s1
  have counted : s0.orderSide = s.orderSide := setHlt_order s rfl
  have first : s1.orderSide = s0.orderSide :=
    condition_order (s := s0) (w := w) (was := x.wet) (x := { s0.hlt with wet := w }) rfl fun t => humidEvent_order t w 1
  exact (condition_order (s := s1) (w := c) (was := x.flooded) (x := { s1.hlt with flooded := c }) rfl
    fun t => humidEvent_order t c 2).trans (first.trans counted)

/-- The readings of a sensor read, as they are shown. -/
def readingsShown (v : Sensors) (s : State) : State :=
  airShown v (maxShown (hottest (v.temp.take 12)) (tempsShown (fun i => (v.temp.getD i 0).signExtend 32) 12 s))

/-- Registers of the monitor other than HLT_STAT. -/
theorem readRegs_order (h : quiet noHealth readRegs s t) (own : t.hlt = s.hlt) : t.orderSide = s.orderSide := by
  have stat : ¬ readRegs R.SYS_STAT.addr := by unfold readRegs hltRegs; decide
  have health : ¬ readRegs R.HLT_STAT.addr := by unfold readRegs hltRegs; decide
  exact orderSide_regs h.2 stat health (congrArg (fun x : State => x.sys.orderFlags) h.1 :) (congrArg HltX.readTb own)
    (congrArg State.tbNow h.1 :)

theorem readingsShown_order (v : Sensors) (s : State) : (readingsShown v s).orderSide = s.orderSide := by
  obtain ⟨warm, warm'⟩ := tempsShown_quiet (fun i => (v.temp.getD i 0).signExtend 32) s
  unfold readingsShown
  generalize tempsShown (fun i => (v.temp.getD i 0).signExtend 32) 12 s = a at *
  obtain ⟨max, max'⟩ := maxShown_quiet (hottest (v.temp.take 12)) a
  generalize maxShown (hottest (v.temp.take 12)) a = b at *
  obtain ⟨air, air'⟩ := airShown_quiet v b
  exact (readRegs_order air air').trans ((readRegs_order max max').trans (readRegs_order warm warm'))

/-- A sensor read falls in this step. -/
def readNow (s : State) : Prop :=
  s.sys.powered = true ∧ s.tbHits (fun t => t % 100000000 == 0) = true ∧ s.hlt.readTb ≠ some s.tbNow

/-- What it then does. -/
def sensorsRead (v : Sensors) (s : State) : State :=
  hltShow (humidJudge (tempJudge (readingsShown v (s.setHlt { s.hlt with readTb := some s.tbNow }))))

theorem sensorsRead_order (v : Sensors) (s : State) :
    (sensorsRead v s).orderSide = (s.setHlt { s.hlt with readTb := some s.tbNow }).orderSide :=
  (hltShow_order _).trans ((humidJudge_order _).trans ((tempJudge_order _).trans (readingsShown_order v _)))

/-- The ranks of a state that differs by what the critical faults count. -/
theorem stepRank_of_crit (like : t.orderSide = u.orderSide) (flags : u.sys.orderFlags = s.sys.orderFlags)
    (stop : u.fb F.SYS_STAT_SS = s.fb F.SYS_STAT_SS) (h : s.critRank < u.critRank) : s.stepRank < t.stepRank := by
  refine stepRank_of_order ?_
  rw [orderRank_of like]
  simp only [State.orderRank, resetRank_of_flags flags, stopRank_of_flags flags stop]
  omega

theorem sensorRead_orderly (v : Sensors) : Orderly fun s => s.orNext (execSensorRead v s) := by
  let f (x : State) : State :=
    if x.sys.powered ∧ x.tbHits (fun t => t % 100000000 == 0) ∧ x.hlt.readTb ≠ some x.tbNow then sensorsRead v x else x
  have reads : Orderly f := by
    refine .act (c := readNow) (g := sensorsRead v) (fun x h => if_pos h) (fun x h => if_neg h) (fun x h => ?_) fun x h => h
    refine stepRank_of_crit (sensorsRead_order v x) rfl rfl ?_
    have old : decide (x.hlt.readTb = some x.tbNow) = false := decide_eq_false h.2.2
    show _ < bit (x.fb F.HLT_STAT_SUPPLY) + bit (decide (some x.tbNow = some x.tbNow))
    simp only [State.critRank, old]
    simp [bit]
  exact stopsAhead_orderly.comp reads

/-- The core supply becomes critical in this step. -/
def supplyNow (mv : BitVec 16) (s : State) : Prop :=
  s.sys.powered = true ∧ s.fb F.HLT_STAT_SUPPLY = false ∧ (mv.toNat < 855 ∨ 945 < mv.toNat)

/-- What it then does. -/
def supplyLost (mv : BitVec 16) (s : State) : State :=
  hltShow (healthEvent ((s.setF F.HLT_STAT_SUPPLY 1).setF F.HLT_STAT_SUPPLY_SEEN 1) 0 0 0xFB 2 (mv.setWidth 32))

theorem coreSupplyCritical_orderly (mv : BitVec 16) : Orderly fun s => s.orNext (execCoreSupplyCritical mv s) := by
  let f (x : State) : State :=
    if x.sys.powered ∧ !x.fb F.HLT_STAT_SUPPLY ∧ (mv.toNat < 855 ∨ 945 < mv.toNat) then supplyLost mv x else x
  have lost : Orderly f := by
    refine .act (c := supplyNow mv) (g := supplyLost mv) (fun x h => if_pos ?_) (fun x h => if_neg fun q => h ?_) (fun x h => ?_) fun x h => ?_
    · exact ⟨h.1, by rw [h.2.1]; rfl, h.2.2⟩
    · exact ⟨q.1, by simpa using q.2.1, q.2.2⟩
    · have set : (x.setF F.HLT_STAT_SUPPLY 1).fb F.HLT_STAT_SUPPLY = true :=
        State.fb_setF_same x F.HLT_STAT_SUPPLY 1 0 0 (by decide) (by decide)
      have like : (supplyLost mv x).orderSide = (x.setF F.HLT_STAT_SUPPLY 1).orderSide :=
        (hltShow_order _).trans ((healthEvent_late _ _ _ _ _ _).order.trans
          (hltFlag_order (x.setF F.HLT_STAT_SUPPLY 1) F.HLT_STAT_SUPPLY_SEEN 1 rfl (by decide) (by decide)))
      refine stepRank_of_crit like rfl (((RegsBut.refl x).setF (p := (· = R.HLT_STAT.addr)) (fl := F.HLT_STAT_SUPPLY) rfl).fb (by decide)) ?_
      show _ < bit _ + bit (decide (x.hlt.readTb = some x.tbNow))
      simp only [State.critRank, set, h.2.1]
      simp [bit]
    · exact ⟨h.1, (laid_fb x F.HLT_STAT_SUPPLY 0 0) ▸ h.2.1, h.2.2⟩
  exact stopsAhead_orderly.comp lost

theorem critsAhead_orderly : Orderly critsAhead := by
  refine stopsAhead_orderly.comp (.queue fun c => .of_at fun s => ?_)
  split
  · exact ⟨_, coreSupplyCritical_orderly _, rfl, rfl⟩
  · exact ⟨_, sensorRead_orderly _, rfl, rfl⟩
  · exact ⟨_, .id, rfl, rfl⟩

/-! ### Host loss -/

theorem laid_mode (s : State) : (laidAgain s R.SYS_CMD).mode = s.mode := (modeFields_of_rd (laid_rd s R.SYS_MODE 0 0)).1

theorem laid_netF (s : State) (q : Nat) {h l : Fld} (hh : R.SYS_CMD.addr < h.reg.base := by decide) (hl : R.SYS_CMD.addr < l.reg.base := by decide) :
    (laidAgain s R.SYS_CMD).netF q h l = s.netF q h l := by
  have past (d : RegDesc) (i j : Nat) (lt : R.SYS_CMD.addr < d.base) : d.addr i j ≠ R.SYS_CMD.addr := by
    have le : d.base ≤ d.addr i j := by simp only [RegDesc.addr]; omega
    omega
  unfold State.netF
  split
  · exact laid_f s h 0 0 (past _ 0 0 hh)
  · exact laid_f s l (q - 9) 0 (past _ _ 0 hl)

theorem laid_passes (s : State) (type : Nat) (f : TlFrame) : tlPasses (laidAgain s R.SYS_CMD) type f = tlPasses s type f := by
  have up : (laidAgain s R.SYS_CMD).portUp (portCode f.port) = s.portUp (portCode f.port) := by
    refine portUp_congr (laid_rd s _ 0 0) (laid_rd s _ 0 0) (fun k => laid_rd s _ k 0 ?_) (laid_rd s _ 0 0) (fun k => laid_rd s _ k 0 ?_) _ <;>
      simp only [RegDesc.addr, R.NETL_CTL, R.NETL_STAT, R.SYS_CMD] <;> omega
  have takes : netTakes (laidAgain s R.SYS_CMD) (portCode f.port) f.src = netTakes s (portCode f.port) f.src := by
    have vlan := laid_netF s (portCode f.port) (h := F.NETH_CTL_VLANEN) (l := F.NETL_CTL_VLANEN)
    have vid := laid_netF s (portCode f.port) (h := F.NETH_CTL_VID) (l := F.NETL_CTL_VID)
    have four := laid_netF s (portCode f.port) (h := F.NETH_IP4PFX_V) (l := F.NETL_IP4PFX_V)
    simp only [netTakes, vlan, vid, four]
  have authentic := tlAuthentic_congr (t := laidAgain s R.SYS_CMD) (s := s) (laid_mode s) rfl type f
  have mark : (laidAgain s R.SYS_CMD).rd64 R.KRXHW_LO R.KRXHW_HI (tlKey f) = s.rd64 R.KRXHW_LO R.KRXHW_HI (tlKey f) := by
    have lo : (laidAgain s R.SYS_CMD).rd R.KRXHW_LO (tlKey f) = s.rd R.KRXHW_LO (tlKey f) := by
      refine laid_rd s _ _ 0 ?_
      simp only [RegDesc.addr, R.KRXHW_LO, R.SYS_CMD]; omega
    have hi : (laidAgain s R.SYS_CMD).rd R.KRXHW_HI (tlKey f) = s.rd R.KRXHW_HI (tlKey f) := by
      refine laid_rd s _ _ 0 ?_
      simp only [RegDesc.addr, R.KRXHW_HI, R.SYS_CMD]; omega
    simp only [State.rd64, State.nat, lo, hi]
  simp only [tlPasses, up, takes, authentic, mark]
  rfl

theorem laid_hostLoss (s : State) : hostLossNow (laidAgain s R.SYS_CMD) = hostLossNow s := by
  have late : hostLate (laidAgain s R.SYS_CMD) = hostLate s := by
    have on : (laidAgain s R.SYS_CMD).domOn 7 = s.domOn 7 := by simp only [State.domOn, laid_rd s R.SYS_PDSTAT 0 0]
    have time := laid_f s F.FAN_HTO_HOST_TIMEOUT 0 0
    simp only [hostLate, on, time]
    rfl
  have comes : hostComes (laidAgain s R.SYS_CMD) = hostComes s := by
    simp only [hostComes, laid_passes]
    rfl
  simp only [hostLossNow, State.operating, laid_mode, laid_rd s R.SYS_SAFECFG 0 0, late, comes]

theorem hostLoss_orderly : Orderly fun s => s.orNext (execHostLoss s) := by
  let f (x : State) : State := if hostLossNow x then enterHold x 1 else x
  have lost : Orderly f := by
    refine .act (c := fun x => hostLossNow x = true) (g := fun x => enterHold x 1) (fun x h => if_pos h) (fun x h => if_neg h) (fun x h => ?_)
      fun x h => (laid_hostLoss x) ▸ h
    have run : x.operating = true := by
      simp only [hostLossNow, Bool.and_eq_true] at h
      exact h.1.1.1
    have span := operating_iff.mp run
    have held := (enterHold_holds (s := x) (by show x.mode ≠ 6; omega) 1).1
    have stopped : (enterHold x 1).operating = false := by
      refine Bool.eq_false_iff.mpr fun q => ?_
      have := operating_iff.mp q
      omega
    simp only [State.stepRank, orderRank_of (enterHold_order x 1), stopped, run]
    simp [bit]
  exact critsAhead_orderly.comp lost

theorem cmdAhead_orderly : Orderly cmdAhead := by
  refine .of_at fun s => ?_
  unfold cmdAhead
  by_cases behind : s.pending.contains .hostLoss = true
  · exact ⟨_, hostLoss_orderly, if_pos behind, if_pos behind⟩
  · exact ⟨_, critsAhead_orderly, if_neg behind, if_neg behind⟩

/-! ### SYS_CMD RESET -/

theorem sysCmdReset_runs (on : s.domOn 0 = true) (ahead : cmdAhead s = s) (w : Writer) :
    exec (.sysCmdReset w) s = .next (if (w == .host) = true then sysReset (laidAgain s R.SYS_CMD) 4 0 false
      else sysRefused (laidAgain s R.SYS_CMD)) := by
  have listed : R.SYS_CMD ∈ commandRegs := by simp [commandRegs]
  have written := writeReg_command on w (putBits 0 3 0 7) R.SYS_CMD listed
  have value : regBits s R.SYS_CMD 0 (putBits 0 3 0 7) = 7 := by
    show putBits 0 3 0 7 = 7
    decide
  have commanded : sysCmd (laidAgain s R.SYS_CMD) w 7 = if (w == .host) = true then sysReset (laidAgain s R.SYS_CMD) 4 0 false
      else sysRefused (laidAgain s R.SYS_CMD) := by
    unfold sysCmd
    rw [cmdAhead_orderly.stays s ahead]
    rfl
  refine congrArg Host.Outcome.next (Eq.trans ?_ (written.trans ?_))
  · rfl
  · rw [value]
    exact (if_neg (show ¬ false = true from Bool.false_ne_true)).trans commanded

theorem sysCmdReset_resets (on : s.domOn 0 = true) (powered : s.sys.powered = true) (ahead : cmdAhead s = s) :
    runsTo (.sysCmdReset .host) s fun t => resetDone s t 4 false :=
  ⟨_, (sysCmdReset_runs on ahead .host).trans (congrArg Host.Outcome.next (if_pos rfl)),
    sysReset_done (laidAgain_alike s R.SYS_CMD (by simp)) powered (by decide) (by decide) false⟩

theorem sysCmdReset_refused (on : s.domOn 0 = true) (ahead : cmdAhead s = s) {w : Writer} (other : w ≠ .host) :
    runsTo (.sysCmdReset w) s fun t => t.fb F.SYS_STAT_REFUSED = true ∧
      quiet noRegs (fun a => a = R.SYS_CMD.addr ∨ a = R.SYS_STAT.addr) s t := by
  refine ⟨_, (sysCmdReset_runs on ahead w).trans (congrArg Host.Outcome.next (if_neg (by simpa using other))), ?_, rfl, ?_⟩
  · exact State.fb_setF_same _ F.SYS_STAT_REFUSED 1 0 0 (by decide) (by decide)
  · exact ((laidAgain_regs s R.SYS_CMD).mono fun _ => .inl).setF (.inr rfl)

end Sys2Proof.Machine

/-! Resets by a program with POLICY RESET: an exception without a handler, or a failed physical Rod (R72, R86, R551). -/

namespace Sys2Proof.Machine

open Sys2Proof.Claims

set_option Elab.async false

variable {s t u v : State} {n k : Nat}

/-! ### What happens before such a reset -/

/-- What stands behind SYS, the programs, the banks and the times. -/
def State.midSide (s : State) : SysX × Tab Program × (Option Commit × Bank × Bank × KeyBank × KeyBank) × Nat × Nat :=
  (s.sys, s.programs, (s.sto.commit, s.sto.bankA, s.sto.bankB, s.sto.keyA, s.sto.keyB), s.tbNow, s.elapsed)

/-- CRG_CFG and CRG_BASE of a ring. -/
def ringWord (a : Nat) : Prop := 0x11010000 ≤ a ∧ a < 0x11010800 ∧ a % 0x40 < 8

/-- The registers of the monitor, the store, the Rods, the rings' books and trace. -/
def midReg (a : Nat) : Prop := 0x10010000 ≤ a ∧ a < 0x30000000 ∧ ¬ ringWord a

/-- From `s` to `t` such registers have changed, none that a reset's claims compare. -/
structure Amid (s t : State) : Prop where
  side : t.midSide = s.midSide
  regs : RegsBut midReg s t

theorem RegsBut.both {p q : Nat → Prop} (h : RegsBut p s t) (h' : RegsBut q s t) : RegsBut (fun a => p a ∧ q a) s t := by
  intro a out
  by_cases hp : p a
  · exact h' a fun hq => out ⟨hp, hq⟩
  · exact h a hp

theorem rodReg_mid {d : RegDesc} {r : Nat} (hr : r < 16) (lo : 0x11001000 ≤ d.base) (hi : d.base < 0x11001100) (h1 : d.s1 = 0x100)
    (h2 : d.s2 = 0) : midReg (d.addr r) := by
  simp only [midReg, ringWord, RegDesc.addr, h1, h2]; omega

namespace Amid

theorem refl (s : State) : Amid s s := ⟨rfl, RegsBut.refl s⟩

theorem trans (h : Amid s t) (h' : Amid t u) : Amid s u := ⟨h'.side.trans h.side, h.regs.trans h'.regs⟩

theorem beside (h : Amid s t) (hx : u.midSide = t.midSide) (hr : u.regs = t.regs) : Amid s u :=
  h.trans ⟨hx, (RegsBut.refl t).of_regs hr⟩

theorem wr (h : Amid s t) {d : RegDesc} {v : Word} {i j : Nat} (hd : midReg (d.addr i j)) : Amid s (t.wr d v i j) :=
  h.trans ⟨rfl, (RegsBut.refl t).wr hd⟩

theorem setF (h : Amid s t) {fl : Fld} {v i j : Nat} (hd : midReg (fl.reg.addr i j)) : Amid s (t.setF fl v i j) :=
  h.trans ⟨rfl, (RegsBut.refl t).setF hd⟩

/-- A register of a Rod. -/
theorem rodReg (h : Amid s t) {d : RegDesc} {r : Nat} {v : Word} (hr : r < 16) (lo : 0x11001000 ≤ d.base := by decide)
    (hi : d.base < 0x11001100 := by decide) (h1 : d.s1 = 0x100 := by rfl) (h2 : d.s2 = 0 := by rfl) : Amid s (t.wr d v r) :=
  h.wr (rodReg_mid hr lo hi h1 h2)

theorem rodField (h : Amid s t) {fl : Fld} {v r : Nat} (hr : r < 16) (lo : 0x11001000 ≤ fl.reg.base := by decide)
    (hi : fl.reg.base < 0x11001100 := by decide) (h1 : fl.reg.s1 = 0x100 := by rfl) (h2 : fl.reg.s2 = 0 := by rfl) :
    Amid s (t.setF fl v r) := h.setF (rodReg_mid hr lo hi h1 h2)

/-- What an event leaves. -/
theorem posts (h : Amid s t) (h' : Posts t u) (late : Late t u) : Amid s u := by
  have side : u.midSide = t.midSide := (congrArg State.midSide h'.1 :)
  refine h.trans ⟨side, (h'.2.both late.regs).mono fun a ⟨e, l⟩ => ?_⟩
  have area := eventReg_area e
  simp only [midReg, ringWord]
  simp only [lateReg, RegDesc.addr, R.SYS_STAT, R.SYS_HELD, R.SYS_HELDM, R.STO_LOGLOST, R.STO_STAT] at l
  omega

theorem ite {c : Prop} [Decidable c] (ht : Amid s t) (hu : Amid s u) : Amid s (if c then t else u) := by
  split <;> assumption

theorem foldl {α : Type} {f : State → α → State} (l : List α) (hf : ∀ t, ∀ a ∈ l, Amid t (f t a)) (s : State) :
    Amid s (l.foldl f s) := by
  induction l generalizing s with
  | nil => exact refl s
  | cons a l ih =>
    exact (hf s a List.mem_cons_self).trans (ih (fun t b hb => hf t b (List.mem_cons_of_mem a hb)) (f s a))

theorem foldN {n : Nat} {f : State → Nat → State} (hf : ∀ t k, k < n → Amid t (f t k)) (s : State) : Amid s (foldN n f s) :=
  foldN_keeps (P := Amid s) n (fun t k hk h => h.trans (hf t k hk)) s (refl s)

theorem sys (h : Amid s t) : t.sys = s.sys := congrArg (·.1) h.side
theorem programs (h : Amid s t) : t.programs = s.programs := congrArg (·.2.1) h.side

theorem alike (h : Amid s t) : Alike s t := by
  have out {a : Nat} (ha : a < 0x10010000 ∨ 0x30000000 ≤ a) : ¬ midReg a := fun m => by simp only [midReg] at m; omega
  have low {d : RegDesc} (hd : d.addr < 0x10010000) : t.rd d = s.rd d := h.regs.rd (out (.inl hd))
  have banks : (t.sto.commit, t.sto.bankA, t.sto.bankB, t.sto.keyA, t.sto.keyB) =
    (s.sto.commit, s.sto.bankA, s.sto.bankB, s.sto.keyA, s.sto.keyB) := congrArg (·.2.2.1) h.side
  refine ⟨(modeFields_of_rd (low (by decide))).1, h.regs.f (out (by decide)), low (by decide), low (by decide), h.regs.fb (out (by decide)),
    fun n _ => h.regs.fb (out ?_), congrArg Prod.fst banks, congrArg Prod.snd banks, ?_, congrArg SysX.inReset h.sys,
    congrArg SysX.commission h.sys, congrArg SysX.powered h.sys⟩
  · have addr := lsw_stat_addr n
    simp only [F.LSW_STAT_ON, addr]
    omega
  · exact congrArg (fun x => (x.2.2.2.1, x.2.2.2.2)) h.side

end Amid

theorem setRod_amid (s : State) (r : Nat) (x : RodX) : Amid s (s.setRod r x) := (Amid.refl s).beside rfl rfl

theorem healthEvent_amid (s : State) (idx pool code detail : Nat) (v : Word) : Amid s (healthEvent s idx pool code detail v) :=
  (Amid.refl s).posts (healthEvent_posts _ _ _ _ _ _) (healthEvent_late _ _ _ _ _ _)

theorem pushFinish_amid (s : State) (n : Nat) : Amid s (pushFinish s n) := by
  refine Amid.foldN (fun t r hr => ?_) s
  have done (u : State) : Amid u (rodDone u r) := (setRod_amid u r _).rodReg hr
  have put (u : State) (d : BitVec 5) (v : Word) : Amid u (setG u r d v) := (Amid.refl u).ite (setRod_amid u r _)
  split
  · exact (((setRod_amid t r _).trans (put _ _ _)).trans (done _)).ite (Amid.refl t)
  · exact Amid.refl t

theorem voidReservations_amid (s : State) (r : Nat) : Amid s (voidReservations s r) := by
  refine (setRod_amid s r _).trans (Amid.foldN (fun t n hn => ?_) _)
  have voided (x : RingX) : Amid t (t.setRing n x) := (Amid.refl t).beside rfl rfl
  exact (((voided _).posts (ringCommit_posts hn _) (ringCommit_late hn _)).trans (pushFinish_amid _ n)).ite (Amid.refl t)

theorem programFault_resets {r : Nat} {pr : Program} (listed : tabFind s.programs r = some pr) (policy : pr.policy = 2) :
    ∃ v, Amid s v ∧ programFault s r = sysReset v 5 r false := by
  have before : Amid s (healthEvent (voidReservations s r) r 1 0xF3 ((voidReservations s r).f F.FRM_RSTAT_POLICY r)
      ((voidReservations s r).rd R.FRM_ECAUSE r)) := (voidReservations_amid s r).trans (healthEvent_amid _ _ _ _ _ _)
  refine ⟨_, before, ?_⟩
  unfold programFault
  dsimp only
  generalize healthEvent (voidReservations s r) r 1 0xF3 ((voidReservations s r).f F.FRM_RSTAT_POLICY r)
    ((voidReservations s r).rd R.FRM_ECAUSE r) = c at before ⊢
  have found : tabFind c.programs r = some pr := by rw [before.programs]; exact listed
  rw [found]
  dsimp only
  rw [if_neg (fun h => absurd (h.1.symm.trans policy) (by decide)), if_pos policy]
  rfl

theorem programFault_done {r : Nat} {pr : Program} (hr : r < 16) (amid : Amid s t) (powered : s.sys.powered = true)
    (listed : tabFind s.programs r = some pr) (policy : pr.policy = 2) : resetDone s (programFault t r) 5 false r := by
  obtain ⟨v, more, resets⟩ := programFault_resets (s := t) (amid.programs ▸ listed) policy
  rw [resets]
  exact sysReset_done (amid.trans more).alike powered (by decide) hr false

/-! ### Exceptions -/

/-- The three words an exception writes. -/
def causeShown (s : State) (r : Nat) (epc eaddr cause : Word) : State :=
  ((s.wr R.FRM_EPC epc r).wr R.FRM_EADDR eaddr r).wr R.FRM_ECAUSE cause r

theorem causeShown_amid {r : Nat} (hr : r < 16) (s : State) (epc eaddr cause : Word) : Amid s (causeShown s r epc eaddr cause) :=
  (((Amid.refl s).rodReg hr).rodReg hr).rodReg hr

theorem raise_resets (r : Fin 16) {pr : Program} (powered : s.sys.powered = true) (listed : tabFind s.programs r = some pr)
    (policy : pr.policy = 2) (cls code : Nat) (epc eaddr : Word) (unhandled : pr.excEntry = 0 ∨ (s.rod r).inHandler = true) :
    resetDone s (raise s r cls code epc eaddr) 5 false r := by
  have shown := causeShown_amid r.isLt s epc eaddr (word (cls * 4096 + bit (s.rod r).inHandler * 256 + code))
  have found : tabFind (causeShown s r epc eaddr (word (cls * 4096 + bit (s.rod r).inHandler * 256 + code))).programs r = some pr := listed
  have faults : raise s r cls code epc eaddr =
      programFault (causeShown s r epc eaddr (word (cls * 4096 + bit (s.rod r).inHandler * 256 + code))) r := by
    have out : ¬ ((!(s.rod r).inHandler) = true ∧ pr.excEntry ≠ 0) := by
      rintro ⟨inside, entry⟩
      rcases unhandled with h | h
      · exact entry h
      · rw [h] at inside; exact absurd inside (by decide)
    unfold raise
    simp only [causeShown] at found
    dsimp only
    rw [found]
    exact if_neg out
  rw [faults]
  exact programFault_done r.isLt shown powered listed policy

/-! ### A failed physical Rod -/

theorem paceMeasure_amid {r : Nat} (hr : r < 16) (s : State) : Amid s (paceMeasure s r) := by
  have rated (x : Nat) (u : State) : Amid u (u.setF F.FRM_PACE_RATE x r) := (Amid.refl u).rodField hr
  unfold paceMeasure
  dsimp only
  split
  · exact Amid.refl s
  · have taken : Amid s (freeReading s).2 := (Amid.refl s).beside rfl rfl
    exact (taken.trans (rated _ _)).trans (setRod_amid _ r _)

theorem hltReg_amid (h : Amid s t) {d : RegDesc} {v : Word} {i : Nat} (hi : i < 4) (lo : 0x10010000 ≤ d.base := by decide)
    (hi' : d.base < 0x10020000 := by decide) (h1 : d.s1 ≤ 4 := by decide) (h2 : d.s2 = 0 := by rfl) : Amid s (t.wr d v i) := by
  have step : d.s1 * i ≤ 4 * 3 := Nat.mul_le_mul h1 (by omega)
  exact h.wr (by simp only [midReg, ringWord, RegDesc.addr, h2]; omega)

theorem bindRod_amid {r : Nat} (hr : r < 16) (s : State) (p : Nat) : Amid s (bindRod s r p) := by
  have mapped (u : State) : Amid u (mapRod u r p) := hltReg_amid (Amid.refl u) (by omega)
  exact ((paceMeasure_amid hr s).trans (setRod_amid _ r _)).trans (mapped _)

theorem poolsUpdate_amid (s : State) : Amid s (poolsUpdate s) := by
  have shown {t : State} (h : Amid s t) (fl : Fld) (v : Nat) (lo : 0x10010000 ≤ fl.reg.addr := by decide)
      (hi : fl.reg.addr < 0x10020000 := by decide) : Amid s (t.setF fl v) := h.setF (by simp only [midReg, ringWord]; omega)
  have told (l : List Nat) (t : State) : Amid t (l.foldl (fun s p => healthEvent s 0 p 0xF9 p 0) t) :=
    Amid.foldl l (fun u p _ => healthEvent_amid u 0 p 0xF9 p 0) t
  have noted (t : State) (l : List Nat) : Amid t { t with sto := { t.sto with exhausted := l } } := (Amid.refl t).beside rfl rfl
  unfold poolsUpdate
  extract_lets
  exact ((shown (shown (shown (shown (shown (shown (Amid.refl s) F.HLT_POOLS_RODS _) F.HLT_POOLS_MATRIX _) F.HLT_POOLS_PPATHS _)
    F.HLT_POOLS_DPATH _) F.HLT_POOLS_SECTIONS _) F.HLT_STAT_EXHAUSTED _).trans (told _ _)).trans (noted _ _)

/-- Physical Rod `p` is retired. -/
def retired (s : State) (p : Nat) : State := s.setMap { s.sto.umap with rods := s.sto.umap.rods ++ [p] }

/-- The words of a failed Rod's program are shown and its reservations void; the failure is reported. -/
def failShown (s : State) (p r : Nat) : State :=
  let e := (s.wr R.FRM_EPC (s.rd R.FRM_PC r) r).wr R.FRM_EADDR 0 r
  let c := e.wr R.FRM_ECAUSE (word (bit (e.rod r).inHandler * 256 + 0x0E)) r
  healthEvent (voidReservations c r) r 1 0xF1 p (word ((spareRods c).length - 1))

theorem retired_amid (s : State) (p : Nat) : Amid s (retired s p) := (Amid.refl s).beside rfl rfl

theorem failShown_amid {r : Nat} (hr : r < 16) (s : State) (p : Nat) : Amid s (failShown s p r) :=
  (((((Amid.refl s).rodReg hr).rodReg hr).rodReg hr).trans (voidReservations_amid _ r)).trans (healthEvent_amid _ _ _ _ _ _)

theorem failShown_keeps {r : Nat} (hr : r < 16) (s : State) (p : Nat) : (failShown s p r).sto = s.sto ∧
    ∀ k < 16, (failShown s p r).physOf k = s.physOf k := by
  have late : Late s (failShown s p r) :=
    (((((Late.refl s).rodReg hr).rodReg hr).rodReg hr).trans (voidReservations_late _ r)).trans (healthEvent_late _ _ _ _ _ _)
  refine ⟨late.sto, fun k hk => ?_⟩
  have low : R.HLT_RODMAP.addr (k / 4) < 0x10020000 := by simp only [RegDesc.addr, R.HLT_RODMAP]; omega
  have high : 0x10010000 ≤ R.HLT_RODMAP.addr (k / 4) := by simp only [RegDesc.addr, R.HLT_RODMAP]; omega
  have word : (failShown s p r).rd R.HLT_RODMAP (k / 4) = s.rd R.HLT_RODMAP (k / 4) := late.rd (not_late_low low
    (by simp only [R.SYS_STAT, RegDesc.addr] at high ⊢; omega) (by simp only [R.SYS_HELD, RegDesc.addr] at high ⊢; omega)
    (by simp only [R.SYS_HELDM, RegDesc.addr] at high ⊢; omega))
  simp only [State.physOf, word]

theorem pushFinish_migration (s : State) (n : Nat) : (pushFinish s n).migration = s.migration := by
  refine foldN_keeps (P := fun t : State => t.migration = s.migration) 16 (fun t r _ h => ?_) s rfl
  have put (u : State) (d : BitVec 5) (v : Word) : (setG u r d v).migration = u.migration := by
    unfold setG
    split <;> rfl
  have done (u : State) : (rodDone u r).migration = u.migration := rfl
  split
  · split
    · exact (done _).trans ((put _ _ _).trans h)
    · exact h
  · exact h

theorem voidReservations_migration (s : State) (r : Nat) : (voidReservations s r).migration = s.migration := by
  refine foldN_keeps (P := fun t : State => t.migration = s.migration) 32 (fun t n hn h => ?_) _ rfl
  have committed (u : State) : (ringCommit u n).migration = u.migration := (congrArg State.migration (ringCommit_posts hn u).1 :)
  dsimp only
  split
  · exact (pushFinish_migration _ n).trans ((committed _).trans h)
  · exact h

theorem failShown_migration (s : State) (p r : Nat) : (failShown s p r).migration = s.migration := by
  have told (u : State) (v : Word) : (healthEvent u r 1 0xF1 p v).migration = u.migration :=
    (congrArg State.migration (healthEvent_posts u r 1 0xF1 p v).1 :)
  exact (told _ _).trans (voidReservations_migration _ r)

theorem failShown_spare {r : Nat} (hr : r < 16) {p q : Nat} (free : freeRod s q) (mine : s.physOf r = p) (idle : s.migration = none) :
    q ∈ spareRods (failShown (retired s p) p r) := by
  obtain ⟨below, ⟨healthy, unbound⟩, -⟩ := free
  obtain ⟨sto, phys⟩ := failShown_keeps hr (retired s p) p
  have map : (failShown (retired s p) p r).sto.umap.rods = s.sto.umap.rods ++ [p] := congrArg (fun x : StoX => x.umap.rods) sto
  have other : q ≠ p := fun e => unbound r hr (mine.trans e.symm)
  refine List.mem_filter.mpr ⟨List.mem_range.mpr below, ?_⟩
  have still : (failShown (retired s p) p r).migration = none := (failShown_migration (retired s p) p r).trans idle
  simp only [map, still, Bool.and_eq_true, Bool.not_eq_true', List.contains_eq_mem, decide_eq_false_iff_not, List.mem_append, List.mem_singleton]
  refine ⟨⟨fun h => h.elim healthy other, List.any_eq_false.mpr fun k hk => ?_⟩, rfl⟩
  rw [phys k (List.mem_range.mp hk), beq_iff_eq]
  exact unbound k (List.mem_range.mp hk)

/-- The logical Rod of a failed one took what was found for it. -/
def failGoes (r : Nat) (ran : Bool) (x : Option Nat × State) : State :=
  match x.1 with
  | none =>
    let s := poolsUpdate x.2
    if ran then healthEvent s r 1 0xF3 (s.f F.FRM_RSTAT_POLICY r) (s.rd R.FRM_ECAUSE r) else s
  | some q =>
    let s := poolsUpdate (bindRod x.2 r q)
    let s := s.setRod r { s.rod r with marked := false }
    if ran then programFault s r else s

/-- What follows for the logical Rod of a failed physical Rod. -/
def failOwner (p : Nat) (s : State) : Option Nat → State
  | none => poolsUpdate (healthEvent s p 1 0xF1 p (word (spareRods s).length))
  | some r =>
    let ran := s.rodSt r == rodRunning || s.rodSt r == rodWaiting || s.rodSt r == rodStarting
    let s := if ran then
        let s := (s.wr R.FRM_EPC (s.rd R.FRM_PC r) r).wr R.FRM_EADDR 0 r
        s.wr R.FRM_ECAUSE (word (bit (s.rod r).inHandler * 256 + 0x0E)) r
      else s
    let s := healthEvent (voidReservations s r) r 1 0xF1 p (word ((spareRods s).length - 1))
    failGoes r ran (takeRod s r)

/-- A failed physical Rod whose logical Rod runs. -/
theorem failOwner_running {m : State} {r : Nat} (runs : m.rodSt r = rodRunning) (p : Nat) :
    failOwner p m (some r) = failGoes r true (takeRod (failShown m p r) r) := by
  have ran : (m.rodSt r == rodRunning || m.rodSt r == rodWaiting || m.rodSt r == rodStarting) = true := by rw [runs]; rfl
  unfold failOwner failShown
  dsimp only
  rw [ran]
  simp only [if_true]

/-- A failed physical Rod. -/
theorem execRodFail_eq {p : Fin 18} (on : s.domOn 2 = true) (healthy : p.val ∉ s.sto.umap.rods) (idle : s.migration = none) :
    exec (.rodFail p) s = .next (failOwner p (retired s p) ((List.range 16).find? (fun k => s.physOf k == p.val))) := by
  have front : ¬ (!s.domOn 2 || s.sto.umap.rods.contains p.val) = true := by simp [on, healthy]
  have still : ¬ (s.migration.any fun m => m.phys == p.val || (List.range 16).find? (fun k => s.physOf k == p.val) == some m.rod) = true := by
    rw [idle]; exact Bool.false_ne_true
  have gone : retireRod s p = retired s p := if_neg (by simpa using healthy)
  refine congrArg Host.Outcome.next ((if_neg front).trans ?_)
  dsimp only
  rw [if_neg still, gone]
  generalize retired s p = m
  cases (List.range 16).find? (fun k => s.physOf k == p.val) with
  | none => rfl
  | some r => rfl

theorem rodFail_resets (r : Fin 16) {pr : Program} (powered : s.sys.powered = true) (listed : tabFind s.programs r = some pr)
    (policy : pr.policy = 2) (p : Fin 18) {q : Nat} (on : s.domOn 2 = true) (healthy : p.val ∉ s.sto.umap.rods)
    (idle : s.migration = none) (mine : s.physOf r = p) (others : ∀ k < 16, k ≠ r.val → s.physOf k ≠ p) (free : freeRod s q)
    (runs : s.rodSt r = rodRunning) : runsTo (.rodFail p) s fun t => resetDone s t 5 false r := by
  have owner : (List.range 16).find? (fun k => s.physOf k == p.val) = some r.val := by
    refine List.find?_range_eq_some.mpr ⟨by simpa using mine, List.mem_range.mpr r.isLt, fun k hk => ?_⟩
    simpa using others k (hk.trans r.isLt) hk.ne
  have shown := (retired_amid s p).trans (failShown_amid r.isLt (retired s p) p)
  obtain ⟨np, rest, spares⟩ : ∃ np rest, spareRods (failShown (retired s p) p r) = np :: rest :=
    List.exists_cons_of_ne_nil (List.ne_nil_of_mem (failShown_spare r.isLt free mine idle))
  have run : (retired s p).rodSt r = rodRunning := runs
  refine ⟨_, execRodFail_eq on healthy idle, ?_⟩
  rw [owner, failOwner_running run]
  generalize failShown (retired s p) p r = c at shown spares ⊢
  have took : takeRod c r = (some np, c) := by
    unfold takeRod
    rw [spares]
  rw [took]
  exact programFault_done r.isLt (((shown.trans (bindRod_amid r.isLt _ np)).trans (poolsUpdate_amid _)).trans (setRod_amid _ r _))
    powered listed policy

end Sys2Proof.Machine

/-! VLOG_LOST: the queued records and the record of the loss are written before every domain goes off (R509, R515, R516, R552). -/

namespace Sys2Proof.Machine

open Sys2Proof.Claims

set_option Elab.async false

variable {s t u v : State} {n k : Nat}

/-! ### The log -/

/-- The log takes `k` records: STO_LOGHEAD counts them, and nothing but the log and its queue has changed. -/
structure Logs (k : Nat) (s t : State) : Prop where
  head : t.rd R.STO_LOGHEAD = s.rd R.STO_LOGHEAD + word k
  regs : RegsBut (· = R.STO_LOGHEAD.addr) s t
  side : ({ t.sto with log := [] }, t.sys, t.tbNow, t.elapsed) = ({ s.sto with log := [] }, s.sys, s.tbNow, s.elapsed)

theorem Logs.refl (s : State) : Logs 0 s s := ⟨(BitVec.add_zero _).symm, RegsBut.refl s, rfl⟩

theorem Logs.trans {m : Nat} (h : Logs k s t) (h' : Logs m t u) : Logs (k + m) s u := by
  refine ⟨?_, h.regs.trans h'.regs, h'.side.trans h.side⟩
  rw [h'.head, h.head, BitVec.add_assoc]
  congr 1
  exact (BitVec.ofNat_add k m).symm

theorem word_toNat (w : Word) : word w.toNat = w := (BitVec.ofNat_toNat 32 w).trans (BitVec.setWidth_eq w)

/-- A record becomes the newest, and `rest` waits behind it. -/
def logNewest (s : State) (r : LogRec) (rest : List LogRec) : State :=
  let l := (s.rd R.STO_LOGHEAD + 1).toNat
  let log := tabPut (tabDrop s.sto.log ((l + 2 ^ 32 - 65536) % 2 ^ 32)) l ⟨r, logCrc l r⟩
  { s with logQueue := rest, sto := { s.sto with log := log } }.wr R.STO_LOGHEAD (word l)

/-- The first of the queue becomes the newest record. -/
theorem logWriteOne_logs {r : LogRec} {rest : List LogRec} (queue : s.logQueue = r :: rest) : Logs 1 s (logWriteOne s) ∧
    (logWriteOne s).logQueue = rest ∧ tabFind (logWriteOne s).sto.log (s.rd R.STO_LOGHEAD + 1).toNat =
      some ⟨r, logCrc (s.rd R.STO_LOGHEAD + 1).toNat r⟩ := by
  have written : logWriteOne s = logNewest s r rest := by
    unfold logWriteOne
    rw [queue]
    rfl
  rw [written]
  refine ⟨⟨?_, ?_, rfl⟩, rfl, tabFind_tabPut_same ..⟩
  · exact (State.rd_wr_same ..).trans (word_toNat _)
  · exact ((RegsBut.refl s).of_regs rfl).wr rfl

theorem foldN_logs : ∀ k ≤ s.logQueue.length, Logs k s (foldN k (fun s _ => logWriteOne s) s) ∧
    (foldN k (fun s _ => logWriteOne s) s).logQueue.length = s.logQueue.length - k := by
  intro k
  induction k with
  | zero => exact fun _ => ⟨Logs.refl s, rfl⟩
  | succ k ih =>
    intro le
    obtain ⟨logs, left⟩ := ih (by omega)
    have step : foldN (k + 1) (fun s _ => logWriteOne s) s = logWriteOne (foldN k (fun s _ => logWriteOne s) s) := by
      simp only [foldN, List.range_succ, List.foldl_append, List.foldl_cons, List.foldl_nil]
    rw [step]
    generalize foldN k (fun s _ => logWriteOne s) s = t at *
    obtain ⟨r, rest, queue⟩ : ∃ r rest, t.logQueue = r :: rest :=
      List.exists_cons_of_ne_nil (List.ne_nil_of_length_pos (by omega))
    obtain ⟨one, tail, -⟩ := logWriteOne_logs queue
    refine ⟨logs.trans one, ?_⟩
    rw [tail]
    rw [queue, List.length_cons] at left
    omega

/-- The queue is written, and one record more. -/
def lastLogged (s : State) (r : LogRec) : State := logWriteOne { logFlush s with logQueue := [r] }

theorem lastLogged_logs (s : State) (r : LogRec) : Logs (s.logQueue.length + 1) s (lastLogged s r) ∧
    tabFind (lastLogged s r).sto.log (s.rd R.STO_LOGHEAD + word (s.logQueue.length + 1)).toNat =
      some ⟨r, logCrc (s.rd R.STO_LOGHEAD + word (s.logQueue.length + 1)).toNat r⟩ := by
  obtain ⟨logs, -⟩ := foldN_logs (s := s) s.logQueue.length (Nat.le_refl _)
  have flushed : Logs s.logQueue.length s { logFlush s with logQueue := [r] } := ⟨logs.head, logs.regs.trans ((RegsBut.refl _).of_regs rfl), logs.side⟩
  obtain ⟨one, -, found⟩ := logWriteOne_logs (s := { logFlush s with logQueue := [r] }) rfl
  have all := flushed.trans one
  have last : ({ logFlush s with logQueue := [r] } : State).rd R.STO_LOGHEAD + 1 = s.rd R.STO_LOGHEAD + word (s.logQueue.length + 1) :=
    one.head.symm.trans all.head
  rw [last] at found
  exact ⟨all, found⟩

/-! ### Everything goes off -/

/-- The outputs end, and every domain goes off. -/
def vlogFalls (s : State) : State :=
  let s := fireUpdate (setMode s modeBoot 0)
  let s := if s.domOn 7 then mtrRht (lswRht (solAllOff s) true) true true else s
  [1, 2, 3, 4, 5, 6, 7].foldl pdOff s

theorem vlogFalls_falls (s : State) : Falls (setMode s modeBoot 0) (vlogFalls s) ∧ (vlogFalls s).fb F.SYS_STAT_FIRE = false ∧
    ∀ n, 1 ≤ n → n < 8 → (vlogFalls s).pd n = 0 := by
  obtain ⟨-, -, shut, late⟩ := toBoot_enters s
  have out (u : State) : Late u (if u.domOn 7 then mtrRht (lswRht (solAllOff u) true) true true else u) :=
    (((solAllOff_late u).trans (lswRht_late _ _)).trans (mtrRht_late _ _ _)).ite (Late.refl u)
  have off := foldl_pdOff_falls [1, 2, 3, 4, 5, 6, 7] (if (toBoot s).domOn 7 then mtrRht (lswRht (solAllOff (toBoot s)) true) true true else toBoot s)
  have pds := (foldl_pdOff [1, 2, 3, 4, 5, 6, 7] (by decide)
    (if (toBoot s).domOn 7 then mtrRht (lswRht (solAllOff (toBoot s)) true) true true else toBoot s)).1
  refine ⟨((Falls.of_late late).trans (.of_late (out _))).trans off, off.shut ((out _).shut shut), fun n lo hi => ?_⟩
  refine (pds n hi).trans (if_pos ?_)
  simp only [List.mem_cons, List.not_mem_nil, or_false]
  omega

/-- What stands behind SYS once VLOG is lost. -/
def SysX.vlogGone (x : SysX) : SysX :=
  { x with powered := false, boot := false, resume := false, wdtArmed := false, inReset := false, stopped := [], exiting := false, vlogLow := none }

theorem vlogLost_runs {mv : BitVec 16} {t0 : Nat} (powered : s.sys.powered = true) (low : s.sys.vlogLow = some t0) (long : t0 + 100000 ≤ s.elapsed)
    (quiet : s.sto.commit = none) : exec (.vlogLost mv) s = .next
      { (vlogFalls (lastLogged s ⟨2, s.tbNow, [mv.setWidth 32, s.rd R.STO_LAST]⟩)).setPd 0 0 with
        logQueue := [], sys := (vlogFalls (lastLogged s ⟨2, s.tbNow, [mv.setWidth 32, s.rd R.STO_LAST]⟩)).sys.vlogGone } := by
  have none : (commitAbandon s 3).2 = s := by
    unfold commitAbandon
    rw [quiet]
  show execVlogLost mv s = _
  unfold execVlogLost
  rw [low]
  dsimp only
  rw [if_pos ⟨powered, long⟩, none]
  rfl

theorem loghead_not_out : ¬ outReg R.STO_LOGHEAD.addr := by
  simp [outReg, lateReg, RegDesc.addr, R.STO_LOGHEAD, R.SYS_PDSTAT, R.SYS_PDCTL, R.SYS_STAT, R.SYS_HELD, R.SYS_HELDM, R.STO_LOGLOST, R.STO_STAT]

theorem vlogLost_writes {mv : BitVec 16} {t0 : Nat} (powered : s.sys.powered = true) (low : s.sys.vlogLow = some t0) (long : t0 + 100000 ≤ s.elapsed)
    (quiet : s.sto.commit = none) : runsTo (.vlogLost mv) s fun t =>
      let l := s.rd R.STO_LOGHEAD + word (s.logQueue.length + 1)
      let r : LogRec := ⟨2, s.tbNow, [mv.setWidth 32, s.rd R.STO_LAST]⟩
      t.sys.powered = false ∧ (∀ n, n < 8 → t.pd n = 0) ∧ t.fb F.SYS_STAT_FIRE = false ∧ t.logQueue = [] ∧
        t.rd R.STO_LOGHEAD = l ∧ tabFind t.sto.log l.toNat = some ⟨r, logCrc l.toNat r⟩ ∧
        t.sto.bankA = s.sto.bankA ∧ t.sto.bankB = s.sto.bankB ∧ t.sto.marks = s.sto.marks := by
  refine ⟨_, vlogLost_runs powered low long quiet, ?_⟩
  dsimp only
  obtain ⟨logs, found⟩ := lastLogged_logs s ⟨2, s.tbNow, [mv.setWidth 32, s.rd R.STO_LAST]⟩
  generalize lastLogged s ⟨2, s.tbNow, [mv.setWidth 32, s.rd R.STO_LAST]⟩ = q at logs found ⊢
  obtain ⟨falls, shut, off⟩ := vlogFalls_falls q
  generalize vlogFalls q = t at falls shut off ⊢
  have lasting : t.sto.lasting = q.sto.lasting := falls.sto
  have kept {α : Type} (g : StoX → α) (hg : ∀ x : StoX, g x.lasting = g x) : g t.sto = g q.sto :=
    (hg t.sto).symm.trans ((congrArg g lasting).trans (hg q.sto))
  have side : ({ q.sto with log := [] } : StoX) = { s.sto with log := [] } := congrArg Prod.fst logs.side
  have old {α : Type} (g : StoX → α) (hg : ∀ x : StoX, g { x with log := [] } = g x) : g q.sto = g s.sto :=
    (hg q.sto).symm.trans ((congrArg g side).trans (hg s.sto))
  have head : (t.setPd 0 0).rd R.STO_LOGHEAD = s.rd R.STO_LOGHEAD + word (s.logQueue.length + 1) := by
    refine (State.rd_wr_ne t (by decide)).trans ((falls.rd loghead_not_out).trans ?_)
    exact ((State.rd_wr_ne _ (by decide)).trans (State.rd_wr_ne q (by decide))).trans logs.head
  refine ⟨rfl, fun n hn => ?_, ?_, rfl, head, (congrArg (tabFind · _) (kept StoX.log fun _ => rfl)).trans found,
    (kept StoX.bankA fun _ => rfl).trans (old StoX.bankA fun _ => rfl), (kept StoX.bankB fun _ => rfl).trans (old StoX.bankB fun _ => rfl),
    (kept StoX.marks fun _ => rfl).trans (old StoX.marks fun _ => rfl)⟩
  · refine (setPd_pd t (by decide) hn (by decide)).trans ?_
    split
    · rfl
    · exact off n (by omega) hn
  · have stat : (t.setPd 0 0).rd R.SYS_STAT = t.rd R.SYS_STAT := State.rd_wr_ne t (by decide)
    have flag : (t.setPd 0 0).fb F.SYS_STAT_FIRE = t.fb F.SYS_STAT_FIRE := by simp only [State.fb, State.f, F.SYS_STAT_FIRE, stat]
    exact flag.trans shut

end Sys2Proof.Machine

/-! POWER_ON: the machine as VLOG comes back, and boot from its first step (R514, R542, R545). -/

namespace Sys2Proof.Machine

open Sys2Proof.Claims

set_option Elab.async false

variable {s t u v : State} {n k : Nat}

/-- What the store keeps without VLOG. -/
structure Kept (x y : StoX) : Prop where
  banks : (y.bankA, y.bankB, y.keyA, y.keyB) = (x.bankA, x.bankB, x.keyA, x.keyB)
  log : y.log = x.log
  marks : y.marks = x.marks
  map : y.umap = if x.mapClr then {} else x.mapRecs.now UnitMap.bytes {}

theorem setDirty_keeps {x y : StoX} (h : Kept x y) (b : Bool) (d : Dirty) : Kept x (y.setDirty b d) := by
  obtain ⟨banks, log, marks, map⟩ := h
  cases b <;> exact ⟨banks, log, marks, map⟩

/-- The machine once VLOG is back, before boot. -/
structure Powered (s q : State) : Prop where
  regs : RegsBut (· = R.STO_LOGHEAD.addr) State.reset q
  beads : q.beads = ([], [], [], [])
  times : (q.tbNow, q.elapsed, q.pending) = (0, s.elapsed, s.pending)
  sys : (q.sys.powered, q.sys.stopAAt, q.sys.stopBAt) = (true, s.elapsed, s.elapsed)
  sto : Kept s.sto q.sto

theorem powerOnState_powered (s : State) : Powered s (powerOnState s) where
  regs := (RegsBut.wr (p := (· = R.STO_LOGHEAD.addr)) (RegsBut.refl State.reset) (d := R.STO_LOGHEAD) (v := word (logHead s.sto.log))
    (i := 0) (j := 0) rfl).of_regs rfl
  beads := rfl
  times := rfl
  sys := rfl
  sto := by
    unfold powerOnState stoReload
    dsimp only [loadAbort, State.setSto, State.wr]
    rw [if_pos rfl]
    refine setDirty_keeps (x := s.sto) ?_ _ _
    exact ⟨rfl, rfl, rfl, rfl⟩

theorem reset_pd : State.reset.pd 0 = 2 ∧ ∀ k < 8, k ≠ 0 → State.reset.pd k = 0 := by
  refine ⟨rfl, fun k hk ne => ?_⟩
  have cases : k = 1 ∨ k = 2 ∨ k = 3 ∨ k = 4 ∨ k = 5 ∨ k = 6 ∨ k = 7 := by omega
  rcases cases with rfl | rfl | rfl | rfl | rfl | rfl | rfl <;> rfl

theorem powerOn_boots (off : s.sys.powered = false) : runsTo .powerOn s fun t =>
    t.sys.powered = true ∧ t.sys.boot = true ∧ t.mode = 0 ∧ t.f F.SYS_RCAUSE_KIND = 1 ∧ t.f F.SYS_RCAUSE_COUNT = 0 ∧
      t.pd 0 = 2 ∧ t.pd 2 = 1 ∧ (∀ n ∈ [1, 3, 4, 5, 6, 7], t.pd n = 0) ∧ t.fb F.SYS_STAT_SS = true ∧
      t.fb F.SYS_STAT_SS_DISC = false ∧ t.sys.stopAAt = s.elapsed ∧ t.sys.stopBAt = s.elapsed ∧ t.tbNow = 0 ∧
      t.frame = [] ∧ t.rods = [] ∧ t.rings = [] ∧ t.pending = s.pending ∧ t.sto.bankA = s.sto.bankA ∧ t.sto.bankB = s.sto.bankB ∧
      t.sto.keyA = s.sto.keyA ∧ t.sto.keyB = s.sto.keyB ∧ t.sto.log = s.sto.log ∧ t.sto.marks = s.sto.marks ∧
      (s.sto.mapClr = true → t.sto.umap = {}) ∧ (s.sto.mapClr = false → t.sto.umap = s.sto.mapRecs.now UnitMap.bytes {}) := by
  have runs : exec .powerOn s = .next (bootStart (powerOnState s)) := congrArg Host.Outcome.next (if_neg (by rw [off]; decide))
  refine ⟨_, runs, ?_⟩
  have fresh := powerOnState_powered s
  generalize powerOnState s = q at fresh ⊢
  have booted := bootStart_booted q
  generalize bootStart q = t at booted ⊢
  obtain ⟨regs, beads, times, sys, ⟨banks, log, marks, map⟩⟩ := fresh
  have pdq (k : Nat) : q.pd k = State.reset.pd k := pd_of_rd (regs.rd (by decide)) k
  have two : q.pd 2 = 0 := (pdq 2).trans (reset_pd.2 2 (by decide) (by decide))
  have low {d : RegDesc} (h : d.addr < 0x10010000) (set : ¬ setReg d.addr) (pd : d.addr ≠ R.SYS_PDSTAT.addr) :
      t.rd d = State.reset.rd d :=
    (booted.regs.rd (boot_low h set pd)).trans (regs.rd (by simp only [R.STO_LOGHEAD, RegDesc.addr] at h ⊢; omega))
  have cause : t.rd R.SYS_RCAUSE = State.reset.rd R.SYS_RCAUSE :=
    low (by decide) (by simp [setReg, RegDesc.addr, R.SYS_RCAUSE]) (by decide)
  have mode : t.rd R.SYS_MODE = State.reset.rd R.SYS_MODE := low (by decide) (by simp [setReg, RegDesc.addr, R.SYS_MODE]) (by decide)
  have stat : t.rd R.SYS_STAT = State.reset.rd R.SYS_STAT := low (by decide) (by simp [setReg, RegDesc.addr, R.SYS_STAT]) (by decide)
  have field {fl : Fld} {d : RegDesc} (reg : fl.reg = d) (same : t.rd d = State.reset.rd d) : t.f fl = State.reset.f fl := by
    simp only [State.f, reg, same]
  have flag {fl : Fld} {d : RegDesc} (reg : fl.reg = d) (same : t.rd d = State.reset.rd d) : t.fb fl = State.reset.fb fl := by
    simp only [State.fb, field reg same]
  have held := (booted.beads two).trans beads
  simp only [State.beads, Prod.mk.injEq] at held
  have time := booted.times.trans times
  simp only [Prod.mk.injEq] at time sys banks
  have sysx {α : Type} (g : SysX → α) (hg : ∀ x : SysX, g { x with ramps := [] } = g x) :
      g t.sys = g { q.sys with boot := true, toCommission := toCommissionOf q, ramps := [] } :=
    (hg t.sys).symm.trans (congrArg g booted.sys)
  have sto {α : Type} (g : StoX → α) (hg : ∀ x : StoX, g { x with exhausted := [] } = g x) : g t.sto = g q.sto :=
    (hg t.sto).symm.trans ((congrArg g booted.sto).trans (hg q.sto))
  have dom (k : Nat) (hk : k < 8) (ne : k ≠ 2) : t.pd k = State.reset.pd k :=
    (booted.pds k hk).trans ((if_neg fun e => ne e.1).trans (pdq k))
  refine ⟨(sysx SysX.powered fun _ => rfl).trans sys.1, sysx SysX.boot fun _ => rfl, (field rfl mode).trans rfl, (field rfl cause).trans rfl,
    (field rfl cause).trans rfl, (dom 0 (by decide) (by decide)).trans reset_pd.1, (booted.pds 2 (by decide)).trans (if_pos ⟨rfl, two⟩), ?_,
    (flag rfl stat).trans rfl, (flag rfl stat).trans rfl, (sysx SysX.stopAAt fun _ => rfl).trans sys.2.1,
    (sysx SysX.stopBAt fun _ => rfl).trans sys.2.2, time.1, held.1, held.2.1, held.2.2.1, time.2.2,
    (sto StoX.bankA fun _ => rfl).trans banks.1, (sto StoX.bankB fun _ => rfl).trans banks.2.1, (sto StoX.keyA fun _ => rfl).trans banks.2.2.1,
    (sto StoX.keyB fun _ => rfl).trans banks.2.2.2, (sto StoX.log fun _ => rfl).trans log, (sto StoX.marks fun _ => rfl).trans marks,
    fun clear => ((sto StoX.umap fun _ => rfl).trans map).trans (if_pos clear),
    fun whole => ((sto StoX.umap fun _ => rfl).trans map).trans (if_neg (by rw [whole]; decide))⟩
  intro k hk
  simp only [List.mem_cons, List.not_mem_nil, or_false] at hk
  exact (dom k (by omega) (by omega)).trans (reset_pd.2 k (by omega) (by omega))

end Sys2Proof.Machine

/-! BOOT_COMPLETE in Commission: the Rods are bound, and the boot bank is reported (R533, R545). -/

namespace Sys2Proof.Machine

open Sys2Proof.Claims

set_option Elab.async false

variable {s t u v : State} {n k : Nat}

/-! ### The Rods are bound -/

theorem shedVictim_lt {r : Nat} (h : shedVictim s = some r) : r < 16 := by
  have inv (l : List Nat) (hl : ∀ q ∈ l, q < 16) (f : Option Nat → Nat → Option Nat) (hf : ∀ b q, f b q = b ∨ f b q = some q) :
      ∀ b : Option Nat, (∀ q, b = some q → q < 16) → ∀ q, l.foldl f b = some q → q < 16 := by
    induction l with
    | nil => exact fun b hb => hb
    | cons a l ih =>
      intro b hb
      refine ih (fun q hq => hl q (List.mem_cons_of_mem a hq)) (f b a) fun q hq => ?_
      rcases hf b a with e | e
      · exact hb q (e ▸ hq)
      · exact Option.some.inj (e.symm.trans hq) ▸ hl a List.mem_cons_self
  refine inv _ (fun q hq => List.mem_range.mp (List.mem_of_mem_filter hq)) _ (fun b q => ?_) none (fun q hq => absurd hq (by simp)) r h
  cases b with
  | none => exact .inr rfl
  | some b =>
    dsimp only
    split
    · exact .inr rfl
    · exact .inl rfl

theorem stopClear_amid {r : Nat} (hr : r < 16) (s : State) : Amid s (stopClear s r) := by
  unfold stopClear
  dsimp only
  split
  · exact setRod_amid s r _
  · exact (setRod_amid s r _).rodField hr

theorem setRodSt_amid {r : Nat} (hr : r < 16) (s : State) (st : Nat) : Amid s (s.setRodSt r st) := (setRod_amid s r _).rodField hr

theorem shedRod_amid {r : Nat} (hr : r < 16) (s : State) : Amid s (shedRod s r) := by
  have moved : Amid s (if s.migration.any (fun m => m.rod == r) then { s with migration := none, migEnd := some s.elapsed } else s) := by
    have ended : Amid s { s with migration := none, migEnd := some s.elapsed } := (Amid.refl s).beside rfl rfl
    exact ended.ite (Amid.refl s)
  have shown (u : State) : Amid u (u.setMask R.HLT_SHED r true) := hltReg_amid (Amid.refl u) (i := 0) (by decide)
  exact ((((((moved.trans (voidReservations_amid _ r)).trans (setRod_amid _ r _)).trans (stopClear_amid hr _)).trans
    (setRodSt_amid hr _ rodShed)).trans (bindRod_amid hr _ 0xFF)).trans (shown _)).trans (healthEvent_amid _ _ _ _ _ _)

theorem bindRods_amid (s : State) : Amid s (bindRods s) := by
  have blank (u : State) : Amid u (foldN 4 (fun s m => s.wr R.HLT_RODMAP 0xFFFFFFFF m) u) :=
    Amid.foldN (fun t m hm => hltReg_amid (Amid.refl t) hm) u
  have shed (v : Word) : Amid s (s.wr R.HLT_SHED v) := hltReg_amid (Amid.refl s) (i := 0) (by decide)
  have victims (m : Nat) (u : State) : Amid u (foldN m (fun s _ => match shedVictim s with
      | some v => shedRod s v
      | none => s) u) := by
    refine Amid.foldN (fun t _ _ => ?_) u
    split
    · next v e => exact shedRod_amid (shedVictim_lt e) t
    · exact Amid.refl t
  have bound (l : List (Nat × Nat)) (hl : ∀ b ∈ l, b.1 < 16) (u : State) : Amid u (l.foldl (fun s b => bindRod s b.1 b.2) u) :=
    Amid.foldl l (fun t b hb => bindRod_amid (hl b hb) t b.2) u
  unfold bindRods
  extract_lets good sh s1 whole s2 live
  have first : Amid s s1 := (shed _).trans (blank _)
  have second : Amid s1 s2 := victims _ s1
  refine ((first.trans second).trans (bound _ (fun b hb => ?_) s2)).trans (poolsUpdate_amid _)
  exact List.mem_range.mp (List.mem_of_mem_filter (List.of_mem_zip hb).1)

theorem bootBankEvent_amid (s : State) (refused resume : Bool) : Amid s (bootBankEvent s refused resume) := healthEvent_amid _ _ _ _ _ _

theorem Amid.entered {m : Nat} (h : Amid s t) (entered : modeEntered s m) : modeEntered t m := by
  have low {d : RegDesc} (hd : d.addr < 0x10010000) : t.rd d = s.rd d := h.regs.rd fun a => by simp only [midReg] at a; omega
  obtain ⟨mode, word, ctl, shut⟩ := entered
  have stat : t.rd R.SYS_STAT = s.rd R.SYS_STAT := low (by decide)
  refine ⟨(modeFields_of_rd (low (by decide))).1.trans mode, (low (by decide)).trans word, (low (by decide)).trans ctl, ?_⟩
  have flag : t.fb F.SYS_STAT_FIRE = s.fb F.SYS_STAT_FIRE := by simp only [State.fb, State.f, F.SYS_STAT_FIRE, stat]
  exact flag.trans shut

/-! ### Commission -/

theorem bootComplete_front (boot : s.sys.boot = true) (on : ∀ n, 1 ≤ n → n < 8 → s.domOn n = true) :
    s.sys.boot = true ∧ [1, 2, 3, 4, 5, 6, 7].all (fun n => s.domOn n) = true := by
  refine ⟨boot, List.all_eq_true.mpr fun n hn => on n ?_ ?_⟩ <;>
    · simp only [List.mem_cons, List.not_mem_nil, or_false] at hn; omega

/-- Boot is over. -/
def bootOver (s : State) : State := s.setSys { s.sys with boot := false }

/-- Boot has come to Commission: the boot bank is reported. -/
def commissioned (s : State) : State := bootBankEvent (s.setSys { s.sys with written := false }) false false

theorem commissioned_shows (s : State) : Amid (s.setSys { s.sys with written := false }) (commissioned s) := bootBankEvent_amid _ _ _

/-- Boot has come to its end: the newest image is put into force, the Rods are bound and its programs start. -/
def bootUp (s : State) : State :=
  startPrograms (bootBankEvent (bindRods (bootImage s).2) (bootImage s).1 false)

/-- The end of boot. -/
def bootEnds (s : State) : State :=
  if s.sys.toCommission then commissioned (bindRods (modeTo s modeCommission 0)) else enterReady (bootUp s)

theorem bootComplete_eq (boot : s.sys.boot = true) (on : ∀ n, 1 ≤ n → n < 8 → s.domOn n = true) :
    exec .bootComplete s = .next (bootEnds (bootOver s)) := by
  show execBootComplete s = _
  unfold execBootComplete bootEnds commissioned bootUp bootOver
  rw [if_pos (bootComplete_front boot on)]

theorem bootComplete_commission (boot : s.sys.boot = true) (on : ∀ n, 1 ≤ n → n < 8 → s.domOn n = true)
    (commission : s.sys.toCommission = true) : runsTo .bootComplete s fun t =>
      modeEntered t 1 ∧ t.sys.boot = false ∧ t.sys.written = false ∧ t.programs = s.programs := by
  refine ⟨_, bootComplete_eq boot on, ?_⟩
  rw [bootEnds, if_pos (show (bootOver s).sys.toCommission = true from commission)]
  obtain ⟨entered, -, side, -⟩ := modeTo_enters (bootOver s) (m := modeCommission) (by decide)
  obtain ⟨booted, -, -, -, -, -, programs, -, -⟩ := flags_of_side side
  have binds := bindRods_amid (modeTo (bootOver s) modeCommission 0)
  generalize bindRods (modeTo (bootOver s) modeCommission 0) = b at binds ⊢
  have told := commissioned_shows b
  generalize commissioned b = t at told ⊢
  have shut : modeEntered (b.setSys { b.sys with written := false }) 1 := binds.entered entered
  exact ⟨told.entered shut, (congrArg SysX.boot told.sys).trans ((congrArg SysX.boot binds.sys : b.sys.boot = _).trans booted), congrArg SysX.written told.sys,
    told.programs.trans (binds.programs.trans programs)⟩

end Sys2Proof.Machine

/-! What an image puts into force at boot: its programs and its ring table (R58, R81, R83). -/

namespace Sys2Proof.Machine

open Sys2Proof.Claims

set_option Elab.async false

variable {s t u v : State} {m : List Host.Cell} {n k : Nat}

/-! ### One ring of the table -/

/-- The registers of ring `n`. -/
def ringArea (n a : Nat) : Prop := 0x11010000 + 0x40 * n ≤ a ∧ a < 0x11010040 + 0x40 * n

/-- Its registers but CRG_BASE. -/
def ringRest (n a : Nat) : Prop := ringArea n a ∧ a ≠ R.CRG_BASE.addr n

/-- What stands behind SYS, the programs and the time. -/
def State.upSide (s : State) : SysX × Tab Program × Nat := (s.sys, s.programs, s.elapsed)

theorem ringRest_of {d : RegDesc} (lo : 0x11010000 ≤ d.base := by decide) (hi : d.base < 0x11010040 := by decide)
    (ne : d.base ≠ R.CRG_BASE.base := by decide) (h1 : d.s1 = 0x40 := by rfl) (h2 : d.s2 = 0 := by rfl) : ringRest n (d.addr n) := by
  simp only [R.CRG_BASE] at ne
  simp only [ringRest, ringArea, RegDesc.addr, h1, h2, R.CRG_BASE]
  omega

/-- The books of a ring at zero. -/
def booksCleared (s : State) (n : Nat) : State :=
  let s := (((s.wr R.CRG_HEAD 0 n).wr R.CRG_TAIL 0 n).wr R.CRG_COUNT 0 n).wr R.CRG_RESERVED 0 n
  (((s.wr R.CRG_PRODUCED 0 n).wr R.CRG_CONSUMED 0 n).wr R.CRG_LOST 0 n).wr R.CRG_VOID 0 n

/-- A register of ring `n` other than CRG_BASE is written. -/
theorem ringRest_wr (h : t.upSide = s.upSide ∧ RegsBut (ringRest n) s t) (d : RegDesc) (v : Word) (lo : 0x11010000 ≤ d.base := by decide)
    (hi : d.base < 0x11010040 := by decide) (ne : d.base ≠ R.CRG_BASE.base := by decide) (h1 : d.s1 = 0x40 := by rfl)
    (h2 : d.s2 = 0 := by rfl) : (t.wr d v n).upSide = s.upSide ∧ RegsBut (ringRest n) s (t.wr d v n) :=
  ⟨h.1, h.2.wr (ringRest_of lo hi ne h1 h2)⟩

theorem booksCleared_regs (s : State) (n : Nat) : (booksCleared s n).upSide = s.upSide ∧ RegsBut (ringRest n) s (booksCleared s n) := by
  have start : s.upSide = s.upSide ∧ RegsBut (ringRest n) s s := ⟨rfl, RegsBut.refl s⟩
  have first := ringRest_wr (ringRest_wr (ringRest_wr (ringRest_wr start R.CRG_HEAD 0) R.CRG_TAIL 0) R.CRG_COUNT 0)
    R.CRG_RESERVED 0
  exact ringRest_wr (ringRest_wr (ringRest_wr (ringRest_wr first R.CRG_PRODUCED 0) R.CRG_CONSUMED 0) R.CRG_LOST 0) R.CRG_VOID 0

/-- No receive bead of a ring is owed any more. -/
def owedCleared (s : State) (n : Nat) : State := { s with net := { s.net with txOwed := tabDrop s.net.txOwed n } }

/-- A ring with its books at zero is enabled. -/
def ringOpened (s : State) (n : Nat) : State := ((s.wr R.CRG_TALLY (word (s.ringSize n)) n).setF F.CRG_CFG_EN 1 n).setRing n {}

theorem ringOpened_opens (s : State) (n : Nat) : (ringOpened s n).upSide = s.upSide ∧ RegsBut (ringRest n) s (ringOpened s n) ∧
    (ringOpened s n).fb F.CRG_CFG_EN n = true :=
  ⟨rfl, (((RegsBut.refl s).wr (ringRest_of (d := R.CRG_TALLY))).setF (fl := F.CRG_CFG_EN) (ringRest_of (d := R.CRG_CFG))).of_regs rfl,
    State.fb_setF_same (s.wr R.CRG_TALLY (word (s.ringSize n)) n) F.CRG_CFG_EN 1 n 0 (by decide) (by decide)⟩

theorem ringEnable_enables (s : State) (n : Nat) : (ringEnable s n).upSide = s.upSide ∧ RegsBut (ringRest n) s (ringEnable s n) ∧
    (ringEnable s n).fb F.CRG_CFG_EN n = true := by
  have shape : ringEnable s n = ringOpened (owedCleared (booksCleared s n) n) n := rfl
  have owed (u : State) : (owedCleared u n).upSide = u.upSide ∧ RegsBut (ringRest n) u (owedCleared u n) :=
    ⟨rfl, (RegsBut.refl u).of_regs rfl⟩
  obtain ⟨side, regs⟩ := booksCleared_regs s n
  obtain ⟨side', regs'⟩ := owed (booksCleared s n)
  obtain ⟨side'', regs'', on⟩ := ringOpened_opens (owedCleared (booksCleared s n) n) n
  rw [shape]
  exact ⟨side''.trans (side'.trans side), (regs.trans regs').trans regs'', on⟩

/-- Ring `n` stands in `t` as the table has it. -/
def ringStands (m : List Host.Cell) (n : Nat) (t : State) : Prop :=
  t.rd R.CRG_BASE n = word (imageRing m n).1 ∧ ((imageRing m n).2 % 2 = 1 → t.fb F.CRG_CFG_EN n = true)

theorem ringStands_of_regs {p : Nat → Prop} (h : ringStands m n s) (regs : RegsBut p s t) (cfg : ¬ p (R.CRG_CFG.addr n))
    (base : ¬ p (R.CRG_BASE.addr n)) : ringStands m n t :=
  ⟨(regs.rd base).trans h.1, fun on => (regs.fb (fl := F.CRG_CFG_EN) cfg).trans (h.2 on)⟩

theorem ringFromImage_stands (s : State) (m : List Host.Cell) (n : Nat) : (ringFromImage s m n).upSide = s.upSide ∧
    RegsBut (ringArea n) s (ringFromImage s m n) ∧ ringStands m n (ringFromImage s m n) := by
  let placed := (s.wr R.CRG_BASE (word (imageRing m n).1) n).setF F.CRG_CFG_SIZE ((imageRing m n).2 / 2 % 16) n
  have area : RegsBut (ringArea n) s placed := by
    refine ((RegsBut.refl s).wr ?_).setF (fl := F.CRG_CFG_SIZE) (ringRest_of (d := R.CRG_CFG)).1
    simp only [ringArea, RegDesc.addr, R.CRG_BASE]; omega
  have base : placed.rd R.CRG_BASE n = word (imageRing m n).1 := by
    refine (State.rd_wr_ne _ ?_).trans (State.rd_wr_same ..)
    simp only [RegDesc.addr, R.CRG_BASE, F.CRG_CFG_SIZE, R.CRG_CFG]; omega
  have shape : ringFromImage s m n = if (imageRing m n).2 % 2 = 1 then ringEnable placed n
      else placed.wr R.CRG_TALLY (word (placed.ringSize n)) n := rfl
  rw [shape]
  split
  · obtain ⟨side, regs, on⟩ := ringEnable_enables placed n
    exact ⟨side, area.trans (regs.mono fun _ h => h.1), (regs.rd fun h => h.2 rfl).trans base, fun _ => on⟩
  · next off =>
    have rest : RegsBut (ringRest n) placed (placed.wr R.CRG_TALLY (word (placed.ringSize n)) n) :=
      (RegsBut.refl placed).wr (ringRest_of (d := R.CRG_TALLY))
    exact ⟨rfl, area.trans (rest.mono fun _ h => h.1), (rest.rd fun h => h.2 rfl).trans base, fun on => absurd on off⟩

/-- The registers of the rings and of the Rods. -/
def crowdReg (a : Nat) : Prop := 0x11001000 ≤ a ∧ a < 0x11010800

theorem ringsFromImage_stand (s : State) (m : List Host.Cell) : (ringsFromImage s m).upSide = s.upSide ∧
    RegsBut crowdReg s (ringsFromImage s m) ∧ ∀ n < 32, ringStands m n (ringsFromImage s m) := by
  have all : ∀ k ≤ 32, (foldN k (fun s n => ringFromImage s m n) s).upSide = s.upSide ∧
      RegsBut crowdReg s (foldN k (fun s n => ringFromImage s m n) s) ∧
      ∀ n < k, ringStands m n (foldN k (fun s n => ringFromImage s m n) s) := by
    intro k
    induction k with
    | zero => exact fun _ => ⟨rfl, RegsBut.refl s, fun n hn => absurd hn (Nat.not_lt_zero n)⟩
    | succ k ih =>
      intro le
      obtain ⟨side, regs, stand⟩ := ih (by omega)
      have step : foldN (k + 1) (fun s n => ringFromImage s m n) s =
          ringFromImage (foldN k (fun s n => ringFromImage s m n) s) m k := by
        simp only [foldN, List.range_succ, List.foldl_append, List.foldl_cons, List.foldl_nil]
      rw [step]
      generalize foldN k (fun s n => ringFromImage s m n) s = t at *
      obtain ⟨side', regs', stands⟩ := ringFromImage_stands t m k
      refine ⟨side'.trans side, regs.trans (regs'.mono fun a h => ?_), fun n hn => ?_⟩
      · simp only [ringArea] at h; simp only [crowdReg]; omega
      · by_cases e : n = k
        · rw [e]; exact stands
        · refine ringStands_of_regs (stand n (by omega)) regs' ?_ ?_ <;>
            simp only [ringArea, RegDesc.addr, R.CRG_CFG, R.CRG_BASE] <;> omega
  exact all 32 (Nat.le_refl _)

/-! ### The image -/

theorem imageLoad_loads (s : State) (m : List Host.Cell) : (imageLoad s m).sys = s.sys ∧ (imageLoad s m).elapsed = s.elapsed ∧
    (imageLoad s m).programs = (imagePrograms m).foldl (fun t p => tabPut t p.1 p.2) [] ∧ RegsBut crowdReg s (imageLoad s m) := by
  have field (u : State) (fl : Fld) (v : Nat) {r : Nat} (hr : r < 16) (reg : fl.reg = R.FRM_RSTAT) : RegsBut crowdReg u (u.setF fl v r) := by
    refine (RegsBut.refl u).setF ?_
    rw [reg]
    simp only [crowdReg, RegDesc.addr, R.FRM_RSTAT]; omega
  have two (u : State) (p q : Nat) {r : Nat} (hr : r < 16) :
      ((u.setF F.FRM_RSTAT_PRIO p r).setF F.FRM_RSTAT_POLICY q r).upSide = u.upSide ∧
      RegsBut crowdReg u ((u.setF F.FRM_RSTAT_PRIO p r).setF F.FRM_RSTAT_POLICY q r) :=
    ⟨rfl, (field u F.FRM_RSTAT_PRIO p hr rfl).trans (field _ F.FRM_RSTAT_POLICY q hr rfl)⟩
  have shown (progs : Tab Program) (u : State) : (foldN 16 (fun s r => match tabFind progs r with
      | some p => (s.setF F.FRM_RSTAT_PRIO p.priority r).setF F.FRM_RSTAT_POLICY p.policy r
      | none => (s.setF F.FRM_RSTAT_PRIO 0 r).setF F.FRM_RSTAT_POLICY 0 r) u).upSide = u.upSide ∧
      RegsBut crowdReg u (foldN 16 (fun s r => match tabFind progs r with
      | some p => (s.setF F.FRM_RSTAT_PRIO p.priority r).setF F.FRM_RSTAT_POLICY p.policy r
      | none => (s.setF F.FRM_RSTAT_PRIO 0 r).setF F.FRM_RSTAT_POLICY 0 r) u) := by
    refine foldN_keeps (P := fun t : State => t.upSide = u.upSide ∧ RegsBut crowdReg u t) 16 (fun t r hr h => ?_) u ⟨rfl, RegsBut.refl u⟩
    split
    · exact ⟨(two t _ _ hr).1.trans h.1, h.2.trans (two t _ _ hr).2⟩
    · exact ⟨(two t _ _ hr).1.trans h.1, h.2.trans (two t _ _ hr).2⟩
  unfold imageLoad
  extract_lets co cs cb toff ts progs tpl s1
  obtain ⟨side, regs⟩ := shown progs s1
  exact ⟨(congrArg (·.1) side :), (congrArg (·.2.2) side :), (congrArg (·.2.1) side :), RegsBut.trans ((RegsBut.refl s).of_regs rfl) regs⟩

/-- What a boot's image puts into force. -/
structure Imaged (s t : State) : Prop where
  sys : t.sys = s.sys
  elapsed : t.elapsed = s.elapsed
  regs : RegsBut crowdReg s t

theorem bootImage_takes {b : Bank} (bank : newestBank s.sto = some b) (ok : imageOk (b.cells.filter fun c => decide (c.1 < 0x400000)) none = true) :
    Imaged s (bootImage s).2 ∧ (bootImage s).2.programs =
      (imagePrograms (b.cells.filter fun c => decide (c.1 < 0x400000))).foldl (fun t p => tabPut t p.1 p.2) [] ∧
      ∀ n < 32, ringStands (b.cells.filter fun c => decide (c.1 < 0x400000)) n (bootImage s).2 := by
  have shape : (bootImage s).2 = ringsFromImage (imageLoad s (b.cells.filter fun c => decide (c.1 < 0x400000)))
      (b.cells.filter fun c => decide (c.1 < 0x400000)) := by
    unfold bootImage
    rw [bank]
    dsimp only
    rw [if_pos ok]
  rw [shape]
  generalize b.cells.filter (fun c => decide (c.1 < 0x400000)) = m
  obtain ⟨sys, elapsed, programs, regs⟩ := imageLoad_loads s m
  obtain ⟨side, regs', stand⟩ := ringsFromImage_stand (imageLoad s m) m
  exact ⟨⟨(congrArg (·.1) side : _).trans sys, (congrArg (·.2.2) side : _).trans elapsed, regs.trans regs'⟩,
    (congrArg (·.2.1) side : _).trans programs, stand⟩

theorem bootImage_refuses (h : ∀ b, newestBank s.sto = some b → imageOk (b.cells.filter fun c => decide (c.1 < 0x400000)) none = false) :
    Imaged s (bootImage s).2 ∧ (bootImage s).2.programs = [] := by
  have shape : (bootImage s).2 = { s with programs := [], template := [] } := by
    unfold bootImage
    cases bank : newestBank s.sto with
    | none => rfl
    | some b =>
      dsimp only
      rw [if_neg (by rw [h b bank]; exact Bool.false_ne_true)]
  rw [shape]
  exact ⟨⟨rfl, rfl, (RegsBut.refl s).of_regs rfl⟩, rfl⟩

/-! ### What R83 says of the table -/

/-- An image that passes names Rods below 16, and places its rings in Frame SRAM at multiples of 256. -/
theorem imageOk_bounds (ok : imageOk m none = true) : (∀ p ∈ imagePrograms m, p.1 < 16) ∧
    ∀ n < 32, (imageRing m n).1 % 256 = 0 ∧ (imageRing m n).1 < 2 ^ 32 := by
  unfold imageOk at ok
  simp only [Bool.and_eq_true] at ok
  obtain ⟨⟨⟨⟨⟨⟨⟨-, entries⟩, -⟩, -⟩, rings⟩, -⟩, -⟩, -⟩ := ok
  refine ⟨fun p hp => ?_, fun n hn => ?_⟩
  · obtain ⟨i, hi, rfl⟩ := List.mem_map.mp hp
    have entry := List.all_eq_true.mp entries i hi
    simp only [imageEntryOk, Bool.and_eq_true, decide_eq_true_eq] at entry
    omega
  · have ring := List.all_eq_true.mp rings n (List.mem_range.mpr hn)
    unfold imageRingOk at ring
    simp only [Bool.and_eq_true, decide_eq_true_eq, beq_iff_eq] at ring
    obtain ⟨⟨⟨-, aligned⟩, inside⟩, -⟩ := ring
    have low : (imageRing m n).1 ≤ 0x800000 := (Nat.le_add_right _ _).trans inside
    omega

theorem tabFind_foldl_none (l : List (Nat × Program)) {r : Nat} (h : ∀ p ∈ l, p.1 ≠ r) : ∀ t : Tab Program, tabFind t r = none →
    tabFind (l.foldl (fun t p => tabPut t p.1 p.2) t) r = none := by
  induction l with
  | nil => exact fun _ ht => ht
  | cons p l ih =>
    exact fun t ht => ih (fun q hq => h q (List.mem_cons_of_mem p hq)) _ ((tabFind_tabPut_ne (h p List.mem_cons_self)).trans ht)

theorem imagePrograms_low (ok : imageOk m none = true) {r : Nat} (hr : 16 ≤ r) :
    tabFind ((imagePrograms m).foldl (fun t p => tabPut t p.1 p.2) ([] : Tab Program)) r = none :=
  tabFind_foldl_none _ (fun p hp => by have low := (imageOk_bounds ok).1 p hp; omega) [] rfl

end Sys2Proof.Machine

/-! Ready, or Hold under a critical fault, at the end of boot: what is in force stays (R84, R535, R536, R545). -/

namespace Sys2Proof.Machine

open Sys2Proof.Claims

set_option Elab.async false

variable {s t u v : State} {m : List Host.Cell} {n k : Nat}

/-! ### The programs start -/

theorem startProgram_amid {r : Nat} (hr : r < 16) (s : State) : Amid s (startProgram s r) := by
  have cleared (u : State) (e : Tab BeadErr) : Amid u { u with beadErr := e } := (Amid.refl u).beside rfl rfl
  have belled (u : State) (x : Nat) : Amid u (u.setF F.FRM_DOORBELL_V x r) := (Amid.refl u).rodField hr
  have flags (u : State) : Amid u ((u.setF F.FRM_RSTAT_SAT 0 r).setF F.FRM_RSTAT_OVF 0 r) := ((Amid.refl u).rodField hr).rodField hr
  unfold startProgram
  split
  · exact Amid.refl s
  · exact ((((setRod_amid s r _).trans (cleared _ _)).trans (belled _ _)).trans (flags _)).trans (setRodSt_amid hr _ rodStarting)

theorem startPrograms_amid (s : State) : Amid s (startPrograms s) :=
  Amid.foldN (fun t _ hr => (startProgram_amid hr t).ite (Amid.refl t)) s

theorem bootUp_amid (s : State) : Amid (bootImage s).2 (bootUp s) :=
  ((bindRods_amid _).trans (bootBankEvent_amid _ _ _)).trans (startPrograms_amid _)

theorem Amid.stands (h : Amid s t) (hn : n < 32) (stands : ringStands m n s) : ringStands m n t := by
  refine ringStands_of_regs stands h.regs ?_ ?_ <;>
    simp only [midReg, ringWord, RegDesc.addr, R.CRG_CFG, R.CRG_BASE] <;> omega

/-! ### Rings that no step to Hold moves -/

/-- From `s` to `t` no enabled ring has been disabled, and none based at a multiple of 8 has been moved. -/
def Firm (s t : State) : Prop := ∀ n < 32, ((s.rd R.CRG_BASE n).toNat % 8 = 0 → t.rd R.CRG_BASE n = s.rd R.CRG_BASE n) ∧
  (s.fb F.CRG_CFG_EN n = true → t.fb F.CRG_CFG_EN n = true)

namespace Firm

theorem refl (s : State) : Firm s s := fun _ _ => ⟨fun _ => rfl, id⟩

theorem trans (h : Firm s t) (h' : Firm t u) : Firm s u := fun n hn => by
  obtain ⟨base, on⟩ := h n hn
  obtain ⟨base', on'⟩ := h' n hn
  exact ⟨fun e => (base' ((base e).symm ▸ e)).trans (base e), fun e => on' (on e)⟩

theorem of_regs {p : Nat → Prop} (h : RegsBut p s t) (hp : ∀ a, ringWord a → ¬ p a) : Firm s t := fun n hn => by
  have base : ringWord (R.CRG_BASE.addr n) := by simp only [ringWord, RegDesc.addr, R.CRG_BASE]; omega
  have cfg : ringWord (R.CRG_CFG.addr n) := by simp only [ringWord, RegDesc.addr, R.CRG_CFG]; omega
  exact ⟨fun _ => h.rd (hp _ base), fun e => (h.fb (fl := F.CRG_CFG_EN) (hp _ cfg)).trans e⟩

theorem of_late (h : Late s t) : Firm s t := of_regs h.regs fun a w l => by
  simp only [ringWord] at w
  simp only [lateReg, RegDesc.addr, R.SYS_STAT, R.SYS_HELD, R.SYS_HELDM, R.STO_LOGLOST, R.STO_STAT] at l
  omega

theorem of_amid (h : Amid s t) : Firm s t := of_regs h.regs fun _ w l => l.2.2 w

/-- A register of SYS is written. -/
theorem of_low {p : Nat → Prop} (h : RegsBut p s t) (hp : ∀ a, p a → a < 0x11000000) : Firm s t :=
  of_regs h fun a w l => by have low := hp a l; simp only [ringWord] at w; omega

theorem stands (h : Firm s t) (hn : n < 32) (aligned : (imageRing m n).1 % 256 = 0) (small : (imageRing m n).1 < 2 ^ 32)
    (stands : ringStands m n s) : ringStands m n t := by
  obtain ⟨base, on⟩ := h n hn
  have value : (s.rd R.CRG_BASE n).toNat = (imageRing m n).1 := by
    rw [stands.1, word, BitVec.toNat_ofNat, Nat.mod_eq_of_lt small]
  exact ⟨(base (by omega)).trans stands.1, fun e => on (stands.2 e)⟩

end Firm

/-- The low bits of a word that are clear are cleared. -/
theorem putBits_clear {w : Word} (h : w.toNat % 8 = 0) : putBits w 2 0 0 = w := by
  have value : w.toNat % 2 ^ 0 + 0 % 2 ^ (2 + 1 - 0) * 2 ^ 0 + w.toNat >>> (2 + 1) * 2 ^ (2 + 1) = w.toNat := by
    rw [Nat.shiftRight_eq_div_pow]; omega
  exact (congrArg word value).trans (word_toNat w)

/-- A stop cleared beyond the Rods: at most a bit of CRG_CFG.SIZE. -/
theorem stopFlag_firm (s : State) (r : Nat) : Firm s (s.setF F.FRM_RCTL_STOP 0 r) := fun n _ => by
  have base : (s.setF F.FRM_RCTL_STOP 0 r).rd R.CRG_BASE n = s.rd R.CRG_BASE n := by
    refine State.rd_wr_ne s ?_
    simp only [RegDesc.addr, F.FRM_RCTL_STOP, R.FRM_RCTL, R.CRG_BASE]; omega
  refine ⟨fun _ => base, fun on => ?_⟩
  by_cases e : R.FRM_RCTL.addr r = R.CRG_CFG.addr n
  · have hit : (s.setF F.FRM_RCTL_STOP 0 r).rd R.CRG_CFG n = putBits (s.rd R.CRG_CFG n) 1 1 0 := by
      have old : s.rd R.FRM_RCTL r = s.rd R.CRG_CFG n := by simp only [State.rd, e]; rfl
      rw [← old]
      have same : (s.setF F.FRM_RCTL_STOP 0 r).rd R.CRG_CFG n = (s.setF F.FRM_RCTL_STOP 0 r).rd R.FRM_RCTL r := by
        simp only [State.rd, e]; rfl
      exact same.trans (State.rd_wr_same ..)
    show (bits ((s.setF F.FRM_RCTL_STOP 0 r).rd R.CRG_CFG n) 0 0 != 0) = true
    rw [hit, bits_putBits_ne _ _ (by decide) (by decide) (.inl (by decide))]
    exact on
  · exact (((RegsBut.refl s).setF (p := (· = R.FRM_RCTL.addr r)) rfl).fb (fl := F.CRG_CFG_EN) (Ne.symm e)).trans on

/-- A state shown beyond the Rods: at most the low bits of CRG_BASE, clear already. -/
theorem stateField_firm (s : State) (r : Nat) : Firm s (s.setF F.FRM_RSTAT_STATE 0 r) := fun n _ => by
  have cfg : R.CRG_CFG.addr n ≠ R.FRM_RSTAT.addr r := by
    simp only [RegDesc.addr, R.FRM_RSTAT, R.CRG_CFG]; omega
  refine ⟨fun clear => ?_, fun on => (((RegsBut.refl s).setF (p := (· = R.FRM_RSTAT.addr r)) rfl).fb (fl := F.CRG_CFG_EN) cfg).trans on⟩
  by_cases e : R.FRM_RSTAT.addr r = R.CRG_BASE.addr n
  · have old : s.rd R.FRM_RSTAT r = s.rd R.CRG_BASE n := by simp only [State.rd, e]; rfl
    have same : (s.setF F.FRM_RSTAT_STATE 0 r).rd R.CRG_BASE n = (s.setF F.FRM_RSTAT_STATE 0 r).rd R.FRM_RSTAT r := by
      simp only [State.rd, e]; rfl
    have put : (s.setF F.FRM_RSTAT_STATE 0 r).rd R.FRM_RSTAT r = putBits (s.rd R.FRM_RSTAT r) 2 0 0 := State.rd_wr_same ..
    rw [same, put, old, putBits_clear clear]
  · exact State.rd_wr_ne s e

theorem stopClear_firm (s : State) (r : Nat) : Firm s (stopClear s r) ∧ (stopClear s r).programs = s.programs := by
  have noted (x : RodX) : Firm s (s.setRod r x) := .of_regs (p := fun _ => False) ((RegsBut.refl s).of_regs rfl) fun _ _ => id
  unfold stopClear
  dsimp only
  split
  · exact ⟨noted _, rfl⟩
  · exact ⟨(noted _).trans (stopFlag_firm _ r), rfl⟩

theorem rodHaltNow_firm (s : State) (r : Nat) : Firm s (rodHaltNow s r) ∧ (rodHaltNow s r).programs = s.programs := by
  have voided := voidReservations_late s r
  obtain ⟨clear, programs⟩ := stopClear_firm (voidReservations s r) r
  have shown (u : State) : Firm u (u.setRodSt r rodHalted) ∧ (u.setRodSt r rodHalted).programs = u.programs :=
    ⟨Firm.trans (.of_regs (p := fun _ => False) ((RegsBut.refl u).of_regs rfl) fun _ _ => id) (stateField_firm (u.setRod r _) r), rfl⟩
  exact ⟨((Firm.of_late voided).trans clear).trans (shown _).1, (shown _).2.trans (programs.trans voided.programs)⟩

/-- No program names a Rod beyond the sixteen. -/
def namesRods (s : State) : Prop := ∀ r, 16 ≤ r → tabFind s.programs r = none

theorem startProgram_firm (names : namesRods s) (r : Nat) : Firm s (startProgram s r) ∧ (startProgram s r).programs = s.programs := by
  by_cases hr : r < 16
  · exact ⟨.of_amid (startProgram_amid hr s), (startProgram_amid hr s).programs⟩
  · have same : startProgram s r = s := by
      unfold startProgram
      rw [names r (by omega)]
    rw [same]
    exact ⟨Firm.refl s, rfl⟩

theorem rodsRestart_firm (names : namesRods s) : Firm s (rodsRestart s) := by
  have all (l : List Nat) : ∀ t : State, Firm s t ∧ t.programs = s.programs → Firm s (l.foldl (fun s r =>
      if s.rodSt r = rodShed then s else startProgram (rodHaltNow s r) r) t) := by
    induction l with
    | nil => exact fun _ h => h.1
    | cons r l ih =>
      intro t h
      refine ih _ ?_
      dsimp only
      split
      · exact h
      · obtain ⟨halt, programs⟩ := rodHaltNow_firm t r
        obtain ⟨start, programs'⟩ := startProgram_firm (s := rodHaltNow t r) (fun q hq => by rw [programs, h.2]; exact names q hq) r
        exact ⟨(h.1.trans halt).trans start, programs'.trans (programs.trans h.2)⟩
  exact all s.sys.stopped _ ⟨.of_regs (p := fun _ => False) ((RegsBut.refl s).of_regs rfl) fun _ _ => id, rfl⟩

theorem foldl_ramps (l : List Nat) : ∀ s : State, Firm s (l.foldl pdRamp s) ∧ (l.foldl pdRamp s).programs = s.programs := by
  induction l with
  | nil => exact fun s => ⟨Firm.refl s, rfl⟩
  | cons a l ih =>
    intro s
    obtain ⟨firm, programs⟩ := ih (pdRamp s a)
    have ramp : Firm s (pdRamp s a) := .of_low (pdRamp_regs s a) fun b h => by
      simp only [RegDesc.addr, R.SYS_PDSTAT, R.SYS_PDCTL] at h; omega
    exact ⟨ramp.trans firm, programs.trans (congrArg State.programs (pdRamp_else s a) :)⟩

theorem setMode_firm (s : State) (mode cause : Nat) : Firm s (setMode s mode cause) :=
  .of_low (p := fun a => a = R.SYS_MODE.addr ∨ a = R.SYS_FIRECTL.addr) (((RegsBut.refl s).wr (.inl rfl)).wr (.inr rfl)) fun a h => by
    simp only [RegDesc.addr, R.SYS_MODE, R.SYS_FIRECTL] at h; omega

theorem enterHold_firm (names : namesRods s) (other : s.mode ≠ modeHold) (cause : Nat) : Firm s (enterHold s cause) := by
  have enters : enterHold s cause = modeEvent (rodsRestart ((pdNeeds modeHold).foldl pdRamp (holdOutputs (setMode s modeHold cause)))) s.mode :=
    if_neg other
  have outputs : Late ((setMode s modeHold cause).wr R.SYS_FIRECTL 0) (holdOutputs (setMode s modeHold cause)) := holdOutputs_late _
  have set : Firm s ((setMode s modeHold cause).wr R.SYS_FIRECTL 0) := (setMode_firm s modeHold cause).trans
    (.of_low (p := (· = R.SYS_FIRECTL.addr)) ((RegsBut.refl _).wr rfl) fun a h => by rw [h]; decide)
  have same : (holdOutputs (setMode s modeHold cause)).programs = s.programs := outputs.programs
  rw [enters]
  generalize holdOutputs (setMode s modeHold cause) = h at outputs same ⊢
  obtain ⟨ramps, programs⟩ := foldl_ramps (pdNeeds modeHold) h
  have restarts := rodsRestart_firm (s := (pdNeeds modeHold).foldl pdRamp h) fun r hr => by rw [programs, same]; exact names r hr
  exact (((set.trans (.of_late outputs)).trans ramps).trans restarts).trans (.of_late (modeEvent_late _ _))

end Sys2Proof.Machine

/-! BOOT_COMPLETE in Ready or Hold, and the statement (R535, R536, R545, R554). -/

namespace Sys2Proof.Machine

open Sys2Proof.Claims

set_option Elab.async false

variable {s t u v : State} {m : List Host.Cell} {n k : Nat}

/-! ### Ready -/

/-- What the entry to Ready does before a critical fault leads to Hold. -/
structure Readied (s q : State) : Prop where
  mode : q.mode = 2
  sys : q.sys.boot = s.sys.boot ∧ q.sys.wdtArmed = s.fb F.SYS_SAFECFG_WDT_EN ∧ q.sys.wdtAt = s.elapsed
  programs : q.programs = s.programs
  rings : Firm s q

theorem timersUp_readied (s : State) : Readied s (timersUp (modeTo s modeReady 0)) := by
  obtain ⟨⟨ready, -⟩, -, side, -⟩ := modeTo_enters s (m := modeReady) (by decide)
  obtain ⟨boot, -, -, -, -, -, programs, -, elapsed⟩ := flags_of_side side
  have set : RegsBut (fun a => a = R.SYS_MODE.addr ∨ a = R.SYS_FIRECTL.addr) s (setMode s modeReady 0) :=
    ((RegsBut.refl s).wr (.inl rfl)).wr (.inr rfl)
  have told : Late (setMode s modeReady 0) (modeTo s modeReady 0) := (modeEvent_late _ _).trans (fireUpdate_late _)
  have config : (modeTo s modeReady 0).fb F.SYS_SAFECFG_WDT_EN = s.fb F.SYS_SAFECFG_WDT_EN :=
    (told.regs.fb (fl := F.SYS_SAFECFG_WDT_EN) (not_late_low (by decide))).trans (set.fb (by decide))
  have firm : Firm s (modeTo s modeReady 0) := (setMode_firm s modeReady 0).trans (.of_late told)
  generalize modeTo s modeReady 0 = q at ready boot elapsed programs config firm
  exact ⟨ready, ⟨boot, config, elapsed⟩, programs,
    firm.trans (.of_regs (p := fun _ => False) ((RegsBut.refl q).of_regs rfl) fun _ _ => id)⟩

theorem times_of_side (h : t.sysSide = s.sysSide) :
    t.sys.boot = s.sys.boot ∧ t.sys.wdtArmed = s.sys.wdtArmed ∧ t.sys.wdtAt = s.sys.wdtAt :=
  ⟨congrArg (fun x : SysX × Tab Program × List Host.Cell × Nat => x.1.boot) h,
    congrArg (fun x : SysX × Tab Program × List Host.Cell × Nat => x.1.wdtArmed) h,
    congrArg (fun x : SysX × Tab Program × List Host.Cell × Nat => x.1.wdtAt) h⟩

/-- The watchdog is armed as SYS_SAFECFG has it, boot stays over, and the rings stay. -/
theorem enterReady_arms (names : namesRods s) : (enterReady s).sys.boot = s.sys.boot ∧
    (enterReady s).sys.wdtArmed = s.fb F.SYS_SAFECFG_WDT_EN ∧ (enterReady s).sys.wdtAt = s.elapsed ∧ Firm s (enterReady s) := by
  rw [enterReady_eq]
  have readied := timersUp_readied s
  generalize timersUp (modeTo s modeReady 0) = q at readied ⊢
  obtain ⟨boot, armed, since⟩ := readied.sys
  split
  · have other : q.mode ≠ modeHold := by rw [readied.mode]; decide
    obtain ⟨boot', armed', since'⟩ := times_of_side (enterHold_holds other 2).2
    have firm := enterHold_firm (s := q) (fun r hr => by rw [readied.programs]; exact names r hr) other 2
    exact ⟨boot'.trans boot, armed'.trans armed, since'.trans since, readied.rings.trans firm⟩
  · exact ⟨boot, armed, since, readied.rings⟩

/-! ### The end of boot -/

theorem Amid.elapsed (h : Amid s t) : t.elapsed = s.elapsed := congrArg (·.2.2.2.2) h.side

/-- What holds as boot comes to its end. -/
theorem bootUp_keeps (image : Imaged s (bootImage s).2) : (bootUp s).sys = s.sys ∧ (bootUp s).elapsed = s.elapsed ∧
    (bootUp s).programs = (bootImage s).2.programs ∧ RegsBut (fun a => 0x10010000 ≤ a) s (bootUp s) := by
  have amid := bootUp_amid s
  refine ⟨amid.sys.trans image.sys, amid.elapsed.trans image.elapsed, amid.programs,
    (image.regs.mono fun a h => ?_).trans (amid.regs.mono fun a h => h.1)⟩
  simp only [crowdReg] at h; omega

/-- Ready, or Hold, from what boot has put into force. -/
theorem bootReady_shows (image : Imaged s (bootImage s).2) (names : namesRods (bootImage s).2) (ended : s.sys.boot = false) :
    (enterReady (bootUp s)).mode = (if s.fb F.SYS_STAT_CRIT = true ∨ s.sys.critRec = true then 6 else 2) ∧
      (enterReady (bootUp s)).sys.boot = false ∧ (enterReady (bootUp s)).sys.hostAt = s.elapsed ∧
      (enterReady (bootUp s)).sys.wdtArmed = s.fb F.SYS_SAFECFG_WDT_EN ∧ (enterReady (bootUp s)).sys.wdtAt = s.elapsed ∧
      (enterReady (bootUp s)).programs = (bootImage s).2.programs ∧ Firm (bootUp s) (enterReady (bootUp s)) := by
  obtain ⟨sys, elapsed, programs, regs⟩ := bootUp_keeps image
  have names' : namesRods (bootUp s) := fun r hr => by rw [programs]; exact names r hr
  generalize bootUp s = u at sys elapsed programs regs names' ⊢
  obtain ⟨mode, -, host, programs', -⟩ := enterReady_enters u
  obtain ⟨boot, armed, since, firm⟩ := enterReady_arms names'
  have crit : u.fb F.SYS_STAT_CRIT = s.fb F.SYS_STAT_CRIT := regs.fb (by decide)
  have config : u.fb F.SYS_SAFECFG_WDT_EN = s.fb F.SYS_SAFECFG_WDT_EN := regs.fb (by decide)
  refine ⟨mode.trans (if_congr (by rw [crit, sys]) rfl rfl), boot.trans ((congrArg SysX.boot sys).trans ended), host.trans elapsed,
    armed.trans config, since.trans elapsed, programs'.trans programs, firm⟩

/-- The image of a bank. -/
def bankImage (b : Bank) : List Host.Cell := b.cells.filter fun c => decide (c.1 < 0x400000)

theorem bootComplete_ready (boot : s.sys.boot = true) (on : ∀ n, 1 ≤ n → n < 8 → s.domOn n = true) (stay : s.sys.toCommission = false) :
    runsTo .bootComplete s fun t =>
      t.mode = (if s.fb F.SYS_STAT_CRIT = true ∨ s.sys.critRec = true then 6 else 2) ∧ t.sys.boot = false ∧ t.sys.hostAt = s.elapsed ∧
        t.sys.wdtArmed = s.fb F.SYS_SAFECFG_WDT_EN ∧ t.sys.wdtAt = s.elapsed ∧
        (∀ b, newestBank s.sto = some b → imageOk (bankImage b) none = true →
          t.programs = (imagePrograms (bankImage b)).foldl (fun u p => tabPut u p.1 p.2) [] ∧
            ∀ n, n < 32 → t.nat R.CRG_BASE n = (imageRing (bankImage b) n).1 ∧
              ((imageRing (bankImage b) n).2 % 2 = 1 → t.fb F.CRG_CFG_EN n = true)) ∧
        (∀ b, newestBank s.sto = some b → imageOk (bankImage b) none = false → t.programs = []) := by
  refine ⟨_, bootComplete_eq boot on, ?_⟩
  rw [bootEnds, if_neg (show ¬ (bootOver s).sys.toCommission = true by rw [show (bootOver s).sys.toCommission = false from stay]; decide)]
  by_cases good : ∃ b, newestBank s.sto = some b ∧ imageOk (bankImage b) none = true
  · obtain ⟨b, bank, ok⟩ := good
    obtain ⟨image, programs, stand⟩ := bootImage_takes (s := bootOver s) bank ok
    have names : namesRods (bootImage (bootOver s)).2 := fun r hr => by rw [programs]; exact imagePrograms_low ok hr
    obtain ⟨mode, ended, host, armed, since, kept, firm⟩ := bootReady_shows image names rfl
    refine ⟨mode, ended, host, armed, since, fun b' bank' _ => ?_, fun b' bank' bad => ?_⟩
    · obtain rfl : b = b' := Option.some.inj (bank.symm.trans bank')
      refine ⟨kept.trans programs, fun n hn => ?_⟩
      obtain ⟨aligned, small⟩ := (imageOk_bounds ok).2 n hn
      obtain ⟨base, enabled⟩ := firm.stands hn aligned small ((bootUp_amid _).stands hn (stand n hn))
      refine ⟨?_, enabled⟩
      rw [State.nat, base, word, BitVec.toNat_ofNat]
      exact Nat.mod_eq_of_lt small
    · obtain rfl : b = b' := Option.some.inj (bank.symm.trans bank')
      exact absurd (ok.symm.trans bad) (by decide)
  · have refused : ∀ b, newestBank (bootOver s).sto = some b → imageOk (bankImage b) none = false := fun b bank =>
      Bool.eq_false_iff.mpr fun ok => good ⟨b, bank, ok⟩
    obtain ⟨image, programs⟩ := bootImage_refuses (s := bootOver s) refused
    have names : namesRods (bootImage (bootOver s)).2 := fun r _ => by rw [programs]; rfl
    obtain ⟨mode, ended, host, armed, since, kept, -⟩ := bootReady_shows image names rfl
    exact ⟨mode, ended, host, armed, since, fun b bank ok => absurd ⟨b, bank, ok⟩ good, fun _ _ _ => kept.trans programs⟩

/-- Settles O55, clause by clause: every reset by `sysReset_done`, told of the state as the command found it (`Alike`); SYS_CMD RESET with
nothing ahead of it, as what comes ahead acts at most once (`Orderly`); and VLOG_LOST, POWER_ON and BOOT_COMPLETE from their stages. -/
theorem resetsBootAndPower : Obligations.ResetsBootAndPower := by
  unfold Obligations.ResetsBootAndPower
  refine ⟨fun s on powered => ⟨fun ahead _ => sysCmdReset_resets on powered ahead, fun w ahead other => sysCmdReset_refused on ahead other,
    fun t0 low run => ⟨externalReset_resets powered low run, externalReset_waits low⟩, resetNRelease_boots, resetNRelease_ends, ?_⟩,
    fun r s pr powered listed policy => ⟨fun cls code epc eaddr h => raise_resets r powered listed policy cls code epc eaddr h,
      fun p q on healthy idle mine others free runs => rodFail_resets r powered listed policy p on healthy idle mine others free runs⟩,
    fun mv t0 s powered low long quiet => vlogLost_writes powered low long quiet, fun s off => powerOn_boots off,
    fun s boot on => ⟨bootComplete_commission boot on, bootComplete_ready boot on⟩⟩
  exact ⟨fun armed late _ => watchdogKick_restarts on armed late, fun armed early _ => watchdogKick_resets on powered armed early,
    watchdogKick_ignored on, fun armed due _ => watchdogExpiry_resets powered armed due, watchdogExpiry_waits⟩

end Sys2Proof.Machine
